-- ==== Sys2Proof/Word.lean ====
section
/-! DEFINITION. The word of the register space, and the types the commands' operands have. -/

namespace Sys2Proof

/-- A register: 32 bits (00_scope.md, 'word'; 03_register_pages.md). -/
abbrev Word := BitVec 32

/-- A field terminal FT0-FT31 (R61). -/
abbrev Terminal := Fin 32

/-- A supply group A-D, or a trigger group (R61, R104). -/
abbrev Group := Fin 4

/-- A measurement slice (R101). -/
abbrev Slice := Fin 18

/-- A slice programme (R141). -/
abbrev Prog := Fin 16

/-- A context (R146). -/
abbrev Ctx := Fin 128

/-- A reflex rule (R223). -/
abbrev Rule := Fin 64

/-- What the current limit of a switched output finds (R188): it regulates at ILIM; the current passes 0.55 A; it no longer
regulates; both conditions have ended for 1 ms. -/
inductive LimitEvent where
  | atLimit | over550 | limitEnded | bothEnded
  deriving DecidableEq, Repr

/-- One segment's measurement (R198): its ratio to the factory value (1024 = 1.0), whether it carries less than a quarter of
its expected share, whether its mirror shows current after turn-off. -/
structure SegReading where
  seg : Fin 9
  ratio : Nat
  lowShare : Bool
  leaks : Bool
  deriving DecidableEq, Repr

/-- A report of the off-state terminal voltage (R192): the band, 0 load present, 1 open wire, 2 backfeed; and whether it has held for 20 ms, or for
1 ms only. -/
structure BandReport where
  band : Fin 3
  long : Bool
  deriving DecidableEq, Repr

/-- What the governor measures in 10 ms (R229): by terminal the power in the clamps of switched outputs in µW (R191, R200) and voltages of digital
inputs in mV; the four group currents in mA, averaged over 10 ms, and the highest value of each that stood for 1 ms; the package's. -/
structure Budget where
  heat : List (Terminal × Nat)
  volts : List (Terminal × Nat)
  curr : List Nat
  peak : List Nat
  total : Nat
  totalPeak : Nat
  deriving DecidableEq, Repr

/-- What a self-calibration measured (R237): the failing step of R109 (0: none) and its step-3 deviation; for ranges 0-5 the readings of
the internal short, of the primary reference with + and − polarity, and of the test DAC at its positive and negative codes, in codes;
and the field-die temperature in °C. -/
structure CalResult where
  selfTest : Fin 4
  dev : Fin 65536
  zero : List Int
  plus : List Int
  minus : List Int
  pathPlus : List Int
  pathMinus : List Int
  temp : Int
  deriving DecidableEq, Repr

/-- What a restore test found (R109, R395): the failing step of R109 (0: none; of another resource's test not 0 where it fails) and
its step-3 deviation. -/
structure RestoreResult where
  fail : Fin 4
  dev : Fin 65536
  deriving DecidableEq, Repr

/-- What the board ties at the pins that start-up looks at (R32, R419): CLAIM, and the groups whose inductor it omits. -/
structure Pads where
  claim : Bool
  bare : List (Fin 4)
  deriving DecidableEq, Repr

/-- A failing test of R286: the repetition count, the adaptive proportion, or the pairwise consistency of the ephemeral pair generated
again. -/
inductive EntropyTest where
  | repetition | proportion | pairwise
  deriving DecidableEq, Repr

/-- Who sends a HELLO (R326, R327): its serial, nonce and identity public key, and whether that key passes validation (R286). -/
structure HelloFrom where
  serial : Nat
  nonce : Nat
  point : Nat
  pointOk : Bool := true
  deriving DecidableEq, Repr

/-- What the KEY records for this device show (R308, R286): all unwrap, a public key fails its validation, or a record fails to unwrap. -/
inductive KeyCheck where
  | unwrap
  | badPoint
  | fails
  deriving DecidableEq, Repr

/-- A SESSION frame with DIR = 1 (R249, R251): the words fetched, and whether the first was late. -/
structure ReplyRead where
  words : Nat
  late : Bool
  deriving DecidableEq, Repr

/-- What a receiver finds of a frame (R9, R325): it passes, fails its guard code beyond correction, fails its tag, or arrives
out of sequence. -/
inductive FrameCheck where
  | passes | guard | tag | sequence
  deriving DecidableEq, Repr

/-- An engine role (R15): SYS 0, SEC 1, HOST 2, PAIR 3, LOFT 4, SEQ 5, DIAG 6, SAFE 7. -/
abbrev EngineRole := Fin 8

/-- A page of the register space. -/
abbrev Page := Fin 256

/-- A register address (R48). -/
abbrev Addr := Fin 65536

/-- The guarded memories of R19. -/
inductive Memory where
  | romL | wsram | ckptL | cellar | mram | otp | romF | ckptF | fsram
  deriving DecidableEq, Repr

/-- What a row of a guarded memory holds (R16, R19): an engine's instructions or data, a register, a checkpoint copy of a
role, a crate slot, a Loft record, a context's accumulator, factory calibration values, or something else. -/
inductive RowUse where
  | engine (role : EngineRole) | register (a : Addr) | checkpoint (role : EngineRole) (copy : Fin 2) | slot (p : Fin 4)
  | loftRecord (i : Fin 8192) | accumulator (c : Ctx) | calibration | other
  deriving DecidableEq, Repr

/-- What a STATE frame carries of measured values (R86, R96, R201, R213, R216): of terminals with an output function the current and the
voltage as their MEAS register holds them, the four group supplies in 10 mV, where LOW and HIGH of each group stand in mV, REF.DIFF, and the VBIAS
drives' total current. -/
structure Readings where
  meas : List (Terminal × Fin 65536 × Fin 65536)
  volt : List Nat
  rails : List (Nat × Nat)
  refDiff : Fin 65536
  vbias : Fin 65536
  deriving DecidableEq, Repr

/-- What MEMORY_CHECKS_DONE finds (R36, R286, R287): the ROM passes, the roles whose ROM does not and which no verified patch image
serves, the roles whose patch image fails its signature, rows that failed the march test, and whether the lid or mesh detector fires. -/
structure MemoryFindings where
  romOk : Bool
  badRoles : List EngineRole
  badImages : List EngineRole
  badRows : List (Memory × Nat)
  lid : Bool
  mesh : Bool
  deriving DecidableEq, Repr

/-- What the boot cross-checks find (R37): the slices off the median, whether all agree but not with the test DAC, and the
reference found at fault where they differ by more than 30 ppm. -/
structure CrossChecks where
  off : List Slice
  tdac : Bool
  ref : Option (Fin 2)
  deriving DecidableEq, Repr

/-- What the checks of R325 find of a partner frame, and the FSEQ it carries: its guard code is good or correctable, its tag verifies. -/
structure PairSeen where
  guard : Bool
  tag : Bool
  fseq : Fin 256
  deriving DecidableEq, Repr

/-- What a HEARTBEAT carries (R323, R334, R336): the sender's role and mode, the time of its PLEAD assertion, and whether its READY conditions
hold. -/
structure Heartbeat where
  role : Fin 4
  mode : Fin 8
  pleadTime : Nat
  ready : Bool := false
  deriving DecidableEq, Repr

/-- A NOTICE frame (R323, R332): the terminal, its expected level (none: off), whether the lead reports COMPLIANCE, OPEN_LOOP or SHUNT_OPEN,
an off-pulse that is announced (some true) or has ended (some false, R197), and the cause. -/
structure Notice where
  n : Terminal
  level : Option Nat
  blocked : Bool
  pulse : Option Bool
  cause : Nat := 0
  deriving DecidableEq, Repr

namespace Machine

/-- A session (R296-R304). `id`: its keys' number; `holder`: the point whose key opened it; `top`: the highest CTR accepted;
`count`: frames accepted; K_W and K_R. -/
structure Session where
  id : Nat
  role : Nat
  scope : Nat := 0
  sid : Nat := 0
  holder : Nat := 0
  top : Nat := 0
  count : Nat := 0
  bound : Nat := 0
  kw : Nat := 0
  kr : Nat := 0
  deriving DecidableEq, Repr

end Machine

/-- A STATE transfer (R327, R330): expected levels, SEQ by context, watchdog registrations, OUTHOLD, RESTORE, the sender's
F_SHUNT by terminal, the session (none: no session) and BOUND; `closes`: contexts the lead has just closed, with their SEQ (R329). -/
structure Transfer where
  levels : List (Terminal × Option Nat)
  seqs : List (Ctx × Nat)
  tasks : Nat
  outhold : Nat
  restore : Nat
  shunts : List (Terminal × Int)
  session : Option Machine.Session
  bound : Nat
  closes : List (Ctx × Nat) := []
  deriving DecidableEq, Repr

/-- What a MIRROR frame carries (R330): the words of a WRITE_AUTH with its CTR, a CTR the follower accepted, or a check-in. -/
inductive Mirror where
  | words (a : Addr) (ws : List Word) (ctr : Word)
  | ctr (ctr : Word)
  | checkIn (task : Fin 8)
  deriving DecidableEq, Repr

/-- What CRATE frames carry (R333): bytes of the staged crate from an offset; its end, with whether it is to be applied; and
whether the sender's checks have passed. -/
inductive CrateMsg where
  | bytes (start : Nat) (bs : List (Fin 256))
  | close (apply : Bool)
  | answer (ok : Bool)
  deriving DecidableEq, Repr

/-- What HANDOVER frames carry (R323, R340-R342): the announcement with T_S and its cause, a request that names the caught terminals, a step
confirmation with the sender's cause of abort (0: none). -/
inductive HandMsg where
  | announce (ts cause : Nat)
  | request (caught : Nat)
  | confirm (abort : Nat)
  deriving DecidableEq, Repr

namespace Machine

/-- A partner frame by its kind, with what it carries (R323). HELLO: serial, nonce and hash of ACTIVE; ACK: the terminal whose announced
off-pulse it acknowledges; TIME: the sender's stamp; COMPARE: contexts with SEQ[7:0] and MEAN, and the verdict of the sender's dwell; STATE
in the queue (none) takes its content when it goes out; SUMMARY: sources graded SEVERE, APPROVED and the Loft's next RECSEQ. -/
inductive PFrame where
  | idle
  | hello (serial nonce hash : Nat)
  | heartbeat (h : Heartbeat)
  | mirror (m : Mirror)
  | ack (pulse : Option Terminal)
  | notice (x : Notice)
  | time (stamp : Nat)
  | trigger (groups stamp : Nat)
  | compare (xs : List (Nat × Nat × Int)) (dwell : Option Bool)
  | state (t : Option Transfer)
  | crate (m : CrateMsg)
  | handover (h : HandMsg)
  | summary (severe : Nat) (approved : Bool) (head : Nat)
  | resetReq
  deriving DecidableEq, Repr

end Machine

end Sys2Proof
end

