-- ==== Sys2Proof/Syntax.lean ====
section
/-! DEFINITION. The commands of the block: one constructor per row of opcode_table.json, with the operands the rule of its
row gives it. An operand that reports what hardware found (a measured value, the outcome of a check) is what the sender
of the command says. -/

namespace Sys2Proof

/-- The commands (opcode_table.json). -/
inductive Instr where
  /-- In each barrier frame slot an end sends its highest-priority ready frame, or IDLE when it has no traffic (R13).
  The end whose frame slot comes. -/
  | barrierFrameSlot (fromLogic : Bool)
  /-- An IDLE barrier frame that passes the checks of R9 is received and restarts the barrier watchdog (R11). The
  receiving end; what its checks find; RESEND in the header. -/
  | barrierIdle (toField : Bool) (c : FrameCheck) (resend : Bool)
  /-- A CMD frame from the logic die is received and its output commands, urgent requests or host actions are acted on
  in FSEQ order (R9). As for BARRIER_IDLE. -/
  | barrierCmd (c : FrameCheck) (resend : Bool)
  /-- A CFG frame carrying configuration records from an applied crate is received by the field die and applied (R8).
  As for BARRIER_IDLE. -/
  | barrierCfg (c : FrameCheck) (resend : Bool)
  /-- A TIME frame realigns the field die's copy of DEVICE.TIME (R21). As for BARRIER_IDLE. -/
  | barrierTime (c : FrameCheck) (resend : Bool)
  /-- The SNAP frame that completes a snapshot makes it readable on the logic die, with MEAN and SEAL added, GEN
  incremented and CTX EVT_RAW.SNAP set (R163). As for BARRIER_IDLE. -/
  | barrierSnap (c : FrameCheck) (resend : Bool)
  /-- A STATE frame updates the logic-die copies of threshold, digital-input, output and supply state (R168). `m`:
  what the field die has measured. -/
  | barrierState (c : FrameCheck) (resend : Bool) (m : Readings)
  /-- An EVENT frame delivers field-die fault and recorder events to the logic die (R373). As for BARRIER_IDLE. -/
  | barrierEvent (c : FrameCheck) (resend : Bool)
  /-- An acknowledgement frame is received and updates the sender's retained frames (R9). As for BARRIER_IDLE. -/
  | barrierAckonly (toField : Bool) (c : FrameCheck) (resend : Bool)
  /-- The field die's barrier watchdog expires and applies safe states, or RELEASE on a lead of a pair (R220). -/
  | barrierWatchdogExpiry
  /-- The logic end's test of field-to-logic frames expires and BARRIER.STATUS.LINK_UP goes to 0 (R11). -/
  | linkDown
  /-- A lane exceeds 8 code or disparity errors in 1 ms and is retired (R12). `errors`: counted within 1 ms. -/
  | laneErrorLimit (lane : Fin 3) (errors : Nat)
  /-- At the next frame boundary the link switches to the spare lane, or continues on one lane at half throughput
  (R12). -/
  | laneSwitch
  /-- The periodic self-test of an engine core runs in idle time at least once every 100 ms (R16). -/
  | coreSelftest (role : EngineRole) (pass : Bool)
  /-- A core's heartbeat to the fault collector has been absent for 1 ms (R16). -/
  | coreHeartbeatMissing (role : EngineRole)
  /-- A restarted role resumes on the spare core from its newer checkpoint (R16). -/
  | roleResume (role : EngineRole)
  /-- Every 1 ms a role writes an alternating checkpoint into guarded SRAM (R15). -/
  | checkpoint (role : EngineRole)
  /-- The two SEC cores mismatch, so the Cellar halts them, reruns the known-answer tests and restarts them (R291). -/
  | secMismatch
  /-- The restarted SEC cores pass their tests, HALTED clears and services resume after the hold-off (R291). -/
  | secRestartDone (pass : Bool)
  /-- The scrubber reads and checks the next row of a guarded memory (R19). `errors`: the wrong bits of the row;
  `use`: what the row holds. -/
  | scrubRead (mem : Memory) (row : Nat) (errors : Fin 4) (use : RowUse)
  /-- The move of a retired row's content into its spare completes and stalled accesses proceed (R391). -/
  | rowMoveDone (mem : Memory) (row : Nat)
  /-- A row with no corrected error for ROW_T hours has its count cleared (R391). -/
  | rowCountExpiry (mem : Memory) (row : Nat)
  /-- A DEVICE.MODE_REQ request for COMMISSION is judged and carried out or refused (R28). -/
  | modeReqCommission (ctr : Option Word)
  /-- A DEVICE.MODE_REQ request for RUN is judged and carried out or refused (R28). -/
  | modeReqRun (ctr : Option Word)
  /-- A DEVICE.MODE_REQ request for SAFE is judged and carried out (R28). -/
  | modeReqSafe (ctr : Option Word)
  /-- A power-on reset resets both dies and clears RSTCAUSE (R40). -/
  | powerOnReset
  /-- VDD33 falls below the brown-out threshold and both dies reset (R40). -/
  | brownOutReset
  /-- nRESET held low for at least 1 µs resets the logic die alone (R40). -/
  | nresetAssert
  /-- A keyed DEVICE.RESET with SCOPE LOGIC resets the logic die (R40). `key`: the KEY field of the word. -/
  | deviceResetLogic (ctr : Option Word) (key : Fin 65536)
  /-- A keyed DEVICE.RESET with SCOPE FIELD resets the field die alone (R40). `key`: the KEY field of the word. -/
  | deviceResetField (ctr : Option Word) (key : Fin 65536)
  /-- A keyed DEVICE.RESET with SCOPE BOTH resets both dies (R40). `key`: the KEY field of the word. -/
  | deviceResetBoth (ctr : Option Word) (key : Fin 65536)
  /-- A brown-out of the field rail resets the field die alone (R40). -/
  | fieldRailBrownOut
  /-- Internal reset release starts the start-up sequence of the logic die (R34). -/
  | internalResetRelease
  /-- 10 µs after internal reset release the device latches BOOT0–BOOT3 and CLAIM (R32). BOOT3-BOOT0; CLAIM and the groups without
  an inductor. -/
  | strapsLatched (boot : Fin 16) (pads : Pads)
  /-- The oscillator start wait counted on the LPO ends (R34). -/
  | oscWaitEnd
  /-- The root PLL locks and the logic and field start-up branches begin (R34). -/
  | pllLocked
  /-- The isolated rail comes into regulation and barrier training begins (R34). -/
  | visoInRegulation
  /-- Link training completes, the link key is derived and LINK_UP reads 1, or the training attempt fails (R36).
  Training completes, or the attempt fails. -/
  | barrierTrained (ok : Bool)
  /-- After failed boot training, the logic die retries training every 100 ms (R36). -/
  | barrierRetrain
  /-- The field die is released with SEQ, DIAG and SAFE running, and the groups are aligned by an internal trigger
  (R34). -/
  | fieldDieReleased
  /-- ROM and SRAM checks complete, SYS and HOST start, and the host port begins to answer (R36). -/
  | memoryChecksDone (m : MemoryFindings)
  /-- The boot known-answer and entropy start-up tests complete with their outcome recorded (R285). The algorithms,
  the entropy source's start-up test, and the rebuilding of the PUF secret, after the repetition. -/
  | knownAnswerTestsDone (tests entropy id : Bool)
  /-- The boot crate is selected and verified from PENDING, ACTIVE or FALLBACK (R38). BOOT_EPOCH could be written. -/
  | crateVerified (epoch : Bool)
  /-- The OTP calibration region is verified and loaded and the crate is applied (R235). The signature; the values in
  each row that does not read; a valid copy of the Larder record. -/
  | calibrationLoaded (sig : Bool) (rows : List (List Nat)) (record : Bool)
  /-- The test-DAC and reference cross-checks of all slices complete and their findings are handled (R37). -/
  | sliceCrossChecksDone (x : CrossChecks)
  /-- Start-up ends and the device enters the first mode whose condition holds (R39). CLAIM still reads 1; BOOTTIME;
  the Loft record in flight is intact; PLEAD is held. -/
  | modeEntry (claim : Bool) (us : Nat) (intact plead : Bool)
  /-- After a logic-die reset the field die reports its configuration hash, and the logic die keeps it or applies the
  new configuration (R42). -/
  | fieldConfigHashReport
  /-- After a field-die reset the field configuration is re-applied and outputs restore per RESTORE.FIELD (R43). -/
  | fieldConfigReapplied
  /-- Writing CTRL.BRESET returns the block's run state to reset, closing windows in progress with GAP (R44). `en`:
  CTRL.EN of the same word. -/
  | breset (ctr : Option Word) (page : Page) (en : Bool)
  /-- A block reset completes and STATUS.BUSY clears (R44). -/
  | blockResetComplete (page : Page)
  /-- Writing CTRL.EN = 1 enables the block, or sets PENDING while shutdown runs (R45). -/
  | blockEnable (ctr : Option Word) (page : Page)
  /-- Writing CTRL.EN = 0 starts the block's shutdown, or cancels a pending enable (R45). -/
  | blockDisable (ctr : Option Word) (page : Page)
  /-- A block's shutdown completes and BUSY clears (R46). -/
  | shutdownComplete (page : Page)
  /-- A write to a register with no behaviour of its own is judged by access code and class and committed or refused
  (R4). `hit`: an internal update of a field hardware owns falls on the same tick. -/
  | registerWrite (ctr : Option Word) (a : Addr) (w : Word) (hit : Bool)
  /-- A W1C write clears EVT_RAW cause bits unless the cause recurs at the same tick (R52). `again`: causes that occur
  at the same tick. -/
  | evtRawClear (ctr : Option Word) (page : Page) (w again : Word)
  /-- A write of 1 to an INJECT bit provokes the block's detector as a real occurrence (R53). -/
  | injectFinding (ctr : Option Word) (page : Page) (w : Word)
  /-- Writing CLASS.CLR clears the page's refusal count, offset and reason (R51). -/
  | classClr (ctr : Option Word) (page : Page)
  /-- After at least 1 ms in OFF the cell's new function takes effect and FUNC_CHANGE sets (R63). -/
  | funcChangeSettle (n : Terminal)
  /-- The terminal voltage passes ±14 V and the cell gate opens, breaking every sense and drive connection (R75). -/
  | terminalOvervoltage (n : Terminal)
  /-- After 10 ms within ±13 V the gate recloses and dependent contexts resettle (R75). -/
  | gateReclose (n : Terminal)
  /-- Shunt current above 32 mA for 1 ms opens the AI_I shunt (R65). -/
  | shuntOvercurrent (n : Terminal)
  /-- The shunt recloses after 1 s (R65). -/
  | shuntReclose (n : Terminal)
  /-- A FREQ or AMPL write to a sine generator is stored, or refused for a Lean demodulating source (R80). `ampl`:
  AMPL, or FREQ. -/
  | sineParamWrite (ctr : Option Word) (k : Fin 4) (ampl : Bool) (w : Word)
  /-- At the next positive zero crossing the new FREQ or AMPL takes effect with continuous phase (R80). -/
  | sineZeroCrossing (k : Fin 4)
  /-- SINE[k].CTL.EN = 1 starts the generator with a four-period ramp, or sets PENDING (R80). -/
  | sineEnable (ctr : Option Word) (k : Fin 4)
  /-- SINE[k].CTL.EN = 0 ramps the generator down over four periods (R80). -/
  | sineDisable (ctr : Option Word) (k : Fin 4)
  /-- A generator's start or shutdown ramp ends (R46). -/
  | sineRampDone (k : Fin 4)
  /-- Once per period the measured amplitude is reported and AMPL_ERR is judged (R82). The amplitude measured, in AMPL
  units. -/
  | sinePeriodMonitor (k : Fin 4) (mon : Fin 65536)
  /-- A current source has been out of compliance for 10 µs, so COMPL sets and dependent windows carry OPEN (R82). The
  source: EXC0-EXC3 as 0-3, IDC0-IDC3 as 4-7. -/
  | sourceComplianceEnter (src : Fin 8)
  /-- A current source has been back in regulation for 100 µs and COMPL clears (R82). -/
  | sourceComplianceClear (src : Fin 8)
  /-- A write of IDC LEVEL or EN is committed (R85). -/
  | idcWrite (ctr : Option Word) (k : Fin 4) (w : Word)
  /-- The new DC-source level or enable takes effect within 20 µs (R85). -/
  | idcChangeEffect (k : Fin 4)
  /-- Total VBIAS drive current exceeds ±25 mA and VBIAS limits with OVL set (R86). The total VBIAS current, signed,
  10 µA units. -/
  | vbiasOverload (cur : Fin 65536)
  /-- A host write of EXC.TDAC is applied when the host owns the test DAC, else refused with BLOCK (R93). -/
  | tdacWrite (ctr : Option Word) (w : Word)
  /-- The external reference leaves its window for more than 10 µs, so EXT_OK clears and REF_SETTLED clears (R95). -/
  | extrefBad
  /-- The external reference returns within its window and EXT_OK sets (R95). -/
  | extrefOk
  /-- After its settling time REF_SETTLED sets and settling suppression starts counting (R95). -/
  | refSettled (sl : Slice)
  /-- REF_B and REF_A differ by more than 30 ppm for 1 s and DIAG finds the faulty reference (R96). The reference at
  fault (0 REF_A, 1 REF_B) and REF.DIFF. -/
  | refMismatch (bad : Fin 2) (diff : Fin 65536)
  /-- The blank line asserts from the BLANK pin or a designated DI terminal and blanking takes effect at stage-1
  boundaries (R97). By the BLANK pin (none), or by a designated terminal. -/
  | blankLineAssert (src : Option Terminal)
  /-- The blank line releases and the post-blank guard starts (R99): from the BLANK pin while that asserts
  it, else from its designated terminals. -/
  | blankLineRelease
  /-- The guard time ends and blanking ends for the participating contexts (R99). -/
  | blankGuardExpiry
  /-- Blanking has lasted MAXLEN ms, so it ends for every context with STUCK set (R99). -/
  | blankMaxlenExpiry
  /-- A qualifying SYNCIN edge is stamped as a trigger for groups sourced from it (R104). -/
  | syncinEdge (rise : Bool)
  /-- 20 µs after its stamp a trigger acts on each armed group (R105). The groups on whose stage-1 phase it falls, as
  bits. -/
  | triggerTakesEffect (phase : Fin 16)
  /-- A check-slice dwell ends, by disagreement or after DWELL, and the check slice moves on (R108). -/
  | dwellEnd
  /-- A slice self-test completes and the next step of disagreement handling or spare bring-up follows (R109). The
  first failing step of R109 (0: pass) and GAIN_DEV. -/
  | sliceSelftestDone (sl : Slice) (fail : Fin 4) (dev : Fin 65536)
  /-- A programme moves to another slice at a stage-1 boundary and its windows in progress carry SPARED (R113). -/
  | migration (p : Prog)
  /-- A slice strike expires 24 h after it was recorded (R111). -/
  | strikeExpiry (sl : Slice)
  /-- INSTABLE or STUCK fires on a slice and its role moves to another slice (R112). STUCK, or INSTABLE. -/
  | sliceDetectorFires (sl : Slice) (stuck : Bool)
  /-- A powered-up cold spare connects and begins to settle on the programme (R115). -/
  | coldSpareConnected (sl : Slice)
  /-- A SLICE.URGREQ write requests an urgent context, or is refused with BLOCK (R116). `w`: PROG, CTX and COUNT. -/
  | urgentRequest (ctr : Option Word) (w : Word)
  /-- The urgent request reaches the programme's slice and is judged once for insertion (R116). At least 2 µs of pre-
  delay remain. -/
  | urgentRequestArrival (early : Bool)
  /-- The urgent entry delivers its count and the interrupted entry restarts with full pre-delay (R116). -/
  | urgentEntryEnd (p : Prog)
  /-- Stage 1 delivers a sample at a stage-1 boundary, feeding the chain, blank and unsettled counts and over-range
  checks (R123). The outputs of the I and Q copies and whether stage 1 clamped one. -/
  | stage1Output (sl : Slice) (vi vq : Int) (sat : Bool)
  /-- A settled sample leaves the chain, is calibrated and reaches the accumulator and threshold switches (R139). -/
  | settledSample (sl : Slice)
  /-- Writing FILT COMMIT.GO starts the check and commit of a user FIR set (R129). -/
  | firCommit (ctr : Option Word) (u : Fin 8)
  /-- SPAN, DCGAIN and GAINOK are computed and READY sets, or COMMIT_FAIL sets (R129). -/
  | firCommitDone (u : Fin 8)
  /-- A programme's entry ends and the next starts, with its pre-delay and settling (R142). -/
  | entryBoundary (p : Prog)
  /-- An entry's pre-delay ends (R142). -/
  | predelayEnd (p : Prog)
  /-- An entry runs TMO ms without completing and ends at the next stage-1 boundary (R143). -/
  | entryTimeout (p : Prog)
  /-- Every counted programme of a group waits at SYNC_WAIT, so the group boundary starts their entries (R145). -/
  | groupBoundary (g : Group)
  /-- An autoranging decision reaches the front end and the range changes at its restart instant (R149). -/
  | rangeSwitch (sl : Slice)
  /-- The field copy of DEVICE.TIME reaches a multiple of WIN_T and the window closes (R156). -/
  | windowCloseByTime (c : Ctx)
  /-- A window held open by a full snapshot queue closes when an entry frees, with GAP set (R14). -/
  | windowCloseDeferred (c : Ctx)
  /-- Writing LIFE_CLR.GO empties the context's lifetime group (R166). -/
  | lifeClr (ctr : Option Word) (c : Ctx)
  /-- A digital-input sample is taken, pulsed or continuous (R173). `mv`: the terminal's voltage in mV at the sample. -/
  | diSample (n : Terminal) (mv : Int)
  /-- N consecutive opposite samples change the debounced state and set DI_ON or DI_OFF (R175). -/
  | diStateChange (n : Terminal)
  /-- A 100 ms chatter interval ends and CHATTER is judged against CHAT_LIM (R176). -/
  | chatterIntervalEnd (n : Terminal)
  /-- A watched debounced state lasts STUCK_T and STUCK sets (R177). -/
  | diStuckExpiry (n : Terminal)
  /-- Writing DI_CLR.CNT clears DI_CNT, its wraps and its time stamp (R179). -/
  | diClrCnt (ctr : Option Word) (n : Terminal)
  /-- Writing DI_CLR.CHAT clears DI_CHAT.COUNT (R179). -/
  | diClrChat (ctr : Option Word) (n : Terminal)
  /-- A DO_CMD write stores the commanded value, and the switch follows the highest-priority action in force (R186).
  -/
  | doCommand (ctr : Option Word) (n : Terminal) (on : Bool)
  /-- The terminal exceeds FSUPx by 0.2 V for 10 µs and the switch turns off with REVERSE set (R185). -/
  | reverseDetected (n : Terminal)
  /-- After 100 µs no more than 0.1 V above FSUPx the switch turns on again and REVERSE clears (R185). -/
  | reverseCleared (n : Terminal)
  /-- The fold-back timer reaches FOLD_T, the switch turns off and OVERLOAD sets (R188). -/
  | foldbackExpiry (n : Terminal)
  /-- RETRY_T after an overload switch-off the switch is tried again (R189). -/
  | overloadRetry (n : Terminal)
  /-- The channel reaches its shutdown temperature and the switch turns off with THERMAL set (R190). -/
  | thermalTrip (n : Terminal)
  /-- After cooling by the hysteresis and 10 ms off the switch is tried again (R190). -/
  | thermalRetry (n : Terminal)
  /-- An off-state terminal voltage band has held for its time and OPEN_WIRE or BACKFEED sets or clears (R192). -/
  | offStateBandHeld (n : Terminal) (band : BandReport)
  /-- On-state load current stays below IMIN for 100 ms and OPEN_WIRE sets, or clears after 100 ms above (R193). -/
  | iminLow (n : Terminal) (low : Bool)
  /-- An off-pulse test falls due and runs, or is deferred (R194). -/
  | offPulseDue (n : Terminal)
  /-- An off-pulse ends, passes or fails, and the switch turns back on (R194). `fell`: the terminal fell below 4.0 V
  in time. -/
  | offPulseEnd (n : Terminal) (fell : Bool)
  /-- Each in-service segment's resistance is measured and compared with its factory value (R198). `ron`: the on-
  resistance in 0.1 mΩ. -/
  | segmentMeasurement (n : Terminal) (rs : List SegReading) (ron : Fin 65536)
  /-- Writing DO_CLR.UNLATCH clears LATCHED and starts a fresh count of attempts (R189). -/
  | doUnlatch (ctr : Option Word) (n : Terminal)
  /-- Writing DO_CLR.COUNTS clears DO_COUNT and DO_TPCOUNT (R201). -/
  | doClearCounts (ctr : Option Word) (n : Terminal)
  /-- An AO_CMD write stores the commanded level, which the output follows under the action in force (R202). -/
  | aoCommand (ctr : Option Word) (n : Terminal) (w : Word)
  /-- Every 10 ms the SAFE engine recomputes needs and retunes the LOW and HIGH rails (R207). -/
  | railRetune (g : Group)
  /-- Headroom below 1.1 V for 2 µs moves the output make-before-break to the next higher source (R209). -/
  | headroomMove (n : Terminal)
  /-- The delivered level stays below target for 200 µs and COMPLIANCE sets, or clears after 1 ms within (R210). -/
  | aoCompliance (n : Terminal) (set : Bool)
  /-- Loop current stays below 50 % of target for 10 ms on FSUP and OPEN_LOOP sets or clears (R210). -/
  | aoOpenLoop (n : Terminal) (set : Bool)
  /-- An AO_V output at its current limit for 1 ms sets OVERLOAD (R210). -/
  | aoVOverload (n : Terminal) (set : Bool)
  /-- An output exceeds PMAX or 150 °C for 1 ms and moves to its lowest source (R211). -/
  | aoThermalLimit (n : Terminal)
  /-- Each 1 ms the thermal cap is lowered or raised by 1 % of span (R211). `excess`: still over the limit; `below`:
  below 90 % of it for 10 ms. -/
  | aoCapStep (n : Terminal) (excess below : Bool)
  /-- The output reaches its thermal trip and ramps to zero with THERMAL set (R211). -/
  | aoThermalTrip (n : Terminal)
  /-- After cooling by 15 K and 10 ms the output resumes (R211). -/
  | aoThermalResume (n : Terminal)
  /-- A rail off setpoint or inductor overcurrent stops the converter and moves outputs to FSUP (R212). -/
  | stepSupplyFault (g : Group)
  /-- Every 1 s the stopped converter is restarted, up to three failures (R212). -/
  | stepSupplyRestart (g : Group) (ok : Bool)
  /-- Readback differs from the level in force for 10 ms and READBACK sets, or clears (R213). -/
  | readbackMismatch (n : Terminal) (set : Bool)
  /-- Writing AO_CLR.COUNTS clears AO_COUNT (R215). -/
  | aoClearCounts (ctr : Option Word) (n : Terminal)
  /-- A group supply stays below WARN, LOW or UV for the filter time and the flag sets (R216). The flag: 0 WARN, 1
  LOW, 2 UV. -/
  | supplyFlagSet (g : Group) (flag : Fin 3)
  /-- A supply stays above threshold plus hysteresis for 1 ms and the flag clears (R216). -/
  | supplyFlagClear (g : Group) (flag : Fin 3)
  /-- While LOW holds, each SHED_STEP ms the next lower shed priority switches off (R217). -/
  | shedStep (g : Group)
  /-- One held output of the group is released per STAGGER step after LOW or UV clears (R219). -/
  | releaseStep (g : Group)
  /-- A session write of SS_FORCE applies or ends the host-forced safe state (R222). -/
  | ssForceWrite (ctr : Option Word) (n : Terminal) (on : Bool)
  /-- Every 2 µs the matrix evaluates all 64 rules (R226). -/
  | reflexEvaluation
  /-- A rule's condition holds for DELAY µs and the rule becomes active and acts (R224). -/
  | reflexRuleActive (r : Rule)
  /-- A session write to CLR_LO or CLR_HI clears a latched rule and rejudges it (R224). -/
  | reflexLatchClear (ctr : Option Word) (hi : Bool) (w : Word)
  /-- Every 10 ms the governor sums package dissipation and currents and judges the limits (R229). -/
  | budgetSum (b : Budget)
  /-- Each 1 ms while a limit is exceeded one output is shed or capped (R230). -/
  | governorShedStep
  /-- After 1 s below 95 % of the limit governor holds are released in reverse order, one per STAGGER (R230). -/
  | governorRelease
  /-- A slice becomes due for self-calibration by age or temperature (R239). The field-die temperature, 0.1 °C. -/
  | calDue (sl : Slice) (temp : Int)
  /-- Writing CAL.RUN requests a self-calibration of one slice, judged once (R240). -/
  | calRun (ctr : Option Word) (sl : Fin 32) (pause : Bool)
  /-- A self-calibration procedure completes and its values are accepted, rejected or discarded (R238). -/
  | selfCalDone (r : CalResult)
  /-- A WRITE frame writes data words to consecutive addresses (R246). The words complete when HSEL rises. -/
  | write (a : Addr) (ws : List Word)
  /-- A WRITE_AUTH frame is received and its tag verification begins (R247). The words are ciphertext, with their tag
  (R302). -/
  | writeAuth (ctr : Word) (a : Addr) (ws : List Word) (tag : Nat) (extra : Bool)
  /-- WRITE_AUTH verification ends and all words commit, or none with reason AUTH (R247). -/
  | authVerifyDone
  /-- A READ frame returns words from consecutive addresses (R251). `n`: the words fetched; `late`: the first was not
  ready in time. -/
  | read (a : Addr) (n : Nat) (late : Bool)
  /-- A READ_AUTH frame returns encrypted words and a tag, or all ones for an unacceptable CTR (R252). -/
  | readAuth (ctr : Word) (a : Addr) (n : Nat) (late extra : Bool)
  /-- A STATUS frame returns HOST.SUMMARY (R254). `extra`: HCLK edges beyond the frame's length. -/
  | statusFrame (extra : Bool)
  /-- A SNAP_READ frame latches and returns GEN and the snapshot group of one context (R253). -/
  | snapRead (a : Addr) (late extra : Bool)
  /-- A CHECK_IN frame registers a service of a watchdog task at its tick (R250). -/
  | checkIn (a : Addr) (extra : Bool)
  /-- A CRATE_PUSH frame writes words into the crate staging buffer (R248). -/
  | cratePush (a : Addr) (ws : List Word)
  /-- A SESSION frame with DIR = 1 reads the pending reply of its kind (R249, R251). The KIND asked for, and what was
  read. -/
  | sessionRead (kind : Fin 128) (n : ReplyRead)
  /-- A SYNC frame presents a host trigger to the masked groups sourced from HOST (R250). -/
  | syncFrame (a : Addr) (extra : Bool)
  /-- A NOP frame returns only the status byte (R245). -/
  | nopFrame (extra : Bool)
  /-- A command byte not listed is refused with RESERVED_OP (R260). -/
  | reservedOp (code : Fin 256)
  /-- HSEL rises before a frame is complete, and the uncommitted parts are discarded (R257). The command byte if
  complete, the address, the words complete by then. -/
  | frameShort (code : Option (Fin 256)) (a : Addr) (ws : List Word)
  /-- Writing HOST.CLR.COUNTS clears ANOMALY, FERRCOUNT and ERR (R265). -/
  | hostClr (ctr : Option Word)
  /-- A forerunner frame of 4–7 bits is a poll whose reply is LSTATUS (R269). A frame of 4 + `more` bits. -/
  | legacyPoll (more : Fin 4)
  /-- A forerunner read command fetches a legacy register at HSEL rising (R269). A frame of 8 + `more` bits, as in
  every command that follows. -/
  | legacyRead (more : Nat) (a : Fin 64)
  /-- A forerunner write command commits to a legacy register at HSEL rising (R269). -/
  | legacyWrite (more : Nat) (a : Fin 64) (data : Fin 65536)
  /-- A forerunner frame of 0–3 bits is discarded as FRAME_SHORT (R269). -/
  | legacyShortFrame (w : Fin 4)
  /-- A read of CH[n]_DATA latches the latest snapshot of channel n and clears its DRDY bit (R273). -/
  | legacyChDataRead (more : Nat) (n : Fin 16)
  /-- A CH[n]_CFG write is compared with the value in force and accepted, or refused and counted as a mismatch (R274).
  -/
  | legacyChCfgWrite (more : Nat) (n : Fin 16) (data : Fin 65536)
  /-- A read of TIME0 latches all four legacy time words (R272). -/
  | legacyTimeRead (more : Nat)
  /-- A forerunner SYNC write acts as the native SYNC (R272). -/
  | legacySync (more : Nat) (data : Fin 65536)
  /-- A KICK write of 0x5A5A acts as CHECK_IN of task 0 (R272). -/
  | legacyKick (more : Nat)
  /-- A MODESEL write of 0xA5C3 returns the port to the native protocol (R266). -/
  | legacyModesel (more : Nat) (data : Fin 65536)
  /-- A Cellar tamper detector fires and raises an alarm at its grade (R287). The detector as R287 numbers it;
  `holds`: its condition holds on. -/
  | tamperDetectorFires (d : Fin 11) (holds : Bool)
  /-- The session hold-off after a GUARD ends (R290). -/
  | holdoffExpiry
  /-- Writing CELLAR.SELFTEST.GO repeats the known-answer tests (R285). -/
  | cellarSelftest (ctr : Option Word)
  /-- The on-demand known-answer tests complete, and on failure sessions end and sealing stops (R285). -/
  | cellarSelftestDone (pass : Bool)
  /-- A continuous entropy test fails, so the DRBG reseeds, and a second failure within 1 h sets RNG_OK = 0 (R286).
  The test that failed: repetition count or adaptive proportion. -/
  | entropyHealthTest (test : EntropyTest)
  /-- With no owner enrolled, ENROL_OPEN clears 60 minutes after mode entry (R281). -/
  | enrolWindowExpiry
  /-- A keyed ZEROISE write with SCOPE 1 under an Owner session starts a PURGE alarm (R294). `key`: the KEY field of
  the word. -/
  | zeroisePurge (ctr : Option Word) (key : Fin 65536)
  /-- A keyed ZEROISE write with SCOPE 2 under an Owner session starts a GRAVE alarm (R294). `key`: the KEY field of
  the word. -/
  | zeroiseGrave (ctr : Option Word) (key : Fin 65536)
  /-- An OPEN handshake message starts a session handshake, or a rekey (R296). The message's words; whether its point
  passes the checks of a public key. -/
  | openSession (ws : List Word) (pointOk : Bool)
  /-- The device's signed CHALLENGE reply becomes ready (R297). -/
  | challenge
  /-- A PROVE message carries the credential and the signature over the transcript (R297). The message's words;
  whether the credential's and the transcript's signatures verify. -/
  | prove (ws : List Word) (credOk sigOk : Bool)
  /-- The ACCEPT reply becomes ready and, with RESULT 0, the session becomes active (R300). -/
  | accept
  /-- A CLOSE message asks to end the active session (R300). -/
  | closeSession
  /-- The CLOSED reply becomes ready and the session has ended (R300). -/
  | closed
  /-- A CHALLENGE_REQ message asks for an enrolment or transfer nonce (R305). -/
  | challengeReq (w : Word)
  /-- The NONCE reply becomes ready (R305). -/
  | nonce
  /-- An ENROL message presents a new owner key and its signature (R281). The message's words; whether its point and
  its signature pass. -/
  | enrol (ws : List Word) (pointOk sigOk : Bool)
  /-- Enrolment completes or fails and the signed ENROL_DONE reply becomes ready (R281). -/
  | enrolDone
  /-- A TRANSFER message from the current owner names a new owner key and the ACTIVE crate hash (R282). As for ENROL.
  -/
  | transfer (ws : List Word) (pointOk sigOk : Bool)
  /-- The transfer completes or fails and the signed TRANSFER_DONE reply becomes ready (R282). -/
  | transferDone
  /-- The Cellar finishes generating a replacement ephemeral key pair (R301). -/
  | ephemeralPairReady
  /-- CRATE_CTL CLOSE_STORE starts checking the staged crate for storage as PENDING (R309). -/
  | closeStore (ctr : Option Word)
  /-- CRATE_CTL CLOSE_APPLY starts checking the staged crate for immediate application (R309). -/
  | closeApply (ctr : Option Word)
  /-- CRATE_CTL DISCARD empties the staging buffer (R309). -/
  | discardStaging (ctr : Option Word)
  /-- Steps 1–8 of the crate checks complete or stop at a failure (R310). Whether the signature verifies and every key
  for this device unwraps. -/
  | crateChecksComplete (sig : Bool) (keys : KeyCheck)
  /-- Validation of every page check completes and every VFAIL is rewritten (R424). -/
  | crateValidationComplete
  /-- The passing crate is written into the spare slot and read back (R311). -/
  | crateSlotWritten
  /-- The last page is applied, slot labels move and CRATE_DONE sets (R313). -/
  | crateApplicationComplete
  /-- After a failed BOOT_EPOCH write the write is retried every 1 s (R315). -/
  | epochWriteRetry (ok : Bool)
  /-- In each partner-port slot a device sends its highest-priority queued frame, or IDLE (R323). `partner`: the other
  device's logic die runs degraded. -/
  | partnerFrameSlot (partner : Bool)
  /-- A partner ACK frame acknowledges MIRROR entries, letting the lead commit (R331). What the checks find; with RESEND its ACKSEQ;
  whether it comes after 20 µs; an announced off-pulse it acknowledges. -/
  | pairAck (c : PairSeen) (resend : Option (Fin 256)) (late : Bool) (pulse : Option Terminal)
  /-- A NOTICE frame gives the follower a terminal's expected level and lead states (R332). -/
  | pairNotice (c : PairSeen) (resend : Option (Fin 256)) (x : Notice)
  /-- A HANDOVER announcement from the lead fixes T_S for a planned handover (R341). -/
  | handoverAnnouncement (c : PairSeen) (resend : Option (Fin 256)) (ts : Nat) (cause : Fin 8)
  /-- A follower's HANDOVER request naming caught terminals makes the lead run a handover (R340). -/
  | handoverRequest (c : PairSeen) (resend : Option (Fin 256)) (caught : Word)
  /-- A handover confirmation frame is received during the ramp (R341). `cause`: a cause of abort on the sender (0:
  none). -/
  | handoverConfirmation (c : PairSeen) (resend : Option (Fin 256)) (cause : Fin 6)
  /-- A MIRROR frame carries committed words, CTRs or check-ins to the partner (R331). -/
  | pairMirror (c : PairSeen) (resend : Option (Fin 256)) (m : Mirror)
  /-- A HEARTBEAT frame carries the partner's role, mode and PLEAD assertion time (R334). -/
  | pairHeartbeat (c : PairSeen) (resend : Option (Fin 256)) (h : Heartbeat)
  /-- A TRIGGER frame gives the follower the lead's trigger and stamp (R329). -/
  | pairTrigger (c : PairSeen) (resend : Option (Fin 256)) (groups : Fin 16) (stamp : Nat)
  /-- A TIME exchange gives offset and delay, and the follower steers its PLL (R328). The offset found, follower minus
  lead, in ns. -/
  | pairTime (c : PairSeen) (resend : Option (Fin 256)) (offset : Int)
  /-- A COMPARE frame carries the partner's means for cross-device plausibility (R345). Contexts with SEQ[7:0] and
  MEAN; the verdict of the sender's dwell. -/
  | pairCompare (c : PairSeen) (resend : Option (Fin 256)) (xs : List (Ctx × Fin 256 × Int)) (dwell : Option Bool)
  /-- A STATE transfer delivers mirrored state from the lead at pairing or resynchronisation (R327). -/
  | pairState (c : PairSeen) (resend : Option (Fin 256)) (t : Transfer)
  /-- A SUMMARY frame updates PAIR.PARTNER with fault grades and Loft head (R330). -/
  | pairSummary (c : PairSeen) (resend : Option (Fin 256)) (severe : Fin 256) (approved : Bool)
  /-- CRATE frames forward a staged crate to the follower for joint checking (R333). -/
  | pairCrate (c : PairSeen) (resend : Option (Fin 256)) (m : CrateMsg)
  /-- A HELLO message exchanges serials, hashes, nonces and certificates, and the pair key is derived (R327). The
  sender and its ACTIVE hash; whether its chain and signature verify. -/
  | hello (c : PairSeen) (resend : Option (Fin 256)) (who : HelloFrom) (hash : Nat) (ok : Bool)
  /-- A partner reset request resets this device's logic die with RSTCAUSE.PARTNER (R348). -/
  | resetReq (c : PairSeen) (resend : Option (Fin 256))
  /-- While unpaired, pairing is retried every 1 s (R327). -/
  | pairingRetry
  /-- 300 µs without a valid heartbeat declares the partner lost (R334). `held`: PLEAD is seen held. -/
  | partnerLost (held : Bool)
  /-- PLEAD drive not refreshed for 300 µs is released by hardware (R335). -/
  | pleadRefreshTimeout
  /-- After its wait with PLEAD released, a device entering FOLLOW asserts PLEAD and becomes lead (R336). -/
  | pleadWaitExpiry
  /-- PLEAD releases while a follower is DETACHED, and it makes a cold takeover (R337). -/
  | pleadReleased
  /-- No acknowledgement within 100 µs makes the lead commit anyway and resynchronise (R331). -/
  | mirrorAckTimeout
  /-- T_N after its decision the lead applies an announced level change (R332). -/
  | noticeApply (n : Terminal)
  /-- A follower stage arms once its arming condition has held for its time (R339). -/
  | catchArm (n : Terminal)
  /-- An armed stage sees its terminal fall away and engages to drive the expected level (R339). -/
  | catchEngage (n : Terminal)
  /-- 50 µs after engagement without revocation the follower sends a HANDOVER request (R340). -/
  | catchRevokeWindowEnd (n : Terminal)
  /-- PAIR.CMD OP HANDOVER under session starts a planned handover on the lead (R341). -/
  | handover (ctr : Option Word)
  /-- PAIR.CMD OP RESET_PARTNER under an Owner session makes the partner reset its logic die (R348). `key`: the KEY
  field of the word. -/
  | resetPartner (ctr : Option Word) (key : Fin 65536)
  /-- PAIR.CMD OP RESYNC under session resynchronises the pair's mirrored state (R348). -/
  | resync (ctr : Option Word)
  /-- At T_S follower switches and shunts join the lead's and the AO ramp begins (R341). -/
  | handoverTs
  /-- Every 7.8125 µs each AO share steps by 1/256 on both devices (R341). -/
  | handoverRampStep
  /-- At T_R roles exchange and both MODE codes change at the same tick (R341). -/
  | handoverTr
  /-- 150 µs without a handover confirmation is a cause of abort (R342). -/
  | confirmationSilence
  /-- At the aligned boundary after a cause both devices abort and the lead takes the full level (R342). -/
  | handoverAbort
  /-- A clock monitor finds its source out of limit or stopped (R351). The source: 0 ROOT, 1 PLL, 2 HFRC_A, 3 HFRC_B,
  4 LPO, 5 recovered clock, 6 FRC. -/
  | clockSourceFail (src : Fin 7)
  /-- The field clock recovery relocks and FCORE returns to the recovered clock (R352). -/
  | fieldClockRelock
  /-- A failed source passes every window for its return time and is healthy again (R351). The source: as in
  CLOCK_SOURCE_FAIL. -/
  | clockSourceReturn (src : Fin 7)
  /-- A session write of CLOCK CTL.RESTORE returns the domains to the PLL, or is refused (R356). -/
  | clockRestore (ctr : Option Word)
  /-- FCORE without a healthy source for 10 µs puts terminals OFF and resets the field die (R359). -/
  | fcoreStop
  /-- Writing FMEAS_CFG.GO starts a frequency measurement (R360). -/
  | fmeasGo (ctr : Option Word) (w : Word)
  /-- The gate ends and FMEAS_RES holds the count (R360). `edges`: the measured edges the gate counted. -/
  | fmeasDone (edges : Nat)
  /-- At the first watchdog tick after mode entry, a TASKS write or a restart, the first window opens (R369). -/
  | wdogFirstWindow
  /-- A watchdog window closes, findings latch and the next window opens (R367). -/
  | wdogWindowClose
  /-- The selected watchdog clock gives no edge for 4 ticks of the other and the watchdog switches clock (R366). -/
  | wdogClockStop
  /-- A TASKS write changes the registered tasks and restarts a halted watchdog (R369). -/
  | wdogTasksWrite (ctr : Option Word) (w : Word)
  /-- A fault event reaches the collector, is counted and graded, and runs its reactions (R371). -/
  | faultEvent
  /-- Writing FAULT.ACK acknowledges one or all sources and clears INHAND, MERGED and URG (R375). -/
  | faultAck (ctr : Option Word) (w : Word)
  /-- A session write of FAULT.CLEAR with GRADE returns a source to MILD (R372). -/
  | faultClearGrade (ctr : Option Word) (k : Fin 64)
  /-- A session write of FAULT.CLEAR with COUNT clears a source's count and history (R372). -/
  | faultClearCount (ctr : Option Word) (k : Fin 64)
  /-- Writing ERRCTL.RELEASE releases ERROUT once its minimum width has passed (R377). -/
  | erroutRelease (ctr : Option Word)
  /-- The ERROUT minimum width ends and the pin deasserts if released (R377). -/
  | erroutMinwExpiry
  /-- After link recovery the field die delivers kept events, which are graded by detection time (R378). -/
  | keptEventsDelivered
  /-- An event reaches the LOFT engine and is queued for writing, or refused (R385). -/
  | loftRecord
  /-- A record is written, read back and the chain head advances (R384). -/
  | loftRecordWritten
  /-- Writing CMD.VERIFY starts a recomputation of the chain (R387). -/
  | loftVerify (ctr : Option Word)
  /-- The chain check ends with pass or fail (R387). -/
  | loftVerifyDone
  /-- A keyed CMD.CLEAR verifies the chain and then clears the Loft, or is refused (R388). `key`: the KEY field of the
  word. -/
  | loftClear (ctr : Option Word) (key : Fin 65536)
  /-- CMD.CLEAR with FORCE under an Owner session clears even after a failed check (R388). `key`: the KEY field of the
  word. -/
  | loftClearForce (ctr : Option Word) (key : Fin 65536)
  /-- A clear completes with COUNT 0 and a LOFT_CLEARED record at index 0 (R388). -/
  | loftClearDone
  /-- A REQ RETIRE retires the named resource as a failure retirement, or is refused (R395). -/
  | larderRetire (ctr : Option Word) (kind : Fin 16) (index : Fin 16777216)
  /-- A REQ RESTORE starts the restore test of a retired resource, or is refused (R395). -/
  | larderRestore (ctr : Option Word) (kind : Fin 16) (index : Fin 16777216)
  /-- The restore test ends and the resource becomes a spare, or stays retired (R395). -/
  | restoreTestDone (r : RestoreResult)
  /-- A VETO write defers wear retirements of a kind, or carries out the deferred ones when cleared (R396). -/
  | vetoWrite (ctr : Option Word) (w : Word)
  /-- The load current reaches ILIM, or passes 0.55 A, so the switch regulates with LIMIT and EVT_RAW.LIMIT set and
  the fold-back timer runs; the timer restarts once both conditions have ended for 1 ms (R188). -/
  | currentLimitRegulation (n : Terminal) (e : LimitEvent)
  /-- After a thermal trip the channel cools by the restart hysteresis and DO THERMAL clears, whether or not a retry
  follows (R190). -/
  | channelCooled (n : Terminal)
  /-- A LOW or HIGH step-supply rail that is moving at up to 2 V/ms reaches its new setpoint, so waiting outputs move
  to it and falling rails may be lowered (R207). -/
  | railAtSetpoint (g : Group) (high : Bool)
  /-- A DEVICE.MODE_REQ naming BOOT, FOLLOW, LOCKOUT or a code that is not a mode is refused, with MODE_REFUSED set
  and REQ_RESULT 0b10 (R29). -/
  | modeReqOtherTarget (ctr : Option Word) (t : Fin 8)
  /-- A SESSION frame with DIR = 0 whose KIND is not a host-to-device message is refused with ENCODING, its words are
  discarded and the handshake in progress is left undisturbed (R249). -/
  | sessionKindRefused (kind : Fin 128)
  /-- 1 ms after PLEAD is released, a lead whose PAIR role was lost with no spare releases its outputs and enters SAFE
  with SAFE_CAUSE.FAULT (R338). -/
  | leadRoleLostRelease
  deriving DecidableEq, Repr

end Sys2Proof
end

