-- ==== Sys2Proof/Config.lean ====
section
/-! DEFINITION. What one part or one manufacture fixes and the specification does not give: fused and factory values, ROM
coefficients, words the Cellar's algorithms produce, and free values. None has a body, so a claim holds whatever they are. -/

namespace Sys2Proof

/-- A value the specification leaves open, fresh at each count of a `draws` counter (log 3). -/
opaque Config.free : Nat → Nat

/-- The parameter (FAULT.LAST.PARAM) of a fault source's event for which no rule names one (R380). -/
opaque Config.noParam : Nat → Nat

/-- Quiescent dissipation of an enabled analogue output, 0.1 mW units (R204 gives typical 2 mW, maximum 3 mW). -/
opaque Config.quiescent : Nat

/-- How far the rising (true) or falling threshold of a terminal's digital input lies from its nominal value at one comparison, by its number,
in mV, before the bounds of R171 (Machine.diThreshold): R422 lets it differ from one crossing to the next. -/
opaque Config.diOffset : Nat → Bool → Nat → Int

/-- Efficiency η of a group's converter at a power delivered into both rails in µW, in 1/1000, before its bounds (R206 gives 91 % as
typical only). -/
opaque Config.efficiency : Nat → Nat → Nat

/-- Deviation of HFRC_A (0) or HFRC_B (1) from nominal in a monitor window, by the window's number, in ppm, before the bound of a window
that passes (R351, R397): no row carries it. -/
opaque Config.hfrcDeviation : Nat → Nat → Nat

/-- Ticks that a terminal's switch takes to turn on at the turn-on of a field time, before the bounds of R187: R422 lets it differ from one to
the next. -/
opaque Config.turnOn : Nat → Nat → Nat

/-- The on-resistance of a terminal's switch at a time of the field die, 0.1 mΩ, before its first measurement and the bound of R184. -/
opaque Config.onResistance : Nat → Nat → Nat

/-- The step response of a built-in stage-2 response of the families LP and GAUSS after a number of taps, in units of 2⁻³² of the
step, before the bounds R125 promises (Machine.romStep). -/
opaque Config.romStep : Nat → Nat → Int

/-- Factory offset F_OFS of a slice and range, signed codes (R234). -/
opaque Config.fOfs : Nat → Nat → BitVec 24

/-- Factory gain F_GAIN of a slice and range: 1 + v × 2⁻²⁶ (R234). -/
opaque Config.fGain : Nat → Nat → BitVec 24

/-- Factory shunt factor F_SHUNT of a terminal (R234). -/
opaque Config.fShunt : Nat → BitVec 24

/-- Reference factors REFCAL_A (0) and REFCAL_B (1) (R234). -/
opaque Config.refCal : Nat → BitVec 24

/-- Factors of the reference-check divider's taps 1/1, 1/4, 1/16, 1/64 and 1/256 (0-4) to their nominal ratios (R234). -/
opaque Config.divider : Nat → BitVec 24

/-- Factory values applied inside the sources (R234): the currents of IDC0-IDC3 (0-3), TDAC gain (4) and offset (5), the amplitudes of
EXC0-EXC3 in voltage (6-9) and current mode (10-13), VBIAS (14). -/
opaque Config.source : Nat → BitVec 24

/-- Factory resistance of a terminal's segment, as a factor to the nominal one (R234). -/
opaque Config.segment : Nat → Nat → BitVec 24

/-- DEVICE.SERIAL, 64 bits of OTP (R278). -/
opaque Config.serial : Nat

/-- The link key that a boot nonce and the secret fused into both dies give (R10). -/
opaque Config.linkKey : Nat → Nat

/-- The 19 check bits of GC-275 for 256 data bits: the manual names the code and not its generator. -/
opaque Config.guardCode : Nat → Nat

/-- The 128-bit GMAC tag of a link key over bits [255:32] of a barrier frame (R8); R8 states no IV. -/
opaque Config.linkTag : Nat → Nat → Nat

/-- The link subkey of a pair key and a direction byte: HKDF-SHA-384 with info "FWN3218-PLINK" (R325). -/
opaque Config.partnerKey : Nat → Nat → Nat

/-- The direction byte of R325 for frames from the clocking device (true) and to it. -/
opaque Config.direction : Bool → Nat

/-- PAYLOAD of a partner frame (R322, R323): its 200 bits are kind-specific and R323 gives their content, not their layout. Session keys in it
are encrypted under the pair key, the first argument (R330). -/
opaque Config.pairPayload : Nat → Machine.PFrame → Nat

/-- The follower's steering of its root PLL after a TIME exchange, in units of 2⁻³², by the offset in ns and a count, before the bounds of R328. -/
opaque Config.steering : Int → Nat → Int

/-- The X coordinate of the P-384 ECDH product of the identity key and a point (R326). -/
opaque Config.identityEcdh : Nat → Nat

/-- SHA-384 over words (R277). -/
opaque Config.sha384 : List Word → Nat

/-- HKDF-SHA-384 of input key material, salt and info, to 32 bytes (R277). -/
opaque Config.hkdf : Nat → List Word → List Word → Nat

/-- The 128-bit AES-256 GMAC tag of a key, IV and additional data (R277). -/
opaque Config.gmac : Nat → List Word → List Word → Nat

/-- AES-256-GCM of a key, IV, additional data (its bytes as a number) and words: the ciphertext words and the tag (R277, R302). -/
opaque Config.gcm : Nat → List Word → Nat → List Word → List Word × Nat

/-- AES-256-GCM decryption of ciphertext words under a key, IV and additional data: the words, and the tag that verifies (R277, R302). -/
opaque Config.gcmOpen : Nat → List Word → Nat → List Word → List Word × Nat

/-- Ticks for which the condition of a tamper detector that fired at a tick holds on, where the firing says that it does (R287): no row
of the table says when it ends. -/
opaque Config.firingFor : Nat → Nat → Nat

/-- The identity key's ECDSA signature over words, 768 bits (R277). -/
opaque Config.sign : List Word → Nat

/-- HKDF-SHA-384 of input key material, salt and info, to 96 bytes (R299). -/
opaque Config.hkdf96 : Nat → List Word → List Word → Nat

/-- The public point of the ephemeral key pair of a number, 768 bits (R297). -/
opaque Config.ephemeral : Nat → Nat

/-- The X coordinate of the ECDH product of the ephemeral pair of a number and a point (R299). -/
opaque Config.ecdh : Nat → Nat → Nat

/-- The key a KEY record unwraps to (R308). -/
opaque Config.unwrap : List Word → Nat

/-- The Loft key K_L: HKDF-SHA-384 of the integrity key with info "FWN3218-LOFT" and SERIAL (R383). -/
opaque Config.loftKey : Nat

/-- Hash of the vendor root key (R295). -/
opaque Config.rootHash : Nat

/-- The identity public key, 768 bits (R278, R295). -/
opaque Config.idPub : Nat

/-- Length in words of the device certificate (0) and the vendor intermediate certificate (1) (R295). -/
opaque Config.certLen : Nat → Nat

/-- A word of a certificate (R295). -/
opaque Config.cert : Nat → Nat → Word

end Sys2Proof
end

