-- ==== Sys2Proof/Machine/Tab.lean ====
section
/-! DEFINITION. Tables with a default: a list of (key, value) pairs, keys strictly rising, no pair equal to what an
unlisted key reads as. Registers, the crate buffer and every indexed part of the state are held in this one form, so that
equal tables are equal lists. Bit fields of a word, and the kinds of a register's row in a page table, stand here too. -/

namespace Sys2Proof.Machine

/-- A table from numbers to values. -/
abbrev Tab (α : Type) := List (Nat × α)

/-- The value at key `k`; `d` is what an unlisted key reads as. -/
def tget {α : Type} (d : Nat → α) : Tab α → Nat → α
  | [], k => d k
  | (j, v) :: t, k => if j = k then v else tget d t k

/-- The table without key `k`. -/
def tdel {α : Type} : Tab α → Nat → Tab α
  | [], _ => []
  | (j, v) :: t, k => if j = k then tdel t k else (j, v) :: tdel t k

/-- The table with `v` listed at key `k`, keys kept rising. -/
def tins {α : Type} : Tab α → Nat → α → Tab α
  | [], k, v => [(k, v)]
  | (j, w) :: t, k, v =>
    if k < j then (k, v) :: (j, w) :: t
    else if k = j then (k, v) :: t
    else (j, w) :: tins t k v

/-- Writing `v` at key `k`: a value equal to the default is not listed. -/
def tput {α : Type} [DecidableEq α] (d : Nat → α) (t : Tab α) (k : Nat) (v : α) : Tab α :=
  if v = d k then tdel t k else tins t k v

/-- Keys strictly rising, all above `lo` where `lo` is given. -/
def tsorted {α : Type} : Option Nat → Tab α → Bool
  | _, [] => true
  | none, (j, _) :: t => tsorted (some j) t
  | some lo, (j, _) :: t => decide (lo < j) && tsorted (some j) t

/-- No listed value equals the default at its key. -/
def tlean {α : Type} [DecidableEq α] (d : Nat → α) (t : Tab α) : Bool :=
  t.all fun p => decide (p.2 ≠ d p.1)

/-- The canonical form. -/
def twf {α : Type} [DecidableEq α] (d : Nat → α) (t : Tab α) : Bool :=
  tsorted none t && tlean d t

/-- The registers that differ from their value at reset. -/
abbrev RegFile := Tab Word

/-- A bit field: the register's address, the lowest bit and the width. -/
structure Fld where
  addr : Nat
  lo : Nat
  len : Nat
  deriving DecidableEq, Repr

/-- Access codes of 00_scope.md ('Access codes'); RSNAP behaves as RO for writes. -/
inductive Acc where
  | ro | rw | wo | w1c | w1s
  deriving DecidableEq, Repr

/-- Access classes of 00_scope.md ('Access classes'). -/
inductive Cls where
  | open_ | session | sealed
  deriving DecidableEq, Repr

/-- One row of a page's register table. -/
structure RegRow where
  first : Nat
  last : Nat
  step : Nat
  acc : Acc
  cls : Cls
  mask : Nat
  reset : Nat
  deriving DecidableEq, Repr

/-- The values a field may take without being reserved (R5). -/
structure EncRow where
  first : Nat
  last : Nat
  step : Nat
  lo : Nat
  len : Nat
  least : Nat
  greatest : Nat
  deriving DecidableEq, Repr

/-- Bits [lo + len − 1 : lo] of a word. -/
def wbits (w : Word) (lo len : Nat) : Nat := w.toNat / 2 ^ lo % 2 ^ len

/-- The word with bits [lo + len − 1 : lo] replaced by `v`. -/
def wset (w : Word) (lo len v : Nat) : Word :=
  BitVec.ofNat 32 (w.toNat % 2 ^ lo + (v % 2 ^ len) * 2 ^ lo + (w.toNat / 2 ^ (lo + len)) * 2 ^ (lo + len))

/-- Bit `k` of a word. -/
def wbit (w : Word) (k : Nat) : Bool := w.toNat / 2 ^ k % 2 == 1

/-- A truth value as a number. -/
def b2n (b : Bool) : Nat := if b then 1 else 0

/-- `n` read as a signed number of `len` bits. -/
def signed (len n : Nat) : Int := if n < 2 ^ (len - 1) then (n : Int) else (n : Int) - 2 ^ len

/-- A signed number as `len` bits, wrapping. -/
def unsigned (len : Nat) (i : Int) : Nat := (i % 2 ^ len).toNat

/-- A signed number held within `len` bits, saturating. -/
def satS (len : Nat) (i : Int) : Int := max (-(2 ^ (len - 1) : Int)) (min i (2 ^ (len - 1) - 1))

/-- Bit `k` of a set of bits held as a number. -/
def nbit (n k : Nat) : Bool := n / 2 ^ k % 2 == 1

/-- The set with bit `k` set. -/
def nset (n k : Nat) : Nat := if nbit n k then n else n + 2 ^ k

/-- The set with bit `k` cleared. -/
def nclr (n k : Nat) : Nat := if nbit n k then n - 2 ^ k else n

/-- The positions of the set bits below `len`, rising. -/
def nbits (len n : Nat) : List Nat := (List.range len).filter (nbit n)

end Sys2Proof.Machine
end

