-- ==== Sys2Proof/Machine/RegMap.lean ====
section
/-! DEFINITION. The register map: addresses (namespace R) and bit fields (namespace F) of every register the pages'
tables give (rules R47-R51, R60, R77, R78, R100, R122, R140, R152-R154, R169, R183, R201, R215, R231-R233, R241, R265,
R295, R317, R348, R364, R365, R379, R380, R389, R400), their access codes and classes, the mask of their writable bits,
the encodings the tables do not reserve (R5) and their values before load (R421). -/

namespace Sys2Proof.Machine

/-! Addresses. An indexed page takes its instance first, an indexed register its index last. -/

abbrev R.pageDEVICE : Nat := 0x0
abbrev R.pageCLOCK : Nat := 0x1
abbrev R.pageHOST : Nat := 0x2
abbrev R.pagePAIR : Nat := 0x3
abbrev R.pageWDOG : Nat := 0x4
abbrev R.pageFAULT : Nat := 0x5
abbrev R.pageLOFT : Nat := 0x6
abbrev R.pageCELLAR : Nat := 0x7
abbrev R.pageLARDER : Nat := 0x8
abbrev R.pageBARRIER : Nat := 0x9
abbrev R.pageFSUP : Nat := 0xa
abbrev R.pageXPT : Nat := 0xb
abbrev R.pageEXC : Nat := 0xc
abbrev R.pageSEQ : Nat := 0xd
abbrev R.pageCAL : Nat := 0xe
abbrev R.pageREFLEX : Nat := 0xf
abbrev R.pageTERM (n : Nat) : Nat := 0x20 + n
abbrev R.pageSLICE (s : Nat) : Nat := 0x40 + s
abbrev R.pageFILT (u : Nat) : Nat := 0x58 + u
abbrev R.pageCTX (n : Nat) : Nat := 0x80 + n
def R.ID (page : Nat) : Nat := page * 256 + 0x0
def R.CTRL (page : Nat) : Nat := page * 256 + 0x1
def R.STATUS (page : Nat) : Nat := page * 256 + 0x2
def R.EVT_RAW (page : Nat) : Nat := page * 256 + 0x3
def R.EVT_EN (page : Nat) : Nat := page * 256 + 0x4
def R.EVT_ACT (page : Nat) : Nat := page * 256 + 0x5
def R.INJECT (page : Nat) : Nat := page * 256 + 0x6
def R.CLASS (page : Nat) : Nat := page * 256 + 0x7
def R.GEN (page : Nat) : Nat := page * 256 + 0x8
def R.DEVICE_MODE : Nat := 0x0010
def R.DEVICE_MODE_REQ : Nat := 0x0011
def R.DEVICE_RSTCAUSE : Nat := 0x0012
def R.DEVICE_RESET : Nat := 0x0013
def R.DEVICE_BOOTSTAT : Nat := 0x0014
def R.DEVICE_STRAPS : Nat := 0x0015
def R.DEVICE_OUTHOLD : Nat := 0x0016
def R.DEVICE_BOOTTIME : Nat := 0x0017
def R.DEVICE_RESTORE : Nat := 0x0018
def R.DEVICE_BOOT_EPOCH : Nat := 0x0019
def R.BARRIER_LINK : Nat := 0x0910
def R.BARRIER_DISCARD : Nat := 0x0911
def R.BARRIER_RESEND : Nat := 0x0912
def R.BARRIER_TAGFAIL : Nat := 0x0913
def R.BARRIER_LANEERR_A : Nat := 0x0914
def R.BARRIER_LANEERR_B : Nat := 0x0915
def R.BARRIER_SNAPDROP : Nat := 0x0916
def R.TERM_CELL (n : Nat) : Nat := 0x2010 + 256 * n
def R.TERM_CELLSTAT (n : Nat) : Nat := 0x2011 + 256 * n
def R.TERM_SENSE_LO (n : Nat) : Nat := 0x2012 + 256 * n
def R.TERM_SENSE_HI (n : Nat) : Nat := 0x2013 + 256 * n
def R.XPT_DRIVE (k : Nat) : Nat := 0x0B10 + k
def R.XPT_DRIVEN : Nat := 0x0B30
def R.XPT_SENSED : Nat := 0x0B31
def R.XPT_VFAIL : Nat := 0x0B32
def R.XPT_CFG : Nat := 0x0B33
def R.XPT_SET_A (k : Nat) : Nat := 0x0B40 + 2 * k
def R.XPT_SET_B (k : Nat) : Nat := 0x0B41 + 2 * k
def R.EXC_SINE_CFG (k : Nat) : Nat := 0x0C10 + 8 * k
def R.EXC_SINE_CTL (k : Nat) : Nat := 0x0C11 + 8 * k
def R.EXC_SINE_FREQ (k : Nat) : Nat := 0x0C12 + 8 * k
def R.EXC_SINE_AMPL (k : Nat) : Nat := 0x0C13 + 8 * k
def R.EXC_SINE_STAT (k : Nat) : Nat := 0x0C14 + 8 * k
def R.EXC_SINE_MON (k : Nat) : Nat := 0x0C15 + 8 * k
def R.EXC_IDC (k : Nat) : Nat := 0x0C30 + k
def R.EXC_IDCSTAT (k : Nat) : Nat := 0x0C34 + k
def R.EXC_VBIAS : Nat := 0x0C38
def R.EXC_TDAC : Nat := 0x0C39
def R.EXC_REF : Nat := 0x0C3A
def R.EXC_BLANK_CFG : Nat := 0x0C3B
def R.EXC_BLANK_MAX : Nat := 0x0C3C
def R.EXC_BLANK_STAT : Nat := 0x0C3D
def R.SLICE_ROLE (s : Nat) : Nat := 0x4010 + 256 * s
def R.SLICE_HEALTH (s : Nat) : Nat := 0x4011 + 256 * s
def R.SLICE_URGCOUNT (s : Nat) : Nat := 0x4012 + 256 * s
def R.SLICE_MODSTAT (s : Nat) : Nat := 0x4013 + 256 * s
def R.SLICE_ROT_CFG : Nat := 0x4040
def R.SLICE_ROT_STAT : Nat := 0x4041
def R.SLICE_ROT_COUNT : Nat := 0x4042
def R.SLICE_URGREQ : Nat := 0x4043
def R.SLICE_URGSTAT : Nat := 0x4044
def R.SLICE_GRP (k : Nat) : Nat := 0x4048 + k
def R.FILT_CFG (u : Nat) : Nat := 0x5810 + 256 * u
def R.FILT_COMMIT (u : Nat) : Nat := 0x5811 + 256 * u
def R.FILT_INFO (u : Nat) : Nat := 0x5812 + 256 * u
def R.FILT_DCGAIN (u : Nat) : Nat := 0x5813 + 256 * u
def R.FILT_USERS (u : Nat) : Nat := 0x5814 + 256 * u
def R.FILT_REFUSE (u : Nat) : Nat := 0x5815 + 256 * u
def R.FILT_COEF (u : Nat) (k : Nat) : Nat := 0x5880 + 256 * u + k
def R.SEQ_PROG (k : Nat) : Nat := 0x0D10 + k
def R.SEQ_PSTAT (k : Nat) : Nat := 0x0D20 + k
def R.SEQ_LOOPS (k : Nat) : Nat := 0x0D30 + k
def R.SEQ_GWAIT (k : Nat) : Nat := 0x0D40 + k
def R.SEQ_VFAIL : Nat := 0x0D44
def R.SEQ_TMOCOUNT : Nat := 0x0D45
def R.CTX_CFG (n : Nat) : Nat := 0x8010 + 256 * n
def R.CTX_AR (n : Nat) : Nat := 0x8011 + 256 * n
def R.CTX_EXCDEP (n : Nat) : Nat := 0x8012 + 256 * n
def R.CTX_DEMOD (n : Nat) : Nat := 0x8013 + 256 * n
def R.CTX_PHASE (n : Nat) : Nat := 0x8014 + 256 * n
def R.CTX_FILTER (n : Nat) : Nat := 0x8015 + 256 * n
def R.CTX_MA (n : Nat) : Nat := 0x8016 + 256 * n
def R.CTX_WIN (n : Nat) : Nat := 0x8017 + 256 * n
def R.CTX_WIN_T (n : Nat) : Nat := 0x8018 + 256 * n
def R.CTX_FMT (n : Nat) : Nat := 0x8019 + 256 * n
def R.CTX_PLAUS (n : Nat) : Nat := 0x801A + 256 * n
def R.CTX_URG (n : Nat) : Nat := 0x801B + 256 * n
def R.CTX_UCAL_OFS (n : Nat) : Nat := 0x801C + 256 * n
def R.CTX_UCAL_GAIN (n : Nat) : Nat := 0x801D + 256 * n
def R.CTX_CTXSTAT (n : Nat) : Nat := 0x801E + 256 * n
def R.CTX_COUNTS (n : Nat) : Nat := 0x801F + 256 * n
def R.CTX_ARCOUNT (n : Nat) : Nat := 0x8020 + 256 * n
def R.CTX_TH_A_LEVEL (n : Nat) : Nat := 0x8030 + 256 * n
def R.CTX_TH_A_HYST (n : Nat) : Nat := 0x8031 + 256 * n
def R.CTX_TH_A_CFG (n : Nat) : Nat := 0x8032 + 256 * n
def R.CTX_TH_B_LEVEL (n : Nat) : Nat := 0x8033 + 256 * n
def R.CTX_TH_B_HYST (n : Nat) : Nat := 0x8034 + 256 * n
def R.CTX_TH_B_CFG (n : Nat) : Nat := 0x8035 + 256 * n
def R.CTX_THSTAT (n : Nat) : Nat := 0x8036 + 256 * n
def R.CTX_THCOUNT (n : Nat) : Nat := 0x8037 + 256 * n
def R.CTX_SEQ (n : Nat) : Nat := 0x8040 + 256 * n
def R.CTX_COUNT (n : Nat) : Nat := 0x8041 + 256 * n
def R.CTX_SUM_LO (n : Nat) : Nat := 0x8042 + 256 * n
def R.CTX_SUM_HI (n : Nat) : Nat := 0x8043 + 256 * n
def R.CTX_SUMSQ_LO (n : Nat) : Nat := 0x8044 + 256 * n
def R.CTX_SUMSQ_HI (n : Nat) : Nat := 0x8045 + 256 * n
def R.CTX_MEAN (n : Nat) : Nat := 0x8046 + 256 * n
def R.CTX_MIN (n : Nat) : Nat := 0x8047 + 256 * n
def R.CTX_MIN_T (n : Nat) : Nat := 0x8048 + 256 * n
def R.CTX_MAX (n : Nat) : Nat := 0x8049 + 256 * n
def R.CTX_MAX_T (n : Nat) : Nat := 0x804A + 256 * n
def R.CTX_FLAGS (n : Nat) : Nat := 0x804B + 256 * n
def R.CTX_BLANKED (n : Nat) : Nat := 0x804C + 256 * n
def R.CTX_UNSETTLED (n : Nat) : Nat := 0x804D + 256 * n
def R.CTX_TCLOSE_LO (n : Nat) : Nat := 0x804E + 256 * n
def R.CTX_TCLOSE_HI (n : Nat) : Nat := 0x804F + 256 * n
def R.CTX_SEAL_LO (n : Nat) : Nat := 0x8050 + 256 * n
def R.CTX_SEAL_HI (n : Nat) : Nat := 0x8051 + 256 * n
def R.CTX_SNAPSTAT (n : Nat) : Nat := 0x8052 + 256 * n
def R.CTX_LIFE_MIN (n : Nat) : Nat := 0x8058 + 256 * n
def R.CTX_LIFE_MIN_TL (n : Nat) : Nat := 0x8059 + 256 * n
def R.CTX_LIFE_MIN_TH (n : Nat) : Nat := 0x805A + 256 * n
def R.CTX_LIFE_MAX (n : Nat) : Nat := 0x805B + 256 * n
def R.CTX_LIFE_MAX_TL (n : Nat) : Nat := 0x805C + 256 * n
def R.CTX_LIFE_MAX_TH (n : Nat) : Nat := 0x805D + 256 * n
def R.CTX_LIFE_CNT_LO (n : Nat) : Nat := 0x805E + 256 * n
def R.CTX_LIFE_CNT_HI (n : Nat) : Nat := 0x805F + 256 * n
def R.CTX_LIFE_CLR (n : Nat) : Nat := 0x8060 + 256 * n
def R.TERM_DI_CFG (n : Nat) : Nat := 0x2020 + 256 * n
def R.TERM_DI_TIME (n : Nat) : Nat := 0x2021 + 256 * n
def R.TERM_DI_EDGE (n : Nat) : Nat := 0x2022 + 256 * n
def R.TERM_DI_STUCK (n : Nat) : Nat := 0x2023 + 256 * n
def R.TERM_DISTAT (n : Nat) : Nat := 0x2024 + 256 * n
def R.TERM_DI_CHAT (n : Nat) : Nat := 0x2025 + 256 * n
def R.TERM_DI_CNT (n : Nat) : Nat := 0x2026 + 256 * n
def R.TERM_DI_CNT_WRAPS (n : Nat) : Nat := 0x2027 + 256 * n
def R.TERM_DI_CNT_LAST_T (n : Nat) : Nat := 0x2028 + 256 * n
def R.TERM_DI_CLR (n : Nat) : Nat := 0x2029 + 256 * n
def R.TERM_DO_CFG (n : Nat) : Nat := 0x2030 + 256 * n
def R.TERM_DO_PROT (n : Nat) : Nat := 0x2031 + 256 * n
def R.TERM_DO_DIAG (n : Nat) : Nat := 0x2032 + 256 * n
def R.TERM_DO_CMD (n : Nat) : Nat := 0x2033 + 256 * n
def R.TERM_DO_STAT (n : Nat) : Nat := 0x2034 + 256 * n
def R.TERM_DO_MEAS (n : Nat) : Nat := 0x2035 + 256 * n
def R.TERM_DO_SEG (n : Nat) : Nat := 0x2036 + 256 * n
def R.TERM_DO_RON (n : Nat) : Nat := 0x2037 + 256 * n
def R.TERM_DO_COUNT (n : Nat) : Nat := 0x2038 + 256 * n
def R.TERM_DO_TPCOUNT (n : Nat) : Nat := 0x2039 + 256 * n
def R.TERM_DO_CLR (n : Nat) : Nat := 0x203A + 256 * n
def R.TERM_AO_CFG (n : Nat) : Nat := 0x2040 + 256 * n
def R.TERM_AO_ALARM_LO (n : Nat) : Nat := 0x2041 + 256 * n
def R.TERM_AO_ALARM_HI (n : Nat) : Nat := 0x2042 + 256 * n
def R.TERM_AO_CMD (n : Nat) : Nat := 0x2043 + 256 * n
def R.TERM_AO_STAT (n : Nat) : Nat := 0x2044 + 256 * n
def R.TERM_AO_MEAS (n : Nat) : Nat := 0x2045 + 256 * n
def R.TERM_AO_RAIL (n : Nat) : Nat := 0x2046 + 256 * n
def R.TERM_AO_GRP (n : Nat) : Nat := 0x2047 + 256 * n
def R.TERM_AO_COUNT (n : Nat) : Nat := 0x2048 + 256 * n
def R.TERM_AO_CLR (n : Nat) : Nat := 0x2049 + 256 * n
def R.FSUP_GRP_MON (k : Nat) : Nat := 0x0A10 + k
def R.FSUP_GRP_POL (k : Nat) : Nat := 0x0A14 + k
def R.FSUP_GRP_STAT (k : Nat) : Nat := 0x0A18 + k
def R.FSUP_GRP_CURR (k : Nat) : Nat := 0x0A1C + k
def R.FSUP_GRP_ILIM (k : Nat) : Nat := 0x0A20 + k
def R.FSUP_BWDOG : Nat := 0x0A24
def R.FSUP_BWSTAT : Nat := 0x0A25
def R.FSUP_PKG_CFG : Nat := 0x0A26
def R.FSUP_PKG_STAT : Nat := 0x0A27
def R.FSUP_PKG_CURR : Nat := 0x0A28
def R.FSUP_LOWCOUNT : Nat := 0x0A29
def R.FSUP_VFAIL : Nat := 0x0A2A
def R.TERM_SS_CFG (n : Nat) : Nat := 0x2050 + 256 * n
def R.TERM_SS_VALUE (n : Nat) : Nat := 0x2051 + 256 * n
def R.TERM_SS_FORCE (n : Nat) : Nat := 0x2052 + 256 * n
def R.TERM_SS_STAT (n : Nat) : Nat := 0x2053 + 256 * n
def R.REFLEX_RULE_A (k : Nat) : Nat := 0x0F10 + 3 * k
def R.REFLEX_RULE_B (k : Nat) : Nat := 0x0F11 + 3 * k
def R.REFLEX_RULE_C (k : Nat) : Nat := 0x0F12 + 3 * k
def R.REFLEX_ACTIVE_LO : Nat := 0x0FD0
def R.REFLEX_ACTIVE_HI : Nat := 0x0FD1
def R.REFLEX_LATCHED_LO : Nat := 0x0FD2
def R.REFLEX_LATCHED_HI : Nat := 0x0FD3
def R.REFLEX_CLR_LO : Nat := 0x0FD4
def R.REFLEX_CLR_HI : Nat := 0x0FD5
def R.REFLEX_VFAIL : Nat := 0x0FD6
def R.REFLEX_FIRES : Nat := 0x0FD7
def R.CAL_SEL : Nat := 0x0E10
def R.CAL_F_OFS : Nat := 0x0E11
def R.CAL_F_GAIN : Nat := 0x0E12
def R.CAL_S_OFS : Nat := 0x0E13
def R.CAL_S_GAIN : Nat := 0x0E14
def R.CAL_S_INFO : Nat := 0x0E15
def R.CAL_F_SHUNT : Nat := 0x0E16
def R.CAL_REFCAL_A : Nat := 0x0E17
def R.CAL_REFCAL_B : Nat := 0x0E18
def R.CAL_AUTO : Nat := 0x0E19
def R.CAL_RUN : Nat := 0x0E1A
def R.CAL_STAT : Nat := 0x0E1B
def R.CAL_DUE : Nat := 0x0E1C
def R.CAL_COUNT : Nat := 0x0E1D
def R.CAL_TEMP : Nat := 0x0E1E
def R.CAL_OTPSTAT : Nat := 0x0E1F
def R.CAL_U (k : Nat) : Nat := 0x0E80 + k
def R.HOST_CFG : Nat := 0x0210
def R.HOST_LANES : Nat := 0x0211
def R.HOST_LEGACY : Nat := 0x0212
def R.HOST_ERR : Nat := 0x0213
def R.HOST_ANOMALY : Nat := 0x0214
def R.HOST_FERRCOUNT : Nat := 0x0215
def R.HOST_FRAMES : Nat := 0x0216
def R.HOST_SUMMARY : Nat := 0x0217
def R.HOST_CLR : Nat := 0x0218
def R.CELLAR_POLICY : Nat := 0x0710
def R.CELLAR_GRADE : Nat := 0x0711
def R.CELLAR_DETSTAT : Nat := 0x0712
def R.CELLAR_ALARM : Nat := 0x0713
def R.CELLAR_ALARMCNT : Nat := 0x0714
def R.CELLAR_AUTHFAIL : Nat := 0x0715
def R.CELLAR_HOLDOFF : Nat := 0x0716
def R.CELLAR_SESS : Nat := 0x0717
def R.CELLAR_KEYSLOT : Nat := 0x0718
def R.CELLAR_SELFTEST : Nat := 0x0719
def R.CELLAR_ZEROISE : Nat := 0x071A
def R.CELLAR_RNGSTAT : Nat := 0x071B
def R.CELLAR_VFAIL : Nat := 0x071C
def R.CELLAR_ROOT_HASH (k : Nat) : Nat := 0x0720 + k
def R.CELLAR_IDPUB (k : Nat) : Nat := 0x0730 + k
def R.CELLAR_OWNER_HASH (k : Nat) : Nat := 0x0748 + k
def R.CELLAR_CERT_SEL : Nat := 0x0758
def R.CELLAR_CERT_LEN : Nat := 0x0759
def R.CELLAR_CERT_DATA (k : Nat) : Nat := 0x0760 + k
def R.DEVICE_CRATE_CTL : Nat := 0x0040
def R.DEVICE_CRATE_STAT : Nat := 0x0041
def R.DEVICE_CRATE_FILL : Nat := 0x0042
def R.DEVICE_SLOTS : Nat := 0x0043
def R.DEVICE_ACTIVE_CTR : Nat := 0x0044
def R.DEVICE_PENDING_CTR : Nat := 0x0045
def R.DEVICE_FALLBACK_CTR : Nat := 0x0046
def R.DEVICE_FLOOR : Nat := 0x0047
def R.DEVICE_ACTIVE_HASH (k : Nat) : Nat := 0x0048 + k
def R.DEVICE_SESS_STAT : Nat := 0x0054
def R.DEVICE_SESS_CTR : Nat := 0x0055
def R.DEVICE_SESS_BOUND : Nat := 0x0056
def R.DEVICE_CRED_MIN : Nat := 0x0057
def R.PAIR_CFG : Nat := 0x0310
def R.PAIR_PORT : Nat := 0x0311
def R.PAIR_STAT : Nat := 0x0312
def R.PAIR_PARTNER : Nat := 0x0313
def R.PAIR_PSERIAL_LO : Nat := 0x0314
def R.PAIR_PSERIAL_HI : Nat := 0x0315
def R.PAIR_TOFFS : Nat := 0x0316
def R.PAIR_CATCH_ARMED : Nat := 0x0317
def R.PAIR_CATCH_ENG : Nat := 0x0318
def R.PAIR_CMD : Nat := 0x0319
def R.PAIR_HOSTAT : Nat := 0x031A
def R.PAIR_HOTIME : Nat := 0x031B
def R.PAIR_HB : Nat := 0x031C
def R.PAIR_CATCHCNT : Nat := 0x031D
def R.PAIR_DISAGREE : Nat := 0x031E
def R.PAIR_DIS_SEQ : Nat := 0x031F
def R.PAIR_VFAIL : Nat := 0x0320
def R.PAIR_MIRCNT : Nat := 0x0321
def R.PAIR_PFRAMES : Nat := 0x0322
def R.DEVICE_TIME_LO : Nat := 0x0020
def R.DEVICE_TIME_HI : Nat := 0x0021
def R.DEVICE_TRIM : Nat := 0x0022
def R.DEVICE_TIME_STAT : Nat := 0x0023
def R.CLOCK_CFG : Nat := 0x0110
def R.CLOCK_CTL : Nat := 0x0111
def R.CLOCK_SRCSTAT : Nat := 0x0112
def R.CLOCK_FAILCNT : Nat := 0x0113
def R.CLOCK_DEGTIME : Nat := 0x0114
def R.CLOCK_FMEAS_CFG : Nat := 0x0115
def R.CLOCK_FMEAS_RES : Nat := 0x0116
def R.CLOCK_FMEAS_STAT : Nat := 0x0117
def R.WDOG_CFG : Nat := 0x0410
def R.WDOG_TASKS : Nat := 0x0411
def R.WDOG_WIN : Nat := 0x0412
def R.WDOG_SPAN : Nat := 0x0413
def R.WDOG_FIRST : Nat := 0x0414
def R.WDOG_STATE : Nat := 0x0415
def R.WDOG_SERVED : Nat := 0x0416
def R.WDOG_TASKFLT : Nat := 0x0417
def R.WDOG_WINCOUNT : Nat := 0x0418
def R.WDOG_UNREG : Nat := 0x0419
def R.FAULT_SEVERE_LO : Nat := 0x0510
def R.FAULT_SEVERE_HI : Nat := 0x0511
def R.FAULT_INHAND_LO : Nat := 0x0512
def R.FAULT_INHAND_HI : Nat := 0x0513
def R.FAULT_URG_LO : Nat := 0x0514
def R.FAULT_URG_HI : Nat := 0x0515
def R.FAULT_ACK : Nat := 0x0516
def R.FAULT_CLEAR : Nat := 0x0517
def R.FAULT_ERRCFG : Nat := 0x0518
def R.FAULT_ERRCTL : Nat := 0x0519
def R.FAULT_ERRSTAT : Nat := 0x051A
def R.FAULT_LAST : Nat := 0x051B
def R.FAULT_TOTAL : Nat := 0x051C
def R.FAULT_SRC_CFG (k : Nat) : Nat := 0x0540 + k
def R.FAULT_SRC_REACT (k : Nat) : Nat := 0x0580 + k
def R.FAULT_SRC_STAT (k : Nat) : Nat := 0x05C0 + k
def R.LOFT_CFG : Nat := 0x0610
def R.LOFT_COUNT : Nat := 0x0611
def R.LOFT_DROPPED : Nat := 0x0612
def R.LOFT_NEXTSEQ : Nat := 0x0613
def R.LOFT_RD_IDX : Nat := 0x0614
def R.LOFT_CMD : Nat := 0x0615
def R.LOFT_VSTAT : Nat := 0x0616
def R.LOFT_CLEARS : Nat := 0x0617
def R.LOFT_QUEUE : Nat := 0x0618
def R.LOFT_WIN (k : Nat) : Nat := 0x0640 + k
def R.LARDER_CFG : Nat := 0x0810
def R.LARDER_VETO : Nat := 0x0811
def R.LARDER_REQ : Nat := 0x0812
def R.LARDER_REQSTAT : Nat := 0x0813
def R.LARDER_PENDING : Nat := 0x0814
def R.LARDER_LAST : Nat := 0x0815
def R.LARDER_RECORD : Nat := 0x0816
def R.LARDER_RES_TOTAL (k : Nat) : Nat := 0x0840 + 4 * k
def R.LARDER_RES_INSVC (k : Nat) : Nat := 0x0841 + 4 * k
def R.LARDER_RES_COUNTS (k : Nat) : Nat := 0x0842 + 4 * k
def R.LARDER_RES_HEALTH (k : Nat) : Nat := 0x0843 + 4 * k
def R.DEVICE_SERIAL_LO : Nat := 0x0030
def R.DEVICE_SERIAL_HI : Nat := 0x0031
def R.SEQTAB_W0 (e : Nat) : Nat := 0x6000 + 2 * e
def R.SEQTAB_W1 (e : Nat) : Nat := 0x6001 + 2 * e


/-! Fields: register, lowest bit, width. -/

def F.DEVICE_MODE_MODE : Fld := ⟨R.DEVICE_MODE, 0, 3⟩
def F.DEVICE_MODE_PAIRED : Fld := ⟨R.DEVICE_MODE, 3, 1⟩
def F.DEVICE_MODE_ENROL_OPEN : Fld := ⟨R.DEVICE_MODE, 4, 1⟩
def F.DEVICE_MODE_FIELD_CFG : Fld := ⟨R.DEVICE_MODE, 5, 1⟩
def F.DEVICE_MODE_REQ_RESULT : Fld := ⟨R.DEVICE_MODE, 6, 2⟩
def F.DEVICE_MODE_SAFE_CAUSE : Fld := ⟨R.DEVICE_MODE, 8, 7⟩
def F.DEVICE_MODE_REQ_TARGET : Fld := ⟨R.DEVICE_MODE_REQ, 0, 3⟩
def F.DEVICE_RSTCAUSE_causes : Fld := ⟨R.DEVICE_RSTCAUSE, 0, 10⟩
def F.DEVICE_RSTCAUSE_FAULT_ID : Fld := ⟨R.DEVICE_RSTCAUSE, 16, 6⟩
def F.DEVICE_RESET_SCOPE : Fld := ⟨R.DEVICE_RESET, 0, 2⟩
def F.DEVICE_RESET_KEY : Fld := ⟨R.DEVICE_RESET, 16, 16⟩
def F.DEVICE_BOOTSTAT_ROM_OK : Fld := ⟨R.DEVICE_BOOTSTAT, 0, 1⟩
def F.DEVICE_BOOTSTAT_SRAM_OK : Fld := ⟨R.DEVICE_BOOTSTAT, 1, 1⟩
def F.DEVICE_BOOTSTAT_KAT_OK : Fld := ⟨R.DEVICE_BOOTSTAT, 2, 1⟩
def F.DEVICE_BOOTSTAT_OTP_OK : Fld := ⟨R.DEVICE_BOOTSTAT, 3, 1⟩
def F.DEVICE_BOOTSTAT_CRATE_OK : Fld := ⟨R.DEVICE_BOOTSTAT, 4, 1⟩
def F.DEVICE_BOOTSTAT_CRATE_FALLBACK : Fld := ⟨R.DEVICE_BOOTSTAT, 5, 1⟩
def F.DEVICE_BOOTSTAT_PENDING_PROMOTED : Fld := ⟨R.DEVICE_BOOTSTAT, 6, 1⟩
def F.DEVICE_BOOTSTAT_XCHK_OK : Fld := ⟨R.DEVICE_BOOTSTAT, 7, 1⟩
def F.DEVICE_BOOTSTAT_SLICES_RETIRED : Fld := ⟨R.DEVICE_BOOTSTAT, 8, 5⟩
def F.DEVICE_BOOTSTAT_TDAC_FAULT : Fld := ⟨R.DEVICE_BOOTSTAT, 13, 1⟩
def F.DEVICE_BOOTSTAT_REF_FAULT : Fld := ⟨R.DEVICE_BOOTSTAT, 14, 1⟩
def F.DEVICE_BOOTSTAT_BARRIER_OK : Fld := ⟨R.DEVICE_BOOTSTAT, 15, 1⟩
def F.DEVICE_STRAPS_OSCWAIT : Fld := ⟨R.DEVICE_STRAPS, 0, 2⟩
def F.DEVICE_STRAPS_CLKSRC : Fld := ⟨R.DEVICE_STRAPS, 2, 1⟩
def F.DEVICE_STRAPS_LEGACY : Fld := ⟨R.DEVICE_STRAPS, 3, 1⟩
def F.DEVICE_STRAPS_CLAIM : Fld := ⟨R.DEVICE_STRAPS, 4, 1⟩
def F.DEVICE_RESTORE_SAFE : Fld := ⟨R.DEVICE_RESTORE, 0, 1⟩
def F.DEVICE_RESTORE_FIELD : Fld := ⟨R.DEVICE_RESTORE, 1, 1⟩
def F.DEVICE_RESTORE_LOGIC : Fld := ⟨R.DEVICE_RESTORE, 2, 1⟩
def F.DEVICE_RESTORE_COMMISSION : Fld := ⟨R.DEVICE_RESTORE, 3, 1⟩
def F.DEVICE_BOOT_EPOCH_EPOCH : Fld := ⟨R.DEVICE_BOOT_EPOCH, 0, 32⟩
def F.ID_TYPE (page : Nat) : Fld := ⟨R.ID page, 16, 16⟩
def F.ID_INSTANCE (page : Nat) : Fld := ⟨R.ID page, 8, 8⟩
def F.ID_REVISION (page : Nat) : Fld := ⟨R.ID page, 0, 8⟩
def F.CTRL_EN (page : Nat) : Fld := ⟨R.CTRL page, 0, 1⟩
def F.CTRL_BRESET (page : Nat) : Fld := ⟨R.CTRL page, 1, 1⟩
def F.STATUS_BUSY (page : Nat) : Fld := ⟨R.STATUS page, 0, 1⟩
def F.STATUS_PENDING (page : Nat) : Fld := ⟨R.STATUS page, 1, 1⟩
def F.STATUS_FAULT (page : Nat) : Fld := ⟨R.STATUS page, 2, 1⟩
def F.STATUS_SPARED (page : Nat) : Fld := ⟨R.STATUS page, 3, 1⟩
def F.EVT_RAW_causes (page : Nat) : Fld := ⟨R.EVT_RAW page, 0, 32⟩
def F.EVT_EN_enables (page : Nat) : Fld := ⟨R.EVT_EN page, 0, 32⟩
def F.EVT_ACT_active (page : Nat) : Fld := ⟨R.EVT_ACT page, 0, 32⟩
def F.INJECT_inject (page : Nat) : Fld := ⟨R.INJECT page, 0, 32⟩
def F.CLASS_REFUSED (page : Nat) : Fld := ⟨R.CLASS page, 0, 8⟩
def F.CLASS_LAST_OFFSET (page : Nat) : Fld := ⟨R.CLASS page, 8, 8⟩
def F.CLASS_LAST_REASON (page : Nat) : Fld := ⟨R.CLASS page, 16, 3⟩
def F.CLASS_LOCKED (page : Nat) : Fld := ⟨R.CLASS page, 24, 1⟩
def F.CLASS_SESS_OK (page : Nat) : Fld := ⟨R.CLASS page, 25, 1⟩
def F.CLASS_CLR (page : Nat) : Fld := ⟨R.CLASS page, 31, 1⟩
def F.GEN_GEN (page : Nat) : Fld := ⟨R.GEN page, 0, 32⟩
def F.BARRIER_LINK_LINK_UP : Fld := ⟨R.BARRIER_LINK, 0, 1⟩
def F.BARRIER_LINK_QUARTER : Fld := ⟨R.BARRIER_LINK, 1, 1⟩
def F.BARRIER_LINK_LANES : Fld := ⟨R.BARRIER_LINK, 2, 3⟩
def F.BARRIER_LINK_SINGLE : Fld := ⟨R.BARRIER_LINK, 5, 1⟩
def F.BARRIER_LINK_QUEUE : Fld := ⟨R.BARRIER_LINK, 8, 8⟩
def F.TERM_CELL_FUNC (n : Nat) : Fld := ⟨R.TERM_CELL n, 0, 4⟩
def F.TERM_CELLSTAT_FUNC_ACT (n : Nat) : Fld := ⟨R.TERM_CELLSTAT n, 0, 4⟩
def F.TERM_CELLSTAT_DRIVEN (n : Nat) : Fld := ⟨R.TERM_CELLSTAT n, 4, 1⟩
def F.TERM_CELLSTAT_SENSED (n : Nat) : Fld := ⟨R.TERM_CELLSTAT n, 5, 1⟩
def F.TERM_CELLSTAT_GATE_OPEN (n : Nat) : Fld := ⟨R.TERM_CELLSTAT n, 6, 1⟩
def F.TERM_CELLSTAT_SHUNT_OPEN (n : Nat) : Fld := ⟨R.TERM_CELLSTAT n, 7, 1⟩
def F.TERM_CELLSTAT_GROUP (n : Nat) : Fld := ⟨R.TERM_CELLSTAT n, 8, 2⟩
def F.TERM_CELLSTAT_SOURCE (n : Nat) : Fld := ⟨R.TERM_CELLSTAT n, 12, 4⟩
def F.TERM_SENSE_LO_INPUTS (n : Nat) : Fld := ⟨R.TERM_SENSE_LO n, 0, 32⟩
def F.TERM_SENSE_HI_INPUTS (n : Nat) : Fld := ⟨R.TERM_SENSE_HI n, 0, 4⟩
def F.XPT_DRIVE_SOURCE (k : Nat) : Fld := ⟨R.XPT_DRIVE k, 0, 4⟩
def F.XPT_VFAIL_REASON : Fld := ⟨R.XPT_VFAIL, 0, 4⟩
def F.XPT_VFAIL_SET : Fld := ⟨R.XPT_VFAIL, 8, 6⟩
def F.XPT_VFAIL_TERMINAL : Fld := ⟨R.XPT_VFAIL, 16, 5⟩
def F.XPT_VFAIL_COUNT : Fld := ⟨R.XPT_VFAIL, 24, 8⟩
def F.XPT_CFG_TDAC_USER : Fld := ⟨R.XPT_CFG, 0, 1⟩
def F.XPT_SET_A_POS (k : Nat) : Fld := ⟨R.XPT_SET_A k, 0, 6⟩
def F.XPT_SET_A_NEG (k : Nat) : Fld := ⟨R.XPT_SET_A k, 8, 6⟩
def F.XPT_SET_A_VALID (k : Nat) : Fld := ⟨R.XPT_SET_A k, 24, 1⟩
def F.XPT_SET_B_TERM0 (k : Nat) : Fld := ⟨R.XPT_SET_B k, 0, 5⟩
def F.XPT_SET_B_SRC0 (k : Nat) : Fld := ⟨R.XPT_SET_B k, 8, 4⟩
def F.XPT_SET_B_TERM1 (k : Nat) : Fld := ⟨R.XPT_SET_B k, 16, 5⟩
def F.XPT_SET_B_SRC1 (k : Nat) : Fld := ⟨R.XPT_SET_B k, 24, 4⟩
def F.EXC_SINE_CFG_MODE (k : Nat) : Fld := ⟨R.EXC_SINE_CFG k, 0, 1⟩
def F.EXC_SINE_CTL_EN (k : Nat) : Fld := ⟨R.EXC_SINE_CTL k, 0, 1⟩
def F.EXC_SINE_FREQ_FREQ (k : Nat) : Fld := ⟨R.EXC_SINE_FREQ k, 0, 32⟩
def F.EXC_SINE_AMPL_AMPL (k : Nat) : Fld := ⟨R.EXC_SINE_AMPL k, 0, 16⟩
def F.EXC_SINE_STAT_BUSY (k : Nat) : Fld := ⟨R.EXC_SINE_STAT k, 0, 1⟩
def F.EXC_SINE_STAT_PENDING (k : Nat) : Fld := ⟨R.EXC_SINE_STAT k, 1, 1⟩
def F.EXC_SINE_STAT_RUNNING (k : Nat) : Fld := ⟨R.EXC_SINE_STAT k, 2, 1⟩
def F.EXC_SINE_STAT_COMPL (k : Nat) : Fld := ⟨R.EXC_SINE_STAT k, 3, 1⟩
def F.EXC_SINE_STAT_AMPL_ERR (k : Nat) : Fld := ⟨R.EXC_SINE_STAT k, 4, 1⟩
def F.EXC_SINE_MON_MON (k : Nat) : Fld := ⟨R.EXC_SINE_MON k, 0, 16⟩
def F.EXC_IDC_LEVEL (k : Nat) : Fld := ⟨R.EXC_IDC k, 0, 10⟩
def F.EXC_IDC_EN (k : Nat) : Fld := ⟨R.EXC_IDC k, 16, 1⟩
def F.EXC_IDCSTAT_ON (k : Nat) : Fld := ⟨R.EXC_IDCSTAT k, 0, 1⟩
def F.EXC_IDCSTAT_COMPL (k : Nat) : Fld := ⟨R.EXC_IDCSTAT k, 1, 1⟩
def F.EXC_VBIAS_OVL : Fld := ⟨R.EXC_VBIAS, 0, 1⟩
def F.EXC_VBIAS_CURRENT : Fld := ⟨R.EXC_VBIAS, 16, 16⟩
def F.EXC_TDAC_CODE : Fld := ⟨R.EXC_TDAC, 0, 12⟩
def F.EXC_TDAC_OWNER : Fld := ⟨R.EXC_TDAC, 16, 1⟩
def F.EXC_REF_ACTIVE : Fld := ⟨R.EXC_REF, 0, 1⟩
def F.EXC_REF_EXT_OK : Fld := ⟨R.EXC_REF, 1, 1⟩
def F.EXC_REF_SPARE_AVAIL : Fld := ⟨R.EXC_REF, 2, 1⟩
def F.EXC_REF_DIFF : Fld := ⟨R.EXC_REF, 16, 16⟩
def F.EXC_BLANK_CFG_PIN_EN : Fld := ⟨R.EXC_BLANK_CFG, 0, 1⟩
def F.EXC_BLANK_CFG_PIN_POL : Fld := ⟨R.EXC_BLANK_CFG, 1, 1⟩
def F.EXC_BLANK_CFG_GUARD : Fld := ⟨R.EXC_BLANK_CFG, 16, 10⟩
def F.EXC_BLANK_MAX_MAXLEN : Fld := ⟨R.EXC_BLANK_MAX, 0, 16⟩
def F.EXC_BLANK_STAT_ACTIVE : Fld := ⟨R.EXC_BLANK_STAT, 0, 1⟩
def F.EXC_BLANK_STAT_GUARD_ON : Fld := ⟨R.EXC_BLANK_STAT, 1, 1⟩
def F.EXC_BLANK_STAT_PIN : Fld := ⟨R.EXC_BLANK_STAT, 2, 1⟩
def F.EXC_BLANK_STAT_DI : Fld := ⟨R.EXC_BLANK_STAT, 3, 1⟩
def F.EXC_BLANK_STAT_STUCK : Fld := ⟨R.EXC_BLANK_STAT, 4, 1⟩
def F.EXC_BLANK_STAT_COUNT : Fld := ⟨R.EXC_BLANK_STAT, 16, 16⟩
def F.SLICE_ROLE_ROLE (s : Nat) : Fld := ⟨R.SLICE_ROLE s, 0, 3⟩
def F.SLICE_ROLE_PROG (s : Nat) : Fld := ⟨R.SLICE_ROLE s, 8, 4⟩
def F.SLICE_ROLE_PROG_VALID (s : Nat) : Fld := ⟨R.SLICE_ROLE s, 15, 1⟩
def F.SLICE_ROLE_SHADOW (s : Nat) : Fld := ⟨R.SLICE_ROLE s, 16, 5⟩
def F.SLICE_HEALTH_STRIKES (s : Nat) : Fld := ⟨R.SLICE_HEALTH s, 0, 4⟩
def F.SLICE_HEALTH_LAST_TEST (s : Nat) : Fld := ⟨R.SLICE_HEALTH s, 4, 4⟩
def F.SLICE_HEALTH_GAIN_DEV (s : Nat) : Fld := ⟨R.SLICE_HEALTH s, 16, 16⟩
def F.SLICE_URGCOUNT_URG_DROP (s : Nat) : Fld := ⟨R.SLICE_URGCOUNT s, 0, 16⟩
def F.SLICE_URGCOUNT_URG_DONE (s : Nat) : Fld := ⟨R.SLICE_URGCOUNT s, 16, 16⟩
def F.SLICE_MODSTAT_INSTABLE (s : Nat) : Fld := ⟨R.SLICE_MODSTAT s, 0, 1⟩
def F.SLICE_MODSTAT_STUCK (s : Nat) : Fld := ⟨R.SLICE_MODSTAT s, 1, 1⟩
def F.SLICE_MODSTAT_RESETS (s : Nat) : Fld := ⟨R.SLICE_MODSTAT s, 8, 8⟩
def F.SLICE_ROT_CFG_DWELL : Fld := ⟨R.SLICE_ROT_CFG, 0, 16⟩
def F.SLICE_ROT_CFG_EN : Fld := ⟨R.SLICE_ROT_CFG, 16, 1⟩
def F.SLICE_ROT_STAT_CHECK : Fld := ⟨R.SLICE_ROT_STAT, 0, 5⟩
def F.SLICE_ROT_STAT_SPARE : Fld := ⟨R.SLICE_ROT_STAT, 8, 5⟩
def F.SLICE_ROT_STAT_PROG : Fld := ⟨R.SLICE_ROT_STAT, 16, 4⟩
def F.SLICE_ROT_STAT_PHASE : Fld := ⟨R.SLICE_ROT_STAT, 20, 4⟩
def F.SLICE_ROT_COUNT_DWELLS : Fld := ⟨R.SLICE_ROT_COUNT, 0, 16⟩
def F.SLICE_ROT_COUNT_DISAGREE : Fld := ⟨R.SLICE_ROT_COUNT, 16, 8⟩
def F.SLICE_ROT_COUNT_UNRESOLVED : Fld := ⟨R.SLICE_ROT_COUNT, 24, 8⟩
def F.SLICE_URGREQ_PROG : Fld := ⟨R.SLICE_URGREQ, 0, 4⟩
def F.SLICE_URGREQ_CTX : Fld := ⟨R.SLICE_URGREQ, 8, 7⟩
def F.SLICE_URGREQ_COUNT : Fld := ⟨R.SLICE_URGREQ, 16, 12⟩
def F.SLICE_URGSTAT_RESULT : Fld := ⟨R.SLICE_URGSTAT, 0, 2⟩
def F.SLICE_URGSTAT_PROG : Fld := ⟨R.SLICE_URGSTAT, 4, 4⟩
def F.SLICE_URGSTAT_CTX : Fld := ⟨R.SLICE_URGSTAT, 8, 7⟩
def F.SLICE_GRP_SRC (k : Nat) : Fld := ⟨R.SLICE_GRP k, 0, 2⟩
def F.SLICE_GRP_MODE (k : Nat) : Fld := ⟨R.SLICE_GRP k, 4, 1⟩
def F.SLICE_GRP_ARM (k : Nat) : Fld := ⟨R.SLICE_GRP k, 8, 1⟩
def F.SLICE_GRP_ALIGNED (k : Nat) : Fld := ⟨R.SLICE_GRP k, 9, 1⟩
def F.SLICE_GRP_TRIGGERS (k : Nat) : Fld := ⟨R.SLICE_GRP k, 16, 16⟩
def F.FILT_CFG_NTAPS (u : Nat) : Fld := ⟨R.FILT_CFG u, 0, 8⟩
def F.FILT_CFG_DEC (u : Nat) : Fld := ⟨R.FILT_CFG u, 8, 3⟩
def F.FILT_COMMIT_GO (u : Nat) : Fld := ⟨R.FILT_COMMIT u, 0, 1⟩
def F.FILT_INFO_SPAN (u : Nat) : Fld := ⟨R.FILT_INFO u, 0, 8⟩
def F.FILT_INFO_READY (u : Nat) : Fld := ⟨R.FILT_INFO u, 8, 1⟩
def F.FILT_INFO_GAINOK (u : Nat) : Fld := ⟨R.FILT_INFO u, 9, 1⟩
def F.FILT_DCGAIN_DCGAIN (u : Nat) : Fld := ⟨R.FILT_DCGAIN u, 0, 32⟩
def F.FILT_USERS_PROGS (u : Nat) : Fld := ⟨R.FILT_USERS u, 0, 16⟩
def F.FILT_USERS_CTXS (u : Nat) : Fld := ⟨R.FILT_USERS u, 16, 8⟩
def F.FILT_REFUSE_COUNT (u : Nat) : Fld := ⟨R.FILT_REFUSE u, 0, 16⟩
def F.FILT_COEF_H (u : Nat) (k : Nat) : Fld := ⟨R.FILT_COEF u k, 0, 24⟩
def F.SEQ_PROG_START (k : Nat) : Fld := ⟨R.SEQ_PROG k, 0, 9⟩
def F.SEQ_PROG_LEAN (k : Nat) : Fld := ⟨R.SEQ_PROG k, 9, 1⟩
def F.SEQ_PROG_GROUP (k : Nat) : Fld := ⟨R.SEQ_PROG k, 10, 2⟩
def F.SEQ_PROG_VALID (k : Nat) : Fld := ⟨R.SEQ_PROG k, 15, 1⟩
def F.SEQ_PROG_TMO (k : Nat) : Fld := ⟨R.SEQ_PROG k, 16, 16⟩
def F.SEQ_PSTAT_ENTRY (k : Nat) : Fld := ⟨R.SEQ_PSTAT k, 0, 9⟩
def F.SEQ_PSTAT_REMAIN (k : Nat) : Fld := ⟨R.SEQ_PSTAT k, 12, 13⟩
def F.SEQ_PSTAT_STATE (k : Nat) : Fld := ⟨R.SEQ_PSTAT k, 28, 3⟩
def F.SEQ_GWAIT_TRIG (k : Nat) : Fld := ⟨R.SEQ_GWAIT k, 0, 1⟩
def F.SEQ_GWAIT_WAITING (k : Nat) : Fld := ⟨R.SEQ_GWAIT k, 16, 16⟩
def F.SEQ_VFAIL_REASON : Fld := ⟨R.SEQ_VFAIL, 0, 4⟩
def F.SEQ_VFAIL_PROG : Fld := ⟨R.SEQ_VFAIL, 4, 4⟩
def F.SEQ_VFAIL_ENTRY : Fld := ⟨R.SEQ_VFAIL, 8, 9⟩
def F.SEQ_VFAIL_CTX : Fld := ⟨R.SEQ_VFAIL, 24, 7⟩
def F.SEQ_VFAIL_CTXV : Fld := ⟨R.SEQ_VFAIL, 31, 1⟩
def F.SEQ_TMOCOUNT_COUNT : Fld := ⟨R.SEQ_TMOCOUNT, 0, 16⟩
def F.SEQ_TMOCOUNT_PROG : Fld := ⟨R.SEQ_TMOCOUNT, 16, 4⟩
def F.SEQTAB_W0_CTX (e : Nat) : Fld := ⟨R.SEQTAB_W0 e, 0, 7⟩
def F.SEQTAB_W0_REPEAT (e : Nat) : Fld := ⟨R.SEQTAB_W0 e, 8, 12⟩
def F.SEQTAB_W0_LOOP_END (e : Nat) : Fld := ⟨R.SEQTAB_W0 e, 28, 1⟩
def F.SEQTAB_W0_SYNC_WAIT (e : Nat) : Fld := ⟨R.SEQTAB_W0 e, 29, 1⟩
def F.SEQTAB_W0_CHECK_OK (e : Nat) : Fld := ⟨R.SEQTAB_W0 e, 30, 1⟩
def F.SEQTAB_W1_PREDELAY (e : Nat) : Fld := ⟨R.SEQTAB_W1 e, 0, 16⟩
def F.CTX_CFG_SET (n : Nat) : Fld := ⟨R.CTX_CFG n, 0, 6⟩
def F.CTX_CFG_RANGE (n : Nat) : Fld := ⟨R.CTX_CFG n, 8, 3⟩
def F.CTX_CFG_REFSEL (n : Nat) : Fld := ⟨R.CTX_CFG n, 12, 2⟩
def F.CTX_CFG_BURNOUT (n : Nat) : Fld := ⟨R.CTX_CFG n, 16, 3⟩
def F.CTX_CFG_DIR (n : Nat) : Fld := ⟨R.CTX_CFG n, 19, 1⟩
def F.CTX_CFG_BLANK_EN (n : Nat) : Fld := ⟨R.CTX_CFG n, 20, 1⟩
def F.CTX_CFG_FREEZE (n : Nat) : Fld := ⟨R.CTX_CFG n, 21, 1⟩
def F.CTX_CFG_VALID (n : Nat) : Fld := ⟨R.CTX_CFG n, 24, 1⟩
def F.CTX_CFG_SEALKEY (n : Nat) : Fld := ⟨R.CTX_CFG n, 28, 4⟩
def F.CTX_AR_EN (n : Nat) : Fld := ⟨R.CTX_AR n, 0, 1⟩
def F.CTX_AR_AR_MIN (n : Nat) : Fld := ⟨R.CTX_AR n, 4, 3⟩
def F.CTX_AR_AR_MAX (n : Nat) : Fld := ⟨R.CTX_AR n, 8, 3⟩
def F.CTX_AR_UP (n : Nat) : Fld := ⟨R.CTX_AR n, 12, 8⟩
def F.CTX_AR_DOWN (n : Nat) : Fld := ⟨R.CTX_AR n, 20, 8⟩
def F.CTX_AR_DOWN_N (n : Nat) : Fld := ⟨R.CTX_AR n, 28, 4⟩
def F.CTX_EXCDEP_EXC (n : Nat) : Fld := ⟨R.CTX_EXCDEP n, 0, 4⟩
def F.CTX_EXCDEP_IDC (n : Nat) : Fld := ⟨R.CTX_EXCDEP n, 4, 4⟩
def F.CTX_DEMOD_SRC (n : Nat) : Fld := ⟨R.CTX_DEMOD n, 0, 3⟩
def F.CTX_PHASE_PHASE (n : Nat) : Fld := ⟨R.CTX_PHASE n, 0, 16⟩
def F.CTX_PHASE_OUT (n : Nat) : Fld := ⟨R.CTX_PHASE n, 16, 2⟩
def F.CTX_FILTER_S2 (n : Nat) : Fld := ⟨R.CTX_FILTER n, 0, 5⟩
def F.CTX_FILTER_DCB_EN (n : Nat) : Fld := ⟨R.CTX_FILTER n, 8, 1⟩
def F.CTX_FILTER_DCB_FRZ (n : Nat) : Fld := ⟨R.CTX_FILTER n, 9, 1⟩
def F.CTX_FILTER_MA_SLIDE (n : Nat) : Fld := ⟨R.CTX_FILTER n, 10, 1⟩
def F.CTX_FILTER_DCB_LEN (n : Nat) : Fld := ⟨R.CTX_FILTER n, 16, 15⟩
def F.CTX_MA_MA_LEN (n : Nat) : Fld := ⟨R.CTX_MA n, 0, 16⟩
def F.CTX_WIN_LEN (n : Nat) : Fld := ⟨R.CTX_WIN n, 0, 16⟩
def F.CTX_WIN_BYTIME (n : Nat) : Fld := ⟨R.CTX_WIN n, 16, 1⟩
def F.CTX_WIN_T_TICKS (n : Nat) : Fld := ⟨R.CTX_WIN_T n, 0, 32⟩
def F.CTX_FMT_ALIGN (n : Nat) : Fld := ⟨R.CTX_FMT n, 0, 1⟩
def F.CTX_FMT_CODING (n : Nat) : Fld := ⟨R.CTX_FMT n, 1, 1⟩
def F.CTX_PLAUS_LIMIT (n : Nat) : Fld := ⟨R.CTX_PLAUS n, 0, 16⟩
def F.CTX_URG_PROGS (n : Nat) : Fld := ⟨R.CTX_URG n, 0, 16⟩
def F.CTX_UCAL_OFS_OFS (n : Nat) : Fld := ⟨R.CTX_UCAL_OFS n, 0, 24⟩
def F.CTX_UCAL_GAIN_GAIN (n : Nat) : Fld := ⟨R.CTX_UCAL_GAIN n, 0, 24⟩
def F.CTX_CTXSTAT_RANGE_ACT (n : Nat) : Fld := ⟨R.CTX_CTXSTAT n, 0, 3⟩
def F.CTX_CTXSTAT_RUNNING (n : Nat) : Fld := ⟨R.CTX_CTXSTAT n, 4, 1⟩
def F.CTX_CTXSTAT_SETTLED (n : Nat) : Fld := ⟨R.CTX_CTXSTAT n, 5, 1⟩
def F.CTX_CTXSTAT_URGENT (n : Nat) : Fld := ⟨R.CTX_CTXSTAT n, 6, 1⟩
def F.CTX_CTXSTAT_PROG (n : Nat) : Fld := ⟨R.CTX_CTXSTAT n, 8, 4⟩
def F.CTX_CTXSTAT_SLICE (n : Nat) : Fld := ⟨R.CTX_CTXSTAT n, 16, 5⟩
def F.CTX_COUNTS_RESETTLE (n : Nat) : Fld := ⟨R.CTX_COUNTS n, 0, 16⟩
def F.CTX_COUNTS_URG_DROP (n : Nat) : Fld := ⟨R.CTX_COUNTS n, 16, 16⟩
def F.CTX_ARCOUNT_UP (n : Nat) : Fld := ⟨R.CTX_ARCOUNT n, 0, 16⟩
def F.CTX_ARCOUNT_DOWN (n : Nat) : Fld := ⟨R.CTX_ARCOUNT n, 16, 16⟩
def F.CTX_TH_A_LEVEL_LEVEL (n : Nat) : Fld := ⟨R.CTX_TH_A_LEVEL n, 0, 24⟩
def F.CTX_TH_B_LEVEL_LEVEL (n : Nat) : Fld := ⟨R.CTX_TH_B_LEVEL n, 0, 24⟩
def F.CTX_TH_A_HYST_HYST (n : Nat) : Fld := ⟨R.CTX_TH_A_HYST n, 0, 23⟩
def F.CTX_TH_B_HYST_HYST (n : Nat) : Fld := ⟨R.CTX_TH_B_HYST n, 0, 23⟩
def F.CTX_TH_A_CFG_EN (n : Nat) : Fld := ⟨R.CTX_TH_A_CFG n, 0, 1⟩
def F.CTX_TH_B_CFG_EN (n : Nat) : Fld := ⟨R.CTX_TH_B_CFG n, 0, 1⟩
def F.CTX_TH_A_CFG_DIR (n : Nat) : Fld := ⟨R.CTX_TH_A_CFG n, 1, 1⟩
def F.CTX_TH_B_CFG_DIR (n : Nat) : Fld := ⟨R.CTX_TH_B_CFG n, 1, 1⟩
def F.CTX_TH_A_CFG_INIT (n : Nat) : Fld := ⟨R.CTX_TH_A_CFG n, 2, 1⟩
def F.CTX_TH_B_CFG_INIT (n : Nat) : Fld := ⟨R.CTX_TH_B_CFG n, 2, 1⟩
def F.CTX_TH_A_CFG_CONFIRM (n : Nat) : Fld := ⟨R.CTX_TH_A_CFG n, 4, 4⟩
def F.CTX_TH_B_CFG_CONFIRM (n : Nat) : Fld := ⟨R.CTX_TH_B_CFG n, 4, 4⟩
def F.CTX_THSTAT_A_STATE (n : Nat) : Fld := ⟨R.CTX_THSTAT n, 0, 1⟩
def F.CTX_THSTAT_B_STATE (n : Nat) : Fld := ⟨R.CTX_THSTAT n, 1, 1⟩
def F.CTX_THSTAT_A_VALID (n : Nat) : Fld := ⟨R.CTX_THSTAT n, 2, 1⟩
def F.CTX_THSTAT_B_VALID (n : Nat) : Fld := ⟨R.CTX_THSTAT n, 3, 1⟩
def F.CTX_THSTAT_HELD (n : Nat) : Fld := ⟨R.CTX_THSTAT n, 4, 1⟩
def F.CTX_THCOUNT_A (n : Nat) : Fld := ⟨R.CTX_THCOUNT n, 0, 16⟩
def F.CTX_THCOUNT_B (n : Nat) : Fld := ⟨R.CTX_THCOUNT n, 16, 16⟩
def F.CTX_SNAPSTAT_OVERRUN (n : Nat) : Fld := ⟨R.CTX_SNAPSTAT n, 0, 16⟩
def F.CTX_SNAPSTAT_UNREAD (n : Nat) : Fld := ⟨R.CTX_SNAPSTAT n, 16, 1⟩
def F.CTX_LIFE_CLR_GO (n : Nat) : Fld := ⟨R.CTX_LIFE_CLR n, 0, 1⟩
def F.TERM_DI_CFG_TYPE (n : Nat) : Fld := ⟨R.TERM_DI_CFG n, 0, 2⟩
def F.TERM_DI_CFG_CONT (n : Nat) : Fld := ⟨R.TERM_DI_CFG n, 2, 1⟩
def F.TERM_DI_CFG_BLANK_SRC (n : Nat) : Fld := ⟨R.TERM_DI_CFG n, 3, 1⟩
def F.TERM_DI_CFG_BLANK_POL (n : Nat) : Fld := ⟨R.TERM_DI_CFG n, 4, 1⟩
def F.TERM_DI_CFG_ISINK (n : Nat) : Fld := ⟨R.TERM_DI_CFG n, 8, 4⟩
def F.TERM_DI_CFG_HOLD (n : Nat) : Fld := ⟨R.TERM_DI_CFG n, 12, 4⟩
def F.TERM_DI_TIME_PERIOD (n : Nat) : Fld := ⟨R.TERM_DI_TIME n, 0, 14⟩
def F.TERM_DI_TIME_DEBOUNCE (n : Nat) : Fld := ⟨R.TERM_DI_TIME n, 16, 16⟩
def F.TERM_DI_EDGE_EDGE (n : Nat) : Fld := ⟨R.TERM_DI_EDGE n, 0, 2⟩
def F.TERM_DI_EDGE_CHAT_LIM (n : Nat) : Fld := ⟨R.TERM_DI_EDGE n, 8, 8⟩
def F.TERM_DI_EDGE_STUCK_POL (n : Nat) : Fld := ⟨R.TERM_DI_EDGE n, 16, 2⟩
def F.TERM_DI_STUCK_STUCK_T (n : Nat) : Fld := ⟨R.TERM_DI_STUCK n, 0, 16⟩
def F.TERM_DISTAT_STATE (n : Nat) : Fld := ⟨R.TERM_DISTAT n, 0, 1⟩
def F.TERM_DISTAT_RAW (n : Nat) : Fld := ⟨R.TERM_DISTAT n, 1, 1⟩
def F.TERM_DISTAT_VALID (n : Nat) : Fld := ⟨R.TERM_DISTAT n, 2, 1⟩
def F.TERM_DISTAT_CONT_ACT (n : Nat) : Fld := ⟨R.TERM_DISTAT n, 3, 1⟩
def F.TERM_DISTAT_CHATTER (n : Nat) : Fld := ⟨R.TERM_DISTAT n, 4, 1⟩
def F.TERM_DISTAT_STUCK (n : Nat) : Fld := ⟨R.TERM_DISTAT n, 5, 1⟩
def F.TERM_DI_CHAT_COUNT (n : Nat) : Fld := ⟨R.TERM_DI_CHAT n, 0, 16⟩
def F.TERM_DI_CNT_CNT (n : Nat) : Fld := ⟨R.TERM_DI_CNT n, 0, 32⟩
def F.TERM_DI_CNT_WRAPS_WRAPS (n : Nat) : Fld := ⟨R.TERM_DI_CNT_WRAPS n, 0, 16⟩
def F.TERM_DI_CNT_LAST_T_LAST_T (n : Nat) : Fld := ⟨R.TERM_DI_CNT_LAST_T n, 0, 32⟩
def F.TERM_DI_CLR_CNT (n : Nat) : Fld := ⟨R.TERM_DI_CLR n, 0, 1⟩
def F.TERM_DI_CLR_CHAT (n : Nat) : Fld := ⟨R.TERM_DI_CLR n, 1, 1⟩
def F.TERM_DO_CFG_ILIM (n : Nat) : Fld := ⟨R.TERM_DO_CFG n, 0, 7⟩
def F.TERM_DO_CFG_TIE_EN (n : Nat) : Fld := ⟨R.TERM_DO_CFG n, 8, 1⟩
def F.TERM_DO_CFG_TIE (n : Nat) : Fld := ⟨R.TERM_DO_CFG n, 16, 5⟩
def F.TERM_DO_PROT_FOLD_T (n : Nat) : Fld := ⟨R.TERM_DO_PROT n, 0, 8⟩
def F.TERM_DO_PROT_RETRY_T (n : Nat) : Fld := ⟨R.TERM_DO_PROT n, 8, 8⟩
def F.TERM_DO_PROT_RETRY_N (n : Nat) : Fld := ⟨R.TERM_DO_PROT n, 16, 4⟩
def F.TERM_DO_PROT_THERM_N (n : Nat) : Fld := ⟨R.TERM_DO_PROT n, 20, 4⟩
def F.TERM_DO_DIAG_OW_EN (n : Nat) : Fld := ⟨R.TERM_DO_DIAG n, 0, 1⟩
def F.TERM_DO_DIAG_TP_EN (n : Nat) : Fld := ⟨R.TERM_DO_DIAG n, 1, 1⟩
def F.TERM_DO_DIAG_IMIN (n : Nat) : Fld := ⟨R.TERM_DO_DIAG n, 2, 6⟩
def F.TERM_DO_DIAG_TP_W (n : Nat) : Fld := ⟨R.TERM_DO_DIAG n, 8, 6⟩
def F.TERM_DO_DIAG_TP_PERIOD (n : Nat) : Fld := ⟨R.TERM_DO_DIAG n, 16, 16⟩
def F.TERM_DO_CMD_ON (n : Nat) : Fld := ⟨R.TERM_DO_CMD n, 0, 1⟩
def F.TERM_DO_STAT_CMD (n : Nat) : Fld := ⟨R.TERM_DO_STAT n, 0, 1⟩
def F.TERM_DO_STAT_ON (n : Nat) : Fld := ⟨R.TERM_DO_STAT n, 1, 1⟩
def F.TERM_DO_STAT_CAUSE (n : Nat) : Fld := ⟨R.TERM_DO_STAT n, 2, 3⟩
def F.TERM_DO_STAT_LIMIT (n : Nat) : Fld := ⟨R.TERM_DO_STAT n, 5, 1⟩
def F.TERM_DO_STAT_OVERLOAD (n : Nat) : Fld := ⟨R.TERM_DO_STAT n, 6, 1⟩
def F.TERM_DO_STAT_THERMAL (n : Nat) : Fld := ⟨R.TERM_DO_STAT n, 7, 1⟩
def F.TERM_DO_STAT_OPEN_WIRE (n : Nat) : Fld := ⟨R.TERM_DO_STAT n, 8, 1⟩
def F.TERM_DO_STAT_BACKFEED (n : Nat) : Fld := ⟨R.TERM_DO_STAT n, 9, 1⟩
def F.TERM_DO_STAT_REVERSE (n : Nat) : Fld := ⟨R.TERM_DO_STAT n, 10, 1⟩
def F.TERM_DO_STAT_LATCHED (n : Nat) : Fld := ⟨R.TERM_DO_STAT n, 11, 1⟩
def F.TERM_DO_STAT_SEG_FAIL (n : Nat) : Fld := ⟨R.TERM_DO_STAT n, 12, 1⟩
def F.TERM_DO_STAT_CLAMP (n : Nat) : Fld := ⟨R.TERM_DO_STAT n, 13, 1⟩
def F.TERM_DO_STAT_TESTING (n : Nat) : Fld := ⟨R.TERM_DO_STAT n, 14, 1⟩
def F.TERM_DO_STAT_TIED (n : Nat) : Fld := ⟨R.TERM_DO_STAT n, 15, 1⟩
def F.TERM_DO_MEAS_CURRENT (n : Nat) : Fld := ⟨R.TERM_DO_MEAS n, 0, 16⟩
def F.TERM_DO_MEAS_VTERM (n : Nat) : Fld := ⟨R.TERM_DO_MEAS n, 16, 16⟩
def F.TERM_DO_SEG_IN_SERVICE (n : Nat) : Fld := ⟨R.TERM_DO_SEG n, 0, 9⟩
def F.TERM_DO_SEG_RETIRED (n : Nat) : Fld := ⟨R.TERM_DO_SEG n, 16, 9⟩
def F.TERM_DO_RON_RON (n : Nat) : Fld := ⟨R.TERM_DO_RON n, 0, 16⟩
def F.TERM_DO_RON_WORST (n : Nat) : Fld := ⟨R.TERM_DO_RON n, 16, 16⟩
def F.TERM_DO_COUNT_OVERLOADS (n : Nat) : Fld := ⟨R.TERM_DO_COUNT n, 0, 16⟩
def F.TERM_DO_COUNT_THERMALS (n : Nat) : Fld := ⟨R.TERM_DO_COUNT n, 16, 16⟩
def F.TERM_DO_TPCOUNT_TESTS (n : Nat) : Fld := ⟨R.TERM_DO_TPCOUNT n, 0, 16⟩
def F.TERM_DO_TPCOUNT_FAILS (n : Nat) : Fld := ⟨R.TERM_DO_TPCOUNT n, 16, 16⟩
def F.TERM_DO_CLR_UNLATCH (n : Nat) : Fld := ⟨R.TERM_DO_CLR n, 0, 1⟩
def F.TERM_DO_CLR_COUNTS (n : Nat) : Fld := ⟨R.TERM_DO_CLR n, 1, 1⟩
def F.TERM_AO_CFG_NE43 (n : Nat) : Fld := ⟨R.TERM_AO_CFG n, 0, 1⟩
def F.TERM_AO_CFG_PMAX (n : Nat) : Fld := ⟨R.TERM_AO_CFG n, 8, 6⟩
def F.TERM_AO_ALARM_LO_LEVEL (n : Nat) : Fld := ⟨R.TERM_AO_ALARM_LO n, 0, 18⟩
def F.TERM_AO_ALARM_HI_LEVEL (n : Nat) : Fld := ⟨R.TERM_AO_ALARM_HI n, 0, 18⟩
def F.TERM_AO_CMD_VALUE (n : Nat) : Fld := ⟨R.TERM_AO_CMD n, 0, 18⟩
def F.TERM_AO_STAT_CAUSE (n : Nat) : Fld := ⟨R.TERM_AO_STAT n, 0, 3⟩
def F.TERM_AO_STAT_NE43_CLAMP (n : Nat) : Fld := ⟨R.TERM_AO_STAT n, 3, 1⟩
def F.TERM_AO_STAT_COMPLIANCE (n : Nat) : Fld := ⟨R.TERM_AO_STAT n, 4, 1⟩
def F.TERM_AO_STAT_OPEN_LOOP (n : Nat) : Fld := ⟨R.TERM_AO_STAT n, 5, 1⟩
def F.TERM_AO_STAT_THERM_LIM (n : Nat) : Fld := ⟨R.TERM_AO_STAT n, 6, 1⟩
def F.TERM_AO_STAT_THERMAL (n : Nat) : Fld := ⟨R.TERM_AO_STAT n, 7, 1⟩
def F.TERM_AO_STAT_OVERLOAD (n : Nat) : Fld := ⟨R.TERM_AO_STAT n, 8, 1⟩
def F.TERM_AO_STAT_STEP_FAULT (n : Nat) : Fld := ⟨R.TERM_AO_STAT n, 9, 1⟩
def F.TERM_AO_STAT_READBACK (n : Nat) : Fld := ⟨R.TERM_AO_STAT n, 10, 1⟩
def F.TERM_AO_STAT_RAMPING (n : Nat) : Fld := ⟨R.TERM_AO_STAT n, 11, 1⟩
def F.TERM_AO_MEAS_CURRENT (n : Nat) : Fld := ⟨R.TERM_AO_MEAS n, 0, 16⟩
def F.TERM_AO_MEAS_VTERM (n : Nat) : Fld := ⟨R.TERM_AO_MEAS n, 16, 16⟩
def F.TERM_AO_RAIL_SOURCE (n : Nat) : Fld := ⟨R.TERM_AO_RAIL n, 0, 2⟩
def F.TERM_AO_RAIL_HEADROOM (n : Nat) : Fld := ⟨R.TERM_AO_RAIL n, 8, 8⟩
def F.TERM_AO_RAIL_PDISS (n : Nat) : Fld := ⟨R.TERM_AO_RAIL n, 16, 16⟩
def F.TERM_AO_GRP_LOW (n : Nat) : Fld := ⟨R.TERM_AO_GRP n, 0, 16⟩
def F.TERM_AO_GRP_HIGH (n : Nat) : Fld := ⟨R.TERM_AO_GRP n, 16, 16⟩
def F.TERM_AO_COUNT_COMPLIANCE (n : Nat) : Fld := ⟨R.TERM_AO_COUNT n, 0, 16⟩
def F.TERM_AO_COUNT_THERM_LIM (n : Nat) : Fld := ⟨R.TERM_AO_COUNT n, 16, 16⟩
def F.TERM_AO_CLR_COUNTS (n : Nat) : Fld := ⟨R.TERM_AO_CLR n, 0, 1⟩
def F.FSUP_GRP_MON_UV (k : Nat) : Fld := ⟨R.FSUP_GRP_MON k, 0, 10⟩
def F.FSUP_GRP_MON_LOW (k : Nat) : Fld := ⟨R.FSUP_GRP_MON k, 10, 10⟩
def F.FSUP_GRP_MON_WARN (k : Nat) : Fld := ⟨R.FSUP_GRP_MON k, 20, 10⟩
def F.FSUP_GRP_POL_POLICY (k : Nat) : Fld := ⟨R.FSUP_GRP_POL k, 0, 2⟩
def F.FSUP_GRP_POL_RESTORE (k : Nat) : Fld := ⟨R.FSUP_GRP_POL k, 4, 1⟩
def F.FSUP_GRP_POL_SHED_STEP (k : Nat) : Fld := ⟨R.FSUP_GRP_POL k, 8, 8⟩
def F.FSUP_GRP_POL_STAGGER (k : Nat) : Fld := ⟨R.FSUP_GRP_POL k, 16, 8⟩
def F.FSUP_GRP_STAT_VOLT (k : Nat) : Fld := ⟨R.FSUP_GRP_STAT k, 0, 16⟩
def F.FSUP_GRP_STAT_WARN (k : Nat) : Fld := ⟨R.FSUP_GRP_STAT k, 16, 1⟩
def F.FSUP_GRP_STAT_LOW (k : Nat) : Fld := ⟨R.FSUP_GRP_STAT k, 17, 1⟩
def F.FSUP_GRP_STAT_UV (k : Nat) : Fld := ⟨R.FSUP_GRP_STAT k, 18, 1⟩
def F.FSUP_GRP_STAT_SHEDDING (k : Nat) : Fld := ⟨R.FSUP_GRP_STAT k, 19, 1⟩
def F.FSUP_GRP_STAT_RECOVERING (k : Nat) : Fld := ⟨R.FSUP_GRP_STAT k, 20, 1⟩
def F.FSUP_GRP_CURR_CURRENT (k : Nat) : Fld := ⟨R.FSUP_GRP_CURR k, 0, 16⟩
def F.FSUP_GRP_ILIM_LIMIT (k : Nat) : Fld := ⟨R.FSUP_GRP_ILIM k, 0, 13⟩
def F.FSUP_BWDOG_TIME : Fld := ⟨R.FSUP_BWDOG, 0, 14⟩
def F.FSUP_BWSTAT_EXPIRED : Fld := ⟨R.FSUP_BWSTAT, 0, 1⟩
def F.FSUP_BWSTAT_RELEASE : Fld := ⟨R.FSUP_BWSTAT, 1, 1⟩
def F.FSUP_BWSTAT_COUNT : Fld := ⟨R.FSUP_BWSTAT, 16, 16⟩
def F.FSUP_PKG_CFG_PMAX : Fld := ⟨R.FSUP_PKG_CFG, 0, 9⟩
def F.FSUP_PKG_CFG_ACTION : Fld := ⟨R.FSUP_PKG_CFG, 12, 2⟩
def F.FSUP_PKG_CFG_ILIM : Fld := ⟨R.FSUP_PKG_CFG, 16, 16⟩
def F.FSUP_PKG_STAT_PDISS : Fld := ⟨R.FSUP_PKG_STAT, 0, 16⟩
def F.FSUP_PKG_STAT_OVER_P : Fld := ⟨R.FSUP_PKG_STAT, 16, 1⟩
def F.FSUP_PKG_STAT_OVER_I : Fld := ⟨R.FSUP_PKG_STAT, 17, 1⟩
def F.FSUP_PKG_CURR_CURRENT : Fld := ⟨R.FSUP_PKG_CURR, 0, 16⟩
def F.FSUP_VFAIL_REASON : Fld := ⟨R.FSUP_VFAIL, 0, 4⟩
def F.FSUP_VFAIL_TERMINAL : Fld := ⟨R.FSUP_VFAIL, 8, 5⟩
def F.FSUP_VFAIL_GROUP : Fld := ⟨R.FSUP_VFAIL, 16, 2⟩
def F.FSUP_VFAIL_SCOPE : Fld := ⟨R.FSUP_VFAIL, 20, 2⟩
def F.TERM_SS_CFG_ACTION (n : Nat) : Fld := ⟨R.TERM_SS_CFG n, 0, 3⟩
def F.TERM_SS_CFG_SHED_PRIO (n : Nat) : Fld := ⟨R.TERM_SS_CFG n, 8, 4⟩
def F.TERM_SS_VALUE_VALUE (n : Nat) : Fld := ⟨R.TERM_SS_VALUE n, 0, 18⟩
def F.TERM_SS_FORCE_FORCE (n : Nat) : Fld := ⟨R.TERM_SS_FORCE n, 0, 1⟩
def F.TERM_SS_STAT_ACTIVE (n : Nat) : Fld := ⟨R.TERM_SS_STAT n, 0, 1⟩
def F.TERM_SS_STAT_MODE (n : Nat) : Fld := ⟨R.TERM_SS_STAT n, 1, 1⟩
def F.TERM_SS_STAT_BARRIER (n : Nat) : Fld := ⟨R.TERM_SS_STAT n, 2, 1⟩
def F.TERM_SS_STAT_SUPPLY (n : Nat) : Fld := ⟨R.TERM_SS_STAT n, 3, 1⟩
def F.TERM_SS_STAT_FORCE (n : Nat) : Fld := ⟨R.TERM_SS_STAT n, 4, 1⟩
def F.TERM_SS_STAT_SHED (n : Nat) : Fld := ⟨R.TERM_SS_STAT n, 5, 1⟩
def F.TERM_SS_STAT_UV (n : Nat) : Fld := ⟨R.TERM_SS_STAT n, 6, 1⟩
def F.TERM_SS_STAT_REFLEX (n : Nat) : Fld := ⟨R.TERM_SS_STAT n, 7, 1⟩
def F.TERM_SS_STAT_HELD (n : Nat) : Fld := ⟨R.TERM_SS_STAT n, 14, 18⟩
def F.REFLEX_RULE_A_TERM0 (k : Nat) : Fld := ⟨R.REFLEX_RULE_A k, 0, 16⟩
def F.REFLEX_RULE_A_TERM1 (k : Nat) : Fld := ⟨R.REFLEX_RULE_A k, 16, 16⟩
def F.REFLEX_RULE_B_TERM2 (k : Nat) : Fld := ⟨R.REFLEX_RULE_B k, 0, 16⟩
def F.REFLEX_RULE_B_TERM3 (k : Nat) : Fld := ⟨R.REFLEX_RULE_B k, 16, 16⟩
def F.REFLEX_RULE_C_ACTION (k : Nat) : Fld := ⟨R.REFLEX_RULE_C k, 0, 3⟩
def F.REFLEX_RULE_C_TKIND (k : Nat) : Fld := ⟨R.REFLEX_RULE_C k, 3, 1⟩
def F.REFLEX_RULE_C_TARGET (k : Nat) : Fld := ⟨R.REFLEX_RULE_C k, 4, 5⟩
def F.REFLEX_RULE_C_COMB (k : Nat) : Fld := ⟨R.REFLEX_RULE_C k, 9, 1⟩
def F.REFLEX_RULE_C_LATCH (k : Nat) : Fld := ⟨R.REFLEX_RULE_C k, 10, 1⟩
def F.REFLEX_RULE_C_EN (k : Nat) : Fld := ⟨R.REFLEX_RULE_C k, 11, 1⟩
def F.REFLEX_RULE_C_DELAY (k : Nat) : Fld := ⟨R.REFLEX_RULE_C k, 16, 16⟩
def F.REFLEX_VFAIL_REASON : Fld := ⟨R.REFLEX_VFAIL, 0, 4⟩
def F.REFLEX_VFAIL_RULE : Fld := ⟨R.REFLEX_VFAIL, 8, 6⟩
def F.REFLEX_VFAIL_COUNT : Fld := ⟨R.REFLEX_VFAIL, 24, 8⟩
def F.CAL_SEL_SLICE : Fld := ⟨R.CAL_SEL, 0, 5⟩
def F.CAL_SEL_RANGE : Fld := ⟨R.CAL_SEL, 8, 3⟩
def F.CAL_F_OFS_OFS : Fld := ⟨R.CAL_F_OFS, 0, 24⟩
def F.CAL_S_OFS_OFS : Fld := ⟨R.CAL_S_OFS, 0, 24⟩
def F.CAL_F_GAIN_FACTOR : Fld := ⟨R.CAL_F_GAIN, 0, 24⟩
def F.CAL_S_GAIN_FACTOR : Fld := ⟨R.CAL_S_GAIN, 0, 24⟩
def F.CAL_F_SHUNT_FACTOR : Fld := ⟨R.CAL_F_SHUNT, 0, 24⟩
def F.CAL_REFCAL_A_FACTOR : Fld := ⟨R.CAL_REFCAL_A, 0, 24⟩
def F.CAL_REFCAL_B_FACTOR : Fld := ⟨R.CAL_REFCAL_B, 0, 24⟩
def F.CAL_S_INFO_VALID : Fld := ⟨R.CAL_S_INFO, 0, 1⟩
def F.CAL_S_INFO_TEMP : Fld := ⟨R.CAL_S_INFO, 8, 8⟩
def F.CAL_S_INFO_AGE : Fld := ⟨R.CAL_S_INFO, 16, 16⟩
def F.CAL_AUTO_EN : Fld := ⟨R.CAL_AUTO, 0, 1⟩
def F.CAL_AUTO_INTERVAL : Fld := ⟨R.CAL_AUTO, 8, 8⟩
def F.CAL_AUTO_DT : Fld := ⟨R.CAL_AUTO, 16, 5⟩
def F.CAL_RUN_SLICE : Fld := ⟨R.CAL_RUN, 0, 5⟩
def F.CAL_RUN_PAUSE : Fld := ⟨R.CAL_RUN, 8, 1⟩
def F.CAL_STAT_FACTORY_OK : Fld := ⟨R.CAL_STAT, 0, 1⟩
def F.CAL_STAT_RUNNING : Fld := ⟨R.CAL_STAT, 1, 1⟩
def F.CAL_STAT_SLICE : Fld := ⟨R.CAL_STAT, 2, 5⟩
def F.CAL_STAT_PATH_SKIPPED : Fld := ⟨R.CAL_STAT, 7, 1⟩
def F.CAL_STAT_RESULT : Fld := ⟨R.CAL_STAT, 8, 3⟩
def F.CAL_COUNT_DONE : Fld := ⟨R.CAL_COUNT, 0, 16⟩
def F.CAL_COUNT_REJECT : Fld := ⟨R.CAL_COUNT, 16, 16⟩
def F.CAL_TEMP_TEMP : Fld := ⟨R.CAL_TEMP, 0, 16⟩
def F.CAL_OTPSTAT_SIG_OK : Fld := ⟨R.CAL_OTPSTAT, 0, 1⟩
def F.CAL_OTPSTAT_BAD : Fld := ⟨R.CAL_OTPSTAT, 8, 8⟩
def F.CAL_U_OFS (k : Nat) : Fld := ⟨R.CAL_U k, 0, 16⟩
def F.CAL_U_GAIN (k : Nat) : Fld := ⟨R.CAL_U k, 16, 16⟩
def F.HOST_CFG_DUMMY : Fld := ⟨R.HOST_CFG, 0, 5⟩
def F.HOST_CFG_STB_EN : Fld := ⟨R.HOST_CFG, 8, 1⟩
def F.HOST_LANES_CMD : Fld := ⟨R.HOST_LANES, 0, 2⟩
def F.HOST_LANES_ADDR : Fld := ⟨R.HOST_LANES, 2, 2⟩
def F.HOST_LANES_DATA : Fld := ⟨R.HOST_LANES, 4, 2⟩
def F.HOST_LEGACY_EN : Fld := ⟨R.HOST_LEGACY, 0, 1⟩
def F.HOST_ERR_REASON : Fld := ⟨R.HOST_ERR, 0, 4⟩
def F.HOST_ERR_OPCODE : Fld := ⟨R.HOST_ERR, 8, 8⟩
def F.HOST_ERR_ADDR : Fld := ⟨R.HOST_ERR, 16, 16⟩
def F.HOST_ANOMALY_FRAME_SHORT : Fld := ⟨R.HOST_ANOMALY, 0, 16⟩
def F.HOST_ANOMALY_EXTRA_EDGE : Fld := ⟨R.HOST_ANOMALY, 16, 16⟩
def F.HOST_FERRCOUNT_FERR : Fld := ⟨R.HOST_FERRCOUNT, 0, 16⟩
def F.HOST_FERRCOUNT_BUSY : Fld := ⟨R.HOST_FERRCOUNT, 16, 16⟩
def F.HOST_FRAMES_COUNT : Fld := ⟨R.HOST_FRAMES, 0, 32⟩
def F.HOST_SUMMARY_PAGES : Fld := ⟨R.HOST_SUMMARY, 0, 16⟩
def F.HOST_SUMMARY_TERM : Fld := ⟨R.HOST_SUMMARY, 16, 1⟩
def F.HOST_SUMMARY_SLICE : Fld := ⟨R.HOST_SUMMARY, 17, 1⟩
def F.HOST_SUMMARY_FILT : Fld := ⟨R.HOST_SUMMARY, 18, 1⟩
def F.HOST_SUMMARY_CTX : Fld := ⟨R.HOST_SUMMARY, 19, 1⟩
def F.HOST_SUMMARY_REASON : Fld := ⟨R.HOST_SUMMARY, 24, 4⟩
def F.HOST_CLR_COUNTS : Fld := ⟨R.HOST_CLR, 0, 1⟩
def F.CELLAR_POLICY_APPROVED_REQ : Fld := ⟨R.CELLAR_POLICY, 0, 1⟩
def F.CELLAR_POLICY_TAMPA_EN : Fld := ⟨R.CELLAR_POLICY, 1, 1⟩
def F.CELLAR_POLICY_TAMPA_POL : Fld := ⟨R.CELLAR_POLICY, 2, 1⟩
def F.CELLAR_POLICY_TAMPB_EN : Fld := ⟨R.CELLAR_POLICY, 3, 1⟩
def F.CELLAR_POLICY_TAMPB_POL : Fld := ⟨R.CELLAR_POLICY, 4, 1⟩
def F.CELLAR_POLICY_AUTHLIM : Fld := ⟨R.CELLAR_POLICY, 8, 8⟩
def F.CELLAR_POLICY_BARLIM : Fld := ⟨R.CELLAR_POLICY, 16, 8⟩
def F.CELLAR_DETSTAT_FIRING : Fld := ⟨R.CELLAR_DETSTAT, 0, 11⟩
def F.CELLAR_ALARM_GRADE : Fld := ⟨R.CELLAR_ALARM, 0, 2⟩
def F.CELLAR_ALARM_DET : Fld := ⟨R.CELLAR_ALARM, 4, 4⟩
def F.CELLAR_ALARM_INJECTED : Fld := ⟨R.CELLAR_ALARM, 8, 1⟩
def F.CELLAR_ALARMCNT_NOTICE : Fld := ⟨R.CELLAR_ALARMCNT, 0, 8⟩
def F.CELLAR_ALARMCNT_GUARD : Fld := ⟨R.CELLAR_ALARMCNT, 8, 8⟩
def F.CELLAR_ALARMCNT_PURGE : Fld := ⟨R.CELLAR_ALARMCNT, 16, 8⟩
def F.CELLAR_ALARMCNT_GRAVE : Fld := ⟨R.CELLAR_ALARMCNT, 24, 8⟩
def F.CELLAR_AUTHFAIL_WINDOW : Fld := ⟨R.CELLAR_AUTHFAIL, 0, 8⟩
def F.CELLAR_AUTHFAIL_TOTAL : Fld := ⟨R.CELLAR_AUTHFAIL, 16, 16⟩
def F.CELLAR_HOLDOFF_MS : Fld := ⟨R.CELLAR_HOLDOFF, 0, 16⟩
def F.CELLAR_SESS_ROLE : Fld := ⟨R.CELLAR_SESS, 0, 2⟩
def F.CELLAR_KEYSLOT_OWNER : Fld := ⟨R.CELLAR_KEYSLOT, 0, 2⟩
def F.CELLAR_KEYSLOT_PAIR : Fld := ⟨R.CELLAR_KEYSLOT, 2, 2⟩
def F.CELLAR_KEYSLOT_CONSUMER : Fld := ⟨R.CELLAR_KEYSLOT, 4, 10⟩
def F.CELLAR_KEYSLOT_SPARES : Fld := ⟨R.CELLAR_KEYSLOT, 16, 4⟩
def F.CELLAR_KEYSLOT_RETIRED : Fld := ⟨R.CELLAR_KEYSLOT, 20, 4⟩
def F.CELLAR_SELFTEST_GO : Fld := ⟨R.CELLAR_SELFTEST, 0, 1⟩
def F.CELLAR_ZEROISE_SCOPE : Fld := ⟨R.CELLAR_ZEROISE, 0, 2⟩
def F.CELLAR_ZEROISE_KEY : Fld := ⟨R.CELLAR_ZEROISE, 16, 16⟩
def F.CELLAR_RNGSTAT_REPCOUNT : Fld := ⟨R.CELLAR_RNGSTAT, 0, 8⟩
def F.CELLAR_RNGSTAT_ADAPTIVE : Fld := ⟨R.CELLAR_RNGSTAT, 8, 8⟩
def F.CELLAR_VFAIL_REASON : Fld := ⟨R.CELLAR_VFAIL, 0, 4⟩
def F.CELLAR_VFAIL_DETECTOR : Fld := ⟨R.CELLAR_VFAIL, 8, 4⟩
def F.CELLAR_CERT_SEL_BASE : Fld := ⟨R.CELLAR_CERT_SEL, 0, 16⟩
def F.CELLAR_CERT_SEL_CERT : Fld := ⟨R.CELLAR_CERT_SEL, 16, 2⟩
def F.CELLAR_CERT_LEN_WORDS : Fld := ⟨R.CELLAR_CERT_LEN, 0, 16⟩
def F.DEVICE_CRATE_CTL_CMD : Fld := ⟨R.DEVICE_CRATE_CTL, 0, 2⟩
def F.DEVICE_CRATE_STAT_STATE : Fld := ⟨R.DEVICE_CRATE_STAT, 0, 3⟩
def F.DEVICE_CRATE_STAT_REASON : Fld := ⟨R.DEVICE_CRATE_STAT, 8, 4⟩
def F.DEVICE_CRATE_STAT_PAGE : Fld := ⟨R.DEVICE_CRATE_STAT, 16, 8⟩
def F.DEVICE_CRATE_STAT_LAST_OK : Fld := ⟨R.DEVICE_CRATE_STAT, 24, 1⟩
def F.DEVICE_CRATE_FILL_WORDS : Fld := ⟨R.DEVICE_CRATE_FILL, 0, 15⟩
def F.DEVICE_SLOTS_LABELS : Fld := ⟨R.DEVICE_SLOTS, 0, 8⟩
def F.DEVICE_SLOTS_VALID : Fld := ⟨R.DEVICE_SLOTS, 8, 4⟩
def F.DEVICE_SESS_STAT_ACTIVE : Fld := ⟨R.DEVICE_SESS_STAT, 0, 1⟩
def F.DEVICE_SESS_STAT_OVERLAP : Fld := ⟨R.DEVICE_SESS_STAT, 1, 1⟩
def F.DEVICE_SESS_STAT_REKEY_WARN : Fld := ⟨R.DEVICE_SESS_STAT, 2, 1⟩
def F.DEVICE_SESS_STAT_HANDSHAKE : Fld := ⟨R.DEVICE_SESS_STAT, 3, 1⟩
def F.PAIR_CFG_CLKSRC : Fld := ⟨R.PAIR_CFG, 0, 1⟩
def F.PAIR_CFG_PREFER : Fld := ⟨R.PAIR_CFG, 1, 1⟩
def F.PAIR_PORT_DIV : Fld := ⟨R.PAIR_PORT, 0, 2⟩
def F.PAIR_PORT_SEL_LEAD : Fld := ⟨R.PAIR_PORT, 4, 4⟩
def F.PAIR_PORT_SEL_TRAIL : Fld := ⟨R.PAIR_PORT, 8, 4⟩
def F.PAIR_PORT_SEL_GAP : Fld := ⟨R.PAIR_PORT, 12, 8⟩
def F.PAIR_PORT_CONT : Fld := ⟨R.PAIR_PORT, 20, 1⟩
def F.PAIR_STAT_ROLE : Fld := ⟨R.PAIR_STAT, 0, 2⟩
def F.PAIR_STAT_LINK : Fld := ⟨R.PAIR_STAT, 2, 1⟩
def F.PAIR_STAT_PLEAD_IN : Fld := ⟨R.PAIR_STAT, 3, 1⟩
def F.PAIR_STAT_PLEAD_OUT : Fld := ⟨R.PAIR_STAT, 4, 1⟩
def F.PAIR_STAT_READY : Fld := ⟨R.PAIR_STAT, 5, 1⟩
def F.PAIR_STAT_TALIGN : Fld := ⟨R.PAIR_STAT, 6, 1⟩
def F.PAIR_STAT_HASH_OK : Fld := ⟨R.PAIR_STAT, 7, 1⟩
def F.PAIR_STAT_KEY_OK : Fld := ⟨R.PAIR_STAT, 8, 1⟩
def F.PAIR_STAT_HANDOVER : Fld := ⟨R.PAIR_STAT, 9, 1⟩
def F.PAIR_STAT_TN : Fld := ⟨R.PAIR_STAT, 16, 8⟩
def F.PAIR_PARTNER_MODE : Fld := ⟨R.PAIR_PARTNER, 0, 3⟩
def F.PAIR_PARTNER_SEVERE : Fld := ⟨R.PAIR_PARTNER, 8, 8⟩
def F.PAIR_PARTNER_APPROVED : Fld := ⟨R.PAIR_PARTNER, 16, 1⟩
def F.PAIR_TOFFS_OFFSET : Fld := ⟨R.PAIR_TOFFS, 0, 32⟩
def F.PAIR_CMD_OP : Fld := ⟨R.PAIR_CMD, 0, 2⟩
def F.PAIR_CMD_KEY : Fld := ⟨R.PAIR_CMD, 16, 16⟩
def F.PAIR_HOSTAT_CAUSE : Fld := ⟨R.PAIR_HOSTAT, 0, 3⟩
def F.PAIR_HOSTAT_RESULT : Fld := ⟨R.PAIR_HOSTAT, 4, 2⟩
def F.PAIR_HOSTAT_ABORT : Fld := ⟨R.PAIR_HOSTAT, 8, 4⟩
def F.PAIR_HB_MISSED : Fld := ⟨R.PAIR_HB, 0, 16⟩
def F.PAIR_HB_LOSSES : Fld := ⟨R.PAIR_HB, 16, 16⟩
def F.PAIR_CATCHCNT_ENGAGED : Fld := ⟨R.PAIR_CATCHCNT, 0, 16⟩
def F.PAIR_CATCHCNT_REVOKED : Fld := ⟨R.PAIR_CATCHCNT, 16, 16⟩
def F.PAIR_DISAGREE_CTX : Fld := ⟨R.PAIR_DISAGREE, 0, 7⟩
def F.PAIR_DISAGREE_VERDICT : Fld := ⟨R.PAIR_DISAGREE, 8, 4⟩
def F.PAIR_DISAGREE_COUNT : Fld := ⟨R.PAIR_DISAGREE, 16, 16⟩
def F.PAIR_VFAIL_REASON : Fld := ⟨R.PAIR_VFAIL, 0, 4⟩
def F.PAIR_MIRCNT_LATE : Fld := ⟨R.PAIR_MIRCNT, 0, 16⟩
def F.PAIR_MIRCNT_UNSYNC : Fld := ⟨R.PAIR_MIRCNT, 16, 16⟩
def F.PAIR_PFRAMES_DISCARD : Fld := ⟨R.PAIR_PFRAMES, 0, 16⟩
def F.PAIR_PFRAMES_RESEND : Fld := ⟨R.PAIR_PFRAMES, 16, 16⟩
def F.CLOCK_CFG_RELOCK_T : Fld := ⟨R.CLOCK_CFG, 0, 10⟩
def F.CLOCK_CFG_AUTO_RESTORE : Fld := ⟨R.CLOCK_CFG, 12, 1⟩
def F.CLOCK_CFG_CLKOUT : Fld := ⟨R.CLOCK_CFG, 16, 2⟩
def F.CLOCK_CTL_RESTORE : Fld := ⟨R.CLOCK_CTL, 0, 1⟩
def F.CLOCK_SRCSTAT_OK : Fld := ⟨R.CLOCK_SRCSTAT, 0, 6⟩
def F.CLOCK_SRCSTAT_LOGIC_SRC : Fld := ⟨R.CLOCK_SRCSTAT, 8, 2⟩
def F.CLOCK_SRCSTAT_DEGRADED : Fld := ⟨R.CLOCK_SRCSTAT, 12, 1⟩
def F.CLOCK_SRCSTAT_HFRC_SPARE : Fld := ⟨R.CLOCK_SRCSTAT, 13, 1⟩
def F.CLOCK_FAILCNT_ROOT : Fld := ⟨R.CLOCK_FAILCNT, 0, 8⟩
def F.CLOCK_FAILCNT_PLL : Fld := ⟨R.CLOCK_FAILCNT, 8, 8⟩
def F.CLOCK_FAILCNT_HFRC : Fld := ⟨R.CLOCK_FAILCNT, 16, 8⟩
def F.CLOCK_FAILCNT_LPO : Fld := ⟨R.CLOCK_FAILCNT, 24, 8⟩
def F.CLOCK_DEGTIME_MS : Fld := ⟨R.CLOCK_DEGTIME, 0, 32⟩
def F.CLOCK_FMEAS_CFG_MEAS : Fld := ⟨R.CLOCK_FMEAS_CFG, 0, 4⟩
def F.CLOCK_FMEAS_CFG_REF : Fld := ⟨R.CLOCK_FMEAS_CFG, 8, 4⟩
def F.CLOCK_FMEAS_CFG_GATE : Fld := ⟨R.CLOCK_FMEAS_CFG, 16, 5⟩
def F.CLOCK_FMEAS_CFG_GO : Fld := ⟨R.CLOCK_FMEAS_CFG, 31, 1⟩
def F.CLOCK_FMEAS_RES_COUNT : Fld := ⟨R.CLOCK_FMEAS_RES, 0, 32⟩
def F.CLOCK_FMEAS_STAT_BUSY : Fld := ⟨R.CLOCK_FMEAS_STAT, 0, 1⟩
def F.CLOCK_FMEAS_STAT_DONE : Fld := ⟨R.CLOCK_FMEAS_STAT, 1, 1⟩
def F.CLOCK_FMEAS_STAT_OVF : Fld := ⟨R.CLOCK_FMEAS_STAT, 2, 1⟩
def F.CLOCK_FMEAS_STAT_DISTURBED : Fld := ⟨R.CLOCK_FMEAS_STAT, 3, 1⟩
def F.WDOG_CFG_CLKSEL : Fld := ⟨R.WDOG_CFG, 0, 1⟩
def F.WDOG_TASKS_EN : Fld := ⟨R.WDOG_TASKS, 0, 8⟩
def F.WDOG_WIN_OPEN : Fld := ⟨R.WDOG_WIN, 0, 23⟩
def F.WDOG_SPAN_SPAN : Fld := ⟨R.WDOG_SPAN, 0, 23⟩
def F.WDOG_FIRST_FIRST : Fld := ⟨R.WDOG_FIRST, 0, 24⟩
def F.WDOG_STATE_COUNT : Fld := ⟨R.WDOG_STATE, 0, 24⟩
def F.WDOG_STATE_FIRSTWIN : Fld := ⟨R.WDOG_STATE, 24, 1⟩
def F.WDOG_SERVED_TASK : Fld := ⟨R.WDOG_SERVED, 0, 8⟩
def F.WDOG_TASKFLT_MISSED : Fld := ⟨R.WDOG_TASKFLT, 0, 8⟩
def F.WDOG_TASKFLT_DOUBLE : Fld := ⟨R.WDOG_TASKFLT, 8, 8⟩
def F.WDOG_TASKFLT_EARLY : Fld := ⟨R.WDOG_TASKFLT, 16, 8⟩
def F.WDOG_UNREG_COUNT : Fld := ⟨R.WDOG_UNREG, 0, 16⟩
def F.FAULT_ACK_SOURCE : Fld := ⟨R.FAULT_ACK, 0, 6⟩
def F.FAULT_ACK_ALL : Fld := ⟨R.FAULT_ACK, 31, 1⟩
def F.FAULT_CLEAR_SOURCE : Fld := ⟨R.FAULT_CLEAR, 0, 6⟩
def F.FAULT_CLEAR_GRADE : Fld := ⟨R.FAULT_CLEAR, 8, 1⟩
def F.FAULT_CLEAR_COUNT : Fld := ⟨R.FAULT_CLEAR, 9, 1⟩
def F.FAULT_ERRCFG_MINW : Fld := ⟨R.FAULT_ERRCFG, 0, 10⟩
def F.FAULT_ERRCTL_RELEASE : Fld := ⟨R.FAULT_ERRCTL, 0, 1⟩
def F.FAULT_ERRSTAT_ASSERTED : Fld := ⟨R.FAULT_ERRSTAT, 0, 1⟩
def F.FAULT_ERRSTAT_MINW_RUN : Fld := ⟨R.FAULT_ERRSTAT, 1, 1⟩
def F.FAULT_ERRSTAT_SOURCE : Fld := ⟨R.FAULT_ERRSTAT, 8, 6⟩
def F.FAULT_LAST_SOURCE : Fld := ⟨R.FAULT_LAST, 0, 6⟩
def F.FAULT_LAST_SEVERE : Fld := ⟨R.FAULT_LAST, 8, 1⟩
def F.FAULT_LAST_MERGED : Fld := ⟨R.FAULT_LAST, 9, 1⟩
def F.FAULT_LAST_INJECTED : Fld := ⟨R.FAULT_LAST, 10, 1⟩
def F.FAULT_LAST_PARAM : Fld := ⟨R.FAULT_LAST, 16, 8⟩
def F.FAULT_SRC_CFG_N (k : Nat) : Fld := ⟨R.FAULT_SRC_CFG k, 0, 8⟩
def F.FAULT_SRC_CFG_T (k : Nat) : Fld := ⟨R.FAULT_SRC_CFG k, 8, 22⟩
def F.FAULT_SRC_REACT_MILD (k : Nat) : Fld := ⟨R.FAULT_SRC_REACT k, 0, 6⟩
def F.FAULT_SRC_REACT_SEVERE (k : Nat) : Fld := ⟨R.FAULT_SRC_REACT k, 8, 6⟩
def F.FAULT_SRC_STAT_COUNT (k : Nat) : Fld := ⟨R.FAULT_SRC_STAT k, 0, 16⟩
def F.FAULT_SRC_STAT_SEVERE (k : Nat) : Fld := ⟨R.FAULT_SRC_STAT k, 16, 1⟩
def F.FAULT_SRC_STAT_INHAND (k : Nat) : Fld := ⟨R.FAULT_SRC_STAT k, 17, 1⟩
def F.FAULT_SRC_STAT_MERGED (k : Nat) : Fld := ⟨R.FAULT_SRC_STAT k, 18, 1⟩
def F.FAULT_SRC_STAT_URG (k : Nat) : Fld := ⟨R.FAULT_SRC_STAT k, 19, 1⟩
def F.LOFT_CFG_WARN : Fld := ⟨R.LOFT_CFG, 0, 14⟩
def F.LOFT_CFG_RECORD : Fld := ⟨R.LOFT_CFG, 16, 13⟩
def F.LOFT_COUNT_COUNT : Fld := ⟨R.LOFT_COUNT, 0, 14⟩
def F.LOFT_DROPPED_DROPPED : Fld := ⟨R.LOFT_DROPPED, 0, 32⟩
def F.LOFT_NEXTSEQ_RECSEQ : Fld := ⟨R.LOFT_NEXTSEQ, 0, 32⟩
def F.LOFT_RD_IDX_INDEX : Fld := ⟨R.LOFT_RD_IDX, 0, 13⟩
def F.LOFT_CMD_VERIFY : Fld := ⟨R.LOFT_CMD, 0, 1⟩
def F.LOFT_CMD_CLEAR : Fld := ⟨R.LOFT_CMD, 1, 1⟩
def F.LOFT_CMD_FORCE : Fld := ⟨R.LOFT_CMD, 2, 1⟩
def F.LOFT_CMD_KEY : Fld := ⟨R.LOFT_CMD, 16, 16⟩
def F.LOFT_VSTAT_STATE : Fld := ⟨R.LOFT_VSTAT, 0, 2⟩
def F.LOFT_VSTAT_RESULT : Fld := ⟨R.LOFT_VSTAT, 2, 2⟩
def F.LOFT_VSTAT_FAIL_IDX : Fld := ⟨R.LOFT_VSTAT, 16, 13⟩
def F.LOFT_QUEUE_FILL : Fld := ⟨R.LOFT_QUEUE, 0, 7⟩
def F.LOFT_QUEUE_PEAK : Fld := ⟨R.LOFT_QUEUE, 8, 7⟩
def F.LARDER_CFG_ROW_LIM : Fld := ⟨R.LARDER_CFG, 0, 8⟩
def F.LARDER_CFG_ROW_T : Fld := ⟨R.LARDER_CFG, 8, 14⟩
def F.LARDER_CFG_ROW_WARN : Fld := ⟨R.LARDER_CFG, 24, 7⟩
def F.LARDER_VETO_KIND : Fld := ⟨R.LARDER_VETO, 0, 14⟩
def F.LARDER_REQ_KIND : Fld := ⟨R.LARDER_REQ, 0, 4⟩
def F.LARDER_REQ_OP : Fld := ⟨R.LARDER_REQ, 4, 4⟩
def F.LARDER_REQ_INDEX : Fld := ⟨R.LARDER_REQ, 8, 24⟩
def F.LARDER_REQSTAT_RESULT : Fld := ⟨R.LARDER_REQSTAT, 0, 3⟩
def F.LARDER_PENDING_COUNT : Fld := ⟨R.LARDER_PENDING, 0, 16⟩
def F.LARDER_PENDING_KINDS : Fld := ⟨R.LARDER_PENDING, 16, 14⟩
def F.LARDER_LAST_INDEX : Fld := ⟨R.LARDER_LAST, 0, 24⟩
def F.LARDER_LAST_KIND : Fld := ⟨R.LARDER_LAST, 24, 4⟩
def F.LARDER_LAST_CAUSE : Fld := ⟨R.LARDER_LAST, 28, 3⟩
def F.LARDER_LAST_INJECTED : Fld := ⟨R.LARDER_LAST, 31, 1⟩
def F.LARDER_RECORD_COPY : Fld := ⟨R.LARDER_RECORD, 0, 1⟩
def F.LARDER_RECORD_REBUILT : Fld := ⟨R.LARDER_RECORD, 1, 1⟩
def F.LARDER_RECORD_WRITES : Fld := ⟨R.LARDER_RECORD, 16, 16⟩
def F.LARDER_RES_TOTAL_TOTAL (k : Nat) : Fld := ⟨R.LARDER_RES_TOTAL k, 0, 17⟩
def F.LARDER_RES_INSVC_IN_SERVICE (k : Nat) : Fld := ⟨R.LARDER_RES_INSVC k, 0, 17⟩
def F.LARDER_RES_COUNTS_SPARE (k : Nat) : Fld := ⟨R.LARDER_RES_COUNTS k, 0, 16⟩
def F.LARDER_RES_COUNTS_RETIRED (k : Nat) : Fld := ⟨R.LARDER_RES_COUNTS k, 16, 16⟩
def F.LARDER_RES_HEALTH_STATE (k : Nat) : Fld := ⟨R.LARDER_RES_HEALTH k, 0, 2⟩
def F.LARDER_RES_HEALTH_SPARE_PCT (k : Nat) : Fld := ⟨R.LARDER_RES_HEALTH k, 8, 8⟩
def F.LARDER_RES_HEALTH_WEAR (k : Nat) : Fld := ⟨R.LARDER_RES_HEALTH k, 16, 16⟩


/-! The tables of the pages: first offset, last offset, spacing, access, class, writable bits, value at reset. -/

def rowsDEVICE : List RegRow := [
  ⟨0x10, 0x10, 1, .ro, .open_, 0x00000000, 0x00000000⟩,
  ⟨0x11, 0x11, 1, .wo, .session, 0x00000007, 0x00000000⟩,
  ⟨0x12, 0x12, 1, .w1c, .open_, 0x000003FF, 0x00000000⟩,
  ⟨0x13, 0x13, 1, .wo, .session, 0xFFFF0003, 0x00000000⟩,
  ⟨0x14, 0x14, 1, .ro, .open_, 0x00000000, 0x00000000⟩,
  ⟨0x15, 0x15, 1, .ro, .open_, 0x00000000, 0x00000000⟩,
  ⟨0x16, 0x16, 1, .ro, .open_, 0x00000000, 0x00000000⟩,
  ⟨0x17, 0x17, 1, .ro, .open_, 0x00000000, 0x00000000⟩,
  ⟨0x18, 0x18, 1, .rw, .sealed, 0x0000000F, 0x00000000⟩,
  ⟨0x19, 0x19, 1, .ro, .open_, 0x00000000, 0x00000000⟩,
  ⟨0x40, 0x40, 1, .wo, .open_, 0x00000003, 0x00000000⟩,
  ⟨0x41, 0x41, 1, .ro, .open_, 0x00000000, 0x00000000⟩,
  ⟨0x42, 0x42, 1, .ro, .open_, 0x00000000, 0x00000000⟩,
  ⟨0x43, 0x43, 1, .ro, .open_, 0x00000000, 0x00000000⟩,
  ⟨0x44, 0x44, 1, .ro, .open_, 0x00000000, 0x00000000⟩,
  ⟨0x45, 0x45, 1, .ro, .open_, 0x00000000, 0x00000000⟩,
  ⟨0x46, 0x46, 1, .ro, .open_, 0x00000000, 0x00000000⟩,
  ⟨0x47, 0x47, 1, .ro, .open_, 0x00000000, 0x00000000⟩,
  ⟨0x48, 0x53, 1, .ro, .open_, 0x00000000, 0x00000000⟩,
  ⟨0x54, 0x54, 1, .ro, .open_, 0x00000000, 0x00000000⟩,
  ⟨0x55, 0x55, 1, .ro, .open_, 0x00000000, 0x00000000⟩,
  ⟨0x56, 0x56, 1, .ro, .open_, 0x00000000, 0x00000000⟩,
  ⟨0x57, 0x57, 1, .ro, .open_, 0x00000000, 0x00000000⟩,
  ⟨0x20, 0x20, 1, .ro, .open_, 0x00000000, 0x00000000⟩,
  ⟨0x21, 0x21, 1, .ro, .open_, 0x00000000, 0x00000000⟩,
  ⟨0x22, 0x22, 1, .rw, .session, 0xFFFFFFFF, 0x00000000⟩,
  ⟨0x23, 0x23, 1, .w1c, .open_, 0xFFFFFFFF, 0x00000000⟩,
  ⟨0x30, 0x30, 1, .ro, .open_, 0x00000000, 0x00000000⟩,
  ⟨0x31, 0x31, 1, .ro, .open_, 0x00000000, 0x00000000⟩]

def rowsCLOCK : List RegRow := [
  ⟨0x10, 0x10, 1, .rw, .sealed, 0x000313FF, 0x00000064⟩,
  ⟨0x11, 0x11, 1, .wo, .session, 0x00000001, 0x00000000⟩,
  ⟨0x12, 0x12, 1, .ro, .open_, 0x00000000, 0x00000000⟩,
  ⟨0x13, 0x13, 1, .ro, .open_, 0x00000000, 0x00000000⟩,
  ⟨0x14, 0x14, 1, .ro, .open_, 0x00000000, 0x00000000⟩,
  ⟨0x15, 0x15, 1, .rw, .open_, 0x801F0F0F, 0x00000000⟩,
  ⟨0x16, 0x16, 1, .ro, .open_, 0x00000000, 0x00000000⟩,
  ⟨0x17, 0x17, 1, .ro, .open_, 0x00000000, 0x00000000⟩]

def rowsHOST : List RegRow := [
  ⟨0x10, 0x10, 1, .rw, .open_, 0x0000011F, 0x00000008⟩,
  ⟨0x11, 0x11, 1, .rw, .open_, 0x0000003F, 0x00000000⟩,
  ⟨0x12, 0x12, 1, .rw, .open_, 0x00000001, 0x00000000⟩,
  ⟨0x13, 0x13, 1, .ro, .open_, 0x00000000, 0x00000000⟩,
  ⟨0x14, 0x14, 1, .ro, .open_, 0x00000000, 0x00000000⟩,
  ⟨0x15, 0x15, 1, .ro, .open_, 0x00000000, 0x00000000⟩,
  ⟨0x16, 0x16, 1, .ro, .open_, 0x00000000, 0x00000000⟩,
  ⟨0x17, 0x17, 1, .ro, .open_, 0x00000000, 0x00000000⟩,
  ⟨0x18, 0x18, 1, .wo, .open_, 0x00000001, 0x00000000⟩]

def rowsPAIR : List RegRow := [
  ⟨0x10, 0x10, 1, .rw, .sealed, 0x00000003, 0x00000000⟩,
  ⟨0x11, 0x11, 1, .rw, .sealed, 0x001FFFF3, 0x00104220⟩,
  ⟨0x12, 0x12, 1, .ro, .open_, 0x00000000, 0x00000000⟩,
  ⟨0x13, 0x13, 1, .ro, .open_, 0x00000000, 0x00000000⟩,
  ⟨0x14, 0x14, 1, .ro, .open_, 0x00000000, 0x00000000⟩,
  ⟨0x15, 0x15, 1, .ro, .open_, 0x00000000, 0x00000000⟩,
  ⟨0x16, 0x16, 1, .ro, .open_, 0x00000000, 0x00000000⟩,
  ⟨0x17, 0x17, 1, .ro, .open_, 0x00000000, 0x00000000⟩,
  ⟨0x18, 0x18, 1, .ro, .open_, 0x00000000, 0x00000000⟩,
  ⟨0x19, 0x19, 1, .wo, .session, 0xFFFF0003, 0x00000000⟩,
  ⟨0x1A, 0x1A, 1, .ro, .open_, 0x00000000, 0x00000000⟩,
  ⟨0x1B, 0x1B, 1, .ro, .open_, 0x00000000, 0x00000000⟩,
  ⟨0x1C, 0x1C, 1, .ro, .open_, 0x00000000, 0x00000000⟩,
  ⟨0x1D, 0x1D, 1, .ro, .open_, 0x00000000, 0x00000000⟩,
  ⟨0x1E, 0x1E, 1, .ro, .open_, 0x00000000, 0x00000000⟩,
  ⟨0x1F, 0x1F, 1, .ro, .open_, 0x00000000, 0x00000000⟩,
  ⟨0x20, 0x20, 1, .ro, .open_, 0x00000000, 0x00000000⟩,
  ⟨0x21, 0x21, 1, .ro, .open_, 0x00000000, 0x00000000⟩,
  ⟨0x22, 0x22, 1, .ro, .open_, 0x00000000, 0x00000000⟩]

def rowsWDOG : List RegRow := [
  ⟨0x10, 0x10, 1, .rw, .sealed, 0x00000001, 0x00000000⟩,
  ⟨0x11, 0x11, 1, .rw, .session, 0x000000FF, 0x00000000⟩,
  ⟨0x12, 0x12, 1, .rw, .sealed, 0x007FFFFF, 0x00000000⟩,
  ⟨0x13, 0x13, 1, .rw, .sealed, 0x007FFFFF, 0x00008000⟩,
  ⟨0x14, 0x14, 1, .rw, .sealed, 0x00FFFFFF, 0x00000000⟩,
  ⟨0x15, 0x15, 1, .ro, .open_, 0x00000000, 0x00000000⟩,
  ⟨0x16, 0x16, 1, .ro, .open_, 0x00000000, 0x00000000⟩,
  ⟨0x17, 0x17, 1, .ro, .open_, 0x00000000, 0x00000000⟩,
  ⟨0x18, 0x18, 1, .ro, .open_, 0x00000000, 0x00000000⟩,
  ⟨0x19, 0x19, 1, .ro, .open_, 0x00000000, 0x00000000⟩]

def rowsFAULT : List RegRow := [
  ⟨0x10, 0x10, 1, .ro, .open_, 0x00000000, 0x00000000⟩,
  ⟨0x11, 0x11, 1, .ro, .open_, 0x00000000, 0x00000000⟩,
  ⟨0x12, 0x12, 1, .ro, .open_, 0x00000000, 0x00000000⟩,
  ⟨0x13, 0x13, 1, .ro, .open_, 0x00000000, 0x00000000⟩,
  ⟨0x14, 0x14, 1, .ro, .open_, 0x00000000, 0x00000000⟩,
  ⟨0x15, 0x15, 1, .ro, .open_, 0x00000000, 0x00000000⟩,
  ⟨0x16, 0x16, 1, .wo, .open_, 0x8000003F, 0x00000000⟩,
  ⟨0x17, 0x17, 1, .wo, .session, 0x0000033F, 0x00000000⟩,
  ⟨0x18, 0x18, 1, .rw, .sealed, 0x000003FF, 0x00000064⟩,
  ⟨0x19, 0x19, 1, .wo, .open_, 0x00000001, 0x00000000⟩,
  ⟨0x1A, 0x1A, 1, .ro, .open_, 0x00000000, 0x00000000⟩,
  ⟨0x1B, 0x1B, 1, .ro, .open_, 0x00000000, 0x00000000⟩,
  ⟨0x1C, 0x1C, 1, .ro, .open_, 0x00000000, 0x00000000⟩,
  ⟨0x40, 0x7F, 1, .rw, .sealed, 0x3FFFFFFF, 0x00271004⟩,
  ⟨0x80, 0x9F, 1, .rw, .sealed, 0x00003F3F, 0x00000000⟩,
  ⟨0xA0, 0xA2, 1, .rw, .sealed, 0x00001F3F, 0x00002000⟩,
  ⟨0xA3, 0xBF, 1, .rw, .sealed, 0x00003F3F, 0x00000000⟩,
  ⟨0xC0, 0xFF, 1, .ro, .open_, 0x00000000, 0x00000000⟩]

def rowsLOFT : List RegRow := [
  ⟨0x10, 0x10, 1, .rw, .sealed, 0x1F9E3FFF, 0x00610000⟩,
  ⟨0x11, 0x11, 1, .ro, .open_, 0x00000000, 0x00000000⟩,
  ⟨0x12, 0x12, 1, .ro, .open_, 0x00000000, 0x00000000⟩,
  ⟨0x13, 0x13, 1, .ro, .open_, 0x00000000, 0x00000000⟩,
  ⟨0x14, 0x14, 1, .rw, .open_, 0x00001FFF, 0x00000000⟩,
  ⟨0x15, 0x15, 1, .wo, .session, 0xFFFF0007, 0x00000000⟩,
  ⟨0x16, 0x16, 1, .ro, .open_, 0x00000000, 0x00000000⟩,
  ⟨0x17, 0x17, 1, .ro, .open_, 0x00000000, 0x00000000⟩,
  ⟨0x18, 0x18, 1, .ro, .open_, 0x00000000, 0x00000000⟩,
  ⟨0x40, 0x7F, 1, .ro, .open_, 0x00000000, 0x00000000⟩]

def rowsCELLAR : List RegRow := [
  ⟨0x10, 0x10, 1, .rw, .sealed, 0x00FFFF1F, 0x00100800⟩,
  ⟨0x11, 0x11, 1, .rw, .sealed, 0x000FFFFF, 0x0014185A⟩,
  ⟨0x12, 0x12, 1, .ro, .open_, 0x00000000, 0x00000000⟩,
  ⟨0x13, 0x13, 1, .ro, .open_, 0x00000000, 0x00000000⟩,
  ⟨0x14, 0x14, 1, .ro, .open_, 0x00000000, 0x00000000⟩,
  ⟨0x15, 0x15, 1, .ro, .open_, 0x00000000, 0x00000000⟩,
  ⟨0x16, 0x16, 1, .ro, .open_, 0x00000000, 0x00000000⟩,
  ⟨0x17, 0x17, 1, .ro, .open_, 0x00000000, 0x00000000⟩,
  ⟨0x18, 0x18, 1, .ro, .open_, 0x00000000, 0x00000000⟩,
  ⟨0x19, 0x19, 1, .wo, .session, 0x00000001, 0x00000000⟩,
  ⟨0x1A, 0x1A, 1, .wo, .session, 0xFFFF0003, 0x00000000⟩,
  ⟨0x1B, 0x1B, 1, .ro, .open_, 0x00000000, 0x00000000⟩,
  ⟨0x1C, 0x1C, 1, .ro, .open_, 0x00000000, 0x00000000⟩,
  ⟨0x20, 0x2B, 1, .ro, .open_, 0x00000000, 0x00000000⟩,
  ⟨0x30, 0x47, 1, .ro, .open_, 0x00000000, 0x00000000⟩,
  ⟨0x48, 0x53, 1, .ro, .open_, 0x00000000, 0x00000000⟩,
  ⟨0x58, 0x58, 1, .rw, .open_, 0x0003FFFF, 0x00000000⟩,
  ⟨0x59, 0x59, 1, .ro, .open_, 0x00000000, 0x00000000⟩,
  ⟨0x60, 0x7F, 1, .ro, .open_, 0x00000000, 0x00000000⟩]

def rowsLARDER : List RegRow := [
  ⟨0x10, 0x10, 1, .rw, .sealed, 0x7F3FFFFF, 0x1900A804⟩,
  ⟨0x11, 0x11, 1, .rw, .session, 0x00003FFF, 0x00000000⟩,
  ⟨0x12, 0x12, 1, .wo, .session, 0xFFFFFFFF, 0x00000000⟩,
  ⟨0x13, 0x13, 1, .ro, .open_, 0x00000000, 0x00000000⟩,
  ⟨0x14, 0x14, 1, .ro, .open_, 0x00000000, 0x00000000⟩,
  ⟨0x15, 0x15, 1, .ro, .open_, 0x00000000, 0x00000000⟩,
  ⟨0x16, 0x16, 1, .ro, .open_, 0x00000000, 0x00000000⟩,
  ⟨0x40, 0x74, 4, .ro, .open_, 0x00000000, 0x00000000⟩,
  ⟨0x41, 0x75, 4, .ro, .open_, 0x00000000, 0x00000000⟩,
  ⟨0x42, 0x76, 4, .ro, .open_, 0x00000000, 0x00000000⟩,
  ⟨0x43, 0x77, 4, .ro, .open_, 0x00000000, 0x00000000⟩]

def rowsBARRIER : List RegRow := [
  ⟨0x10, 0x10, 1, .ro, .open_, 0x00000000, 0x00000000⟩,
  ⟨0x11, 0x11, 1, .ro, .open_, 0x00000000, 0x00000000⟩,
  ⟨0x12, 0x12, 1, .ro, .open_, 0x00000000, 0x00000000⟩,
  ⟨0x13, 0x13, 1, .ro, .open_, 0x00000000, 0x00000000⟩,
  ⟨0x14, 0x14, 1, .ro, .open_, 0x00000000, 0x00000000⟩,
  ⟨0x15, 0x15, 1, .ro, .open_, 0x00000000, 0x00000000⟩,
  ⟨0x16, 0x16, 1, .ro, .open_, 0x00000000, 0x00000000⟩]

def rowsFSUP : List RegRow := [
  ⟨0x10, 0x13, 1, .rw, .sealed, 0x3FFFFFFF, 0x0C025864⟩,
  ⟨0x14, 0x17, 1, .rw, .sealed, 0x00FFFF13, 0x00140A00⟩,
  ⟨0x18, 0x1B, 1, .ro, .open_, 0x00000000, 0x00000000⟩,
  ⟨0x1C, 0x1F, 1, .ro, .open_, 0x00000000, 0x00000000⟩,
  ⟨0x20, 0x23, 1, .rw, .sealed, 0x00001FFF, 0x00000FA0⟩,
  ⟨0x24, 0x24, 1, .rw, .sealed, 0x00003FFF, 0x00000032⟩,
  ⟨0x25, 0x25, 1, .ro, .open_, 0x00000000, 0x00000000⟩,
  ⟨0x26, 0x26, 1, .rw, .sealed, 0xFFFF31FF, 0x3E800168⟩,
  ⟨0x27, 0x27, 1, .ro, .open_, 0x00000000, 0x00000000⟩,
  ⟨0x28, 0x28, 1, .ro, .open_, 0x00000000, 0x00000000⟩,
  ⟨0x29, 0x29, 1, .ro, .open_, 0x00000000, 0x00000000⟩,
  ⟨0x2A, 0x2A, 1, .ro, .open_, 0x00000000, 0x00000000⟩]

def rowsXPT : List RegRow := [
  ⟨0x10, 0x2F, 1, .rw, .sealed, 0x0000000F, 0x00000000⟩,
  ⟨0x30, 0x30, 1, .ro, .open_, 0x00000000, 0x00000000⟩,
  ⟨0x31, 0x31, 1, .ro, .open_, 0x00000000, 0x00000000⟩,
  ⟨0x32, 0x32, 1, .ro, .open_, 0x00000000, 0x00000000⟩,
  ⟨0x33, 0x33, 1, .rw, .sealed, 0x00000001, 0x00000000⟩,
  ⟨0x40, 0xBE, 2, .rw, .sealed, 0x01003F3F, 0x00000000⟩,
  ⟨0x41, 0xBF, 2, .rw, .sealed, 0x0F1F0F1F, 0x00000000⟩]

def rowsEXC : List RegRow := [
  ⟨0x10, 0x28, 8, .rw, .sealed, 0x00000001, 0x00000000⟩,
  ⟨0x11, 0x29, 8, .rw, .session, 0x00000001, 0x00000000⟩,
  ⟨0x12, 0x2A, 8, .rw, .session, 0xFFFFFFFF, 0x00200000⟩,
  ⟨0x13, 0x2B, 8, .rw, .session, 0x0000FFFF, 0x00000000⟩,
  ⟨0x14, 0x2C, 8, .ro, .open_, 0x00000000, 0x00000000⟩,
  ⟨0x15, 0x2D, 8, .ro, .open_, 0x00000000, 0x00000000⟩,
  ⟨0x30, 0x33, 1, .rw, .session, 0x000103FF, 0x00000064⟩,
  ⟨0x34, 0x37, 1, .ro, .open_, 0x00000000, 0x00000000⟩,
  ⟨0x38, 0x38, 1, .ro, .open_, 0x00000000, 0x00000000⟩,
  ⟨0x39, 0x39, 1, .rw, .session, 0x00000FFF, 0x00000000⟩,
  ⟨0x3A, 0x3A, 1, .ro, .open_, 0x00000000, 0x00000004⟩,
  ⟨0x3B, 0x3B, 1, .rw, .sealed, 0x03FF0003, 0x00000000⟩,
  ⟨0x3C, 0x3C, 1, .rw, .sealed, 0x0000FFFF, 0x00000000⟩,
  ⟨0x3D, 0x3D, 1, .ro, .open_, 0x00000000, 0x00000000⟩]

def rowsSEQ : List RegRow := [
  ⟨0x10, 0x1F, 1, .rw, .sealed, 0xFFFF8FFF, 0x00000000⟩,
  ⟨0x20, 0x2F, 1, .ro, .open_, 0x00000000, 0x00000000⟩,
  ⟨0x30, 0x3F, 1, .ro, .open_, 0x00000000, 0x00000000⟩,
  ⟨0x40, 0x43, 1, .rw, .session, 0x00000001, 0x00000000⟩,
  ⟨0x44, 0x44, 1, .ro, .open_, 0x00000000, 0x0001FF00⟩,
  ⟨0x45, 0x45, 1, .ro, .open_, 0x00000000, 0x00000000⟩]

def rowsCAL : List RegRow := [
  ⟨0x10, 0x10, 1, .rw, .open_, 0x0000071F, 0x00000000⟩,
  ⟨0x11, 0x11, 1, .ro, .open_, 0x00000000, 0x00000000⟩,
  ⟨0x12, 0x12, 1, .ro, .open_, 0x00000000, 0x00000000⟩,
  ⟨0x13, 0x13, 1, .ro, .open_, 0x00000000, 0x00000000⟩,
  ⟨0x14, 0x14, 1, .ro, .open_, 0x00000000, 0x00000000⟩,
  ⟨0x15, 0x15, 1, .ro, .open_, 0x00000000, 0x00000000⟩,
  ⟨0x16, 0x16, 1, .ro, .open_, 0x00000000, 0x00000000⟩,
  ⟨0x17, 0x17, 1, .ro, .open_, 0x00000000, 0x00000000⟩,
  ⟨0x18, 0x18, 1, .ro, .open_, 0x00000000, 0x00000000⟩,
  ⟨0x19, 0x19, 1, .rw, .sealed, 0x001FFF01, 0x00040C00⟩,
  ⟨0x1A, 0x1A, 1, .wo, .session, 0x0000011F, 0x00000000⟩,
  ⟨0x1B, 0x1B, 1, .ro, .open_, 0x00000000, 0x00000000⟩,
  ⟨0x1C, 0x1C, 1, .ro, .open_, 0x00000000, 0x00000000⟩,
  ⟨0x1D, 0x1D, 1, .ro, .open_, 0x00000000, 0x00000000⟩,
  ⟨0x1E, 0x1E, 1, .ro, .open_, 0x00000000, 0x00000000⟩,
  ⟨0x1F, 0x1F, 1, .ro, .open_, 0x00000000, 0x00000000⟩,
  ⟨0x80, 0xFD, 1, .rw, .session, 0xFFFFFFFF, 0x00000000⟩]

def rowsREFLEX : List RegRow := [
  ⟨0x10, 0xCD, 3, .rw, .sealed, 0x83FF83FF, 0x00000000⟩,
  ⟨0x11, 0xCE, 3, .rw, .sealed, 0x83FF83FF, 0x00000000⟩,
  ⟨0x12, 0xCF, 3, .rw, .sealed, 0xFFFF0FFF, 0x00000000⟩,
  ⟨0xD0, 0xD0, 1, .ro, .open_, 0x00000000, 0x00000000⟩,
  ⟨0xD1, 0xD1, 1, .ro, .open_, 0x00000000, 0x00000000⟩,
  ⟨0xD2, 0xD2, 1, .ro, .open_, 0x00000000, 0x00000000⟩,
  ⟨0xD3, 0xD3, 1, .ro, .open_, 0x00000000, 0x00000000⟩,
  ⟨0xD4, 0xD4, 1, .wo, .session, 0xFFFFFFFF, 0x00000000⟩,
  ⟨0xD5, 0xD5, 1, .wo, .session, 0xFFFFFFFF, 0x00000000⟩,
  ⟨0xD6, 0xD6, 1, .ro, .open_, 0x00000000, 0x00000000⟩,
  ⟨0xD7, 0xD7, 1, .ro, .open_, 0x00000000, 0x00000000⟩]

def rowsTERM0 : List RegRow := [
  ⟨0x10, 0x10, 1, .rw, .sealed, 0x0000000F, 0x00000000⟩,
  ⟨0x11, 0x11, 1, .ro, .open_, 0x00000000, 0x00000000⟩,
  ⟨0x12, 0x12, 1, .ro, .open_, 0x00000000, 0x00000000⟩,
  ⟨0x13, 0x13, 1, .ro, .open_, 0x00000000, 0x00000000⟩,
  ⟨0x20, 0x20, 1, .rw, .sealed, 0x0000FF1F, 0x00000000⟩,
  ⟨0x21, 0x21, 1, .rw, .session, 0xFFFF3FFF, 0x0BB80050⟩,
  ⟨0x22, 0x22, 1, .rw, .session, 0x0003FF03, 0x00000000⟩,
  ⟨0x23, 0x23, 1, .rw, .session, 0x0000FFFF, 0x00000000⟩,
  ⟨0x24, 0x24, 1, .ro, .open_, 0x00000000, 0x00000000⟩,
  ⟨0x25, 0x25, 1, .ro, .open_, 0x00000000, 0x00000000⟩,
  ⟨0x26, 0x26, 1, .ro, .open_, 0x00000000, 0x00000000⟩,
  ⟨0x27, 0x27, 1, .ro, .open_, 0x00000000, 0x00000000⟩,
  ⟨0x28, 0x28, 1, .ro, .open_, 0x00000000, 0x00000000⟩,
  ⟨0x29, 0x29, 1, .wo, .session, 0x00000003, 0x00000000⟩,
  ⟨0x30, 0x30, 1, .rw, .sealed, 0x001F017F, 0x0000003C⟩,
  ⟨0x31, 0x31, 1, .rw, .sealed, 0x00FFFFFF, 0x00000A14⟩,
  ⟨0x32, 0x32, 1, .rw, .session, 0xFFFF3FFF, 0x27101400⟩,
  ⟨0x33, 0x33, 1, .rw, .session, 0x00000001, 0x00000000⟩,
  ⟨0x34, 0x34, 1, .ro, .open_, 0x00000000, 0x00000000⟩,
  ⟨0x35, 0x35, 1, .ro, .open_, 0x00000000, 0x00000000⟩,
  ⟨0x36, 0x36, 1, .ro, .open_, 0x00000000, 0x000000FF⟩,
  ⟨0x37, 0x37, 1, .ro, .open_, 0x00000000, 0x00000000⟩,
  ⟨0x38, 0x38, 1, .ro, .open_, 0x00000000, 0x00000000⟩,
  ⟨0x39, 0x39, 1, .ro, .open_, 0x00000000, 0x00000000⟩,
  ⟨0x3A, 0x3A, 1, .wo, .session, 0x00000003, 0x00000000⟩,
  ⟨0x40, 0x40, 1, .rw, .sealed, 0x00003F01, 0x00000A00⟩,
  ⟨0x41, 0x41, 1, .rw, .sealed, 0x0003FFFF, 0x00008CA0⟩,
  ⟨0x42, 0x42, 1, .rw, .sealed, 0x0003FFFF, 0x00033450⟩,
  ⟨0x43, 0x43, 1, .rw, .session, 0x0003FFFF, 0x00000000⟩,
  ⟨0x44, 0x44, 1, .ro, .open_, 0x00000000, 0x00000000⟩]

def rowsTERM1 : List RegRow := [
  ⟨0x45, 0x45, 1, .ro, .open_, 0x00000000, 0x00000000⟩,
  ⟨0x46, 0x46, 1, .ro, .open_, 0x00000000, 0x00000000⟩,
  ⟨0x47, 0x47, 1, .ro, .open_, 0x00000000, 0x00000000⟩,
  ⟨0x48, 0x48, 1, .ro, .open_, 0x00000000, 0x00000000⟩,
  ⟨0x49, 0x49, 1, .wo, .session, 0x00000001, 0x00000000⟩,
  ⟨0x50, 0x50, 1, .rw, .sealed, 0x00000F07, 0x00000000⟩,
  ⟨0x51, 0x51, 1, .rw, .sealed, 0x0003FFFF, 0x00000000⟩,
  ⟨0x52, 0x52, 1, .rw, .session, 0x00000001, 0x00000000⟩,
  ⟨0x53, 0x53, 1, .ro, .open_, 0x00000000, 0x00000000⟩]

def rowsTERM : List RegRow := rowsTERM0 ++ rowsTERM1

def rowsSLICE : List RegRow := [
  ⟨0x10, 0x10, 1, .ro, .open_, 0x00000000, 0x00000000⟩,
  ⟨0x11, 0x11, 1, .ro, .open_, 0x00000000, 0x00000000⟩,
  ⟨0x12, 0x12, 1, .ro, .open_, 0x00000000, 0x00000000⟩,
  ⟨0x13, 0x13, 1, .ro, .open_, 0x00000000, 0x00000000⟩,
  ⟨0x40, 0x40, 1, .rw, .sealed, 0x0001FFFF, 0x000003E8⟩,
  ⟨0x41, 0x41, 1, .ro, .open_, 0x00000000, 0x00001F1F⟩,
  ⟨0x42, 0x42, 1, .ro, .open_, 0x00000000, 0x00000000⟩,
  ⟨0x43, 0x43, 1, .wo, .session, 0x0FFF7F0F, 0x00000000⟩,
  ⟨0x44, 0x44, 1, .ro, .open_, 0x00000000, 0x00000000⟩,
  ⟨0x48, 0x4B, 1, .rw, .session, 0x00000113, 0x00000000⟩]

def rowsFILT : List RegRow := [
  ⟨0x10, 0x10, 1, .rw, .session, 0x000007FF, 0x00000001⟩,
  ⟨0x11, 0x11, 1, .wo, .session, 0x00000001, 0x00000000⟩,
  ⟨0x12, 0x12, 1, .ro, .open_, 0x00000000, 0x00000300⟩,
  ⟨0x13, 0x13, 1, .ro, .open_, 0x00000000, 0x00400000⟩,
  ⟨0x14, 0x14, 1, .ro, .open_, 0x00000000, 0x00000000⟩,
  ⟨0x15, 0x15, 1, .ro, .open_, 0x00000000, 0x00000000⟩,
  ⟨0x80, 0xFF, 1, .rw, .session, 0x00FFFFFF, 0x00000000⟩]

def rowsCTX0 : List RegRow := [
  ⟨0x10, 0x10, 1, .rw, .sealed, 0xF13F373F, 0x00000000⟩,
  ⟨0x11, 0x11, 1, .rw, .sealed, 0xFFFFF771, 0x0505F000⟩,
  ⟨0x12, 0x12, 1, .rw, .sealed, 0x000000FF, 0x00000000⟩,
  ⟨0x13, 0x13, 1, .rw, .sealed, 0x00000007, 0x00000000⟩,
  ⟨0x14, 0x14, 1, .rw, .session, 0x0003FFFF, 0x00000000⟩,
  ⟨0x15, 0x15, 1, .rw, .session, 0x7FFF071F, 0x00000000⟩,
  ⟨0x16, 0x16, 1, .rw, .session, 0x0000FFFF, 0x00000000⟩,
  ⟨0x17, 0x17, 1, .rw, .session, 0x0001FFFF, 0x00000008⟩,
  ⟨0x18, 0x18, 1, .rw, .session, 0xFFFFFFFF, 0x00000000⟩,
  ⟨0x19, 0x19, 1, .rw, .session, 0x00000003, 0x00000000⟩,
  ⟨0x1A, 0x1A, 1, .rw, .session, 0x0000FFFF, 0x00000000⟩,
  ⟨0x1B, 0x1B, 1, .rw, .sealed, 0x0000FFFF, 0x00000000⟩,
  ⟨0x1C, 0x1C, 1, .rw, .session, 0x00FFFFFF, 0x00000000⟩,
  ⟨0x1D, 0x1D, 1, .rw, .session, 0x00FFFFFF, 0x00000000⟩,
  ⟨0x1E, 0x1E, 1, .ro, .open_, 0x00000000, 0x001F0000⟩,
  ⟨0x1F, 0x1F, 1, .ro, .open_, 0x00000000, 0x00000000⟩,
  ⟨0x20, 0x20, 1, .ro, .open_, 0x00000000, 0x00000000⟩,
  ⟨0x30, 0x30, 1, .rw, .session, 0x00FFFFFF, 0x00000000⟩,
  ⟨0x31, 0x31, 1, .rw, .session, 0x007FFFFF, 0x00000000⟩,
  ⟨0x32, 0x32, 1, .rw, .session, 0x000000F7, 0x00000000⟩,
  ⟨0x33, 0x33, 1, .rw, .session, 0x00FFFFFF, 0x00000000⟩,
  ⟨0x34, 0x34, 1, .rw, .session, 0x007FFFFF, 0x00000000⟩,
  ⟨0x35, 0x35, 1, .rw, .session, 0x000000F7, 0x00000000⟩,
  ⟨0x36, 0x36, 1, .ro, .open_, 0x00000000, 0x00000000⟩,
  ⟨0x37, 0x37, 1, .ro, .open_, 0x00000000, 0x00000000⟩,
  ⟨0x40, 0x40, 1, .ro, .open_, 0x00000000, 0x00000000⟩,
  ⟨0x41, 0x41, 1, .ro, .open_, 0x00000000, 0x00000000⟩,
  ⟨0x42, 0x42, 1, .ro, .open_, 0x00000000, 0x00000000⟩,
  ⟨0x43, 0x43, 1, .ro, .open_, 0x00000000, 0x00000000⟩,
  ⟨0x44, 0x44, 1, .ro, .open_, 0x00000000, 0x00000000⟩]

def rowsCTX1 : List RegRow := [
  ⟨0x45, 0x45, 1, .ro, .open_, 0x00000000, 0x00000000⟩,
  ⟨0x46, 0x46, 1, .ro, .open_, 0x00000000, 0x00000000⟩,
  ⟨0x47, 0x47, 1, .ro, .open_, 0x00000000, 0x00000000⟩,
  ⟨0x48, 0x48, 1, .ro, .open_, 0x00000000, 0x00000000⟩,
  ⟨0x49, 0x49, 1, .ro, .open_, 0x00000000, 0x00000000⟩,
  ⟨0x4A, 0x4A, 1, .ro, .open_, 0x00000000, 0x00000000⟩,
  ⟨0x4B, 0x4B, 1, .ro, .open_, 0x00000000, 0x00000000⟩,
  ⟨0x4C, 0x4C, 1, .ro, .open_, 0x00000000, 0x00000000⟩,
  ⟨0x4D, 0x4D, 1, .ro, .open_, 0x00000000, 0x00000000⟩,
  ⟨0x4E, 0x4E, 1, .ro, .open_, 0x00000000, 0x00000000⟩,
  ⟨0x4F, 0x4F, 1, .ro, .open_, 0x00000000, 0x00000000⟩,
  ⟨0x50, 0x50, 1, .ro, .open_, 0x00000000, 0x00000000⟩,
  ⟨0x51, 0x51, 1, .ro, .open_, 0x00000000, 0x00000000⟩,
  ⟨0x52, 0x52, 1, .ro, .open_, 0x00000000, 0x00000000⟩,
  ⟨0x58, 0x58, 1, .ro, .open_, 0x00000000, 0x00000000⟩,
  ⟨0x59, 0x59, 1, .ro, .open_, 0x00000000, 0x00000000⟩,
  ⟨0x5A, 0x5A, 1, .ro, .open_, 0x00000000, 0x00000000⟩,
  ⟨0x5B, 0x5B, 1, .ro, .open_, 0x00000000, 0x00000000⟩,
  ⟨0x5C, 0x5C, 1, .ro, .open_, 0x00000000, 0x00000000⟩,
  ⟨0x5D, 0x5D, 1, .ro, .open_, 0x00000000, 0x00000000⟩,
  ⟨0x5E, 0x5E, 1, .ro, .open_, 0x00000000, 0x00000000⟩,
  ⟨0x5F, 0x5F, 1, .ro, .open_, 0x00000000, 0x00000000⟩,
  ⟨0x60, 0x60, 1, .wo, .session, 0x00000001, 0x00000000⟩]

def rowsCTX : List RegRow := rowsCTX0 ++ rowsCTX1


/-! Fields whose tables name the values they take: first offset, last offset, spacing, lowest bit, width, least and
greatest value that is not reserved (R5). A field with several ranges has one row for each gap outside them. -/

def encDEVICE : List EncRow := []

def encCLOCK : List EncRow := [
  ⟨0x10, 0x10, 1, 0, 10, 10, 1000⟩,
  ⟨0x15, 0x15, 1, 0, 4, 0, 11⟩,
  ⟨0x15, 0x15, 1, 8, 4, 0, 11⟩,
  ⟨0x15, 0x15, 1, 16, 5, 10, 24⟩]

def encHOST : List EncRow := []

def encPAIR : List EncRow := [
  ⟨0x11, 0x11, 1, 0, 2, 0, 2⟩,
  ⟨0x11, 0x11, 1, 4, 4, 1, 15⟩,
  ⟨0x11, 0x11, 1, 8, 4, 1, 15⟩,
  ⟨0x11, 0x11, 1, 12, 8, 2, 255⟩]

def encWDOG : List EncRow := [
  ⟨0x13, 0x13, 1, 0, 23, 1, 8388607⟩]

def encFAULT : List EncRow := [
  ⟨0x18, 0x18, 1, 0, 10, 1, 1000⟩,
  ⟨0x40, 0x7F, 1, 0, 8, 1, 255⟩,
  ⟨0x40, 0x7F, 1, 8, 22, 1, 3600000⟩]

def encLOFT : List EncRow := [
  ⟨0x10, 0x10, 1, 0, 14, 0, 8192⟩]

def encCELLAR : List EncRow := [
  ⟨0x10, 0x10, 1, 8, 8, 1, 255⟩,
  ⟨0x10, 0x10, 1, 16, 8, 1, 255⟩,
  ⟨0x1A, 0x1A, 1, 0, 2, 1, 2⟩,
  ⟨0x58, 0x58, 1, 16, 2, 0, 1⟩]

def encLARDER : List EncRow := [
  ⟨0x10, 0x10, 1, 0, 8, 2, 255⟩,
  ⟨0x10, 0x10, 1, 8, 14, 1, 8760⟩,
  ⟨0x10, 0x10, 1, 24, 7, 1, 99⟩,
  ⟨0x12, 0x12, 1, 0, 4, 0, 13⟩,
  ⟨0x12, 0x12, 1, 4, 4, 1, 2⟩]

def encBARRIER : List EncRow := []

def encFSUP : List EncRow := [
  ⟨0x10, 0x13, 1, 0, 10, 80, 160⟩,
  ⟨0x10, 0x13, 1, 10, 10, 100, 300⟩,
  ⟨0x10, 0x13, 1, 20, 10, 120, 320⟩,
  ⟨0x14, 0x17, 1, 0, 2, 0, 2⟩,
  ⟨0x14, 0x17, 1, 8, 8, 1, 255⟩,
  ⟨0x20, 0x23, 1, 0, 13, 500, 4000⟩,
  ⟨0x24, 0x24, 1, 0, 14, 5, 10000⟩,
  ⟨0x26, 0x26, 1, 0, 9, 100, 360⟩,
  ⟨0x26, 0x26, 1, 12, 2, 0, 2⟩,
  ⟨0x26, 0x26, 1, 16, 16, 2000, 16000⟩]

def encXPT : List EncRow := [
  ⟨0x10, 0x2F, 1, 0, 4, 0, 10⟩,
  ⟨0x41, 0xBF, 2, 8, 4, 0, 10⟩,
  ⟨0x41, 0xBF, 2, 24, 4, 0, 10⟩]

def encEXC : List EncRow := [
  ⟨0x12, 0x2A, 8, 0, 32, 20972, 41943040⟩,
  ⟨0x13, 0x2B, 8, 0, 16, 0, 50000⟩,
  ⟨0x30, 0x33, 1, 0, 10, 10, 1000⟩,
  ⟨0x3B, 0x3B, 1, 16, 10, 0, 1000⟩]

def encSEQ : List EncRow := []

/-- CAL (R241). DESIGN CHOICE, notes/assumptions/119.md: RUN.SLICE 18–31 names no slice and is taken as reserved (R5). -/
def encCAL : List EncRow := [
  ⟨0x10, 0x10, 1, 8, 3, 0, 6⟩,
  ⟨0x19, 0x19, 1, 8, 8, 1, 24⟩,
  ⟨0x19, 0x19, 1, 16, 5, 1, 20⟩,
  ⟨0x1A, 0x1A, 1, 0, 5, 0, 17⟩]

def encREFLEX : List EncRow := [
  ⟨0x12, 0xCF, 3, 0, 3, 0, 4⟩]

def encTERM : List EncRow := [
  ⟨0x10, 0x10, 1, 0, 4, 0, 7⟩,
  ⟨0x20, 0x20, 1, 12, 4, 0, 10⟩,
  ⟨0x21, 0x21, 1, 0, 14, 50, 10000⟩,
  ⟨0x21, 0x21, 1, 16, 16, 1, 65535⟩,
  ⟨0x22, 0x22, 1, 16, 2, 0, 2⟩,
  ⟨0x30, 0x30, 1, 0, 7, 10, 120⟩,
  ⟨0x31, 0x31, 1, 0, 8, 1, 255⟩,
  ⟨0x31, 0x31, 1, 8, 8, 1, 255⟩,
  ⟨0x32, 0x32, 1, 2, 6, 0, 50⟩,
  ⟨0x32, 0x32, 1, 8, 6, 5, 50⟩,
  ⟨0x32, 0x32, 1, 16, 16, 10, 65535⟩,
  ⟨0x40, 0x40, 1, 8, 6, 5, 50⟩,
  ⟨0x41, 0x41, 1, 0, 18, 32000, 38000⟩,
  ⟨0x42, 0x42, 1, 0, 18, 210000, 230000⟩,
  ⟨0x50, 0x50, 1, 0, 3, 0, 4⟩]

def encSLICE : List EncRow := [
  ⟨0x40, 0x40, 1, 0, 16, 100, 60000⟩]

def encFILT : List EncRow := [
  ⟨0x10, 0x10, 1, 0, 8, 1, 255⟩,
  ⟨0x10, 0x10, 1, 8, 3, 0, 5⟩]

def encCTX : List EncRow := [
  ⟨0x10, 0x10, 1, 8, 3, 0, 6⟩,
  ⟨0x10, 0x10, 1, 16, 3, 0, 4⟩,
  ⟨0x10, 0x10, 1, 28, 4, 0, 8⟩,
  ⟨0x11, 0x11, 1, 4, 3, 0, 6⟩,
  ⟨0x11, 0x11, 1, 8, 3, 0, 6⟩,
  ⟨0x11, 0x11, 1, 12, 8, 90, 104⟩,
  ⟨0x11, 0x11, 1, 20, 8, 50, 95⟩,
  ⟨0x13, 0x13, 1, 0, 3, 0, 4⟩,
  ⟨0x14, 0x14, 1, 16, 2, 0, 2⟩,
  ⟨0x15, 0x15, 1, 0, 5, 0, 23⟩,
  ⟨0x17, 0x17, 1, 0, 16, 8, 65535⟩]

def encSEQTAB : List EncRow := []

/-- The kinds of page of R48. -/
inductive PageKind where
  | device | clock | host | pair | wdog | fault | loft | cellar | larder | barrier | fsup | xpt | exc | seq | cal | reflex
  | term (n : Nat) | slice (s : Nat) | filt (u : Nat) | seqtab | ctx (n : Nat) | reserved
  deriving DecidableEq, Repr

/-- The page map of R48. -/
def pageKind (p : Nat) : PageKind :=
  if p < 0x10 then
    match p with
    | 0 => .device | 1 => .clock | 2 => .host | 3 => .pair | 4 => .wdog | 5 => .fault | 6 => .loft | 7 => .cellar
    | 8 => .larder | 9 => .barrier | 10 => .fsup | 11 => .xpt | 12 => .exc | 13 => .seq | 14 => .cal | _ => .reflex
  else if p < 0x20 then .reserved
  else if p < 0x40 then .term (p - 0x20)
  else if p < 0x52 then .slice (p - 0x40)
  else if p < 0x58 then .reserved
  else if p < 0x60 then .filt (p - 0x58)
  else if p < 0x64 then .seqtab
  else if p < 0x80 then .reserved
  else if p < 0x100 then .ctx (p - 0x80)
  else .reserved

/-- The common page head of R51, offsets 0x01-0x08 (ID is computed from the page). -/
def rowsHead : List RegRow := [
  ⟨0x00, 0x00, 1, .ro, .open_, 0, 0⟩,
  ⟨0x01, 0x01, 1, .rw, .session, 0x3, 0⟩,
  ⟨0x02, 0x02, 1, .ro, .open_, 0, 0⟩,
  ⟨0x03, 0x03, 1, .w1c, .open_, 0xFFFFFFFF, 0⟩,
  ⟨0x04, 0x04, 1, .rw, .open_, 0xFFFFFFFF, 0⟩,
  ⟨0x05, 0x05, 1, .ro, .open_, 0, 0⟩,
  ⟨0x06, 0x06, 1, .wo, .session, 0xFFFFFFFF, 0⟩,
  ⟨0x07, 0x07, 1, .wo, .open_, 0x80000000, 0⟩,
  ⟨0x08, 0x08, 1, .ro, .open_, 0, 0⟩]

/-- The two words of a SEQTAB entry (R153), over each of its four pages. -/
def rowsSEQTAB : List RegRow := [
  ⟨0x00, 0xFE, 2, .rw, .sealed, 0x700FFF7F, 0⟩,
  ⟨0x01, 0xFF, 2, .rw, .sealed, 0x0000FFFF, 0⟩]

/-- The table of a page without its head. -/
def pageRows : PageKind → List RegRow
  | .device => rowsDEVICE | .clock => rowsCLOCK | .host => rowsHOST | .pair => rowsPAIR | .wdog => rowsWDOG
  | .fault => rowsFAULT | .loft => rowsLOFT | .cellar => rowsCELLAR | .larder => rowsLARDER | .barrier => rowsBARRIER
  | .fsup => rowsFSUP | .xpt => rowsXPT | .exc => rowsEXC | .seq => rowsSEQ | .cal => rowsCAL | .reflex => rowsREFLEX
  | .term _ => rowsTERM | .slice _ => rowsSLICE
  | .filt _ => rowsFILT | .seqtab => [] | .ctx _ => rowsCTX | .reserved => []

/-- The ranges of the page's fields. -/
def pageEnc : PageKind → List EncRow
  | .device => encDEVICE | .clock => encCLOCK | .host => encHOST | .pair => encPAIR | .wdog => encWDOG
  | .fault => encFAULT | .loft => encLOFT | .cellar => encCELLAR | .larder => encLARDER | .barrier => encBARRIER
  | .fsup => encFSUP | .xpt => encXPT | .exc => encEXC | .seq => encSEQ | .cal => encCAL | .reflex => encREFLEX
  | .term _ => encTERM | .slice _ => encSLICE | .filt _ => encFILT | .seqtab => encSEQTAB | .ctx _ => encCTX
  | .reserved => []

/-- Does a table row cover this offset? -/
def inRow (first last step off : Nat) : Bool := first ≤ off && off ≤ last && (off - first) % step == 0

/-- The table row of an address; none for a reserved offset or page (R50). -/
def regRow (a : Nat) : Option RegRow :=
  let k := pageKind (a / 256)
  let off := a % 256
  match k with
  | .reserved => none
  | .seqtab => rowsSEQTAB.find? fun r => inRow r.first r.last r.step off
  | k => if off < 0x10 then rowsHead.find? fun r => inRow r.first r.last r.step off
    else (pageRows k).find? fun r => inRow r.first r.last r.step off

/-- ID.TYPE of a page with a head (R48). -/
def pageType : PageKind → Nat
  | .device => 0x0100 | .clock => 0x0101 | .host => 0x0102 | .pair => 0x0103 | .wdog => 0x0104 | .fault => 0x0105
  | .loft => 0x0106 | .cellar => 0x0107 | .larder => 0x0108 | .barrier => 0x0109 | .fsup => 0x010A | .xpt => 0x010B
  | .exc => 0x010C | .seq => 0x010D | .cal => 0x010E | .reflex => 0x010F
  | .term _ => 0x0120 | .slice _ => 0x0140 | .filt _ => 0x0158 | .ctx _ => 0x0180 | .seqtab => 0 | .reserved => 0

/-- ID.INSTANCE of a page with a head (R48). -/
def pageInst : PageKind → Nat
  | .term n => n | .slice n => n | .filt n => n | .ctx n => n | _ => 0

/-- Is the block of this page on the field die (01_architecture.md, 'Two dies and the barrier')? -/
def onField (a : Nat) : Bool :=
  match pageKind (a / 256) with
  | .fsup | .xpt | .exc | .seq | .cal | .reflex | .term _ | .slice _ | .filt _ | .seqtab | .ctx _ => true
  | _ => false

/-- What the register at an address reads at reset when nothing else is in force: its table's reset value, with the
values before load of R421 for the fields the Reset column marks C. -/
def resetWord (a : Nat) : Word :=
  let k := pageKind (a / 256)
  if a % 256 = 0 ∧ k ≠ .seqtab ∧ k ≠ .reserved then BitVec.ofNat 32 (pageType k * 65536 + pageInst k * 256 + 1)
  else match k, a % 256 with
    | .filt _, 0x80 => 0x00400000#32
    | _, _ => match regRow a with
      | some r => BitVec.ofNat 32 r.reset
      | none => 0#32

/-- The one home of a register: the shared area at 0x40-0x4B of every SLICE page is held on SLICE[0] (R122). -/
def regHome (a : Nat) : Nat :=
  if 0x4040 ≤ a ∧ a < 0x5200 ∧ 0x40 ≤ a % 256 ∧ a % 256 ≤ 0x4B then 0x4000 + a % 256 else a

/-- The word held at an address. -/
def RegFile.word (r : RegFile) (a : Nat) : Word := tget resetWord r (regHome a)

/-- The registers with one word replaced. -/
def RegFile.write (r : RegFile) (a : Nat) (w : Word) : RegFile := tput resetWord r (regHome a) w

/-- A field of a register. -/
def Fld.get (f : Fld) (r : RegFile) : Nat := wbits (r.word f.addr) f.lo f.len

/-- The registers with one field replaced. -/
def Fld.set (f : Fld) (v : Nat) (r : RegFile) : RegFile := r.write f.addr (wset (r.word f.addr) f.lo f.len v)

/-- The greatest value a field can hold. -/
def Fld.top (f : Fld) : Nat := 2 ^ f.len - 1

/-- A saturating count. -/
def Fld.bump (f : Fld) (r : RegFile) : RegFile := f.set (min f.top (f.get r + 1)) r

/-- Does every field of the word at this address hold a value its table does not reserve? Fields whose reserved values
depend on another field (R5) are judged beside it in the chapter's own file. -/
def encOk (a : Nat) (w : Word) : Bool :=
  (pageEnc (pageKind (a / 256))).all fun e =>
    !inRow e.first e.last e.step (a % 256) || (e.least ≤ wbits w e.lo e.len && wbits w e.lo e.len ≤ e.greatest)

/-- The node codes of R66. -/
def nodeOk (v : Nat) : Bool := v ≤ 0x2B || v == 0x3F

/-- RW registers outside the configuration (R307): their Reset column does not show C. -/
def keptOff (k : PageKind) (off : Nat) : Bool :=
  match k with
  | .exc => off == 0x39
  | .term _ => off == 0x33 || off == 0x43 || off == 0x52
  | .cal => off == 0x10
  | .host => off == 0x10 || off == 0x11 || off == 0x12
  | .cellar => off == 0x58
  | .device => off == 0x22
  | .clock => off == 0x15
  | .loft => off == 0x14
  | .larder => off == 0x11
  | _ => false

/-- Is the register part of the configuration (R307)? -/
def isConfig (a : Nat) : Bool :=
  match regRow a with
  | some r => decide (r.acc = .rw) && !keptOff (pageKind (a / 256)) (a % 256)
  | none => false


end Sys2Proof.Machine
end

