-- ==== Sys2Proof/Machine/MeasState.lean ====
section
/-! DEFINITION. The measurement side's run state that no register shows: windows, chains, slices, programmes, groups, check
rotation, excitation, self-calibration (chapters 05-09 and 14), and the messages a field block leaves for the logic die. -/

namespace Sys2Proof.Machine

/-- A fault event on its way to the collector (R370, R371): source, severity, parameter, provoked by INJECT, time of
detection, how many events it stands for (R378 merges beyond 64 kept), whether it
was kept through a loss of the link, and whether the field die has performed its CHIP_RESET. -/
structure FaultEv where
  src : Nat
  severe : Bool
  param : Nat := 0
  injected : Bool := false
  time : Nat := 0
  count : Nat := 1
  late : Bool := false
  performed : Bool := false
  deriving DecidableEq, Repr

/-- An event on its way to the LOFT engine: the fields of R381 but RECSEQ and CHECK. -/
structure LoftReq where
  code : Nat
  source : Nat
  injected : Bool := false
  severe : Bool := false
  field : Bool := false
  late : Bool := false
  partner : Bool := false
  time : Nat := 0
  p0 : Nat := 0
  p1 : Nat := 0
  p2 : Nat := 0
  deriving DecidableEq, Repr

/-- Self-calibrated values of a slice and range (R237): codes, factor, temperature in °C, time of the procedure. -/
structure SelfCal where
  valid : Bool := false
  ofs : Int := 0
  gain : Int := 0
  temp : Int := 0
  time : Nat := 0
  deriving DecidableEq, Repr

/-- The roles of R101. -/
inductive Role where
  | active | check | spare | retired | selftest
  deriving DecidableEq, Repr

/-- What the Larder record keeps of a slice (R101, R122, R399): its role, programme, whether it took over from a retired one, and
its health. -/
structure SliceRec where
  role : Role
  prog : Nat
  progValid : Bool
  spared : Bool := false
  strikes : List Nat := []
  lastTest : Nat := 0
  gainDev : Nat := 0
  deriving DecidableEq, Repr

/-- What a field block tells the logic die: an EVT_RAW cause (with P2 of its Loft record, none where `quiet`), that EVT_RAW of a page
returns to its reset state (R44), a field of a logic-die register to take a value, a count to step, a page's GEN (R57), a fault event, a record; for the Larder a retirement (of a spare or not), a
spare brought in and a deferral (R392, R396); and what MRAM keeps: a slice's record, a terminal's segment map, the references,
self-calibrated values (R237, R399). -/
inductive FMsg where
  | evt (page bit p2 : Nat) (inj quiet : Bool)
  | clearEvt (page : Nat)
  | put (f : Fld) (v : Nat)
  | bump (f : Fld)
  | gen (page : Nat)
  | fault (e : FaultEv)
  | record (r : LoftReq)
  | retire (kind index cause : Nat) (wasSpare inj : Bool)
  | spareIn (kind index : Nat)
  | defer (kind index : Nat) (on : Bool)
  | slice (s : Nat) (r : SliceRec)
  | segments (n : Nat) (w : Nat)
  | refs (primary : Nat) (retired : Option Nat)
  | selfCal (key : Nat) (v : SelfCal)
  | dwell (disagrees : Bool)
  | abort (cause : Nat)
  deriving DecidableEq, Repr

/-- The window in progress of a context (R155-R159). `held`: its close waits for a free queue entry (R14); `timed`: that close is one by
time. -/
structure Win where
  opened : Nat := 0
  count : Nat := 0
  sum : Int := 0
  sumsq : Nat := 0
  minv : Int := 0
  mint : Nat := 0
  maxv : Int := 0
  maxt : Nat := 0
  flags : Nat := 0
  blanked : Nat := 0
  unsettled : Nat := 0
  held : Bool := false
  timed : Bool := false
  deriving DecidableEq, Repr

/-- A snapshot in the field-side queue (R14, R159), with the SEALKEY of its context at the close (R314). -/
structure Snap where
  ctx : Nat
  seq : Nat
  count : Nat
  sum : Int
  sumsq : Nat
  minv : Int
  mint : Nat
  maxv : Int
  maxt : Nat
  flags : Nat
  blanked : Nat
  unsettled : Nat
  tclose : Nat
  opened : Nat
  sealKey : Nat := 0
  deriving DecidableEq, Repr

/-- The chain fields in force for a context (R126, R148). -/
structure Chain where
  s2 : Nat := 0
  dcbEn : Bool := false
  dcbLen : Nat := 0
  maLen : Nat := 0
  maSlide : Bool := false
  phase : Nat := 0
  out : Nat := 0
  deriving DecidableEq, Repr

/-- The window and format fields in force for a context (R148). -/
structure WinCfg where
  len : Nat := 8
  byTime : Bool := false
  ticks : Nat := 0
  align : Bool := false
  coding : Bool := false
  deriving DecidableEq, Repr

/-- A threshold switch (R167, R168): its state, whether it has judged a sample, its confirmation count. -/
structure Sw where
  state : Bool := false
  valid : Bool := false
  cnt : Nat := 0
  deriving DecidableEq, Repr

/-- A sum of `k` stage-2 outputs of the two copies: the DC block's estimate of R130 and R131. -/
structure Held where
  i : Int := 0
  q : Int := 0
  k : Nat := 1
  deriving DecidableEq, Repr

/-- Run state of a context. `seq` is the last SEQ given; `down` the autorange down count; `ovr` and `open_` the runs of
consecutive stage-1 outputs of R149 and R92; `est` the held estimate while DCB_FRZ is in force (R131), `lastA` the live one
where the context's last entry ended; `atEntry`: the chain fields that come into force at its next entry boundary, `wait`: fields
committed during an entry wait for the close of the window (R126); `gap`: its first window after a field-die reset has not opened yet
(R43). -/
structure CtxRun where
  seq : Nat := 0
  win : Win := {}
  chain : Chain := {}
  wcfg : WinCfg := {}
  est : Option Held := none
  lastA : Option Held := none
  atEntry : Option Chain := none
  wait : Bool := false
  gap : Bool := false
  down : Nat := 0
  ovr : Nat := 0
  open_ : Nat := 0
  thA : Sw := {}
  thB : Sw := {}
  deriving DecidableEq, Repr

/-- A sample that left a chain and waits for calibration (R139): its context, code, stage flags, `clk` (R357), restart-relative P1 index,
output instant, `delay`: its chain's total group delay in ticks, `check`: its entry carries CHECK_OK (R142), `forced`: a gate held open makes it
read over-range (R75). -/
structure ChainOut where
  ctx : Nat
  x : Int
  s1 : Bool := false
  s2 : Bool := false
  dcb : Bool := false
  clk : Bool := false
  p1 : Nat := 0
  time : Nat := 0
  delay : Nat := 0
  check : Bool := false
  forced : Bool := false
  deriving DecidableEq, Repr

/-- Run state of a slice (R101-R122, R136-R138). `strikes`: field times of the strikes (R111); `on`: the modulator runs;
`refSettled`: REF_SETTLED; `gate`: the settling gate is open; `restart`: a disturbance waits for the next stage-1 boundary,
`restartRef`: a reference switch does; `p1`: stage-1 periods since the last restart instant; `since`: periods since the last
output; `histI`, `histQ`, `histS`: the stage-1 outputs of the two copies and their S1_SAT marks, newest first; `s2I`, `s2Q`: the
stage-2 outputs of the two copies as they came, newest first (R130), `ph`: periods since the newest; `marks`: the P1 indexes after which an estimate was in force, newest first; `thaw`: unfrozen before the live mean had
its K outputs (R131); `broken`: a change took effect during blanking (R98); `fresh`: a reference's cause closed
an open gate, `moved`: a migration or a pause took the context from an open gate, `here`: a restart took effect at this boundary (R138); `pend`: a context and the
range autoranging has decided for it. -/
structure SliceRun where
  role : Role
  prog : Nat
  progValid : Bool
  shadow : Option Nat := none
  spared : Bool := false
  strikes : List Nat := []
  lastTest : Nat := 0
  gainDev : Nat := 0
  on : Bool := false
  refSettled : Bool := true
  gate : Bool := false
  restart : Bool := false
  restartRef : Bool := false
  p1 : Nat := 0
  since : Nat := 0
  histI : List Int := []
  histQ : List Int := []
  histS : List Bool := []
  s2I : List Int := []
  s2Q : List Int := []
  ph : Nat := 0
  marks : List (Nat × Option Held) := []
  thaw : Bool := false
  outs : List ChainOut := []
  blanked : Bool := false
  broken : Bool := false
  fresh : Bool := false
  moved : Bool := false
  here : Bool := false
  pend : Option (Nat × Nat) := none
  deriving DecidableEq, Repr

/-- An urgent entry (R116): its context, the samples still due, whether it interrupted a wait at SYNC_WAIT (R145). -/
structure Urgent where
  ctx : Nat
  left : Nat
  waiting : Bool := false
  deriving DecidableEq, Repr

/-- Run state of a programme beside PSTAT and LOOPS. `conn`: the context whose set its slice is connected to; `preDone`: the
pre-delay is over, `preWas`: it was at the last stage-1 boundary; `endDue`: the entry has ended and its boundary is due; `tmo`, `cut`:
it ends at the next stage-1 boundary, timed out (R143) or its context switched off (R144); `off`: it left its group's boundaries (R117); `stopped`: it has no slice (R112). -/
structure ProgRun where
  conn : Option Nat := none
  preDone : Bool := true
  preWas : Bool := true
  endDue : Bool := false
  tmo : Bool := false
  cut : Bool := false
  off : Bool := false
  stopped : Bool := false
  urg : Option Urgent := none
  deriving DecidableEq, Repr

/-- What the check slice and the shadowed slice settled in common on a context during a dwell (R108): the number of common samples and
their two sums; `wins`: the windows, by SEQ, that hold one; `flagged`: the windows that closed with SAT, OVR or OPEN. -/
structure DwellAcc where
  n : Nat := 0
  a : Int := 0
  b : Int := 0
  wins : List Nat := []
  flagged : List Nat := []
  deriving DecidableEq, Repr

/-- The newest sample of a slice in a dwell: context, output instant, code, and the window it lies in, by SEQ. -/
structure DwellSample where
  ctx : Nat
  time : Nat
  x : Int
  win : Nat
  deriving DecidableEq, Repr

/-- Where check rotation stands (R108-R114, R239): the handling in hand. `dwell`: settling, comparing or idle; `checkTest`: the
check slice tests itself after a disagreement; `rejoin`: it settles again before it takes the programme; `freedTest`: the
freed slice tests itself; `spareTest`: a spare that powered up does (`next`: rotation goes on with the next programme);
`calCheck`, `calJoin`, `calFreed`: self-calibrations of R239 and R240. -/
inductive RotStage where
  | dwell | checkTest | rejoin | freedTest | spareTest (next : Bool) | calCheck | calJoin | calFreed
  deriving DecidableEq, Repr

/-- Check rotation. `start`: field time of the dwell's first common sample; `acc`: what was settled in common, by context;
`lastA`, `lastB`: the newest sample of the shadowed and of the check slice; `subject`: the slice that
tests itself or calibrates; `moves`: programmes that move to a slice at the next stage-1 boundary (R112); `power`: the spare
that powers up, with the programme it takes over or none; `causes`: why a slice that leaves its role retires, where that is not a
failure (LARDER.LAST.CAUSE), `injured`: those whose failure INJECT provoked; `plaus`: the PLAUS in force for the present dwell where it was written since (R148); `forPair`: the programme of a dwell that a
disagreement of the pair asks for (R346); `bias`, `failNext`: slices INJECT has marked (R122); `overdue`: the dwell ended while DIAG
restarted (R16); `heir`: the spare under test takes the CHECK role over from a retired slice (R113). -/
structure Rotation where
  stage : RotStage := .dwell
  start : Option Nat := none
  acc : Tab DwellAcc := []
  lastA : Option DwellSample := none
  lastB : Option DwellSample := none
  subject : Nat := 0
  moves : List (Nat × Nat) := []
  power : Option (Nat × Option Nat) := none
  causes : Tab Nat := []
  injured : List Nat := []
  plaus : Tab (Option Nat) := []
  forPair : Option Nat := none
  bias : List Nat := []
  failNext : List Nat := []
  overdue : Bool := false
  heir : Bool := false
  deriving DecidableEq, Repr

/-- A trigger that will take effect 20 µs after its stamp (R104): stamp and groups. -/
structure Trigger where
  stamp : Nat
  groups : Nat
  deriving DecidableEq, Repr

/-- A sine generator (R79-R82): the values in force, a written value waiting for the crossing, the ramp that runs, and
the consecutive periods with an amplitude error. -/
structure SineRun where
  freq : Nat := 2097152
  ampl : Nat := 0
  changed : Bool := false
  rampUp : Bool := false
  errRun : Nat := 0
  deriving DecidableEq, Repr

/-- A DC source (R85): level and enable in force. -/
structure IdcRun where
  level : Nat := 100
  en : Bool := false
  deriving DecidableEq, Repr

/-- Excitation and references beside the EXC registers. `line`: the blank line; `guard`: the post-blank guard runs; `ended`: blanking was ended by MAXLEN and
waits for the line to be inactive for the guard time (R99); `retiredRef`: the reference retired (R96). -/
structure ExcRun where
  sines : Tab SineRun := []
  idcs : Tab IdcRun := []
  line : Bool := false
  ended : Bool := false
  guard : Bool := false
  retiredRef : Option Nat := none
  deriving DecidableEq, Repr

/-- Calibration beside the CAL registers. `values` is keyed 8 × slice + range; `bad` lists the factory values (same keys,
terminals at 256 + n, references at 512 and 513, divider taps from 514, sources from 519, segments at 1024 + 9n + k) whose rows were uncorrectable at boot (R235), `rows` is the number of those rows; `running`: the slice in
procedure; `paused`: its programme stands meanwhile (R240); `wanted`: the slices whose request waits for its occasion (R240); `failOfs`, `failPath`: INJECT marks. -/
structure CalRun where
  values : Tab SelfCal := []
  usable : Bool := false
  bad : List Nat := []
  rows : Nat := 0
  running : Option Nat := none
  paused : Bool := false
  wanted : List Nat := []
  failOfs : Bool := false
  failPath : Bool := false
  deriving DecidableEq, Repr

/-- A slice at the factory (R101): programme p on slice p, slice 16 CHECK, slice 17 SPARE. -/
def sliceFactory (s : Nat) : SliceRun :=
  if s < 16 then { role := .active, prog := s, progValid := true }
  else if s = 16 then { role := .check, prog := 0, progValid := false }
  else if s = 17 then { role := .spare, prog := 0, progValid := false }
  else { role := .retired, prog := 0, progValid := false }

end Sys2Proof.Machine
end

