-- ==== Sys2Proof/Machine/TermState.lean ====
section
/-! DEFINITION. The output side's run state that no register shows: digital inputs, switched outputs, analogue outputs, safe
states, supply groups, reflex rules and the budget governor (chapters 04 and 10-13). -/

namespace Sys2Proof.Machine

/-- Digital input beside DISTAT, DI_CHAT and DI_CNT (R175-R177): DI_TIME in force, the run of samples that disagree with the
debounced state (or, before one exists, agree with `cand`), whether a DI_TIME write waits for the next sample, rejected transitions of the chatter interval, INJECT's limit
mark, the field time of the last accepted change and of the last edge counted, and the raw comparator level once one is known
(R180). -/
structure DiRun where
  time : Word := 0#32
  run : Nat := 0
  cand : Bool := false
  iv : Nat := 0
  mark : Bool := false
  since : Nat := 0
  edgeAt : Option Nat := none
  again : Bool := false
  raw : Option Bool := none
  deriving DecidableEq, Repr

/-- Switched output beside the DO registers (R185-R199, R230). `ovl`, `thm`, `gov`: held off by an overload switch-off, a
thermal trip, the governor; `hot`: not yet cooled; `fold`: the fold-back timer runs; `onAt`: field time of the last turn-on;
`tries`, `thermTries`: attempts made; `owImin`,
`bfPulse`: OPEN_WIRE from R193, BACKFEED from a pulse; `failPulse`, `retireNext`: INJECT marks; `masked`: the partner's
off-pulse acknowledgement stands (R197); `cut`: field time of a thermal trip that cut the running fold-back timer off (R190); `due`: when
the next off-pulse falls due, `told`: it has been announced, `pend`: a due pulse waits (R194, R195, R197); `over15`: consecutive measurements above 1.5 by segment; `ratios`: last ratios. -/
structure DoRun where
  ovl : Bool := false
  thm : Bool := false
  hot : Bool := false
  gov : Bool := false
  fold : Bool := false
  onAt : Nat := 0
  tries : Nat := 0
  thermTries : Nat := 0
  owImin : Bool := false
  bfPulse : Bool := false
  failPulse : Bool := false
  retireNext : Bool := false
  masked : Bool := false
  cut : Option Nat := none
  due : Option Nat := none
  told : Bool := false
  pend : Bool := false
  over15 : Tab Nat := []
  ratios : Tab Nat := []
  deriving DecidableEq, Repr

/-- Analogue output beside the AO registers (R207-R213, R230): the cap in force, and whether it is over its thermal limit. -/
structure AoRun where
  cap : Option Nat := none
  above : Bool := false
  deriving DecidableEq, Repr

/-- Safe state of a terminal beside SS_STAT (R217-R222): the triggers held at the last settlement, the captured level, the
supply-hold level of R217 (when `kept`), the stay under OUTHOLD, and RELEASE of R220. -/
structure SsRun where
  trig : Bool := false
  held : Option Nat := none
  kept : Bool := false
  keptLevel : Option Nat := none
  stay : Bool := false
  release : Bool := false
  deriving DecidableEq, Repr

/-- An action on an output: its rank in R25 (1 below UV, 2 reflex, 3 safe state, 4 host), the CAUSE code, the level (none:
OFF), and whether it applies the terminal's safe-state action. -/
structure Act where
  rank : Nat
  cause : Nat
  level : Option Nat
  safe : Bool := false
  deriving DecidableEq, Repr

/-- A change of an output that the lead of a pair has announced (R332): the terminal, the field time from which it applies, the action decided
and what protection leaves of it. -/
structure Announced where
  n : Nat
  due : Nat
  act : Act
  shown : Act
  deriving DecidableEq, Repr

/-- How a pair's follower holds an output (R339-R341). -/
inductive Catch where
  | none | idle | armed | engaged
  deriving DecidableEq, Repr

/-- Run state of a terminal. `next`: the function that waits for FUNC_CHANGE_SETTLE (R63); `shunts`: openings of the shunt;
`want`: the level R25 gives; `level`: the level in force, none for OFF; `expect`: the mirrored level a follower holds; `blocked`: the
lead's notices report COMPLIANCE, OPEN_LOOP or SHUNT_OPEN (R339). -/
structure TermRun where
  next : Option Nat := none
  shunts : Nat := 0
  want : Option Nat := none
  level : Option Nat := none
  catch_ : Catch := .none
  expect : Option Nat := none
  blocked : Bool := false
  di : DiRun := {}
  dout : DoRun := {}
  ao : AoRun := {}
  ss : SsRun := {}
  deriving DecidableEq, Repr

/-- What a retune still has to do (R207): the rails' new setpoints in mV, the outputs still to move to LOW (0) or HIGH (1). -/
structure Retune where
  low : Nat
  high : Nat
  moves : List (Nat × Nat)
  deriving DecidableEq, Repr

/-- A step supply (R206-R212): rail setpoints in mV, the voltages at which the rails stand as far as known, the rails that have not reached
their setpoint, the retune in hand, stopped by a fault, failed restarts, and `absent`: no inductor was found at the field die's release
(R419). -/
structure StepRun where
  low : Nat := 0
  high : Nat := 0
  lowAt : Nat := 0
  highAt : Nat := 0
  lowMoving : Bool := false
  highMoving : Bool := false
  plan : Option Retune := none
  stopped : Bool := false
  fails : Nat := 0
  absent : Bool := false
  deriving DecidableEq, Repr

/-- A supply group beside GRP.STAT (R217-R219): the lowest priority shed so far, whether UV cleared while LOW holds
(`uvOnly`), and the outputs a release still has to release, in order. -/
structure GroupRun where
  shedAt : Nat := 0
  uvOnly : Bool := false
  queue : List Nat := []
  deriving DecidableEq, Repr

/-- A limit the governor judges (R229): the current of a group, of the package, or the heat. -/
inductive Limit where
  | group (g : Nat) | package | heat
  deriving DecidableEq, Repr

/-- The budget governor (R229, R230): consecutive 10 ms sums above PMAX, limits in excess with their adjusted values, held
outputs with the limit that held them (newest first), each output's last contribution in µW and mA, and the limits INJECT reports as
exceeded, with the field time until which it does (R231). Heat is in µW, currents in mA. -/
structure Governor where
  heatRun : Nat := 0
  above : List (Limit × Nat) := []
  holds : List (Nat × Limit) := []
  power : Tab Nat := []
  current : Tab Nat := []
  injected : List (Limit × Nat) := []
  deriving DecidableEq, Repr

/-- The device modes of R26. -/
inductive Mode where
  | boot | commission | run | follow | safe | lockout
  deriving DecidableEq, Repr

/-- The mode's code (R26). -/
def modeCode (m : Mode) : Nat :=
  match m with
  | .boot => 0 | .commission => 1 | .run => 2 | .follow => 3 | .safe => 4 | .lockout => 5

/-- The field die. `cfg`: its running configuration, which a logic-die reset leaves (R42); `img`: what its blocks show in
their RO fields; `out`: what it has to tell the logic die; `time`: its copy of DEVICE.TIME (R21); `mode`: the mode the logic
die last gave it; `wdArmed`: a valid frame has come since the field die's reset (R43); `handover`: a pair handover is in progress, `quiet`: until when off-pulse tests stay suppressed after one (R195, R341);
`report`: a barrier-watchdog expiry waits to be reported (R220); `trigSeen`: groups
that accepted a trigger since their last boundary (R145); `tdacFault`: BOOTSTAT.TDAC_FAULT as the field die knows it; `onFrc`: FCORE runs on FRC, `frcBad`: FRC has failed (R359), `recBad`: the recovered clock has (R351), `degraded`: the logic
die runs degraded, `returnAt`: field time of its latest return to the PLL (R357);
`syncout`: field time at which the SYNCOUT pin's latest
1 µs pulse began; `urgReqs`: the urgent requests on their way, the first one in front (programme, context, count; R116), `urgOver`: a refused one has followed them; `rolesBack`: the slice roles of the Larder
record are restored (R122); `diagGone`: the DIAG role is lost (R114); `veto`, `deferred`: the Larder's veto and the
(kind, index) retirements it defers (R396); `rolesDown`: roles
of the field die that do not run (R15), bit by role number; `paired`, `lead`: this device's pair is READY, and it leads (R220, R332);
`joined`, `ramp`, `dropped`: during a handover the follower's stages drive with the lead's, the AO share in 1/256, and the terminals the lead
has let go (R340, R341); `noticed`: announced changes that wait for T_N, oldest first, `notices`: announcements to be sent; `tn`, `tnMax`: T_N in µs at the
rate of PCLK in force and the larger at either rate, `tnMoves`: a change of the rate is in progress (R332);
`partnerShunts`, `bothShunts`: the partner's F_SHUNT by terminal, and whether both devices' shunts conduct (R319, R344), `partAt`: until when, after
T_R or an abort, switches and shunts drive along (R341, R342); `crateHash`,
`crateHead`: hash of the crate the configuration came from, none from the first page of an application to its end (R42), and its header (R312); `commits`: FIR sets whose commit is computed (R129); `resets`, `shutting`: pages whose block reset or shutdown is in progress (R44, R45); `seqsLost`: it has been
reset alone and not configured since (R43); `draws`: free values drawn. -/
structure Field where
  released : Bool := false
  configured : Bool := false
  mode : Mode := .boot
  paired : Bool := false
  lead : Bool := false
  wdArmed : Bool := false
  handover : Bool := false
  quiet : Nat := 0
  report : Bool := false
  rolesDown : Nat := 0
  cfg : RegFile := []
  img : RegFile := []
  out : List FMsg := []
  time : Nat := 0
  draws : Nat := 0
  ctxs : Tab CtxRun := []
  slices : Tab SliceRun := []
  progs : Tab ProgRun := []
  trigs : List Trigger := []
  trigSeen : Nat := 0
  syncout : Option Nat := none
  tdacFault : Bool := false
  onFrc : Bool := false
  frcBad : Bool := false
  recBad : Bool := false
  degraded : Bool := false
  returnAt : Option Nat := none
  urgReqs : List (Nat × Nat × Nat) := []
  urgOver : Bool := false
  rolesBack : Bool := false
  diagGone : Bool := false
  veto : Nat := 0
  deferred : List (Nat × Nat) := []
  rot : Rotation := {}
  cal : CalRun := {}
  snapq : List Snap := []
  exc : ExcRun := {}
  terms : Tab TermRun := []
  steps : Tab StepRun := []
  groups : Tab GroupRun := []
  ruleHeld : Nat := 0
  gov : Governor := {}
  commits : Nat := 0
  resets : List Nat := []
  shutting : List Nat := []
  seqsLost : Bool := false
  joined : Bool := false
  ramp : Option Nat := none
  dropped : Nat := 0
  noticed : List Announced := []
  notices : List Notice := []
  tn : Nat := 0
  tnMax : Nat := 0
  tnMoves : Bool := false
  partnerShunts : Tab Int := []
  bothShunts : Bool := false
  partAt : Option Nat := none
  crateHash : Option Nat := none
  crateHead : List Word := []
  deriving DecidableEq, Repr

end Sys2Proof.Machine
end

