-- ==== Sys2Proof/Machine/FieldOps.lean ====
section
/-! DEFINITION. The field die's named operations: reading its configuration, setting what it shows, telling the logic die,
and its indexed run state. -/

namespace Sys2Proof.Machine

/-- A field of the running configuration. -/
def Field.c (x : Fld) (f : Field) : Nat := x.get f.cfg

/-- Is a one-bit field of the running configuration set? -/
def Field.cb (x : Fld) (f : Field) : Bool := x.get f.cfg != 0

/-- A field of what the blocks show. -/
def Field.g (x : Fld) (f : Field) : Nat := x.get f.img

/-- Is a one-bit field of what the blocks show set? -/
def Field.gb (x : Fld) (f : Field) : Bool := x.get f.img != 0

/-- Show a value. -/
def Field.put (x : Fld) (v : Nat) (f : Field) : Field := { f with img := x.set v f.img }

/-- Show a truth value. -/
def Field.putb (x : Fld) (b : Bool) (f : Field) : Field := f.put x (b2n b)

/-- The blocks' words at some addresses go back to their reset values. -/
def Field.forget (p : Nat → Bool) (f : Field) : Field := { f with img := f.img.filter fun w => !p w.1 }

/-- Step a saturating count. -/
def Field.bump (x : Fld) (f : Field) : Field := { f with img := x.bump f.img }

/-- Change a field of the running configuration: for the fields hardware owns (R58). -/
def Field.own (x : Fld) (v : Nat) (f : Field) : Field := { f with cfg := x.set v f.cfg }

/-- Leave a message for the logic die. -/
def Field.tell (m : FMsg) (f : Field) : Field := { f with out := f.out ++ [m] }

/-- An EVT_RAW cause of a field page, with P2 of its Loft record (R382); none is recorded where `quiet`. -/
def Field.evt (page bit : Nat) (f : Field) (p2 : Nat := 0) (inj quiet : Bool := false) : Field :=
  f.tell (.evt page bit p2 inj quiet)

/-- A fault event of a field-die source (R370, R371). -/
def Field.fault (src : Nat) (severe : Bool) (f : Field) (param : Option Nat := none) (inj : Bool := false) : Field :=
  f.tell (.fault { src := src, severe := severe, param := param.getD (Sys2Proof.Config.noParam src), injected := inj, time := f.time })

/-- A free value of the field die. -/
def Field.draw (f : Field) : Nat × Field := (Sys2Proof.Config.free f.draws, { f with draws := f.draws + 1 })

/-- Run state of a terminal. -/
def Field.term (n : Nat) (f : Field) : TermRun := tget (fun _ => {}) f.terms n

/-- Replace the run state of a terminal. -/
def Field.setTerm (n : Nat) (t : TermRun) (f : Field) : Field := { f with terms := tput (fun _ => {}) f.terms n t }

/-- Change the run state of a terminal. -/
def Field.modTerm (n : Nat) (h : TermRun → TermRun) (f : Field) : Field := f.setTerm n (h (f.term n))

/-- Change the switched-output run state of a terminal. -/
def Field.modDout (n : Nat) (h : DoRun → DoRun) (f : Field) : Field :=
  f.modTerm n fun t => { t with dout := h t.dout }

/-- Change the digital-input run state of a terminal. -/
def Field.modDi (n : Nat) (h : DiRun → DiRun) (f : Field) : Field := f.modTerm n fun t => { t with di := h t.di }

/-- Change the analogue-output run state of a terminal. -/
def Field.modAo (n : Nat) (h : AoRun → AoRun) (f : Field) : Field := f.modTerm n fun t => { t with ao := h t.ao }

/-- Change the safe-state run state of a terminal. -/
def Field.modSs (n : Nat) (h : SsRun → SsRun) (f : Field) : Field := f.modTerm n fun t => { t with ss := h t.ss }

/-- Run state of a group's step supply. -/
def Field.step (g : Nat) (f : Field) : StepRun := tget (fun _ => {}) f.steps g

/-- Change the run state of a step supply. -/
def Field.modStep (g : Nat) (h : StepRun → StepRun) (f : Field) : Field :=
  { f with steps := tput (fun _ => {}) f.steps g (h (f.step g)) }

/-- Run state of a supply group. -/
def Field.group (g : Nat) (f : Field) : GroupRun := tget (fun _ => {}) f.groups g

/-- Change the run state of a supply group. -/
def Field.modGroup (g : Nat) (h : GroupRun → GroupRun) (f : Field) : Field :=
  { f with groups := tput (fun _ => {}) f.groups g (h (f.group g)) }

/-- Run state of a context. -/
def Field.ctx (n : Nat) (f : Field) : CtxRun := tget (fun _ => {}) f.ctxs n

/-- Change the run state of a context. -/
def Field.modCtx (n : Nat) (h : CtxRun → CtxRun) (f : Field) : Field :=
  { f with ctxs := tput (fun _ => {}) f.ctxs n (h (f.ctx n)) }

/-- Run state of a slice. -/
def Field.slice (s : Nat) (f : Field) : SliceRun := tget sliceFactory f.slices s

/-- Change the run state of a slice. -/
def Field.modSlice (s : Nat) (h : SliceRun → SliceRun) (f : Field) : Field :=
  { f with slices := tput sliceFactory f.slices s (h (f.slice s)) }

/-- Run state of a programme. -/
def Field.prog (p : Nat) (f : Field) : ProgRun := tget (fun _ => {}) f.progs p

/-- Change the run state of a programme. -/
def Field.modProg (p : Nat) (h : ProgRun → ProgRun) (f : Field) : Field :=
  { f with progs := tput (fun _ => {}) f.progs p (h (f.prog p)) }

/-- The function in effect on a terminal (R62, R63). -/
def Field.func (n : Nat) (f : Field) : Nat := f.g (F.TERM_CELLSTAT_FUNC_ACT n)

/-- Is the function a switched output? -/
def isDo (fn : Nat) : Bool := fn == 2

/-- Is the function an analogue output? -/
def isAo (fn : Nat) : Bool := fn == 5 || fn == 6

/-- Does the function drive the terminal from its own cell (R62)? -/
def isOut (fn : Nat) : Bool := isDo fn || isAo fn

/-- The modes that hold outputs at their safe states (R27). -/
def Mode.holds (m : Mode) : Bool := m == .commission || m == .safe || m == .lockout

/-- Every terminal. -/
def allTerms : List Nat := List.range 32

/-- The terminals of a supply group (R61). -/
def groupTerms (g : Nat) : List Nat := (List.range 8).map (8 * g + ·)

/-- The terminals of a supply group with an output function in effect. -/
def Field.groupOuts (g : Nat) (f : Field) : List Nat := (groupTerms g).filter fun n => isOut (f.func n)

/-- Does the SAFE role run (R15)? Roles are numbered SYS 0, SEC 1, HOST 2, PAIR 3, LOFT 4, SEQ 5, DIAG 6, SAFE 7. -/
def Field.safeRuns (f : Field) : Bool := !nbit f.rolesDown 7

/-- Does the SEQ role run? -/
def Field.seqRuns (f : Field) : Bool := !nbit f.rolesDown 5

/-- Does the DIAG role run? -/
def Field.diagRuns (f : Field) : Bool := !nbit f.rolesDown 6

/-- Run a change once for each member of a list, in order. -/
def Field.each (l : List Nat) (h : Nat → Field → Field) (f : Field) : Field := l.foldl (fun s n => h n s) f

/-- Carry out a change only where a condition holds. -/
def Field.when (c : Bool) (h : Field → Field) (f : Field) : Field := if c then h f else f

end Sys2Proof.Machine
end

