-- ==== Sys2Proof/Machine/LogicState.lean ====
section
/-! DEFINITION. The logic die's state: its registers, what each of its blocks holds beside them, what MRAM keeps, and what a
reset leaves. -/

namespace Sys2Proof.Machine

open Sys2Proof

/-- The kinds of barrier frame (R8). -/
inductive BFrame where
  | idle | train | cmd | cfg | time | snap | state | event | ackonly
  deriving DecidableEq, Repr

/-- A frame as it was sent, field by field of R8 and R322. `role` is SROLE, 0 on the barrier; `payload` has 200 bits; `K`
is the link's kind of frame. -/
structure SentFrame (K : Type) where
  kind : K
  fseq : Nat := 0
  ack : Nat := 0
  resend : Bool := false
  peerReset : Bool := false
  role : Nat := 0
  payload : Nat := 0
  tag : Nat := 0
  deriving DecidableEq, Repr

/-- One end of a framed link (R8, R9, R322, R325): the next FSEQ, the number expected next (ACKSEQ is one less), RESEND and
PEER_RESET to be sent, the kept frames (newest first, at most 64), those still to be sent again, the frame sent last, and the
count of frames sent. -/
structure LinkEnd (K : Type) where
  next : Nat := 0
  got : Nat := 0
  ask : Bool := false
  peerReset : Bool := false
  kept : List (SentFrame K) := []
  again : List (SentFrame K) := []
  last : Option (SentFrame K) := none
  count : Nat := 0
  deriving DecidableEq, Repr

/-- Bits [255:32] of a frame (R8, R322), what the tag covers; `code` gives the KIND of the link. -/
def SentFrame.head {K : Type} (code : K → Nat) (x : SentFrame K) : Nat :=
  let bit := fun (b : Bool) => if b then 1 else 0
  ((((((code x.kind * 256 + x.fseq % 256) * 256 + x.ack % 256) * 2 + bit x.resend) * 2 + bit x.peerReset) * 4 + x.role % 4) * 2 ^ 200 +
    x.payload % 2 ^ 200)

/-- The 256 data bits of a frame (R8, R322). -/
def SentFrame.bits {K : Type} (code : K → Nat) (x : SentFrame K) : Nat := x.head code * 2 ^ 32 + x.tag % 2 ^ 32

/-- A whole frame as it goes out: the data bits, the 19 check bits of GC-275, and the fill bits, sent as 0: 5 on the barrier (R8), 13 on the
partner port (R322). -/
def SentFrame.line {K : Type} (code : K → Nat) (fill : Nat) (x : SentFrame K) : Nat :=
  (x.bits code * 2 ^ 19 + Sys2Proof.Config.guardCode (x.bits code) % 2 ^ 19) * 2 ^ fill

/-- An end sends a frame (R8, R9): it carries the acknowledgement, RESEND and PEER_RESET that are due. A frame that takes a number
(`fresh`) is kept. -/
def LinkEnd.send {K : Type} (fresh : Bool) (tag : SentFrame K → Nat) (x : SentFrame K) (e : LinkEnd K) : LinkEnd K :=
  let x := { x with ack := (e.got + 255) % 256, resend := e.ask, peerReset := e.peerReset }
  let x := { x with tag := tag x }
  let e := { e with last := some x, ask := false, peerReset := false, count := (e.count + 1) % 2 ^ 64 }
  if fresh then { e with next := (e.next + 1) % 256, kept := (x :: e.kept).take 64 } else e

/-- The barrier link beside the BARRIER page (R8-R14): its two ends, the boot nonce and the link key of the latest training (R10),
the lanes whose switch is due, oldest first, the errors of the last second by time and lane (R397), a change of rate due, when TIME
and STATE were sent last, the snapshot (context, SEQ) of which the first SNAP half has arrived, and words for the field die (CMD)
and pages of an applied crate (CFG) still to be sent. -/
structure BarrierRun where
  logic : LinkEnd BFrame := {}
  field : LinkEnd BFrame := {}
  nonce : Nat := 0
  key : Option Nat := none
  switchDue : List Nat := []
  rateDue : Option Bool := none
  timeAt : Nat := 0
  stateAt : Nat := 0
  half : Option (Nat × Nat) := none
  laneErrs : List (Nat × Nat × Nat) := []
  cmds : List (Nat × Word) := []
  pages : List Nat := []
  deriving DecidableEq, Repr

/-- Engine cores (R15, R16): the roles restarting and those lost with no spare (bits by role), and by role its checkpoints
(bit 0: the copy written last; bits 1, 2: copies that are valid) and the copy it last went on from after a restart (none: neither
was valid). -/
structure CoreRun where
  restarting : Nat := 0
  lost : Nat := 0
  checkpoints : Tab Nat := []
  resumed : Tab (Option Nat) := []
  deriving DecidableEq, Repr

/-- A row on its way into a spare row (R391): why it retires, whether INJECT provoked it. -/
structure RowMove where
  mem : Memory
  row : Nat
  cause : Nat
  inj : Bool
  deriving DecidableEq, Repr

/-- The memory controllers (R18-R20, R391): the times of each row's corrected errors, newest first, since its count was
cleared; the moves in progress; the memories of which INJECT has marked a row. -/
structure MemoryRun where
  counts : List ((Memory × Nat) × List Nat) := []
  moves : List RowMove := []
  marked : List Memory := []
  deriving DecidableEq, Repr

/-- Where start-up stands (R34). `main`: 0 in reset, 1 released, 2 straps latched, 3 oscillator wait over, 4 PLL locked, 5 crate
verified (9a), 6 calibration and crate applied (9b), 7 cross-checked (9c), 8 mode entered; `logic`: 0, 1 step 8a, 2 step 8b;
`field`: 0, 1 VISO, 2 trained, 3 released, 4 not to be had (training failed). `tries`: training attempts; `safe`: SAFE_CAUSE bits the checks of R36 and R37 call for; `crate`: the physical
slot applied; `promote`: PENDING waits for its promotion; `back`: a failed promotion, boot repeats with the old ACTIVE;
`epochAt`: when BOOT_EPOCH was written in the present boot (R315); `kept`: the field die ran on through the reset (R42);
`bare`: the groups whose inductor the board omits (R419). -/
structure BootRun where
  main : Nat := 0
  logic : Nat := 0
  field : Nat := 0
  tries : Nat := 0
  safe : Nat := 0
  crate : Option Nat := none
  promote : Bool := false
  back : Bool := false
  epochAt : Option Nat := none
  kept : Bool := false
  bare : List Nat := []
  deriving DecidableEq, Repr

/-- A WRITE_AUTH that is pending (R247, R331): its address, words and counter, the number of the session keys that judge it, whether
its tag verifies under them, since when it waits for its mirrored commit, and whether INJECT spoils its tag. -/
structure AuthFrame where
  addr : Nat
  words : List Word
  ctr : Nat
  keys : Nat
  ok : Bool
  mirrored : Option Nat := none
  spoiled : Bool := false
  deriving DecidableEq, Repr

/-- The forerunner window's latch of a channel (R272, R273): DATA and STAT. -/
structure LegacyLatch where
  data : Nat := 0x8000
  stat : Nat := 0
  deriving DecidableEq, Repr

/-- The host port (chapters 15 and 16). `ferr`: FERR is due in the next status byte; `status`: the last status byte; `reply`:
the words of the last device-driven data phase; `auth`: a WRITE_AUTH that is pending; `short`, `late`, `badTag`: INJECT marks, `provoked`: one has acted in the frame
in progress, whose errors are INJECT's (R53); of the
forerunner protocol the pending reply (24 bits), the bits shifted out last, ERRCNT, MISMATCH.COUNT and LAST, the channels' latches, and
the time latched by TIME0; `ready`: until when a handover that has ended leaves READY 0 (R341); `lanes`, `cfg`: HOST.LANES and HOST.CFG
in force since the latest falling edge of HSEL (R243). -/
structure HostRun where
  ferr : Bool := false
  status : Nat := 0
  reply : List Word := []
  auth : Option AuthFrame := none
  short : Bool := false
  late : Bool := false
  badTag : Bool := false
  provoked : Bool := false
  legacyNext : Nat := 0
  legacySent : Nat := 0
  legacyErrs : Nat := 0
  mismatches : Nat := 0
  mismatchAt : Nat := 0
  latches : Tab LegacyLatch := []
  times : Nat := 0
  ready : Option Nat := none
  lanes : Nat := 0
  cfg : Nat := 8
  deriving DecidableEq, Repr

/-- What a PROVE has shown (R297, R298): the RESULT its ACCEPT will carry, the scope and the holder's point, and T2. -/
structure Proved where
  result : Nat
  scope : Nat
  holder : Nat
  t2 : Nat
  deriving DecidableEq, Repr

/-- A handshake in progress (R296, R297): the words of OPEN, its role and REKEY, the RESULT its CHALLENGE will carry, the number of the
device's ephemeral pair, the CHALLENGE once it is ready, and PROVE once it has come. -/
structure Handshake where
  role : Nat
  rekey : Bool
  result : Nat
  opened : List Word := []
  ephemeral : Nat := 0
  sent : List Word := []
  proved : Option Proved := none
  deriving DecidableEq, Repr

/-- The nonce of an enrolment or transfer (R305): its purpose, when it was given, its eight words. -/
structure Nonce where
  purpose : Nat
  time : Nat
  words : List Word
  deriving DecidableEq, Repr

/-- Sessions: the newest, the one it replaces during an overlap (R304), how many sets of session keys there have been,
the handshake, whether the pre-generated ephemeral pair is at hand (R301), the kind of the reply being made, with
its RESULT and the message's words (an earlier message stays pending until then), the reply that is ready (kind and words), and the nonce
that may be used. -/
structure SessionRun where
  cur : Option Session := none
  old : Option Session := none
  keys : Nat := 0
  hand : Option Handshake := none
  pairReady : Bool := true
  making : Option (Nat × Nat × List Word) := none
  reply : Option (Nat × List Word) := none
  nonce : Option Nonce := none
  deriving DecidableEq, Repr

/-- A context's lifetime extremes, codes (R166). -/
structure Life where
  minv : Int := 0
  maxv : Int := 0
  deriving DecidableEq, Repr

/-- Crate staging and application (R309-R313). `stage`: the words by offset; `fill`: highest offset written plus one; `words`: the crate a
CLOSE is about; `apply`: the CLOSE is CLOSE_APPLY; `joint`, `partner`: the partner checks it too, and its answer (R333); `mine`: this device's
own checks have passed and wait for that answer; `config`: the configuration it produces; `signer`: the owner key its signature verified under;
`oldKeys`: consumer slots whose key changed, with the time and the key before (R313). -/
structure CrateRun where
  stage : Tab Word := []
  fill : Nat := 0
  words : List Word := []
  apply : Bool := false
  joint : Bool := false
  partner : Option Bool := none
  mine : Bool := false
  config : RegFile := []
  signer : Nat := 0
  oldKeys : List (Nat × Nat × Option Nat) := []
  deriving DecidableEq, Repr

/-- The Cellar beside its page (R286, R287, R290, R291). `authTimes`, `tagTimes`: times of failures that count toward AUTH and BARRIER;
`lastGuard`: time of the last GUARD and its hold-off exponent; `hold`: end of the hold-off; `mismatchAt`: time of the last SEC
mismatch; `stuck`: halted until reset; `rngAt`: time of the last entropy failure; `testing`: an on-demand self-test runs;
`noSeal`: a self-test has failed; `firing`: when each detector last fired (R295). -/
structure CellarRun where
  authTimes : List Nat := []
  tagTimes : List Nat := []
  lastGuard : Option (Nat × Nat) := none
  hold : Option Nat := none
  mismatchAt : Option Nat := none
  stuck : Bool := false
  rngAt : Option Nat := none
  testing : Bool := false
  noSeal : Bool := false
  firing : Tab Nat := []
  deriving DecidableEq, Repr

/-- Clocks beside the CLOCK page (R349-R365): whether HFRC_B is the HFRC in service, whether nURG is held for ROOT or PLL, the
ticks spent degraded before, and since when the logic die runs degraded. -/
structure ClockRun where
  hfrcB : Bool := false
  urg : Bool := false
  degTicks : Nat := 0
  degradedAt : Option Nat := none
  deriving DecidableEq, Repr

/-- The watchdog beside its page (R366-R369): whether a window runs, since when the clock in service counts it and from which count (`opened`,
`base`: its opening and 0, or a change of clock within it), its length and its OPEN in ticks, its registration,
whether a first window is due at the next tick, the DOUBLE and EARLY findings of the window in progress, INJECT marks for MISSED and
DOUBLE, and whether a restart still has to see a window without a finding (R30). -/
structure WdogRun where
  running : Bool := false
  opened : Nat := 0
  base : Nat := 0
  close : Nat := 0
  openAt : Nat := 0
  tasks : Nat := 0
  firstDue : Bool := false
  double : Nat := 0
  early : Nat := 0
  injMissed : Nat := 0
  injDouble : Nat := 0
  restarted : Bool := false
  deriving DecidableEq, Repr

/-- The collector beside the FAULT page (R371-R377): each source's events since its history was emptied, newest first (time, and
whether it was raised SEVERE), the parameter of each source's latest event, and the time of the latest ERRPIN. -/
structure FaultRun where
  history : Tab (List (Nat × Bool)) := []
  params : Tab Nat := []
  errAt : Option Nat := none
  deriving DecidableEq, Repr

/-- A record of the Loft (R381): its event, RECSEQ and CHECK; one whose row is uncorrectable reads all ones (R386). -/
structure LoftRec where
  req : LoftReq
  seq : Nat
  check : Nat
  bad : Bool := false
  deriving DecidableEq, Repr

/-- The Loft engine beside its page (R385-R389): the queue, the check in hand (clear asked, forced) with the count it covers,
and INJECT's mark. -/
structure LoftRun where
  queue : List LoftReq := []
  check : Option (Bool × Bool × Nat) := none
  failNext : Bool := false
  deriving DecidableEq, Repr

/-- The Larder beside its page (R391-R400): the restore tests in hand, oldest first (kind, index), retirements deferred or pending (kind, index),
and the time at which LARDER.GEN advanced last (R57). -/
structure LarderRun where
  testing : List (Nat × Nat) := []
  pending : List (Nat × Nat) := []
  genAt : Option Nat := none
  deriving DecidableEq, Repr

/-- A planned handover (R341): T_S, its cause, the terminals it releases at T_S because they are caught, whether T_S has passed,
the steps of the ramp made, when the last confirmation came and when this device sent its last, and a cause of abort (R342). -/
structure Handover where
  ts : Nat
  cause : Nat
  caught : Nat := 0
  begun : Bool := false
  steps : Nat := 0
  confirmed : Nat := 0
  sent : Nat := 0
  abort : Option Nat := none
  deriving DecidableEq, Repr

/-- Pairing beside the PAIR page (chapter 19). `port`: this device's end of the partner link; `step`: the step of R327 completed
last; `good`: since when frames have passed the guard check; `heard`: time of the last good heartbeat; `pleadAt`: when this device asserted
PLEAD; `waiting`: it waits with PLEAD released (R336); `queue`: frames to send; `caughtAt`: time of engagement by terminal; `alignBad`: since
when the offset lies above 40 ns; `means`: this device's means that wait for comparison (context, SEQ, MEAN), `others`: the partner's, with SEQ[7:0]; `mine`, `theirs`: whether
this device's dwell and the partner's disagreed (R346); `quiet`: until when INJECT suppresses heartbeats; `disagree`,
`badTag`: INJECT marks; `handover`: one in progress; `lockCatch`: a local cause keeps the catch disarmed (R338); when HEARTBEAT, TIME and SUMMARY
were sent last; `nonce`: of this device's last HELLO; `pleadOff`: when an old lead releases PLEAD (R341); `aligning`: contexts whose next close
on the lead the follower is to follow (R329); `steer`: this device's steering of its PLL in 2⁻³² (R328); `handAgain`: a local cause asks for
another handover once the one in progress has been aborted (R338); `crateAt`: the byte of a joint CLOSE's crate to be forwarded next (R333). -/
structure PairRun where
  port : LinkEnd PFrame := { peerReset := true }
  step : Nat := 0
  good : Option Nat := none
  heard : Nat := 0
  pleadAt : Nat := 0
  waiting : Bool := false
  queue : List PFrame := []
  caughtAt : Tab Nat := []
  alignBad : Option Nat := none
  means : List (Nat × Nat × Int) := []
  others : List (Nat × Nat × Int) := []
  mine : Option Bool := none
  theirs : Option Bool := none
  quiet : Option Nat := none
  disagree : Bool := false
  badTag : Bool := false
  handover : Option Handover := none
  lockCatch : Bool := false
  hbAt : Nat := 0
  timeAt : Nat := 0
  sumAt : Nat := 0
  nonce : Nat := 0
  pleadOff : Option Nat := none
  aligning : List Nat := []
  steer : Int := 0
  handAgain : Bool := false
  crateAt : Option Nat := none
  deriving DecidableEq, Repr

/-- A crate slot in MRAM (R311): the crate's words, the owner point under which its signature verifies, whether its rows read, and
whether it passed steps 1-9 of R310 when it was written. -/
structure Slot where
  words : List Word := []
  signer : Nat := 0
  readable : Bool := true
  ok : Bool := true
  deriving DecidableEq, Repr

/-- The LOCKOUT marker (R293): grade 2 PURGE or 3 GRAVE, the hash of ACTIVE, whether its erasure has completed, and the counts of
PURGE and GRAVE alarms it carries (R295). -/
structure Marker where
  grade : Nat
  hash : Nat
  done : Bool := false
  purges : Nat := 0
  graves : Nat := 0
  deriving DecidableEq, Repr

/-- The Loft in MRAM (R381-R389): the records, oldest first, what was refused, the next RECSEQ, clears, and the chain's heads: the stored head, the one the last clear
left in place, and what a power loss left of a record in flight. -/
structure LoftStore where
  recs : List LoftRec := []
  dropped : Nat := 0
  next : Nat := 0
  clears : Nat := 0
  head : Nat := 0
  base : Nat := 0
  flight : Option LoftReq := none
  deriving DecidableEq, Repr

/-- The Larder record (R399): of each kind the spares and the retired, the resources retired, restores made by (kind, index), slice
records, segment maps, the primary reference and the one retired, the lanes in service, whether HFRC_B serves, self-calibrated values, the core of each role, the spare row that
serves a retired one, by (kind, row), the copy in use and its writes. -/
structure LarderStore where
  spare : Tab Nat := []
  insvc : Tab Nat := []
  retired : List (Nat × Nat) := []
  restores : List ((Nat × Nat) × Nat) := []
  slices : Tab (Option SliceRec) := []
  segments : Tab Nat := []
  primary : Nat := 0
  refRetired : Option Nat := none
  lanes : Nat := 3
  hfrcB : Bool := false
  selfCal : Tab SelfCal := []
  cores : Tab Nat := []
  rows : List ((Nat × Nat) × Nat) := []
  copy : Nat := 0
  writes : Nat := 0
  deriving DecidableEq, Repr

/-- What MRAM and OTP keep through every reset (R278, R311, R315, R381, R399). `labels`: physical slots of ACTIVE, PENDING, FALLBACK
and SPARE; `owner`: the owner key; `pairKey`: the pair key; `keys`: consumer seal keys by slot; `puf`: the PUF helper data stand; `pairEpoch`: pairing epoch. -/
structure Mram where
  slots : Tab Slot := []
  active : Nat := 0
  pending : Nat := 1
  fallback : Nat := 2
  spare : Nat := 3
  floor : Nat := 0
  epoch : Nat := 0
  owner : Option Nat := none
  ownerSlot : Nat := 0
  pairKey : Option Nat := none
  pairSlot : Nat := 0
  pairEpoch : Nat := 0
  keys : Tab Nat := []
  keySlots : Tab Nat := []
  puf : Bool := true
  marker : Option Marker := none
  loft : LoftStore := {}
  larder : LarderStore := {}
  deriving DecidableEq, Repr

/-- The logic die. `regs`: its registers, and of field-die pages the copies it keeps (EVT_RAW, STATE frame copies, counts);
`time`, `frac`: DEVICE.TIME and its fraction (R361, R362); `raised`: fault events that have not reached the collector;
`recs`: events that have not reached the LOFT engine; `errout`, `minw`: the ERROUT latch of the always-on reset domain and whether its
minimum width runs (R377), `released` whether its release has been written since the latest ERRPIN; `timeBad`: a logic-die reset left the time to be taken from the field die
(R361); `resets`, `shutting`: its pages whose block reset or shutdown is in progress (R44, R45);
`lifes`: lifetime extremes by context; `owned`: registers with a field that hardware owns, and the time at which it changed last (R58). -/
structure Logic where
  regs : RegFile := [(0x0012, 1#32)]
  time : Nat := 0
  frac : Nat := 0
  mode : Mode := .boot
  linkUp : Bool := false
  raised : List FaultEv := []
  recs : List LoftReq := []
  draws : Nat := 0
  errout : Bool := false
  minw : Bool := false
  timeBad : Bool := false
  resets : List Nat := []
  shutting : List Nat := []
  lifes : Tab Life := []
  released : Bool := false
  owned : List (Nat × Nat) := []
  boot : BootRun := {}
  bar : BarrierRun := {}
  cores : CoreRun := {}
  mem : MemoryRun := {}
  host : HostRun := {}
  sess : SessionRun := {}
  crate : CrateRun := {}
  cellar : CellarRun := {}
  clocks : ClockRun := {}
  wdog : WdogRun := {}
  faults : FaultRun := {}
  loft : LoftRun := {}
  larder : LarderRun := {}
  pair : PairRun := {}
  mram : Mram := {}
  deriving DecidableEq, Repr

end Sys2Proof.Machine
end

