-- ==== Sys2Proof/Machine/State.lean ====
section
/-! DEFINITION. The state of the block, the reasons a step can stop, and the state right after reset. -/

namespace Sys2Proof.Machine

open Sys2Proof

/-- The block: logic die, field die, and the queue of waiting commands, first in first out. -/
structure State where
  ld : Logic := {}
  fd : Field := {}
  pending : List Instr := []
  deriving DecidableEq, Repr

/-- Why a step stops with a fault. -/
inductive Fault where
  /-- The host port was clocked before the power rails came up. No command raises it: every command of the table has an
  effect. Safe. -/
  | noPower
  deriving DecidableEq, Repr

/-- Why a command has no meaning. -/
inductive Refusal where
  /-- The command of this mnemonic is not modelled yet. Raised by an arm of `exec` only. Safe. -/
  | notModelled (mnemonic : String)
  deriving DecidableEq, Repr

/-- The block right after reset: both dies in reset, every register at its reset value, nothing waiting. -/
def State.reset : State := {}

end Sys2Proof.Machine
end

