-- ==== Sys2Proof/Machine/Ops.lean ====
section
/-! DEFINITION. The named operations over the whole state: logic-die registers and events, messages from the field die, and
the three ways a command acts (on the logic die, on the field die, on both). -/

namespace Sys2Proof.Machine

open Sys2Proof

/-- A field of a logic-die register. -/
def Logic.g (x : Fld) (l : Logic) : Nat := x.get l.regs

/-- Is a one-bit field set? -/
def Logic.gb (x : Fld) (l : Logic) : Bool := x.get l.regs != 0

/-- Set a field of a logic-die register. -/
def Logic.put (x : Fld) (v : Nat) (l : Logic) : Logic := { l with regs := x.set v l.regs }

/-- Set a one-bit field. -/
def Logic.putb (x : Fld) (b : Bool) (l : Logic) : Logic := l.put x (b2n b)

/-- Step a saturating count. -/
def Logic.bump (x : Fld) (l : Logic) : Logic := { l with regs := x.bump l.regs }

/-- Write a whole register. -/
def Logic.putWord (a : Nat) (w : Word) (l : Logic) : Logic := { l with regs := l.regs.write a w }

/-- Carry out a change only where a condition holds. -/
def Logic.when (c : Bool) (h : Logic → Logic) (l : Logic) : Logic := if c then h l else l

/-- Run a change once for each member of a list, in order. -/
def Logic.each (xs : List Nat) (h : Nat → Logic → Logic) (l : Logic) : Logic := xs.foldl (fun s n => h n s) l

/-- The class of the Loft in which an EVT_RAW event of a page is recorded (R382); none for the pages of classes 0, 4 and 5, whose
records have rules of their own, and for BARRIER, which R382 gives no class. Of the EXC page the references' events (EXTREF_BAD,
REF_MISMATCH, REF_SWAP) are of class 12, those of the terminals' front end of class 9 (log 103). -/
def loftClass (page bit : Nat) : Option Nat :=
  match pageKind page with
  | .clock => some 1 | .host => some 2 | .pair => some 3 | .cellar => some 6 | .larder => some 7
  | .fsup | .reflex => some 8
  | .term _ | .xpt => some 9
  | .slice _ => some 10
  | .ctx _ | .seq | .filt _ | .seqtab => some 11
  | .cal => some 12
  | .exc => some (if 13 ≤ bit ∧ bit ≤ 15 then 12 else 9)
  | .device | .wdog | .fault | .loft | .barrier | .reserved => none

/-- A record for the LOFT engine (R385). -/
def Logic.record (r : LoftReq) (l : Logic) : Logic := { l with recs := l.recs ++ [r] }

/-- A system record of a class (R382), stamped now. -/
def Logic.log (code source : Nat) (l : Logic) (p0 p1 p2 : Nat := 0) : Logic :=
  l.record { code := code, source := source, time := l.time, p0 := p0, p1 := p1, p2 := p2 }

/-- An EVT_RAW cause sets (R52) and its record goes to the LOFT engine with CODE 0x100 + k, P0 = EVT_RAW, P1 = the page's
instance unless its own rule names another (R382); the Loft's own events are recorded in class 0 under R382's table (R389). -/
def Logic.setEvt (page bit p2 : Nat) (inj quiet field : Bool) (time : Nat) (l : Logic) (p1 : Option Nat := none) : Logic :=
  let l := l.put ⟨R.EVT_RAW page, bit, 1⟩ 1
  let p0 := (l.regs.word (R.EVT_RAW page)).toNat
  let r : LoftReq :=
    { code := (loftClass page bit).getD 0 * 4096 + 0x100 + bit, source := page, injected := inj, field := field, time := time, p0 := p0,
      p1 := p1.getD (pageInst (pageKind page)), p2 := p2 }
  l.when (!quiet && (loftClass page bit).isSome) (Logic.record r)

/-- An EVT_RAW cause of a logic-die page. -/
def Logic.evt (page bit : Nat) (l : Logic) (p2 : Nat := 0) (inj quiet : Bool := false) : Logic :=
  l.setEvt page bit p2 inj quiet false l.time

/-- A fault event of a logic-die source on its way to the collector (R370, R371). -/
def Logic.fault (src : Nat) (severe : Bool) (l : Logic) (param : Option Nat := none) (inj : Bool := false) : Logic :=
  { l with raised := l.raised ++ [{ src := src, severe := severe, param := param.getD (Sys2Proof.Config.noParam src), injected := inj, time := l.time }] }

/-- The factory figures of a kind (R390): TOTAL, IN_SERVICE, SPARE. -/
def kindFigures (k : Nat) : Nat × Nat × Nat :=
  match k with
  | 0 => (18, 17, 1) | 1 => (5, 4, 1) | 2 => (4, 3, 1) | 3 => (3, 2, 1) | 4 => (288, 256, 32) | 5 => (2, 1, 1) | 6 => (2, 1, 1)
  | 7 => (16448, 16384, 64) | 8 => (2064, 2048, 16) | 9 => (2064, 2048, 16) | 10 => (2064, 2048, 16)
  | 11 => (66048, 65536, 512) | 12 => (8256, 8192, 64) | 13 => (16, 11, 5) | _ => (0, 0, 0)

/-- The spares of a kind. -/
def Logic.spares (k : Nat) (l : Logic) : Nat := tget (fun k => (kindFigures k).2.2) l.mram.larder.spare k

/-- The resources of a kind in service. -/
def Logic.inSvc (k : Nat) (l : Logic) : Nat := tget (fun k => (kindFigures k).2.1) l.mram.larder.insvc k

/-- Is a resource retired? -/
def Logic.isRetired (k i : Nat) (l : Logic) : Bool := l.mram.larder.retired.contains (k, i)

/-- SPARE_PCT of R397. -/
def Logic.sparePct (k : Nat) (l : Logic) : Nat := 100 * l.spares k / max 1 (kindFigures k).2.2

/-- The core a role runs on at the factory: SYS 0, HOST 1, PAIR 2, LOFT 3 of CORE_L, SEQ 0, DIAG 1, SAFE 2 of CORE_F; the last
core of each die is its spare. -/
def coreFactory (r : Nat) : Nat := [0, 0, 1, 2, 3, 0, 1, 2].getD r 0

/-- The core of a role. -/
def Logic.core (r : Nat) (l : Logic) : Nat := tget coreFactory l.mram.larder.cores r

/-- Change what MRAM keeps. -/
def Logic.keep (h : Mram → Mram) (l : Logic) : Logic := { l with mram := h l.mram }

/-- A change of the Larder record is written to the older copy and read back (R399). -/
def Logic.larderKeep (h : LarderStore → LarderStore) (l : Logic) : Logic :=
  l.keep fun m =>
    let r := h m.larder
    { m with larder := { r with copy := 1 - r.copy, writes := (r.writes + 1) % 65536 } }

/-- Change pairing's own state. -/
def Logic.modPair (h : PairRun → PairRun) (l : Logic) : Logic := { l with pair := h l.pair }

/-- A frame into the partner port's queue of 64 (R324), on a device of a READY pair. -/
def Logic.sendPartner (k : PFrame) (l : Logic) : Logic :=
  l.when (l.gb F.PAIR_STAT_READY && decide (l.pair.queue.length < 64)) (Logic.modPair fun p => { p with queue := p.queue ++ [k] })

/-- Ticks in 10 µs, at most, and in 20 µs, at least (R336, R341). -/
def ticks10us : Nat := 245
def ticks20us : Nat := 492

/-- Ticks in a second. -/
def secondTicks : Nat := 24576000

/-- LINK.LANES bits (R60): 0 L0, 1 L1, 2 LS. -/
def laneBit (k : Nat) : Fld := ⟨R.BARRIER_LINK, 2 + k, 1⟩

/-- CLOCK STATUS bits (R365). -/
def clockDegraded : Fld := ⟨R.STATUS R.pageCLOCK, 4, 1⟩
def clockOnFrc : Fld := ⟨R.STATUS R.pageCLOCK, 5, 1⟩

/-- FCORE's source changes, and STATUS[5] of the CLOCK page with it (R365). -/
def State.fcoreOn (frc : Bool) (s : State) : State :=
  { s with ld := s.ld.putb clockOnFrc frc, fd := { s.fd with onFrc := frc } }

/-- The logic die no longer runs degraded (R357). -/
def Field.undegraded (f : Field) : Field := if f.degraded then { f with degraded := false, returnAt := some f.time } else f

/-- SRCSTAT.OK of a source (R365): 0 ROOT, 1 PLL, 2 HFRC_A, 3 HFRC_B, 4 LPO, 5 FRC. -/
def clockOk (k : Nat) : Fld := ⟨R.CLOCK_SRCSTAT, k, 1⟩

/-- PLEAD is asserted (R335). -/
def Logic.assertPlead (l : Logic) : Logic :=
  ((l.put F.PAIR_STAT_PLEAD_OUT 1).put F.PAIR_STAT_PLEAD_IN 1).modPair fun p => { p with pleadAt := l.time, waiting := false }

/-- This device no longer drives PLEAD (R335); `other`: another device holds the pin. -/
def Logic.releasePlead (other : Bool) (l : Logic) : Logic := (l.put F.PAIR_STAT_PLEAD_OUT 0).putb F.PAIR_STAT_PLEAD_IN other

/-- A page's GEN advances (R57). -/
def Logic.gen (page : Nat) (l : Logic) : Logic := l.put ⟨R.GEN page, 0, 32⟩ (l.g ⟨R.GEN page, 0, 32⟩ + 1)

/-- LARDER.GEN advances (R57): once at a tick, however many resources change at it. -/
def Logic.larderGen (l : Logic) : Logic :=
  if l.larder.genAt == some l.time then l else { l with larder := { l.larder with genAt := some l.time } }.gen R.pageLARDER

/-- A Larder event: its record carries KIND and INDEX in P1 and CAUSE in P2 (R398). -/
def Logic.larderEvt (bit kind index cause : Nat) (inj : Bool) (l : Logic) : Logic :=
  l.setEvt R.pageLARDER bit cause inj false false l.time (some (kind * 2 ^ 24 + index % 2 ^ 24))

/-- A kind's spares have fallen (R398): SPARES_LOW where none is left, ROW_SPARES where the warning level is reached. -/
def Logic.fewer (kind index : Nat) (was : Nat) (inj : Bool) (l : Logic) : Logic :=
  let out := was != 0 && l.spares kind == 0
  let l := l.when out (Logic.larderEvt 4 kind index 0 inj)
  let l := l.when (out && decide (kind ≤ 6)) (Logic.fault 62 false (param := kind) (inj := inj))
  let warn := l.g F.LARDER_CFG_ROW_WARN
  l.when (decide (7 ≤ kind ∧ kind ≤ 12) && decide (warn < 100 * was / max 1 (kindFigures kind).2.2) &&
    decide (l.sparePct kind ≤ warn)) (Logic.fault 61 false (param := kind) (inj := inj))

/-- A resource retires (R390, R392, R398, R400): out of service, or out of the spares. -/
def Logic.retire (kind index cause : Nat) (wasSpare inj : Bool) (l : Logic) : Logic :=
  if l.isRetired kind index then l
  else
    let was := l.spares kind
    let n := l.inSvc kind
    let l := l.larderKeep fun r =>
      let r := { r with retired := r.retired ++ [(kind, index)] }
      if wasSpare then { r with spare := tput (fun k => (kindFigures k).2.2) r.spare kind (was - 1) }
      else { r with insvc := tput (fun k => (kindFigures k).2.1) r.insvc kind (n - 1) }
    let l := ((l.put F.LARDER_LAST_INDEX index).put F.LARDER_LAST_KIND kind).put F.LARDER_LAST_CAUSE cause
    let l := (l.putb F.LARDER_LAST_INJECTED inj).larderEvt 0 kind index cause inj
    (l.when wasSpare (Logic.fewer kind index was inj)).larderGen

/-- A spare comes into service (R390). -/
def Logic.spareIn (kind index : Nat) (l : Logic) : Logic :=
  let was := l.spares kind
  let n := l.inSvc kind
  let l := l.larderKeep fun r =>
    { r with
      spare := tput (fun k => (kindFigures k).2.2) r.spare kind (was - 1)
      insvc := tput (fun k => (kindFigures k).2.1) r.insvc kind (n + 1) }
  ((l.larderEvt 1 kind index 0 false).fewer kind index was false).larderGen

/-- A wear retirement is deferred or no longer so (R393, R396); HEALTH of its kind may change (R57). -/
def Logic.defer (kind index : Nat) (on : Bool) (l : Logic) : Logic :=
  let p := l.larder.pending
  if on then
    if p.contains (kind, index) then l
    else (({ l with larder := { l.larder with pending := p ++ [(kind, index)] } }).larderEvt 2 kind index 1 false).larderGen
  else if p.contains (kind, index) then
    ({ l with larder := { l.larder with pending := p.filter fun x => x != (kind, index) } }).larderGen
  else l

/-- Both dwells of a disagreement have ended (R346): the verdict on both devices; unresolved, a MILD fault. -/
def Logic.judgeDwells (l : Logic) : Logic :=
  match l.pair.mine, l.pair.theirs with
  | some a, some b =>
    let lead := if l.g F.PAIR_STAT_ROLE = 1 then a else b
    let follower := if l.g F.PAIR_STAT_ROLE = 1 then b else a
    let v := match lead, follower with
      | true, false => 1 | false, true => 2 | false, false => 3 | true, true => 4
    let l := ({ l with pair := { l.pair with mine := none, theirs := none } }).put F.PAIR_DISAGREE_VERDICT v
    l.when (v == 3) (Logic.fault 29 false)
  | _, _ => l

/-- A cause of abort of a handover in progress (R342): 1 silence, 2 catch, 3 UV, 4 fault, 5 SAFE cause; the first one counts. -/
def Logic.abortCause (c : Nat) (l : Logic) : Logic :=
  match l.pair.handover with
  | some h => if h.abort.isSome then l else { l with pair := { l.pair with handover := some { h with abort := some c } } }
  | none => l

/-- The registers with a field that hardware owns (R58): SLICE CTRL, SLICE.GRP and TDAC. -/
def hwOwned (a : Nat) : Bool :=
  match pageKind (a / 256), a % 256 with
  | .slice _, off => off == 1 || decide (0x48 ≤ off ∧ off ≤ 0x4B)
  | .exc, off => off == 0x39
  | _, _ => false

/-- An internal update of a register with such a field falls on this tick (R58). -/
def Logic.noteOwned (a : Nat) (l : Logic) : Logic := { l with owned := (a, l.time) :: l.owned.filter fun x => x.2 == l.time }

/-- A message of the field die that needs no frame of its own acts on the logic die; the others wait in their queue. -/
def takeMsg (time : Nat) (m : FMsg) (l : Logic) : Logic :=
  match m with
  | .evt page bit p2 inj quiet => l.setEvt page bit p2 inj quiet true time
  | .clearEvt page => l.putWord (R.EVT_RAW page) 0#32
  | .put x v => (l.put x v).when (hwOwned x.addr) (Logic.noteOwned x.addr)
  | .bump x => l.bump x
  | .gen page => if page = R.pageLARDER then l.larderGen else l.gen page
  | .retire kind index cause wasSpare inj => l.retire kind index cause wasSpare inj
  | .spareIn kind index => l.spareIn kind index
  | .defer kind index on => l.defer kind index on
  | .slice s r => (l.larderKeep fun k => { k with slices := tput (fun _ => none) k.slices s (some r) }).larderGen
  | .segments n w => l.larderKeep fun k => { k with segments := tput (fun _ => 0xFF) k.segments n w }
  | .refs primary retired => l.larderKeep fun k => { k with primary := primary, refRetired := retired }
  | .selfCal key v => (l.keep fun m => { m with larder := { m.larder with selfCal := tput (fun _ => {}) m.larder.selfCal key v } }).gen R.pageCAL
  | .dwell b => (({ l with pair := { l.pair with mine := some b } }).sendPartner (.compare [] (some b))).judgeDwells
  | .abort c => l.abortCause c
  | .fault _ | .record _ => l

/-- Does a message wait for an EVENT frame (R373, R378)? -/
def waits (m : FMsg) : Bool :=
  match m with
  | .fault _ | .record _ => true
  | _ => false

/-- While the link is down, at most 64 events are kept: a further one is merged into the newest kept event of its source, if it
has one (R378). -/
def keepEvents (l : List FMsg) : List FMsg :=
  let evs := l.filterMap fun m => match m with | .fault e => some e | _ => none
  if evs.length ≤ 64 then l
  else match l.getLast? with
    | some (.fault e) =>
      let front := l.dropLast
      match (front.reverse.findIdx? fun m => match m with | .fault x => x.src == e.src | _ => false) with
      | some i => (front.reverse.modify i fun m => match m with
          | .fault x => .fault { x with count := x.count + e.count, severe := x.severe || e.severe }
          | m => m).reverse
      | none => l
    | _ => l

/-- With the link up, what the field die has to tell reaches the logic die. -/
def drain (s : State) : State :=
  if s.ld.linkUp then
    { s with ld := s.fd.out.foldl (fun l m => takeMsg s.fd.time m l) s.ld, fd := { s.fd with out := s.fd.out.filter waits } }
  else { s with fd := { s.fd with out := keepEvents s.fd.out } }

/-- The reaction set of an event's own severity (R373). -/
def Logic.reactsWith (bit : Nat) (e : FaultEv) (l : Logic) : Bool :=
  nbit (if e.severe then l.g (F.FAULT_SRC_REACT_SEVERE e.src) else l.g (F.FAULT_SRC_REACT_MILD e.src)) bit

/-- A set of RSTCAUSE (R41): for causes that fall on the same tick. -/
def Logic.cause (bit : Nat) (l : Logic) : Logic := l.put ⟨R.DEVICE_RSTCAUSE, bit, 1⟩ 1

/-- The field die in reset: every terminal OFF, nothing configured (R43). Its copy of the calibration region stays loaded (R235), and what
its clocks are stays as it is (R351, R357; log 90). `draws` is the model's own. -/
def Field.resetAll (f : Field) : Field :=
  { draws := f.draws, cal := { usable := f.cal.usable, bad := f.cal.bad, rows := f.cal.rows }
    onFrc := f.onFrc, frcBad := f.frcBad, recBad := f.recBad, degraded := f.degraded }

/-- The field die resets alone (R43): the half snapshot and unacknowledged CMD frames are discarded, sources FIELD_RESET and the
PEER_RESET events tell it; the mode stays. R40 trains no link here and no rule says which numbers its ends go on with: both directions
count from 0 again (the model's choice, log 143). -/
def State.resetField (s : State) : State :=
  let l := s.ld.cause 9
  let l := { l with bar := { l.bar with
    half := none, cmds := [], field := { peerReset := true }, logic := { l.bar.logic with next := 0, got := 0, kept := [], again := [] } } }
  let l := ((l.put F.DEVICE_MODE_FIELD_CFG 0).evt R.pageDEVICE 2).evt R.pageBARRIER 4
  { s with ld := if l.mode = .boot then l else l.fault 36 false, fd := { s.fd.resetAll with seqsLost := true } }

/-- While the link is down, the field die applies its own CHIP_RESET reactions (R378): it resets, and keeps what it has to tell; the
lowest source is FAULT_ID (R41, R376; log 104). `old`: the number of messages before. -/
def localReset (old : Nat) (s : State) : State :=
  let due := (s.fd.out.drop old).filterMap fun m => match m with
    | .fault e => if s.ld.reactsWith 3 e then some e.src else none
    | _ => none
  match s.ld.linkUp, due with
  | false, i :: is =>
    let kept := s.fd.out.map fun m => match m with
      | .fault e => .fault { e with performed := e.performed || s.ld.reactsWith 3 e }
      | m => m
    let t := s.resetField
    { t with ld := t.ld.put F.DEVICE_RSTCAUSE_FAULT_ID (is.foldl min i), fd := { t.fd with out := kept } }
  | _, _ => s

/-- A command of the field die: it acts only while the field die is out of reset. -/
def runField (h : Field → Field) (s : State) : Host.Outcome State Fault Refusal :=
  .next (if s.fd.released then localReset s.fd.out.length (drain { s with fd := h s.fd }) else s)

/-- A command of the logic die. -/
def runLogic (h : Logic → Logic) (s : State) : Host.Outcome State Fault Refusal := .next { s with ld := h s.ld }

/-- A command that acts on both dies: it is given the state with an empty queue, and the queue stays. -/
def runBoth (h : State → State) (s : State) : Host.Outcome State Fault Refusal :=
  .next { drain (h s) with pending := s.pending }

end Sys2Proof.Machine
end

