-- ==== Sys2Proof/Machine/Outputs.lean ====
section
/-! DEFINITION. Which action an output follows (R25, R186, R202, R217-R222, R225) and the level it then has. Every command
that can change an output ends in `settle`. -/

namespace Sys2Proof.Machine

/-- Is a reflex rule active (R224)? -/
def Field.ruleActive (r : Nat) (f : Field) : Bool :=
  wbit (f.img.word (if r < 32 then R.REFLEX_ACTIVE_LO else R.REFLEX_ACTIVE_HI)) (r % 32)

/-- Does a reflex action fit a cell function (R225)? -/
def actionFits (action fn : Nat) : Bool :=
  match action with
  | 0 | 4 => isOut fn
  | 1 => isDo fn
  | 2 | 3 => fn == 5
  | _ => false

/-- Does rule r act on terminal n (R225)? -/
def Field.ruleTargets (r n : Nat) (f : Field) : Bool :=
  actionFits (f.c (F.REFLEX_RULE_C_ACTION r)) (f.func n) &&
    (if f.cb (F.REFLEX_RULE_C_TKIND r) then f.c (F.REFLEX_RULE_C_TARGET r) == n / 8
     else f.c (F.REFLEX_RULE_C_TARGET r) == n)

/-- The reflex action on a terminal: the first of OFF, LOW_ALARM, HIGH_ALARM, SAFE, ON that an active rule gives it (R225);
none in COMMISSION and before the first mode entry (R27). -/
def Field.reflexAct (n : Nat) (f : Field) : Option Nat :=
  if f.mode = .commission ∨ f.mode = .boot then none
  else [0, 2, 3, 4, 1].find? fun a =>
    (List.range 64).any fun r => f.ruleActive r && f.c (F.REFLEX_RULE_C_ACTION r) == a && f.ruleTargets r n

/-- Is a reflex rule with action SAFE active on a terminal (R222)? Another rule's action may outrank it (R225); it holds until its rule
releases. -/
def Field.safeRule (n : Nat) (f : Field) : Bool :=
  f.mode != .commission && f.mode != .boot &&
    (List.range 64).any fun r => f.ruleActive r && f.c (F.REFLEX_RULE_C_ACTION r) == 4 && f.ruleTargets r n

/-- The level of the terminal's safe-state action (R221); RELEASE opens every output (R220). -/
def Field.safeLevel (n : Nat) (f : Field) : Option Nat :=
  let t := f.term n
  if t.ss.release then none
  else match f.c (F.TERM_SS_CFG_ACTION n) with
    | 1 => t.ss.held
    | 2 => let v := f.c (F.TERM_SS_VALUE_VALUE n)
           if isDo (f.func n) then (if v % 2 = 1 then some 1 else none) else some v
    | 3 => some (f.c (F.TERM_AO_ALARM_LO_LEVEL n))
    | 4 => some (f.c (F.TERM_AO_ALARM_HI_LEVEL n))
    | _ => none

/-- The saturation band of NE 43 (R203). -/
def ne43 (v : Nat) : Nat := max 38000 (min 205000 v)

/-- Does the NE 43 clamp act on the terminal's command (R203)? -/
def Field.clamps (n : Nat) (f : Field) : Bool :=
  f.func n == 5 && f.cb (F.TERM_AO_CFG_NE43 n) && ne43 (f.c (F.TERM_AO_CMD_VALUE n)) != f.c (F.TERM_AO_CMD_VALUE n)

/-- The terminal tied to n (R196). -/
def Field.tied (n : Nat) (f : Field) : Option Nat :=
  if isDo (f.func n) && f.cb (F.TERM_DO_CFG_TIE_EN n) then some (f.c (F.TERM_DO_CFG_TIE n)) else none

/-- The terminal whose command drives n: the tie head (R196). -/
def Field.head (n : Nat) (f : Field) : Nat :=
  match f.tied n with
  | some m => min n m
  | none => n

/-- The level the stored command asks for (R186, R202); a disabled block stays off (R45). -/
def Field.commanded (n : Nat) (f : Field) : Option Nat :=
  if !f.cb (F.CTRL_EN (R.pageTERM n)) then none
  else if isDo (f.func n) then (if f.cb (F.TERM_DO_CMD_ON (f.head n)) then some 1 else none)
  else
    let v := f.c (F.TERM_AO_CMD_VALUE n)
    some (if f.clamps n then ne43 v else v)

/-- Does a stage in FOLLOW drive with the lead's, as a handover asks (R341, R342)? After T_R and an abort only switches do, for 20 µs. -/
def Field.drivesAlong (n : Nat) (f : Field) : Bool :=
  f.mode == .follow && f.joined && !nbit f.dropped n && (isDo (f.func n) || f.partAt.isNone)

/-- What holds at the rank of a host command: mode hold (R27), catch (R319, R339, R343), a handover's release (R340), supply hold
(R217), or the command. -/
def Field.hostAct (n : Nat) (f : Field) : Act :=
  let t := f.term n
  if f.mode = .boot then { rank := 4, cause := 5, level := none }
  else if t.catch_ = .engaged ∨ f.drivesAlong n then { rank := 4, cause := 6, level := t.expect }
  else if t.catch_ ≠ .none ∨ f.mode = .follow ∨ nbit f.dropped n then { rank := 4, cause := 6, level := none }
  else if t.ss.kept then { rank := 4, cause := 7, level := t.ss.keptLevel }
  else if f.gb (F.FSUP_GRP_STAT_LOW (n / 8)) then { rank := 4, cause := 7, level := none }
  else { rank := 4, cause := 0, level := f.commanded n }

/-- Does a trigger of R222 other than a reflex rule, or a stay under OUTHOLD (R30), hold? -/
def Field.safeHeld (n : Nat) (f : Field) : Bool :=
  f.gb (F.TERM_SS_STAT_MODE n) || f.gb (F.TERM_SS_STAT_BARRIER n) || f.gb (F.TERM_SS_STAT_SUPPLY n) ||
    f.gb (F.TERM_SS_STAT_FORCE n) || (f.term n).ss.stay

/-- The action of R25 on one terminal alone. In FOLLOW no reflex, sag policy or safe state drives an output (R319). -/
def Field.ownAct (n : Nat) (f : Field) : Act :=
  if f.gb (F.TERM_SS_STAT_UV n) then { rank := 1, cause := 3, level := none }
  else if f.mode = .follow then f.hostAct n
  else match f.reflexAct n with
    | some 1 => { rank := 2, cause := 1, level := some 1 }
    | some 2 => { rank := 2, cause := 1, level := some (f.c (F.TERM_AO_ALARM_LO_LEVEL n)) }
    | some 3 => { rank := 2, cause := 1, level := some (f.c (F.TERM_AO_ALARM_HI_LEVEL n)) }
    | some 4 => { rank := 2, cause := 1, level := f.safeLevel n, safe := true }
    | some _ => { rank := 2, cause := 1, level := none }
    | none =>
      if f.gb (F.TERM_SS_STAT_SHED n) then { rank := 3, cause := 2, level := none }
      else if f.safeHeld n then { rank := 3, cause := 2, level := f.safeLevel n, safe := true }
      else f.hostAct n

/-- The higher of two actions on a tied pair (R196); of equal rank, OFF. -/
def Act.above (a b : Act) : Act :=
  if a.rank < b.rank then a
  else if b.rank < a.rank then b
  else if b.level = none then b else a

/-- The action of R25 on a terminal, its tie included. -/
def Field.act (n : Nat) (f : Field) : Act :=
  match f.tied n with
  | some m => (f.ownAct n).above (f.ownAct m)
  | none => f.ownAct n

/-- Does a protection of the switch hold it off (R186)? -/
def Field.doProtected (n : Nat) (f : Field) : Bool :=
  let d := (f.term n).dout
  d.ovl || d.thm || (d.gov && f.mode != .follow) || f.gb (F.TERM_DO_STAT_REVERSE n) || f.gb (F.TERM_DO_STAT_SEG_FAIL n)

/-- Does a protection hold the output off, its tie included? -/
def Field.protected_ (n : Nat) (f : Field) : Bool :=
  if isDo (f.func n) then f.doProtected n || (match f.tied n with | some m => f.doProtected m | none => false)
  else f.gb (F.TERM_AO_STAT_THERMAL n)

/-- The level after protection (R186), the thermal cap (R211) and the thermal trip, which ramps to zero. In FOLLOW a cap of the governor's acts
on no output (R319). -/
def Field.delivered (n : Nat) (a : Act) (f : Field) : Act :=
  if a.rank = 1 then a
  else if f.protected_ n then
    { a with cause := 4, level := if isDo (f.func n) then none else a.level.map fun _ => 0 }
  else if isAo (f.func n) then
    match (f.term n).ao.cap with
    | some cap => if f.mode = .follow ∧ !(f.term n).ao.above then a else { a with level := a.level.map (min cap) }
    | none => a
  else a

/-- Triggers of R222: HOLD_LAST captures the level of R25 at the first, SAFE_ON and SAFE_OFF mark the first and the last. -/
def Field.noteTriggers (n : Nat) (f : Field) : Field :=
  let t := f.term n
  let rx := f.safeRule n
  let now := f.gb (F.TERM_SS_STAT_MODE n) || f.gb (F.TERM_SS_STAT_BARRIER n) || f.gb (F.TERM_SS_STAT_SUPPLY n) ||
    f.gb (F.TERM_SS_STAT_FORCE n) || rx
  let f := f.putb (F.TERM_SS_STAT_REFLEX n) rx
  if now && !t.ss.trig then
    let held := if t.ss.stay then t.ss.held else t.want
    ((f.modSs n fun s => { s with trig := true, held := held }).put (F.TERM_SS_STAT_HELD n) (held.getD 0)).evt
      (R.pageTERM n) 28
  else if !now && t.ss.trig then
    let f := (f.modSs n fun s => { s with trig := false }).evt (R.pageTERM n) 29
    if t.ss.stay then f else (f.modSs n fun s => { s with held := none }).put (F.TERM_SS_STAT_HELD n) 0
  else if !now && !t.ss.stay && t.ss.held.isSome then
    (f.modSs n fun s => { s with held := none }).put (F.TERM_SS_STAT_HELD n) 0
  else f

/-- A fresh count of attempts (R189). -/
def Field.freshAttempts (n : Nat) (f : Field) : Field :=
  (f.modDout n fun d => { d with tries := 0, thermTries := 0, ovl := false, thm := d.hot }).put (F.TERM_DO_STAT_LATCHED n) 0

/-- Ticks in 1 ms (R361). -/
def doTicksMs : Nat := 24576

/-- A switched output follows its action: turning on clears the off-state flags (R192), turning off with current flowing
starts the clamp (R191) and ends a pulse (R195), its announcement and the partner's acknowledgement with it (R197). `shown`: what protection left
of the action when it was announced (R332). -/
def Field.driveDo (n : Nat) (a : Act) (shown : Option Act) (f : Field) : Field :=
  let f := f.when ((f.term n).want.isNone && a.level.isSome) (Field.freshAttempts n)
  let d := shown.getD (f.delivered n a)
  let f := f.when d.level.isNone fun f => f.put (F.TERM_DO_STAT_TESTING n) 0
  let on := d.level.isSome && !f.gb (F.TERM_DO_STAT_TESTING n)
  let was := f.gb (F.TERM_DO_STAT_ON n)
  let fresh := (f.term n).level.isNone
  let f := f.modTerm n fun t => { t with want := a.level, level := d.level }
  let f := f.when d.level.isNone (Field.modDout n fun r => { r with due := none, told := false, pend := false, masked := fresh && r.masked })
  let f := f.when (on && fresh) (Field.modDout n fun r =>
    { r with onAt := f.time, due := some (f.time + max 100 (f.c (F.TERM_DO_DIAG_TP_PERIOD n)) * doTicksMs) })
  let f := f.when (on && !was) fun f =>
    let r := (f.term n).dout
    ((f.putb (F.TERM_DO_STAT_OPEN_WIRE n) r.owImin).putb (F.TERM_DO_STAT_BACKFEED n) r.bfPulse).put (F.TERM_DO_STAT_CLAMP n) 0
  let f := f.when (!on && was) fun f =>
    ((f.putb (F.TERM_DO_STAT_CLAMP n) (f.g (F.TERM_DO_MEAS_CURRENT n) != 0)).put (F.TERM_DO_STAT_LIMIT n) 0).modDout n
      fun r => { r with fold := false }
  ((((f.putb (F.TERM_DO_STAT_ON n) on).put (F.TERM_DO_STAT_CAUSE n) d.cause).put (F.TERM_DO_STAT_CMD n)
    (f.c (F.TERM_DO_CMD_ON (f.head n)))).putb (F.TERM_DO_STAT_TIED n) (f.tied n).isSome).putb (F.TERM_SS_STAT_ACTIVE n)
      (a.safe && d.cause != 4)

/-- The terminal voltage read back, mV. -/
def Field.aoVterm (n : Nat) (f : Field) : Int := signed 16 (f.g (F.TERM_AO_MEAS_VTERM n))

/-- The current read back, µA, without sign. -/
def Field.aoCurrent (n : Nat) (f : Field) : Nat := (signed 16 (f.g (F.TERM_AO_MEAS_CURRENT n))).natAbs

/-- The group supply, mV. -/
def Field.fsup (g : Nat) (f : Field) : Nat := f.g (F.FSUP_GRP_STAT_VOLT g) * 10

/-- Is the driver connected to a source: on, or in its shutdown ramp (R46, R202)? -/
def Field.aoConnected (n : Nat) (f : Field) : Bool := f.g (F.TERM_AO_RAIL_SOURCE n) != 3

/-- The level an output is to carry: the one in force, the mirrored one while its stage is in catch (R214). -/
def Field.aoLevel (n : Nat) (f : Field) : Option Nat :=
  let t := f.term n
  match t.level with
  | some v => some v
  | none => if f.mode = .follow ∨ t.catch_ ≠ .none then t.expect else none

/-- The need of an enabled output, mV, rounded up (R207); none where it is off or commanded to 0. -/
def Field.aoNeed (n : Nat) (f : Field) : Option Nat :=
  match f.aoLevel n with
  | none => none
  | some 0 => none
  | some v =>
    let vt := (max 0 (f.aoVterm n)).toNat
    let i := f.aoCurrent n
    some (if f.func n = 6 then (v + 19) / 20 + 1000
      else if i < 1000 then vt + 1000
      else (vt * v + (10 * i - 1)) / (10 * i) + 1000)

/-- The voltage at which an output's source stands, mV. -/
def Field.sourceVolts (n : Nat) (f : Field) : Nat :=
  match f.g (F.TERM_AO_RAIL_SOURCE n) with
  | 0 => (f.step (n / 8)).lowAt
  | 1 => (f.step (n / 8)).highAt
  | 2 => f.fsup (n / 8)
  | _ => 0

/-- AO_RAIL.HEADROOM and PDISS (R213), with at most 3 mW of quiescent dissipation (R204). -/
def Field.showRail (n : Nat) (f : Field) : Field :=
  if isAo (f.func n) && f.aoConnected n then
    let h := (max 0 ((f.sourceVolts n : Int) - f.aoVterm n)).toNat
    (f.put (F.TERM_AO_RAIL_HEADROOM n) (min 255 (h / 20))).put (F.TERM_AO_RAIL_PDISS n)
      (min 65535 (h * f.aoCurrent n / 100000 + min 30 Config.quiescent))
  else (f.put (F.TERM_AO_RAIL_HEADROOM n) 0).put (F.TERM_AO_RAIL_PDISS n) 0

/-- AO_GRP of a terminal and its rail figures. -/
def Field.showGroup (n : Nat) (f : Field) : Field :=
  if isAo (f.func n) then
    let s := f.step (n / 8)
    ((f.put (F.TERM_AO_GRP_LOW n) (s.low / 10)).put (F.TERM_AO_GRP_HIGH n) (s.high / 10)).showRail n
  else f

/-- Does a rail meet a need, now and at its setpoint? -/
def railMeets (need setpoint stands : Nat) : Bool := decide (need ≤ setpoint ∧ need ≤ stands)

/-- The lowest source that meets an output's need (R211, R214). -/
def Field.lowestSource (n need : Nat) (f : Field) : Nat :=
  let s := f.step (n / 8)
  if railMeets need s.low s.lowAt then 0 else if railMeets need s.high s.highAt then 1 else 2

/-- The source on which a driver connects: FSUP (log 113), but a stage that engages finds its rail ready (R214). -/
def Field.firstSource (n : Nat) (f : Field) : Nat :=
  match (f.term n).catch_, f.aoNeed n with
  | .engaged, some need => f.lowestSource n need
  | _, _ => 2

/-- An analogue output follows its action (R202). OFF disconnects the driver after the shutdown ramp, or at once below UV, under
RELEASE and where a handover lets the terminal go (R218, R220, R340); a command during the ramp goes on from where the output stands. A
thermal trip ramps to zero, and a cap outlives OFF until step 3 has ended it (R211). -/
def Field.driveAo (n : Nat) (a : Act) (shown : Option Act) (f : Field) : Field :=
  let d := shown.getD (f.delivered n a)
  let was := (f.term n).level
  let f := f.modTerm n fun t => { t with want := a.level, level := d.level }
  let f := match d.level with
    | some _ =>
      let f := if f.aoConnected n then f else f.put (F.TERM_AO_RAIL_SOURCE n) (f.firstSource n)
      if f.gb (F.TERM_AO_STAT_THERMAL n) then f.when (was != some 0) (Field.put (F.TERM_AO_STAT_RAMPING n) 1)
      else f.put (F.TERM_AO_STAT_RAMPING n) 0
    | none =>
      let cut := a.rank == 1 || (f.term n).ss.release || nbit f.dropped n || (f.joined && f.partAt.isSome)
      if cut || !f.aoConnected n then (f.put (F.TERM_AO_RAIL_SOURCE n) 3).put (F.TERM_AO_STAT_RAMPING n) 0
      else f.put (F.TERM_AO_STAT_RAMPING n) 1
  (((f.put (F.TERM_AO_STAT_CAUSE n) d.cause).putb (F.TERM_AO_STAT_NE43_CLAMP n) (d.cause == 0 && d.level.isSome && f.clamps n)).putb
    (F.TERM_SS_STAT_ACTIVE n) (a.safe && d.cause != 4)).showRail n

/-- The shutdown or thermal ramp of an analogue output is over (R46, R211): where the output is off its driver disconnects. -/
def Field.aoRampEnds (n : Nat) (f : Field) : Field :=
  let f := f.when (f.term n).level.isNone (Field.put (F.TERM_AO_RAIL_SOURCE n) 3)
  (f.put (F.TERM_AO_STAT_RAMPING n) 0).showRail n

/-- One terminal takes the highest-priority action in force. -/
def Field.driveNow (n : Nat) (f : Field) : Field :=
  if isDo (f.func n) then f.driveDo n (f.act n) none else if isAo (f.func n) then f.driveAo n (f.act n) none else f

/-- One terminal takes an action that was announced before a later one (R332). -/
def Field.driveAnnounced (x : Announced) (f : Field) : Field :=
  if isDo (f.func x.n) then f.driveDo x.n x.act (some x.shown) else if isAo (f.func x.n) then f.driveAo x.n x.act (some x.shown) else f

/-- CAUSE of an output. -/
def Field.causeOf (n : Nat) (f : Field) : Nat :=
  if isDo (f.func n) then f.g (F.TERM_DO_STAT_CAUSE n) else f.g (F.TERM_AO_STAT_CAUSE n)

/-- What the latest announced change of a terminal leads to, or its level in force (R332). -/
def Field.promised (n : Nat) (f : Field) : Option Nat :=
  match f.noticed.reverse.find? fun x => x.n == n with
  | some x => x.shown.level
  | none => (f.term n).level

/-- The level a partner is to expect of a terminal (R327, R332): of AI_I whether its shunt is closed (R339). -/
def Field.expected (n : Nat) (f : Field) : Option Nat :=
  if f.func n = 4 then (if f.gb (F.TERM_CELLSTAT_SHUNT_OPEN n) then none else some 1) else f.promised n

/-- The lead's NOTICE of a terminal (R197, R332, R339). -/
def Field.noticeOf (n : Nat) (f : Field) : Notice :=
  let d := (f.term n).dout
  { n := Fin.ofNat 32 n, level := f.expected n
    blocked := if isAo (f.func n) then f.gb (F.TERM_AO_STAT_COMPLIANCE n) || f.gb (F.TERM_AO_STAT_OPEN_LOOP n) else f.gb (F.TERM_CELLSTAT_SHUNT_OPEN n)
    pulse := if isDo (f.func n) then some d.told else none
    cause := f.causeOf n }

/-- The lead tells its partner of a terminal's state without delay (R332). -/
def Field.tellPartner (n : Nat) (f : Field) : Field := if f.paired && f.lead then { f with notices := f.notices ++ [f.noticeOf n] } else f

/-- T_N of a decision, in ticks (R332): while PCLK changes its rate the larger of the old and the new. -/
def Field.tnTicks (f : Field) : Nat := ((if f.tnMoves then f.tnMax else f.tn) * 24576 + 999) / 1000

/-- Does the lead of a READY pair announce changes of an output's level (R332)? Not for a host command, a below-UV switch-off,
RELEASE, a thermal trip, or a terminal a handover has let go. -/
def Field.announces (n : Nat) (f : Field) : Bool :=
  if f.paired && f.lead && f.mode != .follow && isOut (f.func n) then
    let t := f.term n
    let a := f.act n
    let d := f.delivered n a
    a.rank != 1 && !(d.cause == 0 && f.causeOf n == 0 && !f.noticed.any fun x => x.n == n) && !t.ss.release && !(d.cause == 4 &&
      (t.dout.thm || f.gb (F.TERM_AO_STAT_THERMAL n))) && !nbit f.dropped n
  else false

/-- One terminal follows the highest-priority action in force. A change that the lead of a pair announces waits T_N, each by its own notice
(R332); during a handover's ramp it acts at the step in progress (R341). -/
def Field.drive (n : Nat) (f : Field) : Field :=
  if !f.announces n then Field.driveNow n { f with noticed := f.noticed.filter fun x => x.n != n }
  else
    let a := f.act n
    let d := f.delivered n a
    if d.level = f.promised n then (if f.noticed.any fun x => x.n == n then f else f.driveNow n)
    else if f.ramp.isSome then (f.driveNow n).tellPartner n
    else
      let x : Announced := { n := n, due := f.time + f.tnTicks, act := a, shown := d }
      Field.tellPartner n { f with noticed := f.noticed ++ [x] }

/-- The triggers of one terminal with an output function. -/
def Field.noteOne (n : Nat) (f : Field) : Field := f.when (isOut (f.func n)) (Field.noteTriggers n)

/-- A terminal and the one tied to it follow the highest-priority action in force (R196). -/
def Field.settle (n : Nat) (f : Field) : Field :=
  match f.tied n with
  | some m => (((f.noteOne n).noteOne m).drive n).drive m
  | none => (f.noteOne n).drive n

/-- A host command acts without an announcement (R332), unless an announced change of the terminal waits. -/
def Field.driveHost (n : Nat) (f : Field) : Field := if f.noticed.any fun x => x.n == n then f else f.driveNow n

/-- A terminal and the one tied to it follow a host command. -/
def Field.settleHost (n : Nat) (f : Field) : Field :=
  match f.tied n with
  | some m => (((f.noteOne n).noteOne m).driveHost n).driveHost m
  | none => (f.noteOne n).driveHost n

/-- Every output follows the highest-priority action in force. -/
def Field.settleAll (f : Field) : Field := (f.each allTerms Field.noteOne).each allTerms Field.drive

/-- SHEDDING shows whether R217 holds an output of the group (R231). -/
def Field.showShedding (g : Nat) (f : Field) : Field :=
  f.putb (F.FSUP_GRP_STAT_SHEDDING g) ((groupTerms g).any fun n =>
    f.gb (F.TERM_SS_STAT_SHED n) || f.gb (F.TERM_SS_STAT_SUPPLY n) || (f.term n).ss.kept)

/-- What an analogue output delivers, in 1/256 of a code: its level, during a handover's ramp this device's share of it (R341). -/
def Field.aoDelivers (n : Nat) (f : Field) : Nat :=
  match (f.term n).level, f.ramp with
  | none, _ => 0
  | some v, none => 256 * v
  | some v, some k => v * (if f.lead then 256 - k else k)

/-- 20 µs after T_R or an abort the stages that drove along let go, and one device's shunts conduct (R341, R342). -/
def Field.letGo (f : Field) : Field :=
  match f.partAt with
  | some t => if t ≤ f.time then { f with partAt := none, joined := false, bothShunts := false, dropped := 0 }.settleAll else f
  | none => f

end Sys2Proof.Machine
end

