-- ==== Sys2Proof/Machine/AnaOut.lean ====
section
/-! DEFINITION. Analogue outputs (chapter 12): the step supply's rails and retunes, headroom, compliance, the thermal limit,
step-supply faults and readback. Voltages are in mV, currents in µA. -/

namespace Sys2Proof.Machine

open Sys2Proof

/-- Round up to the next 50 mV step (R206). -/
def step50 (v : Nat) : Nat := (v + 49) / 50 * 50

/-- The span of the output in its command's units (R204). -/
def aoSpan (fn : Nat) : Nat := if fn = 5 then 240000 else 220000

/-- The setpoint of a rail that serves a highest need (R207), within R206's range: from 2.5 V to `top`, FSUPx − 1.5 V. -/
def railFor (top need : Nat) : Nat := max 2500 (min (step50 (need + 200)) (top / 50 * 50))

/-- Insert an output in the order of needs. -/
def insertNeed (x : Nat × Nat) : List (Nat × Nat) → List (Nat × Nat)
  | [] => [x]
  | y :: t => if x.1 < y.1 then x :: y :: t else y :: insertNeed x t

/-- Outputs with their needs, sorted by need. -/
def sortNeeds (l : List (Nat × Nat)) : List (Nat × Nat) := l.foldl (fun t x => insertNeed x t) []

/-- The highest need of a sorted set, if it has one. -/
def topNeed (l : List (Nat × Nat)) : Option Nat := l.getLast?.map (·.1)

/-- Σ (rail − V_T) × I over a set (R207). -/
def Field.railCost (rail : Nat) (l : List (Nat × Nat)) (f : Field) : Int :=
  l.foldl (fun s x => s + ((rail : Int) - f.aoVterm x.2) * f.aoCurrent x.2) 0

/-- The rails and the cost of the split after the k lowest outputs (R207). -/
def Field.split (top : Nat) (l : List (Nat × Nat)) (k : Nat) (f : Field) : Nat × Nat × Int :=
  let lower := l.take k
  let upper := l.drop k
  let low := ((topNeed lower).map (railFor top)).getD 0
  let high := ((topNeed upper).map (railFor top)).getD low
  (low, high, f.railCost low lower + f.railCost high upper)

/-- The sizes of a lower set that split sorted outputs at a need: no two equal needs part (R207). -/
def splitSizes (l : List (Nat × Nat)) : List Nat :=
  ((List.range l.length).map (· + 1)).filter fun k =>
    match l[k - 1]?, l[k]? with
    | some x, some y => decide (x.1 < y.1)
    | _, _ => true

/-- The split of least dissipation (R207): of equal ones the one with the smallest lower set. -/
def Field.bestSplit (top : Nat) (l : List (Nat × Nat)) (f : Field) : Nat × Nat × Nat :=
  let best := (splitSizes l).foldl (fun (b : Option (Nat × Nat × Nat × Int)) k =>
    let s := f.split top l k
    match b with
    | some t => if s.2.2 < t.2.2.2 then some (k, s) else b
    | none => some (k, s)) none
  match best with
  | some b => (b.1, b.2.1, b.2.2.1)
  | none => (0, 0, 0)

/-- A connected output moves to a source (R206). -/
def Field.toSource (n src : Nat) (f : Field) : Field := if f.aoConnected n then f.put (F.TERM_AO_RAIL_SOURCE n) src else f

/-- Carry a retune on (R207): outputs move once their rail has arrived; when none waits, falling rails are lowered. -/
def Field.advance (g : Nat) (f : Field) : Field :=
  let s := f.step g
  match s.plan with
  | none => f
  | some p =>
    let waits (m : Nat × Nat) : Bool := if m.2 = 0 then s.lowMoving else s.highMoving
    let f := ((p.moves.filter fun m => !waits m).foldl (fun f m => f.toSource m.1 m.2) f)
    let left := p.moves.filter waits
    if left = [] then
      f.modStep g fun s => { s with low := p.low, high := p.high, lowMoving := s.lowMoving || p.low != s.low,
                                    highMoving := s.highMoving || p.high != s.high, plan := none }
    else f.modStep g fun s => { s with plan := some { p with moves := left } }

/-- Start a retune: rails that rise are raised first (R207). -/
def Field.startPlan (g : Nat) (p : Retune) (f : Field) : Field :=
  let f := f.modStep g fun s =>
    { s with low := max s.low p.low, high := max s.high p.high, lowMoving := s.lowMoving || decide (s.low < p.low),
             highMoving := s.highMoving || decide (s.high < p.high), plan := some p }
  (f.advance g).each (groupTerms g) Field.showGroup

/-- Has the group an enabled analogue output? -/
def Field.aoEnabled (g : Nat) (f : Field) : Bool := (groupTerms g).any fun n => isAo (f.func n) && f.cb (F.CTRL_EN (R.pageTERM n))

/-- RAIL_RETUNE (R207): outputs whose need exceeds FSUPx − 1.7 V go to FSUP, the rest are split between LOW and HIGH. Where none of the
enabled outputs counts, both rails go to the lowest setpoint of R206 (log 114); with no enabled output the converter stops. A stopped or
absent converter, and a SAFE role that does not run, leave the rails as they are (R212, R419, R15). -/
def Field.retune (g : Nat) (f : Field) : Field :=
  if (f.step g).stopped || (f.step g).absent || !f.safeRuns then f
  else
    let outs := (f.groupOuts g).filterMap fun n => if isAo (f.func n) then (f.aoNeed n).map fun v => (v, n) else none
    let lim := f.fsup g - 1700
    let f := f.each ((outs.filter fun x => decide (lim < x.1)).map (·.2)) fun n f => f.toSource n 2
    let l := sortNeeds (outs.filter fun x => decide (x.1 ≤ lim))
    if l = [] then
      let v := if f.aoEnabled g then 2500 else 0
      f.startPlan g { low := v, high := v, moves := [] }
    else
      let b := f.bestSplit (f.fsup g - 1500) l
      let k := b.1
      f.startPlan g { low := b.2.1, high := b.2.2,
                      moves := (l.take k).map (fun x => (x.2, 0)) ++ (l.drop k).map (fun x => (x.2, 1)) }

/-- RAIL_AT_SETPOINT (R207, R211). While the SAFE role does not run, the rails hold and the retune in hand is dropped (R15). -/
def Field.railArrives (g : Nat) (high : Bool) (f : Field) : Field :=
  let f := f.modStep g fun s =>
    if high then { s with highMoving := false, highAt := s.high } else { s with lowMoving := false, lowAt := s.low }
  (if f.safeRuns then f.advance g else f.modStep g fun s => { s with plan := none }).each (groupTerms g) Field.showGroup

/-- HEADROOM_MOVE (R209): to the next source that stands at least 0.5 V above the present one. -/
def Field.headroomMove (n : Nat) (f : Field) : Field :=
  if isAo (f.func n) && f.aoConnected n then
    let g := n / 8
    let s := f.step g
    let v := f.sourceVolts n + 500
    let src := f.g (F.TERM_AO_RAIL_SOURCE n)
    let f := if src = 0 && decide (v ≤ s.highAt) then f.toSource n 1
      else if decide (src ≤ 1) && decide (v ≤ f.fsup g) then f.toSource n 2
      else f
    f.showRail n
  else f

/-- Source AO (46) raises an event. -/
def Field.aoFault (n : Nat) (f : Field) (severe inj : Bool := false) : Field := f.fault 46 severe n inj

/-- AO_COMPLIANCE (R210). -/
def Field.compliance (n : Nat) (set inj : Bool) (f : Field) : Field :=
  let x := F.TERM_AO_STAT_COMPLIANCE n
  if isAo (f.func n) then
    if !set then (f.put x 0).when (f.gb x) (Field.tellPartner n)
    else if f.gb x then f
    else ((((f.put x 1).tellPartner n).bump (F.TERM_AO_COUNT_COMPLIANCE n)).evt (R.pageTERM n) 20 (inj := inj)).aoFault n false inj
  else f

/-- AO_OPEN_LOOP (R210): on FSUP with a target of at least 1 mA; INJECT needs neither. -/
def Field.openLoop (n : Nat) (set inj : Bool) (f : Field) : Field :=
  let x := F.TERM_AO_STAT_OPEN_LOOP n
  if f.func n = 5 then
    if !set then (f.put x 0).when (f.gb x) (Field.tellPartner n)
    else if f.gb x then f
    else if inj || (f.g (F.TERM_AO_RAIL_SOURCE n) == 2 && decide (10000 ≤ (f.term n).level.getD 0)) then
      (((f.put x 1).tellPartner n).evt (R.pageTERM n) 21 (inj := inj)).aoFault n false inj
    else f
  else f

/-- AO_V_OVERLOAD (R210). -/
def Field.aoOverload (n : Nat) (set inj : Bool) (f : Field) : Field :=
  let x := F.TERM_AO_STAT_OVERLOAD n
  if f.func n = 6 then
    if !set then f.put x 0 else if f.gb x then f else (f.put x 1).evt (R.pageTERM n) 24 (inj := inj)
  else f

/-- AO_THERMAL_LIMIT (R211 step 1): to the lowest rail that meets the need; where neither does, HIGH rises to the need, never below what it
serves, and the output moves there once it arrives; it stays on FSUP where no rail can reach, and where the converter stands still. The
engine that moves it is SAFE (R15). -/
def Field.thermalLimit (n : Nat) (f : Field) : Field :=
  if isAo (f.func n) then
    let g := n / 8
    let s := f.step g
    let f := f.modAo n fun o => { o with above := true }
    match f.aoNeed n with
    | none => f
    | some need =>
      let high := max 2500 (step50 need)
      if s.stopped || s.absent || !f.safeRuns then f
      else if f.lowestSource n need < 2 then (f.toSource n (f.lowestSource n need)).showRail n
      else if high + 1500 ≤ f.fsup g then
        let old := (s.plan.map (·.moves)).getD []
        f.startPlan g { low := (s.plan.map (·.low)).getD s.low, high := max high ((s.plan.map (·.high)).getD s.high),
                        moves := (old.filter fun m => m.1 != n) ++ [(n, 1)] }
      else (f.toSource n 2).showRail n
  else f

/-- Lower the cap one step below the present level (R211 step 2). -/
def Field.capDown (n : Nat) (inj : Bool) (f : Field) : Field :=
  match (f.term n).level with
  | none => f
  | some v =>
    let c := (f.term n).ao.cap.getD v
    let f := f.modAo n fun o => { o with cap := some (min c v - aoSpan (f.func n) / 100) }
    let f := f.when (!f.gb (F.TERM_AO_STAT_THERM_LIM n)) fun f =>
      ((f.put (F.TERM_AO_STAT_THERM_LIM n) 1).bump (F.TERM_AO_COUNT_THERM_LIM n)).evt (R.pageTERM n) 22 (inj := inj)
    f.settle n

/-- Raise the cap one step; it ends when it no longer binds (R211 step 3). -/
def Field.capUp (n : Nat) (f : Field) : Field :=
  match (f.term n).ao.cap with
  | none => f
  | some c =>
    let c := c + aoSpan (f.func n) / 100
    let ends := match (f.term n).want with | some v => decide (v ≤ c) | none => true
    let f := f.modAo n fun o => { o with cap := if ends then none else some c, above := o.above && !ends }
    (f.when ends fun f => f.put (F.TERM_AO_STAT_THERM_LIM n) 0).settle n

/-- AO_CAP_STEP (R211): the excess lasts, or the output has stayed below 90 % of its limit for 10 ms. -/
def Field.capStep (n : Nat) (excess below : Bool) (f : Field) : Field :=
  if isAo (f.func n) && excess && (f.term n).ao.above then f.capDown n false
  else if isAo (f.func n) && below && !excess then f.capUp n
  else f

/-- AO_THERMAL_TRIP (R211): the output ramps to zero. -/
def Field.aoTrip (n : Nat) (inj : Bool) (f : Field) : Field :=
  if isAo (f.func n) && (f.term n).level.isSome then
    ((f.put (F.TERM_AO_STAT_THERMAL n) 1).evt (R.pageTERM n) 23 (inj := inj)).settle n
  else f

/-- AO_THERMAL_RESUME (R211): the output resumes through steps 1 to 3. -/
def Field.aoResume (n : Nat) (f : Field) : Field :=
  if isAo (f.func n) && f.gb (F.TERM_AO_STAT_THERMAL n) then
    (((f.put (F.TERM_AO_STAT_THERMAL n) 0).put (F.TERM_AO_STAT_RAMPING n) 0).settle n).thermalLimit n
  else f

/-- The analogue outputs of a group. -/
def Field.groupAo (g : Nat) (f : Field) : List Nat := (groupTerms g).filter fun n => isAo (f.func n)

/-- STEP_SUPPLY_FAULT (R212): the converter stops and every output of the group moves to FSUP. A group with no step supply raises none
(R419). -/
def Field.stepFault (g : Nat) (inj : Bool) (f : Field) : Field :=
  if f.groupAo g = [] || (f.step g).stopped || (f.step g).absent then f
  else
    let f := f.modStep g fun _ => { stopped := true }
    let f := f.each (f.groupAo g) fun n f =>
      let f := f.toSource n 2
      ((f.put (F.TERM_AO_STAT_STEP_FAULT n) 1).evt (R.pageTERM n) 25 (inj := inj)).showGroup n
    f.aoFault ((f.groupAo g).headD (8 * g)) false inj

/-- STEP_SUPPLY_RESTART (R212): three failed restarts leave the converter stopped until the next field-die reset. -/
def Field.stepRestart (g : Nat) (ok : Bool) (f : Field) : Field :=
  let s := f.step g
  if s.stopped && decide (s.fails < 3) then
    if ok then
      (f.modStep g fun s => { s with stopped := false, fails := 0 }).each (f.groupAo g) fun n f =>
        f.put (F.TERM_AO_STAT_STEP_FAULT n) 0
    else
      let f := f.modStep g fun s => { s with fails := s.fails + 1 }
      if s.fails + 1 = 3 then f.aoFault ((f.groupAo g).headD (8 * g)) true false else f
  else f

/-- READBACK_MISMATCH (R213): not judged while COMPLIANCE, THERM_LIM, OVERLOAD or THERMAL holds. -/
def Field.readback (n : Nat) (set inj : Bool) (f : Field) : Field :=
  let x := F.TERM_AO_STAT_READBACK n
  let held := f.gb (F.TERM_AO_STAT_COMPLIANCE n) || f.gb (F.TERM_AO_STAT_THERM_LIM n) ||
    f.gb (F.TERM_AO_STAT_OVERLOAD n) || f.gb (F.TERM_AO_STAT_THERMAL n)
  if isAo (f.func n) && !held then
    if !set then f.put x 0
    else if f.gb x then f
    else ((f.put x 1).evt (R.pageTERM n) 26 (inj := inj)).aoFault n false inj
  else f

/-- AO_CLR.COUNTS (R215). -/
def Field.aoClearCounts (n : Nat) (f : Field) : Field :=
  if isAo (f.func n) then (f.put (F.TERM_AO_COUNT_COMPLIANCE n) 0).put (F.TERM_AO_COUNT_THERM_LIM n) 0 else f

/-- INJECT bits [26:20] of an analogue output (R215). -/
def Field.aoInject (n : Nat) (w : Word) (f : Field) : Field :=
  if isAo (f.func n) then
    let f := f.when (wbit w 20) (Field.compliance n true true)
    let f := f.when (wbit w 21) (Field.openLoop n true true)
    let f := f.when (wbit w 22) (Field.thermalLimit n)
    let f := f.when (wbit w 23) (Field.aoTrip n true)
    let f := f.when (wbit w 24) (Field.aoOverload n true true)
    let f := f.when (wbit w 25) (Field.stepFault (n / 8) true)
    f.when (wbit w 26) (Field.readback n true true)
  else f

/-- RAIL_RETUNE (R207). -/
def execRailRetune (g : Group) (s : State) : Host.Outcome State Fault Refusal := runField (Field.retune g) s

/-- RAIL_AT_SETPOINT (R207): LOW, or HIGH where `high`. -/
def execRailAtSetpoint (g : Group) (high : Bool) (s : State) : Host.Outcome State Fault Refusal :=
  runField (Field.railArrives g high) s

/-- HEADROOM_MOVE (R209). -/
def execHeadroomMove (n : Terminal) (s : State) : Host.Outcome State Fault Refusal := runField (Field.headroomMove n) s

/-- AO_COMPLIANCE (R210). -/
def execAoCompliance (n : Terminal) (set : Bool) (s : State) : Host.Outcome State Fault Refusal :=
  runField (Field.compliance n set false) s

/-- AO_OPEN_LOOP (R210). -/
def execAoOpenLoop (n : Terminal) (set : Bool) (s : State) : Host.Outcome State Fault Refusal :=
  runField (Field.openLoop n set false) s

/-- AO_V_OVERLOAD (R210). -/
def execAoVOverload (n : Terminal) (set : Bool) (s : State) : Host.Outcome State Fault Refusal :=
  runField (Field.aoOverload n set false) s

/-- AO_THERMAL_LIMIT (R211). -/
def execAoThermalLimit (n : Terminal) (s : State) : Host.Outcome State Fault Refusal := runField (Field.thermalLimit n) s

/-- AO_CAP_STEP (R211). -/
def execAoCapStep (n : Terminal) (excess below : Bool) (s : State) : Host.Outcome State Fault Refusal :=
  runField (Field.capStep n excess below) s

/-- AO_THERMAL_TRIP (R211). -/
def execAoThermalTrip (n : Terminal) (s : State) : Host.Outcome State Fault Refusal := runField (Field.aoTrip n false) s

/-- AO_THERMAL_RESUME (R211). -/
def execAoThermalResume (n : Terminal) (s : State) : Host.Outcome State Fault Refusal := runField (Field.aoResume n) s

/-- STEP_SUPPLY_FAULT (R212). -/
def execStepSupplyFault (g : Group) (s : State) : Host.Outcome State Fault Refusal := runField (Field.stepFault g false) s

/-- STEP_SUPPLY_RESTART (R212). -/
def execStepSupplyRestart (g : Group) (ok : Bool) (s : State) : Host.Outcome State Fault Refusal :=
  runField (Field.stepRestart g ok) s

/-- READBACK_MISMATCH (R213). -/
def execReadbackMismatch (n : Terminal) (set : Bool) (s : State) : Host.Outcome State Fault Refusal :=
  runField (Field.readback n set false) s

end Sys2Proof.Machine
end

