-- ==== Sys2Proof/Machine/Chain.lean ====
section
/-! DEFINITION. The filter chain's arithmetic (chapter 07): rounding and clamping, the stage-2 responses, the DC block, the
moving average, demodulated magnitude, settling count and output spacing. -/

namespace Sys2Proof.Machine

/-- ±100 % of span (R124). -/
def fullScale : Int := 7340032

/-- Rounding to the nearest integer, ties away from zero (R124). -/
def roundAway (n : Int) (d : Nat) : Int :=
  if 0 ≤ n then ((2 * n.toNat + d) / (2 * d) : Nat) else -(((2 * (-n).toNat + d) / (2 * d) : Nat) : Int)

/-- The clamp to 0x7F_FFFF and 0x80_0000 (R124). -/
def clamp24 (x : Int) : Int := satS 24 x

/-- Beyond ±`pct` % of a span of `full` codes (R89, R149). -/
def beyond (pct : Nat) (full x : Int) : Bool := pct * full < 100 * x.natAbs

/-- Beyond ±104 % of span (R89). -/
def overRange (x : Int) : Bool := beyond 104 fullScale x

/-- D2 of the ROM responses 0-15 (R125). -/
def romD2 (v : Nat) : Nat := ([1, 2, 4, 8, 16, 32, 64, 128, 2, 4, 8, 16, 32, 64, 4, 16][v]?).getD 1

/-- Span in P1 of the ROM responses 0-15 (R125). -/
def romSpan (v : Nat) : Nat :=
  ([0, 50, 100, 200, 400, 800, 1600, 3200, 3, 9, 21, 45, 93, 189, 32, 128][v]?).getD 0

/-- D2 of a stage-2 response (R125-R127). -/
def Field.d2 (s2 : Nat) (f : Field) : Nat :=
  if s2 < 16 then romD2 s2 else 2 ^ f.c (F.FILT_CFG_DEC (s2 - 16))

/-- Span of a stage-2 response in P1 (R125-R127). -/
def Field.span2 (s2 : Nat) (f : Field) : Nat :=
  if s2 < 16 then romSpan s2 else f.c (F.FILT_CFG_NTAPS (s2 - 16)) - 1

/-- Convolution with a rectangular window of `d` taps: tap j of the result is the sum of taps j − d + 1 to j. -/
def boxWindow (d : Nat) (taps : List Int) : List Int :=
  (List.range (taps.length + d - 1)).map fun j => ((taps.take (j + 1)).drop (j + 1 - d)).sum

/-- The taps of FASTn, over D2³ (R125). -/
def fastTaps (d : Nat) : List Int := boxWindow d (boxWindow d (boxWindow d [1]))

/-- The step response of an LP or GAUSS response after its taps 0 to `k`, in units of 2⁻³² of the step: between −9 % and +109 % of the
step for LP and between 0 % and 100 % for GAUSS, and what is left to come mirrors it, for the response is symmetric and its DC gain is 1
(R125). -/
def romStep (v k : Nat) : Int :=
  let within (x : Int) : Int :=
    if v < 14 then max (-(9 * 2 ^ 32 / 100)) (min (109 * 2 ^ 32 / 100) x) else max 0 (min (2 ^ 32) x)
  if romSpan v ≤ k then 2 ^ 32
  else if 2 * k < romSpan v then within (Sys2Proof.Config.romStep v k)
  else 2 ^ 32 - within (Sys2Proof.Config.romStep v (romSpan v - 1 - k))

/-- The taps of an LP or GAUSS response, weighted 2⁻³². -/
def romTaps (v : Nat) : List Int :=
  (List.range (romSpan v + 1)).map fun k => if k = 0 then romStep v 0 else romStep v k - romStep v (k - 1)

/-- The taps of a user set, weighted 2⁻²²: h[NTAPS − 1 − k] = h[k] (R127). -/
def Field.firTaps (u : Nat) (f : Field) : List Int :=
  let n := f.c (F.FILT_CFG_NTAPS u)
  (List.range n).map fun k => signed 24 (f.c (F.FILT_COEF_H u (min k (n - 1 - k))))

/-- Taps against the newest stage-1 outputs. -/
def dot (taps hist : List Int) : Int := (List.zipWith (· * ·) taps hist).sum

/-- A stage-2 output before the clamp (R124-R127): `hist` holds the stage-1 outputs, newest first. -/
def Field.stage2Raw (s2 : Nat) (hist : List Int) (f : Field) : Int :=
  if s2 = 0 then hist.headD 0
  else if 8 ≤ s2 ∧ s2 ≤ 13 then roundAway (dot (fastTaps (romD2 s2)) hist) (romD2 s2 ^ 3)
  else if s2 < 16 then roundAway (dot (romTaps s2) hist) (2 ^ 32)
  else roundAway (dot (f.firTaps (s2 - 16)) hist) (2 ^ 22)

/-- J of the DC block, 0 while it is off (R130). -/
def Chain.j (c : Chain) : Nat := if c.dcbEn then c.dcbLen else 0

/-- L of the moving average: 0 means 65 536 (R132). -/
def Chain.l (c : Chain) : Nat := if c.maLen = 0 then 65536 else c.maLen

/-- The settling count S in P1, with J or 2J of the DC block (R136, R131). -/
def Field.settleCount (c : Chain) (frozen : Bool) (f : Field) : Nat :=
  4 + f.span2 c.s2 + (if frozen then c.j else 2 * c.j) * f.d2 c.s2 + (c.l - 1) * f.d2 c.s2

/-- P1 from one output to the next (R133). -/
def Field.outStep (c : Chain) (f : Field) : Nat := if c.maSlide then f.d2 c.s2 else f.d2 c.s2 * c.l

/-- Modulator clocks of the chain's total group delay (R125, R130, R132). -/
def Field.delayClocks (c : Chain) (f : Field) : Nat :=
  62 + 16 * f.span2 c.s2 + 32 * c.j * f.d2 c.s2 + 16 * (c.l - 1) * f.d2 c.s2

/-- Ticks of DEVICE.TIME in a modulator clock: FCORE ÷24, or ÷96 in Lean mode (R103). -/
def clockTicks (lean : Bool) : Nat := if lean then 48 else 12

/-- The stage-2 output `m` stage-2 samples ago, clamped (R124). -/
def Field.x2 (c : Chain) (hist : List Int) (m : Nat) (f : Field) : Int :=
  clamp24 (f.stage2Raw c.s2 (hist.drop (m * f.d2 c.s2)))

/-- Was the stage-2 output `m` stage-2 samples ago clamped (R135)? -/
def Field.x2Clamped (c : Chain) (hist : List Int) (m : Nat) (f : Field) : Bool :=
  let r := f.stage2Raw c.s2 (hist.drop (m * f.d2 c.s2))
  clamp24 r != r

/-- The sum of the K = 2J + 1 stage-2 outputs that end `m` ago: K × A[m] (R130). -/
def Field.liveSum (c : Chain) (hist : List Int) (m : Nat) (f : Field) : Int :=
  ((List.range (2 * c.j + 1)).map fun i => f.x2 c hist (m + i)).sum

/-- The estimate in force at P1 index `k`: the newest mark before it (R131). -/
def markAt (marks : List (Nat × Option Held)) (k : Nat) : Option Held :=
  match marks.find? fun m => decide (m.1 < k) with
  | some m => m.2
  | none => none

/-- The DC block's output `m` stage-2 samples ago, before the clamp (R130, R131). `p1`: the index of the newest stage-1 output;
`pick`: which copy's sum a held estimate gives. -/
def Field.dcRaw (c : Chain) (hist : List Int) (marks : List (Nat × Option Held)) (pick : Held → Int) (p1 m : Nat)
    (f : Field) : Int :=
  let x := f.x2 c hist (m + c.j)
  match markAt marks (p1 - m * f.d2 c.s2) with
  | some h => roundAway (h.k * x - pick h) h.k
  | none => roundAway ((2 * c.j + 1) * x - f.liveSum c hist m) (2 * c.j + 1)

/-- What the moving average takes: the DC block's clamped output, or the stage-2 output where it is off. -/
def Field.preMa (c : Chain) (hist : List Int) (marks : List (Nat × Option Held)) (pick : Held → Int) (p1 m : Nat)
    (f : Field) : Int :=
  if c.dcbEn then clamp24 (f.dcRaw c hist marks pick p1 m) else f.x2 c hist m

/-- The output of one copy of the chain (R132). -/
def Field.chainValue (c : Chain) (hist : List Int) (marks : List (Nat × Option Held)) (pick : Held → Int) (p1 : Nat)
    (f : Field) : Int :=
  roundAway (((List.range c.l).map fun m => f.preMa c hist marks pick p1 m).sum) c.l

/-- The stage-2 outputs in the impulse response of a chain output, by how many of them ago: the live mean takes 2J + 1 of them, under a
held estimate only x[m − J] counts (R130, R131). -/
def Field.usedX2 (c : Chain) (marks : List (Nat × Option Held)) (p1 : Nat) (f : Field) : List Nat :=
  (List.range c.l).flatMap fun m =>
    if (markAt marks (p1 - m * f.d2 c.s2)).isSome then [m + c.j] else (List.range (2 * c.j + 1)).map (m + ·)

/-- Did stage 1 clamp a value in the impulse response of an output (R135)? -/
def Field.s1Flag (c : Chain) (histS : List Bool) (marks : List (Nat × Option Held)) (p1 : Nat) (f : Field) : Bool :=
  (f.usedX2 c marks p1).any fun i => ((histS.drop (i * f.d2 c.s2)).take (f.span2 c.s2 + 1)).any id

/-- Did stage 2 clamp a value in it, in one copy (R135)? -/
def Field.s2Flag (c : Chain) (hist : List Int) (marks : List (Nat × Option Held)) (p1 : Nat) (f : Field) : Bool :=
  (f.usedX2 c marks p1).any fun m => f.x2Clamped c hist m

/-- Did the DC block clamp a value in it? -/
def Field.dcbFlag (c : Chain) (hist : List Int) (marks : List (Nat × Option Held)) (pick : Held → Int) (p1 : Nat)
    (f : Field) : Bool :=
  c.dcbEn && (List.range c.l).any fun m =>
    let y := f.dcRaw c hist marks pick p1 m
    clamp24 y != y

/-- Integer square root below 2^(bits), bit by bit. -/
def isqrt : Nat → Nat → Nat → Nat
  | 0, r, _ => r
  | b + 1, r, n => isqrt b (if (r + 2 ^ b) * (r + 2 ^ b) ≤ n then r + 2 ^ b else r) n

/-- MAG of a pair of outputs to the nearest code (R83, R124). -/
def magnitude (i q : Int) : Int :=
  let n := (i * i + q * q).toNat
  let r := isqrt 26 0 n
  clamp24 ((if r * r + r < n then r + 1 else r : Nat) : Int)

end Sys2Proof.Machine
end

