-- ==== Sys2Proof/Machine/Routing.lean ====
section
/-! DEFINITION. Which slice runs which programme, which nodes and sources are connected (chapters 04 and 06), which contexts
depend on a source (R87), and the disturbances and flags other blocks lay on contexts (R137, R157). -/

namespace Sys2Proof.Machine

/-- Every slice. -/
def allSlices : List Nat := List.range 18

/-- Every programme. -/
def allProgs : List Nat := List.range 16

/-- Every context. -/
def allCtxs : List Nat := List.range 128

/-- Codes of the role field (R101). -/
def roleCode (r : Role) : Nat :=
  match r with
  | .active => 0 | .check => 1 | .spare => 2 | .retired => 3 | .selftest => 4

/-- The slice that runs a programme (R101). -/
def Field.progSlice (p : Nat) (f : Field) : Option Nat :=
  allSlices.find? fun s => let r := f.slice s; r.role == .active && r.progValid && r.prog == p

/-- The first slice in a role. -/
def Field.slicesIn (r : Role) (f : Field) : Option Nat := allSlices.find? fun s => (f.slice s).role == r

/-- The check slice. -/
def Field.checkSlice (f : Field) : Option Nat := f.slicesIn .check

/-- The cold spare. -/
def Field.spareSlice (f : Field) : Option Nat := f.slicesIn .spare

/-- How many slices are in service (R114). -/
def Field.inService (f : Field) : Nat := (allSlices.filter fun s => (f.slice s).role != .retired).length

/-- The programme a slice follows: its own, or that of the slice it shadows (R107). -/
def Field.follows (s : Nat) (f : Field) : Option Nat :=
  let r := f.slice s
  match r.role with
  | .active => if r.progValid then some r.prog else none
  | .check => r.shadow.map fun t => (f.slice t).prog
  | _ => none

/-- Is the programme's run paused or without a slice (R112, R118)? -/
def Field.progRuns (p : Nat) (f : Field) : Bool :=
  match f.progSlice p with
  | some s => (f.slice s).on && f.cb (F.SEQ_PROG_VALID p)
  | none => false

/-- The programmes by the state of their entry (PSTAT.STATE, R152). -/
def Field.pstate (p : Nat) (f : Field) : Nat := f.g (F.SEQ_PSTAT_STATE p)

/-- Is an entry of the programme in progress: pre-delay, settling, converting or urgent? -/
def Field.inEntry (p : Nat) (f : Field) : Bool :=
  let st := f.pstate p
  st == 1 || st == 2 || st == 3 || st == 5

/-- The context whose entry is in progress on a slice. -/
def Field.running (s : Nat) (f : Field) : Option Nat :=
  match f.follows s with
  | some p => if f.inEntry p && (f.slice s).on then (f.prog p).conn else none
  | none => none

/-- The context a slice faces: the one its programme is connected to, in an entry, between entries and while it pauses. -/
def Field.facing (s : Nat) (f : Field) : Option Nat := (f.follows s).bind fun p => (f.prog p).conn

/-- The active slice on which an entry of a context is in progress. -/
def Field.ctxSlice (c : Nat) (f : Field) : Option Nat :=
  allSlices.find? fun s => (f.slice s).role == .active && f.running s == some c

/-- The set a context names. -/
def Field.setOf (c : Nat) (f : Field) : Nat := f.c (F.CTX_CFG_SET c)

/-- Are the applied sets and static drives connected (R71, R74)? -/
def Field.connected (f : Field) : Bool := f.configured && f.mode != .boot

/-- The context whose set a slice's inputs are on, between entries too (R72, R73). -/
def Field.inputCtx (s : Nat) (f : Field) : Option Nat :=
  if f.connected then (f.follows s).bind fun p => (f.prog p).conn else none

/-- Does a terminal take no part in the crosspoint: gate open, shunt open, function OFF or changing (R62, R63, R65, R75)? -/
def Field.cutOff (n : Nat) (f : Field) : Bool :=
  f.gb (F.TERM_CELLSTAT_GATE_OPEN n) || f.gb (F.TERM_CELLSTAT_SHUNT_OPEN n) || f.func n == 0

/-- The node on slice input k = 2s or 2s + 1 (R77). -/
def Field.inputNode (k : Nat) (f : Field) : Option Nat :=
  (f.inputCtx (k / 2)).map fun c => if k % 2 = 0 then f.c (F.XPT_SET_A_POS (f.setOf c)) else f.c (F.XPT_SET_A_NEG (f.setOf c))

/-- The slice inputs connected to a terminal, as bits (R77). -/
def Field.inputsOf (n : Nat) (f : Field) : Nat :=
  if f.cutOff n then 0
  else (List.range 36).foldl (fun a k => if f.inputNode k == some n then a + 2 ^ k else a) 0

/-- The drives of a set: (terminal, source) pairs with a source (R78). -/
def Field.setDrives (k : Nat) (f : Field) : List (Nat × Nat) :=
  [(f.c (F.XPT_SET_B_TERM0 k), f.c (F.XPT_SET_B_SRC0 k)), (f.c (F.XPT_SET_B_TERM1 k), f.c (F.XPT_SET_B_SRC1 k))].filter
    fun d => d.2 != 0

/-- The static drives: (terminal, source) pairs with a source. -/
def Field.staticDrives (f : Field) : List (Nat × Nat) :=
  (allTerms.map fun n => (n, f.c (F.XPT_DRIVE_SOURCE n))).filter fun d => d.2 != 0

/-- Is a function change in progress (R63, R74)? -/
def Field.changing (f : Field) : Bool := allTerms.any fun n => (f.term n).next.isSome

/-- Every drive in effect (R69, R72, R74). -/
def Field.drives (f : Field) : List (Nat × Nat) :=
  if f.connected && !f.changing then
    f.staticDrives ++ (allProgs.filterMap fun p => if (f.progSlice p).isSome then (f.prog p).conn else none).flatMap
      fun c => f.setDrives (f.setOf c)
  else []

/-- The source that drives a terminal now, 0 for none (R77). -/
def Field.sourceOn (n : Nat) (f : Field) : Nat :=
  if f.cutOff n then 0
  else match f.drives.find? fun d => d.1 == n with
    | some d => d.2
    | none => 0

/-- The terminals a set senses. -/
def Field.senses (k n : Nat) (f : Field) : Bool := f.c (F.XPT_SET_A_POS k) == n || f.c (F.XPT_SET_A_NEG k) == n

/-- Does a context depend on a source: EXC0-EXC3 as 0-3, IDC0-IDC3 as 4-7 (R87)? -/
def Field.depends (c src : Nat) (f : Field) : Bool :=
  let k := f.setOf c
  (f.setDrives k).any (fun d => d.2 == src + 1) ||
    f.staticDrives.any (fun d => d.2 == src + 1 && f.senses k d.1) ||
    (f.c (F.CTX_DEMOD_SRC c) == src + 1 && src < 4) ||
    (if src < 4 then nbit (f.c (F.CTX_EXCDEP_EXC c)) src else nbit (f.c (F.CTX_EXCDEP_IDC c)) (src - 4))

/-- Does a context use a terminal: its set senses it or drives it, or it depends on an excitation source that a static drive, its set or
another programme's set puts on it (R75, R87)? R75 does not define the word: that a static VBIAS or TDAC drive on a terminal the set does
not sense is no use of it is the model's choice (log 107). -/
def Field.usesTerm (c n : Nat) (f : Field) : Bool :=
  let k := f.setOf c
  f.senses k n || (f.setDrives k).any (fun d => d.1 == n) ||
    (List.range 8).any fun src => f.depends c src &&
      (f.staticDrives ++ f.setDrives k ++ f.drives).any fun d => d.1 == n && d.2 == src + 1

/-- The windows of a context take flags (R162). -/
def Field.flag (c bit : Nat) (f : Field) : Field :=
  f.modCtx c fun x => { x with win := { x.win with flags := nset x.win.flags bit } }

/-- A disturbance on one slice waits for the next stage-1 boundary, or for the release of a blank (R98, R137). -/
def Field.disturb (s : Nat) (f : Field) : Field :=
  f.modSlice s fun r => if r.blanked then { r with broken := true } else { r with restart := true }

/-- A disturbance for a context, on the slice that faces it and on the check slice that shadows that slice; between the context's entries
too, for its next entry finds the chain as it stands (R87, R137). -/
def Field.disturbCtx (c : Nat) (f : Field) : Field :=
  f.each (allSlices.filter fun s => f.facing s == some c) Field.disturb

/-- The settling gate of a slice closes at once, for a reference switch (R95, R137); `fresh` notes a gate that no earlier disturbance
held closed (R138). -/
def Field.unsettleRef (s : Nat) (f : Field) : Field :=
  f.modSlice s fun r =>
    if r.blanked then { r with refSettled := false, broken := true }
    else { r with refSettled := false, gate := false, fresh := r.gate || r.fresh }

/-- Has a source its drive cut by an open gate: it holds its compliance limit until reclosure (R75)? EXC0-EXC3 as 0-3, IDC0-IDC3 as
4-7. -/
def Field.gateCuts (src : Nat) (f : Field) : Bool :=
  f.drives.any fun d => d.2 == src + 1 && f.gb (F.TERM_CELLSTAT_GATE_OPEN d.1)

/-- Does a source that the context depends on stand out of compliance (R88)? -/
def Field.outOfCompliance (c : Nat) (f : Field) : Bool :=
  (List.range 8).any fun src => f.depends c src &&
    (if src < 4 then f.gb (F.EXC_SINE_STAT_COMPL src) else f.gb (F.EXC_IDCSTAT_COMPL (src - 4)))

/-- Does a terminal that the context senses have its gate held open (R75)? -/
def Field.gateHeld (c : Nat) (f : Field) : Bool :=
  allTerms.any fun n => f.gb (F.TERM_CELLSTAT_GATE_OPEN n) && f.senses (f.setOf c) n

/-- An excitation change for every context that depends on a source (R87). -/
def Field.excite (src : Nat) (f : Field) : Field :=
  f.each (allCtxs.filter fun c => f.depends c src) Field.disturbCtx

/-- CTX COUNTS.RESETTLE steps and its event sets (R138). -/
def Field.resettle (c : Nat) (f : Field) : Field :=
  (f.bump (F.CTX_COUNTS_RESETTLE c)).evt (R.pageCTX c) 2

/-- GEN of a field page: a count modulo 2³² (R57). -/
def Field.gen (page : Nat) (f : Field) : Field :=
  f.tell (.gen page)

/-- What the Larder record keeps of a slice. -/
def SliceRun.kept (r : SliceRun) : SliceRec :=
  { role := r.role, prog := r.prog, progValid := r.progValid, spared := r.spared, strikes := r.strikes, lastTest := r.lastTest,
    gainDev := r.gainDev }

/-- A slice as the Larder record has it. -/
def sliceOf (r : SliceRec) : SliceRun :=
  { role := r.role, prog := r.prog, progValid := r.progValid, spared := r.spared, strikes := r.strikes, lastTest := r.lastTest,
    gainDev := r.gainDev }

/-- A change of a slice's role or health: GEN of its page steps (R122) and the Larder record follows (R399). -/
def Field.setRole (s : Nat) (h : SliceRun → SliceRun) (f : Field) : Field :=
  let f := (f.modSlice s h).gen (R.pageSLICE s)
  f.tell (.slice s (f.slice s).kept)

/-- A field that hardware owns changes: the running configuration and the register the host reads (R58). -/
def Field.ownTell (x : Fld) (v : Nat) (f : Field) : Field := (f.own x v).tell (.put x v)

end Sys2Proof.Machine
end

