-- ==== Sys2Proof/Machine/Exc.lean ====
section
/-! DEFINITION. Excitation, references and blanking (chapter 05). -/

namespace Sys2Proof.Machine

open Sys2Proof

/-- Run state of a sine generator. -/
def Field.sine (k : Nat) (f : Field) : SineRun := tget (fun _ => {}) f.exc.sines k

/-- Change the run state of a sine generator. -/
def Field.modSine (k : Nat) (h : SineRun → SineRun) (f : Field) : Field :=
  { f with exc := { f.exc with sines := tput (fun _ => {}) f.exc.sines k (h (f.sine k)) } }

/-- Run state of a DC source. -/
def Field.idc (k : Nat) (f : Field) : IdcRun := tget (fun _ => {}) f.exc.idcs k

/-- Does the generator run, ramping up or at full amplitude? -/
def Field.sineOn (k : Nat) (f : Field) : Bool := f.gb (F.EXC_SINE_STAT_RUNNING k) || (f.sine k).rampUp

/-- Does the generator drive its output: it runs, or ramps down (R46)? -/
def Field.sineDrives (k : Nat) (f : Field) : Bool := f.sineOn k || f.gb (F.EXC_SINE_STAT_BUSY k)

/-- Slices that face a context with a REFSEL among `sel` and, for RATIO_EXC, the given source (R95). -/
def Field.refUsers (sel : List Nat) (src : Option Nat) (f : Field) : List Nat :=
  allSlices.filter fun s =>
    match f.facing s with
    | some c => sel.contains (f.c (F.CTX_CFG_REFSEL c)) && (match src with
      | some k => f.c (F.CTX_DEMOD_SRC c) == k + 1
      | none => true)
    | none => false

/-- A generator starts (R80): the stored values are in force and it ramps up; RATIO_EXC loses its reference (R95). -/
def Field.sineStart (k : Nat) (f : Field) : Field :=
  let f := f.modSine k fun r =>
    { r with freq := f.c (F.EXC_SINE_FREQ_FREQ k), ampl := f.c (F.EXC_SINE_AMPL_AMPL k), changed := false, rampUp := true, errRun := 0 }
  f.each (f.refUsers [3] (some k)) Field.unsettleRef

/-- SINE[k].CTL.EN = 1 (R45, R80). -/
def Field.sineEnable (k : Nat) (f : Field) : Field :=
  if f.gb (F.EXC_SINE_STAT_BUSY k) then f.put (F.EXC_SINE_STAT_PENDING k) 1
  else if f.sineOn k then f
  else f.sineStart k

/-- SINE[k].CTL.EN = 0: shutdown starts, or a pending enable is cancelled (R45, R46). -/
def Field.sineDisable (k : Nat) (f : Field) : Field :=
  if f.gb (F.EXC_SINE_STAT_BUSY k) then f.put (F.EXC_SINE_STAT_PENDING k) 0
  else if f.sineOn k then
    ((f.put (F.EXC_SINE_STAT_RUNNING k) 0).put (F.EXC_SINE_STAT_BUSY k) 1).modSine k fun r => { r with rampUp := false }
  else f

/-- A written FREQ or AMPL waits for the next positive zero crossing (R80); of a generator that stands, for its start. -/
def Field.sineWritten (k : Nat) (f : Field) : Field :=
  if f.sineDrives k then f.modSine k fun r => { r with changed := true } else f

/-- The next positive zero crossing (R80): an excitation change (R87). -/
def Field.sineCross (k : Nat) (f : Field) : Field :=
  if (f.sine k).changed && f.sineDrives k then
    (f.modSine k fun r =>
      { r with freq := f.c (F.EXC_SINE_FREQ_FREQ k), ampl := f.c (F.EXC_SINE_AMPL_AMPL k), changed := false }).excite k
  else f

/-- A start or shutdown ramp ends (R46, R80): an excitation change (R87); a pending enable takes effect (R45). That the end of a
shutdown clears COMPL and AMPL_ERR at once, for no output is left that could be beyond its limit, is the model's choice (log 61). -/
def Field.sineRampDone (k : Nat) (f : Field) : Field :=
  if f.gb (F.EXC_SINE_STAT_BUSY k) then
    let f := ((((f.modSine k fun r => { r with changed := false }).put (F.EXC_SINE_STAT_BUSY k) 0).put (F.EXC_SINE_STAT_COMPL k) 0).put (F.EXC_SINE_STAT_AMPL_ERR k) 0).excite k
    if f.gb (F.EXC_SINE_STAT_PENDING k) then (f.put (F.EXC_SINE_STAT_PENDING k) 0).sineStart k else f
  else if (f.sine k).rampUp then
    ((f.modSine k fun r => { r with rampUp := false }).put (F.EXC_SINE_STAT_RUNNING k) 1).excite k
  else f

/-- The amplitude measured once per period (R82): four consecutive periods more than 1 % off are an error. R82 does not say when
AMPL_ERR clears: that the first period within 1 % clears it is the model's choice (log 61). -/
def Field.sineMonitor (k mon : Nat) (f : Field) : Field :=
  if f.sineDrives k then
    let f := f.put (F.EXC_SINE_MON_MON k) mon
    if f.gb (F.EXC_SINE_STAT_RUNNING k) then
      let ampl := (f.sine k).ampl
      if ampl < 100 * ((mon : Int) - ampl).natAbs then
        let n := (f.sine k).errRun + 1
        let f := f.modSine k fun r => { r with errRun := min 4 n }
        if n = 4 then (f.put (F.EXC_SINE_STAT_AMPL_ERR k) 1).evt R.pageEXC (8 + k) else f
      else (f.modSine k fun r => { r with errRun := 0 }).put (F.EXC_SINE_STAT_AMPL_ERR k) 0
    else f
  else f

/-- The compliance flag of a source: EXC0-EXC3 as 0-3, IDC0-IDC3 as 4-7. -/
def complFlag (src : Nat) : Fld := if src < 4 then F.EXC_SINE_STAT_COMPL src else F.EXC_IDCSTAT_COMPL (src - 4)

/-- Can the source leave compliance: a generator in current mode that drives (R82), a DC source that delivers (R85)? -/
def Field.canComply (src : Nat) (f : Field) : Bool :=
  if src < 4 then f.sineDrives src && f.cb (F.EXC_SINE_CFG_MODE src) else f.gb (F.EXC_IDCSTAT_ON (src - 4))

/-- A source has been out of compliance for 10 µs (R82, R85): dependent contexts carry OPEN and resettle (R87, R88). -/
def Field.complEnter (src : Nat) (inj : Bool) (f : Field) : Field :=
  if f.gb (complFlag src) then f
  else
    let f := ((f.put (complFlag src) 1).evt R.pageEXC src (inj := inj)).excite src
    f.each (allCtxs.filter fun c => f.depends c src && f.cb (F.CTX_CFG_VALID c)) fun c f => f.flag c 6

/-- A change of IDC LEVEL or EN takes effect (R85, R87). That a source switched off clears its COMPL at once is the model's choice
(log 61). -/
def Field.idcEffect (k : Nat) (f : Field) : Field :=
  let lv := f.c (F.EXC_IDC_LEVEL k)
  let en := f.cb (F.EXC_IDC_EN k)
  if f.idc k = { level := lv, en := en } then f
  else
    let f := { f with exc := { f.exc with idcs := tput (fun _ => {}) f.exc.idcs k { level := lv, en := en } } }
    let f := f.when (!en) fun f => f.put (F.EXC_IDCSTAT_COMPL k) 0
    (f.putb (F.EXC_IDCSTAT_ON k) en).excite (4 + k)

/-- The total current of the VBIAS drives in 10 µA units: beyond ±25 mA VBIAS limits (R86). -/
def Field.vbias (cur : Nat) (f : Field) : Field :=
  let above := decide (2500 < (signed 16 cur).natAbs)
  let f := f.put F.EXC_VBIAS_CURRENT cur
  if above && !f.gb F.EXC_VBIAS_OVL then (f.put F.EXC_VBIAS_OVL 1).evt R.pageEXC 12 else f.putb F.EXC_VBIAS_OVL above

/-- The external reference leaves its window (R95): EXT contexts lose their reference. -/
def Field.extBad (inj : Bool) (f : Field) : Field :=
  if f.gb F.EXC_REF_EXT_OK then
    ((f.put F.EXC_REF_EXT_OK 0).evt R.pageEXC 13 (inj := inj)).each (f.refUsers [1] none) Field.unsettleRef
  else f

/-- REF_SETTLED sets on a slice (R95); the restart follows at the next stage-1 boundary (R137), during blanking at its release (R98). -/
def Field.refSettle (s : Nat) (f : Field) : Field :=
  let waits := match f.facing s with
    | some c => f.c (F.CTX_CFG_REFSEL c) == 1 && !f.gb F.EXC_REF_EXT_OK
    | none => false
  if (f.slice s).refSettled || waits then f
  else f.modSlice s fun r => { r with refSettled := true, restartRef := !r.blanked, broken := r.broken || r.blanked }

/-- The reference `b` retires (R96): where it is the primary, the other takes its place. -/
def Field.retireRef (b cause : Nat) (inj : Bool) (f : Field) : Field :=
  let primary := f.g F.EXC_REF_ACTIVE == b
  let f := { f with exc := { f.exc with retiredRef := some b } }.put F.EXC_REF_SPARE_AVAIL 0
  let f := (f.tell (.retire 5 b cause (!primary) inj)).fault 50 false b inj
  let f := f.when primary fun f =>
    let f := ((f.put F.EXC_REF_ACTIVE (1 - b)).tell (.spareIn 5 (1 - b))).evt R.pageEXC 15 (inj := inj)
    let f := f.each (allCtxs.filter fun c => f.cb (F.CTX_CFG_VALID c) && f.c (F.CTX_CFG_REFSEL c) != 1) fun c f => f.flag c 8
    f.each (f.refUsers [0, 2, 3] none) Field.unsettleRef
  f.tell (.refs (f.g F.EXC_REF_ACTIVE) (some b))

/-- REF_B and REF_A differ by more than 30 ppm for 1 s (R96): `diff` in 0.1 ppm; DIAG finds the reference at fault, whose
wear retirement a veto defers (R396). -/
def Field.refMismatch (bad diff : Nat) (f : Field) : Field :=
  if f.gb F.EXC_REF_SPARE_AVAIL then
    let f := ((f.put F.EXC_REF_DIFF diff).evt R.pageEXC 14).tell (.gen R.pageLARDER)
    if !f.diagRuns then f
    else if nbit f.veto 5 then
      if f.deferred.contains (5, bad) then f
      else { f with deferred := f.deferred ++ [(5, bad)] }.tell (.defer 5 bad true)
    else f.retireRef bad 1 false
  else f

/-- Does a designated terminal assert the blank (R180): while it is ON, with BLANK_POL = 1 while it is OFF; the raw comparator level
drives the line. Before a first sample it asserts nothing. -/
def Field.diBlanks (n : Nat) (f : Field) : Bool :=
  f.func n == 1 && f.cb (F.TERM_DI_CFG_BLANK_SRC n) && (f.term n).di.raw == some (!f.cb (F.TERM_DI_CFG_BLANK_POL n))

/-- The blank line asserts (R97, R99). -/
def Field.blankAssert (f : Field) : Field :=
  let f := { f with exc := { f.exc with line := true, guard := false } }.put F.EXC_BLANK_STAT_GUARD_ON 0
  if f.exc.ended || f.gb F.EXC_BLANK_STAT_ACTIVE then f
  else ((f.put F.EXC_BLANK_STAT_ACTIVE 1).bump F.EXC_BLANK_STAT_COUNT).evt R.pageEXC 16

/-- The guard time ends (R99): blanking ends; after MAXLEN it may start again and STUCK clears. -/
def Field.blankGuardEnd (f : Field) : Field :=
  if f.exc.guard then
    let f := { f with exc := { f.exc with guard := false } }.put F.EXC_BLANK_STAT_GUARD_ON 0
    if f.exc.ended then { f with exc := { f.exc with ended := false } }.put F.EXC_BLANK_STAT_STUCK 0
    else if f.gb F.EXC_BLANK_STAT_ACTIVE then (f.put F.EXC_BLANK_STAT_ACTIVE 0).evt R.pageEXC 17
    else f
  else f

/-- The blank line releases (R99): the guard runs; a guard of 0 ends at once. -/
def Field.blankRelease (f : Field) : Field :=
  let f := { f with exc := { f.exc with line := false, guard := true } }.put F.EXC_BLANK_STAT_GUARD_ON 1
  if f.c F.EXC_BLANK_CFG_GUARD = 0 then f.blankGuardEnd else f

/-- Does the BLANK pin assert the line (R97)? -/
def Field.pinBlanks (f : Field) : Bool := f.gb F.EXC_BLANK_STAT_PIN && f.cb F.EXC_BLANK_CFG_PIN_EN

/-- The blank line follows its sources: the BLANK pin where PIN_EN feeds it in, and every designated terminal (R97, R180). -/
def Field.blankLine (f : Field) : Field :=
  let di := allTerms.any fun n => f.diBlanks n
  let f := f.putb F.EXC_BLANK_STAT_DI di
  let now := di || f.pinBlanks
  if now == f.exc.line then f else if now then f.blankAssert else f.blankRelease

/-- The raw level of a terminal changes to one that asserts the blank line, or does not (R180). -/
def Field.blankLevel (on : Bool) (n : Nat) (f : Field) : Field :=
  f.modDi n fun d => { d with raw := some (on != f.cb (F.TERM_DI_CFG_BLANK_POL n)) }

/-- A source asserts the blank line: the BLANK pin in its polarity (none), or a terminal (R97, R180). -/
def Field.blankOn (src : Option Nat) (f : Field) : Field :=
  match src with
  | none => (f.put F.EXC_BLANK_STAT_PIN 1).blankLine
  | some n => (f.blankLevel true n).blankLine

/-- The blank line releases (R99): the BLANK pin while it asserts the line, else the terminals that do; one of several terminals releases
with its sample (R180, log 141). -/
def Field.blankOff (f : Field) : Field :=
  let on := allTerms.filter fun n => f.diBlanks n
  if f.pinBlanks || on == [] then (f.put F.EXC_BLANK_STAT_PIN 0).blankLine else (f.each on (Field.blankLevel false)).blankLine

/-- Blanking has lasted MAXLEN ms (R99): it ends for every context, and each release is a disturbance. -/
def Field.blankMaxlen (f : Field) : Field :=
  if f.gb F.EXC_BLANK_STAT_ACTIVE && f.c F.EXC_BLANK_MAX_MAXLEN != 0 then
    let f := { f with exc := { f.exc with ended := true } }
    let f := (((f.put F.EXC_BLANK_STAT_ACTIVE 0).put F.EXC_BLANK_STAT_STUCK 1).evt R.pageEXC 17).evt R.pageEXC 18
    f.each (allSlices.filter fun s => (f.slice s).blanked) fun s f => f.modSlice s fun r => { r with broken := true }
  else f

/-- INJECT of the EXC page (R100). -/
def Field.excInject (w : Word) (f : Field) : Field :=
  let f := f.each ((List.range 8).filter (wbit w)) fun src f => f.complEnter src true
  let f := f.when (wbit w 12 && !f.gb F.EXC_VBIAS_OVL) fun f => (f.put F.EXC_VBIAS_OVL 1).evt R.pageEXC 12 (inj := true)
  f.when (wbit w 13) fun f => if f.gb F.EXC_REF_EXT_OK then f.extBad true else f.evt R.pageEXC 13 (inj := true)

/-- SINE_ZERO_CROSSING (R80). -/
def execSineZeroCrossing (k : Fin 4) (s : State) : Host.Outcome State Fault Refusal := runField (Field.sineCross k) s

/-- SINE_RAMP_DONE (R46). -/
def execSineRampDone (k : Fin 4) (s : State) : Host.Outcome State Fault Refusal := runField (Field.sineRampDone k) s

/-- SINE_PERIOD_MONITOR (R82). -/
def execSinePeriodMonitor (k : Fin 4) (mon : Fin 65536) (s : State) : Host.Outcome State Fault Refusal :=
  runField (Field.sineMonitor k mon) s

/-- SOURCE_COMPLIANCE_ENTER (R82, R85). -/
def execSourceComplianceEnter (src : Fin 8) (s : State) : Host.Outcome State Fault Refusal :=
  runField (fun f => f.when (f.canComply src) (Field.complEnter src false)) s

/-- SOURCE_COMPLIANCE_CLEAR (R82, R85): not while an open gate cuts the source's drive (R75). -/
def execSourceComplianceClear (src : Fin 8) (s : State) : Host.Outcome State Fault Refusal :=
  runField (fun f => f.when (!f.gateCuts src) (Field.put (complFlag src) 0)) s

/-- IDC_CHANGE_EFFECT (R85). -/
def execIdcChangeEffect (k : Fin 4) (s : State) : Host.Outcome State Fault Refusal := runField (Field.idcEffect k) s

/-- VBIAS_OVERLOAD (R86). -/
def execVbiasOverload (cur : Fin 65536) (s : State) : Host.Outcome State Fault Refusal := runField (Field.vbias cur) s

/-- EXTREF_BAD (R95). -/
def execExtrefBad (s : State) : Host.Outcome State Fault Refusal := runField (Field.extBad false) s

/-- EXTREF_OK (R95). -/
def execExtrefOk (s : State) : Host.Outcome State Fault Refusal := runField (Field.put F.EXC_REF_EXT_OK 1) s

/-- REF_SETTLED (R95). -/
def execRefSettled (sl : Slice) (s : State) : Host.Outcome State Fault Refusal := runField (Field.refSettle sl) s

/-- REF_MISMATCH (R96). -/
def execRefMismatch (bad : Fin 2) (diff : Fin 65536) (s : State) : Host.Outcome State Fault Refusal :=
  runField (Field.refMismatch bad diff) s

/-- BLANK_LINE_ASSERT (R97). -/
def execBlankLineAssert (src : Option Terminal) (s : State) : Host.Outcome State Fault Refusal :=
  runField (Field.blankOn (src.map Fin.val)) s

/-- BLANK_LINE_RELEASE (R99). -/
def execBlankLineRelease (s : State) : Host.Outcome State Fault Refusal := runField Field.blankOff s

/-- BLANK_GUARD_EXPIRY (R99). -/
def execBlankGuardExpiry (s : State) : Host.Outcome State Fault Refusal := runField Field.blankGuardEnd s

/-- BLANK_MAXLEN_EXPIRY (R99). -/
def execBlankMaxlenExpiry (s : State) : Host.Outcome State Fault Refusal := runField Field.blankMaxlen s

end Sys2Proof.Machine
end

