-- ==== Sys2Proof/Machine/DigIn.lean ====
section
/-! DEFINITION. Digital inputs (chapter 10): sampling, debounce, chatter, dwell and edge counting. -/

namespace Sys2Proof.Machine

open Sys2Proof

/-- Does the terminal work as a digital input (R181, R183)? -/
def Field.diActive (n : Nat) (f : Field) : Bool := f.func n == 1 && f.cb (F.CTRL_EN (R.pageTERM n))

/-- Does the terminal sample continuously (R174), with a DI_TIME word in force? -/
def Field.diCont (n : Nat) (w : Word) (f : Field) : Bool :=
  decide (wbits w 16 16 < 200) || f.cb (F.TERM_DI_CFG_CONT n) || f.cb (F.TERM_DI_CFG_BLANK_SRC n)

/-- The number of consecutive samples that changes the state (R175). -/
def Field.diN (n : Nat) (w : Word) (f : Field) : Nat :=
  let debounce := wbits w 16 16
  let period := wbits w 0 14
  if f.diCont n w then max 1 debounce else max 1 ((debounce + period - 1) / max 1 period)

/-- The threshold of a digital input of a TYPE at the comparison of a number, in mV, rising or falling (R171): within ±0.5 V of its nominal value,
and not promised to stay the same (R422). -/
def diThreshold (n type : Nat) (rise : Bool) (k : Nat) : Int :=
  let nominal : Int := (if type = 1 then 10000 else 7000) + if rise then 2000 else 0
  nominal + max (-500) (min 500 (Sys2Proof.Config.diOffset n rise k))

/-- The comparator's level at a terminal voltage in mV (R171): between the thresholds it keeps its level; the first one there is
free. -/
def Field.diLevel (n : Nat) (mv : Int) (f : Field) : Bool × Field :=
  let type := f.c (F.TERM_DI_CFG_TYPE n)
  let k := f.draws
  let f := { f with draws := k + 1 }
  if diThreshold n type true k < mv then (true, f)
  else if mv < diThreshold n type false k then (false, f)
  else match (f.term n).di.raw with
    | some b => (b, f)
    | none =>
      let (x, f) := f.draw
      (x % 2 == 1, f)

/-- The current the sink is set to, in 0.1 mA (R171, R172): ISINK × 0.5 mA, the type's default for code 0. -/
def Field.diSink (n : Nat) (f : Field) : Nat :=
  let code := f.c (F.TERM_DI_CFG_ISINK n)
  if code ≠ 0 then 5 * code
  else match f.c (F.TERM_DI_CFG_TYPE n) with
    | 0 => 15 | 2 => 70 | _ => 25

/-- The heat of a digital input at a terminal voltage in mV, in 0.1 µW (R182). -/
def Field.diHeat (n : Nat) (mv : Nat) (f : Field) : Nat :=
  let w := f.cfg.word (R.TERM_DI_TIME n)
  let period := max 1 (wbits w 0 14)
  if f.diCont n w then mv * f.diSink n
  else mv * (f.diSink n * 8 + f.c (F.TERM_DI_CFG_HOLD n) * (period - 8)) / period

/-- The count of edges (R178): DI_EDGE selects the changes that count; the wrap is marked and counted; LAST_T is stamped. -/
def Field.diCount (n : Nat) (on : Bool) (f : Field) : Field :=
  let sel := f.c (F.TERM_DI_EDGE_EDGE n)
  if (if on then sel % 2 = 1 else sel / 2 % 2 = 1) then
    let f := f.modDi n fun d => { d with edgeAt := some f.time }
    let cnt := f.g (F.TERM_DI_CNT_CNT n)
    let f := (f.put (F.TERM_DI_CNT_CNT n) ((cnt + 1) % 2 ^ 32)).put (F.TERM_DI_CNT_LAST_T_LAST_T n) (f.time % 2 ^ 32)
    if cnt + 1 = 2 ^ 32 then (f.bump (F.TERM_DI_CNT_WRAPS_WRAPS n)).evt (R.pageTERM n) 8 else f
  else f

/-- The debounced state changes (R175), or the first one comes to stand, which is no edge (R178, R181). -/
def Field.diChange (n : Nat) (f : Field) : Field :=
  let d := (f.term n).di
  let f := f.modDi n fun d => { d with run := 0, since := f.time }
  if f.gb (F.TERM_DISTAT_VALID n) then
    let on := !f.gb (F.TERM_DISTAT_STATE n)
    let f := (f.putb (F.TERM_DISTAT_STATE n) on).put (F.TERM_DISTAT_STUCK n) 0
    (f.evt (R.pageTERM n) (if on then 4 else 5)).diCount n on
  else (f.put (F.TERM_DISTAT_VALID n) 1).putb (F.TERM_DISTAT_STATE n) d.cand

/-- Has the run of samples reached the number that changes the state? -/
def Field.diDue (n : Nat) (f : Field) : Bool :=
  f.diActive n && decide (f.diN n (f.term n).di.time ≤ (f.term n).di.run)

/-- A rejected transition (R176). -/
def Field.diReject (n : Nat) (f : Field) : Field :=
  (f.bump (F.TERM_DI_CHAT_COUNT n)).modDi n fun d => { d with iv := d.iv + 1 }

/-- A sample at a terminal voltage in mV (R171, R173-R176, R180): a DI_TIME write takes effect first and starts the run again,
and the run it cuts counts in no DI_CHAT (the model's choice, log 159). -/
def Field.diSample (n : Nat) (mv : Int) (f : Field) : Field :=
  if f.diActive n then
    let f := f.when (f.diDue n) (Field.diChange n)
    let w := f.cfg.word (R.TERM_DI_TIME n)
    let (level, f) := f.diLevel n mv
    let f := f.modDi n fun d => { if d.time = w && !d.again then d else { d with time := w, run := 0, again := false } with raw := some level }
    let f := f.when (f.cb (F.TERM_DI_CFG_BLANK_SRC n)) Field.blankLine
    let f := (f.putb (F.TERM_DISTAT_RAW n) level).putb (F.TERM_DISTAT_CONT_ACT n) (f.diCont n w)
    let d := (f.term n).di
    if f.gb (F.TERM_DISTAT_VALID n) then
      if level = f.gb (F.TERM_DISTAT_STATE n) then
        if d.run = 0 then f else (f.modDi n fun d => { d with run := 0 }).diReject n
      else f.modDi n fun d => { d with run := d.run + 1 }
    else if d.cand = level then f.modDi n fun d => { d with run := d.run + 1 }
    else f.modDi n fun d => { d with cand := level, run := 1 }
  else f

/-- The end of a 100 ms interval (R176): CHATTER sets where the count reached the limit, and reads 1 until an interval stays
below it. -/
def Field.diInterval (n : Nat) (f : Field) : Field :=
  if f.diActive n then
    let lim := f.c (F.TERM_DI_EDGE_CHAT_LIM n)
    let d := (f.term n).di
    let hit := d.mark || (lim != 0 && decide (lim ≤ d.iv))
    let f := (f.modDi n fun d => { d with iv := 0, mark := false }).putb (F.TERM_DISTAT_CHATTER n) hit
    if hit then f.evt (R.pageTERM n) 6 (inj := d.mark) else f
  else f

/-- Is the state in force one that STUCK_POL watches (R177)? -/
def Field.diWatched (n : Nat) (f : Field) : Bool :=
  f.gb (F.TERM_DISTAT_VALID n) &&
    (match f.c (F.TERM_DI_EDGE_STUCK_POL n) with
     | 0 => f.gb (F.TERM_DISTAT_STATE n)
     | 1 => !f.gb (F.TERM_DISTAT_STATE n)
     | _ => true)

/-- A watched state has lasted STUCK_T (R177): STUCK sets, and source DI raises an event. -/
def Field.diStuck (n : Nat) (inj : Bool) (f : Field) : Field :=
  if f.diActive n && f.c (F.TERM_DI_STUCK_STUCK_T n) != 0 && f.diWatched n && !f.gb (F.TERM_DISTAT_STUCK n) then
    ((f.put (F.TERM_DISTAT_STUCK n) 1).evt (R.pageTERM n) 7 (inj := inj)).fault 44 false n inj
  else f

/-- DI_CLR.CNT (R179): an edge counted at the same tick counts after the clear. -/
def Field.diClearCount (n : Nat) (f : Field) : Field :=
  if f.func n = 1 then
    let edge := (f.term n).di.edgeAt == some f.time
    let f := (f.put (F.TERM_DI_CNT_CNT n) (b2n edge)).put (F.TERM_DI_CNT_WRAPS_WRAPS n) 0
    if edge then f else f.put (F.TERM_DI_CNT_LAST_T_LAST_T n) 0
  else f

/-- DI_CLR.CHAT (R179). -/
def Field.diClearChat (n : Nat) (f : Field) : Field := if f.func n = 1 then f.put (F.TERM_DI_CHAT_COUNT n) 0 else f

/-- INJECT bits [8:6] of a digital input (R183). -/
def Field.diInject (n : Nat) (w : Word) (f : Field) : Field :=
  if f.diActive n then
    let f := f.when (wbit w 6) (Field.modDi n fun d => { d with mark := true })
    let f := f.when (wbit w 7) (Field.diStuck n true)
    f.when (wbit w 8) (Field.put (F.TERM_DI_CNT_CNT n) 0xFFFFFFF0)
  else f

/-- DI_SAMPLE (R173): terminal and its voltage in mV. -/
def execDiSample (n : Terminal) (mv : Int) (s : State) : Host.Outcome State Fault Refusal :=
  runField (Field.diSample n mv) s

/-- DI_STATE_CHANGE (R175). -/
def execDiStateChange (n : Terminal) (s : State) : Host.Outcome State Fault Refusal :=
  runField (fun f => f.when (f.diDue n) (Field.diChange n)) s

/-- CHATTER_INTERVAL_END (R176). -/
def execChatterIntervalEnd (n : Terminal) (s : State) : Host.Outcome State Fault Refusal :=
  runField (Field.diInterval n) s

/-- DI_STUCK_EXPIRY (R177). -/
def execDiStuckExpiry (n : Terminal) (s : State) : Host.Outcome State Fault Refusal :=
  runField (Field.diStuck n false) s

end Sys2Proof.Machine
end

