-- ==== Sys2Proof/Machine/Cell.lean ====
section
/-! DEFINITION. The terminal cell (chapter 04): functions, the cell gate and the shunt. -/

namespace Sys2Proof.Machine

open Sys2Proof

/-- What R217 does to an output whose function takes effect while LOW holds on its group: it takes its safe state, is shed where its
priority's turn has come, or keeps the level it then has, OFF. -/
def Field.startsLow (n : Nat) (f : Field) : Field :=
  let g := n / 8
  let p := f.c (F.TERM_SS_CFG_SHED_PRIO n)
  let at_ := (f.group g).shedAt
  if !f.gb (F.FSUP_GRP_STAT_LOW g) then f
  else match f.c (F.FSUP_GRP_POL_POLICY g) with
    | 2 => f.put (F.TERM_SS_STAT_SUPPLY n) 1
    | 1 => if at_ ≠ 0 ∧ at_ ≤ p then (f.put (F.TERM_SS_STAT_SHED n) 1).evt (R.pageTERM n) 30 else f.modSs n fun s => { s with kept := true }
    | _ => f.modSs n fun s => { s with kept := true }

/-- A function takes effect on a cell: its run state starts from reset (R62, R63), and an output comes up held where the mode, barrier
silence, SS_FORCE or the group's LOW holds outputs, off where its group is below UV (R27, R217, R218, R220, R222). A switch with five
segments or fewer stays held off (R199). -/
def Field.takeFunc (n fn : Nat) (f : Field) : Field :=
  let off := f.gb (F.TERM_SS_STAT_UV n)
  let f := f.setTerm n { ({} : TermRun) with catch_ := (f.term n).catch_, ss := { ({} : SsRun) with stay := (f.term n).ss.stay } }
  let f := f.modDi n fun d => { d with time := f.cfg.word (R.TERM_DI_TIME n) }
  let f := f.forget fun a => (R.TERM_DI_CFG n ≤ a && a < R.TERM_SS_CFG n && a != R.TERM_DO_SEG n) || a == R.TERM_SS_STAT n
  let f := f.put (F.TERM_CELLSTAT_SHUNT_OPEN n) 0
  let f := f.putb (F.TERM_SS_STAT_MODE n) (isOut fn && f.mode.holds)
  let f := f.putb (F.TERM_SS_STAT_BARRIER n) (isOut fn && f.gb F.FSUP_BWSTAT_EXPIRED)
  let uv := isOut fn && f.gb (F.FSUP_GRP_STAT_UV (n / 8))
  let f := (f.putb (F.TERM_SS_STAT_UV n) uv).when (uv && !off) fun f => f.evt (R.pageTERM n) 31
  let f := f.putb (F.TERM_SS_STAT_FORCE n) (isOut fn && f.cb (F.TERM_SS_FORCE_FORCE n))
  let f := f.when (isOut fn) fun f => (f.modSs n fun s => { s with release := f.gb F.FSUP_BWSTAT_RELEASE }).startsLow n
  let f := f.when (isDo fn) fun f => f.putb (F.TERM_DO_STAT_SEG_FAIL n) (decide ((nbits 9 (f.g (F.TERM_DO_SEG_IN_SERVICE n))).length ≤ 5))
  let f := f.when (isAo fn) (Field.put (F.TERM_AO_RAIL_SOURCE n) 3)
  ((((f.put (F.TERM_CELLSTAT_FUNC_ACT n) fn).settle n).showGroup n).showShedding (n / 8)).blankLine

/-- The cell has stayed in OFF for 1 ms and its new function takes effect (R63). -/
def Field.funcSettle (n : Nat) (f : Field) : Field :=
  match (f.term n).next with
  | some fn => (f.takeFunc n fn).evt (R.pageTERM n) 2
  | none => f

/-- A function change begins (R63): the old function is shut down and the cell stays in OFF. -/
def Field.funcChange (n fn : Nat) (f : Field) : Field :=
  (f.takeFunc n 0).modTerm n fun t => { t with next := some fn }

/-- Is the cell gate closed (R62, R75)? -/
def Field.gateClosed (n : Nat) (f : Field) : Bool :=
  let fn := f.func n
  !f.cutOff n && (fn == 3 || fn == 4 || fn == 7 || f.inputsOf n != 0)

/-- The terminal voltage passes ±14 V (R75): every connection of the terminal breaks, and contexts that sense it carry OVR. -/
def Field.overvoltage (n : Nat) (inj : Bool) (f : Field) : Field :=
  if f.gateClosed n then
    let hit := allCtxs.filter fun c => f.senses (f.setOf c) n && (f.ctxSlice c).isSome
    let f := ((f.put (F.TERM_CELLSTAT_GATE_OPEN n) 1).evt (R.pageTERM n) 0 (inj := inj)).fault 47 false n inj
    f.each hit fun c f => f.flag c 5
  else f

/-- The gate recloses (R75): contexts that use the terminal resettle as after an excitation change. -/
def Field.gateReclose (n : Nat) (f : Field) : Field :=
  if f.gb (F.TERM_CELLSTAT_GATE_OPEN n) then
    (f.put (F.TERM_CELLSTAT_GATE_OPEN n) 0).each (allCtxs.filter fun c => f.usesTerm c n) Field.disturbCtx
  else f

/-- The shunt opens (R65): the Loft records the first opening and every tenth thereafter. -/
def Field.shuntOpen (n : Nat) (inj : Bool) (f : Field) : Field :=
  if f.func n == 4 && !f.gb (F.TERM_CELLSTAT_SHUNT_OPEN n) then
    let k := (f.term n).shunts
    let f := ((f.put (F.TERM_CELLSTAT_SHUNT_OPEN n) 1).tellPartner n).modTerm n fun t => { t with shunts := k + 1 }
    (f.evt (R.pageTERM n) 1 (inj := inj) (quiet := decide (k % 10 ≠ 0))).fault 47 false n inj
  else f

/-- The shunt recloses (R65). -/
def Field.shuntReclose (n : Nat) (f : Field) : Field :=
  let x := F.TERM_CELLSTAT_SHUNT_OPEN n
  if f.gb x then (f.put x 0).tellPartner n else f

/-- INJECT bits [1:0] of a TERM page (R77). -/
def Field.cellInject (n : Nat) (w : Word) (f : Field) : Field :=
  (f.when (wbit w 0) (Field.overvoltage n true)).when (wbit w 1) (Field.shuntOpen n true)

/-- FUNC_CHANGE_SETTLE (R63). -/
def execFuncChangeSettle (n : Terminal) (s : State) : Host.Outcome State Fault Refusal := runField (Field.funcSettle n) s

/-- TERMINAL_OVERVOLTAGE (R75). -/
def execTerminalOvervoltage (n : Terminal) (s : State) : Host.Outcome State Fault Refusal := runField (Field.overvoltage n false) s

/-- GATE_RECLOSE (R75). -/
def execGateReclose (n : Terminal) (s : State) : Host.Outcome State Fault Refusal := runField (Field.gateReclose n) s

/-- SHUNT_OVERCURRENT (R65). -/
def execShuntOvercurrent (n : Terminal) (s : State) : Host.Outcome State Fault Refusal := runField (Field.shuntOpen n false) s

/-- SHUNT_RECLOSE (R65). -/
def execShuntReclose (n : Terminal) (s : State) : Host.Outcome State Fault Refusal :=
  runField (Field.shuntReclose n) s

end Sys2Proof.Machine
end

