-- ==== Sys2Proof/Machine/DigOut.lean ====
section
/-! DEFINITION. Switched outputs (chapter 11): protection, retries, diagnosis, off-pulse tests and segment wear. -/

namespace Sys2Proof.Machine

open Sys2Proof

/-- Source DO (45) raises a MILD event (R201). -/
def Field.doFault (n : Nat) (f : Field) (inj : Bool := false) : Field := f.fault 45 false n inj

/-- A flag of DO_STAT sets with its EVT_RAW cause and the event of source DO; a flag already set sets the cause again only
where a new occurrence came. -/
def Field.doFlag (n : Nat) (x : Fld) (bit : Nat) (inj : Bool) (f : Field) : Field :=
  ((f.put x 1).evt (R.pageTERM n) bit (inj := inj)).doFault n inj

/-- May another attempt follow (R189, R190)? 0 means none, 15 without limit. -/
def attemptsLeft (limit made : Nat) : Bool := limit == 15 || decide (made < limit)

/-- REVERSE_DETECTED (R185). -/
def Field.reverse (n : Nat) (inj : Bool) (f : Field) : Field :=
  if isDo (f.func n) && f.gb (F.TERM_DO_STAT_ON n) then (f.doFlag n (F.TERM_DO_STAT_REVERSE n) 17 inj).settle n else f

/-- REVERSE_CLEARED (R185). -/
def Field.reverseEnd (n : Nat) (f : Field) : Field :=
  if f.gb (F.TERM_DO_STAT_REVERSE n) then (f.put (F.TERM_DO_STAT_REVERSE n) 0).settle n else f

/-- Attempts are used up: LATCHED sets (R189). -/
def Field.latch (n : Nat) (inj : Bool) (f : Field) : Field := f.doFlag n (F.TERM_DO_STAT_LATCHED n) 19 inj

/-- The fold-back time ends (R188, R189): the switch turns off, and a further overload without attempts left latches. -/
def Field.overload (n : Nat) (inj : Bool) (f : Field) : Field :=
  let d := (f.term n).dout
  let f := (f.doFlag n (F.TERM_DO_STAT_OVERLOAD n) 13 inj).bump (F.TERM_DO_COUNT_OVERLOADS n)
  let f := f.modDout n fun d => { d with ovl := true, fold := false }
  let f := f.when (!attemptsLeft (f.c (F.TERM_DO_PROT_RETRY_N n)) d.tries) (Field.latch n inj)
  f.settle n

/-- FOLDBACK_EXPIRY (R188): on an output that is on with its timer running, or whose timer a thermal trip cut off at this very tick
(R190); INJECT needs no running timer (R201). -/
def Field.foldback (n : Nat) (inj : Bool) (f : Field) : Field :=
  let d := (f.term n).dout
  let now := f.gb (F.TERM_DO_STAT_ON n) && (d.fold || inj)
  if isDo (f.func n) && (now || d.cut == some f.time) then (f.modDout n fun d => { d with cut := none }).overload n inj else f

/-- OVERLOAD_RETRY (R189). -/
def Field.overloadRetry (n : Nat) (f : Field) : Field :=
  let t := f.term n
  if isDo (f.func n) && t.dout.ovl && !f.gb (F.TERM_DO_STAT_LATCHED n) && t.want.isSome then
    (f.modDout n fun d => { d with ovl := false, tries := d.tries + 1 }).settle n
  else f

/-- THERMAL_TRIP (R190). -/
def Field.thermalTrip (n : Nat) (inj : Bool) (f : Field) : Field :=
  let t := f.term n
  if isDo (f.func n) && t.want.isSome && !t.dout.thm then
    let f := (f.doFlag n (F.TERM_DO_STAT_THERMAL n) 14 inj).bump (F.TERM_DO_COUNT_THERMALS n)
    let f := f.modDout n fun d => { d with thm := true, hot := true, cut := if d.fold then some f.time else none }
    let f := f.when (!attemptsLeft (f.c (F.TERM_DO_PROT_THERM_N n)) t.dout.thermTries) (Field.latch n inj)
    f.settle n
  else f

/-- CHANNEL_COOLED (R190): THERMAL clears whether or not a retry follows. -/
def Field.cooled (n : Nat) (f : Field) : Field :=
  if isDo (f.func n) && (f.term n).dout.hot then
    (f.modDout n fun d => { d with hot := false }).put (F.TERM_DO_STAT_THERMAL n) 0
  else f

/-- THERMAL_RETRY (R190): it implies that the channel has cooled. -/
def Field.thermalRetry (n : Nat) (f : Field) : Field :=
  let t := f.term n
  if isDo (f.func n) && t.dout.thm && !f.gb (F.TERM_DO_STAT_LATCHED n) && t.want.isSome then
    ((f.cooled n).modDout n fun d => { d with thm := false, thermTries := d.thermTries + 1 }).settle n
  else f

/-- CURRENT_LIMIT_REGULATION (R188). -/
def Field.limitRegulation (n : Nat) (e : LimitEvent) (inj : Bool) (f : Field) : Field :=
  if isDo (f.func n) then
    match e with
    | .atLimit =>
      if f.gb (F.TERM_DO_STAT_ON n) then
        ((f.put (F.TERM_DO_STAT_LIMIT n) 1).evt (R.pageTERM n) 12 (inj := inj)).modDout n fun d => { d with fold := true }
      else f
    | .over550 => if f.gb (F.TERM_DO_STAT_ON n) then f.modDout n fun d => { d with fold := true } else f
    | .limitEnded => f.put (F.TERM_DO_STAT_LIMIT n) 0
    | .bothEnded => (f.put (F.TERM_DO_STAT_LIMIT n) 0).modDout n fun d => { d with fold := false }
  else f

/-- An OVERLOAD flag clears once the switch has been on for FOLD_T without the timer expiring (R189). -/
def Field.overloadClears (n : Nat) (f : Field) : Field :=
  if isDo (f.func n) && f.gb (F.TERM_DO_STAT_OVERLOAD n) && f.gb (F.TERM_DO_STAT_ON n) &&
      decide ((f.term n).dout.onAt + f.c (F.TERM_DO_PROT_FOLD_T n) * doTicksMs < f.time) then
    f.put (F.TERM_DO_STAT_OVERLOAD n) 0
  else f

/-- The terminals on which a result is shown: both of a tie (R196). -/
def Field.tieSet (n : Nat) (f : Field) : List Nat :=
  match f.tied n with
  | some m => [n, m]
  | none => [n]

/-- Show the off-state judgement on one terminal (R192): OPEN_WIRE sets and clears once a band has held for 20 ms, BACKFEED after 1 ms. -/
def Field.showBand (b : BandReport) (n : Nat) (f : Field) : Field :=
  let d := (f.term n).dout
  let ow := b.long && b.band == 1 && f.cb (F.TERM_DO_DIAG_OW_EN n)
  let newOw := ow && !f.gb (F.TERM_DO_STAT_OPEN_WIRE n)
  let newBf := b.band == 2 && !f.gb (F.TERM_DO_STAT_BACKFEED n)
  let f := f.when b.long (Field.putb (F.TERM_DO_STAT_OPEN_WIRE n) (ow || d.owImin))
  let f := f.putb (F.TERM_DO_STAT_BACKFEED n) (b.band == 2 || d.bfPulse)
  let f := f.when newOw fun f => (f.evt (R.pageTERM n) 15).doFault n
  f.when newBf fun f => (f.evt (R.pageTERM n) 16).doFault n

/-- OFF_STATE_BAND_HELD (R192): judged while the switch is off and not clamping; a follower in catch judges only while its
mirrored command is off, and so does the lead of a pair (R197). -/
def Field.bandHeld (n : Nat) (b : BandReport) (f : Field) : Field :=
  let t := f.term n
  let shared := (f.paired && f.lead) || t.catch_ != .none || f.mode == .follow
  if isDo (f.func n) && !f.gb (F.TERM_DO_STAT_ON n) && !f.gb (F.TERM_DO_STAT_CLAMP n) && !f.gb (F.TERM_DO_STAT_TESTING n) &&
      (!shared || (f.commanded n).isNone) then
    f.each (f.tieSet n) (Field.showBand b)
  else f

/-- IMIN_LOW (R193): not judged by a follower in catch (R197). -/
def Field.iminLow (n : Nat) (low : Bool) (f : Field) : Field :=
  if isDo (f.func n) && f.gb (F.TERM_DO_STAT_ON n) && f.c (F.TERM_DO_DIAG_IMIN n) != 0 && (f.term n).catch_ == .none then
    let new := low && !f.gb (F.TERM_DO_STAT_OPEN_WIRE n)
    let f := (f.modDout n fun d => { d with owImin := low }).putb (F.TERM_DO_STAT_OPEN_WIRE n) low
    f.when new fun f => (f.evt (R.pageTERM n) 15).doFault n
  else f

/-- Is the switch turning on (R187, R195)? -/
def Field.turningOn (n : Nat) (f : Field) : Bool :=
  decide (f.time < (f.term n).dout.onAt + max 245 (min 738 (Config.turnOn n (f.term n).dout.onAt)))

/-- Does R195 hold a due off-pulse back? -/
def Field.pulseBlocked (n : Nat) (f : Field) : Bool :=
  let d := (f.term n).dout
  d.fold || d.ovl || d.thm || f.turningOn n || f.handover || decide (f.time < f.quiet) ||
    ((groupTerms (n / 8)).any fun m => f.gb (F.TERM_DO_STAT_TESTING m)) ||
    (match f.tied n with | some m => !f.gb (F.TERM_DO_STAT_ON m) || (f.term m).dout.fold | none => false)

/-- May the terminal run off-pulses (R194, R197): on, with TP_EN, and not a follower's stage in catch? -/
def Field.pulses (n : Nat) (f : Field) : Bool :=
  isDo (f.func n) && f.cb (F.TERM_DO_DIAG_TP_EN n) && f.gb (F.TERM_DO_STAT_ON n) && (f.term n).catch_ == .none

/-- A pulse starts (R194, R196): both switches of a tie open at once, and the next falls due TP_PERIOD after this start. -/
def Field.pulseStart (n : Nat) (f : Field) : Field :=
  (f.each (f.tieSet n) fun m f => (f.put (F.TERM_DO_STAT_TESTING m) 1).modDout m fun d =>
    { d with pend := false, told := false, due := some (f.time + f.c (F.TERM_DO_DIAG_TP_PERIOD m) * doTicksMs) }).settle n

/-- Has the time of the next off-pulse come (R194)? -/
def Field.pulseTime (n : Nat) (f : Field) : Bool :=
  match (f.term n).dout.due with
  | some t => decide (t ≤ f.time)
  | none => true

/-- OFF_PULSE_DUE (R194, R195, R197): none runs before its time; a pulse that R195 holds back waits; the lead of a pair defers one that its
follower has not acknowledged, for both terminals of a tie, by one TP_PERIOD. -/
def Field.pulseDue (n : Nat) (f : Field) : Field :=
  if !f.pulses n || !f.pulseTime n then f
  else if f.paired && f.lead && !((f.tieSet n).all fun m => (f.term m).dout.masked) then f.modDout n fun d =>
    { d with told := false, due := some (f.time + f.c (F.TERM_DO_DIAG_TP_PERIOD n) * doTicksMs) }
  else if f.pulseBlocked n then f.modDout n fun d => { d with pend := true }
  else f.pulseStart n

/-- Ticks in 100 µs: how long before it falls due the lead announces an off-pulse (R197 asks for 50 µs at least, log 112). -/
def announceTicks : Nat := 2458

/-- What time brings to a switched output at each tick: a pulse held back runs at the first free moment (R195), the lead of a pair announces
the next one (R197), and OVERLOAD clears (R189). -/
def Field.doTick (n : Nat) (f : Field) : Field :=
  if !isDo (f.func n) then f
  else
    let f := f.overloadClears n
    let d := (f.term n).dout
    if !f.pulses n then f
    else if d.pend && !f.pulseBlocked n then f.pulseStart n
    else if f.paired && f.lead && !d.told && (match d.due with | some t => decide (t ≤ f.time + announceTicks) | none => false) then
      f.each (f.tieSet n) fun m f => (f.modDout m fun d => { d with told := true }).tellPartner m
    else f

/-- The result of a pulse on one terminal (R194). -/
def Field.pulseResult (pass inj : Bool) (n : Nat) (f : Field) : Field :=
  let f := (f.put (F.TERM_DO_STAT_TESTING n) 0).modDout n fun d =>
    { d with bfPulse := !pass, failPulse := false, masked := false }
  if pass then (f.bump (F.TERM_DO_TPCOUNT_TESTS n)).put (F.TERM_DO_STAT_BACKFEED n) 0
  else (f.bump (F.TERM_DO_TPCOUNT_FAILS n)).doFlag n (F.TERM_DO_STAT_BACKFEED n) 16 inj

/-- OFF_PULSE_END (R194): `fell`, the terminal fell below 4.0 V in time. The switch turns back on whatever the result. -/
def Field.pulseEnd (n : Nat) (fell : Bool) (f : Field) : Field :=
  if f.gb (F.TERM_DO_STAT_TESTING n) then
    let inj := (f.tieSet n).any fun m => (f.term m).dout.failPulse
    let f := (f.each (f.tieSet n) (Field.pulseResult (fell && !inj) inj)).settle n
    f.each (f.tieSet n) Field.tellPartner
  else f

/-- DO_CLR.UNLATCH (R189): a fresh count of attempts; a latched switch is tried from it, one that waits for a retry goes on waiting. -/
def Field.unlatch (n : Nat) (f : Field) : Field :=
  if !isDo (f.func n) then f
  else if f.gb (F.TERM_DO_STAT_LATCHED n) then (f.freshAttempts n).settle n
  else f.modDout n fun d => { d with tries := 0, thermTries := 0 }

/-- DO_CLR.COUNTS (R201). -/
def Field.doClearCounts (n : Nat) (f : Field) : Field :=
  if isDo (f.func n) then
    (((f.put (F.TERM_DO_COUNT_OVERLOADS n) 0).put (F.TERM_DO_COUNT_THERMALS n) 0).put (F.TERM_DO_TPCOUNT_TESTS n) 0).put
      (F.TERM_DO_TPCOUNT_FAILS n) 0
  else f

/-- OUTHOLD of a terminal (R30): the output stays at its safe state until its command is written again. -/
def Field.setStay (n : Nat) (b : Bool) (f : Field) : Field :=
  (f.modSs n fun s => { s with stay := b }).tell (.put ⟨R.DEVICE_OUTHOLD, n, 1⟩ (b2n b))

/-- What a takeover has kept off (R343) follows R25 again. -/
def Field.endHold (n : Nat) (f : Field) : Field :=
  if (f.term n).catch_ = .idle then f.modTerm n fun t => { t with catch_ := .none } else f

/-- A host command reaches the field die (R186, R202): OUTHOLD and a takeover's hold (R343) end, and a command from off to on starts a fresh count of
attempts (R189). `was`: the commanded value before. -/
def Field.outputCommand (n : Nat) (was : Bool) (f : Field) : Field :=
  let f := f.when (f.term n).ss.stay (Field.setStay n false)
  let f := f.when (f.mode != .follow) fun f => f.each (f.tieSet n) Field.endHold
  let f := f.when (isDo (f.func n) && !was && f.cb (F.TERM_DO_CMD_ON n)) fun f => f.each (f.tieSet n) Field.freshAttempts
  f.settleHost n

/-- The number of set bits of a segment map. -/
def segCount (m : Nat) : Nat := (nbits 9 m).length

/-- A segment retires (R199): a segment that is neither in service nor retired takes its place first; a spare that retires
takes none. Seven or six in service are MILD, five or fewer hold the switch off. `cause` is LARDER.LAST's. -/
def Field.retireSegment (n k cause : Nat) (inj : Bool) (f : Field) : Field :=
  let on := f.g (F.TERM_DO_SEG_IN_SERVICE n)
  let gone := f.g (F.TERM_DO_SEG_RETIRED n)
  if nbit gone k then f
  else
    let works := nbit on k
    let spare := if works then (List.range 9).find? fun j => !nbit on j && !nbit gone j else none
    let on := nclr (match spare with
      | some j => nset on j
      | none => on) k
    let f := match spare with
      | some j => f.tell (.spareIn 4 (9 * n + j))
      | none => f
    let f := ((f.put (F.TERM_DO_SEG_IN_SERVICE n) on).put (F.TERM_DO_SEG_RETIRED n) (nset gone k)).evt (R.pageTERM n) 18 k inj
    let f := (f.tell (.retire 4 (9 * n + k) cause (!works) inj)).tell (.segments n on)
    let f := f.putb (F.STATUS_SPARED (R.pageTERM n)) (nbit on 8)
    let left := segCount on
    let f := f.when (works && decide (left < 8)) fun f => f.fault 45 (decide (left ≤ 5)) n inj
    (f.putb (F.TERM_DO_STAT_SEG_FAIL n) (decide (left ≤ 5))).settle n

/-- A segment worn by its ratio retires, unless the Larder's veto defers that (R392, R396). -/
def Field.wearSegment (n k : Nat) (f : Field) : Field :=
  if nbit f.veto 4 then
    if f.deferred.contains (4, 9 * n + k) then f
    else { f with deferred := f.deferred ++ [(4, 9 * n + k)] }.tell (.defer 4 (9 * n + k) true)
  else f.retireSegment n k 1 false

/-- Count one segment's measurement. -/
def Field.countSegment (n : Nat) (r : SegReading) (f : Field) : Field :=
  f.modDout n fun d =>
    let c := if 1536 < r.ratio then tget (fun _ => 0) d.over15 r.seg + 1 else 0
    { d with over15 := tput (fun _ => 0) d.over15 r.seg c, ratios := tput (fun _ => 0) d.ratios r.seg r.ratio }

/-- The worst ratio among the segments in service (R198). -/
def Field.worstRatio (n : Nat) (f : Field) : Nat :=
  (nbits 9 (f.g (F.TERM_DO_SEG_IN_SERVICE n))).foldl (fun a k => max a (tget (fun _ => 1024) (f.term n).dout.ratios k)) 0

/-- The segment in service with the highest ratio (R201); of equals the lowest. -/
def Field.worstSegment (n : Nat) (f : Field) : Option Nat :=
  (nbits 9 (f.g (F.TERM_DO_SEG_IN_SERVICE n))).find? fun k => tget (fun _ => 1024) (f.term n).dout.ratios k == f.worstRatio n

/-- SEGMENT_MEASUREMENT (R198, R199): while the switch conducts at least 100 mA outside its limit; after turn-off the mirrors
alone are judged. Each case that retires a segment is judged on its own, in ascending segment (R394). The segments' WEAR follows (R57, R397). -/
def Field.segments (n : Nat) (rs : List SegReading) (ron : Nat) (f : Field) : Field :=
  let on := f.gb (F.TERM_DO_STAT_ON n)
  let usable := isDo (f.func n) && f.diagRuns
  let measured := usable && on && !f.gb (F.TERM_DO_STAT_LIMIT n) && decide (100 ≤ f.g (F.TERM_DO_MEAS_CURRENT n))
  let rs := rs.filter fun r => nbit (f.g (F.TERM_DO_SEG_IN_SERVICE n)) r.seg
  let f := f.when measured fun f =>
    let f := rs.foldl (fun f r => f.countSegment n r) f
    let worst := min 65535 (f.worstRatio n)
    let f := (f.when (f.g (F.TERM_DO_RON_WORST n) != worst) (Field.tell (.gen R.pageLARDER))).put (F.TERM_DO_RON_RON n) ron |>.put
      (F.TERM_DO_RON_WORST n) worst
    let f := f.each ((rs.filter (·.lowShare)).map (·.seg.val)) fun k f => f.retireSegment n k 2 false
    let worn := (List.range 9).filter fun k => decide (3 ≤ tget (fun _ => 0) (f.term n).dout.over15 k) &&
      nbit (f.g (F.TERM_DO_SEG_IN_SERVICE n)) k
    let f := f.each worn (Field.wearSegment n)
    if (f.term n).dout.retireNext then
      let f := f.modDout n fun d => { d with retireNext := false }
      match f.worstSegment n with
      | some k => f.retireSegment n k 2 true
      | none => f
    else f
  f.when (usable && !on) fun f => f.each ((rs.filter (·.leaks)).map (·.seg.val)) fun k f => f.retireSegment n k 2 false

/-- INJECT bits [18:12] of a switched output (R201). -/
def Field.doInject (n : Nat) (w : Word) (f : Field) : Field :=
  if isDo (f.func n) then
    let f := f.when (wbit w 12) fun f => ((f.put (F.TERM_DO_STAT_LIMIT n) 1).evt (R.pageTERM n) 12 (inj := true)).modDout n fun d =>
      { d with fold := d.fold || f.gb (F.TERM_DO_STAT_ON n) }
    let f := f.when (wbit w 13) (Field.foldback n true)
    let f := f.when (wbit w 14) (Field.thermalTrip n true)
    let f := f.when (wbit w 15) fun f =>
      f.doFlag n (F.TERM_DO_STAT_OPEN_WIRE n) 15 true
    let f := f.when (wbit w 16) (Field.modDout n fun d => { d with failPulse := true })
    let f := f.when (wbit w 17) fun f => (f.doFlag n (F.TERM_DO_STAT_REVERSE n) 17 true).settle n
    f.when (wbit w 18) (Field.modDout n fun d => { d with retireNext := true })
  else f

/-- SEGMENT_MEASUREMENT (R198). -/
def execSegmentMeasurement (n : Terminal) (rs : List SegReading) (ron : Fin 65536) (s : State) : Host.Outcome State Fault Refusal :=
  runField (Field.segments n rs ron) s

/-- REVERSE_DETECTED (R185). -/
def execReverseDetected (n : Terminal) (s : State) : Host.Outcome State Fault Refusal := runField (Field.reverse n false) s

/-- REVERSE_CLEARED (R185). -/
def execReverseCleared (n : Terminal) (s : State) : Host.Outcome State Fault Refusal := runField (Field.reverseEnd n) s

/-- FOLDBACK_EXPIRY (R188). -/
def execFoldbackExpiry (n : Terminal) (s : State) : Host.Outcome State Fault Refusal := runField (Field.foldback n false) s

/-- OVERLOAD_RETRY (R189). -/
def execOverloadRetry (n : Terminal) (s : State) : Host.Outcome State Fault Refusal := runField (Field.overloadRetry n) s

/-- THERMAL_TRIP (R190). -/
def execThermalTrip (n : Terminal) (s : State) : Host.Outcome State Fault Refusal := runField (Field.thermalTrip n false) s

/-- THERMAL_RETRY (R190). -/
def execThermalRetry (n : Terminal) (s : State) : Host.Outcome State Fault Refusal := runField (Field.thermalRetry n) s

/-- CHANNEL_COOLED (R190). -/
def execChannelCooled (n : Terminal) (s : State) : Host.Outcome State Fault Refusal := runField (Field.cooled n) s

/-- CURRENT_LIMIT_REGULATION (R188). -/
def execCurrentLimitRegulation (n : Terminal) (e : LimitEvent) (s : State) : Host.Outcome State Fault Refusal :=
  runField (Field.limitRegulation n e false) s

/-- OFF_STATE_BAND_HELD (R192). -/
def execOffStateBandHeld (n : Terminal) (band : BandReport) (s : State) : Host.Outcome State Fault Refusal :=
  runField (Field.bandHeld n band) s

/-- IMIN_LOW (R193). -/
def execIminLow (n : Terminal) (low : Bool) (s : State) : Host.Outcome State Fault Refusal := runField (Field.iminLow n low) s

/-- OFF_PULSE_DUE (R194). -/
def execOffPulseDue (n : Terminal) (s : State) : Host.Outcome State Fault Refusal := runField (Field.pulseDue n) s

/-- OFF_PULSE_END (R194). -/
def execOffPulseEnd (n : Terminal) (fell : Bool) (s : State) : Host.Outcome State Fault Refusal :=
  runField (Field.pulseEnd n fell) s

end Sys2Proof.Machine
end

