-- ==== Sys2Proof/Machine/Calib.lean ====
section
/-! DEFINITION. Calibration of one settled sample (R234-R237): the values in force and the order of application, exact until the
one rounding. -/

namespace Sys2Proof.Machine

/-- A value of the factory region by the key of `CalRun.bad`; 0 where the region or its row is unusable (R235). -/
def Field.factory (key : Nat) (v : BitVec 24) (f : Field) : Int :=
  if f.cal.usable && !f.cal.bad.contains key then v.toInt else 0

/-- Range 6 takes the slice values of range 3 (R234). -/
def calRange (r : Nat) : Nat := if r = 6 then 3 else r

/-- Self-calibrated values of a slice and range (R237). -/
def Field.selfCal (s r : Nat) (f : Field) : SelfCal := tget (fun _ => {}) f.cal.values (8 * s + calRange r)

/-- F_OFS in force (R234, R235). -/
def Field.fOfs (s r : Nat) (f : Field) : Int := f.factory (8 * s + calRange r) (Sys2Proof.Config.fOfs s (calRange r))

/-- F_GAIN in force. -/
def Field.fGain (s r : Nat) (f : Field) : Int := f.factory (8 * s + calRange r) (Sys2Proof.Config.fGain s (calRange r))

/-- F_SHUNT in force. -/
def Field.fShunt (n : Nat) (f : Field) : Int := f.factory (256 + n) (Sys2Proof.Config.fShunt n)

/-- REFCAL in force. -/
def Field.refCal (b : Nat) (f : Field) : Int := f.factory (512 + b) (Sys2Proof.Config.refCal b)

/-- The factor of a divider tap in force (0-4). -/
def Field.fDivider (k : Nat) (f : Field) : Int := f.factory (514 + k) (Sys2Proof.Config.divider k)

/-- A source's factory value in force, applied inside its block. -/
def Field.fSource (k : Nat) (f : Field) : Int := f.factory (519 + k) (Sys2Proof.Config.source k)

/-- The factory resistance of a segment in force, to which R198 compares what it measures. -/
def Field.fSegment (n k : Nat) (f : Field) : Int := f.factory (1024 + 9 * n + k) (Sys2Proof.Config.segment n k)

/-- The slice offset O of R236. -/
def Field.sliceOfs (s r : Nat) (f : Field) : Int := if (f.selfCal s r).valid then (f.selfCal s r).ofs else f.fOfs s r

/-- The slice gain G of R236, as v of 1 + v × 2⁻²⁶. -/
def Field.sliceGain (s r : Nat) (f : Field) : Int := if (f.selfCal s r).valid then (f.selfCal s r).gain else f.fGain s r

/-- Nominal span of a range in µV (R89). -/
def rangeSpan (r : Nat) : Nat := ([20000, 80000, 320000, 1250000, 5000000, 12500000, 1250000][r]?).getD 1

/-- An exact value: numerator over a power of two or another positive denominator. -/
abbrev Exact := Int × Nat

/-- Multiply by 1 + v × 2^(−k). -/
def Exact.gain (k : Nat) (v : Int) (x : Exact) : Exact := (x.1 * (2 ^ k + v), x.2 * 2 ^ k)

/-- Subtract a number of codes `n / d`. -/
def Exact.less (n : Int) (d : Nat) (x : Exact) : Exact := (x.1 * d - n * x.2, x.2 * d)

/-- The range in force of a context (R149). -/
def Field.rangeAct (c : Nat) (f : Field) : Nat := f.g (F.CTX_CTXSTAT_RANGE_ACT c)

/-- The shunt factor of range 6 (R236): in FOLLOW the lead's, whose shunt the follower's context reads (R319); while both shunts
conduct, own × (1 + own shunt ÷ partner's shunt), which is the sum of the two factors (R344). -/
def Field.shuntGain (pos : Nat) (e : Exact) (f : Field) : Exact :=
  let own := f.fShunt pos
  let far := tget (fun _ => 0) f.partnerShunts pos
  if f.bothShunts then (e.1 * (2 ^ 27 + own + far), e.2 * 2 ^ 26)
  else if f.mode = .follow ∧ (f.term pos).catch_ ≠ .engaged then Exact.gain 26 far e
  else Exact.gain 26 own e

/-- Steps 1 and 2 of R236. -/
def Field.calSlice (s r : Nat) (pos : Nat) (x : Int) (f : Field) : Exact :=
  let e := Exact.gain 26 (f.sliceGain s r) (Exact.less (f.sliceOfs s r) 1 (x, 1))
  if r = 6 then f.shuntGain pos e else e

/-- Step 3 of R236, and the scaling of RATIO_EXC by 2.5 V / A (R94), none of it where MON is 0. -/
def Field.calRef (c : Nat) (e : Exact) (f : Field) : Exact :=
  let sel := f.c (F.CTX_CFG_REFSEL c)
  let e := if sel = 0 ∨ sel = 3 then Exact.gain 26 (f.refCal (f.g F.EXC_REF_ACTIVE)) e else e
  let mon := f.g (F.EXC_SINE_MON_MON (f.c (F.CTX_DEMOD_SRC c) - 1))
  if sel = 3 ∧ mon ≠ 0 then (e.1 * 50000, e.2 * mon) else e

/-- Steps 4 and 5 of R236; UCAL_OFS of an autoranging context is in codes of AR_MAX. -/
def Field.calUser (s c r : Nat) (e : Exact) (f : Field) : Exact :=
  let k := 7 * s + r
  let e := Exact.gain 22 (signed 16 (f.c (F.CAL_U_GAIN k))) (Exact.less (signed 16 (f.c (F.CAL_U_OFS k))) 1 e)
  let ofs := signed 24 (f.c (F.CTX_UCAL_OFS_OFS c))
  let e := if f.cb (F.CTX_AR_EN c) then Exact.less (ofs * rangeSpan (f.c (F.CTX_AR_AR_MAX c))) (rangeSpan r) e else Exact.less ofs 1 e
  Exact.gain 26 (signed 24 (f.c (F.CTX_UCAL_GAIN_GAIN c))) e

/-- A settled sample of context `c` on slice `s`, calibrated, in codes of the range in force, exact (R236). -/
def Field.calExact (s c : Nat) (x : Int) (f : Field) : Exact :=
  let r := f.rangeAct c
  f.calUser s c r (f.calRef c (f.calSlice s r (f.c (F.XPT_SET_A_POS (f.setOf c))) x))

/-- The code it reaches the accumulator with: one rounding, in codes of AR_MAX for an autoranging context (R150), and the
clamp of R124. -/
def Field.calCode (c : Nat) (e : Exact) (f : Field) : Int :=
  if f.cb (F.CTX_AR_EN c) then
    clamp24 (roundAway (e.1 * rangeSpan (f.rangeAct c)) (e.2 * rangeSpan (f.c (F.CTX_AR_AR_MAX c))))
  else clamp24 (roundAway e.1 e.2)

/-- Has RATIO_EXC no measured amplitude to scale by (R94): the specification states no result. -/
def Field.noRatio (c : Nat) (f : Field) : Bool :=
  f.c (F.CTX_CFG_REFSEL c) == 3 && f.g (F.EXC_SINE_MON_MON (f.c (F.CTX_DEMOD_SRC c) - 1)) == 0

/-- The divider tap of step 3 of R237 for ranges 0-5, as a power of ¼. -/
def gainTap (r : Nat) : Nat := ([4, 3, 2, 1, 0, 0][r]?).getD 0

/-- S_GAIN of R237: 2 × expected ÷ (reading₊ − reading₋), as v of 1 + v × 2⁻²⁶ in 24 bits, expected being the tap's ratio × 2.5 V in
codes; none where the readings do not differ, for then there is no quotient. -/
def Field.foundGain (r : Nat) (plus minus : Int) (f : Field) : Option Int :=
  let d := plus - minus
  if d ≤ 0 then none
  else
    let num := 2 * 2500000 * 7340032 * (2 ^ 26 + f.fDivider (gainTap r))
    let den := d * (rangeSpan r * 4 ^ gainTap r : Nat)
    some (satS 24 (roundAway (num - den * 2 ^ 26) den.toNat))

/-- Codes of the test DAC in step 4 of R237. -/
def pathCode (r : Nat) : Int := ([8, 32, 128, 800, 1600, 2000][r]?).getD 0

/-- Does a reading of step 4, calibrated under steps 1 and 2 of R236 with the values found, lie within 0.05 % of span + 100 µV of the DAC's
value (R237)? -/
def pathOk (r : Nat) (ofs gain code x : Int) : Bool :=
  let e := Exact.gain 26 gain (Exact.less ofs 1 (x, 1))
  decide ((e.1 * rangeSpan r - code * 1250 * 7340032 * e.2).natAbs * 1000 ≤ (rangeSpan r + 100000) * 7340032 * e.2)

end Sys2Proof.Machine
end

