-- ==== Sys2Proof/Machine/Supply.lean ====
section
/-! DEFINITION. Supply monitors, sag policies and release, the barrier watchdog, host forces, the modes' hold on outputs, and
the current and heat budget (chapter 13). -/

namespace Sys2Proof.Machine

open Sys2Proof

/-- The flag of FSUP.GRP[g].STAT: 0 WARN, 1 LOW, 2 UV (R216). -/
def supplyFlag (g k : Nat) : Fld :=
  match k with
  | 0 => F.FSUP_GRP_STAT_WARN g
  | 1 => F.FSUP_GRP_STAT_LOW g
  | _ => F.FSUP_GRP_STAT_UV g

/-- Is an output held off by R217 or R218? -/
def Field.heldOff (n : Nat) (f : Field) : Bool :=
  f.gb (F.TERM_SS_STAT_SHED n) || f.gb (F.TERM_SS_STAT_SUPPLY n) || f.gb (F.TERM_SS_STAT_UV n)

/-- An output is shed (R217); one that is shed already stays so. -/
def Field.shed (n : Nat) (f : Field) : Field :=
  if f.gb (F.TERM_SS_STAT_SHED n) then f
  else ((f.put (F.TERM_SS_STAT_SHED n) 1).modSs n fun s => { s with kept := false }).evt (R.pageTERM n) 30

/-- The highest shed priority of the group below a bound; 0 where there is none. -/
def Field.nextPrio (g bound : Nat) (f : Field) : Nat :=
  (f.groupOuts g).foldl (fun b n =>
    let p := f.c (F.TERM_SS_CFG_SHED_PRIO n)
    if p < bound then max b p else b) 0

/-- Shed every output of the group whose priority is the highest below a bound (R217). -/
def Field.shedBelow (g bound : Nat) (f : Field) : Field :=
  let p := f.nextPrio g bound
  if p = 0 then f
  else
    let f := f.modGroup g fun r => { r with shedAt := p }
    f.each ((f.groupOuts g).filter fun n => f.c (F.TERM_SS_CFG_SHED_PRIO n) == p) Field.shed

/-- LOW sets (R217): outputs keep the level they have, and the policy sheds or makes safe. -/
def Field.lowSets (g : Nat) (f : Field) : Field :=
  let f := f.bump ⟨R.FSUP_LOWCOUNT, 8 * g, 8⟩
  let f := f.modGroup g fun r => { r with queue := [], uvOnly := false, shedAt := 0 }
  let f := f.put (F.FSUP_GRP_STAT_RECOVERING g) 0
  let f := f.each ((f.groupOuts g).filter fun n => !f.heldOff n && !(f.term n).ss.kept) fun n f =>
    f.modTerm n fun t => { t with ss := { t.ss with kept := true, keptLevel := t.want } }
  let f := match f.c (F.FSUP_GRP_POL_POLICY g) with
    | 1 => f.shedBelow g 16
    | 2 => f.each (f.groupOuts g) fun n f =>
        (f.put (F.TERM_SS_STAT_SUPPLY n) 1).modSs n fun s => { s with kept := false }
    | _ => f
  (f.each (f.groupOuts g) Field.settle).showShedding g

/-- UV sets (R218): every output of the group goes off and the step supply stops. No stage of the group stays armed (R339). -/
def Field.uvSets (g : Nat) (f : Field) : Field :=
  let f := f.each ((groupTerms g).filter fun n => (f.term n).catch_ == .armed) fun n f => f.modTerm n fun t => { t with catch_ := .idle }
  let f := f.modGroup g fun r => { r with queue := [], uvOnly := false }
  let f := f.put (F.FSUP_GRP_STAT_RECOVERING g) 0
  let f := f.when f.handover (Field.tell (.abort 3))
  let f := f.each (f.groupOuts g) fun n f => (f.put (F.TERM_SS_STAT_UV n) 1).evt (R.pageTERM n) 31
  let f := f.modStep g fun s => { s with low := 0, high := 0, lowAt := 0, highAt := 0, lowMoving := false, highMoving := false, plan := none }
  (f.each (f.groupOuts g) Field.settle).each (groupTerms g) Field.showGroup

/-- SUPPLY_FLAG_SET (R216). -/
def Field.flagSets (g k : Nat) (inj : Bool) (f : Field) : Field :=
  if f.gb (supplyFlag g k) then f
  else
    let f := ((f.put (supplyFlag g k) 1).evt R.pageFSUP (4 * k + g) (inj := inj)).fault (40 + k) false g inj
    match k with
    | 0 => f
    | 1 => f.lowSets g
    | _ => f.uvSets g

/-- Does the action R25 would give an output raise its level (R219)? -/
def raises (now next : Option Nat) : Bool :=
  match now, next with
  | _, none => false
  | none, some _ => true
  | some a, some b => decide (a < b)

/-- Insert a terminal in the order of release: SHED_PRIO ascending, then number (R219). -/
def insertPrio (x : Nat × Nat) : List (Nat × Nat) → List (Nat × Nat)
  | [] => [x]
  | y :: t => if x.1 < y.1 ∨ (x.1 = y.1 ∧ x.2 < y.2) then x :: y :: t else y :: insertPrio x t

/-- Terminals in the order of release. -/
def Field.releaseOrder (l : List Nat) (f : Field) : List Nat :=
  (l.foldl (fun t n => insertPrio (f.c (F.TERM_SS_CFG_SHED_PRIO n), n) t) []).map (·.2)

/-- One output is released (R219). In a release after UV under policy SAFE only the below-UV switch-off ends. -/
def Field.releaseOne (g n : Nat) (f : Field) : Field :=
  if (f.group g).uvOnly then (f.put (F.TERM_SS_STAT_UV n) 0).settle n
  else
    let held := f.heldOff n
    let f := ((f.put (F.TERM_SS_STAT_SHED n) 0).put (F.TERM_SS_STAT_SUPPLY n) 0).put (F.TERM_SS_STAT_UV n) 0
    let f := f.modSs n fun s => { s with kept := false }
    let f := f.when (held && !f.cb (F.FSUP_GRP_POL_RESTORE g)) (Field.setStay n true)
    f.settle n

/-- The release ends (R219) when no output waits. -/
def Field.releaseEnds (g : Nat) (f : Field) : Field :=
  if (f.group g).queue = [] ∧ !(f.group g).uvOnly then
    ((f.put (F.FSUP_GRP_STAT_RECOVERING g) 0).evt R.pageFSUP (12 + g)).showShedding g
  else if (f.group g).queue = [] then
    (f.modGroup g fun r => { r with uvOnly := false }).put (F.FSUP_GRP_STAT_RECOVERING g) 0
  else f

/-- Release the first outputs of the queue. -/
def Field.releaseSome (g k : Nat) (f : Field) : Field :=
  let q := (f.group g).queue
  let f := f.modGroup g fun r => { r with queue := q.drop k }
  ((f.each (q.take k) (Field.releaseOne g)).releaseEnds g).showShedding g

/-- Release begins at the clearing tick with the first output, or with all of them where STAGGER is 0 (R219). -/
def Field.releaseBegins (g : Nat) (l : List Nat) (uvOnly : Bool) (f : Field) : Field :=
  let q := f.releaseOrder l
  let f := (f.modGroup g fun r => { r with queue := q, uvOnly := uvOnly }).put (F.FSUP_GRP_STAT_RECOVERING g) 1
  f.releaseSome g (if f.c (F.FSUP_GRP_POL_STAGGER g) = 0 then 8 else 1)

/-- A terminal and the one tied to it without their supply hold. -/
def Field.unkept (n : Nat) (f : Field) : Field := f.each (f.tieSet n) fun m f => f.modSs m fun s => { s with kept := false }

/-- LOW has cleared and UV does not hold (R219): supply holds end, those whose level would rise wait for their place. -/
def Field.recover (g : Nat) (f : Field) : Field :=
  let kept := (f.groupOuts g).filter fun n => (f.term n).ss.kept
  let wait := kept.filter fun n => raises (f.term n).want ((f.unkept n).act n).level
  let f := f.each (kept.filter fun n => !wait.contains n) fun n f => (f.modSs n fun s => { s with kept := false }).settle n
  f.releaseBegins g ((f.groupOuts g).filter fun n => f.heldOff n || wait.contains n) false

/-- SUPPLY_FLAG_CLEAR (R216, R219). -/
def Field.flagClears (g k : Nat) (f : Field) : Field :=
  if !f.gb (supplyFlag g k) then f
  else
    let f := f.put (supplyFlag g k) 0
    match k with
    | 0 => f
    | 1 => if f.gb (F.FSUP_GRP_STAT_UV g) then f else f.recover g
    | _ =>
      if !f.gb (F.FSUP_GRP_STAT_LOW g) then f.recover g
      else if f.c (F.FSUP_GRP_POL_POLICY g) = 2 then
        f.releaseBegins g ((f.groupOuts g).filter fun n => f.gb (F.TERM_SS_STAT_UV n)) true
      else f

/-- SHED_STEP (R217). -/
def Field.shedStep (g : Nat) (f : Field) : Field :=
  if f.gb (F.FSUP_GRP_STAT_LOW g) && f.c (F.FSUP_GRP_POL_POLICY g) == 1 then
    let f := f.shedBelow g (f.group g).shedAt
    (f.each (f.groupOuts g) Field.settle).showShedding g
  else f

/-- RELEASE_STEP (R219). -/
def Field.releaseStep (g : Nat) (f : Field) : Field := if (f.group g).queue = [] then f else f.releaseSome g 1

/-- SS_FORCE reaches the field die (R222). -/
def Field.force (n : Nat) (f : Field) : Field :=
  if isOut (f.func n) then (f.put (F.TERM_SS_STAT_FORCE n) (f.c (F.TERM_SS_FORCE_FORCE n))).settle n else f

/-- The mode holds every output (R27, R222). -/
def Field.holdOutputs (m : Mode) (f : Field) : Field :=
  let f := { f with mode := m }
  (f.each (allTerms.filter fun n => isOut (f.func n)) fun n f => f.put (F.TERM_SS_STAT_MODE n) 1).settleAll

/-- The logic die releases the outputs into a mode (R30, R220): each takes its commanded value or stays at its safe state
under OUTHOLD. `fresh`: OUTHOLD is judged anew (mode entry after a logic-die reset, which has cleared it); else a bit already set
stays. -/
def Field.releaseOutputs (m : Mode) (restore : Nat → Bool) (fresh : Bool) (f : Field) : Field :=
  let f := { f with mode := m }
  let f := (f.put F.FSUP_BWSTAT_EXPIRED 0).put F.FSUP_BWSTAT_RELEASE 0
  let f := f.each (allTerms.filter fun n => isOut (f.func n)) fun n f =>
    let stay := (!fresh && (f.term n).ss.stay) || !restore n
    let f := ((f.put (F.TERM_SS_STAT_MODE n) 0).put (F.TERM_SS_STAT_BARRIER n) 0).modSs n fun s => { s with release := false }
    (f.when (m != .follow) (Field.endHold n)).setStay n stay
  f.settleAll

/-- BARRIER_WATCHDOG_EXPIRY (R220): safe states, or RELEASE on a lead of a pair. -/
def Field.watchdogExpires (inj : Bool) (f : Field) : Field :=
  if f.wdArmed then
    let lead := f.paired && f.lead
    let f := { f with wdArmed := false, report := true }
    let f := (((f.put F.FSUP_BWSTAT_EXPIRED 1).putb F.FSUP_BWSTAT_RELEASE lead).bump F.FSUP_BWSTAT_COUNT).evt R.pageFSUP 16
      (inj := inj)
    (f.each (allTerms.filter fun n => isOut (f.func n)) fun n f =>
      (f.put (F.TERM_SS_STAT_BARRIER n) 1).modSs n fun s => { s with release := s.release || lead }).settleAll
  else f

/-- Power delivered into both rails of a group, µW (R206). -/
def Field.railPower (g : Nat) (f : Field) : Nat :=
  ((f.groupAo g).foldl (fun s n =>
    if f.g (F.TERM_AO_RAIL_SOURCE n) ≤ 1 then s + f.sourceVolts n * f.aoCurrent n else s) 0) / 1000

/-- The converter's loss (R206), µW: P_out × (1/η − 1) + 10 mW; a converter that stands still loses nothing. -/
def Field.converterLoss (g : Nat) (f : Field) : Nat :=
  if (f.step g).low = 0 ∧ (f.step g).high = 0 then 0
  else
    let p := f.railPower g
    let e := max 1 (min 1000 (Config.efficiency g p))
    p * (1000 - e) / e + 10000

/-- The on-resistance of a switch, 0.1 mΩ: as measured last (R198), before a first measurement free within R184's maximum. -/
def Field.onResistance (n : Nat) (f : Field) : Nat :=
  let r := f.g (F.TERM_DO_RON_RON n)
  if r = 0 then min 2000 (Config.onResistance n f.time) else r

/-- The dissipation of a switched output, µW (R200): I² × R_ON while on, (V_FSUP − V_T) × ILIM in current limit, 0.3 mW while the test current of
R192 flows, which it does not in catch (R197); and `clamp`, its clamp's energy times its rate of switching. -/
def Field.doHeat (n clamp : Nat) (f : Field) : Nat :=
  let i := f.g (F.TERM_DO_MEAS_CURRENT n)
  let drop := (max 0 ((f.fsup (n / 8) : Int) - 10 * signed 16 (f.g (F.TERM_DO_MEAS_VTERM n)))).toNat
  let test := f.cb (F.TERM_DO_DIAG_OW_EN n) && (f.term n).catch_ == .none && f.mode != .follow
  clamp + if f.gb (F.TERM_DO_STAT_LIMIT n) then drop * (10 * f.c (F.TERM_DO_CFG_ILIM n))
    else if f.gb (F.TERM_DO_STAT_ON n) then i * i * f.onResistance n / 10000
    else if test then 300 else 0

/-- The dissipation each output and input carried in this sum, µW (R182, R200, R213, R229). -/
def Field.heatOf (b : Budget) (f : Field) : Tab Nat :=
  let add := fun (t : Tab Nat) (n v : Nat) => tput (fun _ => 0) t n v
  let clamp := fun n => (b.heat.filter fun x => x.1.val == n).foldl (fun a x => a + x.2) 0
  let t := (allTerms.filter fun n => isDo (f.func n)).foldl (fun t n => add t n (f.doHeat n (clamp n))) []
  let t := (b.volts.filter fun x => f.diActive x.1).foldl (fun t x => add t x.1 (f.diHeat x.1 x.2 / 10)) t
  (allTerms.filter fun n => isAo (f.func n)).foldl (fun t n => add t n (f.g (F.TERM_AO_RAIL_PDISS n) * 100)) t

/-- The currents switched outputs carried in this sum, mA. -/
def Field.currentOf (f : Field) : Tab Nat :=
  (allTerms.filter fun n => isDo (f.func n)).foldl
    (fun t n => tput (fun _ => 0) t n (f.g (F.TERM_DO_MEAS_CURRENT n))) []

/-- The limit's bound: µW for heat, mA for currents (R229). -/
def Field.bound (l : Limit) (f : Field) : Nat :=
  match l with
  | .group g => f.c (F.FSUP_GRP_ILIM_LIMIT g)
  | .package => f.c F.FSUP_PKG_CFG_ILIM
  | .heat => f.c F.FSUP_PKG_CFG_PMAX * 10000

/-- Is a current limit exceeded: the average passes it, or 1.5 times it was passed for 1 ms (R229)? -/
def overCurrent (bound avg peak : Nat) : Bool := decide (bound < avg) || decide (3 * bound < 2 * peak)

/-- The value by which a current limit is judged (R229, R230): the average, or the value held for 1 ms where that passes 1.5 times
the limit. -/
def judgedCurrent (bound avg peak : Nat) : Nat := if 3 * bound < 2 * peak then max avg peak else avg

/-- The limits that INJECT still reports as exceeded (R231). -/
def Field.provoked (f : Field) : List Limit := (f.gov.injected.filter fun x => decide (f.time ≤ x.2)).map (·.1)

/-- BUDGET_SUM (R229, R230): the sum in µW, a limit exceeded with the value it is judged by, and those INJECT reports. Each limit that was not in
excess before raises an event of its own. -/
def Field.budgetSum (b : Budget) (f : Field) : Field :=
  let heat := f.heatOf b
  let p := 1400000 + heat.foldl (fun s x => s + x.2) 0 + ((List.range 4).map fun g => f.converterLoss g).sum
  let run := if f.bound .heat < p then f.gov.heatRun + 1 else 0
  let inj := f.provoked
  let hot := decide (10 ≤ run) || inj.contains .heat
  let groups := (List.range 4).filter fun g => overCurrent (f.bound (.group g)) (b.curr.getD g 0) (b.peak.getD g 0)
  let pkg := overCurrent (f.bound .package) b.total b.totalPeak || inj.contains .package
  let up := fun (l : Limit) (v : Nat) => if inj.contains l then max v (f.bound l + 1) else v
  let above := (if hot then [(Limit.heat, up .heat p)] else []) ++
    groups.map (fun g => (Limit.group g, judgedCurrent (f.bound (.group g)) (b.curr.getD g 0) (b.peak.getD g 0))) ++
    (if pkg then [(Limit.package, up .package (judgedCurrent (f.bound .package) b.total b.totalPeak))] else [])
  let amps := groups != [] || pkg
  let was := fun (l : Limit) => f.gov.above.any fun x => decide (x.1 = l)
  let newP := hot && !was .heat
  let newI := (above.filter fun x => decide (x.1 ≠ .heat) && !was x.1).length
  let kept := f.gov.injected.filter fun x => decide (f.time ≤ x.2)
  let f := { f with gov := { f.gov with heatRun := run, above := above, power := heat, current := f.currentOf, injected := kept } }
  let f := f.each (List.range 4) fun g f => f.put (F.FSUP_GRP_CURR_CURRENT g) (min 65535 (b.curr.getD g 0))
  let f := (((f.put F.FSUP_PKG_STAT_PDISS (min 65535 (p / 1000))).put F.FSUP_PKG_CURR_CURRENT (min 65535 b.total)).putb
    F.FSUP_PKG_STAT_OVER_P hot).putb F.FSUP_PKG_STAT_OVER_I amps
  let f := f.when newP fun f => (f.evt R.pageFSUP 17).fault 43 false
  f.each (List.range newI) fun _ f => (f.evt R.pageFSUP 18).fault 43 false

/-- The terminals a limit is about. -/
def limitTerms (l : Limit) : List Nat :=
  match l with
  | .group g => groupTerms g
  | _ => allTerms

/-- The switched output to shed next (R230): SHED_PRIO descending, then terminal number descending. -/
def Field.nextShed (l : Limit) (f : Field) : Option Nat :=
  (f.releaseOrder ((limitTerms l).filter fun n =>
    isDo (f.func n) && (f.term n).level.isSome && !(f.term n).dout.gov)).getLast?

/-- What the 1 % step removes at the output's headroom, µW (R230): in AO_V the load's current follows its voltage. -/
def Field.capGain (n : Nat) (f : Field) : Nat :=
  let h := f.g (F.TERM_AO_RAIL_HEADROOM n) * 20
  if f.func n = 5 then h * 240 / 1000 else h * (f.aoCurrent n * 2200 / max 1 ((f.term n).level.getD 0)) / 1000

/-- The analogue output with the largest dissipation that a cap still reduces (R230). -/
def Field.nextCap (f : Field) : Option Nat :=
  (allTerms.filter fun n => isAo (f.func n) && decide (0 < (f.term n).level.getD 0 ∧ 0 < f.capGain n)).foldl
    (fun b n => match b with
      | none => some n
      | some m => if tget (fun _ => 0) f.gov.power m < tget (fun _ => 0) f.gov.power n then some n else some m) none

/-- Deduct a contribution from a limit's adjusted value. -/
def Field.deduct (l : Limit) (v : Nat) (f : Field) : Field :=
  { f with gov := { f.gov with above := f.gov.above.map fun x => if x.1 = l then (l, x.2 - v) else x } }

/-- Deduct what an output carried in the last sum from every limit it counts toward (R230). -/
def Field.deductShed (n : Nat) (f : Field) : Field :=
  let i := tget (fun _ => 0) f.gov.current n
  ((f.deduct .heat (tget (fun _ => 0) f.gov.power n)).deduct (.group (n / 8)) i).deduct .package i

/-- Shed one switched output for a limit: a protection hold (R230). -/
def Field.govShed (l : Limit) (f : Field) : Field :=
  match f.nextShed l with
  | none => f
  | some n =>
    let f := (f.modDout n fun d => { d with gov := true }).deductShed n
    ({ f with gov := { f.gov with holds := (n, l) :: f.gov.holds } }).settle n

/-- One step for one limit in excess (R230). -/
def Field.govStepFor (l : Limit) (f : Field) : Field :=
  match f.c F.FSUP_PKG_CFG_ACTION with
  | 1 => f.govShed l
  | 2 =>
    if l = .heat then
      match f.nextCap with
      | some n =>
        let v := f.capGain n
        let power := tput (fun _ => 0) f.gov.power n (tget (fun _ => 0) f.gov.power n - v)
        ({ f.deduct l v with gov := { (f.deduct l v).gov with power := power } }).capDown n false
      | none => f.govShed l
    else f.govShed l
  | _ => f

/-- GOVERNOR_SHED_STEP (R230): one output for each limit whose adjusted value lies above it. In FOLLOW the governor acts on no output
(R319). -/
def Field.govStep (f : Field) : Field :=
  if f.mode = .follow then f else (f.gov.above.filter fun x => decide (f.bound x.1 < x.2)).foldl (fun f x => f.govStepFor x.1) f

/-- GOVERNOR_RELEASE (R230): the newest hold whose limit is no longer in excess ends. -/
def Field.govRelease (f : Field) : Field :=
  match f.gov.holds with
  | [] => f
  | (n, l) :: t =>
    if f.gov.above.any fun x => decide (x.1 = l) && decide (f.bound l * 95 ≤ x.2 * 100) then f
    else (({ f with gov := { f.gov with holds := t } }).modDout n fun d => { d with gov := false }).settle n

/-- INJECT reports a limit as exceeded for 100 ms (R231). -/
def Field.provoke (l : Limit) (f : Field) : Field :=
  { f with gov := { f.gov with
    above := (l, f.bound l + 1) :: f.gov.above.filter fun x => x.1 != l, injected := (l, f.time + 2457600) :: f.gov.injected } }

/-- INJECT of the FSUP page (R231). -/
def Field.fsupInject (w : Word) (f : Field) : Field :=
  let f := f.each ((List.range 12).filter (wbit w)) fun b f => f.flagSets (b % 4) (b / 4) true
  let f := f.when (wbit w 17) fun f =>
    (((f.provoke .heat).put F.FSUP_PKG_STAT_OVER_P 1).evt R.pageFSUP 17 (inj := true)).fault 43 false none true
  f.when (wbit w 18) fun f =>
    (((f.provoke .package).put F.FSUP_PKG_STAT_OVER_I 1).evt R.pageFSUP 18 (inj := true)).fault 43 false none true

/-- SUPPLY_FLAG_SET (R216): 0 WARN, 1 LOW, 2 UV. -/
def execSupplyFlagSet (g : Group) (flag : Fin 3) (s : State) : Host.Outcome State Fault Refusal :=
  runField (Field.flagSets g flag false) s

/-- SUPPLY_FLAG_CLEAR (R216, R219). -/
def execSupplyFlagClear (g : Group) (flag : Fin 3) (s : State) : Host.Outcome State Fault Refusal :=
  runField (Field.flagClears g flag) s

/-- SHED_STEP (R217). -/
def execShedStep (g : Group) (s : State) : Host.Outcome State Fault Refusal := runField (Field.shedStep g) s

/-- RELEASE_STEP (R219). -/
def execReleaseStep (g : Group) (s : State) : Host.Outcome State Fault Refusal := runField (Field.releaseStep g) s

/-- BARRIER_WATCHDOG_EXPIRY (R220). -/
def execBarrierWatchdogExpiry (s : State) : Host.Outcome State Fault Refusal := runField (Field.watchdogExpires false) s

/-- BUDGET_SUM (R229). -/
def execBudgetSum (b : Budget) (s : State) : Host.Outcome State Fault Refusal := runField (Field.budgetSum b) s

/-- GOVERNOR_SHED_STEP (R230). -/
def execGovernorShedStep (s : State) : Host.Outcome State Fault Refusal := runField Field.govStep s

/-- GOVERNOR_RELEASE (R230). -/
def execGovernorRelease (s : State) : Host.Outcome State Fault Refusal := runField Field.govRelease s

end Sys2Proof.Machine
end

