-- ==== Sys2Proof/Machine/Modes.lean ====
section
/-! DEFINITION. Modes, SAFE causes and the resets of either die (chapter 02). -/

namespace Sys2Proof.Machine

open Sys2Proof

/-- SAFE_CAUSE bits (R47): HOST_CMD 0, WDOG 1, FAULT 2, LINK 3, SAFE_ENGINE 4, BOOT 5, KAT 6. -/
def safeCause (b : Nat) : Fld := ⟨R.DEVICE_MODE, 8 + b, 1⟩

/-- RESTORE's bit for an exit (R30): SAFE 0, FIELD 1, LOGIC 2, COMMISSION 3. At mode entry only commanded values that a field die kept
through the reset can be restored. -/
def Logic.restores (b : Nat) (l : Logic) : Bool := l.gb ⟨R.DEVICE_RESTORE, b, 1⟩ && (b != 2 || l.boot.kept)

/-- Change the logic die. -/
def State.onLd (h : Logic → Logic) (s : State) : State := { s with ld := h s.ld }

/-- Change the field die while the link is up and the field die out of reset. -/
def State.onFd (h : Field → Field) (s : State) : State :=
  if s.ld.linkUp && s.fd.released then { s with fd := h s.fd } else s

/-- What the field die has told, with OUTHOLD_SET where an OUTHOLD bit came (R47). -/
def State.hear (s : State) : State :=
  let was := (s.ld.regs.word R.DEVICE_OUTHOLD).toNat
  let s := drain s
  let now := (s.ld.regs.word R.DEVICE_OUTHOLD).toNat
  if (nbits 32 now).any fun n => !nbit was n then s.onLd (Logic.evt R.pageDEVICE 3) else s

/-- A fault of the security group or other logic-die source stands SEVERE. -/
def Logic.severe (i : Nat) (l : Logic) : Bool := l.gb (F.FAULT_SRC_STAT_SEVERE i)

/-- The conditions of approved mode (R284). -/
def Logic.approvable (l : Logic) : Bool :=
  let floor := [2, 2, 1, 1, 0, 1, 1, 0, 0, 1, 1]
  [4 + 2, 4 + 3, 4 + 4, 4 + 5].all (fun b => l.gb ⟨R.STATUS R.pageCELLAR, b, 1⟩) && l.gb F.CELLAR_POLICY_APPROVED_REQ &&
    (List.range 11).all (fun d => decide (floor.getD d 0 ≤ l.g ⟨R.CELLAR_GRADE, 2 * d, 2⟩)) && l.mode != .lockout && l.mode != .boot

/-- CELLAR.STATUS.APPROVED (R284). -/
def approvedBit : Fld := ⟨R.STATUS R.pageCELLAR, 4, 1⟩

/-- APPROVED clears at once where a condition fails (R284). -/
def Logic.disapprove (l : Logic) : Logic :=
  if l.gb approvedBit && !l.approvable then (l.put approvedBit 0).evt R.pageCELLAR 4 else l

/-- APPROVED is judged at the end of a crate application or at mode entry (R284). -/
def Logic.approve (l : Logic) : Logic := if l.approvable then l.put approvedBit 1 else l.disapprove

/-- The mode changes in DEVICE.MODE and the status byte at one tick (R26), with MODE_CHANGE and its record (R382). -/
def Logic.setMode (m : Mode) (l : Logic) : Logic :=
  if l.mode = m then l
  else
    let was := l.mode
    let l := ({ l with mode := m }).put F.DEVICE_MODE_MODE (modeCode m)
    ((l.evt R.pageDEVICE 0).log 2 R.pageDEVICE (modeCode was) (modeCode m) (l.g F.DEVICE_MODE_SAFE_CAUSE)).disapprove

/-- Into a mode that holds outputs: safe states, commands held (R27). -/
def State.hold (m : Mode) (s : State) : State := ((s.onLd (Logic.setMode m)).onFd (Field.holdOutputs m)).hear

/-- Into RUN or FOLLOW: every output takes its commanded value or stays under OUTHOLD (R30). `exit` is RESTORE's bit. -/
def State.release (m : Mode) (exit : Nat) (fresh : Bool) (s : State) : State :=
  ((s.onLd (Logic.setMode m)).onFd (Field.releaseOutputs m (fun _ => s.ld.restores exit) fresh)).hear

/-- Is this device the lead of a READY pair? -/
def Logic.leadReady (l : Logic) : Bool := l.g F.PAIR_STAT_ROLE == 1 && l.gb F.PAIR_STAT_READY

/-- Ticks in 200 µs, 2 ms and 10 ms, rounded to the tick. -/
def ticks200us : Nat := 4915
def ticks2ms : Nat := 49152
def ticks10ms : Nat := 245760

/-- A planned handover begins (R341): T_S lies 200 µs ahead, off-pulse tests stop, and the announcement is sent. -/
def State.beginHandover (cause caught : Nat) (s : State) : State :=
  let l := s.ld
  let l := { l with pair := { l.pair with
    handover := some { ts := l.time + ticks200us, cause := cause, caught := caught, confirmed := l.time + ticks200us } } }
  ({ s with ld := (((l.sendPartner (.handover (.announce (l.time + ticks200us) cause))).put F.PAIR_STAT_HANDOVER 1).put F.PAIR_HOSTAT_CAUSE cause).put F.PAIR_HOSTAT_RESULT 0 }).onFd fun f =>
    { f with handover := true }

/-- A cause of SAFE arises (R28-R31, R338): RUN goes to SAFE, but the lead of a READY pair meets a local cause with a planned
handover, where one is in progress with another after its abort, and a lead whose link is lost only releases its outputs. In other modes the bit sets and the mode stays. -/
def State.safe (cause : Nat) (s : State) : State :=
  let s := s.onLd fun l => (l.put (safeCause cause) 1).abortCause 5
  if s.ld.mode ≠ .run then s
  else if s.ld.leadReady && (cause == 2 || cause == 4) then
    let s := s.onLd fun l => { l with pair := { l.pair with lockCatch := true } }
    if s.ld.pair.handover.isSome then s.onLd fun l => { l with pair := { l.pair with handAgain := true } } else s.beginHandover 4 0
  else if s.ld.leadReady && cause == 3 then s
  else s.hold .safe

/-- May RUN be entered from SAFE (R28): every SAFE_CAUSE bit other than HOST_CMD reads 0? -/
def Logic.causesClear (l : Logic) : Bool := l.g ⟨R.DEVICE_MODE, 9, 6⟩ == 0

/-- RSTCAUSE after a reset of the given bit (R41); POR and BOR clear it first. -/
def rstCause (bit : Nat) (w : Word) : Word :=
  if bit ≤ 1 then BitVec.ofNat 32 (2 ^ bit) else BitVec.ofNat 32 (if wbit w bit then w.toNat else w.toNat + 2 ^ bit)

/-- The logic die resets (R40, R42): what MRAM, OTP and the always-on reset domain hold stays; start-up restarts at step 2.
ERROUT stays through it but for POR and BOR (R377). A record in flight to the Loft may be torn (R384). -/
def Logic.reset (bit : Nat) (l : Logic) : Logic :=
  let cold := bit ≤ 1
  let r : Logic := { mram := { l.mram with loft := { l.mram.loft with flight := l.loft.queue.head? } } }
  { r with
    regs := r.regs.write R.DEVICE_RSTCAUSE (rstCause bit (l.regs.word R.DEVICE_RSTCAUSE))
    draws := l.draws
    errout := !cold && l.errout
    minw := !cold && l.minw
    released := !cold && l.released
    timeBad := !cold }

/-- The logic die resets alone: the field die keeps running (R42), on its clock (R365); degraded mode is over (R357). -/
def State.resetLogic (bit : Nat) (s : State) : State :=
  { s with ld := (s.ld.reset bit).putb clockOnFrc s.fd.onFrc, fd := s.fd.undegraded }

/-- Both dies reset (R40, R41). SEQ counts from 1 again, after a DEVICE.RESET of both too (the model's choice, log 157). -/
def State.resetBoth (bit : Nat) (s : State) : State := { s with ld := s.ld.reset bit, fd := { draws := s.fd.draws } }

/-- POWER_ON_RESET (R40, R41): isolated power is removed, so both dies reset. -/
def execPowerOnReset (s : State) : Host.Outcome State Fault Refusal := runBoth (State.resetBoth 0) s

/-- BROWN_OUT_RESET (R40, R41). -/
def execBrownOutReset (s : State) : Host.Outcome State Fault Refusal := runBoth (State.resetBoth 1) s

/-- NRESET_ASSERT (R40): the logic die alone. -/
def execNresetAssert (s : State) : Host.Outcome State Fault Refusal := runBoth (State.resetLogic 2) s

/-- FIELD_RAIL_BROWN_OUT (R40): the field die alone. -/
def execFieldRailBrownOut (s : State) : Host.Outcome State Fault Refusal := runBoth State.resetField s

end Sys2Proof.Machine
end

