-- ==== Sys2Proof/Machine/Window.lean ====
section
/-! DEFINITION. Windows, threshold switches and the snapshot queue on the field die (chapter 09, R14). -/

namespace Sys2Proof.Machine

/-- The chain fields of a context's configuration (R126, R148). -/
def Field.chainOf (c : Nat) (f : Field) : Chain :=
  { s2 := f.c (F.CTX_FILTER_S2 c), dcbEn := f.cb (F.CTX_FILTER_DCB_EN c), dcbLen := f.c (F.CTX_FILTER_DCB_LEN c),
    maLen := f.c (F.CTX_MA_MA_LEN c), maSlide := f.cb (F.CTX_FILTER_MA_SLIDE c), phase := f.c (F.CTX_PHASE_PHASE c),
    out := f.c (F.CTX_PHASE_OUT c) }

/-- The window and format fields of a context's configuration. -/
def Field.winOf (c : Nat) (f : Field) : WinCfg :=
  { len := f.c (F.CTX_WIN_LEN c), byTime := f.cb (F.CTX_WIN_BYTIME c), ticks := f.c (F.CTX_WIN_T_TICKS c),
    align := f.cb (F.CTX_FMT_ALIGN c), coding := f.cb (F.CTX_FMT_CODING c) }

/-- A window opens (R155): flags whose cause stands carry over into it. -/
def Field.openWindow (c : Nat) (f : Field) : Field :=
  let flags := (if f.outOfCompliance c then 2 ^ 6 else 0) + if (f.ctx c).gap then 2 ^ 7 else 0
  f.modCtx c fun x => { x with win := { opened := f.time, flags := flags }, wcfg := f.winOf c, gap := false }

/-- Has the barrier watchdog expired with no valid frame since (R14)? -/
def Field.silent (f : Field) : Bool := f.gb F.FSUP_BWSTAT_EXPIRED && !f.wdArmed

/-- The range whose codes the results use: AR_MAX or the fixed range (R162). -/
def Field.resultRange (c : Nat) (f : Field) : Nat :=
  if f.cb (F.CTX_AR_EN c) then f.c (F.CTX_AR_AR_MAX c) else f.c (F.CTX_CFG_RANGE c)

/-- The snapshot a window leaves (R158, R159, R162). -/
def Field.snapshot (c : Nat) (timed : Bool) (f : Field) : Snap :=
  let x := f.ctx c
  let w := x.win
  let few := decide (w.count < 8)
  let keep (v : Int) : Int := if few then 0 else v
  let at_ (v : Nat) : Nat := if few then 0 else v % 2 ^ 32
  let flags := [(0, true), (7, few), (12, decide (w.count = 0)), (13, few && decide (w.count ≠ 0)),
    (14, decide (2 ^ 32 ≤ f.time - w.opened)), (16, timed), (22, x.wcfg.align), (23, x.wcfg.coding)].foldl
      (fun a b => if b.2 then nset a b.1 else a) w.flags + f.resultRange c * 2 ^ 19
  { ctx := c, seq := (x.seq + 1) % 2 ^ 32, count := w.count, sum := keep w.sum,
    sumsq := if few then 0 else (w.sumsq + 128) / 256, minv := keep w.minv, mint := at_ w.mint, maxv := keep w.maxv,
    maxt := at_ w.maxt, flags := flags, blanked := w.blanked, unsettled := w.unsettled, tclose := f.time, opened := w.opened,
    sealKey := f.c (F.CTX_CFG_SEALKEY c) }

/-- The number of the window in progress: the SEQ it will carry. -/
def Field.winNo (c : Nat) (f : Field) : Nat := ((f.ctx c).seq + 1) % 2 ^ 32

/-- Does the window in progress carry SAT, OVR or OPEN (R108)? -/
def Field.dirty (c : Nat) (f : Field) : Bool := [1, 5, 6].any fun b => nbit (f.ctx c).win.flags b

/-- A window that closes with SAT, OVR or OPEN is noted for the dwell's judgement (R108). -/
def Field.taint (c : Nat) (f : Field) : Field :=
  if f.dirty c then
    let a := tget (fun _ => {}) f.rot.acc c
    { f with rot := { f.rot with acc := tput (fun _ => {}) f.rot.acc c { a with flagged := f.winNo c :: a.flagged } } }
  else f

/-- A slice restarts its settling at this boundary (R136): the chain's decimators restart their phase, and the chain goes on running.
It counts as a resettle where it meets a gate that an earlier disturbance of the context, at an earlier boundary, closed (R138): `again`
tells that the context is the one in progress. The down count restarts (R149). -/
def Field.restartSlice (s c : Nat) (again : Bool) (f : Field) : Field :=
  let r := f.slice s
  let ch := (f.ctx c).chain
  let d := f.d2 ch.s2
  let f := f.modSlice s fun r =>
    { r with gate := false, restart := false, restartRef := false, p1 := 0, since := 0, ph := (d - f.settleCount ch false % d) % d,
             marks := [(0, (f.ctx c).est)], thaw := false, broken := false, fresh := false, moved := false, here := true }
  if r.role = .active then
    (f.when (again && !r.gate && !r.moved && !r.here) (Field.resettle c)).modCtx c fun x => { x with down := 0 }
  else f

/-- The chain fields committed during an entry take effect at the close of the window: a filter change (R126, R137), at once at a
stage-1 boundary, else at the next one. -/
def Field.filterChange (c : Nat) (atBoundary : Bool) (f : Field) : Field :=
  let x := f.ctx c
  if !x.wait then f
  else
    let users := allSlices.filter fun s => f.facing s == some c
    let f := f.modCtx c fun x => { x with chain := f.chainOf c, atEntry := none, wait := false }
    if x.chain = f.chainOf c then f
    else f.each users fun s f => if atBoundary && !(f.slice s).blanked then f.restartSlice s c true else f.disturb s

/-- The fields in which a configuration moves from `old` to `new` replace those of `base`. -/
def Chain.follow (old new base : Chain) : Chain :=
  { s2 := if new.s2 = old.s2 then base.s2 else new.s2
    dcbEn := if new.dcbEn = old.dcbEn then base.dcbEn else new.dcbEn
    dcbLen := if new.dcbLen = old.dcbLen then base.dcbLen else new.dcbLen
    maLen := if new.maLen = old.maLen then base.maLen else new.maLen
    maSlide := if new.maSlide = old.maSlide then base.maSlide else new.maSlide
    phase := if new.phase = old.phase then base.phase else new.phase
    out := if new.out = old.out then base.out else new.out }

/-- A context's chain fields were committed, where `old` stood (R126, R148): during an entry they wait for the close of the window, else
for its next entry boundary. -/
def Field.noteChain (c : Nat) (old : Chain) (f : Field) : Field :=
  let new := f.chainOf c
  if new = old then f
  else if (f.ctxSlice c).isSome then f.modCtx c fun x => { x with wait := true }
  else f.modCtx c fun x => { x with atEntry := some (old.follow new (x.atEntry.getD x.chain)) }

/-- The window's snapshot enters the queue and the next window opens; `drop`: the oldest snapshot makes room (R14). -/
def Field.deliver (c : Nat) (timed atBoundary drop : Bool) (f : Field) : Field :=
  let f := (f.when (timed && f.degraded) fun f => f.flag c 10).taint c
  let sn := f.snapshot c timed
  let f := f.when drop fun f => { f with snapq := f.snapq.drop 1 }.tell (.bump ⟨R.BARRIER_SNAPDROP, 0, 16⟩)
  let f := { f with snapq := f.snapq ++ [sn] }.modCtx c fun x => { x with seq := sn.seq }
  (f.filterChange c atBoundary).openWindow c

/-- A window's rule closes it (R156): with no free queue entry it stays open until one frees, unless the barrier watchdog has
expired, and a window that was held so carries GAP (R14). -/
def Field.closeWindow (c : Nat) (timed atBoundary : Bool) (f : Field) : Field :=
  let w := (f.ctx c).win
  let timed := if w.held then w.timed else timed
  let f := f.when w.held fun f => f.flag c 7
  if f.snapq.length < 512 then f.deliver c timed atBoundary false
  else if f.silent then f.deliver c timed atBoundary true
  else f.modCtx c fun x => { x with win := { x.win with held := true, timed := timed } }

/-- A window that was held closes (R14). -/
def Field.closeHeld (c : Nat) (f : Field) : Field :=
  if (f.ctx c).win.held && (decide (f.snapq.length < 512) || f.silent) then f.closeWindow c false false else f

/-- Does an event close a window with GAP, SEQ one higher (R19, R44)? -/
def Field.gapClose (c : Nat) (f : Field) : Field := (f.flag c 7).closeWindow c false false

/-- One switch judges one settled sample (R167, R168). -/
def judgeSwitch (level hyst confirm : Nat) (dir : Bool) (x : Int) (w : Sw) : Sw × Bool :=
  let lv := signed 24 level
  let met := match dir, w.state with
    | false, false => decide (lv ≤ x)
    | false, true => decide (x < lv - hyst)
    | true, false => decide (x ≤ lv)
    | true, true => decide (lv + hyst < x)
  if met then
    if confirm ≤ w.cnt then ({ state := !w.state, valid := true, cnt := 0 }, true)
    else ({ w with valid := true, cnt := w.cnt + 1 }, false)
  else ({ w with valid := true, cnt := 0 }, false)

/-- THSTAT shows the switches; one that is not enabled reads inactive (R168). -/
def Field.showTh (c : Nat) (f : Field) : Field :=
  let x := f.ctx c
  let a := f.cb (F.CTX_TH_A_CFG_EN c)
  let b := f.cb (F.CTX_TH_B_CFG_EN c)
  (((f.putb (F.CTX_THSTAT_A_STATE c) (a && x.thA.state)).putb (F.CTX_THSTAT_B_STATE c) (b && x.thB.state)).putb
    (F.CTX_THSTAT_A_VALID c) (a && x.thA.valid)).putb (F.CTX_THSTAT_B_VALID c) (b && x.thB.valid)

/-- A switch's change of state is counted and told (R167); it is the same for INJECT (R168). -/
def Field.thChanged (c : Nat) (b : Bool) (on inj : Bool) (f : Field) : Field :=
  (f.tell (.bump (if b then F.CTX_THCOUNT_B c else F.CTX_THCOUNT_A c))).evt (R.pageCTX c)
    (6 + (if b then 2 else 0) + (if on then 0 else 1)) (inj := inj)

/-- TH_A judges a sample. -/
def Field.judgeA (c : Nat) (x : Int) (f : Field) : Field :=
  if f.cb (F.CTX_TH_A_CFG_EN c) then
    let r := judgeSwitch (f.c (F.CTX_TH_A_LEVEL_LEVEL c)) (f.c (F.CTX_TH_A_HYST_HYST c)) (f.c (F.CTX_TH_A_CFG_CONFIRM c))
      (f.cb (F.CTX_TH_A_CFG_DIR c)) x (f.ctx c).thA
    (f.modCtx c fun k => { k with thA := r.1 }).when r.2 (Field.thChanged c false r.1.state false)
  else f

/-- TH_B judges a sample. -/
def Field.judgeB (c : Nat) (x : Int) (f : Field) : Field :=
  if f.cb (F.CTX_TH_B_CFG_EN c) then
    let r := judgeSwitch (f.c (F.CTX_TH_B_LEVEL_LEVEL c)) (f.c (F.CTX_TH_B_HYST_HYST c)) (f.c (F.CTX_TH_B_CFG_CONFIRM c))
      (f.cb (F.CTX_TH_B_CFG_DIR c)) x (f.ctx c).thB
    (f.modCtx c fun k => { k with thB := r.1 }).when r.2 (Field.thChanged c true r.1.state false)
  else f

/-- A switch takes CFG.INIT (R168). -/
def Field.initTh (c : Nat) (b : Bool) (f : Field) : Field :=
  let f := if b then f.modCtx c fun x => { x with thB := { state := f.cb (F.CTX_TH_B_CFG_INIT c) } }
    else f.modCtx c fun x => { x with thA := { state := f.cb (F.CTX_TH_A_CFG_INIT c) } }
  f.showTh c

/-- INJECT forces a switch active (R168). THSTAT's VALID stays as it is (the model's choice, log 158). -/
def Field.forceTh (c : Nat) (b : Bool) (f : Field) : Field :=
  let en := f.cb (if b then F.CTX_TH_B_CFG_EN c else F.CTX_TH_A_CFG_EN c)
  let was := if b then (f.ctx c).thB.state else (f.ctx c).thA.state
  if en && !was then
    let f := f.modCtx c fun x =>
      if b then { x with thB := { x.thB with state := true, cnt := 0 } } else { x with thA := { x.thA with state := true, cnt := 0 } }
    (f.thChanged c b true true).showTh c
  else f

/-- A settled sample enters the accumulator and the min-max tracker (R155, R159); equal extremes keep the earlier stamp. A window that
waits for a queue entry (R14) with COUNT at its limit of 24 bits takes no more of them (the model's choice, log 108). -/
def Win.take (x : Int) (stamp : Nat) (w : Win) : Win :=
  let lower := w.count == 0 || decide (x < w.minv)
  let higher := w.count == 0 || decide (w.maxv < x)
  if 0xFFFFFF ≤ w.count then w
  else
  { w with count := w.count + 1, sum := w.sum + x, sumsq := w.sumsq + x.natAbs * x.natAbs,
           minv := if lower then x else w.minv, mint := if lower then stamp else w.mint,
           maxv := if higher then x else w.maxv, maxt := if higher then stamp else w.maxt }

/-- Is the window full by count (R156)? -/
def CtxRun.full (x : CtxRun) : Bool :=
  decide (0xFFFFFF ≤ x.win.count) || (!x.wcfg.byTime && decide (x.wcfg.len ≤ x.win.count))

/-- The flags a settled sample carries belong to the window in progress when it was produced (R135, R157, R357). -/
def Field.flagOut (o : ChainOut) (f : Field) : Field :=
  let f := f.when o.s1 fun f => (f.flag o.ctx 1).flag o.ctx 2
  let f := f.when o.s2 fun f => (f.flag o.ctx 1).flag o.ctx 3
  let f := f.when o.dcb fun f => (f.flag o.ctx 1).flag o.ctx 4
  f.when o.clk fun f => f.flag o.ctx 10

/-- A calibrated settled sample reaches the accumulator and the switches (R139, R155-R157, R167). -/
def Field.accumulate (c : Nat) (x : Int) (stamp : Nat) (f : Field) : Field :=
  let f := f.modCtx c fun k => { k with win := k.win.take x stamp }
  let f := ((f.judgeA c x).judgeB c x).showTh c
  if (f.ctx c).full then f.closeWindow c false true else f

/-- A context comes into force as configured (R155, R168): its chain, its first window, its switches at INIT. -/
def Field.beginCtx (c : Nat) (f : Field) : Field :=
  let f := f.modCtx c fun x => { x with chain := f.chainOf c, atEntry := none, wait := false }
  ((f.openWindow c).initTh c false).initTh c true

/-- INJECT of a CTX page (R168, R169). -/
def Field.ctxInject (c : Nat) (w : BitVec 32) (f : Field) : Field :=
  (((f.when (wbit w 6) (Field.forceTh c false)).when (wbit w 8) (Field.forceTh c true)).when (wbit w 10) (Field.flag c 5)).when
    (wbit w 12) (Field.flag c 1)

end Sys2Proof.Machine
end

