-- ==== Sys2Proof/Machine/Seq.lean ====
section
/-! DEFINITION. The sequencer (chapter 08): runs and entries, their boundaries, time-outs, group boundaries, urgent entries and
the closing of windows by time. -/

namespace Sys2Proof.Machine

open Sys2Proof

/-- The entry after `e` in a programme's run (R141). -/
def Field.nextEntry (p e : Nat) (f : Field) : Nat :=
  if f.cb (F.SEQTAB_W0_LOOP_END e) ∨ 511 ≤ e then f.c (F.SEQ_PROG_START p) else e + 1

/-- The entries from `e` on to the first that carries LOOP_END, at most `fuel` (R141). -/
def Field.runFrom (e : Nat) (f : Field) : Nat → List Nat
  | 0 => []
  | fuel + 1 => e :: (if f.cb (F.SEQTAB_W0_LOOP_END e) ∨ 511 ≤ e then [] else f.runFrom (e + 1) fuel)

/-- A programme's run (R141). -/
def Field.run (p : Nat) (f : Field) : List Nat := f.runFrom (f.c (F.SEQ_PROG_START p)) 512

/-- The context an entry names. -/
def Field.entryCtx (e : Nat) (f : Field) : Nat := f.c (F.SEQTAB_W0_CTX e)

/-- The contexts a programme may run: those its entries name and those it may run urgently (R146). -/
def Field.mayRun (p c : Nat) (f : Field) : Bool :=
  f.cb (F.SEQ_PROG_VALID p) && ((f.run p).any (fun e => f.entryCtx e == c) || nbit (f.c (F.CTX_URG_PROGS c)) p)

/-- Is the programme's slice running or shutting down (R128, R146)? -/
def Field.progBusy (p : Nat) (f : Field) : Bool :=
  match f.progSlice p with
  | some s => f.cb (F.CTRL_EN (R.pageSLICE s)) || f.gb (F.STATUS_BUSY (R.pageSLICE s))
  | none => false

/-- Is a context in use (R146)? -/
def Field.ctxInUse (c : Nat) (f : Field) : Bool := allProgs.any fun p => f.mayRun p c && f.progBusy p

/-- Do two contexts name the same set, range, reference, burn-out, demodulation and chain (R137)? -/
def Field.sameInput (a b : Nat) (f : Field) : Bool :=
  a == b || (f.setOf a == f.setOf b && f.rangeAct a == f.rangeAct b && f.c (F.CTX_CFG_REFSEL a) == f.c (F.CTX_CFG_REFSEL b) &&
    f.c (F.CTX_CFG_BURNOUT a) == f.c (F.CTX_CFG_BURNOUT b) && f.c (F.CTX_CFG_DIR a) == f.c (F.CTX_CFG_DIR b) &&
    f.c (F.CTX_DEMOD_SRC a) == f.c (F.CTX_DEMOD_SRC b) && (f.ctx a).chain == (f.ctx b).chain)

/-- P1 from a restart to the live mean's K-th stage-2 output (R131). -/
def Field.liveCount (ch : Chain) (f : Field) : Nat := 4 + f.span2 ch.s2 + 2 * ch.j * f.d2 ch.s2

/-- The sum behind the live mean A[m] at the last stage-2 output (R131): the K newest stage-2 outputs, where the slice has given so
many. -/
def Field.liveAt (s : Nat) (ch : Chain) (f : Field) : Option Held :=
  let r := f.slice s
  let k := 2 * ch.j + 1
  if f.liveCount ch + r.ph ≤ r.p1 then
    let q := if r.histQ.isEmpty then 0 else f.liveSum ch (r.histQ.drop r.ph) 0
    some { i := f.liveSum ch (r.histI.drop r.ph) 0, q := q, k := k }
  else if k ≤ r.s2I.length then some { i := (r.s2I.take k).sum, q := (r.s2Q.take k).sum, k := k }
  else none

/-- A DC-block estimate the specification leaves open, for a context that has given too few stage-2 outputs: any mean of K codes. -/
def Field.drawHeld (k : Nat) (f : Field) : Held × Field :=
  let a := f.draw
  let b := a.2.draw
  ({ i := signed 24 (a.1 % 2 ^ 24) * k, q := signed 24 (b.1 % 2 ^ 24) * k, k := k }, b.2)

/-- The chain fields and DCB_FRZ of a context come into force where its entry starts (R126, R131). -/
def Field.loadChain (c : Nat) (f : Field) : Field :=
  let f := match (f.ctx c).atEntry with
    | some ch => f.modCtx c fun x => { x with chain := ch, atEntry := none }
    | none => f
  let want := (f.ctx c).chain.dcbEn && f.cb (F.CTX_FILTER_DCB_FRZ c)
  if want == (f.ctx c).est.isSome then f
  else if want then
    match (f.ctx c).lastA with
    | some h => f.modCtx c fun x => { x with est := some h }
    | none =>
      let d := f.drawHeld (2 * (f.ctx c).chain.j + 1)
      d.2.modCtx c fun x => { x with est := some d.1 }
  else f.modCtx c fun x => { x with est := none }

/-- A slice's live mean replaces a held estimate (R131): before it has had its K outputs the gate closes until it has. -/
def Field.unfreeze (s : Nat) (ch : Chain) (f : Field) : Field :=
  f.modSlice s fun r => if r.gate && decide (r.p1 + 1 < f.liveCount ch) then { r with gate := false, thaw := true } else r

/-- The slices that follow a programme: its own and the check slice that shadows it (R107). -/
def Field.followers (p : Nat) (f : Field) : List Nat := allSlices.filter fun s => f.follows s == some p

/-- Programme `p` turns to context `c` (R72, R137): the crosspoint switches, and unless both entries measure alike the chain
restarts, always where `force` says so; another reference needs to settle first (R95). -/
def Field.switchTo (p c : Nat) (force : Bool) (f : Field) : Field :=
  let old := (f.prog p).conn
  let f := match old, f.progSlice p with
    | some o, some s =>
      match f.liveAt s (f.ctx o).chain with
      | some h => f.modCtx o fun x => { x with lastA := some h }
      | none => f
    | _, _ => f
  let was := old.map fun o => ((f.ctx o).chain, (f.ctx o).est.isSome)
  let f := f.loadChain c
  let alike := match old, was with
    | some o, some w => f.sameInput o c && w.1 == (f.ctx c).chain
    | _, _ => false
  let newRef := match old with
    | some o => f.c (F.CTX_CFG_REFSEL o) != f.c (F.CTX_CFG_REFSEL c)
    | none => f.c (F.CTX_CFG_REFSEL c) == 1 && !f.gb F.EXC_REF_EXT_OK
  let f := f.modProg p fun r => { r with conn := some c }
  let f := f.when (old != some c) fun f => f.modCtx c fun x => { x with ovr := 0, open_ := 0 }
  let f := if !alike || force then f.each (f.followers p) fun s f => f.restartSlice s c (old == some c)
    else f.when (was.any (fun w => w.2) && (f.ctx c).est.isNone) fun f => f.each (f.followers p) fun s f => f.unfreeze s (f.ctx c).chain
  let f := f.when newRef fun f => f.each (f.followers p) fun s f => f.modSlice s fun r => { r with refSettled := false }
  f.each (f.followers p) fun s f => f.modSlice s fun r =>
    { r with blanked := f.gb F.EXC_BLANK_STAT_ACTIVE && f.cb (F.CTX_CFG_BLANK_EN c) }

/-- The state an entry in progress shows: settling or converting (R152). -/
def Field.showState (p : Nat) (f : Field) : Field :=
  let st := f.pstate p
  if st = 1 ∨ st = 2 ∨ st = 3 then
    if !(f.prog p).preDone then f.put (F.SEQ_PSTAT_STATE p) 1
    else match f.progSlice p with
      | some s => f.put (F.SEQ_PSTAT_STATE p) (if (f.slice s).gate then 3 else 2)
      | none => f
  else f

/-- An entry starts (R142): its repeat count and its pre-delay are full. `force`: it restarts, which is a disturbance (R105,
R116, R118). -/
def Field.startEntry (p e : Nat) (force : Bool) (f : Field) : Field :=
  let rep := f.c (F.SEQTAB_W0_REPEAT e)
  let f := f.modProg p fun r =>
    { r with endDue := false, tmo := false, cut := false, urg := none, preDone := decide (f.c (F.SEQTAB_W1_PREDELAY e) = 0),
             preWas := decide (f.c (F.SEQTAB_W1_PREDELAY e) = 0) }
  let f := (f.put (F.SEQ_PSTAT_ENTRY p) e).put (F.SEQ_PSTAT_REMAIN p) (if rep = 0 then 4096 else rep)
  ((f.put (F.SEQ_PSTAT_STATE p) 1).switchTo p (f.entryCtx e) force).showState p

/-- The programme comes to an entry: it waits there for its group (R145) or starts it. -/
def Field.reach (p e : Nat) (f : Field) : Field :=
  if f.cb (F.SEQTAB_W0_SYNC_WAIT e) then
    (((f.modProg p fun r => { r with endDue := false, tmo := false, cut := false, urg := none }).put (F.SEQ_PSTAT_ENTRY p) e).put
      (F.SEQ_PSTAT_REMAIN p) 0).put (F.SEQ_PSTAT_STATE p) 4
  else f.startEntry p e false

/-- The first entry from `e` on whose context is enabled; entries passed over take no time (R144). The flag tells whether the
run's last entry was passed. -/
def Field.findEntry (p : Nat) (f : Field) : Nat → Nat → Bool → Option (Nat × Bool)
  | 0, _, _ => none
  | fuel + 1, e, wrap =>
    if f.cb (F.CTRL_EN (R.pageCTX (f.entryCtx e))) then some (e, wrap)
    else f.findEntry p fuel (f.nextEntry p e) (wrap || f.cb (F.SEQTAB_W0_LOOP_END e))

/-- LOOPS counts a completed loop, modulo 2³² (R152). -/
def Field.loopDone (p : Nat) (f : Field) : Field :=
  { f with img := f.img.write (R.SEQ_LOOPS p) (f.img.word (R.SEQ_LOOPS p) + 1#32) }

/-- The programme goes on at entry `e`, or idles where every context of its run is disabled (R144). -/
def Field.goOn (p e : Nat) (f : Field) : Field :=
  match f.findEntry p (f.run p).length e false with
  | some (e, wrap) => (f.when wrap (Field.loopDone p)).reach p e
  | none => ((f.modProg p fun r => { r with endDue := false, tmo := false, cut := false, urg := none }).put (F.SEQ_PSTAT_STATE p) 6).put
      (F.SEQ_PSTAT_REMAIN p) 0

/-- The entry in progress ends and the next one begins (R142). -/
def Field.advanceEntry (p : Nat) (f : Field) : Field :=
  let e := f.g (F.SEQ_PSTAT_ENTRY p)
  let f := f.when (f.cb (F.SEQTAB_W0_LOOP_END e) || decide (511 ≤ e)) (Field.loopDone p)
  f.goOn p (f.nextEntry p e)

/-- The programme starts its run (R141). -/
def Field.startRun (p : Nat) (f : Field) : Field :=
  if f.progRuns p then
    (f.modProg p fun r => { r with endDue := false, tmo := false, cut := false, urg := none, off := false }).goOn p (f.c (F.SEQ_PROG_START p))
  else f

/-- The chains of a programme outside an entry restart: a context switch to the context it is connected to (R137). -/
def Field.restartChains (p : Nat) (f : Field) : Field :=
  match (f.prog p).conn with
  | some c => f.each (f.followers p) fun s f => f.restartSlice s c true
  | none => f

/-- An urgent entry that was inserted while the programme waited ends: a context switch (R116, R137), and the programme waits again. -/
def Field.waitAgain (p : Nat) (f : Field) : Field := (f.restartChains p).reach p (f.g (F.SEQ_PSTAT_ENTRY p))

/-- The programme starts its entry in hand anew, or passes over it where its context is switched off meanwhile (R144). -/
def Field.startHere (p : Nat) (force : Bool) (f : Field) : Field :=
  let e := f.g (F.SEQ_PSTAT_ENTRY p)
  if f.cb (F.CTRL_EN (R.pageCTX (f.entryCtx e))) then f.startEntry p e force else f.goOn p e

/-- The interrupted entry restarts after an urgent one, with full pre-delay (R116), or the programme waits again. An insertion that its
context's disable ends (R144) is not a completed one. -/
def Field.urgentEnd (p : Nat) (f : Field) : Field :=
  match (f.prog p).urg with
  | some u =>
    let f := match f.progSlice p with
      | some s => f.when (f.prog p).endDue (Field.bump (F.SLICE_URGCOUNT_URG_DONE s))
      | none => f
    if u.waiting then f.waitAgain p else f.startHere p true
  | none => f

/-- Is the end of the entry in progress due: its samples delivered, timed out, or its context switched off (R142-R144)? -/
def Field.boundaryDue (p : Nat) (f : Field) : Bool :=
  let r := f.prog p
  f.inEntry p && (r.endDue || r.tmo || r.cut)

/-- A context is switched off (R144): its entry in progress ends at the next stage-1 boundary. -/
def Field.cutEntries (c : Nat) (f : Field) : Field :=
  f.each (allProgs.filter fun p => f.inEntry p && (f.prog p).conn == some c) fun p f => f.modProg p fun r => { r with cut := true }

/-- What is due on a programme at a stage-1 boundary: an urgent entry's or an entry's end, or another look at an idle run, which goes on from
START once a context of it is enabled (the model's choice, log 148). -/
def Field.atBoundary (p : Nat) (f : Field) : Field :=
  if !f.progRuns p then f
  else if f.pstate p = 6 then f.goOn p (f.c (F.SEQ_PROG_START p))
  else if f.boundaryDue p then (if (f.prog p).urg.isSome then f.urgentEnd p else f.advanceEntry p)
  else f

/-- The entry's pre-delay is over (R142). -/
def Field.preDelayEnd (p : Nat) (f : Field) : Field :=
  if f.pstate p = 1 then (f.modProg p fun r => { r with preDone := true }).showState p else f

/-- The entry has run TMO ms (R143): it ends at the next stage-1 boundary. -/
def Field.timeOut (p : Nat) (f : Field) : Field :=
  let st := f.pstate p
  if f.progRuns p && f.c (F.SEQ_PROG_TMO p) != 0 && (st == 1 || st == 2 || st == 3) && !(f.prog p).tmo then
    ((((f.modProg p fun r => { r with tmo := true }).bump F.SEQ_TMOCOUNT_COUNT).put F.SEQ_TMOCOUNT_PROG p).evt R.pageSEQ 1
      (p2 := p)).fault 53 false p
  else f

/-- Does a programme count toward its group's boundary (R145)? -/
def Field.counted (g p : Nat) (f : Field) : Bool :=
  f.c (F.SEQ_PROG_GROUP p) == g && f.progRuns p && !(f.prog p).stopped && (f.run p).any fun e => f.cb (F.SEQTAB_W0_SYNC_WAIT e)

/-- The programmes counted toward a group's boundary. -/
def Field.countedProgs (g : Nat) (f : Field) : List Nat := allProgs.filter fun p => f.counted g p

/-- Has a group reached its boundary (R145)? -/
def Field.groupReady (g : Nat) (f : Field) : Bool :=
  let ps := f.countedProgs g
  !ps.isEmpty && ps.all (fun p => f.pstate p == 4) && (!f.cb (F.SEQ_GWAIT_TRIG g) || nbit f.trigSeen g)

/-- A group boundary (R145): the waiting entries start, and their programmes are back in the group (R117). -/
def Field.groupBoundary (g : Nat) (f : Field) : Field :=
  if f.groupReady g then
    let ps := f.countedProgs g
    let f := { f with trigSeen := nclr f.trigSeen g }.evt R.pageSEQ 2 (p2 := g)
    f.each ps fun p f => (f.modProg p fun r => { r with off := false }).startHere p false
  else f

/-- The range a context is in changes (R149, R151): a disturbance at the next stage-1 boundary; the window stays open with
GAP. -/
def Field.changeRange (c r : Nat) (f : Field) : Field :=
  let now := f.rangeAct c
  if now = r then f
  else
    let f := f.bump (if now < r then F.CTX_ARCOUNT_UP c else F.CTX_ARCOUNT_DOWN c)
    let f := ((f.put (F.CTX_CTXSTAT_RANGE_ACT c) r).evt (R.pageCTX c) 0).flag c 7
    (f.modCtx c fun x => { x with down := 0 }).disturbCtx c

/-- A decided range reaches the front end, for the context whose sample decided it (R149). -/
def Field.rangeSwitch (s : Nat) (f : Field) : Field :=
  match (f.slice s).pend with
  | some x => (f.modSlice s fun r => { r with pend := none }).changeRange x.1 x.2
  | none => f

/-- A range that is still to reach the front end for a context. -/
def SliceRun.pendFor (c : Nat) (r : SliceRun) : Option Nat := (r.pend.filter fun x => x.1 == c).map (·.2)

/-- The range step a settled sample decides (R149): `e` is the sample in codes of the range in force. A sample that decides none, as while OPEN
holds the range, breaks the run that a step down needs. -/
def Field.decideRange (s c : Nat) (e : Exact) (f : Field) : Field :=
  if f.cb (F.CTX_AR_EN c) && f.seqRuns && !nbit (f.ctx c).win.flags 6 then
    let r := f.rangeAct c
    let mag := 100 * e.1.natAbs
    let top := f.c (F.CTX_AR_AR_MAX c)
    let low := f.c (F.CTX_AR_AR_MIN c)
    if f.c (F.CTX_AR_UP c) * 7340032 * e.2 < mag then
      (f.modCtx c fun x => { x with down := 0 }).when (decide (r < top)) fun f =>
        f.modSlice s fun x => { x with pend := some (c, max (r + 1) ((x.pendFor c).getD 0)) }
    else if low < r ∧ mag * rangeSpan r ≤ f.c (F.CTX_AR_DOWN c) * 7340032 * rangeSpan (r - 1) * e.2 then
      let n := (f.ctx c).down + 1
      if 2 ^ f.c (F.CTX_AR_DOWN_N c) ≤ n then
        (f.modCtx c fun x => { x with down := 0 }).modSlice s fun x => { x with pend := some (c, (x.pendFor c).getD (r - 1)) }
      else f.modCtx c fun x => { x with down := n }
    else f.modCtx c fun x => { x with down := 0 }
  else f.modCtx c fun x => { x with down := 0 }

/-- A delivered settled sample counts toward its entry (R142) or its urgent entry (R116). -/
def Field.countSample (p : Nat) (f : Field) : Field :=
  match (f.prog p).urg with
  | some u => f.modProg p fun r => { r with urg := some { u with left := u.left - 1 }, endDue := decide (u.left ≤ 1) }
  | none =>
    let n := f.g (F.SEQ_PSTAT_REMAIN p)
    (f.put (F.SEQ_PSTAT_REMAIN p) (n - 1)).modProg p fun r => { r with endDue := decide (n ≤ 1) }

/-- Does a context receive no samples because its programme stands or its enable is off (R112, R118, R144)? -/
def Field.starved (c : Nat) (f : Field) : Bool :=
  !f.cb (F.CTRL_EN (R.pageCTX c)) || !(allProgs.any fun p => f.mayRun p c && f.progRuns p)

/-- Has the field's copy of DEVICE.TIME reached or passed a multiple of WIN_T since the window opened (R156)? -/
def CtxRun.timeDue (now : Nat) (x : CtxRun) : Bool :=
  x.wcfg.byTime && x.wcfg.ticks != 0 && decide (x.win.opened / x.wcfg.ticks < now / x.wcfg.ticks)

/-- WINDOW_CLOSE_BY_TIME on a context (R156, R112, R118). -/
def Field.closeByTime (c : Nat) (f : Field) : Field :=
  if f.configured && f.cb (F.CTX_CFG_VALID c) && (f.ctx c).timeDue f.time && !(f.ctx c).win.held then
    (f.when (f.starved c) fun f => f.flag c 7).closeWindow c true false
  else f

/-- ENTRY_BOUNDARY (R142). -/
def execEntryBoundary (p : Prog) (s : State) : Host.Outcome State Fault Refusal :=
  runField (fun f => f.when ((f.prog p).urg.isNone) (Field.atBoundary p)) s

/-- PREDELAY_END (R142). -/
def execPredelayEnd (p : Prog) (s : State) : Host.Outcome State Fault Refusal := runField (Field.preDelayEnd p) s

/-- ENTRY_TIMEOUT (R143). -/
def execEntryTimeout (p : Prog) (s : State) : Host.Outcome State Fault Refusal := runField (Field.timeOut p) s

/-- GROUP_BOUNDARY (R145). -/
def execGroupBoundary (g : Group) (s : State) : Host.Outcome State Fault Refusal := runField (Field.groupBoundary g) s

/-- RANGE_SWITCH (R149). -/
def execRangeSwitch (sl : Slice) (s : State) : Host.Outcome State Fault Refusal := runField (Field.rangeSwitch sl) s

/-- WINDOW_CLOSE_BY_TIME (R156). -/
def execWindowCloseByTime (c : Ctx) (s : State) : Host.Outcome State Fault Refusal := runField (Field.closeByTime c) s

/-- WINDOW_CLOSE_DEFERRED (R14). -/
def execWindowCloseDeferred (c : Ctx) (s : State) : Host.Outcome State Fault Refusal := runField (Field.closeHeld c) s

/-- URGENT_ENTRY_END (R116): the urgent entry has delivered its count. -/
def execUrgentEntryEnd (p : Prog) (s : State) : Host.Outcome State Fault Refusal :=
  runField (fun f => f.when ((f.prog p).urg.isSome) (Field.atBoundary p)) s

end Sys2Proof.Machine
end

