-- ==== Sys2Proof/Machine/Slice.lean ====
section
/-! DEFINITION. Samples on the slices (chapters 05-09): stage-1 outputs, the settling gate, settled samples, triggers and urgent
requests. -/

namespace Sys2Proof.Machine

open Sys2Proof

/-- Is blanking in effect for a context (R97)? -/
def Field.blanks (c : Nat) (f : Field) : Bool := f.gb F.EXC_BLANK_STAT_ACTIVE && f.cb (F.CTX_CFG_BLANK_EN c)

/-- Is a stage-1 period produced on an unclean clock (R357)? -/
def Field.uncleanNow (f : Field) : Bool := f.onFrc || f.degraded

/-- Is a sample of context c: also within S stage-1 periods after the return to the PLL (R357)? -/
def Field.unclean (c : Nat) (lean : Bool) (f : Field) : Bool :=
  f.uncleanNow || (match f.returnAt with
    | some t => decide (f.time - t < f.settleCount (f.ctx c).chain (f.ctx c).est.isSome * 32 * clockTicks lean)
    | none => false)

/-- The chain takes one stage-1 output (R123, R136); `live`: the count of the settling goes on, and the estimate in force is noted where
it changed. Stage 2 delivers at its rate (R125-R127). -/
def Field.pushSample (s c : Nat) (i q : Int) (sat live : Bool) (f : Field) : Field :=
  let ch := (f.ctx c).chain
  let d := f.d2 ch.s2
  let keep := f.settleCount ch false + d + 1
  let est := (f.ctx c).est
  let demod := f.c (F.CTX_DEMOD_SRC c) != 0
  f.modSlice s fun r =>
    let hi := (i :: r.histI).take keep
    let hq := if demod then (q :: r.histQ).take keep else []
    let ph := if r.ph + 1 < d then r.ph + 1 else 0
    let s2 (hist old : List Int) : List Int :=
      if hist.length ≤ f.span2 ch.s2 then [] else if ph = 0 then (f.x2 ch hist 0 :: old).take 65535 else old
    let r := { r with histI := hi, histQ := hq, histS := (sat :: r.histS).take keep, ph := ph, s2I := s2 hi r.s2I, s2Q := s2 hq r.s2Q }
    if live then
      { r with p1 := r.p1 + 1, since := r.since + 1,
               marks := if markAt r.marks (r.p1 + 1) = est then r.marks else (r.p1, est) :: r.marks }
    else r

/-- A blanked period ends (R98): it counts in the window; where blanking ends at this boundary, the release is a disturbance
unless the filter was frozen and nothing changed. With FREEZE = 0 the filter runs on the discarded stream. A run of consecutive outputs
ends (R92, R149). -/
def Field.blankedPeriod (s c : Nat) (i q : Int) (sat counts : Bool) (f : Field) : Field :=
  let f := f.when counts fun f =>
    (f.when f.uncleanNow fun f => f.flag c 10).modCtx c fun x =>
      { x with ovr := 0, open_ := 0, win := { x.win with blanked := min (2 ^ 32 - 1) (x.win.blanked + 1) } }
  let f := f.when (!f.cb (F.CTX_CFG_FREEZE c)) (Field.pushSample s c i q sat false)
  if f.blanks c then f
  else
    let broken := (f.slice s).broken || !f.cb (F.CTX_CFG_FREEZE c)
    (f.modSlice s fun r => { r with blanked := false, broken := false }).when broken (Field.restartSlice s c true)

/-- What a stage-1 output tells beside its sample (R75, R92, R138, R149, R162): over-range, an open input, the unsettled
count of the periods that lie after the pre-delay, the step straight to AR_MAX. A period in which the pre-delay ends is not counted
(log 48). -/
def Field.watch (s c p : Nat) (i q : Int) (f : Field) : Field :=
  let above := overRange i || (overRange q && f.c (F.CTX_DEMOD_SRC c) != 0)
  let f := f.when (above || f.gateHeld c) fun f => f.flag c 5
  let out := f.c (F.CTX_CFG_BURNOUT c) != 0 && above && (if f.cb (F.CTX_CFG_DIR c) then decide (i < 0) else decide (0 < i))
  let f := f.modCtx c fun x => { x with ovr := if above then x.ovr + 1 else 0, open_ := if out then x.open_ + 1 else 0 }
  let f := f.when (decide (4 ≤ (f.ctx c).open_)) fun f => (f.flag c 6).flag c 5
  let top := f.c (F.CTX_AR_AR_MAX c)
  let f := f.when (decide (4 ≤ (f.ctx c).ovr) && f.cb (F.CTX_AR_EN c) && f.seqRuns && !nbit (f.ctx c).win.flags 6 &&
    decide (f.rangeAct c < top)) fun f => f.modSlice s fun r => { r with pend := some (c, top) }
  f.when (!(f.slice s).gate && (f.prog p).preWas) fun f =>
    (f.when f.uncleanNow fun f => f.flag c 10).modCtx c fun x =>
      { x with win := { x.win with unsettled := min (2 ^ 32 - 1) (x.win.unsettled + 1) } }

/-- A change of DCB_FRZ takes effect at the next stage-2 output (R131), where this stage-1 output brings one. Unfreezing before the live mean has its K
outputs closes the gate until it has. -/
def Field.freezeEffect (s c : Nat) (f : Field) : Field :=
  let ch := (f.ctx c).chain
  let want := ch.dcbEn && f.cb (F.CTX_FILTER_DCB_FRZ c)
  if want == (f.ctx c).est.isSome ∨ (f.slice s).ph + 1 < f.d2 ch.s2 then f
  else if want then
    let d := match f.liveAt s ch with
      | some h => (h, f)
      | none => f.drawHeld (2 * ch.j + 1)
    d.2.modCtx c fun x => { x with est := some d.1 }
  else
    (f.modCtx c fun x => { x with est := none }).unfreeze s ch

/-- Does the entry in progress of a programme count in a dwell's judgement (R142)? -/
def Field.checkOk (p : Nat) (f : Field) : Bool :=
  (f.prog p).urg.isNone && f.cb (F.SEQTAB_W0_CHECK_OK (f.g (F.SEQ_PSTAT_ENTRY p)))

/-- The settled sample the chain delivers now (R132-R135). -/
def Field.chainOut (s c p : Nat) (f : Field) : ChainOut :=
  let ch := (f.ctx c).chain
  let r := f.slice s
  let demod := f.c (F.CTX_DEMOD_SRC c) != 0
  let vi := f.chainValue ch r.histI r.marks Held.i r.p1
  let vq := if demod then f.chainValue ch r.histQ r.marks Held.q r.p1 else 0
  let x := if !demod || ch.out = 0 then vi else if ch.out = 1 then vq else magnitude vi vq
  let lean := f.cb (F.SEQ_PROG_LEAN p)
  { ctx := c, x := x, s1 := f.s1Flag ch r.histS r.marks r.p1,
    s2 := f.s2Flag ch r.histI r.marks r.p1 || (demod && f.s2Flag ch r.histQ r.marks r.p1),
    dcb := f.dcbFlag ch r.histI r.marks Held.i r.p1 || (demod && f.dcbFlag ch r.histQ r.marks Held.q r.p1),
    clk := f.unclean c lean, p1 := r.p1, time := f.time, delay := f.delayClocks ch * clockTicks lean, check := f.checkOk p, forced := f.gateHeld c }

/-- Does the chain's output instant fall here, and may the sample leave (R136, R138)? First with the gate closed, then at the
chain's rate; inside the pre-delay it is discarded. Its flags mark the window in progress (R157). -/
def Field.outputDue (s c p : Nat) (f : Field) : Field :=
  let ch := (f.ctx c).chain
  let r := f.slice s
  let step := f.outStep ch
  let live := f.inEntry p && r.refSettled
  let emit (f : Field) : Field :=
    let o := f.chainOut s c p
    let f := f.modSlice s fun r =>
      { r with gate := true, thaw := false, fresh := false, moved := false, since := 0, ph := 0, outs := r.outs ++ [o] }
    f.when (r.role == .active) (Field.flagOut o)
  if r.gate then
    if r.since < step then f
    else if live && (f.prog p).preDone then emit f
    else f.modSlice s fun r => { r with since := 0 }
  else if r.thaw then
    if r.since < step then f
    else if live && (f.prog p).preDone && decide (f.liveCount ch ≤ r.p1) then emit f
    else f.modSlice s fun r => { r with since := 0 }
  else if live && (f.prog p).preDone && decide (f.settleCount ch (f.ctx c).est.isSome ≤ r.p1) then emit f
  else f

/-- A code that reads over-range where it must (R75): one within ±104 % gives way to one the specification does not name. -/
def Field.overCode (must : Bool) (x : Int) (f : Field) : Int × Field :=
  if must && !overRange x then
    let d := f.draw
    let v : Int := 7633634 + (d.1 / 2 % 754974 : Nat)
    (if d.1 % 2 = 0 then v else -v, d.2)
  else (x, f)

/-- A check slice, whose estimate was held until now, follows an unfreezing (R107, R131). -/
def Field.followThaw (s c : Nat) (f : Field) : Field :=
  let r := f.slice s
  f.when ((markAt r.marks r.p1).isSome && (f.ctx c).est.isNone) (Field.unfreeze s (f.ctx c).chain)

/-- Outputs outside an entry end the runs of consecutive ones that OPEN and the step to AR_MAX need (R92, R149). -/
def Field.breakRuns (c : Nat) (f : Field) : Field := f.modCtx c fun x => { x with ovr := 0, open_ := 0 }

/-- A live period ends with a sample (R136-R138): a waiting disturbance restarts the chain here, else the chain goes on. -/
def Field.livePeriod (s c p : Nat) (i q : Int) (sat : Bool) (f : Field) : Field :=
  let active := (f.slice s).role == .active
  let i := f.overCode (f.gateHeld c) i
  let q := i.2.overCode (f.gateHeld c) q
  let f := q.2.when active fun f => if f.inEntry p then f.watch s c p i.1 q.1 else f.breakRuns c
  let r := f.slice s
  if r.restart || (r.restartRef && r.refSettled) then f.restartSlice s c (r.restart || !r.fresh)
  else
    let f := if active then f.freezeEffect s c else f.followThaw s c
    (f.pushSample s c i.1 q.1 sat true).outputDue s c p

/-- A boundary that falls on this stage-1 boundary (R143, R144): a time-out, a context switched off, another look at an idle run. The
output that has just come belongs to what went before; that of the slice that shadows the programme comes after it. -/
def Field.boundaryHere (s p : Nat) (f : Field) : Field :=
  let due := f.progRuns p && (f.pstate p == 6 || f.boundaryDue p)
  let f := f.when due (Field.atBoundary p)
  f.when due fun f => f.each ((f.followers p).filter fun k => k != s && (f.slice k).p1 == 0) Field.disturb

/-- Stage 1 delivers at a stage-1 boundary (R123). `i`, `q`: the outputs of the two copies; `sat`: stage 1 clamped one. An entry that has
its samples ended when the last of them completed, before this output (R142). -/
def Field.stage1 (s : Nat) (i q : Int) (sat : Bool) (f : Field) : Field :=
  match f.follows s with
  | none => f
  | some p =>
    if !(f.slice s).on then f
    else
      let active := (f.slice s).role == .active
      let f := f.when (active && (f.prog p).endDue) (Field.atBoundary p)
      let f := f.modSlice s fun r => { r with here := false }
      let f := match (f.prog p).conn with
        | none => f
        | some c =>
          let f := if (f.slice s).blanked then f.blankedPeriod s c (clamp24 i) (clamp24 q) sat (active && f.inEntry p)
            else (f.livePeriod s c p (clamp24 i) (clamp24 q) sat).modSlice s fun r => { r with blanked := f.blanks c }
          f.when active fun f => (f.modProg p fun r => { r with preWas := r.preDone }).showState p
      f.when active (Field.boundaryHere s p)

/-- A sample both slices of a dwell settled at the same instant (R108): the first one starts the dwell's time; those of entries that
carry CHECK_OK count in its judgement (R142). -/
def Field.pairUp (ok : Bool) (f : Field) : Field :=
  match f.rot.lastA, f.rot.lastB with
  | some a, some b =>
    if a.ctx = b.ctx ∧ a.time = b.time then
      let x := tget (fun _ => {}) f.rot.acc a.ctx
      let x := if ok then { x with n := x.n + 1, a := x.a + a.x, b := x.b + b.x, wins := a.win :: x.wins.filter (· != a.win) } else x
      let start := match f.rot.start with
        | some t => some t
        | none => some f.time
      let f := { f with rot := { f.rot with acc := tput (fun _ => {}) f.rot.acc a.ctx x, start := start, lastA := none, lastB := none } }
      f.when (f.g F.SLICE_ROT_STAT_PHASE == 1) fun f => f.put F.SLICE_ROT_STAT_PHASE 2
    else f
  | _, _ => f

/-- A sample of the shadowed slice (`own`) or of the check slice enters the dwell's comparison (R108). -/
def Field.compare (o : ChainOut) (own : Bool) (x : Int) (f : Field) : Field :=
  let d : DwellSample := { ctx := o.ctx, time := o.time, x := x, win := f.winNo o.ctx }
  let f := if own then { f with rot := { f.rot with lastA := some d } } else { f with rot := { f.rot with lastB := some d } }
  f.pairUp o.check

/-- Is a slice the one the check slice shadows in a dwell? -/
def Field.shadowed (s : Nat) (f : Field) : Bool :=
  match f.checkSlice with
  | some k => (f.slice k).shadow == some s && decide (f.rot.stage = .dwell)
  | none => false

/-- Is a slice one of the two that a dwell judges? -/
def Field.judged (s : Nat) (f : Field) : Bool :=
  f.shadowed s || ((f.slice s).role == .check && (f.slice s).shadow.isSome && decide (f.rot.stage = .dwell))

/-- The calibrated code of a sample: 1 % of span more on a slice that INJECT has marked, in the dwell that judges it (R122). -/
def Field.biased (s : Nat) (x : Int) (f : Field) : Int :=
  if f.rot.bias.contains s && f.judged s then clamp24 (x + 146801) else x

/-- A settled sample leaves the chain and is calibrated (R139, R236); with a gate held open it reads over-range (R75). -/
def Field.settled (s : Nat) (f : Field) : Field :=
  match (f.slice s).outs, f.follows s with
  | o :: rest, some p =>
    let f := f.modSlice s fun r => { r with outs := rest }
    let e := f.calExact s o.ctx o.x
    let d := if f.noRatio o.ctx then (let d := f.draw; (signed 24 (d.1 % 2 ^ 24), d.2)) else (f.calCode o.ctx e, f)
    let e := if f.noRatio o.ctx then (d.1, 1) else e
    let x := f.biased s d.1
    let d := d.2.overCode o.forced x
    let e := if d.1 = x then e else (d.1, 1)
    let x := d.1
    let f := d.2
    if (f.slice s).role = .active then
      let f := f.when (f.shadowed s) (Field.compare o true x)
      let f := (f.decideRange s o.ctx e).when (f.inEntry p && (f.prog p).conn == some o.ctx) (Field.countSample p)
      f.accumulate o.ctx x (o.time - o.delay)
    else f.when (decide (f.rot.stage = .dwell)) (Field.compare o false x)
  | _, _ => f.modSlice s fun r => { r with outs := [] }

/-- A programme restarts its entry, for a trigger (R105): an urgent entry counts as completed (R117). -/
def Field.restartEntry (p : Nat) (f : Field) : Field :=
  let f := match (f.prog p).urg, f.progSlice p with
    | some _, some s => f.bump (F.SLICE_URGCOUNT_URG_DONE s)
    | _, _ => f
  match (f.prog p).urg with
  | some u => if u.waiting then f.waitAgain p else f.startHere p true
  | none => f.startHere p true

/-- A group realigns (R105): its programmes restart the entries in progress, unless every counted one waits (R145). -/
def Field.realign (g : Nat) (f : Field) : Field :=
  let ps := f.countedProgs g
  if !ps.isEmpty && ps.all (fun p => f.pstate p == 4) then f
  else f.each (allProgs.filter fun p => f.c (F.SEQ_PROG_GROUP p) == g && f.progRuns p && f.inEntry p) Field.restartEntry

/-- A trigger takes effect on one group (R105): only while armed; on the group's phase it only counts. SYNCOUT pulses for group 0. -/
def Field.triggerGroup (g : Nat) (onPhase : Bool) (f : Field) : Field :=
  if f.cb (F.SLICE_GRP_ARM g) then
    let f := (f.bump (F.SLICE_GRP_TRIGGERS g)).when (g == 0) fun f => { f with syncout := some f.time }
    let f := { f with trigSeen := nset f.trigSeen g }
    if onPhase then f
    else
      let f := f.when (!f.cb (F.SLICE_GRP_MODE g)) (Field.ownTell (F.SLICE_GRP_ARM g) 0)
      (f.put (F.SLICE_GRP_ALIGNED g) 1).realign g
  else f

/-- The oldest trigger takes effect (R104, R105). `phase`: the groups on whose stage-1 phase it falls, as bits. -/
def Field.trigger (phase : Nat) (f : Field) : Field :=
  match f.trigs with
  | [] => f
  | t :: rest =>
    { f with trigs := rest }.each (nbits 4 t.groups) fun g f => f.triggerGroup g (nbit phase g)

/-- URGSTAT shows the outcome of the most recent request (R116): of one that another has followed it shows nothing. -/
def Field.urgResult (k : Nat) (f : Field) : Field := f.when (f.urgReqs.isEmpty && !f.urgOver) (Field.put F.SLICE_URGSTAT_RESULT k)

/-- An urgent request is dropped (R116). -/
def Field.urgDrop (p c : Nat) (f : Field) : Field :=
  let f := match f.progSlice p with
    | some s => (f.bump (F.SLICE_URGCOUNT_URG_DROP s)).evt (R.pageSLICE s) 3
    | none => f
  ((f.bump (F.CTX_COUNTS_URG_DROP c)).evt (R.pageCTX c) 1).urgResult 2

/-- Is a migration of a programme in progress (R112, R116)? -/
def Field.migrating (p : Nat) (f : Field) : Bool :=
  f.rot.moves.any (fun m => m.1 == p) || f.rot.power.any (fun x => x.2 == some p)

/-- The urgent request that has been longest on its way reaches its slice and is judged once (R116, R145, R146). `early`: at least 2 µs of
pre-delay remain. That a request for a context whose CTRL.EN is 0 is inserted like any other is the model's choice (log 147). -/
def Field.urgArrive (early : Bool) (f : Field) : Field :=
  match f.urgReqs with
  | [] => f
  | (p, c, n) :: rest =>
    let f := { f with urgReqs := rest }
    let st := f.pstate p
    let elsewhere := match f.ctxSlice c with
      | some s => f.progSlice p != some s
      | none => false
    if f.progRuns p && !elsewhere && !f.migrating p && (st == 4 || (st == 1 && early)) then
      let f := (f.urgResult 1).modProg p fun r =>
        { r with urg := some { ctx := c, left := n, waiting := st == 4 }, preDone := true, preWas := true, endDue := false, tmo := false,
                 cut := false, off := true }
      (f.put (F.SEQ_PSTAT_STATE p) 5).switchTo p c true
    else f.urgDrop p c

/-- STAGE1_OUTPUT (R123). -/
def execStage1Output (sl : Slice) (i q : Int) (sat : Bool) (s : State) : Host.Outcome State Fault Refusal :=
  runField (Field.stage1 sl i q sat) s

/-- SETTLED_SAMPLE (R139). -/
def execSettledSample (sl : Slice) (s : State) : Host.Outcome State Fault Refusal := runField (Field.settled sl) s

/-- TRIGGER_TAKES_EFFECT (R105). -/
def execTriggerTakesEffect (phase : Fin 16) (s : State) : Host.Outcome State Fault Refusal := runField (Field.trigger phase) s

/-- URGENT_REQUEST_ARRIVAL (R116). -/
def execUrgentRequestArrival (early : Bool) (s : State) : Host.Outcome State Fault Refusal := runField (Field.urgArrive early) s

end Sys2Proof.Machine
end

