-- ==== Sys2Proof/Machine/Rotation.lean ====
section
/-! DEFINITION. Check rotation, self-tests, retirement and migration of slices (R107-R115, R118), and self-calibration
(R237-R240). -/

namespace Sys2Proof.Machine

open Sys2Proof

/-- Ticks of DEVICE.TIME in a millisecond (R361) and in an hour. -/
def msTicks : Nat := 24576
def hourTicks : Nat := 3600 * 24576000

/-- ROT_STAT.PHASE (R122). -/
def Field.phase (k : Nat) (f : Field) : Field := f.put F.SLICE_ROT_STAT_PHASE k

/-- Where rotation stands changes. -/
def Field.modRot (h : Rotation → Rotation) (f : Field) : Field := { f with rot := h f.rot }

/-- Of the GEN messages that one command leaves for a page the last counts: what changes at one moment is one update (R57). -/
def onceGens : List FMsg → List FMsg
  | [] => []
  | .gen p :: rest => if rest.contains (.gen p) then onceGens rest else .gen p :: onceGens rest
  | m :: rest => m :: onceGens rest

/-- A change whose updates of one page are one. -/
def Field.once (h : Field → Field) (f : Field) : Field :=
  let g := h f
  { g with out := f.out ++ onceGens (g.out.drop f.out.length) }

/-- DIAG or calibration has set the test DAC's code (R58, R93): while TDAC_USER = 0. -/
def Field.dacCode (v : Int) (f : Field) : Field := f.when (!f.cb F.XPT_CFG_TDAC_USER) (Field.ownTell F.EXC_TDAC_CODE (unsigned 12 v))

/-- Is the test DAC kept from DIAG and calibration (R109, R238)? -/
def Field.dacBarred (f : Field) : Bool := f.cb F.XPT_CFG_TDAC_USER || f.tdacFault

/-- R109 has run on a slice: `fail` is the first failing step, 0 for a pass, `dev` the step-3 deviation. Step 2 counts only where the test
DAC serves, INJECT makes step 3 fail once (R122), HEALTH records the result, and the DAC holds the code of step 2's second reading. -/
def Field.testVerdict (s fail dev : Nat) (f : Field) : Nat × Field :=
  let fail := if fail = 2 ∧ f.dacBarred then 0 else fail
  let fail := if f.rot.failNext.contains s ∧ (fail = 0 ∨ fail = 3) then 3 else fail
  let f := f.when (!f.dacBarred && fail != 1) (Field.dacCode (-800))
  let f := f.modRot fun r => { r with failNext := r.failNext.filter (· != s) }
  (fail, f.setRole s fun r => { r with lastTest := fail + 1, gainDev := dev })

/-- The cold spare, where no programme waits for it to connect (R112). -/
def Field.coldSpare (f : Field) : Option Nat := if f.rot.power.isSome then none else f.spareSlice

/-- The check slice, where no programme is about to move to it (R112, R113). -/
def Field.freeCheck (f : Field) : Option Nat := f.checkSlice.filter fun k => f.rot.moves.all fun m => m.2 != k

/-- The check slice shadows nothing, unless a programme is about to move to it. -/
def Field.unshadow (f : Field) : Field :=
  match f.freeCheck with
  | some k => if (f.slice k).shadow.isSome then f.setRole k fun r => { r with shadow := none, outs := [], gate := false } else f
  | none => f

/-- Rotation stops (R114, R118). -/
def Field.stopRotation (f : Field) : Field := (f.unshadow.modRot fun r => { r with stage := .dwell, acc := [], start := none }).phase 6

/-- May the check slice dwell on a programme (R108)? -/
def Field.eligible (p : Nat) (f : Field) : Bool :=
  f.progRuns p && (match f.progSlice p with
    | some s => f.cb (F.CTRL_EN (R.pageSLICE s))
    | none => false)

/-- The first programme from `p` on, in ascending order and wrapping, that the check slice may dwell on. -/
def Field.nextDwell (p : Nat) (f : Field) : Option Nat := ((List.range 16).map fun k => (p + k) % 16).find? fun q => f.eligible q

/-- May rotation run: enabled, DIAG running, a check slice enabled (R108, R114, R118)? -/
def Field.rotMay (f : Field) : Bool :=
  f.cb F.SLICE_ROT_CFG_EN && f.diagRuns && f.connected && (match f.checkSlice with
    | some k => f.cb (F.CTRL_EN (R.pageSLICE k))
    | none => false)

/-- Is a slice due for self-calibration (R239)? -/
def Field.calDue (s : Nat) (f : Field) : Bool := wbit (f.img.word R.CAL_DUE) s

/-- A procedure begins on slice `k` in role SELFTEST (R237). -/
def Field.beginCal (k : Nat) (paused : Bool) (f : Field) : Field :=
  let f := f.setRole k fun r => { r with role := .selftest, shadow := none, progValid := false, outs := [], gate := false }
  let f := { f with cal := { f.cal with running := some k, paused := paused, wanted := f.cal.wanted.filter (· != k) } }
  ((f.put F.CAL_STAT_RUNNING 1).put F.CAL_STAT_SLICE k).putb F.CAL_STAT_PATH_SKIPPED f.dacBarred

/-- A self-calibration within rotation (R239). -/
def Field.startCal (k phase : Nat) (stage : RotStage) (f : Field) : Field :=
  ((f.beginCal k false).modRot fun r => { r with stage := stage, subject := k }).phase phase

/-- The check slice begins a dwell on a programme (R107, R108): a self-calibration of the check slice goes first (R239, R240). -/
def Field.startDwell (p : Nat) (f : Field) : Field :=
  match f.checkSlice, f.progSlice p with
  | some k, some s =>
    let f := f.put F.SLICE_ROT_STAT_PROG p
    if f.cal.running.isNone && (f.cal.wanted.contains k || (f.cb F.CAL_AUTO_EN && f.calDue k)) then f.startCal k 3 .calCheck
    else
      let f := f.setRole k fun r =>
        { r with shadow := some s, on := true, restart := true, gate := false, outs := [], refSettled := (f.slice s).refSettled }
      let f := f.modRot fun r => { r with stage := .dwell, start := none, acc := [], lastA := none, lastB := none, plaus := [], overdue := false }
      if f.cal.running.isNone && f.cal.wanted.contains s then (f.modRot fun r => { r with stage := .calJoin }).phase 4 else f.phase 1
  | _, _ => f.stopRotation

/-- Rotation goes on with the first programme from `p` on (R108), idles where there is none, or stops. A dwell that the pair asks for
goes first (R346). A check slice that a programme is about to move to waits for that (R112). -/
def Field.rotate (p : Nat) (f : Field) : Field :=
  let asked := match f.rot.forPair with
    | some q => f.eligible q
    | none => false
  if f.checkSlice.isSome && f.freeCheck.isNone then f
  else if f.rotMay then
    match if asked then f.rot.forPair else f.nextDwell p with
    | some q => f.startDwell q
    | none => (f.unshadow.modRot fun r => { r with stage := .dwell, start := none, acc := [] }).phase 0
  else f.stopRotation

/-- The programme under dwell. -/
def Field.dwellProg (f : Field) : Nat := f.g F.SLICE_ROT_STAT_PROG

/-- Is a slice the spare that tests itself to become CHECK (R110)? It is no spare in use yet. -/
def Field.sparesTest (s : Nat) (f : Field) : Bool :=
  f.rot.subject == s && decide (f.rot.stage = .spareTest true ∨ f.rot.stage = .spareTest false)

/-- A slice retires (R110-R114): its page, the Larder and the faults of R114 show it. `src`: the source, SLICE or ROTATION. -/
def Field.retireSlice (s cause src : Nat) (inj : Bool) (f : Field) : Field :=
  let was := (f.slice s).role == .spare || f.sparesTest s
  let f := f.setRole s fun r =>
    { r with role := .retired, shadow := none, progValid := false, spared := false, on := false, outs := [], gate := false, pend := none }
  let f := (f.evt (R.pageSLICE s) 1 (inj := inj)).tell (.retire 0 s cause was inj)
  f.fault src (decide (f.inService ≤ 15)) s inj

/-- A slice that leaves its role retires for the reason it was marked with, or as failed (R112, R392); injected where INJECT provoked it
(R122). -/
def Field.retireDue (s : Nat) (inj : Bool) (f : Field) : Field :=
  let cause := tget (fun _ => 2) f.rot.causes s
  let inj := inj || f.rot.injured.contains s
  let f := f.modRot fun r => { r with causes := tput (fun _ => 2) r.causes s 2, injured := r.injured.filter (· != s) }
  f.retireSlice s cause (if cause = 1 then 49 else 48) inj

/-- The cold spare powers up and tests itself to become CHECK (R110-R112); rotation stops where none remains, or with DIAG lost, when no
R109 runs (R114). `heir`: it takes the role over from a retired slice (R113). -/
def Field.powerSpare (next heir : Bool) (f : Field) : Field :=
  match if f.diagGone then none else f.coldSpare with
  | some k =>
    let f := f.setRole k fun r => { r with role := .selftest, spared := false }
    (f.modRot fun r => { r with stage := .spareTest next, subject := k, heir := heir }).phase 3
  | none => f.stopRotation

/-- A programme is left without a slice (R112): it stops. -/
def Field.stopProg (p : Nat) (f : Field) : Field :=
  (f.modProg p fun r => { r with stopped := true, conn := none, urg := none }).put (F.SEQ_PSTAT_STATE p) 0

/-- The dwell on a programme that pauses ends without judgement (R128). -/
def Field.leaveDwell (p : Nat) (f : Field) : Field :=
  let shadows : Bool := match f.checkSlice with
    | some k => (f.slice k).shadow.isSome
    | none => false
  if f.rot.stage = .dwell ∧ f.dwellProg = p ∧ shadows then f.rotate (p + 1) else f

/-- SLICE[s].CTRL.EN = 0 takes effect (R118): the programme pauses, by-time windows carry GAP; a check slice pauses rotation. That an
urgent entry in progress ends there, counted neither as done nor as dropped, is the model's choice (log 111). -/
def Field.pauseSlice (s : Nat) (f : Field) : Field :=
  let r := f.slice s
  match r.role with
  | .active =>
    let f := f.modSlice s fun r =>
      { r with on := false, outs := [], gate := false, moved := r.gate, histI := [], histQ := [], histS := [], s2I := [], s2Q := [] }
    let f := match (f.prog r.prog).conn with
      | some c => f.breakRuns c
      | none => f
    let f := (f.put (F.SEQ_PSTAT_STATE r.prog) 0).modProg r.prog fun x => { x with urg := none, endDue := false, tmo := false, cut := false }
    let f := f.each (allCtxs.filter fun c => f.mayRun r.prog c && (f.ctx c).wcfg.byTime) fun c f => f.flag c 7
    f.leaveDwell r.prog
  | .check => f.stopRotation
  | _ => f

/-- SLICE[s].CTRL.EN = 1 takes effect (R118): the programme restarts its current entry with full pre-delay, or waits for its group again; a
context switch either way (R137). -/
def Field.resumeSlice (s : Nat) (f : Field) : Field :=
  let r := f.slice s
  match r.role with
  | .active =>
    if r.progValid && f.cb (F.SEQ_PROG_VALID r.prog) && !r.on then
      let f := f.modSlice s fun r => { r with on := true }
      let p := r.prog
      if (f.prog p).conn.isSome then
        let e := f.g (F.SEQ_PSTAT_ENTRY p)
        if f.cb (F.SEQTAB_W0_SYNC_WAIT e) && decide (f.g (F.SEQ_PSTAT_REMAIN p) = 0) then (f.restartChains p).goOn p e else f.startHere p true
      else f.startRun p
    else f.modSlice s fun r => { r with on := r.progValid }
  | .check => f.rotate f.dwellProg
  | _ => f

/-- Programme `p` moves to slice `k` (R113): EN goes with it, windows in progress carry SPARED. `spared`: from a retired
slice. A slice that has not settled starts to settle, and windows carry GAP (R112). The slice left holds no role it took over. A programme
that stood although enabled, its enable pending or its slice in a procedure, restarts (R45, R238). -/
def Field.migrate (p k : Nat) (spared : Bool) (f : Field) : Field :=
  let open_ := (f.progSlice p).any fun s => (f.slice s).gate
  let pend := (f.progSlice p).bind fun s => (f.slice s).pend
  let settled := (f.slice k).gate && f.follows k == some p
  let on := match f.progSlice p with
    | some s => (f.slice s).on
    | none => true
  let en := match f.progSlice p with
    | some s => f.c (F.CTRL_EN (R.pageSLICE s))
    | none => f.c (F.CTRL_EN (R.pageSLICE k))
  let ctxs := allCtxs.filter fun c => f.mayRun p c
  let f := match f.progSlice p with
    | some s => (f.setRole s fun r =>
        { r with role := .selftest, progValid := false, spared := false, outs := [], gate := false, pend := none }).put (F.STATUS_PENDING (R.pageSLICE s)) 0
    | none => f
  let f := f.ownTell (F.CTRL_EN (R.pageSLICE k)) en
  let f := f.setRole k fun r =>
    { r with role := .active, prog := p, progValid := true, shadow := none, spared := spared, on := on, outs := [],
             restart := r.restart || !settled, moved := open_ && !settled, pend := pend }
  let f := (f.modProg p fun r => { r with stopped := false }).evt (R.pageSLICE k) 2 (p2 := p)
  let f := f.each ctxs fun c f => f.flag c 8
  let f := f.when (!settled) fun f => f.each ctxs fun c f => f.flag c 7
  f.when (en == 1 && !on) (Field.resumeSlice k)

/-- The slice of a paused programme is ACTIVE again (R240). -/
def Field.calReturn (k : Nat) (f : Field) : Field :=
  let f := (f.setRole k fun r => { r with role := .active, progValid := true, on := false }).modProg (f.slice k).prog fun r => { r with stopped := false }
  { f with cal := { f.cal with paused := false } }

/-- A programme that a procedure paused restarts, where its EN is 1 (R118, R240). -/
def Field.calRestart (k : Nat) (f : Field) : Field := f.when (f.cb (F.CTRL_EN (R.pageSLICE k))) (Field.resumeSlice k)

/-- A procedure in hand is abandoned (R238): its previous values stay in use, and the slice remains due. -/
def Field.calAbandon (f : Field) : Field :=
  match f.cal.running with
  | some _ => { f with cal := { f.cal with running := none } }.put F.CAL_STAT_RUNNING 0 |>.put F.CAL_STAT_RESULT 4
  | none => f

/-- The slice of a procedure that is abandoned leaves it: that of a paused programme runs it again, others are CHECK (R238, R239). -/
def Field.dropCal (f : Field) : Field :=
  match f.cal.running with
  | some k =>
    if f.cal.paused then (f.calAbandon.calReturn k).calRestart k
    else (f.calAbandon.setRole k fun r => { r with role := .check }).modRot fun r => { r with stage := .dwell }
  | none => f

/-- A disagreement in hand is given up for a sudden fault (R113), and a procedure (R238). A check slice under test is CHECK again and
leaves the shadow it rejoined; that a freed slice under test becomes CHECK, its test not ended, is the model's choice (log 110). A spare
under test goes on with it, for it becomes CHECK only after R109. -/
def Field.abandon (f : Field) : Field :=
  let k := f.rot.subject
  let f := f.dropCal
  match f.rot.stage with
  | .checkTest | .freedTest =>
    (f.when ((f.slice k).role == .selftest) (Field.setRole k fun r => { r with role := .check })).modRot fun r =>
      { r with stage := .dwell, acc := [], start := none }
  | .rejoin | .calJoin => f.unshadow.modRot fun r => { r with stage := .dwell, acc := [], start := none }
  | _ => f

/-- An ACTIVE slice is faulty (R112): where its programme goes, by the first row that applies. A check slice and a spare that other
programmes wait for are none. The settled check slice keeps its shadow until the move, and its dwell has ended. -/
def Field.moveRole (p s : Nat) (inj : Bool) (f : Field) : Field :=
  let ready := match f.freeCheck with
    | some k => (f.slice k).shadow == some s && (f.slice k).gate
    | none => false
  let f := if ready then f.modRot fun r => { r with stage := .dwell } else f.abandon
  let f := f.when inj fun f => f.modRot fun r => { r with injured := s :: r.injured }
  match ready, f.freeCheck, f.coldSpare with
  | true, some k, _ => (f.modRot fun r => { r with moves := r.moves ++ [(p, k)], acc := [], start := none }).phase 4
  | _, _, some k => f.modRot fun r => { r with power := some (k, some p) }
  | _, some k, none => f.stopRotation.modRot fun r => { r with moves := r.moves ++ [(p, k)] }
  | _, none, none => ((f.retireDue s inj).stopProg p).phase 6

/-- The programmes that were to move to a slice: they lose it and look for another (R112). -/
def Field.waitingFor (k : Nat) (f : Field) : List Nat :=
  ((f.rot.moves.filter fun m => m.2 == k).map (·.1)) ++ (match f.rot.power with
    | some (j, some p) => if j = k then [p] else []
    | _ => [])

/-- A slice proves faulty that programmes were to move to: their own faulty slices keep them until they find another (R112). -/
def Field.reassign (ps : List Nat) (f : Field) : Field :=
  f.each ps fun p f => match f.progSlice p with
    | some s => f.moveRole p s false
    | none => f

/-- A slice of the given role proves faulty (R112, R238). -/
def Field.sliceFails (s : Nat) (inj : Bool) (f : Field) : Field :=
  let r := f.slice s
  let ps := f.waitingFor s
  let f := f.modRot fun x => { x with
    moves := x.moves.filter fun m => m.2 != s
    power := x.power.filter fun y => y.1 != s }
  match r.role with
  | .active => if r.progValid then f.moveRole r.prog s inj else f.retireDue s inj
  | .check => (((f.abandon).retireDue s inj).reassign ps).powerSpare false true
  | .selftest =>
    let stage := f.rot.stage
    let handled := f.rot.subject == s && decide (stage ≠ .dwell)
    let heir := if f.sparesTest s then f.rot.heir else decide (stage = .checkTest ∨ stage = .calCheck)
    let paused := f.cal.paused && f.cal.running == some s
    let f := f.when (f.cal.running == some s) Field.calAbandon
    if paused then (f.calReturn s).moveRole r.prog s inj
    else
      let f := f.retireDue s inj
      if handled then (f.modRot fun r => { r with stage := .dwell }).powerSpare false heir else f
  | .spare => (f.retireDue s inj).reassign ps
  | .retired => f

/-- MODSTAT, EVT_RAW and HEALTH show a detector (R112, R122). -/
def Field.showDetector (s : Nat) (stuck inj : Bool) (f : Field) : Field :=
  let f := (f.put (if stuck then F.SLICE_MODSTAT_STUCK s else F.SLICE_MODSTAT_INSTABLE s) 1).evt (R.pageSLICE s)
    (if stuck then 5 else 4) (inj := inj)
  let f := f.when (!stuck) fun f => f.put (F.SLICE_MODSTAT_RESETS s) (min 255 (f.g (F.SLICE_MODSTAT_RESETS s) + 3))
  f.setRole s fun r => { r with lastTest := if stuck then 5 else 6 }

/-- INSTABLE or STUCK fires (R112), on any slice but a retired one; a slice that is about to leave its role does so all the same. -/
def Field.detector (s : Nat) (stuck inj : Bool) (f : Field) : Field :=
  let r := f.slice s
  let leaving := f.rot.moves.any (fun m => f.progSlice m.1 == some s) || (match f.rot.power with
    | some (_, some p) => f.progSlice p == some s
    | _ => false)
  if r.role = .retired then f else (f.showDetector s stuck inj).when (!leaving) (Field.sliceFails s inj)

/-- A programme's move is carried out at a stage-1 boundary (R110, R112, R239), while the SEQ engine runs. -/
def Field.migration (p : Nat) (f : Field) : Field :=
  if !f.seqRuns then f
  else match f.rot.moves.find? fun m => m.1 == p with
    | some m =>
      let old := f.progSlice p
      let f := f.when (f.cal.running == some m.2) Field.dropCal
      let f := (f.modRot fun r => { r with moves := r.moves.filter fun x => x.1 != p }).migrate p m.2 true
      let f := match old with
        | some s => f.retireDue s false
        | none => f
      f.powerSpare false false
    | none =>
      match f.checkSlice, f.progSlice p with
      | some k, some s =>
        let mine := f.diagRuns && f.dwellProg == p && (f.slice k).gate && (f.slice k).shadow == some s
        if mine && decide (f.rot.stage = .rejoin) then
          (f.migrate p k false).modRot (fun r => { r with stage := .freedTest, subject := s }) |>.phase 5
        else if mine && decide (f.rot.stage = .calJoin) then (f.migrate p k false).startCal s 5 .calFreed
        else f
      | _, _ => f

/-- A powered-up cold spare connects (R115): the programme moves to it and settles; the faulty slice retires. A dwell that was given up, or
was on the slice that retires, is repeated (R113). -/
def Field.spareConnected (k : Nat) (f : Field) : Field :=
  match f.rot.power with
  | some (j, some p) =>
    if j = k ∧ f.seqRuns then
      let old := f.progSlice p
      let f := (f.modRot fun r => { r with power := none }).tell (.spareIn 0 k)
      let f := f.migrate p k true
      let f := match old with
        | some s => f.retireDue s false
        | none => f
      let idle := match f.checkSlice with
        | some c => (f.slice c).shadow.isNone || (f.slice c).shadow == old
        | none => true
      if idle && decide (f.rot.stage = .dwell) then f.unshadow.rotate f.dwellProg else f
    else f
  | _ => f

/-- Do the means of a judged context differ by more than PLAUS (R108, R154)? -/
def Field.disagrees (c : Nat) (a : DwellAcc) (f : Field) : Bool :=
  let lim := (tget (fun _ => none) f.rot.plaus c).getD (f.c (F.CTX_PLAUS_LIMIT c))
  let clean := a.wins.all fun w => !a.flagged.contains w && !(w == f.winNo c && f.dirty c)
  decide (8 ≤ a.n) && clean && decide (lim ≠ 0) && decide (lim * 14680064 * a.n < (a.a - a.b).natAbs * 10 ^ 7)

/-- Has any judged context of the dwell failed (R108)? -/
def Field.dwellFails (f : Field) : Bool := f.rot.acc.any fun x => f.disagrees x.1 x.2

/-- The dwell's comparison marked by INJECT is used up (R122). -/
def Field.useBias (f : Field) : Field :=
  let judged := match f.checkSlice with
    | some k => [k, (f.slice k).shadow.getD 99]
    | none => []
  f.modRot fun r => { r with bias := r.bias.filter fun s => !judged.contains s }

/-- A dwell that the pair asked for tells its verdict (R346). -/
def Field.pairVerdict (fails : Bool) (f : Field) : Field :=
  if f.rot.forPair = some f.dwellProg then (f.modRot fun r => { r with forPair := none }).tell (.dwell fails) else f

/-- A disagreement of the pair asks for a dwell on the programme that runs a context, ahead of rotation order (R346). -/
def Field.askDwell (p : Nat) (f : Field) : Field :=
  let f := f.modRot fun r => { r with forPair := some p }
  if f.rot.stage = .dwell then f.unshadow.rotate p else f

/-- The dwell ends in disagreement: the handling of R110 begins with the check slice's self-test. -/
def Field.disagree (f : Field) : Field :=
  match f.checkSlice with
  | some k =>
    let f := f.pairVerdict true
    let s := (f.slice k).shadow.getD 0
    let inj := f.rot.bias.contains s || f.rot.bias.contains k
    let f := ((f.bump F.SLICE_ROT_COUNT_DISAGREE).evt (R.pageSLICE s) 0 (inj := inj)).useBias
    let f := f.setRole k fun r => { r with role := .selftest, shadow := none, outs := [], gate := false }
    (f.modRot fun r => { r with stage := .checkTest, subject := k }).phase 3
  | none => f

/-- The dwell passes: it counts; a self-calibration of the active slice begins (R239), or the check slice moves on. -/
def Field.dwellPasses (f : Field) : Field :=
  let p := f.dwellProg
  let f := ((f.pairVerdict false).bump F.SLICE_ROT_COUNT_DWELLS).useBias
  let due := match f.progSlice p with
    | some s => f.cb F.CAL_AUTO_EN && f.calDue s && f.cal.running.isNone
    | none => false
  if due then (f.modRot fun r => { r with stage := .calJoin }).phase 4 else f.rotate (p + 1)

/-- DWELL_END (R108): at a disagreement, else because DWELL is over. A requested self-calibration of the active slice ends the dwell
without judgement (R240). DIAG judges; while it restarts, the judgement waits for it (R16). -/
def Field.dwellEnd (f : Field) : Field :=
  if f.rot.stage = .dwell ∧ f.g F.SLICE_ROT_STAT_PHASE = 2 then
    if !f.diagRuns then f.modRot fun r => { r with overdue := true }
    else if f.dwellFails then f.disagree else f.dwellPasses
  else f

/-- DIAG runs again from its checkpoint (R16): a dwell that ended meanwhile is judged. -/
def Field.diagResumes (f : Field) : Field :=
  if f.rot.overdue then (f.modRot fun r => { r with overdue := false }).dwellEnd else f

/-- A strike of a slice (R110, R111): the third within 24 h retires it for wear, unless the Larder's veto defers that (R396). -/
def Field.strike (s : Nat) (f : Field) : Field :=
  let f := f.setRole s fun r => { r with strikes := f.time :: r.strikes }
  if (f.slice s).strikes.length < 3 then f.rotate (f.dwellProg + 1)
  else if nbit f.veto 0 then
    (if f.deferred.contains (0, s) then f else { f with deferred := f.deferred ++ [(0, s)] }.tell (.defer 0 s true)).rotate
      (f.dwellProg + 1)
  else (f.retireSlice s 1 49 false).powerSpare true true

/-- The freed slice has retired: the slice that runs its programme holds a role taken over from a retired slice (R113). -/
def Field.tookOver (f : Field) : Field :=
  match f.progSlice f.dwellProg with
  | some k =>
    let f := f.modSlice k fun r => { r with spared := true }
    f.tell (.slice k (f.slice k).kept)
  | none => f

/-- A slice self-test ends (R109, R110): `fail` is the first failing step, 0 for a pass; `dev` the step-3 deviation. A check slice that passes
with its EN at 0 rejoins nothing: rotation is paused (R118). -/
def Field.selfTestDone (s fail dev : Nat) (f : Field) : Field :=
  let stage := f.rot.stage
  let testing := decide (stage = .checkTest ∨ stage = .freedTest ∨ stage = .spareTest true ∨ stage = .spareTest false)
  if f.rot.subject = s ∧ (f.slice s).role = .selftest ∧ testing ∧ f.diagRuns then
    let inj := f.rot.failNext.contains s
    let v := f.testVerdict s fail dev
    let f := v.2
    let pass := v.1 == 0
    match stage, pass with
    | .checkTest, true =>
      if !f.cb (F.CTRL_EN (R.pageSLICE s)) then (f.setRole s fun r => { r with role := .check }).stopRotation
      else
      let k := f.progSlice f.dwellProg
      let f := f.setRole s fun r => { r with role := .check, shadow := k, restart := true, gate := false, on := true }
      (f.modRot fun r => { r with stage := .rejoin }).phase 4
    | .checkTest, false => (f.retireSlice s 2 49 inj).powerSpare false true
    | .freedTest, true =>
      let f := (f.setRole s fun r => { r with role := .check }).bump F.SLICE_ROT_COUNT_UNRESOLVED
      (f.evt (R.pageSLICE s) 6).strike s
    | .freedTest, false => (f.retireSlice s 2 49 inj).tookOver.powerSpare true false
    | .spareTest next, true =>
      let f := (f.setRole s fun r => { r with role := .check, spared := f.rot.heir }).tell (.spareIn 0 s)
      f.rotate (f.dwellProg + (if next then 1 else 0))
    | .spareTest next, false => (f.retireSlice s 2 49 inj).powerSpare next f.rot.heir
    | _, _ => f
  else f

/-- The oldest strike expires, 24 h after it was recorded (R111). -/
def Field.strikeExpiry (s : Nat) (f : Field) : Field :=
  if (f.slice s).strikes = [] then f else f.setRole s fun r => { r with strikes := r.strikes.dropLast }

/-- A disturbance of a whole slice, for BRESET (R44): the chain restarts, and the programme restarts its entry unless its context is switched
off (R144), or waits for its group again (R145). -/
def Field.resetSlice (s : Nat) (f : Field) : Field :=
  let r := f.slice s
  let f := f.modSlice s fun r => { r with outs := [], pend := none }
  match r.role with
  | .active =>
    let p := r.prog
    if !(r.progValid && f.progRuns p) then f
    else if f.inEntry p then
      let f := f.each (allCtxs.filter fun c => f.running s == some c) Field.gapClose
      if (f.prog p).urg.any (·.waiting) then f.waitAgain p else f.startHere p true
    else f.restartChains p
  | .check => f.disturb s
  | _ => f

/-- INJECT of a SLICE page (R122). -/
def Field.sliceInject (s : Nat) (w : Word) (f : Field) : Field :=
  let f := f.when (wbit w 0) fun f => f.modRot fun r => { r with bias := r.bias ++ [s] }
  let f := f.when (wbit w 1) fun f => f.modRot fun r => { r with failNext := r.failNext ++ [s] }
  if wbit w 4 && wbit w 5 then
    (if (f.slice s).role = .retired then f else f.showDetector s false true).detector s true true
  else (f.when (wbit w 4) (Field.detector s false true)).when (wbit w 5) (Field.detector s true true)

/-- What ends a procedure, beside its values (R237, R238). -/
def Field.calEnds (k result : Nat) (f : Field) : Field :=
  { f with cal := { f.cal with running := none } }.put F.CAL_STAT_RUNNING 0 |>.put F.CAL_STAT_RESULT result |>.put F.CAL_STAT_SLICE k

/-- Does a found offset or gain lie outside the limits (R238)? Judged against the factory values, or against the last valid ones
while FACTORY_OK is 0. -/
def Field.calOff (k r : Nat) (ofs gain : Int) (f : Field) : Bool :=
  let ok := f.gb F.CAL_STAT_FACTORY_OK
  let old := f.selfCal k r
  let judged := ok || old.valid
  let o := if ok then f.fOfs k r else old.ofs
  let g := if ok then f.fGain k r else old.gain
  judged && (decide (14680064 < 10 ^ 4 * (ofs - o).natAbs) || decide (2 ^ 26 < 5000 * (gain - g).natAbs))

/-- The gains a procedure found (R237). -/
def Field.calGains (x : CalResult) (f : Field) : List (Option Int) :=
  (List.range 6).map fun r => f.foundGain r (x.plus.getD r 0) (x.minus.getD r 0)

/-- Values of a passed procedure come into force (R237, R238). -/
def Field.calTake (k : Nat) (x : CalResult) (f : Field) : Field :=
  let gs := f.calGains x
  (List.range 6).foldl (fun f r =>
    let v : SelfCal := { valid := true, ofs := x.zero.getD r 0, gain := ((gs.getD r none).getD 0), temp := x.temp, time := f.time }
    { f with cal := { f.cal with values := tput (fun _ => {}) f.cal.values (8 * k + r) v } }.tell (.selfCal (8 * k + r) v)) f

/-- Does the path check of step 4 pass on every range (R237)? -/
def Field.pathPasses (x : CalResult) (f : Field) : Bool :=
  let gs := f.calGains x
  (List.range 6).all fun r =>
    let ofs := x.zero.getD r 0
    let gain := (gs.getD r none).getD 0
    pathOk r ofs gain (pathCode r) (x.pathPlus.getD r 0) && pathOk r ofs gain (-pathCode r) (x.pathMinus.getD r 0)

/-- After a procedure whose slice stays healthy, by the occasion it had (R239, R240). -/
def Field.calResume (k : Nat) (f : Field) : Field :=
  if f.cal.paused then (f.calReturn k).calRestart k
  else (f.setRole k fun r => { r with role := .check }).rotate (f.dwellProg + b2n (decide (f.rot.stage = .calFreed)))

/-- A procedure's slice proves faulty (R237, R238): it retires, and a spare takes its place where there is one. `src`: the source, ROTATION for a
failed R109, which R110 handles. -/
def Field.calFails (k src : Nat) (inj : Bool) (f : Field) : Field :=
  if f.cal.paused then (f.calReturn k).moveRole (f.slice k).prog k inj
  else
    let freed := decide (f.rot.stage = .calFreed)
    let f := (f.retireSlice k 2 src inj).when freed Field.tookOver
    (f.modRot fun r => { r with stage := .dwell }).powerSpare freed (!freed)

/-- SELF_CAL_DONE (R237, R238). -/
def Field.selfCalDone (x : CalResult) (f : Field) : Field :=
  match f.cal.running with
  | none => f
  | some k =>
    if !f.diagRuns then f
    else
      let skipped := f.gb F.CAL_STAT_PATH_SKIPPED
      let injT := f.rot.failNext.contains k
      let v := (f.put F.CAL_TEMP_TEMP (unsigned 16 (10 * x.temp))).testVerdict k x.selfTest x.dev
      let f := v.2
      if v.1 ≠ 0 then (f.calEnds k 4).calFails k 49 injT
      else
        let injO := f.cal.failOfs
        let injP := f.cal.failPath && !skipped
        let f := { f with cal := { f.cal with failOfs := false } }
        let gs := f.calGains x
        let off := (List.range 6).any fun r => match gs.getD r none with
          | some g => f.calOff k r (x.zero.getD r 0) g
          | none => true
        if injO || off then
          ((((f.calEnds k 2).bump F.CAL_COUNT_REJECT).evt R.pageCAL 1 (inj := injO)).fault 51 false k injO).calFails k 48 injO
        else
          let f := f.when (!skipped) (Field.dacCode (-2000))
          let f := { f with cal := { f.cal with failPath := f.cal.failPath && skipped } }
          if injP || (!f.pathPasses x && !skipped) then
            (((f.calEnds k 3).evt R.pageCAL 2 (inj := injP)).fault 51 false k injP).calFails k 48 injP
          else
            let f := (((f.calEnds k 1).bump F.CAL_COUNT_DONE).evt R.pageCAL 0).calTake k x
            (f.put ⟨R.CAL_DUE, k, 1⟩ 0).calResume k

/-- Does R239 make a slice due, at a field-die temperature in 0.1 °C? -/
def Field.dueNow (s : Nat) (temp : Int) (f : Field) : Bool :=
  (List.range 6).any fun r =>
    let v := f.selfCal s r
    !v.valid || decide (f.c F.CAL_AUTO_INTERVAL * hourTicks < f.time - v.time) ||
      decide (10 * f.c F.CAL_AUTO_DT < (temp - 10 * v.temp).natAbs)

/-- CAL_DUE (R239): DUE shows the slice's state at the measured temperature; EVT_RAW.DUE sets where rotation stands and the slice is ACTIVE
as it becomes due. -/
def Field.becomesDue (s : Nat) (temp : Int) (f : Field) : Field :=
  let f := f.put F.CAL_TEMP_TEMP (unsigned 16 temp)
  if f.dueNow s temp == f.calDue s then f
  else
    let due := f.dueNow s temp
    let f := f.put ⟨R.CAL_DUE, s, 1⟩ (b2n due)
    f.when (due && (f.slice s).role == .active && f.g F.SLICE_ROT_STAT_PHASE == 6) fun f => f.evt R.pageCAL 3 (p2 := s)

/-- Would CAL.RUN be refused with reason BLOCK (R240)? -/
def Field.calRefused (s : Nat) (pause : Bool) (f : Field) : Bool :=
  f.cal.running.isSome || (match (f.slice s).role with
    | .check => false
    | .active =>
      match f.checkSlice with
      | some k => f.rot.stage != .dwell || !(f.slice k).gate
      | none => !pause
    | _ => true)

/-- DIAG is lost (R15, R114): rotation stops, a disagreement in hand and a procedure are given up, and R110 no longer runs; a spare under test
is the cold spare again. -/
def Field.diagLost (f : Field) : Field :=
  let k := f.rot.subject
  let f := f.when (f.sparesTest k && (f.slice k).role == .selftest) (Field.setRole k fun r => { r with role := .spare, spared := false })
  { f with diagGone := true }.abandon.stopRotation

/-- CAL.RUN is accepted (R240). While the CHECK slice's EN is 0, PHASE goes on reading 6 (R118). -/
def Field.calRun (s : Nat) (f : Field) : Field :=
  match (f.slice s).role, f.checkSlice with
  | .check, _ =>
    let f := { f with cal := { f.cal with wanted := f.cal.wanted ++ [s] } }
    let en := f.cb (F.CTRL_EN (R.pageSLICE s))
    f.when ((f.g F.SLICE_ROT_STAT_PHASE == 0 || f.g F.SLICE_ROT_STAT_PHASE == 6) && f.freeCheck.isSome) fun f => f.startCal s (if en then 3 else 6) .calCheck
  | .active, some _ =>
    let p := (f.slice s).prog
    if f.dwellProg = p then (f.useBias.modRot fun r => { r with stage := .calJoin }).phase 4
    else { f with cal := { f.cal with wanted := f.cal.wanted ++ [s] } }
  | .active, none =>
    let p := (f.slice s).prog
    ((f.pauseSlice s).beginCal s true).modSlice s fun r => { r with prog := p }
  | _, _ => f

/-- INJECT of the CAL page (R241). -/
def Field.calInject (w : Word) (f : Field) : Field :=
  { f with cal := { f.cal with failOfs := f.cal.failOfs || wbit w 1, failPath := f.cal.failPath || wbit w 2 } }

/-- DWELL_END (R108). -/
def execDwellEnd (s : State) : Host.Outcome State Fault Refusal := runField (Field.once Field.dwellEnd) s

/-- SLICE_SELFTEST_DONE (R109). -/
def execSliceSelftestDone (sl : Slice) (fail : Fin 4) (dev : Fin 65536) (s : State) : Host.Outcome State Fault Refusal :=
  runField (Field.once (Field.selfTestDone sl fail dev)) s

/-- MIGRATION (R113). -/
def execMigration (p : Prog) (s : State) : Host.Outcome State Fault Refusal := runField (Field.once (Field.migration p)) s

/-- STRIKE_EXPIRY (R111). -/
def execStrikeExpiry (sl : Slice) (s : State) : Host.Outcome State Fault Refusal := runField (Field.strikeExpiry sl) s

/-- SLICE_DETECTOR_FIRES (R112). -/
def execSliceDetectorFires (sl : Slice) (stuck : Bool) (s : State) : Host.Outcome State Fault Refusal :=
  runField (Field.once (Field.detector sl stuck false)) s

/-- COLD_SPARE_CONNECTED (R115). -/
def execColdSpareConnected (sl : Slice) (s : State) : Host.Outcome State Fault Refusal := runField (Field.once (Field.spareConnected sl)) s

/-- CAL_DUE (R239). -/
def execCalDue (sl : Slice) (temp : Int) (s : State) : Host.Outcome State Fault Refusal := runField (Field.becomesDue sl temp) s

/-- SELF_CAL_DONE (R238). -/
def execSelfCalDone (r : CalResult) (s : State) : Host.Outcome State Fault Refusal := runField (Field.once (Field.selfCalDone r)) s

end Sys2Proof.Machine
end

