-- ==== Sys2Proof/Machine/View.lean ====
section
/-! DEFINITION. What a read of a register shows (R48-R57): words kept in the register files, and the words that are computed
from state when they are read. -/

namespace Sys2Proof.Machine

open Sys2Proof

/-- A word of 32 bits from its value. -/
def word (n : Nat) : Word := BitVec.ofNat 32 n

/-- Fields laid side by side: (lowest bit, value). -/
def pack (l : List (Nat × Nat)) : Nat := l.foldl (fun a x => a + x.2 * 2 ^ x.1) 0

/-- The programmes whose entries, or urgent contexts, name a context whose S2 selects FIR set u (R128). -/
def Field.filtProgs (u : Nat) (f : Field) : List Nat :=
  let sel := allCtxs.filter fun c => f.c (F.CTX_FILTER_S2 c) == 16 + u
  allProgs.filter fun p => sel.any fun c => f.mayRun p c

/-- Is FIR set u in use (R128)? -/
def Field.filtInUse (u : Nat) (f : Field) : Bool :=
  (f.filtProgs u).any fun p => match f.progSlice p with
    | some s => f.cb (F.CTRL_EN (R.pageSLICE s)) || f.gb (F.STATUS_BUSY (R.pageSLICE s))
    | none => false

/-- Does slice s run with its settling gate open? -/
def Field.gateOpen (s : Nat) (f : Field) : Bool := (f.slice s).gate && (f.running s).isSome

/-- Words of terminal and crosspoint pages computed from the routing (R77, R78). -/
def Field.termView (n off : Nat) (f : Field) : Option Nat :=
  match off with
  | 0x11 =>
    let w := (f.img.word (R.TERM_CELLSTAT n)).toNat
    some (pack [(0, w % 16), (4, b2n (f.sourceOn n != 0)), (5, b2n (f.inputsOf n != 0)), (6, w / 64 % 4), (8, n / 8),
      (12, f.sourceOn n)])
  | 0x12 => some (f.inputsOf n % 2 ^ 32)
  | 0x13 => some (f.inputsOf n / 2 ^ 32)
  | _ => none

/-- Words of a slice page computed from its run state (R95, R101, R107, R122). -/
def Field.sliceView (s off : Nat) (f : Field) : Option Nat :=
  let r := f.slice s
  match off with
  | 0x02 =>
    let w := (f.img.word (R.STATUS (R.pageSLICE s))).toNat
    some (pack [(0, w % 4), (3, b2n r.spared), (4, b2n r.refSettled), (5, b2n (f.gateOpen s)),
      (6, b2n (match f.follows s with | some p => f.cb (F.SEQ_PROG_LEAN p) | none => false)), (7, b2n r.shadow.isSome),
      (8, b2n (r.role == .selftest))])
  | 0x10 => some (pack [(0, roleCode r.role), (8, if r.progValid then r.prog else 0), (15, b2n r.progValid),
      (16, r.shadow.getD 0x1F)])
  | 0x11 => some (pack [(0, min 15 r.strikes.length), (4, r.lastTest % 16), (16, r.gainDev % 2 ^ 16)])
  | 0x41 =>
    let w := (f.img.word R.SLICE_ROT_STAT).toNat
    some (pack [(0, if f.rolesBack then f.checkSlice.getD 0x1F else 0x1F), (8, if f.rolesBack then f.spareSlice.getD 0x1F else 0x1F),
      (16, w / 2 ^ 16 % 2 ^ 16)])
  | _ => none

/-- Words of a filter page computed from the configuration (R128, R140). -/
def Field.filtView (u off : Nat) (f : Field) : Option Nat :=
  match off with
  | 0x02 => some (pack [(0, (f.img.word (R.STATUS (R.pageFILT u))).toNat % 4), (4, f.g (F.FILT_INFO_READY u)), (5, b2n (f.filtInUse u))])
  | 0x14 =>
    let ps := (f.filtProgs u).foldl (fun a p => a + 2 ^ p) 0
    some (pack [(0, ps), (16, (allCtxs.filter fun c => f.c (F.CTX_FILTER_S2 c) == 16 + u).length)])
  | _ => none

/-- Words of a context page computed from where it runs (R154, R168, R169). -/
def Field.ctxView (c off : Nat) (f : Field) : Option Nat :=
  match off with
  | 0x1E =>
    let s := f.ctxSlice c
    let p := s.bind fun k => f.follows k
    some (pack [(0, f.g (F.CTX_CTXSTAT_RANGE_ACT c)), (4, b2n s.isSome),
      (5, b2n (match s with | some k => f.gateOpen k | none => false)),
      (6, b2n (match p with | some q => (f.prog q).urg.any fun u => u.ctx == c | none => false)), (8, p.getD 0), (16, s.getD 0x1F)])
  | _ => none

/-- Are a context's threshold states held (R168): gate closed, blanked, paused or disabled? -/
def Field.thHeld (c : Nat) (f : Field) : Bool :=
  match f.ctxSlice c with
  | some s => !f.gateOpen s || (f.slice s).blanked
  | none => true

/-- Self-calibrated and factory values as CAL.SEL selects them (R234, R241). -/
def Field.calView (sel : Word) (off : Nat) (f : Field) : Option Nat :=
  let s := wbits sel 0 5
  let r := wbits sel 8 3
  let v := f.selfCal s r
  match off with
  | 0x11 => some (unsigned 24 (f.fOfs s r))
  | 0x12 => some (unsigned 24 (f.fGain s r))
  | 0x13 => some (unsigned 24 v.ofs)
  | 0x14 => some (unsigned 24 v.gain)
  | 0x15 => some (if v.valid then pack [(0, 1), (8, unsigned 8 v.temp), (16, min 65535 ((f.time - v.time) / hourTicks))] else 0)
  | 0x16 => some (if r = 6 then unsigned 24 (f.fShunt s) else 0)
  | 0x17 => some (unsigned 24 (f.refCal 0))
  | 0x18 => some (unsigned 24 (f.refCal 1))
  | _ => none

/-- The words the field die computes where they are read. -/
def Field.view (sel : Word) (a : Nat) (f : Field) : Option Nat :=
  let off := a % 256
  match pageKind (a / 256) with
  | .term n => f.termView n off
  | .slice s => f.sliceView s off
  | .filt u => f.filtView u off
  | .ctx c => f.ctxView c off
  | .cal => f.calView sel off
  | .exc => if off = 0x39 then some (pack [(16, b2n (f.cb F.XPT_CFG_TDAC_USER))]) else none
  | .xpt =>
    if off = 0x30 then some ((allTerms.filter fun n => f.sourceOn n != 0).foldl (fun a n => a + 2 ^ n) 0)
    else if off = 0x31 then some ((allTerms.filter fun n => f.inputsOf n != 0).foldl (fun a n => a + 2 ^ n) 0)
    else none
  | .seq =>
    if 0x40 ≤ off ∧ off ≤ 0x43 then
      let g := off - 0x40
      some (pack [(16, (allProgs.filter fun p => f.pstate p == 4 && (f.progSlice p).isSome && f.c (F.SEQ_PROG_GROUP p) == g).foldl
        (fun a p => a + 2 ^ p) 0)])
    else none
  | _ => none

/-- Registers of field pages that STATE frames carry across (R168, R179): the logic die shows its own copy. -/
def stateCopied (a : Nat) : Bool :=
  let off := a % 256
  match pageKind (a / 256) with
  | .term _ => [0x24, 0x25, 0x26, 0x27, 0x28, 0x34, 0x35, 0x44, 0x45, 0x53].contains off
  | .fsup => decide (0x18 ≤ off ∧ off ≤ 0x1B)
  | .ctx _ => off == 0x36
  | _ => false

/-- Registers of field pages whose one home is the logic die: event causes, refusals, generations, snapshot and lifetime
groups, validation results, refusal counts of filter sets. -/
def logicHome (a : Nat) : Bool :=
  let off := a % 256
  match pageKind (a / 256) with
  | .seqtab => true
  | .ctx _ => [0x03, 0x07, 0x08].contains off || decide (0x37 ≤ off ∧ off ≤ 0x60)
  | .xpt => [0x03, 0x07, 0x08, 0x32].contains off
  | .seq => [0x03, 0x07, 0x08, 0x44].contains off
  | .fsup => [0x03, 0x07, 0x08, 0x2A].contains off
  | .reflex => [0x03, 0x07, 0x08, 0xD6].contains off
  | .filt _ => [0x03, 0x07, 0x08, 0x15].contains off
  | _ => [0x03, 0x07, 0x08].contains off

/-- The offsets of a terminal's page that belong to a function (R183, R201, R215): they read 0 on a terminal with another. -/
def functionOff (off fn : Nat) : Bool :=
  if off < 0x20 then true
  else if off < 0x30 then fn == 1
  else if off < 0x40 then isDo fn
  else if off < 0x50 then isAo fn
  else true

/-- The blocks whose configured registers go by CELL.FUNC, the rest of them by the function in effect (R201, R215); a digital input's all go by
FUNC_ACT (R183). What FUNC_ACT counts with the link down: log 106. -/
def heldOff (off : Nat) : Bool := decide (0x30 ≤ off)

/-- Which bits of a register the host writes. -/
def writeMask (a : Nat) : Nat :=
  match regRow a with
  | some r => match r.acc with
    | .rw => r.mask
    | _ => 0
  | none => 0

/-- The page whose STATUS.FAULT a source shows on (R370). Sources without an instance of their own show on the page the latest
event's parameter names: terminal, slice or context. -/
def sourcePage (i param check : Nat) : Nat :=
  if i < 8 then R.pageCLOCK else if i < 16 then R.pageLARDER
  else if i < 24 then [R.pageDEVICE, R.pageCELLAR, R.pageHOST, R.pagePAIR, R.pageLOFT, R.pageSEQ, R.pageSLICE check, R.pageFSUP].getD (i - 16) 0
  else if i < 27 then R.pageBARRIER else if i = 27 then R.pageHOST else if i < 31 then R.pagePAIR
  else if i < 36 then R.pageWDOG else if i < 40 then R.pageDEVICE else if i < 44 then R.pageFSUP
  else if i < 48 then R.pageTERM (param % 32)
  else match i with
    | 48 | 49 | 55 => R.pageSLICE (param % 18)
    | 50 | 52 => R.pageEXC
    | 51 => R.pageCAL
    | 53 => R.pageSEQ
    | 54 => R.pageCTX (param % 128)
    | _ => if i < 61 then R.pageCELLAR else R.pageLARDER

/-- STATUS.FAULT of a page (R51). Of a source that several pages share, the page its latest event names (the model's choice, log 173). -/
def State.faultOn (page : Nat) (s : State) : Bool :=
  (List.range 64).any fun i => s.ld.severe i &&
    sourcePage i (tget (fun _ => 0) s.ld.faults.params i) (s.fd.checkSlice.getD 0) == page

/-- Does a role run on another core than the factory's (R51)? -/
def Logic.roleSpared (r : Nat) (l : Logic) : Bool := l.core r != coreFactory r && !nbit l.cores.lost r

/-- STATUS.SPARED of a page for a resource that is no slice or segment (R51, R60, R96, R365, R400): a role on the spare core shows on
the page R370 gives it, but DIAG's on none, where SPARED tells of the slice. -/
def Logic.sparedOn (page : Nat) (l : Logic) : Bool :=
  match pageKind page with
  | .larder => l.mram.larder.retired != []
  | .barrier => nbit (l.g F.BARRIER_LINK_LANES) 2
  | .clock => l.clocks.hfrcB
  | .exc => l.mram.larder.primary != 0
  | .device => l.roleSpared 0
  | .host => l.roleSpared 2
  | .pair => l.roleSpared 3
  | .loft => l.roleSpared 4
  | .seq => l.roleSpared 5
  | .fsup => l.roleSpared 7
  | _ => false

/-- WEAR of the lanes (R397): the errors in the worst 1 ms of the last second on a lane in service. -/
def Logic.laneWear (l : Logic) : Nat :=
  let now := l.bar.laneErrs.filter fun x => decide (l.time ≤ x.1 + secondTicks) && l.gb (laneBit x.2.1)
  (now.map fun x => x.2.2).foldl max 0 * 128

/-- The deviation of the HFRC in service in its last monitor window, in ppm, and WEAR from it (R351, R397): 4096 cycles of ROOT while
that is healthy, 64 of LPO otherwise, and within the limit of the window while the HFRC is healthy. -/
def Logic.hfrcWear (l : Logic) : Nat :=
  let k := b2n l.clocks.hfrcB
  let root := l.gb (clockOk 0)
  let dev := Sys2Proof.Config.hfrcDeviation k (l.time / (if root then 2048 else 48000))
  (if l.gb (clockOk (2 + k)) then min dev (if root then 30000 else 100000) else dev) * 1024 / 30000

/-- RES[k] (R390, R397). SPARE_PCT stops at what its 8 bits hold (the model's choice, log 174). -/
def State.resWord (k i : Nat) (s : State) : Nat :=
  let l := s.ld
  let row := fun (m : Memory) => (l.mem.counts.filter fun x => x.1.1 == m).foldl (fun a x => max a x.2.length) 0
  let lim := max 1 (l.g F.LARDER_CFG_ROW_LIM)
  let wear := match k with
    | 0 => ((allSlices.map s.fd.slice).map fun r => if r.role = .spare ∨ r.role = .retired then 0 else r.strikes.length).foldl max 0 *
        1024 / 3
    | 3 => l.laneWear
    | 6 => l.hfrcWear
    | 4 => ((allTerms.map fun n => s.fd.g (F.TERM_DO_RON_WORST n)).foldl max 1024 - 1024) * 2
    | 5 => (signed 16 (s.fd.g F.EXC_REF_DIFF)).natAbs * 1024 / 300
    | 7 => row .wsram * 1024 / lim | 8 => row .ckptL * 1024 / lim | 9 => row .ckptF * 1024 / lim
    | 10 => row .cellar * 1024 / lim | 11 => row .mram * 1024 / lim | 12 => row .fsram * 1024 / lim
    | _ => 0
  let total := (kindFigures k).1
  match i with
  | 0 => total
  | 1 => l.inSvc k
  | 2 => pack [(0, l.spares k), (16, total - l.inSvc k - l.spares k)]
  | _ =>
    let st := if l.inSvc k < (kindFigures k).2.1 then 3 else if l.spares k = 0 then 2
      else if 768 ≤ wear || l.larder.pending.any (fun x => x.1 == k) then 1 else 0
    pack [(0, st), (8, min 255 (l.sparePct k)), (16, min 65535 wear)]

/-- Words of a big-endian number: the i-th of n words. -/
def numWord (n i v : Nat) : Nat := v / 2 ^ (32 * (n - 1 - i)) % 2 ^ 32

/-- The byte string of words. -/
def crateHash (ws : List Word) : Nat := if ws = [] then 0 else Sys2Proof.Config.sha384 ws % 2 ^ 384

/-- The slot of a label: 0 ACTIVE, 1 PENDING, 2 FALLBACK, 3 SPARE (R311). -/
def Mram.label (k : Nat) (m : Mram) : Nat := match k with | 0 => m.active | 1 => m.pending | 2 => m.fallback | _ => m.spare

/-- A slot's content. -/
def Mram.slot (p : Nat) (m : Mram) : Slot := tget (fun _ => {}) m.slots p

/-- The header words of a crate (R306). -/
def crateCounter (ws : List Word) : Nat := (ws.getD 3 0#32).toNat
def crateFloor (ws : List Word) : Nat := (ws.getD 4 0#32).toNat
def crateFlags (ws : List Word) : Nat := wbits (ws.getD 1 0#32) 16 8
def crateTarget (ws : List Word) : Nat := wbits (ws.getD 5 0#32) 24 8
def crateSerialA (ws : List Word) : Nat := (ws.getD 6 0#32).toNat * 2 ^ 32 + (ws.getD 7 0#32).toNat
def crateSerialB (ws : List Word) : Nat := (ws.getD 8 0#32).toNat * 2 ^ 32 + (ws.getD 9 0#32).toNat
def crateRecords (ws : List Word) : Nat := (ws.getD 10 0#32).toNat
def crateCredMin (ws : List Word) : Nat := (ws.getD 11 0#32).toNat

/-- A slot's signature and counter conditions of R311; its checks 1-9 are judged where it is used. -/
def Mram.slotValid (p : Nat) (m : Mram) : Bool :=
  let s := m.slot p
  s.readable && s.ok && s.words != [] && m.owner == some s.signer && s.signer != 0 && decide (m.floor ≤ crateCounter s.words)

/-- The DEVICE registers that show MRAM and OTP (R278, R315, R317). -/
def Logic.deviceView (off : Nat) (l : Logic) : Option Nat :=
  let m := l.mram
  let ctr := fun k => crateCounter (m.slot (m.label k)).words
  match off with
  | 0x19 => some m.epoch
  | 0x20 => some (l.time % 2 ^ 32)
  | 0x21 => some (l.time / 2 ^ 32 % 2 ^ 32)
  | 0x30 => some (Sys2Proof.Config.serial % 2 ^ 32)
  | 0x31 => some (Sys2Proof.Config.serial / 2 ^ 32 % 2 ^ 32)
  | 0x42 => some l.crate.fill
  | 0x43 => some (pack ((List.range 4).map (fun k => (2 * k, m.label k % 4)) ++
      (List.range 4).map fun k => (8 + k, b2n (m.slotValid (m.label k)))))
  | 0x44 => some (ctr 0) | 0x45 => some (ctr 1) | 0x46 => some (ctr 2)
  | 0x47 => some m.floor
  | 0x54 => some (pack [(0, b2n l.sess.cur.isSome), (1, b2n l.sess.old.isSome), (2, l.g F.DEVICE_SESS_STAT_REKEY_WARN),
      (3, b2n l.sess.hand.isSome)])
  | 0x55 => some (match l.sess.cur with | some x => x.top | none => 0)
  | 0x57 => some (crateCredMin (m.slot m.active).words)
  | _ => if 0x48 ≤ off ∧ off ≤ 0x53 then some (numWord 12 (off - 0x48) (crateHash (m.slot m.active).words)) else none

/-- Ticks in 60 s. -/
def minuteTicks : Nat := 60 * 24576000

/-- Does a detector's condition hold on (R295)? When it ends is a free value (log 144). -/
def Logic.stillFires (d : Nat) (l : Logic) : Bool :=
  let t := tget (fun _ => 0) l.cellar.firing d
  decide (l.time ≤ t + Sys2Proof.Config.firingFor d t)

/-- The CELLAR registers computed where they are read (R295). -/
def Logic.cellarView (off : Nat) (l : Logic) : Option Nat :=
  let sel := l.g F.CELLAR_CERT_SEL_CERT
  match off with
  | 0x12 => some ((nbits 11 (l.regs.word R.CELLAR_DETSTAT).toNat).filter l.stillFires |>.foldl nset 0)
  | 0x16 => some (match l.cellar.hold with | some t => min 65535 ((t - l.time) / 24576) | none => 0)
  | 0x15 => some (pack [(0, min 255 (l.cellar.authTimes.filter fun t => decide (l.time - t ≤ minuteTicks)).length),
      (16, l.g F.CELLAR_AUTHFAIL_TOTAL)])
  | 0x17 => some (match l.sess.cur with | some x => x.role | none => 0)
  | 0x18 =>
    let m := l.mram
    let own := if m.owner.isSome then 2 ^ m.ownerSlot else 0
    let pair := if m.pairKey.isSome then 2 ^ m.pairSlot else 0
    let con := (m.keys.map fun x => 2 ^ tget (fun k => k) m.keySlots x.1).foldl (· + ·) 0
    some (pack [(0, own), (2, pair), (4, con), (16, l.spares 13), (20, (l.mram.larder.retired.filter fun x => x.1 == 13).length)])
  | 0x59 => some (Sys2Proof.Config.certLen sel % 2 ^ 16)
  | _ =>
    if 0x20 ≤ off ∧ off ≤ 0x2B then some (numWord 12 (off - 0x20) Sys2Proof.Config.rootHash)
    else if 0x30 ≤ off ∧ off ≤ 0x47 then some (numWord 24 (off - 0x30) Sys2Proof.Config.idPub)
    else if 0x48 ≤ off ∧ off ≤ 0x53 then
      some (match l.mram.owner with
        | some k => numWord 12 (off - 0x48) (Sys2Proof.Config.sha384 ((List.range 24).map fun i => word (numWord 24 i k)))
        | none => 0)
    else if 0x60 ≤ off ∧ off ≤ 0x7F then
      let i := l.g F.CELLAR_CERT_SEL_BASE + (off - 0x60)
      some (if i < Sys2Proof.Config.certLen sel then (Sys2Proof.Config.cert sel i).toNat else 0)
    else none

/-- A record's words (R381, R386). -/
def LoftRec.words (r : LoftRec) : List Nat :=
  if r.bad then List.replicate 8 0xFFFFFFFF
  else
    let q := r.req
    let flags := b2n q.injected + 2 * b2n q.severe + 4 * b2n q.field + 8 * b2n q.late + 16 * b2n q.partner
    [pack [(16, q.code), (8, flags), (0, q.source % 256)], q.time / 2 ^ 32 % 2 ^ 32, q.time % 2 ^ 32, r.seq, q.p0, q.p1, q.p2, r.check]

/-- The LOFT registers computed where they are read (R389). -/
def Logic.loftView (off : Nat) (l : Logic) : Option Nat :=
  let m := l.mram.loft
  match off with
  | 0x11 => some m.recs.length
  | 0x12 => some m.dropped
  | 0x13 => some m.next
  | 0x17 => some m.clears
  | _ =>
    if 0x40 ≤ off ∧ off ≤ 0x7F then
      let i := off - 0x40
      some (match m.recs[l.g F.LOFT_RD_IDX_INDEX + i / 8]? with
        | some r => (r.words.getD (i % 8) 0) % 2 ^ 32
        | none => 0)
    else none

/-- Bit sets of the FAULT page (R380): of 64 sources, half h, the STAT bit. -/
def Logic.faultBits (bit h : Nat) (l : Logic) : Nat :=
  (List.range 32).foldl (fun a i => if l.gb ⟨R.FAULT_SRC_STAT (32 * h + i), bit, 1⟩ then a + 2 ^ i else a) 0

/-- WDOG STATUS bits (R379). -/
def wdogRunning : Fld := ⟨R.STATUS R.pageWDOG, 4, 1⟩
def wdogHalted : Fld := ⟨R.STATUS R.pageWDOG, 5, 1⟩
def wdogClkAlt : Fld := ⟨R.STATUS R.pageWDOG, 6, 1⟩

/-- Does the watchdog count the LPO (R366)? -/
def Logic.wdogOnLpo (l : Logic) : Bool := l.gb F.WDOG_CFG_CLKSEL != l.gb wdogClkAlt

/-- A free count over a time, by a clock within some per cent of 32.768 kHz. -/
def Logic.looseCount (percent e : Nat) (l : Logic) : Nat :=
  let lo := e * (100 - percent) / 75000
  lo + Sys2Proof.Config.free l.draws % (e * (100 + percent) / 75000 - lo + 1)

/-- The window's count c (R366, R367), below CLOSE: from where the clock in service took it over, TIMEBASE ÷ 750, or on LPO a free count within its
±5 %. A failed LPO's consumers count HFRC ÷ 1500 (R354), within ±2 % (R350), and while TIMEBASE itself runs from the HFRC the same count as
that. -/
def Logic.wdogCount (l : Logic) : Nat :=
  let e := l.time - l.wdog.opened
  let c := if !l.wdogOnLpo then e / 750
    else if l.gb (clockOk 4) then l.looseCount 5 e
    else if l.gb F.CLOCK_SRCSTAT_DEGRADED then e / 750
    else l.looseCount 2 e
  if l.wdog.running then min (l.wdog.base + c) (l.wdog.close - 1) else 0

/-- The watchdog's clock is about to change: the next one carries on at the count reached (R366). -/
def Logic.wdogCarry (l : Logic) : Logic :=
  if l.wdog.running then
    { l with wdog := { l.wdog with base := l.wdogCount, opened := l.time }, draws := if l.wdogOnLpo then l.draws + 1 else l.draws }
  else l

/-- What the LPO's consumers count is about to change (R354, R366). -/
def Logic.lpoMoves (l : Logic) : Logic := l.when l.wdogOnLpo Logic.wdogCarry

/-- DEGTIME's ticks now (R365). -/
def Logic.degTicks (l : Logic) : Nat :=
  l.clocks.degTicks + (match l.clocks.degradedAt with | some t => l.time - t | none => 0)

/-- The pages whose EVT_ACT is non-zero (R52). -/
def Logic.activePages (l : Logic) : List Nat :=
  (l.regs.filter fun x => x.1 % 256 == 3 && pageKind (x.1 / 256) != .seqtab && (x.2 &&& l.regs.word (x.1 + 1)) != 0#32).map (·.1 / 256)

/-- HOST.SUMMARY (R265). -/
def Logic.summary (l : Logic) : Nat :=
  let ps := l.activePages
  let has := fun (a b : Nat) => b2n (ps.any fun p => decide (a ≤ p ∧ p ≤ b))
  pack ((List.range 16).map (fun p => (p, b2n (ps.contains p))) ++
    [(16, has 0x20 0x3F), (17, has 0x40 0x51), (18, has 0x58 0x5F), (19, has 0x80 0xFF), (24, l.g F.HOST_ERR_REASON)])

/-- Is nURG asserted: ROOT or PLL has failed (R352), or a source's URG reaction stands (R373)? -/
def Logic.urgent (l : Logic) : Bool := l.clocks.urg || (List.range 64).any fun i => l.gb (F.FAULT_SRC_STAT_URG i)

/-- nIRQ asserts (R263): an EVT_ACT is non-zero, from the end of step 8a of start-up on. -/
def Logic.irqPin (l : Logic) : Bool := decide (1 ≤ l.boot.logic) && l.activePages != []

/-- nURG asserts (R263): a cause of it stands, from the end of step 8a of start-up on. -/
def Logic.urgPin (l : Logic) : Bool := decide (1 ≤ l.boot.logic) && l.urgent

/-- What CLKOUT carries (R363): a low level, the root, TIMEBASE ÷ 24 (both of the source in service, on the HFRC while the logic die is
`degraded`), or a 1 kHz wave at its level. -/
inductive ClkOut where
  | low
  | root (degraded : Bool)
  | divided (degraded : Bool)
  | kilohertz (level : Bool)
  deriving DecidableEq, Repr

/-- CLKOUT (R363). The wave rises at the tick at which DEVICE.TIME reaches or passes a multiple of 24 576; it falls half a period after,
which the model takes from "square wave" (DEDUCED, log 121). -/
def Logic.clkout (l : Logic) : ClkOut :=
  let d := l.gb F.CLOCK_SRCSTAT_DEGRADED
  match l.g F.CLOCK_CFG_CLKOUT with
  | 0 => .low | 1 => .root d | 2 => .divided d
  | _ => .kilohertz (decide (l.time % 24576 < 12288))

/-- The page's words that the logic die computes where they are read. -/
def State.logicView (a : Nat) (s : State) : Option Nat :=
  let off := a % 256
  match pageKind (a / 256) with
  | .device => s.ld.deviceView off
  | .cellar => s.ld.cellarView off
  | .loft => s.ld.loftView off
  | .host => if off = 0x17 then some s.ld.summary else none
  | .clock => if off = 0x14 then some (min 0xFFFFFFFF (s.ld.degTicks / 24576)) else none
  | .wdog => if off = 0x15 then some (pack [(0, s.ld.wdogCount), (24, s.ld.g F.WDOG_STATE_FIRSTWIN)]) else none
  | .fault => if 0x10 ≤ off ∧ off ≤ 0x15 then some (s.ld.faultBits (16 + (off - 0x10) / 2 + b2n (decide (4 ≤ off - 0x10))) (off % 2))
    else if off = 0x1A then some (pack [(0, b2n s.ld.errout), (1, b2n s.ld.minw), (8, s.ld.g F.FAULT_ERRSTAT_SOURCE)]) else none
  | .larder =>
    if 0x40 ≤ off ∧ off ≤ 0x77 then some (s.resWord ((off - 0x40) / 4) ((off - 0x40) % 4))
    else if off = 0x14 then some (pack [(0, min 65535 s.ld.larder.pending.length),
      (16, ((List.range 14).filter fun k => s.ld.larder.pending.any fun x => x.1 == k).foldl (fun a k => a + 2 ^ k) 0)])
    else if off = 0x16 then some (pack [(0, s.ld.mram.larder.copy), (1, s.ld.g F.LARDER_RECORD_REBUILT), (16, s.ld.mram.larder.writes)])
    else none
  | .barrier => if off = 0x10 then
      some ((s.ld.regs.word R.BARRIER_LINK).toNat % 2 ^ 8 / 2 * 2 + b2n s.ld.linkUp + min 255 (s.fd.snapq.length / 2) * 2 ^ 8) else none
  | .pair =>
    if off = 0x17 then some ((allTerms.filter fun n => (s.fd.term n).catch_ == .armed).foldl (fun a n => a + 2 ^ n) 0)
    else if off = 0x18 then some ((allTerms.filter fun n => (s.fd.term n).catch_ == .engaged).foldl (fun a n => a + 2 ^ n) 0)
    else none
  | _ => none

/-- Block-specific STATUS bits of a logic-die page and its BUSY, PENDING (R60, R295, R348, R365, R379, R389). -/
def Logic.statusOf (page : Nat) (l : Logic) : Nat :=
  let w := (l.regs.word (R.STATUS page)).toNat
  match pageKind page with
  | .barrier => pack [(0, w % 4), (4, b2n l.linkUp)]
  | .pair =>
    let r := l.g F.PAIR_STAT_ROLE
    pack [(0, w % 4), (4, b2n (r == 1)), (5, b2n (r == 2)), (6, l.g F.PAIR_STAT_LINK), (7, l.g F.PAIR_STAT_READY)]
  | .loft => pack [(0, w % 4), (4, b2n (l.mram.loft.recs.length == 8192)), (5, b2n (nbit l.cores.lost 4)), (6, b2n l.loft.check.isSome)]
  | .cellar => pack [(0, w % 4), (4, w / 16 % 2), (5, b2n l.mram.owner.isSome), (6, w / 64 % 32), (11, b2n l.cellar.hold.isSome)]
  | _ => w

/-- Does CTRL.EN of a field page act (R45)? The other pages' chapters give it no effect beyond the register, and R118 gives it none on a
slice that is neither ACTIVE nor CHECK. -/
def Field.enActs (page : Nat) (f : Field) : Bool :=
  match pageKind page with
  | .slice k => let r := (f.slice k).role; r == .active || r == .check
  | .term _ | .ctx _ | .xpt => true
  | _ => false

/-- Does a CTRL word wait for the field die that resets the page's block or shuts it down (R44, R45)? Until it has done so, BUSY reads 1. -/
def State.ctrlWaits (page : Nat) (s : State) : Bool :=
  s.ld.bar.cmds.any fun x => x.1 == R.CTRL page && (wbit x.2 1 || (!wbit x.2 0 && s.fd.cb (F.CTRL_EN page) && s.fd.enActs page))

/-- STATUS, CLASS and EVT_ACT of a page with a head (R51, R54). -/
def State.headWord (page off : Nat) (s : State) : Option Nat :=
  match off with
  | 0x02 =>
    let base := if onField (page * 256) then
        let shown := (s.fd.view 0#32 (R.STATUS page)).getD
          (if s.ld.linkUp then s.fd.img.word (R.STATUS page) else s.ld.regs.word (R.STATUS page)).toNat
        if s.ctrlWaits page then nset shown 0 else shown
      else s.ld.statusOf page
    let w := word base
    some (wset (wset w 2 1 (b2n (s.faultOn page))) 3 1 (b2n (wbit w 3 || s.ld.sparedOn page))).toNat
  | 0x05 => some ((s.ld.regs.word (R.EVT_RAW page)) &&& (s.ld.regs.word (R.EVT_EN page))).toNat
  | 0x07 =>
    let op := match s.ld.sess.cur with | some x => decide (2 ≤ x.role) | none => false
    some (wset (s.ld.regs.word (R.CLASS page)) 25 1 (b2n op)).toNat
  | _ => none

/-- The word a read of an address shows. Reserved offsets and pages and WO registers read 0 (R50). -/
def State.readWord (a : Nat) (s : State) : Word :=
  let page := a / 256
  match regRow a with
  | none => 0#32
  | some r =>
    if r.acc = .wo && a % 256 != 7 then 0#32
    else
      let head := if pageKind page ≠ .seqtab then s.headWord page (a % 256) else none
      match head with
      | some v => word v
      | none =>
        if onField a then
          let f := s.fd
          let off := a % 256
          let shown := match pageKind page with
            | .term n => functionOff off (if heldOff off && decide (writeMask a ≠ 0) then F.TERM_CELL_FUNC n |>.get s.ld.regs else f.func n)
            | _ => true
          if !shown then 0#32
          else
            let own := s.ld.regs.word a
            let m := writeMask a
            if logicHome a || stateCopied a then own
            else if !s.ld.linkUp then
              match pageKind page with
              | .term n => if off = 0x11 then wset own 8 2 (n / 8) else own
              | _ => own
            else
              let v := match f.view (s.ld.regs.word R.CAL_SEL) a with
                | some v => word v
                | none => f.img.word a
              (own &&& word m) ||| (v &&& ~~~ word m)
        else match s.logicView a with
          | some v => word v
          | none => s.ld.regs.word a

/-- A reading field of a register as the host sees it. -/
def State.read (x : Fld) (s : State) : Nat := wbits (s.readWord x.addr) x.lo x.len

end Sys2Proof.Machine
end

