-- ==== Sys2Proof/Machine/HostOps.lean ====
section
/-! DEFINITION. What a refused frame or word leaves (R54, R255, R261), sessions' rights (R283), and the Loft engine (chapter 22). -/

namespace Sys2Proof.Machine

open Sys2Proof

/-- How a write with a rule of its own is ruled: carried out, refused under R54 with a reason, or ineffective for a wrong key. -/
inductive Ruling where
  | done | refused (reason : Nat) | wrongKey
  deriving DecidableEq, Repr

/-- Reasons of R54. -/
def rClass : Nat := 1
def rRole : Nat := 2
def rLocked : Nat := 3
def rEncoding : Nat := 4
def rReadSession : Nat := 5
def rBlock : Nat := 6

/-- Refuse a command of the state's. -/
def State.deny (reason : Nat) (s : State) : Ruling × State := (.refused reason, s)

/-- Carry a command out. -/
def State.did (s : State) : Ruling × State := (.done, s)

/-- The page that counts a refusal: the SEQ page for a SEQTAB address (R48). -/
def refusalPage (a : Nat) : Nat := if pageKind (a / 256) = .seqtab then R.pageSEQ else a / 256

/-- A refusal is counted in CLASS of its page (R54). -/
def Logic.countRefusal (a reason : Nat) (l : Logic) : Logic :=
  let p := refusalPage a
  ((l.bump ⟨R.CLASS p, 0, 8⟩).put ⟨R.CLASS p, 8, 8⟩ (a % 256)).put ⟨R.CLASS p, 16, 3⟩ reason

/-- A frame ends in error (R255, R261): FERR, FERRCOUNT, HOST.ERR, the HOST events and source HOST_FRAME (R370). The first cause in the table's order is
recorded; a BUSY cause counts as well. What INJECT has provoked is marked so (R53). -/
def Logic.frameError (opcode : Nat) (causes : List (Nat × Nat)) (l : Logic) : Logic :=
  let inj := l.host.provoked
  let l := { l with host := { l.host with provoked := false } }
  match causes with
  | [] => l
  | c :: cs =>
    let first := cs.foldl (fun b x => if x.1 < b.1 then x else b) c
    let l := { l with host := { l.host with ferr := true } }
    let l := (((l.bump F.HOST_FERRCOUNT_FERR).put F.HOST_ERR_REASON first.1).put F.HOST_ERR_OPCODE opcode).put F.HOST_ERR_ADDR first.2
    let has := fun r => causes.any fun x => x.1 == r
    let l := (l.evt R.pageHOST 0 first.1 inj).fault 27 false none inj
    let l := l.when (has 4) fun l => (l.bump F.HOST_ANOMALY_FRAME_SHORT).evt R.pageHOST 1 (inj := inj)
    let l := l.when (has 6) fun l => (l.bump F.HOST_FERRCOUNT_BUSY).evt R.pageHOST 3
    let l := l.when (has 5) (Logic.evt R.pageHOST 4 (inj := inj))
    l.when (has 8) (Logic.evt R.pageHOST 5 (inj := inj))

/-- The role of the active session: 0 none, 1 Maintainer, 2 Operator, 3 Owner. -/
def Logic.role (l : Logic) : Nat := match l.sess.cur with | some x => x.role | none => 0

/-- May the session with this role and scope write SESSION registers of a page (R283)? -/
def roleReaches (role scope page : Nat) : Bool :=
  decide (2 ≤ role) || (role == 1 && nbit scope page && page != R.pageDEVICE && page != R.pageCELLAR)

/-- May a session of the active one's role and scope use a page? -/
def Logic.reaches (page : Nat) (l : Logic) : Bool :=
  match l.sess.cur with
  | some x => roleReaches x.role x.scope page
  | none => false

/-- Is a class recorded (R385)? Classes 0, 5 and 6 always are. -/
def Logic.classOn (c : Nat) (l : Logic) : Bool := c == 0 || c == 5 || c == 6 || nbit (l.g F.LOFT_CFG_RECORD) c

/-- Change what the Loft keeps in MRAM. -/
def Logic.loftKeep (h : LoftStore → LoftStore) (l : Logic) : Logic := l.keep fun m => { m with loft := h m.loft }

/-- A record is refused (R385): DROPPED counts it and the first refusal after a clear sets DROP. -/
def Logic.loftDrop (l : Logic) : Logic :=
  let n := l.mram.loft.dropped
  (l.loftKeep fun m => { m with dropped := min 0xFFFFFFFF (n + 1) }).when (n == 0) (Logic.evt R.pageLOFT 2)

/-- QUEUE shows the fill and its peak. -/
def Logic.showQueue (l : Logic) : Logic :=
  let n := l.loft.queue.length
  (l.put F.LOFT_QUEUE_FILL n).put F.LOFT_QUEUE_PEAK (max n (l.g F.LOFT_QUEUE_PEAK))

/-- Is a clear in hand, its chain check included (R388)? -/
def Logic.loftClearing (l : Logic) : Bool :=
  match l.loft.check with
  | some (clear, _, _) => clear
  | none => false

/-- An event reaches the LOFT engine (R385); while a clear is in hand it waits in the queue (R388). -/
def Logic.loftTake (r : LoftReq) (l : Logic) : Logic :=
  if (l.mram.loft.recs.length = 8192 ∧ !l.loftClearing) ∨ 64 ≤ l.loft.queue.length ∨ nbit l.cores.lost 4 ∨ !l.classOn (r.code / 4096) then l.loftDrop
  else ({ l with loft := { l.loft with queue := l.loft.queue ++ [r] } }).showQueue

/-- Of the events waiting, the one to be taken next: at one tick in ascending class and then SOURCE (R382). -/
def firstOf (l : List LoftReq) : Option LoftReq :=
  match l with
  | [] => none
  | r :: rs => some (rs.foldl (fun b x =>
      if x.time = b.time ∧ (x.code / 4096 < b.code / 4096 ∨ (x.code / 4096 = b.code / 4096 ∧ x.source < b.source)) then x else b) r)

/-- LOFT_RECORD (R385). -/
def Logic.loftRecord (l : Logic) : Logic :=
  match firstOf l.recs with
  | some r => ({ l with recs := l.recs.erase r }).loftTake r
  | none => l

/-- A record is written, read back, and the chain head advances (R382-R384). -/
def Logic.loftWrite (r : LoftReq) (l : Logic) : Logic :=
  let m := l.mram.loft
  if m.recs.length = 8192 then l.loftDrop
  else
    let late := match m.recs.getLast? with | some p => decide (r.time < p.req.time) | none => false
    let r := { r with late := r.late || late }
    let pre : LoftRec := { req := r, seq := m.next, check := 0 }
    let mac := Sys2Proof.Config.gmac Sys2Proof.Config.loftKey [word m.next, word m.clears, 0#32]
      ((pre.words.take 7).map word ++ (List.range 4).map fun i => word (numWord 4 i m.head))
    let l := l.loftKeep fun m =>
      { m with
        recs := m.recs ++ [{ req := r, seq := m.next, check := numWord 4 0 mac }]
        next := (m.next + 1) % 2 ^ 32, head := mac % 2 ^ 128 }
    let n := l.mram.loft.recs.length
    let warn := l.g F.LOFT_CFG_WARN
    let l := l.when (warn != 0 && n == warn) (Logic.evt R.pageLOFT 0)
    (l.when (n == 8192) (Logic.evt R.pageLOFT 1)).gen R.pageLOFT

/-- LOFT_RECORD_WRITTEN (R384): the queue waits while a clear is in hand (R388). -/
def Logic.loftWritten (l : Logic) : Logic :=
  if l.loftClearing || nbit l.cores.lost 4 then l
  else match l.loft.queue with
    | r :: q => (({ l with loft := { l.loft with queue := q } }).loftWrite r).showQueue
    | [] => l

/-- LOFT.CMD (R387-R389): bit 0 VERIFY, 1 CLEAR, 2 FORCE. The session's role has been judged. -/
def Logic.loftCmd (w : Word) (l : Logic) : Ruling × Logic :=
  let begin_ := fun (c f : Bool) => (Ruling.done,
    ({ l with loft := { l.loft with check := some (c, f, l.mram.loft.recs.length) } }).put F.LOFT_VSTAT_STATE 1)
  if wbit w 1 then
    if wbits w 16 16 ≠ 0x10F7 then (.refused rEncoding, l)
    else if l.g F.LOFT_VSTAT_STATE ≠ 0 then (.refused rBlock, l)
    else begin_ true (wbit w 2)
  else if l.g F.LOFT_VSTAT_STATE ≠ 0 then (.refused rBlock, l)
  else if wbit w 0 then begin_ false false
  else (.done, l)

/-- The chain check ends (R387, R388): the first record that does not verify among those it covers. A failed check without
FORCE refuses the clear. -/
def Logic.loftChecked (l : Logic) : Logic :=
  match l.loft.check with
  | none => l
  | some (clear, force, n) =>
    if l.g F.LOFT_VSTAT_STATE ≠ 1 then l
    else
      let rs := l.mram.loft.recs.take n
      let found := rs.findIdx? fun r => r.bad
      let inj := found.isNone && l.loft.failNext && n != 0
      let bad := if inj then some (n - 1) else found
      let l := { l with loft := { l.loft with failNext := false } }
      match bad with
      | none =>
        let l := (l.put F.LOFT_VSTAT_RESULT 1).evt R.pageLOFT 3
        if clear then l.put F.LOFT_VSTAT_STATE 2
        else ({ l with loft := { l.loft with check := none } }).put F.LOFT_VSTAT_STATE 0
      | some i =>
        let l := ((l.put F.LOFT_VSTAT_RESULT 2).put F.LOFT_VSTAT_FAIL_IDX i).evt R.pageLOFT 4 (inj := inj)
        let l := l.record { code := 5, source := R.pageLOFT, injected := inj, time := l.time, p0 := i,
                            p1 := match rs[i]? with | some r => r.seq | none => 0 }
        if clear && force then l.put F.LOFT_VSTAT_STATE 2
        else
          let l := ({ l with loft := { l.loft with check := none } }).put F.LOFT_VSTAT_STATE 0
          l.when clear fun l => (l.countRefusal R.LOFT_CMD rBlock).frameError 0x02 [(1, R.LOFT_CMD)]

/-- A clear completes (R388): the LOFT_CLEARED record is index 0, and the records that waited follow it. -/
def Logic.loftCleared (l : Logic) : Logic :=
  if l.g F.LOFT_VSTAT_STATE ≠ 2 then l
  else
    let m := l.mram.loft
    let forced := l.g F.LOFT_VSTAT_RESULT == 2
    let last := match m.recs.getLast? with | some r => r.seq | none => 0
    let l := l.loftKeep fun m =>
      { m with recs := [], dropped := 0, clears := (m.clears + 1) % 2 ^ 32, base := m.head }
    let l := l.loftWrite
      { code := 3, source := R.pageLOFT, severe := forced, time := l.time, p0 := m.recs.length, p1 := last, p2 := m.dropped }
    ({ l with loft := { l.loft with check := none } }).put F.LOFT_VSTAT_STATE 0 |>.evt R.pageLOFT 5

/-- At boot (R384): the record after the one the stored head covers is taken over where it reads intact, else discarded with a
TORN record. -/
def Logic.loftTorn (intact : Bool) (l : Logic) : Logic :=
  match l.mram.loft.flight with
  | none => l
  | some r =>
    let seq := l.mram.loft.next
    let l := l.loftKeep fun m => { m with flight := none }
    if intact then l.loftWrite r else (l.log 4 R.pageLOFT seq).evt R.pageLOFT 6

/-- LOFT_RECORD (R385). -/
def execLoftRecord (s : State) : Host.Outcome State Fault Refusal := runLogic Logic.loftRecord s

/-- LOFT_RECORD_WRITTEN (R384). -/
def execLoftRecordWritten (s : State) : Host.Outcome State Fault Refusal := runLogic Logic.loftWritten s

/-- LOFT_VERIFY_DONE (R387). -/
def execLoftVerifyDone (s : State) : Host.Outcome State Fault Refusal := runLogic Logic.loftChecked s

/-- LOFT_CLEAR_DONE (R388). -/
def execLoftClearDone (s : State) : Host.Outcome State Fault Refusal := runLogic Logic.loftCleared s

end Sys2Proof.Machine
end

