-- ==== Sys2Proof/Machine/Reflex.lean ====
section
/-! DEFINITION. The reflex matrix (R223-R227). -/

namespace Sys2Proof.Machine

open Sys2Proof

/-- The blank term: the line with its guard (R98, R99, R223). -/
def Field.blankTerm (f : Field) : Bool := f.exc.line || f.exc.guard

/-- The state a term reads, before INV (R223). -/
def Field.termState (kind index : Nat) (f : Field) : Bool :=
  match kind with
  | 1 => (f.ctx index).thA.state && f.cb (F.CTX_TH_A_CFG_EN index)
  | 2 => (f.ctx index).thB.state && f.cb (F.CTX_TH_B_CFG_EN index)
  | 3 => f.gb (F.TERM_DISTAT_VALID (index % 32)) && f.gb (F.TERM_DISTAT_STATE (index % 32))
  | 4 =>
    let g := index % 4
    match index / 4 % 4 with
    | 0 => f.gb (F.FSUP_GRP_STAT_WARN g)
    | 1 => f.gb (F.FSUP_GRP_STAT_LOW g)
    | _ => f.gb (F.FSUP_GRP_STAT_UV g)
  | 5 => f.blankTerm
  | _ => false

/-- A rule's four terms (R223). -/
def Field.ruleTerms (r : Nat) (f : Field) : List Nat :=
  [f.c (F.REFLEX_RULE_A_TERM0 r), f.c (F.REFLEX_RULE_A_TERM1 r), f.c (F.REFLEX_RULE_B_TERM2 r),
   f.c (F.REFLEX_RULE_B_TERM3 r)]

/-- Does a rule's condition hold (R224)? A rule without terms has no condition that holds. -/
def Field.ruleCond (r : Nat) (f : Field) : Bool :=
  let ts := ((f.ruleTerms r).filter fun t => t % 8 != 0).map fun t =>
    f.termState (t % 8) (t / 8 % 128) != decide (32768 ≤ t)
  ts != [] && (if f.cb (F.REFLEX_RULE_C_COMB r) then ts.any id else ts.all id)

/-- A rule becomes active or is no longer active: ACTIVE and LATCHED show it (R224), and GEN advances with
their group (R57). -/
def Field.setRule (r : Nat) (on : Bool) (f : Field) : Field :=
  let w := if r < 32 then R.REFLEX_ACTIVE_LO else R.REFLEX_ACTIVE_HI
  let l := if r < 32 then R.REFLEX_LATCHED_LO else R.REFLEX_LATCHED_HI
  ((f.putb ⟨w, r % 32, 1⟩ on).putb ⟨l, r % 32, 1⟩ (on && f.cb (F.REFLEX_RULE_C_LATCH r))).tell (.gen R.pageREFLEX)

/-- A rule releases (R227): its terminals take the next action. -/
def Field.releaseRule (r : Nat) (f : Field) : Field :=
  if f.ruleActive r then ((f.setRule r false).evt R.pageREFLEX 1 r).settleAll else f

/-- One rule's evaluation (R224, R226). -/
def Field.judgeRule (r : Nat) (f : Field) : Field :=
  if f.cb (F.REFLEX_RULE_C_EN r) then
    let c := f.ruleCond r
    let f := { f with ruleHeld := if c then nset f.ruleHeld r else nclr f.ruleHeld r }
    if f.ruleActive r && !c && !f.cb (F.REFLEX_RULE_C_LATCH r) then f.releaseRule r else f
  else f

/-- REFLEX_EVALUATION (R226): all 64 rules. -/
def Field.evaluate (f : Field) : Field := if f.configured then f.each (List.range 64) Field.judgeRule else f

/-- REFLEX_RULE_ACTIVE (R224, R225): the condition has held without a break for DELAY. -/
def Field.activate (r : Nat) (f : Field) : Field :=
  if f.configured && f.cb (F.REFLEX_RULE_C_EN r) && nbit f.ruleHeld r && f.ruleCond r && !f.ruleActive r then
    (((f.setRule r true).bump ⟨R.REFLEX_FIRES, 0, 16⟩).evt R.pageREFLEX 0 r).settleAll
  else f

/-- A cleared rule is judged afresh and its delay counts from the clear (R224). -/
def Field.clearRule (r : Nat) (f : Field) : Field :=
  if f.cb (F.REFLEX_RULE_C_LATCH r) then { f.releaseRule r with ruleHeld := nclr f.ruleHeld r } else f

/-- A write to CLR_LO (`base` 0) or CLR_HI (`base` 32). -/
def Field.clearRules (base : Nat) (w : Word) (f : Field) : Field :=
  f.each ((List.range 32).filter (wbit w)) fun k f => f.clearRule (base + k)

/-- A rule whose EN a crate cleared releases, latch included (R224). -/
def Field.dropRule (r : Nat) (f : Field) : Field :=
  if f.cb (F.REFLEX_RULE_C_EN r) then f else { f.releaseRule r with ruleHeld := nclr f.ruleHeld r }

/-- REFLEX_EVALUATION (R226). -/
def execReflexEvaluation (s : State) : Host.Outcome State Fault Refusal := runField Field.evaluate s

/-- REFLEX_RULE_ACTIVE (R224). -/
def execReflexRuleActive (r : Rule) (s : State) : Host.Outcome State Fault Refusal := runField (Field.activate r) s

end Sys2Proof.Machine
end

