-- ==== Sys2Proof/Machine/Blocks.lean ====
section
/-! DEFINITION. Block enable, disable and reset (R44-R46). -/

namespace Sys2Proof.Machine

open Sys2Proof

/-- A STATUS bit of a page, on the die that holds the block. -/
def State.status (page bit : Nat) (s : State) : Bool :=
  if onField (page * 256) then s.fd.gb ⟨R.STATUS page, bit, 1⟩ else s.ld.gb ⟨R.STATUS page, bit, 1⟩

/-- Set a STATUS bit of a page. -/
def State.setStatus (page bit : Nat) (b : Bool) (s : State) : State :=
  if onField (page * 256) then { s with fd := s.fd.putb ⟨R.STATUS page, bit, 1⟩ b } else s.onLd (Logic.putb ⟨R.STATUS page, bit, 1⟩ b)

/-- A context is enabled (R144, R168): its window goes on, and its switches take INIT. -/
def Field.enableCtx (c : Nat) (f : Field) : Field := (f.initTh c false).initTh c true

/-- The enable of a field block takes effect (R45). -/
def Field.enableBlock (page : Nat) (f : Field) : Field :=
  match pageKind page with
  | .slice k => f.resumeSlice k
  | .ctx c => f.enableCtx c
  | .term n => f.settle n
  | _ => f

/-- The shutdown of a field block starts (R46). -/
def Field.disableBlock (page : Nat) (f : Field) : Field :=
  match pageKind page with
  | .slice k => f.pauseSlice k
  | .ctx c => f.cutEntries c
  | .term n => f.settle n
  | _ => f

/-- The shutdown of a field block ends: the clamp and the ramp are over (R46, R191). -/
def Field.shutdownEnds (page : Nat) (f : Field) : Field :=
  match pageKind page with
  | .term n =>
    let f := f.when (isDo (f.func n) && !f.gb (F.TERM_DO_STAT_ON n)) (Field.put (F.TERM_DO_STAT_CLAMP n) 0)
    f.when (isAo (f.func n)) (Field.aoRampEnds n)
  | _ => f

/-- Run state of a field block returns to its reset state (R44): windows in progress close with GAP. A sine generator in its shutdown keeps it,
with a pending enable (R45). -/
def Field.resetBlock (page : Nat) (f : Field) : Field :=
  match pageKind page with
  | .term n => f.takeFunc n (f.func n)
  | .slice k => (f.resetSlice k).forget fun a => a == R.SLICE_MODSTAT k
  | .ctx c =>
    let f := ((f.gapClose c).modCtx c fun x => { x with est := none, lastA := none, down := 0, ovr := 0, open_ := 0 }).disturbCtx c
    (f.initTh c false).initTh c true
  | .seq => f.each (allProgs.filter fun p => f.progRuns p) Field.startRun
  | .exc => (f.each (List.range 4) fun k f =>
      if f.gb (F.EXC_SINE_STAT_BUSY k) || f.gb (F.EXC_SINE_STAT_PENDING k) then f
      else if f.cb (F.EXC_SINE_CTL_EN k) then f.sineStart k
      else f.put (F.EXC_SINE_STAT_RUNNING k) 0)
  | .reflex =>
    let f := f.each (List.range 64) Field.releaseRule
    { f with ruleHeld := 0 }
  | .cal => match f.cal.running with
    | some k => f.calEnds k 4
    | none => f
  | _ => f

/-- The watchdog's window in progress is abandoned without judgement, and judging resumes with a first window (R369). -/
def Logic.wdogAbandon (l : Logic) : Logic :=
  let w := l.wdog
  let l := ((l.put F.WDOG_SERVED_TASK 0).put F.WDOG_STATE_COUNT 0).put F.WDOG_STATE_FIRSTWIN 0
  let due := l.g F.WDOG_TASKS_EN != 0 && !l.gb wdogHalted && l.mode != .boot
  { l.put wdogRunning 0 with wdog := { w with running := false, double := 0, early := 0, firstDue := due } }

/-- Run state of a logic-die block returns to its reset state (R44, R60, R369). -/
def Logic.resetBlock (page : Nat) (l : Logic) : Logic :=
  match pageKind page with
  | .barrier => [R.BARRIER_DISCARD, R.BARRIER_RESEND, R.BARRIER_TAGFAIL, R.BARRIER_LANEERR_A, R.BARRIER_LANEERR_B,
      R.BARRIER_SNAPDROP].foldl (fun l a => l.putWord a 0#32) l
  | .wdog => l.wdogAbandon
  | _ => l

/-- STATUS.PENDING of a page (R51). -/
def pendingBit (page : Nat) : Fld := ⟨R.STATUS page, 1, 1⟩

/-- Does CTRL.EN of a logic-die page act? -/
def Logic.enActs (page : Nat) : Bool := pageKind page == .barrier

/-- CTRL.EN = 1 (R45): enables the block, or waits for its shutdown. -/
def Field.enable (page : Nat) (f : Field) : Field :=
  let en := F.CTRL_EN page
  if f.cb en then f
  else if !f.enActs page then f.own en 1
  else if f.gb (F.STATUS_BUSY page) then (f.own en 1).put (pendingBit page) 1
  else (f.own en 1).enableBlock page

/-- CTRL.EN = 0 (R45): starts the shutdown, or cancels a pending enable. -/
def Field.disable (page : Nat) (f : Field) : Field :=
  let en := F.CTRL_EN page
  if f.gb (pendingBit page) then (f.own en 0).put (pendingBit page) 0
  else if !f.cb en then f
  else if !f.enActs page then f.own en 0
  else
    let f := ((f.own en 0).disableBlock page).put (F.STATUS_BUSY page) 1
    { f with shutting := page :: f.shutting }

/-- A field block resets (R44): EVT_RAW, STATUS and run state; BUSY reads 1 until it completes, and GEN advances (R57). A reset during
shutdown or while PENDING is set is absorbed (R45). -/
def Field.resetPage (page : Nat) (f : Field) : Field :=
  if f.gb (F.STATUS_BUSY page) || f.gb (pendingBit page) then f
  else
    let f := (((f.tell (.clearEvt page)).tell (.gen page)).resetBlock page).put (F.STATUS_BUSY page) 1
    { f with resets := page :: f.resets }

/-- BUSY ends: a pending enable takes effect from the reset run state (R45). -/
def Field.idle (page : Nat) (f : Field) : Field :=
  let pend := f.gb (pendingBit page)
  let f := (f.put (F.STATUS_BUSY page) 0).put (pendingBit page) 0
  if pend then ((f.tell (.clearEvt page)).resetBlock page).enableBlock page else f

/-- CTRL reaches the field die (R44, R45): EN, then BRESET. -/
def Field.takeCtrl (page : Nat) (w : Word) (f : Field) : Field :=
  (if wbit w 0 then f.enable page else f.disable page).when (wbit w 1) (Field.resetPage page)

/-- CTRL.EN = 1 on a logic-die page (R45). -/
def Logic.enable (page : Nat) (l : Logic) : Logic :=
  let en := F.CTRL_EN page
  if l.gb en then l
  else if Logic.enActs page && l.gb (F.STATUS_BUSY page) then (l.put en 1).put (pendingBit page) 1
  else l.put en 1

/-- CTRL.EN = 0 on a logic-die page (R45). -/
def Logic.disable (page : Nat) (l : Logic) : Logic :=
  let en := F.CTRL_EN page
  if l.gb (pendingBit page) then (l.put en 0).put (pendingBit page) 0
  else if !l.gb en then l
  else if !Logic.enActs page then l.put en 0
  else { (l.put en 0).put (F.STATUS_BUSY page) 1 with shutting := page :: l.shutting }

/-- EVT_RAW of a page takes a value; CLOCK's reading 0 releases nURG (R352). -/
def Logic.putRaw (page : Nat) (v : Word) (l : Logic) : Logic :=
  let l := l.putWord (R.EVT_RAW page) v
  if pageKind page = .clock ∧ v = 0#32 then { l with clocks := { l.clocks with urg := false } } else l

/-- A logic-die block resets (R44). -/
def Logic.resetPage (page : Nat) (l : Logic) : Logic :=
  if l.gb (F.STATUS_BUSY page) || l.gb (pendingBit page) then l
  else
    let l := (((l.putRaw page 0#32).gen page).resetBlock page).put (F.STATUS_BUSY page) 1
    { l with resets := page :: l.resets }

/-- BUSY ends on a logic-die page (R45). -/
def Logic.idle (page : Nat) (l : Logic) : Logic :=
  let pend := l.gb (pendingBit page)
  let l := (l.put (F.STATUS_BUSY page) 0).put (pendingBit page) 0
  if pend then (l.putRaw page 0#32).resetBlock page else l

/-- CTRL of a logic-die page: EN, then BRESET. -/
def Logic.takeCtrl (page : Nat) (w : Word) (l : Logic) : Logic :=
  (if wbit w 0 then l.enable page else l.disable page).when (wbit w 1) (Logic.resetPage page)

/-- Is a block reset of a page in progress (R44)? -/
def State.resetting (page : Nat) (s : State) : Bool :=
  if onField (page * 256) then s.fd.resets.contains page else s.ld.resets.contains page

/-- A block resets at once (R44, R373). A field block is reset only while the field die hears of it. -/
def State.resetPage (page : Nat) (s : State) : State :=
  if pageKind page = .reserved ∨ pageKind page = .seqtab then s
  else if onField (page * 256) then s.onFd (Field.resetPage page) else s.onLd (Logic.resetPage page)

/-- The block reset of a field page ends (R44); BUSY goes on while a shutdown runs as well. -/
def Field.resetEnds (page : Nat) (f : Field) : Field :=
  if f.resets.contains page then
    let f := { f with resets := f.resets.erase page }
    if f.shutting.contains page then f else f.idle page
  else f

/-- The block reset of a logic-die page ends. -/
def Logic.resetEnds (page : Nat) (l : Logic) : Logic :=
  if l.resets.contains page then
    let l := { l with resets := l.resets.erase page }
    if l.shutting.contains page then l else l.idle page
  else l

/-- The shutdown of a field block ends (R45, R46, R191). -/
def Field.shutdownDone (page : Nat) (f : Field) : Field :=
  let f := f.shutdownEnds page
  if f.gb (F.STATUS_BUSY page) && f.shutting.contains page then
    let f := { f with shutting := f.shutting.erase page }
    if f.resets.contains page then f else f.idle page
  else f

/-- The shutdown of a logic-die block ends. -/
def Logic.shutdownDone (page : Nat) (l : Logic) : Logic :=
  if l.gb (F.STATUS_BUSY page) && l.shutting.contains page then
    let l := { l with shutting := l.shutting.erase page }
    if l.resets.contains page then l else l.idle page
  else l

/-- A change of a page's block, on the die that holds it, where that die runs. -/
def State.onPage (page : Nat) (h : Field → Field) (k : Logic → Logic) (s : State) : State :=
  if onField (page * 256) then (if s.fd.released then { s with fd := h s.fd } else s) else s.onLd k

/-- BLOCK_RESET_COMPLETE (R44). -/
def execBlockResetComplete (page : Page) (s : State) : Host.Outcome State Fault Refusal :=
  runBoth (State.onPage page (Field.resetEnds page) (Logic.resetEnds page)) s

/-- SHUTDOWN_COMPLETE (R46). -/
def execShutdownComplete (page : Page) (s : State) : Host.Outcome State Fault Refusal :=
  runBoth (State.onPage page (Field.shutdownDone page) (Logic.shutdownDone page)) s

end Sys2Proof.Machine
end

