-- ==== Sys2Proof/Machine/Wdog.lean ====
section
/-! DEFINITION. The host watchdog (chapter 21). -/

namespace Sys2Proof.Machine

open Sys2Proof

/-- The follower of a pair tracks without judging (R319). -/
def Logic.wdogJudges (l : Logic) : Bool := l.mode != .follow

/-- A window opens (R367, R369). A first window has a length of its own and OPEN taken as 0. -/
def Logic.wdogOpen (first : Bool) (l : Logic) : Logic :=
  let open_ := l.g F.WDOG_WIN_OPEN
  let close := open_ + l.g F.WDOG_SPAN_SPAN
  let ff := l.g F.WDOG_FIRST_FIRST
  let len := if first ∧ ff ≠ 0 then ff else close
  let tasks := l.g F.WDOG_TASKS_EN
  let w := { l.wdog with running := true, opened := l.time, base := 0, close := len, openAt := if first then 0 else open_, tasks := tasks }
  ((({ l with wdog := { w with firstDue := false, double := 0, early := 0 } }).put F.WDOG_SERVED_TASK 0).putb
    F.WDOG_STATE_FIRSTWIN first).put wdogRunning 1

/-- No window runs. -/
def Logic.wdogStop (l : Logic) : Logic :=
  (({ l with wdog := { l.wdog with running := false } }).put wdogRunning 0).put F.WDOG_STATE_FIRSTWIN 0

/-- WDOG_FIRST_WINDOW (R369). -/
def Logic.wdogFirst (l : Logic) : Logic :=
  if l.wdog.firstDue && !l.wdog.running && !l.gb wdogHalted && l.g F.WDOG_TASKS_EN != 0 && l.mode != .boot then l.wdogOpen true
  else l

/-- A finding (R368): its event, and the fault event with the task as parameter. -/
def Logic.wdogFinding (bit src task : Nat) (inj : Bool) (l : Logic) : Logic :=
  (l.evt R.pageWDOG bit task inj).fault src false task inj

/-- A CHECK_IN judged by the count in force (R367, R368). -/
def Logic.wdogJudge (t : Nat) (l : Logic) : Logic :=
  let c := l.wdogCount
  let l := if l.wdogOnLpo then { l with draws := l.draws + 1 } else l
  if !l.wdogJudges then l.put F.WDOG_SERVED_TASK (nset (l.g F.WDOG_SERVED_TASK) t)
  else if c < l.wdog.openAt then
    ({ l with wdog := { l.wdog with early := nset l.wdog.early t } }).wdogFinding 2 34 t false
  else if nbit l.wdog.injDouble t then
    ({ l with wdog := { l.wdog with injDouble := nclr l.wdog.injDouble t, double := nset l.wdog.double t } }).wdogFinding 1 33 t true
  else if nbit (l.g F.WDOG_SERVED_TASK) t then
    ({ l with wdog := { l.wdog with double := nset l.wdog.double t } }).wdogFinding 1 33 t false
  else l.put F.WDOG_SERVED_TASK (nset (l.g F.WDOG_SERVED_TASK) t)

/-- A CHECK_IN of a task (R250, R368): none for an accepted one, else BLOCK (15) for a task not registered. -/
def Logic.checkIn (t : Nat) (l : Logic) : Option Nat × Logic :=
  let reg := if l.wdog.running then l.wdog.tasks else l.g F.WDOG_TASKS_EN
  if !nbit reg t then (some 15, l.bump F.WDOG_UNREG_COUNT)
  else if l.wdog.running then (none, l.wdogJudge t)
  else (none, l)

/-- WDOG_WINDOW_CLOSE (R367-R369): MISSED events in ascending task number, the findings latch, SAFE_CAUSE.WDOG clears at a window
without one after a restart (R30), and the next window opens. -/
def Logic.wdogClose (l : Logic) : Logic :=
  if !l.wdog.running then l
  else
    let w := l.wdog
    let served := l.g F.WDOG_SERVED_TASK
    let gone := (List.range 8).filter fun t => l.wdogJudges && nbit w.tasks t && (!nbit served t || nbit w.injMissed t)
    let missed := gone.foldl (fun a t => a + 2 ^ t) 0
    let l := { l with wdog := { w with injMissed := if l.wdogJudges then 0 else w.injMissed } }
    let l := gone.foldl (fun l t => l.wdogFinding 0 32 t (nbit served t)) l
    let l := ((l.put F.WDOG_TASKFLT_MISSED missed).put F.WDOG_TASKFLT_DOUBLE w.double).put F.WDOG_TASKFLT_EARLY w.early
    let l := l.putWord R.WDOG_WINCOUNT (l.regs.word R.WDOG_WINCOUNT + 1#32)
    let clean := missed == 0 && w.double == 0 && w.early == 0
    let l : Logic := if clean && w.restarted then
        ({ l with wdog := { l.wdog with restarted := false } }).put (safeCause 1) 0
      else l
    if l.g F.WDOG_TASKS_EN = 0 then l.wdogStop else l.wdogOpen false

/-- The grades of the watchdog's three findings return to MILD (R369). -/
def Logic.wdogGrades (l : Logic) : Logic :=
  [32, 33, 34].foldl (fun l i => if l.severe i then
    ((l.put (F.FAULT_SRC_STAT_SEVERE i) 0).gen R.pageFAULT).record { code := 0x4003, source := i, time := l.time, p0 := l.g (F.FAULT_SRC_STAT_COUNT i) }
    else l) l

/-- A halted watchdog restarts (R369). -/
def Logic.wdogRestart (l : Logic) : Logic :=
  if l.gb wdogHalted then
    let l := ((l.put wdogHalted 0).evt R.pageWDOG 5).wdogGrades
    { l with wdog := { l.wdog with restarted := true, firstDue := true } }
  else l

/-- A TASKS write (R369). -/
def Logic.wdogTasks (w : Word) (l : Logic) : Logic :=
  let l := (l.put F.WDOG_TASKS_EN (wbits w 0 8)).wdogRestart
  if l.wdog.running then l else { l with wdog := { l.wdog with firstDue := true } }

/-- WDOG_CLOCK_STOP (R366): the watchdog carries on from the other clock at the count it had reached. -/
def Logic.wdogClockStop (inj : Bool) (l : Logic) : Logic :=
  if l.gb wdogClkAlt then l else ((l.wdogCarry.put wdogClkAlt 1).evt R.pageWDOG 3 (inj := inj)).fault 35 true none inj

/-- The watchdog halts (R369). -/
def Logic.wdogHalt (l : Logic) : Logic :=
  if l.gb wdogHalted then l else ((l.wdogStop.put wdogHalted 1).put F.WDOG_SERVED_TASK 0).evt R.pageWDOG 4

/-- INJECT of the WDOG page (R379). -/
def Logic.wdogInject (w : Word) (l : Logic) : Logic :=
  let orBits := fun (a b : Nat) => (nbits 8 b).foldl nset a
  let l := { l with wdog := { l.wdog with
    injMissed := orBits l.wdog.injMissed (wbits w 0 8)
    injDouble := orBits l.wdog.injDouble (wbits w 8 8) } }
  l.when (wbit w 16) (Logic.wdogClockStop true)

/-- WDOG_FIRST_WINDOW (R369). -/
def execWdogFirstWindow (s : State) : Host.Outcome State Fault Refusal := runLogic Logic.wdogFirst s

/-- WDOG_WINDOW_CLOSE (R367). -/
def execWdogWindowClose (s : State) : Host.Outcome State Fault Refusal := runLogic Logic.wdogClose s

/-- WDOG_CLOCK_STOP (R366). -/
def execWdogClockStop (s : State) : Host.Outcome State Fault Refusal := runLogic (Logic.wdogClockStop false) s

end Sys2Proof.Machine
end

