-- ==== Sys2Proof/Machine/Faults.lean ====
section
/-! DEFINITION. The fault collector (chapter 21): counting, grading and the reactions, acknowledgement and clears, and the
ERROUT latch. -/

namespace Sys2Proof.Machine

open Sys2Proof

/-- Does a source belong to the field die (R370)? -/
def fieldSource (i : Nat) : Bool :=
  decide (5 ≤ i ∧ i ≤ 7) || i == 14 || i == 15 || decide (21 ≤ i ∧ i ≤ 23) || decide (40 ≤ i ∧ i ≤ 55)

/-- A finding of the watchdog (R374). -/
def wdogSource (i : Nat) : Bool := decide (32 ≤ i ∧ i ≤ 34)

/-- A source's events since its history was emptied. -/
def Logic.eventsOf (i : Nat) (l : Logic) : List (Nat × Bool) := tget (fun _ => []) l.faults.history i

/-- Is the event at time t the N-th within the span of T ms that ends at it (R371)? -/
def Logic.nth (i t : Nat) (l : Logic) : Bool :=
  let lo := l.g (F.FAULT_SRC_CFG_T i) * msTicks
  decide (l.g (F.FAULT_SRC_CFG_N i) ≤ ((l.eventsOf i).filter fun x => decide (x.1 ≤ t ∧ t ≤ x.1 + lo)).length)

/-- An event is counted (R371); a kept event stands for as many as were merged into it (R378). -/
def Logic.countEvent (e : FaultEv) (l : Logic) : Logic :=
  let h := List.replicate (max 1 e.count) (e.time, e.severe) ++ l.eventsOf e.src
  let l := { l with faults := { l.faults with
    history := tput (fun _ => []) l.faults.history e.src h
    params := tput (fun _ => 0) l.faults.params e.src e.param } }
  l.put (F.FAULT_SRC_STAT_COUNT e.src) (min 0xFFFF (l.g (F.FAULT_SRC_STAT_COUNT e.src) + max 1 e.count))

/-- A record of class 4 or 5 about a source (R373, R382). -/
def Logic.faultRecord (n i param reactions : Nat) (r : LoftReq) (l : Logic) : Logic :=
  l.record { r with
    code := (if decide (32 ≤ i ∧ i ≤ 35) then 0x4000 else 0x5000) + n, source := i, field := fieldSource i,
    p0 := l.g (F.FAULT_SRC_STAT_COUNT i), p1 := param, p2 := reactions }

/-- An ERRPIN reaction (R377): ERROUT asserts, a new minimum width starts, a release of its own is needed. -/
def Logic.errpin (i : Nat) (l : Logic) : Logic :=
  let l := { l with errout := true, minw := true, released := false, faults := { l.faults with errAt := some l.time } }
  (l.put F.FAULT_ERRSTAT_SOURCE i).evt R.pageFAULT 17

/-- What the events of one tick still ask for: blocks and dies to reset, by source (R376). -/
structure ResetsDue where
  blocks : List (Nat × Nat) := []
  chips : List Nat := []
  deriving DecidableEq, Repr

/-- IRQ, URG, ERRPIN and SAFE of an event's set of reactions (R373, R374). -/
def State.react (i bits : Nat) (severe : Bool) (s : State) : State :=
  let s := s.onLd fun l =>
    let l := l.when (nbit bits 0) (Logic.evt R.pageFAULT (i / 8 + 8 * b2n severe))
    let l := l.when (nbit bits 1) (Logic.put (F.FAULT_SRC_STAT_URG i) 1)
    l.when (nbit bits 4) (Logic.errpin i)
  if nbit bits 5 then s.safe (if wdogSource i then 1 else 2) else s

/-- One event at the collector (R371, R373, R375). A grade is a value of the group SEVERE, so GEN of its page follows it (R57, R380). -/
def State.collect (e : FaultEv) (x : State × ResetsDue) : State × ResetsDue :=
  let (s, due) := x
  let i := e.src
  let l := s.ld.countEvent e
  let was := l.severe i
  let graded := e.severe || (!was && l.nth i e.time)
  let bits := if graded then l.g (F.FAULT_SRC_REACT_SEVERE i) else l.g (F.FAULT_SRC_REACT_MILD i)
  let merged := l.gb (F.FAULT_SRC_STAT_INHAND i) && !graded
  let l := l.putWord R.FAULT_TOTAL (l.regs.word R.FAULT_TOTAL + word (max 1 e.count))
  let l := l.putWord R.FAULT_LAST
    (word (pack [(0, i), (8, b2n graded), (9, b2n merged), (10, b2n e.injected), (16, e.param % 256)]))
  let l := l.when graded (Logic.put (F.FAULT_SRC_STAT_SEVERE i) 1)
  let l := l.when (graded && !was) (Logic.gen R.pageFAULT)
  if merged then ({ s with ld := (l.put (F.FAULT_SRC_STAT_MERGED i) 1).evt R.pageFAULT 16 }, due)
  else
    let r : LoftReq := { code := 0, source := i, injected := e.injected, severe := graded, late := e.late, time := e.time }
    let l := l.faultRecord 1 i e.param bits r
    let l := l.when (graded && !was) (Logic.faultRecord 2 i e.param bits r)
    let l := l.when (bits != 0) (Logic.put (F.FAULT_SRC_STAT_INHAND i) 1)
    let l := l.when graded (Logic.abortCause 4)
    let l := l.when (graded && !was && wdogSource i) Logic.wdogHalt
    let s := State.react i bits graded { s with ld := l }
    (s, { blocks := if nbit bits 2 then due.blocks ++ [(i, e.param)] else due.blocks
          chips := if nbit bits 3 && !(fieldSource i && e.performed) then due.chips ++ [i] else due.chips })

/-- BLOCK_RESET (R370): the page's block resets; a role restarts from its checkpoint on its present core, unless it is lost; memories have none. -/
def State.blockReset (x : Nat × Nat) (s : State) : State :=
  if x.1 < 8 ∨ 24 ≤ x.1 then s.resetPage (sourcePage x.1 x.2 (s.fd.checkSlice.getD 0))
  else if x.1 < 16 || nbit s.ld.cores.lost (x.1 - 16) then s
  else s.onLd fun l => { l with cores := { l.cores with restarting := nset l.cores.restarting (x.1 - 16) } }

/-- Every record that waits is written (R373: a CHIP_RESET follows the event's Loft record). -/
def Logic.loftFlush (l : Logic) : Logic :=
  let l := (List.range l.recs.length).foldl (fun l _ => l.loftRecord.loftWritten) l
  (List.range l.loft.queue.length).foldl (fun l _ => l.loftWritten) l

/-- The handling states of the field die's sources end (R375). -/
def Logic.endHandling (l : Logic) : Logic :=
  l.each ((List.range 64).filter fieldSource) fun i l =>
    ((l.put (F.FAULT_SRC_STAT_INHAND i) 0).put (F.FAULT_SRC_STAT_MERGED i) 0).put (F.FAULT_SRC_STAT_URG i) 0

/-- The resets of one tick (R373, R374, R376): each die at most once, and a die's reset supersedes its block resets. -/
def State.chipResets (due : ResetsDue) (s : State) : State :=
  let field := due.chips.any fieldSource
  let logic := due.chips.any fun i => !fieldSource i
  let s := (due.blocks.filter fun x => if fieldSource x.1 then !field else !logic).foldl (fun s x => s.blockReset x) s
  if !field && !logic then s
  else
    let plain := due.chips.filter fun i => !wdogSource i
    let l := s.ld.loftFlush
    let l := match plain with
      | [] => l
      | i :: is => l.put F.DEVICE_RSTCAUSE_FAULT_ID (is.foldl min i)
    let l := l.when field Logic.endHandling
    let l := l.when (logic && due.chips.any wdogSource) (Logic.cause 3)
    let l := l.when (logic && plain.any fun i => !fieldSource i) (Logic.cause 5)
    let s := { s with ld := l }
    let s := if field then s.resetField else s
    if logic then s.resetLogic (if plain.any fun i => !fieldSource i then 5 else 3) else s

/-- An event into the order of handling: by detection time, then ascending ID (R376); of one source, in the order raised. -/
def insertEv (e : FaultEv) : List FaultEv → List FaultEv
  | [] => [e]
  | x :: t => if x.time < e.time ∨ (x.time = e.time ∧ x.src ≤ e.src) then x :: insertEv e t else e :: x :: t

/-- FAULT_EVENT (R371, R376): the events of the earliest tick that wait for the collector. -/
def State.collectTick (s : State) : State :=
  match s.ld.raised.foldl (fun a e => insertEv e a) [] with
  | [] => s
  | e :: es =>
    let now := (e :: es).filter fun x => x.time == e.time
    let s := s.onLd fun l => { l with raised := es.filter fun x => x.time != e.time }
    let r := now.foldl (fun a x => State.collect x a) (s, {})
    r.1.chipResets r.2

/-- One source acknowledged (R375). -/
def Logic.ackOne (i : Nat) (l : Logic) : Logic :=
  let hand := l.gb (F.FAULT_SRC_STAT_INHAND i)
  let l := ((l.put (F.FAULT_SRC_STAT_INHAND i) 0).put (F.FAULT_SRC_STAT_MERGED i) 0).put (F.FAULT_SRC_STAT_URG i) 0
  l.when hand fun l =>
    l.faultRecord 4 i (tget (fun _ => 0) l.faults.params i) 0 { code := 0, source := i, severe := l.severe i, time := l.time }

/-- A write of FAULT.ACK (R375). -/
def Logic.faultAck (w : Word) (l : Logic) : Logic :=
  if wbit w 31 then l.each (List.range 64) Logic.ackOne else l.ackOne (wbits w 0 6)

/-- Does a source hold SAFE_CAUSE.FAULT: SEVERE with SAFE among its SEVERE reactions (R372)? -/
def Logic.holdsSafe (i : Nat) (l : Logic) : Bool :=
  l.severe i && nbit (l.g (F.FAULT_SRC_REACT_SEVERE i)) 5 && !wdogSource i

/-- A write of FAULT.CLEAR (R372): an event of the same tick counts after it. -/
def Logic.faultClear (w : Word) (l : Logic) : Logic :=
  let i := wbits w 0 6
  let was := l.severe i
  let now := (l.eventsOf i).filter fun x => x.1 == l.time
  let l := l.when (wbit w 9) fun l =>
    ({ l with faults := { l.faults with history := tput (fun _ => []) l.faults.history i now } }).put (F.FAULT_SRC_STAT_COUNT i)
      now.length
  let l := l.when (wbit w 8 && was) fun l =>
    let still := now.any (·.2) || (now != [] && l.nth i l.time)
    let l := (l.putb (F.FAULT_SRC_STAT_SEVERE i) still).when (!still) (Logic.gen R.pageFAULT)
    l.faultRecord 3 i (tget (fun _ => 0) l.faults.params i) 0 { code := 0, source := i, time := l.time }
  let safe := nbit (l.g (F.FAULT_SRC_REACT_SEVERE i)) 5 || nbit (l.g (F.FAULT_SRC_REACT_MILD i)) 5
  l.when (wbit w 8 && safe && !(List.range 64).any fun j => l.holdsSafe j) fun l =>
    let l := l.put (safeCause 2) 0
    { l with pair := { l.pair with lockCatch := l.gb (safeCause 4) } }

/-- A write of ERRCTL.RELEASE (R377). -/
def Logic.errRelease (w : Word) (l : Logic) : Logic :=
  if !wbit w 0 || !l.errout || l.faults.errAt == some l.time then l
  else { l with released := true, errout := l.minw }

/-- ERROUT_MINW_EXPIRY (R377). -/
def Logic.minwEnds (l : Logic) : Logic := if l.minw then { l with minw := false, errout := l.errout && !l.released } else l

/-- Fault events and records the field die has kept are delivered, each with its detection time (R373, R378). -/
def State.deliver (late : Bool) (s : State) : State :=
  let take := fun (l : Logic) (m : FMsg) => match m with
    | .fault e => { l with raised := l.raised ++ [{ e with late := late }] }
    | .record r => l.record { r with field := true, late := late }
    | _ => l
  { s with ld := s.fd.out.foldl take s.ld, fd := { s.fd with out := s.fd.out.filter fun m => !waits m } }

/-- KEPT_EVENTS_DELIVERED (R378): when the link has retrained. -/
def State.deliverKept (s : State) : State := if s.ld.linkUp then s.deliver true else s

/-- FAULT_EVENT (R371). -/
def execFaultEvent (s : State) : Host.Outcome State Fault Refusal := runBoth State.collectTick s

/-- ERROUT_MINW_EXPIRY (R377). -/
def execErroutMinwExpiry (s : State) : Host.Outcome State Fault Refusal := runLogic Logic.minwEnds s

/-- KEPT_EVENTS_DELIVERED (R378). -/
def execKeptEventsDelivered (s : State) : Host.Outcome State Fault Refusal := runBoth State.deliverKept s

end Sys2Proof.Machine
end

