-- ==== Sys2Proof/Machine/Clock.lean ====
section
/-! DEFINITION. Clock failures and returns, degraded mode, and the frequency counter (chapter 20). -/

namespace Sys2Proof.Machine

open Sys2Proof

/-- Is an HFRC able to serve: healthy and not retired (R354)? 0 HFRC_A, 1 HFRC_B. -/
def Logic.hfrcGood (k : Nat) (l : Logic) : Bool := l.gb (clockOk (2 + k)) && !l.isRetired 6 k

/-- The HFRC in service. -/
def Logic.hfrc (l : Logic) : Nat := b2n l.clocks.hfrcB

/-- SRCSTAT shows the HFRC in use while degraded, and whether another can still serve (R365). -/
def Logic.showClocks (l : Logic) : Logic :=
  let d := l.gb F.CLOCK_SRCSTAT_DEGRADED
  (l.put F.CLOCK_SRCSTAT_LOGIC_SRC (if d then 1 + l.hfrc else 0)).putb F.CLOCK_SRCSTAT_HFRC_SPARE (l.hfrcGood (1 - l.hfrc))

/-- A source switch falls in a frequency measurement's gate (R360). -/
def Logic.gateDisturbed (l : Logic) : Logic := l.when (l.gb F.CLOCK_FMEAS_STAT_BUSY) (Logic.put F.CLOCK_FMEAS_STAT_DISTURBED 1)

/-- The HFRC that the domains move to (R354): the one in service, or the other where only that is able to serve. -/
def Logic.serveHfrc (l : Logic) : Logic :=
  l.when (!l.hfrcGood l.hfrc && l.hfrcGood (1 - l.hfrc)) fun l =>
    let b := l.hfrc == 0
    (({ l with clocks := { l.clocks with hfrcB := b } }).larderKeep fun r => { r with hfrcB := b }).spareIn 6 (b2n b)

/-- No logic domain has a healthy source (R358): the logic die resets; the field die runs on FRC. -/
def State.clockLost (s : State) : State := (s.resetLogic 4).fcoreOn true

/-- Degraded mode begins (R352): the domains move to the HFRC, nURG asserts (again at each further failure), the link's rate change falls due, and the field die runs
on FRC while its clock recovery relocks. -/
def State.degrade (inj : Bool) (s : State) : State :=
  let l := s.ld.serveHfrc
  if l.gb F.CLOCK_SRCSTAT_DEGRADED then s.onLd fun l => { l with clocks := { l.clocks with urg := true } }
  else if !l.hfrcGood l.hfrc then s.clockLost
  else
    let l := ((l.lpoMoves.put F.CLOCK_SRCSTAT_DEGRADED 1).put clockDegraded 1).evt R.pageCLOCK 6 (inj := inj)
    let l := { l with
      clocks := { l.clocks with urg := true, degradedAt := some l.time }, bar := { l.bar with rateDue := some true } }
    let s := { s with ld := l.showClocks.gateDisturbed, fd := { s.fd with degraded := true, tnMoves := true } }
    if s.fd.released then s.fcoreOn true else s

/-- The logic domains return to the PLL (R356). -/
def State.undegrade (s : State) : State :=
  let l := s.ld
  if l.gb F.CLOCK_SRCSTAT_DEGRADED then
    let l := ((l.lpoMoves.put F.CLOCK_SRCSTAT_DEGRADED 0).put clockDegraded 0).evt R.pageCLOCK 7
    let l := { l with
      clocks := { l.clocks with degTicks := l.degTicks, degradedAt := none }, bar := { l.bar with rateDue := some false } }
    { s with ld := l.showClocks.gateDisturbed, fd := { s.fd.undegraded with tnMoves := true } }
  else s

/-- With AUTO_RESTORE a healthy ROOT and PLL return the domains at once (R356). -/
def State.autoReturn (s : State) : State :=
  if s.ld.gb (clockOk 0) && s.ld.gb (clockOk 1) && s.ld.gb F.CLOCK_CFG_AUTO_RESTORE then s.undegrade else s

/-- A source's failure is shown and counted, and its fault source raised (R351): MILD, as no rule names it SEVERE. -/
def Logic.clockFailed (ok evt src : Nat) (cnt : Option Fld) (inj : Bool) (l : Logic) : Logic :=
  let l := ((l.put (clockOk ok) 0).evt R.pageCLOCK evt (inj := inj)).fault src false none inj
  match cnt with
  | some x => l.bump x
  | none => l

/-- An HFRC retires (R354): the one in service gives way to the other where that is able to serve; while degraded that is a switch of the
domains' source (R360). -/
def Logic.hfrcRetires (k cause : Nat) (inj : Bool) (l : Logic) : Logic :=
  let served := l.hfrc == k
  let l := l.when (served && l.hfrcGood (1 - k)) fun l =>
    ((({ l with clocks := { l.clocks with hfrcB := k == 0 } }).larderKeep fun r => { r with hfrcB := k == 0 }).spareIn 6 (1 - k)).when
      (l.gb F.CLOCK_SRCSTAT_DEGRADED) Logic.gateDisturbed
  (l.retire 6 k cause (!served) inj).showClocks

/-- An HFRC fails (R354): the one in service gives way to the other by a switch; it is retired either way. -/
def State.hfrcFails (k : Nat) (inj : Bool) (s : State) : State :=
  let l := s.ld
  let served := l.hfrc == k
  let other := l.hfrcGood (1 - k)
  let l := l.clockFailed (2 + k) 2 (2 + k) (some F.CLOCK_FAILCNT_HFRC) inj
  let l := l.hfrcRetires k 2 inj
  let s := { s with ld := l }
  if served && !other && l.gb F.CLOCK_SRCSTAT_DEGRADED then s.clockLost else s

/-- CLOCK_SOURCE_FAIL (R351): 0 ROOT, 1 PLL, 2 HFRC_A, 3 HFRC_B, 4 LPO, 5 the recovered clock, 6 FRC. A source that has failed
already does not fail again before it is healthy. -/
def State.clockFails (src : Nat) (inj : Bool) (s : State) : State :=
  let l := s.ld
  match src with
  | 0 => if l.gb (clockOk 0) then State.degrade inj { s with ld := l.clockFailed 0 0 0 (some F.CLOCK_FAILCNT_ROOT) inj } else s
  | 1 => if l.gb (clockOk 1) then State.degrade inj { s with ld := l.clockFailed 1 1 1 (some F.CLOCK_FAILCNT_PLL) inj } else s
  | 2 => if l.gb (clockOk 2) then s.hfrcFails 0 inj else s
  | 3 => if l.gb (clockOk 3) then s.hfrcFails 1 inj else s
  | 4 => if l.gb (clockOk 4) then { s with ld := l.lpoMoves.clockFailed 4 3 4 (some F.CLOCK_FAILCNT_LPO) inj } else s
  | 5 =>
    if s.fd.released then
      let s := ({ s with ld := s.ld.when (!s.fd.onFrc) Logic.gateDisturbed }).fcoreOn true
      if s.fd.recBad then s
      else { s with fd := ({ s.fd with recBad := true }.tell (.evt R.pageCLOCK 4 0 inj false)).fault 5 false none inj }
    else s
  | _ =>
    if s.fd.released && !s.fd.frcBad then
      { s with fd := ({ s.fd with frcBad := true }.tell (.put (clockOk 5) 0) |>.tell (.evt R.pageCLOCK 5 0 inj false)).fault 6 false none inj }
    else s

/-- FIELD_CLOCK_RELOCK (R352): FCORE returns to the recovered clock, by a switch of its source (R353). -/
def State.relock (s : State) : State :=
  if s.fd.released then ({ s with ld := s.ld.when s.fd.onFrc Logic.gateDisturbed }).fcoreOn false else s

/-- CLOCK_SOURCE_RETURN (R351): a retired HFRC comes back only by a RESTORE (R395). -/
def State.clockReturns (src : Nat) (s : State) : State :=
  match src with
  | 0 | 1 => ({ s with ld := s.ld.put (clockOk src) 1 }).autoReturn
  | 2 | 3 => { s with ld := (s.ld.put (clockOk src) 1).showClocks }
  | 4 => if s.ld.gb (clockOk 4) then s else { s with ld := s.ld.lpoMoves.put (clockOk 4) 1 }
  | 5 => ({ s with fd := { s.fd with recBad := false } }).relock
  | _ => if s.fd.released then { s with fd := { s.fd with frcBad := false }.tell (.put (clockOk 5) 1) } else s

/-- A write of CLOCK CTL.RESTORE (R356). -/
def State.clockRestore (w : Word) (s : State) : Ruling × State :=
  if !wbit w 0 then s.did
  else if !(s.ld.gb (clockOk 0) && s.ld.gb (clockOk 1)) then s.deny rBlock
  else s.undegrade.did

/-- FCORE_STOP (R359): every terminal goes OFF, and the field die resets. -/
def State.fcoreStop (s : State) : State := (s.onLd fun l => l.fault 7 false).resetField

/-- A write of FMEAS_CFG.GO (R360): starts or restarts a measurement. -/
def Logic.fmeasGo (w : Word) (l : Logic) : Logic :=
  if wbit w 31 then l.putWord R.CLOCK_FMEAS_STAT 1#32 else l

/-- FMEAS_DONE (R360): the gate ends with a number of edges. -/
def Logic.fmeasDone (edges : Nat) (l : Logic) : Logic :=
  if l.gb F.CLOCK_FMEAS_STAT_BUSY then
    let l := ((l.put F.CLOCK_FMEAS_STAT_BUSY 0).put F.CLOCK_FMEAS_STAT_DONE 1).putb F.CLOCK_FMEAS_STAT_OVF (decide (2 ^ 32 ≤ edges))
    (l.put F.CLOCK_FMEAS_RES_COUNT (min 0xFFFFFFFF edges)).evt R.pageCLOCK 8
  else l

/-- INJECT of the CLOCK page (R365): bit 2 reports the HFRC in service. -/
def State.clockInject (w : Word) (s : State) : State :=
  let go := fun (s : State) (b : Nat) => if wbit w b then
      match b with
      | 0 => s.clockFails 0 true | 1 => s.clockFails 1 true | 2 => s.clockFails (2 + s.ld.hfrc) true | 3 => s.clockFails 4 true
      | 4 => s.clockFails 5 true | _ => s.clockFails 6 true
    else s
  [2, 0, 1, 3, 4, 5].foldl go s

/-- One tick of TIMEBASE on the logic die (R361, R362): it runs from the PLL's lock on; TRIM acts on any device but a follower, and the
steering of the PLL as it was set last on either (R328). The TIME group has new values, so GEN of its page advances (R57). -/
def Logic.tick (l : Logic) : Logic :=
  if l.boot.main < 4 then l
  else
    let step : Int := 2 ^ 32 + l.pair.steer + (if l.mode = .follow then 0 else (l.regs.word R.DEVICE_TRIM).toInt)
    let x : Int := (l.time * 2 ^ 32 + l.frac : Nat) + step
    { l.gen R.pageDEVICE with time := (x / 2 ^ 32).toNat, frac := (x % 2 ^ 32).toNat }

/-- CLOCK_SOURCE_FAIL (R351). -/
def execClockSourceFail (src : Fin 7) (s : State) : Host.Outcome State Fault Refusal := runBoth (State.clockFails src false) s

/-- CLOCK_SOURCE_RETURN (R351). -/
def execClockSourceReturn (src : Fin 7) (s : State) : Host.Outcome State Fault Refusal := runBoth (State.clockReturns src) s

/-- FIELD_CLOCK_RELOCK (R352). -/
def execFieldClockRelock (s : State) : Host.Outcome State Fault Refusal := runBoth State.relock s

/-- FCORE_STOP (R359). -/
def execFcoreStop (s : State) : Host.Outcome State Fault Refusal := runBoth State.fcoreStop s

/-- FMEAS_DONE (R360). -/
def execFmeasDone (edges : Nat) (s : State) : Host.Outcome State Fault Refusal := runLogic (Logic.fmeasDone edges) s

end Sys2Proof.Machine
end

