-- ==== Sys2Proof/Machine/Cellar.lean ====
section
/-! DEFINITION. The Cellar: tamper detectors, alarms and their grades, self-tests, zeroisation (chapter 17). -/

namespace Sys2Proof.Machine

open Sys2Proof

/-- A bit of CELLAR.STATUS (R295). -/
def cellarStatus (b : Nat) : Fld := ⟨R.STATUS R.pageCELLAR, b, 1⟩
def cellarIdOk : Fld := cellarStatus 6
def cellarKatOk : Fld := cellarStatus 7
def cellarRngOk : Fld := cellarStatus 8
def cellarSecOk : Fld := cellarStatus 9
def cellarHalted : Fld := cellarStatus 10

/-- Every session ends and its keys are erased (R289, R300); a handshake in progress ends with them. -/
def Logic.endSessions (l : Logic) : Logic :=
  let any := l.sess.cur.isSome || l.sess.old.isSome
  let l := { l with sess := { l.sess with cur := none, old := none, hand := none } }
  let l := (l.put F.DEVICE_SESS_STAT_REKEY_WARN 0).putWord R.DEVICE_SESS_BOUND 0#32
  l.when any fun l => (l.evt R.pageCELLAR 3).when (l.g F.PAIR_STAT_ROLE == 1) (Logic.sendPartner (.state none))

/-- ALARM and its count show an alarm (R289, R295). -/
def Logic.showAlarm (det grade : Nat) (inj : Bool) (l : Logic) : Logic :=
  let l := l.putWord R.CELLAR_ALARM (word (pack [(0, grade), (4, det), (8, b2n inj)]))
  l.bump ⟨R.CELLAR_ALARMCNT, 8 * grade, 8⟩

/-- ALARM as the record of an alarm names it (R289). -/
def alarmWord (det grade : Nat) (inj : Bool) : Nat := pack [(0, grade), (4, det), (8, b2n inj)]

/-- The hold-off of a GUARD (R290): 1 s, doubled for each GUARD within 1 h of the one before, up to 64 s. -/
def Logic.holdOff (l : Logic) : Logic :=
  let k := match l.cellar.lastGuard with
    | some (t, k) => if l.time - t ≤ 60 * minuteTicks then min 6 (k + 1) else 0
    | none => 0
  { l with cellar := { l.cellar with lastGuard := some (l.time, k), hold := some (l.time + 2 ^ k * secondTicks) } }

/-- A GUARD (R289-R291): sessions end and new ones are held off. A mismatch of the SEC pair raises its SEVERE fault in every mode
(R17); another detector raises source 56 outside BOOT (R289). -/
def Logic.guard (det : Nat) (inj : Bool) (l : Logic) (sec : Bool := det == 10) : Logic :=
  let l := (l.showAlarm det 1 inj).evt R.pageCELLAR 1 (alarmWord det 1 inj) inj
  let l := l.endSessions.holdOff
  if sec then l.fault 17 true det inj else l.when (l.mode != .boot) (Logic.fault 56 false (param := det) (inj := inj))

/-- The keys a PURGE erases (R278, R289). -/
def Mram.erase (m : Mram) : Mram := { m with owner := none, pairKey := none, keys := [], keySlots := [] }

/-- Every fault event that waits reaches the collector. -/
def State.collectAll (s : State) : State := (List.range s.ld.raised.length).foldl (fun s _ => s.collectTick) s

/-- The LOCKOUT marker is written, then the keys are erased (R289, R292, R293). A GRAVE marker stays one, and a PURGE in LOCKOUT repeats
the erasure alone. Its counts go on from the marker's where ALARMCNT does not show them yet (R295). -/
def Logic.lockout (grade : Nat) (l : Logic) : Logic :=
  let was := match l.mram.marker with
    | some k => k.grade
    | none => 0
  let hash := match l.mram.marker with
    | some k => if l.mode = .lockout ∧ grade = 2 then k.hash else crateHash (l.mram.slot l.mram.active).words
    | none => crateHash (l.mram.slot l.mram.active).words
  let held := match l.mram.marker with
    | some k => if l.boot.main = 0 then (k.purges, k.graves) else (0, 0)
    | none => (0, 0)
  let l := l.keep fun m =>
    { m.erase with
      puf := m.puf && grade != 3
      marker := some { grade := max was grade, hash := hash, done := true,
                       purges := min 255 (l.g F.CELLAR_ALARMCNT_PURGE + held.1)
                       graves := min 255 (l.g F.CELLAR_ALARMCNT_GRAVE + held.2) } }
  let l := l.when (grade == 3) (Logic.put cellarIdOk 0)
  (l.put (cellarStatus 5) 0).endSessions.disapprove

/-- A PURGE (grade 2) or GRAVE (3) (R289, R292): outside BOOT and LOCKOUT the logic die resets once it is recorded. -/
def State.purge (det grade : Nat) (inj : Bool) (s : State) : State :=
  let l := s.ld.showAlarm det grade inj
  let l := l.record { code := 0x6102, source := R.pageCELLAR, injected := inj, severe := true, time := l.time,
                      p0 := (l.regs.word (R.EVT_RAW R.pageCELLAR)).toNat, p2 := alarmWord det grade inj }
  let l := l.when (l.mode != .boot) fun l => l.fault 57 true det inj
  let s := { s with ld := l.lockout grade }
  if l.mode = .boot ∨ l.mode = .lockout then s
  else
    let s := s.collectAll
    { s with ld := s.ld.loftFlush }.resetLogic 6

/-- An alarm at its grade (R289). -/
def State.alarm (det grade : Nat) (inj : Bool) (s : State) : State :=
  match grade with
  | 0 => s.onLd fun l => (l.showAlarm det 0 inj).evt R.pageCELLAR 0 (alarmWord det 0 inj) inj
  | 1 => s.onLd (Logic.guard det inj)
  | g => s.purge det g inj

/-- The grade of a detector (R288). -/
def Logic.detGrade (d : Nat) (l : Logic) : Nat := l.g ⟨R.CELLAR_GRADE, 2 * d, 2⟩

/-- A failure below a detector's limit is recorded as NOTICE (R287). -/
def Logic.noteFailure (det : Nat) (inj : Bool) (l : Logic) : Logic :=
  l.record { code := 0x6100, source := R.pageCELLAR, injected := inj, time := l.time,
             p0 := (l.regs.word (R.EVT_RAW R.pageCELLAR)).toNat, p2 := alarmWord det 0 inj }

/-- An authentication failure (R287): at AUTHLIM within 60 s the AUTH detector fires and its count starts again. -/
def State.authFailure (s : State) (inj : Bool := false) : State :=
  let l := s.ld
  let ts := l.time :: l.cellar.authTimes.filter fun t => decide (l.time - t ≤ minuteTicks)
  let fires := decide (l.g F.CELLAR_POLICY_AUTHLIM ≤ ts.length)
  let l := { l with cellar := { l.cellar with authTimes := if fires then [] else ts } }
  let l := ((l.bump F.CELLAR_AUTHFAIL_TOTAL).noteFailure 9 inj).evt R.pageCELLAR 9 (quiet := true)
  let s := { s with ld := l }
  if fires then s.alarm 9 (l.detGrade 9) inj else s

/-- A barrier tag failure (R10, R287): at BARLIM within 10 ms the BARRIER detector fires. -/
def State.tagFailure (inj : Bool) (s : State) : State :=
  let l := s.ld
  let ts := l.time :: l.cellar.tagTimes.filter fun t => decide (l.time - t ≤ ticks10ms)
  let fires := decide (l.g F.CELLAR_POLICY_BARLIM ≤ ts.length)
  let l := { l with cellar := { l.cellar with tagTimes := if fires then [] else ts } }
  let s := { s with ld := if fires then l else l.noteFailure 6 inj }
  if fires then s.alarm 6 (l.detGrade 6) inj else s

/-- DETSTAT shows whether a detector's condition holds on from this tick (R295). -/
def Logic.firing (d : Nat) (holds : Bool) (l : Logic) : Logic :=
  { l with cellar := { l.cellar with firing := tput (fun _ => 0) l.cellar.firing d l.time } }.putb ⟨R.CELLAR_DETSTAT, d, 1⟩ holds

/-- The SEC cores mismatch (R17, R291): GUARD, the cores halt; a second one within 24 h halts them until reset. -/
def State.secMismatch (inj : Bool) (s : State) : State :=
  let l := s.ld
  let again := match l.cellar.mismatchAt with
    | some t => decide (l.time - t ≤ 24 * 60 * minuteTicks)
    | none => false
  let l := { l with cellar := { l.cellar with mismatchAt := some l.time, stuck := l.cellar.stuck || again } }
  let l := ((l.put cellarSecOk 0).put cellarHalted 1).evt R.pageCELLAR 6 (inj := inj)
  { s with ld := ((l.when (!inj) (Logic.firing 10 true)).disapprove).guard 10 inj }

/-- SEC_RESTART_DONE (R291). -/
def Logic.secRestarted (pass : Bool) (l : Logic) : Logic :=
  if l.gb cellarHalted && !l.cellar.stuck && pass then l.put cellarHalted 0 else l

/-- May a detector fire: the tamper inputs are enabled in POLICY (R287)? -/
def Logic.detectorOn (d : Nat) (l : Logic) : Bool :=
  if d = 7 then l.gb F.CELLAR_POLICY_TAMPA_EN else if d = 8 then l.gb F.CELLAR_POLICY_TAMPB_EN else true

/-- A detector fires at a grade (R287, R288). -/
def State.detectorAt (d grade : Nat) (inj : Bool) (s : State) : State :=
  if d = 10 then s.secMismatch inj
  else
    let s := s.onLd fun l =>
      if d = 9 then { l with cellar := { l.cellar with authTimes := [] } }
      else if d = 6 then { l with cellar := { l.cellar with tagTimes := [] } }
      else l
    s.alarm d grade inj

/-- A detector fires (R287, R288). -/
def State.detector (d : Nat) (inj : Bool) (s : State) : State :=
  if s.ld.detectorOn d then s.detectorAt d (s.ld.detGrade d) inj else s

/-- TAMPER_DETECTOR_FIRES (R287): `holds`: the condition holds on, as DETSTAT then shows. -/
def State.tamper (d : Nat) (holds : Bool) (s : State) : State :=
  if s.ld.detectorOn d then (s.onLd (Logic.firing d holds)).detector d false else s

/-- INJECT of the CELLAR page (R292, R295): detectors of a lower grade first, so that the highest governs. -/
def State.cellarInject (w : Word) (s : State) : State :=
  let ds := (List.range 11).filter fun d => wbit w d && s.ld.detectorOn d
  let order := (List.range 4).flatMap fun g => (ds.filter fun d => s.ld.detGrade d == g).map fun d => (d, g)
  order.foldl (fun s x => s.detectorAt x.1 x.2 true) s

/-- A write of ZEROISE (R294), under an Owner session. -/
def State.zeroise (w : Word) (s : State) : Ruling × State :=
  if wbits w 0 2 = 1 ∧ wbits w 16 16 = 0x2E10 then (s.purge 15 2 false).did
  else if wbits w 0 2 = 2 ∧ wbits w 16 16 = 0x6A7D then (s.purge 15 3 false).did
  else s.deny rEncoding

/-- A write of SELFTEST.GO (R285). -/
def Logic.selftestGo (w : Word) (l : Logic) : Logic := if wbit w 0 then { l with cellar := { l.cellar with testing := true } } else l

/-- The known-answer tests fail (R36, R285): KAT_OK and APPROVED clear, sessions end, sealing stops. -/
def Logic.katFails (l : Logic) : Logic :=
  let l := { l with cellar := { l.cellar with noSeal := true } }
  ((l.put cellarKatOk 0).put F.DEVICE_BOOTSTAT_KAT_OK 0).disapprove.endSessions.fault 60 false

/-- CELLAR_SELFTEST_DONE (R285). -/
def Logic.selftestDone (pass : Bool) (l : Logic) : Logic :=
  if l.cellar.testing then
    ({ l with cellar := { l.cellar with testing := false } }).when (!pass) Logic.katFails
  else l

/-- The entropy source has failed for good (R286). -/
def Logic.rngFails (l : Logic) : Logic :=
  (((l.put cellarRngOk 0).evt R.pageCELLAR 5).disapprove.endSessions).fault 59 true

/-- ENTROPY_HEALTH_TEST (R286): a test of the entropy source fails, and a second failure within 1 h counts for good; a pair that fails its
consistency test again counts so at once. -/
def Logic.entropyFails (test : EntropyTest) (l : Logic) : Logic :=
  let l := match test with
    | .repetition => l.bump F.CELLAR_RNGSTAT_REPCOUNT
    | .proportion => l.bump F.CELLAR_RNGSTAT_ADAPTIVE
    | .pairwise => l
  let second := test == .pairwise || (match l.cellar.rngAt with
    | some t => decide (l.time - t ≤ 60 * minuteTicks)
    | none => false)
  let l := if test = .pairwise then l else { l with cellar := { l.cellar with rngAt := some l.time } }
  l.when (second && l.gb cellarRngOk) Logic.rngFails

/-- HOLDOFF_EXPIRY (R290). -/
def Logic.holdEnds (l : Logic) : Logic := { l with cellar := { l.cellar with hold := none } }

/-- ENROL_WINDOW_EXPIRY (R281). -/
def Logic.enrolCloses (l : Logic) : Logic := l.when l.mram.owner.isNone (Logic.put F.DEVICE_MODE_ENROL_OPEN 0)

/-- TAMPER_DETECTOR_FIRES (R287). -/
def execTamperDetectorFires (d : Fin 11) (holds : Bool) (s : State) : Host.Outcome State Fault Refusal :=
  runBoth (State.tamper d holds) s

/-- SEC_MISMATCH (R291). -/
def execSecMismatch (s : State) : Host.Outcome State Fault Refusal := runBoth (State.secMismatch false) s

/-- SEC_RESTART_DONE (R291). -/
def execSecRestartDone (pass : Bool) (s : State) : Host.Outcome State Fault Refusal := runLogic (Logic.secRestarted pass) s

/-- HOLDOFF_EXPIRY (R290). -/
def execHoldoffExpiry (s : State) : Host.Outcome State Fault Refusal := runLogic Logic.holdEnds s

/-- CELLAR_SELFTEST_DONE (R285). -/
def execCellarSelftestDone (pass : Bool) (s : State) : Host.Outcome State Fault Refusal := runLogic (Logic.selftestDone pass) s

/-- ENTROPY_HEALTH_TEST (R286). -/
def execEntropyHealthTest (test : EntropyTest) (s : State) : Host.Outcome State Fault Refusal :=
  runLogic (Logic.entropyFails test) s

/-- ENROL_WINDOW_EXPIRY (R281). -/
def execEnrolWindowExpiry (s : State) : Host.Outcome State Fault Refusal := runLogic Logic.enrolCloses s

end Sys2Proof.Machine
end

