-- ==== Sys2Proof/Machine/CrateText.lean ====
section
/-! DEFINITION. A crate as words: its format, its records, and the configuration it produces (R306-R308, R310). -/

namespace Sys2Proof.Machine

open Sys2Proof

/-- A record of a crate (R307). -/
inductive Rec where
  | masked (a : Nat) (mask value : Word)
  | block (a : Nat) (ws : List Word)
  | key (slot : Nat) (ws : List Word)
  | erase (slot : Nat)
  deriving DecidableEq, Repr

/-- One record from the words at hand: the record and what follows it (R307). -/
def takeRec : List Word → Option (Rec × List Word)
  | [] => none
  | h :: t =>
    let a := wbits h 16 16
    let n := wbits h 0 8
    match wbits h 8 8 with
    | 0x01 => if n = 1 then
        match t with
        | m :: v :: r => some (.masked a m v, r)
        | _ => none
      else none
    | 0x02 => if 1 ≤ n ∧ n ≤ t.length then some (.block a (t.take n), t.drop n) else none
    | 0x10 => if n = 38 ∧ 38 ≤ t.length then some (.key (a % 8) (t.take 38), t.drop 38) else none
    | 0x11 => if n = 0 then some (.erase (a % 8), t) else none
    | _ => none

/-- `n` records that use up the words exactly. -/
def takeRecs : Nat → List Word → Option (List Rec)
  | 0, [] => some []
  | 0, _ => none
  | n + 1, ws =>
    match takeRec ws with
    | some (r, rest) => (takeRecs n rest).map (r :: ·)
    | none => none

/-- LENGTH in bytes (R306). -/
def crateLength (ws : List Word) : Nat := (ws.getD 2 0#32).toNat

/-- The words of the records. -/
def crateBody (ws : List Word) : List Word := (ws.take (ws.length - 24)).drop 16

/-- The records of a crate, where its count and lengths agree (R307); a crate too short for them has none. -/
def crateRecs (ws : List Word) : Option (List Rec) :=
  if crateRecords ws ≤ ws.length then takeRecs (crateRecords ws) (crateBody ws) else none

/-- Step 1 of R310. -/
def crateFormat (ws : List Word) : Bool :=
  ws.getD 0 0#32 == 0x46574352#32 && wbits (ws.getD 1 0#32) 24 8 == 1 && wbits (ws.getD 1 0#32) 0 16 == 0x40 &&
    crateFlags ws / 4 == 0 && wbits (ws.getD 5 0#32) 0 24 == 0 && (((ws.drop 12).take 4).all fun w => w == 0#32) &&
    decide (crateFloor ws ≤ crateCounter ws) && decide (1 ≤ crateCounter ws) && decide (crateTarget ws ≤ 2) &&
    (crateTarget ws == 1 || crateSerialB ws == 0) && (crateTarget ws != 2 || crateSerialA ws == 0)

/-- Step 2 of R310, for a buffer filled to `fill` words. -/
def crateLengthOk (fill : Nat) (ws : List Word) : Bool :=
  let n := crateLength ws
  decide (160 ≤ n ∧ n ≤ 65536) && n % 4 == 0 && decide (n ≤ fill * 4)

/-- Step 5 of R310. -/
def crateTargetOk (ws : List Word) : Bool :=
  crateTarget ws == 2 || crateSerialA ws == Sys2Proof.Config.serial % 2 ^ 64 ||
    (crateTarget ws == 1 && crateSerialB ws == Sys2Proof.Config.serial % 2 ^ 64)

/-- The addresses a record writes, in order. -/
def Rec.addrs (r : Rec) : List Nat :=
  match r with
  | .masked a _ _ => [a]
  | .block a ws => (List.range ws.length).map fun i => (a + i) % 65536
  | .key _ _ | .erase _ => []

/-- May a record write this address (R59, R310)? -/
def crateAddrOk (a : Nat) : Bool :=
  match regRow a with
  | some r => decide (r.acc ≠ .ro)
  | none => false

/-- Step 7 of R310. -/
def crateRecordsOk (ws : List Word) : Bool :=
  match crateRecs ws with
  | some rs => rs.all fun r => r.addrs.all crateAddrOk
  | none => false

/-- Does a KEY record name this device (R308)? -/
def keyForUs (ws : List Word) : Bool :=
  (ws.getD 0 0#32).toNat * 2 ^ 32 + (ws.getD 1 0#32).toNat == Sys2Proof.Config.serial % 2 ^ 64

/-- A register written by a crate: its writable bits take the value; registers that hold no configuration word keep theirs. -/
def crateWrite (a : Nat) (v : Word) (r : RegFile) : RegFile :=
  match regRow a with
  | some x =>
    if x.acc = .rw then
      let m := BitVec.ofNat 32 (if a % 256 = 1 ∧ pageKind (a / 256) ≠ .seqtab then 1 else x.mask)
      r.write a ((r.word a &&& ~~~m) ||| (v &&& m))
    else r
  | none => r

/-- One record applied (R307). -/
def Rec.apply (r : Rec) (f : RegFile) : RegFile :=
  match r with
  | .masked a m v => crateWrite a ((f.word a &&& ~~~m) ||| (v &&& m)) f
  | .block a ws => (ws.zipIdx).foldl (fun f x => crateWrite ((a + x.2) % 65536) x.1 f) f
  | .key _ _ | .erase _ => f

/-- The registers a crate produces over those that run (R307): every register of the configuration starts from its value before
load, every other keeps its running value unless a record names it. -/
def crateConfig (run : RegFile) (ws : List Word) : RegFile :=
  ((crateRecs ws).getD []).foldl (fun f r => r.apply f) (run.filter fun x => !isConfig x.1)

/-- The key a slot takes (R308): none where no KEY record for this device names it, or a later one leaves it empty. -/
def crateKey (slot : Nat) (ws : List Word) : Option Nat :=
  ((crateRecs ws).getD []).foldl (fun k r => match r with
    | .key j w => if j = slot ∧ keyForUs w then some (Sys2Proof.Config.unwrap (word (crateCounter ws) :: word slot :: w)) else k
    | .erase j => if j = slot then none else k
    | _ => k) none

/-- Does R308 allow the crate's KEY records: none in a crate for any device? -/
def crateKeysAllowed (ws : List Word) : Bool :=
  crateTarget ws != 2 || ((crateRecs ws).getD []).all fun r => match r with
    | .key _ _ => false
    | _ => true

/-- The pages whose registers two files give differently, in ascending order. -/
def changedPages (a b : RegFile) : List Nat :=
  let keys := (a.map (·.1) ++ b.map (·.1)).filter fun k => a.word k != b.word k
  (List.range 256).filter fun p => keys.any fun k => k / 256 == p

end Sys2Proof.Machine
end

