-- ==== Sys2Proof/Machine/Engines.lean ====
section
/-! DEFINITION. Engine cores and guarded memories (chapter 01): core failures and restarts, checkpoints, the scrubber, rows
and their spares. -/

namespace Sys2Proof.Machine

open Sys2Proof

/-- The Larder kind of the cores of a role's die: 1 CORE_L, 2 CORE_F (R390). -/
def coreKind (r : Nat) : Nat := if r < 5 then 1 else 2

/-- The roles of a die that run on one core each (R15). -/
def coreRoles (kind : Nat) : List Nat := if kind = 1 then [0, 2, 3, 4] else [5, 6, 7]

/-- A core of the die that is neither retired nor serves a role. -/
def Logic.spareCore (kind : Nat) (l : Logic) : Option Nat :=
  (List.range (kindFigures kind).1).find? fun i => !l.isRetired kind i &&
    !(coreRoles kind).any fun r => l.core r == i && !nbit l.cores.lost r

/-- A role moves to a core (R399: core placement is kept). -/
def Logic.placeRole (r i : Nat) (l : Logic) : Logic := l.larderKeep fun k => { k with cores := tput coreFactory k.cores r i }

/-- The field die's roles that do not run (R15). -/
def Logic.fieldDown (l : Logic) : Nat :=
  (coreRoles 2).foldl (fun a r => if nbit l.cores.lost r || nbit l.cores.restarting r then a + 2 ^ r else a) 0

/-- The field die knows which of its roles run. -/
def State.showRoles (s : State) : State := { s with fd := { s.fd with rolesDown := s.ld.fieldDown } }

/-- A role's fault (R370): those of SEQ, DIAG and SAFE belong to the field die. -/
def State.roleFault (r : Nat) (severe inj : Bool) (s : State) : State :=
  if 5 ≤ r then { s with fd := s.fd.fault (16 + r) severe none inj } else { s with ld := s.ld.fault (16 + r) severe none inj }

/-- The catch of every terminal is disarmed and its stage off (R337). -/
def Field.disarmAll (f : Field) : Field :=
  (f.each (allTerms.filter fun n => (f.term n).catch_ != .none) fun n f => f.modTerm n fun t => { t with catch_ := .idle }).settleAll

/-- A follower becomes DETACHED (R337, R338): its stages are off. -/
def State.detach (s : State) : State :=
  (s.onLd fun l => ((l.put F.PAIR_STAT_ROLE 3).put F.PAIR_STAT_READY 0).evt R.pagePAIR 9).onFd Field.disarmAll

/-- A role is lost with no spare (R15): SAFE takes the device to SAFE; a follower without PAIR becomes DETACHED (R338);
without DIAG rotation and its tests end (R114). -/
def State.roleLost (r : Nat) (s : State) : State :=
  match r with
  | 3 => if s.ld.g F.PAIR_STAT_ROLE = 2 then s.detach else s
  | 6 => { s with fd := s.fd.diagLost }
  | 7 => s.safe 4
  | _ => s

/-- A core fails its checks (R15, R16), or the host retires it (`cause` 4, R395): it is retired, and its role restarts on the die's
spare, or is lost. A mismatch of the SEC pair has no spare (R17). A field die in reset runs no roles. -/
def State.coreFail (r : Nat) (inj : Bool) (s : State) (cause : Nat := 2) : State :=
  if r = 1 then s.secMismatch inj
  else if nbit s.ld.cores.lost r || (decide (5 ≤ r) && !s.fd.released) then s
  else
    let k := coreKind r
    let old := s.ld.core r
    match s.ld.spareCore k with
    | some i =>
      let s := if cause = 2 then s.roleFault r false inj else s
      let l := ((s.ld.placeRole r i).retire k old cause false inj).spareIn k i
      ({ s with ld := { l with cores := { l.cores with restarting := nset l.cores.restarting r } } }).showRoles
    | none =>
      let s := s.roleFault r true inj
      let l := s.ld.retire k old cause false inj
      (({ s with ld := { l with cores := { l.cores with
          lost := nset l.cores.lost r, restarting := nclr l.cores.restarting r } } }).showRoles).roleLost r

/-- CORE_SELFTEST (R16). -/
def State.coreTested (r : Nat) (pass : Bool) (s : State) : State := if pass then s else s.coreFail r false

/-- The checkpoint copy a role goes on from (R16, R19): the newer one, or the other where that one is invalid. -/
def Logic.checkpointFor (r : Nat) (l : Logic) : Option Nat :=
  let v := tget (fun _ => 0) l.cores.checkpoints r
  [v % 2, 1 - v % 2].find? fun c => nbit v (1 + c)

/-- ROLE_RESUME (R16): the role goes on from the newer of its two checkpoints. A rotation that stopped while DIAG restarted goes on. -/
def State.roleResumes (r : Nat) (s : State) : State :=
  if !nbit s.ld.cores.restarting r then s
  else
    let s := (s.onLd fun l => { l with cores := { l.cores with
      restarting := nclr l.cores.restarting r, resumed := tput (fun _ => none) l.cores.resumed r (l.checkpointFor r) } }).showRoles
    if r = 6 ∧ s.fd.released then { s with fd := s.fd.diagResumes } else s

/-- A checkpoint is written to a copy (R15). -/
def Logic.writeCheckpoint (r copy : Nat) (l : Logic) : Logic :=
  let v := tget (fun _ => 0) l.cores.checkpoints r
  { l with cores := { l.cores with checkpoints := tput (fun _ => 0) l.cores.checkpoints r (nset (v / 2 * 2 + copy) (1 + copy)) } }

/-- CHECKPOINT (R15, R16): the two copies alternate. SEC has none; a role that does not run writes none. -/
def Logic.checkpoint (r : Nat) (l : Logic) : Logic :=
  if r = 1 ∨ nbit l.cores.lost r ∨ nbit l.cores.restarting r then l
  else l.writeCheckpoint r (1 - tget (fun _ => 0) l.cores.checkpoints r % 2)

/-- A checkpoint copy does not read (R19): it is invalid, and a fresh checkpoint is taken at once. -/
def Logic.checkpointBad (r copy : Nat) (l : Logic) : Logic :=
  let v := tget (fun _ => 0) l.cores.checkpoints r
  let l := { l with cores := { l.cores with checkpoints := tput (fun _ => 0) l.cores.checkpoints r (nclr v (1 + copy)) } }
  if r = 1 ∨ nbit l.cores.lost r ∨ nbit l.cores.restarting r then l else l.writeCheckpoint r copy

/-- The Larder kind of a memory's rows; none for ROM and OTP (R390). -/
def memKind (m : Memory) : Option Nat :=
  match m with
  | .wsram => some 7 | .ckptL => some 8 | .ckptF => some 9 | .cellar => some 10 | .mram => some 11 | .fsram => some 12
  | .romL | .romF | .otp => none

/-- The memory of a row kind. -/
def kindMem (k : Nat) : Memory :=
  match k with
  | 7 => .wsram | 8 => .ckptL | 9 => .ckptF | 10 => .cellar | 11 => .mram | _ => .fsram

/-- The fault source of a memory (R370). -/
def memSource (m : Memory) : Nat :=
  match m with
  | .romL => 8 | .wsram => 9 | .ckptL | .ckptF => 10 | .cellar => 11 | .mram => 12 | .otp => 13 | .romF => 14 | .fsram => 15

/-- Rows of a memory, spare rows included (R19: a row holds 256 data bits). -/
def memRows (m : Memory) : Nat :=
  match memKind m with
  | some k => (kindFigures k).1
  | none => match m with
    | .romL => 8192 | .romF => 4096 | _ => 256

/-- Does a physical row serve an address: it is not retired, and either holds its own place or stands for a retired row? -/
def Logic.rowInUse (k row : Nat) (l : Logic) : Bool :=
  let m := l.mram.larder.rows
  !l.isRetired k row && (m.any (fun x => x.1.1 == k && x.2 == row) ||
    (decide (row < (kindFigures k).2.1) && !m.any fun x => x.1 == (k, row)))

/-- The spare row taken next: the lowest, the rows given as spares first. -/
def Logic.spareRow (k : Nat) (l : Logic) : Option Nat :=
  let free := fun i => !l.isRetired k i && !(l.mram.larder.rows.any fun x => x.1.1 == k && x.2 == i)
  let n := (kindFigures k).2.1
  match ((List.range (kindFigures k).2.2).map (n + ·)).find? free with
  | some i => some i
  | none => ((l.mram.larder.rows.filter fun x => x.1.1 == k).map (·.1.2)).find? free

/-- Is a move of a row of this kind in progress? -/
def Logic.moving (k : Nat) (l : Logic) : Bool := l.mem.moves.any fun x => memKind x.mem == some k

/-- A row must be retired (R391-R394, R396): wear is deferred by VETO, and by the want of a spare; a failing row without a spare
stays in use. A row on its way already is not decided again, and a deferral that stands raises no second fault. -/
def Logic.rowRetires (m : Memory) (row cause : Nat) (inj : Bool) (l : Logic) : Logic :=
  match memKind m with
  | none => l
  | some k =>
    if l.isRetired k row || l.mem.moves.any (fun x => x.mem == m && x.row == row) then l
    else if cause = 1 ∧ nbit (l.g F.LARDER_VETO_KIND) k then l.defer k row true
    else if l.spares k ≤ (l.mem.moves.filter fun x => memKind x.mem == some k).length then
      let told := cause == 1 && l.larder.pending.contains (k, row)
      (l.when (cause == 1) (Logic.defer k row true)).when (!told) fun l => l.fault 61 true k inj
    else { l with mem := { l.mem with moves := l.mem.moves ++ [{ mem := m, row := row, cause := cause, inj := inj }] } }

/-- ROW_MOVE_DONE (R391): the spare row takes the row's address, and the row is never read again. -/
def Logic.rowMoved (m : Memory) (row : Nat) (l : Logic) : Logic :=
  match l.mem.moves.find? (fun x => x.mem == m && x.row == row), memKind m with
  | some x, some k =>
    let l := { l with mem := { l.mem with
      moves := l.mem.moves.filter fun y => !(y.mem == m && y.row == row), counts := l.mem.counts.filter fun y => y.1 != (m, row) } }
    let l := l.defer k row false
    match l.spareRow k with
    | none => l
    | some sp =>
      let map := l.mram.larder.rows
      let map := if map.any fun y => y.1.1 == k && y.2 == row then map.map fun y => if y.1.1 == k && y.2 == row then (y.1, sp) else y
        else map ++ [((k, row), sp)]
      (((l.larderKeep fun r => { r with rows := map }).retire k row x.cause false x.inj).spareIn k sp)
  | _, _ => l

/-- A corrected error is counted (R18, R391): the row's count reaches ROW_LIM within ROW_T hours. WEAR of its kind may change (R57). -/
def Logic.rowCounts (m : Memory) (row : Nat) (l : Logic) : Logic × Bool :=
  let old := match l.mem.counts.find? fun x => x.1 == (m, row) with
    | some x => x.2
    | none => []
  let ts := l.time :: old
  let t := l.g F.LARDER_CFG_ROW_T * hourTicks
  let worn := decide (l.g F.LARDER_CFG_ROW_LIM ≤ (ts.filter fun x => decide (l.time - x ≤ t)).length)
  (({ l with mem := { l.mem with counts := ((m, row), ts) :: l.mem.counts.filter fun x => x.1 != (m, row) } }).when (memKind m).isSome
    Logic.larderGen, worn)

/-- The contexts a configuration row of the field SRAM bears on, which settle again when it is reloaded: R19 says "the context". For a row of a
context it is that one; the model takes that of a sequence-table entry, and those whose stage 2 selects a filter set (log 115). -/
def Field.rowCtxs (a : Nat) (f : Field) : List Nat :=
  match pageKind (a / 256) with
  | .ctx c => [c]
  | .seqtab => [f.c (F.SEQTAB_W0_CTX ((a - R.SEQTAB_W0 0) / 2))]
  | .filt u => allCtxs.filter fun c => f.c (F.CTX_FILTER_S2 c) == 16 + u
  | _ => []

/-- A register of the field SRAM is reloaded from the ACTIVE crate, and the contexts it bears on settle again (R19). -/
def Field.reload (a : Nat) (act : List Word) (f : Field) : Field :=
  ({ f with cfg := f.cfg.write a ((crateConfig f.cfg act).word a) }).each (f.rowCtxs a) Field.disturbCtx

/-- A register is reloaded from the ACTIVE crate (R19): of the working SRAM what the logic die holds of it, of the field SRAM the
running configuration. -/
def State.reloadRegister (onF : Bool) (a : Nat) (s : State) : State :=
  let act := (s.ld.mram.slot s.ld.mram.active).words
  if onF then { s with fd := if onField a then s.fd.reload a act else s.fd }
  else { s with ld := s.ld.putWord a ((crateConfig s.ld.regs act).word a) }

/-- An uncorrectable row's action (R19). A Cellar row gives a GUARD for which no detector number is stated. -/
def State.rowAction (m : Memory) (use : RowUse) (inj : Bool) (s : State) : State :=
  match m, use with
  | .cellar, _ =>
    let l := { s.ld with draws := s.ld.draws + 1 }
    { s with ld := l.guard (Sys2Proof.Config.free s.ld.draws % 16) inj (sec := false) }
  | .mram, .slot p =>
    s.onLd (Logic.keep fun k => { k with slots := tput (fun _ => {}) k.slots p { k.slot p with readable := false } })
  | .mram, .loftRecord i => s.onLd (Logic.loftKeep fun k => { k with recs := k.recs.modify i fun r => { r with bad := true } })
  | .otp, .calibration =>
    let f := (s.fd.bump F.CAL_OTPSTAT_BAD).evt R.pageCAL 4 (inj := inj)
    { s with fd := f.fault 51 false none inj }
  | .ckptL, .checkpoint r c => s.onLd (Logic.checkpointBad r c)
  | .ckptF, .checkpoint r c => s.onLd (Logic.checkpointBad r c)
  | .romL, .engine r => s.coreFail r inj
  | .romF, .engine r => s.coreFail r inj
  | .wsram, .engine r => s.coreFail r inj
  | .fsram, .engine r => s.coreFail r inj
  | .wsram, .register a => s.reloadRegister false a
  | .fsram, .register a => s.reloadRegister true a
  | .fsram, .accumulator c => { s with fd := s.fd.gapClose c }
  | _, _ => s

/-- A memory's fault source (R18, R19): SEVERE for the engine ROMs. -/
def State.memFault (m : Memory) (inj : Bool) (s : State) : State :=
  let severe := m == .romL || m == .romF
  if fieldSource (memSource m) then { s with fd := s.fd.fault (memSource m) severe none inj }
  else { s with ld := s.ld.fault (memSource m) severe none inj }

/-- Is the memory on the field die, and the field die in reset? -/
def State.memAsleep (m : Memory) (s : State) : Bool := (m == .romF || m == .ckptF || m == .fsram) && !s.fd.released

/-- A guarded row is read and checked (R18-R20, R391): `errors` bits, 3 for an uncorrectable pattern. A row INJECT has marked
reports a two-bit correction (R400). A retired row is never read. -/
def State.rowRead (m : Memory) (row errors : Nat) (use : RowUse) (s : State) : State :=
  let retired := match memKind m with | some k => !s.ld.rowInUse k row | none => false
  if s.memAsleep m || retired || decide (memRows m ≤ row) then s
  else
    let inj := s.ld.mem.marked.contains m
    let s := s.onLd fun l => { l with mem := { l.mem with marked := l.mem.marked.filter (· != m) } }
    let errors := if inj then max errors 2 else errors
    match errors with
    | 0 => s
    | 3 => ((s.memFault m inj).rowAction m use inj).onLd (Logic.rowRetires m row 2 inj)
    | e =>
      let (l, worn) := s.ld.rowCounts m row
      { s with ld := if e = 2 then l.rowRetires m row 2 inj else if worn then l.rowRetires m row 1 inj else l }

/-- ROW_COUNT_EXPIRY (R391): WEAR of its kind may change (R57). -/
def Logic.rowExpires (m : Memory) (row : Nat) (l : Logic) : Logic :=
  ({ l with mem := { l.mem with counts := l.mem.counts.filter fun x => x.1 != (m, row) } }).when
    ((memKind m).isSome && l.mem.counts.any fun x => x.1 == (m, row)) Logic.larderGen

/-- CORE_SELFTEST (R16). -/
def execCoreSelftest (role : EngineRole) (pass : Bool) (s : State) : Host.Outcome State Fault Refusal :=
  runBoth (State.coreTested role pass) s

/-- CORE_HEARTBEAT_MISSING (R16). -/
def execCoreHeartbeatMissing (role : EngineRole) (s : State) : Host.Outcome State Fault Refusal :=
  runBoth (State.coreFail role false) s

/-- ROLE_RESUME (R16). -/
def execRoleResume (role : EngineRole) (s : State) : Host.Outcome State Fault Refusal := runBoth (State.roleResumes role) s

/-- CHECKPOINT (R15). -/
def execCheckpoint (role : EngineRole) (s : State) : Host.Outcome State Fault Refusal := runLogic (Logic.checkpoint role) s

/-- SCRUB_READ (R19). -/
def execScrubRead (mem : Memory) (row : Nat) (errors : Fin 4) (use : RowUse) (s : State) : Host.Outcome State Fault Refusal :=
  runBoth (State.rowRead mem row errors use) s

/-- ROW_MOVE_DONE (R391). -/
def execRowMoveDone (mem : Memory) (row : Nat) (s : State) : Host.Outcome State Fault Refusal := runLogic (Logic.rowMoved mem row) s

/-- ROW_COUNT_EXPIRY (R391). -/
def execRowCountExpiry (mem : Memory) (row : Nat) (s : State) : Host.Outcome State Fault Refusal :=
  runLogic (Logic.rowExpires mem row) s

end Sys2Proof.Machine
end

