-- ==== Sys2Proof/Machine/FieldWrite.lean ====
section
/-! DEFINITION. What a host word does on the field die: its registers take it, and the block acts (chapters 04-14). -/

namespace Sys2Proof.Machine

open Sys2Proof

/-- The coefficients a user set sums (R127): COEF[k] for k below ⌈NTAPS / 2⌉, each but a middle one twice. -/
def Field.dcGain (u : Nat) (f : Field) : Int :=
  let n := f.c (F.FILT_CFG_NTAPS u)
  (List.range n).foldl (fun a k => a + signed 24 (f.c (F.FILT_COEF_H u (min k (n - 1 - k))))) 0

/-- A user set is committed (R129): SPAN, DCGAIN and GAINOK, then READY; a reserved CFG leaves it unready. -/
def Field.filtCommit (u : Nat) (f : Field) : Field :=
  let n := f.c (F.FILT_CFG_NTAPS u)
  if n = 0 ∨ 5 < f.c (F.FILT_CFG_DEC u) then (f.put (F.FILT_INFO_READY u) 0).evt (R.pageFILT u) 2
  else
    let g := f.dcGain u
    let f := ((f.put (F.FILT_INFO_SPAN u) (n - 1)).put (F.FILT_DCGAIN_DCGAIN u) (unsigned 32 g)).putb (F.FILT_INFO_GAINOK u)
      (decide ((g - 4194304).natAbs ≤ 4))
    ((f.put (F.FILT_INFO_READY u) 1).evt (R.pageFILT u) 1).tell (.gen (R.pageFILT u))

/-- FIR_COMMIT_DONE (R129). CFG and COEF as they stand now are committed, also where they were written after GO (the model's choice, log 154). -/
def Field.filtDone (u : Nat) (f : Field) : Field :=
  if nbit f.commits u then ({ f with commits := nclr f.commits u }).filtCommit u else f

/-- A threshold switch's options are written (R168): an enable takes INIT. -/
def Field.thWritten (c : Nat) (b : Bool) (was : Bool) (f : Field) : Field :=
  let en := f.cb (if b then F.CTX_TH_B_CFG_EN c else F.CTX_TH_A_CFG_EN c)
  if en && !was then f.initTh c b else f.showTh c

/-- URGREQ (R116): the request is on its way. That URGSTAT.RESULT keeps the former outcome until this one's arrival, beside the new PROG and
CTX, is the model's choice (log 109). -/
def Field.urgAsk (w : Word) (f : Field) : Field :=
  let n := wbits w 16 12
  let f := (f.put F.SLICE_URGSTAT_PROG (wbits w 0 4)).put F.SLICE_URGSTAT_CTX (wbits w 8 7)
  { f with urgReqs := f.urgReqs ++ [(wbits w 0 4, wbits w 8 7, if n = 0 then 4096 else n)], urgOver := false }

/-- INJECT of a terminal: the bits of its cell and of its function. -/
def Field.termInject (n : Nat) (w : Word) (f : Field) : Field :=
  let f := (f.cellInject n w).diInject n w
  let f := if isDo (f.func n) then f.doInject n w else f
  if isAo (f.func n) then f.aoInject n w else f

/-- INJECT of a field block (R53). -/
def Field.inject (page : Nat) (w : Word) (f : Field) : Field :=
  match pageKind page with
  | .term n => f.termInject n w
  | .fsup => f.fsupInject w
  | .exc => f.excInject w
  | .cal => f.calInject w
  | .slice s => f.sliceInject s w
  | .ctx c => f.ctxInject c w
  | _ => f

/-- The running configuration takes a word. -/
def Field.store (a : Nat) (w : Word) (f : Field) : Field :=
  let m := word (writeMask a)
  { f with cfg := f.cfg.write a ((f.cfg.word a &&& ~~~m) ||| (w &&& m)) }

/-- A host command ends a held catch: once this device leads, the terminal follows R25 (R343). -/
def Field.freeStage (n : Nat) (f : Field) : Field :=
  if f.mode = .run ∧ (f.term n).catch_ ≠ .none then f.modTerm n fun t => { t with catch_ := .none } else f

/-- A word for a terminal's page. -/
def Field.takeTerm (n off : Nat) (w : Word) (f : Field) : Field :=
  let a := R.CTRL (R.pageTERM n) - 1 + off
  match off with
  | 0x21 => (f.store a w).modDi n fun d => { d with again := true }
  | 0x29 => (f.when (wbit w 0) (Field.diClearCount n)).when (wbit w 1) (Field.diClearChat n)
  | 0x33 => ((f.store a w).freeStage n).outputCommand n (f.cb (F.TERM_DO_CMD_ON n))
  | 0x3A => (f.when (wbit w 0) (Field.unlatch n)).when (wbit w 1) (Field.doClearCounts n)
  | 0x43 => ((f.store a w).freeStage n).outputCommand n false
  | 0x49 => f.when (wbit w 0) (Field.aoClearCounts n)
  | 0x52 => (f.store a w).force n
  | _ => f.store a w

/-- A word for the EXC page. -/
def Field.takeExc (off : Nat) (w : Word) (f : Field) : Field :=
  let a := R.CTRL R.pageEXC - 1 + off
  let f := f.store a w
  if 0x11 ≤ off ∧ off ≤ 0x2B then
    let k := (off - 0x10) / 8
    if (off - 0x10) % 8 = 1 then (if wbit w 0 then f.sineEnable k else f.sineDisable k)
    else if (off - 0x10) % 8 ≤ 3 then f.sineWritten k else f
  else f

/-- A word for a SLICE page. -/
def Field.takeSlice (s off : Nat) (w : Word) (f : Field) : Field :=
  if off = 0x43 then f.urgAsk w
  else if 0x48 ≤ off ∧ off ≤ 0x4B then
    let g := off - 0x48
    let was := f.c (F.SLICE_GRP_SRC g)
    (f.store (R.CTRL (R.pageSLICE s) - 1 + off) w).when (wbits w 0 2 != was) (Field.put (F.SLICE_GRP_ALIGNED g) 0)
  else f.store (R.CTRL (R.pageSLICE s) - 1 + off) w

/-- A word for a FILT page. -/
def Field.takeFilt (u off : Nat) (w : Word) (f : Field) : Field :=
  if off = 0x11 then (if wbit w 0 then { f with commits := nset f.commits u } else f)
  else
    let f := f.store (R.CTRL (R.pageFILT u) - 1 + off) w
    if off = 0x10 ∨ 0x80 ≤ off then f.put (F.FILT_INFO_READY u) 0 else f

/-- A context's PLAUS is to change: the one in force serves the dwell in progress (R148). -/
def Field.keepPlaus (c : Nat) (limit : Nat) (f : Field) : Field :=
  let old := (tget (fun _ => none) f.rot.plaus c).getD limit
  f.modRot fun r => { r with plaus := tput (fun _ => none) r.plaus c (some old) }

/-- A word for a CTX page. PLAUS waits for the next dwell (R148), chain fields for the close of the window or the next entry (R126). -/
def Field.takeCtx (c off : Nat) (w : Word) (f : Field) : Field :=
  let a := R.CTRL (R.pageCTX c) - 1 + off
  match off with
  | 0x14 | 0x15 | 0x16 => (f.store a w).noteChain c (f.chainOf c)
  | 0x1A => (f.keepPlaus c (f.c (F.CTX_PLAUS_LIMIT c))).store a w
  | 0x32 => (f.store a w).thWritten c false (f.cb (F.CTX_TH_A_CFG_EN c))
  | 0x35 => (f.store a w).thWritten c true (f.cb (F.CTX_TH_B_CFG_EN c))
  | _ => f.store a w

/-- LARDER.VETO reaches the field die (R396): clearing a bit carries out the deferred retirements of its kind, in ascending index. -/
def Field.takeVeto (w : Word) (f : Field) : Field :=
  let v := wbits w 0 14
  let go := f.deferred.filter fun x => !nbit v x.1
  let f := { f with veto := v, deferred := f.deferred.filter fun x => nbit v x.1 }
  let f := go.foldl (fun f x => f.tell (.defer x.1 x.2 false)) f
  let wear := fun (k : Nat) => (List.range 288).filter fun i => go.contains (k, i)
  let f := f.each (wear 0) fun s f => ({ f with rot := { f.rot with causes := tput (fun _ => 2) f.rot.causes s 1 } }).sliceFails s false
  let f := f.each (wear 4) fun i f => f.retireSegment (i / 9) (i % 9) 1 false
  f.each (wear 5) fun b f => if f.gb F.EXC_REF_SPARE_AVAIL then f.retireRef b 1 false else f

/-- A LARDER request for a resource of the field die (R395): a failure retirement, LAST.CAUSE = REQUEST. -/
def Field.takeRequest (w : Word) (f : Field) : Field :=
  let i := wbits w 8 24
  match wbits w 0 4 with
  | 0 => ({ f with rot := { f.rot with causes := tput (fun _ => 2) f.rot.causes i 4 } }).sliceFails i false
  | 4 => f.retireSegment (i / 9) (i % 9) 4 false
  | 5 => f.retireRef i 4 false
  | _ => f

/-- A host word reaches the field die. -/
def Field.take (a : Nat) (w : Word) (f : Field) : Field :=
  let off := a % 256
  if off = 6 ∧ pageKind (a / 256) ≠ .seqtab then f.inject (a / 256) w
  else if off = 1 ∧ pageKind (a / 256) ≠ .seqtab then f.takeCtrl (a / 256) w
  else match pageKind (a / 256) with
    | .term n => f.takeTerm n off w
    | .exc => f.takeExc off w
    | .slice s => f.takeSlice s off w
    | .filt u => f.takeFilt u off w
    | .ctx c => f.takeCtx c off w
    | .larder => if off = 0x11 then f.takeVeto w else f.takeRequest w
    | .cal => if off = 0x1A then f.calRun (wbits w 0 5) else f.store a w
    | .reflex => if off = 0xD4 then f.clearRules 0 w else if off = 0xD5 then f.clearRules 32 w else f.store a w
    | _ => f.store a w

/-- An output command while the field die is down or not configured (R30, R43): its OUTHOLD bit clears, a tie head's with its partner's, so that
re-application gives it the commanded value. -/
def Logic.commandedAnew (a : Nat) (_ : Word) (l : Logic) : Logic :=
  match pageKind (a / 256) with
  | .term n =>
    let fn := l.g (F.TERM_CELL_FUNC n)
    let ok := (a % 256 == 0x33 && isDo fn) || (a % 256 == 0x43 && isAo fn)
    let tie := if isDo fn && l.gb (F.TERM_DO_CFG_TIE_EN n) then [n, l.g (F.TERM_DO_CFG_TIE n)] else [n]
    l.when ok (Logic.each tie fun k => Logic.put ⟨R.DEVICE_OUTHOLD, k, 1⟩ 0)
  | _ => l

/-- A host word for a field block is committed on the logic die and crosses in a CMD frame (R8): at once while the link is up,
behind those that wait else; a field die in reset takes commanded values when its configuration is applied again (R43). -/
def State.toField (a : Nat) (w : Word) (s : State) : State :=
  let m := word (writeMask a)
  let s := s.onLd fun l => if m = 0#32 then l else l.putWord a ((l.regs.word a &&& ~~~m) ||| (w &&& m))
  let s := if s.fd.released && s.fd.configured then s else s.onLd (Logic.commandedAnew a w)
  if s.ld.linkUp && s.fd.released && s.ld.bar.cmds == [] then { s with fd := s.fd.take a w }
  else if s.fd.released then s.onLd fun l => { l with bar := { l.bar with cmds := l.bar.cmds ++ [(a, w)] } }
  else s

/-- FIR_COMMIT_DONE (R129). -/
def execFirCommitDone (u : Fin 8) (s : State) : Host.Outcome State Fault Refusal := runField (Field.filtDone u) s

end Sys2Proof.Machine
end

