-- ==== Sys2Proof/Machine/Validate.lean ====
section
/-! DEFINITION. Validation: every check of every page against the configuration a crate would produce (R424), what each page's
VFAIL then holds, and the checks a host write to a context meets (R148). -/

namespace Sys2Proof.Machine

open Sys2Proof

/-- A failure: its reason, the key that orders failures of one reason, and what VFAIL holds for it. -/
structure VFail where
  reason : Nat
  key : Nat
  word : Nat
  deriving DecidableEq, Repr

/-- The failure recorded: by ascending reason, then ascending key (R424). -/
def firstFail (l : List VFail) : Option VFail :=
  match l with
  | [] => none
  | x :: xs => some (xs.foldl (fun b y => if y.reason < b.reason ∨ (y.reason = b.reason ∧ y.key < b.key) then y else b) x)

/-- Codes below a DI type's minimum current are reserved (R172); in a pair the minimum applies to twice the current. -/
def isinkOk (w : Word) (paired : Bool) : Bool :=
  let v := wbits w 8 4
  let least := ([3, 4, 12, 4][wbits w 0 2]?).getD 3
  v == 0 || (decide (3 ≤ v ∧ v ≤ 14) && decide (least ≤ if paired then 2 * v else v))

/-- Is a reflex term's encoding accepted (R223)? -/
def termEncOk (t : Nat) : Bool :=
  let k := t % 8
  let i := t / 8 % 128
  decide (k < 6) && (k != 3 || decide (i < 32)) && (k != 4 || i / 4 % 4 != 3)

/-- Fields whose reserved values depend on another field, or that are lists of values (R5, R66, R130, R172, R223, R225, R241). -/
def depOk (paired : Bool) (a : Nat) (w : Word) : Bool :=
  let off := a % 256
  match pageKind (a / 256) with
  | .term _ => off != 0x20 || isinkOk w paired
  | .ctx _ => off != 0x15 || !wbit w 8 || wbits w 16 15 != 0
  | .xpt => !(decide (0x40 ≤ off ∧ off ≤ 0xBE) && off % 2 == 0) || (nodeOk (wbits w 0 6) && nodeOk (wbits w 8 6))
  | .reflex =>
    if 0x10 ≤ off ∧ off ≤ 0xCF then
      if (off - 0x10) % 3 = 2 then !wbit w 3 || decide (wbits w 4 5 < 4)
      else termEncOk (wbits w 0 16) && termEncOk (wbits w 16 16)
    else true
  | .clock => off != 0x15 || !wbit w 31 || wbits w 0 4 != wbits w 8 4
  | .device => off != 0x22 || decide ((signed 32 w.toNat).natAbs ≤ 858993)
  | .cal => off != 0x10 || wbits w 8 3 == 6 || decide (wbits w 0 5 < 18)
  | _ => true

/-- Does a word hold no reserved value? -/
def wordOk (paired : Bool) (a : Nat) (w : Word) : Bool := encOk a w && depOk paired a w

/-- The registers of a configuration that hold a reserved value; those at their values before load hold none (R421). -/
def badWords (paired : Bool) (r : RegFile) : List Nat :=
  (r.filter fun x => (match regRow x.1 with | some q => decide (q.acc = .rw) | none => false) && !wordOk paired x.1 x.2).map (·.1)

/-- The programmes that may run a context (R146). -/
def Field.runners (c : Nat) (f : Field) : List Nat := allProgs.filter fun p => f.mayRun p c

/-- A set's reach: the programmes that may run a context that uses it (R69). -/
def Field.setReach (k : Nat) (f : Field) : List Nat :=
  let cs := allCtxs.filter fun c => f.setOf c == k && f.cb (F.CTX_CFG_VALID c)
  allProgs.filter fun p => cs.any fun c => f.mayRun p c

/-- Is a source a current source (R68)? -/
def Field.currentSource (src : Nat) (f : Field) : Bool :=
  decide (5 ≤ src ∧ src ≤ 8) || (decide (1 ≤ src ∧ src ≤ 4) && f.cb (F.EXC_SINE_CFG_MODE (src - 1)))

/-- The sets that are judged: the valid ones. -/
def Field.validSets (f : Field) : List Nat := (List.range 64).filter fun k => f.cb (F.XPT_SET_A_VALID k)

/-- A crosspoint failure: set (64 for a static drive or a cell) and terminal. -/
def xptFail (reason k n : Nat) : VFail :=
  { reason := reason, key := k * 32 + n, word := pack [(0, reason), (8, min 0x3F k), (16, n)] }

/-- The drives R69 judges: (set or 64, terminal, source). -/
def Field.judgedDrives (f : Field) : List (Nat × Nat × Nat) :=
  (f.validSets.filter fun k => f.setReach k != []).flatMap (fun k => (f.setDrives k).map fun d => (k, d.1, d.2)) ++
    f.staticDrives.map fun d => (64, d.1, d.2)

/-- Are the drives of two sets simultaneous (R69)? -/
def Field.together (a b : Nat) (f : Field) : Bool :=
  a == 64 || b == 64 || a == b || !(f.setReach a == f.setReach b && (f.setReach a).length == 1)

/-- Pairs of list members, the earlier first. -/
def pairsOf {α : Type} : List α → List (α × α)
  | [] => []
  | x :: xs => xs.map (fun y => (x, y)) ++ pairsOf xs

/-- The drive of a conflicting pair that VFAIL names: the set's, where the other is static (R70's example, 0x0111_0504); the
later of two drives of sets, and of two static ones that of the lower terminal. DESIGN CHOICE, notes/assumptions/117.md: R70 does not say
which drive of two sets, or of two static ones, is named. -/
def namedDrive (x : (Nat × Nat × Nat) × (Nat × Nat × Nat)) : Nat × Nat × Nat := if x.2.1 = 64 then x.1 else x.2

/-- R70: the failures of the crosspoint page; `live`: the running registers a LIVE crate is judged against (R63). DESIGN CHOICE,
notes/assumptions/117.md: COUNT takes one for each conflicting pair and one for each bad word, and a set's bad word names
TERMINAL 0. SENSE_OFF and TDAC_OWNER are judged on every set; a node field of a set that is not valid and holds 0, its value before load, names
nothing, for no crate is refused for a field it does not name (R421; DEDUCED, log 145). -/
def Field.xptFails (bad : List Nat) (live : Option RegFile) (f : Field) : List VFail :=
  let enc := bad.filterMap fun a =>
    if pageKind (a / 256) = .xpt then
      let off := a % 256
      if 0x10 ≤ off ∧ off ≤ 0x2F then some (xptFail 1 64 (off - 0x10))
      else if 0x40 ≤ off then some (xptFail 1 ((off - 0x40) / 2) 0) else none
    else none
  let sets := f.validSets
  let nodes : List (Nat × Nat) := (List.range 64).flatMap fun k =>
    [(k, f.c (F.XPT_SET_A_POS k)), (k, f.c (F.XPT_SET_A_NEG k))].filter fun x => f.cb (F.XPT_SET_A_VALID k) || x.2 != 0
  let off := (nodes.filter fun x => decide (x.2 < 32) && f.c (F.TERM_CELL_FUNC x.2) == 0).map fun x => xptFail 2 x.1 x.2
  let ds := f.judgedDrives
  let raw := (ds.filter fun d => f.c (F.TERM_CELL_FUNC d.2.1) != 7).map fun d => xptFail 3 d.1 d.2.1
  let ps := (pairsOf ds).filter fun d => f.together d.1.1 d.2.1
  let two := (ps.filter fun d => d.1.2.1 == d.2.2.1 && d.1.2.2 != d.2.2.2).map fun d => xptFail 4 (namedDrive d).1 (namedDrive d).2.1
  let fan := (ps.filter fun d => d.1.2.2 == d.2.2.2 && d.1.2.1 != d.2.2.1 && f.currentSource d.1.2.2).map
    fun d => xptFail 5 (namedDrive d).1 (namedDrive d).2.1
  let same := (sets.filter fun k => f.c (F.XPT_SET_A_POS k) == f.c (F.XPT_SET_A_NEG k)).map
    fun k => xptFail 6 k (if f.c (F.XPT_SET_A_POS k) < 32 then f.c (F.XPT_SET_A_POS k) else 0)
  let none_ := (sets.filter fun k => f.c (F.XPT_SET_A_POS k) == 0x3F || f.c (F.XPT_SET_A_NEG k) == 0x3F).map fun k => xptFail 7 k 0
  let inv := (allCtxs.filter fun c => f.cb (F.CTX_CFG_VALID c) && !sets.contains (f.setOf c)).map fun c => xptFail 8 (f.setOf c) 0
  let aos := allTerms.filter fun n => isAo (f.c (F.TERM_CELL_FUNC n))
  let count := if 16 < aos.length then [xptFail 9 64 (aos.getD 16 0)] else []
  let tdac := if f.cb F.XPT_CFG_TDAC_USER then []
    else ((List.range 64).flatMap (fun k => (f.setDrives k).map fun d => (k, d)) ++ f.staticDrives.map fun d => (64, d)).filterMap
      (fun (x : Nat × Nat × Nat) => if x.2.2 = 10 then some (xptFail 10 x.1 x.2.1) else none) ++
      (nodes.filter fun (x : Nat × Nat) => x.2 == 0x29).map fun x => xptFail 10 x.1 0
  let cells := match live with
    | some run => (allTerms.filter fun n => run.word (R.TERM_CELL n) != f.cfg.word (R.TERM_CELL n)).map fun n => xptFail 11 64 n
    | none => []
  enc ++ off ++ raw ++ two ++ fan ++ same ++ none_ ++ inv ++ count ++ tdac ++ cells

/-- A sequencer failure: programme, entry (0x1FF: none), context. -/
def seqFail (reason p e : Nat) (c : Option Nat) : VFail :=
  { reason := reason, key := (p * 512 + e) * 128 + c.getD 0,
    word := pack [(0, reason), (4, p), (8, e), (24, c.getD 0), (31, b2n c.isSome)] }

/-- What R147 finds wrong with a context under a programme (reasons 5-11 and 13). `ready`: the user sets that count as READY. -/
def Field.ctxReasons (p c : Nat) (ready : Nat → Bool) (f : Field) : List Nat :=
  let ch := f.chainOf c
  let lean := f.cb (F.SEQ_PROG_LEAN p)
  let rate := if lean then 16000 else 64000
  let step := f.outStep ch
  let range := f.c (F.CTX_CFG_RANGE c)
  let ar := f.cb (F.CTX_AR_EN c)
  let lo := f.c (F.CTX_AR_AR_MIN c)
  let hi := f.c (F.CTX_AR_AR_MAX c)
  let src := f.c (F.CTX_DEMOD_SRC c)
  let pos := f.c (F.XPT_SET_A_POS (f.setOf c))
  let shunt := decide (pos < 32) && f.c (F.TERM_CELL_FUNC pos) == 4 && f.c (F.XPT_SET_A_NEG (f.setOf c)) == 0x2B
  (if 2 * rate < step then [5] else []) ++
    (if f.cb (F.CTX_WIN_BYTIME c) ∧ f.c (F.CTX_WIN_T_TICKS c) * rate < 8 * step * 24576000 then [6] else []) ++
    (if lean ∧ src ≠ 0 ∧ 8388608 < f.c (F.EXC_SINE_FREQ_FREQ (src - 1)) then [7] else []) ++
    (if range = 6 ∧ !shunt then [8] else []) ++
    (if f.c (F.CTX_CFG_BURNOUT c) ≠ 0 ∧ (3 < range ∨ (ar ∧ 3 < hi)) then [9] else []) ++
    (if ar ∧ (hi < lo ∨ hi = 6 ∨ range < lo ∨ hi < range) then [10] else []) ++
    (if f.c (F.CTX_CFG_REFSEL c) = 3 ∧ src = 0 then [11] else []) ++
    (if 16 ≤ ch.s2 ∧ ch.s2 < 24 ∧ !ready (ch.s2 - 16) then [13] else [])

/-- Would the user set be READY once committed (R129)? -/
def Field.filtWould (u : Nat) (f : Field) : Bool := f.c (F.FILT_CFG_NTAPS u) != 0 && decide (f.c (F.FILT_CFG_DEC u) ≤ 5)

/-- R147: the failures of the sequencer, context and filter pages. The later of two programmes is named for OVERLAP and GROUP_LEAN, the lowest
that runs the context for ENCODING, 0 where none does (the model's choice, log 155). -/
def Field.seqFails (bad : List Nat) (f : Field) : List VFail :=
  let enc := bad.filterMap fun a =>
    match pageKind (a / 256) with
    | .ctx c => some (seqFail 1 ((f.runners c).headD 0) 0x1FF (some c))
    | .seq | .filt _ | .seqtab => some (seqFail 1 0 0x1FF none)
    | _ => none
  let ps := allProgs.filter fun p => f.cb (F.SEQ_PROG_VALID p)
  let runs := ps.map fun p => (p, f.run p)
  let open_ := (runs.filter fun x => x.2.getLast? == some 511 && !f.cb (F.SEQTAB_W0_LOOP_END 511)).map fun x => seqFail 2 x.1 511 none
  let earlier := fun (p : Nat) => runs.filter fun y => decide (y.1 < p)
  let twice := runs.flatMap fun x =>
    (x.2.filter fun e => (earlier x.1).any fun y => y.2.contains e).map fun e => seqFail 3 x.1 e none
  let shared := runs.flatMap fun x =>
    (x.2.filter fun e => (earlier x.1).any fun y => y.2.any fun d => f.entryCtx d == f.entryCtx e).map
      fun e => seqFail 3 x.1 e (some (f.entryCtx e))
  let invalid := runs.flatMap (fun x => (x.2.filter fun e => !f.cb (F.CTX_CFG_VALID (f.entryCtx e))).map
      fun e => seqFail 4 x.1 e (some (f.entryCtx e))) ++
    (allCtxs.filter fun c => !f.cb (F.CTX_CFG_VALID c) && f.c (F.CTX_URG_PROGS c) != 0).map
      fun c => seqFail 4 ((nbits 16 (f.c (F.CTX_URG_PROGS c))).headD 0) 0x1FF (some c)
  let ctxs := allCtxs.flatMap fun c => if f.cb (F.CTX_CFG_VALID c) then
      (f.runners c).flatMap fun p => (f.ctxReasons p c fun u => f.filtWould u).map fun k => seqFail k p 0x1FF (some c)
    else []
  let groups := (ps.filter fun p => ps.any fun q => decide (q < p) && f.c (F.SEQ_PROG_GROUP q) == f.c (F.SEQ_PROG_GROUP p) &&
    f.c (F.SEQ_PROG_LEAN q) != f.c (F.SEQ_PROG_LEAN p)).map fun p => seqFail 12 p 0x1FF none
  let urg := allCtxs.flatMap fun c => ((nbits 16 (f.c (F.CTX_URG_PROGS c))).filter fun p => !f.cb (F.SEQ_PROG_VALID p)).map
    fun p => seqFail 14 p 0x1FF (some c)
  enc ++ open_ ++ twice ++ shared ++ invalid ++ ctxs ++ groups ++ urg

/-- A supply or terminal failure: scope 0 a terminal, 1 a group, 2 the package (R231). -/
def fsupFail (reason scope i : Nat) : VFail :=
  { reason := reason, key := scope * 32 + i,
    word := pack [(0, reason), (8, if scope = 0 then i else 0), (16, if scope = 1 then i else 0), (20, scope)] }

/-- Do two tied switched outputs meet R196? -/
def Field.tieOk (n : Nat) (f : Field) : Bool :=
  let m := f.c (F.TERM_DO_CFG_TIE n)
  let act := fun k => (f.c (F.TERM_SS_CFG_ACTION k),
    if f.c (F.TERM_SS_CFG_ACTION k) = 2 then f.c (F.TERM_SS_VALUE_VALUE k) % 2 else 0)
  n != m && n / 8 == m / 8 && isDo (f.c (F.TERM_CELL_FUNC m)) && f.cb (F.TERM_DO_CFG_TIE_EN m) && f.c (F.TERM_DO_CFG_TIE m) == n &&
    f.c (F.TERM_DO_CFG_ILIM n) == f.c (F.TERM_DO_CFG_ILIM m) && f.cfg.word (R.TERM_DO_PROT n) == f.cfg.word (R.TERM_DO_PROT m) &&
    act n == act m

/-- The largest level of an analogue output (R202). -/
def aoTop (fn : Nat) : Nat := if fn = 5 then 240000 else 220000

/-- R196, R203, R216, R221, R228: the failures recorded on the FSUP page. -/
def Field.fsupFails (bad : List Nat) (f : Field) : List VFail :=
  let enc := bad.filterMap fun a =>
    let off := a % 256
    match pageKind (a / 256) with
    | .term n => some (fsupFail 1 0 n)
    | .fsup => if off = 0x24 ∨ off = 0x26 then some (fsupFail 1 2 0) else some (fsupFail 1 1 (off % 4))
    | _ => none
  let order := ((List.range 4).filter fun g =>
    decide (f.c (F.FSUP_GRP_MON_LOW g) < f.c (F.FSUP_GRP_MON_UV g) + 10) ||
      decide (f.c (F.FSUP_GRP_MON_WARN g) < f.c (F.FSUP_GRP_MON_LOW g) + 10)).map fun g => fsupFail 2 1 g
  let fn := fun n => f.c (F.TERM_CELL_FUNC n)
  let act := fun n => f.c (F.TERM_SS_CFG_ACTION n)
  let outs := allTerms.filter fun n => isOut (fn n)
  let fits := (outs.filter fun n => (act n == 3 || act n == 4) && fn n != 5).map fun n => fsupFail 3 0 n
  let ties := (outs.filter fun n => isDo (fn n) && f.cb (F.TERM_DO_CFG_TIE_EN n) && !f.tieOk n).map
    fun n => fsupFail 4 0 (min n (f.c (F.TERM_DO_CFG_TIE n)))
  let ne43 := (allTerms.filter fun n => fn n == 6 && f.cb (F.TERM_AO_CFG_NE43 n)).map fun n => fsupFail 5 0 n
  let vals := (outs.filter fun n => isAo (fn n) && act n == 2 && decide (aoTop (fn n) < f.c (F.TERM_SS_VALUE_VALUE n))).map
    fun n => fsupFail 6 0 n
  enc ++ order ++ fits ++ ties ++ ne43 ++ vals

/-- A reflex failure. -/
def reflexFail (reason r : Nat) : VFail := { reason := reason, key := r, word := pack [(0, reason), (8, r)] }

/-- A rule's four terms. -/
def Field.ruleWords (r : Nat) (f : Field) : List Nat :=
  [f.c (F.REFLEX_RULE_A_TERM0 r), f.c (F.REFLEX_RULE_A_TERM1 r), f.c (F.REFLEX_RULE_B_TERM2 r), f.c (F.REFLEX_RULE_B_TERM3 r)]

/-- R228: the failures of the reflex page. DEDUCED, notes/assumptions/118.md: only NO_TERM is limited to enabled rules; a rule
whose word C holds 0, the value before load, has no action that could refuse a crate (R421). -/
def Field.reflexFails (bad : List Nat) (f : Field) : List VFail :=
  let enc := (bad.filter fun a => pageKind (a / 256) == .reflex).map fun a => reflexFail 1 ((a % 256 - 0x10) / 3)
  let rules := (List.range 64).filter fun r => f.cb (F.REFLEX_RULE_C_EN r)
  let fn := fun n => f.c (F.TERM_CELL_FUNC n)
  let empty := (rules.filter fun r => (f.ruleWords r).all fun t => t % 8 == 0).map (reflexFail 2)
  let named := (List.range 64).filter fun r => f.cfg.word (R.REFLEX_RULE_C r) != 0
  let refs := ((List.range 64).filter fun r => (f.ruleWords r).any fun t =>
    ((t % 8 == 1 || t % 8 == 2) && !f.cb (F.CTX_CFG_VALID (t / 8 % 128))) ||
      (t % 8 == 3 && decide (t / 8 % 128 < 32) && fn (t / 8 % 128) != 1)).map (reflexFail 3)
  let act := fun r => f.c (F.REFLEX_RULE_C_ACTION r)
  let tgt := fun r => f.c (F.REFLEX_RULE_C_TARGET r)
  let one := (named.filter fun r => !f.cb (F.REFLEX_RULE_C_TKIND r) && !actionFits (act r) (fn (tgt r))).map (reflexFail 4)
  let group := (named.filter fun r => f.cb (F.REFLEX_RULE_C_TKIND r) &&
    !(groupTerms (tgt r % 4)).any fun n => actionFits (act r) (fn n)).map (reflexFail 5)
  enc ++ empty ++ refs ++ one ++ group

/-- The frame time in tenths of the clock's periods: periods per frame (R324). -/
def portPeriods (w : Word) : Nat :=
  let lead := wbits w 4 4
  let trail := wbits w 8 4
  let gap := wbits w 12 8
  if wbit w 20 then lead + 144 + trail + gap else 9 * (lead + 16 + trail + gap)

/-- The slower of PCLK normal and degraded, kHz (R321). -/
def pclkSlow (w : Word) : Nat := if wbits w 0 2 = 0 then 49152 else 24576

/-- R324: F above 8.0 µs at the slower PCLK. -/
def portSlow (w : Word) : Bool := decide (8 * pclkSlow w < 1000 * portPeriods w)

/-- R324, R5: the failures of the PAIR page. -/
def Field.pairFails (bad : List Nat) (f : Field) : List VFail :=
  (if bad.any fun a => pageKind (a / 256) == .pair then [{ reason := 1, key := 0, word := 1 }] else []) ++
    (if portSlow (f.cfg.word R.PAIR_PORT) then [{ reason := 2, key := 0, word := 2 }] else [])

/-- The floors of the detectors' grades (R288). -/
def gradeFloor : List Nat := [2, 2, 1, 1, 0, 1, 1, 0, 0, 1, 1]

/-- R284: the failures of the CELLAR page. -/
def Field.cellarFails (bad : List Nat) (f : Field) : List VFail :=
  let one := fun (k d : Nat) => { reason := k, key := d, word := pack [(0, k), (8, d)] : VFail }
  let enc := (bad.filter fun a => pageKind (a / 256) == .cellar).map fun a =>
    one 1 (if a = R.CELLAR_POLICY then (if f.c F.CELLAR_POLICY_AUTHLIM = 0 then 9 else 6) else 0)
  let low := if f.cb F.CELLAR_POLICY_APPROVED_REQ then
      ((List.range 11).filter fun d => decide (f.c ⟨R.CELLAR_GRADE, 2 * d, 2⟩ < gradeFloor.getD d 0) && d != 10).map (one 2)
    else []
  enc ++ low

/-- What validation finds: for each page with a VFAIL its word, and whether the crate passes. -/
structure Verdict where
  words : List (Nat × Nat)
  ok : Bool
  deriving DecidableEq, Repr

/-- A page's VFAIL: 0, or the first failure with the count where the page has one. -/
def vfailWord (fails : List VFail) (count : Bool) (idle : Nat) : Nat :=
  match firstFail fails with
  | some x => x.word + if count then min 255 fails.length * 2 ^ 24 else 0
  | none => idle

/-- Validation of a configuration (R424). -/
def validate (paired : Bool) (live : Option RegFile) (r : RegFile) : Verdict :=
  let bad := badWords paired r
  let f : Field := { cfg := r }
  let x := f.xptFails bad live
  let s := f.seqFails bad
  let u := f.fsupFails bad
  let x6 := f.reflexFails bad
  let p := f.pairFails bad
  let c := f.cellarFails bad
  { words := [(R.PAIR_VFAIL, vfailWord p false 0), (R.CELLAR_VFAIL, vfailWord c false 0), (R.FSUP_VFAIL, vfailWord u false 0),
      (R.XPT_VFAIL, vfailWord x true 0), (R.SEQ_VFAIL, vfailWord s false 0x1FF00), (R.REFLEX_VFAIL, vfailWord x6 true 0)]
    ok := bad == [] && x == [] && s == [] && u == [] && x6 == [] && p == [] && c == [] }

/-- VFAIL idle words (R424). -/
def vfailIdle (a : Nat) : Nat := if a = R.SEQ_VFAIL then 0x1FF00 else 0

/-- VALID_FAIL of a page's EVT_RAW (R77, R152, R231, R233, R295, R348). -/
def validFailBit (a : Nat) : Nat :=
  match pageKind (a / 256) with
  | .xpt | .seq => 0
  | .reflex => 2
  | .fsup => 19
  | .cellar => 11
  | .pair => 12
  | _ => 0

/-- The verdict is shown: VFAIL of every page that has one, and its event (R424, R70, R147, R228, R284). -/
def Logic.showVerdict (v : Verdict) (l : Logic) : Logic :=
  v.words.foldl (fun l x =>
    let l := l.putWord x.1 (word x.2)
    l.when (x.2 != vfailIdle x.1) (Logic.evt (x.1 / 256) (validFailBit x.1))) l

/-- The lowest-numbered page whose VFAIL holds a failure (R424). -/
def Verdict.page (v : Verdict) : Nat :=
  match v.words.filter fun x => x.2 != vfailIdle x.1 with
  | [] => 0
  | x :: xs => xs.foldl (fun p y => min p (y.1 / 256)) (x.1 / 256)

/-- Does a host write to a SESSION field of a context fail a check of R147 (R148)? -/
def Field.ctxWriteFails (a : Nat) (w : Word) (f : Field) : Bool :=
  match pageKind (a / 256) with
  | .ctx c =>
    let g : Field := { f with cfg := f.cfg.write a w }
    (g.runners c).any fun p => g.ctxReasons p c (fun u => f.gb (F.FILT_INFO_READY u)) != []
  | _ => false

end Sys2Proof.Machine
end

