-- ==== Sys2Proof/Machine/CfgApply.lean ====
section
/-! DEFINITION. A configuration reaches the field die page by page (R59, R313): registers of a page change together at the end of
its records, and the block takes the change. -/

namespace Sys2Proof.Machine

open Sys2Proof

/-- The registers of a page whose writable bits two configurations give differently. -/
def pageChanges (p : Nat) (a b : RegFile) : List Nat :=
  let keys := (a ++ b).map (·.1)
  (keys.filter fun k => k / 256 == p && (a.word k ^^^ b.word k) &&& word (writeMask k) != 0#32).eraseDups

/-- The running configuration takes some registers of another. -/
def Field.takeWords (ks : List Nat) (target : RegFile) (f : Field) : Field :=
  { f with cfg := ks.foldl (fun c k =>
      let m := word (writeMask k)
      c.write k ((c.word k &&& ~~~m) ||| (target.word k &&& m))) f.cfg }

/-- A terminal's page: a new FUNC is a function change (R63); else the outputs settle under the new configuration. -/
def Field.applyTerm (n : Nat) (f old : Field) : Field :=
  let fn := f.c (F.TERM_CELL_FUNC n)
  let en := F.CTRL_EN (R.pageTERM n)
  if fn ≠ old.c (F.TERM_CELL_FUNC n) then f.funcChange n fn
  else if f.cb en && !old.cb en then f.enableBlock (R.pageTERM n)
  else if !f.cb en && old.cb en then f.disableBlock (R.pageTERM n)
  else (f.settle n).blankLine

/-- The XPT page: contexts whose set changed, or that use a terminal whose static drive changed, switch (R72, R137). -/
def Field.applyXpt (f old : Field) : Field :=
  let ab := fun (g : Field) (k : Nat) => (g.cfg.word (R.XPT_SET_A k), g.cfg.word (R.XPT_SET_B k))
  let terms := allTerms.filter fun n => f.c (F.XPT_DRIVE_SOURCE n) != old.c (F.XPT_DRIVE_SOURCE n)
  f.each (allCtxs.filter fun c => ab f (f.setOf c) != ab old (f.setOf c) || terms.any fun n => f.usesTerm c n) Field.disturbCtx

/-- The EXC page (R45, R80, R85): generators are enabled, disabled or take new values as after a write. -/
def Field.applyExc (f old : Field) : Field :=
  f.blankLine.each (List.range 4) fun k f =>
    let en := F.EXC_SINE_CTL_EN k
    let moved := f.c (F.EXC_SINE_FREQ_FREQ k) != old.c (F.EXC_SINE_FREQ_FREQ k) || f.c (F.EXC_SINE_AMPL_AMPL k) != old.c (F.EXC_SINE_AMPL_AMPL k)
    let f := f.when moved (Field.sineWritten k)
    let f := if f.cb en && !old.cb en then f.sineEnable k else if !f.cb en && old.cb en then f.sineDisable k else f
    f.when (f.c (F.EXC_SINE_CFG_MODE k) != old.c (F.EXC_SINE_CFG_MODE k)) (Field.excite k)

/-- The programmes whose words or run changed start their run anew; one that no longer exists stands. -/
def Field.applySeq (f old : Field) : Field :=
  let ws := fun (g : Field) (p : Nat) => (g.run p).map fun e => (g.cfg.word (R.SEQTAB_W0 e), g.cfg.word (R.SEQTAB_W1 e))
  f.each (allProgs.filter fun p => f.cfg.word (R.SEQ_PROG p) != old.cfg.word (R.SEQ_PROG p) || ws f p != ws old p) fun p f =>
    if f.cb (F.SEQ_PROG_VALID p) then f.startRun p else (f.put (F.SEQ_PSTAT_STATE p) 0).put (F.SEQ_PSTAT_REMAIN p) 0

/-- The offsets of a CTX page that are threshold switches (R148, R168). -/
def thOff (off : Nat) : Bool := decide (0x30 ≤ off ∧ off ≤ 0x35)

/-- Does a new configuration change what a context measures: its set, range, reference, burn-out, demodulation source or autoranging
(R137)? -/
def inputChanges (c : Nat) (a b : RegFile) : Bool :=
  [F.CTX_CFG_SET c, F.CTX_CFG_RANGE c, F.CTX_CFG_REFSEL c, F.CTX_CFG_BURNOUT c, F.CTX_CFG_DIR c, F.CTX_DEMOD_SRC c].any
    (fun x => x.get a != x.get b) || a.word (R.CTX_AR c) != b.word (R.CTX_AR c)

/-- A CTX page: a context that becomes valid starts anew; a changed input settles again, from CFG.RANGE; fields of the chain and the window
wait for the close of the window (R126, R148), PLAUS for the next dwell; switches take their options; CTRL.EN acts (R144). A context whose VALID
is set again drops a window in progress and opens a new one (the model's choice, log 156). -/
def Field.applyCtx (c : Nat) (ks : List Nat) (f old : Field) : Field :=
  let fresh := f.cb (F.CTX_CFG_VALID c) && !old.cb (F.CTX_CFG_VALID c)
  let has (o : Nat) : Bool := ks.any fun k => k % 256 == o
  let moved := inputChanges c f.cfg old.cfg
  let range := f.c (F.CTX_CFG_RANGE c) != old.c (F.CTX_CFG_RANGE c) || has 0x11
  let f := f.when (fresh || range) (Field.put (F.CTX_CTXSTAT_RANGE_ACT c) (f.c (F.CTX_CFG_RANGE c)))
  let en := F.CTRL_EN (R.pageCTX c)
  let f := if fresh then f.beginCtx c
    else
      let f := ((f.noteChain c (old.chainOf c)).when (has 0x1A) (Field.keepPlaus c (old.c (F.CTX_PLAUS_LIMIT c)))).when (has 0x32)
        (Field.thWritten c false (old.cb (F.CTX_TH_A_CFG_EN c)))
      let f := f.when (has 0x35) (Field.thWritten c true (old.cb (F.CTX_TH_B_CFG_EN c)))
      if f.cb en && !old.cb en then f.enableBlock (R.pageCTX c) else if !f.cb en && old.cb en then f.disableBlock (R.pageCTX c) else f
  f.when (fresh || moved) (Field.disturbCtx c)

/-- A FILT page: the set is committed whether or not the crate names it, and programmes that use a changed set pause meanwhile
(R129). -/
def Field.applyFilt (u : Nat) (changed : Bool) (f : Field) : Field :=
  let ss := if changed && f.filtInUse u then (f.filtProgs u).filterMap fun p => (f.progSlice p).filter fun s => (f.slice s).on else []
  ((f.each ss Field.pauseSlice).filtCommit u).each ss Field.resumeSlice

/-- A SLICE page: CTRL.EN, and on the shared area rotation and triggers. -/
def Field.applySlice (s : Nat) (f old : Field) : Field :=
  let en := F.CTRL_EN (R.pageSLICE s)
  let f := if f.cb en && !old.cb en then f.resumeSlice s else if !f.cb en && old.cb en then f.pauseSlice s else f
  if s = 0 then
    let f := f.each (List.range 4) fun g f => f.when (f.c (F.SLICE_GRP_SRC g) != old.c (F.SLICE_GRP_SRC g)) (Field.put (F.SLICE_GRP_ALIGNED g) 0)
    f.when (f.cfg.word R.SLICE_ROT_CFG != old.cfg.word R.SLICE_ROT_CFG && decide (f.rot.stage = .dwell)) (Field.rotate f.dwellProg)
  else f

/-- One page of a configuration takes effect (R59): its registers together, GEN once, then the block. A FILT page's commit advances its
GEN (R129). -/
def Field.applyPage (p : Nat) (target : RegFile) (f : Field) : Field :=
  let ks := pageChanges p f.cfg target
  let old := f
  let f := f.takeWords ks target
  let f := f.when (ks != [] && pageKind p != .seqtab && !(0x58 ≤ p && p < 0x60)) (Field.gen p)
  match pageKind p with
  | .filt u => f.applyFilt u (ks != [])
  | k =>
    if ks = [] then f
    else match k with
      | .term n => f.applyTerm n old
      | .xpt => f.applyXpt old
      | .exc => f.applyExc old
      | .seq | .seqtab => f.applySeq old
      | .ctx c => f.applyCtx c ks old
      | .slice s => f.applySlice s old
      | .reflex => (f.each (List.range 64) Field.dropRule).settleAll
      | .fsup => f.settleAll
      | _ => f

/-- The field pages a configuration changes, ascending, and every FILT page, whose set is committed anyway (R129). -/
def fieldPages (a b : RegFile) : List Nat :=
  let ch := changedPages (a.filter fun x => onField x.1) (b.filter fun x => onField x.1)
  (List.range 256).filter fun p => ch.contains p || decide (0x58 ≤ p ∧ p < 0x60)

/-- The field die's part of a configuration. -/
def fieldPart (r : RegFile) : RegFile := r.filter fun x => onField x.1

/-- The logic die's part of a configuration: its registers that hold configuration. -/
def logicPages (a b : RegFile) : List Nat := (changedPages a b).filter fun p => !onField (p * 256)

/-- A page of the logic die takes a configuration: its writable words change together, GEN once (R59). A new registration of
tasks while no window runs waits for its first window (R369). -/
def Logic.applyPage (p : Nat) (target : RegFile) (l : Logic) : Logic :=
  let ks := pageChanges p l.regs target
  let l := ks.foldl (fun l k =>
    let m := word (writeMask k)
    l.putWord k ((l.regs.word k &&& ~~~m) ||| (target.word k &&& m))) l
  let l := l.when (ks.contains R.WDOG_TASKS && !l.wdog.running) fun l => { l with wdog := { l.wdog with firstDue := true } }
  l.when (ks != []) (Logic.gen p)

/-- Does a new configuration of a context empty its lifetime group: SET, RANGE, REFSEL, AR or DEMOD change (R166)? -/
def lifeEnds (c : Nat) (a b : RegFile) : Bool :=
  [F.CTX_CFG_SET c, F.CTX_CFG_RANGE c, F.CTX_CFG_REFSEL c, F.CTX_DEMOD_SRC c].any (fun x => x.get a != x.get b) ||
    a.word (R.CTX_AR c) != b.word (R.CTX_AR c)

/-- A context's lifetime group is emptied (R166). -/
def Logic.emptyLife (c : Nat) (l : Logic) : Logic :=
  Logic.each ((List.range 8).map (R.CTX_LIFE_MIN c + ·)) (fun a l => l.putWord a 0#32)
    { l with lifes := tput (fun _ => {}) l.lifes c {} }

/-- CLASS.LOCKED of a page (R59). -/
def lockedBit (p : Nat) : Fld := ⟨R.CLASS p, 24, 1⟩

/-- Lock the page whose records come next; every other is free. -/
def Logic.lockNext (l : Logic) : Logic :=
  match l.bar.pages with
  | p :: _ => if pageKind p = .seqtab then l else l.put (lockedBit p) 1
  | [] => l

/-- The pages an application goes through, ascending (R59, R313): those its records touch, those that change, and every FILT page. -/
def appliedPages (touched : List Nat) (a b : RegFile) : List Nat :=
  let ps := touched ++ fieldPages a b ++ logicPages a b
  (List.range 256).filter ps.contains

/-- The field pages' configuration words that the host reads follow a configuration at some addresses; a context whose input changes
starts its lifetime group anew (R166). -/
def Logic.takeFieldPage (p : Nat) (t : RegFile) (l : Logic) : Logic :=
  let l := match pageKind p with
    | .ctx c => l.when (lifeEnds c l.regs t) (Logic.emptyLife c)
    | _ => l
  (pageChanges p l.regs t).foldl (fun l k =>
    let m := word (writeMask k)
    l.putWord k ((l.regs.word k &&& ~~~m) ||| (t.word k &&& m))) l

/-- The first page waiting takes effect on its die, and the next one locks (R8, R59). The registers the host reads follow; those that are no
configuration and that no record names keep what the host or hardware has put there meanwhile (R58, R307). The field die's configuration
comes from no one crate until the application ends (R42). -/
def State.onePage (s : State) : State :=
  match s.ld.bar.pages with
  | [] => s
  | p :: ps =>
    let own := !onField (p * 256)
    let t := crateConfig s.ld.regs s.ld.crate.words
    let l := if pageKind p = .seqtab then s.ld else s.ld.put (lockedBit p) 0
    let l := if own then (l.applyPage p t).disapprove else l.takeFieldPage p t
    let l := Logic.lockNext { l with bar := { l.bar with pages := ps } }
    let s := { s with ld := l, fd := if own then s.fd else { s.fd.applyPage p t with crateHash := none } }
    if pageKind p = .clock then s.autoReturn else s

/-- Is the page that comes next one of the logic die? -/
def Logic.ownNext (l : Logic) : Bool :=
  match l.bar.pages with
  | p :: _ => !onField (p * 256)
  | [] => false

/-- The logic-die pages that come next take effect. -/
def State.ownPages (s : State) : State := (List.range 256).foldl (fun s _ => if s.ld.ownNext then s.onePage else s) s

/-- A CFG frame (R8): the logic die's pages before it are done, and the field page it carries takes effect. -/
def State.nextPage (s : State) : State := s.ownPages.onePage

/-- PLEAD around T_R (R341): the follower asserts it 10 µs before, the old lead releases it 10 µs after. -/
def Logic.pleadTick (l : Logic) : Logic :=
  let l := match l.pair.pleadOff with
    | some t => l.when (decide (t ≤ l.time)) fun l => (l.releasePlead true).modPair fun p => { p with pleadOff := none }
    | none => l
  match l.pair.handover with
  | some h => l.when (h.begun && h.abort.isNone && l.g F.PAIR_STAT_ROLE == 2 && !l.gb F.PAIR_STAT_PLEAD_OUT &&
      decide (h.ts + ticks2ms ≤ l.time + ticks10us)) Logic.assertPlead
  | none => l

/-- One tick of TIMEBASE: DEVICE.TIME and the field die's copy count (R21, R361), and a logic-die page of a crate that comes next takes
effect (R59). What time brings to the switched outputs follows (R189, R195, R197), and to a pair's handover (R341, R342). -/
def State.tick (s : State) : State :=
  let s := if s.ld.ownNext then s.onePage else s
  let s := s.onLd fun l => l.tick.pleadTick
  if s.fd.released then drain { s with fd := ({ s.fd with time := s.fd.time + 1 }.each allTerms Field.doTick).letGo } else s

end Sys2Proof.Machine
end

