-- ==== Sys2Proof/Machine/Barrier.lean ====
section
/-! DEFINITION. The barrier link (chapter 01): its frames, lanes and rate, and what the frames carry: snapshots, state, events,
time, host words and configuration pages. -/

namespace Sys2Proof.Machine

open Sys2Proof

/-- A count that takes several steps, saturating. -/
def Logic.add (x : Fld) (n : Nat) (l : Logic) : Logic := l.put x (min x.top (l.g x + n))

/-- Change the barrier link's own state. -/
def Logic.modBar (h : BarrierRun → BarrierRun) (l : Logic) : Logic := { l with bar := h l.bar }

/-- Change the end of the link on the field die or on the logic die. -/
def Logic.modEnd (onField : Bool) (h : LinkEnd BFrame → LinkEnd BFrame) (l : Logic) : Logic :=
  l.modBar fun b => if onField then { b with field := h b.field } else { b with logic := h b.logic }

/-- An end of the link. -/
def Logic.linkEnd (onField : Bool) (l : Logic) : LinkEnd BFrame := if onField then l.bar.field else l.bar.logic

/-- Is the link trained (R10, R36)? -/
def Logic.trained (l : Logic) : Bool := l.boot.field == 2 || l.boot.field == 3

/-- A half of a two-count register: the logic end's in the low half, the field end's in the high half (R60). -/
def endCount (a : Nat) (onField : Bool) : Fld := ⟨a, if onField then 16 else 0, 16⟩

/-- A frame is discarded (R9): counted, RESEND asked for, source BARRIER_FRAME; a tag failure reaches the Cellar (R10). -/
def State.discard (onField : Bool) (c : FrameCheck) (inj : Bool) (s : State) : State :=
  let s := s.onLd fun l =>
    ((l.bump (endCount R.BARRIER_DISCARD onField)).modEnd onField fun e => { e with ask := true }).fault 26 false none inj
  if c = .tag then (s.onLd (Logic.bump (endCount R.BARRIER_TAGFAIL onField))).tagFailure inj else s

/-- LINK_UP reads 1 (R11, R30): the first field-to-logic frame that passes. -/
def Logic.linkRises (l : Logic) : Logic :=
  if l.linkUp then l
  else (({ l with linkUp := true }).evt R.pageBARRIER 1).put (safeCause 3) 0

/-- A mode that holds outputs, entered while the link was down, reaches the field die with the link's return (R27, R31); one that has been reset
waits for its configuration (R43). That it does so at the link's return is the model's reading, log 161. -/
def State.syncMode (s : State) : State :=
  if s.ld.mode.holds && s.fd.mode != s.ld.mode && s.fd.mode != .boot then (s.onFd (Field.holdOutputs s.ld.mode)).hear else s

/-- A frame arrives (R9, R11). One that passes is acknowledged, restarts the receiving end's silence test, and acts; its RESEND asks
the receiving end to send its kept frames again. An IDLE frame (`numbered` false) uses no number (R8), so none is acknowledged. -/
def State.received (toField : Bool) (c : FrameCheck) (resend : Bool) (act : State → State) (s : State) (numbered : Bool := true) : State :=
  if !s.ld.trained then s
  else if c ≠ .passes then s.discard toField c false
  else
    let far := ((s.ld.linkEnd (!toField)).got + 255) % 256
    let s := s.onLd (Logic.modEnd toField fun e =>
      { e with
        got := if numbered then (e.got + 1) % 256 else e.got
        again := if resend then (e.kept.takeWhile fun x => x.fseq != far).reverse else e.again })
    let s := if toField then
        if s.fd.released then { s with fd := { s.fd with wdArmed := true } } else s
      else if s.ld.linkUp then s else (s.onLd Logic.linkRises).syncMode
    act s

/-- KIND of a barrier frame (R8). -/
def BFrame.code (k : BFrame) : Nat :=
  match k with
  | .idle => 0 | .train => 1 | .cmd => 2 | .cfg => 3 | .time => 4 | .snap => 5 | .state => 6 | .event => 7 | .ackonly => 8

/-- The 280 bits of a barrier frame: its data bits, their check bits and 5 fill bits (R8). -/
def barrierLine (x : SentFrame BFrame) : Nat := x.line BFrame.code 5

/-- TAG of a barrier frame (R8): the leading 32 bits of the GMAC tag under the link key. -/
def Logic.frameTag (l : Logic) (x : SentFrame BFrame) : Nat :=
  Sys2Proof.Config.linkTag (l.bar.key.getD 0) (x.head BFrame.code) / 2 ^ 96 % 2 ^ 32

/-- An end sends a frame of a kind (R8): a fresh one, its payload free but for the empty one of ACKONLY, or a kept one again. -/
def Logic.sendFrame (onField : Bool) (k : BFrame) (old : Option (SentFrame BFrame)) (l : Logic) : Logic :=
  let e := l.linkEnd onField
  match old with
  | some x => l.modEnd onField fun _ => e.send false l.frameTag x
  | none =>
    let pay := if k = .ackonly then 0 else Sys2Proof.Config.free l.draws % 2 ^ 200
    { l with draws := l.draws + 1 }.modEnd onField fun _ => e.send (k != BFrame.idle) l.frameTag { kind := k, fseq := e.next, payload := pay }

/-- Ticks in 100 µs, rounded up. -/
def ticks100us : Nat := 2458

/-- The frame a logic end has ready (R13). CMD and CFG rank alike there; CMD goes first (log 102). -/
def State.logicFrame (s : State) : BFrame :=
  let b := s.ld.bar
  if b.logic.ask then .ackonly
  else if b.cmds != [] then .cmd
  else if b.pages != [] then .cfg
  else if msTicks ≤ s.ld.time - b.timeAt then .time
  else .idle

/-- The frame a field end has ready (R13). -/
def State.fieldFrame (s : State) : BFrame :=
  let b := s.ld.bar
  if b.field.ask then .ackonly
  else if s.fd.out.any waits then .event
  else if ticks100us ≤ s.fd.time - b.stateAt then .state
  else if s.fd.snapq != [] then .snap
  else .idle

/-- A change of rate takes effect at a frame boundary, after a lane switch (R13). -/
def Logic.changeRate (l : Logic) : Logic :=
  match l.bar.rateDue, l.bar.switchDue with
  | some q, [] =>
    let l := l.modBar fun b => { b with rateDue := none }
    if l.gb F.BARRIER_LINK_QUARTER = q then l else (l.putb F.BARRIER_LINK_QUARTER q).evt R.pageBARRIER 3
  | _, _ => l

/-- BARRIER_FRAME_SLOT (R13): the end sends its highest-priority frame; resends go first and are counted. -/
def State.frameSlot (fromLogic : Bool) (s : State) : State :=
  if !s.ld.trained then s
  else
    let s := s.onLd Logic.changeRate
    match (s.ld.linkEnd (!fromLogic)).again with
    | x :: rest => s.onLd fun l =>
        ((l.bump (endCount R.BARRIER_RESEND (!fromLogic))).sendFrame (!fromLogic) x.kind (some x)).modEnd (!fromLogic) fun e =>
          { e with again := rest }
    | [] =>
      let k := if fromLogic then s.logicFrame else s.fieldFrame
      s.onLd fun l =>
        let l := l.sendFrame (!fromLogic) k none
        if k = .time then l.modBar fun b => { b with timeAt := l.time }
        else if k = .state then l.modBar fun b => { b with stateAt := s.fd.time } else l

/-- A value as MEAN, MIN, MAX and the lifetime extremes present it (R161). -/
def present (align coding : Bool) (x : Int) : Word :=
  match align, coding with
  | false, false => word (unsigned 32 x)
  | false, true => word (unsigned 24 x) ^^^ 0x00800000#32
  | true, false => word (unsigned 24 x * 256)
  | true, true => word (unsigned 24 x * 256) ^^^ 0x80000000#32

/-- MEAN (R159, R161): left-aligned it carries 256 × SUM / COUNT. -/
def presentMean (align coding : Bool) (sum : Int) (count : Nat) : Word :=
  if align then
    let w := word (unsigned 32 (roundAway (256 * sum) count))
    if coding then w ^^^ 0x80000000#32 else w
  else present false coding (roundAway sum count)

/-- The consumer key that sealed windows of slot k closing at a time are sealed with (R313). -/
def Logic.keyAt (k t : Nat) (l : Logic) : Option Nat :=
  match (l.crate.oldKeys.filter fun x => x.1 == k && decide (t ≤ x.2.1)).getLast? with
  | some x => x.2.2
  | none => (l.mram.keys.find? fun x => x.1 == k).map (·.2)

/-- The key a snapshot is sealed with; none in the cases of R316. -/
def Logic.sealKey (sn : Snap) (l : Logic) : Option Nat :=
  let ready := match l.boot.epochAt with
    | some t => decide (t < sn.tclose)
    | none => false
  if sn.sealKey = 0 ∨ !l.gb cellarIdOk ∨ l.gb cellarHalted ∨ l.cellar.noSeal ∨ l.mode = .lockout ∨ !ready then none
  else l.keyAt (sn.sealKey - 1) sn.tclose

/-- The two words of a 64-bit number, high first. -/
def two (n : Nat) : List Word := [word (n / 2 ^ 32), word n]

/-- The seal of a snapshot's words (R314): bytes 0-3 and bytes 4-7 of the tag. -/
def sealTag (key ctx epoch : Nat) (sn : Snap) (ws : List Word) : Word × Word :=
  let serial := two Sys2Proof.Config.serial
  let sub := Sys2Proof.Config.hkdf key serial [0x46574E33#32, 0x3231382D#32, 0x5345414C#32, word ctx, word epoch]
  let tag := Sys2Proof.Config.gmac sub (two sn.tclose ++ [word sn.seq]) (serial ++ [word ctx] ++ ws)
  (word (numWord 4 0 tag), word (numWord 4 1 tag))

/-- The words 0x40-0x4F of a snapshot (R159, R161). A window with no sample, or fewer than 8, has no extremes and no mean. -/
def Snap.words (sealed : Bool) (sn : Snap) : List Word :=
  let al := nbit sn.flags 22
  let co := nbit sn.flags 23
  let few := decide (sn.count < 8)
  let ext := fun (x : Int) => if few then 0#32 else present al co x
  [word sn.seq, word sn.count, word (unsigned 64 sn.sum), word (unsigned 64 sn.sum / 2 ^ 32), word sn.sumsq, word (sn.sumsq / 2 ^ 32),
    if few then 0#32 else presentMean al co sn.sum sn.count, ext sn.minv, word sn.mint, ext sn.maxv, word sn.maxt,
    word (if sealed then nset sn.flags 15 else sn.flags), word sn.blanked, word sn.unsettled, word sn.tclose, word (sn.tclose / 2 ^ 32)]

/-- The full instant of an extreme (R159). -/
def Snap.instant (stamp : Nat) (sn : Snap) : Nat := sn.tclose - (sn.tclose % 2 ^ 32 + 2 ^ 32 - stamp) % 2 ^ 32

/-- LIFE_CNT. -/
def Logic.lifeCount (c : Nat) (l : Logic) : Nat :=
  (l.regs.word (R.CTX_LIFE_CNT_HI c)).toNat * 2 ^ 32 + (l.regs.word (R.CTX_LIFE_CNT_LO c)).toNat

/-- A delivered snapshot is folded into the lifetime group (R166), and the extremes held are presented in its format. -/
def Logic.foldLife (sn : Snap) (l : Logic) : Logic :=
  let c := sn.ctx
  let old := tget (fun _ => {}) l.lifes c
  let n := l.lifeCount c
  let take := decide (8 ≤ sn.count)
  let lower := take && (n == 0 || decide (sn.minv < old.minv))
  let higher := take && (n == 0 || decide (old.maxv < sn.maxv))
  let new : Life := { minv := if lower then sn.minv else old.minv, maxv := if higher then sn.maxv else old.maxv }
  let n := if take then n + sn.count else n
  let l := { l with lifes := tput (fun _ => {}) l.lifes c new }
  let stamp := fun (a v : Nat) (l : Logic) => (l.putWord a (word v)).putWord (a + 1) (word (v / 2 ^ 32))
  let l := l.when lower (stamp (R.CTX_LIFE_MIN_TL c) (sn.instant sn.mint))
  let l := l.when higher (stamp (R.CTX_LIFE_MAX_TL c) (sn.instant sn.maxt))
  let l := l.when (n != 0) fun l =>
    (l.putWord (R.CTX_LIFE_MIN c) (present (nbit sn.flags 22) (nbit sn.flags 23) new.minv)).putWord (R.CTX_LIFE_MAX c)
      (present (nbit sn.flags 22) (nbit sn.flags 23) new.maxv)
  let l := l.when take (stamp (R.CTX_LIFE_CNT_LO c) n)
  l.when (lower || higher) (Logic.evt (R.pageCTX c) 16)

/-- The flags a partner's comparison shuts out (R345): SAT, OVR, OPEN, GAP, SPARED, HANDOVER, CLK_UNCLEAN, EMPTY, FEW. -/
def comparable (flags : Nat) : Bool := !([1, 5, 6, 7, 8, 9, 10, 12, 13].any (nbit flags))

/-- A mean goes to the partner for comparison (R345). -/
def Logic.compareMean (sn : Snap) (l : Logic) : Logic :=
  if l.gb F.PAIR_STAT_READY && l.g (F.CTX_PLAUS_LIMIT sn.ctx) != 0 && comparable sn.flags then
    (l.modPair fun p => { p with
      means := (sn.ctx, sn.seq, roundAway sn.sum sn.count) :: p.means.filter (fun x => x.1 != sn.ctx) }).sendPartner
        (.compare [(sn.ctx, sn.seq % 256, roundAway sn.sum sn.count)] none)
  else l

/-- The programme that runs a context (R346): the one that has it now, else the one whose entries name it, else one that may run it urgently. -/
def Field.runnerOf (c : Nat) (f : Field) : Option Nat :=
  let ps := allProgs.filter fun p => f.mayRun p c
  (ps.find? fun p => f.inEntry p && (f.prog p).conn == some c).or ((ps.find? fun p => (f.run p).any fun e => f.entryCtx e == c).or ps.head?)

/-- Two means of one SEQ are compared (R345): when they differ by more than PLAUS, or INJECT asks for it, the context's window in
progress is marked, and a dwell of the check slice on its programme is asked for (R346). -/
def State.comparePair (c seq : Nat) (a b : Int) (s : State) : State :=
  let own := decide (s.ld.g (F.CTX_PLAUS_LIMIT c) * 14680064 < (a - b).natAbs * 10 ^ 7)
  let far := s.ld.pair.disagree || own
  let s := { s with ld := { s.ld with pair := { s.ld.pair with disagree := false } } }
  if far then
    let l := (s.ld.bump F.PAIR_DISAGREE_COUNT).put F.PAIR_DISAGREE_CTX c
    let l := ((l.put F.PAIR_DISAGREE_VERDICT 0).putWord R.PAIR_DIS_SEQ (word seq)).evt R.pagePAIR 6 (inj := !own)
    State.onFd (fun f =>
      let f := f.flag c 11
      match f.runnerOf c with
      | some p => f.askDwell p
      | none => f) { s with ld := { l with pair := { l.pair with mine := none, theirs := none } } }
  else s

/-- Every mean of this device is compared with the partner's of the same context and SEQ[7:0], once both are here (R345). -/
def State.compareAll (s : State) : State :=
  s.ld.pair.means.foldl (fun s x =>
    match s.ld.pair.others.find? fun y => y.1 == x.1 && y.2.1 == x.2.1 % 256 with
    | some y =>
      let s := { s with ld := { s.ld with pair := { s.ld.pair with
        means := s.ld.pair.means.filter fun z => z.1 != x.1, others := s.ld.pair.others.filter fun z => z.1 != x.1 } } }
      s.comparePair x.1 x.2.1 x.2.2 y.2.2
    | none => s) s

/-- The lead tells of its next close of each context after the alignment trigger, with its SEQ (R329). -/
def Logic.alignClose (sn : Snap) (l : Logic) : Logic :=
  if l.g F.PAIR_STAT_ROLE = 1 ∧ l.pair.aligning.contains sn.ctx then
    let t : Transfer := { levels := [], seqs := [], tasks := 0, outhold := 0, restore := 0, shunts := [], session := none, bound := 0,
                          closes := [(Fin.ofNat 128 sn.ctx, sn.seq)] }
    l.modPair fun p => { p with aligning := p.aligning.erase sn.ctx, queue := if p.queue.length < 64 then p.queue ++ [.state (some t)] else p.queue }
  else l

/-- A snapshot becomes readable (R163). -/
def Logic.snapshotIn (sn : Snap) (l : Logic) : Logic :=
  let c := sn.ctx
  let page := R.pageCTX c
  let unread := l.gb (F.CTX_SNAPSTAT_UNREAD c)
  let key := l.sealKey sn
  let ws := sn.words key.isSome
  let (hi, lo) := match key with
    | some k => sealTag k c l.mram.epoch sn ws
    | none => (0#32, 0#32)
  let l := (ws.zipIdx).foldl (fun l x => l.putWord (R.CTX_SEQ c + x.2) x.1) l
  let l := (l.putWord (R.CTX_SEAL_HI c) hi).putWord (R.CTX_SEAL_LO c) lo
  let l := (l.put (F.CTX_SNAPSTAT_UNREAD c) 1).gen page
  let l := l.evt page 4
  let l := l.when unread fun l => ((l.bump (F.CTX_SNAPSTAT_OVERRUN c)).evt page 5).fault 54 false c
  let bit := fun (k e : Nat) (l : Logic) => l.when (nbit sn.flags k) (Logic.evt page e)
  let l := l.when (nbit sn.flags 12 || nbit sn.flags 13) (Logic.evt page 15)
  let l := (bit 8 14 (bit 7 13 (bit 1 12 (bit 6 11 (bit 5 10 l)))))
  ((l.foldLife sn).compareMean sn).alignClose sn

/-- BARRIER_SNAP (R163): the second half completes the oldest queued snapshot. A first half whose snapshot has been dropped meanwhile
completes no other (R14). -/
def State.takeSnap (s : State) : State :=
  match s.fd.snapq with
  | [] => s
  | sn :: rest =>
    if s.ld.bar.half ≠ some (sn.ctx, sn.seq) then s.onLd (Logic.modBar fun b => { b with half := some (sn.ctx, sn.seq) })
    else
      State.compareAll { s with fd := { s.fd with snapq := rest }, ld := (s.ld.modBar fun b => { b with half := none }).snapshotIn sn }

/-- Measured values the field die shows (R86, R96, R194, R213, R216): REF.DIFF while both references serve, for comparison stops once one
is retired, and the references' WEAR follows it (R57, R397); the headroom of an analogue output as it stands (R208). -/
def Field.takeReadings (m : Readings) (f : Field) : Field :=
  let f := m.meas.foldl (fun f x =>
    let n := x.1.val
    if isDo (f.func n) then (f.put (F.TERM_DO_MEAS_CURRENT n) x.2.1).put (F.TERM_DO_MEAS_VTERM n) x.2.2
    else if isAo (f.func n) then (f.put (F.TERM_AO_MEAS_CURRENT n) x.2.1).put (F.TERM_AO_MEAS_VTERM n) x.2.2 else f) f
  let moves := f.gb F.EXC_REF_SPARE_AVAIL && f.g F.EXC_REF_DIFF != m.refDiff.val
  let f := (f.put F.EXC_VBIAS_CURRENT m.vbias).when moves fun f => (f.put F.EXC_REF_DIFF m.refDiff).tell (.gen R.pageLARDER)
  let f := (m.rails.zipIdx.take 4).foldl (fun f x => f.modStep x.2 fun s => { s with lowAt := x.1.1, highAt := x.1.2 }) f
  let f := (m.volt.zipIdx.take 4).foldl (fun f x => f.put (F.FSUP_GRP_STAT_VOLT x.2) x.1) f
  f.each allTerms Field.showRail

/-- The registers STATE frames carry across. -/
def stateAddrs : List Nat :=
  (allTerms.flatMap fun n => [0x24, 0x25, 0x26, 0x27, 0x28, 0x34, 0x35, 0x44, 0x45, 0x53].map (R.pageTERM n * 256 + ·)) ++
    ((List.range 4).map fun g => R.FSUP_GRP_STAT g) ++ allCtxs.map R.CTX_THSTAT

/-- THSTAT as the field die shows it, with HELD (R168). -/
def Field.shownState (a : Nat) (f : Field) : Word :=
  match pageKind (a / 256) with
  | .ctx c => wset (f.img.word a) 4 1 (b2n (f.thHeld c))
  | _ => f.img.word a

/-- The pages whose DI_CNT group a STATE frame brings new values (R57, R179). -/
def State.newCounts (s : State) : List Nat :=
  (allTerms.filter fun n => [0x26, 0x27, 0x28].any fun o =>
    s.ld.regs.word (R.pageTERM n * 256 + o) != s.fd.img.word (R.pageTERM n * 256 + o)).map R.pageTERM

/-- BARRIER_STATE (R168, R220): the logic die's copies follow; a barrier-watchdog expiry is reported, and as the link is up its
SAFE_CAUSE bit clears at once. -/
def State.takeState (m : Readings) (s : State) : State :=
  if !s.fd.released then s
  else
    let s := { s with fd := s.fd.takeReadings m }
    let s := s.onLd fun l => (stateAddrs.foldl (fun l a => l.putWord a (s.fd.shownState a)) l).each s.newCounts Logic.gen
    if s.fd.report then
      (({ s with fd := { s.fd with report := false } }).safe 3).onLd (Logic.put (safeCause 3) 0)
    else s

/-- BARRIER_CMD (R9): the oldest waiting word acts. -/
def State.takeCmd (s : State) : State :=
  match s.ld.bar.cmds with
  | [] => s
  | (a, w) :: rest =>
    let s := s.onLd (Logic.modBar fun b => { b with cmds := rest })
    if s.fd.released then { s with fd := s.fd.take a w } else s

/-- The registers of field pages that the logic die keeps showing when the link goes down (R23). -/
def State.keptAddrs (s : State) : List Nat :=
  ((s.fd.img.map (·.1) ++ s.ld.regs.map (·.1)).filter fun a => onField a && !logicHome a && !stateCopied a) ++
    (allTerms.flatMap fun n => [0x11, 0x12, 0x13].map (R.pageTERM n * 256 + ·)) ++
    (allSlices.flatMap fun k => [0x02, 0x10, 0x11].map (R.pageSLICE k * 256 + ·)) ++ [R.SLICE_ROT_STAT] ++
    ((List.range 8).flatMap fun u => [0x02, 0x14].map (R.pageFILT u * 256 + ·)) ++
    allCtxs.map R.CTX_CTXSTAT ++ [0x0B30, 0x0B31, 0x0C39, 0x0D40, 0x0D41, 0x0D42, 0x0D43] ++ (List.range 8).map (0x0E11 + ·)

/-- What the field die shows stays readable at its last value (R23). -/
def State.freeze (s : State) : State :=
  let sel := s.ld.regs.word R.CAL_SEL
  s.onLd fun l => s.keptAddrs.foldl (fun l a =>
    let m := word (writeMask a)
    let v := match s.fd.view sel a with
      | some v => word v
      | none => s.fd.img.word a
    l.putWord a ((l.regs.word a &&& m) ||| (v &&& ~~~m))) l

/-- LINK_DOWN (R11, R23, R28): the logic end has heard no frame that passes. -/
def State.linkFalls (s : State) : State :=
  if !s.ld.linkUp then s
  else
    let s := s.freeze
    let l := (({ s.ld with linkUp := false }).evt R.pageBARRIER 0).fault 24 false
    State.safe 3 { s with ld := l }

/-- A lane's error count. -/
def laneErrors (k : Nat) : Fld := if k = 2 then ⟨R.BARRIER_LANEERR_B, 0, 16⟩ else ⟨R.BARRIER_LANEERR_A, 16 * k, 16⟩

/-- The lane that can take over: neither in service nor retired (R12). -/
def Logic.spareLane (l : Logic) : Option Nat := [2, 0, 1].find? fun k => !l.gb (laneBit k) && !l.isRetired 3 k

/-- A lane retires (R12): the switch falls due. As failed it raises a fault, SEVERE where it is the second of the three and no spare
remains. -/
def Logic.laneRetires (k cause : Nat) (inj : Bool) (l : Logic) : Logic :=
  if l.isRetired 3 k then l
  else
    let serves := l.gb (laneBit k)
    let l := (l.retire 3 k cause (!serves) inj).evt R.pageBARRIER 2 (inj := inj)
    let few := decide (((List.range 3).filter fun j => !l.isRetired 3 j).length < 2)
    let l := l.when (cause == 2) (Logic.fault 25 few (param := k) (inj := inj))
    l.when serves (Logic.modBar fun b => { b with switchDue := b.switchDue ++ [k] })

/-- LANE_ERROR_LIMIT (R12): errors counted on a lane within 1 ms; more than 8 retire it. The counts of the last second give WEAR of the lanes
(R397). -/
def Logic.laneFails (k errors : Nat) (inj : Bool) (l : Logic) : Logic :=
  let l := (((l.add (laneErrors k) errors).modBar fun b =>
    { b with laneErrs := (l.time, k, errors) :: b.laneErrs.filter fun x => decide (l.time ≤ x.1 + secondTicks) }).larderGen)
  if 8 < errors then l.laneRetires k 2 inj else l

/-- A retired lane leaves service (R12): the spare lane takes its place, or the link goes on with one lane at half throughput. -/
def Logic.laneLeaves (k : Nat) (l : Logic) : Logic :=
  let l := l.put (laneBit k) 0
  match l.spareLane with
  | some j => (l.put (laneBit j) 1).spareIn 3 j
  | none => l.put F.BARRIER_LINK_SINGLE 1

/-- LANE_SWITCH (R12): every lane whose switch is due leaves service. -/
def Logic.laneSwitch (l : Logic) : Logic :=
  match l.bar.switchDue with
  | [] => l
  | ks =>
    let l := Logic.each ks Logic.laneLeaves (l.modBar fun b => { b with switchDue := [] })
    (l.larderKeep fun r => { r with lanes := l.g F.BARRIER_LINK_LANES }).larderGen

/-- INJECT of the BARRIER page (R60). -/
def State.barrierInject (w : Word) (s : State) : State :=
  let s := if wbit w 0 then s.discard false .tag true else s
  let s := if wbit w 1 then s.discard true .tag true else s
  if wbit w 2 then s.onLd (Logic.laneFails 1 9 true) else s

/-- BARRIER_FRAME_SLOT (R13). -/
def execBarrierFrameSlot (fromLogic : Bool) (s : State) : Host.Outcome State Fault Refusal := runBoth (State.frameSlot fromLogic) s

/-- BARRIER_IDLE (R11). -/
def execBarrierIdle (toField : Bool) (c : FrameCheck) (resend : Bool) (s : State) : Host.Outcome State Fault Refusal :=
  runBoth (State.received toField c resend id (numbered := false)) s

/-- BARRIER_ACKONLY (R9). -/
def execBarrierAckonly (toField : Bool) (c : FrameCheck) (resend : Bool) (s : State) : Host.Outcome State Fault Refusal :=
  runBoth (State.received toField c resend id) s

/-- BARRIER_CMD (R9). -/
def execBarrierCmd (c : FrameCheck) (resend : Bool) (s : State) : Host.Outcome State Fault Refusal :=
  runBoth (State.received true c resend State.takeCmd) s

/-- BARRIER_CFG (R8): a page of an applied crate. -/
def execBarrierCfg (c : FrameCheck) (resend : Bool) (s : State) : Host.Outcome State Fault Refusal :=
  runBoth (State.received true c resend fun s => if s.fd.released then s.nextPage else s) s

/-- BARRIER_TIME (R21). -/
def execBarrierTime (c : FrameCheck) (resend : Bool) (s : State) : Host.Outcome State Fault Refusal :=
  runBoth (State.received true c resend fun s => if s.fd.released then { s with fd := { s.fd with time := s.ld.time } } else s) s

/-- BARRIER_SNAP (R163). -/
def execBarrierSnap (c : FrameCheck) (resend : Bool) (s : State) : Host.Outcome State Fault Refusal :=
  runBoth (State.received false c resend State.takeSnap) s

/-- BARRIER_STATE (R168). -/
def execBarrierState (c : FrameCheck) (resend : Bool) (m : Readings) (s : State) : Host.Outcome State Fault Refusal :=
  runBoth (State.received false c resend (State.takeState m)) s

/-- BARRIER_EVENT (R373). -/
def execBarrierEvent (c : FrameCheck) (resend : Bool) (s : State) : Host.Outcome State Fault Refusal :=
  runBoth (State.received false c resend (State.deliver false)) s

/-- LINK_DOWN (R11). -/
def execLinkDown (s : State) : Host.Outcome State Fault Refusal := runBoth State.linkFalls s

/-- LANE_ERROR_LIMIT (R12). -/
def execLaneErrorLimit (lane : Fin 3) (errors : Nat) (s : State) : Host.Outcome State Fault Refusal :=
  runLogic (Logic.laneFails lane errors false) s

/-- LANE_SWITCH (R12). -/
def execLaneSwitch (s : State) : Host.Outcome State Fault Refusal := runLogic Logic.laneSwitch s

end Sys2Proof.Machine
end

