-- ==== Sys2Proof/Machine/Larder.lean ====
section
/-! DEFINITION. The Larder (chapter 23): host requests, restore tests, the veto, and key slots (R279). -/

namespace Sys2Proof.Machine

open Sys2Proof

/-- Key slots by INDEX: owner 0-1, pair 2-3, consumer 4-13, session 14-15 (R278). The slots of a kind's members. -/
def slotGroup (i : Nat) : List Nat :=
  if i < 2 then [0, 1] else if i < 4 then [2, 3] else if i < 14 then (List.range 10).map (4 + ·) else [14, 15]

/-- Physical slots that are active or stand for a key slot of their kind. -/
def Logic.slotsUsed (l : Logic) : List Nat :=
  let m := l.mram
  let ses := if l.isRetired 13 14 then 15 else 14
  [m.ownerSlot, 2 + m.pairSlot, ses] ++ (List.range 8).map fun j => 4 + tget (fun k => k) m.keySlots j

/-- A spare slot of the kind a slot belongs to (R279). -/
def Logic.freeSlot (i : Nat) (l : Logic) : Option Nat :=
  (slotGroup i).find? fun j => !l.slotsUsed.contains j && !l.isRetired 13 j

/-- A slot's key moves to another (R279): the switch is one write, and the old slot is erased. -/
def Logic.moveSlot (i j : Nat) (l : Logic) : Logic :=
  l.keep fun m =>
    if i < 2 then { m with ownerSlot := j }
    else if i < 4 then { m with pairSlot := j - 2 }
    else if i < 14 then
      match (List.range 8).find? fun k => 4 + tget (fun k => k) m.keySlots k == i with
      | some k => { m with keySlots := tput (fun k => k) m.keySlots k (j - 4) }
      | none => m
    else m

/-- A key kind has no spare slot (R279, R398): SLOT_SHORT, and source KEYSLOT. -/
def Logic.slotShort (l : Logic) : Logic := (l.evt R.pageCELLAR 10).fault 63 false (param := some 13)

/-- A key is rotated into a spare slot of its kind (R279); without one the rotation is refused and SLOT_SHORT sets. `i`: its slot. -/
def Logic.rotateKey (i : Nat) (l : Logic) : Bool × Logic :=
  match l.freeSlot i with
  | some j => (true, l.moveSlot i j)
  | none => (false, l.slotShort)

/-- Resources of a kind. -/
def kindTotal (k : Nat) : Nat := (kindFigures k).1

/-- Is a retirement of a kind in progress (R395)? -/
def State.retiring (k : Nat) (s : State) : Bool :=
  match k with
  | 0 => s.fd.rot.moves != [] || s.fd.rot.power.isSome
  | 1 | 2 => (coreRoles k).any fun r => nbit s.ld.cores.restarting r
  | 3 => s.ld.bar.switchDue != []
  | _ => decide (7 ≤ k ∧ k ≤ 12) && s.ld.moving k

/-- A request ends with a result (R395): 1 done, 2 testing, 3 failed, 4 refused. -/
def Logic.reqResult (n : Nat) (l : Logic) : Logic := l.put F.LARDER_REQSTAT_RESULT n

/-- A request is refused (R395). -/
def State.reqRefused (k i : Nat) (s : State) : Ruling × State :=
  (.refused rBlock, s.onLd fun l => (l.reqResult 4).larderEvt 5 k i 0 false)

/-- RETIRE is carried out (R395). A row that serves no address is a spare one. What the field die has to do waits for it while it is in reset. -/
def State.retireNow (k i : Nat) (w : Word) (s : State) : State :=
  match k with
  | 1 | 2 => match (coreRoles k).find? fun r => s.ld.core r == i && !nbit s.ld.cores.lost r with
      | some r => s.coreFail r false 4
      | none => s.onLd (Logic.retire k i 4 true false)
  | 3 => s.onLd (Logic.laneRetires i 4 false)
  | 6 => s.onLd (Logic.hfrcRetires i 4 false)
  | 13 => s.onLd fun l =>
      let new := l.freeSlot i
      let l := (l.rotateKey i).2.retire 13 i 4 false false
      let l := match new with
        | some j => l.spareIn 13 j
        | none => l
      l.when (l.freeSlot i).isNone Logic.slotShort
  | _ =>
    if 7 ≤ k then s.onLd fun l => if l.rowInUse k i then l.rowRetires (kindMem k) i 4 false else l.retire k i 4 true false
    else if s.fd.released then s.toField R.LARDER_REQ w
    else s.onLd (Logic.modBar fun b => { b with cmds := b.cmds ++ [(R.LARDER_REQ, w)] })

/-- RETIRE (R395). The session's role has been judged. A key slot in use with no spare of its kind shows SLOT_SHORT (R279). -/
def State.larderRetire (w : Word) (s : State) : Ruling × State :=
  let k := wbits w 0 4
  let i := wbits w 8 24
  let l := s.ld
  let spareKey := k == 13 && (!l.slotsUsed.contains i || (l.freeSlot i).isNone)
  let short := k == 13 && l.slotsUsed.contains i && !l.isRetired k i && (l.freeSlot i).isNone
  if kindTotal k ≤ i then s.deny rEncoding
  else if l.spares k = 0 ∨ l.isRetired k i ∨ spareKey ∨ s.retiring k then (s.onLd fun l => l.when short Logic.slotShort).reqRefused k i
  else ((s.retireNow k i w).onLd (Logic.reqResult 1)).did

/-- How often a resource has been restored. -/
def Logic.restores_ (k i : Nat) (l : Logic) : Nat :=
  match l.mram.larder.restores.find? fun x => x.1 == (k, i) with
  | some x => x.2
  | none => 0

/-- RESTORE (R395): the test begins; a slice tests itself in role SELFTEST. -/
def State.larderRestore (w : Word) (s : State) : Ruling × State :=
  let k := wbits w 0 4
  let i := wbits w 8 24
  let l := s.ld
  if kindTotal k ≤ i then s.deny rEncoding
  else if !l.isRetired k i ∨ 2 ≤ l.restores_ k i ∨ s.retiring k then s.reqRefused k i
  else
    let s := s.onLd fun l => { l with larder := { l.larder with testing := l.larder.testing.filter (· != (k, i)) ++ [(k, i)] } }.reqResult 2
    (if k = 0 then s.onFd (Field.setRole i fun r => { r with role := .selftest }) else s).did

/-- A resource that passed its test is a spare again (R395). -/
def Logic.unretire (k i : Nat) (l : Logic) : Logic :=
  let n := l.restores_ k i + 1
  let l := l.larderKeep fun r =>
    { r with
      retired := r.retired.filter fun x => x != (k, i)
      spare := tput (fun k => (kindFigures k).2.2) r.spare k (l.spares k + 1)
      restores := ((k, i), n) :: r.restores.filter fun x => x.1 != (k, i) }
  (l.larderEvt 3 k i 0 false).larderGen

/-- The field die's part of a restored resource. A slice becomes SPARE also where another slice has that role: R101 gives one SPARE at most
and no rule says what a second restored slice becomes (the model's choice, log 116). -/
def Field.unretire (k i : Nat) (f : Field) : Field :=
  match k with
  | 0 => f.setRole i fun r => { r with role := .spare, strikes := [], prog := 0, progValid := false }
  | 4 =>
    let n := i / 9
    let f := f.put (F.TERM_DO_SEG_RETIRED n) (nclr (f.g (F.TERM_DO_SEG_RETIRED n)) (i % 9))
    f.modDout n fun d => { d with over15 := tput (fun _ => 0) d.over15 (i % 9) 0 }
  | 5 => ({ f with exc := { f.exc with retiredRef := none } }.put F.EXC_REF_SPARE_AVAIL 1).tell (.refs (f.g F.EXC_REF_ACTIVE) none)
  | _ => f

/-- The verdict of a restore test (R395): a slice's is that of R109, which the field die records; it fails where the field die cannot
be reached. -/
def State.restoreVerdict (k i fail dev : Nat) (s : State) : Bool × State :=
  if k ≠ 0 then (fail == 0, s)
  else if s.ld.linkUp && s.fd.released then
    let v := s.fd.testVerdict i fail dev
    (v.1 == 0, { s with fd := v.2 })
  else (false, s)

/-- RESTORE_TEST_DONE (R395): the test in hand longest ends; `fail` is the first failing step of R109, of any other test not 0 where it
fails. REQSTAT shows it where no later request has one running. -/
def State.restoreDone (fail dev : Nat) (s : State) : State :=
  match s.ld.larder.testing with
  | [] => s
  | (k, i) :: rest =>
    let s := s.onLd fun l => { l with larder := { l.larder with testing := rest } }
    let (pass, s) := s.restoreVerdict k i fail dev
    let s := if pass then ((s.onLd (Logic.unretire k i)).onFd (Field.unretire k i)).onLd Logic.showClocks
      else if k = 0 then s.onFd (Field.setRole i fun r => { r with role := .retired }) else s
    if rest = [] then s.onLd (Logic.reqResult (if pass then 1 else 3)) else s

/-- A write of LARDER.REQ (R395). -/
def State.larderReq (w : Word) (s : State) : Ruling × State :=
  match wbits w 4 4 with
  | 1 => s.larderRetire w
  | 2 => s.larderRestore w
  | _ => s.deny rEncoding

/-- A pair into a list of pairs in ascending order. -/
def insertPair (x : Nat × Nat) : List (Nat × Nat) → List (Nat × Nat)
  | [] => [x]
  | y :: t => if x.1 < y.1 ∨ (x.1 = y.1 ∧ x.2 ≤ y.2) then x :: y :: t else y :: insertPair x t

/-- A write of LARDER.VETO (R396): the rows deferred of kinds it clears are retired at once. -/
def State.vetoWritten (w : Word) (s : State) : State :=
  let v := wbits w 0 14
  let rows := s.ld.larder.pending.filter fun x => decide (7 ≤ x.1) && !nbit v x.1
  let s := s.toField R.LARDER_VETO w
  s.onLd fun l => (rows.foldl (fun t x => insertPair x t) []).foldl (fun l x =>
    (l.defer x.1 x.2 false).rowRetires (kindMem x.1) x.2 1 false) l

/-- INJECT of the LARDER page (R400): bits 12:7 make an in-service row of a memory report a two-bit correction at its next read. -/
def Logic.larderInject (w : Word) (l : Logic) : Logic :=
  { l with mem := { l.mem with marked := l.mem.marked ++ ((([7, 8, 9, 10, 11, 12].filter (wbit w)).map kindMem).filter
      fun m => !l.mem.marked.contains m) } }

/-- RESTORE_TEST_DONE (R395). -/
def execRestoreTestDone (r : RestoreResult) (s : State) : Host.Outcome State Fault Refusal :=
  runBoth (State.restoreDone r.fail r.dev) s

end Sys2Proof.Machine
end

