-- ==== Sys2Proof/Machine/HostPort.lean ====
section
/-! DEFINITION. The native host port (chapter 15): the status byte, what refuses a frame, and the frames that need no session:
STATUS, NOP, READ, SNAP_READ, CHECK_IN, SYNC. -/

namespace Sys2Proof.Machine

open Sys2Proof

/-- Command bytes (R245). -/
def opWrite : Nat := 0x01
def opWriteAuth : Nat := 0x02
def opRead : Nat := 0x03
def opReadAuth : Nat := 0x04
def opStatus : Nat := 0x05
def opSnapRead : Nat := 0x06
def opCheckIn : Nat := 0x07
def opCratePush : Nat := 0x08
def opSession : Nat := 0x09
def opSync : Nat := 0x0A
def opNop : Nat := 0x0F

/-- The command bytes R245 lists. -/
def listedOps : List Nat := [0x01, 0x02, 0x03, 0x04, 0x05, 0x06, 0x07, 0x08, 0x09, 0x0A, 0x0F]

/-- Does the native protocol answer: step 8a has passed (R35) and LEGACY.EN is 0 (R265)? -/
def Logic.portUp (l : Logic) : Bool := decide (1 ≤ l.boot.logic) && !l.gb F.HOST_LEGACY_EN

/-- Is the HOST role lost with no spare; does it restart (R15, R256)? -/
def Logic.hostLost (l : Logic) : Bool := nbit l.cores.lost 2
def Logic.hostRestarts (l : Logic) : Bool := nbit l.cores.restarting 2

/-- A frame is pending (R256). -/
def Logic.framePending (l : Logic) : Bool := l.host.auth.isSome || l.sess.making.isSome

/-- A handover leaves READY 0: from its announcement on the lead, and until 100 µs after T_R (R341). -/
def Logic.handoverBusy (l : Logic) : Bool :=
  (l.pair.handover.isSome && l.g F.PAIR_STAT_ROLE == 1) || (match l.host.ready with
    | some t => decide (l.time < t)
    | none => false)

/-- READY of the status byte (R35, R255, R256, R341). -/
def Logic.ready (l : Logic) : Bool :=
  l.mode != .boot && (l.hostLost || (!l.framePending && !l.hostRestarts)) && !l.handoverBusy

/-- The status byte (R255). -/
def Logic.statusByte (l : Logic) : Nat :=
  pack [(0, modeCode l.mode), (3, b2n l.host.ferr), (4, b2n l.urgent), (5, b2n (l.activePages != [])),
    (6, b2n (decide (2 ≤ l.role))), (7, b2n l.ready)]

/-- Why a frame is refused as a whole (R35, R256, R260, R285, R320, R341): reasons of R261. While HOST restarts, the four opcodes that need it are
BUSY; plain register access is hardware and goes on (R16). `read`: the words of a READ lie on the
DEVICE page. -/
def Logic.stops (op : Nat) (read : Bool) (l : Logic) : List Nat :=
  let auth := op == opWriteAuth || op == opReadAuth
  let role := auth || op == opCratePush || op == opSession
  let five := role || op == opWrite
  let mode := match l.mode with
    | .boot => if op == opStatus || op == opNop || (op == opRead && read) || !listedOps.contains op then [] else [7]
    | .lockout => if role then [7] else []
    | .follow =>
      if op = opWriteAuth then [15]
      else if op == opSession || op == opCratePush || op == opCheckIn || op == opSync then [7]
      else []
    | _ => []
  let busy := l.mode != .boot && ((five && ((l.framePending && !l.hostLost) || l.handoverBusy)) || (role && l.hostRestarts) ||
    (l.cellar.testing && (auth || op == opSession)))
  mode ++ (if busy then [6] else []) ++ (if auth && l.sess.cur.isNone then [12] else []) ++ (if role && l.hostLost then [13] else [])

/-- HSEL falls: LANES and CFG as they stand take effect (R243). -/
def Logic.selected (l : Logic) : Logic :=
  { l with host := { l.host with lanes := (l.regs.word R.HOST_LANES).toNat, cfg := (l.regs.word R.HOST_CFG).toNat } }

/-- A phase of a native frame (R244): who drives it, its kind of lanes (0 command, 1 address, 2 data; whole clocks: 3 a turnaround, 4 dummy clocks), its bits. -/
structure Phase where
  device : Bool
  kind : Nat
  bits : Nat
  deriving DecidableEq, Repr

/-- The lanes of a kind of phase under HOST.LANES (R243). -/
def lanesFor (lanes kind : Nat) : Nat := if kind < 3 then 2 ^ (lanes / 4 ^ kind % 4) else 1

/-- The clocks a phase takes (R242). -/
def Phase.clocks (lanes : Nat) (p : Phase) : Nat := p.bits / lanesFor lanes p.kind

/-- A turnaround (R244). -/
def Phase.turn : Phase := ⟨false, 3, 1⟩

/-- The phases of a native frame of n words (R244, R245); `read`: DIR of a SESSION frame. CTR and LEN go out on the data lanes as
R243 says; R265 names the address lanes for them (DEDUCED, notes/assumptions/120.md). -/
def framePhases (op n dummy : Nat) (read : Bool) : List Phase :=
  let head : List Phase := [⟨false, 0, 8⟩, .turn, ⟨true, 0, 8⟩]
  let addr := [Phase.turn, ⟨false, 1, 16⟩]
  let data : Phase := ⟨false, 2, 32 * n⟩
  let reply := fun (words : Nat) => [Phase.turn, ⟨false, 4, dummy⟩, ⟨true, 2, 32 * words⟩]
  let ctr : List Phase := [⟨false, 2, 32⟩, ⟨false, 2, 32⟩]
  head ++
    (if op = opStatus then [⟨true, 2, 32⟩]
    else if op = opWrite ∨ op = opCratePush ∨ (op = opSession ∧ read = false) then addr ++ [data]
    else if op = opWriteAuth then addr ++ ctr ++ [data, ⟨false, 2, 128⟩]
    else if op = opRead ∨ op = opSession then addr ++ reply n
    else if op = opReadAuth then addr ++ ctr ++ reply (n + 4)
    else if op = opSnapRead then addr ++ reply 19
    else if op = opCheckIn ∨ op = opSync then addr
    else [])

/-- The clocks of a frame (R242-R245). -/
def frameClocks (lanes op n dummy : Nat) (read : Bool) : Nat :=
  (framePhases op n dummy read).foldl (fun c p => c + p.clocks lanes) 0

/-- The levels of the lanes at each clock of a field of W bits on k lanes: bit j is lane HIOj, which carries bit W − 1 − k × c − (k − 1 − j)
of the field at clock c (R242). -/
def laneLevels (k bits v : Nat) : List Nat := (List.range (bits / k)).map fun c => v / 2 ^ (bits - k * (c + 1)) % 2 ^ k

/-- All lanes of a kind of phase at 1. -/
def lanesOnes (lanes kind : Nat) : Nat := 2 ^ lanesFor lanes kind - 1

/-- What the device drives onto the lanes at each clock of its last frame, of opcode `op` and n words (R242, R244): none where it drives
nothing. At the last dummy clock it holds the data lanes at 1. -/
def Logic.driven (op n : Nat) (read : Bool) (l : Logic) : List (Option Nat) :=
  let k := l.host.lanes
  (framePhases op n (l.host.cfg % 32) read).flatMap fun p =>
    if p.device then
      ((if p.kind = 0 then laneLevels (lanesFor k 0) 8 l.host.status
        else l.host.reply.flatMap fun w => laneLevels (lanesFor k 2) 32 w.toNat)).map some
    else if p.kind = 4 ∧ p.bits ≠ 0 then List.replicate (p.bits - 1) none ++ [some (lanesOnes k 2)]
    else List.replicate (p.clocks k) none

/-- What the device drives at every clock past the last one of such a frame (R258-R260): ones on the lanes of a last phase that it
drives itself, and on the command lanes after an opcode that R245 does not list; none after a phase of the host. -/
def Logic.drivenPast (op n : Nat) (read : Bool) (l : Logic) : Option Nat :=
  if !listedOps.contains op then some (lanesOnes l.host.lanes 0)
  else match (framePhases op n (l.host.cfg % 32) read).getLast? with
    | some p => if p.device then some (lanesOnes l.host.lanes p.kind) else none
    | none => none

/-- HSTB over a frame's clocks (R262): 1 where it copies HCLK, in the phases that the device drives and the last dummy clock; none: high-impedance, STB_EN
being 0. -/
def strobes (lanes cfg op n : Nat) (read : Bool) : Option (List Bool) :=
  if cfg / 256 % 2 = 0 then none
  else some ((framePhases op n (cfg % 32) read).flatMap fun p =>
    if p.kind = 4 ∧ p.bits ≠ 0 then List.replicate (p.bits - 1) false ++ [true]
    else List.replicate (p.clocks lanes) p.device)

/-- The STATUS phase (R255, R265): the byte is taken, FERR starts again, and the frame counts. -/
def Logic.statusPhase (l : Logic) : Logic :=
  let l := { l with host := { l.host with ferr := false, status := l.statusByte, reply := [] } }
  l.putWord R.HOST_FRAMES (l.regs.word R.HOST_FRAMES + 1#32)

/-- Extra edges (R258). -/
def Logic.extraEdges (l : Logic) : Logic := (l.bump F.HOST_ANOMALY_EXTRA_EDGE).evt R.pageHOST 2

/-- A frame begins (R243, R246, R265): the lanes and the set-up in force are taken, and the STATUS phase goes out. -/
def Logic.openFrame (l : Logic) : Logic := l.selected.statusPhase

/-- Why a frame ends in error before any word of it acts (R260, R261): `stops`, or an opcode that R245 does not list. -/
def Logic.headCauses (op addr : Nat) (device : Bool) (l : Logic) : List (Nat × Nat) :=
  if listedOps.contains op then (l.stops op device).map fun r => (r, addr) else [(3, 0)]

/-- A complete native frame. `act` says what it does and why it ends in error; `cut`: a read released before its data phase is short
(R257). INJECT's mark makes a frame short after its command byte (R265); a word that resets the logic die ends it. -/
def State.frame (op addr : Nat) (extra : Bool) (act : State → List (Nat × Nat) × State) (s : State) (device : Bool := false)
    (cut : Bool := false) : State :=
  if !s.ld.portUp then s
  else
    let s := s.onLd Logic.openFrame
    if s.ld.host.short then
      s.onLd fun l => ({ l with host := { l.host with short := false, provoked := true } }).frameError op (l.headCauses op addr device ++ [(4, addr)])
    else
      let (cs, s) := match s.ld.stops op device with
        | [] => act s
        | rs => (rs.map (fun r => (r, addr)) ++ (if cut then [(4, addr)] else []), s)
      if s.ld.boot.logic = 0 then s
      else s.onLd fun l => (l.frameError op cs).when extra Logic.extraEdges

/-- The words of a data phase. -/
def State.replyWith (ws : List Word) (s : State) : State := s.onLd fun l => { l with host := { l.host with reply := ws } }

/-- All ones (R251-R253). -/
def ones : Word := 0xFFFFFFFF#32

/-- A word is read (R163, R251): a member of a context's snapshot group counts as read when it is fetched. -/
def State.fetch (a : Nat) (s : State) : Word × State :=
  let w := s.readWord a
  match pageKind (a / 256) with
  | .ctx c => if 0x40 ≤ a % 256 ∧ a % 256 ≤ 0x51 then (w, s.onLd (Logic.put (F.CTX_SNAPSTAT_UNREAD c) 0)) else (w, s)
  | _ => (w, s)

/-- Consecutive words are read (R49). -/
def State.fetchMany : Nat → Nat → State → List Word × State
  | _, 0, s => ([], s)
  | a, n + 1, s =>
    let (w, s) := s.fetch (a % 65536)
    let (ws, s) := State.fetchMany (a + 1) n s
    (w :: ws, s)

/-- The addresses of n words from a. -/
def wordAddrs (a n : Nat) : List Nat := (List.range n).map fun i => (a + i) % 65536

/-- Words on reserved pages end a frame in error (R50). -/
def reservedIn (a n : Nat) : List (Nat × Nat) :=
  ((wordAddrs a n).filter fun x => pageKind (x / 256) == .reserved).map fun x => (2, x)

/-- Is the first word of a read late: as it happens, or by INJECT, whose mark it uses up (R251, R265)? -/
def State.isLate (late : Bool) (s : State) : Bool × State :=
  (late || s.ld.host.late,
    s.onLd fun l => { l with host := { l.host with late := false, provoked := l.host.provoked || (l.host.late && !late) } })

/-- The first word of a late read (R251). -/
def lateWords (late : Bool) (ws : List Word) : List Word := if late then ones :: ws.drop 1 else ws

/-- READ (R251). Released before its data phase it is short (R257). -/
def State.readFrame (a n : Nat) (late : Bool) (s : State) : List (Nat × Nat) × State :=
  if n = 0 then ([(4, a)], s)
  else
    let (late, s) := s.isLate late
    let (ws, s) := s.fetchMany a n
    ((if late then [(5, a)] else []) ++ reservedIn a n, s.replyWith (lateWords late ws))

/-- SNAP_READ (R253): GEN and the eighteen members of a context's snapshot group. -/
def State.snapFrame (a : Nat) (late : Bool) (s : State) : List (Nat × Nat) × State :=
  match pageKind (a / 256), decide (a % 256 = 0x40) with
  | .ctx c, true =>
    let (late, s) := s.isLate late
    let gen := s.readWord (R.GEN (R.pageCTX c))
    let (ws, s) := s.fetchMany a 18
    ((if late then [(5, a)] else []), s.replyWith (lateWords late (gen :: ws)))
  | _, _ => ([(10, a)], s.replyWith (List.replicate 19 ones))

/-- A trigger with its stamp for some groups goes to the field die, and from the lead of a pair to its partner (R104, R329). -/
def State.presentTrigger (groups stamp : Nat) (s : State) : State :=
  if groups = 0 then s
  else
    let s := s.onFd fun f => { f with trigs := f.trigs ++ [{ stamp := stamp, groups := groups }] }
    if s.ld.g F.PAIR_STAT_ROLE = 1 then s.onLd (Logic.sendPartner (.trigger groups stamp)) else s

/-- The groups of a mask with a trigger source. In FOLLOW every group takes its triggers from the lead (R329). -/
def Logic.groupsFrom (mask src : Nat) (l : Logic) : Nat :=
  if l.mode = .follow then 0
  else ((List.range 4).filter fun g => nbit mask g && l.g (F.SLICE_GRP_SRC g) == src).foldl (fun a g => a + 2 ^ g) 0

/-- SYNC (R250). -/
def State.syncGroups (a : Nat) (s : State) : List (Nat × Nat) × State :=
  if a / 16 ≠ 0 then ([(14, a)], s) else ([], s.presentTrigger (s.ld.groupsFrom a 0) s.ld.time)

/-- CHECK_IN (R250): a service of a task, mirrored to the follower of a pair (R330). -/
def State.serviceTask (a : Nat) (s : State) : List (Nat × Nat) × State :=
  if a / 8 ≠ 0 then ([(14, a)], s)
  else
    let (r, l) := s.ld.checkIn a
    match r with
    | some r => ([(r, a)], { s with ld := l })
    | none => ([], { s with ld := l.when (l.g F.PAIR_STAT_ROLE == 1) (Logic.sendPartner (.mirror (.checkIn (Fin.ofNat 8 a)))) })

/-- SYNCIN_EDGE (R104): 1 a rising edge, 2 a falling one. -/
def State.syncinEdge (rise : Bool) (s : State) : State :=
  s.presentTrigger (s.ld.groupsFrom 15 (if rise then 1 else 2)) s.ld.time

/-- STATUS (R254). -/
def execStatusFrame (extra : Bool) (s : State) : Host.Outcome State Fault Refusal :=
  runBoth (State.frame opStatus 0 extra fun s => ([], s.replyWith [word s.ld.summary])) s

/-- NOP (R245). -/
def execNopFrame (extra : Bool) (s : State) : Host.Outcome State Fault Refusal :=
  runBoth (State.frame opNop 0 extra fun s => ([], s)) s

/-- READ (R251). -/
def execRead (a : Addr) (n : Nat) (late : Bool) (s : State) : Host.Outcome State Fault Refusal :=
  runBoth (fun s => s.frame opRead a false (State.readFrame a n late) (device := decide (a.val + n ≤ 256)) (cut := n == 0)) s

/-- SNAP_READ (R253). -/
def execSnapRead (a : Addr) (late extra : Bool) (s : State) : Host.Outcome State Fault Refusal :=
  runBoth (State.frame opSnapRead a extra (State.snapFrame a late)) s

/-- CHECK_IN (R250). -/
def execCheckIn (a : Addr) (extra : Bool) (s : State) : Host.Outcome State Fault Refusal :=
  runBoth (State.frame opCheckIn a extra (State.serviceTask a)) s

/-- SYNC (R250). -/
def execSyncFrame (a : Addr) (extra : Bool) (s : State) : Host.Outcome State Fault Refusal :=
  runBoth (State.frame opSync a extra (State.syncGroups a)) s

/-- RESERVED_OP (R260). -/
def execReservedOp (code : Fin 256) (s : State) : Host.Outcome State Fault Refusal :=
  runBoth (fun s => if listedOps.contains code.val then s else s.frame code 0 false fun s => ([(3, 0)], s)) s

/-- SYNCIN_EDGE (R104). -/
def execSyncinEdge (rise : Bool) (s : State) : Host.Outcome State Fault Refusal := runBoth (State.syncinEdge rise) s

end Sys2Proof.Machine
end

