-- ==== Sys2Proof/Machine/Sessions.lean ====
section
/-! DEFINITION. Sessions: the handshake messages, credentials, keys and counters, enrolment and transfer (chapters 17 and 18). -/

namespace Sys2Proof.Machine

open Sys2Proof

/-- RESULT codes (R297). -/
def resOk : Nat := 0
def resSignature : Nat := 1
def resKey : Nat := 2
def resCredential : Nat := 3
def resState : Nat := 4
def resStale : Nat := 5
def resHash : Nat := 6

/-- KIND codes (R297, R305). -/
def kOpen : Nat := 0x01
def kChallenge : Nat := 0x02
def kProve : Nat := 0x03
def kAccept : Nat := 0x04
def kClose : Nat := 0x05
def kClosed : Nat := 0x06
def kChallengeReq : Nat := 0x10
def kNonce : Nat := 0x11
def kEnrol : Nat := 0x12
def kEnrolDone : Nat := 0x13
def kTransfer : Nat := 0x14
def kTransferDone : Nat := 0x15

/-- The kinds that go from the host to the device (R249). -/
def hostKinds : List Nat := [kOpen, kProve, kClose, kChallengeReq, kEnrol, kTransfer]

/-- Free words: nonces, points and whatever a message leaves unstated. -/
def Logic.drawWords (n : Nat) (l : Logic) : List Word × Logic :=
  ((List.range n).map fun i => word (Sys2Proof.Config.free (l.draws + i) % 2 ^ 32), { l with draws := l.draws + n })

/-- The number words spell, most significant first. -/
def wordsNat (ws : List Word) : Nat := ws.foldl (fun a w => a * 2 ^ 32 + w.toNat) 0

/-- A number as n words, most significant first. -/
def natWords (n v : Nat) : List Word := (List.range n).map fun i => word (numWord n i v)

/-- Words i to i + n - 1 of a message; those it lacks read 0. -/
def msgWords (i n : Nat) (ws : List Word) : List Word := (List.range n).map fun k => ws.getD (i + k) 0#32

/-- SHA-384 as words. -/
def shaWords (ws : List Word) : List Word := natWords 12 (Sys2Proof.Config.sha384 ws)

/-- The identity key's signature as words. -/
def signWords (ws : List Word) : List Word := natWords 24 (Sys2Proof.Config.sign ws)

/-- A SESSION message (R249): refused with BLOCK during a hold-off (R290), else pending until its reply is ready. -/
def State.message (kind : Nat) (act : State → State) (s : State) : State :=
  s.frame opSession (kind * 256) false fun s => if s.ld.cellar.hold.isSome then ([(15, kind * 256)], s) else ([], act s)

/-- The reply of a kind is being made; `r`: its RESULT as judged now. -/
def Logic.making (kind r : Nat) (ws : List Word) (l : Logic) : Logic := { l with sess := { l.sess with making := some (kind, r, ws) } }

/-- The reply being made, if it is of this kind: its RESULT and the message's words. -/
def Logic.made (kind : Nat) (l : Logic) : Option (Nat × List Word) :=
  match l.sess.making with
  | some (k, r, ws) => if k = kind then some (r, ws) else none
  | none => none

/-- A reply becomes ready (R249). -/
def Logic.answer (kind : Nat) (ws : List Word) (l : Logic) : Logic :=
  { l with sess := { l.sess with making := none, reply := some (kind, ws) } }

/-- RESULT 1 and 2 count as authentication failures (R297, R281). -/
def State.countResult (r : Nat) (s : State) : State := if r = resSignature ∨ r = resKey then s.authFailure else s

/-- May the Cellar serve sessions, enrolment and transfer (R280, R285, R286, R291)? -/
def Logic.cellarServes (l : Logic) : Bool :=
  l.gb cellarIdOk && l.gb cellarKatOk && l.gb cellarRngOk && !l.gb cellarHalted && !l.cellar.stuck

/-- A SESSION message that is pending ends refused with BLOCK, and no reply is made (R279). -/
def Logic.messageBlocked (kind : Nat) (l : Logic) : Logic :=
  { l with sess := { l.sess with making := none } }.frameError opSession [(15, kind * 256)]

/-- OPEN (R296, R297, R300): it abandons a handshake in progress. -/
def Logic.opened (ws : List Word) (pointOk : Bool) (l : Logic) : Logic :=
  let w := ws.getD 0 0#32
  let role := wbits w 16 2
  let rekey := wbit w 0
  let r := if !l.cellarServes || l.mram.owner.isNone || (rekey && l.sess.cur.isNone) then resState
    else if !pointOk then resKey
    else if role = 0 then resCredential else resOk
  ({ l with sess := { l.sess with hand := some { role := role, rekey := rekey, result := r, opened := msgWords 0 33 ws } } }).making
    kChallenge r []

/-- CHALLENGE becomes ready (R297, R301). A handshake that has ended meanwhile is answered STATE. -/
def State.challenge (s : State) : State :=
  match s.ld.made kChallenge with
  | none => s
  | some (r, _) =>
    let l := s.ld
    let r := if l.sess.hand.isNone then resState else r
    let n := l.draws
    let (nonce, l) := ({ l with draws := l.draws + 1 }).drawWords 8
    let head := word (pack [(24, 1), (8, r), (4, b2n (l.gb approvedBit))]) :: natWords 2 Sys2Proof.Config.serial
    let ws := head ++ natWords 24 (Sys2Proof.Config.ephemeral n) ++ nonce
    let open_ := match l.sess.hand with
      | some h => h.opened
      | none => []
    let ws := ws ++ signWords (shaWords (open_ ++ ws))
    let hand := if r ≠ resOk then none else l.sess.hand.map fun h => { h with ephemeral := n, sent := ws }
    let used := r == resOk
    let l : Logic := { l with sess := { l.sess with hand := hand, pairReady := l.sess.pairReady && !used } }
    State.countResult r { s with ld := l.answer kChallenge ws }

/-- What a PROVE shows (R297, R298, R300): `credOk` and `sigOk` say whether its two signatures verify. -/
def Logic.judgeProve (ws : List Word) (credOk sigOk : Bool) (h : Handshake) (l : Logic) : Proved :=
  let c := (ws.getD 0 0#32).toNat
  let cred := msgWords 1 60 ws
  let t2 := Sys2Proof.Config.sha384 (h.opened ++ h.sent ++ msgWords 0 (1 + min c 60) ws)
  let owner := l.mram.owner.getD 0
  let point := if h.role = 3 then owner else wordsNat (msgWords 12 24 cred)
  let scope := if h.role = 1 then wordsNat (msgWords 4 8 cred) else 0
  let target := wordsNat (msgWords 1 2 cred)
  let fits := if h.role = 3 then c == 0
    else c == 60 && wbits (cred.getD 0 0#32) 16 2 == h.role && (target == 0 || target == Sys2Proof.Config.serial % 2 ^ 64) &&
      decide (crateCredMin (l.mram.slot l.mram.active).words ≤ (cred.getD 3 0#32).toNat) &&
      (h.role != 2 || wordsNat (msgWords 4 8 cred) == 0)
  let same := !h.rekey || (match l.sess.cur with
    | some x => x.holder == point
    | none => false)
  let r := if l.mram.owner.isNone || (h.rekey && l.sess.cur.isNone) then resState
    else if h.role ≠ 3 ∧ c = 60 ∧ !credOk then resSignature
    else if !fits then resCredential
    else if !sigOk then resSignature
    else if !same then resCredential else resOk
  { result := r, scope := scope, holder := point, t2 := t2 }

/-- PROVE (R297): STATE where no CHALLENGE with RESULT 0 has been answered. -/
def Logic.prove (ws : List Word) (credOk sigOk : Bool) (l : Logic) : Logic :=
  match l.sess.hand with
  | some h =>
    if h.sent = [] ∨ h.proved.isSome then l.making kAccept resState []
    else
      let p := l.judgeProve ws credOk sigOk h
      ({ l with sess := { l.sess with hand := some { h with proved := some p } } }).making kAccept p.result []
  | none => l.making kAccept resState []

/-- The 96 bytes of R299, and the three keys they split into. -/
def sessionKeys (h : Handshake) (sid : Nat) : Nat × Nat × Nat :=
  let z := Sys2Proof.Config.ecdh h.ephemeral (wordsNat (msgWords 1 24 h.opened))
  let salt := msgWords 25 8 h.opened ++ msgWords 27 8 h.sent
  let info := [0x46574E33#32, 0x3231382D#32, 0x53455353#32, 0x494F4E#32] ++ natWords 2 Sys2Proof.Config.serial ++ [word h.role, word sid]
  let k := Sys2Proof.Config.hkdf96 z salt info
  (k / 2 ^ 512 % 2 ^ 256, k / 2 ^ 256 % 2 ^ 256, k % 2 ^ 256)

/-- A session ends at the end of an overlap (R304). -/
def Logic.endOverlap (l : Logic) : Logic :=
  if l.sess.old.isSome then
    (({ l with sess := { l.sess with old := none } }).evt R.pageCELLAR 3).when (l.g F.PAIR_STAT_ROLE == 1) (Logic.sendPartner (.state none))
  else l

/-- A session becomes active (R300, R304): one without REKEY ends every earlier one; one with REKEY overlaps the session it replaces,
unless that has accepted nothing. -/
def Logic.activate (x : Session) (rekey : Bool) (l : Logic) : Logic :=
  let bound := match l.sess.cur with
    | some y => if rekey then y.top else 0
    | none => 0
  let overlap := rekey && bound != 0
  let ended := l.sess.old.isSome || (l.sess.cur.isSome && !overlap)
  let l := { l with sess := { l.sess with cur := some { x with bound := bound }, old := if overlap then l.sess.cur else none, hand := none, keys := x.id } }
  let l := (l.putWord R.DEVICE_SESS_BOUND (word bound)).put F.DEVICE_SESS_STAT_REKEY_WARN 0
  let l := (l.when ended (Logic.evt R.pageCELLAR 3)).evt R.pageDEVICE 11
  l.when (l.g F.PAIR_STAT_ROLE == 1) (Logic.sendPartner (.state none))

/-- ACCEPT becomes ready (R297, R300). The keys of a rekey enter the spare session slot (R278, R279). -/
def State.accept (s : State) : State :=
  match s.ld.made kAccept with
  | none => s
  | some (r, _) =>
    let l := s.ld
    let head := fun (r : Nat) => word (pack [(24, 1), (8, r)])
    match l.sess.hand.bind fun h => h.proved.map fun p => (h, p) with
    | some (h, p) =>
      if r ≠ resOk then
        let (ws, l) := ({ l with sess := { l.sess with hand := none } }).drawWords 6
        State.countResult r { s with ld := l.answer kAccept (head r :: ws) }
      else if h.rekey && l.sess.cur.isSome && (l.freeSlot 14).isNone then
        { s with ld := ({ l with sess := { l.sess with hand := none } }).slotShort.messageBlocked kProve }
      else
        let was := match l.sess.cur with
          | some y => y.sid
          | none => 0
        let n := Sys2Proof.Config.free l.draws % 2 ^ 32
        let l := { l with draws := l.draws + 1 }
        let sid := if l.sess.cur.isSome && n == was then (n + 1) % 2 ^ 32 else n
        let (kw, kr, kc) := sessionKeys h sid
        let x : Session := { id := l.sess.keys + 1, role := h.role, scope := p.scope, sid := sid, holder := p.holder, kw := kw, kr := kr }
        let l := l.activate x h.rekey
        let tag := Sys2Proof.Config.gmac kc [0#32, 0#32, 0#32] (natWords 12 p.t2)
        { s with ld := l.answer kAccept ([head resOk, word sid, l.regs.word R.DEVICE_SESS_BOUND] ++ natWords 4 tag) }
    | none =>
      let (ws, l) := ({ l with sess := { l.sess with hand := none } }).drawWords 6
      { s with ld := l.answer kAccept (head resState :: ws) }

/-- The registers of the session that remains active, after another has ended (R303, R304). -/
def Logic.showSession (l : Logic) : Logic :=
  match l.sess.cur with
  | some x => (l.putWord R.DEVICE_SESS_BOUND (word x.bound)).putb F.DEVICE_SESS_STAT_REKEY_WARN (decide (0xFFFF0000 ≤ x.top))
  | none => (l.putWord R.DEVICE_SESS_BOUND 0#32).put F.DEVICE_SESS_STAT_REKEY_WARN 0

/-- CLOSED becomes ready (R300): the active session has ended; one it overlapped remains. -/
def Logic.closed (l : Logic) : Logic :=
  match l.made kClosed with
  | none => l
  | some _ =>
    if l.sess.cur.isNone then l.answer kClosed [word (resState * 256)]
    else
      let l := { l with sess := { l.sess with cur := l.sess.old, old := none } }
      let l := l.showSession.evt R.pageCELLAR 3
      (l.when (l.g F.PAIR_STAT_ROLE == 1) (Logic.sendPartner (.state none))).answer kClosed [0#32]

/-- NONCE becomes ready (R305). -/
def Logic.nonceReady (l : Logic) : Logic :=
  match l.made kNonce with
  | none => l
  | some (_, ws) =>
    let w := ws.getD 0 0#32
    let (n, l) := l.drawWords 8
    let l := { l with sess := { l.sess with nonce := some { purpose := w.toNat, time := l.time, words := n } } }
    l.answer kNonce (w :: natWords 2 Sys2Proof.Config.serial ++ n)

/-- Ticks in 60 s, the life of a nonce (R305). -/
def Logic.nonceOk (purpose : Nat) (l : Logic) : Bool :=
  match l.sess.nonce with
  | some n => n.purpose == purpose && decide (l.time - n.time ≤ minuteTicks)
  | none => false

/-- A message that uses the nonce (R305): one use. `r`: its RESULT. -/
def Logic.useNonce (kind r : Nat) (ws : List Word) (l : Logic) : Logic :=
  let n := match l.sess.nonce with
    | some n => n.words
    | none => []
  ({ l with sess := { l.sess with nonce := none } }).making kind r (n ++ ws)

/-- May an enrolment be accepted (R27, R281)? -/
def Logic.enrolOpen (l : Logic) : Bool :=
  l.gb F.DEVICE_MODE_ENROL_OPEN && l.mram.owner.isNone && l.cellarServes && l.mode == .commission

/-- ENROL (R281, R305). -/
def Logic.enrol (ws : List Word) (pointOk sigOk : Bool) (l : Logic) : Logic :=
  let r := if !l.enrolOpen then resState else if !l.nonceOk 1 then resStale else if !pointOk then resKey
    else if !sigOk then resSignature else resOk
  l.useNonce kEnrolDone r (msgWords 0 49 ws)

/-- A DONE reply (R305): signed over the SHA-384 of the signed content followed by RESULT. -/
def Logic.done (kind r : Nat) (content : List Word) (l : Logic) : Logic :=
  l.answer kind (word (r * 256) :: signWords (shaWords content ++ [word (r * 256)]))

/-- What the owner key signs at enrolment or transfer (R305), from the nonce and the message's words. -/
def signedContent (tag : List Word) (nonce ws : List Word) (n : Nat) : List Word :=
  tag ++ natWords 2 Sys2Proof.Config.serial ++ nonce ++ msgWords 1 n ws

/-- A nonce and the message that used it. -/
def splitNonce (n : Nat) (ws : List Word) : List Word × List Word := (ws.take (ws.length - n), ws.drop (ws.length - n))

/-- ENROL_DONE (R281): the owner key is stored, ENROL_OPEN and the LOCKOUT marker clear. -/
def State.enrolDone (s : State) : State :=
  match s.ld.made kEnrolDone with
  | none => s
  | some (r, ws) =>
    let l := s.ld
    let (nonce, ws) := splitNonce 49 ws
    let r := if r = resOk ∧ !l.enrolOpen then resState else r
    let content := signedContent [0x46574E33#32, 0x3231382D#32, 0x454E524F#32, 0x4C#32] nonce ws 24
    let l := l.done kEnrolDone r content
    if r = resOk then
      let l := l.keep fun m => { m with owner := some (wordsNat (msgWords 1 24 ws)), marker := none }
      { s with ld := ((l.put F.DEVICE_MODE_ENROL_OPEN 0).put (cellarStatus 5) 1).evt R.pageCELLAR 7 }
    else State.countResult r { s with ld := l }

/-- TRANSFER (R282, R305). -/
def Logic.transfer (ws : List Word) (pointOk sigOk : Bool) (l : Logic) : Logic :=
  let hash := crateHash (l.mram.slot l.mram.active).words
  let r := if l.role ≠ 3 ∨ l.mram.owner.isNone ∨ !l.cellarServes then resState else if !l.nonceOk 2 then resStale
    else if !pointOk then resKey else if !sigOk then resSignature
    else if wordsNat (msgWords 25 12 ws) ≠ hash then resHash else resOk
  l.useNonce kTransferDone r (msgWords 0 61 ws)

/-- TRANSFER_DONE (R282): the new key is stored by rotation, ACTIVE counts as signed by it, the pair key and the consumer keys are
erased, and every session ends. Without a spare slot the rotation is refused with BLOCK (R279). An ACTIVE that the message's hash does
not name is not admitted. -/
def State.transferDone (s : State) : State :=
  match s.ld.made kTransferDone with
  | none => s
  | some (r, ws) =>
    let l := s.ld
    let (nonce, ws) := splitNonce 61 ws
    let r := if r = resOk ∧ l.role ≠ 3 then resState
      else if r = resOk ∧ wordsNat (msgWords 25 12 ws) ≠ crateHash (l.mram.slot l.mram.active).words then resHash else r
    let (ok, l) := if r = resOk then l.rotateKey l.mram.ownerSlot else (true, l)
    let content := signedContent [0x46574E33#32, 0x3231382D#32, 0x58464552#32] nonce ws 36
    if !ok then { s with ld := l.messageBlocked kTransfer }
    else if r = resOk then
      let new := wordsNat (msgWords 1 24 ws)
      let l := l.keep fun m =>
        let a := m.slot m.active
        { m with
          owner := some new, pairKey := none, keys := [], keySlots := []
          slots := tput (fun _ => {}) m.slots m.active { a with signer := new } }
      { s with ld := ((l.put F.PAIR_STAT_KEY_OK 0).endSessions.evt R.pageCELLAR 8).done kTransferDone r content }
    else State.countResult r { s with ld := l.done kTransferDone r content }

/-- Is a CTR acceptable to a session (R303)? -/
def Session.accepts (ctr : Nat) (x : Session) : Bool := decide (x.top < ctr ∧ ctr < 0xFFFFFF00)

/-- Which session judges a frame (R304): during an overlap a CTR at or below BOUND belongs to the newer session; one above it to the
older, unless that cannot accept it, or the newer one, with BOUND below 1000, has sent it: then the overlap ends. `by_`: does the frame's tag
verify under a session's keys, where it carries one? -/
def Logic.judgedBy (ctr : Nat) (by_ : Session → Bool) (l : Logic) : Option Session × Logic :=
  match l.sess.old, l.sess.cur with
  | some x, some y =>
    let bound := (l.regs.word R.DEVICE_SESS_BOUND).toNat
    if ctr ≤ bound then (some y, l)
    else if x.accepts ctr && !(decide (bound < 1000) && by_ y) then (some x, l)
    else (some y, l.endOverlap)
  | _, y => (y, l)

/-- A session accepts a frame's CTR (R303, R304). -/
def Logic.acceptCtr (x : Session) (ctr : Nat) (l : Logic) : Logic :=
  let up := fun (y : Session) => if y.id = x.id then { y with top := ctr, count := y.count + 1 } else y
  let first := decide (0xFFFF0000 ≤ ctr) && decide (x.top < 0xFFFF0000)
  let l := { l with sess := { l.sess with cur := l.sess.cur.map up, old := l.sess.old.map up } }
  let l := l.when first fun l => (l.put F.DEVICE_SESS_STAT_REKEY_WARN 1).evt R.pageDEVICE 10
  match l.sess.cur with
  | some y => if y.id = x.id ∧ 1000 ≤ y.count then l.endOverlap else l
  | none => l

/-- SESSION with DIR = 1 (R249, R251, R259). -/
def State.readReply (kind : Nat) (x : ReplyRead) (s : State) : List (Nat × Nat) × State :=
  let a := 0x8000 + kind * 256
  let n := x.words
  if n = 0 then ([(4, a)], s)
  else
    let (late, s) := s.isLate x.late
    let c : List (Nat × Nat) := if late then [(5, a)] else []
    match s.ld.sess.reply with
    | some (k, ws) =>
      if k = kind then
        let s := s.replyWith (lateWords late ((List.range n).map fun i => ws.getD i ones))
        (c, if ws.length < n then s.onLd Logic.extraEdges else s)
      else (c ++ [(15, a)], s.replyWith (List.replicate n ones))
    | none => (c ++ [(15, a)], s.replyWith (List.replicate n ones))

/-- A page a session may not read with READ_AUTH (R283): outside a Maintainer's scope. -/
def Session.readDenied (page : Nat) (x : Session) : Bool := x.role == 1 && !(nbit x.scope page && page != R.pageDEVICE && page != R.pageCELLAR)

/-- Words are read but those refused, which change nothing and read 0 (R54, R252). -/
def State.fetchAllowed (denied : Nat → Bool) : List Nat → State → List Word × State
  | [], s => ([], s)
  | p :: ps, s =>
    let (w, s) := if denied (p / 256) then (0#32, s) else s.fetch p
    let (ws, s) := State.fetchAllowed denied ps s
    (w :: ws, s)

/-- The eleven bytes of additional data of an authenticated frame (R302): command byte, ADDR, CTR and LEN. -/
def frameAad (op a ctr n : Nat) : Nat := ((op * 2 ^ 16 + a % 2 ^ 16) * 2 ^ 32 + ctr % 2 ^ 32) * 2 ^ 32 + n % 2 ^ 32

/-- What a READ_AUTH released too early has read for a session (R257, R283). -/
def State.fetchAs (x : Session) (a n : Nat) (s : State) : List (Nat × Nat) × State :=
  let (no, yes) := (wordAddrs a n).partition fun p => x.readDenied (p / 256)
  let s := yes.foldl (fun s p => (s.fetch p).2) s
  (reservedIn a n ++ no.map fun p => (1, p), s.onLd fun l => no.foldl (fun l p => l.countRefusal p rRole) l)

/-- READ_AUTH (R252, R302): the words from `a`, a late one as ones, as ciphertext under K_R with the tag, or all ones where the CTR is not
acceptable. A Maintainer reads the pages of its scope (R283); a follower forwards the CTR it accepts (R320). -/
def State.readAuth (ctr a n : Nat) (late : Bool) (s : State) : List (Nat × Nat) × State :=
  if n = 0 ∨ 256 < n then ([(14, a)], s)
  else
    let (x, l) := s.ld.judgedBy ctr fun _ => false
    let s := { s with ld := l }
    match x with
    | none => ([(12, a)], s)
    | some x =>
      if !x.accepts ctr then ([(8, a)], (s.replyWith (List.replicate (n + 4) ones)).authFailure)
      else
        let s := s.onLd (Logic.acceptCtr x ctr)
        let s := s.onLd fun l => l.when (l.mode == .follow) (Logic.sendPartner (.mirror (.ctr (word ctr))))
        let (late, s) := s.isLate late
        let (ws, s) := s.fetchAllowed x.readDenied (wordAddrs a n)
        let refused := (wordAddrs a n).filter fun p => x.readDenied (p / 256)
        let s := s.onLd fun l => refused.foldl (fun l p => l.countRefusal p rRole) l
        let (c, tag) := Sys2Proof.Config.gcm x.kr [word x.sid, 2#32, word ctr] (frameAad opReadAuth a ctr n) (lateWords late ws)
        ((if late then [(5, a)] else []) ++ reservedIn a n ++ refused.map (fun p => (1, p)),
          s.replyWith ((List.range n).map (fun i => c.getD i 0#32) ++ natWords 4 tag))

/-- OPEN (R296). -/
def execOpenSession (ws : List Word) (pointOk : Bool) (s : State) : Host.Outcome State Fault Refusal :=
  runBoth (State.message kOpen fun s => s.onLd (Logic.opened ws pointOk)) s

/-- CHALLENGE (R297). -/
def execChallenge (s : State) : Host.Outcome State Fault Refusal := runBoth State.challenge s

/-- PROVE (R297). -/
def execProve (ws : List Word) (credOk sigOk : Bool) (s : State) : Host.Outcome State Fault Refusal :=
  runBoth (State.message kProve fun s => s.onLd (Logic.prove ws credOk sigOk)) s

/-- ACCEPT (R300). -/
def execAccept (s : State) : Host.Outcome State Fault Refusal := runBoth State.accept s

/-- CLOSE (R300). -/
def execCloseSession (s : State) : Host.Outcome State Fault Refusal :=
  runBoth (State.message kClose fun s => s.onLd (Logic.making kClosed 0 [])) s

/-- CLOSED (R300). -/
def execClosed (s : State) : Host.Outcome State Fault Refusal := runLogic Logic.closed s

/-- CHALLENGE_REQ (R305). -/
def execChallengeReq (w : Word) (s : State) : Host.Outcome State Fault Refusal :=
  runBoth (State.message kChallengeReq fun s => s.onLd (Logic.making kNonce 0 [w])) s

/-- NONCE (R305). -/
def execNonce (s : State) : Host.Outcome State Fault Refusal := runLogic Logic.nonceReady s

/-- ENROL (R281). -/
def execEnrol (ws : List Word) (pointOk sigOk : Bool) (s : State) : Host.Outcome State Fault Refusal :=
  runBoth (State.message kEnrol fun s => s.onLd (Logic.enrol ws pointOk sigOk)) s

/-- ENROL_DONE (R281). -/
def execEnrolDone (s : State) : Host.Outcome State Fault Refusal := runBoth State.enrolDone s

/-- TRANSFER (R282). -/
def execTransfer (ws : List Word) (pointOk sigOk : Bool) (s : State) : Host.Outcome State Fault Refusal :=
  runBoth (State.message kTransfer fun s => s.onLd (Logic.transfer ws pointOk sigOk)) s

/-- TRANSFER_DONE (R282). -/
def execTransferDone (s : State) : Host.Outcome State Fault Refusal := runBoth State.transferDone s

/-- EPHEMERAL_PAIR_READY (R301): without an entropy source there are no ephemeral keys (R286). -/
def execEphemeralPairReady (s : State) : Host.Outcome State Fault Refusal :=
  runLogic (fun l => l.when (l.gb cellarRngOk) fun l => { l with sess := { l.sess with pairReady := true } }) s

/-- SESSION_READ (R249). -/
def execSessionRead (kind : Fin 128) (n : ReplyRead) (s : State) : Host.Outcome State Fault Refusal :=
  runBoth (fun s => s.frame opSession (0x8000 + kind * 256) false (State.readReply kind n) (cut := n.words == 0)) s

/-- SESSION_KIND_REFUSED (R249). -/
def execSessionKindRefused (kind : Fin 128) (s : State) : Host.Outcome State Fault Refusal :=
  runBoth (fun s => if hostKinds.contains kind.val then s else s.frame opSession (kind * 256) false fun s => ([(14, kind * 256)], s)) s

/-- READ_AUTH (R252). -/
def execReadAuth (ctr : Word) (a : Addr) (n : Nat) (late extra : Bool) (s : State) : Host.Outcome State Fault Refusal :=
  runBoth (State.frame opReadAuth a extra (State.readAuth ctr.toNat a n late)) s

end Sys2Proof.Machine
end

