-- ==== Sys2Proof/Machine/Crates.lean ====
section
/-! DEFINITION. Crates: staging, the checks of a CLOSE, the slots, and application (R248, R309-R313, R333). -/

namespace Sys2Proof.Machine

open Sys2Proof

/-- CRATE_STAT.STATE (R317). -/
def stIdle : Nat := 0
def stStaging : Nat := 1
def stChecking : Nat := 2
def stValidating : Nat := 3
def stWriting : Nat := 4
def stApplying : Nat := 5

/-- CRATE_STAT.STATE. -/
def Logic.crateState (l : Logic) : Nat := l.g F.DEVICE_CRATE_STAT_STATE

/-- May the staging buffer and CRATE_CTL be written (R309)? -/
def Logic.crateFree (l : Logic) : Bool := decide (l.crateState ≤ stStaging)

/-- Words into the staging buffer (R248). -/
def Logic.stageWords : Nat → List Word → Logic → Logic
  | _, [], l => l
  | a, w :: ws, l =>
    if a < 16384 then
      Logic.stageWords (a + 1) ws (({ l with crate := { l.crate with
        stage := tput (fun _ => 0#32) l.crate.stage a w, fill := max l.crate.fill (a + 1) } }).put F.DEVICE_CRATE_STAT_STATE stStaging)
    else l

/-- CRATE_PUSH (R248, R309). -/
def State.pushWords (a : Nat) (ws : List Word) (s : State) : List (Nat × Nat) × State :=
  if !s.ld.crateFree then ([(15, a)], s)
  else ((if 16384 < a + ws.length then [(11, max a 16384 % 65536)] else []), s.onLd (Logic.stageWords a ws))

/-- The buffer is empty (R309). -/
def Logic.emptyStage (l : Logic) : Logic := { l with crate := { l.crate with stage := [], fill := 0 } }

/-- A CLOSE begins (R309, R333): a READY pair's lead forwards the crate. The words are LENGTH's, and the header's in any case. -/
def Logic.beginClose (apply joint : Bool) (l : Logic) : Logic :=
  let n := l.crate.fill
  let len := (tget (fun _ => 0#32) l.crate.stage 2).toNat / 4
  let ws := (List.range (if len ≤ n then max len (min 16 n) else n)).map fun i => tget (fun _ => 0#32) l.crate.stage i
  let l := { l with crate := { l.crate with words := ws, apply := apply, joint := joint, partner := none, mine := false } }
  (l.put F.DEVICE_CRATE_STAT_STATE stChecking).when (joint && l.g F.PAIR_STAT_ROLE == 1) (Logic.modPair fun p => { p with crateAt := some 0 })

/-- A write of CRATE_CTL (R309, R333): a follower's CLOSE is refused; so is an application while the SYS role is lost (R15). -/
def State.crateCtl (w : Word) (s : State) : Ruling × State :=
  let l := s.ld
  let cmd := wbits w 0 2
  if !l.crateFree then s.deny rBlock
  else match cmd with
    | 0 => s.deny rEncoding
    | 3 => ({ s with ld := l.emptyStage.put F.DEVICE_CRATE_STAT_STATE stIdle }).did
    | c =>
      if l.g F.PAIR_STAT_ROLE = 2 || (c == 2 && nbit l.cores.lost 0) then s.deny rBlock
      else ({ s with ld := l.beginClose (c == 2) l.leadReady }).did

/-- A CLOSE ends (R309, R313): the buffer empties and STATE returns to 0. -/
def Logic.endClose (reason page : Nat) (l : Logic) : Logic :=
  let l := { l.emptyStage with crate := { l.emptyStage.crate with words := [], config := [], partner := none, mine := false } }
  let l := l.modPair fun p => { p with crateAt := none }
  let l := ((l.put F.DEVICE_CRATE_STAT_STATE stIdle).put F.DEVICE_CRATE_STAT_REASON reason).put F.DEVICE_CRATE_STAT_PAGE page
  let l := l.putb F.DEVICE_CRATE_STAT_LAST_OK (reason == 0)
  l.evt R.pageDEVICE (if reason = 0 then 8 else 9)

/-- A joint CLOSE tells the partner how this device's checks have ended (R333). -/
def Logic.tellCheck (ok : Bool) (l : Logic) : Logic := l.when l.crate.joint (Logic.sendPartner (.crate (.answer ok)))

/-- Does a crate carry a key for this device? -/
def crateHasKey (ws : List Word) : Bool :=
  ((crateRecs ws).getD []).any fun r => match r with
    | .key _ w => keyForUs w
    | _ => false

/-- Steps 1-8 of R310: the first that fails. `sig`: the signature verifies under the owner key; `keys`: what the KEY records for this device
show. With the known-answer tests failed no crate is verified (R36, R285): step 4 fails. Without the identity key no record unwraps
(R280). -/
def Logic.checkSteps (ws : List Word) (sig : Bool) (keys : KeyCheck) (l : Logic) : Nat :=
  if !crateFormat ws then 1
  else if !crateLengthOk l.crate.fill ws then 2
  else if l.mram.owner.isNone then 3
  else if !sig || !l.gb F.DEVICE_BOOTSTAT_KAT_OK then 4
  else if !crateTargetOk ws then 5
  else if crateCounter ws < l.mram.floor ∨
      (l.crate.apply ∧ crateCounter ws ≤ crateCounter (l.mram.slot l.mram.active).words) then 6
  else if !crateRecordsOk ws then 7
  else if !crateKeysAllowed ws ∨ (crateHasKey ws ∧ (keys ≠ .unwrap ∨ !l.gb cellarIdOk)) then 8
  else 0

/-- CRATE_CHECKS_COMPLETE (R310): a CLOSE_STORE outside a READY pair has no further step. A signature that fails, and a public key of a KEY
record that fails its validation, count as authentication failures (R286, R287). -/
def State.checksDone (sig : Bool) (keys : KeyCheck) (s : State) : State :=
  let l := s.ld
  if l.crateState ≠ stChecking then s
  else
    let k := l.checkSteps l.crate.words sig keys
    if k ≠ 0 then
      let s := { s with ld := (l.tellCheck false).endClose k 0 }
      if (k = 4 ∧ !sig) ∨ (k = 8 ∧ crateKeysAllowed l.crate.words ∧ keys = .badPoint) then s.authFailure else s
    else { s with ld := { l with crate := { l.crate with signer := l.mram.owner.getD 0 } } }.onLd (Logic.put F.DEVICE_CRATE_STAT_STATE (if l.crate.apply || l.crate.joint then stValidating else stWriting))

/-- May a LIVE crate change the register of this address (R312)? -/
def Field.liveMay (a : Nat) (f : Field) : Bool :=
  match pageKind (a / 256) with
  | .ctx c => thOff (a % 256) || !f.ctxInUse c
  | .filt u => !f.filtInUse u
  | _ => false

/-- The header fields a LIVE crate may not change (R312): FLAGS[1], TARGET, the serials, CRED_MIN. -/
def crateHeader (ws : List Word) : Nat × Nat × Nat × Nat × Nat :=
  (crateFlags ws / 2 % 2, crateTarget ws, crateSerialA ws, crateSerialB ws, crateCredMin ws)

/-- The crate in a slot stands as it did when the LOCKOUT marker was written (R293). -/
def Logic.markedCrate (p : Nat) (l : Logic) : Bool :=
  let x := l.mram.slot p
  match l.mram.marker with
  | some k => x.readable && x.ok && x.words != [] && crateHash x.words == k.hash
  | none => false

/-- Does a judgement of a slot reach the validation of R424: its rows read, its signature verifies and its counter is high enough (R311)? In
LOCKOUT the marker's hash stands for the signature (R293). With the known-answer tests failed no crate is verified (R36). -/
def Logic.reachesValidation (p : Nat) (l : Logic) : Bool :=
  let m := l.mram
  let x := m.slot p
  if !l.gb F.DEVICE_BOOTSTAT_KAT_OK then false
  else if m.marker.isSome then l.markedCrate p
  else x.readable && x.words != [] && m.owner == some x.signer && x.signer != 0 && decide (m.floor ≤ crateCounter x.words)

/-- A judgement of a slot runs the validation, which rewrites every VFAIL (R424). -/
def Logic.judgeSlot (p : Nat) (l : Logic) : Logic :=
  let ws := (l.mram.slot p).words
  l.when (l.reachesValidation p) (Logic.showVerdict (validate (crateTarget ws == 1) none (crateConfig [] ws)))

/-- Step 11 of R310 (R312). -/
def State.liveScopeOk (ws : List Word) (config : RegFile) (s : State) : Bool :=
  let m := s.ld.mram
  let head := if m.slotValid m.active then (m.slot m.active).words else s.fd.crateHead
  let keys := ((config ++ s.ld.regs).map (·.1)).filter fun a => isConfig a && config.word a != s.ld.regs.word a
  s.ld.gb F.DEVICE_MODE_FIELD_CFG && head != [] && crateHeader head == crateHeader ws && keys.all fun a => s.fd.liveMay a

/-- Step 10 (R27): any crate in COMMISSION, a LIVE one in RUN and SAFE, a mirrored one in FOLLOW. -/
def Logic.modeApplies (ws : List Word) (l : Logic) : Bool :=
  match l.mode with
  | .commission => true
  | .run | .safe => crateFlags ws % 2 == 1
  | .follow => l.crate.joint
  | _ => false

/-- Both devices of a pair have passed (R333): the CLOSE goes on; the partner has failed: it fails with reason VALIDATION. -/
def Logic.joinChecks (l : Logic) : Logic :=
  if l.crateState ≠ stValidating ∨ !l.crate.mine then l
  else match l.crate.partner with
    | some true => l.put F.DEVICE_CRATE_STAT_STATE stWriting
    | some false => (((l.put F.PAIR_VFAIL_REASON 3).evt R.pagePAIR 12).endClose 9 3)
    | none => l

/-- CRATE_VALIDATION_COMPLETE (R310, R424): step 9 and, for CLOSE_APPLY, steps 10 and 11, the last of which judges the ACTIVE slot. -/
def State.validationDone (s : State) : State :=
  let l := s.ld
  if l.crateState ≠ stValidating ∨ l.crate.mine then s
  else
    let ws := l.crate.words
    let run := l.mode == .run || l.mode == .safe
    let config := crateConfig l.regs ws
    let v := validate (crateTarget ws == 1) (if run && crateFlags ws % 2 == 1 then some l.regs else none) config
    let l := ({ l with crate := { l.crate with config := config } }).showVerdict v
    let last := v.ok && l.crate.apply && run && l.modeApplies ws
    let l := l.when last (Logic.judgeSlot l.mram.active)
    let fail := if !v.ok then some (9, v.page)
      else if l.crate.apply && !l.modeApplies ws then some (10, 0)
      else if l.crate.apply && run && !s.liveScopeOk ws config then some (11, 0)
      else none
    match fail with
    | some (k, p) => { s with ld := (l.tellCheck false).endClose k p }
    | none =>
      if l.crate.joint then
        let l := { l with crate := { l.crate with mine := true } }
        { s with ld := (l.tellCheck true).joinChecks }
      else { s with ld := l.put F.DEVICE_CRATE_STAT_STATE stWriting }

/-- A crate into a physical slot, with the key its signature was verified under and what steps 1-9 would find of it there (R311). -/
def Logic.writeSlot (p : Nat) (ws : List Word) (l : Logic) : Logic :=
  let ok := (validate (crateTarget ws == 1) none (crateConfig [] ws)).ok
  l.keep fun m => { m with slots := tput (fun _ => {}) m.slots p { words := ws, signer := l.crate.signer, ok := ok } }

/-- The pages a crate's records touch. -/
def cratePages (ws : List Word) : List Nat := (((crateRecs ws).getD []).flatMap Rec.addrs).map (· / 256)

/-- A configuration is to be applied (R59, R313): its pages wait their turn, the first one locked. A field page takes effect with its CFG
frame, a page of the logic die at a tick or with what comes after it (log 105). -/
def Logic.beginApply (touched : List Nat) (config : RegFile) (l : Logic) : Logic :=
  (l.modBar fun b => { b with pages := appliedPages touched l.regs config }).lockNext

/-- CRATE_SLOT_WRITTEN (R311): a stored crate becomes PENDING; one to be applied begins to be. Registers that are no configuration keep
what the host has written since the validation (R58, R307). -/
def Logic.slotWritten (l : Logic) : Logic :=
  if l.crateState ≠ stWriting then l
  else
    let ws := l.crate.words
    let l := l.writeSlot l.mram.spare ws
    if l.crate.apply then (l.beginApply (cratePages ws) (crateConfig l.regs ws)).put F.DEVICE_CRATE_STAT_STATE stApplying
    else (l.keep fun m => { m with pending := m.spare, spare := m.pending }).endClose 0 0

/-- A crate becomes ACTIVE from the slot of a label: the device's FLOOR rises (R311). -/
def Mram.promote (fromPending : Bool) (m : Mram) : Mram :=
  let p := if fromPending then m.pending else m.spare
  let m := { m with floor := max m.floor (crateFloor (m.slot p).words) }
  if fromPending then { m with active := m.pending, fallback := m.active, spare := m.fallback, pending := m.spare }
  else { m with active := m.spare, fallback := m.active, spare := m.fallback }

/-- The consumer keys of a crate enter their slots (R308, R313): a new key by rotation, a slot without one keeps none. Without a spare slot
the rotation is refused and the old key stays (R279): the CELLAR page's CLASS shows the BLOCK. Without the identity key no record unwraps (R280). -/
def Logic.takeKeys (ws : List Word) (l : Logic) : Logic :=
  Logic.each (List.range 8) (fun k l =>
    let old := (l.mram.keys.find? fun x => x.1 == k).map (·.2)
    let new := crateKey k ws
    if new = old then l
    else
      let (ok, l) := match new with
        | some _ =>
          if !l.gb cellarIdOk then (false, l)
          else
            let (ok, l) := l.rotateKey (4 + tget (fun k => k) l.mram.keySlots k)
            (ok, l.when (!ok) (Logic.countRefusal (R.CLASS R.pageCELLAR) rBlock))
        | none => (true, l)
      if !ok then l
      else
        let l := l.keep fun m => { m with keys := match new with
          | some v => tins m.keys k v
          | none => tdel m.keys k }
        { l with crate := { l.crate with oldKeys := l.crate.oldKeys ++ [(k, l.time, old)] } }) l

/-- The field die runs from an applied configuration: contexts open their windows, programmes start, rotation begins. -/
def Field.beginRuns (f : Field) : Field :=
  let f := f.each (allCtxs.filter fun c => f.cb (F.CTX_CFG_VALID c)) Field.enableCtx
  let f := f.each (allSlices.filter fun k => f.cb (F.CTRL_EN (R.pageSLICE k)) && !(f.slice k).on) Field.resumeSlice
  f.rotate 0

/-- The field die holds an applied configuration and knows the crate it came from (R42, R312). -/
def Field.holdCrate (ws : List Word) (f : Field) : Field :=
  let was := f.connected
  let f := { f with configured := true, crateHash := some (Sys2Proof.Machine.crateHash ws), crateHead := ws.take 16 }
  f.when (!was && f.connected) Field.beginRuns

/-- Every context's SEQ goes on from the last one delivered, and its first window carries GAP (R43): what a field die that was reset alone gets
with its next configuration, whichever crate brings it. -/
def Field.resumeSeqs (l : Logic) (f : Field) : Field :=
  if !f.seqsLost then f
  else
    let f := f.each allCtxs fun c f => f.modCtx c fun x => { x with seq := (l.regs.word (R.CTX_SEQ c)).toNat, gap := true }
    let f := f.each (allCtxs.filter fun c => f.cb (F.CTX_CFG_VALID c)) fun c f => (f.modCtx c fun x => { x with gap := false }).flag c 7
    { f with seqsLost := false }

/-- CRATE_APPLICATION_COMPLETE (R311, R313): once the last page has been applied, those of the logic die that remain first. -/
def State.applicationDone (s : State) : State :=
  let s := if s.ld.crateState = stApplying ∧ (s.ld.bar.pages.all fun p => !onField (p * 256)) then s.ownPages else s
  let l := s.ld
  if l.crateState ≠ stApplying ∨ l.bar.pages ≠ [] then s
  else
    let ws := l.crate.words
    let l := (l.keep (Mram.promote false)).takeKeys ws
    let l := (l.putb F.DEVICE_MODE_PAIRED (crateTarget ws == 1)).put F.DEVICE_MODE_FIELD_CFG 1
    let l := l.endClose 0 0
    ({ s with ld := l.approve }).onFd fun f => (f.holdCrate ws).resumeSeqs l

/-- CRATE_PUSH (R248). -/
def execCratePush (a : Addr) (ws : List Word) (s : State) : Host.Outcome State Fault Refusal :=
  runBoth (State.frame opCratePush a false (State.pushWords a ws)) s

/-- CRATE_CHECKS_COMPLETE (R310). -/
def execCrateChecksComplete (sig : Bool) (keys : KeyCheck) (s : State) : Host.Outcome State Fault Refusal :=
  runBoth (State.checksDone sig keys) s

/-- CRATE_VALIDATION_COMPLETE (R424). -/
def execCrateValidationComplete (s : State) : Host.Outcome State Fault Refusal := runBoth State.validationDone s

/-- CRATE_SLOT_WRITTEN (R311). -/
def execCrateSlotWritten (s : State) : Host.Outcome State Fault Refusal := runLogic Logic.slotWritten s

/-- CRATE_APPLICATION_COMPLETE (R313). -/
def execCrateApplicationComplete (s : State) : Host.Outcome State Fault Refusal := runBoth State.applicationDone s

end Sys2Proof.Machine
end

