-- ==== Sys2Proof/Machine/Pair.lean ====
section
/-! DEFINITION. Roles of a pair: taking over, yielding, catch, planned handovers (R319, R332-R344). -/

namespace Sys2Proof.Machine

open Sys2Proof

/-- PAIR.STAT.ROLE: 0 unpaired, 1 lead, 2 follower, 3 detached. -/
def Logic.pairRole (l : Logic) : Nat := l.g F.PAIR_STAT_ROLE

/-- A frame into the partner port's queue, paired or not. -/
def Logic.queueFrame (k : PFrame) (l : Logic) : Logic :=
  if l.pair.queue.length < 64 then l.modPair fun p => { p with queue := p.queue ++ [k] } else l

/-- HELLO goes out (R327), with a fresh 256-bit nonce. -/
def Logic.sayHello (l : Logic) : Logic :=
  let nonce := Sys2Proof.Config.free l.draws % 2 ^ 256
  (({ l with draws := l.draws + 1 }).modPair fun p => { p with nonce := nonce }).queueFrame
    (.hello Sys2Proof.Config.serial nonce (crateHash (l.mram.slot l.mram.active).words))

/-- A failure of steps 2-4 (R327): the event shown and a MILD fault; pairing starts again at the next retry. -/
def Logic.pairFails (bit : Nat) (l : Logic) : Logic :=
  ((l.evt R.pagePAIR bit).fault 28 false).modPair fun p => { p with step := 0 }

/-- HANDOVER (bit 9) in FLAGS of every context's window in progress (R344). -/
def Field.flagHandover (f : Field) : Field := f.each (allCtxs.filter fun c => f.cb (F.CTX_CFG_VALID c)) fun c f => f.flag c 9

/-- READY clears: changes announced and not yet applied apply, and each device drives for itself again. -/
def State.unready (s : State) : State :=
  if s.ld.gb F.PAIR_STAT_READY then
    (s.onLd fun l => (l.put F.PAIR_STAT_READY 0).modPair fun p => { p with means := [], others := [], mine := none, theirs := none, aligning := [], handAgain := false }).onFd fun f =>
      ({ f with paired := false, noticed := [], notices := [] }).settleAll
  else s

/-- STAT.READY = 1 (R327, step 8): PAIRED. -/
def State.becomeReady (s : State) : State :=
  let lead := s.ld.pairRole == 1
  (s.onLd fun l => ((l.put F.PAIR_STAT_READY 1).evt R.pagePAIR 0).modPair fun p => { p with step := 8 }).onFd fun f =>
    { f with paired := true, lead := lead }

/-- Terminals whose stage is a catch in FOLLOW (R339): outputs, and the shunt of AI_I. -/
def Field.stages (f : Field) : List Nat := allTerms.filter fun n => isOut (f.func n) || f.func n == 4

/-- The stages of a device that enters FOLLOW stand in catch, disarmed (R319). -/
def Field.enterFollow (f : Field) : Field :=
  let f := { f with mode := .follow, lead := false, joined := false, ramp := none, dropped := 0, bothShunts := false, partAt := none }
  (f.each f.stages fun n f => f.modTerm n fun t => { t with catch_ := .idle }).settleAll

/-- Into FOLLOW as the follower of a pair (R336, R341). -/
def State.follow (s : State) : State :=
  ((s.onLd fun l => (l.setMode .follow).put F.PAIR_STAT_ROLE 2).onFd Field.enterFollow).hear

/-- The outcome of a handover or takeover (R348). -/
def Logic.showOutcome (cause result abort : Nat) (l : Logic) : Logic :=
  (l.putWord R.PAIR_HOSTAT (word (pack [(0, cause), (4, result), (8, abort)]))).putWord R.PAIR_HOTIME (word l.time)

/-- The outputs of a follower that becomes lead (R343): engaged stages follow R25; armed ones stay in held catch, and what is expected off but R25
would turn on stays off until it is commanded again (log 149). -/
def Field.leadNow (f : Field) : Field :=
  let f := { f with mode := .run, lead := true, joined := false, ramp := none, bothShunts := false, partAt := none }
  let g := f.each f.stages fun n f => f.modTerm n fun t => { t with catch_ := .none }
  let off := fun n => (f.term n).catch_ == .idle && isOut (f.func n) && (f.term n).expect.isNone && (g.delivered n (g.act n)).level.isSome
  (f.each f.stages fun n f => f.modTerm n fun t =>
    { t with catch_ := if t.catch_ = .armed then .armed else if off n then .idle else .none }).settleAll

/-- A follower takes over (R343). -/
def State.takeOver (s : State) : State :=
  let s := s.unready
  let s := s.onLd fun l =>
    let l := ((l.setMode .run).put F.PAIR_STAT_ROLE 1).assertPlead
    ((l.evt R.pagePAIR 2).showOutcome 3 1 0).modPair fun p => { p with handover := none, step := 0 }
  ((s.onLd (Logic.put F.PAIR_STAT_HANDOVER 0)).onFd fun f => ({ f with handover := false }.leadNow).flagHandover).hear

/-- PLEAD_IN follows the pin, which is held while this device or its partner drives it (R335). -/
def Logic.showPlead (other : Bool) (l : Logic) : Logic := l.putb F.PAIR_STAT_PLEAD_IN (other || l.gb F.PAIR_STAT_PLEAD_OUT)

/-- PARTNER_LOST (R334, R337, R343): `held`: this device sees PLEAD held. -/
def State.partnerLost (held : Bool) (s : State) : State :=
  if !s.ld.gb F.PAIR_STAT_LINK then s
  else
    let s := s.onLd fun l => (((((l.put F.PAIR_STAT_LINK 0).evt R.pagePAIR 1).bump F.PAIR_HB_MISSED).fault 28 false).modPair fun p =>
      { p with good := none, step := 0 }).showPlead held
    match s.ld.pairRole with
    | 2 => if held then s.unready.detach else s.takeOver
    | _ => s.unready

/-- PLEAD_REFRESH_TIMEOUT (R335). -/
def Logic.pleadTimeout (l : Logic) : Logic := l.when (l.gb F.PAIR_STAT_PLEAD_OUT) (Logic.releasePlead false)

/-- PLEAD_WAIT_EXPIRY (R336): PLEAD is still released, and the device becomes lead. -/
def State.pleadWaitEnds (s : State) : State :=
  if s.ld.pair.waiting && s.ld.mode == .follow && s.ld.pairRole == 2 then
    let s := s.onLd fun l => (l.put F.PAIR_STAT_ROLE 1).assertPlead
    let s := s.onFd fun f => f.each f.stages fun n f => f.modTerm n fun t => { t with catch_ := .none }
    let s := s.onFd fun f => { f with lead := true }
    s.release .run 2 true
  else s

/-- PLEAD_RELEASED (R335, R337): the partner no longer drives PLEAD. On a DETACHED device that is a cold takeover: every output takes its
safe-state action, with its OUTHOLD bit set. -/
def State.coldTakeover (s : State) : State :=
  let s := s.onLd (Logic.showPlead false)
  if s.ld.pairRole = 3 ∧ s.ld.mode = .follow ∧ !nbit s.ld.cores.lost 3 then
    let s := s.onLd fun l => ((((l.setMode .run).put F.PAIR_STAT_ROLE 1).assertPlead).evt R.pagePAIR 2).showOutcome 5 1 0
    (s.onFd fun f =>
      let f := { f with mode := .run, lead := true }
      let f := f.each f.stages fun n f => f.modTerm n fun t => { t with catch_ := .none }
      let f := f.each (allTerms.filter fun n => isOut (f.func n)) fun n f => f.setStay n true
      f.settleAll.flagHandover).hear
  else s

/-- LEAD_ROLE_LOST_RELEASE (R338): outputs released, SAFE with SAFE_CAUSE.FAULT. -/
def State.leadRoleLost (s : State) : State :=
  if s.ld.pairRole = 1 ∧ nbit s.ld.cores.lost 3 ∧ !s.ld.gb F.PAIR_STAT_PLEAD_OUT then
    let s := s.unready
    let s := s.onFd fun f => f.each (allTerms.filter fun n => isOut (f.func n)) fun n f => f.modSs n fun x => { x with release := true }
    let s := s.onFd Field.settleAll
    let s := s.onLd fun l => (l.put F.PAIR_STAT_ROLE 0).put (safeCause 2) 1
    if s.ld.mode = .run then s.hold .safe else s
  else s

/-- The later lead yields (R336): it releases PLEAD and its outputs, and enters FOLLOW. -/
def State.yieldLead (s : State) : State :=
  let s := s.unready
  let s := s.onLd fun l => ((l.releasePlead true).evt R.pagePAIR 3).modPair fun p => { p with step := 0, handover := none }
  (s.onLd (Logic.put F.PAIR_STAT_HANDOVER 0)).follow

/-- The codes of 1 mA on an AO_I output, 100 nA units (R202). -/
def oneMilliamp : Nat := 10000

/-- May a stage arm (R339): expected on, at a level that can be watched or with the lead's shunt closed, and no notice or UV in the way? -/
def Field.mayArm (n : Nat) (f : Field) : Bool :=
  let t := f.term n
  let watched := if isDo (f.func n) then t.expect.isSome
    else if f.func n = 5 then decide (oneMilliamp ≤ t.expect.getD 0)
    else (f.func n == 6 || f.func n == 4) && t.expect.isSome
  f.paired && f.mode == .follow && t.catch_ == .idle && watched && !t.blocked && !f.gb (F.FSUP_GRP_STAT_UV (n / 8))

/-- CATCH_ARM (R338, R339): not while a local SAFE cause keeps the catch disarmed. -/
def State.catchArm (n : Nat) (s : State) : State :=
  if s.fd.released && !s.ld.pair.lockCatch && s.fd.mayArm n then
    { s with fd := s.fd.modTerm n fun t => { t with catch_ := .armed } }
  else s

/-- An armed stage engages and drives the expected level (R339). During a handover that is a cause of abort (R342). -/
def Field.engage (n : Nat) (inj : Bool) (f : Field) : Field :=
  let f := (f.modTerm n fun t => { t with catch_ := .engaged }).settle n
  let f := (f.tell (.bump F.PAIR_CATCHCNT_ENGAGED)).evt R.pagePAIR 4 (inj := inj)
  f.when f.handover (Field.tell (.abort 2))

/-- CATCH_ENGAGE (R339): a switched output is masked during an announced off-pulse (R197). -/
def State.catchEngage (n : Nat) (inj : Bool) (s : State) : State :=
  let t := s.fd.term n
  if s.fd.released && decide (t.catch_ = .armed) && !(isDo (s.fd.func n) && t.dout.masked) then
    let s := { s with fd := s.fd.engage n inj }
    s.onLd fun l => l.when l.linkUp (Logic.modPair fun p => { p with caughtAt := tput (fun _ => 0) p.caughtAt n (l.time + 1) })
  else s

/-- A stage disarms (R339): it drives no longer. -/
def Field.disarm (n : Nat) (f : Field) : Field :=
  if f.mode = .follow ∧ (f.term n).catch_ ≠ .none then (f.modTerm n fun t => { t with catch_ := .idle }).settle n else f

/-- The terminals whose stage is engaged, as a mask. -/
def Field.caught (f : Field) : Nat := (allTerms.filter fun n => (f.term n).catch_ == .engaged).foldl (fun a n => a + 2 ^ n) 0

/-- CATCH_REVOKE_WINDOW_END (R340): the follower asks for a handover that names the caught terminals. -/
def State.revokeEnds (n : Nat) (s : State) : State :=
  if tget (fun _ => 0) s.ld.pair.caughtAt n = 0 then s
  else
    let s := s.onLd (Logic.modPair fun p => { p with caughtAt := tdel p.caughtAt n })
    if (s.fd.term n).catch_ = .engaged ∧ s.ld.pairRole = 2 then s.onLd (Logic.sendPartner (.handover (.request s.fd.caught))) else s

/-- NOTICE_APPLY (R332): a terminal's oldest announced change acts, T_N after its decision; where no other waits, the action in force. -/
def Field.noticeApply (n : Nat) (f : Field) : Field :=
  match f.noticed.find? fun x => x.n == n with
  | some x =>
    if f.time < x.due then f
    else
      let f := { f with noticed := f.noticed.erase x }
      if f.noticed.any fun y => y.n == n then f.driveAnnounced x else f.driveNow n
  | none => f

/-- The step of R327 in hand has not ended in its time: step 1 leaves LINK at 0, step 2 raises VALID_FAIL, and each sets a MILD fault. One
that has failed before the retry has raised its own. -/
def Logic.stepExpires (l : Logic) : Logic :=
  if !l.gb F.PAIR_STAT_LINK then l.fault 28 false
  else if l.pair.step = 0 then l
  else if l.pair.step = 1 then l.pairFails 12
  else l.fault 28 false

/-- PAIRING_RETRY (R327): pairing starts again where the device's crate names a pair and it is not paired. -/
def Logic.retryPairing (l : Logic) : Logic :=
  if l.gb F.DEVICE_MODE_PAIRED && !l.gb F.PAIR_STAT_READY && !nbit l.cores.lost 3 && (l.mode == .run || l.mode == .follow) then
    let l := if l.pairRole = 0 then l.put F.PAIR_STAT_ROLE (if l.mode = .run then 1 else 2) else l
    let l := l.stepExpires
    (l.modPair fun p => { p with step := b2n (l.gb F.PAIR_STAT_LINK) }).when (l.gb F.PAIR_STAT_LINK) Logic.sayHello
  else l

/-- The pair's mirrored state is transferred again (R331, R348): step 6 of R327 is repeated. -/
def State.resync (s : State) : State :=
  if s.ld.leadReady then
    (s.unready).onLd fun l => (l.modPair fun p => { p with step := 5 }).queueFrame (.state none)
  else s

/-- A write of PAIR.CMD (R341, R348). -/
def State.pairCmd (w : Word) (s : State) : Ruling × State :=
  match wbits w 0 2 with
  | 0 => s.did
  | 1 => if !s.ld.leadReady || s.ld.pair.handover.isSome then s.deny rBlock else (s.beginHandover 1 0).did
  | 2 =>
    if wbits w 16 16 ≠ 0x0B07 then (.wrongKey, s)
    else if s.ld.pairRole = 2 then s.deny rBlock
    else (s.onLd (Logic.queueFrame .resetReq)).did
  | _ => s.resync.did

/-- HANDOVER_TS (R340, R341): the follower's switches and shunts join the lead's and the ramp begins; the lead lets caught terminals go. -/
def State.handoverTs (s : State) : State :=
  match s.ld.pair.handover with
  | none => s
  | some h =>
    if h.begun || (s.ld.pairRole != 1 && s.ld.pairRole != 2) then s
    else
      let lead := s.ld.pairRole == 1
      (s.onLd (Logic.modPair fun p => { p with handover := some { h with begun := true } })).onFd fun f =>
        ({ f with joined := !lead, ramp := some 0, bothShunts := true, dropped := if lead then h.caught else 0 }).settleAll

/-- HANDOVER_RAMP_STEP (R341): both devices' shares move by 1/256. -/
def State.rampStep (s : State) : State :=
  match s.ld.pair.handover with
  | none => s
  | some h =>
    if h.begun && decide (h.steps < 256) then
      (s.onLd (Logic.modPair fun p => { p with handover := some { h with steps := h.steps + 1 } })).onFd fun f =>
        { f with ramp := some (h.steps + 1) }
    else s

/-- The level a terminal's driver has, or would have had the handover not let it go. -/
def Field.handLevel (n : Nat) (f : Field) : Option Nat :=
  if nbit f.dropped n then
    let g := { f with dropped := 0 }
    (g.delivered n (g.act n)).level
  else if f.func n = 4 then f.expected n
  else (f.term n).level

/-- The old lead's side of T_R: FOLLOW, its stages in catch, its levels expected; its switches and shunts conduct for 20 µs more (R341). -/
def Field.handOver (f : Field) : Field :=
  let g := f.each f.stages fun n g => g.modTerm n fun t => { t with expect := f.handLevel n, catch_ := .idle }
  { g with mode := .follow, lead := false, joined := true, ramp := none, partAt := some (f.time + ticks20us) }.settleAll

/-- The new lead's side of T_R: it drives alone, and the old lead's shunts conduct for 20 µs more (R341, R344). -/
def Field.takeHold (f : Field) : Field :=
  { (f.each f.stages fun n f => f.modTerm n fun t => { t with catch_ := .none }).leadNow with
    bothShunts := true, partAt := some (f.time + ticks20us) }

/-- A handover ends (R341, R342): HANDOVER clears, off-pulse tests stay suppressed for 10 ms, windows are flagged. -/
def State.handoverOver (cause result abort : Nat) (s : State) : State :=
  (s.onLd fun l => ((l.put F.PAIR_STAT_HANDOVER 0).showOutcome cause result abort).modPair fun p => { p with handover := none }).onFd fun f =>
    ({ f with handover := false, quiet := f.time + ticks10ms }).flagHandover

/-- HANDOVER_TR (R341): the roles are exchanged, and both MODE codes change. The old lead releases PLEAD 10 µs later; READY stays 0 for
100 µs. -/
def State.handoverTr (s : State) : State :=
  match s.ld.pair.handover with
  | none => s
  | some h =>
    if !h.begun || h.steps != 256 then s
    else
      let wasLead := s.ld.pairRole == 1
      let s := s.handoverOver h.cause 1 0
      let s := s.onLd fun l =>
        let l := { l with host := { l.host with ready := some (l.time + ticks100us) } }
        l.evt R.pagePAIR 7
      if wasLead then
        ((s.onLd fun l => ((l.setMode .follow).put F.PAIR_STAT_ROLE 2).modPair fun p =>
          { p with pleadOff := some (l.time + ticks10us) }).onFd Field.handOver).hear
      else
        ((s.onLd fun l => ((l.setMode .run).put F.PAIR_STAT_ROLE 1).when (!l.gb F.PAIR_STAT_PLEAD_OUT) Logic.assertPlead).onFd
          Field.takeHold).hear

/-- CONFIRMATION_SILENCE (R342). -/
def Logic.confirmSilence (l : Logic) : Logic := l.abortCause 1

/-- HANDOVER_ABORT (R342): the follower's AO share ends at once, its switches and shunts open 20 µs later, and the lead drives alone. -/
def State.handoverAbort (s : State) : State :=
  match s.ld.pair.handover with
  | none => s
  | some h =>
    match h.abort with
    | none => s
    | some c =>
      let s := (s.handoverOver h.cause 2 c).onLd fun l =>
        (l.evt R.pagePAIR 8).when (l.pairRole == 2 && l.gb F.PAIR_STAT_PLEAD_OUT) (Logic.releasePlead true)
      s.onFd fun f =>
        let was := (allTerms.filter fun n => nbit f.dropped n)
        let f := { f with ramp := none, dropped := 0, partAt := if f.bothShunts then some (f.time + ticks20us) else none }
        (f.each was Field.driveNow).settleAll

/-- A local cause of SAFE that arose during a handover starts another once that has been aborted (R338). -/
def State.handAgain (s : State) : State :=
  if s.ld.pair.handAgain && s.ld.pair.handover.isNone then
    let s := s.onLd (Logic.modPair fun p => { p with handAgain := false })
    if s.ld.leadReady then s.beginHandover 4 0 else s
  else s

/-- A HANDOVER request of the follower (R340): the lead runs a handover with the named terminals caught. -/
def State.handoverAsked (caught : Nat) (s : State) : State :=
  if s.ld.leadReady then
    if s.ld.pair.handover.isSome then s.onLd (Logic.showOutcome 2 3 0) else s.beginHandover 2 caught
  else s

/-- INJECT of the PAIR page (R348). -/
def State.pairInject (w : Word) (s : State) : State :=
  let s := if wbit w 0 then s.onLd fun l => l.modPair fun p => { p with quiet := some (l.time + msTicks) } else s
  let s := if wbit w 1 then s.onLd (Logic.modPair fun p => { p with badTag := true }) else s
  let s := if wbit w 4 then
      match allTerms.find? fun n => (s.fd.term n).catch_ == .armed with
      | some n => s.catchEngage n true
      | none => s
    else s
  if wbit w 6 then s.onLd (Logic.modPair fun p => { p with disagree := true }) else s

/-- PARTNER_LOST (R334). -/
def execPartnerLost (held : Bool) (s : State) : Host.Outcome State Fault Refusal := runBoth (State.partnerLost held) s

/-- PLEAD_REFRESH_TIMEOUT (R335). -/
def execPleadRefreshTimeout (s : State) : Host.Outcome State Fault Refusal := runLogic Logic.pleadTimeout s

/-- PLEAD_WAIT_EXPIRY (R336). -/
def execPleadWaitExpiry (s : State) : Host.Outcome State Fault Refusal := runBoth State.pleadWaitEnds s

/-- PLEAD_RELEASED (R337). -/
def execPleadReleased (s : State) : Host.Outcome State Fault Refusal := runBoth State.coldTakeover s

/-- LEAD_ROLE_LOST_RELEASE (R338). -/
def execLeadRoleLostRelease (s : State) : Host.Outcome State Fault Refusal := runBoth State.leadRoleLost s

/-- CATCH_ARM (R339). -/
def execCatchArm (n : Terminal) (s : State) : Host.Outcome State Fault Refusal := runBoth (State.catchArm n) s

/-- CATCH_ENGAGE (R339). -/
def execCatchEngage (n : Terminal) (s : State) : Host.Outcome State Fault Refusal := runBoth (State.catchEngage n false) s

/-- CATCH_REVOKE_WINDOW_END (R340). -/
def execCatchRevokeWindowEnd (n : Terminal) (s : State) : Host.Outcome State Fault Refusal := runBoth (State.revokeEnds n) s

/-- NOTICE_APPLY (R332). -/
def execNoticeApply (n : Terminal) (s : State) : Host.Outcome State Fault Refusal := runField (Field.noticeApply n) s

/-- PAIRING_RETRY (R327). -/
def execPairingRetry (s : State) : Host.Outcome State Fault Refusal := runLogic Logic.retryPairing s

/-- HANDOVER_TS (R341). -/
def execHandoverTs (s : State) : Host.Outcome State Fault Refusal := runBoth State.handoverTs s

/-- HANDOVER_RAMP_STEP (R341). -/
def execHandoverRampStep (s : State) : Host.Outcome State Fault Refusal := runBoth State.rampStep s

/-- HANDOVER_TR (R341). -/
def execHandoverTr (s : State) : Host.Outcome State Fault Refusal := runBoth State.handoverTr s

/-- CONFIRMATION_SILENCE (R342). -/
def execConfirmationSilence (s : State) : Host.Outcome State Fault Refusal := runLogic Logic.confirmSilence s

/-- HANDOVER_ABORT (R342). -/
def execHandoverAbort (s : State) : Host.Outcome State Fault Refusal := runBoth (fun s => s.handoverAbort.handAgain) s

end Sys2Proof.Machine
end

