-- ==== Sys2Proof/Machine/HostWrite.lean ====
section
/-! DEFINITION. What a word written by a host frame does (R4, R5, R49-R54, R58, R59, R246): who may write it, what refuses it, and
the registers whose write acts. -/

namespace Sys2Proof.Machine

open Sys2Proof

/-- The least role a word asks for beyond its page's own rule (R28, R53, R283, R294, R348, R388, R395). -/
def Logic.needRole (a : Nat) (w : Word) (l : Logic) : Nat :=
  match pageKind (a / 256), a % 256 with
  | .device, 0x11 => if wbits w 0 3 = 1 then 3 else 2
  | .pair, 0x19 => match wbits w 0 2 with
    | 0 => 1 | 2 => 3 | _ => 2
  | .loft, 0x15 => if wbit w 1 then (if wbit w 2 then 3 else 2) else 1
  | .cellar, 0x06 => if l.gb approvedBit then 3 else 2
  | .cellar, 0x1A => 3
  | .larder, 0x12 => match wbits w 4 4 with
    | 1 => 2 | 2 => 3 | _ => 1
  | _, _ => 1

/-- May a session write a SESSION register (R283)? -/
def Session.mayWrite (a : Nat) (w : Word) (l : Logic) (x : Session) : Bool :=
  roleReaches x.role x.scope (a / 256) && decide (l.needRole a w ≤ x.role)

/-- The word a write of a register leaves in it: reserved bits keep reading 0 (R3). -/
def Logic.merged (a : Nat) (w : Word) (l : Logic) : Word :=
  let m := word (writeMask a)
  (l.regs.word a &&& ~~~m) ||| (w &&& m)

/-- CLASS.LOCKED stands on a page; a page of SEQTAB has none, and is locked while its records come (R59). -/
def Logic.locked (p : Nat) (l : Logic) : Bool :=
  if pageKind p = .seqtab then l.bar.pages.head? == some p else l.gb (lockedBit p)

/-- The reason of a refused reserved value: ENCODING (R5, R54), but BLOCK for a SESSION register of a CTX page, whose rule gives every
failed check of R147 that reason, ENCODING among them (R148; log 139). -/
def reservedReason (a : Nat) (r : RegRow) : Nat :=
  match pageKind (a / 256) with
  | .ctx _ => if 0x10 ≤ a % 256 ∧ r.cls = .session then rBlock else rEncoding
  | _ => rEncoding

/-- What refuses a write before the rules of its page (R4, R5, R54, R59): class, role, lock, encoding. -/
def Logic.barred (ses : Option Session) (a : Nat) (w : Word) (r : RegRow) (l : Logic) : Option Nat :=
  let role := match r.cls, ses with
    | .sealed, _ => some rClass
    | .session, none => some rClass
    | .session, some x => if x.mayWrite a w l then none else some rRole
    | .open_, _ => none
  match role with
  | some k => some k
  | none =>
    if l.locked (a / 256) then some rLocked
    else if !wordOk (l.gb F.DEVICE_MODE_PAIRED) a (if r.acc = .rw then l.merged a w else w) then some (reservedReason a r)
    else none

/-- The field die's blocks under the configuration the host sees. -/
def State.hostField (s : State) : Field := { s.fd with cfg := s.ld.regs }

/-- What R84 refuses: more than 4 kHz for a source that a Lean programme demodulates. -/
def Field.tooFast (k : Nat) (w : Word) (f : Field) : Bool :=
  decide (8388608 < w.toNat) && allCtxs.any fun c => f.c (F.CTX_DEMOD_SRC c) == k + 1 && (f.runners c).any fun p => f.cb (F.SEQ_PROG_LEAN p)

/-- Does an enable of a slice name a user set that is not READY (R129)? -/
def Field.setsReady (s : Nat) (f : Field) : Bool :=
  let r := f.slice s
  !r.progValid || (List.range 8).all fun u => f.gb (F.FILT_INFO_READY u) || !(f.filtProgs u).contains r.prog

/-- May a programme run a context urgently (R116, R146)? -/
def Field.urgentOk (p c : Nat) (f : Field) : Bool := nbit (f.c (F.CTX_URG_PROGS c)) p

/-- What a terminal's own rules refuse (R186, R196, R202). -/
def Field.termRefuses (n off : Nat) (w : Word) (f : Field) : Option Nat :=
  let fn := f.c (F.TERM_CELL_FUNC n)
  if 0x30 ≤ off ∧ off < 0x40 then
    if !isDo fn then some rBlock
    else if off = 0x33 ∧ f.cb (F.TERM_DO_CFG_TIE_EN n) ∧ f.c (F.TERM_DO_CFG_TIE n) < n then some rBlock
    else none
  else if 0x40 ≤ off ∧ off < 0x50 then
    if !isAo fn then some rBlock
    else if off = 0x43 ∧ aoTop fn < wbits w 0 18 then some rEncoding
    else none
  else none

/-- What a page's chapter refuses in the block's present state, with the refused write's own marks (R84, R93, R116, R118, R128, R129,
R148, R240, R328). -/
def State.blocked (a : Nat) (w : Word) (s : State) : Option Nat × State :=
  let f := s.hostField
  let off := a % 256
  let why := fun (c : Bool) => if c then some rBlock else none
  match pageKind (a / 256) with
  | .device => (why (off == 0x22 && s.ld.pairRole == 2), s)
  | .term n => (f.termRefuses n off w, s)
  | .exc =>
    if off = 0x39 then (why (!f.cb F.XPT_CFG_TDAC_USER), s)
    else if 0x10 ≤ off ∧ off < 0x30 ∧ off % 8 = 2 then (why (f.tooFast ((off - 0x10) / 8) w), s)
    else (none, s)
  | .slice k =>
    if off = 0x43 then
      if f.urgentOk (wbits w 0 4) (wbits w 8 7) then (none, s)
      else (some rBlock, s.onFd fun f =>
        (({ f with urgOver := true }.put F.SLICE_URGSTAT_RESULT 3).put F.SLICE_URGSTAT_PROG (wbits w 0 4)).put F.SLICE_URGSTAT_CTX (wbits w 8 7))
    else (why (off == 1 && wbit w 0 && !f.setsReady k), s)
  | .filt u =>
    if off < 0x10 ∨ !f.filtInUse u then (none, s)
    else (some rBlock, s.onLd fun l => (l.bump (F.FILT_REFUSE_COUNT u)).evt (R.pageFILT u) 0)
  | .ctx _ => (why (0x10 ≤ off && off != 0x60 && f.ctxWriteFails a (s.ld.merged a w)), s)
  | .cal =>
    if off = 0x1A ∧ f.calRefused (wbits w 0 5) (wbit w 8) then (some rBlock, s.onFd (Field.put F.CAL_STAT_RESULT 5)) else (none, s)
  | _ => (none, s)

/-- Does ACTIVE read and verify (R28)? -/
def Logic.activeOk (l : Logic) : Bool := l.mram.owner.isSome && l.mram.slotValid l.mram.active && l.gb F.DEVICE_MODE_FIELD_CFG

/-- Into RUN by request (R30): HOST_CMD clears; a cause of SAFE that stands leads on to SAFE (R28, R31). -/
def State.runAsked (exit : Nat) (s : State) : State :=
  let s := (s.onLd (Logic.put (safeCause 0) 0)).release .run exit false
  if s.ld.causesClear then s else s.hold .safe

/-- A MODE_REQ (R28-R31): refused under R29 with MODE_REFUSED, while a CLOSE runs (R309) and while the SYS role is lost (R15) as well. -/
def State.modeReq (role : Nat) (w : Word) (s : State) : State :=
  let l := s.ld
  let free := l.crateFree && !nbit l.cores.lost 0
  let yes := s.onLd (Logic.put F.DEVICE_MODE_REQ_RESULT 1)
  let no := s.onLd fun l => (l.put F.DEVICE_MODE_REQ_RESULT 2).evt R.pageDEVICE 1
  if !free then no
  else match l.mode, wbits w 0 3 with
  | .run, 4 => yes.safe 0
  | .safe, 2 => if l.causesClear then yes.runAsked 0 else no
  | .run, 1 => yes.hold .commission
  | .safe, 1 => yes.hold .commission
  | .commission, 2 =>
    let judge := State.onLd fun l => l.when (decide (3 ≤ role)) (Logic.judgeSlot l.mram.active)
    if decide (3 ≤ role) && l.activeOk then (judge yes).runAsked 3 else judge no
  | _, _ => no

/-- A write of DEVICE.RESET (R40, R41, R47). -/
def State.resetReq (w : Word) (s : State) : Ruling × State :=
  if wbits w 16 16 ≠ 0x0B07 then (.wrongKey, s)
  else match wbits w 0 2 with
    | 0 => s.did
    | 1 => (s.resetLogic 7).did
    | 2 => s.resetField.did
    | _ => ((s.resetBoth 7).onLd (Logic.cause 9)).did

/-- INJECT of a page (R53). -/
def State.injectPage (page : Nat) (w : Word) (s : State) : State :=
  match pageKind page with
  | .clock => s.clockInject w
  | .host => s.onLd fun l => { l with host := { l.host with
      short := l.host.short || wbit w 1, late := l.host.late || wbit w 4, badTag := l.host.badTag || wbit w 5 } }
  | .pair => s.pairInject w
  | .wdog => s.onLd (Logic.wdogInject w)
  | .loft => s.onLd fun l => { l with loft := { l.loft with failNext := l.loft.failNext || wbit w 4 } }
  | .cellar => s.cellarInject w
  | .larder => s.onLd (Logic.larderInject w)
  | .barrier => s.barrierInject w
  | .device | .fault | .seqtab | .reserved => s
  | _ => s.toField (R.INJECT page) w

/-- CTRL of a page (R44, R45). A field block's word waits while the link is down; a block reset clears EVT_RAW at once, unless a shutdown
absorbs it. -/
def State.ctrlWritten (page : Nat) (w : Word) (s : State) : State :=
  if !onField (page * 256) then s.onLd (Logic.takeCtrl page w)
  else
    let s := s.onLd (Logic.putb (F.CTRL_EN page) (wbit w 0))
    if !s.fd.released then s
    else if s.ld.linkUp && s.ld.bar.cmds == [] then { s with fd := s.fd.takeCtrl page w }
    else
      let st := word ((s.headWord page 2).getD 0)
      let s := s.onLd fun l => l.when (wbit w 1 && !wbit st 0 && !wbit st 1) (Logic.putWord (R.EVT_RAW page) 0#32)
      s.onLd (Logic.modBar fun b => { b with cmds := b.cmds ++ [(R.CTRL page, w)] })

/-- EVT_RAW causes clear but those that occur at the same tick (R52). -/
def Logic.evtCleared (page : Nat) (w again : Word) (l : Logic) : Logic :=
  l.putRaw page (l.regs.word (R.EVT_RAW page) &&& ~~~(w &&& ~~~again))

/-- CLASS.CLR (R51). -/
def Logic.classCleared (page : Nat) (w : Word) (l : Logic) : Logic :=
  if wbit w 31 then l.put ⟨R.CLASS page, 0, 19⟩ 0 else l

/-- Clear bits of a W1C register. -/
def Logic.wipe (a : Nat) (w : Word) (l : Logic) : Logic :=
  let m := match regRow a with
    | some r => word r.mask
    | none => 0#32
  l.putWord a (l.regs.word a &&& ~~~(w &&& m))

/-- HOST.CLR (R265). -/
def Logic.hostCleared (w : Word) (l : Logic) : Logic :=
  if wbit w 0 then ((l.putWord R.HOST_ANOMALY 0#32).putWord R.HOST_FERRCOUNT 0#32).putWord R.HOST_ERR 0#32 else l

/-- An RW word with no behaviour of its own. RD_IDX, which moves the window group of the LOFT page, leaves LOFT.GEN (the model's choice,
log 153). -/
def State.storeWord (a : Nat) (w : Word) (s : State) : State :=
  if onField a then s.toField a w else s.onLd fun l => l.putWord a (l.merged a w)

/-- A change of protocol (R267): replies not yet delivered are discarded. -/
def Logic.dropReply (l : Logic) : Logic :=
  { l with host := { l.host with legacyNext := 0 }, sess := { l.sess with reply := none } }

/-- The head of a page (R51). -/
def State.actHead (page off : Nat) (w again : Word) (s : State) : State :=
  match off with
  | 1 => s.ctrlWritten page w
  | 3 => s.onLd (Logic.evtCleared page w again)
  | 4 => s.onLd fun l => l.putWord (R.EVT_EN page) w
  | 6 => s.injectPage page w
  | 7 => s.onLd (Logic.classCleared page w)
  | _ => s

/-- An accepted word acts: its page's own rules, else it is stored. `role`: of the session that vouches for it. -/
def State.actWord (role a : Nat) (w again : Word) (s : State) : Ruling × State :=
  let page := a / 256
  let off := a % 256
  if off < 0x10 ∧ pageKind page ≠ .seqtab then (s.actHead page off w again).did
  else match pageKind page, off with
    | .device, 0x11 => (s.modeReq role w).did
    | .device, 0x12 => (s.onLd (Logic.wipe a w)).did
    | .device, 0x13 => s.resetReq w
    | .device, 0x23 => (s.onLd (Logic.wipe a w)).did
    | .device, 0x40 => s.crateCtl w
    | .clock, 0x11 => s.clockRestore w
    | .clock, 0x15 => ((s.onLd fun l => l.putWord a (w &&& 0x001F0F0F#32)).onLd (Logic.fmeasGo w)).did
    | .host, 0x12 =>
      let was := s.ld.gb F.HOST_LEGACY_EN
      let s := s.storeWord a w
      (if s.ld.gb F.HOST_LEGACY_EN = was then s else s.onLd Logic.dropReply).did
    | .host, 0x18 => (s.onLd (Logic.hostCleared w)).did
    | .pair, 0x19 => s.pairCmd w
    | .wdog, 0x11 => (s.onLd (Logic.wdogTasks w)).did
    | .fault, 0x16 => (s.onLd (Logic.faultAck w)).did
    | .fault, 0x17 => (s.onLd (Logic.faultClear w)).did
    | .fault, 0x19 => (s.onLd (Logic.errRelease w)).did
    | .loft, 0x15 =>
      let (r, l) := s.ld.loftCmd w
      (r, { s with ld := l })
    | .cellar, 0x19 => (s.onLd (Logic.selftestGo w)).did
    | .cellar, 0x1A => s.zeroise w
    | .larder, 0x11 => (s.vetoWritten w).did
    | .larder, 0x12 => s.larderReq w
    | .ctx c, 0x60 => (if wbit w 0 then s.onLd (Logic.emptyLife c) else s).did
    | _, _ => (s.storeWord a w).did

/-- A word is judged and committed or refused (R4, R50, R54, R58, R246). `again`: causes that occur at the same tick; `hit`: an internal
update of a field hardware owns falls on that tick, as those of `Logic.owned` do. -/
def State.judgeWord (ses : Option Session) (a : Nat) (w again : Word) (hit : Bool) (s : State) : Ruling × State :=
  match regRow a with
  | none => s.did
  | some r =>
    if r.acc = .ro then s.did
    else match s.ld.barred ses a w r with
      | some k => s.deny k
      | none =>
        match (if hwOwned a && (hit || s.ld.owned.contains (a, s.ld.time)) then (some rBlock, s) else s.blocked a w) with
        | (some k, s) => s.deny k
        | (none, s) => s.actWord (match ses with | some x => x.role | none => 0) a w again

/-- A word and why the frame ends in error by it: a reserved page (R50), a refusal (R54), a wrong key (R47, R348). -/
def State.commitWord (ses : Option Session) (a : Nat) (w : Word) (s : State) (again : Word := 0#32) (hit : Bool := false) :
    List (Nat × Nat) × State :=
  if pageKind (a / 256) = .reserved then ([(2, a)], s)
  else match s.judgeWord ses a w again hit with
    | (.done, s) => ([], s)
    | (.wrongKey, s) => ([(9, a)], s)
    | (.refused r, s) => ([(1, a)], s.onLd (Logic.countRefusal a r))

/-- The words of a frame commit in address order (R49); a word that resets the logic die ends the frame. -/
def State.commitWords (ses : Option Session) : Nat → List Word → State → List (Nat × Nat) × State
  | _, [], s => ([], s)
  | a, w :: ws, s =>
    if s.ld.boot.logic = 0 then ([], s)
    else
      let (c, s) := s.commitWord ses (a % 65536) w
      let (cs, s) := State.commitWords ses (a + 1) ws s
      (c ++ cs, s)

/-- The word that a one-word frame carries, plain or under a session whose tag verifies: judged by its counter (R303, R304) and accepted. On
the lead of a READY pair it is mirrored first, and stays pending until the lead commits (R331). -/
def State.oneWord (ctr : Option Word) (a : Nat) (w : Word) (act : Option Session → State → List (Nat × Nat) × State) (s : State) : State :=
  match ctr with
  | none => s.frame opWrite a false (act none)
  | some c => s.frame opWriteAuth a false fun s =>
    let (x, l) := s.ld.judgedBy c.toNat fun _ => false
    let s := { s with ld := l }
    match x with
    | none => ([(12, a)], s)
    | some x =>
      if !x.accepts c.toNat then ([(8, a)], s.authFailure)
      else if s.ld.host.badTag then
        ([(8, a)], (s.onLd fun l => { l with host := { l.host with badTag := false, provoked := true } }).authFailure true)
      else
        let s := s.onLd (Logic.acceptCtr x c.toNat)
        if s.ld.leadReady then
          let f : AuthFrame := { addr := a, words := [w], ctr := c.toNat, keys := x.id, ok := true, mirrored := some s.ld.time }
          ([], s.onLd fun l => ({ l with host := { l.host with auth := some f } }).sendPartner (.mirror (.words (Fin.ofNat 65536 a) [w] c)))
        else act (some x) s

/-- A frame of one word. -/
def State.wordFrame (ctr : Option Word) (a : Nat) (w : Word) (s : State) (again : Word := 0#32) (hit : Bool := false) : State :=
  s.oneWord ctr a w fun ses s => s.commitWord ses a w again hit

end Sys2Proof.Machine
end

