-- ==== Sys2Proof/Machine/HostFrames.lean ====
section
/-! DEFINITION. The host's frames that write (R246, R247, R257), and the writes the table gives rows of their own: each is a frame of one
word, plain (`ctr` none) or a WRITE_AUTH with that counter whose tag verifies. -/

namespace Sys2Proof.Machine

open Sys2Proof

/-- A code in the low bits and a key in [31:16]. -/
def keyed (code key : Nat) : Word := word (code + 65536 * key)

/-- WRITE (R246). -/
def State.writeFrame (a : Nat) (ws : List Word) (s : State) : State := s.frame opWrite a false (State.commitWords none a ws)

/-- The words that the ciphertext of a WRITE_AUTH gives under a session's K_W, and the tag that verifies (R302). -/
def Session.openWrite (ctr a : Nat) (ws : List Word) (x : Session) : List Word × Nat :=
  Sys2Proof.Config.gcmOpen x.kw [word x.sid, 1#32, word ctr] (frameAad opWriteAuth a ctr ws.length) ws

/-- Does a WRITE_AUTH's tag verify under a session's keys? -/
def Session.verifies (ctr a : Nat) (ws : List Word) (tag : Nat) (x : Session) : Bool := (x.openWrite ctr a ws).2 == tag

/-- A WRITE_AUTH is received (R247, R302-R304): its verification begins. -/
def State.authFrame (ctr a : Nat) (ws : List Word) (tag : Nat) (s : State) : List (Nat × Nat) × State :=
  if ws = [] ∨ 256 < ws.length then ([(14, a)], s)
  else
    let (x, l) := s.ld.judgedBy ctr (Session.verifies ctr a ws tag)
    let bad := l.host.badTag
    let s := { s with ld := l }
    match x with
    | none => ([(12, a)], s)
    | some x =>
      if !x.accepts ctr then ([(8, a)], s.authFailure)
      else ([], s.onLd fun l => { l with host := { l.host with
        badTag := false
        auth := some { addr := a, words := (x.openWrite ctr a ws).1, ctr := ctr, keys := x.id, ok := !bad && x.verifies ctr a ws tag
                       spoiled := bad && x.verifies ctr a ws tag } } })

/-- The session of some keys that still stands. -/
def Logic.sessionOf (keys : Nat) (l : Logic) : Option Session :=
  match l.sess.cur, l.sess.old with
  | some x, y => if x.id = keys then some x else y.bind fun y => if y.id = keys then some y else none
  | none, _ => none

/-- A WRITE_AUTH is no longer pending; it ends in error. -/
def State.authEnds (f : AuthFrame) (reason : Nat) (s : State) : State :=
  s.onLd fun l => ({ l with host := { l.host with auth := none, provoked := f.spoiled && reason == 8 } }).frameError opWriteAuth [(reason, f.addr)]

/-- The words of a verified WRITE_AUTH commit (R247). -/
def State.commitAuth (f : AuthFrame) (x : Session) (s : State) : State :=
  let s := s.onLd fun l => { l with host := { l.host with auth := none } }
  let (cs, s) := s.commitWords (some x) f.addr f.words
  if s.ld.boot.logic = 0 then s else s.onLd (Logic.frameError opWriteAuth cs)

/-- AUTH_VERIFY_DONE (R247, R290, R331): all words commit, or none; the lead of a READY pair mirrors them first. A session that ended
meanwhile leaves NO_SESSION. -/
def State.authDone (s : State) : State :=
  match s.ld.host.auth with
  | none => s
  | some f =>
    if f.mirrored.isSome then s
    else match s.ld.sessionOf f.keys with
      | none => s.authEnds f 12
      | some x =>
        if !f.ok then (s.authEnds f 8).authFailure f.spoiled
        else
          let s := s.onLd (Logic.acceptCtr x f.ctr)
          if s.ld.leadReady then
            s.onLd fun l => ({ l with host := { l.host with auth := some { f with mirrored := some l.time } } }).queueFrame
              (.mirror (.words (Fin.ofNat 65536 f.addr) f.words (word f.ctr)))
          else s.commitAuth f x

/-- Words that a read released too early has fetched count as read, and those refused or on reserved pages as such (R251, R257, R261): of
READ_AUTH the session may read those of its scope. SNAP_READ latches the whole group with its first word. -/
def State.fetchShort (c a n : Nat) (s : State) : List (Nat × Nat) × State :=
  if c = opSnapRead then
    (match pageKind (a / 256), decide (a % 256 = 0x40), decide (0 < n) with
      | .ctx k, true, true => ([], s.onLd (Logic.put (F.CTX_SNAPSTAT_UNREAD k) 0))
      | .ctx _, true, false => ([], s)
      | _, _, _ => ([(10, a)], s))
  else if c = opRead then (reservedIn a n, (s.fetchMany a n).2)
  else if c = opReadAuth then
    match s.ld.sess.cur with
    | some x => s.fetchAs x a n
    | none => ([], s)
  else ([], s)

/-- A frame released too early (R257): the words of WRITE and CRATE_PUSH complete by then stand; of a read `ws` are the words fetched.
Without a complete command byte it is no frame of FRAMES, and no rule names its opcode and address in HOST.ERR. -/
def State.shortFrame (code : Option Nat) (a : Nat) (ws : List Word) (s : State) : State :=
  if !s.ld.portUp then s
  else match code with
    | none => s.onLd fun l =>
        ({ l.selected with draws := l.draws + 2 }).frameError (Sys2Proof.Config.free l.draws % 256) [(4, Sys2Proof.Config.free (l.draws + 1) % 65536)]
    | some c =>
      let s := s.onLd fun l => ({ l with host := { l.host with short := false } }).openFrame
      let end_ := (a + ws.length) % 65536
      if !listedOps.contains c then s.onLd (Logic.frameError c [(3, 0)])
      else
        let (cs, s) := match s.ld.stops c (decide (a + ws.length ≤ 256)) with
          | [] => if c = opWrite then s.commitWords none a ws else if c = opCratePush then s.pushWords a ws else s.fetchShort c a ws.length
          | rs => (rs.map fun r => (r, a), s)
        if s.ld.boot.logic = 0 then s else s.onLd (Logic.frameError c (cs ++ [(4, end_)]))

/-- WRITE (R246). -/
def execWrite (a : Addr) (ws : List Word) (s : State) : Host.Outcome State Fault Refusal := runBoth (State.writeFrame a ws) s

/-- WRITE_AUTH (R247). -/
def execWriteAuth (ctr : Word) (a : Addr) (ws : List Word) (tag : Nat) (extra : Bool) (s : State) : Host.Outcome State Fault Refusal :=
  runBoth (State.frame opWriteAuth a extra (State.authFrame ctr.toNat a ws tag)) s

/-- AUTH_VERIFY_DONE (R247). -/
def execAuthVerifyDone (s : State) : Host.Outcome State Fault Refusal := runBoth State.authDone s

/-- FRAME_SHORT (R257). -/
def execFrameShort (code : Option (Fin 256)) (a : Addr) (ws : List Word) (s : State) : Host.Outcome State Fault Refusal :=
  runBoth (State.shortFrame (code.map Fin.val) a ws) s

/-- MODE_REQ_COMMISSION (R28). -/
def execModeReqCommission (ctr : Option Word) (s : State) : Host.Outcome State Fault Refusal :=
  runBoth (State.wordFrame ctr R.DEVICE_MODE_REQ 1#32) s

/-- MODE_REQ_RUN (R28). -/
def execModeReqRun (ctr : Option Word) (s : State) : Host.Outcome State Fault Refusal :=
  runBoth (State.wordFrame ctr R.DEVICE_MODE_REQ 2#32) s

/-- MODE_REQ_SAFE (R28). -/
def execModeReqSafe (ctr : Option Word) (s : State) : Host.Outcome State Fault Refusal :=
  runBoth (State.wordFrame ctr R.DEVICE_MODE_REQ 4#32) s

/-- MODE_REQ_OTHER_TARGET (R29). -/
def execModeReqOtherTarget (ctr : Option Word) (t : Fin 8) (s : State) : Host.Outcome State Fault Refusal :=
  runBoth (State.wordFrame ctr R.DEVICE_MODE_REQ (word t)) s

/-- DEVICE_RESET_LOGIC (R40). -/
def execDeviceResetLogic (ctr : Option Word) (key : Fin 65536) (s : State) : Host.Outcome State Fault Refusal :=
  runBoth (State.wordFrame ctr R.DEVICE_RESET (keyed 1 key)) s

/-- DEVICE_RESET_FIELD (R40). -/
def execDeviceResetField (ctr : Option Word) (key : Fin 65536) (s : State) : Host.Outcome State Fault Refusal :=
  runBoth (State.wordFrame ctr R.DEVICE_RESET (keyed 2 key)) s

/-- DEVICE_RESET_BOTH (R40). -/
def execDeviceResetBoth (ctr : Option Word) (key : Fin 65536) (s : State) : Host.Outcome State Fault Refusal :=
  runBoth (State.wordFrame ctr R.DEVICE_RESET (keyed 3 key)) s

/-- BRESET (R44). -/
def execBreset (ctr : Option Word) (page : Page) (en : Bool) (s : State) : Host.Outcome State Fault Refusal :=
  runBoth (State.wordFrame ctr (R.CTRL page) (word (2 + b2n en))) s

/-- BLOCK_ENABLE (R45). -/
def execBlockEnable (ctr : Option Word) (page : Page) (s : State) : Host.Outcome State Fault Refusal :=
  runBoth (State.wordFrame ctr (R.CTRL page) 1#32) s

/-- BLOCK_DISABLE (R45). -/
def execBlockDisable (ctr : Option Word) (page : Page) (s : State) : Host.Outcome State Fault Refusal :=
  runBoth (State.wordFrame ctr (R.CTRL page) 0#32) s

/-- REGISTER_WRITE (R4). -/
def execRegisterWrite (ctr : Option Word) (a : Addr) (w : Word) (hit : Bool) (s : State) : Host.Outcome State Fault Refusal :=
  runBoth (fun s => s.wordFrame ctr a w (hit := hit)) s

/-- EVT_RAW_CLEAR (R52). -/
def execEvtRawClear (ctr : Option Word) (page : Page) (w again : Word) (s : State) : Host.Outcome State Fault Refusal :=
  runBoth (fun s => s.wordFrame ctr (R.EVT_RAW page) w (again := again)) s

/-- INJECT (R53). -/
def execInjectFinding (ctr : Option Word) (page : Page) (w : Word) (s : State) : Host.Outcome State Fault Refusal :=
  runBoth (State.wordFrame ctr (R.INJECT page) w) s

/-- CLASS_CLR (R51). -/
def execClassClr (ctr : Option Word) (page : Page) (s : State) : Host.Outcome State Fault Refusal :=
  runBoth (State.wordFrame ctr (R.CLASS page) 0x80000000#32) s

/-- SINE_PARAM_WRITE (R80). -/
def execSineParamWrite (ctr : Option Word) (k : Fin 4) (ampl : Bool) (w : Word) (s : State) : Host.Outcome State Fault Refusal :=
  runBoth (State.wordFrame ctr (if ampl then R.EXC_SINE_AMPL k else R.EXC_SINE_FREQ k) w) s

/-- SINE_ENABLE (R80). -/
def execSineEnable (ctr : Option Word) (k : Fin 4) (s : State) : Host.Outcome State Fault Refusal :=
  runBoth (State.wordFrame ctr (R.EXC_SINE_CTL k) 1#32) s

/-- SINE_DISABLE (R80). -/
def execSineDisable (ctr : Option Word) (k : Fin 4) (s : State) : Host.Outcome State Fault Refusal :=
  runBoth (State.wordFrame ctr (R.EXC_SINE_CTL k) 0#32) s

/-- IDC_WRITE (R85). -/
def execIdcWrite (ctr : Option Word) (k : Fin 4) (w : Word) (s : State) : Host.Outcome State Fault Refusal :=
  runBoth (State.wordFrame ctr (R.EXC_IDC k) w) s

/-- TDAC_WRITE (R93). -/
def execTdacWrite (ctr : Option Word) (w : Word) (s : State) : Host.Outcome State Fault Refusal :=
  runBoth (State.wordFrame ctr R.EXC_TDAC w) s

/-- URGENT_REQUEST (R116). -/
def execUrgentRequest (ctr : Option Word) (w : Word) (s : State) : Host.Outcome State Fault Refusal :=
  runBoth (State.wordFrame ctr R.SLICE_URGREQ w) s

/-- FIR_COMMIT (R129). -/
def execFirCommit (ctr : Option Word) (u : Fin 8) (s : State) : Host.Outcome State Fault Refusal :=
  runBoth (State.wordFrame ctr (R.FILT_COMMIT u) 1#32) s

/-- LIFE_CLR (R166). -/
def execLifeClr (ctr : Option Word) (c : Ctx) (s : State) : Host.Outcome State Fault Refusal :=
  runBoth (State.wordFrame ctr (R.CTX_LIFE_CLR c) 1#32) s

/-- DI_CLR_CNT (R179). -/
def execDiClrCnt (ctr : Option Word) (n : Terminal) (s : State) : Host.Outcome State Fault Refusal :=
  runBoth (State.wordFrame ctr (R.TERM_DI_CLR n) 1#32) s

/-- DI_CLR_CHAT (R179). -/
def execDiClrChat (ctr : Option Word) (n : Terminal) (s : State) : Host.Outcome State Fault Refusal :=
  runBoth (State.wordFrame ctr (R.TERM_DI_CLR n) 2#32) s

/-- DO_COMMAND (R186). -/
def execDoCommand (ctr : Option Word) (n : Terminal) (on : Bool) (s : State) : Host.Outcome State Fault Refusal :=
  runBoth (State.wordFrame ctr (R.TERM_DO_CMD n) (word (b2n on))) s

/-- DO_UNLATCH (R189). -/
def execDoUnlatch (ctr : Option Word) (n : Terminal) (s : State) : Host.Outcome State Fault Refusal :=
  runBoth (State.wordFrame ctr (R.TERM_DO_CLR n) 1#32) s

/-- DO_CLEAR_COUNTS (R201). -/
def execDoClearCounts (ctr : Option Word) (n : Terminal) (s : State) : Host.Outcome State Fault Refusal :=
  runBoth (State.wordFrame ctr (R.TERM_DO_CLR n) 2#32) s

/-- AO_COMMAND (R202). -/
def execAoCommand (ctr : Option Word) (n : Terminal) (w : Word) (s : State) : Host.Outcome State Fault Refusal :=
  runBoth (State.wordFrame ctr (R.TERM_AO_CMD n) w) s

/-- AO_CLEAR_COUNTS (R215). -/
def execAoClearCounts (ctr : Option Word) (n : Terminal) (s : State) : Host.Outcome State Fault Refusal :=
  runBoth (State.wordFrame ctr (R.TERM_AO_CLR n) 1#32) s

/-- SS_FORCE_WRITE (R222). -/
def execSsForceWrite (ctr : Option Word) (n : Terminal) (on : Bool) (s : State) : Host.Outcome State Fault Refusal :=
  runBoth (State.wordFrame ctr (R.TERM_SS_FORCE n) (word (b2n on))) s

/-- REFLEX_LATCH_CLEAR (R224). -/
def execReflexLatchClear (ctr : Option Word) (hi : Bool) (w : Word) (s : State) : Host.Outcome State Fault Refusal :=
  runBoth (State.wordFrame ctr (if hi then R.REFLEX_CLR_HI else R.REFLEX_CLR_LO) w) s

/-- CAL_RUN (R240). -/
def execCalRun (ctr : Option Word) (sl : Fin 32) (pause : Bool) (s : State) : Host.Outcome State Fault Refusal :=
  runBoth (State.wordFrame ctr R.CAL_RUN (word (sl + 256 * b2n pause))) s

/-- HOST_CLR (R265). -/
def execHostClr (ctr : Option Word) (s : State) : Host.Outcome State Fault Refusal := runBoth (State.wordFrame ctr R.HOST_CLR 1#32) s

/-- CELLAR_SELFTEST (R285). -/
def execCellarSelftest (ctr : Option Word) (s : State) : Host.Outcome State Fault Refusal :=
  runBoth (State.wordFrame ctr R.CELLAR_SELFTEST 1#32) s

/-- ZEROISE_PURGE (R294). -/
def execZeroisePurge (ctr : Option Word) (key : Fin 65536) (s : State) : Host.Outcome State Fault Refusal :=
  runBoth (State.wordFrame ctr R.CELLAR_ZEROISE (keyed 1 key)) s

/-- ZEROISE_GRAVE (R294). -/
def execZeroiseGrave (ctr : Option Word) (key : Fin 65536) (s : State) : Host.Outcome State Fault Refusal :=
  runBoth (State.wordFrame ctr R.CELLAR_ZEROISE (keyed 2 key)) s

/-- CLOSE_STORE (R309). -/
def execCloseStore (ctr : Option Word) (s : State) : Host.Outcome State Fault Refusal :=
  runBoth (State.wordFrame ctr R.DEVICE_CRATE_CTL 1#32) s

/-- CLOSE_APPLY (R309). -/
def execCloseApply (ctr : Option Word) (s : State) : Host.Outcome State Fault Refusal :=
  runBoth (State.wordFrame ctr R.DEVICE_CRATE_CTL 2#32) s

/-- DISCARD (R309). -/
def execDiscardStaging (ctr : Option Word) (s : State) : Host.Outcome State Fault Refusal :=
  runBoth (State.wordFrame ctr R.DEVICE_CRATE_CTL 3#32) s

/-- HANDOVER (R341). -/
def execHandover (ctr : Option Word) (s : State) : Host.Outcome State Fault Refusal := runBoth (State.wordFrame ctr R.PAIR_CMD 1#32) s

/-- RESET_PARTNER (R348). -/
def execResetPartner (ctr : Option Word) (key : Fin 65536) (s : State) : Host.Outcome State Fault Refusal :=
  runBoth (State.wordFrame ctr R.PAIR_CMD (keyed 2 key)) s

/-- RESYNC (R348). -/
def execResync (ctr : Option Word) (s : State) : Host.Outcome State Fault Refusal := runBoth (State.wordFrame ctr R.PAIR_CMD 3#32) s

/-- CLOCK_RESTORE (R356). -/
def execClockRestore (ctr : Option Word) (s : State) : Host.Outcome State Fault Refusal := runBoth (State.wordFrame ctr R.CLOCK_CTL 1#32) s

/-- FMEAS_GO (R360). -/
def execFmeasGo (ctr : Option Word) (w : Word) (s : State) : Host.Outcome State Fault Refusal :=
  runBoth (State.wordFrame ctr R.CLOCK_FMEAS_CFG (w ||| 0x80000000#32)) s

/-- WDOG_TASKS_WRITE (R369). -/
def execWdogTasksWrite (ctr : Option Word) (w : Word) (s : State) : Host.Outcome State Fault Refusal :=
  runBoth (State.wordFrame ctr R.WDOG_TASKS w) s

/-- FAULT_ACK (R375). -/
def execFaultAck (ctr : Option Word) (w : Word) (s : State) : Host.Outcome State Fault Refusal :=
  runBoth (State.wordFrame ctr R.FAULT_ACK w) s

/-- FAULT_CLEAR_GRADE (R372). -/
def execFaultClearGrade (ctr : Option Word) (i : Fin 64) (s : State) : Host.Outcome State Fault Refusal :=
  runBoth (State.wordFrame ctr R.FAULT_CLEAR (word (256 + i))) s

/-- FAULT_CLEAR_COUNT (R372). -/
def execFaultClearCount (ctr : Option Word) (i : Fin 64) (s : State) : Host.Outcome State Fault Refusal :=
  runBoth (State.wordFrame ctr R.FAULT_CLEAR (word (512 + i))) s

/-- ERROUT_RELEASE (R377). -/
def execErroutRelease (ctr : Option Word) (s : State) : Host.Outcome State Fault Refusal :=
  runBoth (State.wordFrame ctr R.FAULT_ERRCTL 1#32) s

/-- LOFT_VERIFY (R387). -/
def execLoftVerify (ctr : Option Word) (s : State) : Host.Outcome State Fault Refusal := runBoth (State.wordFrame ctr R.LOFT_CMD 1#32) s

/-- LOFT_CLEAR (R388). -/
def execLoftClear (ctr : Option Word) (key : Fin 65536) (s : State) : Host.Outcome State Fault Refusal :=
  runBoth (State.wordFrame ctr R.LOFT_CMD (keyed 2 key)) s

/-- LOFT_CLEAR_FORCE (R388). -/
def execLoftClearForce (ctr : Option Word) (key : Fin 65536) (s : State) : Host.Outcome State Fault Refusal :=
  runBoth (State.wordFrame ctr R.LOFT_CMD (keyed 6 key)) s

/-- LARDER_RETIRE (R395). -/
def execLarderRetire (ctr : Option Word) (kind : Fin 16) (index : Fin 16777216) (s : State) : Host.Outcome State Fault Refusal :=
  runBoth (State.wordFrame ctr R.LARDER_REQ (word (16 + kind + 256 * index))) s

/-- LARDER_RESTORE (R395). -/
def execLarderRestore (ctr : Option Word) (kind : Fin 16) (index : Fin 16777216) (s : State) : Host.Outcome State Fault Refusal :=
  runBoth (State.wordFrame ctr R.LARDER_REQ (word (32 + kind + 256 * index))) s

/-- VETO_WRITE (R396). -/
def execVetoWrite (ctr : Option Word) (w : Word) (s : State) : Host.Outcome State Fault Refusal :=
  runBoth (State.wordFrame ctr R.LARDER_VETO w) s

end Sys2Proof.Machine
end

