-- ==== Sys2Proof/Machine/Partner.lean ====
section
/-! DEFINITION. The partner port and its frames (R321-R336, R340-R348). A row that a received frame stands for says what the receiver's
checks find of it (R325). -/

namespace Sys2Proof.Machine

open Sys2Proof

/-- The priority of a kind (R323). -/
def framePrio (k : PFrame) : Nat :=
  match k with
  | .ack _ => 1 | .notice _ => 2 | .handover _ => 3 | .mirror _ => 4 | .heartbeat _ => 5 | .trigger _ _ => 6 | .time _ => 7 | .compare _ _ => 8
  | .state _ => 9 | .summary _ _ _ => 10 | .crate _ => 11 | .hello _ _ _ => 12 | .resetReq => 13 | .idle => 14

/-- Does the partner port run: start-up has ended, the crate names a pair, and the PAIR role is not lost (R15, R327)? -/
def Logic.pairPortOn (l : Logic) : Bool := l.mode != .boot && l.gb F.DEVICE_MODE_PAIRED && !nbit l.cores.lost 3

/-- Does the Cellar serve the keys of the partner link (R280, R291)? While it does not, the link is down (R325). -/
def Logic.pairServed (l : Logic) : Bool := l.gb cellarIdOk && !l.gb cellarHalted && !l.cellar.stuck

/-- Is the pair key available (R280, R291, R325)? -/
def Logic.pairKeyOk (l : Logic) : Bool := l.mram.pairKey.isSome && l.pairServed

/-- KIND of a partner frame (R323). -/
def PFrame.code (k : PFrame) : Nat :=
  match k with
  | .idle => 0 | .hello _ _ _ => 1 | .heartbeat _ => 2 | .mirror _ => 3 | .ack _ => 4 | .notice _ => 5 | .time _ => 6 | .trigger _ _ => 7
  | .compare _ _ => 8 | .state _ => 9 | .crate _ => 10 | .handover _ => 11 | .summary _ _ _ => 12 | .resetReq => 13

/-- Does this device clock the partner link (R321)? -/
def Logic.clocksPair (l : Logic) : Bool :=
  let ws := (l.mram.slot l.mram.active).words
  Sys2Proof.Config.serial == (if l.gb F.PAIR_CFG_CLKSRC then crateSerialB ws else crateSerialA ws)

/-- TAG of a partner frame (R325): the leading 32 bits of the GMAC tag under the link subkey of this direction, with the pairing epoch
and the count of frames as its IV; 0 in a HELLO frame. -/
def Logic.partnerTag (l : Logic) (x : SentFrame PFrame) : Nat :=
  if x.kind.code = 1 then 0
  else
    let key := Sys2Proof.Config.partnerKey (l.mram.pairKey.getD 0) (Sys2Proof.Config.direction l.clocksPair)
    let h := x.head PFrame.code
    Sys2Proof.Config.gmac key (word l.mram.pairEpoch :: two l.pair.port.count) ((List.range 7).map fun i => word (h / 2 ^ (32 * (6 - i)))) /
      2 ^ 96 % 2 ^ 32

/-- The 288 bits of a partner frame: its data bits, their check bits and 13 fill bits (R322). -/
def partnerLine (x : SentFrame PFrame) : Nat := x.line PFrame.code 13

/-- The port sends a frame of a kind (R322, R325): a fresh one with its content as payload, or a kept one again. As on the barrier (R8), IDLE
takes no number. -/
def Logic.sendPframe (k : PFrame) (old : Option (SentFrame PFrame)) (l : Logic) : Logic :=
  match old with
  | some x => l.modPair fun p => { p with port := p.port.send false l.partnerTag { x with role := l.pairRole } }
  | none =>
    let x : SentFrame PFrame :=
      { kind := k, fseq := l.pair.port.next, role := l.pairRole, payload := Sys2Proof.Config.pairPayload (l.mram.pairKey.getD 0) k % 2 ^ 200 }
    l.modPair fun p => { p with port := p.port.send (k != PFrame.idle) l.partnerTag x }

/-- Ticks of 62.5 µs, the spacing of handover confirmations (R341). -/
def confirmTicks : Nat := 1536

/-- The 100 µs boundaries of DEVICE.TIME passed (R334): 12288 ticks are five of them. -/
def heartBoundary (t : Nat) : Nat := t * 5 / 12288

/-- What a device's HEARTBEAT carries (R323, R334, R336). -/
def Logic.heartNow (l : Logic) : Heartbeat :=
  { role := Fin.ofNat 4 l.pairRole, mode := Fin.ofNat 8 (modeCode l.mode), pleadTime := l.pair.pleadAt, ready := l.gb F.PAIR_STAT_READY }

/-- What a device's SUMMARY carries (R330): its sources graded SEVERE, APPROVED and the Loft's next RECSEQ. -/
def Logic.summaryNow (l : Logic) : PFrame :=
  .summary ((List.range 64).filter fun i => l.severe i).length (l.gb approvedBit) l.mram.loft.next

/-- A byte of a crate's words, the most significant of each word first: the model's choice, log 160. -/
def crateByte (ws : List Word) (i : Nat) : Fin 256 := Fin.ofNat 256 (wbits (ws.getD (i / 4) 0#32) (8 * (3 - i % 4)) 8)

/-- Bytes in a CRATE frame (R323). -/
def crateStep : Nat := 25

/-- The CRATE frame due on the lead of a joint CLOSE (R323, R333): 25 bytes of the crate, and its end after them. -/
def Logic.crateDue (l : Logic) : List PFrame :=
  match l.pair.crateAt with
  | none => []
  | some i =>
    let n := 4 * l.crate.words.length
    if i < n then [.crate (.bytes i ((List.range (min crateStep (n - i))).map fun j => crateByte l.crate.words (i + j)))]
    else [.crate (.close l.crate.apply)]

/-- The CRATE frame due has gone. -/
def PairRun.crateGone (n : Nat) (p : PairRun) : PairRun :=
  { p with crateAt := p.crateAt.bind fun i => if i < n then some (min n (i + crateStep)) else none }

/-- What STATE carries (R327, R330): the lead's levels, SEQ, watchdog registrations, session, RESTORE and OUTHOLD, and either device's
F_SHUNT (R344). -/
def State.transferNow (s : State) : Transfer :=
  let f := s.fd
  let l := s.ld
  let shunts := (allTerms.filter fun n => f.func n == 4).map fun n => (Fin.ofNat 32 n, f.fShunt n)
  if l.pairRole = 1 then
    { levels := f.stages.map fun n => (Fin.ofNat 32 n, f.expected n)
      seqs := (allCtxs.filter fun c => f.cb (F.CTX_CFG_VALID c)).map fun c => (Fin.ofNat 128 c, (f.ctx c).seq)
      tasks := l.g F.WDOG_TASKS_EN, outhold := (l.regs.word R.DEVICE_OUTHOLD).toNat, restore := (l.regs.word R.DEVICE_RESTORE).toNat
      shunts := shunts, session := l.sess.cur, bound := (l.regs.word R.DEVICE_SESS_BOUND).toNat }
  else { levels := [], seqs := [], tasks := 0, outhold := 0, restore := 0, shunts := shunts, session := none, bound := 0 }

/-- The content of a frame as it goes out: STATE is read then. -/
def State.filled (k : PFrame) (s : State) : PFrame :=
  match k with
  | .state none => .state (some s.transferNow)
  | k => k

/-- The frames ready to be sent: those in the queue, notices of the field die, and what falls due (R328, R330, R332-R334, R341): a heartbeat
at each 100 µs boundary of DEVICE.TIME, a confirmation at each 62.5 µs boundary of a handover's ramp. -/
def State.dueFrames (s : State) : List PFrame :=
  let l := s.ld
  let p := l.pair
  let keyed := l.pairKeyOk && l.gb F.PAIR_STAT_KEY_OK
  let heart := decide (heartBoundary p.hbAt < heartBoundary l.time) && (match p.quiet with
    | some t => decide (t ≤ l.time)
    | none => true)
  let confirm := match p.handover with
    | some h => if h.begun && decide (max h.ts h.sent / confirmTicks < l.time / confirmTicks) then [.handover (.confirm (h.abort.getD 0))] else []
    | none => []
  p.queue ++ (if l.linkUp then (s.fd.notices.take 1).map .notice else []) ++ confirm ++
    (if heart then [.heartbeat l.heartNow] else []) ++ (if keyed && decide (msTicks ≤ l.time - p.timeAt) then [.time l.time] else []) ++
    (if l.gb F.PAIR_STAT_READY && decide (ticks10ms ≤ l.time - p.sumAt) then [l.summaryNow] else []) ++ l.crateDue

/-- The kind that goes next (R323). -/
def nextFrame (ks : List PFrame) : PFrame := ks.foldl (fun b k => if framePrio k < framePrio b then k else b) .idle

/-- T_N in µs (R332): ⌈18 + 2 F⌉ at the PCLK rate in force (R321); `slow`: the clocking device runs degraded. -/
def announceTime (port : Word) (slow : Bool) : Nat :=
  let k := match wbits port 0 2, slow with
    | 0, _ => 49152 | 1, false => 32768 | _, _ => 24576
  (18 * k + 2000 * portPeriods port + k - 1) / k

/-- Pairing steps that the lead's frames complete (R327): after the STATE transfer it aligns the groups (R329), and after the alignment trigger it
waits for the follower's READY conditions (log 150). -/
def State.sentFrame (k : PFrame) (s : State) : State :=
  let p := s.ld.pair
  if s.ld.pairRole ≠ 1 then s
  else match k with
    | .state _ => if p.step = 5 then
        ((s.onLd (Logic.modPair fun p => { p with step := 6 })).onFd fun f =>
          { f with trigs := f.trigs ++ [{ stamp := s.ld.time, groups := 15 }] }).onLd (Logic.queueFrame (.trigger 15 s.ld.time))
      else s
    | .trigger _ _ => if p.step = 6 then
        s.onLd fun l => l.modPair fun p => { p with step := 7, aligning := allCtxs.filter fun c => l.gb (F.CTX_CFG_VALID c) }
      else s
    | _ => s

/-- T_N in force, shown in STAT.TN, at a frame boundary (R332); `slow`: PCLK runs degraded. -/
def State.showTn (slow : Bool) (s : State) : State :=
  let port := s.ld.regs.word R.PAIR_PORT
  let tn := announceTime port slow
  let s := s.onLd fun l => l.put F.PAIR_STAT_TN tn
  { s with fd := { s.fd with
    tn := tn, tnMax := if s.ld.clocksPair then max (announceTime port false) (announceTime port true) else tn, tnMoves := false } }

/-- Does PCLK run degraded (R321): is the clocking device of the pair degraded? `partner`: the other device is. -/
def Logic.pclkSlow (partner : Bool) (l : Logic) : Bool := if l.clocksPair then l.gb F.CLOCK_SRCSTAT_DEGRADED else partner

/-- A frame has gone from where it waited. -/
def PairRun.gone (k : PFrame) (queued : Bool) (now words : Nat) (p : PairRun) : PairRun :=
  if queued then { p with queue := p.queue.erase k }
  else match k with
    | .heartbeat _ => { p with hbAt := now }
    | .time _ => { p with timeAt := now }
    | .summary _ _ _ => { p with sumAt := now }
    | .handover _ => { p with handover := p.handover.map fun h => { h with sent := now } }
    | .crate _ => p.crateGone (4 * words)
    | _ => p

/-- PARTNER_FRAME_SLOT (R323-R325): resends first, then the kind of highest priority, else IDLE. `partner`: the other device's logic die runs
degraded. -/
def State.partnerSlot (partner : Bool) (s : State) : State :=
  if !s.ld.pairPortOn then s
  else
    let s := s.showTn (s.ld.pclkSlow partner)
    match s.ld.pair.port.again with
    | x :: rest => s.onLd fun l => ((l.bump F.PAIR_PFRAMES_RESEND).sendPframe x.kind (some x)).modPair fun p =>
        { p with port := { p.port with again := rest } }
    | [] =>
      let k := nextFrame s.dueFrames
      let queued := s.ld.pair.queue.contains k
      let s := s.onLd fun l => (l.sendPframe (s.filled k) none).modPair (PairRun.gone k queued l.time l.crate.words.length)
      let s := match k, queued with
        | .notice _, false => { s with fd := { s.fd with notices := s.fd.notices.drop 1 } }
        | _, _ => s
      s.sentFrame k

/-- A partner frame is discarded and counted, and RESEND is asked for (R325). -/
def Logic.dropPartner (l : Logic) : Logic :=
  (l.bump F.PAIR_PFRAMES_DISCARD).modPair fun p => { p with port := { p.port with ask := true } }

/-- Step 1 of R327: frames with a valid guard code for 1 ms; then HELLO goes out, and a DETACHED device is a follower again (R337). The link
stays down while its keys are not served (R325). -/
def Logic.guardGood (l : Logic) : Logic :=
  if l.gb F.PAIR_STAT_LINK then l
  else match l.pair.good with
    | none => l.modPair fun p => { p with good := some l.time }
    | some t =>
      if msTicks ≤ l.time - t ∧ (l.mode = .run ∨ l.mode = .follow) ∧ l.pairServed then
        let l := (l.put F.PAIR_STAT_LINK 1).modPair fun p => { p with step := 1, heard := l.time }
        (l.when (l.pairRole == 3) (Logic.put F.PAIR_STAT_ROLE 2)).sayHello
      else l

/-- A partner frame arrives (R325): it acts only if its guard code and tag pass, it comes in FSEQ order, and but for HELLO only under the pair
key. A HELLO before step 2 of R327 begins the count of FSEQ anew, since no rule trains this link (log 151). `resend`: its RESEND asks for the
kept frames after that ACKSEQ again (R9). -/
def State.partnerFrame (hello : Bool) (c : PairSeen) (resend : Option (Fin 256)) (act : State → State) (s : State) : State :=
  if !s.ld.pairPortOn then s
  else
    let bad := s.ld.pair.badTag && !hello && c.guard && c.tag
    let s := s.onLd fun l => l.modPair fun p => { p with badTag := p.badTag && !bad }
    let s := if c.guard then s.onLd Logic.guardGood else s.onLd (Logic.modPair fun p => { p with good := none })
    let inOrder := c.fseq.val == s.ld.pair.port.got || (hello && decide (s.ld.pair.step ≤ 1))
    if !c.guard ∨ !c.tag ∨ bad ∨ !inOrder ∨ (!hello && !s.ld.pairKeyOk) then s.onLd Logic.dropPartner
    else
      act (s.onLd (Logic.modPair fun p =>
        { p with port := { p.port with
          got := (c.fseq.val + 1) % 256
          again := match resend with
            | some a => (p.port.kept.takeWhile fun x => x.fseq != a.val).reverse
            | none => p.port.again } }))

/-- The serial of the other device the running crate names (R327). -/
def Logic.otherSerial (l : Logic) : Nat :=
  let ws := (l.mram.slot l.mram.active).words
  if crateSerialA ws = Sys2Proof.Config.serial then crateSerialB ws else crateSerialA ws

/-- The pair key (R326) with a partner. A and B are the crate's SERIAL_A and SERIAL_B,
the nonces in that order. -/
def Logic.pairKey (who : HelloFrom) (l : Logic) : Nat :=
  let own := Sys2Proof.Config.serial
  let words := fun n => (List.range 8).map fun i => word (n / 2 ^ (32 * (7 - i)))
  let (a, b) := if own = crateSerialA (l.mram.slot l.mram.active).words then ((own, l.pair.nonce), (who.serial, who.nonce)) else ((who.serial, who.nonce), (own, l.pair.nonce))
  Sys2Proof.Config.hkdf (Sys2Proof.Config.identityEcdh who.point) (words a.2 ++ words b.2)
    ([0x46574E33#32, 0x3231382D#32, 0x50414952#32] ++ two a.1 ++ two b.1)

/-- HELLO (R326, R327): the partner and the hash of its ACTIVE crate; `ok`: its chain and signature verify. The pair key
enters its slot by rotation, and the pairing epoch increments. -/
def Logic.hello (who : HelloFrom) (hash : Nat) (ok : Bool) (l : Logic) : Logic :=
  if !l.gb F.PAIR_STAT_LINK ∨ l.pair.step ≠ 1 then l
  else if !ok ∨ !who.pointOk ∨ who.serial ≠ l.otherSerial ∨ !l.gb cellarIdOk ∨ l.gb cellarHalted then l.pairFails 12
  else
    let key := l.pairKey who
    let l := (l.putWord R.PAIR_PSERIAL_LO (word who.serial)).putWord R.PAIR_PSERIAL_HI (word (who.serial / 2 ^ 32))
    if hash ≠ crateHash (l.mram.slot l.mram.active).words then (l.put F.PAIR_STAT_HASH_OK 0).pairFails 10
    else
      let (ok, l) := (l.put F.PAIR_STAT_HASH_OK 1).rotateKey (2 + l.mram.pairSlot)
      if !ok then l.pairFails 12
      else
        let l := l.keep fun m => { m with pairKey := some key, pairEpoch := m.pairEpoch + 1 }
        (l.put F.PAIR_STAT_KEY_OK 1).modPair fun p => { p with step := 4 }

/-- A HELLO whose public key fails its validation counts as an authentication failure (R286, R287). -/
def State.hello (who : HelloFrom) (hash : Nat) (ok : Bool) (s : State) : State :=
  let judged := s.ld.gb F.PAIR_STAT_LINK && s.ld.pair.step == 1
  let s := s.onLd (Logic.hello who hash ok)
  if judged && !who.pointOk then s.authFailure else s

/-- ±250 ppm in units of 2⁻³² (R328). -/
def steerMax : Int := 1073741

/-- The follower steers its root PLL after a TIME exchange (R328): by how much within its bounds no rule gives. -/
def Logic.steered (offset : Int) (l : Logic) : Logic :=
  let v := max (-steerMax) (min steerMax (Sys2Proof.Config.steering offset l.draws))
  ({ l with draws := l.draws + 1 }).modPair fun p => { p with steer := v }

/-- The offset found by a TIME exchange, follower minus lead, in ns (R328). -/
def Logic.timeExchange (offset : Int) (l : Logic) : Logic :=
  let l := (l.put F.PAIR_TOFFS_OFFSET (unsigned 32 offset)).when (l.pairRole == 2) (Logic.steered offset)
  let far := decide (40 < offset.natAbs)
  let since := if far then some (l.pair.alignBad.getD l.time) else none
  let l := l.modPair fun p => { p with alignBad := since }
  if offset.natAbs ≤ 20 then
    let l := l.put F.PAIR_STAT_TALIGN 1
    if l.pair.step = 4 then
      let l := l.modPair fun p => { p with step := 5 }
      l.when (l.pairRole == 1) (Logic.queueFrame (.state none))
    else l
  else
    match since with
    | some t => l.when (l.gb F.PAIR_STAT_TALIGN && decide (ticks10ms ≤ l.time - t)) fun l =>
        (l.put F.PAIR_STAT_TALIGN 0).evt R.pagePAIR 11
    | none => l

/-- The partner's shunts (R319, R344). -/
def Field.takeShunts (t : Transfer) (f : Field) : Field :=
  { f with partnerShunts := t.shunts.foldl (fun m x => tput (fun _ => 0) m x.1.val x.2) f.partnerShunts }

/-- Expected levels, SEQ and OUTHOLD of a STATE transfer (R327): windows in progress carry GAP from then on. -/
def Field.takeTransfer (t : Transfer) (f : Field) : Field :=
  let f := t.levels.foldl (fun f x => f.modTerm x.1 fun r => { r with expect := x.2 }) f
  let f := t.seqs.foldl (fun f x => (f.flag x.1 7).modCtx x.1 fun r => { r with seq := x.2 }) f
  f.each (allTerms.filter fun n => isOut (f.func n)) fun n f => f.modSs n fun x => { x with stay := nbit t.outhold n }

/-- At the lead's next close of a context after the alignment trigger the follower closes its window in progress with GAP and the lead's SEQ
(R329). -/
def Field.alignClose (c q : Nat) (f : Field) : Field := (f.modCtx c fun r => { r with seq := (q + 2 ^ 32 - 1) % 2 ^ 32 }).gapClose c

/-- The lead repeats step 6 of R327: the follower disarms its catch and READY clears (R331). -/
def State.repeatsTransfer (s : State) : State :=
  (s.unready.onFd Field.disarmAll).onLd (Logic.modPair fun p => { p with step := 5 })

/-- STATE (R327, R330): the follower takes the lead's state at pairing and sends its own F_SHUNT back (R344), its session at ACCEPT and at each
session end, and the closes that R329 aligns. A frame that carries SEQ is a transfer of step 6. -/
def State.takeTransfer (t : Transfer) (s : State) : State :=
  let s := s.onFd (Field.takeShunts t)
  if s.ld.pairRole ≠ 2 ∨ s.ld.pair.step < 5 then s
  else if t.closes ≠ [] then s.onFd fun f => t.closes.foldl (fun f x => f.alignClose x.1 x.2) f
  else
    let s := if s.ld.pair.step = 8 ∧ t.seqs ≠ [] then s.repeatsTransfer else s
    let first := s.ld.pair.step == 5 || t.seqs != []
    let s := s.onLd fun l =>
      let l := ({ l with sess := { l.sess with cur := t.session } }).putWord R.DEVICE_SESS_BOUND (word t.bound)
      if first then
        let l := ((l.put F.WDOG_TASKS_EN t.tasks).putWord R.DEVICE_OUTHOLD (word t.outhold)).putWord R.DEVICE_RESTORE (word (t.restore % 16))
        (l.modPair fun p => { p with step := 6 }).queueFrame (.state none)
      else l
    if first then s.onFd (Field.takeTransfer t) else s

/-- TRIGGER (R329): in FOLLOW it acts at the lead's stamp; the alignment trigger ends the follower's pairing (R327). -/
def State.takeTrigger (groups stamp : Nat) (s : State) : State :=
  if s.ld.pairRole ≠ 2 then s
  else
    let s := if groups = 0 then s else s.onFd fun f => { f with trigs := f.trigs ++ [{ stamp := stamp, groups := groups }] }
    if s.ld.pair.step = 6 then s.becomeReady else s

/-- HEARTBEAT (R334-R336): a partner in the lead role holds PLEAD. Of two leads the later one yields; within 10 µs the one that PREFER does not
name. The follower's READY conditions end the lead's pairing (R327). -/
def State.heartbeat (h : Heartbeat) (s : State) : State :=
  let s := s.onLd fun l => (((l.put F.PAIR_PARTNER_MODE h.mode).modPair fun p => { p with heard := l.time }).showPlead (h.role.val == 1))
  let s := if s.ld.pairRole = 1 ∧ s.ld.pair.step = 7 ∧ h.ready then s.becomeReady else s
  if s.ld.pairRole = 1 ∧ h.role.val = 1 then
    let mine := s.ld.pair.pleadAt
    let close := decide (mine ≤ h.pleadTime + ticks10us ∧ h.pleadTime ≤ mine + ticks10us)
    let ws := (s.ld.mram.slot s.ld.mram.active).words
    let named := Sys2Proof.Config.serial == (if s.ld.gb F.PAIR_CFG_PREFER then crateSerialB ws else crateSerialA ws)
    if (if close then !named else decide (h.pleadTime < mine)) then s.yieldLead else s
  else s

/-- SUMMARY (R330). -/
def Logic.takeSummary (severe : Nat) (approved : Bool) (l : Logic) : Logic :=
  (l.put F.PAIR_PARTNER_SEVERE severe).putb F.PAIR_PARTNER_APPROVED approved

/-- COMPARE (R345, R346): the partner's means, and its dwell's verdict once it has one. -/
def State.takeCompare (xs : List (Ctx × Fin 256 × Int)) (dwell : Option Bool) (s : State) : State :=
  let s := s.onLd (Logic.modPair fun p =>
    { p with others := xs.map (fun x => (x.1.val, x.2.1.val, x.2.2)) ++ p.others.filter fun y => !xs.any fun x => x.1.val == y.1 })
  let s := s.compareAll
  match dwell with
  | some b => s.onLd fun l => ({ l with pair := { l.pair with theirs := some b } }).judgeDwells
  | none => s

/-- Bytes into the staging buffer (R333), the most significant of each word first. -/
def Logic.stageBytes : Nat → List (Fin 256) → Logic → Logic
  | _, [], l => l
  | i, b :: bs, l =>
    Logic.stageBytes (i + 1) bs (l.stageWords (i / 4) [wset (tget (fun _ => 0#32) l.crate.stage (i / 4)) (8 * (3 - i % 4)) 8 b])

/-- CRATE (R333): the follower stages the lead's crate, from its first byte on, and checks it; an answer joins both devices' checks. -/
def Logic.takeCrate (m : CrateMsg) (l : Logic) : Logic :=
  match m with
  | .bytes i bs =>
    if l.pairRole = 2 ∧ l.crateFree then (l.when (i == 0) Logic.emptyStage).stageBytes i bs else l
  | .close apply => if l.pairRole = 2 ∧ l.crateFree then l.beginClose apply true else l
  | .answer ok =>
    if l.crate.joint then ({ l with crate := { l.crate with partner := some ok } }).joinChecks else l

/-- Is a level lower than another? -/
def lowers (old new : Option Nat) : Bool :=
  match old, new with
  | some a, some b => decide (b < a)
  | some _, none => true
  | _, _ => false

/-- The follower's expected level changes (R339): lowering it disarms the stage, armed or engaged, and so does any change of an armed analogue one,
which arms again after 10 ms without a change; else an engaged stage drives the new level. -/
def Field.expectLevel (n : Nat) (v : Option Nat) (f : Field) : Field :=
  let old := (f.term n).expect
  let f := f.modTerm n fun t => { t with expect := v }
  match (f.term n).catch_ with
  | .armed => if lowers old v || (isAo (f.func n) && old != v) then f.disarm n else f
  | .engaged => if lowers old v then f.disarm n else f.settle n
  | _ => f

/-- Within 50 µs of engaging (R340), in ticks. -/
def ticks50us : Nat := 1228

/-- NOTICE (R332, R340): a lowered level revokes a stage that engaged within the last 50 µs. An announced off-pulse is acknowledged
(R197). -/
def State.takeNotice (x : Notice) (s : State) : State :=
  if s.ld.pairRole ≠ 2 then s
  else
    let n := x.n.val
    let old := (s.fd.term n).expect
    let at_ := tget (fun _ => 0) s.ld.pair.caughtAt n
    let revoked := decide (at_ ≠ 0) && decide (s.ld.time ≤ at_ - 1 + ticks50us) && (s.fd.term n).catch_ == .engaged &&
      (lowers old x.level || x.blocked)
    let s := s.onLd fun l => l.when (x.pulse == some true) (Logic.queueFrame (.ack (some x.n)))
    let s := if revoked then
        s.onLd fun l => ((l.bump F.PAIR_CATCHCNT_REVOKED).evt R.pagePAIR 5).modPair fun p => { p with caughtAt := tdel p.caughtAt n }
      else s
    s.onFd fun f =>
      let f := f.modTerm n fun t => { t with blocked := x.blocked }
      let f := match x.pulse with
        | some b => f.modDout n fun d => { d with masked := b }
        | none => f
      let f := f.expectLevel n x.level
      let f := if revoked || x.blocked && (f.term n).catch_ == .armed then f.disarm n else f
      f

/-- A mirrored output command or enable (R330, R332, R214): the expected level follows where it was the commanded one or OUTHOLD held it, which
ends with a command (`cmd`); a tie follows its head. -/
def Field.mirrorCommand (cmd : Bool) (n : Nat) (old : Nat → Option Nat) (f : Field) : Field :=
  let stay := cmd && (f.term n).ss.stay
  let f := f.when stay (Field.setStay n false)
  f.each (f.tieSet n) fun m f => if stay ∨ (f.term m).expect = old m then f.expectLevel m (f.commanded m) else f

/-- The pages whose commands the pair shares (R330): terminals, slices, filter sets, contexts and reflexes. Commands of the others act on the
device that the host has written to, and so do injections (log 152). -/
def sharedPage (k : PageKind) : Bool :=
  match k with
  | .term _ | .slice _ | .filt _ | .ctx _ | .reflex => true
  | _ => false

/-- A mirrored word (R330, R331): the SESSION registers the pair shares, and its commands. TRIM is held until this device leads (R362). -/
def State.mirrorWord (a : Nat) (w : Word) (s : State) : State :=
  let off := a % 256
  match regRow a with
  | none => s
  | some r =>
    let k := pageKind (a / 256)
    if r.cls ≠ .session then s
    else if r.acc ≠ .rw then (if sharedPage k && decide (0x10 ≤ off) then (s.actWord 3 a w 0#32).2 else s)
    else match k with
        | .wdog => s.onLd (Logic.wdogTasks w)
        | .larder => s.vetoWritten w
        | .term n =>
          if off = 0x33 ∨ off = 0x43 then
            let f := s.fd
            (s.storeWord a w).onFd (Field.mirrorCommand true n f.commanded)
          else if off = 1 then
            let f := s.fd
            (s.ctrlWritten (a / 256) (w &&& 1#32)).onFd (Field.mirrorCommand false n f.commanded)
          else s.storeWord a w
        | .seqtab => s
        | _ => if off = 1 then s.ctrlWritten (a / 256) (w &&& 1#32) else s.storeWord a w

/-- The highest CTR accepted on either device (R320, R330). -/
def Logic.mirrorCtr (ctr : Nat) (l : Logic) : Logic :=
  let up := fun (x : Session) => { x with top := max x.top ctr }
  { l with sess := { l.sess with cur := l.sess.cur.map up } }

/-- MIRROR (R330, R331): the follower applies words and check-ins and acknowledges the words; a CTR counts on either device. -/
def State.takeMirror (m : Mirror) (s : State) : State :=
  match m with
  | .ctr c => s.onLd (Logic.mirrorCtr c.toNat)
  | .checkIn t => if s.ld.pairRole = 2 then s.onLd fun l => (l.checkIn t).2 else s
  | .words a ws ctr =>
    if s.ld.pairRole = 2 then
      let s := (ws.zip (wordAddrs a ws.length)).foldl (fun s x => s.mirrorWord x.2 x.1) s
      s.onLd fun l => (l.mirrorCtr ctr.toNat).queueFrame (.ack none)
    else s

/-- A mirrored commit goes ahead on the lead (R331). -/
def State.mirrorCommits (s : State) : State :=
  match s.ld.host.auth with
  | none => s
  | some f =>
    if f.mirrored.isNone then s
    else match s.ld.sessionOf f.keys with
      | some x => s.commitAuth f x
      | none => s.authEnds f 12

/-- ACK (R331, R197): `late`: after 20 µs; `pulse`: the terminal whose announced off-pulse it acknowledges. -/
def State.takeAck (late : Bool) (pulse : Option Terminal) (s : State) : State :=
  let s := match pulse with
    | some n => s.onFd (Field.modDout n fun d => { d with masked := true })
    | none => s
  if (s.ld.host.auth.bind fun f => f.mirrored).isSome then
    (s.onLd fun l => l.when late (Logic.bump F.PAIR_MIRCNT_LATE)).mirrorCommits
  else s

/-- MIRROR_ACK_TIMEOUT (R331): the lead commits, and repeats step 6 of R327. -/
def State.ackTimeout (s : State) : State :=
  if (s.ld.host.auth.bind fun f => f.mirrored).isSome then
    let s := s.mirrorCommits
    if s.ld.boot.logic = 0 then s
    else
      (s.onLd fun l => (l.bump F.PAIR_MIRCNT_UNSYNC).fault 30 false).unready.onLd fun l =>
        (l.modPair fun p => { p with step := 5 }).queueFrame (.state none)
  else s

/-- HANDOVER announcement (R341): the follower takes T_S. -/
def State.announced (ts cause : Nat) (s : State) : State :=
  if s.ld.pairRole = 2 ∧ s.ld.gb F.PAIR_STAT_READY then
    (s.onLd fun l =>
      ((l.put F.PAIR_STAT_HANDOVER 1).put F.PAIR_HOSTAT_CAUSE cause).put F.PAIR_HOSTAT_RESULT 0 |>.modPair fun p =>
        { p with handover := some { ts := ts, cause := cause, confirmed := ts } }).onFd fun f => { f with handover := true }
  else s

/-- A HANDOVER confirmation (R341, R342); it tells a cause of abort on the other device. -/
def Logic.confirmed (cause : Nat) (l : Logic) : Logic :=
  let l := l.modPair fun p => { p with handover := p.handover.map fun h => { h with confirmed := l.time } }
  if cause = 0 then l else l.abortCause cause

/-- RESET_REQ (R348, R40): the logic die resets with RSTCAUSE.PARTNER. -/
def State.resetAsked (s : State) : State := s.resetLogic 8

/-- PARTNER_FRAME_SLOT (R323). -/
def execPartnerFrameSlot (partner : Bool) (s : State) : Host.Outcome State Fault Refusal := runBoth (State.partnerSlot partner) s

/-- PAIR_ACK (R331). -/
def execPairAck (c : PairSeen) (resend : Option (Fin 256)) (late : Bool) (pulse : Option Terminal) (s : State) : Host.Outcome State Fault Refusal :=
  runBoth (State.partnerFrame false c resend (State.takeAck late pulse)) s

/-- PAIR_NOTICE (R332). -/
def execPairNotice (c : PairSeen) (resend : Option (Fin 256)) (x : Notice) (s : State) : Host.Outcome State Fault Refusal :=
  runBoth (State.partnerFrame false c resend (State.takeNotice x)) s

/-- HANDOVER_ANNOUNCEMENT (R341). -/
def execHandoverAnnouncement (c : PairSeen) (resend : Option (Fin 256)) (ts : Nat) (cause : Fin 8) (s : State) : Host.Outcome State Fault Refusal :=
  runBoth (State.partnerFrame false c resend (State.announced ts cause)) s

/-- HANDOVER_REQUEST (R340). -/
def execHandoverRequest (c : PairSeen) (resend : Option (Fin 256)) (caught : Word) (s : State) : Host.Outcome State Fault Refusal :=
  runBoth (State.partnerFrame false c resend (State.handoverAsked caught.toNat)) s

/-- HANDOVER_CONFIRMATION (R341). -/
def execHandoverConfirmation (c : PairSeen) (resend : Option (Fin 256)) (cause : Fin 6) (s : State) : Host.Outcome State Fault Refusal :=
  runBoth (State.partnerFrame false c resend (State.onLd (Logic.confirmed cause))) s

/-- PAIR_MIRROR (R331). -/
def execPairMirror (c : PairSeen) (resend : Option (Fin 256)) (m : Mirror) (s : State) : Host.Outcome State Fault Refusal :=
  runBoth (State.partnerFrame false c resend (State.takeMirror m)) s

/-- PAIR_HEARTBEAT (R334). -/
def execPairHeartbeat (c : PairSeen) (resend : Option (Fin 256)) (h : Heartbeat) (s : State) : Host.Outcome State Fault Refusal :=
  runBoth (State.partnerFrame false c resend (State.heartbeat h)) s

/-- PAIR_TRIGGER (R329). -/
def execPairTrigger (c : PairSeen) (resend : Option (Fin 256)) (groups : Fin 16) (stamp : Nat) (s : State) : Host.Outcome State Fault Refusal :=
  runBoth (State.partnerFrame false c resend (State.takeTrigger groups stamp)) s

/-- PAIR_TIME (R328). -/
def execPairTime (c : PairSeen) (resend : Option (Fin 256)) (offset : Int) (s : State) : Host.Outcome State Fault Refusal :=
  runBoth (State.partnerFrame false c resend (State.onLd (Logic.timeExchange offset))) s

/-- PAIR_COMPARE (R345). -/
def execPairCompare (c : PairSeen) (resend : Option (Fin 256)) (xs : List (Ctx × Fin 256 × Int)) (dwell : Option Bool) (s : State) :
    Host.Outcome State Fault Refusal :=
  runBoth (State.partnerFrame false c resend (State.takeCompare xs dwell)) s

/-- PAIR_STATE (R327). -/
def execPairState (c : PairSeen) (resend : Option (Fin 256)) (t : Transfer) (s : State) : Host.Outcome State Fault Refusal :=
  runBoth (State.partnerFrame false c resend (State.takeTransfer t)) s

/-- PAIR_SUMMARY (R330). -/
def execPairSummary (c : PairSeen) (resend : Option (Fin 256)) (severe : Fin 256) (approved : Bool) (s : State) : Host.Outcome State Fault Refusal :=
  runBoth (State.partnerFrame false c resend (State.onLd (Logic.takeSummary severe approved))) s

/-- PAIR_CRATE (R333). -/
def execPairCrate (c : PairSeen) (resend : Option (Fin 256)) (m : CrateMsg) (s : State) : Host.Outcome State Fault Refusal :=
  runBoth (State.partnerFrame false c resend (State.onLd (Logic.takeCrate m))) s

/-- HELLO (R327). -/
def execHello (c : PairSeen) (resend : Option (Fin 256)) (who : HelloFrom) (hash : Nat) (ok : Bool) (s : State) : Host.Outcome State Fault Refusal :=
  runBoth (State.partnerFrame true c resend (State.hello who hash ok)) s

/-- RESET_REQ (R348). -/
def execResetReq (c : PairSeen) (resend : Option (Fin 256)) (s : State) : Host.Outcome State Fault Refusal :=
  runBoth (State.partnerFrame false c resend State.resetAsked) s

/-- MIRROR_ACK_TIMEOUT (R331). -/
def execMirrorAckTimeout (s : State) : Host.Outcome State Fault Refusal := runBoth State.ackTimeout s

end Sys2Proof.Machine
end

