-- ==== Sys2Proof/Machine/Boot.lean ====
section
/-! DEFINITION. Start-up (R32-R39), and what a reset of one die asks of the other (R42, R43). -/

namespace Sys2Proof.Machine

open Sys2Proof

/-- Change where start-up stands. -/
def Logic.modBoot (h : BootRun → BootRun) (l : Logic) : Logic := { l with boot := h l.boot }

/-- A step of the main line of start-up (R34): from one to the next. -/
def Logic.bootStep (at_ : Nat) (h : Logic → Logic) (l : Logic) : Logic :=
  if l.boot.main = at_ then (h l).modBoot fun b => { b with main := at_ + 1 } else l

/-- INTERNAL_RESET_RELEASE (R34): oscillators that run are healthy, the HFRC of the Larder record serves, and the LOCKOUT marker's counts
show again (R295). -/
def Logic.resetReleased (l : Logic) : Logic :=
  l.bootStep 0 fun l =>
    let m := l.mram
    let l := { l with clocks := { l.clocks with hfrcB := m.larder.hfrcB } }
    let l := (((l.put (clockOk 2) 1).put (clockOk 3) 1).put (clockOk 4) 1).showClocks
    match m.marker with
    | some k => (l.put F.CELLAR_ALARMCNT_PURGE k.purges).put F.CELLAR_ALARMCNT_GRAVE k.graves
    | none => l

/-- STRAPS_LATCHED (R32): BOOT3-BOOT0 and CLAIM; BOOT3 is LEGACY.EN after the reset (R265). Which groups have no inductor stands on the
board with the straps, for the field die's release to find (R419, log 140). -/
def Logic.strapsLatched (boot : Nat) (pads : Pads) (l : Logic) : Logic :=
  l.bootStep 1 fun l =>
    ((l.putWord R.DEVICE_STRAPS (word (boot % 16 + 16 * b2n pads.claim))).putb F.HOST_LEGACY_EN (nbit boot 3)).modBoot fun b =>
      { b with bare := pads.bare.map Fin.val }

/-- OSC_WAIT_END (R34). -/
def Logic.waitOver (l : Logic) : Logic := l.bootStep 2 id

/-- PLL_LOCKED (R34). -/
def Logic.pllLocked (l : Logic) : Logic := l.bootStep 3 fun l => ((l.put (clockOk 0) 1).put (clockOk 1) 1).showClocks

/-- VISO_IN_REGULATION (R34). -/
def Logic.visoUp (l : Logic) : Logic :=
  if 4 ≤ l.boot.main ∧ l.boot.field = 0 then l.modBoot fun b => { b with field := 1 } else l

/-- After a reset of the logic die alone its time comes from the field die's copy (R361); DEGTIME goes on from what it was. -/
def State.takeTime (s : State) : State :=
  if !s.ld.timeBad then s
  else
    let l := { s.ld with timeBad := false }
    if s.fd.released then
      let clocks := { l.clocks with degTicks := l.degTicks, degradedAt := l.clocks.degradedAt.map fun _ => s.fd.time }
      { s with ld := { l with time := s.fd.time, clocks := clocks }.putWord R.DEVICE_TIME_STAT 1#32 }
    else { s with ld := l }

/-- Training succeeds (R10, R36, R42): a fresh boot nonce gives the link key, and the lanes of the Larder record carry traffic; a field
die that ran on sees PEER_RESET, and with VETO cleared its deferred retirements are carried out (R396). -/
def State.linkTrained (s : State) : State :=
  let kept := s.fd.released
  let s := s.takeTime
  let l := s.ld
  let l := l.modBoot fun b => { b with field := 2, kept := kept, safe := nclr b.safe 3 }
  let nonce := Sys2Proof.Config.free l.draws
  let l := { l with draws := l.draws + 1 }.modBar fun b => { b with
    logic := { peerReset := true }, field := { peerReset := !kept }, nonce := nonce, key := some (Sys2Proof.Config.linkKey nonce) }
  let l := (l.put F.BARRIER_LINK_LANES l.mram.larder.lanes).putb F.BARRIER_LINK_SINGLE (decide ((nbits 3 l.mram.larder.lanes).length < 2))
  let l := ((l.bump ⟨R.BARRIER_LANEERR_B, 16, 16⟩).put F.DEVICE_BOOTSTAT_BARRIER_OK 1).putb (clockOk 5) (!s.fd.frcBad)
  let l := l.linkRises
  let l := l.when kept fun l => ((l.evt R.pageDEVICE 2).evt R.pageBARRIER 4).fault 37 false
  let f := { s.fd with recBad := false }
  { s with ld := l, fd := if kept then f.takeVeto 0#32 else f }

/-- BARRIER_TRAINED (R36): after the fifth attempt that fails, training is repeated every 100 ms and SAFE is called for. -/
def State.barrierTrained (ok : Bool) (s : State) : State :=
  if s.ld.boot.field ≠ 1 then s
  else if ok then s.linkTrained
  else s.onLd fun l =>
    let n := l.boot.tries + 1
    l.modBoot fun b => { b with tries := n, field := if 5 ≤ n then 4 else 1, safe := if 5 ≤ n then nset b.safe 3 else b.safe }

/-- BARRIER_RETRAIN (R36): another attempt. -/
def Logic.retrain (l : Logic) : Logic := if l.boot.field = 4 then l.modBoot fun b => { b with field := 1 } else l

/-- Roles start on the cores the Larder record gives them (R15, R399): a role whose core is retired takes the spare, or is lost. -/
def State.startRoles (rs : List Nat) (s : State) : State :=
  rs.foldl (fun s r =>
    let k := coreKind r
    if !s.ld.isRetired k (s.ld.core r) then s
    else match s.ld.spareCore k with
      | some i => s.onLd fun l => (l.placeRole r i).spareIn k i
      | none =>
        let s := s.onLd fun l => { l with cores := { l.cores with lost := nset l.cores.lost r } }
        (s.roleFault r true false).roleLost r) s

/-- A field die leaves its reset (R104, R105, R419): an internal trigger aligns every group and gives the SYNCOUT pulse of group 0; the groups
of `bare` are found to have no inductor. -/
def Field.leaveReset (bare : List Nat) (f : Field) : Field :=
  let f := { f with released := true, syncout := some f.time }
  let f := f.each (List.range 4) fun g f => f.put (F.SLICE_GRP_ALIGNED g) 1
  f.each (bare.filter (· < 4)) fun g f => f.modStep g fun s => { s with absent := true }

/-- FIELD_DIE_RELEASED (R34, R43, R104): SEQ, DIAG and SAFE run, and the groups are aligned. A field die that ran on through a reset of
the logic die keeps what it does. -/
def State.fieldReleased (s : State) : State :=
  if !s.ld.trained ∨ (s.ld.boot.field = 3 ∧ s.fd.released) then s
  else
    let fresh := !s.fd.released
    let s := s.onLd (Logic.modBoot fun b => { b with field := 3, kept := b.kept && !fresh })
    let s := if fresh then { s with fd := s.fd.leaveReset s.ld.boot.bare }
      else s.onLd fun l => { l with cores := { l.cores with restarting := ([5, 6, 7].filter (nbit s.fd.rolesDown)).foldl nset l.cores.restarting } }
    (s.startRoles [5, 6, 7]).showRoles

/-- A row that fails the march test is retired into a spare at once (R36); whether it was. -/
def Logic.bootRow (m : Memory) (row : Nat) (l : Logic) : Bool × Logic :=
  match memKind m with
  | some k =>
    if m == .mram || !l.rowInUse k row then (true, l)
    else
      let l := (l.rowRetires m row 3 false).rowMoved m row
      (l.isRetired k row, l)
  | none => (true, l)

/-- An erasure that a reset interrupted is finished before step 8b (R293). -/
def Logic.finishErasure (l : Logic) : Logic :=
  match l.mram.marker with
  | some k => if k.done then l else l.keep fun m => { m.erase with puf := m.puf && k.grade != 3, marker := some { k with done := true } }
  | none => l

/-- A record of class 6 of which no table gives the number (R286, R287, R33). -/
def Logic.looseRecord (p0 : Nat) (l : Logic) : Logic :=
  ({ l with draws := l.draws + 1 }).log (0x6000 + Sys2Proof.Config.free l.draws % 4096) R.pageCELLAR p0

/-- MEMORY_CHECKS_DONE (R36, R286, R287): step 8a. Rows that fail are retired; a role whose ROM fails, with no verified patch image, calls for
SAFE; the lid and the mesh are looked at. -/
def State.memoryChecked (x : MemoryFindings) (s : State) : State :=
  if s.ld.boot.main < 4 ∨ s.ld.boot.logic ≠ 0 then s
  else
    let l := (s.ld.modBoot fun b => { b with logic := 1 }).putb F.DEVICE_BOOTSTAT_ROM_OK (x.romOk && x.badRoles == [])
    let l := l.when (x.badRoles.any fun r => decide (r.val < 5)) (Logic.fault 8 true)
    let l := l.when (x.badRoles.any fun r => decide (5 ≤ r.val)) (Logic.fault 14 true)
    let l := l.when (x.badRoles != []) (Logic.modBoot fun b => { b with safe := nset b.safe 5 })
    let l := x.badImages.foldl (fun l r => l.looseRecord r) l
    let r := x.badRows.foldl (fun (a : Bool × Logic) y => let (ok, l) := a.2.bootRow y.1 y.2; (a.1 && ok, l)) (true, l)
    let s := { s with ld := ((r.2.putb F.DEVICE_BOOTSTAT_SRAM_OK r.1).put cellarSecOk 1).finishErasure }
    let s := s.startRoles [0, 2, 3, 4]
    let s := if x.lid then s.tamper 0 true else s
    if x.mesh then s.tamper 1 true else s

/-- KNOWN_ANSWER_TESTS_DONE (R36, R280, R285): step 8b, after the repetition that a failure brings. `tests`: the algorithms; `entropy`: the
start-up test of the entropy source; `id`: the PUF secret could be rebuilt. -/
def Logic.katsDone (tests entropy id : Bool) (l : Logic) : Logic :=
  if l.boot.logic ≠ 1 then l
  else
    let ok := tests && entropy
    let idOk := id && l.mram.puf
    let l := (l.modBoot fun b => { b with logic := 2, safe := if ok then b.safe else nset b.safe 6 }).putb F.DEVICE_BOOTSTAT_KAT_OK ok
    let l := ((l.putb cellarKatOk tests).putb cellarRngOk entropy).putb cellarIdOk idOk
    let l := l.when (!idOk) (Logic.fault 58 true)
    l.when (!ok) fun l => ({ l with cellar := { l.cellar with noSeal := true } }).fault 60 false

/-- The crate to apply at boot (R36, R38, R293): the physical slot, whether it waits for promotion, whether it is FALLBACK; the slots that
were judged and fail; and every slot that was judged, in order. With the known-answer tests failed no crate is verified. -/
def Logic.selectCrate (l : Logic) : Option (Nat × Bool × Bool) × List Nat × List Nat :=
  let m := l.mram
  let ctr := fun p => crateCounter (m.slot p).words
  if !l.gb F.DEVICE_BOOTSTAT_KAT_OK then (none, [], [])
  else if m.marker.isSome then ((if l.markedCrate m.active then some (m.active, false, false) else none), [], [m.active])
  else if m.owner.isNone then (none, [], [])
  else
    let bad := fun p => if (m.slot p).words = [] ∨ m.slotValid p then [] else [p]
    let first := if l.boot.back then [] else [m.pending]
    if !l.boot.back && m.slotValid m.pending && decide (ctr m.active < ctr m.pending) then (some (m.pending, true, false), [], first)
    else
      let b := if l.boot.back then [] else bad m.pending
      if m.slotValid m.active then (some (m.active, false, false), b, first ++ [m.active])
      else
        let all := first ++ [m.active, m.fallback]
        if m.slotValid m.fallback then (some (m.fallback, false, true), b ++ bad m.active, all)
        else (none, b ++ bad m.active ++ bad m.fallback, all)

/-- The crate selected is noted; the slots judged show their verdicts (R424). -/
def Logic.noteCrate (l : Logic) : Logic :=
  let (c, bad, judged) := l.selectCrate
  let l := Logic.each judged Logic.judgeSlot l
  let l := bad.foldl (fun l p => l.looseRecord p) l
  match c with
  | some (p, pend, fall) =>
    (l.modBoot fun b => { b with crate := some p, promote := pend }).putb F.DEVICE_BOOTSTAT_CRATE_FALLBACK fall
  | none => (l.modBoot fun b => { b with crate := none, promote := false }).put F.DEVICE_BOOTSTAT_CRATE_FALLBACK 0

/-- BOOT_EPOCH is written (R315): it never decreases. Sealing starts with the first window that closes from here on. -/
def Logic.epochWritten (l : Logic) : Logic :=
  (l.keep fun m => { m with epoch := if m.epoch < 0xFFFFFFFF then m.epoch + 1 else m.epoch }).modBoot fun b => { b with epochAt := some l.time }

/-- CRATE_VERIFIED (R38, R315): step 9a. `epoch`: BOOT_EPOCH could be written back. -/
def Logic.crateVerified (epoch : Bool) (l : Logic) : Logic :=
  if l.boot.main ≠ 4 ∨ l.boot.logic ≠ 2 ∨ l.boot.field ≠ 3 then l
  else
    let l := if l.boot.epochAt.isSome then l else if epoch then l.epochWritten else l.fault 12 false
    l.noteCrate.modBoot fun b => { b with main := 5 }

/-- EPOCH_WRITE_RETRY (R315). -/
def Logic.epochRetry (ok : Bool) (l : Logic) : Logic :=
  if 5 ≤ l.boot.main ∧ l.boot.epochAt.isNone ∧ ok then l.epochWritten else l

/-- What the CAL page shows of the calibration region that the field die holds (R235). -/
def Field.showFactory (f : Field) : Field :=
  ((f.putb F.CAL_STAT_FACTORY_OK (f.cal.usable && f.cal.rows == 0)).putb F.CAL_OTPSTAT_SIG_OK f.cal.usable).put F.CAL_OTPSTAT_BAD
    (min 255 f.cal.rows)

/-- The calibration region in the field die (R235, R241): signature, and the values of each row that does not read. -/
def Field.loadFactory (sig : Bool) (rows : List (List Nat)) (f : Field) : Field :=
  let f := Field.showFactory { f with cal := { f.cal with usable := sig, bad := rows.flatten, rows := rows.length } }
  f.when (!(sig && rows == [])) fun f => (f.evt R.pageCAL 4).fault 51 true

/-- What the field die takes over from the Larder record (R399): slice roles, segment maps, references, self-calibrated values. A slice the
record holds in role SELFTEST comes back in it, with no test in hand (the model's choice, log 146). -/
def Field.restoreLarder (k : LarderStore) (f : Field) : Field :=
  let f := { f with slices := [], rolesBack := true, cal := { f.cal with values := k.selfCal } }
  let f := k.slices.foldl (fun f x => match x.2 with
    | some r => f.modSlice x.1 fun _ => sliceOf r
    | none => f) f
  let gone := fun n => (k.retired.filter fun x => x.1 == 4 && x.2 / 9 == n).foldl (fun a x => nset a (x.2 % 9)) 0
  let f := f.each allTerms fun n f =>
    let on := tget (fun _ => 0xFF) k.segments n
    ((((f.put (F.TERM_DO_SEG_IN_SERVICE n) on).put (F.TERM_DO_SEG_RETIRED n) (gone n)).putb (F.STATUS_SPARED (R.pageTERM n)) (nbit on 8)).putb
      (F.TERM_DO_STAT_SEG_FAIL n) (decide (segCount on ≤ 5)))
  let f := (f.put F.EXC_REF_ACTIVE k.primary).putb F.EXC_REF_SPARE_AVAIL k.refRetired.isNone
  { f with exc := { f.exc with retiredRef := k.refRetired } }

/-- Neither copy of the Larder record is valid (R399): the factory assignment. The self-calibrated values are no part of it (R237). -/
def Logic.rebuildLarder (l : Logic) : Logic :=
  let l := l.keep fun m => { m with larder := { selfCal := m.larder.selfCal } }
  let l := ({ l with clocks := { l.clocks with hfrcB := false } }).put F.LARDER_RECORD_REBUILT 1
  ((l.evt R.pageLARDER 6).showClocks).fault 62 true

/-- The registers of field pages that the host reads take a configuration, page by page. -/
def Logic.takeFieldWords (t : RegFile) (l : Logic) : Logic :=
  Logic.each ((List.range 256).filter fun p => onField (p * 256)) (fun p l => l.takeFieldPage p t) l

/-- The logic die's own pages take a crate. -/
def Logic.applyOwn (ws : List Word) (l : Logic) : Logic :=
  let t := crateConfig l.regs ws
  let l := (logicPages l.regs t).foldl (fun l p => l.applyPage p t) l
  (l.takeFieldWords (fieldPart t)).putb F.DEVICE_MODE_PAIRED (crateTarget ws == 1)

/-- The field die takes a crate whole: its pages in order, its functions at once, and what it came from. -/
def Field.applyCrate (ws : List Word) (t : RegFile) (f : Field) : Field :=
  let f := (fieldPages f.cfg t).foldl (fun f p => f.applyPage p t) f
  let f := f.each (allTerms.filter fun n => (f.term n).next.isSome) fun n f => (f.funcSettle n).modTerm n fun t => { t with next := none }
  f.holdCrate ws

/-- The words of the crate that start-up has selected. -/
def Logic.bootCrate (l : Logic) : Option (List Word) := l.boot.crate.map fun p => (l.mram.slot p).words

/-- A crate on both dies. A field die that still runs one reports it first, and takes another only then (R42). One that was reset alone goes on
from the last SEQ delivered (R43, R160). -/
def State.applyBoot (ws : List Word) (s : State) : State :=
  let s := s.onLd fun l => (l.applyOwn ws).put F.DEVICE_BOOTSTAT_CRATE_OK 1
  let s := if s.ld.mram.marker.isNone then s.onLd (Logic.takeKeys ws) else s
  if s.ld.boot.kept && s.fd.configured then s
  else
    let s := s.onLd (Logic.put F.DEVICE_MODE_FIELD_CFG 1)
    { s with fd := (s.fd.applyCrate ws (crateConfig (fieldPart s.fd.cfg) ws)).resumeSeqs s.ld }

/-- With no crate to apply the field die is unconfigured (R36): one that ran on through the reset gives up its configuration and what it
did under it. SEQ goes on over a reset of the logic die alone (R160). -/
def State.unconfigure (s : State) : State :=
  if s.fd.released && s.fd.configured then
    let f := s.fd
    let g := { f.resetAll with
      released := true, time := f.time, wdArmed := f.wdArmed, out := f.out, tdacFault := f.tdacFault
      veto := f.veto, deferred := f.deferred, rolesDown := f.rolesDown, diagGone := f.diagGone, seqsLost := f.seqsLost
      ctxs := f.ctxs.map fun (x : Nat × CtxRun) => (x.1, { seq := x.2.seq, gap := true }) }
    let g := g.each ((List.range 4).filter fun k => (f.step k).absent) fun k g => g.modStep k fun s => { s with absent := true }
    let g := (List.range 4).foldl (fun g k => g.put (F.SLICE_GRP_ALIGNED k) 1) g
    { s with ld := s.ld.modBoot fun b => { b with kept := false }, fd := g.showFactory.restoreLarder s.ld.mram.larder }
  else s

/-- Has an alarm during start-up left another crate selected than the marker's (R293)? -/
def Logic.strayed (l : Logic) : Bool :=
  l.mram.marker.isSome && decide (5 ≤ l.boot.main ∧ l.boot.main < 8) &&
    (l.boot.promote || l.boot.crate != (if l.gb F.DEVICE_BOOTSTAT_KAT_OK && l.markedCrate l.mram.active then some l.mram.active else none))

/-- Steps 9b and 9c are repeated with the crate selected anew (R38, R293). -/
def Logic.selectAgain (l : Logic) : Logic := ((l.modBoot fun b => { b with main := 5, back := true }).put F.DEVICE_MODE_FIELD_CFG 0).noteCrate

/-- CALIBRATION_LOADED (R34, R235, R399): step 9b. `record`: a copy of the Larder record is valid. -/
def State.calibrationLoaded (sig : Bool) (rows : List (List Nat)) (record : Bool) (s : State) : State :=
  if s.ld.boot.main ≠ 5 then s
  else
    let s := s.onLd fun l => l.when l.strayed Logic.selectAgain
    let s := s.onLd fun l => ((if record then l else l.rebuildLarder).putb F.DEVICE_BOOTSTAT_OTP_OK (sig && rows == [])).modBoot fun b =>
      { b with main := 6 }
    let s := if s.fd.released then { s with fd := s.fd.loadFactory sig rows } else s
    let s := if s.fd.released && !s.ld.boot.kept then { s with fd := s.fd.restoreLarder s.ld.mram.larder } else s
    match s.ld.bootCrate with
    | some ws => s.applyBoot ws
    | none => s.unconfigure

/-- FIELD_CONFIG_HASH_REPORT (R42): the field die that ran on keeps its configuration where it came from the crate selected, and takes that
crate otherwise. -/
def State.hashReport (s : State) : State :=
  if !s.ld.boot.kept ∨ s.ld.boot.main < 6 ∨ !s.fd.released ∨ !s.fd.configured ∨ s.ld.gb F.DEVICE_MODE_FIELD_CFG then s
  else match s.ld.bootCrate with
    | none => s
    | some ws =>
      let s := s.onLd (Logic.put F.DEVICE_MODE_FIELD_CFG 1)
      if s.fd.crateHash = some (crateHash ws) then s
      else { s with fd := s.fd.applyCrate ws (crateConfig (fieldPart s.fd.cfg) ws) }

/-- A slice off the median is retired at boot (R37): the check slice takes a programme, the spare the check slice's place. -/
def Field.bootOff (s : Nat) (f : Field) : Field :=
  let r := f.slice s
  let toCheck := fun (f : Field) => match f.spareSlice with
    | some j => (f.setRole j fun r => { r with role := .check, spared := true }).tell (.spareIn 0 j)
    | none => f
  match r.role with
  | .retired => f
  | .check => toCheck (f.retireSlice s 3 48 false)
  | .active =>
    if !r.progValid then f.retireSlice s 3 48 false
    else match f.checkSlice with
      | some k => toCheck ((f.migrate r.prog k true).retireSlice s 3 48 false)
      | none => match f.spareSlice with
        | some j => ((f.migrate r.prog j true).tell (.spareIn 0 j)).retireSlice s 3 48 false
        | none => (f.retireSlice s 3 48 false).stopProg r.prog
  | _ => f.retireSlice s 3 48 false

/-- The slices off the median in the order in which they give up their places: those without a programme first. -/
def Field.offOrder (off : List Nat) (f : Field) : List Nat :=
  let on := off.eraseDups.filter fun s => (f.slice s).role != .retired
  on.filter (fun s => (f.slice s).role != .active) ++ on.filter fun s => (f.slice s).role == .active

/-- What the cross-checks find on the field die (R37). A test DAC marked faulty is a detection of source TDAC (R370; log 175). -/
def Field.crossChecked (x : CrossChecks) (f : Field) : Field :=
  let off := f.offOrder (x.off.map Fin.val)
  let f := f.each off Field.bootOff
  let f := f.when (f.checkSlice.isNone) (Field.phase 6)
  let f := f.when (decide (2 ≤ off.length)) (Field.fault 55 (decide (2 < off.length)))
  let f := Field.when x.tdac (Field.fault 52 false) { f with tdacFault := x.tdac }
  match x.ref with
  | some b => if f.exc.retiredRef.isSome then f else f.retireRef b 3 false
  | none => f

/-- PENDING becomes ACTIVE, or a promotion that the cross-checks forbid is discarded and the previous ACTIVE is applied (R38). After an alarm
the marker's crate is (R293). -/
def State.promoteOr (fails : Bool) (s : State) : State :=
  if s.ld.strayed then s.onLd Logic.selectAgain
  else if !s.ld.boot.promote then s
  else if fails then s.onLd Logic.selectAgain
  else s.onLd fun l =>
    ((l.keep (Mram.promote true)).put F.DEVICE_BOOTSTAT_PENDING_PROMOTED 1).modBoot fun b => { b with promote := false }

/-- SLICE_CROSS_CHECKS_DONE (R37, R38): step 9c. XCHK_OK reads 1 only where every slice has passed in every run of this boot. -/
def State.crossChecksDone (x : CrossChecks) (s : State) : State :=
  if s.ld.boot.main ≠ 6 ∨ !s.fd.released then s
  else
    let n := (s.fd.offOrder (x.off.map Fin.val)).length
    let s := { s with fd := s.fd.crossChecked x }
    let s := s.onLd fun l =>
      let all := l.g F.DEVICE_BOOTSTAT_SLICES_RETIRED + n
      let l := ((l.putb F.DEVICE_BOOTSTAT_XCHK_OK (all == 0 && !x.tdac)).put F.DEVICE_BOOTSTAT_SLICES_RETIRED all).putb
        F.DEVICE_BOOTSTAT_TDAC_FAULT x.tdac
      (l.putb F.DEVICE_BOOTSTAT_REF_FAULT x.ref.isSome).modBoot fun b =>
        { b with main := 7, safe := if 2 < n then nset b.safe 5 else b.safe }
    s.promoteOr (decide (2 < n))

/-- Does CLAIM count as held (R33)? `now`: it still reads 1. -/
def Logic.claimHeld (now : Bool) (l : Logic) : Bool :=
  let purged := match l.mram.marker with
    | some k => k.grade == 2
    | none => false
  l.gb F.DEVICE_STRAPS_CLAIM && l.gb ⟨R.DEVICE_RSTCAUSE, 0, 1⟩ && now && (l.mram.owner.isNone || purged)

/-- The mode start-up ends in, and ENROL_OPEN (R39). -/
def Logic.entryMode (claim : Bool) (l : Logic) : Mode × Bool :=
  let m := l.mram
  let plain : Mode × Bool :=
    if m.owner.isNone then (.commission, claim)
    else if l.boot.safe ≠ 0 then (.safe, false)
    else match l.bootCrate with
      | none => (.commission, false)
      | some ws => (if nbit (crateFlags ws) 1 then .commission else if crateTarget ws = 1 then .follow else .run, false)
  match m.marker with
  | some k => if k.grade = 2 ∧ claim then (.commission, true) else (.lockout, false)
  | none => plain

/-- Forces end at mode entry (R222). -/
def Field.endForces (f : Field) : Field :=
  f.each allTerms fun n f => (f.own (F.TERM_SS_FORCE_FORCE n) 0).put (F.TERM_SS_STAT_FORCE n) 0

/-- Into the mode that start-up ends in. `plead`: PLEAD is seen held (R336). A cause of SAFE that stands leads on to SAFE. -/
def State.enterMode (m : Mode) (plead : Bool) (s : State) : State :=
  match m with
  | .run =>
    let s := s.release .run 2 true
    if s.ld.causesClear then s else s.hold .safe
  | .follow => s.follow.onLd fun l => (l.putb F.PAIR_STAT_PLEAD_IN plead).modPair fun p => { p with waiting := !plead }
  | .lockout => (s.hold .lockout).onLd (Logic.evt R.pageCELLAR 2)
  | m => s.hold m

/-- A CLAIM that does not count is recorded (R33). -/
def Logic.noteClaim (now : Bool) (l : Logic) : Logic :=
  l.when (l.gb F.DEVICE_STRAPS_CLAIM && !(l.gb ⟨R.DEVICE_RSTCAUSE, 0, 1⟩ && now)) (Logic.looseRecord 0)

/-- MODE_ENTRY (R39, R382, R384): step 10, or SAFE after failed training (R36). Where an alarm has left another crate than the marker's, steps 9b and
9c come again first (R293). `us`: microseconds since the release of internal reset; `intact`:
the Loft record in flight reads intact. -/
def State.modeEntry (claim : Bool) (us : Nat) (intact plead : Bool) (s : State) : State :=
  let b := s.ld.boot
  let early := b.field == 4 && b.logic == 2 && s.ld.mode == .boot
  if b.main ≠ 7 ∧ !early then s
  else if s.ld.strayed then s.onLd Logic.selectAgain
  else
    let was := s.fd.connected
    let l := (s.ld.loftTorn intact).noteClaim claim
    let l := l.putWord R.DEVICE_BOOTTIME (word (min 0xFFFFFFFF us))
    let l := (List.range 7).foldl (fun l k => l.when (nbit b.safe k) (Logic.put (safeCause k) 1)) l
    let (m, open_) := l.entryMode (l.claimHeld claim)
    let l := l.putb F.DEVICE_MODE_ENROL_OPEN open_
    let l := l.log 1 R.pageDEVICE (l.regs.word R.DEVICE_RSTCAUSE).toNat (l.regs.word R.DEVICE_BOOTSTAT).toNat (min 0xFFFFFFFF us)
    let l := { l with wdog := { l.wdog with firstDue := l.g F.WDOG_TASKS_EN != 0 } }
    let l := if b.main = 7 then l.modBoot fun b => { b with main := 8 } else l
    let s := ({ s with ld := l }.onFd Field.endForces).enterMode m plead
    let s := s.onFd fun f => f.when (!was && f.connected) Field.beginRuns
    s.onLd Logic.approve

/-- The crate the field die's configuration is applied from again after its own reset (R43): ACTIVE, or during start-up the crate
selected. With the known-answer tests failed no crate is verified (R36). -/
def Logic.activeCrate (l : Logic) : Option (List Word) :=
  let p := l.mram.active
  if l.boot.main < 8 then l.bootCrate
  else if l.gb F.DEVICE_BOOTSTAT_KAT_OK && (l.mram.slotValid p || l.markedCrate p) then some (l.mram.slot p).words else none

/-- The ACTIVE slot is judged for it (R424). -/
def Logic.judgeActive (l : Logic) : Logic := l.when (decide (8 ≤ l.boot.main)) (Logic.judgeSlot l.mram.active)

/-- What a field die that was reset alone takes over from the logic die beside its configuration (R43, R396). -/
def Field.rejoin (l : Logic) (f : Field) : Field :=
  let f := { f.showFactory with
    tdacFault := l.gb F.DEVICE_BOOTSTAT_TDAC_FAULT
    veto := l.g F.LARDER_VETO_KIND
    deferred := l.larder.pending.filter fun x => x.1 == 0 || x.1 == 4 || x.1 == 5
    paired := l.gb F.PAIR_STAT_READY
    lead := l.g F.PAIR_STAT_ROLE == 1
    rolesDown := l.fieldDown
    diagGone := nbit l.cores.lost 6 }
  f.restoreLarder l.mram.larder

/-- The outputs of a field die that was reset alone (R30, R43): commanded values under RESTORE.FIELD, or safe states with OUTHOLD; an
output whose OUTHOLD bit reads 1 (`held`) keeps it. A mode that holds outputs does so without releasing them, so that HOLD_LAST is
OFF. -/
def Field.comeBack (m : Mode) (restore : Bool) (held : Nat) (f : Field) : Field :=
  match m with
  | .boot => f
  | .follow => f.enterFollow
  | m =>
    let f := f.each (allTerms.filter fun n => isOut (f.func n)) fun n f => f.setStay n (nbit held n || !restore)
    if m.holds then f.holdOutputs m else f.releaseOutputs m (fun _ => true) false

/-- Digital inputs restart their counts after a field-die reset (R181): CNT_RESET. -/
def Field.countsReset (f : Field) : Field :=
  f.each (allTerms.filter fun n => f.func n == 1) fun n f => f.evt (R.pageTERM n) 9

/-- FIELD_CONFIG_REAPPLIED (R43). -/
def State.reapplied (s : State) : State :=
  if s.ld.boot.main < 6 ∨ !s.ld.linkUp ∨ !s.fd.released ∨ s.fd.configured then s
  else match s.ld.activeCrate with
    | none => s.onLd Logic.judgeActive
    | some ws =>
      let t := crateConfig (fieldPart s.ld.regs) ws
      let s := s.onLd fun l => (l.judgeActive.takeFieldWords t).put F.DEVICE_MODE_FIELD_CFG 1
      let f := (s.fd.rejoin s.ld).applyCrate ws t
      let f := f.comeBack s.ld.mode (s.ld.restores 1) (s.ld.regs.word R.DEVICE_OUTHOLD).toNat
      let f := f.each allTerms Field.force
      let f := f.when f.connected Field.beginRuns
      ({ s with fd := (f.resumeSeqs s.ld).countsReset }).hear

/-- INTERNAL_RESET_RELEASE (R34). -/
def execInternalResetRelease (s : State) : Host.Outcome State Fault Refusal := runLogic Logic.resetReleased s

/-- STRAPS_LATCHED (R32). -/
def execStrapsLatched (boot : Fin 16) (pads : Pads) (s : State) : Host.Outcome State Fault Refusal :=
  runLogic (Logic.strapsLatched boot pads) s

/-- OSC_WAIT_END (R34). -/
def execOscWaitEnd (s : State) : Host.Outcome State Fault Refusal := runLogic Logic.waitOver s

/-- PLL_LOCKED (R34). -/
def execPllLocked (s : State) : Host.Outcome State Fault Refusal := runLogic Logic.pllLocked s

/-- VISO_IN_REGULATION (R34). -/
def execVisoInRegulation (s : State) : Host.Outcome State Fault Refusal := runLogic Logic.visoUp s

/-- BARRIER_TRAINED (R36). -/
def execBarrierTrained (ok : Bool) (s : State) : Host.Outcome State Fault Refusal := runBoth (State.barrierTrained ok) s

/-- BARRIER_RETRAIN (R36). -/
def execBarrierRetrain (s : State) : Host.Outcome State Fault Refusal := runLogic Logic.retrain s

/-- FIELD_DIE_RELEASED (R34). -/
def execFieldDieReleased (s : State) : Host.Outcome State Fault Refusal := runBoth State.fieldReleased s

/-- MEMORY_CHECKS_DONE (R36). -/
def execMemoryChecksDone (m : MemoryFindings) (s : State) : Host.Outcome State Fault Refusal := runBoth (State.memoryChecked m) s

/-- KNOWN_ANSWER_TESTS_DONE (R285). -/
def execKnownAnswerTestsDone (tests entropy id : Bool) (s : State) : Host.Outcome State Fault Refusal :=
  runLogic (Logic.katsDone tests entropy id) s

/-- CRATE_VERIFIED (R38). -/
def execCrateVerified (epoch : Bool) (s : State) : Host.Outcome State Fault Refusal := runLogic (Logic.crateVerified epoch) s

/-- CALIBRATION_LOADED (R235). -/
def execCalibrationLoaded (sig : Bool) (rows : List (List Nat)) (record : Bool) (s : State) : Host.Outcome State Fault Refusal :=
  runBoth (State.calibrationLoaded sig rows record) s

/-- SLICE_CROSS_CHECKS_DONE (R37). -/
def execSliceCrossChecksDone (x : CrossChecks) (s : State) : Host.Outcome State Fault Refusal := runBoth (State.crossChecksDone x) s

/-- MODE_ENTRY (R39). -/
def execModeEntry (claim : Bool) (us : Nat) (intact plead : Bool) (s : State) : Host.Outcome State Fault Refusal :=
  runBoth (State.modeEntry claim us intact plead) s

/-- FIELD_CONFIG_HASH_REPORT (R42). -/
def execFieldConfigHashReport (s : State) : Host.Outcome State Fault Refusal := runBoth State.hashReport s

/-- FIELD_CONFIG_REAPPLIED (R43). -/
def execFieldConfigReapplied (s : State) : Host.Outcome State Fault Refusal := runBoth State.reapplied s

/-- EPOCH_WRITE_RETRY (R315). -/
def execEpochWriteRetry (ok : Bool) (s : State) : Host.Outcome State Fault Refusal := runLogic (Logic.epochRetry ok) s

end Sys2Proof.Machine
end

