-- ==== Sys2Proof/Machine/Legacy.lean ====
section
/-! DEFINITION. The forerunner protocol (chapter 16): its frames, and its window of 64 sixteen-bit registers. A command's length is eight
bits and `more`. -/

namespace Sys2Proof.Machine

open Sys2Proof

/-- HOST.ERR.OPCODE of a forerunner frame (R271). -/
def opLegacyWrite : Nat := 0xF0
def opLegacyRead : Nat := 0xF1

/-- Does the forerunner protocol answer (R35, R266)? -/
def Logic.legacyUp (l : Logic) : Bool := decide (1 ≤ l.boot.logic) && l.gb F.HOST_LEGACY_EN

/-- DRDY (R272): the channels whose snapshot has not been latched. -/
def Logic.drdy (l : Logic) : Nat := ((List.range 16).filter fun c => l.gb (F.CTX_SNAPSTAT_UNREAD c)).foldl (fun a c => a + 2 ^ c) 0

/-- LSTATUS (R272). -/
def Logic.lstatus (l : Logic) : Nat :=
  pack [(0, modeCode l.mode), (3, b2n (l.g F.HOST_FERRCOUNT_FERR != 0)), (4, l.g F.HOST_ERR_REASON),
    (8, b2n (l.regs.word R.DEVICE_OUTHOLD != 0#32))]

/-- The bits the host receives of a 24-bit reply in a frame of W bits (R270): zeros after the reply, ones for extra clocks. -/
def shiftedOut (w reply : Nat) : Nat :=
  if w ≤ 24 then reply / 2 ^ (24 - w)
  else if w ≤ 32 then reply * 2 ^ (w - 24)
  else reply * 2 ^ 8 * 2 ^ (w - 32) + (2 ^ (w - 32) - 1)

/-- The lanes at a clock of a forerunner frame of W bits (R268): the device drives its reply on HIO1 alone, the first bit from the fall of HSEL;
none: high-impedance. -/
def Logic.legacyLane (w lane clock : Nat) (l : Logic) : Option Bool :=
  if lane = 1 ∧ clock < w then some (l.host.legacySent.testBit (w - 1 - clock)) else none

/-- HSTB over a frame's clocks under the protocol in force (R262, R268): high-impedance throughout a forerunner frame. -/
def Logic.strobe (op n : Nat) (read : Bool) (l : Logic) : Option (List Bool) :=
  if l.gb F.HOST_LEGACY_EN then none else strobes l.host.lanes l.host.cfg op n read

/-- The command that a forerunner frame of W bits spells, `v` being what the host sent, its first bit the highest (R269): RNW, ADDR and DATA
of its first 32 bits. -/
def legacyCommand (w v : Nat) : Instr :=
  let u := min w 32
  let v := v / 2 ^ (w - u)
  if h : w < 4 then .legacyShortFrame ⟨w, h⟩
  else if h : w - 4 < 4 then .legacyPoll ⟨w - 4, h⟩
  else
    let addr := Fin.ofNat 64 (v / 2 ^ (u - 7))
    if v.testBit (u - 1) then .legacyRead (w - 8) addr
    else .legacyWrite (w - 8) addr (if 24 ≤ u then Fin.ofNat 65536 (v / 2 ^ (u - 24)) else 0)

/-- The legacy status byte of a frame that was a poll or a command (R270). -/
def Logic.legacyStatus (err : Bool) (l : Logic) : Nat :=
  pack [(0, modeCode l.mode), (3, b2n l.urgent), (4, b2n (l.drdy != 0)), (5, b2n (l.activePages != [])), (6, b2n err), (7, 1)]

/-- A frame is refused (R271): ERRCNT, HOST.ERR and FERRCOUNT. -/
def Logic.legacyRefused (opcode : Nat) (reasons : List Nat) (addr : Nat) (l : Logic) : Logic :=
  ({ l with host := { l.host with legacyErrs := min 0xFFFF (l.host.legacyErrs + 1) } }).frameError opcode (reasons.map fun r => (r, addr))

/-- A short frame (R269): the pending reply stays, and its ERR bit sets. No rule names an opcode and an address for HOST.ERR. -/
def State.legacyShort (w : Nat) (s : State) : State :=
  if !s.ld.legacyUp then s
  else s.onLd fun l =>
    let l := { l with
      draws := l.draws + 2
      host := { l.host with short := false, legacySent := shiftedOut (min w 3) l.host.legacyNext, legacyNext := nset l.host.legacyNext 22 } }
    l.legacyRefused (Sys2Proof.Config.free (l.draws - 2) % 256) [4] (Sys2Proof.Config.free (l.draws - 1) % 65536)

/-- A frame of W bits that is decoded (R268-R270): it shifts out the pending reply and acts; its own reply is pending from then on. `act`
answers the reasons of a refusal, none for a frame that is accepted, and the reply data. -/
def State.legacyFrame (w opcode addr : Nat) (act : State → (List Nat × Nat) × State) (s : State) : State :=
  if !s.ld.legacyUp then s
  else if s.ld.host.short then (s.onLd fun l => { l with host := { l.host with provoked := true } }).legacyShort 0
  else
    let s := s.onLd fun l => { l with host := { l.host with legacySent := shiftedOut w l.host.legacyNext } }
    let s := if 32 < w then s.onLd Logic.extraEdges else s
    let ((r, data), s) := act s
    let s := if r.isEmpty then s else s.onLd (Logic.legacyRefused opcode r addr)
    if s.ld.legacyUp then s.onLd fun l => { l with host := { l.host with legacyNext := l.legacyStatus (!r.isEmpty) * 65536 + data % 65536 } }
    else s.onLd Logic.dropReply

/-- A sixteen-bit code of a mean (R273): x̄ / 256 clamped; 0x8000 without a mean. -/
def Logic.legacyData (c : Nat) (l : Logic) : Nat :=
  let flags := (l.regs.word (R.CTX_FLAGS c)).toNat
  let n := (l.regs.word (R.CTX_COUNT c)).toNat
  if n = 0 ∨ nbit flags 12 ∨ nbit flags 13 then 0x8000
  else
    let raw : Int := ((l.regs.word (R.CTX_SUM_HI c)).toNat * 2 ^ 32 + (l.regs.word (R.CTX_SUM_LO c)).toNat : Nat)
    let sum := if 2 ^ 63 ≤ raw then raw - 2 ^ 64 else raw
    unsigned 16 (max (-32767) (min 32767 (roundAway sum (256 * n))))

/-- CH[n]_STAT of the snapshot that is latched (R272). -/
def State.legacyStat (c : Nat) (s : State) : Nat :=
  let l := s.ld
  let f := fun b => b2n (nbit (l.regs.word (R.CTX_FLAGS c)).toNat b)
  let any := fun (bs : List Nat) => b2n (bs.any fun b => f b == 1)
  pack [(0, l.g (F.CTX_SNAPSTAT_UNREAD c)), (1, s.read (F.CTX_THSTAT_B_STATE c)), (2, s.read (F.CTX_THSTAT_A_STATE c)), (3, any [8, 9]),
    (4, any [7, 12, 13]), (5, f 1), (6, f 6), (7, f 5), (8, (l.regs.word (R.CTX_SEQ c)).toNat % 256)]

/-- CH[n]_CFG in force (R272). -/
def State.legacyCfg (c : Nat) (s : State) : Nat :=
  let range := if s.read (F.CTX_AR_EN c) = 1 then 7 else s.read (F.CTX_CTXSTAT_RANGE_ACT c)
  pack [(0, range), (4, s.read (F.CTX_CFG_REFSEL c)), (8, s.read (F.CTRL_EN (R.pageCTX c)))]

/-- A read of CH[n]_DATA latches the channel's latest snapshot (R273). -/
def State.latchChannel (c : Nat) (s : State) : Nat × State :=
  let x : LegacyLatch := { data := s.ld.legacyData c, stat := s.legacyStat c }
  (x.data, s.onLd fun l =>
    ({ l with host := { l.host with latches := tput (fun _ => {}) l.host.latches c x } }).put (F.CTX_SNAPSTAT_UNREAD c) 0)

/-- The states of digital inputs from terminal n (R272). -/
def State.legacyInputs (n : Nat) (s : State) : Nat :=
  ((List.range 16).filter fun k => s.read (F.TERM_CELLSTAT_FUNC_ACT (n + k)) == 1 && s.read (F.TERM_DISTAT_STATE (n + k)) == 1).foldl
    (fun a k => a + 2 ^ k) 0

/-- A legacy register's content, and what its read does (R272, R273). -/
def State.legacyFetch (a : Nat) (s : State) : Nat × State :=
  if a < 0x10 then s.latchChannel a
  else if a < 0x20 then ((tget (fun _ => ({} : LegacyLatch)) s.ld.host.latches (a - 0x10)).stat, s)
  else if a < 0x30 then (s.legacyCfg (a - 0x20), s)
  else match a with
    | 0x30 => (s.ld.lstatus, s)
    | 0x31 => (s.legacyInputs 0, s)
    | 0x32 => (s.legacyInputs 16, s)
    | 0x33 => (s.ld.drdy, s)
    | 0x34 =>
      let s := s.onLd fun l => { l with host := { l.host with times := l.time % 2 ^ 64 } }
      (s.ld.host.times % 65536, s)
    | 0x35 => (s.ld.host.times / 2 ^ 16 % 65536, s)
    | 0x36 => (s.ld.host.times / 2 ^ 32 % 65536, s)
    | 0x37 => (s.ld.host.times / 2 ^ 48 % 65536, s)
    | 0x3A => (0x1608, s)
    | 0x3B => (0x3218, s)
    | 0x3C => (s.ld.host.legacyErrs, s)
    | 0x3D => (pack [(0, s.ld.host.mismatches), (10, s.ld.host.mismatchAt)], s)
    | _ => (0, s)

/-- A read command (R269, R271): in BOOT only ID, REV and LSTATUS answer. -/
def State.legacyReadCmd (a : Nat) (s : State) : (List Nat × Nat) × State :=
  if s.ld.mode = .boot ∧ a ≠ 0x30 ∧ a ≠ 0x3A ∧ a ≠ 0x3B then (([7], 0xFFFF), s)
  else
    let (v, s) := s.legacyFetch a
    (([], v), s)

/-- A write of CH[n]_CFG (R274): compared with the value in force. -/
def State.compareCfg (c data : Nat) (s : State) : (List Nat × Nat) × State :=
  let v := s.legacyCfg c
  if data = v then (([], v), s)
  else (([15], v), s.onLd fun l => { l with host := { l.host with mismatches := min 1023 (l.host.mismatches + 1), mismatchAt := 0x20 + c } })

/-- What a native frame's refusal makes of a write that acts as that frame (R250). -/
def actsAs (data : Nat) (x : List (Nat × Nat) × State) : (List Nat × Nat) × State :=
  match x.1 with
  | [] => (([], data), x.2)
  | cs => ((cs.map (·.1), 0xFFFF), x.2)

/-- KICK (R272, R369): CHECK_IN of task 0; the first one restarts a halted watchdog. -/
def State.kick (s : State) : List (Nat × Nat) × State :=
  let s := if nbit (s.ld.g F.WDOG_TASKS_EN) 0 then s.onLd Logic.wdogRestart else s
  s.serviceTask 0

/-- A legacy register takes a write (R266, R271-R274). -/
def State.legacyStore (a data : Nat) (s : State) : (List Nat × Nat) × State :=
  let follower := s.ld.mode == .follow
  if a < 0x20 then (([1], 0xFFFF), s)
  else if a < 0x30 then s.compareCfg (a - 0x20) data
  else match a with
    | 0x33 => (([1], 0xFFFF), s)
    | 0x38 => if follower then ((if data / 16 = 0 then [7] else [7, 14], 0xFFFF), s) else actsAs data (s.syncGroups data)
    | 0x39 =>
      if follower then ((if data = 0x5A5A then [7] else [7, 14], 0xFFFF), s)
      else if data ≠ 0x5A5A then (([14], 0xFFFF), s) else actsAs data s.kick
    | 0x3E => if data ≠ 0xA5C3 then (([14], 0xFFFF), s) else (([], data), s.onLd (Logic.put F.HOST_LEGACY_EN 0))
    | _ => (([], data), s)

/-- A write command (R269, R271): without its data it is short; in BOOT every write is refused. -/
def State.legacyWriteCmd (w a data : Nat) (s : State) : (List Nat × Nat) × State :=
  let short := if w < 24 then [4] else []
  if s.ld.mode = .boot then ((short ++ [7], 0xFFFF), s)
  else if w < 24 then ((short, 0xFFFF), s)
  else s.legacyStore a data

/-- A read command of 8 + `more` bits. -/
def State.legacyRead (more a : Nat) (s : State) : State := s.legacyFrame (8 + more) opLegacyRead a (State.legacyReadCmd a)

/-- A write command of 8 + `more` bits. -/
def State.legacyWrite (more a data : Nat) (s : State) : State :=
  s.legacyFrame (8 + more) opLegacyWrite a (State.legacyWriteCmd (8 + more) a data)

/-- LEGACY_POLL (R269): 4 + `more` bits. -/
def execLegacyPoll (more : Fin 4) (s : State) : Host.Outcome State Fault Refusal :=
  runBoth (fun s => s.legacyFrame (4 + more) 0xF2 0 fun s => (([], s.ld.lstatus), s)) s

/-- LEGACY_READ (R269). -/
def execLegacyRead (more : Nat) (a : Fin 64) (s : State) : Host.Outcome State Fault Refusal := runBoth (State.legacyRead more a) s

/-- LEGACY_WRITE (R269). -/
def execLegacyWrite (more : Nat) (a : Fin 64) (data : Fin 65536) (s : State) : Host.Outcome State Fault Refusal :=
  runBoth (State.legacyWrite more a data) s

/-- LEGACY_SHORT_FRAME (R269). -/
def execLegacyShortFrame (w : Fin 4) (s : State) : Host.Outcome State Fault Refusal := runBoth (State.legacyShort w) s

/-- LEGACY_CH_DATA_READ (R273). -/
def execLegacyChDataRead (more : Nat) (n : Fin 16) (s : State) : Host.Outcome State Fault Refusal := runBoth (State.legacyRead more n) s

/-- LEGACY_CH_CFG_WRITE (R274). -/
def execLegacyChCfgWrite (more : Nat) (n : Fin 16) (data : Fin 65536) (s : State) : Host.Outcome State Fault Refusal :=
  runBoth (State.legacyWrite more (0x20 + n) data) s

/-- LEGACY_TIME_READ (R272). -/
def execLegacyTimeRead (more : Nat) (s : State) : Host.Outcome State Fault Refusal := runBoth (State.legacyRead more 0x34) s

/-- LEGACY_SYNC (R272). -/
def execLegacySync (more : Nat) (data : Fin 65536) (s : State) : Host.Outcome State Fault Refusal :=
  runBoth (State.legacyWrite more 0x38 data) s

/-- LEGACY_KICK (R272). -/
def execLegacyKick (more : Nat) (s : State) : Host.Outcome State Fault Refusal := runBoth (State.legacyWrite more 0x39 0x5A5A) s

/-- LEGACY_MODESEL (R266). -/
def execLegacyModesel (more : Nat) (data : Fin 65536) (s : State) : Host.Outcome State Fault Refusal :=
  runBoth (State.legacyWrite more 0x3E data) s

end Sys2Proof.Machine
end

