-- ==== Sys2Proof/Machine/Dispatch.lean ====
section
/-! DEFINITION. What each command does: one arm per constructor, one meaning per arm. -/

namespace Sys2Proof.Machine

open Sys2Proof

/-- The command's effect on everything but the queue. -/
def exec (i : Instr) (s : State) : Host.Outcome State Fault Refusal :=
  match i with
  | .barrierFrameSlot fromLogic => Sys2Proof.Machine.execBarrierFrameSlot fromLogic s
  | .barrierIdle toField c resend => Sys2Proof.Machine.execBarrierIdle toField c resend s
  | .barrierCmd c resend => Sys2Proof.Machine.execBarrierCmd c resend s
  | .barrierCfg c resend => Sys2Proof.Machine.execBarrierCfg c resend s
  | .barrierTime c resend => Sys2Proof.Machine.execBarrierTime c resend s
  | .barrierSnap c resend => Sys2Proof.Machine.execBarrierSnap c resend s
  | .barrierState c resend m => Sys2Proof.Machine.execBarrierState c resend m s
  | .barrierEvent c resend => Sys2Proof.Machine.execBarrierEvent c resend s
  | .barrierAckonly toField c resend => Sys2Proof.Machine.execBarrierAckonly toField c resend s
  | .barrierWatchdogExpiry => Sys2Proof.Machine.execBarrierWatchdogExpiry s
  | .linkDown => Sys2Proof.Machine.execLinkDown s
  | .laneErrorLimit lane errors => Sys2Proof.Machine.execLaneErrorLimit lane errors s
  | .laneSwitch => Sys2Proof.Machine.execLaneSwitch s
  | .coreSelftest role pass => Sys2Proof.Machine.execCoreSelftest role pass s
  | .coreHeartbeatMissing role => Sys2Proof.Machine.execCoreHeartbeatMissing role s
  | .roleResume role => Sys2Proof.Machine.execRoleResume role s
  | .checkpoint role => Sys2Proof.Machine.execCheckpoint role s
  | .secMismatch => Sys2Proof.Machine.execSecMismatch s
  | .secRestartDone pass => Sys2Proof.Machine.execSecRestartDone pass s
  | .scrubRead mem row errors use => Sys2Proof.Machine.execScrubRead mem row errors use s
  | .rowMoveDone mem row => Sys2Proof.Machine.execRowMoveDone mem row s
  | .rowCountExpiry mem row => Sys2Proof.Machine.execRowCountExpiry mem row s
  | .modeReqCommission ctr => Sys2Proof.Machine.execModeReqCommission ctr s
  | .modeReqRun ctr => Sys2Proof.Machine.execModeReqRun ctr s
  | .modeReqSafe ctr => Sys2Proof.Machine.execModeReqSafe ctr s
  | .powerOnReset => Sys2Proof.Machine.execPowerOnReset s
  | .brownOutReset => Sys2Proof.Machine.execBrownOutReset s
  | .nresetAssert => Sys2Proof.Machine.execNresetAssert s
  | .deviceResetLogic ctr key => Sys2Proof.Machine.execDeviceResetLogic ctr key s
  | .deviceResetField ctr key => Sys2Proof.Machine.execDeviceResetField ctr key s
  | .deviceResetBoth ctr key => Sys2Proof.Machine.execDeviceResetBoth ctr key s
  | .fieldRailBrownOut => Sys2Proof.Machine.execFieldRailBrownOut s
  | .internalResetRelease => Sys2Proof.Machine.execInternalResetRelease s
  | .strapsLatched boot pads => Sys2Proof.Machine.execStrapsLatched boot pads s
  | .oscWaitEnd => Sys2Proof.Machine.execOscWaitEnd s
  | .pllLocked => Sys2Proof.Machine.execPllLocked s
  | .visoInRegulation => Sys2Proof.Machine.execVisoInRegulation s
  | .barrierTrained ok => Sys2Proof.Machine.execBarrierTrained ok s
  | .barrierRetrain => Sys2Proof.Machine.execBarrierRetrain s
  | .fieldDieReleased => Sys2Proof.Machine.execFieldDieReleased s
  | .memoryChecksDone m => Sys2Proof.Machine.execMemoryChecksDone m s
  | .knownAnswerTestsDone tests entropy id => Sys2Proof.Machine.execKnownAnswerTestsDone tests entropy id s
  | .crateVerified epoch => Sys2Proof.Machine.execCrateVerified epoch s
  | .calibrationLoaded sig rows record => Sys2Proof.Machine.execCalibrationLoaded sig rows record s
  | .sliceCrossChecksDone x => Sys2Proof.Machine.execSliceCrossChecksDone x s
  | .modeEntry claim us intact plead => Sys2Proof.Machine.execModeEntry claim us intact plead s
  | .fieldConfigHashReport => Sys2Proof.Machine.execFieldConfigHashReport s
  | .fieldConfigReapplied => Sys2Proof.Machine.execFieldConfigReapplied s
  | .breset ctr page en => Sys2Proof.Machine.execBreset ctr page en s
  | .blockResetComplete page => Sys2Proof.Machine.execBlockResetComplete page s
  | .blockEnable ctr page => Sys2Proof.Machine.execBlockEnable ctr page s
  | .blockDisable ctr page => Sys2Proof.Machine.execBlockDisable ctr page s
  | .shutdownComplete page => Sys2Proof.Machine.execShutdownComplete page s
  | .registerWrite ctr a w hit => Sys2Proof.Machine.execRegisterWrite ctr a w hit s
  | .evtRawClear ctr page w again => Sys2Proof.Machine.execEvtRawClear ctr page w again s
  | .injectFinding ctr page w => Sys2Proof.Machine.execInjectFinding ctr page w s
  | .classClr ctr page => Sys2Proof.Machine.execClassClr ctr page s
  | .funcChangeSettle n => Sys2Proof.Machine.execFuncChangeSettle n s
  | .terminalOvervoltage n => Sys2Proof.Machine.execTerminalOvervoltage n s
  | .gateReclose n => Sys2Proof.Machine.execGateReclose n s
  | .shuntOvercurrent n => Sys2Proof.Machine.execShuntOvercurrent n s
  | .shuntReclose n => Sys2Proof.Machine.execShuntReclose n s
  | .sineParamWrite ctr k ampl w => Sys2Proof.Machine.execSineParamWrite ctr k ampl w s
  | .sineZeroCrossing k => Sys2Proof.Machine.execSineZeroCrossing k s
  | .sineEnable ctr k => Sys2Proof.Machine.execSineEnable ctr k s
  | .sineDisable ctr k => Sys2Proof.Machine.execSineDisable ctr k s
  | .sineRampDone k => Sys2Proof.Machine.execSineRampDone k s
  | .sinePeriodMonitor k mon => Sys2Proof.Machine.execSinePeriodMonitor k mon s
  | .sourceComplianceEnter src => Sys2Proof.Machine.execSourceComplianceEnter src s
  | .sourceComplianceClear src => Sys2Proof.Machine.execSourceComplianceClear src s
  | .idcWrite ctr k w => Sys2Proof.Machine.execIdcWrite ctr k w s
  | .idcChangeEffect k => Sys2Proof.Machine.execIdcChangeEffect k s
  | .vbiasOverload cur => Sys2Proof.Machine.execVbiasOverload cur s
  | .tdacWrite ctr w => Sys2Proof.Machine.execTdacWrite ctr w s
  | .extrefBad => Sys2Proof.Machine.execExtrefBad s
  | .extrefOk => Sys2Proof.Machine.execExtrefOk s
  | .refSettled sl => Sys2Proof.Machine.execRefSettled sl s
  | .refMismatch bad diff => Sys2Proof.Machine.execRefMismatch bad diff s
  | .blankLineAssert src => Sys2Proof.Machine.execBlankLineAssert src s
  | .blankLineRelease => Sys2Proof.Machine.execBlankLineRelease s
  | .blankGuardExpiry => Sys2Proof.Machine.execBlankGuardExpiry s
  | .blankMaxlenExpiry => Sys2Proof.Machine.execBlankMaxlenExpiry s
  | .syncinEdge rise => Sys2Proof.Machine.execSyncinEdge rise s
  | .triggerTakesEffect phase => Sys2Proof.Machine.execTriggerTakesEffect phase s
  | .dwellEnd => Sys2Proof.Machine.execDwellEnd s
  | .sliceSelftestDone sl fail dev => Sys2Proof.Machine.execSliceSelftestDone sl fail dev s
  | .migration p => Sys2Proof.Machine.execMigration p s
  | .strikeExpiry sl => Sys2Proof.Machine.execStrikeExpiry sl s
  | .sliceDetectorFires sl stuck => Sys2Proof.Machine.execSliceDetectorFires sl stuck s
  | .coldSpareConnected sl => Sys2Proof.Machine.execColdSpareConnected sl s
  | .urgentRequest ctr w => Sys2Proof.Machine.execUrgentRequest ctr w s
  | .urgentRequestArrival early => Sys2Proof.Machine.execUrgentRequestArrival early s
  | .urgentEntryEnd p => Sys2Proof.Machine.execUrgentEntryEnd p s
  | .stage1Output sl vi vq sat => Sys2Proof.Machine.execStage1Output sl vi vq sat s
  | .settledSample sl => Sys2Proof.Machine.execSettledSample sl s
  | .firCommit ctr u => Sys2Proof.Machine.execFirCommit ctr u s
  | .firCommitDone u => Sys2Proof.Machine.execFirCommitDone u s
  | .entryBoundary p => Sys2Proof.Machine.execEntryBoundary p s
  | .predelayEnd p => Sys2Proof.Machine.execPredelayEnd p s
  | .entryTimeout p => Sys2Proof.Machine.execEntryTimeout p s
  | .groupBoundary g => Sys2Proof.Machine.execGroupBoundary g s
  | .rangeSwitch sl => Sys2Proof.Machine.execRangeSwitch sl s
  | .windowCloseByTime c => Sys2Proof.Machine.execWindowCloseByTime c s
  | .windowCloseDeferred c => Sys2Proof.Machine.execWindowCloseDeferred c s
  | .lifeClr ctr c => Sys2Proof.Machine.execLifeClr ctr c s
  | .diSample n mv => Sys2Proof.Machine.execDiSample n mv s
  | .diStateChange n => Sys2Proof.Machine.execDiStateChange n s
  | .chatterIntervalEnd n => Sys2Proof.Machine.execChatterIntervalEnd n s
  | .diStuckExpiry n => Sys2Proof.Machine.execDiStuckExpiry n s
  | .diClrCnt ctr n => Sys2Proof.Machine.execDiClrCnt ctr n s
  | .diClrChat ctr n => Sys2Proof.Machine.execDiClrChat ctr n s
  | .doCommand ctr n on => Sys2Proof.Machine.execDoCommand ctr n on s
  | .reverseDetected n => Sys2Proof.Machine.execReverseDetected n s
  | .reverseCleared n => Sys2Proof.Machine.execReverseCleared n s
  | .foldbackExpiry n => Sys2Proof.Machine.execFoldbackExpiry n s
  | .overloadRetry n => Sys2Proof.Machine.execOverloadRetry n s
  | .thermalTrip n => Sys2Proof.Machine.execThermalTrip n s
  | .thermalRetry n => Sys2Proof.Machine.execThermalRetry n s
  | .offStateBandHeld n band => Sys2Proof.Machine.execOffStateBandHeld n band s
  | .iminLow n low => Sys2Proof.Machine.execIminLow n low s
  | .offPulseDue n => Sys2Proof.Machine.execOffPulseDue n s
  | .offPulseEnd n fell => Sys2Proof.Machine.execOffPulseEnd n fell s
  | .segmentMeasurement n rs ron => Sys2Proof.Machine.execSegmentMeasurement n rs ron s
  | .doUnlatch ctr n => Sys2Proof.Machine.execDoUnlatch ctr n s
  | .doClearCounts ctr n => Sys2Proof.Machine.execDoClearCounts ctr n s
  | .aoCommand ctr n w => Sys2Proof.Machine.execAoCommand ctr n w s
  | .railRetune g => Sys2Proof.Machine.execRailRetune g s
  | .headroomMove n => Sys2Proof.Machine.execHeadroomMove n s
  | .aoCompliance n set => Sys2Proof.Machine.execAoCompliance n set s
  | .aoOpenLoop n set => Sys2Proof.Machine.execAoOpenLoop n set s
  | .aoVOverload n set => Sys2Proof.Machine.execAoVOverload n set s
  | .aoThermalLimit n => Sys2Proof.Machine.execAoThermalLimit n s
  | .aoCapStep n excess below => Sys2Proof.Machine.execAoCapStep n excess below s
  | .aoThermalTrip n => Sys2Proof.Machine.execAoThermalTrip n s
  | .aoThermalResume n => Sys2Proof.Machine.execAoThermalResume n s
  | .stepSupplyFault g => Sys2Proof.Machine.execStepSupplyFault g s
  | .stepSupplyRestart g ok => Sys2Proof.Machine.execStepSupplyRestart g ok s
  | .readbackMismatch n set => Sys2Proof.Machine.execReadbackMismatch n set s
  | .aoClearCounts ctr n => Sys2Proof.Machine.execAoClearCounts ctr n s
  | .supplyFlagSet g flag => Sys2Proof.Machine.execSupplyFlagSet g flag s
  | .supplyFlagClear g flag => Sys2Proof.Machine.execSupplyFlagClear g flag s
  | .shedStep g => Sys2Proof.Machine.execShedStep g s
  | .releaseStep g => Sys2Proof.Machine.execReleaseStep g s
  | .ssForceWrite ctr n on => Sys2Proof.Machine.execSsForceWrite ctr n on s
  | .reflexEvaluation => Sys2Proof.Machine.execReflexEvaluation s
  | .reflexRuleActive r => Sys2Proof.Machine.execReflexRuleActive r s
  | .reflexLatchClear ctr hi w => Sys2Proof.Machine.execReflexLatchClear ctr hi w s
  | .budgetSum b => Sys2Proof.Machine.execBudgetSum b s
  | .governorShedStep => Sys2Proof.Machine.execGovernorShedStep s
  | .governorRelease => Sys2Proof.Machine.execGovernorRelease s
  | .calDue sl temp => Sys2Proof.Machine.execCalDue sl temp s
  | .calRun ctr sl pause => Sys2Proof.Machine.execCalRun ctr sl pause s
  | .selfCalDone r => Sys2Proof.Machine.execSelfCalDone r s
  | .write a ws => Sys2Proof.Machine.execWrite a ws s
  | .writeAuth ctr a ws keys extra => Sys2Proof.Machine.execWriteAuth ctr a ws keys extra s
  | .authVerifyDone => Sys2Proof.Machine.execAuthVerifyDone s
  | .read a n late => Sys2Proof.Machine.execRead a n late s
  | .readAuth ctr a n late extra => Sys2Proof.Machine.execReadAuth ctr a n late extra s
  | .statusFrame extra => Sys2Proof.Machine.execStatusFrame extra s
  | .snapRead a late extra => Sys2Proof.Machine.execSnapRead a late extra s
  | .checkIn a extra => Sys2Proof.Machine.execCheckIn a extra s
  | .cratePush a ws => Sys2Proof.Machine.execCratePush a ws s
  | .sessionRead kind n => Sys2Proof.Machine.execSessionRead kind n s
  | .syncFrame a extra => Sys2Proof.Machine.execSyncFrame a extra s
  | .nopFrame extra => Sys2Proof.Machine.execNopFrame extra s
  | .reservedOp code => Sys2Proof.Machine.execReservedOp code s
  | .frameShort code a ws => Sys2Proof.Machine.execFrameShort code a ws s
  | .hostClr ctr => Sys2Proof.Machine.execHostClr ctr s
  | .legacyPoll more => Sys2Proof.Machine.execLegacyPoll more s
  | .legacyRead more a => Sys2Proof.Machine.execLegacyRead more a s
  | .legacyWrite more a data => Sys2Proof.Machine.execLegacyWrite more a data s
  | .legacyShortFrame w => Sys2Proof.Machine.execLegacyShortFrame w s
  | .legacyChDataRead more n => Sys2Proof.Machine.execLegacyChDataRead more n s
  | .legacyChCfgWrite more n data => Sys2Proof.Machine.execLegacyChCfgWrite more n data s
  | .legacyTimeRead more => Sys2Proof.Machine.execLegacyTimeRead more s
  | .legacySync more data => Sys2Proof.Machine.execLegacySync more data s
  | .legacyKick more => Sys2Proof.Machine.execLegacyKick more s
  | .legacyModesel more data => Sys2Proof.Machine.execLegacyModesel more data s
  | .tamperDetectorFires d holds => Sys2Proof.Machine.execTamperDetectorFires d holds s
  | .holdoffExpiry => Sys2Proof.Machine.execHoldoffExpiry s
  | .cellarSelftest ctr => Sys2Proof.Machine.execCellarSelftest ctr s
  | .cellarSelftestDone pass => Sys2Proof.Machine.execCellarSelftestDone pass s
  | .entropyHealthTest test => Sys2Proof.Machine.execEntropyHealthTest test s
  | .enrolWindowExpiry => Sys2Proof.Machine.execEnrolWindowExpiry s
  | .zeroisePurge ctr key => Sys2Proof.Machine.execZeroisePurge ctr key s
  | .zeroiseGrave ctr key => Sys2Proof.Machine.execZeroiseGrave ctr key s
  | .openSession ws pointOk => Sys2Proof.Machine.execOpenSession ws pointOk s
  | .challenge => Sys2Proof.Machine.execChallenge s
  | .prove ws credOk sigOk => Sys2Proof.Machine.execProve ws credOk sigOk s
  | .accept => Sys2Proof.Machine.execAccept s
  | .closeSession => Sys2Proof.Machine.execCloseSession s
  | .closed => Sys2Proof.Machine.execClosed s
  | .challengeReq w => Sys2Proof.Machine.execChallengeReq w s
  | .nonce => Sys2Proof.Machine.execNonce s
  | .enrol ws pointOk sigOk => Sys2Proof.Machine.execEnrol ws pointOk sigOk s
  | .enrolDone => Sys2Proof.Machine.execEnrolDone s
  | .transfer ws pointOk sigOk => Sys2Proof.Machine.execTransfer ws pointOk sigOk s
  | .transferDone => Sys2Proof.Machine.execTransferDone s
  | .ephemeralPairReady => Sys2Proof.Machine.execEphemeralPairReady s
  | .closeStore ctr => Sys2Proof.Machine.execCloseStore ctr s
  | .closeApply ctr => Sys2Proof.Machine.execCloseApply ctr s
  | .discardStaging ctr => Sys2Proof.Machine.execDiscardStaging ctr s
  | .crateChecksComplete sig keys => Sys2Proof.Machine.execCrateChecksComplete sig keys s
  | .crateValidationComplete => Sys2Proof.Machine.execCrateValidationComplete s
  | .crateSlotWritten => Sys2Proof.Machine.execCrateSlotWritten s
  | .crateApplicationComplete => Sys2Proof.Machine.execCrateApplicationComplete s
  | .epochWriteRetry ok => Sys2Proof.Machine.execEpochWriteRetry ok s
  | .partnerFrameSlot slow => Sys2Proof.Machine.execPartnerFrameSlot slow s
  | .pairAck c resend late pulse => Sys2Proof.Machine.execPairAck c resend late pulse s
  | .pairNotice c resend x => Sys2Proof.Machine.execPairNotice c resend x s
  | .handoverAnnouncement c resend ts cause => Sys2Proof.Machine.execHandoverAnnouncement c resend ts cause s
  | .handoverRequest c resend caught => Sys2Proof.Machine.execHandoverRequest c resend caught s
  | .handoverConfirmation c resend cause => Sys2Proof.Machine.execHandoverConfirmation c resend cause s
  | .pairMirror c resend m => Sys2Proof.Machine.execPairMirror c resend m s
  | .pairHeartbeat c resend h => Sys2Proof.Machine.execPairHeartbeat c resend h s
  | .pairTrigger c resend groups stamp => Sys2Proof.Machine.execPairTrigger c resend groups stamp s
  | .pairTime c resend offset => Sys2Proof.Machine.execPairTime c resend offset s
  | .pairCompare c resend xs dwell => Sys2Proof.Machine.execPairCompare c resend xs dwell s
  | .pairState c resend t => Sys2Proof.Machine.execPairState c resend t s
  | .pairSummary c resend severe approved => Sys2Proof.Machine.execPairSummary c resend severe approved s
  | .pairCrate c resend m => Sys2Proof.Machine.execPairCrate c resend m s
  | .hello c resend who hash ok => Sys2Proof.Machine.execHello c resend who hash ok s
  | .resetReq c resend => Sys2Proof.Machine.execResetReq c resend s
  | .pairingRetry => Sys2Proof.Machine.execPairingRetry s
  | .partnerLost held => Sys2Proof.Machine.execPartnerLost held s
  | .pleadRefreshTimeout => Sys2Proof.Machine.execPleadRefreshTimeout s
  | .pleadWaitExpiry => Sys2Proof.Machine.execPleadWaitExpiry s
  | .pleadReleased => Sys2Proof.Machine.execPleadReleased s
  | .mirrorAckTimeout => Sys2Proof.Machine.execMirrorAckTimeout s
  | .noticeApply n => Sys2Proof.Machine.execNoticeApply n s
  | .catchArm n => Sys2Proof.Machine.execCatchArm n s
  | .catchEngage n => Sys2Proof.Machine.execCatchEngage n s
  | .catchRevokeWindowEnd n => Sys2Proof.Machine.execCatchRevokeWindowEnd n s
  | .handover ctr => Sys2Proof.Machine.execHandover ctr s
  | .resetPartner ctr key => Sys2Proof.Machine.execResetPartner ctr key s
  | .resync ctr => Sys2Proof.Machine.execResync ctr s
  | .handoverTs => Sys2Proof.Machine.execHandoverTs s
  | .handoverRampStep => Sys2Proof.Machine.execHandoverRampStep s
  | .handoverTr => Sys2Proof.Machine.execHandoverTr s
  | .confirmationSilence => Sys2Proof.Machine.execConfirmationSilence s
  | .handoverAbort => Sys2Proof.Machine.execHandoverAbort s
  | .clockSourceFail src => Sys2Proof.Machine.execClockSourceFail src s
  | .fieldClockRelock => Sys2Proof.Machine.execFieldClockRelock s
  | .clockSourceReturn src => Sys2Proof.Machine.execClockSourceReturn src s
  | .clockRestore ctr => Sys2Proof.Machine.execClockRestore ctr s
  | .fcoreStop => Sys2Proof.Machine.execFcoreStop s
  | .fmeasGo ctr w => Sys2Proof.Machine.execFmeasGo ctr w s
  | .fmeasDone edges => Sys2Proof.Machine.execFmeasDone edges s
  | .wdogFirstWindow => Sys2Proof.Machine.execWdogFirstWindow s
  | .wdogWindowClose => Sys2Proof.Machine.execWdogWindowClose s
  | .wdogClockStop => Sys2Proof.Machine.execWdogClockStop s
  | .wdogTasksWrite ctr w => Sys2Proof.Machine.execWdogTasksWrite ctr w s
  | .faultEvent => Sys2Proof.Machine.execFaultEvent s
  | .faultAck ctr w => Sys2Proof.Machine.execFaultAck ctr w s
  | .faultClearGrade ctr k => Sys2Proof.Machine.execFaultClearGrade ctr k s
  | .faultClearCount ctr k => Sys2Proof.Machine.execFaultClearCount ctr k s
  | .erroutRelease ctr => Sys2Proof.Machine.execErroutRelease ctr s
  | .erroutMinwExpiry => Sys2Proof.Machine.execErroutMinwExpiry s
  | .keptEventsDelivered => Sys2Proof.Machine.execKeptEventsDelivered s
  | .loftRecord => Sys2Proof.Machine.execLoftRecord s
  | .loftRecordWritten => Sys2Proof.Machine.execLoftRecordWritten s
  | .loftVerify ctr => Sys2Proof.Machine.execLoftVerify ctr s
  | .loftVerifyDone => Sys2Proof.Machine.execLoftVerifyDone s
  | .loftClear ctr key => Sys2Proof.Machine.execLoftClear ctr key s
  | .loftClearForce ctr key => Sys2Proof.Machine.execLoftClearForce ctr key s
  | .loftClearDone => Sys2Proof.Machine.execLoftClearDone s
  | .larderRetire ctr kind index => Sys2Proof.Machine.execLarderRetire ctr kind index s
  | .larderRestore ctr kind index => Sys2Proof.Machine.execLarderRestore ctr kind index s
  | .restoreTestDone r => Sys2Proof.Machine.execRestoreTestDone r s
  | .vetoWrite ctr w => Sys2Proof.Machine.execVetoWrite ctr w s
  | .currentLimitRegulation n e => Sys2Proof.Machine.execCurrentLimitRegulation n e s
  | .channelCooled n => Sys2Proof.Machine.execChannelCooled n s
  | .railAtSetpoint g high => Sys2Proof.Machine.execRailAtSetpoint g high s
  | .modeReqOtherTarget ctr t => Sys2Proof.Machine.execModeReqOtherTarget ctr t s
  | .sessionKindRefused kind => Sys2Proof.Machine.execSessionKindRefused kind s
  | .leadRoleLostRelease => Sys2Proof.Machine.execLeadRoleLostRelease s

end Sys2Proof.Machine
end

