-- ==== Sys2Proof/Safety.lean ====
section
/-! DEFINITION. What claims call safe: the canonical form of the tables of registers, the slot labels, and held outputs. -/

namespace Sys2Proof.Machine

open Sys2Proof

/-- The registers of either die are in canonical form. -/
def State.wf (s : State) : Prop := twf resetWord s.ld.regs = true ∧ twf resetWord s.fd.cfg = true ∧ twf resetWord s.fd.img = true

/-- The four labels of the crate slots (R311). -/
def Mram.labels (m : Mram) : List Nat := [m.active, m.pending, m.fallback, m.spare]

/-- Each of the four physical slots carries one label (R311). -/
def Mram.labelled (m : Mram) : Prop := m.labels.Perm [0, 1, 2, 3]

/-- What MRAM never loses: labels stay one to a slot, FLOOR and BOOT_EPOCH do not fall (R311, R315). -/
def Mram.keeps (a b : Mram) : Prop := (a.labelled → b.labelled) ∧ a.floor ≤ b.floor ∧ a.epoch ≤ b.epoch

/-- What the field die has to tell without a frame of its own has been told. -/
def State.told (s : State) : Bool := !s.ld.linkUp || s.fd.out.all waits

/-- Both dies run, the link between them is up, and the field die has nothing more to tell without a frame of its own. -/
abbrev State.up (s : State) : Prop := s.fd.released = true ∧ s.ld.linkUp = true ∧ s.fd.out.all waits = true

/-- The native port answers (R35) and no INJECT mark waits for the next frame (R265). -/
def Logic.answers (l : Logic) : Bool := l.portUp && !l.host.short && !l.host.late && !l.host.badTag

/-- Nothing makes the port refuse a frame as a whole (R35, R256, R260, R285, R320, R341). -/
def Logic.serves (l : Logic) : Bool :=
  l.answers && (l.mode == .commission || l.mode == .run || l.mode == .safe) && !l.framePending && !l.hostRestarts && !l.hostLost &&
    !l.handoverBusy && !l.cellar.testing

/-- The one active session accepts this CTR (R303), below the last 65536 before it has to be replaced. -/
def Logic.accepts (ctr : Word) (l : Logic) : Bool :=
  match l.sess.cur, l.sess.old with
  | some x, none => x.accepts ctr.toNat && decide (ctr.toNat < 0xFFFF0000)
  | _, _ => false

/-- No session or no field of the word is refused at an address (R4, R5, R54, R283): the session may write it, its page is not locked,
no value is reserved. -/
def Logic.grants (a : Nat) (w : Word) (l : Logic) : Bool :=
  match l.sess.cur, regRow a with
  | some x, some r => (l.barred (some x) a w r).isNone
  | _, _ => false

/-- CTRL.EN of a page as the die that holds the block has it (R45). -/
def State.enabled (page : Nat) (s : State) : Bool :=
  if onField (page * 256) then s.fd.cb (F.CTRL_EN page) else s.ld.gb (F.CTRL_EN page)

/-- Does CTRL.EN of a page act beyond the register (R45, R118)? -/
def State.enActs (page : Nat) (s : State) : Bool := if onField (page * 256) then s.fd.enActs page else Logic.enActs page

/-- Is the shutdown of a page's block in progress (R45, R46)? -/
def State.shutsDown (page : Nat) (s : State) : Bool :=
  if onField (page * 256) then s.fd.shutting.contains page else s.ld.shutting.contains page

/-- A WRITE_AUTH of one word is accepted up to the rules of its page, and commits without a partner. -/
abbrev Logic.takes (ctr : Word) (a : Nat) (w : Word) (l : Logic) : Prop :=
  l.serves = true ∧ l.leadReady = false ∧ l.accepts ctr = true ∧ l.grants a w = true

/-- The lead of a READY pair accepts a WRITE_AUTH of one word and has room to mirror it (R331). -/
abbrev Logic.takesAsLead (ctr : Word) (a : Nat) (w : Word) (l : Logic) : Prop :=
  l.serves = true ∧ l.leadReady = true ∧ l.accepts ctr = true ∧ l.grants a w = true ∧ l.pair.queue.length < 64

/-- A partner frame passes the checks of R325: guard code, tag, and its FSEQ is the next one. -/
abbrev Logic.passes (c : PairSeen) (l : Logic) : Prop := c.guard = true ∧ c.tag = true ∧ c.fseq.val = l.pair.port.got

/-- The word of a one-word WRITE_AUTH waits on the lead and goes out in a MIRROR frame (R331); nothing has been committed. -/
def State.mirrors (ctr : Word) (a : Nat) (w : Word) (s t : State) : Prop :=
  (∃ f, t.ld.host.auth = some f ∧ f.addr = a ∧ f.words = [w] ∧ f.ctr = ctr.toNat ∧ f.ok = true ∧ f.mirrored = some s.ld.time ∧
    (t.ld.sessionOf f.keys).isSome = true) ∧
  t.ld.pair.queue = s.ld.pair.queue ++ [.mirror (.words (Fin.ofNat 65536 a) [w] ctr)] ∧ t.ld.host.ferr = false ∧ t.fd = s.fd ∧
  t.ld.pair.handover = s.ld.pair.handover ∧ t.ld.mode = s.ld.mode ∧ t.ld.bar = s.ld.bar

/-- The partner port runs under the pair key with its link up, and no INJECT mark waits (R325, R327, R348). -/
def Logic.hears (l : Logic) : Bool := l.pairPortOn && l.pairKeyOk && l.gb F.PAIR_STAT_LINK && !l.pair.badTag

/-- An answer that is a next state, and what that state holds. -/
def Answers (o : Host.Outcome State Fault Refusal) (p : State → Prop) : Prop := ∃ t, o = .next t ∧ p t

/-- What a change of the logic die leaves of everything a message of the field die cannot reach. -/
structure Logic.SameBut (a b : Logic) : Prop where
  time : a.time = b.time
  frac : a.frac = b.frac
  mode : a.mode = b.mode
  linkUp : a.linkUp = b.linkUp
  draws : a.draws = b.draws
  errout : a.errout = b.errout
  minw : a.minw = b.minw
  timeBad : a.timeBad = b.timeBad
  resets : a.resets = b.resets
  shutting : a.shutting = b.shutting
  lifes : a.lifes = b.lifes
  released : a.released = b.released
  boot : a.boot = b.boot
  bar : a.bar = b.bar
  cores : a.cores = b.cores
  mem : a.mem = b.mem
  host : a.host = b.host
  sess : a.sess = b.sess
  crate : a.crate = b.crate
  cellar : a.cellar = b.cellar
  clocks : a.clocks = b.clocks
  wdog : a.wdog = b.wdog
  faults : a.faults = b.faults
  loft : a.loft = b.loft
  owner : a.mram = { b.mram with larder := a.mram.larder }
  queue : a.larder = { b.larder with pending := a.larder.pending, genAt := a.larder.genAt }
  partner : a.pair = { b.pair with mine := a.pair.mine, theirs := a.pair.theirs, handover := a.pair.handover, queue := a.pair.queue }

/-- The measurement side of the field die: contexts, slices, programmes, triggers, clocks, rotation, calibration, snapshots that wait, excitation. -/
structure Field.SameMeasure (a b : Field) : Prop where
  ctxs : a.ctxs = b.ctxs
  slices : a.slices = b.slices
  progs : a.progs = b.progs
  trigs : a.trigs = b.trigs
  trigSeen : a.trigSeen = b.trigSeen
  syncout : a.syncout = b.syncout
  tdacFault : a.tdacFault = b.tdacFault
  onFrc : a.onFrc = b.onFrc
  frcBad : a.frcBad = b.frcBad
  recBad : a.recBad = b.recBad
  degraded : a.degraded = b.degraded
  returnAt : a.returnAt = b.returnAt
  urgReqs : a.urgReqs = b.urgReqs
  urgOver : a.urgOver = b.urgOver
  rolesBack : a.rolesBack = b.rolesBack
  diagGone : a.diagGone = b.diagGone
  seqsLost : a.seqsLost = b.seqsLost
  rot : a.rot = b.rot
  cal : a.cal = b.cal
  snapq : a.snapq = b.snapq
  exc : a.exc = b.exc
  commits : a.commits = b.commits

/-- The output side of the field die: terminals, step supplies, groups, rules, the governor, what a pair shares of outputs, the mode. -/
structure Field.SameOutputs (a b : Field) : Prop where
  mode : a.mode = b.mode
  paired : a.paired = b.paired
  lead : a.lead = b.lead
  wdArmed : a.wdArmed = b.wdArmed
  terms : a.terms = b.terms
  steps : a.steps = b.steps
  groups : a.groups = b.groups
  ruleHeld : a.ruleHeld = b.ruleHeld
  gov : a.gov = b.gov
  joined : a.joined = b.joined
  ramp : a.ramp = b.ramp
  dropped : a.dropped = b.dropped
  noticed : a.noticed = b.noticed
  notices : a.notices = b.notices
  tn : a.tn = b.tn
  tnMax : a.tnMax = b.tnMax
  tnMoves : a.tnMoves = b.tnMoves
  partnerShunts : a.partnerShunts = b.partnerShunts
  bothShunts : a.bothShunts = b.bothShunts
  partAt : a.partAt = b.partAt
  resets : a.resets = b.resets
  shutting : a.shutting = b.shutting

end Sys2Proof.Machine

namespace Sys2Proof

/-- Commands that happen on the field die alone. -/
def Instr.onFieldDie : Instr → Bool
  | .barrierWatchdogExpiry | .funcChangeSettle .. | .terminalOvervoltage .. | .gateReclose .. | .shuntOvercurrent ..
    | .shuntReclose .. | .sineZeroCrossing .. | .sineRampDone .. | .sinePeriodMonitor .. | .sourceComplianceEnter ..
    | .sourceComplianceClear .. | .idcChangeEffect .. | .vbiasOverload .. | .extrefBad | .extrefOk | .refSettled ..
    | .refMismatch .. | .blankLineAssert .. | .blankLineRelease | .blankGuardExpiry | .blankMaxlenExpiry | .triggerTakesEffect ..
    | .dwellEnd | .sliceSelftestDone .. | .migration .. | .strikeExpiry .. | .sliceDetectorFires .. | .coldSpareConnected ..
    | .urgentRequestArrival .. | .urgentEntryEnd .. | .stage1Output .. | .settledSample .. | .firCommitDone .. | .entryBoundary ..
    | .predelayEnd .. | .entryTimeout .. | .groupBoundary .. | .rangeSwitch .. | .windowCloseByTime .. | .windowCloseDeferred ..
    | .diSample .. | .diStateChange .. | .chatterIntervalEnd .. | .diStuckExpiry .. | .reverseDetected .. | .reverseCleared ..
    | .foldbackExpiry .. | .overloadRetry .. | .thermalTrip .. | .thermalRetry .. | .offStateBandHeld .. | .iminLow ..
    | .offPulseDue .. | .offPulseEnd .. | .segmentMeasurement .. | .railRetune .. | .headroomMove .. | .aoCompliance ..
    | .aoOpenLoop .. | .aoVOverload .. | .aoThermalLimit .. | .aoCapStep .. | .aoThermalTrip .. | .aoThermalResume ..
    | .stepSupplyFault .. | .stepSupplyRestart .. | .readbackMismatch .. | .supplyFlagSet .. | .supplyFlagClear .. | .shedStep ..
    | .releaseStep .. | .reflexEvaluation | .reflexRuleActive .. | .budgetSum .. | .governorShedStep | .governorRelease
    | .calDue .. | .selfCalDone .. | .noticeApply .. | .currentLimitRegulation .. | .channelCooled .. | .railAtSetpoint .. => true
  | _ => false

/-- Commands that happen on the logic die alone. -/
def Instr.onLogicDie : Instr → Bool
  | .laneErrorLimit .. | .laneSwitch | .checkpoint .. | .secRestartDone .. | .rowMoveDone .. | .rowCountExpiry ..
    | .internalResetRelease | .strapsLatched .. | .oscWaitEnd | .pllLocked | .visoInRegulation | .barrierRetrain
    | .knownAnswerTestsDone .. | .crateVerified .. | .holdoffExpiry | .cellarSelftestDone .. | .entropyHealthTest ..
    | .enrolWindowExpiry | .closed | .nonce | .ephemeralPairReady | .crateSlotWritten | .epochWriteRetry .. | .pairingRetry
    | .pleadRefreshTimeout | .confirmationSilence | .fmeasDone .. | .wdogFirstWindow | .wdogWindowClose | .wdogClockStop
    | .erroutMinwExpiry | .loftRecord | .loftRecordWritten | .loftVerifyDone | .loftClearDone => true
  | _ => false

/-- Frames of the host that read, ask, or stage: none of them carries a word to a block. -/
def Instr.onlyAsks : Instr → Bool
  | .read .. | .statusFrame .. | .snapRead .. | .checkIn .. | .cratePush .. | .sessionRead .. | .nopFrame .. | .reservedOp ..
    | .legacyPoll .. | .legacyRead .. | .legacyShortFrame .. | .legacyChDataRead .. | .legacyChCfgWrite .. | .legacyTimeRead ..
    | .legacyKick .. | .legacyModesel .. | .openSession .. | .prove .. | .closeSession | .challengeReq .. | .enrol ..
    | .transfer .. | .sessionKindRefused .. => true
  | _ => false

/-- Frames of the native port (chapter 15), the frame of one word among them. -/
def Instr.hostFrame : Instr → Bool
  | .write .. | .writeAuth .. | .read .. | .readAuth .. | .statusFrame .. | .snapRead .. | .checkIn .. | .cratePush ..
    | .sessionRead .. | .syncFrame .. | .nopFrame .. | .reservedOp .. | .frameShort .. | .registerWrite .. | .openSession ..
    | .prove .. | .closeSession | .challengeReq .. | .enrol .. | .transfer .. | .sessionKindRefused .. => true
  | _ => false

/-- The frames R35 serves before mode entry: STATUS, NOP, and READ of the DEVICE page. -/
def Instr.servedInBoot : Instr → Bool
  | .statusFrame .. | .nopFrame .. => true
  | .read a n _ => decide (0 < n ∧ a.val + n ≤ 256)
  | _ => false

/-- Excitation, references and blanking (chapter 05). -/
def Instr.ofExcitation : Instr → Bool
  | .sineZeroCrossing .. | .sineRampDone .. | .sinePeriodMonitor .. | .sourceComplianceEnter .. | .sourceComplianceClear ..
    | .idcChangeEffect .. | .vbiasOverload .. | .extrefBad | .extrefOk | .refSettled .. | .refMismatch .. | .blankLineAssert ..
    | .blankLineRelease | .blankGuardExpiry | .blankMaxlenExpiry => true
  | _ => false

/-- Excitation, slices, the sequencer, samples and windows (chapters 05-09, 14). -/
def Instr.measures : Instr → Bool
  | .sineZeroCrossing .. | .sineRampDone .. | .sinePeriodMonitor .. | .sourceComplianceEnter .. | .sourceComplianceClear ..
    | .idcChangeEffect .. | .vbiasOverload .. | .extrefBad | .extrefOk | .refSettled .. | .refMismatch .. | .blankLineAssert ..
    | .blankLineRelease | .blankGuardExpiry | .blankMaxlenExpiry | .triggerTakesEffect .. | .dwellEnd | .sliceSelftestDone ..
    | .migration .. | .strikeExpiry .. | .sliceDetectorFires .. | .coldSpareConnected .. | .urgentRequestArrival ..
    | .urgentEntryEnd .. | .stage1Output .. | .settledSample .. | .firCommitDone .. | .entryBoundary .. | .predelayEnd ..
    | .entryTimeout .. | .groupBoundary .. | .rangeSwitch .. | .windowCloseByTime .. | .windowCloseDeferred .. | .calDue ..
    | .selfCalDone .. => true
  | _ => false

/-- Terminals, outputs, supplies and reflexes (chapters 04, 10-13). -/
def Instr.drives : Instr → Bool
  | .barrierWatchdogExpiry | .funcChangeSettle .. | .shuntOvercurrent .. | .shuntReclose .. | .diSample .. | .diStateChange ..
    | .chatterIntervalEnd .. | .diStuckExpiry .. | .reverseDetected .. | .reverseCleared .. | .foldbackExpiry ..
    | .overloadRetry .. | .thermalTrip .. | .thermalRetry .. | .offStateBandHeld .. | .iminLow .. | .offPulseDue ..
    | .offPulseEnd .. | .segmentMeasurement .. | .railRetune .. | .headroomMove .. | .aoCompliance .. | .aoOpenLoop ..
    | .aoVOverload .. | .aoThermalLimit .. | .aoCapStep .. | .aoThermalTrip .. | .aoThermalResume .. | .stepSupplyFault ..
    | .stepSupplyRestart .. | .readbackMismatch .. | .supplyFlagSet .. | .supplyFlagClear .. | .shedStep .. | .releaseStep ..
    | .reflexEvaluation | .reflexRuleActive .. | .budgetSum .. | .governorShedStep | .governorRelease | .noticeApply ..
    | .currentLimitRegulation .. | .channelCooled .. | .railAtSetpoint .. => true
  | _ => false

/-- The terminal at which a command of a cell, a digital input or a switched output happens. -/
def Instr.atTerminal : Instr → Option Nat
  | .funcChangeSettle n | .shuntOvercurrent n | .shuntReclose n | .diSample n _ | .diStateChange n | .chatterIntervalEnd n
    | .diStuckExpiry n | .reverseDetected n | .reverseCleared n | .foldbackExpiry n | .overloadRetry n | .thermalTrip n
    | .thermalRetry n | .offStateBandHeld n _ | .iminLow n _ | .offPulseDue n | .offPulseEnd n _ | .segmentMeasurement n _ _
    | .currentLimitRegulation n _ | .channelCooled n => some n.val
  | _ => none

/-- The group at which a command of an analogue output or its step supply happens. -/
def Instr.atGroup : Instr → Option Nat
  | .headroomMove n | .aoCompliance n _ | .aoOpenLoop n _ | .aoVOverload n _ | .aoThermalLimit n | .aoCapStep n _ _
    | .aoThermalTrip n | .aoThermalResume n | .readbackMismatch n _ => some (n.val / 8)
  | .railRetune n | .stepSupplyFault n | .stepSupplyRestart n _ | .railAtSetpoint n _ => some n.val
  | _ => none

end Sys2Proof
end

