-- ==== Sys2Proof/WellFormed.lean ====
section
/-! DEFINITION. Which operands a command of the table can carry, beyond what their types say. A command that is not well formed is no
command of the table; the machine is total and answers on it all the same. -/

namespace Sys2Proof

/-- Is a value a signed 24-bit code (R124)? -/
def isCode (x : Int) : Bool := decide (-(2 ^ 23) ≤ x ∧ x < 2 ^ 23)

/-- Is a number the key of a factory value (R234): slice and range, a terminal's shunt, a reference, a divider tap, a source, a segment? -/
def isFactoryKey (k : Nat) : Bool := (decide (k < 144) && decide (k % 8 < 6)) || decide (256 ≤ k ∧ k < 288) || decide (512 ≤ k ∧ k < 534) || decide (1024 ≤ k ∧ k < 1312)

/-- Is the command well formed? -/
def Instr.wf : Instr → Bool
  | .reservedOp code => !([0x01, 0x02, 0x03, 0x04, 0x05, 0x06, 0x07, 0x08, 0x09, 0x0A, 0x0F].contains code.val)
  | .sessionKindRefused kind => !([0x01, 0x03, 0x05, 0x10, 0x12, 0x14].contains kind.val)
  | .modeReqOtherTarget _ t => !([1, 2, 4].contains t.val)
  | .stage1Output _ i q _ => isCode i && isCode q
  | .selfCalDone r => [r.zero, r.plus, r.minus, r.pathPlus, r.pathMinus].all fun x => x.length == 6 && x.all isCode
  | .budgetSum b => b.curr.length == 4 && b.peak.length == 4 && decide (b.heat.map (·.1)).Nodup && decide (b.volts.map (·.1)).Nodup
  | .barrierState _ _ m => m.volt.length == 4 && m.rails.length == 4 && decide (m.meas.map (·.1)).Nodup
  | .segmentMeasurement _ rs _ => decide (rs.map (·.seg)).Nodup
  | .scrubRead mem row _ _ => decide (row < Machine.memRows mem)
  | .rowMoveDone mem row => decide (row < Machine.memRows mem)
  | .rowCountExpiry mem row => decide (row < Machine.memRows mem)
  | .memoryChecksDone m => m.badRows.all fun x => decide (x.2 < Machine.memRows x.1)
  | .calibrationLoaded _ rows _ => rows.all fun r => r != [] && r.all isFactoryKey
  | .sliceCrossChecksDone x => decide x.off.Nodup
  | .strapsLatched _ pads => decide pads.bare.Nodup
  | .modeEntry _ us _ _ => decide (us < 2 ^ 32)
  | .handoverAnnouncement _ _ ts _ => decide (ts < 2 ^ 64)
  | .pairTrigger _ _ _ stamp => decide (stamp < 2 ^ 64)
  | _ => true

end Sys2Proof
end

