-- ==== Sys2Proof/Certificates/Slice0/Obligations.lean ====
section
/-! DEFINITION. The statements about the model, for the provers: what each command does, what it leaves, and what every step keeps. -/

open Sys2Proof Sys2Proof.Machine

/-- Digital inputs: a sample, a change of state, the chatter interval and the stuck watch do what chapter 10 says (R173, R174, R175, R176, R177, R178) -/
def Obligations.DigitalInputRows : Prop :=
  (∀ (s : State) (n : Terminal) (mv : Int), s.up → s.fd.diActive n = true → 
     Answers (exec (.diSample n mv) s) fun t => (diThreshold n (s.fd.c (F.TERM_DI_CFG_TYPE n)) true s.fd.draws < mv → t.fd.gb (F.TERM_DISTAT_RAW n) = true) ∧
         (mv < diThreshold n (s.fd.c (F.TERM_DI_CFG_TYPE n)) false s.fd.draws → t.fd.gb (F.TERM_DISTAT_RAW n) = false) ∧
         (diThreshold n (s.fd.c (F.TERM_DI_CFG_TYPE n)) false s.fd.draws ≤ mv → mv ≤ diThreshold n (s.fd.c (F.TERM_DI_CFG_TYPE n)) true s.fd.draws →
           ∀ b, (s.fd.term n).di.raw = some b → t.fd.gb (F.TERM_DISTAT_RAW n) = b) ∧ (t.fd.term n).di.raw = some (t.fd.gb (F.TERM_DISTAT_RAW n)) ∧
         t.fd.gb (F.TERM_DISTAT_CONT_ACT n) = s.fd.diCont n (s.fd.cfg.word (R.TERM_DI_TIME n)) ∧
         (t.fd.term n).di.time = s.fd.cfg.word (R.TERM_DI_TIME n)) ∧
  (∀ (s : State) (n : Terminal) (mv : Int) (level : Bool), s.up → s.fd.diActive n = true → s.fd.diDue n = false → (s.fd.term n).di.raw = some level → (diThreshold n (s.fd.c (F.TERM_DI_CFG_TYPE n)) false s.fd.draws ≤ mv ∨ level = false) → (mv ≤ diThreshold n (s.fd.c (F.TERM_DI_CFG_TYPE n)) true s.fd.draws ∨ level = true) → (s.fd.term n).di.again = false → (s.fd.term n).di.time = s.fd.cfg.word (R.TERM_DI_TIME n) → s.fd.gb (F.TERM_DISTAT_VALID n) = true → s.fd.gb (F.TERM_DISTAT_STATE n) = !level → 
     Answers (exec (.diSample n mv) s) fun t => (t.fd.term n).di.run = (s.fd.term n).di.run + 1 ∧ t.fd.gb (F.TERM_DISTAT_STATE n) = !level) ∧
  (∀ (s : State) (n : Terminal), s.up → s.fd.diDue n = true → s.fd.gb (F.TERM_DISTAT_VALID n) = true → 
     Answers (exec (.diStateChange n) s) fun t => t.fd.gb (F.TERM_DISTAT_STATE n) = !s.fd.gb (F.TERM_DISTAT_STATE n) ∧ t.fd.gb (F.TERM_DISTAT_STUCK n) = false ∧
         (t.fd.term n).di.run = 0 ∧ (t.fd.term n).di.since = s.fd.time ∧
         t.ld.gb ⟨R.EVT_RAW (R.pageTERM n), if s.fd.gb (F.TERM_DISTAT_STATE n) then 5 else 4, 1⟩ = true) ∧
  (∀ (s : State) (n : Terminal), s.up → s.fd.diDue n = true → s.fd.gb (F.TERM_DISTAT_VALID n) = false → 
     Answers (exec (.diStateChange n) s) fun t => t.fd.gb (F.TERM_DISTAT_VALID n) = true ∧ t.fd.gb (F.TERM_DISTAT_STATE n) = (s.fd.term n).di.cand ∧ t.ld = s.ld) ∧
  (∀ (s : State) (n : Terminal), s.up → s.fd.diActive n = true → 
     Answers (exec (.chatterIntervalEnd n) s) fun t => t.fd.gb (F.TERM_DISTAT_CHATTER n) = ((s.fd.term n).di.mark ||
           (s.fd.c (F.TERM_DI_EDGE_CHAT_LIM n) != 0 && decide (s.fd.c (F.TERM_DI_EDGE_CHAT_LIM n) ≤ (s.fd.term n).di.iv))) ∧
         (t.fd.term n).di.iv = 0) ∧
  (∀ (s : State) (n : Terminal), s.up → s.fd.diActive n = true → s.fd.c (F.TERM_DI_STUCK_STUCK_T n) ≠ 0 → s.fd.diWatched n = true → s.fd.gb (F.TERM_DISTAT_STUCK n) = false → 
     Answers (exec (.diStuckExpiry n) s) fun t => t.fd.gb (F.TERM_DISTAT_STUCK n) = true ∧ t.ld.gb ⟨R.EVT_RAW (R.pageTERM n), 7, 1⟩ = true ∧
         .fault { src := 44, severe := false, param := n, time := s.fd.time } ∈ t.fd.out)

/-- The frames of the native port that need no session: STATUS, NOP, READ, SNAP_READ, SYNC, short frames and reserved command bytes (R245, R250, R251, R253, R254, R255, R257, R258, R260, R104) -/
def Obligations.HostPortFrames : Prop :=
  (∀ (s : State) (extra : Bool), s.told = true → s.ld.answers = true → 
     Answers (exec (.statusFrame extra) s) fun t => t.ld.host.status = s.ld.statusByte ∧ t.ld.host.reply = [word s.ld.statusPhase.summary] ∧ t.ld.host.ferr = false ∧
         t.ld.regs.word R.HOST_FRAMES = s.ld.regs.word R.HOST_FRAMES + 1#32) ∧
  (∀ (s : State) (extra : Bool), s.told = true → s.ld.answers = true → 
     Answers (exec (.nopFrame extra) s) fun t => t.ld.host.status = s.ld.statusByte ∧ t.ld.host.reply = [] ∧ t.ld.host.ferr = false ∧
         t.ld.g F.HOST_ANOMALY_EXTRA_EDGE = if extra then min (2 ^ F.HOST_ANOMALY_EXTRA_EDGE.len - 1) (s.ld.g F.HOST_ANOMALY_EXTRA_EDGE + 1) else s.ld.g F.HOST_ANOMALY_EXTRA_EDGE) ∧
  (∀ (s : State) (a : Addr), s.told = true → s.ld.serves = true → pageKind (a.val / 256) ≠ .reserved → 
     Answers (exec (.read a 1 false) s) fun t => t.ld.host.reply = [(s.onLd Logic.statusPhase).readWord a] ∧ t.ld.host.ferr = false ∧ t.fd.cfg = s.fd.cfg ∧ t.fd.img = s.fd.img) ∧
  (∀ (s : State) (a : Addr) (n : Nat), s.told = true → s.ld.serves = true → n ≠ 0 → 
     Answers (exec (.read a n false) s) fun t => t.ld.host.reply.length = n ∧ (t.ld.host.ferr = true ↔ reservedIn a n ≠ [])) ∧
  (∀ (s : State) (c : Ctx) (extra : Bool), s.told = true → s.ld.serves = true → 
     Answers (exec (.snapRead (Fin.ofNat 65536 (R.CTX_SEQ c)) false extra) s) fun t => t.ld.host.reply.length = 19 ∧ t.ld.host.ferr = false ∧ t.ld.g (F.CTX_SNAPSTAT_UNREAD c) = 0) ∧
  (∀ (s : State) (a : Addr) (extra : Bool), s.up → s.ld.serves = true → a.val < 16 → s.ld.groupsFrom a 0 ≠ 0 → 
     Answers (exec (.syncFrame a extra) s) fun t => t.fd.trigs = s.fd.trigs ++ [{ stamp := s.ld.time, groups := s.ld.groupsFrom a 0 }] ∧ t.ld.host.ferr = false) ∧
  (∀ (s : State) (rise : Bool), s.up → s.ld.groupsFrom 15 (if rise then 1 else 2) ≠ 0 → 
     Answers (exec (.syncinEdge rise) s) fun t => t.fd.trigs = s.fd.trigs ++ [{ stamp := s.ld.time, groups := s.ld.groupsFrom 15 (if rise then 1 else 2) }]) ∧
  (∀ (s : State) (code : Fin 256), s.told = true → s.ld.serves = true → listedOps.contains code.val = false → 
     Answers (exec (.reservedOp code) s) fun t => t.ld.host.ferr = true ∧ t.ld.g F.HOST_ERR_REASON = 3 ∧ t.ld.g F.HOST_ERR_OPCODE = code) ∧
  (∀ (s : State) (c : Fin 256) (a : Addr), s.told = true → s.ld.portUp = true → s.ld.stops c false = [] → listedOps.contains c.val = true → 
     Answers (exec (.frameShort (some c) a []) s) fun t => t.ld.host.ferr = true ∧ t.ld.g F.HOST_ERR_REASON = 4 ∧ t.ld.g F.HOST_ERR_OPCODE = c ∧ t.ld.g F.HOST_ERR_ADDR = a) ∧
  (∀ (s : State) (a : Addr), s.told = true → s.ld.portUp = true → 
     Answers (exec (.frameShort none a []) s) fun t => t.ld.host.ferr = true ∧ t.ld.g F.HOST_ERR_REASON = 4 ∧ t.ld.regs.word R.HOST_FRAMES = s.ld.regs.word R.HOST_FRAMES)

/-- WRITE, WRITE_AUTH, its verification and READ_AUTH carry words under the rules of chapter 15 (R246, R247, R252, R54, R257, R303) -/
def Obligations.HostWordFrames : Prop :=
  (∀ (s : State) (page : Page) (w : Word), s.told = true → s.ld.serves = true → (regRow (R.EVT_EN page)).isSome = true → pageKind page ≠ .seqtab → s.ld.locked page = false → 
     Answers (exec (.write (Fin.ofNat 65536 (R.EVT_EN page)) [w]) s) fun t => t.ld.regs.word (R.EVT_EN page) = w ∧ t.ld.host.ferr = false) ∧
  (∀ (s : State) (a : Addr) (w : Word) (r : RegRow), s.told = true → s.ld.serves = true → regRow a = some r → r.acc ≠ .ro → r.cls = .session → 
     Answers (exec (.write a [w]) s) fun t => t.ld.host.ferr = true ∧ t.ld.g F.HOST_ERR_REASON = 1 ∧ t.ld.g F.HOST_ERR_ADDR = a ∧ t.ld.g ⟨R.CLASS (refusalPage a), 16, 3⟩ = 1 ∧ t.fd.cfg = s.fd.cfg) ∧
  (∀ (s : State) (ctr : Word) (a : Addr) (ws : List Word) (x : Session) (tag : Nat) (extra : Bool), s.told = true → s.ld.serves = true → s.ld.accepts ctr = true → s.ld.sess.cur = some x → ws ≠ [] → ws.length ≤ 256 → 
     Answers (exec (.writeAuth ctr a ws tag extra) s) fun t => t.ld.host.auth = some { addr := a, words := (x.openWrite ctr.toNat a ws).1, ctr := ctr.toNat, keys := x.id, ok := x.verifies ctr.toNat a ws tag } ∧ t.ld.host.ferr = false ∧ t.fd.cfg = s.fd.cfg) ∧
  (∀ (s : State) (f : AuthFrame) (x : Session) (page : Page) (w : Word), s.told = true → 1 ≤ s.ld.boot.logic → s.ld.host.auth = some f → f.mirrored = none → f.ok = true → s.ld.leadReady = false → s.ld.sess.cur = some x → x.id = f.keys → f.addr = R.EVT_EN page → f.words = [w] → (regRow (R.EVT_EN page)).isSome = true → pageKind page ≠ .seqtab → s.ld.locked page = false → 
     Answers (exec (.authVerifyDone) s) fun t => t.ld.host.auth = none ∧ t.ld.regs.word (R.EVT_EN page) = w) ∧
  (∀ (s : State) (ctr : Word) (a : Addr) (n : Nat) (x : Session) (extra : Bool), s.told = true → s.ld.serves = true → s.ld.accepts ctr = true → s.ld.sess.cur = some x → 2 ≤ x.role → n ≠ 0 → n ≤ 256 → 
     Answers (exec (.readAuth ctr a n false extra) s) fun t => t.ld.host.reply.length = n + 4 ∧ t.ld.sess.cur = some { x with top := ctr.toNat, count := x.count + 1 }) ∧
  (∀ (s : State) (w : Word) (again : Word) (page : Page), s.told = true → s.ld.serves = true → (regRow (R.EVT_RAW page)).isSome = true → pageKind page ≠ .seqtab → s.ld.locked page = false → 
     Answers (exec (.evtRawClear none page w again) s) fun t => t.ld.regs.word (R.EVT_RAW page) = s.ld.regs.word (R.EVT_RAW page) &&& ~~~(w &&& ~~~again) ∧ t.ld.host.ferr = false) ∧
  (∀ (s : State) (page : Page), s.told = true → s.ld.serves = true → (regRow (R.CLASS page)).isSome = true → pageKind page ≠ .seqtab → s.ld.locked page = false → 
     Answers (exec (.classClr none page) s) fun t => t.ld.g ⟨R.CLASS page, 0, 19⟩ = 0 ∧ t.ld.host.ferr = false) ∧
  (∀ (s : State), s.told = true → s.ld.serves = true → s.ld.locked R.pageHOST = false → 
     Answers (exec (.hostClr none) s) fun t => t.ld.regs.word R.HOST_ANOMALY = 0#32 ∧ t.ld.regs.word R.HOST_FERRCOUNT = 0#32 ∧ t.ld.regs.word R.HOST_ERR = 0#32 ∧ t.ld.host.ferr = false)

/-- The host watchdog: first window, window close, check-ins, loss of its clock, and a TASKS write (R250, R366, R367, R368, R369) -/
def Obligations.HostWatchdogRows : Prop :=
  (∀ (s : State) (a : Addr) (extra : Bool), s.told = true → s.ld.serves = true → a.val < 8 → s.ld.wdog.running = true → nbit s.ld.wdog.tasks a = true → s.ld.wdog.openAt ≤ s.ld.wdogCount → nbit s.ld.wdog.injDouble a = false → nbit (s.ld.g F.WDOG_SERVED_TASK) a = false → 
     Answers (exec (.checkIn a extra) s) fun t => nbit (t.ld.g F.WDOG_SERVED_TASK) a = true ∧ t.ld.host.ferr = false) ∧
  (∀ (s : State) (a : Addr), s.told = true → s.ld.serves = true → a.val < 8 → nbit (if s.ld.wdog.running then s.ld.wdog.tasks else s.ld.g F.WDOG_TASKS_EN) a = false → 
     Answers (exec (.checkIn a false) s) fun t => t.ld.host.ferr = true ∧ t.ld.g F.HOST_ERR_REASON = 15 ∧ t.ld.g F.WDOG_UNREG_COUNT = min (2 ^ F.WDOG_UNREG_COUNT.len - 1) (s.ld.g F.WDOG_UNREG_COUNT + 1)) ∧
  (∀ (s : State), s.ld.wdog.firstDue = true → s.ld.wdog.running = false → s.ld.gb wdogHalted = false → s.ld.g F.WDOG_TASKS_EN ≠ 0 → s.ld.mode ≠ .boot → 
     Answers (exec (.wdogFirstWindow) s) fun t => t.ld.wdog.running = true ∧ t.ld.wdog.opened = s.ld.time ∧ t.ld.wdog.openAt = 0 ∧ t.ld.wdog.tasks = s.ld.g F.WDOG_TASKS_EN ∧ t.ld.g F.WDOG_SERVED_TASK = 0 ∧ t.ld.gb F.WDOG_STATE_FIRSTWIN = true ∧ t.fd = s.fd) ∧
  (∀ (s : State), s.ld.wdog.running = true → s.ld.wdogJudges = true → s.ld.wdog.injMissed = 0 → s.ld.g F.WDOG_TASKS_EN ≠ 0 → 
     Answers (exec (.wdogWindowClose) s) fun t => (∀ k : Fin 8, nbit (t.ld.g F.WDOG_TASKFLT_MISSED) k = (nbit s.ld.wdog.tasks k && !nbit (s.ld.g F.WDOG_SERVED_TASK) k)) ∧
         t.ld.g F.WDOG_TASKFLT_DOUBLE = s.ld.wdog.double % 256 ∧ t.ld.g F.WDOG_TASKFLT_EARLY = s.ld.wdog.early % 256 ∧
         t.ld.regs.word R.WDOG_WINCOUNT = s.ld.regs.word R.WDOG_WINCOUNT + 1#32 ∧ t.ld.wdog.running = true ∧ t.ld.wdog.opened = s.ld.time ∧
         t.ld.g F.WDOG_SERVED_TASK = 0) ∧
  (∀ (s : State), s.ld.gb wdogClkAlt = false → 
     Answers (exec (.wdogClockStop) s) fun t => t.ld.gb wdogClkAlt = true ∧ t.ld.gb ⟨R.EVT_RAW R.pageWDOG, 3, 1⟩ = true ∧ (∃ e ∈ t.ld.raised, e.src = 35 ∧ e.severe = true) ∧ t.ld.wdogCount = s.ld.wdogCount ∧ t.ld.wdog = { s.ld.wdog with base := t.ld.wdog.base, opened := t.ld.wdog.opened }) ∧
  (∀ (s : State) (ctr : Word) (w : Word), s.told = true → s.ld.takes ctr (R.WDOG_TASKS) (w) → 
     Answers (exec (.wdogTasksWrite (some ctr) w) s) fun t => t.ld.host.ferr = false ∧
         t.ld.g F.WDOG_TASKS_EN = wbits w 0 8 ∧ t.ld.gb wdogHalted = false)

/-- The Loft: an event is taken, a record is written, the chain is verified, and a clear leaves one record (R384, R385, R387, R388, R389) -/
def Obligations.LoftRows : Prop :=
  (∀ (s : State) (r : LoftReq), firstOf s.ld.recs = some r → s.ld.mram.loft.recs.length ≠ 8192 → s.ld.loft.queue.length < 64 → nbit s.ld.cores.lost 4 = false → s.ld.classOn (r.code / 4096) = true → 
     Answers (exec (.loftRecord) s) fun t => t.ld.loft.queue = s.ld.loft.queue ++ [r] ∧ t.ld.recs = s.ld.recs.erase r ∧ t.ld.mram = s.ld.mram) ∧
  (∀ (s : State) (r : LoftReq) (q : List LoftReq), s.ld.loft.queue = r :: q → s.ld.loftClearing = false → nbit s.ld.cores.lost 4 = false → s.ld.mram.loft.recs.length < 8192 → 
     Answers (exec (.loftRecordWritten) s) fun t => t.ld.loft.queue = q ∧ t.ld.mram.loft.recs.length = s.ld.mram.loft.recs.length + 1 ∧ t.ld.mram.loft.next = (s.ld.mram.loft.next + 1) % 2 ^ 32 ∧
         (∃ x, t.ld.mram.loft.recs = s.ld.mram.loft.recs ++ [x] ∧ x.seq = s.ld.mram.loft.next ∧ x.req.code = r.code ∧ x.req.time = r.time ∧ x.bad = false)) ∧
  (∀ (s : State) (ctr : Word), s.told = true → s.ld.takes ctr (R.LOFT_CMD) (1#32) → s.ld.g F.LOFT_VSTAT_STATE = 0 → 
     Answers (exec (.loftVerify (some ctr)) s) fun t => t.ld.host.ferr = false ∧
         t.ld.loft.check = some (false, false, s.ld.mram.loft.recs.length) ∧ t.ld.g F.LOFT_VSTAT_STATE = 1) ∧
  (∀ (s : State) (ctr : Word), s.told = true → s.ld.takes ctr (R.LOFT_CMD) (keyed 2 0x10F7) → s.ld.g F.LOFT_VSTAT_STATE = 0 → 
     Answers (exec (.loftClear (some ctr) (0x10F7 : Fin 65536)) s) fun t => t.ld.host.ferr = false ∧
         t.ld.loft.check = some (true, false, s.ld.mram.loft.recs.length) ∧ t.ld.g F.LOFT_VSTAT_STATE = 1 ∧ t.ld.mram = s.ld.mram) ∧
  (∀ (s : State) (ctr : Word), s.told = true → s.ld.takes ctr (R.LOFT_CMD) (keyed 6 0x10F7) → s.ld.g F.LOFT_VSTAT_STATE = 0 → 
     Answers (exec (.loftClearForce (some ctr) (0x10F7 : Fin 65536)) s) fun t => t.ld.host.ferr = false ∧
         t.ld.loft.check = some (true, true, s.ld.mram.loft.recs.length) ∧ t.ld.g F.LOFT_VSTAT_STATE = 1 ∧ t.ld.mram = s.ld.mram) ∧
  (∀ (s : State) (clear : Bool) (force : Bool) (n : Nat), s.ld.loft.check = some (clear, force, n) → s.ld.g F.LOFT_VSTAT_STATE = 1 → s.ld.loft.failNext = false → (s.ld.mram.loft.recs.take n).all (fun r => !r.bad) = true → 
     Answers (exec (.loftVerifyDone) s) fun t => t.ld.g F.LOFT_VSTAT_RESULT = 1 ∧ t.ld.gb ⟨R.EVT_RAW R.pageLOFT, 3, 1⟩ = true ∧ t.ld.g F.LOFT_VSTAT_STATE = (if clear then 2 else 0) ∧ t.ld.mram = s.ld.mram) ∧
  (∀ (s : State) (force : Bool) (n : Nat) (i : Nat), s.ld.loft.check = some (false, force, n) → s.ld.g F.LOFT_VSTAT_STATE = 1 → (s.ld.mram.loft.recs.take n).findIdx? (fun r => r.bad) = some i → 
     Answers (exec (.loftVerifyDone) s) fun t => t.ld.g F.LOFT_VSTAT_RESULT = 2 ∧ t.ld.g F.LOFT_VSTAT_FAIL_IDX = i % 2 ^ F.LOFT_VSTAT_FAIL_IDX.len ∧ t.ld.g F.LOFT_VSTAT_STATE = 0 ∧ t.ld.loft.check = none) ∧
  (∀ (s : State), s.ld.g F.LOFT_VSTAT_STATE = 2 → 
     Answers (exec (.loftClearDone) s) fun t => t.ld.mram.loft.recs.length = 1 ∧ (t.ld.mram.loft.recs.map fun r => r.req.code) = [3] ∧ t.ld.mram.loft.dropped = 0 ∧
         t.ld.mram.loft.clears = (s.ld.mram.loft.clears + 1) % 2 ^ 32 ∧ t.ld.mram.loft.base = s.ld.mram.loft.head ∧ t.ld.loft.check = none ∧ t.ld.g F.LOFT_VSTAT_STATE = 0)

/-- The session handshake: OPEN, CHALLENGE, PROVE, ACCEPT, CLOSE and CLOSED (R249, R296, R297, R300, R301) -/
def Obligations.SessionHandshakeRows : Prop :=
  (∀ (s : State) (ws : List Word), s.told = true → s.ld.serves = true → s.ld.cellar.hold = none → s.ld.cellarServes = true → s.ld.mram.owner.isSome = true → wbits (ws.getD 0 0#32) 16 2 ≠ 0 → (wbit (ws.getD 0 0#32) 0 = true → s.ld.sess.cur.isSome = true) → 
     Answers (exec (.openSession ws true) s) fun t => t.ld.sess.making = some (kChallenge, resOk, []) ∧ t.ld.host.ferr = false ∧
         t.ld.sess.hand = some { role := wbits (ws.getD 0 0#32) 16 2, rekey := wbit (ws.getD 0 0#32) 0, result := resOk, opened := msgWords 0 33 ws }) ∧
  (∀ (s : State) (h : Handshake) (ws : List Word), s.told = true → s.ld.made kChallenge = some (resOk, ws) → s.ld.sess.hand = some h → 
     Answers (exec (.challenge) s) fun t => t.ld.sess.making = none ∧ t.ld.sess.pairReady = false ∧
         ∃ reply, t.ld.sess.reply = some (kChallenge, reply) ∧ reply.length = 59 ∧ t.ld.sess.hand = some { h with ephemeral := s.ld.draws, sent := reply }) ∧
  (∀ (s : State) (h : Handshake) (ws : List Word) (credOk : Bool) (sigOk : Bool), s.told = true → s.ld.serves = true → s.ld.cellar.hold = none → s.ld.sess.hand = some h → h.sent ≠ [] → h.proved = none → 
     Answers (exec (.prove ws credOk sigOk) s) fun t => t.ld.sess.making = some (kAccept, (s.ld.judgeProve ws credOk sigOk h).result, []) ∧ t.ld.host.ferr = false ∧
         t.ld.sess.hand = some { h with proved := some (s.ld.judgeProve ws credOk sigOk h) }) ∧
  (∀ (s : State) (h : Handshake) (p : Proved) (ws : List Word), s.told = true → s.ld.made kAccept = some (resOk, ws) → s.ld.sess.hand = some h → h.proved = some p → 
     Answers (exec (.accept) s) fun t => t.ld.sess.making = none ∧ t.ld.sess.hand = none ∧ t.ld.gb ⟨R.EVT_RAW R.pageDEVICE, 11, 1⟩ = true ∧
         ∃ x, t.ld.sess.cur = some x ∧ x.id = s.ld.sess.keys + 1 ∧ x.role = h.role ∧ x.scope = p.scope ∧ x.holder = p.holder ∧ x.top = 0) ∧
  (∀ (s : State), s.told = true → s.ld.serves = true → s.ld.cellar.hold = none → 
     Answers (exec (.closeSession) s) fun t => t.ld.sess.making = some (kClosed, resOk, []) ∧ t.ld.sess.cur = s.ld.sess.cur ∧ t.ld.host.ferr = false) ∧
  (∀ (s : State) (r : Nat) (ws : List Word), s.ld.made kClosed = some (r, ws) → s.ld.sess.cur.isSome = true → 
     Answers (exec (.closed) s) fun t => t.ld.sess.cur = s.ld.sess.old ∧ t.ld.sess.old = none ∧ t.ld.sess.making = none ∧ t.ld.sess.reply = some (kClosed, [0#32]) ∧ t.ld.gb ⟨R.EVT_RAW R.pageCELLAR, 3, 1⟩ = true) ∧
  (∀ (s : State), s.ld.gb cellarRngOk = true → 
     Answers (exec (.ephemeralPairReady) s) fun t => t.ld.sess.pairReady = true ∧ t.fd = s.fd) ∧
  (∀ (s : State), s.ld.gb cellarRngOk = true → 
     Answers (exec (.entropyHealthTest .pairwise) s) fun t => t.ld.gb cellarRngOk = false ∧ t.ld.sess.cur = none ∧ t.fd = s.fd ∧ ∃ e ∈ t.ld.raised, e.src = 59 ∧ e.severe = true) ∧
  (∀ (s : State) (kind : Fin 128) (n : ReplyRead) (ws : List Word), s.told = true → s.ld.serves = true → n.words ≠ 0 → s.ld.sess.reply = some (kind.val, ws) → 
     Answers (exec (.sessionRead kind n) s) fun t => t.ld.host.reply = (List.range n.words).map (fun i => if n.late = true ∧ i = 0 then ones else ws.getD i ones) ∧ t.ld.host.ferr = n.late ∧ (n.late = true → t.ld.g F.HOST_ERR_REASON = 5)) ∧
  (∀ (s : State) (kind : Fin 128), s.told = true → s.ld.serves = true → hostKinds.contains kind.val = false → 
     Answers (exec (.sessionKindRefused kind) s) fun t => t.ld.host.ferr = true ∧ t.ld.g F.HOST_ERR_REASON = 14 ∧ t.ld.sess = s.ld.sess)

/-- Enrolment and transfer of the owner key with their nonces (R281, R282, R305) -/
def Obligations.OwnershipRows : Prop :=
  (∀ (s : State) (w : Word), s.told = true → s.ld.serves = true → s.ld.cellar.hold = none → 
     Answers (exec (.challengeReq w) s) fun t => t.ld.sess.making = some (kNonce, resOk, [w]) ∧ t.ld.host.ferr = false) ∧
  (∀ (s : State) (r : Nat) (w : Word), s.ld.made kNonce = some (r, [w]) → 
     Answers (exec (.nonce) s) fun t => t.ld.sess.making = none ∧ ∃ n reply, t.ld.sess.nonce = some { purpose := w.toNat, time := s.ld.time, words := n } ∧ n.length = 8 ∧
         t.ld.sess.reply = some (kNonce, reply) ∧ reply.length = 11 ∧ reply.head? = some w) ∧
  (∀ (s : State) (ws : List Word), s.told = true → s.ld.serves = true → s.ld.cellar.hold = none → s.ld.enrolOpen = true → s.ld.nonceOk 1 = true → 
     Answers (exec (.enrol ws true true) s) fun t => t.ld.sess.nonce = none ∧ t.ld.host.ferr = false ∧ ∃ n, t.ld.sess.making = some (kEnrolDone, resOk, n ++ msgWords 0 49 ws)) ∧
  (∀ (s : State) (ws : List Word), s.told = true → s.ld.made kEnrolDone = some (resOk, ws) → s.ld.enrolOpen = true → 
     Answers (exec (.enrolDone) s) fun t => t.ld.mram.owner = some (wordsNat (msgWords 1 24 (ws.drop (ws.length - 49)))) ∧ t.ld.mram.marker = none ∧ t.ld.g F.DEVICE_MODE_ENROL_OPEN = 0 ∧
         t.ld.sess.making = none ∧ t.ld.gb ⟨R.EVT_RAW R.pageCELLAR, 7, 1⟩ = true ∧ t.ld.mram.slots = s.ld.mram.slots) ∧
  (∀ (s : State) (ws : List Word), s.told = true → s.ld.serves = true → s.ld.cellar.hold = none → s.ld.role = 3 → s.ld.mram.owner.isSome = true → s.ld.cellarServes = true → s.ld.nonceOk 2 = true → wordsNat (msgWords 25 12 ws) = crateHash (s.ld.mram.slot s.ld.mram.active).words → 
     Answers (exec (.transfer ws true true) s) fun t => t.ld.sess.nonce = none ∧ t.ld.host.ferr = false ∧ ∃ n, t.ld.sess.making = some (kTransferDone, resOk, n ++ msgWords 0 61 ws)) ∧
  (∀ (s : State) (ws : List Word), s.told = true → s.ld.made kTransferDone = some (resOk, ws) → s.ld.role = 3 → (s.ld.freeSlot s.ld.mram.ownerSlot).isSome = true → 
     Answers (exec (.transferDone) s) fun t => t.ld.mram.owner = some (wordsNat (msgWords 1 24 (ws.drop (ws.length - 61)))) ∧ t.ld.mram.pairKey = none ∧ t.ld.mram.keys = [] ∧
         (t.ld.mram.slot s.ld.mram.active).signer = wordsNat (msgWords 1 24 (ws.drop (ws.length - 61))) ∧ t.ld.sess.cur = none ∧ t.ld.sess.making = none)

/-- The Cellar: detectors at their grade, SEC mismatches, the hold-off, self-tests, the entropy source, the enrolment window (R281, R285, R286, R287, R288, R289, R290, R291) -/
def Obligations.CellarRows : Prop :=
  (∀ (s : State) (d : Fin 11) (holds : Bool), s.told = true → d.val ≠ 10 → s.ld.detectorOn d = true → s.ld.detGrade d = 0 → 
     Answers (exec (.tamperDetectorFires d holds) s) fun t => t.ld.gb ⟨R.CELLAR_DETSTAT, d, 1⟩ = holds ∧ t.ld.regs.word R.CELLAR_ALARM = word (alarmWord d 0 false) ∧ t.ld.gb ⟨R.EVT_RAW R.pageCELLAR, 0, 1⟩ = true ∧ t.ld.sess = s.ld.sess ∧ t.ld.mram = s.ld.mram) ∧
  (∀ (s : State) (d : Fin 11) (holds : Bool), s.told = true → d.val ≠ 10 → s.ld.detectorOn d = true → s.ld.detGrade d = 1 → 
     Answers (exec (.tamperDetectorFires d holds) s) fun t => t.ld.regs.word R.CELLAR_ALARM = word (alarmWord d 1 false) ∧ t.ld.gb ⟨R.EVT_RAW R.pageCELLAR, 1, 1⟩ = true ∧ t.ld.sess.cur = none ∧ t.ld.sess.hand = none ∧ (∃ u, t.ld.cellar.hold = some u ∧ s.ld.time + 24576000 ≤ u) ∧ t.ld.mram = s.ld.mram) ∧
  (∀ (s : State) (d : Fin 11) (holds : Bool), d.val ≠ 10 → s.ld.detectorOn d = true → 2 ≤ s.ld.detGrade d → s.ld.mode ≠ .boot → s.ld.mode ≠ .lockout → 
     Answers (exec (.tamperDetectorFires d holds) s) fun t => t.ld.mram.owner = none ∧ t.ld.mram.pairKey = none ∧ t.ld.mram.keys = [] ∧ t.ld.mram.marker.isSome = true ∧ t.ld.mode = .boot ∧ t.ld.sess.cur = none ∧ t.ld.gb ⟨R.DEVICE_RSTCAUSE, 6, 1⟩ = true) ∧
  (∀ (s : State), s.told = true → 
     Answers (exec (.secMismatch) s) fun t => t.ld.gb cellarHalted = true ∧ t.ld.gb cellarSecOk = false ∧ t.ld.sess.cur = none ∧ t.ld.cellar.mismatchAt = some s.ld.time ∧ t.ld.gb ⟨R.EVT_RAW R.pageCELLAR, 6, 1⟩ = true) ∧
  (∀ (s : State) (pass : Bool), s.ld.gb cellarHalted = true → s.ld.cellar.stuck = false → 
     Answers (exec (.secRestartDone pass) s) fun t => t.ld.gb cellarHalted = !pass ∧ t.ld.cellar = s.ld.cellar) ∧
  (∀ (s : State), 
     Answers (exec (.holdoffExpiry) s) fun t => t.ld.cellar = { s.ld.cellar with hold := none } ∧ t.ld.regs = s.ld.regs ∧ t.fd = s.fd) ∧
  (∀ (s : State) (pass : Bool), s.ld.cellar.testing = true → 
     Answers (exec (.cellarSelftestDone pass) s) fun t => t.ld.cellar.testing = false ∧ t.ld.gb cellarKatOk = (pass && s.ld.gb cellarKatOk) ∧ t.ld.sess.cur = (if pass then s.ld.sess.cur else none)) ∧
  (∀ (s : State) (test : EntropyTest), test ≠ .pairwise → s.ld.cellar.rngAt = none → 
     Answers (exec (.entropyHealthTest test) s) fun t => t.ld.cellar.rngAt = some s.ld.time ∧ t.ld.gb cellarRngOk = s.ld.gb cellarRngOk ∧ t.ld.g (if test = .proportion then F.CELLAR_RNGSTAT_ADAPTIVE else F.CELLAR_RNGSTAT_REPCOUNT) = min (2 ^ F.CELLAR_RNGSTAT_ADAPTIVE.len - 1) (s.ld.g (if test = .proportion then F.CELLAR_RNGSTAT_ADAPTIVE else F.CELLAR_RNGSTAT_REPCOUNT) + 1)) ∧
  (∀ (s : State) (test : EntropyTest) (u : Nat), s.ld.cellar.rngAt = some u → s.ld.time - u ≤ 60 * minuteTicks → s.ld.gb cellarRngOk = true → 
     Answers (exec (.entropyHealthTest test) s) fun t => t.ld.gb cellarRngOk = false ∧ t.ld.sess.cur = none ∧ ∃ e ∈ t.ld.raised, e.src = 59 ∧ e.severe = true) ∧
  (∀ (s : State), 
     Answers (exec (.enrolWindowExpiry) s) fun t => t.ld.g F.DEVICE_MODE_ENROL_OPEN = (if s.ld.mram.owner.isNone then 0 else s.ld.g F.DEVICE_MODE_ENROL_OPEN) ∧ t.ld.mram = s.ld.mram ∧ t.fd = s.fd)

/-- CELLAR_SELFTEST and ZEROISE under an Owner session (R285, R294, R289) -/
def Obligations.CellarCommandRows : Prop :=
  (∀ (s : State) (ctr : Word), s.told = true → s.ld.takes ctr (R.CELLAR_SELFTEST) (1#32) → 
     Answers (exec (.cellarSelftest (some ctr)) s) fun t => t.ld.host.ferr = false ∧
         t.ld.cellar.testing = true ∧ t.ld.sess.cur.isSome = true ∧ t.ld.gb cellarKatOk = s.ld.gb cellarKatOk ∧ t.ld.mram = s.ld.mram ∧ t.ld.serves = false) ∧
  (∀ (s : State) (ctr : Word), s.told = true → s.ld.takes ctr (R.CELLAR_ZEROISE) (keyed 1 0x2E10) → 
     Answers (exec (.zeroisePurge (some ctr) (0x2E10 : Fin 65536)) s) fun t => t.ld.mram.owner = none ∧ t.ld.mram.pairKey = none ∧ t.ld.mram.keys = [] ∧ t.ld.mode = .boot ∧ t.ld.sess.cur = none ∧
         (∃ m, t.ld.mram.marker = some m ∧ m.grade = max 2 ((s.ld.mram.marker.map (·.grade)).getD 0)) ∧ t.ld.boot = {} ∧ t.ld.gb ⟨R.DEVICE_RSTCAUSE, 6, 1⟩ = true ∧ t.ld.mram.floor = s.ld.mram.floor) ∧
  (∀ (s : State) (ctr : Word), s.told = true → s.ld.takes ctr (R.CELLAR_ZEROISE) (keyed 2 0x6A7D) → 
     Answers (exec (.zeroiseGrave (some ctr) (0x6A7D : Fin 65536)) s) fun t => t.ld.mram.owner = none ∧ t.ld.mram.pairKey = none ∧ t.ld.mram.keys = [] ∧ t.ld.mode = .boot ∧ t.ld.sess.cur = none ∧
         (∃ m, t.ld.mram.marker = some m ∧ m.grade = max 3 ((s.ld.mram.marker.map (·.grade)).getD 0)) ∧ t.ld.mram.puf = false ∧ t.ld.boot = {} ∧ t.ld.gb ⟨R.DEVICE_RSTCAUSE, 6, 1⟩ = true ∧ t.ld.mram.floor = s.ld.mram.floor)

/-- Engine cores, checkpoints and guarded memory rows: failures, spares, restarts, corrected and uncorrectable errors (R15, R16, R18, R19, R390, R391) -/
def Obligations.EngineRows : Prop :=
  (∀ (s : State) (role : EngineRole), s.told = true → 
     Answers (exec (.coreSelftest role true) s) fun t => t = s) ∧
  (∀ (s : State) (role : EngineRole) (i : Nat), s.told = true → role.val ≠ 1 → nbit s.ld.cores.lost role = false → (role.val < 5 ∨ s.fd.released = true) → s.ld.spareCore (coreKind role) = some i → 
     Answers (exec (.coreSelftest role false) s) fun t => t.ld.isRetired (coreKind role) (s.ld.core role) = true ∧ t.ld.core role = i ∧ nbit t.ld.cores.restarting role = true) ∧
  (∀ (s : State) (role : EngineRole) (i : Nat), s.told = true → role.val ≠ 1 → nbit s.ld.cores.lost role = false → (role.val < 5 ∨ s.fd.released = true) → s.ld.spareCore (coreKind role) = some i → 
     Answers (exec (.coreHeartbeatMissing role) s) fun t => t.ld.isRetired (coreKind role) (s.ld.core role) = true ∧ t.ld.core role = i ∧ nbit t.ld.cores.restarting role = true) ∧
  (∀ (s : State) (role : EngineRole), s.told = true → role.val ≠ 1 → nbit s.ld.cores.lost role = false → (role.val < 5 ∨ s.fd.released = true) → s.ld.spareCore (coreKind role) = none → 
     Answers (exec (.coreSelftest role false) s) fun t => nbit t.ld.cores.lost role = true) ∧
  (∀ (s : State) (role : EngineRole), s.told = true → 
     Answers (exec (.roleResume role) s) fun t => nbit t.ld.cores.restarting role = false ∧ t.fd.rolesDown = t.ld.fieldDown ∧ t.ld.cores.lost = s.ld.cores.lost) ∧
  (∀ (s : State) (role : EngineRole), role.val ≠ 1 → nbit s.ld.cores.lost role = false → nbit s.ld.cores.restarting role = false → 
     Answers (exec (.checkpoint role) s) fun t => tget (fun _ => 0) t.ld.cores.checkpoints role % 2 = 1 - tget (fun _ => 0) s.ld.cores.checkpoints role % 2 ∧ nbit (tget (fun _ => 0) t.ld.cores.checkpoints role) (2 - tget (fun _ => 0) s.ld.cores.checkpoints role % 2) = true ∧ t.fd = s.fd) ∧
  (∀ (s : State) (mem : Memory) (row : Nat) (use : RowUse) (k : Nat), s.told = true → s.memAsleep mem = false → memKind mem = some k → s.ld.rowInUse k row = true → row < memRows mem → s.ld.mem.marked.contains mem = false → 
     Answers (exec (.scrubRead mem row 1 use) s) fun t => t.ld.mem.counts = (s.ld.rowCounts mem row).1.mem.counts ∧ t.ld.raised.length ≤ s.ld.raised.length + 1 ∧ t.ld.mram = s.ld.mram) ∧
  (∀ (s : State) (row : Nat) (p : Fin 4), s.told = true → s.ld.rowInUse 11 row = true → row < memRows .mram → s.ld.mem.marked.contains .mram = false → 
     Answers (exec (.scrubRead .mram row 3 (.slot p)) s) fun t => (t.ld.mram.slot p).readable = false ∧ ∃ e ∈ t.ld.raised, e.src = 12 ∧ e.severe = false) ∧
  (∀ (s : State) (mem : Memory) (row : Nat) (k : Nat) (sp : Nat) (x : RowMove), s.ld.mem.moves.find? (fun x => x.mem == mem && x.row == row) = some x → memKind mem = some k → s.ld.spareRow k = some sp → 
     Answers (exec (.rowMoveDone mem row) s) fun t => t.ld.isRetired k row = true ∧ ((k, row), sp) ∈ t.ld.mram.larder.rows ∨ t.ld.isRetired k row = true ∧ (∃ y ∈ s.ld.mram.larder.rows, y.1.1 = k ∧ y.2 = row ∧ (y.1, sp) ∈ t.ld.mram.larder.rows)) ∧
  (∀ (s : State) (mem : Memory) (row : Nat), 
     Answers (exec (.rowCountExpiry mem row) s) fun t => t.ld = { s.ld with mem := { s.ld.mem with counts := s.ld.mem.counts.filter fun x => x.1 != (mem, row) } } ∧ t.fd = s.fd)

/-- The fault collector: counting and grading, reactions, acknowledgement, clears, ERROUT and kept events (R370, R371, R372, R373, R375, R376, R377, R378) -/
def Obligations.FaultRows : Prop :=
  (∀ (s : State) (e : FaultEv), s.told = true → s.ld.raised = [e] → e.src < 64 → nbit (s.ld.g (F.FAULT_SRC_REACT_MILD e.src)) 2 = false → nbit (s.ld.g (F.FAULT_SRC_REACT_MILD e.src)) 3 = false → nbit (s.ld.g (F.FAULT_SRC_REACT_SEVERE e.src)) 2 = false → nbit (s.ld.g (F.FAULT_SRC_REACT_SEVERE e.src)) 3 = false → 
     Answers (exec (.faultEvent) s) fun t => t.ld.raised = [] ∧ t.ld.g (F.FAULT_SRC_STAT_COUNT e.src) = min 0xFFFF (s.ld.g (F.FAULT_SRC_STAT_COUNT e.src) + max 1 e.count) ∧
         t.ld.regs.word R.FAULT_TOTAL = s.ld.regs.word R.FAULT_TOTAL + word (max 1 e.count) ∧ t.ld.g F.FAULT_LAST_SOURCE = e.src ∧
         (e.severe = true → t.ld.gb (F.FAULT_SRC_STAT_SEVERE e.src) = true)) ∧
  (∀ (s : State) (e : FaultEv), s.told = true → s.ld.raised = [e] → e.src < 64 → e.severe = true → wdogSource e.src = false → s.ld.mode = .run → s.ld.leadReady = false → nbit (s.ld.g (F.FAULT_SRC_REACT_MILD e.src)) 2 = false → nbit (s.ld.g (F.FAULT_SRC_REACT_MILD e.src)) 3 = false → nbit (s.ld.g (F.FAULT_SRC_REACT_SEVERE e.src)) 2 = false → nbit (s.ld.g (F.FAULT_SRC_REACT_SEVERE e.src)) 3 = false → nbit (s.ld.g (F.FAULT_SRC_REACT_SEVERE e.src)) 5 = true → 
     Answers (exec (.faultEvent) s) fun t => t.ld.mode = .safe ∧ t.ld.gb (safeCause 2) = true ∧ t.ld.gb (F.FAULT_SRC_STAT_INHAND e.src) = true) ∧
  (∀ (s : State) (ctr : Word) (w : Word), s.told = true → s.ld.takes ctr (R.FAULT_ACK) (w) → wbit w 31 = false → 
     Answers (exec (.faultAck (some ctr) w) s) fun t => t.ld.host.ferr = false ∧
         t.ld.gb (F.FAULT_SRC_STAT_INHAND (wbits w 0 6)) = false ∧ t.ld.gb (F.FAULT_SRC_STAT_MERGED (wbits w 0 6)) = false ∧ t.ld.gb (F.FAULT_SRC_STAT_URG (wbits w 0 6)) = false) ∧
  (∀ (s : State) (ctr : Word) (i : Fin 64), s.told = true → s.ld.takes ctr (R.FAULT_CLEAR) (word (256 + i)) → (s.ld.eventsOf i).all (fun x => x.1 != s.ld.time) = true → 
     Answers (exec (.faultClearGrade (some ctr) i) s) fun t => t.ld.host.ferr = false ∧
         t.ld.gb (F.FAULT_SRC_STAT_SEVERE i) = false) ∧
  (∀ (s : State) (ctr : Word) (i : Fin 64), s.told = true → s.ld.takes ctr (R.FAULT_CLEAR) (word (512 + i)) → (s.ld.eventsOf i).all (fun x => x.1 != s.ld.time) = true → 
     Answers (exec (.faultClearCount (some ctr) i) s) fun t => t.ld.host.ferr = false ∧
         t.ld.g (F.FAULT_SRC_STAT_COUNT i) = 0 ∧ t.ld.eventsOf i = []) ∧
  (∀ (s : State) (ctr : Word), s.told = true → s.ld.takes ctr (R.FAULT_ERRCTL) (1#32) → s.ld.errout = true → s.ld.faults.errAt ≠ some s.ld.time → 
     Answers (exec (.erroutRelease (some ctr)) s) fun t => t.ld.host.ferr = false ∧
         t.ld.released = true ∧ t.ld.errout = s.ld.minw) ∧
  (∀ (s : State), s.ld.minw = true → 
     Answers (exec (.erroutMinwExpiry) s) fun t => t.ld.minw = false ∧ t.ld.errout = (s.ld.errout && !s.ld.released) ∧ t.ld.regs = s.ld.regs) ∧
  (∀ (s : State), s.up → 
     Answers (exec (.keptEventsDelivered) s) fun t => t.fd.out = [] ∧ t.ld.raised = s.ld.raised ++ s.fd.out.filterMap (fun m => match m with | .fault e => some { e with late := true } | _ => none))

/-- Larder requests, restore tests and the veto (R395, R396) -/
def Obligations.LarderRows : Prop :=
  (∀ (s : State) (ctr : Word) (kind : Fin 16) (index : Fin 16777216), s.up → s.ld.bar.cmds = [] → s.ld.bar.pages = [] → s.ld.takes ctr (R.LARDER_REQ) (word (16 + kind + 256 * index)) → index.val < kindTotal kind → s.ld.spares kind ≠ 0 → s.ld.isRetired kind index = false → (kind.val = 13 → s.ld.slotsUsed.contains index = true ∧ (s.ld.freeSlot index).isSome = true) → s.retiring kind = false → 
     Answers (exec (.larderRetire (some ctr) kind index) s) fun t => t.ld.host.ferr = false ∧
         t.ld.g F.LARDER_REQSTAT_RESULT = 1) ∧
  (∀ (s : State) (ctr : Word) (kind : Fin 16) (index : Fin 16777216), s.up → s.ld.bar.cmds = [] → s.ld.bar.pages = [] → s.ld.takes ctr (R.LARDER_REQ) (word (16 + kind + 256 * index)) → 7 ≤ kind.val → kind.val ≤ 12 → index.val < kindTotal kind → s.ld.spares kind ≠ 0 → s.ld.isRetired kind index = false → s.ld.moving kind = false → s.ld.rowInUse kind index = true → 
     Answers (exec (.larderRetire (some ctr) kind index) s) fun t => t.ld.host.ferr = false ∧
         t.ld.mem.moves = s.ld.mem.moves ++ [{ mem := kindMem kind, row := index, cause := 4, inj := false }] ∧ t.ld.g F.LARDER_REQSTAT_RESULT = 1) ∧
  (∀ (s : State) (ctr : Word) (kind : Fin 16) (index : Fin 16777216), s.up → s.ld.bar.cmds = [] → s.ld.bar.pages = [] → s.ld.takes ctr (R.LARDER_REQ) (word (16 + kind + 256 * index)) → 7 ≤ kind.val → kind.val ≤ 12 → index.val < kindTotal kind → s.ld.spares kind ≠ 0 → s.ld.isRetired kind index = false → s.ld.moving kind = false → s.ld.rowInUse kind index = false → 
     Answers (exec (.larderRetire (some ctr) kind index) s) fun t => t.ld.host.ferr = false ∧
         t.ld.mem.moves = s.ld.mem.moves ∧ t.ld.isRetired kind index = true ∧ t.ld.g F.LARDER_REQSTAT_RESULT = 1) ∧
  (∀ (s : State) (ctr : Word) (kind : Fin 16) (index : Fin 16777216), s.up → s.ld.bar.cmds = [] → s.ld.bar.pages = [] → s.ld.takes ctr (R.LARDER_REQ) (word (16 + kind + 256 * index)) → index.val < kindTotal kind → (s.ld.spares kind = 0 ∨ s.ld.isRetired kind index = true) → 
     Answers (exec (.larderRetire (some ctr) kind index) s) fun t => t.ld.host.ferr = true ∧ t.ld.g F.LARDER_REQSTAT_RESULT = 4 ∧ t.ld.mram = s.ld.mram) ∧
  (∀ (s : State) (ctr : Word) (kind : Fin 16) (index : Fin 16777216), s.up → s.ld.bar.cmds = [] → s.ld.bar.pages = [] → s.ld.takes ctr (R.LARDER_REQ) (word (32 + kind + 256 * index)) → index.val < kindTotal kind → s.ld.isRetired kind index = true → s.ld.restores_ kind index < 2 → s.retiring kind = false → 
     Answers (exec (.larderRestore (some ctr) kind index) s) fun t => t.ld.host.ferr = false ∧
         t.ld.g F.LARDER_REQSTAT_RESULT = 2 ∧ t.ld.larder.testing = s.ld.larder.testing.filter (· != (kind.val, index.val)) ++ [(kind.val, index.val)]) ∧
  (∀ (s : State) (r : RestoreResult) (k : Nat) (i : Nat) (rest : List (Nat × Nat)), s.told = true → s.ld.larder.testing = (k, i) :: rest → r.fail.val = 0 → (k ≠ 0 ∨ s.ld.linkUp = true ∧ s.fd.released = true ∧ (s.fd.testVerdict i 0 r.dev).1 = 0) → 
     Answers (exec (.restoreTestDone r) s) fun t => t.ld.isRetired k i = false ∧ t.ld.larder.testing = rest ∧ (rest = [] → t.ld.g F.LARDER_REQSTAT_RESULT = 1)) ∧
  (∀ (s : State) (r : RestoreResult) (k : Nat) (i : Nat) (rest : List (Nat × Nat)), s.told = true → s.ld.larder.testing = (k, i) :: rest → k ≠ 0 → r.fail.val ≠ 0 → 
     Answers (exec (.restoreTestDone r) s) fun t => t.ld.mram.larder.retired = s.ld.mram.larder.retired ∧ t.ld.larder.testing = rest ∧ (rest = [] → t.ld.g F.LARDER_REQSTAT_RESULT = 3)) ∧
  (∀ (s : State) (r : RestoreResult) (i : Nat) (rest : List (Nat × Nat)), s.told = true → s.ld.larder.testing = (0, i) :: rest → (s.ld.linkUp = true → s.fd.released = true → (s.fd.testVerdict i r.fail r.dev).1 ≠ 0) → 
     Answers (exec (.restoreTestDone r) s) fun t => t.ld.mram.larder.retired = s.ld.mram.larder.retired ∧ (s.ld.linkUp = true → s.fd.released = true → (t.fd.slice i).role = .retired) ∧ t.ld.larder.testing = rest ∧ (rest = [] → t.ld.g F.LARDER_REQSTAT_RESULT = 3)) ∧
  (∀ (s : State) (ctr : Word) (w : Word), s.up → s.ld.bar.cmds = [] → s.ld.bar.pages = [] → s.ld.takes ctr (R.LARDER_VETO) (w) → 
     Answers (exec (.vetoWrite (some ctr) w) s) fun t => t.ld.host.ferr = false ∧
         t.ld.g F.LARDER_VETO_KIND = wbits w 0 14 ∧ t.fd.veto = wbits w 0 14)

/-- Blocks: reset, enable, disable and their completion (R44, R45, R46, R57) -/
def Obligations.BlockRows : Prop :=
  (∀ (s : State) (ctr : Word) (page : Page) (en : Bool), s.up → s.ld.bar.cmds = [] → s.ld.bar.pages = [] → s.ld.takes ctr (R.CTRL page) (word (2 + b2n en)) → s.status page 0 = false → s.status page 1 = false → s.enabled page = en → 
     Answers (exec (.breset (some ctr) page en) s) fun t => t.ld.host.ferr = false ∧
         t.resetting page = true ∧ t.status page 0 = true ∧ t.enabled page = en ∧ (onField (page * 256) = false → t.ld.regs.word (R.EVT_RAW page) = 0#32)) ∧
  (∀ (s : State) (ctr : Word) (page : Page), s.up → s.ld.bar.cmds = [] → s.ld.bar.pages = [] → s.ld.takes ctr (R.CTRL page) (1#32) → s.status page 0 = false → s.status page 1 = false → s.enabled page = false → s.ld.gb (F.CTRL_EN page) = false → 
     Answers (exec (.blockEnable (some ctr) page) s) fun t => t.ld.host.ferr = false ∧
         t.ld.gb (F.CTRL_EN page) = true ∧ t.enabled page = true ∧ t.status page 0 = false) ∧
  (∀ (s : State) (ctr : Word) (page : Page), s.up → s.ld.bar.cmds = [] → s.ld.bar.pages = [] → s.ld.takes ctr (R.CTRL page) (0#32) → s.status page 0 = false → s.status page 1 = false → s.enabled page = true → 
     Answers (exec (.blockDisable (some ctr) page) s) fun t => t.ld.host.ferr = false ∧
         t.ld.gb (F.CTRL_EN page) = false ∧ t.enabled page = false ∧ t.status page 0 = s.enActs page ∧ (s.enActs page = true → t.shutsDown page = true)) ∧
  (∀ (s : State) (page : Page), s.up → s.resetting page = true → s.shutsDown page = false → s.status page 1 = false → 
     Answers (exec (.blockResetComplete page) s) fun t => t.status page 0 = false ∧ (onField (page * 256) = true → t.fd.resets = s.fd.resets.erase page) ∧
         (onField (page * 256) = false → t.ld.resets = s.ld.resets.erase page)) ∧
  (∀ (s : State) (page : Page), s.up → s.status page 0 = true → s.shutsDown page = true → s.resetting page = false → s.status page 1 = false → 
     Answers (exec (.shutdownComplete page) s) fun t => t.status page 0 = false ∧ t.enabled page = s.enabled page) ∧
  (∀ (s : State) (page : Page), s.up → s.status page 0 = true → s.shutsDown page = true → s.resetting page = false → s.status page 1 = true → 
     Answers (exec (.shutdownComplete page) s) fun t => t.status page 0 = false ∧ t.status page 1 = false)

/-- Clocks: failures, degraded mode, the HFRCs, the field die on FRC, returns, and the frequency counter (R351, R352, R354, R356, R358, R359, R360) -/
def Obligations.ClockRows : Prop :=
  (∀ (s : State) (src : Fin 7), s.told = true → src.val ≤ 1 → s.ld.gb (clockOk src) = true → s.ld.gb F.CLOCK_SRCSTAT_DEGRADED = false → s.ld.hfrcGood s.ld.hfrc = true → 
     Answers (exec (.clockSourceFail src) s) fun t => t.ld.gb (clockOk src) = false ∧ t.ld.gb F.CLOCK_SRCSTAT_DEGRADED = true ∧ t.ld.clocks.urg = true ∧ t.ld.clocks.degradedAt = some s.ld.time ∧ t.ld.bar.rateDue = some true ∧ t.ld.g F.CLOCK_SRCSTAT_LOGIC_SRC = 1 + s.ld.hfrc ∧ (s.fd.released = true → t.fd.onFrc = true)) ∧
  (∀ (s : State) (src : Fin 7), src.val ≤ 1 → s.ld.gb (clockOk src) = true → s.ld.gb F.CLOCK_SRCSTAT_DEGRADED = false → s.ld.hfrcGood 0 = false → s.ld.hfrcGood 1 = false → 
     Answers (exec (.clockSourceFail src) s) fun t => t.ld.mode = .boot ∧ t.ld.gb ⟨R.DEVICE_RSTCAUSE, 4, 1⟩ = true ∧ t.fd.onFrc = true ∧ t.ld.mram = { s.ld.mram with loft := { s.ld.mram.loft with flight := s.ld.loft.queue.head? } } ∧ t.fd.cfg = s.fd.cfg) ∧
  (∀ (s : State) (src : Fin 7), s.told = true → src.val ≤ 1 → s.ld.gb (clockOk src) = true → s.ld.gb F.CLOCK_SRCSTAT_DEGRADED = false → s.ld.hfrcGood s.ld.hfrc = false → s.ld.hfrcGood (1 - s.ld.hfrc) = true → 
     Answers (exec (.clockSourceFail src) s) fun t => t.ld.gb F.CLOCK_SRCSTAT_DEGRADED = true ∧ t.ld.clocks.hfrcB = (s.ld.hfrc == 0) ∧ t.ld.clocks.urg = true ∧ t.ld.g F.CLOCK_SRCSTAT_LOGIC_SRC = 2 - s.ld.hfrc) ∧
  (∀ (s : State) (k : Fin 2), s.told = true → s.ld.gb (clockOk (2 + k)) = true → s.ld.hfrc = k.val → s.ld.hfrcGood (1 - k) = true → s.ld.isRetired 6 k = false → 
     Answers (exec (.clockSourceFail (Fin.ofNat 7 (2 + k))) s) fun t => t.ld.isRetired 6 k = true ∧ t.ld.clocks.hfrcB = (k.val == 0) ∧ t.ld.mram.larder.hfrcB = (k.val == 0) ∧ t.ld.gb (clockOk (2 + k)) = false) ∧
  (∀ (s : State) (src : Fin 7), s.told = true → src.val = 4 → s.ld.gb (clockOk 4) = true → 
     Answers (exec (.clockSourceFail src) s) fun t => t.ld.gb (clockOk 4) = false ∧ t.ld.gb ⟨R.EVT_RAW R.pageCLOCK, 3, 1⟩ = true ∧ t.ld.wdogCount = s.ld.wdogCount ∧ t.ld.wdog = { s.ld.wdog with base := t.ld.wdog.base, opened := t.ld.wdog.opened }) ∧
  (∀ (s : State) (src : Fin 7), s.up → src.val = 5 → s.fd.recBad = false → 
     Answers (exec (.clockSourceFail src) s) fun t => t.fd.onFrc = true ∧ t.ld.gb clockOnFrc = true ∧ t.ld.gb ⟨R.EVT_RAW R.pageCLOCK, 4, 1⟩ = true) ∧
  (∀ (s : State) (src : Fin 7), s.up → src.val = 6 → s.fd.frcBad = false → 
     Answers (exec (.clockSourceFail src) s) fun t => t.ld.gb (clockOk 5) = false ∧ t.ld.gb ⟨R.EVT_RAW R.pageCLOCK, 5, 1⟩ = true) ∧
  (∀ (s : State), s.up → 
     Answers (exec (.fieldClockRelock) s) fun t => t.fd.onFrc = false ∧ t.ld.gb clockOnFrc = false) ∧
  (∀ (s : State) (src : Fin 7), s.told = true → src.val ≤ 4 → 
     Answers (exec (.clockSourceReturn src) s) fun t => t.ld.gb (clockOk src) = true ∧ t.ld.mram = s.ld.mram) ∧
  (∀ (s : State) (src : Fin 7), s.told = true → src.val ≤ 1 → s.ld.gb (clockOk (1 - src)) = true → s.ld.gb F.CLOCK_CFG_AUTO_RESTORE = true → 
     Answers (exec (.clockSourceReturn src) s) fun t => t.ld.gb F.CLOCK_SRCSTAT_DEGRADED = false) ∧
  (∀ (s : State) (ctr : Word), s.told = true → s.ld.takes ctr (R.CLOCK_CTL) (1#32) → s.ld.gb (clockOk 0) = true → s.ld.gb (clockOk 1) = true → 
     Answers (exec (.clockRestore (some ctr)) s) fun t => t.ld.host.ferr = false ∧
         t.ld.gb F.CLOCK_SRCSTAT_DEGRADED = false) ∧
  (∀ (s : State), s.told = true → 
     Answers (exec (.fcoreStop) s) fun t => t.fd.released = false ∧ t.fd.cfg = [] ∧ t.fd.terms = [] ∧ t.ld.g F.DEVICE_MODE_FIELD_CFG = 0 ∧ ∃ e ∈ t.ld.raised, e.src = 7) ∧
  (∀ (s : State) (ctr : Word) (w : Word), s.told = true → s.ld.takes ctr (R.CLOCK_FMEAS_CFG) (w ||| 0x80000000#32) → 
     Answers (exec (.fmeasGo (some ctr) w) s) fun t => t.ld.host.ferr = false ∧
         t.ld.regs.word R.CLOCK_FMEAS_STAT = 1#32) ∧
  (∀ (s : State) (edges : Nat), s.ld.gb F.CLOCK_FMEAS_STAT_BUSY = true → 
     Answers (exec (.fmeasDone edges) s) fun t => t.ld.gb F.CLOCK_FMEAS_STAT_BUSY = false ∧ t.ld.gb F.CLOCK_FMEAS_STAT_DONE = true ∧ t.ld.g F.CLOCK_FMEAS_RES_COUNT = min 0xFFFFFFFF edges ∧ t.ld.gb F.CLOCK_FMEAS_STAT_OVF = decide (2 ^ 32 ≤ edges))

/-- The partner port: what is sent, what a received frame leaves, and the frames of chapter 19 (R323, R325, R326, R327, R328, R329, R330, R331, R332, R334, R336) -/
def Obligations.PartnerPortRows : Prop :=
  (∀ (s : State) (partner : Bool), s.told = true → s.ld.pairPortOn = true → s.ld.pair.port.again = [] → 
     Answers (exec (.partnerFrameSlot partner) s) fun t => (∃ x, t.ld.pair.port.last = some x ∧ x.kind = s.filled (nextFrame s.dueFrames) ∧ x.payload = Sys2Proof.Config.pairPayload (s.ld.mram.pairKey.getD 0) x.kind % 2 ^ 200 ∧ x.fseq = s.ld.pair.port.next ∧ (x.kind ≠ .idle → x ∈ t.ld.pair.port.kept)) ∧
         t.ld.g F.PAIR_STAT_TN = announceTime (s.ld.regs.word R.PAIR_PORT) (s.ld.pclkSlow partner) % 2 ^ F.PAIR_STAT_TN.len) ∧
  (∀ (s : State) (partner : Bool) (x : SentFrame PFrame) (rest : List (SentFrame PFrame)), s.told = true → s.ld.pairPortOn = true → s.ld.pair.port.again = x :: rest → 
     Answers (exec (.partnerFrameSlot partner) s) fun t => (∃ y, t.ld.pair.port.last = some y ∧ y.kind = x.kind ∧ y.fseq = x.fseq ∧ y.payload = x.payload) ∧ t.ld.pair.port.again = rest ∧ t.ld.pair.port.next = s.ld.pair.port.next) ∧
  (∀ (s : State) (c : PairSeen) (resend : Option (Fin 256)) (severe : Fin 256) (approved : Bool), s.told = true → s.ld.pairPortOn = true → ¬ s.ld.passes c → 
     Answers (exec (.pairSummary c resend severe approved) s) fun t => t.ld.pair.port.ask = true ∧ t.ld.g F.PAIR_PFRAMES_DISCARD = min (2 ^ F.PAIR_PFRAMES_DISCARD.len - 1) (s.ld.g F.PAIR_PFRAMES_DISCARD + 1) ∧ t.ld.g F.PAIR_PARTNER_SEVERE = s.ld.g F.PAIR_PARTNER_SEVERE) ∧
  (∀ (s : State) (fr : PairSeen) (resend : Option (Fin 256)) (severe : Fin 256) (approved : Bool), s.told = true → s.ld.hears = true → s.ld.passes fr → 
     Answers (exec (.pairSummary fr resend severe approved) s) fun t => t.ld.g F.PAIR_PARTNER_SEVERE = severe ∧ t.ld.gb F.PAIR_PARTNER_APPROVED = approved ∧ t.ld.pair.port.got = (s.ld.pair.port.got + 1) % 256 ∧
         (∀ a, resend = some a → t.ld.pair.port.again = (s.ld.pair.port.kept.takeWhile fun x => x.fseq != a.val).reverse)) ∧
  (∀ (s : State) (fr : PairSeen) (resend : Option (Fin 256)) (x : Notice), s.up → s.ld.hears = true → s.ld.pairRole = 2 → s.ld.passes fr → 
     Answers (exec (.pairNotice fr resend x) s) fun t => (t.fd.term x.n).expect = x.level ∧ (t.fd.term x.n).blocked = x.blocked) ∧
  (∀ (s : State) (fr : PairSeen) (resend : Option (Fin 256)) (late : Bool) (f : AuthFrame) (x : Session) (page : Page) (w : Word) (u : Nat), s.told = true → s.ld.hears = true → 1 ≤ s.ld.boot.logic → s.ld.host.auth = some f → f.mirrored = some u → s.ld.sess.cur = some x → x.id = f.keys → f.addr = R.EVT_EN page → f.words = [w] → (regRow (R.EVT_EN page)).isSome = true → pageKind page ≠ .seqtab → s.ld.locked page = false → s.ld.passes fr → 
     Answers (exec (.pairAck fr resend late none) s) fun t => t.ld.host.auth = none ∧ t.ld.regs.word (R.EVT_EN page) = w) ∧
  (∀ (s : State) (f : AuthFrame) (x : Session) (page : Page) (w : Word) (u : Nat), s.told = true → 1 ≤ s.ld.boot.logic → s.ld.host.auth = some f → f.mirrored = some u → s.ld.sess.cur = some x → x.id = f.keys → f.addr = R.EVT_EN page → f.words = [w] → (regRow (R.EVT_EN page)).isSome = true → pageKind page ≠ .seqtab → s.ld.locked page = false → 
     Answers (exec (.mirrorAckTimeout) s) fun t => t.ld.host.auth = none ∧ t.ld.regs.word (R.EVT_EN page) = w ∧ t.ld.gb F.PAIR_STAT_READY = false ∧ t.ld.pair.step = 5 ∧ (∃ e ∈ t.ld.raised, e.src = 30)) ∧
  (∀ (s : State) (fr : PairSeen) (resend : Option (Fin 256)) (c : Word) (x : Session), s.told = true → s.ld.hears = true → s.ld.sess.cur = some x → s.ld.passes fr → 
     Answers (exec (.pairMirror fr resend (.ctr c)) s) fun t => t.ld.sess.cur = some { x with top := max x.top c.toNat }) ∧
  (∀ (s : State) (fr : PairSeen) (resend : Option (Fin 256)) (w : Word) (c : Word), s.told = true → s.ld.hears = true → s.ld.pairRole = 2 → s.ld.pair.queue.length < 64 → s.ld.passes fr → 
     Answers (exec (.pairMirror fr resend (.words (Fin.ofNat 65536 R.WDOG_TASKS) [w] c)) s) fun t => t.ld.g F.WDOG_TASKS_EN = wbits w 0 8 ∧ PFrame.ack none ∈ t.ld.pair.queue) ∧
  (∀ (s : State) (fr : PairSeen) (resend : Option (Fin 256)) (c : Ctx) (k : Word), s.told = true → s.ld.hears = true → s.ld.pairRole = 2 → s.ld.pair.queue.length < 64 → s.ld.passes fr → 
     Answers (exec (.pairMirror fr resend (.words (Fin.ofNat 65536 (R.CTX_LIFE_CLR c)) [1#32] k)) s) fun t => t.ld.lifeCount c = 0 ∧ PFrame.ack none ∈ t.ld.pair.queue) ∧
  (∀ (s : State) (fr : PairSeen) (resend : Option (Fin 256)) (h : Heartbeat), s.told = true → s.ld.hears = true → s.ld.pairRole = 1 → s.ld.pair.step = 7 → h.role.val ≠ 1 → h.ready = true → s.ld.passes fr → 
     Answers (exec (.pairHeartbeat fr resend h) s) fun t => t.ld.gb F.PAIR_STAT_READY = true ∧ t.ld.pair.step = 8 ∧ t.ld.gb ⟨R.EVT_RAW R.pagePAIR, 0, 1⟩ = true) ∧
  (∀ (s : State) (fr : PairSeen) (resend : Option (Fin 256)) (h : Heartbeat), s.told = true → s.ld.hears = true → (s.ld.pairRole ≠ 1 ∨ h.role.val ≠ 1) → s.ld.passes fr → 
     Answers (exec (.pairHeartbeat fr resend h) s) fun t => t.ld.pair.heard = s.ld.time ∧ t.ld.g F.PAIR_PARTNER_MODE = h.mode ∧ t.ld.pairRole = s.ld.pairRole) ∧
  (∀ (s : State) (fr : PairSeen) (resend : Option (Fin 256)) (h : Heartbeat), s.told = true → s.ld.hears = true → s.ld.pairRole = 1 → h.role.val = 1 → h.pleadTime + ticks10us < s.ld.pair.pleadAt → s.ld.passes fr → 
     Answers (exec (.pairHeartbeat fr resend h) s) fun t => t.ld.mode = .follow ∧ t.ld.pairRole = 2 ∧ t.ld.gb F.PAIR_STAT_PLEAD_OUT = false) ∧
  (∀ (s : State) (fr : PairSeen) (resend : Option (Fin 256)) (groups : Fin 16) (stamp : Nat), s.up → s.ld.hears = true → s.ld.pairRole = 2 → groups.val ≠ 0 → s.ld.passes fr → 
     Answers (exec (.pairTrigger fr resend groups stamp) s) fun t => t.fd.trigs = s.fd.trigs ++ [{ stamp := stamp, groups := groups }]) ∧
  (∀ (s : State) (fr : PairSeen) (resend : Option (Fin 256)) (offset : Int), s.told = true → s.ld.hears = true → offset.natAbs ≤ 20 → s.ld.passes fr → 
     Answers (exec (.pairTime fr resend offset) s) fun t => t.ld.g F.PAIR_TOFFS_OFFSET = unsigned 32 offset ∧ t.ld.gb F.PAIR_STAT_TALIGN = true)

/-- Pairing and what follower and lead exchange: HELLO, STATE, COMPARE, CRATE, RESET_REQ, retry and resynchronisation (R286, R287, R327, R330, R331, R333, R345, R346, R348) -/
def Obligations.PairStateRows : Prop :=
  (∀ (s : State) (fr : PairSeen) (resend : Option (Fin 256)) (who : HelloFrom) (hash : Nat), fr.guard = true → fr.tag = true → who.pointOk = true → s.told = true → s.ld.pairPortOn = true → s.ld.gb F.PAIR_STAT_LINK = true → s.ld.pair.step = 1 → who.serial = s.ld.otherSerial → s.ld.gb cellarIdOk = true → s.ld.gb cellarHalted = false → hash = crateHash (s.ld.mram.slot s.ld.mram.active).words → (s.ld.freeSlot (2 + s.ld.mram.pairSlot)).isSome = true → 
     Answers (exec (.hello fr resend who hash true) s) fun t => t.ld.mram.pairKey = some (s.ld.pairKey who) ∧ t.ld.mram.pairEpoch = s.ld.mram.pairEpoch + 1 ∧ t.ld.gb F.PAIR_STAT_KEY_OK = true ∧ t.ld.gb F.PAIR_STAT_HASH_OK = true ∧ t.ld.pair.step = 4 ∧ t.ld.pair.port.got = (fr.fseq.val + 1) % 256) ∧
  (∀ (s : State) (fr : PairSeen) (resend : Option (Fin 256)) (who : HelloFrom) (hash : Nat) (ok : Bool), fr.guard = true → fr.tag = true → who.pointOk = false → s.told = true → s.ld.pairPortOn = true → s.ld.gb F.PAIR_STAT_LINK = true → s.ld.pair.step = 1 → s.ld.detGrade 9 ≤ 1 → 
     Answers (exec (.hello fr resend who hash ok) s) fun t => t.ld.mram.pairKey = s.ld.mram.pairKey ∧ t.ld.gb ⟨R.EVT_RAW R.pagePAIR, 12, 1⟩ = true ∧ t.ld.g F.CELLAR_AUTHFAIL_TOTAL = min (2 ^ F.CELLAR_AUTHFAIL_TOTAL.len - 1) (s.ld.g F.CELLAR_AUTHFAIL_TOTAL + 1)) ∧
  (∀ (s : State) (fr : PairSeen) (resend : Option (Fin 256)) (x : Transfer), s.up → s.ld.hears = true → s.ld.pairRole = 2 → s.ld.pair.step = 5 → x.closes = [] → s.ld.passes fr → 
     Answers (exec (.pairState fr resend x) s) fun t => t.ld.pair.step = 6 ∧ t.ld.sess.cur = x.session ∧ t.ld.g F.WDOG_TASKS_EN = x.tasks % 256 ∧ t.ld.regs.word R.DEVICE_SESS_BOUND = word x.bound ∧ t.ld.regs.word R.DEVICE_OUTHOLD = word x.outhold ∧
         (s.ld.pair.queue.length < 64 → PFrame.state none ∈ t.ld.pair.queue)) ∧
  (∀ (s : State) (fr : PairSeen) (resend : Option (Fin 256)) (b : Bool), s.told = true → s.ld.hears = true → s.ld.pair.mine = none → s.ld.pair.means = [] → s.ld.passes fr → 
     Answers (exec (.pairCompare fr resend [] (some b)) s) fun t => t.ld.pair.theirs = some b) ∧
  (∀ (s : State) (fr : PairSeen) (resend : Option (Fin 256)) (c : Ctx) (q : Fin 256) (v : Int), s.told = true → s.ld.hears = true → s.ld.pair.means = [] → s.ld.passes fr → 
     Answers (exec (.pairCompare fr resend [(c, q, v)] none) s) fun t => (c.val, q.val, v) ∈ t.ld.pair.others) ∧
  (∀ (s : State) (fr : PairSeen) (resend : Option (Fin 256)) (i : Fin 65536) (b : Fin 256), s.told = true → s.ld.hears = true → s.ld.pairRole = 2 → s.ld.crateFree = true → s.ld.passes fr → 
     Answers (exec (.pairCrate fr resend (.bytes i [b])) s) fun t => wbits (tget (fun _ => 0#32) t.ld.crate.stage (i / 4)) (8 * (3 - i % 4)) 8 = b.val ∧ t.ld.crate.fill = max (if i.val = 0 then 0 else s.ld.crate.fill) (i / 4 + 1) ∧ t.ld.crateState = stStaging) ∧
  (∀ (s : State) (fr : PairSeen) (resend : Option (Fin 256)), s.ld.hears = true → s.ld.passes fr → 
     Answers (exec (.resetReq fr resend) s) fun t => t.ld.mode = .boot ∧ t.ld.boot = {} ∧ t.ld.gb ⟨R.DEVICE_RSTCAUSE, 8, 1⟩ = true ∧ t.ld.mram.slots = s.ld.mram.slots ∧ t.fd.cfg = s.fd.cfg) ∧
  (∀ (s : State), s.ld.gb F.DEVICE_MODE_PAIRED = true → s.ld.gb F.PAIR_STAT_READY = false → nbit s.ld.cores.lost 3 = false → s.ld.mode = .run → s.ld.pairRole = 0 → 
     Answers (exec (.pairingRetry) s) fun t => t.ld.pairRole = 1 ∧ t.ld.pair.step = b2n (s.ld.gb F.PAIR_STAT_LINK) ∧ (s.ld.gb F.PAIR_STAT_LINK = false → ∃ e ∈ t.ld.raised, e.src = 28 ∧ e.severe = false)) ∧
  (∀ (s : State) (ctr : Word) (fr : PairSeen), s.told = true → s.ld.takesAsLead ctr (R.PAIR_CMD) (3#32) → s.ld.hears = true → s.ld.passes fr → 
     Answers (exec (.resync (some ctr)) s) fun t => s.mirrors ctr (R.PAIR_CMD) (3#32) t ∧ Answers (exec (.pairAck fr none false none) t) fun u => u.ld.host.auth = none ∧ u.ld.gb F.PAIR_STAT_READY = false ∧ u.ld.pair.step = 5) ∧
  (∀ (s : State) (ctr : Word) (page : Page) (w : Word), s.told = true → s.ld.takesAsLead ctr (R.EVT_EN page) (w) → (regRow (R.EVT_EN page)).isSome = true → 
     Answers (exec (.registerWrite (some ctr) (Fin.ofNat 65536 (R.EVT_EN page)) w false) s) fun t => s.mirrors ctr (R.EVT_EN page) (w) t) ∧
  (∀ (s : State) (ctr : Word) (n : Terminal) (on : Bool), s.told = true → s.ld.takesAsLead ctr (R.TERM_DO_CMD n) (word (b2n on)) → 
     Answers (exec (.doCommand (some ctr) n on) s) fun t => s.mirrors ctr (R.TERM_DO_CMD n) (word (b2n on)) t) ∧
  (∀ (s : State) (ctr : Word) (n : Terminal) (w : Word), s.told = true → s.ld.takesAsLead ctr (R.TERM_AO_CMD n) (w) → 
     Answers (exec (.aoCommand (some ctr) n w) s) fun t => s.mirrors ctr (R.TERM_AO_CMD n) (w) t) ∧
  (∀ (s : State) (ctr : Word), s.told = true → s.ld.takes ctr (R.PAIR_CMD) (keyed 2 0x0B07) → s.ld.pairRole ≠ 2 → s.ld.pair.queue.length < 63 → 
     Answers (exec (.resetPartner (some ctr) (0x0B07 : Fin 65536)) s) fun t => t.ld.host.ferr = false ∧
         PFrame.resetReq ∈ t.ld.pair.queue ∧ t.ld.mode = s.ld.mode)

/-- Roles of a pair: loss of the partner, PLEAD, takeover, catch and notices (R332, R334, R335, R336, R337, R338, R339, R340, R343) -/
def Obligations.PairRoleRows : Prop :=
  (∀ (s : State), s.told = true → s.ld.gb F.PAIR_STAT_LINK = true → s.ld.pairRole = 2 → 
     Answers (exec (.partnerLost false) s) fun t => t.ld.mode = .run ∧ t.ld.pairRole = 1 ∧ t.ld.gb F.PAIR_STAT_PLEAD_OUT = true ∧ t.ld.gb F.PAIR_STAT_LINK = false ∧ t.ld.pair.handover = none) ∧
  (∀ (s : State), s.told = true → s.ld.gb F.PAIR_STAT_LINK = true → s.ld.pairRole = 2 → 
     Answers (exec (.partnerLost true) s) fun t => t.ld.pairRole = 3 ∧ t.ld.mode = s.ld.mode ∧ t.ld.gb F.PAIR_STAT_READY = false ∧ t.ld.gb F.PAIR_STAT_LINK = false ∧ t.ld.gb F.PAIR_STAT_PLEAD_IN = true) ∧
  (∀ (s : State) (held : Bool), s.told = true → s.ld.gb F.PAIR_STAT_LINK = true → s.ld.pairRole ≠ 2 → 
     Answers (exec (.partnerLost held) s) fun t => t.ld.pairRole = s.ld.pairRole ∧ t.ld.mode = s.ld.mode ∧ t.ld.gb F.PAIR_STAT_READY = false ∧ t.ld.gb F.PAIR_STAT_LINK = false ∧ t.fd.lead = s.fd.lead) ∧
  (∀ (s : State) (held : Bool), s.told = true → s.ld.gb F.PAIR_STAT_LINK = false → 
     Answers (exec (.partnerLost held) s) fun t => t = s) ∧
  (∀ (s : State), 
     Answers (exec (.pleadRefreshTimeout) s) fun t => t.ld.gb F.PAIR_STAT_PLEAD_OUT = false ∧ t.ld.gb F.PAIR_STAT_PLEAD_IN = (!s.ld.gb F.PAIR_STAT_PLEAD_OUT && s.ld.gb F.PAIR_STAT_PLEAD_IN) ∧ t.fd = s.fd ∧ t.ld.pairRole = s.ld.pairRole) ∧
  (∀ (s : State), s.told = true → s.ld.pair.waiting = true → s.ld.mode = .follow → s.ld.pairRole = 2 → 
     Answers (exec (.pleadWaitExpiry) s) fun t => t.ld.mode = .run ∧ t.ld.pairRole = 1 ∧ t.ld.gb F.PAIR_STAT_PLEAD_OUT = true ∧ t.ld.pair.waiting = false) ∧
  (∀ (s : State), s.up → s.ld.pairRole = 3 → s.ld.mode = .follow → nbit s.ld.cores.lost 3 = false → 
     Answers (exec (.pleadReleased) s) fun t => t.ld.mode = .run ∧ t.ld.pairRole = 1 ∧ t.ld.gb F.PAIR_STAT_PLEAD_OUT = true ∧ t.fd.mode = .run ∧
         (∀ n : Terminal, isOut (s.fd.func n) = true → (t.fd.term n).ss.stay = true) ∧ t.ld.g F.PAIR_HOSTAT_CAUSE = 5 ∧ t.ld.g F.PAIR_HOSTAT_RESULT = 1) ∧
  (∀ (s : State), s.up → s.ld.pairRole = 1 → nbit s.ld.cores.lost 3 = true → s.ld.gb F.PAIR_STAT_PLEAD_OUT = false → 
     Answers (exec (.leadRoleLostRelease) s) fun t => t.ld.pairRole = 0 ∧ t.ld.gb (safeCause 2) = true ∧ t.ld.mode = (if s.ld.mode = .run then .safe else s.ld.mode) ∧
         (∀ n : Terminal, isOut (s.fd.func n) = true → (t.fd.term n).ss.release = true)) ∧
  (∀ (s : State) (n : Terminal) (x : Announced), s.up → s.fd.noticed.find? (fun y => y.n == n.val) = some x → x.due ≤ s.fd.time → isOut (s.fd.func n) = true → (s.fd.noticed.erase x).any (fun y => y.n == n.val) = false → ((s.fd.term n).want.isSome = true ∨ (s.fd.act n).level = none) → 
     Answers (exec (.noticeApply n) s) fun t => (t.fd.term n).level = (s.fd.delivered n (s.fd.act n)).level ∧ (t.fd.term n).want = (s.fd.act n).level ∧ t.fd.noticed = s.fd.noticed.erase x ∧ t.fd.cfg = s.fd.cfg) ∧
  (∀ (s : State) (n : Terminal) (x : Announced), s.up → s.fd.noticed.find? (fun y => y.n == n.val) = some x → x.due ≤ s.fd.time → isOut (s.fd.func n) = true → (s.fd.noticed.erase x).any (fun y => y.n == n.val) = true → 
     Answers (exec (.noticeApply n) s) fun t => (t.fd.term n).level = x.shown.level ∧ (t.fd.term n).want = x.act.level ∧ t.fd.noticed = s.fd.noticed.erase x) ∧
  (∀ (s : State) (n : Terminal), s.told = true → (∀ x ∈ s.fd.noticed, x.n = n.val → s.fd.time < x.due) → 
     Answers (exec (.noticeApply n) s) fun t => t = s) ∧
  (∀ (s : State) (n : Terminal), s.told = true → s.fd.released = true → s.ld.pair.lockCatch = false → s.fd.mayArm n = true → 
     Answers (exec (.catchArm n) s) fun t => (t.fd.term n).catch_ = .armed ∧ (t.fd.term n).level = (s.fd.term n).level ∧ t.ld = s.ld) ∧
  (∀ (s : State) (n : Terminal), s.up → (s.fd.term n).catch_ = .armed → (isDo (s.fd.func n) = false ∨ (s.fd.term n).dout.masked = false) → 
     Answers (exec (.catchEngage n) s) fun t => (t.fd.term n).catch_ = .engaged ∧ t.ld.gb ⟨R.EVT_RAW R.pagePAIR, 4, 1⟩ = true ∧ tget (fun _ => 0) t.ld.pair.caughtAt n = s.ld.time + 1) ∧
  (∀ (s : State) (n : Terminal), s.told = true → tget (fun _ => 0) s.ld.pair.caughtAt n ≠ 0 → (s.fd.term n).catch_ = .engaged → s.ld.pairRole = 2 → s.ld.gb F.PAIR_STAT_READY = true → s.ld.pair.queue.length < 64 → 
     Answers (exec (.catchRevokeWindowEnd n) s) fun t => t.ld.pair.queue = s.ld.pair.queue ++ [.handover (.request s.fd.caught)] ∧ tget (fun _ => 0) t.ld.pair.caughtAt n = 0)

/-- Planned handovers: request, announcement, confirmation, T_S, ramp, T_R and abort (R340, R341, R342) -/
def Obligations.HandoverRows : Prop :=
  (∀ (s : State) (ctr : Word) (fr : PairSeen), s.told = true → s.ld.takesAsLead ctr (R.PAIR_CMD) (1#32) → s.ld.hears = true → s.ld.passes fr → s.ld.pair.handover = none → 
     Answers (exec (.handover (some ctr)) s) fun t => s.mirrors ctr (R.PAIR_CMD) (1#32) t ∧ Answers (exec (.pairAck fr none false none) t) fun u => u.ld.host.auth = none ∧ u.ld.pair.handover = some { ts := s.ld.time + ticks200us, cause := 1, confirmed := s.ld.time + ticks200us } ∧ u.ld.gb F.PAIR_STAT_HANDOVER = true ∧ (s.ld.pair.queue.length < 63 → PFrame.handover (.announce (s.ld.time + ticks200us) 1) ∈ u.ld.pair.queue)) ∧
  (∀ (s : State) (fr : PairSeen) (resend : Option (Fin 256)) (caught : Word), s.told = true → s.ld.hears = true → s.ld.leadReady = true → s.ld.pair.handover = none → s.ld.passes fr → 
     Answers (exec (.handoverRequest fr resend caught) s) fun t => t.ld.pair.handover = some { ts := s.ld.time + ticks200us, cause := 2, caught := caught.toNat, confirmed := s.ld.time + ticks200us }) ∧
  (∀ (s : State) (fr : PairSeen) (resend : Option (Fin 256)) (ts : Nat) (cause : Fin 8), s.up → s.ld.hears = true → s.ld.pairRole = 2 → s.ld.gb F.PAIR_STAT_READY = true → s.ld.passes fr → 
     Answers (exec (.handoverAnnouncement fr resend ts cause) s) fun t => t.ld.pair.handover = some { ts := ts, cause := cause, confirmed := ts } ∧ t.fd.handover = true ∧ t.ld.gb F.PAIR_STAT_HANDOVER = true) ∧
  (∀ (s : State) (fr : PairSeen) (resend : Option (Fin 256)) (h : Handover), s.told = true → s.ld.hears = true → s.ld.pair.handover = some h → s.ld.passes fr → 
     Answers (exec (.handoverConfirmation fr resend 0) s) fun t => t.ld.pair.handover = some { h with confirmed := s.ld.time }) ∧
  (∀ (s : State) (h : Handover), s.ld.pair.handover = some h → h.abort = none → 
     Answers (exec (.confirmationSilence) s) fun t => t.ld.pair.handover = some { h with abort := some 1 }) ∧
  (∀ (s : State) (h : Handover), s.up → s.ld.pair.handover = some h → h.begun = false → (s.ld.pairRole = 1 ∨ s.ld.pairRole = 2) → 
     Answers (exec (.handoverTs) s) fun t => t.ld.pair.handover = some { h with begun := true } ∧ t.fd.ramp = some 0 ∧ t.fd.bothShunts = true ∧ t.fd.joined = (s.ld.pairRole != 1)) ∧
  (∀ (s : State) (h : Handover), s.up → s.ld.pair.handover = some h → h.begun = true → h.steps < 256 → 
     Answers (exec (.handoverRampStep) s) fun t => t.ld.pair.handover = some { h with steps := h.steps + 1 } ∧ t.fd.ramp = some (h.steps + 1) ∧
         (∀ (n : Terminal) (v : Nat), (s.fd.term n).level = some v → t.fd.aoDelivers n = v * (if s.fd.lead then 255 - h.steps else h.steps + 1))) ∧
  (∀ (s : State) (h : Handover), s.up → s.ld.pair.handover = some h → h.begun = true → h.steps = 256 → 
     Answers (exec (.handoverTr) s) fun t => t.ld.pair.handover = none ∧ t.fd.handover = false ∧ t.ld.pairRole = (if s.ld.pairRole = 1 then 2 else 1) ∧ t.ld.mode = (if s.ld.pairRole = 1 then .follow else .run) ∧ t.fd.ramp = none ∧
         t.fd.partAt = some (s.fd.time + ticks20us) ∧ (if s.ld.pairRole = 1 then t.ld.pair.pleadOff = some (s.ld.time + ticks10us) ∧ t.fd.joined = true else t.ld.gb F.PAIR_STAT_PLEAD_OUT = true ∧ t.fd.joined = false)) ∧
  (∀ (s : State) (h : Handover) (c : Nat), s.up → s.ld.pair.handover = some h → h.abort = some c → 
     Answers (exec (.handoverAbort) s) fun t => t.ld.pair.handover = none ∧ t.fd.handover = false ∧ t.fd.ramp = none ∧ t.fd.dropped = 0 ∧ t.fd.partAt = (if s.fd.bothShunts then some (s.fd.time + ticks20us) else none) ∧ t.ld.pairRole = s.ld.pairRole ∧ t.ld.mode = s.ld.mode ∧ t.ld.gb ⟨R.EVT_RAW R.pagePAIR, 8, 1⟩ = true)

/-- Crates: staging, a CLOSE, its checks and validation, the slot and the application (R248, R309, R310, R311, R313, R333, R424) -/
def Obligations.CrateRows : Prop :=
  (∀ (s : State) (a : Addr) (w : Word), s.told = true → s.ld.serves = true → s.ld.crateFree = true → a.val < 16384 → 
     Answers (exec (.cratePush a [w]) s) fun t => tget (fun _ => 0#32) t.ld.crate.stage a = w ∧ t.ld.crate.fill = max s.ld.crate.fill (a + 1) ∧ t.ld.crateState = stStaging ∧ t.ld.host.ferr = false ∧ t.ld.mram = s.ld.mram) ∧
  (∀ (s : State) (ctr : Word), s.told = true → s.ld.takes ctr (R.DEVICE_CRATE_CTL) (1#32) → s.ld.crateFree = true → s.ld.g F.PAIR_STAT_ROLE ≠ 2 → s.ld.cores.lost = 0 → 
     Answers (exec (.closeStore (some ctr)) s) fun t => t.ld.host.ferr = false ∧
         t.ld.crateState = stChecking ∧ t.ld.crate.apply = false ∧ t.ld.mram.slots = s.ld.mram.slots) ∧
  (∀ (s : State) (ctr : Word), s.told = true → s.ld.takes ctr (R.DEVICE_CRATE_CTL) (2#32) → s.ld.crateFree = true → s.ld.g F.PAIR_STAT_ROLE ≠ 2 → s.ld.cores.lost = 0 → 
     Answers (exec (.closeApply (some ctr)) s) fun t => t.ld.host.ferr = false ∧
         t.ld.crateState = stChecking ∧ t.ld.crate.apply = true ∧ t.ld.mram.slots = s.ld.mram.slots) ∧
  (∀ (s : State) (ctr : Word), s.told = true → s.ld.takes ctr (R.DEVICE_CRATE_CTL) (3#32) → s.ld.crateFree = true → 
     Answers (exec (.discardStaging (some ctr)) s) fun t => t.ld.host.ferr = false ∧
         t.ld.crateState = stIdle ∧ t.ld.crate.stage = [] ∧ t.ld.crate.fill = 0) ∧
  (∀ (s : State) (sig : Bool) (keys : KeyCheck), s.told = true → s.ld.crateState = stChecking → s.ld.checkSteps s.ld.crate.words sig keys = 0 → 
     Answers (exec (.crateChecksComplete sig keys) s) fun t => t.ld.crateState = (if s.ld.crate.apply || s.ld.crate.joint then stValidating else stWriting) ∧ t.ld.mram = s.ld.mram) ∧
  (∀ (s : State) (sig : Bool) (keys : KeyCheck) (k : Nat), s.told = true → s.ld.crateState = stChecking → k ≠ 0 → k ≠ 4 → (k = 8 → keys ≠ .badPoint) → s.ld.checkSteps s.ld.crate.words sig keys = k → 
     Answers (exec (.crateChecksComplete sig keys) s) fun t => t.ld.crateState = stIdle ∧ t.ld.g F.DEVICE_CRATE_STAT_REASON = k ∧ t.ld.gb F.DEVICE_CRATE_STAT_LAST_OK = false ∧ t.ld.crate.stage = [] ∧ t.ld.mram = s.ld.mram) ∧
  (∀ (s : State), s.told = true → s.ld.crateState = stValidating → s.ld.crate.mine = false → s.ld.crate.joint = false → s.ld.mode = .commission → (validate (crateTarget s.ld.crate.words == 1) none (crateConfig s.ld.regs s.ld.crate.words)).ok = true → 
     Answers (exec (.crateValidationComplete) s) fun t => t.ld.crateState = stWriting ∧ t.ld.crate.config = crateConfig s.ld.regs s.ld.crate.words) ∧
  (∀ (s : State), s.told = true → s.ld.crateState = stValidating → s.ld.crate.mine = false → s.ld.mode = .commission → (validate (crateTarget s.ld.crate.words == 1) none (crateConfig s.ld.regs s.ld.crate.words)).ok = false → 
     Answers (exec (.crateValidationComplete) s) fun t => t.ld.crateState = stIdle ∧ t.ld.g F.DEVICE_CRATE_STAT_REASON = 9 ∧ t.ld.mram = s.ld.mram) ∧
  (∀ (s : State), s.told = true → s.ld.crateState = stWriting → s.ld.crate.apply = false → 
     Answers (exec (.crateSlotWritten) s) fun t => (t.ld.mram.slot s.ld.mram.spare).words = s.ld.crate.words ∧ t.ld.mram.pending = s.ld.mram.spare ∧ t.ld.mram.spare = s.ld.mram.pending ∧ t.ld.mram.active = s.ld.mram.active ∧ t.ld.g F.DEVICE_CRATE_STAT_REASON = 0) ∧
  (∀ (s : State), s.told = true → s.ld.crateState = stWriting → s.ld.crate.apply = true → 
     Answers (exec (.crateSlotWritten) s) fun t => (t.ld.mram.slot s.ld.mram.spare).words = s.ld.crate.words ∧ t.ld.mram.active = s.ld.mram.active ∧ t.ld.crateState = stApplying) ∧
  (∀ (s : State), s.told = true → s.ld.crateState = stApplying → s.ld.bar.pages = [] → 
     Answers (exec (.crateApplicationComplete) s) fun t => t.ld.mram.active = s.ld.mram.spare ∧ t.ld.mram.fallback = s.ld.mram.active ∧ t.ld.mram.spare = s.ld.mram.fallback ∧ t.ld.mram.pending = s.ld.mram.pending ∧ t.ld.gb F.DEVICE_MODE_FIELD_CFG = true ∧ t.ld.crateState = stIdle)

/-- The barrier link: what an end sends, and what a frame does at the end that receives it (R8, R9, R11, R13, R21, R163, R168, R373) -/
def Obligations.BarrierFrameRows : Prop :=
  (∀ (s : State), s.told = true → s.ld.trained = true → (s.ld.linkEnd false).again = [] → 
     Answers (exec (.barrierFrameSlot true) s) fun t => ∃ x, (t.ld.linkEnd false).last = some x ∧ x.kind = s.logicFrame ∧ x.fseq = (s.ld.linkEnd false).next ∧ x.ack = ((s.ld.linkEnd false).got + 255) % 256 ∧
         x.resend = (s.ld.linkEnd false).ask ∧ (t.ld.linkEnd false).ask = false ∧ t.fd = s.fd) ∧
  (∀ (s : State), s.told = true → s.ld.trained = true → (s.ld.linkEnd true).again = [] → 
     Answers (exec (.barrierFrameSlot false) s) fun t => ∃ x, (t.ld.linkEnd true).last = some x ∧ x.kind = s.fieldFrame ∧ x.fseq = (s.ld.linkEnd true).next ∧ x.ack = ((s.ld.linkEnd true).got + 255) % 256 ∧
         x.resend = (s.ld.linkEnd true).ask ∧ (t.ld.linkEnd true).ask = false ∧ t.fd = s.fd) ∧
  (∀ (s : State) (fromLogic : Bool) (x : SentFrame BFrame) (rest : List (SentFrame BFrame)), s.told = true → s.ld.trained = true → (s.ld.linkEnd (!fromLogic)).again = x :: rest → 
     Answers (exec (.barrierFrameSlot fromLogic) s) fun t => (t.ld.linkEnd (!fromLogic)).again = rest ∧ (t.ld.linkEnd (!fromLogic)).next = (s.ld.linkEnd (!fromLogic)).next ∧
         ∃ y, (t.ld.linkEnd (!fromLogic)).last = some y ∧ y.kind = x.kind ∧ y.fseq = x.fseq ∧ y.payload = x.payload) ∧
  (∀ (s : State) (resend : Bool), s.fd.out.all waits = true → s.ld.trained = true → 
     Answers (exec (.barrierIdle false .passes resend) s) fun t => t.ld.linkUp = true ∧ t.ld.bar.logic.got = s.ld.bar.logic.got ∧ t.fd.cfg = s.fd.cfg ∧ (s.ld.linkUp = false → t.ld.gb (safeCause 3) = false)) ∧
  (∀ (s : State) (resend : Bool), s.told = true → s.ld.trained = true → 
     Answers (exec (.barrierAckonly true .passes resend) s) fun t => t.ld.bar.field.got = (s.ld.bar.field.got + 1) % 256 ∧ t.ld.bar.field.kept = s.ld.bar.field.kept ∧ t.fd.cfg = s.fd.cfg) ∧
  (∀ (s : State) (resend : Bool), s.told = true → s.ld.trained = true → 
     Answers (exec (.barrierIdle false .guard resend) s) fun t => (t.ld.linkEnd false).ask = true ∧ (t.ld.linkEnd false).got = (s.ld.linkEnd false).got ∧ t.ld.g (endCount R.BARRIER_DISCARD false) = min 65535 (s.ld.g (endCount R.BARRIER_DISCARD false) + 1) ∧ t.fd = s.fd) ∧
  (∀ (s : State) (resend : Bool), s.told = true → s.ld.trained = true → 
     Answers (exec (.barrierAckonly true .guard resend) s) fun t => (t.ld.linkEnd true).ask = true ∧ (t.ld.linkEnd true).got = (s.ld.linkEnd true).got ∧ t.ld.g (endCount R.BARRIER_DISCARD true) = min 65535 (s.ld.g (endCount R.BARRIER_DISCARD true) + 1) ∧ t.fd = s.fd) ∧
  (∀ (s : State), s.told = true → s.ld.trained = true → 
     Answers (exec (.barrierAckonly true .passes true) s) fun t => t.ld.bar.field.again = (s.ld.bar.field.kept.takeWhile fun x => x.fseq != (s.ld.bar.logic.got + 255) % 256).reverse ∧
         t.ld.bar.field.kept = s.ld.bar.field.kept ∧ (s.fd.released = true → t.fd.wdArmed = true)) ∧
  (∀ (s : State) (resend : Bool) (a : Nat) (w : Word) (rest : List (Nat × Word)), s.up → s.ld.trained = true → s.ld.bar.cmds = (a, w) :: rest → 
     Answers (exec (.barrierCmd .passes resend) s) fun t => t.ld.bar.cmds = rest ∧ t.fd.cfg = (({ s.fd with wdArmed := true } : Field).take a w).cfg) ∧
  (∀ (s : State) (resend : Bool) (p : Nat) (ps : List Nat), s.up → s.ld.trained = true → s.ld.bar.pages = p :: ps → onField (p * 256) = true → 
     Answers (exec (.barrierCfg .passes resend) s) fun t => t.ld.bar.pages = ps ∧ t.fd.cfg = (({ s.fd with wdArmed := true } : Field).applyPage p (crateConfig s.ld.regs s.ld.crate.words)).cfg) ∧
  (∀ (s : State) (resend : Bool), s.told = true → s.ld.trained = true → s.fd.released = true → 
     Answers (exec (.barrierTime .passes resend) s) fun t => t.fd.time = s.ld.time ∧ t.fd.cfg = s.fd.cfg) ∧
  (∀ (s : State) (resend : Bool) (sn : Snap) (q : List Snap), s.fd.out.all waits = true → s.ld.trained = true → s.fd.snapq = sn :: q → s.ld.bar.half ≠ some (sn.ctx, sn.seq) → 
     Answers (exec (.barrierSnap .passes resend) s) fun t => t.ld.bar.half = some (sn.ctx, sn.seq) ∧ t.fd.snapq = s.fd.snapq) ∧
  (∀ (s : State) (resend : Bool) (sn : Snap) (q : List Snap), s.up → s.ld.trained = true → s.fd.snapq = sn :: q → s.ld.bar.half = some (sn.ctx, sn.seq) → sn.ctx < 64 → 
     Answers (exec (.barrierSnap .passes resend) s) fun t => t.ld.bar.half = none ∧ t.fd.snapq = q ∧ t.ld.gb (F.CTX_SNAPSTAT_UNREAD sn.ctx) = true ∧ t.ld.regs.word (R.CTX_SEQ sn.ctx) = word sn.seq ∧ t.ld.regs.word (R.CTX_COUNT sn.ctx) = word sn.count ∧ t.ld.gb ⟨R.EVT_RAW (R.pageCTX sn.ctx), 4, 1⟩ = true) ∧
  (∀ (s : State) (resend : Bool) (m : Readings), s.fd.out.all waits = true → s.ld.trained = true → s.fd.released = true → s.fd.report = false → 
     Answers (exec (.barrierState .passes resend m) s) fun t => ∀ a ∈ stateAddrs, t.ld.regs.word a = (s.fd.takeReadings m).shownState a) ∧
  (∀ (s : State) (resend : Bool) (e : FaultEv), s.ld.trained = true → s.fd.out = [.fault e] → 
     Answers (exec (.barrierEvent .passes resend) s) fun t => t.fd.out = [] ∧ ∃ x ∈ t.ld.raised, x.src = e.src ∧ x.severe = e.severe ∧ x.late = false)

/-- The barrier link lost and its lanes: LINK_DOWN, the field die's watchdog, lane errors and the lane switch (R11, R12, R23, R24, R28) -/
def Obligations.BarrierLinkRows : Prop :=
  (∀ (s : State), s.ld.linkUp = true → 
     Answers (exec (.linkDown) s) fun t => t.ld.linkUp = false ∧ t.ld.gb (safeCause 3) = true ∧ t.ld.gb ⟨R.EVT_RAW R.pageBARRIER, 0, 1⟩ = true ∧ t.fd = s.fd ∧ (s.ld.mode ≠ .run → t.ld.mode = s.ld.mode) ∧ (s.ld.mode = .run → t.ld.mode = if s.ld.leadReady then .run else .safe)) ∧
  (∀ (s : State) (lane : Fin 3) (errors : Nat), s.told = true → errors ≤ 8 → 
     Answers (exec (.laneErrorLimit lane errors) s) fun t => t.ld.g (laneErrors lane) = min 65535 (s.ld.g (laneErrors lane) + errors) ∧ t.ld.mram = s.ld.mram) ∧
  (∀ (s : State) (lane : Fin 3) (errors : Nat), s.told = true → 8 < errors → s.ld.isRetired 3 lane = false → s.ld.gb (laneBit lane) = true → 
     Answers (exec (.laneErrorLimit lane errors) s) fun t => t.ld.isRetired 3 lane = true ∧ t.ld.bar.switchDue = s.ld.bar.switchDue ++ [lane.val] ∧ (∃ e ∈ t.ld.raised, e.src = 25)) ∧
  (∀ (s : State) (k : Nat) (j : Nat), s.told = true → s.ld.bar.switchDue = [k] → k < 3 → (s.ld.put (laneBit k) 0).spareLane = some j → j ≠ k → 
     Answers (exec (.laneSwitch) s) fun t => t.ld.gb (laneBit k) = false ∧ t.ld.gb (laneBit j) = true ∧ t.ld.bar.switchDue = [] ∧ t.ld.g F.BARRIER_LINK_LANES = t.ld.mram.larder.lanes) ∧
  (∀ (s : State) (k : Nat), s.told = true → s.ld.bar.switchDue = [k] → k < 3 → (s.ld.put (laneBit k) 0).spareLane = none → 
     Answers (exec (.laneSwitch) s) fun t => t.ld.gb (laneBit k) = false ∧ t.ld.gb F.BARRIER_LINK_SINGLE = true)

/-- Requests for COMMISSION, RUN and SAFE, and requests without a target (R26, R28, R29, R30, R47) -/
def Obligations.ModeRequestRows : Prop :=
  (∀ (s : State) (ctr : Word), s.told = true → s.ld.takes ctr (R.DEVICE_MODE_REQ) (4#32) → s.ld.crateFree = true → s.ld.cores.lost = 0 → s.ld.mode = .run → 
     Answers (exec (.modeReqSafe (some ctr)) s) fun t => t.ld.host.ferr = false ∧
         t.ld.g F.DEVICE_MODE_REQ_RESULT = 1 ∧ t.ld.mode = .safe ∧ t.ld.g F.DEVICE_MODE_MODE = modeCode .safe ∧ t.ld.gb (safeCause 0) = true) ∧
  (∀ (s : State) (ctr : Word), s.told = true → s.ld.takes ctr (R.DEVICE_MODE_REQ) (2#32) → s.ld.crateFree = true → s.ld.cores.lost = 0 → s.ld.mode = .safe → s.ld.causesClear = true → 
     Answers (exec (.modeReqRun (some ctr)) s) fun t => t.ld.host.ferr = false ∧
         t.ld.g F.DEVICE_MODE_REQ_RESULT = 1 ∧ t.ld.mode = .run ∧ t.ld.gb (safeCause 0) = false) ∧
  (∀ (s : State) (ctr : Word), s.told = true → s.ld.takes ctr (R.DEVICE_MODE_REQ) (2#32) → s.ld.crateFree = true → s.ld.cores.lost = 0 → s.ld.mode = .safe → s.ld.causesClear = false → 
     Answers (exec (.modeReqRun (some ctr)) s) fun t => t.ld.host.ferr = false ∧
         t.ld.g F.DEVICE_MODE_REQ_RESULT = 2 ∧ t.ld.mode = .safe ∧ t.ld.gb ⟨R.EVT_RAW R.pageDEVICE, 1, 1⟩ = true) ∧
  (∀ (s : State) (ctr : Word), s.told = true → s.ld.takes ctr (R.DEVICE_MODE_REQ) (1#32) → s.ld.crateFree = true → s.ld.cores.lost = 0 → (s.ld.mode = .run ∨ s.ld.mode = .safe) → 
     Answers (exec (.modeReqCommission (some ctr)) s) fun t => t.ld.host.ferr = false ∧
         t.ld.g F.DEVICE_MODE_REQ_RESULT = 1 ∧ t.ld.mode = .commission) ∧
  (∀ (s : State) (ctr : Word) (v : Fin 8), s.told = true → s.ld.takes ctr (R.DEVICE_MODE_REQ) (word v) → v.val ≠ 1 → v.val ≠ 2 → v.val ≠ 4 → s.ld.crateFree = true → s.ld.cores.lost = 0 → 
     Answers (exec (.modeReqOtherTarget (some ctr) v) s) fun t => t.ld.host.ferr = false ∧
         t.ld.g F.DEVICE_MODE_REQ_RESULT = 2 ∧ t.ld.mode = s.ld.mode ∧ t.ld.gb ⟨R.EVT_RAW R.pageDEVICE, 1, 1⟩ = true)

/-- Resets: which die, what they keep, RSTCAUSE, and the keyed request (R40, R41, R42, R43, R47, R361, R377) -/
def Obligations.ResetRows : Prop :=
  (∀ (s : State), 
     Answers (exec (.powerOnReset) s) fun t => t.ld.mode = .boot ∧ t.ld.regs.word R.DEVICE_RSTCAUSE = 1#32 ∧ t.ld.errout = false ∧ t.fd.released = false ∧ t.fd.cfg = [] ∧ t.ld.mram = { s.ld.mram with loft := { s.ld.mram.loft with flight := s.ld.loft.queue.head? } }) ∧
  (∀ (s : State), 
     Answers (exec (.brownOutReset) s) fun t => t.ld.mode = .boot ∧ t.ld.regs.word R.DEVICE_RSTCAUSE = 2#32 ∧ t.ld.errout = false ∧ t.fd.released = false ∧ t.fd.cfg = [] ∧ t.ld.mram = { s.ld.mram with loft := { s.ld.mram.loft with flight := s.ld.loft.queue.head? } }) ∧
  (∀ (s : State), 
     Answers (exec (.nresetAssert) s) fun t => t.fd = s.fd.undegraded ∧ t.ld.mode = .boot ∧ t.ld.boot = {} ∧ t.ld.linkUp = false ∧ t.ld.gb ⟨R.DEVICE_RSTCAUSE, 2, 1⟩ = true ∧ t.ld.errout = s.ld.errout ∧ t.ld.mram.slots = s.ld.mram.slots) ∧
  (∀ (s : State), s.told = true → 
     Answers (exec (.fieldRailBrownOut) s) fun t => t.fd.cfg = [] ∧ t.fd.released = false ∧ t.fd.configured = false ∧ t.ld.mode = s.ld.mode ∧ t.ld.gb ⟨R.DEVICE_RSTCAUSE, 9, 1⟩ = true ∧ t.ld.mram = s.ld.mram) ∧
  (∀ (s : State) (ctr : Word), s.told = true → s.ld.takes ctr (R.DEVICE_RESET) (keyed 1 0x0B07) → 
     Answers (exec (.deviceResetLogic (some ctr) (0x0B07 : Fin 65536)) s) fun t => t.ld.mode = .boot ∧ t.ld.boot = {} ∧ t.fd = s.fd.undegraded ∧ t.ld.gb ⟨R.DEVICE_RSTCAUSE, 7, 1⟩ = true) ∧
  (∀ (s : State) (ctr : Word), s.told = true → s.ld.takes ctr (R.DEVICE_RESET) (keyed 2 0x0B07) → 
     Answers (exec (.deviceResetField (some ctr) (0x0B07 : Fin 65536)) s) fun t => t.ld.host.ferr = false ∧
         t.fd.cfg = [] ∧ t.fd.released = false ∧ t.ld.mode = s.ld.mode ∧ t.ld.gb ⟨R.DEVICE_RSTCAUSE, 9, 1⟩ = true) ∧
  (∀ (s : State) (ctr : Word), s.told = true → s.ld.takes ctr (R.DEVICE_RESET) (keyed 3 0x0B07) → 
     Answers (exec (.deviceResetBoth (some ctr) (0x0B07 : Fin 65536)) s) fun t => t.ld.mode = .boot ∧ t.fd.cfg = [] ∧ t.fd.released = false ∧ t.ld.gb ⟨R.DEVICE_RSTCAUSE, 7, 1⟩ = true ∧ t.ld.gb ⟨R.DEVICE_RSTCAUSE, 9, 1⟩ = true) ∧
  (∀ (s : State) (ctr : Word) (key : Fin 65536), s.told = true → s.ld.takes ctr (R.DEVICE_RESET) (keyed 3 key) → key.val ≠ 0x0B07 → 
     Answers (exec (.deviceResetBoth (some ctr) key) s) fun t => t.ld.host.ferr = true ∧ t.ld.g F.HOST_ERR_REASON = 9 ∧ t.ld.mode = s.ld.mode ∧ t.fd = s.fd)

/-- Start-up to the release of the field die: internal reset, straps, oscillators, PLL, VISO, training (R10, R11, R15, R32, R34, R36) -/
def Obligations.StartRows : Prop :=
  (∀ (s : State), s.ld.boot.main = 0 → 
     Answers (exec (.internalResetRelease) s) fun t => t.ld.boot.main = 1 ∧ t.ld.gb (clockOk 2) = true ∧ t.ld.gb (clockOk 3) = true ∧ t.ld.gb (clockOk 4) = true ∧ t.ld.mram = s.ld.mram) ∧
  (∀ (s : State) (b : Fin 16) (pads : Pads), s.ld.boot.main = 1 → 
     Answers (exec (.strapsLatched b pads) s) fun t => t.ld.boot.main = 2 ∧ t.ld.g ⟨R.DEVICE_STRAPS, 0, 4⟩ = b ∧ t.ld.gb F.DEVICE_STRAPS_CLAIM = pads.claim ∧ t.ld.gb F.HOST_LEGACY_EN = nbit b 3 ∧ t.ld.boot.bare = pads.bare.map Fin.val) ∧
  (∀ (s : State), s.ld.boot.main = 2 → 
     Answers (exec (.oscWaitEnd) s) fun t => t.ld.boot.main = 3 ∧ t.ld.regs = s.ld.regs) ∧
  (∀ (s : State), s.ld.boot.main = 3 → 
     Answers (exec (.pllLocked) s) fun t => t.ld.boot.main = 4 ∧ t.ld.gb (clockOk 0) = true ∧ t.ld.gb (clockOk 1) = true) ∧
  (∀ (s : State), 4 ≤ s.ld.boot.main → s.ld.boot.field = 0 → 
     Answers (exec (.visoInRegulation) s) fun t => t.ld.boot = { s.ld.boot with field := 1 } ∧ t.ld.regs = s.ld.regs) ∧
  (∀ (s : State), s.fd.out.all waits = true → s.ld.boot.field = 1 → 
     Answers (exec (.barrierTrained true) s) fun t => t.ld.linkUp = true ∧ t.ld.boot.field = 2 ∧ t.ld.gb F.DEVICE_BOOTSTAT_BARRIER_OK = true ∧ t.ld.g F.BARRIER_LINK_LANES = s.ld.mram.larder.lanes % 2 ^ F.BARRIER_LINK_LANES.len ∧ (s.fd.deferred = [] → t.fd.cfg = s.fd.cfg)) ∧
  (∀ (s : State), s.ld.boot.field = 1 → 4 ≤ s.ld.boot.tries → 
     Answers (exec (.barrierTrained false) s) fun t => t.ld.boot.field = 4 ∧ nbit t.ld.boot.safe 3 = true ∧ t.ld.linkUp = s.ld.linkUp) ∧
  (∀ (s : State), s.ld.boot.field = 4 → 
     Answers (exec (.barrierRetrain) s) fun t => t.ld.boot = { s.ld.boot with field := 1 } ∧ t.ld.regs = s.ld.regs) ∧
  (∀ (s : State), s.fd.out.all waits = true → s.ld.boot.field = 2 → s.fd.released = false → s.ld.mram.larder.retired = [] → 
     Answers (exec (.fieldDieReleased) s) fun t => t.fd.released = true ∧ t.ld.boot.field = 3 ∧ (∀ g : Fin 4, g.val ∈ s.ld.boot.bare → (t.fd.step g).absent = true) ∧ (s.ld.linkUp = true → ∀ g : Fin 4, t.fd.gb (F.SLICE_GRP_ALIGNED g) = true))

/-- Start-up checks: memory, known answers, crate selection, calibration, cross-checks, mode entry (R36, R37, R38, R39, R42, R43, R235, R285, R315) -/
def Obligations.BootChecksRows : Prop :=
  (∀ (s : State) (x : MemoryFindings), s.told = true → 4 ≤ s.ld.boot.main → s.ld.boot.logic = 0 → x.badRows = [] → x.badRoles = [] → x.badImages = [] → x.lid = false → x.mesh = false → s.ld.mram.larder.retired = [] → 
     Answers (exec (.memoryChecksDone x) s) fun t => t.ld.boot.logic = 1 ∧ t.ld.gb F.DEVICE_BOOTSTAT_SRAM_OK = true ∧ t.ld.gb F.DEVICE_BOOTSTAT_ROM_OK = x.romOk ∧ t.ld.raised = s.ld.raised) ∧
  (∀ (s : State) (tests : Bool) (entropy : Bool), s.ld.boot.logic = 1 → s.ld.mram.puf = true → 
     Answers (exec (.knownAnswerTestsDone tests entropy true) s) fun t => t.ld.boot.logic = 2 ∧ t.ld.gb F.DEVICE_BOOTSTAT_KAT_OK = (tests && entropy) ∧ nbit t.ld.boot.safe 6 = (nbit s.ld.boot.safe 6 || !(tests && entropy)) ∧ (tests && entropy = true → t.ld.raised = s.ld.raised)) ∧
  (∀ (s : State), s.ld.boot.main = 4 → s.ld.boot.logic = 2 → s.ld.boot.field = 3 → s.ld.boot.epochAt = none → s.ld.mram.epoch < 0xFFFFFFFF → 
     Answers (exec (.crateVerified true) s) fun t => t.ld.boot.main = 5 ∧ t.ld.mram.epoch = s.ld.mram.epoch + 1 ∧ t.ld.boot.epochAt = some s.ld.time ∧ t.ld.mram.slots = s.ld.mram.slots) ∧
  (∀ (s : State), 5 ≤ s.ld.boot.main → s.ld.boot.epochAt = none → s.ld.mram.epoch < 0xFFFFFFFF → 
     Answers (exec (.epochWriteRetry true) s) fun t => t.ld.mram.epoch = s.ld.mram.epoch + 1 ∧ t.ld.boot.epochAt = some s.ld.time) ∧
  (∀ (s : State) (sig : Bool) (rows : List (List Nat)) (record : Bool), s.told = true → s.ld.boot.main = 5 → s.fd.released = true → s.ld.boot.crate = none → 
     Answers (exec (.calibrationLoaded sig rows record) s) fun t => t.ld.boot.main = 6 ∧ t.ld.gb F.DEVICE_BOOTSTAT_OTP_OK = (sig && rows == []) ∧ t.fd.gb F.CAL_STAT_FACTORY_OK = (sig && rows == []) ∧ t.fd.cal.usable = sig ∧ (record = false → t.ld.gb F.LARDER_RECORD_REBUILT = true)) ∧
  (∀ (s : State) (x : CrossChecks), s.told = true → s.ld.boot.main = 6 → s.fd.released = true → s.ld.boot.promote = false → x.off = [] → x.ref = none → 
     Answers (exec (.sliceCrossChecksDone x) s) fun t => t.ld.boot.main = 7 ∧ t.ld.gb F.DEVICE_BOOTSTAT_XCHK_OK = (s.ld.g F.DEVICE_BOOTSTAT_SLICES_RETIRED == 0 && !x.tdac) ∧ t.ld.gb F.DEVICE_BOOTSTAT_TDAC_FAULT = x.tdac ∧ t.fd.slices = s.fd.slices) ∧
  (∀ (s : State) (claim : Bool) (us : Nat) (intact : Bool) (plead : Bool), s.told = true → s.ld.boot.main = 7 → s.ld.mode = .boot → s.ld.mram.marker = none → s.ld.mram.owner = none → 
     Answers (exec (.modeEntry claim us intact plead) s) fun t => t.ld.mode = .commission ∧ t.ld.boot.main = 8 ∧ t.ld.regs.word R.DEVICE_BOOTTIME = word (min 0xFFFFFFFF us) ∧ t.ld.gb F.DEVICE_MODE_ENROL_OPEN = s.ld.claimHeld claim) ∧
  (∀ (s : State) (claim : Bool) (us : Nat) (intact : Bool) (plead : Bool) (k : Nat), s.told = true → s.ld.boot.main = 7 → s.ld.mode = .boot → s.ld.mram.marker = none → s.ld.mram.owner = some k → s.ld.boot.safe ≠ 0 → 
     Answers (exec (.modeEntry claim us intact plead) s) fun t => t.ld.mode = .safe ∧ t.ld.boot.main = 8 ∧ t.ld.gb F.DEVICE_MODE_ENROL_OPEN = false) ∧
  (∀ (s : State) (claim : Bool) (us : Nat) (intact : Bool) (plead : Bool) (k : Nat) (ws : List Word), s.told = true → s.ld.boot.main = 7 → s.ld.mode = .boot → s.ld.mram.marker = none → s.ld.mram.owner = some k → s.ld.boot.safe = 0 → s.ld.causesClear = true → s.ld.bootCrate = some ws → nbit (crateFlags ws) 1 = false → crateTarget ws ≠ 1 → 
     Answers (exec (.modeEntry claim us intact plead) s) fun t => t.ld.mode = .run ∧ t.ld.boot.main = 8 ∧ t.ld.gb F.DEVICE_MODE_ENROL_OPEN = false) ∧
  (∀ (s : State) (ws : List Word), s.told = true → s.ld.boot.kept = true → 6 ≤ s.ld.boot.main → s.fd.released = true → s.fd.configured = true → s.ld.gb F.DEVICE_MODE_FIELD_CFG = false → s.ld.bootCrate = some ws → s.fd.crateHash = some (crateHash ws) → 
     Answers (exec (.fieldConfigHashReport) s) fun t => t.ld.gb F.DEVICE_MODE_FIELD_CFG = true ∧ t.fd = s.fd) ∧
  (∀ (s : State) (ws : List Word), s.up → 6 ≤ s.ld.boot.main → s.fd.configured = false → s.ld.activeCrate = some ws → 
     Answers (exec (.fieldConfigReapplied) s) fun t => t.fd.configured = true ∧ t.ld.gb F.DEVICE_MODE_FIELD_CFG = true ∧ t.fd.crateHash = some (crateHash ws) ∧ t.ld.mode = s.ld.mode)

/-- The forerunner protocol: each frame shifts out the reply of the one before it and acts (R250, R265, R266, R268, R269, R270, R271, R272, R273, R274) -/
def Obligations.LegacyRows : Prop :=
  (∀ (s : State) (more : Fin 4), s.told = true → s.ld.legacyUp = true → s.ld.host.short = false → 
     Answers (exec (.legacyPoll more) s) fun t => t.ld.host.legacySent = shiftedOut (4 + more) s.ld.host.legacyNext ∧ t.ld.host.legacyNext % 65536 = s.ld.lstatus % 65536) ∧
  (∀ (s : State) (more : Nat) (a : Fin 64), s.told = true → s.ld.legacyUp = true → s.ld.host.short = false → (a.val = 0x3A ∨ a.val = 0x3B ∨ s.ld.mode ≠ .boot ∧ a.val = 0x3C) → 
     Answers (exec (.legacyRead more a) s) fun t => t.ld.host.legacySent = shiftedOut (8 + more) s.ld.host.legacyNext ∧ t.ld.host.legacyNext % 65536 = (if a.val = 0x3A then 0x1608 else if a.val = 0x3B then 0x3218 else s.ld.host.legacyErrs % 65536)) ∧
  (∀ (s : State) (more : Nat) (c : Fin 16) (data : Fin 65536), s.told = true → s.ld.legacyUp = true → s.ld.host.short = false → s.ld.mode ≠ .boot → 16 ≤ more → data.val = s.legacyCfg c → 
     Answers (exec (.legacyWrite more (Fin.ofNat 64 (0x20 + c)) data) s) fun t => t.ld.host.legacyNext % 65536 = data ∧ t.ld.host.legacyErrs = s.ld.host.legacyErrs ∧ t.ld.host.mismatches = s.ld.host.mismatches) ∧
  (∀ (s : State) (more : Nat) (a : Fin 64) (data : Fin 65536), s.told = true → s.ld.legacyUp = true → s.ld.host.short = false → s.ld.mode ≠ .boot → 16 ≤ more → a.val < 0x20 → 
     Answers (exec (.legacyWrite more a data) s) fun t => t.ld.host.ferr = true ∧ t.ld.g F.HOST_ERR_REASON = 1 ∧ t.ld.host.legacyErrs = min 0xFFFF (s.ld.host.legacyErrs + 1) ∧ t.fd.cfg = s.fd.cfg) ∧
  (∀ (s : State) (w : Fin 4), s.told = true → s.ld.legacyUp = true → 
     Answers (exec (.legacyShortFrame w) s) fun t => t.ld.g F.HOST_ERR_REASON = 4 ∧ t.ld.host.legacyErrs = min 0xFFFF (s.ld.host.legacyErrs + 1) ∧ t.ld.host.legacyNext = nset s.ld.host.legacyNext 22) ∧
  (∀ (s : State) (more : Nat) (n : Fin 16), s.told = true → s.ld.legacyUp = true → s.ld.host.short = false → s.ld.mode ≠ .boot → 
     Answers (exec (.legacyChDataRead more n) s) fun t => t.ld.host.legacySent = shiftedOut (8 + more) s.ld.host.legacyNext ∧ t.ld.host.legacyNext % 65536 = s.ld.legacyData n % 65536 ∧ t.ld.gb (F.CTX_SNAPSTAT_UNREAD n) = false) ∧
  (∀ (s : State) (more : Nat) (n : Fin 16) (data : Fin 65536), s.told = true → s.ld.legacyUp = true → s.ld.host.short = false → s.ld.mode ≠ .boot → 16 ≤ more → data.val ≠ s.legacyCfg n → 
     Answers (exec (.legacyChCfgWrite more n data) s) fun t => t.ld.host.mismatches = min 1023 (s.ld.host.mismatches + 1) ∧ t.ld.host.mismatchAt = 0x20 + n.val ∧ t.ld.g F.HOST_ERR_REASON = 15 ∧ t.fd.cfg = s.fd.cfg) ∧
  (∀ (s : State) (more : Nat) (n : Fin 16) (data : Fin 65536), s.told = true → s.ld.legacyUp = true → s.ld.host.short = false → s.ld.mode ≠ .boot → 16 ≤ more → data.val = s.legacyCfg n → 
     Answers (exec (.legacyChCfgWrite more n data) s) fun t => t.ld.host.legacyNext % 65536 = data ∧ t.ld.host.mismatches = s.ld.host.mismatches ∧ t.ld.host.ferr = s.ld.host.ferr) ∧
  (∀ (s : State) (more : Nat), s.told = true → s.ld.legacyUp = true → s.ld.host.short = false → s.ld.mode ≠ .boot → 
     Answers (exec (.legacyTimeRead more) s) fun t => t.ld.host.times = s.ld.time % 2 ^ 64 ∧ t.ld.host.legacyNext % 65536 = s.ld.time % 65536) ∧
  (∀ (s : State) (more : Nat) (data : Fin 65536), s.told = true → s.ld.legacyUp = true → s.ld.host.short = false → s.up → s.ld.mode ≠ .boot → s.ld.mode ≠ .follow → 16 ≤ more → data.val < 16 → s.ld.groupsFrom data 0 ≠ 0 → 
     Answers (exec (.legacySync more data) s) fun t => t.fd.trigs = s.fd.trigs ++ [{ stamp := s.ld.time, groups := s.ld.groupsFrom data 0 }] ∧ t.ld.host.ferr = s.ld.host.ferr) ∧
  (∀ (s : State) (more : Nat), s.told = true → s.ld.legacyUp = true → s.ld.host.short = false → s.ld.mode ≠ .boot → s.ld.mode ≠ .follow → 16 ≤ more → s.ld.wdog.running = true → nbit s.ld.wdog.tasks 0 = true → s.ld.wdog.openAt ≤ s.ld.wdogCount → nbit s.ld.wdog.injDouble 0 = false → nbit (s.ld.g F.WDOG_SERVED_TASK) 0 = false → 
     Answers (exec (.legacyKick more) s) fun t => nbit (t.ld.g F.WDOG_SERVED_TASK) 0 = true ∧ t.ld.host.ferr = s.ld.host.ferr) ∧
  (∀ (s : State) (more : Nat), s.told = true → s.ld.legacyUp = true → s.ld.host.short = false → s.ld.mode ≠ .boot → 16 ≤ more → 
     Answers (exec (.legacyModesel more (0xA5C3 : Fin 65536)) s) fun t => t.ld.gb F.HOST_LEGACY_EN = false ∧ t.ld.host.legacyNext = 0)

/-- Plain words, findings injected, and words that clear or commit on a field block (R53, R57, R58, R127, R129, R166, R179, R246) -/
def Obligations.FieldWordRows : Prop :=
  (∀ (s : State) (ctr : Word) (page : Page) (w : Word), s.told = true → s.ld.takes ctr (R.EVT_EN page) (w) → pageKind page ≠ .seqtab → 
     Answers (exec (.registerWrite (some ctr) (Fin.ofNat 65536 (R.EVT_EN page)) w false) s) fun t => t.ld.host.ferr = false ∧
         t.ld.regs.word (R.EVT_EN page) = w ∧ t.fd = s.fd) ∧
  (∀ (s : State) (ctr : Word) (c : Ctx) (w : Word), s.up → s.ld.bar.cmds = [] → s.ld.bar.pages = [] → s.ld.takes ctr (R.CTX_TH_A_LEVEL c) (w) → s.hostField.ctxWriteFails (R.CTX_TH_A_LEVEL c) (s.ld.merged (R.CTX_TH_A_LEVEL c) w) = false → 
     Answers (exec (.registerWrite (some ctr) (Fin.ofNat 65536 (R.CTX_TH_A_LEVEL c)) w false) s) fun t => t.ld.host.ferr = false ∧
         t.fd.cfg.word (R.CTX_TH_A_LEVEL c) = (s.fd.cfg.word (R.CTX_TH_A_LEVEL c) &&& ~~~word (writeMask (R.CTX_TH_A_LEVEL c))) ||| (w &&& word (writeMask (R.CTX_TH_A_LEVEL c))) ∧
         t.fd.img = s.fd.img ∧ t.fd.ctxs = s.fd.ctxs) ∧
  (∀ (s : State) (ctr : Word) (w : Word), s.told = true → s.ld.takes ctr (R.INJECT R.pageLOFT) (w) → 
     Answers (exec (.injectFinding (some ctr) (Fin.ofNat 256 R.pageLOFT) w) s) fun t => t.ld.host.ferr = false ∧
         t.ld.loft.failNext = (s.ld.loft.failNext || wbit w 4) ∧ t.fd = s.fd) ∧
  (∀ (s : State) (ctr : Word) (k : Slice) (w : Word), s.up → s.ld.bar.cmds = [] → s.ld.bar.pages = [] → s.ld.takes ctr (R.INJECT (R.pageSLICE k)) (w) → wbit w 4 = false → wbit w 5 = false → wbit w 0 = true → 
     Answers (exec (.injectFinding (some ctr) (Fin.ofNat 256 (R.pageSLICE k)) w) s) fun t => t.ld.host.ferr = false ∧
         t.fd.rot.bias = s.fd.rot.bias ++ [k.val] ∧ t.fd.cfg = s.fd.cfg) ∧
  (∀ (s : State) (ctr : Word) (c : Ctx), s.told = true → s.ld.takes ctr (R.CTX_LIFE_CLR c) (1#32) → 
     Answers (exec (.lifeClr (some ctr) c) s) fun t => t.ld.host.ferr = false ∧
         t.ld.lifeCount c = 0 ∧ t.ld.regs.word (R.CTX_LIFE_MIN c) = 0#32 ∧ t.ld.regs.word (R.CTX_LIFE_MAX c) = 0#32 ∧ t.fd = s.fd) ∧
  (∀ (s : State) (ctr : Word) (n : Terminal), s.up → s.ld.bar.cmds = [] → s.ld.bar.pages = [] → s.ld.takes ctr (R.TERM_DI_CLR n) (1#32) → s.fd.func n = 1 → 
     Answers (exec (.diClrCnt (some ctr) n) s) fun t => t.ld.host.ferr = false ∧
         t.fd.g (F.TERM_DI_CNT_CNT n) = 0 ∧ t.fd.g (F.TERM_DI_CNT_WRAPS_WRAPS n) = 0 ∧ t.fd.g (F.TERM_DI_CNT_LAST_T_LAST_T n) = 0 ∧ t.fd.cfg = s.fd.cfg) ∧
  (∀ (s : State) (ctr : Word) (n : Terminal), s.up → s.ld.bar.cmds = [] → s.ld.bar.pages = [] → s.ld.takes ctr (R.TERM_DI_CLR n) (2#32) → s.fd.func n = 1 → 
     Answers (exec (.diClrChat (some ctr) n) s) fun t => t.ld.host.ferr = false ∧
         t.fd.g (F.TERM_DI_CHAT_COUNT n) = 0 ∧ t.fd.cfg = s.fd.cfg) ∧
  (∀ (s : State) (ctr : Word) (u : Fin 8), s.up → s.ld.bar.cmds = [] → s.ld.bar.pages = [] → s.ld.takes ctr (R.FILT_COMMIT u) (1#32) → s.hostField.filtInUse u = false → 
     Answers (exec (.firCommit (some ctr) u) s) fun t => t.ld.host.ferr = false ∧
         nbit t.fd.commits u = true ∧ t.fd.cfg = s.fd.cfg ∧ t.fd.img = s.fd.img) ∧
  (∀ (s : State) (u : Fin 8), s.up → nbit s.fd.commits u = true → s.fd.c (F.FILT_CFG_NTAPS u) ≠ 0 → s.fd.c (F.FILT_CFG_DEC u) ≤ 5 → 
     Answers (exec (.firCommitDone u) s) fun t => t.fd.gb (F.FILT_INFO_READY u) = true ∧ t.fd.g (F.FILT_INFO_SPAN u) = (s.fd.c (F.FILT_CFG_NTAPS u) - 1) % 2 ^ (F.FILT_INFO_SPAN u).len ∧ t.fd.gb (F.FILT_INFO_GAINOK u) = decide ((s.fd.dcGain u - 4194304).natAbs ≤ 4) ∧ nbit t.fd.commits u = false) ∧
  (∀ (s : State) (u : Fin 8), s.up → nbit s.fd.commits u = true → s.fd.c (F.FILT_CFG_NTAPS u) = 0 → 
     Answers (exec (.firCommitDone u) s) fun t => t.fd.gb (F.FILT_INFO_READY u) = false ∧ nbit t.fd.commits u = false)

/-- Excitation: sine generators and DC sources, compliance, VBIAS, the test DAC (R45, R46, R80, R82, R85, R86, R87, R93) -/
def Obligations.SourceRows : Prop :=
  (∀ (s : State) (ctr : Word) (k : Fin 4) (ampl : Bool) (w : Word), s.up → s.ld.bar.cmds = [] → s.ld.bar.pages = [] → s.ld.takes ctr (if ampl then R.EXC_SINE_AMPL k else R.EXC_SINE_FREQ k) (w) → (ampl = true ∨ s.hostField.tooFast k w = false) → 
     Answers (exec (.sineParamWrite (some ctr) k ampl w) s) fun t => t.ld.host.ferr = false ∧
         (t.fd.sine k).freq = (s.fd.sine k).freq ∧ (t.fd.sine k).ampl = (s.fd.sine k).ampl ∧ (s.fd.sineOn k = true → (t.fd.sine k).changed = true)) ∧
  (∀ (s : State) (k : Fin 4), s.up → (s.fd.sine k).changed = true → s.fd.sineOn k = true → 
     Answers (exec (.sineZeroCrossing k) s) fun t => t.fd.sine k = { s.fd.sine k with freq := s.fd.c (F.EXC_SINE_FREQ_FREQ k), ampl := s.fd.c (F.EXC_SINE_AMPL_AMPL k), changed := false } ∧ t.fd.cfg = s.fd.cfg) ∧
  (∀ (s : State) (ctr : Word) (k : Fin 4), s.up → s.ld.bar.cmds = [] → s.ld.bar.pages = [] → s.ld.takes ctr (R.EXC_SINE_CTL k) (1#32) → s.fd.gb (F.EXC_SINE_STAT_BUSY k) = false → s.fd.sineOn k = false → 
     Answers (exec (.sineEnable (some ctr) k) s) fun t => t.ld.host.ferr = false ∧
         (t.fd.sine k).rampUp = true ∧ (t.fd.sine k).freq = s.fd.c (F.EXC_SINE_FREQ_FREQ k) ∧ (t.fd.sine k).ampl = s.fd.c (F.EXC_SINE_AMPL_AMPL k)) ∧
  (∀ (s : State) (ctr : Word) (k : Fin 4), s.up → s.ld.bar.cmds = [] → s.ld.bar.pages = [] → s.ld.takes ctr (R.EXC_SINE_CTL k) (0#32) → s.fd.gb (F.EXC_SINE_STAT_BUSY k) = false → s.fd.sineOn k = true → 
     Answers (exec (.sineDisable (some ctr) k) s) fun t => t.ld.host.ferr = false ∧
         t.fd.gb (F.EXC_SINE_STAT_RUNNING k) = false ∧ t.fd.gb (F.EXC_SINE_STAT_BUSY k) = true ∧ (t.fd.sine k).rampUp = false) ∧
  (∀ (s : State) (k : Fin 4), s.up → s.fd.gb (F.EXC_SINE_STAT_BUSY k) = false → (s.fd.sine k).rampUp = true → 
     Answers (exec (.sineRampDone k) s) fun t => t.fd.gb (F.EXC_SINE_STAT_RUNNING k) = true ∧ (t.fd.sine k).rampUp = false ∧ t.fd.cfg = s.fd.cfg) ∧
  (∀ (s : State) (k : Fin 4), s.up → s.fd.gb (F.EXC_SINE_STAT_BUSY k) = true → s.fd.gb (F.EXC_SINE_STAT_PENDING k) = false → 
     Answers (exec (.sineRampDone k) s) fun t => t.fd.gb (F.EXC_SINE_STAT_BUSY k) = false ∧ t.fd.gb (F.EXC_SINE_STAT_COMPL k) = false ∧ t.fd.cfg = s.fd.cfg) ∧
  (∀ (s : State) (k : Fin 4) (mon : Fin 65536), s.up → s.fd.gb (F.EXC_SINE_STAT_RUNNING k) = true → 100 * ((mon.val : Int) - (s.fd.sine k).ampl).natAbs ≤ (s.fd.sine k).ampl → 
     Answers (exec (.sinePeriodMonitor k mon) s) fun t => t.fd.g (F.EXC_SINE_MON_MON k) = mon ∧ t.fd.gb (F.EXC_SINE_STAT_AMPL_ERR k) = false ∧ (t.fd.sine k).errRun = 0) ∧
  (∀ (s : State) (k : Fin 4) (mon : Fin 65536), s.up → s.fd.gb (F.EXC_SINE_STAT_RUNNING k) = true → (s.fd.sine k).ampl < 100 * ((mon.val : Int) - (s.fd.sine k).ampl).natAbs → (s.fd.sine k).errRun = 3 → 
     Answers (exec (.sinePeriodMonitor k mon) s) fun t => t.fd.g (F.EXC_SINE_MON_MON k) = mon ∧ t.fd.gb (F.EXC_SINE_STAT_AMPL_ERR k) = true ∧ t.ld.gb ⟨R.EVT_RAW R.pageEXC, 8 + k, 1⟩ = true) ∧
  (∀ (s : State) (src : Fin 8), s.up → s.fd.canComply src = true → s.fd.gb (complFlag src) = false → 
     Answers (exec (.sourceComplianceEnter src) s) fun t => t.fd.gb (complFlag src) = true ∧ t.ld.gb ⟨R.EVT_RAW R.pageEXC, src, 1⟩ = true ∧ t.fd.cfg = s.fd.cfg) ∧
  (∀ (s : State) (src : Fin 8), s.up → s.fd.gateCuts src = false → 
     Answers (exec (.sourceComplianceClear src) s) fun t => t.fd = { s.fd with img := (complFlag src).set 0 s.fd.img }) ∧
  (∀ (s : State) (ctr : Word) (k : Fin 4) (w : Word), s.up → s.ld.bar.cmds = [] → s.ld.bar.pages = [] → s.ld.takes ctr (R.EXC_IDC k) (w) → 
     Answers (exec (.idcWrite (some ctr) k w) s) fun t => t.ld.host.ferr = false ∧
         t.fd.c (F.EXC_IDC_LEVEL k) = (F.EXC_IDC_LEVEL k).get [(R.EXC_IDC k, w)] ∧ t.fd.idc k = s.fd.idc k ∧ t.fd.img = s.fd.img) ∧
  (∀ (s : State) (k : Fin 4), s.up → s.fd.idc k ≠ { level := s.fd.c (F.EXC_IDC_LEVEL k), en := s.fd.cb (F.EXC_IDC_EN k) } → 
     Answers (exec (.idcChangeEffect k) s) fun t => t.fd.idc k = { level := s.fd.c (F.EXC_IDC_LEVEL k), en := s.fd.cb (F.EXC_IDC_EN k) } ∧ t.fd.gb (F.EXC_IDCSTAT_ON k) = s.fd.cb (F.EXC_IDC_EN k) ∧ t.fd.cfg = s.fd.cfg) ∧
  (∀ (s : State) (cur : Fin 65536), s.up → 
     Answers (exec (.vbiasOverload cur) s) fun t => t.fd.g F.EXC_VBIAS_CURRENT = cur ∧ t.fd.gb F.EXC_VBIAS_OVL = decide (2500 < (signed 16 cur).natAbs) ∧ t.fd.cfg = s.fd.cfg) ∧
  (∀ (s : State) (ctr : Word) (w : Word), s.up → s.ld.bar.cmds = [] → s.ld.bar.pages = [] → s.ld.takes ctr (R.EXC_TDAC) (w) → s.hostField.cb F.XPT_CFG_TDAC_USER = true → 
     Answers (exec (.tdacWrite (some ctr) w) s) fun t => t.ld.host.ferr = false ∧
         t.fd.cfg.word R.EXC_TDAC &&& word (writeMask R.EXC_TDAC) = w &&& word (writeMask R.EXC_TDAC) ∧ t.fd.img = s.fd.img)

/-- References and blanking: loss, settling and replacement of a reference, the blank line, its guard and limit (R95, R96, R97, R99) -/
def Obligations.ReferenceBlankRows : Prop :=
  (∀ (s : State), s.up → s.fd.gb F.EXC_REF_EXT_OK = true → 
     Answers (exec (.extrefBad) s) fun t => t.fd.gb F.EXC_REF_EXT_OK = false ∧ t.ld.gb ⟨R.EVT_RAW R.pageEXC, 13, 1⟩ = true ∧ t.fd.cfg = s.fd.cfg) ∧
  (∀ (s : State), s.up → 
     Answers (exec (.extrefOk) s) fun t => t.fd = { s.fd with img := F.EXC_REF_EXT_OK.set 1 s.fd.img }) ∧
  (∀ (s : State) (sl : Slice), s.up → s.fd.gb F.EXC_REF_EXT_OK = true → (s.fd.slice sl).refSettled = false → 
     Answers (exec (.refSettled sl) s) fun t => t.fd.slice sl = { s.fd.slice sl with refSettled := true, restartRef := !(s.fd.slice sl).blanked, broken := (s.fd.slice sl).broken || (s.fd.slice sl).blanked } ∧ t.fd.cfg = s.fd.cfg) ∧
  (∀ (s : State) (bad : Fin 2) (diff : Fin 65536), s.up → s.fd.gb F.EXC_REF_SPARE_AVAIL = true → s.fd.diagRuns = true → nbit s.fd.veto 5 = false → s.fd.g F.EXC_REF_ACTIVE = bad → s.ld.isRetired 5 bad = false → 
     Answers (exec (.refMismatch bad diff) s) fun t => t.fd.g F.EXC_REF_ACTIVE = 1 - bad.val ∧ t.fd.gb F.EXC_REF_SPARE_AVAIL = false ∧ t.fd.exc.retiredRef = some bad.val ∧ t.fd.g F.EXC_REF_DIFF = diff ∧ t.ld.isRetired 5 bad = true) ∧
  (∀ (s : State) (bad : Fin 2) (diff : Fin 65536), s.up → s.fd.gb F.EXC_REF_SPARE_AVAIL = true → s.fd.diagRuns = true → nbit s.fd.veto 5 = true → 
     Answers (exec (.refMismatch bad diff) s) fun t => (5, bad.val) ∈ t.fd.deferred ∧ t.fd.g F.EXC_REF_ACTIVE = s.fd.g F.EXC_REF_ACTIVE ∧ t.fd.exc.retiredRef = s.fd.exc.retiredRef) ∧
  (∀ (s : State) (src : Option Terminal), s.up → (match src with | none => s.fd.cb F.EXC_BLANK_CFG_PIN_EN = true | some n => s.fd.func n = 1 ∧ s.fd.cb (F.TERM_DI_CFG_BLANK_SRC n) = true) → s.fd.exc.line = false → s.fd.exc.ended = false → s.fd.gb F.EXC_BLANK_STAT_ACTIVE = false → 
     Answers (exec (.blankLineAssert src) s) fun t => t.fd.exc.line = true ∧ t.fd.exc.guard = false ∧ t.fd.gb F.EXC_BLANK_STAT_ACTIVE = true ∧ t.fd.g F.EXC_BLANK_STAT_COUNT = min (2 ^ F.EXC_BLANK_STAT_COUNT.len - 1) (s.fd.g F.EXC_BLANK_STAT_COUNT + 1) ∧ (src = none → t.fd.gb F.EXC_BLANK_STAT_PIN = true) ∧ (src ≠ none → t.fd.gb F.EXC_BLANK_STAT_DI = true) ∧ t.fd.cfg = s.fd.cfg) ∧
  (∀ (s : State), s.up → s.fd.exc.line = true → s.fd.c F.EXC_BLANK_CFG_GUARD ≠ 0 → (s.fd.pinBlanks = true → ∀ m : Terminal, s.fd.diBlanks m = false) → 
     Answers (exec (.blankLineRelease) s) fun t => t.fd.exc.line = false ∧ t.fd.exc.guard = true ∧ t.fd.gb F.EXC_BLANK_STAT_GUARD_ON = true ∧ t.fd.gb F.EXC_BLANK_STAT_ACTIVE = s.fd.gb F.EXC_BLANK_STAT_ACTIVE ∧ t.fd.gb F.EXC_BLANK_STAT_DI = false ∧ (∀ m : Terminal, t.fd.diBlanks m = false)) ∧
  (∀ (s : State) (m : Terminal), s.up → s.fd.exc.line = true → s.fd.pinBlanks = true → s.fd.diBlanks m = true → 
     Answers (exec (.blankLineRelease) s) fun t => t.fd.exc.line = true ∧ t.fd.gb F.EXC_BLANK_STAT_ACTIVE = s.fd.gb F.EXC_BLANK_STAT_ACTIVE ∧ t.fd.gb F.EXC_BLANK_STAT_DI = true ∧ t.fd.gb F.EXC_BLANK_STAT_PIN = false) ∧
  (∀ (s : State), s.up → s.fd.exc.guard = true → s.fd.exc.ended = false → s.fd.gb F.EXC_BLANK_STAT_ACTIVE = true → 
     Answers (exec (.blankGuardExpiry) s) fun t => t.fd.exc.guard = false ∧ t.fd.gb F.EXC_BLANK_STAT_ACTIVE = false ∧ t.ld.gb ⟨R.EVT_RAW R.pageEXC, 17, 1⟩ = true) ∧
  (∀ (s : State), s.up → s.fd.gb F.EXC_BLANK_STAT_ACTIVE = true → s.fd.c F.EXC_BLANK_MAX_MAXLEN ≠ 0 → 
     Answers (exec (.blankMaxlenExpiry) s) fun t => t.fd.gb F.EXC_BLANK_STAT_ACTIVE = false ∧ t.fd.gb F.EXC_BLANK_STAT_STUCK = true ∧ t.fd.exc.ended = true ∧ t.ld.gb ⟨R.EVT_RAW R.pageEXC, 18, 1⟩ = true)

/-- The terminal cell: function changes, overvoltage and its end, shunt overcurrent and its end (R62, R63, R65, R75) -/
def Obligations.CellRows : Prop :=
  (∀ (s : State) (n : Terminal) (fn : Fin 8), s.up → (s.fd.term n).next = some fn.val → 
     Answers (exec (.funcChangeSettle n) s) fun t => t.fd.func n = fn ∧ (t.fd.term n).next = none ∧ t.ld.gb ⟨R.EVT_RAW (R.pageTERM n), 2, 1⟩ = true ∧ t.fd.cfg = s.fd.cfg) ∧
  (∀ (s : State) (n : Terminal), s.up → s.fd.gateClosed n = true → 
     Answers (exec (.terminalOvervoltage n) s) fun t => t.fd.gb (F.TERM_CELLSTAT_GATE_OPEN n) = true ∧ t.ld.gb ⟨R.EVT_RAW (R.pageTERM n), 0, 1⟩ = true ∧ t.fd.func n = s.fd.func n ∧ t.fd.cfg = s.fd.cfg) ∧
  (∀ (s : State) (n : Terminal), s.up → 
     Answers (exec (.gateReclose n) s) fun t => t.fd.gb (F.TERM_CELLSTAT_GATE_OPEN n) = false ∧ t.fd.cfg = s.fd.cfg) ∧
  (∀ (s : State) (n : Terminal), s.up → s.fd.func n = 4 → s.fd.gb (F.TERM_CELLSTAT_SHUNT_OPEN n) = false → 
     Answers (exec (.shuntOvercurrent n) s) fun t => t.fd.gb (F.TERM_CELLSTAT_SHUNT_OPEN n) = true ∧ (t.fd.term n).shunts = (s.fd.term n).shunts + 1 ∧ t.ld.gb ⟨R.EVT_RAW (R.pageTERM n), 1, 1⟩ = true ∧ t.fd.cfg = s.fd.cfg) ∧
  (∀ (s : State) (n : Terminal), s.up → 
     Answers (exec (.shuntReclose n) s) fun t => t.fd.gb (F.TERM_CELLSTAT_SHUNT_OPEN n) = false ∧ t.fd.cfg = s.fd.cfg)

/-- Switched outputs: commands, reversal, overload and thermal protection, retries, unlatching (R25, R185, R186, R188, R189, R190, R30) -/
def Obligations.SwitchRows : Prop :=
  (∀ (s : State) (ctr : Word) (n : Terminal) (on : Bool), s.up → s.ld.bar.cmds = [] → s.ld.bar.pages = [] → s.ld.takes ctr (R.TERM_DO_CMD n) (word (b2n on)) → s.hostField.termRefuses n 0x33 (word (b2n on)) = none → s.fd.func n = 2 → s.fd.cb (F.TERM_DO_CFG_TIE_EN n) = false → s.fd.paired = false → s.fd.noticed.any (fun y => y.n == n.val) = false → 
     Answers (exec (.doCommand (some ctr) n on) s) fun t => t.ld.host.ferr = false ∧
         t.fd.cb (F.TERM_DO_CMD_ON n) = on ∧ (t.fd.term n).ss.stay = false ∧ (t.fd.term n).want = (t.fd.act n).level) ∧
  (∀ (s : State) (n : Terminal), s.up → s.fd.func n = 2 → s.fd.gb (F.TERM_DO_STAT_ON n) = true → s.fd.cb (F.TERM_DO_CFG_TIE_EN n) = false → s.fd.paired = false → 
     Answers (exec (.reverseDetected n) s) fun t => t.fd.gb (F.TERM_DO_STAT_REVERSE n) = true ∧ (t.fd.term n).level = none ∧ t.fd.gb (F.TERM_DO_STAT_ON n) = false ∧ t.ld.gb ⟨R.EVT_RAW (R.pageTERM n), 17, 1⟩ = true ∧ t.fd.cfg = s.fd.cfg) ∧
  (∀ (s : State) (n : Terminal), s.up → s.fd.paired = false → 
     Answers (exec (.reverseCleared n) s) fun t => t.fd.gb (F.TERM_DO_STAT_REVERSE n) = false ∧ t.fd.cfg = s.fd.cfg) ∧
  (∀ (s : State) (n : Terminal), s.up → s.fd.func n = 2 → s.fd.gb (F.TERM_DO_STAT_ON n) = true → 
     Answers (exec (.currentLimitRegulation n .atLimit) s) fun t => t.fd.gb (F.TERM_DO_STAT_LIMIT n) = true ∧ (t.fd.term n).dout.fold = true ∧ (t.fd.term n).level = (s.fd.term n).level) ∧
  (∀ (s : State) (n : Terminal), s.up → s.fd.func n = 2 → 
     Answers (exec (.currentLimitRegulation n .bothEnded) s) fun t => t.fd.gb (F.TERM_DO_STAT_LIMIT n) = false ∧ (t.fd.term n).dout.fold = false) ∧
  (∀ (s : State) (n : Terminal), s.up → s.fd.func n = 2 → s.fd.gb (F.TERM_DO_STAT_ON n) = true → (s.fd.term n).want.isSome = true → (s.fd.term n).dout.fold = true → s.fd.cb (F.TERM_DO_CFG_TIE_EN n) = false → s.fd.paired = false → 
     Answers (exec (.foldbackExpiry n) s) fun t => t.fd.gb (F.TERM_DO_STAT_OVERLOAD n) = true ∧ (t.fd.term n).level = none ∧ t.fd.g (F.TERM_DO_COUNT_OVERLOADS n) = min (2 ^ (F.TERM_DO_COUNT_OVERLOADS n).len - 1) (s.fd.g (F.TERM_DO_COUNT_OVERLOADS n) + 1) ∧ (attemptsLeft (s.fd.c (F.TERM_DO_PROT_RETRY_N n)) (s.fd.term n).dout.tries = false → t.fd.gb (F.TERM_DO_STAT_LATCHED n) = true)) ∧
  (∀ (s : State) (n : Terminal), s.up → s.fd.func n = 2 → (s.fd.term n).dout.ovl = true → s.fd.gb (F.TERM_DO_STAT_LATCHED n) = false → (s.fd.term n).want.isSome = true → 
     Answers (exec (.overloadRetry n) s) fun t => (t.fd.term n).dout.ovl = false ∧ (t.fd.term n).dout.tries = (s.fd.term n).dout.tries + 1 ∧ t.fd.cfg = s.fd.cfg) ∧
  (∀ (s : State) (n : Terminal), s.up → s.fd.func n = 2 → (s.fd.term n).want.isSome = true → (s.fd.term n).dout.thm = false → s.fd.cb (F.TERM_DO_CFG_TIE_EN n) = false → s.fd.paired = false → 
     Answers (exec (.thermalTrip n) s) fun t => t.fd.gb (F.TERM_DO_STAT_THERMAL n) = true ∧ (t.fd.term n).dout.hot = true ∧ (t.fd.term n).level = none ∧ t.ld.gb ⟨R.EVT_RAW (R.pageTERM n), 14, 1⟩ = true) ∧
  (∀ (s : State) (n : Terminal), s.up → s.fd.func n = 2 → (s.fd.term n).dout.hot = true → 
     Answers (exec (.channelCooled n) s) fun t => (t.fd.term n).dout.hot = false ∧ t.fd.gb (F.TERM_DO_STAT_THERMAL n) = false ∧ (t.fd.term n).level = (s.fd.term n).level) ∧
  (∀ (s : State) (n : Terminal), s.up → s.fd.func n = 2 → (s.fd.term n).dout.thm = true → s.fd.gb (F.TERM_DO_STAT_LATCHED n) = false → (s.fd.term n).want.isSome = true → 
     Answers (exec (.thermalRetry n) s) fun t => (t.fd.term n).dout.thm = false ∧ (t.fd.term n).dout.thermTries = (s.fd.term n).dout.thermTries + 1) ∧
  (∀ (s : State) (ctr : Word) (n : Terminal), s.up → s.ld.bar.cmds = [] → s.ld.bar.pages = [] → s.ld.takes ctr (R.TERM_DO_CLR n) (1#32) → s.hostField.termRefuses n 0x3A 1#32 = none → s.fd.func n = 2 → 
     Answers (exec (.doUnlatch (some ctr) n) s) fun t => t.ld.host.ferr = false ∧
         t.fd.gb (F.TERM_DO_STAT_LATCHED n) = false ∧ (t.fd.term n).dout.tries = 0 ∧ (t.fd.term n).dout.thermTries = 0 ∧ (s.fd.gb (F.TERM_DO_STAT_LATCHED n) = true → (t.fd.term n).dout.ovl = false) ∧ t.fd.cfg = s.fd.cfg)

/-- Switched outputs: off-state bands, IMIN, off-pulse tests, segments, counts (R192, R193, R194, R195, R198, R199, R201) -/
def Obligations.SwitchDiagnosisRows : Prop :=
  (∀ (s : State) (n : Terminal) (band : BandReport), s.up → s.fd.func n = 2 → s.fd.cb (F.TERM_DO_CFG_TIE_EN n) = false → s.fd.gb (F.TERM_DO_STAT_ON n) = false → s.fd.gb (F.TERM_DO_STAT_CLAMP n) = false → s.fd.gb (F.TERM_DO_STAT_TESTING n) = false → (s.fd.term n).catch_ = .none → (s.fd.paired = false ∨ s.fd.lead = false ∨ s.fd.commanded n = none) → 
     Answers (exec (.offStateBandHeld n band) s) fun t => t.fd.gb (F.TERM_DO_STAT_OPEN_WIRE n) = (if band.long then (band.band == 1 && s.fd.cb (F.TERM_DO_DIAG_OW_EN n)) || (s.fd.term n).dout.owImin else s.fd.gb (F.TERM_DO_STAT_OPEN_WIRE n)) ∧ t.fd.gb (F.TERM_DO_STAT_BACKFEED n) = (band.band == 2 || (s.fd.term n).dout.bfPulse) ∧ t.fd.cfg = s.fd.cfg) ∧
  (∀ (s : State) (n : Terminal) (low : Bool), s.up → s.fd.func n = 2 → s.fd.gb (F.TERM_DO_STAT_ON n) = true → s.fd.c (F.TERM_DO_DIAG_IMIN n) ≠ 0 → (s.fd.term n).catch_ = .none → 
     Answers (exec (.iminLow n low) s) fun t => t.fd.gb (F.TERM_DO_STAT_OPEN_WIRE n) = low ∧ (t.fd.term n).dout.owImin = low ∧ t.fd.cfg = s.fd.cfg) ∧
  (∀ (s : State) (n : Terminal), s.up → s.fd.func n = 2 → s.fd.gb (F.TERM_DO_STAT_ON n) = true → s.fd.cb (F.TERM_DO_CFG_TIE_EN n) = false → s.fd.paired = false → s.fd.cb (F.TERM_DO_DIAG_TP_EN n) = true → (s.fd.term n).catch_ = .none → s.fd.pulseTime n = true → s.fd.pulseBlocked n = false → 
     Answers (exec (.offPulseDue n) s) fun t => t.fd.gb (F.TERM_DO_STAT_ON n) = false ∧ (t.fd.gb (F.TERM_DO_STAT_TESTING n) = true ∨ (t.fd.term n).level = none) ∧ t.fd.cfg = s.fd.cfg) ∧
  (∀ (s : State) (n : Terminal), s.up → s.fd.func n = 2 → s.fd.cb (F.TERM_DO_CFG_TIE_EN n) = false → s.fd.paired = false → s.fd.gb (F.TERM_DO_STAT_TESTING n) = true → (s.fd.term n).dout.failPulse = false → 
     Answers (exec (.offPulseEnd n true) s) fun t => t.fd.gb (F.TERM_DO_STAT_TESTING n) = false ∧ (t.fd.term n).dout.bfPulse = false ∧ t.fd.g (F.TERM_DO_TPCOUNT_TESTS n) = min (2 ^ (F.TERM_DO_TPCOUNT_TESTS n).len - 1) (s.fd.g (F.TERM_DO_TPCOUNT_TESTS n) + 1)) ∧
  (∀ (s : State) (n : Terminal), s.up → s.fd.func n = 2 → s.fd.cb (F.TERM_DO_CFG_TIE_EN n) = false → s.fd.paired = false → s.fd.gb (F.TERM_DO_STAT_TESTING n) = true → (s.fd.term n).dout.failPulse = false → 
     Answers (exec (.offPulseEnd n false) s) fun t => t.fd.gb (F.TERM_DO_STAT_TESTING n) = false ∧ (t.fd.term n).dout.bfPulse = true ∧ t.fd.g (F.TERM_DO_TPCOUNT_FAILS n) = min (2 ^ (F.TERM_DO_TPCOUNT_FAILS n).len - 1) (s.fd.g (F.TERM_DO_TPCOUNT_FAILS n) + 1)) ∧
  (∀ (s : State) (n : Terminal) (rs : List SegReading) (ron : Fin 65536), s.up → s.fd.func n = 2 → s.fd.gb (F.TERM_DO_STAT_ON n) = true → s.fd.diagRuns = true → s.fd.gb (F.TERM_DO_STAT_LIMIT n) = false → 100 ≤ s.fd.g (F.TERM_DO_MEAS_CURRENT n) → 
     Answers (exec (.segmentMeasurement n rs ron) s) fun t => t.fd.g (F.TERM_DO_RON_RON n) = ron ∧ t.fd.cfg = s.fd.cfg) ∧
  (∀ (s : State) (n : Terminal) (x : SegReading) (ron : Fin 65536), s.up → s.fd.func n = 2 → s.fd.gb (F.TERM_DO_STAT_ON n) = true → s.fd.diagRuns = true → s.fd.gb (F.TERM_DO_STAT_LIMIT n) = false → 100 ≤ s.fd.g (F.TERM_DO_MEAS_CURRENT n) → x.lowShare = true → nbit (s.fd.g (F.TERM_DO_SEG_IN_SERVICE n)) x.seg = true → nbit (s.fd.g (F.TERM_DO_SEG_RETIRED n)) x.seg = false → 
     Answers (exec (.segmentMeasurement n [x] ron) s) fun t => nbit (t.fd.g (F.TERM_DO_SEG_RETIRED n)) x.seg = true ∧ nbit (t.fd.g (F.TERM_DO_SEG_IN_SERVICE n)) x.seg = false ∧ (s.ld.isRetired 4 (9 * n.val + x.seg.val) = false → t.ld.isRetired 4 (9 * n.val + x.seg.val) = true)) ∧
  (∀ (s : State) (ctr : Word) (n : Terminal), s.up → s.ld.bar.cmds = [] → s.ld.bar.pages = [] → s.ld.takes ctr (R.TERM_DO_CLR n) (2#32) → s.hostField.termRefuses n 0x3A 2#32 = none → s.fd.func n = 2 → 
     Answers (exec (.doClearCounts (some ctr) n) s) fun t => t.ld.host.ferr = false ∧
         t.fd.g (F.TERM_DO_COUNT_OVERLOADS n) = 0 ∧ t.fd.g (F.TERM_DO_COUNT_THERMALS n) = 0 ∧ t.fd.g (F.TERM_DO_TPCOUNT_TESTS n) = 0 ∧ t.fd.g (F.TERM_DO_TPCOUNT_FAILS n) = 0 ∧ t.fd.cfg = s.fd.cfg)

/-- Analogue outputs: commands, compliance, loop and overload flags, the thermal cap and trip, readback, counts (R30, R202, R210, R211, R213, R215) -/
def Obligations.AnalogueOutputRows : Prop :=
  (∀ (s : State) (ctr : Word) (n : Terminal) (w : Word), s.up → s.ld.bar.cmds = [] → s.ld.bar.pages = [] → s.ld.takes ctr (R.TERM_AO_CMD n) (w) → s.hostField.termRefuses n 0x43 w = none → isAo (s.fd.func n) = true → s.fd.noticed.any (fun y => y.n == n.val) = false → 
     Answers (exec (.aoCommand (some ctr) n w) s) fun t => t.ld.host.ferr = false ∧
         t.fd.cfg.word (R.TERM_AO_CMD n) &&& word (writeMask (R.TERM_AO_CMD n)) = w &&& word (writeMask (R.TERM_AO_CMD n)) ∧ (t.fd.term n).ss.stay = false ∧ (t.fd.term n).want = (t.fd.act n).level) ∧
  (∀ (s : State) (n : Terminal), s.up → isAo (s.fd.func n) = true → s.fd.gb (F.TERM_AO_STAT_COMPLIANCE n) = false → 
     Answers (exec (.aoCompliance n true) s) fun t => t.fd.gb (F.TERM_AO_STAT_COMPLIANCE n) = true ∧ t.ld.gb ⟨R.EVT_RAW (R.pageTERM n), 20, 1⟩ = true ∧ (t.fd.term n).level = (s.fd.term n).level) ∧
  (∀ (s : State) (n : Terminal), s.up → isAo (s.fd.func n) = true → 
     Answers (exec (.aoCompliance n false) s) fun t => t.fd.gb (F.TERM_AO_STAT_COMPLIANCE n) = false ∧ (t.fd.term n).level = (s.fd.term n).level) ∧
  (∀ (s : State) (n : Terminal), s.up → s.fd.func n = 5 → s.fd.gb (F.TERM_AO_STAT_OPEN_LOOP n) = false → s.fd.g (F.TERM_AO_RAIL_SOURCE n) = 2 → 10000 ≤ (s.fd.term n).level.getD 0 → 
     Answers (exec (.aoOpenLoop n true) s) fun t => t.fd.gb (F.TERM_AO_STAT_OPEN_LOOP n) = true ∧ t.ld.gb ⟨R.EVT_RAW (R.pageTERM n), 21, 1⟩ = true ∧ (t.fd.term n).level = (s.fd.term n).level) ∧
  (∀ (s : State) (n : Terminal), s.up → s.fd.func n = 5 → 
     Answers (exec (.aoOpenLoop n false) s) fun t => t.fd.gb (F.TERM_AO_STAT_OPEN_LOOP n) = false ∧ (t.fd.term n).level = (s.fd.term n).level) ∧
  (∀ (s : State) (n : Terminal), s.up → s.fd.func n = 6 → s.fd.gb (F.TERM_AO_STAT_OVERLOAD n) = false → 
     Answers (exec (.aoVOverload n true) s) fun t => t.fd.gb (F.TERM_AO_STAT_OVERLOAD n) = true ∧ t.ld.gb ⟨R.EVT_RAW (R.pageTERM n), 24, 1⟩ = true ∧ (t.fd.term n).level = (s.fd.term n).level) ∧
  (∀ (s : State) (n : Terminal), s.up → s.fd.func n = 6 → 
     Answers (exec (.aoVOverload n false) s) fun t => t.fd.gb (F.TERM_AO_STAT_OVERLOAD n) = false ∧ (t.fd.term n).level = (s.fd.term n).level) ∧
  (∀ (s : State) (n : Terminal), s.up → isAo (s.fd.func n) = true → s.fd.gb (F.TERM_AO_STAT_COMPLIANCE n) = false → s.fd.gb (F.TERM_AO_STAT_THERM_LIM n) = false → s.fd.gb (F.TERM_AO_STAT_OVERLOAD n) = false → s.fd.gb (F.TERM_AO_STAT_THERMAL n) = false → s.fd.gb (F.TERM_AO_STAT_READBACK n) = false → 
     Answers (exec (.readbackMismatch n true) s) fun t => t.fd.gb (F.TERM_AO_STAT_READBACK n) = true ∧ t.ld.gb ⟨R.EVT_RAW (R.pageTERM n), 26, 1⟩ = true ∧ (t.fd.term n).level = (s.fd.term n).level) ∧
  (∀ (s : State) (n : Terminal), s.up → isAo (s.fd.func n) = true → s.fd.gb (F.TERM_AO_STAT_COMPLIANCE n) = false → s.fd.gb (F.TERM_AO_STAT_THERM_LIM n) = false → s.fd.gb (F.TERM_AO_STAT_OVERLOAD n) = false → s.fd.gb (F.TERM_AO_STAT_THERMAL n) = false → 
     Answers (exec (.readbackMismatch n false) s) fun t => t.fd.gb (F.TERM_AO_STAT_READBACK n) = false ∧ (t.fd.term n).level = (s.fd.term n).level) ∧
  (∀ (s : State) (n : Terminal) (need : Nat), s.up → isAo (s.fd.func n) = true → s.fd.aoNeed n = some need → (s.fd.step (n / 8)).stopped = false → (s.fd.step (n / 8)).absent = false → s.fd.safeRuns = true → s.fd.aoConnected n = true → need ≤ (s.fd.step (n / 8)).low → need ≤ (s.fd.step (n / 8)).lowAt → 
     Answers (exec (.aoThermalLimit n) s) fun t => t.fd.g (F.TERM_AO_RAIL_SOURCE n) = 0 ∧ (t.fd.term n).ao.above = true ∧ (t.fd.term n).level = (s.fd.term n).level) ∧
  (∀ (s : State) (n : Terminal) (v : Nat) (below : Bool), s.up → isAo (s.fd.func n) = true → (s.fd.term n).ao.above = true → (s.fd.term n).level = some v → 
     Answers (exec (.aoCapStep n true below) s) fun t => t.fd.gb (F.TERM_AO_STAT_THERM_LIM n) = true ∧ ((t.fd.term n).level.isSome = true → (t.fd.term n).ao.cap = some (min ((s.fd.term n).ao.cap.getD v) v - aoSpan (s.fd.func n) / 100))) ∧
  (∀ (s : State) (n : Terminal), s.up → isAo (s.fd.func n) = true → (s.fd.term n).level.isSome = true → s.fd.paired = false → 
     Answers (exec (.aoThermalTrip n) s) fun t => t.fd.gb (F.TERM_AO_STAT_THERMAL n) = true ∧ (t.fd.term n).level.getD 0 = 0 ∧ t.ld.gb ⟨R.EVT_RAW (R.pageTERM n), 23, 1⟩ = true) ∧
  (∀ (s : State) (n : Terminal), s.up → isAo (s.fd.func n) = true → 
     Answers (exec (.aoThermalResume n) s) fun t => t.fd.gb (F.TERM_AO_STAT_THERMAL n) = false ∧ t.fd.cfg = s.fd.cfg) ∧
  (∀ (s : State) (ctr : Word) (n : Terminal), s.up → s.ld.bar.cmds = [] → s.ld.bar.pages = [] → s.ld.takes ctr (R.TERM_AO_CLR n) (1#32) → s.hostField.termRefuses n 0x49 1#32 = none → isAo (s.fd.func n) = true → 
     Answers (exec (.aoClearCounts (some ctr) n) s) fun t => t.ld.host.ferr = false ∧
         t.fd.g (F.TERM_AO_COUNT_COMPLIANCE n) = 0 ∧ t.fd.g (F.TERM_AO_COUNT_THERM_LIM n) = 0 ∧ t.fd.cfg = s.fd.cfg)

/-- The step supplies: retunes, rails that arrive, headroom moves, faults and restarts (R206, R207, R209, R212) -/
def Obligations.StepSupplyRows : Prop :=
  (∀ (s : State) (g : Group), s.up → (s.fd.step g).stopped = false → (s.fd.step g).absent = false → s.fd.safeRuns = true → (s.fd.groupOuts g).filterMap (fun k => if isAo (s.fd.func k) then (s.fd.aoNeed k).map fun v => (v, k) else none) = [] → s.fd.aoEnabled g = false → 
     Answers (exec (.railRetune g) s) fun t => (t.fd.step g).plan = none ∧ (t.fd.step g).low = 0 ∧ (t.fd.step g).high = 0 ∧ ((s.fd.step g).low ≠ 0 → (t.fd.step g).lowMoving = true)) ∧
  (∀ (s : State) (g : Group), s.up → (s.fd.step g).stopped = false → (s.fd.step g).absent = false → s.fd.safeRuns = true → (s.fd.groupOuts g).filterMap (fun k => if isAo (s.fd.func k) then (s.fd.aoNeed k).map fun v => (v, k) else none) = [] → s.fd.aoEnabled g = true → 
     Answers (exec (.railRetune g) s) fun t => (t.fd.step g).plan = none ∧ (t.fd.step g).low = 2500 ∧ (t.fd.step g).high = 2500 ∧ ((s.fd.step g).low ≠ 2500 → (t.fd.step g).lowMoving = true)) ∧
  (∀ (s : State) (g : Group) (n : Nat) (v : Nat), s.up → (s.fd.step g).stopped = false → (s.fd.step g).absent = false → s.fd.safeRuns = true → (s.fd.groupOuts g).filterMap (fun k => if isAo (s.fd.func k) then (s.fd.aoNeed k).map fun v => (v, k) else none) = [(v, n)] → v ≤ s.fd.fsup g - 1700 → (s.fd.step g).low < railFor (s.fd.fsup g - 1500) v → n < 32 → 
     Answers (exec (.railRetune g) s) fun t => (t.fd.step g).low = railFor (s.fd.fsup g - 1500) v ∧ (t.fd.step g).lowMoving = true ∧ (t.fd.step g).high = max (s.fd.step g).high (railFor (s.fd.fsup g - 1500) v)) ∧
  (∀ (s : State) (g : Group), s.up → (s.fd.step g).plan = none → 
     Answers (exec (.railAtSetpoint g false) s) fun t => (t.fd.step g).lowMoving = false ∧ (t.fd.step g).low = (s.fd.step g).low) ∧
  (∀ (s : State) (g : Group), s.up → (s.fd.step g).plan = none → 
     Answers (exec (.railAtSetpoint g true) s) fun t => (t.fd.step g).highMoving = false ∧ (t.fd.step g).high = (s.fd.step g).high) ∧
  (∀ (s : State) (n : Terminal), s.up → isAo (s.fd.func n) = true → (s.fd.term n).level.isSome = true → s.fd.g (F.TERM_AO_RAIL_SOURCE n) = 0 → (s.fd.step (n / 8)).lowAt + 500 ≤ (s.fd.step (n / 8)).highAt → 
     Answers (exec (.headroomMove n) s) fun t => t.fd.g (F.TERM_AO_RAIL_SOURCE n) = 1) ∧
  (∀ (s : State) (g : Group), s.up → s.fd.groupAo g ≠ [] → (s.fd.step g).stopped = false → (s.fd.step g).absent = false → 
     Answers (exec (.stepSupplyFault g) s) fun t => (t.fd.step g).stopped = true ∧ (∀ n ∈ s.fd.groupAo g, t.fd.gb (F.TERM_AO_STAT_STEP_FAULT n) = true) ∧ t.fd.cfg = s.fd.cfg) ∧
  (∀ (s : State) (g : Group), s.up → (s.fd.step g).stopped = true → (s.fd.step g).fails < 3 → 
     Answers (exec (.stepSupplyRestart g true) s) fun t => (t.fd.step g).stopped = false ∧ (t.fd.step g).fails = 0 ∧ (∀ n ∈ s.fd.groupAo g, t.fd.gb (F.TERM_AO_STAT_STEP_FAULT n) = false)) ∧
  (∀ (s : State) (g : Group), s.up → (s.fd.step g).stopped = true → (s.fd.step g).fails < 3 → 
     Answers (exec (.stepSupplyRestart g false) s) fun t => (t.fd.step g).stopped = true ∧ (t.fd.step g).fails = (s.fd.step g).fails + 1 ∧ t.fd.cfg = s.fd.cfg)

/-- Supply monitors, sag shedding and release, barrier silence and host forces (R216, R217, R218, R219, R220, R222) -/
def Obligations.SupplyRows : Prop :=
  (∀ (s : State) (g : Group) (k : Fin 3), s.up → s.fd.gb (supplyFlag g k) = false → 
     Answers (exec (.supplyFlagSet g k) s) fun t => t.fd.gb (supplyFlag g k) = true ∧ t.ld.gb ⟨R.EVT_RAW R.pageFSUP, 4 * k.val + g.val, 1⟩ = true ∧ t.fd.cfg = s.fd.cfg) ∧
  (∀ (s : State) (g : Group) (n : Nat), s.up → s.fd.gb (supplyFlag g 2) = false → n ∈ s.fd.groupOuts g → s.fd.paired = false → 
     Answers (exec (.supplyFlagSet g 2) s) fun t => t.fd.gb (F.TERM_SS_STAT_UV n) = true ∧ (t.fd.term n).want = none ∧ t.fd.gb (F.FSUP_GRP_STAT_RECOVERING g) = false) ∧
  (∀ (s : State) (g : Group), s.up → 
     Answers (exec (.supplyFlagClear g 0) s) fun t => t.fd.gb (supplyFlag g 0) = false ∧ t.fd.terms = s.fd.terms ∧ t.fd.cfg = s.fd.cfg) ∧
  (∀ (s : State) (g : Group) (k : Fin 3), s.up → s.fd.gb (supplyFlag g k) = true → k.val ≠ 0 → 
     Answers (exec (.supplyFlagClear g k) s) fun t => t.fd.gb (supplyFlag g k) = false ∧ t.fd.cfg = s.fd.cfg) ∧
  (∀ (s : State) (g : Group) (n : Nat), s.up → s.fd.gb (F.FSUP_GRP_STAT_LOW g) = true → s.fd.c (F.FSUP_GRP_POL_POLICY g) = 1 → n ∈ s.fd.groupOuts g → s.fd.c (F.TERM_SS_CFG_SHED_PRIO n) = s.fd.nextPrio g (s.fd.group g).shedAt → s.fd.nextPrio g (s.fd.group g).shedAt ≠ 0 → 
     Answers (exec (.shedStep g) s) fun t => t.fd.gb (F.TERM_SS_STAT_SHED n) = true ∧ (t.fd.group g).shedAt = s.fd.nextPrio g (s.fd.group g).shedAt ∧ t.fd.gb (F.FSUP_GRP_STAT_SHEDDING g) = true) ∧
  (∀ (s : State) (g : Group) (n : Nat) (q : List Nat), s.up → (s.fd.group g).queue = n :: q → n < 32 → 
     Answers (exec (.releaseStep g) s) fun t => (t.fd.group g).queue = q ∧ t.fd.gb (F.TERM_SS_STAT_UV n) = false ∧ t.fd.cfg = s.fd.cfg) ∧
  (∀ (s : State), s.up → s.fd.wdArmed = true → 
     Answers (exec (.barrierWatchdogExpiry) s) fun t => t.fd.wdArmed = false ∧ t.fd.gb F.FSUP_BWSTAT_EXPIRED = true ∧ t.fd.gb F.FSUP_BWSTAT_RELEASE = (s.fd.paired && s.fd.lead) ∧ (∀ n : Terminal, isOut (s.fd.func n) = true → t.fd.gb (F.TERM_SS_STAT_BARRIER n) = true) ∧ t.ld.gb ⟨R.EVT_RAW R.pageFSUP, 16, 1⟩ = true) ∧
  (∀ (s : State) (ctr : Word) (n : Terminal) (on : Bool), s.up → s.ld.bar.cmds = [] → s.ld.bar.pages = [] → s.ld.takes ctr (R.TERM_SS_FORCE n) (word (b2n on)) → isOut (s.fd.func n) = true → 
     Answers (exec (.ssForceWrite (some ctr) n on) s) fun t => t.ld.host.ferr = false ∧
         t.fd.gb (F.TERM_SS_STAT_FORCE n) = on ∧ t.fd.cb (F.TERM_SS_FORCE_FORCE n) = on)

/-- The reflex matrix, the current and heat budget, and self-calibration (R223, R224, R226, R227, R229, R230, R237, R239, R240) -/
def Obligations.ReflexBudgetRows : Prop :=
  (∀ (s : State) (r : Rule), s.up → s.fd.configured = true → s.fd.cb (F.REFLEX_RULE_C_EN r) = true → s.fd.ruleActive r = true → s.fd.ruleCond r = false → s.fd.cb (F.REFLEX_RULE_C_LATCH r) = false → 
     Answers (exec (.reflexEvaluation) s) fun t => t.fd.ruleActive r = false ∧ nbit t.fd.ruleHeld r = false ∧ t.fd.cfg = s.fd.cfg) ∧
  (∀ (s : State) (r : Rule), s.up → s.fd.configured = true → s.fd.cb (F.REFLEX_RULE_C_EN r) = true → nbit s.fd.ruleHeld r = true → s.fd.ruleCond r = true → s.fd.ruleActive r = false → 
     Answers (exec (.reflexRuleActive r) s) fun t => t.fd.ruleActive r = true ∧ t.fd.g ⟨R.REFLEX_FIRES, 0, 16⟩ = min 65535 (s.fd.g ⟨R.REFLEX_FIRES, 0, 16⟩ + 1) ∧ t.ld.gb ⟨R.EVT_RAW R.pageREFLEX, 0, 1⟩ = true ∧ t.fd.cfg = s.fd.cfg) ∧
  (∀ (s : State) (ctr : Word) (hi : Bool) (w : Word) (k : Fin 32), s.up → s.ld.bar.cmds = [] → s.ld.bar.pages = [] → s.ld.takes ctr (if hi then R.REFLEX_CLR_HI else R.REFLEX_CLR_LO) (w) → wbit w k = true → s.fd.cb (F.REFLEX_RULE_C_LATCH (k + 32 * b2n hi)) = true → 
     Answers (exec (.reflexLatchClear (some ctr) hi w) s) fun t => t.ld.host.ferr = false ∧
         t.fd.ruleActive (k + 32 * b2n hi) = false ∧ nbit t.fd.ruleHeld (k + 32 * b2n hi) = false ∧ t.fd.cfg = s.fd.cfg) ∧
  (∀ (s : State) (b : Budget), s.up → 
     Answers (exec (.budgetSum b) s) fun t => t.fd.g F.FSUP_PKG_CURR_CURRENT = min 65535 b.total ∧ (∀ g : Fin 4, t.fd.g (F.FSUP_GRP_CURR_CURRENT g) = min 65535 (b.curr.getD g 0)) ∧ (t.fd.gb F.FSUP_PKG_STAT_OVER_I = true ↔ overCurrent (s.fd.bound .package) b.total b.totalPeak = true ∨ .package ∈ s.fd.provoked ∨ ∃ g : Fin 4, overCurrent (s.fd.bound (.group g)) (b.curr.getD g 0) (b.peak.getD g 0) = true) ∧ t.fd.terms = s.fd.terms) ∧
  (∀ (s : State) (n : Nat) (v : Nat), s.up → s.fd.gov.above = [(Limit.package, v)] → s.fd.bound .package < v → s.fd.c F.FSUP_PKG_CFG_ACTION = 1 → s.fd.nextShed .package = some n → 
     Answers (exec (.governorShedStep) s) fun t => (t.fd.term n).dout.gov = true ∧ t.fd.gov.holds = (n, .package) :: s.fd.gov.holds ∧ t.fd.cfg = s.fd.cfg) ∧
  (∀ (s : State) (n : Nat) (l : Limit) (q : List (Nat × Limit)), s.up → s.fd.gov.holds = (n, l) :: q → s.fd.gov.above = [] → 
     Answers (exec (.governorRelease) s) fun t => t.fd.gov.holds = q ∧ (t.fd.term n).dout.gov = false ∧ t.fd.cfg = s.fd.cfg) ∧
  (∀ (s : State) (sl : Slice) (temp : Int), s.up → s.fd.calDue sl = false → s.fd.dueNow sl temp = true → 
     Answers (exec (.calDue sl temp) s) fun t => t.fd.calDue sl = true ∧ t.fd.g F.CAL_TEMP_TEMP = unsigned 16 temp ∧ t.fd.cal = s.fd.cal ∧ t.fd.cfg = s.fd.cfg) ∧
  (∀ (s : State) (ctr : Word) (sl : Slice) (pause : Bool), s.up → s.ld.bar.cmds = [] → s.ld.bar.pages = [] → s.ld.takes ctr (R.CAL_RUN) (word (sl.val + 256 * b2n pause)) → s.hostField.calRefused sl pause = false → (s.fd.slice sl).role = .check → (s.fd.g F.SLICE_ROT_STAT_PHASE = 1 ∨ s.fd.g F.SLICE_ROT_STAT_PHASE = 2) → 
     Answers (exec (.calRun (some ctr) (Fin.ofNat 32 sl.val) pause) s) fun t => t.ld.host.ferr = false ∧
         t.fd.cal.wanted = s.fd.cal.wanted ++ [sl.val] ∧ t.fd.cal.running = s.fd.cal.running ∧ t.fd.cfg = s.fd.cfg) ∧
  (∀ (s : State) (k : Nat) (x : CalResult), s.up → k < 32 → s.fd.cal.running = some k → s.fd.diagRuns = true → x.selfTest = 0 → s.fd.rot.failNext.contains k = false → s.fd.cal.failOfs = false → s.fd.cal.failPath = false → (∀ r : Fin 6, ∃ v, s.fd.foundGain r (x.plus.getD r 0) (x.minus.getD r 0) = some v ∧ s.fd.calOff k r (x.zero.getD r 0) v = false) → (s.fd.gb F.CAL_STAT_PATH_SKIPPED = true ∨ s.fd.pathPasses x = true) → 
     Answers (exec (.selfCalDone x) s) fun t => t.fd.g F.CAL_STAT_RESULT = 1 ∧ t.fd.cal.running = none ∧ t.fd.g F.CAL_COUNT_DONE = min (2 ^ F.CAL_COUNT_DONE.len - 1) (s.fd.g F.CAL_COUNT_DONE + 1) ∧ (∀ r : Fin 6, (t.fd.selfCal k r).valid = true ∧ (t.fd.selfCal k r).ofs = x.zero.getD r 0 ∧ some (t.fd.selfCal k r).gain = s.fd.foundGain r (x.plus.getD r 0) (x.minus.getD r 0))) ∧
  (∀ (s : State) (k : Nat) (x : CalResult), s.up → s.fd.cal.running = some k → s.fd.diagRuns = true → x.selfTest = 0 → s.fd.rot.failNext.contains k = false → (∃ r : Fin 6, ∀ v, s.fd.foundGain r (x.plus.getD r 0) (x.minus.getD r 0) = some v → s.fd.calOff k r (x.zero.getD r 0) v = true) → (s.fd.slice k).role = .selftest → s.fd.rot.stage = .calCheck → 
     Answers (exec (.selfCalDone x) s) fun t => t.fd.g F.CAL_STAT_RESULT = 2 ∧ t.fd.g F.CAL_COUNT_REJECT = min (2 ^ F.CAL_COUNT_REJECT.len - 1) (s.fd.g F.CAL_COUNT_REJECT + 1) ∧ t.fd.cal.values = s.fd.cal.values ∧ (t.fd.slice k).role = .retired)

/-- Slices: triggers, dwells, self-tests, moves, strikes, detectors and the cold spare (R104, R105, R108, R109, R110, R111, R112, R113, R115) -/
def Obligations.SliceRows : Prop :=
  (∀ (s : State) (phase : Fin 16) (x : Trigger) (q : List Trigger), s.up → s.fd.trigs = x :: q → 
     Answers (exec (.triggerTakesEffect phase) s) fun t => t.fd.trigs = q ∧ (nbit x.groups 0 = true → t.fd.syncout = some s.fd.time) ∧ (∀ g : Fin 4, nbit x.groups g = true → s.fd.cb (F.SLICE_GRP_ARM g) = true → nbit t.fd.trigSeen g = true)) ∧
  (∀ (s : State), s.up → s.fd.diagRuns = true → s.fd.rot.stage = .dwell → s.fd.g F.SLICE_ROT_STAT_PHASE = 2 → s.fd.dwellFails = false → 
     Answers (exec (.dwellEnd) s) fun t => t.fd.g F.SLICE_ROT_COUNT_DWELLS = min (2 ^ F.SLICE_ROT_COUNT_DWELLS.len - 1) (s.fd.g F.SLICE_ROT_COUNT_DWELLS + 1) ∧ t.fd.cfg = s.fd.cfg) ∧
  (∀ (s : State) (k : Nat), s.up → s.fd.diagRuns = true → s.fd.rot.stage = .dwell → s.fd.g F.SLICE_ROT_STAT_PHASE = 2 → s.fd.dwellFails = true → s.fd.checkSlice = some k → 
     Answers (exec (.dwellEnd) s) fun t => t.fd.g F.SLICE_ROT_COUNT_DISAGREE = min (2 ^ F.SLICE_ROT_COUNT_DISAGREE.len - 1) (s.fd.g F.SLICE_ROT_COUNT_DISAGREE + 1) ∧ (t.fd.slice k).role = .selftest ∧ t.fd.rot.stage = .checkTest ∧ t.fd.rot.subject = k) ∧
  (∀ (s : State) (sl : Slice) (dev : Fin 65536), s.up → s.fd.rot.subject = sl → (s.fd.slice sl).role = .selftest → s.fd.diagRuns = true → s.fd.rot.stage = .checkTest → s.fd.cb (F.CTRL_EN (R.pageSLICE sl)) = true → s.fd.rot.failNext.contains sl.val = false → 
     Answers (exec (.sliceSelftestDone sl 0 dev) s) fun t => (t.fd.slice sl).role = .check ∧ (t.fd.slice sl).lastTest = 1 ∧ (t.fd.slice sl).gainDev = dev ∧ t.fd.rot.stage = .rejoin) ∧
  (∀ (s : State) (sl : Slice) (dev : Fin 65536), s.up → s.fd.rot.subject = sl → (s.fd.slice sl).role = .selftest → s.fd.diagRuns = true → s.fd.rot.stage = .checkTest → s.fd.cb (F.CTRL_EN (R.pageSLICE sl)) = false → s.fd.rot.failNext.contains sl.val = false → 
     Answers (exec (.sliceSelftestDone sl 0 dev) s) fun t => (t.fd.slice sl).role = .check ∧ (t.fd.slice sl).lastTest = 1 ∧ (t.fd.slice sl).gainDev = dev ∧ t.fd.g F.SLICE_ROT_STAT_PHASE = 6) ∧
  (∀ (s : State) (sl : Slice) (fail : Fin 4) (dev : Fin 65536), s.up → s.fd.rot.subject = sl → (s.fd.slice sl).role = .selftest → s.fd.diagRuns = true → s.fd.rot.stage = .checkTest → (fail.val = 1 ∨ fail.val = 3) → 
     Answers (exec (.sliceSelftestDone sl fail dev) s) fun t => (t.fd.slice sl).role = .retired ∧ t.ld.gb ⟨R.EVT_RAW (R.pageSLICE sl), 1, 1⟩ = true) ∧
  (∀ (s : State) (p : Prog) (m : Nat × Nat), s.up → s.fd.seqRuns = true → s.fd.rot.moves.find? (fun m => m.1 == p.val) = some m → s.fd.progSlice p ≠ some m.2 → 
     Answers (exec (.migration p) s) fun t => (t.fd.slice m.2).role = .active ∧ (t.fd.slice m.2).prog = p ∧ (t.fd.slice m.2).progValid = true ∧ (∀ k, s.fd.progSlice p = some k → (t.fd.slice k).role = .retired)) ∧
  (∀ (s : State) (sl : Slice), s.up → 
     Answers (exec (.strikeExpiry sl) s) fun t => (t.fd.slice sl).strikes = (s.fd.slice sl).strikes.dropLast ∧ (t.fd.slice sl).role = (s.fd.slice sl).role ∧ t.fd.cfg = s.fd.cfg) ∧
  (∀ (s : State) (sl : Slice) (stuck : Bool), s.up → ((s.fd.slice sl).role = .check ∨ (s.fd.slice sl).role = .selftest) → s.fd.rot.moves = [] → s.fd.rot.power = none → 
     Answers (exec (.sliceDetectorFires sl stuck) s) fun t => t.fd.gb (if stuck then F.SLICE_MODSTAT_STUCK sl else F.SLICE_MODSTAT_INSTABLE sl) = true ∧ (t.fd.slice sl).role = .retired ∧ t.ld.gb ⟨R.EVT_RAW (R.pageSLICE sl), if stuck then 5 else 4, 1⟩ = true) ∧
  (∀ (s : State) (sl : Slice) (p : Nat), s.up → s.fd.rot.power = some (sl.val, some p) → s.fd.seqRuns = true → s.fd.progSlice p ≠ some sl.val → 
     Answers (exec (.coldSpareConnected sl) s) fun t => (t.fd.slice sl).role = .active ∧ (t.fd.slice sl).prog = p ∧ t.fd.rot.power = none)

/-- Stage-1 outputs, settled samples, ranges, and urgent requests (R116, R117, R123, R136, R139, R149, R155, R236) -/
def Obligations.SampleRows : Prop :=
  (∀ (s : State) (sl : Slice) (p : Prog) (c : Ctx) (i : Int) (q : Int) (sat : Bool), s.up → (s.fd.slice sl).role = .active → s.fd.follows sl = some p.val → (s.fd.slice sl).on = true → (s.fd.slice sl).blanked = false → (s.fd.slice sl).restart = false → (s.fd.slice sl).restartRef = false → s.fd.prog p = { s.fd.prog p with conn := some c.val, endDue := false, tmo := false } → s.fd.pstate p ≠ 6 → s.fd.cb (F.CTRL_EN (R.pageCTX c)) = true → s.fd.blanks c = false → s.fd.gateHeld c = false → 
     Answers (exec (.stage1Output sl i q sat) s) fun t => (t.fd.slice sl).p1 = (s.fd.slice sl).p1 + 1 ∧ (t.fd.slice sl).histI.head? = some (clamp24 i) ∧ (t.fd.slice sl).histS.head? = some sat ∧ t.fd.cfg = s.fd.cfg) ∧
  (∀ (s : State) (sl : Slice) (p : Prog) (o : ChainOut) (q : List ChainOut), s.up → (s.fd.slice sl).role = .active → s.fd.follows sl = some p.val → (s.fd.slice sl).outs = o :: q → s.fd.noRatio o.ctx = false → s.fd.shadowed sl = false → (s.fd.ctx o.ctx).win.count + 1 < 0xFFFFFF → ((s.fd.ctx o.ctx).wcfg.byTime = true ∨ (s.fd.ctx o.ctx).win.count + 1 < (s.fd.ctx o.ctx).wcfg.len) → 
     Answers (exec (.settledSample sl) s) fun t => (t.fd.slice sl).outs = q ∧ (t.fd.ctx o.ctx).win.count = (s.fd.ctx o.ctx).win.count + 1 ∧ (t.fd.ctx o.ctx).win.sum = (s.fd.ctx o.ctx).win.sum + s.fd.calCode o.ctx (s.fd.calExact sl o.ctx o.x) ∧ t.fd.cfg = s.fd.cfg) ∧
  (∀ (s : State) (sl : Slice) (c : Ctx) (r : Fin 7), s.up → (s.fd.slice sl).pend = some (c.val, r.val) → 
     Answers (exec (.rangeSwitch sl) s) fun t => t.fd.rangeAct c = r ∧ (t.fd.slice sl).pend = none ∧ (s.fd.rangeAct c ≠ r.val → nbit (t.fd.ctx c).win.flags 7 = true) ∧ t.fd.cfg = s.fd.cfg) ∧
  (∀ (s : State) (ctr : Word) (w : Word), s.up → s.ld.bar.cmds = [] → s.ld.bar.pages = [] → s.ld.takes ctr (R.SLICE_URGREQ) (w) → s.hostField.urgentOk (wbits w 0 4) (wbits w 8 7) = true → 
     Answers (exec (.urgentRequest (some ctr) w) s) fun t => t.ld.host.ferr = false ∧
         t.fd.urgReqs = s.fd.urgReqs ++ [(wbits w 0 4, wbits w 8 7, if wbits w 16 12 = 0 then 4096 else wbits w 16 12)] ∧ t.fd.g F.SLICE_URGSTAT_PROG = wbits w 0 4 ∧ t.fd.g F.SLICE_URGSTAT_CTX = wbits w 8 7) ∧
  (∀ (s : State) (early : Bool) (p : Prog) (c : Ctx) (n : Nat) (q : List (Nat × Nat × Nat)), s.up → s.fd.urgReqs = (p.val, c.val, n) :: q → s.fd.progRuns p = true → s.fd.ctxSlice c = none → s.fd.rot.moves = [] → (s.fd.pstate p = 4 ∨ s.fd.pstate p = 1 ∧ early = true) → 
     Answers (exec (.urgentRequestArrival early) s) fun t => (q = [] → s.fd.urgOver = false → t.fd.g F.SLICE_URGSTAT_RESULT = 1) ∧ t.fd.urgReqs = q ∧ (t.fd.prog p).conn = some c.val ∧ (t.fd.prog p).urg.map (·.ctx) = some c.val ∧ (t.fd.prog p).urg.map (·.left) = some n ∧ t.fd.pstate p = 5) ∧
  (∀ (s : State) (early : Bool) (p : Prog) (c : Ctx) (n : Nat) (q : List (Nat × Nat × Nat)), s.up → s.fd.urgReqs = (p.val, c.val, n) :: q → s.fd.progRuns p = false → 
     Answers (exec (.urgentRequestArrival early) s) fun t => (q = [] → s.fd.urgOver = false → t.fd.g F.SLICE_URGSTAT_RESULT = 2) ∧ t.fd.urgReqs = q ∧ t.fd.progs = s.fd.progs) ∧
  (∀ (s : State) (p : Prog) (u : Urgent) (sl : Slice), s.up → (s.fd.prog p).urg = some u → u.waiting = false → (s.fd.prog p).endDue = true → s.fd.pstate p = 5 → s.fd.progRuns p = true → s.fd.progSlice p = some sl.val → s.fd.cb (F.CTRL_EN (R.pageCTX (s.fd.entryCtx (s.fd.g (F.SEQ_PSTAT_ENTRY p))))) = true → 
     Answers (exec (.urgentEntryEnd p) s) fun t => (t.fd.prog p).urg = none ∧ t.fd.g (F.SEQ_PSTAT_ENTRY p) = s.fd.g (F.SEQ_PSTAT_ENTRY p) ∧ t.fd.g (F.SLICE_URGCOUNT_URG_DONE sl) = min (2 ^ (F.SLICE_URGCOUNT_URG_DONE sl).len - 1) (s.fd.g (F.SLICE_URGCOUNT_URG_DONE sl) + 1))

/-- The sequencer's boundaries and time-outs, and windows that close by time (R14, R141, R142, R143, R145, R152, R156, R157) -/
def Obligations.SequencerWindowRows : Prop :=
  (∀ (s : State) (p : Prog), s.up → (s.fd.prog p).urg = none → s.fd.progRuns p = true → s.fd.pstate p ≠ 6 → s.fd.boundaryDue p = true → s.fd.cb (F.SEQTAB_W0_SYNC_WAIT (s.fd.nextEntry p (s.fd.g (F.SEQ_PSTAT_ENTRY p)))) = false → s.fd.cb (F.CTRL_EN (R.pageCTX (s.fd.entryCtx (s.fd.nextEntry p (s.fd.g (F.SEQ_PSTAT_ENTRY p)))))) = true → 
     Answers (exec (.entryBoundary p) s) fun t => t.fd.g (F.SEQ_PSTAT_ENTRY p) = s.fd.nextEntry p (s.fd.g (F.SEQ_PSTAT_ENTRY p)) ∧ (t.fd.prog p).conn = some (s.fd.entryCtx (s.fd.nextEntry p (s.fd.g (F.SEQ_PSTAT_ENTRY p)))) ∧ (t.fd.prog p).endDue = false ∧ t.fd.img.word (R.SEQ_LOOPS p) = (if s.fd.cb (F.SEQTAB_W0_LOOP_END (s.fd.g (F.SEQ_PSTAT_ENTRY p))) ∨ 511 ≤ s.fd.g (F.SEQ_PSTAT_ENTRY p) then s.fd.img.word (R.SEQ_LOOPS p) + 1#32 else s.fd.img.word (R.SEQ_LOOPS p))) ∧
  (∀ (s : State) (p : Prog) (sl : Slice), s.up → s.fd.pstate p = 1 → s.fd.progSlice p = some sl.val → 
     Answers (exec (.predelayEnd p) s) fun t => (t.fd.prog p).preDone = true ∧ t.fd.pstate p = (if (s.fd.slice sl).gate then 3 else 2) ∧ t.fd.slices = s.fd.slices) ∧
  (∀ (s : State) (p : Prog), s.up → s.fd.progRuns p = true → s.fd.c (F.SEQ_PROG_TMO p) ≠ 0 → (s.fd.pstate p = 1 ∨ s.fd.pstate p = 2 ∨ s.fd.pstate p = 3) → (s.fd.prog p).tmo = false → 
     Answers (exec (.entryTimeout p) s) fun t => (t.fd.prog p).tmo = true ∧ t.fd.g F.SEQ_TMOCOUNT_PROG = p ∧ t.ld.gb ⟨R.EVT_RAW R.pageSEQ, 1, 1⟩ = true ∧ t.fd.cfg = s.fd.cfg) ∧
  (∀ (s : State) (g : Group), s.up → s.fd.groupReady g = true → 
     Answers (exec (.groupBoundary g) s) fun t => nbit t.fd.trigSeen g = false ∧ t.ld.gb ⟨R.EVT_RAW R.pageSEQ, 2, 1⟩ = true ∧ (∀ p ∈ s.fd.countedProgs g, t.fd.pstate p ≠ 4 ∧ (t.fd.prog p).off = false) ∧ t.fd.cfg = s.fd.cfg) ∧
  (∀ (s : State) (c : Ctx), s.up → s.fd.configured = true → s.fd.cb (F.CTX_CFG_VALID c) = true → (s.fd.ctx c).timeDue s.fd.time = true → (s.fd.ctx c).win.held = false → s.fd.snapq.length < 512 → 
     Answers (exec (.windowCloseByTime c) s) fun t => (t.fd.ctx c).seq = ((s.fd.ctx c).seq + 1) % 2 ^ 32 ∧ (t.fd.ctx c).win.count = 0 ∧ (t.fd.ctx c).win.held = false ∧ t.fd.snapq.length = s.fd.snapq.length + 1 ∧ (t.fd.snapq.getLast?.map (·.count)) = some (s.fd.ctx c).win.count ∧ t.fd.cfg = s.fd.cfg) ∧
  (∀ (s : State) (c : Ctx), s.up → s.fd.configured = true → s.fd.cb (F.CTX_CFG_VALID c) = true → (s.fd.ctx c).timeDue s.fd.time = true → (s.fd.ctx c).win.held = false → 512 ≤ s.fd.snapq.length → s.fd.silent = false → 
     Answers (exec (.windowCloseByTime c) s) fun t => (t.fd.ctx c).win.held = true ∧ t.fd.snapq = s.fd.snapq ∧ (t.fd.ctx c).seq = (s.fd.ctx c).seq) ∧
  (∀ (s : State) (c : Ctx), s.up → (s.fd.ctx c).win.held = true → s.fd.snapq.length < 512 → 
     Answers (exec (.windowCloseDeferred c) s) fun t => (t.fd.ctx c).seq = ((s.fd.ctx c).seq + 1) % 2 ^ 32 ∧ (t.fd.ctx c).win.count = 0 ∧ (t.fd.ctx c).win.held = false ∧ t.fd.snapq.length = s.fd.snapq.length + 1 ∧ (t.fd.snapq.getLast?.map (·.count)) = some (s.fd.ctx c).win.count ∧ (t.fd.snapq.getLast?.map fun x => nbit x.flags 7) = some true)

/-- The queue of waiting commands is the model's (log entry 1). (00_scope.md, opcode_table.json) -/
def Obligations.StepRunsFront : Prop :=
  ∀ (s : State) (c : Instr) (q : List Instr), s.pending = c :: q → step s = exec c { s with pending := q }

/-- That an idle step is a tick is the model's choice (log entry 2). (R21, R57, R59, R189, R195, R328, R341, R342, R361, R362) -/
def Obligations.IdleStepTicks : Prop :=
  (∀ s : State, s.pending = [] → Answers (step s) fun t => t.pending = [] ∧ t.fd.cfg = s.fd.cfg ∧
     (s.ld.bar.pages.head? ≠ some R.pageCLOCK → t.fd.SameMeasure s.fd) ∧
     t.fd.mode = s.fd.mode ∧ t.ld.mode = s.ld.mode ∧ t.ld.linkUp = s.ld.linkUp ∧ t.ld.boot = s.ld.boot ∧ t.ld.host = s.ld.host ∧
     t.fd.time = (if s.fd.released then s.fd.time + 1 else s.fd.time) ∧ (s.ld.boot.main < 4 → t.ld.time = s.ld.time) ∧
     (4 ≤ s.ld.boot.main → -steerMax ≤ s.ld.pair.steer → ((t.ld.time * 2 ^ 32 + t.ld.frac : Nat) : Int) =
       (s.ld.time * 2 ^ 32 + s.ld.frac : Nat) + 2 ^ 32 + s.ld.pair.steer + (if s.ld.mode = .follow then 0 else (s.ld.regs.word R.DEVICE_TRIM).toInt))) ∧
  (∀ s t : State, -steerMax ≤ s.ld.pair.steer ∧ s.ld.pair.steer ≤ steerMax → step s = .next t →
     -steerMax ≤ t.ld.pair.steer ∧ t.ld.pair.steer ≤ steerMax) ∧
  (∀ s : State, s.pending = [] → s.ld.linkUp = true → s.told = true → s.ld.ownNext = false → (∀ n : Terminal, isDo (s.fd.func n) = false) →
     s.fd.partAt = none → s.ld.pair.pleadOff = none → s.ld.pair.handover = none →
     Answers (step s) fun t => t.fd = { s.fd with time := t.fd.time } ∧
       t.ld = { (if s.ld.boot.main < 4 then s.ld else s.ld.gen R.pageDEVICE) with time := t.ld.time, frac := t.ld.frac }) ∧
  (∀ (s : State) (n : Terminal), s.pending = [] → s.up → isDo (s.fd.func n) = true → s.fd.gb (F.TERM_DO_STAT_ON n) = true →
     (∀ m : Terminal, (s.fd.term m).dout.pend = false) →
     (s.fd.term n).dout.onAt + s.fd.c (F.TERM_DO_PROT_FOLD_T n) * doTicksMs < s.fd.time + 1 → s.fd.partAt = none →
     Answers (step s) fun t => t.fd.gb (F.TERM_DO_STAT_OVERLOAD n) = false ∧ t.fd.gb (F.TERM_DO_STAT_ON n) = true) ∧
  (∀ (s : State) (n : Terminal), s.pending = [] → s.up → s.fd.paired = false → s.fd.cb (F.TERM_DO_CFG_TIE_EN n) = false →
     s.fd.pulses n = true → (∀ m : Terminal, (s.fd.term m).dout.pend = true ↔ m = n) →
     ({ s.fd with time := s.fd.time + 1 } : Field).pulseBlocked n = false → s.fd.partAt = none →
     Answers (step s) fun t => t.fd.gb (F.TERM_DO_STAT_ON n) = false ∧ (t.fd.term n).dout.pend = false ∧
       (t.fd.gb (F.TERM_DO_STAT_TESTING n) = true ∨ (t.fd.term n).level = none)) ∧
  (∀ (s : State) (o : Nat), s.pending = [] → s.up → s.fd.partAt = some o → o ≤ s.fd.time + 1 →
     Answers (step s) fun t => t.fd.joined = false ∧ t.fd.bothShunts = false ∧ t.fd.dropped = 0 ∧ t.fd.partAt = none) ∧
  (∀ (s : State) (o : Nat), s.pending = [] → s.ld.pair.pleadOff = some o → s.ld.pair.handover = none →
     Answers (step s) fun t => if o ≤ t.ld.time then t.ld.gb F.PAIR_STAT_PLEAD_OUT = false ∧ t.ld.pair.pleadOff = none
       else t.ld.pair.pleadOff = some o)

/-- Every command answers a next state and leaves the queue of waiting commands alone (00_scope.md, opcode_table.json) -/
def Obligations.EveryCommandAnswers : Prop :=
  (∀ (i : Instr) (s : State), Answers (exec i s) fun t => t.pending = s.pending) ∧
  (∀ (s : State) (c : Instr) (q : List Instr), s.pending = c :: q → Answers (step s) fun t => t.pending = q)

/-- What reset leaves: BOOT, time 0, the link down, every register at its reset value, nothing waiting (R30, R34, R41, R361, R421) -/
def Obligations.ResetState : Prop :=
  (State.reset.pending = [] ∧ State.reset.ld.mode = .boot ∧ State.reset.fd.mode = .boot ∧ State.reset.ld.time = 0 ∧
     State.reset.ld.linkUp = false ∧ State.reset.fd.released = false ∧ State.reset.ld.sess.cur = none ∧
     (∀ a, State.reset.ld.regs.word a = if a = R.DEVICE_RSTCAUSE then 1#32 else resetWord (regHome a)) ∧
     (∀ a, State.reset.fd.cfg.word a = resetWord (regHome a)) ∧ (∀ a, State.reset.fd.img.word a = resetWord (regHome a))) ∧
  (State.reset.told = true ∧ State.reset.wf ∧ State.reset.ld.mram.labelled)

/-- Messages of the field die reach the logic die at once while the link is up: the model's timing (log entry 6). (R9, R373, R378) -/
def Obligations.ToldInvariant : Prop :=
  ∀ s t : State, s.told = true → step s = .next t → t.told = true

/-- No step lets FLOOR or BOOT_EPOCH fall, or two crate slots carry one label (R311, R315, R278, R289) -/
def Obligations.MramInvariant : Prop :=
  ∀ s t : State, step s = .next t → Mram.keeps s.ld.mram t.ld.mram

/-- Commands of the field die reach nothing of the logic die but what its messages can change (R8, R9, R22, R28, R43) -/
def Obligations.FieldRowsLeaveLogicDie : Prop :=
  ∀ (i : Instr) (s t : State), i.onFieldDie = true → exec i s = .next t →
     (s.fd.released = false → t = s) ∧ (s.ld.linkUp = true → t.ld.SameBut s.ld) ∧
     (s.ld.linkUp = false → t.ld = s.ld ∨ ∃ k, t.ld = s.resetField.ld.put F.DEVICE_RSTCAUSE_FAULT_ID k)

/-- Commands of the logic die alone leave the field die as it is (R7, R8, R22) -/
def Obligations.LogicRowsLeaveFieldDie : Prop :=
  ∀ (i : Instr) (s t : State), i.onLogicDie = true → exec i s = .next t → t.fd = s.fd ∧ t.ld.linkUp = s.ld.linkUp

/-- Frames that read, ask or stage change no block, no mode, no key and no crate slot (R27, R248, R251, R253, R254, R283, R299) -/
def Obligations.AskingFramesFrame : Prop :=
  ∀ (i : Instr) (s t : State), i.onlyAsks = true → exec i s = .next t →
     { t.fd with out := s.fd.out } = s.fd ∧ t.ld.mode = s.ld.mode ∧ t.ld.time = s.ld.time ∧ t.ld.linkUp = s.ld.linkUp ∧
     t.ld.boot = s.ld.boot ∧ t.ld.cores = s.ld.cores ∧ t.ld.mem = s.ld.mem ∧ t.ld.bar = s.ld.bar ∧ t.ld.clocks = s.ld.clocks ∧
     t.ld.cellar = s.ld.cellar ∧ t.ld.faults = s.ld.faults ∧ t.ld.sess.cur = s.ld.sess.cur ∧ t.ld.sess.old = s.ld.sess.old ∧
     t.ld.mram = { s.ld.mram with larder := t.ld.mram.larder }

/-- A plain WRITE reaches OPEN registers only: no session register, no output, no mode, no key changes (R4, R27, R246, R283) -/
def Obligations.PlainWriteReach : Prop :=
  ∀ (a : Addr) (ws : List Word) (s t : State), s.told = true → exec (.write a ws) s = .next t →
     (∀ x r, regRow x = some r → r.cls ≠ .open_ → t.ld.regs.word x = s.ld.regs.word x) ∧
     (∀ x, x ≠ R.CAL_SEL → t.fd.cfg.word x = s.fd.cfg.word x) ∧ { t.fd with cfg := s.fd.cfg, out := s.fd.out } = s.fd ∧
     t.ld.mode = s.ld.mode ∧ t.ld.sess.cur = s.ld.sess.cur ∧ t.ld.sess.old = s.ld.sess.old ∧ t.ld.mram = s.ld.mram ∧
     t.ld.boot = s.ld.boot ∧ t.ld.cores = s.ld.cores ∧ t.ld.cellar = s.ld.cellar ∧ t.ld.wdog = s.ld.wdog ∧ t.ld.time = s.ld.time

/-- A command of a cell, a digital input or a switched output changes its own terminal and the one tied to it only (R61, R74, R175, R180, R186, R196) -/
def Obligations.TerminalRowsFrame : Prop :=
  (∀ (i : Instr) (n : Nat) (s t : State), i.atTerminal = some n → s.up → exec i s = .next t →
     t.fd.cfg = s.fd.cfg ∧ ({ t.fd with exc := s.fd.exc } : Field).SameMeasure s.fd ∧ t.fd.mode = s.fd.mode ∧ t.fd.steps = s.fd.steps ∧
     t.fd.groups = s.fd.groups ∧ t.fd.gov = s.fd.gov ∧ t.fd.ruleHeld = s.fd.ruleHeld ∧ t.ld.SameBut s.ld ∧
     ∀ m, s.fd.c (F.TERM_DO_CFG_TIE n) = m →
       (∀ k, k ≠ n → k ≠ m → t.fd.term k = s.fd.term k) ∧
       (∀ x, x / 256 ≠ R.pageTERM n → x / 256 ≠ R.pageTERM m → x / 256 ≠ R.pageEXC →
         (x / 256 = R.pageFSUP → ∀ k, i ≠ .funcChangeSettle k) → t.fd.img.word x = s.fd.img.word x ∧ (x / 256 ≠ R.pageLARDER → t.ld.regs.word x = s.ld.regs.word x))) ∧
  (∀ (i : Instr) (n : Nat) (s t : State), i.atTerminal = some n → s.up → exec i s = .next t →
     ((∃ mv, i = .diSample ⟨n % 32, by omega⟩ mv) → s.fd.cb (F.TERM_DI_CFG_BLANK_SRC n) = false) → (∀ k, i ≠ .funcChangeSettle k) →
     t.fd.exc = s.fd.exc ∧ ∀ x, x / 256 = R.pageEXC → t.fd.img.word x = s.fd.img.word x ∧ t.ld.regs.word x = s.ld.regs.word x)

/-- A command of an analogue output or a step supply changes its own group of eight terminals only (R206, R207, R210, R211, R212) -/
def Obligations.AnalogueRowsFrame : Prop :=
  ∀ (i : Instr) (g : Nat) (s t : State), i.atGroup = some g → s.up → exec i s = .next t →
     t.fd.cfg = s.fd.cfg ∧ t.fd.SameMeasure s.fd ∧ t.fd.mode = s.fd.mode ∧ t.fd.groups = s.fd.groups ∧ t.fd.gov = s.fd.gov ∧
     t.fd.ruleHeld = s.fd.ruleHeld ∧ t.ld.SameBut s.ld ∧ (∀ k, k ≠ g → t.fd.step k = s.fd.step k) ∧
     (∀ k, k / 8 ≠ g → t.fd.term k = s.fd.term k) ∧
     (∀ x, (∀ k, k / 8 = g ∨ (∃ p, (s.fd.step g).plan = some p ∧ ∃ m ∈ p.moves, m.1 = k) → x / 256 ≠ R.pageTERM k) → t.fd.img.word x = s.fd.img.word x ∧ t.ld.regs.word x = s.ld.regs.word x)

/-- Measuring never moves an output: sources, slices, the sequencer, samples and windows leave the output side alone (R22, R27, R74, R181, R218) -/
def Obligations.MeasurementRowsFrame : Prop :=
  ∀ (i : Instr) (s t : State), i.measures = true → s.ld.linkUp = true → exec i s = .next t →
     ({ t.fd with terms := s.fd.terms } : Field).SameOutputs s.fd ∧ (∀ k, { t.fd.term k with di := (s.fd.term k).di } = s.fd.term k) ∧
     (i ≠ .blankLineRelease → (∀ n, i ≠ .blankLineAssert (some n)) → t.fd.terms = s.fd.terms)

/-- Driving outputs never touches a measurement: terminals, supplies and reflexes leave the measurement side alone (R74, R180, R181, R186, R218, R227) -/
def Obligations.OutputRowsFrame : Prop :=
  ∀ (i : Instr) (s t : State), i.drives = true → s.ld.linkUp = true → exec i s = .next t →
     ({ t.fd with exc := s.fd.exc } : Field).SameMeasure s.fd ∧ t.fd.cfg = s.fd.cfg ∧ t.fd.mode = s.fd.mode ∧
     ((∀ n mv, i ≠ .diSample n mv) → (∀ n, i ≠ .funcChangeSettle n) → t.fd.exc = s.fd.exc)

/-- Sources, references and blanking show on the EXC page only and leave programmes and windows to their own commands (R80, R85, R90, R92, R94) -/
def Obligations.ExcitationRowsFrame : Prop :=
  ∀ (i : Instr) (s t : State), i.ofExcitation = true → s.ld.linkUp = true → exec i s = .next t →
     t.fd.cfg = s.fd.cfg ∧ t.fd.progs = s.fd.progs ∧ t.fd.trigs = s.fd.trigs ∧ t.fd.rot = s.fd.rot ∧ t.fd.cal = s.fd.cal ∧
     t.fd.snapq = s.fd.snapq ∧ t.fd.urgReqs = s.fd.urgReqs ∧ t.fd.commits = s.fd.commits ∧
     (∀ x, x / 256 ≠ R.pageEXC → t.fd.img.word x = s.fd.img.word x)

/-- Reads and writes of reserved offsets and pages (R50) -/
def Obligations.ReservedAddresses : Prop :=
  (∀ (s : State) (a : Addr), s.told = true → s.ld.serves = true → regRow a = none → pageKind (a.val / 256) ≠ .reserved → 
     Answers (exec (.read a 1 false) s) fun t => t.ld.host.reply = [0#32] ∧ t.ld.host.ferr = false) ∧
  (∀ (s : State) (a : Addr) (w : Word), s.told = true → s.ld.serves = true → regRow a = none → pageKind (a.val / 256) ≠ .reserved → 
     Answers (exec (.write a [w]) s) fun t => t.ld.host.ferr = false ∧ { t.fd with out := s.fd.out } = s.fd ∧
         ∀ x, x / 256 ≠ R.pageHOST → t.ld.regs.word x = s.ld.regs.word x) ∧
  (∀ (s : State) (c : Word) (a : Addr) (w : Word) (hit : Bool), s.told = true → s.ld.serves = true → s.ld.accepts c = true → regRow a = none → pageKind (a.val / 256) ≠ .reserved → 
     Answers (exec (.registerWrite (some c) a w hit) s) fun t => t.ld.host.ferr = false ∧ { t.fd with out := s.fd.out } = s.fd ∧
         ∀ x, x / 256 ≠ R.pageHOST → t.ld.regs.word x = s.ld.regs.word x) ∧
  (∀ (s : State) (a : Addr), s.told = true → s.ld.serves = true → pageKind (a.val / 256) = .reserved → 
     Answers (exec (.read a 1 false) s) fun t => t.ld.host.reply = [0#32] ∧ t.ld.host.ferr = true ∧ t.ld.g F.HOST_ERR_REASON = 2) ∧
  (∀ (s : State) (a : Addr) (w : Word), s.told = true → s.ld.serves = true → pageKind (a.val / 256) = .reserved → 
     Answers (exec (.write a [w]) s) fun t => t.ld.host.ferr = true ∧ t.ld.g F.HOST_ERR_REASON = 2 ∧ { t.fd with out := s.fd.out } = s.fd ∧
         ∀ x, x / 256 ≠ R.pageHOST → t.ld.regs.word x = s.ld.regs.word x) ∧
  (∀ (s : State) (c : Word) (a : Addr) (w : Word) (hit : Bool), s.told = true → s.ld.serves = true → s.ld.accepts c = true → pageKind (a.val / 256) = .reserved → 
     Answers (exec (.registerWrite (some c) a w hit) s) fun t => t.ld.host.ferr = true ∧ t.ld.g F.HOST_ERR_REASON = 2 ∧ { t.fd with out := s.fd.out } = s.fd ∧
         ∀ x, x / 256 ≠ R.pageHOST → t.ld.regs.word x = s.ld.regs.word x)

/-- What the native port answers before mode entry (R35) -/
def Obligations.FramesBeforeModeEntry : Prop :=
  (∀ (i : Instr) (s t : State), i.hostFrame = true → s.told = true → s.ld.boot.logic = 0 → exec i s = .next t →
     t = { s with fd := { s.fd with out := t.fd.out } }) ∧
  (∀ (i : Instr) (s t : State), i.hostFrame = true → i.wf = true → s.told = true → s.ld.mode = .boot → s.ld.answers = true →
     exec i s = .next t → i.servedInBoot = false → t.ld.host.ferr = true) ∧
  (∀ (s : State) (extra : Bool), s.told = true → s.ld.mode = .boot → s.ld.answers = true → 
     Answers (exec (.statusFrame extra) s) fun t => t.ld.host.status = s.ld.statusByte ∧ t.ld.host.reply = [word s.ld.openFrame.summary] ∧ t.ld.host.ferr = false) ∧
  (∀ (s : State) (extra : Bool), s.told = true → s.ld.mode = .boot → s.ld.answers = true → 
     Answers (exec (.nopFrame extra) s) fun t => t.ld.host.status = s.ld.statusByte ∧ t.ld.host.ferr = false) ∧
  (∀ (s : State) (a : Addr) (n : Nat), s.told = true → s.ld.mode = .boot → s.ld.answers = true → 0 < n → a.val + n ≤ 256 → 
     Answers (exec (.read a n false) s) fun t => t.ld.host.status = s.ld.statusByte ∧ t.ld.host.reply = (List.range n).map (fun i => (s.onLd Logic.openFrame).readWord (a.val + i)) ∧ t.ld.host.ferr = false) ∧
  (∀ l : Logic, l.mode = .boot → l.statusByte % 8 = 0 ∧ nbit l.statusByte 7 = false)

/-- SNAP_READ answers GEN and the eighteen snapshot words of one state, or all ones at any other address (R253) -/
def Obligations.SnapReadRule : Prop :=
  (∀ (s : State) (c : Ctx) (extra : Bool), s.told = true → s.ld.serves = true → 
     Answers (exec (.snapRead (Fin.ofNat 65536 (R.CTX_SEQ c)) false extra) s) fun t => t.ld.host.reply = s.readWord (R.GEN (R.pageCTX c)) :: (List.range 18).map (fun i => s.readWord (R.CTX_SEQ c + i)) ∧
         t.ld.host.ferr = false) ∧
  (∀ (s : State) (a : Addr) (extra : Bool), s.told = true → s.ld.serves = true → (∀ c : Ctx, a.val ≠ R.CTX_SEQ c) → 
     Answers (exec (.snapRead a false extra) s) fun t => t.ld.host.reply = List.replicate 19 0xFFFFFFFF#32 ∧ t.ld.host.ferr = true ∧ t.ld.g F.HOST_ERR_REASON = 10)

/-- The load-current check of a switch that is on: OPEN_WIRE follows IMIN (R193) -/
def Obligations.IminRule : Prop :=
  (∀ (s : State) (n : Terminal), s.up → isDo (s.fd.func n) = true → (s.fd.term n).catch_ = .none → s.fd.gb (F.TERM_DO_STAT_ON n) = true → s.fd.c (F.TERM_DO_DIAG_IMIN n) ≠ 0 → 
     Answers (exec (.iminLow n true) s) fun t => t.fd.gb (F.TERM_DO_STAT_OPEN_WIRE n) = true ∧ (s.fd.gb (F.TERM_DO_STAT_OPEN_WIRE n) = false → t.ld.gb ⟨R.EVT_RAW (R.pageTERM n), 15, 1⟩ = true)) ∧
  (∀ (s : State) (n : Terminal), s.up → isDo (s.fd.func n) = true → (s.fd.term n).catch_ = .none → s.fd.gb (F.TERM_DO_STAT_ON n) = true → s.fd.c (F.TERM_DO_DIAG_IMIN n) ≠ 0 → 
     Answers (exec (.iminLow n false) s) fun t => t.fd.gb (F.TERM_DO_STAT_OPEN_WIRE n) = false) ∧
  (∀ (s : State) (n : Terminal) (low : Bool), s.up → isDo (s.fd.func n) = true → (s.fd.term n).catch_ = .none → (s.fd.gb (F.TERM_DO_STAT_ON n) = false ∨ s.fd.c (F.TERM_DO_DIAG_IMIN n) = 0) → 
     Answers (exec (.iminLow n low) s) fun t => t = s)

/-- A forerunner's write of CH_CFG changes nothing (R274) -/
def Obligations.LegacyCfgRule : Prop :=
  (∀ (s : State) (more : Nat) (n : Fin 16) (data : Fin 65536), s.told = true → s.ld.legacyUp = true → s.ld.host.short = false → s.ld.mode ≠ .boot → 16 ≤ more → data.val = s.legacyCfg n → 
     Answers (exec (.legacyChCfgWrite more n data) s) fun t => { t.fd with out := s.fd.out } = s.fd ∧ t.ld.host.legacyNext % 65536 = data ∧ t.ld.host.mismatches = s.ld.host.mismatches ∧
         t.ld.host.ferr = s.ld.host.ferr ∧ ∀ x, x / 256 ≠ R.pageHOST → t.ld.regs.word x = s.ld.regs.word x) ∧
  (∀ (s : State) (more : Nat) (n : Fin 16) (data : Fin 65536), s.told = true → s.ld.legacyUp = true → s.ld.host.short = false → s.ld.mode ≠ .boot → 16 ≤ more → data.val ≠ s.legacyCfg n → 
     Answers (exec (.legacyChCfgWrite more n data) s) fun t => { t.fd with out := s.fd.out } = s.fd ∧ t.ld.host.legacyNext % 65536 = s.legacyCfg n % 65536 ∧
         t.ld.host.mismatches = min 1023 (s.ld.host.mismatches + 1) ∧ t.ld.host.ferr = true ∧ t.ld.g F.HOST_ERR_REASON = 15 ∧ ∀ x, x / 256 ≠ R.pageHOST → t.ld.regs.word x = s.ld.regs.word x)

/-- A configuration with more than sixteen analogue outputs is refused at validation; up to sixteen, no check of their number fails (R64) -/
def Obligations.AnalogueOutputLimit : Prop :=
  (∀ (s : State), s.told = true → s.ld.crateState = stValidating → s.ld.crate.mine = false → 16 < (allTerms.filter fun n => isAo ((({ cfg := crateConfig s.ld.regs s.ld.crate.words } : Field)).c (F.TERM_CELL_FUNC n))).length → 
     Answers (exec (.crateValidationComplete) s) fun t => t.ld.crateState = stIdle ∧ t.ld.g F.DEVICE_CRATE_STAT_REASON = 9 ∧ t.ld.gb F.DEVICE_CRATE_STAT_LAST_OK = false ∧ t.ld.mram = s.ld.mram) ∧
  (∀ (f : Field) (bad : List Nat) (live : Option RegFile),
     (allTerms.filter fun n => isAo (f.c (F.TERM_CELL_FUNC n))).length ≤ 16 → ∀ v ∈ f.xptFails bad live, v.reason ≠ 9)
end

