-- ==== Sys2Proof/Laws/Host.lean ====
section
/-! SUPPORT. What a host frame can do, said once: the four ways it ends, the one-word frames and what judges a word. -/

namespace Sys2Proof.Machine

open Sys2Proof

/-- With the port down or under the other protocol a frame changes nothing. -/
theorem State.frame_down (op addr : Nat) (extra : Bool) (act : State → List (Nat × Nat) × State) (s : State) (device : Bool)
    (h : s.ld.portUp = false) : s.frame op addr extra act device = s := by
  simp [State.frame, h]

/-- INJECT's mark makes a frame short right after its STATUS phase, and its error is provoked (R53, R257, R265). -/
theorem State.frame_marked (op addr : Nat) (extra : Bool) (act : State → List (Nat × Nat) × State) (s : State) (device : Bool)
    (h : s.ld.portUp = true) (hs : (s.onLd Logic.openFrame).ld.host.short = true) :
    s.frame op addr extra act device = (s.onLd Logic.openFrame).onLd fun l =>
      ({ l with host := { l.host with short := false, provoked := true } }).frameError op (l.headCauses op addr device ++ [(4, addr)]) := by
  unfold State.frame
  rw [if_neg (by simp [h]), if_pos hs]

/-- A frame that is refused as a whole is an error for each of its reasons and does nothing else (R260). -/
theorem State.frame_stopped (op addr : Nat) (extra : Bool) (act : State → List (Nat × Nat) × State) (s : State) (device : Bool)
    (r : Nat) (rs : List Nat) (h : s.ld.portUp = true) (hs : (s.onLd Logic.openFrame).ld.host.short = false)
    (hr : (s.onLd Logic.openFrame).ld.stops op device = r :: rs) (hb : (s.onLd Logic.openFrame).ld.boot.logic ≠ 0) :
    s.frame op addr extra act device = (s.onLd Logic.openFrame).onLd fun l =>
      (l.frameError op ((r :: rs).map fun r => (r, addr))).when extra Logic.extraEdges := by
  unfold State.frame
  rw [if_neg (by simp [h]), if_neg (by simp [hs])]
  simp only [hr, Bool.false_eq_true, if_false, List.append_nil]
  rw [if_neg hb]

/-- A frame that is served acts; what ends it in error counts, and extra edges after it (R258, R261). -/
theorem State.frame_served (op addr : Nat) (extra : Bool) (act : State → List (Nat × Nat) × State) (s t : State) (device : Bool)
    (cs : List (Nat × Nat)) (h : s.ld.portUp = true) (hs : (s.onLd Logic.openFrame).ld.host.short = false)
    (hr : (s.onLd Logic.openFrame).ld.stops op device = []) (ha : act (s.onLd Logic.openFrame) = (cs, t))
    (hb : t.ld.boot.logic ≠ 0) :
    s.frame op addr extra act device = t.onLd fun l => (l.frameError op cs).when extra Logic.extraEdges := by
  unfold State.frame
  rw [if_neg (by simp [h]), if_neg (by simp [hs])]
  simp only [hr, ha]
  rw [if_neg hb]

/-- A frame whose action resets the logic die ends there (R40). -/
theorem State.frame_reset (op addr : Nat) (extra : Bool) (act : State → List (Nat × Nat) × State) (s t : State) (device : Bool)
    (cs : List (Nat × Nat)) (h : s.ld.portUp = true) (hs : (s.onLd Logic.openFrame).ld.host.short = false)
    (hr : (s.onLd Logic.openFrame).ld.stops op device = []) (ha : act (s.onLd Logic.openFrame) = (cs, t))
    (hb : t.ld.boot.logic = 0) : s.frame op addr extra act device = t := by
  unfold State.frame
  rw [if_neg (by simp [h]), if_neg (by simp [hs])]
  simp only [hr, ha]
  rw [if_pos hb]

/-- A one-word frame without a counter is a WRITE. -/
@[simp] theorem State.oneWord_plain (a : Nat) (w : Word) (act : Option Session → State → List (Nat × Nat) × State) (s : State) :
    s.oneWord none a w act = s.frame opWrite a false (act none) := rfl

/-- A word on a reserved page ends its frame in error and changes nothing (R50). -/
theorem State.commitWord_reserved (ses : Option Session) (a : Nat) (w again : Word) (hit : Bool) (s : State)
    (h : pageKind (a / 256) = .reserved) : s.commitWord ses a w again hit = ([(2, a)], s) := by
  simp [State.commitWord, h]

/-- A word for an address without a register, or for a read-only one, does nothing and is no error (R4, R48). -/
theorem State.judgeWord_idle (ses : Option Session) (a : Nat) (w again : Word) (hit : Bool) (s : State)
    (h : ∀ r, regRow a = some r → r.acc = .ro) : s.judgeWord ses a w again hit = s.did := by
  unfold State.judgeWord
  cases hr : regRow a with
  | none => rfl
  | some r => simp [h r hr]

/-- A word that its class, its page's lock or its encoding bars is refused and changes nothing (R4, R5, R54). -/
theorem State.judgeWord_barred (ses : Option Session) (a : Nat) (w again : Word) (hit : Bool) (s : State) (r : RegRow) (k : Nat)
    (hr : regRow a = some r) (hro : r.acc ≠ .ro) (hk : s.ld.barred ses a w r = some k) :
    s.judgeWord ses a w again hit = s.deny k := by
  simp [State.judgeWord, hr, hro, hk]

/-- A refused word is counted in its page's CLASS and is an error of the frame (R54). -/
theorem State.commitWord_refused (ses : Option Session) (a : Nat) (w again : Word) (hit : Bool) (s t : State) (r : Nat)
    (hp : pageKind (a / 256) ≠ .reserved) (hj : s.judgeWord ses a w again hit = (.refused r, t)) :
    s.commitWord ses a w again hit = ([(1, a)], t.onLd (Logic.countRefusal a r)) := by
  simp [State.commitWord, hp, hj]

/-- A word that is carried out is no error. -/
theorem State.commitWord_done (ses : Option Session) (a : Nat) (w again : Word) (hit : Bool) (s t : State)
    (hp : pageKind (a / 256) ≠ .reserved) (hj : s.judgeWord ses a w again hit = (.done, t)) :
    s.commitWord ses a w again hit = ([], t) := by
  simp [State.commitWord, hp, hj]

end Sys2Proof.Machine
end

