-- ==== Sys2Proof/Laws/State.lean ====
section
/-! SUPPORT. What each named update of the two dies leaves as it was: one lemma per field per update, and the operations that are
one of these updates with an argument filled in. -/

namespace Sys2Proof.Machine

open Sys2Proof

/-! `Field.put`. -/

@[simp] theorem Field.put_released (f : Field) (x : Fld) (v : Nat) : (f.put x v).released = f.released := rfl
@[simp] theorem Field.put_configured (f : Field) (x : Fld) (v : Nat) : (f.put x v).configured = f.configured := rfl
@[simp] theorem Field.put_mode (f : Field) (x : Fld) (v : Nat) : (f.put x v).mode = f.mode := rfl
@[simp] theorem Field.put_paired (f : Field) (x : Fld) (v : Nat) : (f.put x v).paired = f.paired := rfl
@[simp] theorem Field.put_lead (f : Field) (x : Fld) (v : Nat) : (f.put x v).lead = f.lead := rfl
@[simp] theorem Field.put_wdArmed (f : Field) (x : Fld) (v : Nat) : (f.put x v).wdArmed = f.wdArmed := rfl
@[simp] theorem Field.put_handover (f : Field) (x : Fld) (v : Nat) : (f.put x v).handover = f.handover := rfl
@[simp] theorem Field.put_quiet (f : Field) (x : Fld) (v : Nat) : (f.put x v).quiet = f.quiet := rfl
@[simp] theorem Field.put_report (f : Field) (x : Fld) (v : Nat) : (f.put x v).report = f.report := rfl
@[simp] theorem Field.put_rolesDown (f : Field) (x : Fld) (v : Nat) : (f.put x v).rolesDown = f.rolesDown := rfl
@[simp] theorem Field.put_cfg (f : Field) (x : Fld) (v : Nat) : (f.put x v).cfg = f.cfg := rfl
@[simp] theorem Field.put_out (f : Field) (x : Fld) (v : Nat) : (f.put x v).out = f.out := rfl
@[simp] theorem Field.put_time (f : Field) (x : Fld) (v : Nat) : (f.put x v).time = f.time := rfl
@[simp] theorem Field.put_draws (f : Field) (x : Fld) (v : Nat) : (f.put x v).draws = f.draws := rfl
@[simp] theorem Field.put_ctxs (f : Field) (x : Fld) (v : Nat) : (f.put x v).ctxs = f.ctxs := rfl
@[simp] theorem Field.put_slices (f : Field) (x : Fld) (v : Nat) : (f.put x v).slices = f.slices := rfl
@[simp] theorem Field.put_progs (f : Field) (x : Fld) (v : Nat) : (f.put x v).progs = f.progs := rfl
@[simp] theorem Field.put_trigs (f : Field) (x : Fld) (v : Nat) : (f.put x v).trigs = f.trigs := rfl
@[simp] theorem Field.put_trigSeen (f : Field) (x : Fld) (v : Nat) : (f.put x v).trigSeen = f.trigSeen := rfl
@[simp] theorem Field.put_syncout (f : Field) (x : Fld) (v : Nat) : (f.put x v).syncout = f.syncout := rfl
@[simp] theorem Field.put_tdacFault (f : Field) (x : Fld) (v : Nat) : (f.put x v).tdacFault = f.tdacFault := rfl
@[simp] theorem Field.put_onFrc (f : Field) (x : Fld) (v : Nat) : (f.put x v).onFrc = f.onFrc := rfl
@[simp] theorem Field.put_frcBad (f : Field) (x : Fld) (v : Nat) : (f.put x v).frcBad = f.frcBad := rfl
@[simp] theorem Field.put_recBad (f : Field) (x : Fld) (v : Nat) : (f.put x v).recBad = f.recBad := rfl
@[simp] theorem Field.put_degraded (f : Field) (x : Fld) (v : Nat) : (f.put x v).degraded = f.degraded := rfl
@[simp] theorem Field.put_returnAt (f : Field) (x : Fld) (v : Nat) : (f.put x v).returnAt = f.returnAt := rfl
@[simp] theorem Field.put_urgReqs (f : Field) (x : Fld) (v : Nat) : (f.put x v).urgReqs = f.urgReqs := rfl
@[simp] theorem Field.put_urgOver (f : Field) (x : Fld) (v : Nat) : (f.put x v).urgOver = f.urgOver := rfl
@[simp] theorem Field.put_rolesBack (f : Field) (x : Fld) (v : Nat) : (f.put x v).rolesBack = f.rolesBack := rfl
@[simp] theorem Field.put_diagGone (f : Field) (x : Fld) (v : Nat) : (f.put x v).diagGone = f.diagGone := rfl
@[simp] theorem Field.put_veto (f : Field) (x : Fld) (v : Nat) : (f.put x v).veto = f.veto := rfl
@[simp] theorem Field.put_deferred (f : Field) (x : Fld) (v : Nat) : (f.put x v).deferred = f.deferred := rfl
@[simp] theorem Field.put_rot (f : Field) (x : Fld) (v : Nat) : (f.put x v).rot = f.rot := rfl
@[simp] theorem Field.put_cal (f : Field) (x : Fld) (v : Nat) : (f.put x v).cal = f.cal := rfl
@[simp] theorem Field.put_snapq (f : Field) (x : Fld) (v : Nat) : (f.put x v).snapq = f.snapq := rfl
@[simp] theorem Field.put_exc (f : Field) (x : Fld) (v : Nat) : (f.put x v).exc = f.exc := rfl
@[simp] theorem Field.put_terms (f : Field) (x : Fld) (v : Nat) : (f.put x v).terms = f.terms := rfl
@[simp] theorem Field.put_steps (f : Field) (x : Fld) (v : Nat) : (f.put x v).steps = f.steps := rfl
@[simp] theorem Field.put_groups (f : Field) (x : Fld) (v : Nat) : (f.put x v).groups = f.groups := rfl
@[simp] theorem Field.put_ruleHeld (f : Field) (x : Fld) (v : Nat) : (f.put x v).ruleHeld = f.ruleHeld := rfl
@[simp] theorem Field.put_gov (f : Field) (x : Fld) (v : Nat) : (f.put x v).gov = f.gov := rfl
@[simp] theorem Field.put_commits (f : Field) (x : Fld) (v : Nat) : (f.put x v).commits = f.commits := rfl
@[simp] theorem Field.put_resets (f : Field) (x : Fld) (v : Nat) : (f.put x v).resets = f.resets := rfl
@[simp] theorem Field.put_shutting (f : Field) (x : Fld) (v : Nat) : (f.put x v).shutting = f.shutting := rfl
@[simp] theorem Field.put_seqsLost (f : Field) (x : Fld) (v : Nat) : (f.put x v).seqsLost = f.seqsLost := rfl
@[simp] theorem Field.put_joined (f : Field) (x : Fld) (v : Nat) : (f.put x v).joined = f.joined := rfl
@[simp] theorem Field.put_ramp (f : Field) (x : Fld) (v : Nat) : (f.put x v).ramp = f.ramp := rfl
@[simp] theorem Field.put_dropped (f : Field) (x : Fld) (v : Nat) : (f.put x v).dropped = f.dropped := rfl
@[simp] theorem Field.put_noticed (f : Field) (x : Fld) (v : Nat) : (f.put x v).noticed = f.noticed := rfl
@[simp] theorem Field.put_notices (f : Field) (x : Fld) (v : Nat) : (f.put x v).notices = f.notices := rfl
@[simp] theorem Field.put_tn (f : Field) (x : Fld) (v : Nat) : (f.put x v).tn = f.tn := rfl
@[simp] theorem Field.put_tnMax (f : Field) (x : Fld) (v : Nat) : (f.put x v).tnMax = f.tnMax := rfl
@[simp] theorem Field.put_tnMoves (f : Field) (x : Fld) (v : Nat) : (f.put x v).tnMoves = f.tnMoves := rfl
@[simp] theorem Field.put_partnerShunts (f : Field) (x : Fld) (v : Nat) : (f.put x v).partnerShunts = f.partnerShunts := rfl
@[simp] theorem Field.put_bothShunts (f : Field) (x : Fld) (v : Nat) : (f.put x v).bothShunts = f.bothShunts := rfl
@[simp] theorem Field.put_partAt (f : Field) (x : Fld) (v : Nat) : (f.put x v).partAt = f.partAt := rfl
@[simp] theorem Field.put_crateHash (f : Field) (x : Fld) (v : Nat) : (f.put x v).crateHash = f.crateHash := rfl
@[simp] theorem Field.put_crateHead (f : Field) (x : Fld) (v : Nat) : (f.put x v).crateHead = f.crateHead := rfl
@[simp] theorem Field.put_at_c (f : Field) (x : Fld) (v : Nat) (y : Fld) : (f.put x v).c y = f.c y := rfl
@[simp] theorem Field.put_at_cb (f : Field) (x : Fld) (v : Nat) (y : Fld) : (f.put x v).cb y = f.cb y := rfl
@[simp] theorem Field.put_at_term (f : Field) (x : Fld) (v : Nat) (k : Nat) : (f.put x v).term k = f.term k := rfl
@[simp] theorem Field.put_at_step (f : Field) (x : Fld) (v : Nat) (k : Nat) : (f.put x v).step k = f.step k := rfl
@[simp] theorem Field.put_at_group (f : Field) (x : Fld) (v : Nat) (k : Nat) : (f.put x v).group k = f.group k := rfl
@[simp] theorem Field.put_at_ctx (f : Field) (x : Fld) (v : Nat) (k : Nat) : (f.put x v).ctx k = f.ctx k := rfl
@[simp] theorem Field.put_at_slice (f : Field) (x : Fld) (v : Nat) (k : Nat) : (f.put x v).slice k = f.slice k := rfl
@[simp] theorem Field.put_at_prog (f : Field) (x : Fld) (v : Nat) (k : Nat) : (f.put x v).prog k = f.prog k := rfl

/-! `Field.bump`. -/

@[simp] theorem Field.bump_released (f : Field) (x : Fld) : (f.bump x).released = f.released := rfl
@[simp] theorem Field.bump_configured (f : Field) (x : Fld) : (f.bump x).configured = f.configured := rfl
@[simp] theorem Field.bump_mode (f : Field) (x : Fld) : (f.bump x).mode = f.mode := rfl
@[simp] theorem Field.bump_paired (f : Field) (x : Fld) : (f.bump x).paired = f.paired := rfl
@[simp] theorem Field.bump_lead (f : Field) (x : Fld) : (f.bump x).lead = f.lead := rfl
@[simp] theorem Field.bump_wdArmed (f : Field) (x : Fld) : (f.bump x).wdArmed = f.wdArmed := rfl
@[simp] theorem Field.bump_handover (f : Field) (x : Fld) : (f.bump x).handover = f.handover := rfl
@[simp] theorem Field.bump_quiet (f : Field) (x : Fld) : (f.bump x).quiet = f.quiet := rfl
@[simp] theorem Field.bump_report (f : Field) (x : Fld) : (f.bump x).report = f.report := rfl
@[simp] theorem Field.bump_rolesDown (f : Field) (x : Fld) : (f.bump x).rolesDown = f.rolesDown := rfl
@[simp] theorem Field.bump_cfg (f : Field) (x : Fld) : (f.bump x).cfg = f.cfg := rfl
@[simp] theorem Field.bump_out (f : Field) (x : Fld) : (f.bump x).out = f.out := rfl
@[simp] theorem Field.bump_time (f : Field) (x : Fld) : (f.bump x).time = f.time := rfl
@[simp] theorem Field.bump_draws (f : Field) (x : Fld) : (f.bump x).draws = f.draws := rfl
@[simp] theorem Field.bump_ctxs (f : Field) (x : Fld) : (f.bump x).ctxs = f.ctxs := rfl
@[simp] theorem Field.bump_slices (f : Field) (x : Fld) : (f.bump x).slices = f.slices := rfl
@[simp] theorem Field.bump_progs (f : Field) (x : Fld) : (f.bump x).progs = f.progs := rfl
@[simp] theorem Field.bump_trigs (f : Field) (x : Fld) : (f.bump x).trigs = f.trigs := rfl
@[simp] theorem Field.bump_trigSeen (f : Field) (x : Fld) : (f.bump x).trigSeen = f.trigSeen := rfl
@[simp] theorem Field.bump_syncout (f : Field) (x : Fld) : (f.bump x).syncout = f.syncout := rfl
@[simp] theorem Field.bump_tdacFault (f : Field) (x : Fld) : (f.bump x).tdacFault = f.tdacFault := rfl
@[simp] theorem Field.bump_onFrc (f : Field) (x : Fld) : (f.bump x).onFrc = f.onFrc := rfl
@[simp] theorem Field.bump_frcBad (f : Field) (x : Fld) : (f.bump x).frcBad = f.frcBad := rfl
@[simp] theorem Field.bump_recBad (f : Field) (x : Fld) : (f.bump x).recBad = f.recBad := rfl
@[simp] theorem Field.bump_degraded (f : Field) (x : Fld) : (f.bump x).degraded = f.degraded := rfl
@[simp] theorem Field.bump_returnAt (f : Field) (x : Fld) : (f.bump x).returnAt = f.returnAt := rfl
@[simp] theorem Field.bump_urgReqs (f : Field) (x : Fld) : (f.bump x).urgReqs = f.urgReqs := rfl
@[simp] theorem Field.bump_urgOver (f : Field) (x : Fld) : (f.bump x).urgOver = f.urgOver := rfl
@[simp] theorem Field.bump_rolesBack (f : Field) (x : Fld) : (f.bump x).rolesBack = f.rolesBack := rfl
@[simp] theorem Field.bump_diagGone (f : Field) (x : Fld) : (f.bump x).diagGone = f.diagGone := rfl
@[simp] theorem Field.bump_veto (f : Field) (x : Fld) : (f.bump x).veto = f.veto := rfl
@[simp] theorem Field.bump_deferred (f : Field) (x : Fld) : (f.bump x).deferred = f.deferred := rfl
@[simp] theorem Field.bump_rot (f : Field) (x : Fld) : (f.bump x).rot = f.rot := rfl
@[simp] theorem Field.bump_cal (f : Field) (x : Fld) : (f.bump x).cal = f.cal := rfl
@[simp] theorem Field.bump_snapq (f : Field) (x : Fld) : (f.bump x).snapq = f.snapq := rfl
@[simp] theorem Field.bump_exc (f : Field) (x : Fld) : (f.bump x).exc = f.exc := rfl
@[simp] theorem Field.bump_terms (f : Field) (x : Fld) : (f.bump x).terms = f.terms := rfl
@[simp] theorem Field.bump_steps (f : Field) (x : Fld) : (f.bump x).steps = f.steps := rfl
@[simp] theorem Field.bump_groups (f : Field) (x : Fld) : (f.bump x).groups = f.groups := rfl
@[simp] theorem Field.bump_ruleHeld (f : Field) (x : Fld) : (f.bump x).ruleHeld = f.ruleHeld := rfl
@[simp] theorem Field.bump_gov (f : Field) (x : Fld) : (f.bump x).gov = f.gov := rfl
@[simp] theorem Field.bump_commits (f : Field) (x : Fld) : (f.bump x).commits = f.commits := rfl
@[simp] theorem Field.bump_resets (f : Field) (x : Fld) : (f.bump x).resets = f.resets := rfl
@[simp] theorem Field.bump_shutting (f : Field) (x : Fld) : (f.bump x).shutting = f.shutting := rfl
@[simp] theorem Field.bump_seqsLost (f : Field) (x : Fld) : (f.bump x).seqsLost = f.seqsLost := rfl
@[simp] theorem Field.bump_joined (f : Field) (x : Fld) : (f.bump x).joined = f.joined := rfl
@[simp] theorem Field.bump_ramp (f : Field) (x : Fld) : (f.bump x).ramp = f.ramp := rfl
@[simp] theorem Field.bump_dropped (f : Field) (x : Fld) : (f.bump x).dropped = f.dropped := rfl
@[simp] theorem Field.bump_noticed (f : Field) (x : Fld) : (f.bump x).noticed = f.noticed := rfl
@[simp] theorem Field.bump_notices (f : Field) (x : Fld) : (f.bump x).notices = f.notices := rfl
@[simp] theorem Field.bump_tn (f : Field) (x : Fld) : (f.bump x).tn = f.tn := rfl
@[simp] theorem Field.bump_tnMax (f : Field) (x : Fld) : (f.bump x).tnMax = f.tnMax := rfl
@[simp] theorem Field.bump_tnMoves (f : Field) (x : Fld) : (f.bump x).tnMoves = f.tnMoves := rfl
@[simp] theorem Field.bump_partnerShunts (f : Field) (x : Fld) : (f.bump x).partnerShunts = f.partnerShunts := rfl
@[simp] theorem Field.bump_bothShunts (f : Field) (x : Fld) : (f.bump x).bothShunts = f.bothShunts := rfl
@[simp] theorem Field.bump_partAt (f : Field) (x : Fld) : (f.bump x).partAt = f.partAt := rfl
@[simp] theorem Field.bump_crateHash (f : Field) (x : Fld) : (f.bump x).crateHash = f.crateHash := rfl
@[simp] theorem Field.bump_crateHead (f : Field) (x : Fld) : (f.bump x).crateHead = f.crateHead := rfl
@[simp] theorem Field.bump_at_c (f : Field) (x : Fld) (y : Fld) : (f.bump x).c y = f.c y := rfl
@[simp] theorem Field.bump_at_cb (f : Field) (x : Fld) (y : Fld) : (f.bump x).cb y = f.cb y := rfl
@[simp] theorem Field.bump_at_term (f : Field) (x : Fld) (k : Nat) : (f.bump x).term k = f.term k := rfl
@[simp] theorem Field.bump_at_step (f : Field) (x : Fld) (k : Nat) : (f.bump x).step k = f.step k := rfl
@[simp] theorem Field.bump_at_group (f : Field) (x : Fld) (k : Nat) : (f.bump x).group k = f.group k := rfl
@[simp] theorem Field.bump_at_ctx (f : Field) (x : Fld) (k : Nat) : (f.bump x).ctx k = f.ctx k := rfl
@[simp] theorem Field.bump_at_slice (f : Field) (x : Fld) (k : Nat) : (f.bump x).slice k = f.slice k := rfl
@[simp] theorem Field.bump_at_prog (f : Field) (x : Fld) (k : Nat) : (f.bump x).prog k = f.prog k := rfl

/-! `Field.forget`. -/

@[simp] theorem Field.forget_released (f : Field) (p : Nat → Bool) : (f.forget p).released = f.released := rfl
@[simp] theorem Field.forget_configured (f : Field) (p : Nat → Bool) : (f.forget p).configured = f.configured := rfl
@[simp] theorem Field.forget_mode (f : Field) (p : Nat → Bool) : (f.forget p).mode = f.mode := rfl
@[simp] theorem Field.forget_paired (f : Field) (p : Nat → Bool) : (f.forget p).paired = f.paired := rfl
@[simp] theorem Field.forget_lead (f : Field) (p : Nat → Bool) : (f.forget p).lead = f.lead := rfl
@[simp] theorem Field.forget_wdArmed (f : Field) (p : Nat → Bool) : (f.forget p).wdArmed = f.wdArmed := rfl
@[simp] theorem Field.forget_handover (f : Field) (p : Nat → Bool) : (f.forget p).handover = f.handover := rfl
@[simp] theorem Field.forget_quiet (f : Field) (p : Nat → Bool) : (f.forget p).quiet = f.quiet := rfl
@[simp] theorem Field.forget_report (f : Field) (p : Nat → Bool) : (f.forget p).report = f.report := rfl
@[simp] theorem Field.forget_rolesDown (f : Field) (p : Nat → Bool) : (f.forget p).rolesDown = f.rolesDown := rfl
@[simp] theorem Field.forget_cfg (f : Field) (p : Nat → Bool) : (f.forget p).cfg = f.cfg := rfl
@[simp] theorem Field.forget_out (f : Field) (p : Nat → Bool) : (f.forget p).out = f.out := rfl
@[simp] theorem Field.forget_time (f : Field) (p : Nat → Bool) : (f.forget p).time = f.time := rfl
@[simp] theorem Field.forget_draws (f : Field) (p : Nat → Bool) : (f.forget p).draws = f.draws := rfl
@[simp] theorem Field.forget_ctxs (f : Field) (p : Nat → Bool) : (f.forget p).ctxs = f.ctxs := rfl
@[simp] theorem Field.forget_slices (f : Field) (p : Nat → Bool) : (f.forget p).slices = f.slices := rfl
@[simp] theorem Field.forget_progs (f : Field) (p : Nat → Bool) : (f.forget p).progs = f.progs := rfl
@[simp] theorem Field.forget_trigs (f : Field) (p : Nat → Bool) : (f.forget p).trigs = f.trigs := rfl
@[simp] theorem Field.forget_trigSeen (f : Field) (p : Nat → Bool) : (f.forget p).trigSeen = f.trigSeen := rfl
@[simp] theorem Field.forget_syncout (f : Field) (p : Nat → Bool) : (f.forget p).syncout = f.syncout := rfl
@[simp] theorem Field.forget_tdacFault (f : Field) (p : Nat → Bool) : (f.forget p).tdacFault = f.tdacFault := rfl
@[simp] theorem Field.forget_onFrc (f : Field) (p : Nat → Bool) : (f.forget p).onFrc = f.onFrc := rfl
@[simp] theorem Field.forget_frcBad (f : Field) (p : Nat → Bool) : (f.forget p).frcBad = f.frcBad := rfl
@[simp] theorem Field.forget_recBad (f : Field) (p : Nat → Bool) : (f.forget p).recBad = f.recBad := rfl
@[simp] theorem Field.forget_degraded (f : Field) (p : Nat → Bool) : (f.forget p).degraded = f.degraded := rfl
@[simp] theorem Field.forget_returnAt (f : Field) (p : Nat → Bool) : (f.forget p).returnAt = f.returnAt := rfl
@[simp] theorem Field.forget_urgReqs (f : Field) (p : Nat → Bool) : (f.forget p).urgReqs = f.urgReqs := rfl
@[simp] theorem Field.forget_urgOver (f : Field) (p : Nat → Bool) : (f.forget p).urgOver = f.urgOver := rfl
@[simp] theorem Field.forget_rolesBack (f : Field) (p : Nat → Bool) : (f.forget p).rolesBack = f.rolesBack := rfl
@[simp] theorem Field.forget_diagGone (f : Field) (p : Nat → Bool) : (f.forget p).diagGone = f.diagGone := rfl
@[simp] theorem Field.forget_veto (f : Field) (p : Nat → Bool) : (f.forget p).veto = f.veto := rfl
@[simp] theorem Field.forget_deferred (f : Field) (p : Nat → Bool) : (f.forget p).deferred = f.deferred := rfl
@[simp] theorem Field.forget_rot (f : Field) (p : Nat → Bool) : (f.forget p).rot = f.rot := rfl
@[simp] theorem Field.forget_cal (f : Field) (p : Nat → Bool) : (f.forget p).cal = f.cal := rfl
@[simp] theorem Field.forget_snapq (f : Field) (p : Nat → Bool) : (f.forget p).snapq = f.snapq := rfl
@[simp] theorem Field.forget_exc (f : Field) (p : Nat → Bool) : (f.forget p).exc = f.exc := rfl
@[simp] theorem Field.forget_terms (f : Field) (p : Nat → Bool) : (f.forget p).terms = f.terms := rfl
@[simp] theorem Field.forget_steps (f : Field) (p : Nat → Bool) : (f.forget p).steps = f.steps := rfl
@[simp] theorem Field.forget_groups (f : Field) (p : Nat → Bool) : (f.forget p).groups = f.groups := rfl
@[simp] theorem Field.forget_ruleHeld (f : Field) (p : Nat → Bool) : (f.forget p).ruleHeld = f.ruleHeld := rfl
@[simp] theorem Field.forget_gov (f : Field) (p : Nat → Bool) : (f.forget p).gov = f.gov := rfl
@[simp] theorem Field.forget_commits (f : Field) (p : Nat → Bool) : (f.forget p).commits = f.commits := rfl
@[simp] theorem Field.forget_resets (f : Field) (p : Nat → Bool) : (f.forget p).resets = f.resets := rfl
@[simp] theorem Field.forget_shutting (f : Field) (p : Nat → Bool) : (f.forget p).shutting = f.shutting := rfl
@[simp] theorem Field.forget_seqsLost (f : Field) (p : Nat → Bool) : (f.forget p).seqsLost = f.seqsLost := rfl
@[simp] theorem Field.forget_joined (f : Field) (p : Nat → Bool) : (f.forget p).joined = f.joined := rfl
@[simp] theorem Field.forget_ramp (f : Field) (p : Nat → Bool) : (f.forget p).ramp = f.ramp := rfl
@[simp] theorem Field.forget_dropped (f : Field) (p : Nat → Bool) : (f.forget p).dropped = f.dropped := rfl
@[simp] theorem Field.forget_noticed (f : Field) (p : Nat → Bool) : (f.forget p).noticed = f.noticed := rfl
@[simp] theorem Field.forget_notices (f : Field) (p : Nat → Bool) : (f.forget p).notices = f.notices := rfl
@[simp] theorem Field.forget_tn (f : Field) (p : Nat → Bool) : (f.forget p).tn = f.tn := rfl
@[simp] theorem Field.forget_tnMax (f : Field) (p : Nat → Bool) : (f.forget p).tnMax = f.tnMax := rfl
@[simp] theorem Field.forget_tnMoves (f : Field) (p : Nat → Bool) : (f.forget p).tnMoves = f.tnMoves := rfl
@[simp] theorem Field.forget_partnerShunts (f : Field) (p : Nat → Bool) : (f.forget p).partnerShunts = f.partnerShunts := rfl
@[simp] theorem Field.forget_bothShunts (f : Field) (p : Nat → Bool) : (f.forget p).bothShunts = f.bothShunts := rfl
@[simp] theorem Field.forget_partAt (f : Field) (p : Nat → Bool) : (f.forget p).partAt = f.partAt := rfl
@[simp] theorem Field.forget_crateHash (f : Field) (p : Nat → Bool) : (f.forget p).crateHash = f.crateHash := rfl
@[simp] theorem Field.forget_crateHead (f : Field) (p : Nat → Bool) : (f.forget p).crateHead = f.crateHead := rfl
@[simp] theorem Field.forget_at_c (f : Field) (p : Nat → Bool) (y : Fld) : (f.forget p).c y = f.c y := rfl
@[simp] theorem Field.forget_at_cb (f : Field) (p : Nat → Bool) (y : Fld) : (f.forget p).cb y = f.cb y := rfl
@[simp] theorem Field.forget_at_term (f : Field) (p : Nat → Bool) (k : Nat) : (f.forget p).term k = f.term k := rfl
@[simp] theorem Field.forget_at_step (f : Field) (p : Nat → Bool) (k : Nat) : (f.forget p).step k = f.step k := rfl
@[simp] theorem Field.forget_at_group (f : Field) (p : Nat → Bool) (k : Nat) : (f.forget p).group k = f.group k := rfl
@[simp] theorem Field.forget_at_ctx (f : Field) (p : Nat → Bool) (k : Nat) : (f.forget p).ctx k = f.ctx k := rfl
@[simp] theorem Field.forget_at_slice (f : Field) (p : Nat → Bool) (k : Nat) : (f.forget p).slice k = f.slice k := rfl
@[simp] theorem Field.forget_at_prog (f : Field) (p : Nat → Bool) (k : Nat) : (f.forget p).prog k = f.prog k := rfl

/-! `Field.own`. -/

@[simp] theorem Field.own_released (f : Field) (x : Fld) (v : Nat) : (f.own x v).released = f.released := rfl
@[simp] theorem Field.own_configured (f : Field) (x : Fld) (v : Nat) : (f.own x v).configured = f.configured := rfl
@[simp] theorem Field.own_mode (f : Field) (x : Fld) (v : Nat) : (f.own x v).mode = f.mode := rfl
@[simp] theorem Field.own_paired (f : Field) (x : Fld) (v : Nat) : (f.own x v).paired = f.paired := rfl
@[simp] theorem Field.own_lead (f : Field) (x : Fld) (v : Nat) : (f.own x v).lead = f.lead := rfl
@[simp] theorem Field.own_wdArmed (f : Field) (x : Fld) (v : Nat) : (f.own x v).wdArmed = f.wdArmed := rfl
@[simp] theorem Field.own_handover (f : Field) (x : Fld) (v : Nat) : (f.own x v).handover = f.handover := rfl
@[simp] theorem Field.own_quiet (f : Field) (x : Fld) (v : Nat) : (f.own x v).quiet = f.quiet := rfl
@[simp] theorem Field.own_report (f : Field) (x : Fld) (v : Nat) : (f.own x v).report = f.report := rfl
@[simp] theorem Field.own_rolesDown (f : Field) (x : Fld) (v : Nat) : (f.own x v).rolesDown = f.rolesDown := rfl
@[simp] theorem Field.own_img (f : Field) (x : Fld) (v : Nat) : (f.own x v).img = f.img := rfl
@[simp] theorem Field.own_out (f : Field) (x : Fld) (v : Nat) : (f.own x v).out = f.out := rfl
@[simp] theorem Field.own_time (f : Field) (x : Fld) (v : Nat) : (f.own x v).time = f.time := rfl
@[simp] theorem Field.own_draws (f : Field) (x : Fld) (v : Nat) : (f.own x v).draws = f.draws := rfl
@[simp] theorem Field.own_ctxs (f : Field) (x : Fld) (v : Nat) : (f.own x v).ctxs = f.ctxs := rfl
@[simp] theorem Field.own_slices (f : Field) (x : Fld) (v : Nat) : (f.own x v).slices = f.slices := rfl
@[simp] theorem Field.own_progs (f : Field) (x : Fld) (v : Nat) : (f.own x v).progs = f.progs := rfl
@[simp] theorem Field.own_trigs (f : Field) (x : Fld) (v : Nat) : (f.own x v).trigs = f.trigs := rfl
@[simp] theorem Field.own_trigSeen (f : Field) (x : Fld) (v : Nat) : (f.own x v).trigSeen = f.trigSeen := rfl
@[simp] theorem Field.own_syncout (f : Field) (x : Fld) (v : Nat) : (f.own x v).syncout = f.syncout := rfl
@[simp] theorem Field.own_tdacFault (f : Field) (x : Fld) (v : Nat) : (f.own x v).tdacFault = f.tdacFault := rfl
@[simp] theorem Field.own_onFrc (f : Field) (x : Fld) (v : Nat) : (f.own x v).onFrc = f.onFrc := rfl
@[simp] theorem Field.own_frcBad (f : Field) (x : Fld) (v : Nat) : (f.own x v).frcBad = f.frcBad := rfl
@[simp] theorem Field.own_recBad (f : Field) (x : Fld) (v : Nat) : (f.own x v).recBad = f.recBad := rfl
@[simp] theorem Field.own_degraded (f : Field) (x : Fld) (v : Nat) : (f.own x v).degraded = f.degraded := rfl
@[simp] theorem Field.own_returnAt (f : Field) (x : Fld) (v : Nat) : (f.own x v).returnAt = f.returnAt := rfl
@[simp] theorem Field.own_urgReqs (f : Field) (x : Fld) (v : Nat) : (f.own x v).urgReqs = f.urgReqs := rfl
@[simp] theorem Field.own_urgOver (f : Field) (x : Fld) (v : Nat) : (f.own x v).urgOver = f.urgOver := rfl
@[simp] theorem Field.own_rolesBack (f : Field) (x : Fld) (v : Nat) : (f.own x v).rolesBack = f.rolesBack := rfl
@[simp] theorem Field.own_diagGone (f : Field) (x : Fld) (v : Nat) : (f.own x v).diagGone = f.diagGone := rfl
@[simp] theorem Field.own_veto (f : Field) (x : Fld) (v : Nat) : (f.own x v).veto = f.veto := rfl
@[simp] theorem Field.own_deferred (f : Field) (x : Fld) (v : Nat) : (f.own x v).deferred = f.deferred := rfl
@[simp] theorem Field.own_rot (f : Field) (x : Fld) (v : Nat) : (f.own x v).rot = f.rot := rfl
@[simp] theorem Field.own_cal (f : Field) (x : Fld) (v : Nat) : (f.own x v).cal = f.cal := rfl
@[simp] theorem Field.own_snapq (f : Field) (x : Fld) (v : Nat) : (f.own x v).snapq = f.snapq := rfl
@[simp] theorem Field.own_exc (f : Field) (x : Fld) (v : Nat) : (f.own x v).exc = f.exc := rfl
@[simp] theorem Field.own_terms (f : Field) (x : Fld) (v : Nat) : (f.own x v).terms = f.terms := rfl
@[simp] theorem Field.own_steps (f : Field) (x : Fld) (v : Nat) : (f.own x v).steps = f.steps := rfl
@[simp] theorem Field.own_groups (f : Field) (x : Fld) (v : Nat) : (f.own x v).groups = f.groups := rfl
@[simp] theorem Field.own_ruleHeld (f : Field) (x : Fld) (v : Nat) : (f.own x v).ruleHeld = f.ruleHeld := rfl
@[simp] theorem Field.own_gov (f : Field) (x : Fld) (v : Nat) : (f.own x v).gov = f.gov := rfl
@[simp] theorem Field.own_commits (f : Field) (x : Fld) (v : Nat) : (f.own x v).commits = f.commits := rfl
@[simp] theorem Field.own_resets (f : Field) (x : Fld) (v : Nat) : (f.own x v).resets = f.resets := rfl
@[simp] theorem Field.own_shutting (f : Field) (x : Fld) (v : Nat) : (f.own x v).shutting = f.shutting := rfl
@[simp] theorem Field.own_seqsLost (f : Field) (x : Fld) (v : Nat) : (f.own x v).seqsLost = f.seqsLost := rfl
@[simp] theorem Field.own_joined (f : Field) (x : Fld) (v : Nat) : (f.own x v).joined = f.joined := rfl
@[simp] theorem Field.own_ramp (f : Field) (x : Fld) (v : Nat) : (f.own x v).ramp = f.ramp := rfl
@[simp] theorem Field.own_dropped (f : Field) (x : Fld) (v : Nat) : (f.own x v).dropped = f.dropped := rfl
@[simp] theorem Field.own_noticed (f : Field) (x : Fld) (v : Nat) : (f.own x v).noticed = f.noticed := rfl
@[simp] theorem Field.own_notices (f : Field) (x : Fld) (v : Nat) : (f.own x v).notices = f.notices := rfl
@[simp] theorem Field.own_tn (f : Field) (x : Fld) (v : Nat) : (f.own x v).tn = f.tn := rfl
@[simp] theorem Field.own_tnMax (f : Field) (x : Fld) (v : Nat) : (f.own x v).tnMax = f.tnMax := rfl
@[simp] theorem Field.own_tnMoves (f : Field) (x : Fld) (v : Nat) : (f.own x v).tnMoves = f.tnMoves := rfl
@[simp] theorem Field.own_partnerShunts (f : Field) (x : Fld) (v : Nat) : (f.own x v).partnerShunts = f.partnerShunts := rfl
@[simp] theorem Field.own_bothShunts (f : Field) (x : Fld) (v : Nat) : (f.own x v).bothShunts = f.bothShunts := rfl
@[simp] theorem Field.own_partAt (f : Field) (x : Fld) (v : Nat) : (f.own x v).partAt = f.partAt := rfl
@[simp] theorem Field.own_crateHash (f : Field) (x : Fld) (v : Nat) : (f.own x v).crateHash = f.crateHash := rfl
@[simp] theorem Field.own_crateHead (f : Field) (x : Fld) (v : Nat) : (f.own x v).crateHead = f.crateHead := rfl
@[simp] theorem Field.own_at_g (f : Field) (x : Fld) (v : Nat) (y : Fld) : (f.own x v).g y = f.g y := rfl
@[simp] theorem Field.own_at_gb (f : Field) (x : Fld) (v : Nat) (y : Fld) : (f.own x v).gb y = f.gb y := rfl
@[simp] theorem Field.own_at_func (f : Field) (x : Fld) (v : Nat) (k : Nat) : (f.own x v).func k = f.func k := rfl
@[simp] theorem Field.own_at_term (f : Field) (x : Fld) (v : Nat) (k : Nat) : (f.own x v).term k = f.term k := rfl
@[simp] theorem Field.own_at_step (f : Field) (x : Fld) (v : Nat) (k : Nat) : (f.own x v).step k = f.step k := rfl
@[simp] theorem Field.own_at_group (f : Field) (x : Fld) (v : Nat) (k : Nat) : (f.own x v).group k = f.group k := rfl
@[simp] theorem Field.own_at_ctx (f : Field) (x : Fld) (v : Nat) (k : Nat) : (f.own x v).ctx k = f.ctx k := rfl
@[simp] theorem Field.own_at_slice (f : Field) (x : Fld) (v : Nat) (k : Nat) : (f.own x v).slice k = f.slice k := rfl
@[simp] theorem Field.own_at_prog (f : Field) (x : Fld) (v : Nat) (k : Nat) : (f.own x v).prog k = f.prog k := rfl

/-! `Field.tell`. -/

@[simp] theorem Field.tell_released (f : Field) (m : FMsg) : (f.tell m).released = f.released := rfl
@[simp] theorem Field.tell_configured (f : Field) (m : FMsg) : (f.tell m).configured = f.configured := rfl
@[simp] theorem Field.tell_mode (f : Field) (m : FMsg) : (f.tell m).mode = f.mode := rfl
@[simp] theorem Field.tell_paired (f : Field) (m : FMsg) : (f.tell m).paired = f.paired := rfl
@[simp] theorem Field.tell_lead (f : Field) (m : FMsg) : (f.tell m).lead = f.lead := rfl
@[simp] theorem Field.tell_wdArmed (f : Field) (m : FMsg) : (f.tell m).wdArmed = f.wdArmed := rfl
@[simp] theorem Field.tell_handover (f : Field) (m : FMsg) : (f.tell m).handover = f.handover := rfl
@[simp] theorem Field.tell_quiet (f : Field) (m : FMsg) : (f.tell m).quiet = f.quiet := rfl
@[simp] theorem Field.tell_report (f : Field) (m : FMsg) : (f.tell m).report = f.report := rfl
@[simp] theorem Field.tell_rolesDown (f : Field) (m : FMsg) : (f.tell m).rolesDown = f.rolesDown := rfl
@[simp] theorem Field.tell_cfg (f : Field) (m : FMsg) : (f.tell m).cfg = f.cfg := rfl
@[simp] theorem Field.tell_img (f : Field) (m : FMsg) : (f.tell m).img = f.img := rfl
@[simp] theorem Field.tell_time (f : Field) (m : FMsg) : (f.tell m).time = f.time := rfl
@[simp] theorem Field.tell_draws (f : Field) (m : FMsg) : (f.tell m).draws = f.draws := rfl
@[simp] theorem Field.tell_ctxs (f : Field) (m : FMsg) : (f.tell m).ctxs = f.ctxs := rfl
@[simp] theorem Field.tell_slices (f : Field) (m : FMsg) : (f.tell m).slices = f.slices := rfl
@[simp] theorem Field.tell_progs (f : Field) (m : FMsg) : (f.tell m).progs = f.progs := rfl
@[simp] theorem Field.tell_trigs (f : Field) (m : FMsg) : (f.tell m).trigs = f.trigs := rfl
@[simp] theorem Field.tell_trigSeen (f : Field) (m : FMsg) : (f.tell m).trigSeen = f.trigSeen := rfl
@[simp] theorem Field.tell_syncout (f : Field) (m : FMsg) : (f.tell m).syncout = f.syncout := rfl
@[simp] theorem Field.tell_tdacFault (f : Field) (m : FMsg) : (f.tell m).tdacFault = f.tdacFault := rfl
@[simp] theorem Field.tell_onFrc (f : Field) (m : FMsg) : (f.tell m).onFrc = f.onFrc := rfl
@[simp] theorem Field.tell_frcBad (f : Field) (m : FMsg) : (f.tell m).frcBad = f.frcBad := rfl
@[simp] theorem Field.tell_recBad (f : Field) (m : FMsg) : (f.tell m).recBad = f.recBad := rfl
@[simp] theorem Field.tell_degraded (f : Field) (m : FMsg) : (f.tell m).degraded = f.degraded := rfl
@[simp] theorem Field.tell_returnAt (f : Field) (m : FMsg) : (f.tell m).returnAt = f.returnAt := rfl
@[simp] theorem Field.tell_urgReqs (f : Field) (m : FMsg) : (f.tell m).urgReqs = f.urgReqs := rfl
@[simp] theorem Field.tell_urgOver (f : Field) (m : FMsg) : (f.tell m).urgOver = f.urgOver := rfl
@[simp] theorem Field.tell_rolesBack (f : Field) (m : FMsg) : (f.tell m).rolesBack = f.rolesBack := rfl
@[simp] theorem Field.tell_diagGone (f : Field) (m : FMsg) : (f.tell m).diagGone = f.diagGone := rfl
@[simp] theorem Field.tell_veto (f : Field) (m : FMsg) : (f.tell m).veto = f.veto := rfl
@[simp] theorem Field.tell_deferred (f : Field) (m : FMsg) : (f.tell m).deferred = f.deferred := rfl
@[simp] theorem Field.tell_rot (f : Field) (m : FMsg) : (f.tell m).rot = f.rot := rfl
@[simp] theorem Field.tell_cal (f : Field) (m : FMsg) : (f.tell m).cal = f.cal := rfl
@[simp] theorem Field.tell_snapq (f : Field) (m : FMsg) : (f.tell m).snapq = f.snapq := rfl
@[simp] theorem Field.tell_exc (f : Field) (m : FMsg) : (f.tell m).exc = f.exc := rfl
@[simp] theorem Field.tell_terms (f : Field) (m : FMsg) : (f.tell m).terms = f.terms := rfl
@[simp] theorem Field.tell_steps (f : Field) (m : FMsg) : (f.tell m).steps = f.steps := rfl
@[simp] theorem Field.tell_groups (f : Field) (m : FMsg) : (f.tell m).groups = f.groups := rfl
@[simp] theorem Field.tell_ruleHeld (f : Field) (m : FMsg) : (f.tell m).ruleHeld = f.ruleHeld := rfl
@[simp] theorem Field.tell_gov (f : Field) (m : FMsg) : (f.tell m).gov = f.gov := rfl
@[simp] theorem Field.tell_commits (f : Field) (m : FMsg) : (f.tell m).commits = f.commits := rfl
@[simp] theorem Field.tell_resets (f : Field) (m : FMsg) : (f.tell m).resets = f.resets := rfl
@[simp] theorem Field.tell_shutting (f : Field) (m : FMsg) : (f.tell m).shutting = f.shutting := rfl
@[simp] theorem Field.tell_seqsLost (f : Field) (m : FMsg) : (f.tell m).seqsLost = f.seqsLost := rfl
@[simp] theorem Field.tell_joined (f : Field) (m : FMsg) : (f.tell m).joined = f.joined := rfl
@[simp] theorem Field.tell_ramp (f : Field) (m : FMsg) : (f.tell m).ramp = f.ramp := rfl
@[simp] theorem Field.tell_dropped (f : Field) (m : FMsg) : (f.tell m).dropped = f.dropped := rfl
@[simp] theorem Field.tell_noticed (f : Field) (m : FMsg) : (f.tell m).noticed = f.noticed := rfl
@[simp] theorem Field.tell_notices (f : Field) (m : FMsg) : (f.tell m).notices = f.notices := rfl
@[simp] theorem Field.tell_tn (f : Field) (m : FMsg) : (f.tell m).tn = f.tn := rfl
@[simp] theorem Field.tell_tnMax (f : Field) (m : FMsg) : (f.tell m).tnMax = f.tnMax := rfl
@[simp] theorem Field.tell_tnMoves (f : Field) (m : FMsg) : (f.tell m).tnMoves = f.tnMoves := rfl
@[simp] theorem Field.tell_partnerShunts (f : Field) (m : FMsg) : (f.tell m).partnerShunts = f.partnerShunts := rfl
@[simp] theorem Field.tell_bothShunts (f : Field) (m : FMsg) : (f.tell m).bothShunts = f.bothShunts := rfl
@[simp] theorem Field.tell_partAt (f : Field) (m : FMsg) : (f.tell m).partAt = f.partAt := rfl
@[simp] theorem Field.tell_crateHash (f : Field) (m : FMsg) : (f.tell m).crateHash = f.crateHash := rfl
@[simp] theorem Field.tell_crateHead (f : Field) (m : FMsg) : (f.tell m).crateHead = f.crateHead := rfl
@[simp] theorem Field.tell_at_g (f : Field) (m : FMsg) (y : Fld) : (f.tell m).g y = f.g y := rfl
@[simp] theorem Field.tell_at_gb (f : Field) (m : FMsg) (y : Fld) : (f.tell m).gb y = f.gb y := rfl
@[simp] theorem Field.tell_at_c (f : Field) (m : FMsg) (y : Fld) : (f.tell m).c y = f.c y := rfl
@[simp] theorem Field.tell_at_cb (f : Field) (m : FMsg) (y : Fld) : (f.tell m).cb y = f.cb y := rfl
@[simp] theorem Field.tell_at_func (f : Field) (m : FMsg) (k : Nat) : (f.tell m).func k = f.func k := rfl
@[simp] theorem Field.tell_at_term (f : Field) (m : FMsg) (k : Nat) : (f.tell m).term k = f.term k := rfl
@[simp] theorem Field.tell_at_step (f : Field) (m : FMsg) (k : Nat) : (f.tell m).step k = f.step k := rfl
@[simp] theorem Field.tell_at_group (f : Field) (m : FMsg) (k : Nat) : (f.tell m).group k = f.group k := rfl
@[simp] theorem Field.tell_at_ctx (f : Field) (m : FMsg) (k : Nat) : (f.tell m).ctx k = f.ctx k := rfl
@[simp] theorem Field.tell_at_slice (f : Field) (m : FMsg) (k : Nat) : (f.tell m).slice k = f.slice k := rfl
@[simp] theorem Field.tell_at_prog (f : Field) (m : FMsg) (k : Nat) : (f.tell m).prog k = f.prog k := rfl

/-! `Field.setTerm`. -/

@[simp] theorem Field.setTerm_released (f : Field) (n : Nat) (t : TermRun) : (f.setTerm n t).released = f.released := rfl
@[simp] theorem Field.setTerm_configured (f : Field) (n : Nat) (t : TermRun) : (f.setTerm n t).configured = f.configured := rfl
@[simp] theorem Field.setTerm_mode (f : Field) (n : Nat) (t : TermRun) : (f.setTerm n t).mode = f.mode := rfl
@[simp] theorem Field.setTerm_paired (f : Field) (n : Nat) (t : TermRun) : (f.setTerm n t).paired = f.paired := rfl
@[simp] theorem Field.setTerm_lead (f : Field) (n : Nat) (t : TermRun) : (f.setTerm n t).lead = f.lead := rfl
@[simp] theorem Field.setTerm_wdArmed (f : Field) (n : Nat) (t : TermRun) : (f.setTerm n t).wdArmed = f.wdArmed := rfl
@[simp] theorem Field.setTerm_handover (f : Field) (n : Nat) (t : TermRun) : (f.setTerm n t).handover = f.handover := rfl
@[simp] theorem Field.setTerm_quiet (f : Field) (n : Nat) (t : TermRun) : (f.setTerm n t).quiet = f.quiet := rfl
@[simp] theorem Field.setTerm_report (f : Field) (n : Nat) (t : TermRun) : (f.setTerm n t).report = f.report := rfl
@[simp] theorem Field.setTerm_rolesDown (f : Field) (n : Nat) (t : TermRun) : (f.setTerm n t).rolesDown = f.rolesDown := rfl
@[simp] theorem Field.setTerm_cfg (f : Field) (n : Nat) (t : TermRun) : (f.setTerm n t).cfg = f.cfg := rfl
@[simp] theorem Field.setTerm_img (f : Field) (n : Nat) (t : TermRun) : (f.setTerm n t).img = f.img := rfl
@[simp] theorem Field.setTerm_out (f : Field) (n : Nat) (t : TermRun) : (f.setTerm n t).out = f.out := rfl
@[simp] theorem Field.setTerm_time (f : Field) (n : Nat) (t : TermRun) : (f.setTerm n t).time = f.time := rfl
@[simp] theorem Field.setTerm_draws (f : Field) (n : Nat) (t : TermRun) : (f.setTerm n t).draws = f.draws := rfl
@[simp] theorem Field.setTerm_ctxs (f : Field) (n : Nat) (t : TermRun) : (f.setTerm n t).ctxs = f.ctxs := rfl
@[simp] theorem Field.setTerm_slices (f : Field) (n : Nat) (t : TermRun) : (f.setTerm n t).slices = f.slices := rfl
@[simp] theorem Field.setTerm_progs (f : Field) (n : Nat) (t : TermRun) : (f.setTerm n t).progs = f.progs := rfl
@[simp] theorem Field.setTerm_trigs (f : Field) (n : Nat) (t : TermRun) : (f.setTerm n t).trigs = f.trigs := rfl
@[simp] theorem Field.setTerm_trigSeen (f : Field) (n : Nat) (t : TermRun) : (f.setTerm n t).trigSeen = f.trigSeen := rfl
@[simp] theorem Field.setTerm_syncout (f : Field) (n : Nat) (t : TermRun) : (f.setTerm n t).syncout = f.syncout := rfl
@[simp] theorem Field.setTerm_tdacFault (f : Field) (n : Nat) (t : TermRun) : (f.setTerm n t).tdacFault = f.tdacFault := rfl
@[simp] theorem Field.setTerm_onFrc (f : Field) (n : Nat) (t : TermRun) : (f.setTerm n t).onFrc = f.onFrc := rfl
@[simp] theorem Field.setTerm_frcBad (f : Field) (n : Nat) (t : TermRun) : (f.setTerm n t).frcBad = f.frcBad := rfl
@[simp] theorem Field.setTerm_recBad (f : Field) (n : Nat) (t : TermRun) : (f.setTerm n t).recBad = f.recBad := rfl
@[simp] theorem Field.setTerm_degraded (f : Field) (n : Nat) (t : TermRun) : (f.setTerm n t).degraded = f.degraded := rfl
@[simp] theorem Field.setTerm_returnAt (f : Field) (n : Nat) (t : TermRun) : (f.setTerm n t).returnAt = f.returnAt := rfl
@[simp] theorem Field.setTerm_urgReqs (f : Field) (n : Nat) (t : TermRun) : (f.setTerm n t).urgReqs = f.urgReqs := rfl
@[simp] theorem Field.setTerm_urgOver (f : Field) (n : Nat) (t : TermRun) : (f.setTerm n t).urgOver = f.urgOver := rfl
@[simp] theorem Field.setTerm_rolesBack (f : Field) (n : Nat) (t : TermRun) : (f.setTerm n t).rolesBack = f.rolesBack := rfl
@[simp] theorem Field.setTerm_diagGone (f : Field) (n : Nat) (t : TermRun) : (f.setTerm n t).diagGone = f.diagGone := rfl
@[simp] theorem Field.setTerm_veto (f : Field) (n : Nat) (t : TermRun) : (f.setTerm n t).veto = f.veto := rfl
@[simp] theorem Field.setTerm_deferred (f : Field) (n : Nat) (t : TermRun) : (f.setTerm n t).deferred = f.deferred := rfl
@[simp] theorem Field.setTerm_rot (f : Field) (n : Nat) (t : TermRun) : (f.setTerm n t).rot = f.rot := rfl
@[simp] theorem Field.setTerm_cal (f : Field) (n : Nat) (t : TermRun) : (f.setTerm n t).cal = f.cal := rfl
@[simp] theorem Field.setTerm_snapq (f : Field) (n : Nat) (t : TermRun) : (f.setTerm n t).snapq = f.snapq := rfl
@[simp] theorem Field.setTerm_exc (f : Field) (n : Nat) (t : TermRun) : (f.setTerm n t).exc = f.exc := rfl
@[simp] theorem Field.setTerm_steps (f : Field) (n : Nat) (t : TermRun) : (f.setTerm n t).steps = f.steps := rfl
@[simp] theorem Field.setTerm_groups (f : Field) (n : Nat) (t : TermRun) : (f.setTerm n t).groups = f.groups := rfl
@[simp] theorem Field.setTerm_ruleHeld (f : Field) (n : Nat) (t : TermRun) : (f.setTerm n t).ruleHeld = f.ruleHeld := rfl
@[simp] theorem Field.setTerm_gov (f : Field) (n : Nat) (t : TermRun) : (f.setTerm n t).gov = f.gov := rfl
@[simp] theorem Field.setTerm_commits (f : Field) (n : Nat) (t : TermRun) : (f.setTerm n t).commits = f.commits := rfl
@[simp] theorem Field.setTerm_resets (f : Field) (n : Nat) (t : TermRun) : (f.setTerm n t).resets = f.resets := rfl
@[simp] theorem Field.setTerm_shutting (f : Field) (n : Nat) (t : TermRun) : (f.setTerm n t).shutting = f.shutting := rfl
@[simp] theorem Field.setTerm_seqsLost (f : Field) (n : Nat) (t : TermRun) : (f.setTerm n t).seqsLost = f.seqsLost := rfl
@[simp] theorem Field.setTerm_joined (f : Field) (n : Nat) (t : TermRun) : (f.setTerm n t).joined = f.joined := rfl
@[simp] theorem Field.setTerm_ramp (f : Field) (n : Nat) (t : TermRun) : (f.setTerm n t).ramp = f.ramp := rfl
@[simp] theorem Field.setTerm_dropped (f : Field) (n : Nat) (t : TermRun) : (f.setTerm n t).dropped = f.dropped := rfl
@[simp] theorem Field.setTerm_noticed (f : Field) (n : Nat) (t : TermRun) : (f.setTerm n t).noticed = f.noticed := rfl
@[simp] theorem Field.setTerm_notices (f : Field) (n : Nat) (t : TermRun) : (f.setTerm n t).notices = f.notices := rfl
@[simp] theorem Field.setTerm_tn (f : Field) (n : Nat) (t : TermRun) : (f.setTerm n t).tn = f.tn := rfl
@[simp] theorem Field.setTerm_tnMax (f : Field) (n : Nat) (t : TermRun) : (f.setTerm n t).tnMax = f.tnMax := rfl
@[simp] theorem Field.setTerm_tnMoves (f : Field) (n : Nat) (t : TermRun) : (f.setTerm n t).tnMoves = f.tnMoves := rfl
@[simp] theorem Field.setTerm_partnerShunts (f : Field) (n : Nat) (t : TermRun) : (f.setTerm n t).partnerShunts = f.partnerShunts := rfl
@[simp] theorem Field.setTerm_bothShunts (f : Field) (n : Nat) (t : TermRun) : (f.setTerm n t).bothShunts = f.bothShunts := rfl
@[simp] theorem Field.setTerm_partAt (f : Field) (n : Nat) (t : TermRun) : (f.setTerm n t).partAt = f.partAt := rfl
@[simp] theorem Field.setTerm_crateHash (f : Field) (n : Nat) (t : TermRun) : (f.setTerm n t).crateHash = f.crateHash := rfl
@[simp] theorem Field.setTerm_crateHead (f : Field) (n : Nat) (t : TermRun) : (f.setTerm n t).crateHead = f.crateHead := rfl
@[simp] theorem Field.setTerm_at_g (f : Field) (n : Nat) (t : TermRun) (y : Fld) : (f.setTerm n t).g y = f.g y := rfl
@[simp] theorem Field.setTerm_at_gb (f : Field) (n : Nat) (t : TermRun) (y : Fld) : (f.setTerm n t).gb y = f.gb y := rfl
@[simp] theorem Field.setTerm_at_c (f : Field) (n : Nat) (t : TermRun) (y : Fld) : (f.setTerm n t).c y = f.c y := rfl
@[simp] theorem Field.setTerm_at_cb (f : Field) (n : Nat) (t : TermRun) (y : Fld) : (f.setTerm n t).cb y = f.cb y := rfl
@[simp] theorem Field.setTerm_at_func (f : Field) (n : Nat) (t : TermRun) (k : Nat) : (f.setTerm n t).func k = f.func k := rfl
@[simp] theorem Field.setTerm_at_step (f : Field) (n : Nat) (t : TermRun) (k : Nat) : (f.setTerm n t).step k = f.step k := rfl
@[simp] theorem Field.setTerm_at_group (f : Field) (n : Nat) (t : TermRun) (k : Nat) : (f.setTerm n t).group k = f.group k := rfl
@[simp] theorem Field.setTerm_at_ctx (f : Field) (n : Nat) (t : TermRun) (k : Nat) : (f.setTerm n t).ctx k = f.ctx k := rfl
@[simp] theorem Field.setTerm_at_slice (f : Field) (n : Nat) (t : TermRun) (k : Nat) : (f.setTerm n t).slice k = f.slice k := rfl
@[simp] theorem Field.setTerm_at_prog (f : Field) (n : Nat) (t : TermRun) (k : Nat) : (f.setTerm n t).prog k = f.prog k := rfl

/-! `Field.modStep`. -/

@[simp] theorem Field.modStep_released (f : Field) (n : Nat) (h : StepRun → StepRun) : (f.modStep n h).released = f.released := rfl
@[simp] theorem Field.modStep_configured (f : Field) (n : Nat) (h : StepRun → StepRun) : (f.modStep n h).configured = f.configured := rfl
@[simp] theorem Field.modStep_mode (f : Field) (n : Nat) (h : StepRun → StepRun) : (f.modStep n h).mode = f.mode := rfl
@[simp] theorem Field.modStep_paired (f : Field) (n : Nat) (h : StepRun → StepRun) : (f.modStep n h).paired = f.paired := rfl
@[simp] theorem Field.modStep_lead (f : Field) (n : Nat) (h : StepRun → StepRun) : (f.modStep n h).lead = f.lead := rfl
@[simp] theorem Field.modStep_wdArmed (f : Field) (n : Nat) (h : StepRun → StepRun) : (f.modStep n h).wdArmed = f.wdArmed := rfl
@[simp] theorem Field.modStep_handover (f : Field) (n : Nat) (h : StepRun → StepRun) : (f.modStep n h).handover = f.handover := rfl
@[simp] theorem Field.modStep_quiet (f : Field) (n : Nat) (h : StepRun → StepRun) : (f.modStep n h).quiet = f.quiet := rfl
@[simp] theorem Field.modStep_report (f : Field) (n : Nat) (h : StepRun → StepRun) : (f.modStep n h).report = f.report := rfl
@[simp] theorem Field.modStep_rolesDown (f : Field) (n : Nat) (h : StepRun → StepRun) : (f.modStep n h).rolesDown = f.rolesDown := rfl
@[simp] theorem Field.modStep_cfg (f : Field) (n : Nat) (h : StepRun → StepRun) : (f.modStep n h).cfg = f.cfg := rfl
@[simp] theorem Field.modStep_img (f : Field) (n : Nat) (h : StepRun → StepRun) : (f.modStep n h).img = f.img := rfl
@[simp] theorem Field.modStep_out (f : Field) (n : Nat) (h : StepRun → StepRun) : (f.modStep n h).out = f.out := rfl
@[simp] theorem Field.modStep_time (f : Field) (n : Nat) (h : StepRun → StepRun) : (f.modStep n h).time = f.time := rfl
@[simp] theorem Field.modStep_draws (f : Field) (n : Nat) (h : StepRun → StepRun) : (f.modStep n h).draws = f.draws := rfl
@[simp] theorem Field.modStep_ctxs (f : Field) (n : Nat) (h : StepRun → StepRun) : (f.modStep n h).ctxs = f.ctxs := rfl
@[simp] theorem Field.modStep_slices (f : Field) (n : Nat) (h : StepRun → StepRun) : (f.modStep n h).slices = f.slices := rfl
@[simp] theorem Field.modStep_progs (f : Field) (n : Nat) (h : StepRun → StepRun) : (f.modStep n h).progs = f.progs := rfl
@[simp] theorem Field.modStep_trigs (f : Field) (n : Nat) (h : StepRun → StepRun) : (f.modStep n h).trigs = f.trigs := rfl
@[simp] theorem Field.modStep_trigSeen (f : Field) (n : Nat) (h : StepRun → StepRun) : (f.modStep n h).trigSeen = f.trigSeen := rfl
@[simp] theorem Field.modStep_syncout (f : Field) (n : Nat) (h : StepRun → StepRun) : (f.modStep n h).syncout = f.syncout := rfl
@[simp] theorem Field.modStep_tdacFault (f : Field) (n : Nat) (h : StepRun → StepRun) : (f.modStep n h).tdacFault = f.tdacFault := rfl
@[simp] theorem Field.modStep_onFrc (f : Field) (n : Nat) (h : StepRun → StepRun) : (f.modStep n h).onFrc = f.onFrc := rfl
@[simp] theorem Field.modStep_frcBad (f : Field) (n : Nat) (h : StepRun → StepRun) : (f.modStep n h).frcBad = f.frcBad := rfl
@[simp] theorem Field.modStep_recBad (f : Field) (n : Nat) (h : StepRun → StepRun) : (f.modStep n h).recBad = f.recBad := rfl
@[simp] theorem Field.modStep_degraded (f : Field) (n : Nat) (h : StepRun → StepRun) : (f.modStep n h).degraded = f.degraded := rfl
@[simp] theorem Field.modStep_returnAt (f : Field) (n : Nat) (h : StepRun → StepRun) : (f.modStep n h).returnAt = f.returnAt := rfl
@[simp] theorem Field.modStep_urgReqs (f : Field) (n : Nat) (h : StepRun → StepRun) : (f.modStep n h).urgReqs = f.urgReqs := rfl
@[simp] theorem Field.modStep_urgOver (f : Field) (n : Nat) (h : StepRun → StepRun) : (f.modStep n h).urgOver = f.urgOver := rfl
@[simp] theorem Field.modStep_rolesBack (f : Field) (n : Nat) (h : StepRun → StepRun) : (f.modStep n h).rolesBack = f.rolesBack := rfl
@[simp] theorem Field.modStep_diagGone (f : Field) (n : Nat) (h : StepRun → StepRun) : (f.modStep n h).diagGone = f.diagGone := rfl
@[simp] theorem Field.modStep_veto (f : Field) (n : Nat) (h : StepRun → StepRun) : (f.modStep n h).veto = f.veto := rfl
@[simp] theorem Field.modStep_deferred (f : Field) (n : Nat) (h : StepRun → StepRun) : (f.modStep n h).deferred = f.deferred := rfl
@[simp] theorem Field.modStep_rot (f : Field) (n : Nat) (h : StepRun → StepRun) : (f.modStep n h).rot = f.rot := rfl
@[simp] theorem Field.modStep_cal (f : Field) (n : Nat) (h : StepRun → StepRun) : (f.modStep n h).cal = f.cal := rfl
@[simp] theorem Field.modStep_snapq (f : Field) (n : Nat) (h : StepRun → StepRun) : (f.modStep n h).snapq = f.snapq := rfl
@[simp] theorem Field.modStep_exc (f : Field) (n : Nat) (h : StepRun → StepRun) : (f.modStep n h).exc = f.exc := rfl
@[simp] theorem Field.modStep_terms (f : Field) (n : Nat) (h : StepRun → StepRun) : (f.modStep n h).terms = f.terms := rfl
@[simp] theorem Field.modStep_groups (f : Field) (n : Nat) (h : StepRun → StepRun) : (f.modStep n h).groups = f.groups := rfl
@[simp] theorem Field.modStep_ruleHeld (f : Field) (n : Nat) (h : StepRun → StepRun) : (f.modStep n h).ruleHeld = f.ruleHeld := rfl
@[simp] theorem Field.modStep_gov (f : Field) (n : Nat) (h : StepRun → StepRun) : (f.modStep n h).gov = f.gov := rfl
@[simp] theorem Field.modStep_commits (f : Field) (n : Nat) (h : StepRun → StepRun) : (f.modStep n h).commits = f.commits := rfl
@[simp] theorem Field.modStep_resets (f : Field) (n : Nat) (h : StepRun → StepRun) : (f.modStep n h).resets = f.resets := rfl
@[simp] theorem Field.modStep_shutting (f : Field) (n : Nat) (h : StepRun → StepRun) : (f.modStep n h).shutting = f.shutting := rfl
@[simp] theorem Field.modStep_seqsLost (f : Field) (n : Nat) (h : StepRun → StepRun) : (f.modStep n h).seqsLost = f.seqsLost := rfl
@[simp] theorem Field.modStep_joined (f : Field) (n : Nat) (h : StepRun → StepRun) : (f.modStep n h).joined = f.joined := rfl
@[simp] theorem Field.modStep_ramp (f : Field) (n : Nat) (h : StepRun → StepRun) : (f.modStep n h).ramp = f.ramp := rfl
@[simp] theorem Field.modStep_dropped (f : Field) (n : Nat) (h : StepRun → StepRun) : (f.modStep n h).dropped = f.dropped := rfl
@[simp] theorem Field.modStep_noticed (f : Field) (n : Nat) (h : StepRun → StepRun) : (f.modStep n h).noticed = f.noticed := rfl
@[simp] theorem Field.modStep_notices (f : Field) (n : Nat) (h : StepRun → StepRun) : (f.modStep n h).notices = f.notices := rfl
@[simp] theorem Field.modStep_tn (f : Field) (n : Nat) (h : StepRun → StepRun) : (f.modStep n h).tn = f.tn := rfl
@[simp] theorem Field.modStep_tnMax (f : Field) (n : Nat) (h : StepRun → StepRun) : (f.modStep n h).tnMax = f.tnMax := rfl
@[simp] theorem Field.modStep_tnMoves (f : Field) (n : Nat) (h : StepRun → StepRun) : (f.modStep n h).tnMoves = f.tnMoves := rfl
@[simp] theorem Field.modStep_partnerShunts (f : Field) (n : Nat) (h : StepRun → StepRun) : (f.modStep n h).partnerShunts = f.partnerShunts := rfl
@[simp] theorem Field.modStep_bothShunts (f : Field) (n : Nat) (h : StepRun → StepRun) : (f.modStep n h).bothShunts = f.bothShunts := rfl
@[simp] theorem Field.modStep_partAt (f : Field) (n : Nat) (h : StepRun → StepRun) : (f.modStep n h).partAt = f.partAt := rfl
@[simp] theorem Field.modStep_crateHash (f : Field) (n : Nat) (h : StepRun → StepRun) : (f.modStep n h).crateHash = f.crateHash := rfl
@[simp] theorem Field.modStep_crateHead (f : Field) (n : Nat) (h : StepRun → StepRun) : (f.modStep n h).crateHead = f.crateHead := rfl
@[simp] theorem Field.modStep_at_g (f : Field) (n : Nat) (h : StepRun → StepRun) (y : Fld) : (f.modStep n h).g y = f.g y := rfl
@[simp] theorem Field.modStep_at_gb (f : Field) (n : Nat) (h : StepRun → StepRun) (y : Fld) : (f.modStep n h).gb y = f.gb y := rfl
@[simp] theorem Field.modStep_at_c (f : Field) (n : Nat) (h : StepRun → StepRun) (y : Fld) : (f.modStep n h).c y = f.c y := rfl
@[simp] theorem Field.modStep_at_cb (f : Field) (n : Nat) (h : StepRun → StepRun) (y : Fld) : (f.modStep n h).cb y = f.cb y := rfl
@[simp] theorem Field.modStep_at_func (f : Field) (n : Nat) (h : StepRun → StepRun) (k : Nat) : (f.modStep n h).func k = f.func k := rfl
@[simp] theorem Field.modStep_at_term (f : Field) (n : Nat) (h : StepRun → StepRun) (k : Nat) : (f.modStep n h).term k = f.term k := rfl
@[simp] theorem Field.modStep_at_group (f : Field) (n : Nat) (h : StepRun → StepRun) (k : Nat) : (f.modStep n h).group k = f.group k := rfl
@[simp] theorem Field.modStep_at_ctx (f : Field) (n : Nat) (h : StepRun → StepRun) (k : Nat) : (f.modStep n h).ctx k = f.ctx k := rfl
@[simp] theorem Field.modStep_at_slice (f : Field) (n : Nat) (h : StepRun → StepRun) (k : Nat) : (f.modStep n h).slice k = f.slice k := rfl
@[simp] theorem Field.modStep_at_prog (f : Field) (n : Nat) (h : StepRun → StepRun) (k : Nat) : (f.modStep n h).prog k = f.prog k := rfl

/-! `Field.modGroup`. -/

@[simp] theorem Field.modGroup_released (f : Field) (n : Nat) (h : GroupRun → GroupRun) : (f.modGroup n h).released = f.released := rfl
@[simp] theorem Field.modGroup_configured (f : Field) (n : Nat) (h : GroupRun → GroupRun) : (f.modGroup n h).configured = f.configured := rfl
@[simp] theorem Field.modGroup_mode (f : Field) (n : Nat) (h : GroupRun → GroupRun) : (f.modGroup n h).mode = f.mode := rfl
@[simp] theorem Field.modGroup_paired (f : Field) (n : Nat) (h : GroupRun → GroupRun) : (f.modGroup n h).paired = f.paired := rfl
@[simp] theorem Field.modGroup_lead (f : Field) (n : Nat) (h : GroupRun → GroupRun) : (f.modGroup n h).lead = f.lead := rfl
@[simp] theorem Field.modGroup_wdArmed (f : Field) (n : Nat) (h : GroupRun → GroupRun) : (f.modGroup n h).wdArmed = f.wdArmed := rfl
@[simp] theorem Field.modGroup_handover (f : Field) (n : Nat) (h : GroupRun → GroupRun) : (f.modGroup n h).handover = f.handover := rfl
@[simp] theorem Field.modGroup_quiet (f : Field) (n : Nat) (h : GroupRun → GroupRun) : (f.modGroup n h).quiet = f.quiet := rfl
@[simp] theorem Field.modGroup_report (f : Field) (n : Nat) (h : GroupRun → GroupRun) : (f.modGroup n h).report = f.report := rfl
@[simp] theorem Field.modGroup_rolesDown (f : Field) (n : Nat) (h : GroupRun → GroupRun) : (f.modGroup n h).rolesDown = f.rolesDown := rfl
@[simp] theorem Field.modGroup_cfg (f : Field) (n : Nat) (h : GroupRun → GroupRun) : (f.modGroup n h).cfg = f.cfg := rfl
@[simp] theorem Field.modGroup_img (f : Field) (n : Nat) (h : GroupRun → GroupRun) : (f.modGroup n h).img = f.img := rfl
@[simp] theorem Field.modGroup_out (f : Field) (n : Nat) (h : GroupRun → GroupRun) : (f.modGroup n h).out = f.out := rfl
@[simp] theorem Field.modGroup_time (f : Field) (n : Nat) (h : GroupRun → GroupRun) : (f.modGroup n h).time = f.time := rfl
@[simp] theorem Field.modGroup_draws (f : Field) (n : Nat) (h : GroupRun → GroupRun) : (f.modGroup n h).draws = f.draws := rfl
@[simp] theorem Field.modGroup_ctxs (f : Field) (n : Nat) (h : GroupRun → GroupRun) : (f.modGroup n h).ctxs = f.ctxs := rfl
@[simp] theorem Field.modGroup_slices (f : Field) (n : Nat) (h : GroupRun → GroupRun) : (f.modGroup n h).slices = f.slices := rfl
@[simp] theorem Field.modGroup_progs (f : Field) (n : Nat) (h : GroupRun → GroupRun) : (f.modGroup n h).progs = f.progs := rfl
@[simp] theorem Field.modGroup_trigs (f : Field) (n : Nat) (h : GroupRun → GroupRun) : (f.modGroup n h).trigs = f.trigs := rfl
@[simp] theorem Field.modGroup_trigSeen (f : Field) (n : Nat) (h : GroupRun → GroupRun) : (f.modGroup n h).trigSeen = f.trigSeen := rfl
@[simp] theorem Field.modGroup_syncout (f : Field) (n : Nat) (h : GroupRun → GroupRun) : (f.modGroup n h).syncout = f.syncout := rfl
@[simp] theorem Field.modGroup_tdacFault (f : Field) (n : Nat) (h : GroupRun → GroupRun) : (f.modGroup n h).tdacFault = f.tdacFault := rfl
@[simp] theorem Field.modGroup_onFrc (f : Field) (n : Nat) (h : GroupRun → GroupRun) : (f.modGroup n h).onFrc = f.onFrc := rfl
@[simp] theorem Field.modGroup_frcBad (f : Field) (n : Nat) (h : GroupRun → GroupRun) : (f.modGroup n h).frcBad = f.frcBad := rfl
@[simp] theorem Field.modGroup_recBad (f : Field) (n : Nat) (h : GroupRun → GroupRun) : (f.modGroup n h).recBad = f.recBad := rfl
@[simp] theorem Field.modGroup_degraded (f : Field) (n : Nat) (h : GroupRun → GroupRun) : (f.modGroup n h).degraded = f.degraded := rfl
@[simp] theorem Field.modGroup_returnAt (f : Field) (n : Nat) (h : GroupRun → GroupRun) : (f.modGroup n h).returnAt = f.returnAt := rfl
@[simp] theorem Field.modGroup_urgReqs (f : Field) (n : Nat) (h : GroupRun → GroupRun) : (f.modGroup n h).urgReqs = f.urgReqs := rfl
@[simp] theorem Field.modGroup_urgOver (f : Field) (n : Nat) (h : GroupRun → GroupRun) : (f.modGroup n h).urgOver = f.urgOver := rfl
@[simp] theorem Field.modGroup_rolesBack (f : Field) (n : Nat) (h : GroupRun → GroupRun) : (f.modGroup n h).rolesBack = f.rolesBack := rfl
@[simp] theorem Field.modGroup_diagGone (f : Field) (n : Nat) (h : GroupRun → GroupRun) : (f.modGroup n h).diagGone = f.diagGone := rfl
@[simp] theorem Field.modGroup_veto (f : Field) (n : Nat) (h : GroupRun → GroupRun) : (f.modGroup n h).veto = f.veto := rfl
@[simp] theorem Field.modGroup_deferred (f : Field) (n : Nat) (h : GroupRun → GroupRun) : (f.modGroup n h).deferred = f.deferred := rfl
@[simp] theorem Field.modGroup_rot (f : Field) (n : Nat) (h : GroupRun → GroupRun) : (f.modGroup n h).rot = f.rot := rfl
@[simp] theorem Field.modGroup_cal (f : Field) (n : Nat) (h : GroupRun → GroupRun) : (f.modGroup n h).cal = f.cal := rfl
@[simp] theorem Field.modGroup_snapq (f : Field) (n : Nat) (h : GroupRun → GroupRun) : (f.modGroup n h).snapq = f.snapq := rfl
@[simp] theorem Field.modGroup_exc (f : Field) (n : Nat) (h : GroupRun → GroupRun) : (f.modGroup n h).exc = f.exc := rfl
@[simp] theorem Field.modGroup_terms (f : Field) (n : Nat) (h : GroupRun → GroupRun) : (f.modGroup n h).terms = f.terms := rfl
@[simp] theorem Field.modGroup_steps (f : Field) (n : Nat) (h : GroupRun → GroupRun) : (f.modGroup n h).steps = f.steps := rfl
@[simp] theorem Field.modGroup_ruleHeld (f : Field) (n : Nat) (h : GroupRun → GroupRun) : (f.modGroup n h).ruleHeld = f.ruleHeld := rfl
@[simp] theorem Field.modGroup_gov (f : Field) (n : Nat) (h : GroupRun → GroupRun) : (f.modGroup n h).gov = f.gov := rfl
@[simp] theorem Field.modGroup_commits (f : Field) (n : Nat) (h : GroupRun → GroupRun) : (f.modGroup n h).commits = f.commits := rfl
@[simp] theorem Field.modGroup_resets (f : Field) (n : Nat) (h : GroupRun → GroupRun) : (f.modGroup n h).resets = f.resets := rfl
@[simp] theorem Field.modGroup_shutting (f : Field) (n : Nat) (h : GroupRun → GroupRun) : (f.modGroup n h).shutting = f.shutting := rfl
@[simp] theorem Field.modGroup_seqsLost (f : Field) (n : Nat) (h : GroupRun → GroupRun) : (f.modGroup n h).seqsLost = f.seqsLost := rfl
@[simp] theorem Field.modGroup_joined (f : Field) (n : Nat) (h : GroupRun → GroupRun) : (f.modGroup n h).joined = f.joined := rfl
@[simp] theorem Field.modGroup_ramp (f : Field) (n : Nat) (h : GroupRun → GroupRun) : (f.modGroup n h).ramp = f.ramp := rfl
@[simp] theorem Field.modGroup_dropped (f : Field) (n : Nat) (h : GroupRun → GroupRun) : (f.modGroup n h).dropped = f.dropped := rfl
@[simp] theorem Field.modGroup_noticed (f : Field) (n : Nat) (h : GroupRun → GroupRun) : (f.modGroup n h).noticed = f.noticed := rfl
@[simp] theorem Field.modGroup_notices (f : Field) (n : Nat) (h : GroupRun → GroupRun) : (f.modGroup n h).notices = f.notices := rfl
@[simp] theorem Field.modGroup_tn (f : Field) (n : Nat) (h : GroupRun → GroupRun) : (f.modGroup n h).tn = f.tn := rfl
@[simp] theorem Field.modGroup_tnMax (f : Field) (n : Nat) (h : GroupRun → GroupRun) : (f.modGroup n h).tnMax = f.tnMax := rfl
@[simp] theorem Field.modGroup_tnMoves (f : Field) (n : Nat) (h : GroupRun → GroupRun) : (f.modGroup n h).tnMoves = f.tnMoves := rfl
@[simp] theorem Field.modGroup_partnerShunts (f : Field) (n : Nat) (h : GroupRun → GroupRun) : (f.modGroup n h).partnerShunts = f.partnerShunts := rfl
@[simp] theorem Field.modGroup_bothShunts (f : Field) (n : Nat) (h : GroupRun → GroupRun) : (f.modGroup n h).bothShunts = f.bothShunts := rfl
@[simp] theorem Field.modGroup_partAt (f : Field) (n : Nat) (h : GroupRun → GroupRun) : (f.modGroup n h).partAt = f.partAt := rfl
@[simp] theorem Field.modGroup_crateHash (f : Field) (n : Nat) (h : GroupRun → GroupRun) : (f.modGroup n h).crateHash = f.crateHash := rfl
@[simp] theorem Field.modGroup_crateHead (f : Field) (n : Nat) (h : GroupRun → GroupRun) : (f.modGroup n h).crateHead = f.crateHead := rfl
@[simp] theorem Field.modGroup_at_g (f : Field) (n : Nat) (h : GroupRun → GroupRun) (y : Fld) : (f.modGroup n h).g y = f.g y := rfl
@[simp] theorem Field.modGroup_at_gb (f : Field) (n : Nat) (h : GroupRun → GroupRun) (y : Fld) : (f.modGroup n h).gb y = f.gb y := rfl
@[simp] theorem Field.modGroup_at_c (f : Field) (n : Nat) (h : GroupRun → GroupRun) (y : Fld) : (f.modGroup n h).c y = f.c y := rfl
@[simp] theorem Field.modGroup_at_cb (f : Field) (n : Nat) (h : GroupRun → GroupRun) (y : Fld) : (f.modGroup n h).cb y = f.cb y := rfl
@[simp] theorem Field.modGroup_at_func (f : Field) (n : Nat) (h : GroupRun → GroupRun) (k : Nat) : (f.modGroup n h).func k = f.func k := rfl
@[simp] theorem Field.modGroup_at_term (f : Field) (n : Nat) (h : GroupRun → GroupRun) (k : Nat) : (f.modGroup n h).term k = f.term k := rfl
@[simp] theorem Field.modGroup_at_step (f : Field) (n : Nat) (h : GroupRun → GroupRun) (k : Nat) : (f.modGroup n h).step k = f.step k := rfl
@[simp] theorem Field.modGroup_at_ctx (f : Field) (n : Nat) (h : GroupRun → GroupRun) (k : Nat) : (f.modGroup n h).ctx k = f.ctx k := rfl
@[simp] theorem Field.modGroup_at_slice (f : Field) (n : Nat) (h : GroupRun → GroupRun) (k : Nat) : (f.modGroup n h).slice k = f.slice k := rfl
@[simp] theorem Field.modGroup_at_prog (f : Field) (n : Nat) (h : GroupRun → GroupRun) (k : Nat) : (f.modGroup n h).prog k = f.prog k := rfl

/-! `Field.modCtx`. -/

@[simp] theorem Field.modCtx_released (f : Field) (n : Nat) (h : CtxRun → CtxRun) : (f.modCtx n h).released = f.released := rfl
@[simp] theorem Field.modCtx_configured (f : Field) (n : Nat) (h : CtxRun → CtxRun) : (f.modCtx n h).configured = f.configured := rfl
@[simp] theorem Field.modCtx_mode (f : Field) (n : Nat) (h : CtxRun → CtxRun) : (f.modCtx n h).mode = f.mode := rfl
@[simp] theorem Field.modCtx_paired (f : Field) (n : Nat) (h : CtxRun → CtxRun) : (f.modCtx n h).paired = f.paired := rfl
@[simp] theorem Field.modCtx_lead (f : Field) (n : Nat) (h : CtxRun → CtxRun) : (f.modCtx n h).lead = f.lead := rfl
@[simp] theorem Field.modCtx_wdArmed (f : Field) (n : Nat) (h : CtxRun → CtxRun) : (f.modCtx n h).wdArmed = f.wdArmed := rfl
@[simp] theorem Field.modCtx_handover (f : Field) (n : Nat) (h : CtxRun → CtxRun) : (f.modCtx n h).handover = f.handover := rfl
@[simp] theorem Field.modCtx_quiet (f : Field) (n : Nat) (h : CtxRun → CtxRun) : (f.modCtx n h).quiet = f.quiet := rfl
@[simp] theorem Field.modCtx_report (f : Field) (n : Nat) (h : CtxRun → CtxRun) : (f.modCtx n h).report = f.report := rfl
@[simp] theorem Field.modCtx_rolesDown (f : Field) (n : Nat) (h : CtxRun → CtxRun) : (f.modCtx n h).rolesDown = f.rolesDown := rfl
@[simp] theorem Field.modCtx_cfg (f : Field) (n : Nat) (h : CtxRun → CtxRun) : (f.modCtx n h).cfg = f.cfg := rfl
@[simp] theorem Field.modCtx_img (f : Field) (n : Nat) (h : CtxRun → CtxRun) : (f.modCtx n h).img = f.img := rfl
@[simp] theorem Field.modCtx_out (f : Field) (n : Nat) (h : CtxRun → CtxRun) : (f.modCtx n h).out = f.out := rfl
@[simp] theorem Field.modCtx_time (f : Field) (n : Nat) (h : CtxRun → CtxRun) : (f.modCtx n h).time = f.time := rfl
@[simp] theorem Field.modCtx_draws (f : Field) (n : Nat) (h : CtxRun → CtxRun) : (f.modCtx n h).draws = f.draws := rfl
@[simp] theorem Field.modCtx_slices (f : Field) (n : Nat) (h : CtxRun → CtxRun) : (f.modCtx n h).slices = f.slices := rfl
@[simp] theorem Field.modCtx_progs (f : Field) (n : Nat) (h : CtxRun → CtxRun) : (f.modCtx n h).progs = f.progs := rfl
@[simp] theorem Field.modCtx_trigs (f : Field) (n : Nat) (h : CtxRun → CtxRun) : (f.modCtx n h).trigs = f.trigs := rfl
@[simp] theorem Field.modCtx_trigSeen (f : Field) (n : Nat) (h : CtxRun → CtxRun) : (f.modCtx n h).trigSeen = f.trigSeen := rfl
@[simp] theorem Field.modCtx_syncout (f : Field) (n : Nat) (h : CtxRun → CtxRun) : (f.modCtx n h).syncout = f.syncout := rfl
@[simp] theorem Field.modCtx_tdacFault (f : Field) (n : Nat) (h : CtxRun → CtxRun) : (f.modCtx n h).tdacFault = f.tdacFault := rfl
@[simp] theorem Field.modCtx_onFrc (f : Field) (n : Nat) (h : CtxRun → CtxRun) : (f.modCtx n h).onFrc = f.onFrc := rfl
@[simp] theorem Field.modCtx_frcBad (f : Field) (n : Nat) (h : CtxRun → CtxRun) : (f.modCtx n h).frcBad = f.frcBad := rfl
@[simp] theorem Field.modCtx_recBad (f : Field) (n : Nat) (h : CtxRun → CtxRun) : (f.modCtx n h).recBad = f.recBad := rfl
@[simp] theorem Field.modCtx_degraded (f : Field) (n : Nat) (h : CtxRun → CtxRun) : (f.modCtx n h).degraded = f.degraded := rfl
@[simp] theorem Field.modCtx_returnAt (f : Field) (n : Nat) (h : CtxRun → CtxRun) : (f.modCtx n h).returnAt = f.returnAt := rfl
@[simp] theorem Field.modCtx_urgReqs (f : Field) (n : Nat) (h : CtxRun → CtxRun) : (f.modCtx n h).urgReqs = f.urgReqs := rfl
@[simp] theorem Field.modCtx_urgOver (f : Field) (n : Nat) (h : CtxRun → CtxRun) : (f.modCtx n h).urgOver = f.urgOver := rfl
@[simp] theorem Field.modCtx_rolesBack (f : Field) (n : Nat) (h : CtxRun → CtxRun) : (f.modCtx n h).rolesBack = f.rolesBack := rfl
@[simp] theorem Field.modCtx_diagGone (f : Field) (n : Nat) (h : CtxRun → CtxRun) : (f.modCtx n h).diagGone = f.diagGone := rfl
@[simp] theorem Field.modCtx_veto (f : Field) (n : Nat) (h : CtxRun → CtxRun) : (f.modCtx n h).veto = f.veto := rfl
@[simp] theorem Field.modCtx_deferred (f : Field) (n : Nat) (h : CtxRun → CtxRun) : (f.modCtx n h).deferred = f.deferred := rfl
@[simp] theorem Field.modCtx_rot (f : Field) (n : Nat) (h : CtxRun → CtxRun) : (f.modCtx n h).rot = f.rot := rfl
@[simp] theorem Field.modCtx_cal (f : Field) (n : Nat) (h : CtxRun → CtxRun) : (f.modCtx n h).cal = f.cal := rfl
@[simp] theorem Field.modCtx_snapq (f : Field) (n : Nat) (h : CtxRun → CtxRun) : (f.modCtx n h).snapq = f.snapq := rfl
@[simp] theorem Field.modCtx_exc (f : Field) (n : Nat) (h : CtxRun → CtxRun) : (f.modCtx n h).exc = f.exc := rfl
@[simp] theorem Field.modCtx_terms (f : Field) (n : Nat) (h : CtxRun → CtxRun) : (f.modCtx n h).terms = f.terms := rfl
@[simp] theorem Field.modCtx_steps (f : Field) (n : Nat) (h : CtxRun → CtxRun) : (f.modCtx n h).steps = f.steps := rfl
@[simp] theorem Field.modCtx_groups (f : Field) (n : Nat) (h : CtxRun → CtxRun) : (f.modCtx n h).groups = f.groups := rfl
@[simp] theorem Field.modCtx_ruleHeld (f : Field) (n : Nat) (h : CtxRun → CtxRun) : (f.modCtx n h).ruleHeld = f.ruleHeld := rfl
@[simp] theorem Field.modCtx_gov (f : Field) (n : Nat) (h : CtxRun → CtxRun) : (f.modCtx n h).gov = f.gov := rfl
@[simp] theorem Field.modCtx_commits (f : Field) (n : Nat) (h : CtxRun → CtxRun) : (f.modCtx n h).commits = f.commits := rfl
@[simp] theorem Field.modCtx_resets (f : Field) (n : Nat) (h : CtxRun → CtxRun) : (f.modCtx n h).resets = f.resets := rfl
@[simp] theorem Field.modCtx_shutting (f : Field) (n : Nat) (h : CtxRun → CtxRun) : (f.modCtx n h).shutting = f.shutting := rfl
@[simp] theorem Field.modCtx_seqsLost (f : Field) (n : Nat) (h : CtxRun → CtxRun) : (f.modCtx n h).seqsLost = f.seqsLost := rfl
@[simp] theorem Field.modCtx_joined (f : Field) (n : Nat) (h : CtxRun → CtxRun) : (f.modCtx n h).joined = f.joined := rfl
@[simp] theorem Field.modCtx_ramp (f : Field) (n : Nat) (h : CtxRun → CtxRun) : (f.modCtx n h).ramp = f.ramp := rfl
@[simp] theorem Field.modCtx_dropped (f : Field) (n : Nat) (h : CtxRun → CtxRun) : (f.modCtx n h).dropped = f.dropped := rfl
@[simp] theorem Field.modCtx_noticed (f : Field) (n : Nat) (h : CtxRun → CtxRun) : (f.modCtx n h).noticed = f.noticed := rfl
@[simp] theorem Field.modCtx_notices (f : Field) (n : Nat) (h : CtxRun → CtxRun) : (f.modCtx n h).notices = f.notices := rfl
@[simp] theorem Field.modCtx_tn (f : Field) (n : Nat) (h : CtxRun → CtxRun) : (f.modCtx n h).tn = f.tn := rfl
@[simp] theorem Field.modCtx_tnMax (f : Field) (n : Nat) (h : CtxRun → CtxRun) : (f.modCtx n h).tnMax = f.tnMax := rfl
@[simp] theorem Field.modCtx_tnMoves (f : Field) (n : Nat) (h : CtxRun → CtxRun) : (f.modCtx n h).tnMoves = f.tnMoves := rfl
@[simp] theorem Field.modCtx_partnerShunts (f : Field) (n : Nat) (h : CtxRun → CtxRun) : (f.modCtx n h).partnerShunts = f.partnerShunts := rfl
@[simp] theorem Field.modCtx_bothShunts (f : Field) (n : Nat) (h : CtxRun → CtxRun) : (f.modCtx n h).bothShunts = f.bothShunts := rfl
@[simp] theorem Field.modCtx_partAt (f : Field) (n : Nat) (h : CtxRun → CtxRun) : (f.modCtx n h).partAt = f.partAt := rfl
@[simp] theorem Field.modCtx_crateHash (f : Field) (n : Nat) (h : CtxRun → CtxRun) : (f.modCtx n h).crateHash = f.crateHash := rfl
@[simp] theorem Field.modCtx_crateHead (f : Field) (n : Nat) (h : CtxRun → CtxRun) : (f.modCtx n h).crateHead = f.crateHead := rfl
@[simp] theorem Field.modCtx_at_g (f : Field) (n : Nat) (h : CtxRun → CtxRun) (y : Fld) : (f.modCtx n h).g y = f.g y := rfl
@[simp] theorem Field.modCtx_at_gb (f : Field) (n : Nat) (h : CtxRun → CtxRun) (y : Fld) : (f.modCtx n h).gb y = f.gb y := rfl
@[simp] theorem Field.modCtx_at_c (f : Field) (n : Nat) (h : CtxRun → CtxRun) (y : Fld) : (f.modCtx n h).c y = f.c y := rfl
@[simp] theorem Field.modCtx_at_cb (f : Field) (n : Nat) (h : CtxRun → CtxRun) (y : Fld) : (f.modCtx n h).cb y = f.cb y := rfl
@[simp] theorem Field.modCtx_at_func (f : Field) (n : Nat) (h : CtxRun → CtxRun) (k : Nat) : (f.modCtx n h).func k = f.func k := rfl
@[simp] theorem Field.modCtx_at_term (f : Field) (n : Nat) (h : CtxRun → CtxRun) (k : Nat) : (f.modCtx n h).term k = f.term k := rfl
@[simp] theorem Field.modCtx_at_step (f : Field) (n : Nat) (h : CtxRun → CtxRun) (k : Nat) : (f.modCtx n h).step k = f.step k := rfl
@[simp] theorem Field.modCtx_at_group (f : Field) (n : Nat) (h : CtxRun → CtxRun) (k : Nat) : (f.modCtx n h).group k = f.group k := rfl
@[simp] theorem Field.modCtx_at_slice (f : Field) (n : Nat) (h : CtxRun → CtxRun) (k : Nat) : (f.modCtx n h).slice k = f.slice k := rfl
@[simp] theorem Field.modCtx_at_prog (f : Field) (n : Nat) (h : CtxRun → CtxRun) (k : Nat) : (f.modCtx n h).prog k = f.prog k := rfl

/-! `Field.modSlice`. -/

@[simp] theorem Field.modSlice_released (f : Field) (n : Nat) (h : SliceRun → SliceRun) : (f.modSlice n h).released = f.released := rfl
@[simp] theorem Field.modSlice_configured (f : Field) (n : Nat) (h : SliceRun → SliceRun) : (f.modSlice n h).configured = f.configured := rfl
@[simp] theorem Field.modSlice_mode (f : Field) (n : Nat) (h : SliceRun → SliceRun) : (f.modSlice n h).mode = f.mode := rfl
@[simp] theorem Field.modSlice_paired (f : Field) (n : Nat) (h : SliceRun → SliceRun) : (f.modSlice n h).paired = f.paired := rfl
@[simp] theorem Field.modSlice_lead (f : Field) (n : Nat) (h : SliceRun → SliceRun) : (f.modSlice n h).lead = f.lead := rfl
@[simp] theorem Field.modSlice_wdArmed (f : Field) (n : Nat) (h : SliceRun → SliceRun) : (f.modSlice n h).wdArmed = f.wdArmed := rfl
@[simp] theorem Field.modSlice_handover (f : Field) (n : Nat) (h : SliceRun → SliceRun) : (f.modSlice n h).handover = f.handover := rfl
@[simp] theorem Field.modSlice_quiet (f : Field) (n : Nat) (h : SliceRun → SliceRun) : (f.modSlice n h).quiet = f.quiet := rfl
@[simp] theorem Field.modSlice_report (f : Field) (n : Nat) (h : SliceRun → SliceRun) : (f.modSlice n h).report = f.report := rfl
@[simp] theorem Field.modSlice_rolesDown (f : Field) (n : Nat) (h : SliceRun → SliceRun) : (f.modSlice n h).rolesDown = f.rolesDown := rfl
@[simp] theorem Field.modSlice_cfg (f : Field) (n : Nat) (h : SliceRun → SliceRun) : (f.modSlice n h).cfg = f.cfg := rfl
@[simp] theorem Field.modSlice_img (f : Field) (n : Nat) (h : SliceRun → SliceRun) : (f.modSlice n h).img = f.img := rfl
@[simp] theorem Field.modSlice_out (f : Field) (n : Nat) (h : SliceRun → SliceRun) : (f.modSlice n h).out = f.out := rfl
@[simp] theorem Field.modSlice_time (f : Field) (n : Nat) (h : SliceRun → SliceRun) : (f.modSlice n h).time = f.time := rfl
@[simp] theorem Field.modSlice_draws (f : Field) (n : Nat) (h : SliceRun → SliceRun) : (f.modSlice n h).draws = f.draws := rfl
@[simp] theorem Field.modSlice_ctxs (f : Field) (n : Nat) (h : SliceRun → SliceRun) : (f.modSlice n h).ctxs = f.ctxs := rfl
@[simp] theorem Field.modSlice_progs (f : Field) (n : Nat) (h : SliceRun → SliceRun) : (f.modSlice n h).progs = f.progs := rfl
@[simp] theorem Field.modSlice_trigs (f : Field) (n : Nat) (h : SliceRun → SliceRun) : (f.modSlice n h).trigs = f.trigs := rfl
@[simp] theorem Field.modSlice_trigSeen (f : Field) (n : Nat) (h : SliceRun → SliceRun) : (f.modSlice n h).trigSeen = f.trigSeen := rfl
@[simp] theorem Field.modSlice_syncout (f : Field) (n : Nat) (h : SliceRun → SliceRun) : (f.modSlice n h).syncout = f.syncout := rfl
@[simp] theorem Field.modSlice_tdacFault (f : Field) (n : Nat) (h : SliceRun → SliceRun) : (f.modSlice n h).tdacFault = f.tdacFault := rfl
@[simp] theorem Field.modSlice_onFrc (f : Field) (n : Nat) (h : SliceRun → SliceRun) : (f.modSlice n h).onFrc = f.onFrc := rfl
@[simp] theorem Field.modSlice_frcBad (f : Field) (n : Nat) (h : SliceRun → SliceRun) : (f.modSlice n h).frcBad = f.frcBad := rfl
@[simp] theorem Field.modSlice_recBad (f : Field) (n : Nat) (h : SliceRun → SliceRun) : (f.modSlice n h).recBad = f.recBad := rfl
@[simp] theorem Field.modSlice_degraded (f : Field) (n : Nat) (h : SliceRun → SliceRun) : (f.modSlice n h).degraded = f.degraded := rfl
@[simp] theorem Field.modSlice_returnAt (f : Field) (n : Nat) (h : SliceRun → SliceRun) : (f.modSlice n h).returnAt = f.returnAt := rfl
@[simp] theorem Field.modSlice_urgReqs (f : Field) (n : Nat) (h : SliceRun → SliceRun) : (f.modSlice n h).urgReqs = f.urgReqs := rfl
@[simp] theorem Field.modSlice_urgOver (f : Field) (n : Nat) (h : SliceRun → SliceRun) : (f.modSlice n h).urgOver = f.urgOver := rfl
@[simp] theorem Field.modSlice_rolesBack (f : Field) (n : Nat) (h : SliceRun → SliceRun) : (f.modSlice n h).rolesBack = f.rolesBack := rfl
@[simp] theorem Field.modSlice_diagGone (f : Field) (n : Nat) (h : SliceRun → SliceRun) : (f.modSlice n h).diagGone = f.diagGone := rfl
@[simp] theorem Field.modSlice_veto (f : Field) (n : Nat) (h : SliceRun → SliceRun) : (f.modSlice n h).veto = f.veto := rfl
@[simp] theorem Field.modSlice_deferred (f : Field) (n : Nat) (h : SliceRun → SliceRun) : (f.modSlice n h).deferred = f.deferred := rfl
@[simp] theorem Field.modSlice_rot (f : Field) (n : Nat) (h : SliceRun → SliceRun) : (f.modSlice n h).rot = f.rot := rfl
@[simp] theorem Field.modSlice_cal (f : Field) (n : Nat) (h : SliceRun → SliceRun) : (f.modSlice n h).cal = f.cal := rfl
@[simp] theorem Field.modSlice_snapq (f : Field) (n : Nat) (h : SliceRun → SliceRun) : (f.modSlice n h).snapq = f.snapq := rfl
@[simp] theorem Field.modSlice_exc (f : Field) (n : Nat) (h : SliceRun → SliceRun) : (f.modSlice n h).exc = f.exc := rfl
@[simp] theorem Field.modSlice_terms (f : Field) (n : Nat) (h : SliceRun → SliceRun) : (f.modSlice n h).terms = f.terms := rfl
@[simp] theorem Field.modSlice_steps (f : Field) (n : Nat) (h : SliceRun → SliceRun) : (f.modSlice n h).steps = f.steps := rfl
@[simp] theorem Field.modSlice_groups (f : Field) (n : Nat) (h : SliceRun → SliceRun) : (f.modSlice n h).groups = f.groups := rfl
@[simp] theorem Field.modSlice_ruleHeld (f : Field) (n : Nat) (h : SliceRun → SliceRun) : (f.modSlice n h).ruleHeld = f.ruleHeld := rfl
@[simp] theorem Field.modSlice_gov (f : Field) (n : Nat) (h : SliceRun → SliceRun) : (f.modSlice n h).gov = f.gov := rfl
@[simp] theorem Field.modSlice_commits (f : Field) (n : Nat) (h : SliceRun → SliceRun) : (f.modSlice n h).commits = f.commits := rfl
@[simp] theorem Field.modSlice_resets (f : Field) (n : Nat) (h : SliceRun → SliceRun) : (f.modSlice n h).resets = f.resets := rfl
@[simp] theorem Field.modSlice_shutting (f : Field) (n : Nat) (h : SliceRun → SliceRun) : (f.modSlice n h).shutting = f.shutting := rfl
@[simp] theorem Field.modSlice_seqsLost (f : Field) (n : Nat) (h : SliceRun → SliceRun) : (f.modSlice n h).seqsLost = f.seqsLost := rfl
@[simp] theorem Field.modSlice_joined (f : Field) (n : Nat) (h : SliceRun → SliceRun) : (f.modSlice n h).joined = f.joined := rfl
@[simp] theorem Field.modSlice_ramp (f : Field) (n : Nat) (h : SliceRun → SliceRun) : (f.modSlice n h).ramp = f.ramp := rfl
@[simp] theorem Field.modSlice_dropped (f : Field) (n : Nat) (h : SliceRun → SliceRun) : (f.modSlice n h).dropped = f.dropped := rfl
@[simp] theorem Field.modSlice_noticed (f : Field) (n : Nat) (h : SliceRun → SliceRun) : (f.modSlice n h).noticed = f.noticed := rfl
@[simp] theorem Field.modSlice_notices (f : Field) (n : Nat) (h : SliceRun → SliceRun) : (f.modSlice n h).notices = f.notices := rfl
@[simp] theorem Field.modSlice_tn (f : Field) (n : Nat) (h : SliceRun → SliceRun) : (f.modSlice n h).tn = f.tn := rfl
@[simp] theorem Field.modSlice_tnMax (f : Field) (n : Nat) (h : SliceRun → SliceRun) : (f.modSlice n h).tnMax = f.tnMax := rfl
@[simp] theorem Field.modSlice_tnMoves (f : Field) (n : Nat) (h : SliceRun → SliceRun) : (f.modSlice n h).tnMoves = f.tnMoves := rfl
@[simp] theorem Field.modSlice_partnerShunts (f : Field) (n : Nat) (h : SliceRun → SliceRun) : (f.modSlice n h).partnerShunts = f.partnerShunts := rfl
@[simp] theorem Field.modSlice_bothShunts (f : Field) (n : Nat) (h : SliceRun → SliceRun) : (f.modSlice n h).bothShunts = f.bothShunts := rfl
@[simp] theorem Field.modSlice_partAt (f : Field) (n : Nat) (h : SliceRun → SliceRun) : (f.modSlice n h).partAt = f.partAt := rfl
@[simp] theorem Field.modSlice_crateHash (f : Field) (n : Nat) (h : SliceRun → SliceRun) : (f.modSlice n h).crateHash = f.crateHash := rfl
@[simp] theorem Field.modSlice_crateHead (f : Field) (n : Nat) (h : SliceRun → SliceRun) : (f.modSlice n h).crateHead = f.crateHead := rfl
@[simp] theorem Field.modSlice_at_g (f : Field) (n : Nat) (h : SliceRun → SliceRun) (y : Fld) : (f.modSlice n h).g y = f.g y := rfl
@[simp] theorem Field.modSlice_at_gb (f : Field) (n : Nat) (h : SliceRun → SliceRun) (y : Fld) : (f.modSlice n h).gb y = f.gb y := rfl
@[simp] theorem Field.modSlice_at_c (f : Field) (n : Nat) (h : SliceRun → SliceRun) (y : Fld) : (f.modSlice n h).c y = f.c y := rfl
@[simp] theorem Field.modSlice_at_cb (f : Field) (n : Nat) (h : SliceRun → SliceRun) (y : Fld) : (f.modSlice n h).cb y = f.cb y := rfl
@[simp] theorem Field.modSlice_at_func (f : Field) (n : Nat) (h : SliceRun → SliceRun) (k : Nat) : (f.modSlice n h).func k = f.func k := rfl
@[simp] theorem Field.modSlice_at_term (f : Field) (n : Nat) (h : SliceRun → SliceRun) (k : Nat) : (f.modSlice n h).term k = f.term k := rfl
@[simp] theorem Field.modSlice_at_step (f : Field) (n : Nat) (h : SliceRun → SliceRun) (k : Nat) : (f.modSlice n h).step k = f.step k := rfl
@[simp] theorem Field.modSlice_at_group (f : Field) (n : Nat) (h : SliceRun → SliceRun) (k : Nat) : (f.modSlice n h).group k = f.group k := rfl
@[simp] theorem Field.modSlice_at_ctx (f : Field) (n : Nat) (h : SliceRun → SliceRun) (k : Nat) : (f.modSlice n h).ctx k = f.ctx k := rfl
@[simp] theorem Field.modSlice_at_prog (f : Field) (n : Nat) (h : SliceRun → SliceRun) (k : Nat) : (f.modSlice n h).prog k = f.prog k := rfl

/-! `Field.modProg`. -/

@[simp] theorem Field.modProg_released (f : Field) (n : Nat) (h : ProgRun → ProgRun) : (f.modProg n h).released = f.released := rfl
@[simp] theorem Field.modProg_configured (f : Field) (n : Nat) (h : ProgRun → ProgRun) : (f.modProg n h).configured = f.configured := rfl
@[simp] theorem Field.modProg_mode (f : Field) (n : Nat) (h : ProgRun → ProgRun) : (f.modProg n h).mode = f.mode := rfl
@[simp] theorem Field.modProg_paired (f : Field) (n : Nat) (h : ProgRun → ProgRun) : (f.modProg n h).paired = f.paired := rfl
@[simp] theorem Field.modProg_lead (f : Field) (n : Nat) (h : ProgRun → ProgRun) : (f.modProg n h).lead = f.lead := rfl
@[simp] theorem Field.modProg_wdArmed (f : Field) (n : Nat) (h : ProgRun → ProgRun) : (f.modProg n h).wdArmed = f.wdArmed := rfl
@[simp] theorem Field.modProg_handover (f : Field) (n : Nat) (h : ProgRun → ProgRun) : (f.modProg n h).handover = f.handover := rfl
@[simp] theorem Field.modProg_quiet (f : Field) (n : Nat) (h : ProgRun → ProgRun) : (f.modProg n h).quiet = f.quiet := rfl
@[simp] theorem Field.modProg_report (f : Field) (n : Nat) (h : ProgRun → ProgRun) : (f.modProg n h).report = f.report := rfl
@[simp] theorem Field.modProg_rolesDown (f : Field) (n : Nat) (h : ProgRun → ProgRun) : (f.modProg n h).rolesDown = f.rolesDown := rfl
@[simp] theorem Field.modProg_cfg (f : Field) (n : Nat) (h : ProgRun → ProgRun) : (f.modProg n h).cfg = f.cfg := rfl
@[simp] theorem Field.modProg_img (f : Field) (n : Nat) (h : ProgRun → ProgRun) : (f.modProg n h).img = f.img := rfl
@[simp] theorem Field.modProg_out (f : Field) (n : Nat) (h : ProgRun → ProgRun) : (f.modProg n h).out = f.out := rfl
@[simp] theorem Field.modProg_time (f : Field) (n : Nat) (h : ProgRun → ProgRun) : (f.modProg n h).time = f.time := rfl
@[simp] theorem Field.modProg_draws (f : Field) (n : Nat) (h : ProgRun → ProgRun) : (f.modProg n h).draws = f.draws := rfl
@[simp] theorem Field.modProg_ctxs (f : Field) (n : Nat) (h : ProgRun → ProgRun) : (f.modProg n h).ctxs = f.ctxs := rfl
@[simp] theorem Field.modProg_slices (f : Field) (n : Nat) (h : ProgRun → ProgRun) : (f.modProg n h).slices = f.slices := rfl
@[simp] theorem Field.modProg_trigs (f : Field) (n : Nat) (h : ProgRun → ProgRun) : (f.modProg n h).trigs = f.trigs := rfl
@[simp] theorem Field.modProg_trigSeen (f : Field) (n : Nat) (h : ProgRun → ProgRun) : (f.modProg n h).trigSeen = f.trigSeen := rfl
@[simp] theorem Field.modProg_syncout (f : Field) (n : Nat) (h : ProgRun → ProgRun) : (f.modProg n h).syncout = f.syncout := rfl
@[simp] theorem Field.modProg_tdacFault (f : Field) (n : Nat) (h : ProgRun → ProgRun) : (f.modProg n h).tdacFault = f.tdacFault := rfl
@[simp] theorem Field.modProg_onFrc (f : Field) (n : Nat) (h : ProgRun → ProgRun) : (f.modProg n h).onFrc = f.onFrc := rfl
@[simp] theorem Field.modProg_frcBad (f : Field) (n : Nat) (h : ProgRun → ProgRun) : (f.modProg n h).frcBad = f.frcBad := rfl
@[simp] theorem Field.modProg_recBad (f : Field) (n : Nat) (h : ProgRun → ProgRun) : (f.modProg n h).recBad = f.recBad := rfl
@[simp] theorem Field.modProg_degraded (f : Field) (n : Nat) (h : ProgRun → ProgRun) : (f.modProg n h).degraded = f.degraded := rfl
@[simp] theorem Field.modProg_returnAt (f : Field) (n : Nat) (h : ProgRun → ProgRun) : (f.modProg n h).returnAt = f.returnAt := rfl
@[simp] theorem Field.modProg_urgReqs (f : Field) (n : Nat) (h : ProgRun → ProgRun) : (f.modProg n h).urgReqs = f.urgReqs := rfl
@[simp] theorem Field.modProg_urgOver (f : Field) (n : Nat) (h : ProgRun → ProgRun) : (f.modProg n h).urgOver = f.urgOver := rfl
@[simp] theorem Field.modProg_rolesBack (f : Field) (n : Nat) (h : ProgRun → ProgRun) : (f.modProg n h).rolesBack = f.rolesBack := rfl
@[simp] theorem Field.modProg_diagGone (f : Field) (n : Nat) (h : ProgRun → ProgRun) : (f.modProg n h).diagGone = f.diagGone := rfl
@[simp] theorem Field.modProg_veto (f : Field) (n : Nat) (h : ProgRun → ProgRun) : (f.modProg n h).veto = f.veto := rfl
@[simp] theorem Field.modProg_deferred (f : Field) (n : Nat) (h : ProgRun → ProgRun) : (f.modProg n h).deferred = f.deferred := rfl
@[simp] theorem Field.modProg_rot (f : Field) (n : Nat) (h : ProgRun → ProgRun) : (f.modProg n h).rot = f.rot := rfl
@[simp] theorem Field.modProg_cal (f : Field) (n : Nat) (h : ProgRun → ProgRun) : (f.modProg n h).cal = f.cal := rfl
@[simp] theorem Field.modProg_snapq (f : Field) (n : Nat) (h : ProgRun → ProgRun) : (f.modProg n h).snapq = f.snapq := rfl
@[simp] theorem Field.modProg_exc (f : Field) (n : Nat) (h : ProgRun → ProgRun) : (f.modProg n h).exc = f.exc := rfl
@[simp] theorem Field.modProg_terms (f : Field) (n : Nat) (h : ProgRun → ProgRun) : (f.modProg n h).terms = f.terms := rfl
@[simp] theorem Field.modProg_steps (f : Field) (n : Nat) (h : ProgRun → ProgRun) : (f.modProg n h).steps = f.steps := rfl
@[simp] theorem Field.modProg_groups (f : Field) (n : Nat) (h : ProgRun → ProgRun) : (f.modProg n h).groups = f.groups := rfl
@[simp] theorem Field.modProg_ruleHeld (f : Field) (n : Nat) (h : ProgRun → ProgRun) : (f.modProg n h).ruleHeld = f.ruleHeld := rfl
@[simp] theorem Field.modProg_gov (f : Field) (n : Nat) (h : ProgRun → ProgRun) : (f.modProg n h).gov = f.gov := rfl
@[simp] theorem Field.modProg_commits (f : Field) (n : Nat) (h : ProgRun → ProgRun) : (f.modProg n h).commits = f.commits := rfl
@[simp] theorem Field.modProg_resets (f : Field) (n : Nat) (h : ProgRun → ProgRun) : (f.modProg n h).resets = f.resets := rfl
@[simp] theorem Field.modProg_shutting (f : Field) (n : Nat) (h : ProgRun → ProgRun) : (f.modProg n h).shutting = f.shutting := rfl
@[simp] theorem Field.modProg_seqsLost (f : Field) (n : Nat) (h : ProgRun → ProgRun) : (f.modProg n h).seqsLost = f.seqsLost := rfl
@[simp] theorem Field.modProg_joined (f : Field) (n : Nat) (h : ProgRun → ProgRun) : (f.modProg n h).joined = f.joined := rfl
@[simp] theorem Field.modProg_ramp (f : Field) (n : Nat) (h : ProgRun → ProgRun) : (f.modProg n h).ramp = f.ramp := rfl
@[simp] theorem Field.modProg_dropped (f : Field) (n : Nat) (h : ProgRun → ProgRun) : (f.modProg n h).dropped = f.dropped := rfl
@[simp] theorem Field.modProg_noticed (f : Field) (n : Nat) (h : ProgRun → ProgRun) : (f.modProg n h).noticed = f.noticed := rfl
@[simp] theorem Field.modProg_notices (f : Field) (n : Nat) (h : ProgRun → ProgRun) : (f.modProg n h).notices = f.notices := rfl
@[simp] theorem Field.modProg_tn (f : Field) (n : Nat) (h : ProgRun → ProgRun) : (f.modProg n h).tn = f.tn := rfl
@[simp] theorem Field.modProg_tnMax (f : Field) (n : Nat) (h : ProgRun → ProgRun) : (f.modProg n h).tnMax = f.tnMax := rfl
@[simp] theorem Field.modProg_tnMoves (f : Field) (n : Nat) (h : ProgRun → ProgRun) : (f.modProg n h).tnMoves = f.tnMoves := rfl
@[simp] theorem Field.modProg_partnerShunts (f : Field) (n : Nat) (h : ProgRun → ProgRun) : (f.modProg n h).partnerShunts = f.partnerShunts := rfl
@[simp] theorem Field.modProg_bothShunts (f : Field) (n : Nat) (h : ProgRun → ProgRun) : (f.modProg n h).bothShunts = f.bothShunts := rfl
@[simp] theorem Field.modProg_partAt (f : Field) (n : Nat) (h : ProgRun → ProgRun) : (f.modProg n h).partAt = f.partAt := rfl
@[simp] theorem Field.modProg_crateHash (f : Field) (n : Nat) (h : ProgRun → ProgRun) : (f.modProg n h).crateHash = f.crateHash := rfl
@[simp] theorem Field.modProg_crateHead (f : Field) (n : Nat) (h : ProgRun → ProgRun) : (f.modProg n h).crateHead = f.crateHead := rfl
@[simp] theorem Field.modProg_at_g (f : Field) (n : Nat) (h : ProgRun → ProgRun) (y : Fld) : (f.modProg n h).g y = f.g y := rfl
@[simp] theorem Field.modProg_at_gb (f : Field) (n : Nat) (h : ProgRun → ProgRun) (y : Fld) : (f.modProg n h).gb y = f.gb y := rfl
@[simp] theorem Field.modProg_at_c (f : Field) (n : Nat) (h : ProgRun → ProgRun) (y : Fld) : (f.modProg n h).c y = f.c y := rfl
@[simp] theorem Field.modProg_at_cb (f : Field) (n : Nat) (h : ProgRun → ProgRun) (y : Fld) : (f.modProg n h).cb y = f.cb y := rfl
@[simp] theorem Field.modProg_at_func (f : Field) (n : Nat) (h : ProgRun → ProgRun) (k : Nat) : (f.modProg n h).func k = f.func k := rfl
@[simp] theorem Field.modProg_at_term (f : Field) (n : Nat) (h : ProgRun → ProgRun) (k : Nat) : (f.modProg n h).term k = f.term k := rfl
@[simp] theorem Field.modProg_at_step (f : Field) (n : Nat) (h : ProgRun → ProgRun) (k : Nat) : (f.modProg n h).step k = f.step k := rfl
@[simp] theorem Field.modProg_at_group (f : Field) (n : Nat) (h : ProgRun → ProgRun) (k : Nat) : (f.modProg n h).group k = f.group k := rfl
@[simp] theorem Field.modProg_at_ctx (f : Field) (n : Nat) (h : ProgRun → ProgRun) (k : Nat) : (f.modProg n h).ctx k = f.ctx k := rfl
@[simp] theorem Field.modProg_at_slice (f : Field) (n : Nat) (h : ProgRun → ProgRun) (k : Nat) : (f.modProg n h).slice k = f.slice k := rfl

/-! `Logic.put`. -/

@[simp] theorem Logic.put_time (l : Logic) (x : Fld) (v : Nat) : (l.put x v).time = l.time := rfl
@[simp] theorem Logic.put_frac (l : Logic) (x : Fld) (v : Nat) : (l.put x v).frac = l.frac := rfl
@[simp] theorem Logic.put_mode (l : Logic) (x : Fld) (v : Nat) : (l.put x v).mode = l.mode := rfl
@[simp] theorem Logic.put_linkUp (l : Logic) (x : Fld) (v : Nat) : (l.put x v).linkUp = l.linkUp := rfl
@[simp] theorem Logic.put_raised (l : Logic) (x : Fld) (v : Nat) : (l.put x v).raised = l.raised := rfl
@[simp] theorem Logic.put_recs (l : Logic) (x : Fld) (v : Nat) : (l.put x v).recs = l.recs := rfl
@[simp] theorem Logic.put_draws (l : Logic) (x : Fld) (v : Nat) : (l.put x v).draws = l.draws := rfl
@[simp] theorem Logic.put_errout (l : Logic) (x : Fld) (v : Nat) : (l.put x v).errout = l.errout := rfl
@[simp] theorem Logic.put_minw (l : Logic) (x : Fld) (v : Nat) : (l.put x v).minw = l.minw := rfl
@[simp] theorem Logic.put_timeBad (l : Logic) (x : Fld) (v : Nat) : (l.put x v).timeBad = l.timeBad := rfl
@[simp] theorem Logic.put_resets (l : Logic) (x : Fld) (v : Nat) : (l.put x v).resets = l.resets := rfl
@[simp] theorem Logic.put_shutting (l : Logic) (x : Fld) (v : Nat) : (l.put x v).shutting = l.shutting := rfl
@[simp] theorem Logic.put_lifes (l : Logic) (x : Fld) (v : Nat) : (l.put x v).lifes = l.lifes := rfl
@[simp] theorem Logic.put_released (l : Logic) (x : Fld) (v : Nat) : (l.put x v).released = l.released := rfl
@[simp] theorem Logic.put_owned (l : Logic) (x : Fld) (v : Nat) : (l.put x v).owned = l.owned := rfl
@[simp] theorem Logic.put_boot (l : Logic) (x : Fld) (v : Nat) : (l.put x v).boot = l.boot := rfl
@[simp] theorem Logic.put_bar (l : Logic) (x : Fld) (v : Nat) : (l.put x v).bar = l.bar := rfl
@[simp] theorem Logic.put_cores (l : Logic) (x : Fld) (v : Nat) : (l.put x v).cores = l.cores := rfl
@[simp] theorem Logic.put_mem (l : Logic) (x : Fld) (v : Nat) : (l.put x v).mem = l.mem := rfl
@[simp] theorem Logic.put_host (l : Logic) (x : Fld) (v : Nat) : (l.put x v).host = l.host := rfl
@[simp] theorem Logic.put_sess (l : Logic) (x : Fld) (v : Nat) : (l.put x v).sess = l.sess := rfl
@[simp] theorem Logic.put_crate (l : Logic) (x : Fld) (v : Nat) : (l.put x v).crate = l.crate := rfl
@[simp] theorem Logic.put_cellar (l : Logic) (x : Fld) (v : Nat) : (l.put x v).cellar = l.cellar := rfl
@[simp] theorem Logic.put_clocks (l : Logic) (x : Fld) (v : Nat) : (l.put x v).clocks = l.clocks := rfl
@[simp] theorem Logic.put_wdog (l : Logic) (x : Fld) (v : Nat) : (l.put x v).wdog = l.wdog := rfl
@[simp] theorem Logic.put_faults (l : Logic) (x : Fld) (v : Nat) : (l.put x v).faults = l.faults := rfl
@[simp] theorem Logic.put_loft (l : Logic) (x : Fld) (v : Nat) : (l.put x v).loft = l.loft := rfl
@[simp] theorem Logic.put_larder (l : Logic) (x : Fld) (v : Nat) : (l.put x v).larder = l.larder := rfl
@[simp] theorem Logic.put_pair (l : Logic) (x : Fld) (v : Nat) : (l.put x v).pair = l.pair := rfl
@[simp] theorem Logic.put_mram (l : Logic) (x : Fld) (v : Nat) : (l.put x v).mram = l.mram := rfl
@[simp] theorem Logic.put_at_spares (l : Logic) (x : Fld) (v : Nat) (k : Nat) : (l.put x v).spares k = l.spares k := rfl
@[simp] theorem Logic.put_at_inSvc (l : Logic) (x : Fld) (v : Nat) (k : Nat) : (l.put x v).inSvc k = l.inSvc k := rfl
@[simp] theorem Logic.put_at_isRetired (l : Logic) (x : Fld) (v : Nat) (k i : Nat) : (l.put x v).isRetired k i = l.isRetired k i := rfl

/-! `Logic.bump`. -/

@[simp] theorem Logic.bump_time (l : Logic) (x : Fld) : (l.bump x).time = l.time := rfl
@[simp] theorem Logic.bump_frac (l : Logic) (x : Fld) : (l.bump x).frac = l.frac := rfl
@[simp] theorem Logic.bump_mode (l : Logic) (x : Fld) : (l.bump x).mode = l.mode := rfl
@[simp] theorem Logic.bump_linkUp (l : Logic) (x : Fld) : (l.bump x).linkUp = l.linkUp := rfl
@[simp] theorem Logic.bump_raised (l : Logic) (x : Fld) : (l.bump x).raised = l.raised := rfl
@[simp] theorem Logic.bump_recs (l : Logic) (x : Fld) : (l.bump x).recs = l.recs := rfl
@[simp] theorem Logic.bump_draws (l : Logic) (x : Fld) : (l.bump x).draws = l.draws := rfl
@[simp] theorem Logic.bump_errout (l : Logic) (x : Fld) : (l.bump x).errout = l.errout := rfl
@[simp] theorem Logic.bump_minw (l : Logic) (x : Fld) : (l.bump x).minw = l.minw := rfl
@[simp] theorem Logic.bump_timeBad (l : Logic) (x : Fld) : (l.bump x).timeBad = l.timeBad := rfl
@[simp] theorem Logic.bump_resets (l : Logic) (x : Fld) : (l.bump x).resets = l.resets := rfl
@[simp] theorem Logic.bump_shutting (l : Logic) (x : Fld) : (l.bump x).shutting = l.shutting := rfl
@[simp] theorem Logic.bump_lifes (l : Logic) (x : Fld) : (l.bump x).lifes = l.lifes := rfl
@[simp] theorem Logic.bump_released (l : Logic) (x : Fld) : (l.bump x).released = l.released := rfl
@[simp] theorem Logic.bump_owned (l : Logic) (x : Fld) : (l.bump x).owned = l.owned := rfl
@[simp] theorem Logic.bump_boot (l : Logic) (x : Fld) : (l.bump x).boot = l.boot := rfl
@[simp] theorem Logic.bump_bar (l : Logic) (x : Fld) : (l.bump x).bar = l.bar := rfl
@[simp] theorem Logic.bump_cores (l : Logic) (x : Fld) : (l.bump x).cores = l.cores := rfl
@[simp] theorem Logic.bump_mem (l : Logic) (x : Fld) : (l.bump x).mem = l.mem := rfl
@[simp] theorem Logic.bump_host (l : Logic) (x : Fld) : (l.bump x).host = l.host := rfl
@[simp] theorem Logic.bump_sess (l : Logic) (x : Fld) : (l.bump x).sess = l.sess := rfl
@[simp] theorem Logic.bump_crate (l : Logic) (x : Fld) : (l.bump x).crate = l.crate := rfl
@[simp] theorem Logic.bump_cellar (l : Logic) (x : Fld) : (l.bump x).cellar = l.cellar := rfl
@[simp] theorem Logic.bump_clocks (l : Logic) (x : Fld) : (l.bump x).clocks = l.clocks := rfl
@[simp] theorem Logic.bump_wdog (l : Logic) (x : Fld) : (l.bump x).wdog = l.wdog := rfl
@[simp] theorem Logic.bump_faults (l : Logic) (x : Fld) : (l.bump x).faults = l.faults := rfl
@[simp] theorem Logic.bump_loft (l : Logic) (x : Fld) : (l.bump x).loft = l.loft := rfl
@[simp] theorem Logic.bump_larder (l : Logic) (x : Fld) : (l.bump x).larder = l.larder := rfl
@[simp] theorem Logic.bump_pair (l : Logic) (x : Fld) : (l.bump x).pair = l.pair := rfl
@[simp] theorem Logic.bump_mram (l : Logic) (x : Fld) : (l.bump x).mram = l.mram := rfl
@[simp] theorem Logic.bump_at_spares (l : Logic) (x : Fld) (k : Nat) : (l.bump x).spares k = l.spares k := rfl
@[simp] theorem Logic.bump_at_inSvc (l : Logic) (x : Fld) (k : Nat) : (l.bump x).inSvc k = l.inSvc k := rfl
@[simp] theorem Logic.bump_at_isRetired (l : Logic) (x : Fld) (k i : Nat) : (l.bump x).isRetired k i = l.isRetired k i := rfl

/-! `Logic.putWord`. -/

@[simp] theorem Logic.putWord_time (l : Logic) (a : Nat) (w : Word) : (l.putWord a w).time = l.time := rfl
@[simp] theorem Logic.putWord_frac (l : Logic) (a : Nat) (w : Word) : (l.putWord a w).frac = l.frac := rfl
@[simp] theorem Logic.putWord_mode (l : Logic) (a : Nat) (w : Word) : (l.putWord a w).mode = l.mode := rfl
@[simp] theorem Logic.putWord_linkUp (l : Logic) (a : Nat) (w : Word) : (l.putWord a w).linkUp = l.linkUp := rfl
@[simp] theorem Logic.putWord_raised (l : Logic) (a : Nat) (w : Word) : (l.putWord a w).raised = l.raised := rfl
@[simp] theorem Logic.putWord_recs (l : Logic) (a : Nat) (w : Word) : (l.putWord a w).recs = l.recs := rfl
@[simp] theorem Logic.putWord_draws (l : Logic) (a : Nat) (w : Word) : (l.putWord a w).draws = l.draws := rfl
@[simp] theorem Logic.putWord_errout (l : Logic) (a : Nat) (w : Word) : (l.putWord a w).errout = l.errout := rfl
@[simp] theorem Logic.putWord_minw (l : Logic) (a : Nat) (w : Word) : (l.putWord a w).minw = l.minw := rfl
@[simp] theorem Logic.putWord_timeBad (l : Logic) (a : Nat) (w : Word) : (l.putWord a w).timeBad = l.timeBad := rfl
@[simp] theorem Logic.putWord_resets (l : Logic) (a : Nat) (w : Word) : (l.putWord a w).resets = l.resets := rfl
@[simp] theorem Logic.putWord_shutting (l : Logic) (a : Nat) (w : Word) : (l.putWord a w).shutting = l.shutting := rfl
@[simp] theorem Logic.putWord_lifes (l : Logic) (a : Nat) (w : Word) : (l.putWord a w).lifes = l.lifes := rfl
@[simp] theorem Logic.putWord_released (l : Logic) (a : Nat) (w : Word) : (l.putWord a w).released = l.released := rfl
@[simp] theorem Logic.putWord_owned (l : Logic) (a : Nat) (w : Word) : (l.putWord a w).owned = l.owned := rfl
@[simp] theorem Logic.putWord_boot (l : Logic) (a : Nat) (w : Word) : (l.putWord a w).boot = l.boot := rfl
@[simp] theorem Logic.putWord_bar (l : Logic) (a : Nat) (w : Word) : (l.putWord a w).bar = l.bar := rfl
@[simp] theorem Logic.putWord_cores (l : Logic) (a : Nat) (w : Word) : (l.putWord a w).cores = l.cores := rfl
@[simp] theorem Logic.putWord_mem (l : Logic) (a : Nat) (w : Word) : (l.putWord a w).mem = l.mem := rfl
@[simp] theorem Logic.putWord_host (l : Logic) (a : Nat) (w : Word) : (l.putWord a w).host = l.host := rfl
@[simp] theorem Logic.putWord_sess (l : Logic) (a : Nat) (w : Word) : (l.putWord a w).sess = l.sess := rfl
@[simp] theorem Logic.putWord_crate (l : Logic) (a : Nat) (w : Word) : (l.putWord a w).crate = l.crate := rfl
@[simp] theorem Logic.putWord_cellar (l : Logic) (a : Nat) (w : Word) : (l.putWord a w).cellar = l.cellar := rfl
@[simp] theorem Logic.putWord_clocks (l : Logic) (a : Nat) (w : Word) : (l.putWord a w).clocks = l.clocks := rfl
@[simp] theorem Logic.putWord_wdog (l : Logic) (a : Nat) (w : Word) : (l.putWord a w).wdog = l.wdog := rfl
@[simp] theorem Logic.putWord_faults (l : Logic) (a : Nat) (w : Word) : (l.putWord a w).faults = l.faults := rfl
@[simp] theorem Logic.putWord_loft (l : Logic) (a : Nat) (w : Word) : (l.putWord a w).loft = l.loft := rfl
@[simp] theorem Logic.putWord_larder (l : Logic) (a : Nat) (w : Word) : (l.putWord a w).larder = l.larder := rfl
@[simp] theorem Logic.putWord_pair (l : Logic) (a : Nat) (w : Word) : (l.putWord a w).pair = l.pair := rfl
@[simp] theorem Logic.putWord_mram (l : Logic) (a : Nat) (w : Word) : (l.putWord a w).mram = l.mram := rfl
@[simp] theorem Logic.putWord_at_spares (l : Logic) (a : Nat) (w : Word) (k : Nat) : (l.putWord a w).spares k = l.spares k := rfl
@[simp] theorem Logic.putWord_at_inSvc (l : Logic) (a : Nat) (w : Word) (k : Nat) : (l.putWord a w).inSvc k = l.inSvc k := rfl
@[simp] theorem Logic.putWord_at_isRetired (l : Logic) (a : Nat) (w : Word) (k i : Nat) : (l.putWord a w).isRetired k i = l.isRetired k i := rfl

/-! `Logic.record`. -/

@[simp] theorem Logic.record_regs (l : Logic) (r : LoftReq) : (l.record r).regs = l.regs := rfl
@[simp] theorem Logic.record_time (l : Logic) (r : LoftReq) : (l.record r).time = l.time := rfl
@[simp] theorem Logic.record_frac (l : Logic) (r : LoftReq) : (l.record r).frac = l.frac := rfl
@[simp] theorem Logic.record_mode (l : Logic) (r : LoftReq) : (l.record r).mode = l.mode := rfl
@[simp] theorem Logic.record_linkUp (l : Logic) (r : LoftReq) : (l.record r).linkUp = l.linkUp := rfl
@[simp] theorem Logic.record_raised (l : Logic) (r : LoftReq) : (l.record r).raised = l.raised := rfl
@[simp] theorem Logic.record_draws (l : Logic) (r : LoftReq) : (l.record r).draws = l.draws := rfl
@[simp] theorem Logic.record_errout (l : Logic) (r : LoftReq) : (l.record r).errout = l.errout := rfl
@[simp] theorem Logic.record_minw (l : Logic) (r : LoftReq) : (l.record r).minw = l.minw := rfl
@[simp] theorem Logic.record_timeBad (l : Logic) (r : LoftReq) : (l.record r).timeBad = l.timeBad := rfl
@[simp] theorem Logic.record_resets (l : Logic) (r : LoftReq) : (l.record r).resets = l.resets := rfl
@[simp] theorem Logic.record_shutting (l : Logic) (r : LoftReq) : (l.record r).shutting = l.shutting := rfl
@[simp] theorem Logic.record_lifes (l : Logic) (r : LoftReq) : (l.record r).lifes = l.lifes := rfl
@[simp] theorem Logic.record_released (l : Logic) (r : LoftReq) : (l.record r).released = l.released := rfl
@[simp] theorem Logic.record_owned (l : Logic) (r : LoftReq) : (l.record r).owned = l.owned := rfl
@[simp] theorem Logic.record_boot (l : Logic) (r : LoftReq) : (l.record r).boot = l.boot := rfl
@[simp] theorem Logic.record_bar (l : Logic) (r : LoftReq) : (l.record r).bar = l.bar := rfl
@[simp] theorem Logic.record_cores (l : Logic) (r : LoftReq) : (l.record r).cores = l.cores := rfl
@[simp] theorem Logic.record_mem (l : Logic) (r : LoftReq) : (l.record r).mem = l.mem := rfl
@[simp] theorem Logic.record_host (l : Logic) (r : LoftReq) : (l.record r).host = l.host := rfl
@[simp] theorem Logic.record_sess (l : Logic) (r : LoftReq) : (l.record r).sess = l.sess := rfl
@[simp] theorem Logic.record_crate (l : Logic) (r : LoftReq) : (l.record r).crate = l.crate := rfl
@[simp] theorem Logic.record_cellar (l : Logic) (r : LoftReq) : (l.record r).cellar = l.cellar := rfl
@[simp] theorem Logic.record_clocks (l : Logic) (r : LoftReq) : (l.record r).clocks = l.clocks := rfl
@[simp] theorem Logic.record_wdog (l : Logic) (r : LoftReq) : (l.record r).wdog = l.wdog := rfl
@[simp] theorem Logic.record_faults (l : Logic) (r : LoftReq) : (l.record r).faults = l.faults := rfl
@[simp] theorem Logic.record_loft (l : Logic) (r : LoftReq) : (l.record r).loft = l.loft := rfl
@[simp] theorem Logic.record_larder (l : Logic) (r : LoftReq) : (l.record r).larder = l.larder := rfl
@[simp] theorem Logic.record_pair (l : Logic) (r : LoftReq) : (l.record r).pair = l.pair := rfl
@[simp] theorem Logic.record_mram (l : Logic) (r : LoftReq) : (l.record r).mram = l.mram := rfl
@[simp] theorem Logic.record_at_g (l : Logic) (r : LoftReq) (y : Fld) : (l.record r).g y = l.g y := rfl
@[simp] theorem Logic.record_at_gb (l : Logic) (r : LoftReq) (y : Fld) : (l.record r).gb y = l.gb y := rfl
@[simp] theorem Logic.record_at_spares (l : Logic) (r : LoftReq) (k : Nat) : (l.record r).spares k = l.spares k := rfl
@[simp] theorem Logic.record_at_inSvc (l : Logic) (r : LoftReq) (k : Nat) : (l.record r).inSvc k = l.inSvc k := rfl
@[simp] theorem Logic.record_at_isRetired (l : Logic) (r : LoftReq) (k i : Nat) : (l.record r).isRetired k i = l.isRetired k i := rfl

/-! `Logic.keep`. -/

@[simp] theorem Logic.keep_regs (l : Logic) (h : Mram → Mram) : (l.keep h).regs = l.regs := rfl
@[simp] theorem Logic.keep_time (l : Logic) (h : Mram → Mram) : (l.keep h).time = l.time := rfl
@[simp] theorem Logic.keep_frac (l : Logic) (h : Mram → Mram) : (l.keep h).frac = l.frac := rfl
@[simp] theorem Logic.keep_mode (l : Logic) (h : Mram → Mram) : (l.keep h).mode = l.mode := rfl
@[simp] theorem Logic.keep_linkUp (l : Logic) (h : Mram → Mram) : (l.keep h).linkUp = l.linkUp := rfl
@[simp] theorem Logic.keep_raised (l : Logic) (h : Mram → Mram) : (l.keep h).raised = l.raised := rfl
@[simp] theorem Logic.keep_recs (l : Logic) (h : Mram → Mram) : (l.keep h).recs = l.recs := rfl
@[simp] theorem Logic.keep_draws (l : Logic) (h : Mram → Mram) : (l.keep h).draws = l.draws := rfl
@[simp] theorem Logic.keep_errout (l : Logic) (h : Mram → Mram) : (l.keep h).errout = l.errout := rfl
@[simp] theorem Logic.keep_minw (l : Logic) (h : Mram → Mram) : (l.keep h).minw = l.minw := rfl
@[simp] theorem Logic.keep_timeBad (l : Logic) (h : Mram → Mram) : (l.keep h).timeBad = l.timeBad := rfl
@[simp] theorem Logic.keep_resets (l : Logic) (h : Mram → Mram) : (l.keep h).resets = l.resets := rfl
@[simp] theorem Logic.keep_shutting (l : Logic) (h : Mram → Mram) : (l.keep h).shutting = l.shutting := rfl
@[simp] theorem Logic.keep_lifes (l : Logic) (h : Mram → Mram) : (l.keep h).lifes = l.lifes := rfl
@[simp] theorem Logic.keep_released (l : Logic) (h : Mram → Mram) : (l.keep h).released = l.released := rfl
@[simp] theorem Logic.keep_owned (l : Logic) (h : Mram → Mram) : (l.keep h).owned = l.owned := rfl
@[simp] theorem Logic.keep_boot (l : Logic) (h : Mram → Mram) : (l.keep h).boot = l.boot := rfl
@[simp] theorem Logic.keep_bar (l : Logic) (h : Mram → Mram) : (l.keep h).bar = l.bar := rfl
@[simp] theorem Logic.keep_cores (l : Logic) (h : Mram → Mram) : (l.keep h).cores = l.cores := rfl
@[simp] theorem Logic.keep_mem (l : Logic) (h : Mram → Mram) : (l.keep h).mem = l.mem := rfl
@[simp] theorem Logic.keep_host (l : Logic) (h : Mram → Mram) : (l.keep h).host = l.host := rfl
@[simp] theorem Logic.keep_sess (l : Logic) (h : Mram → Mram) : (l.keep h).sess = l.sess := rfl
@[simp] theorem Logic.keep_crate (l : Logic) (h : Mram → Mram) : (l.keep h).crate = l.crate := rfl
@[simp] theorem Logic.keep_cellar (l : Logic) (h : Mram → Mram) : (l.keep h).cellar = l.cellar := rfl
@[simp] theorem Logic.keep_clocks (l : Logic) (h : Mram → Mram) : (l.keep h).clocks = l.clocks := rfl
@[simp] theorem Logic.keep_wdog (l : Logic) (h : Mram → Mram) : (l.keep h).wdog = l.wdog := rfl
@[simp] theorem Logic.keep_faults (l : Logic) (h : Mram → Mram) : (l.keep h).faults = l.faults := rfl
@[simp] theorem Logic.keep_loft (l : Logic) (h : Mram → Mram) : (l.keep h).loft = l.loft := rfl
@[simp] theorem Logic.keep_larder (l : Logic) (h : Mram → Mram) : (l.keep h).larder = l.larder := rfl
@[simp] theorem Logic.keep_pair (l : Logic) (h : Mram → Mram) : (l.keep h).pair = l.pair := rfl
@[simp] theorem Logic.keep_at_g (l : Logic) (h : Mram → Mram) (y : Fld) : (l.keep h).g y = l.g y := rfl
@[simp] theorem Logic.keep_at_gb (l : Logic) (h : Mram → Mram) (y : Fld) : (l.keep h).gb y = l.gb y := rfl

/-! `Logic.fault`. -/

@[simp] theorem Logic.fault_regs (l : Logic) (k : Nat) (b : Bool) (p : Option Nat) (i : Bool) : (l.fault k b p i).regs = l.regs := rfl
@[simp] theorem Logic.fault_time (l : Logic) (k : Nat) (b : Bool) (p : Option Nat) (i : Bool) : (l.fault k b p i).time = l.time := rfl
@[simp] theorem Logic.fault_frac (l : Logic) (k : Nat) (b : Bool) (p : Option Nat) (i : Bool) : (l.fault k b p i).frac = l.frac := rfl
@[simp] theorem Logic.fault_mode (l : Logic) (k : Nat) (b : Bool) (p : Option Nat) (i : Bool) : (l.fault k b p i).mode = l.mode := rfl
@[simp] theorem Logic.fault_linkUp (l : Logic) (k : Nat) (b : Bool) (p : Option Nat) (i : Bool) : (l.fault k b p i).linkUp = l.linkUp := rfl
@[simp] theorem Logic.fault_recs (l : Logic) (k : Nat) (b : Bool) (p : Option Nat) (i : Bool) : (l.fault k b p i).recs = l.recs := rfl
@[simp] theorem Logic.fault_draws (l : Logic) (k : Nat) (b : Bool) (p : Option Nat) (i : Bool) : (l.fault k b p i).draws = l.draws := rfl
@[simp] theorem Logic.fault_errout (l : Logic) (k : Nat) (b : Bool) (p : Option Nat) (i : Bool) : (l.fault k b p i).errout = l.errout := rfl
@[simp] theorem Logic.fault_minw (l : Logic) (k : Nat) (b : Bool) (p : Option Nat) (i : Bool) : (l.fault k b p i).minw = l.minw := rfl
@[simp] theorem Logic.fault_timeBad (l : Logic) (k : Nat) (b : Bool) (p : Option Nat) (i : Bool) : (l.fault k b p i).timeBad = l.timeBad := rfl
@[simp] theorem Logic.fault_resets (l : Logic) (k : Nat) (b : Bool) (p : Option Nat) (i : Bool) : (l.fault k b p i).resets = l.resets := rfl
@[simp] theorem Logic.fault_shutting (l : Logic) (k : Nat) (b : Bool) (p : Option Nat) (i : Bool) : (l.fault k b p i).shutting = l.shutting := rfl
@[simp] theorem Logic.fault_lifes (l : Logic) (k : Nat) (b : Bool) (p : Option Nat) (i : Bool) : (l.fault k b p i).lifes = l.lifes := rfl
@[simp] theorem Logic.fault_released (l : Logic) (k : Nat) (b : Bool) (p : Option Nat) (i : Bool) : (l.fault k b p i).released = l.released := rfl
@[simp] theorem Logic.fault_owned (l : Logic) (k : Nat) (b : Bool) (p : Option Nat) (i : Bool) : (l.fault k b p i).owned = l.owned := rfl
@[simp] theorem Logic.fault_boot (l : Logic) (k : Nat) (b : Bool) (p : Option Nat) (i : Bool) : (l.fault k b p i).boot = l.boot := rfl
@[simp] theorem Logic.fault_bar (l : Logic) (k : Nat) (b : Bool) (p : Option Nat) (i : Bool) : (l.fault k b p i).bar = l.bar := rfl
@[simp] theorem Logic.fault_cores (l : Logic) (k : Nat) (b : Bool) (p : Option Nat) (i : Bool) : (l.fault k b p i).cores = l.cores := rfl
@[simp] theorem Logic.fault_mem (l : Logic) (k : Nat) (b : Bool) (p : Option Nat) (i : Bool) : (l.fault k b p i).mem = l.mem := rfl
@[simp] theorem Logic.fault_host (l : Logic) (k : Nat) (b : Bool) (p : Option Nat) (i : Bool) : (l.fault k b p i).host = l.host := rfl
@[simp] theorem Logic.fault_sess (l : Logic) (k : Nat) (b : Bool) (p : Option Nat) (i : Bool) : (l.fault k b p i).sess = l.sess := rfl
@[simp] theorem Logic.fault_crate (l : Logic) (k : Nat) (b : Bool) (p : Option Nat) (i : Bool) : (l.fault k b p i).crate = l.crate := rfl
@[simp] theorem Logic.fault_cellar (l : Logic) (k : Nat) (b : Bool) (p : Option Nat) (i : Bool) : (l.fault k b p i).cellar = l.cellar := rfl
@[simp] theorem Logic.fault_clocks (l : Logic) (k : Nat) (b : Bool) (p : Option Nat) (i : Bool) : (l.fault k b p i).clocks = l.clocks := rfl
@[simp] theorem Logic.fault_wdog (l : Logic) (k : Nat) (b : Bool) (p : Option Nat) (i : Bool) : (l.fault k b p i).wdog = l.wdog := rfl
@[simp] theorem Logic.fault_faults (l : Logic) (k : Nat) (b : Bool) (p : Option Nat) (i : Bool) : (l.fault k b p i).faults = l.faults := rfl
@[simp] theorem Logic.fault_loft (l : Logic) (k : Nat) (b : Bool) (p : Option Nat) (i : Bool) : (l.fault k b p i).loft = l.loft := rfl
@[simp] theorem Logic.fault_larder (l : Logic) (k : Nat) (b : Bool) (p : Option Nat) (i : Bool) : (l.fault k b p i).larder = l.larder := rfl
@[simp] theorem Logic.fault_pair (l : Logic) (k : Nat) (b : Bool) (p : Option Nat) (i : Bool) : (l.fault k b p i).pair = l.pair := rfl
@[simp] theorem Logic.fault_mram (l : Logic) (k : Nat) (b : Bool) (p : Option Nat) (i : Bool) : (l.fault k b p i).mram = l.mram := rfl
@[simp] theorem Logic.fault_at_g (l : Logic) (k : Nat) (b : Bool) (p : Option Nat) (i : Bool) (y : Fld) : (l.fault k b p i).g y = l.g y := rfl
@[simp] theorem Logic.fault_at_gb (l : Logic) (k : Nat) (b : Bool) (p : Option Nat) (i : Bool) (y : Fld) : (l.fault k b p i).gb y = l.gb y := rfl
@[simp] theorem Logic.fault_at_spares (l : Logic) (k : Nat) (b : Bool) (p : Option Nat) (i : Bool) (j : Nat) : (l.fault k b p i).spares j = l.spares j := rfl
@[simp] theorem Logic.fault_at_inSvc (l : Logic) (k : Nat) (b : Bool) (p : Option Nat) (i : Bool) (j : Nat) : (l.fault k b p i).inSvc j = l.inSvc j := rfl
@[simp] theorem Logic.fault_at_isRetired (l : Logic) (k : Nat) (b : Bool) (p : Option Nat) (i : Bool) (j q : Nat) : (l.fault k b p i).isRetired j q = l.isRetired j q := rfl

/-! An event of a page sets a bit of EVT_RAW and leaves a record. -/

@[simp] theorem Logic.setEvt_time (l : Logic) (p b q : Nat) (i u f : Bool) (t : Nat) (z : Option Nat) : (l.setEvt p b q i u f t z).time = l.time := by
  unfold Logic.setEvt Logic.when; dsimp only; split <;> rfl
@[simp] theorem Logic.setEvt_frac (l : Logic) (p b q : Nat) (i u f : Bool) (t : Nat) (z : Option Nat) : (l.setEvt p b q i u f t z).frac = l.frac := by
  unfold Logic.setEvt Logic.when; dsimp only; split <;> rfl
@[simp] theorem Logic.setEvt_mode (l : Logic) (p b q : Nat) (i u f : Bool) (t : Nat) (z : Option Nat) : (l.setEvt p b q i u f t z).mode = l.mode := by
  unfold Logic.setEvt Logic.when; dsimp only; split <;> rfl
@[simp] theorem Logic.setEvt_linkUp (l : Logic) (p b q : Nat) (i u f : Bool) (t : Nat) (z : Option Nat) : (l.setEvt p b q i u f t z).linkUp = l.linkUp := by
  unfold Logic.setEvt Logic.when; dsimp only; split <;> rfl
@[simp] theorem Logic.setEvt_raised (l : Logic) (p b q : Nat) (i u f : Bool) (t : Nat) (z : Option Nat) : (l.setEvt p b q i u f t z).raised = l.raised := by
  unfold Logic.setEvt Logic.when; dsimp only; split <;> rfl
@[simp] theorem Logic.setEvt_draws (l : Logic) (p b q : Nat) (i u f : Bool) (t : Nat) (z : Option Nat) : (l.setEvt p b q i u f t z).draws = l.draws := by
  unfold Logic.setEvt Logic.when; dsimp only; split <;> rfl
@[simp] theorem Logic.setEvt_errout (l : Logic) (p b q : Nat) (i u f : Bool) (t : Nat) (z : Option Nat) : (l.setEvt p b q i u f t z).errout = l.errout := by
  unfold Logic.setEvt Logic.when; dsimp only; split <;> rfl
@[simp] theorem Logic.setEvt_minw (l : Logic) (p b q : Nat) (i u f : Bool) (t : Nat) (z : Option Nat) : (l.setEvt p b q i u f t z).minw = l.minw := by
  unfold Logic.setEvt Logic.when; dsimp only; split <;> rfl
@[simp] theorem Logic.setEvt_timeBad (l : Logic) (p b q : Nat) (i u f : Bool) (t : Nat) (z : Option Nat) : (l.setEvt p b q i u f t z).timeBad = l.timeBad := by
  unfold Logic.setEvt Logic.when; dsimp only; split <;> rfl
@[simp] theorem Logic.setEvt_resets (l : Logic) (p b q : Nat) (i u f : Bool) (t : Nat) (z : Option Nat) : (l.setEvt p b q i u f t z).resets = l.resets := by
  unfold Logic.setEvt Logic.when; dsimp only; split <;> rfl
@[simp] theorem Logic.setEvt_shutting (l : Logic) (p b q : Nat) (i u f : Bool) (t : Nat) (z : Option Nat) : (l.setEvt p b q i u f t z).shutting = l.shutting := by
  unfold Logic.setEvt Logic.when; dsimp only; split <;> rfl
@[simp] theorem Logic.setEvt_lifes (l : Logic) (p b q : Nat) (i u f : Bool) (t : Nat) (z : Option Nat) : (l.setEvt p b q i u f t z).lifes = l.lifes := by
  unfold Logic.setEvt Logic.when; dsimp only; split <;> rfl
@[simp] theorem Logic.setEvt_released (l : Logic) (p b q : Nat) (i u f : Bool) (t : Nat) (z : Option Nat) : (l.setEvt p b q i u f t z).released = l.released := by
  unfold Logic.setEvt Logic.when; dsimp only; split <;> rfl
@[simp] theorem Logic.setEvt_owned (l : Logic) (p b q : Nat) (i u f : Bool) (t : Nat) (z : Option Nat) : (l.setEvt p b q i u f t z).owned = l.owned := by
  unfold Logic.setEvt Logic.when; dsimp only; split <;> rfl
@[simp] theorem Logic.setEvt_boot (l : Logic) (p b q : Nat) (i u f : Bool) (t : Nat) (z : Option Nat) : (l.setEvt p b q i u f t z).boot = l.boot := by
  unfold Logic.setEvt Logic.when; dsimp only; split <;> rfl
@[simp] theorem Logic.setEvt_bar (l : Logic) (p b q : Nat) (i u f : Bool) (t : Nat) (z : Option Nat) : (l.setEvt p b q i u f t z).bar = l.bar := by
  unfold Logic.setEvt Logic.when; dsimp only; split <;> rfl
@[simp] theorem Logic.setEvt_cores (l : Logic) (p b q : Nat) (i u f : Bool) (t : Nat) (z : Option Nat) : (l.setEvt p b q i u f t z).cores = l.cores := by
  unfold Logic.setEvt Logic.when; dsimp only; split <;> rfl
@[simp] theorem Logic.setEvt_mem (l : Logic) (p b q : Nat) (i u f : Bool) (t : Nat) (z : Option Nat) : (l.setEvt p b q i u f t z).mem = l.mem := by
  unfold Logic.setEvt Logic.when; dsimp only; split <;> rfl
@[simp] theorem Logic.setEvt_host (l : Logic) (p b q : Nat) (i u f : Bool) (t : Nat) (z : Option Nat) : (l.setEvt p b q i u f t z).host = l.host := by
  unfold Logic.setEvt Logic.when; dsimp only; split <;> rfl
@[simp] theorem Logic.setEvt_sess (l : Logic) (p b q : Nat) (i u f : Bool) (t : Nat) (z : Option Nat) : (l.setEvt p b q i u f t z).sess = l.sess := by
  unfold Logic.setEvt Logic.when; dsimp only; split <;> rfl
@[simp] theorem Logic.setEvt_crate (l : Logic) (p b q : Nat) (i u f : Bool) (t : Nat) (z : Option Nat) : (l.setEvt p b q i u f t z).crate = l.crate := by
  unfold Logic.setEvt Logic.when; dsimp only; split <;> rfl
@[simp] theorem Logic.setEvt_cellar (l : Logic) (p b q : Nat) (i u f : Bool) (t : Nat) (z : Option Nat) : (l.setEvt p b q i u f t z).cellar = l.cellar := by
  unfold Logic.setEvt Logic.when; dsimp only; split <;> rfl
@[simp] theorem Logic.setEvt_clocks (l : Logic) (p b q : Nat) (i u f : Bool) (t : Nat) (z : Option Nat) : (l.setEvt p b q i u f t z).clocks = l.clocks := by
  unfold Logic.setEvt Logic.when; dsimp only; split <;> rfl
@[simp] theorem Logic.setEvt_wdog (l : Logic) (p b q : Nat) (i u f : Bool) (t : Nat) (z : Option Nat) : (l.setEvt p b q i u f t z).wdog = l.wdog := by
  unfold Logic.setEvt Logic.when; dsimp only; split <;> rfl
@[simp] theorem Logic.setEvt_faults (l : Logic) (p b q : Nat) (i u f : Bool) (t : Nat) (z : Option Nat) : (l.setEvt p b q i u f t z).faults = l.faults := by
  unfold Logic.setEvt Logic.when; dsimp only; split <;> rfl
@[simp] theorem Logic.setEvt_loft (l : Logic) (p b q : Nat) (i u f : Bool) (t : Nat) (z : Option Nat) : (l.setEvt p b q i u f t z).loft = l.loft := by
  unfold Logic.setEvt Logic.when; dsimp only; split <;> rfl
@[simp] theorem Logic.setEvt_larder (l : Logic) (p b q : Nat) (i u f : Bool) (t : Nat) (z : Option Nat) : (l.setEvt p b q i u f t z).larder = l.larder := by
  unfold Logic.setEvt Logic.when; dsimp only; split <;> rfl
@[simp] theorem Logic.setEvt_pair (l : Logic) (p b q : Nat) (i u f : Bool) (t : Nat) (z : Option Nat) : (l.setEvt p b q i u f t z).pair = l.pair := by
  unfold Logic.setEvt Logic.when; dsimp only; split <;> rfl
@[simp] theorem Logic.setEvt_mram (l : Logic) (p b q : Nat) (i u f : Bool) (t : Nat) (z : Option Nat) : (l.setEvt p b q i u f t z).mram = l.mram := by
  unfold Logic.setEvt Logic.when; dsimp only; split <;> rfl

@[simp] theorem Logic.setEvt_regs (l : Logic) (p b q : Nat) (i u f : Bool) (t : Nat) (z : Option Nat) :
    (l.setEvt p b q i u f t z).regs = (l.put ⟨R.EVT_RAW p, b, 1⟩ 1).regs := by
  unfold Logic.setEvt Logic.when; dsimp only; split <;> rfl

/-! Operations that are one of these updates. -/

theorem Field.putb_eq (f : Field) (x : Fld) (b : Bool) : f.putb x b = f.put x (b2n b) := rfl
theorem Field.evt_eq (f : Field) (p b q : Nat) (i u : Bool) : f.evt p b q i u = f.tell (.evt p b q i u) := rfl
theorem Field.modTerm_eq (f : Field) (n : Nat) (h : TermRun → TermRun) : f.modTerm n h = f.setTerm n (h (f.term n)) := rfl
theorem Logic.putb_eq (l : Logic) (x : Fld) (b : Bool) : l.putb x b = l.put x (b2n b) := rfl
theorem Logic.gen_eq (l : Logic) (p : Nat) : l.gen p = l.put ⟨R.GEN p, 0, 32⟩ (l.g ⟨R.GEN p, 0, 32⟩ + 1) := rfl
theorem Logic.evt_eq (l : Logic) (p b q : Nat) (i u : Bool) : l.evt p b q i u = l.setEvt p b q i u false l.time := rfl

@[simp] theorem Field.when_true (h : Field → Field) (f : Field) : f.when true h = h f := rfl
@[simp] theorem Field.when_false (h : Field → Field) (f : Field) : f.when false h = f := rfl
@[simp] theorem Logic.when_true (h : Logic → Logic) (l : Logic) : l.when true h = h l := rfl
@[simp] theorem Logic.when_false (h : Logic → Logic) (l : Logic) : l.when false h = l := rfl

end Sys2Proof.Machine
end

