-- ==== Sys2Proof/Laws/Tab.lean ====
section
/-! SUPPORT. Tables: what a key reads as after a write, and that a write keeps the canonical form; fields of a register. -/

namespace Sys2Proof.Machine

open Sys2Proof

variable {α : Type}

@[simp] theorem tget_tdel_same (d : Nat → α) (t : Tab α) (k : Nat) : tget d (tdel t k) k = d k := by
  induction t with
  | nil => rfl
  | cons p t ih => by_cases h : p.1 = k <;> simp [tdel, tget, h, ih]

theorem tget_tdel_other (d : Nat → α) (t : Tab α) {j k : Nat} (h : j ≠ k) : tget d (tdel t k) j = tget d t j := by
  induction t with
  | nil => rfl
  | cons p t ih =>
    by_cases hk : p.1 = k
    · have hj : ¬p.1 = j := by omega
      simp [tdel, tget, hk, ih, show ¬k = j by omega]
    · have e : tdel (p :: t) k = p :: tdel t k := by simp [tdel, hk]
      rw [e]
      simp [tget, ih]

@[simp] theorem tget_tins_same (d : Nat → α) (t : Tab α) (k : Nat) (v : α) : tget d (tins t k v) k = v := by
  induction t with
  | nil => simp [tins, tget]
  | cons p t ih =>
    unfold tins
    split
    · simp [tget]
    · split
      · simp [tget]
      · rename_i h1 h2
        simp [tget, ih, show ¬p.1 = k by omega]

theorem tget_tins_other (d : Nat → α) (t : Tab α) {j k : Nat} (v : α) (h : j ≠ k) : tget d (tins t k v) j = tget d t j := by
  induction t with
  | nil => simp [tins, tget, Ne.symm h]
  | cons p t ih =>
    unfold tins
    split
    · simp [tget, Ne.symm h]
    · split
      · rename_i h1 h2
        simp [tget, Ne.symm h, show ¬p.1 = j by omega]
      · simp [tget, ih]

/-- A key reads as what was written to it. -/
@[simp] theorem tget_tput_same [DecidableEq α] (d : Nat → α) (t : Tab α) (k : Nat) (v : α) : tget d (tput d t k v) k = v := by
  unfold tput
  split <;> simp_all

/-- A write leaves every other key alone. -/
theorem tget_tput_other [DecidableEq α] (d : Nat → α) (t : Tab α) {j k : Nat} (v : α) (h : j ≠ k) :
    tget d (tput d t k v) j = tget d t j := by
  unfold tput
  split
  · exact tget_tdel_other d t h
  · exact tget_tins_other d t v h

/-- What a key reads as after a write. -/
theorem tget_tput [DecidableEq α] (d : Nat → α) (t : Tab α) (j k : Nat) (v : α) :
    tget d (tput d t k v) j = if j = k then v else tget d t j := by
  split
  · next h => subst h; simp
  · next h => exact tget_tput_other d t v h

theorem tsorted_weaken {lo hi : Nat} (h : lo ≤ hi) (t : Tab α) (ht : tsorted (some hi) t = true) : tsorted (some lo) t = true := by
  cases t with
  | nil => rfl
  | cons p t =>
    simp only [tsorted, Bool.and_eq_true, decide_eq_true_eq] at ht ⊢
    exact ⟨by omega, ht.2⟩

theorem tsorted_none {lo : Nat} (t : Tab α) (ht : tsorted (some lo) t = true) : tsorted none t = true := by
  cases t with
  | nil => rfl
  | cons p t =>
    simp only [tsorted, Bool.and_eq_true, decide_eq_true_eq] at ht ⊢
    exact ht.2

theorem tdel_sorted {lo : Nat} (t : Tab α) (k : Nat) (ht : tsorted (some lo) t = true) : tsorted (some lo) (tdel t k) = true := by
  induction t generalizing lo with
  | nil => rfl
  | cons p t ih =>
    simp only [tsorted, Bool.and_eq_true, decide_eq_true_eq] at ht
    unfold tdel
    split
    · exact tsorted_weaken (by omega) _ (ih ht.2)
    · simp only [tsorted, Bool.and_eq_true, decide_eq_true_eq]
      exact ⟨ht.1, ih ht.2⟩

theorem tins_sorted {lo : Nat} (t : Tab α) (k : Nat) (v : α) (hk : lo < k) (ht : tsorted (some lo) t = true) :
    tsorted (some lo) (tins t k v) = true := by
  induction t generalizing lo with
  | nil => simp [tins, tsorted, hk]
  | cons p t ih =>
    simp only [tsorted, Bool.and_eq_true, decide_eq_true_eq] at ht
    unfold tins
    split
    · simp only [tsorted, Bool.and_eq_true, decide_eq_true_eq]
      exact ⟨hk, by assumption, ht.2⟩
    · split
      · next h => subst h; simp only [tsorted, Bool.and_eq_true, decide_eq_true_eq]; exact ht
      · simp only [tsorted, Bool.and_eq_true, decide_eq_true_eq]
        exact ⟨ht.1, ih (by omega) ht.2⟩

theorem tsorted_cons_none {j : Nat} {v : α} {t : Tab α} : tsorted none ((j, v) :: t) = tsorted (some j) t := rfl

theorem tdel_sorted_none (t : Tab α) (k : Nat) (ht : tsorted none t = true) : tsorted none (tdel t k) = true := by
  cases t with
  | nil => rfl
  | cons p t =>
    obtain ⟨j, w⟩ := p
    rw [tsorted_cons_none] at ht
    unfold tdel
    split
    · exact tsorted_none _ (tdel_sorted t k ht)
    · exact tdel_sorted t k ht

theorem tins_sorted_none (t : Tab α) (k : Nat) (v : α) (ht : tsorted none t = true) : tsorted none (tins t k v) = true := by
  cases t with
  | nil => rfl
  | cons p t =>
    obtain ⟨j, w⟩ := p
    rw [tsorted_cons_none] at ht
    unfold tins
    split
    · simp only [tsorted, Bool.and_eq_true, decide_eq_true_eq]
      exact ⟨by assumption, ht⟩
    · split
      · next h => subst h; exact ht
      · exact tins_sorted t k v (by omega) ht

theorem tdel_lean [DecidableEq α] (d : Nat → α) (t : Tab α) (k : Nat) (ht : tlean d t = true) : tlean d (tdel t k) = true := by
  induction t with
  | nil => rfl
  | cons p t ih =>
    simp only [tlean, List.all_cons, Bool.and_eq_true] at ht
    unfold tdel
    split
    · exact ih ht.2
    · simp only [tlean, List.all_cons, Bool.and_eq_true]
      exact ⟨ht.1, ih ht.2⟩

theorem tins_lean [DecidableEq α] (d : Nat → α) (t : Tab α) (k : Nat) (v : α) (hv : v ≠ d k) (ht : tlean d t = true) :
    tlean d (tins t k v) = true := by
  induction t with
  | nil => simp [tlean, tins, hv]
  | cons p t ih =>
    simp only [tlean, List.all_cons, Bool.and_eq_true] at ht
    unfold tins
    split
    · simp only [tlean, List.all_cons, Bool.and_eq_true]
      exact ⟨by simpa using hv, ht⟩
    · split
      · simp only [tlean, List.all_cons, Bool.and_eq_true]
        exact ⟨by simpa using hv, ht.2⟩
      · simp only [tlean, List.all_cons, Bool.and_eq_true]
        exact ⟨ht.1, ih ht.2⟩

/-- A write keeps the canonical form. -/
theorem tput_wf [DecidableEq α] (d : Nat → α) (t : Tab α) (k : Nat) (v : α) (ht : twf d t = true) : twf d (tput d t k v) = true := by
  simp only [twf, Bool.and_eq_true] at ht ⊢
  unfold tput
  split
  · exact ⟨tdel_sorted_none t k ht.1, tdel_lean d t k ht.2⟩
  · next h => exact ⟨tins_sorted_none t k v ht.1, tins_lean d t k v h ht.2⟩

theorem tsorted_filter {lo : Nat} (p : Nat × α → Bool) (t : Tab α) (ht : tsorted (some lo) t = true) :
    tsorted (some lo) (t.filter p) = true := by
  induction t generalizing lo with
  | nil => rfl
  | cons x t ih =>
    simp only [tsorted, Bool.and_eq_true, decide_eq_true_eq] at ht
    simp only [List.filter_cons]
    split
    · simp only [tsorted, Bool.and_eq_true, decide_eq_true_eq]
      exact ⟨ht.1, ih ht.2⟩
    · exact tsorted_weaken (by omega) _ (ih ht.2)

/-- Leaving rows out keeps the canonical form. -/
theorem twf_filter [DecidableEq α] (d : Nat → α) (p : Nat × α → Bool) (t : Tab α) (ht : twf d t = true) : twf d (t.filter p) = true := by
  simp only [twf, Bool.and_eq_true] at ht ⊢
  refine ⟨?_, ?_⟩
  · cases t with
    | nil => rfl
    | cons x t =>
      have h := tsorted_filter (lo := x.1) p t ht.1
      simp only [List.filter_cons]
      split
      · exact h
      · exact tsorted_none _ h
  · simp only [tlean, List.all_eq_true, decide_eq_true_eq] at ht ⊢
    intro x hx
    exact ht.2 x (List.mem_filter.mp hx).1

/-- A field reads as what was set, less the bits it has no room for. -/
theorem wbits_wset_same (w : Word) (lo len v : Nat) (h : lo + len ≤ 32) : wbits (wset w lo len v) lo len = v % 2 ^ len := by
  have hw : w.toNat / 2 ^ (lo + len) < 2 ^ (32 - (lo + len)) := by
    apply Nat.div_lt_of_lt_mul
    rw [← Nat.pow_add, show lo + len + (32 - (lo + len)) = 32 by omega]
    exact w.isLt
  have hv : v % 2 ^ len < 2 ^ len := Nat.mod_lt _ (Nat.two_pow_pos len)
  have hl : w.toNat % 2 ^ lo < 2 ^ lo := Nat.mod_lt _ (Nat.two_pow_pos lo)
  have hsum : w.toNat % 2 ^ lo + v % 2 ^ len * 2 ^ lo < 2 ^ (lo + len) := by
    have := Nat.mul_le_mul_right (2 ^ lo) (Nat.succ_le_of_lt hv)
    rw [Nat.pow_add, Nat.mul_comm (2 ^ lo)]
    rw [Nat.succ_mul] at this
    omega
  have hall : w.toNat % 2 ^ lo + v % 2 ^ len * 2 ^ lo + w.toNat / 2 ^ (lo + len) * 2 ^ (lo + len) < 2 ^ 32 := by
    have : 2 ^ (lo + len) * 2 ^ (32 - (lo + len)) = 2 ^ 32 := by rw [← Nat.pow_add]; congr 1; omega
    have := Nat.mul_le_mul_left (2 ^ (lo + len)) (Nat.succ_le_of_lt hw)
    nlinarith
  unfold wbits wset
  rw [BitVec.toNat_ofNat, Nat.mod_eq_of_lt hall, Nat.pow_add]
  rw [show w.toNat % 2 ^ lo + v % 2 ^ len * 2 ^ lo + w.toNat / (2 ^ lo * 2 ^ len) * (2 ^ lo * 2 ^ len) =
    w.toNat % 2 ^ lo + 2 ^ lo * (v % 2 ^ len + 2 ^ len * (w.toNat / (2 ^ lo * 2 ^ len))) by ring]
  rw [Nat.add_mul_div_left _ _ (Nat.two_pow_pos lo), Nat.div_eq_of_lt hl, Nat.zero_add, Nat.add_mul_mod_self_left, Nat.mod_mod]

/-- Bits below a field that is set stay as they were. -/
theorem wbits_wset_below (w : Word) (lo len v lo' len' : Nat) (h : lo + len ≤ 32) (hd : lo' + len' ≤ lo) :
    wbits (wset w lo len v) lo' len' = wbits w lo' len' := by
  have key : ∀ i, i < lo → (wset w lo len v).toNat.testBit i = w.toNat.testBit i := by
    intro i hi
    unfold wset
    rw [BitVec.toNat_ofNat, Nat.testBit_mod_two_pow]
    rw [show w.toNat % 2 ^ lo + v % 2 ^ len * 2 ^ lo + w.toNat / 2 ^ (lo + len) * 2 ^ (lo + len) =
      2 ^ lo * (v % 2 ^ len + 2 ^ len * (w.toNat / 2 ^ (lo + len))) + w.toNat % 2 ^ lo by rw [Nat.pow_add]; ring]
    rw [Nat.testBit_two_pow_mul_add _ (Nat.mod_lt _ (Nat.two_pow_pos lo))]
    simp [hi, Nat.testBit_mod_two_pow, show i < 32 by omega]
  apply Nat.eq_of_testBit_eq
  intro i
  unfold wbits
  simp only [Nat.testBit_mod_two_pow, Nat.testBit_div_two_pow]
  by_cases hi : i < len'
  · simp [hi, key (i + lo') (by omega)]
  · simp [hi]

/-- Bits above a field that is set stay as they were. -/
theorem wbits_wset_above (w : Word) (lo len v lo' len' : Nat) (hd : lo + len ≤ lo') :
    wbits (wset w lo len v) lo' len' = wbits w lo' len' := by
  have hv : v % 2 ^ len < 2 ^ len := Nat.mod_lt _ (Nat.two_pow_pos len)
  have hl : w.toNat % 2 ^ lo < 2 ^ lo := Nat.mod_lt _ (Nat.two_pow_pos lo)
  have hsum : w.toNat % 2 ^ lo + v % 2 ^ len * 2 ^ lo < 2 ^ (lo + len) := by
    have := Nat.mul_le_mul_right (2 ^ lo) (Nat.succ_le_of_lt hv)
    rw [Nat.pow_add, Nat.mul_comm (2 ^ lo)]
    rw [Nat.succ_mul] at this
    omega
  have key : ∀ i, lo + len ≤ i → i < 32 → (wset w lo len v).toNat.testBit i = w.toNat.testBit i := by
    intro i hi h32
    unfold wset
    rw [BitVec.toNat_ofNat, Nat.testBit_mod_two_pow]
    rw [show w.toNat % 2 ^ lo + v % 2 ^ len * 2 ^ lo + w.toNat / 2 ^ (lo + len) * 2 ^ (lo + len) =
      2 ^ (lo + len) * (w.toNat / 2 ^ (lo + len)) + (w.toNat % 2 ^ lo + v % 2 ^ len * 2 ^ lo) by ring]
    rw [Nat.testBit_two_pow_mul_add _ hsum]
    simp [h32, show ¬i < lo + len by omega, Nat.testBit_div_two_pow, show i - (lo + len) + (lo + len) = i by omega]
  have top : ∀ i, 32 ≤ i → (wset w lo len v).toNat.testBit i = w.toNat.testBit i := by
    intro i hi
    have a : ∀ x : Word, x.toNat.testBit i = false := fun x =>
      Nat.testBit_lt_two_pow (Nat.lt_of_lt_of_le x.isLt (Nat.pow_le_pow_right (by omega) hi))
    rw [a, a]
  apply Nat.eq_of_testBit_eq
  intro i
  unfold wbits
  simp only [Nat.testBit_mod_two_pow, Nat.testBit_div_two_pow]
  by_cases hi : i < len'
  · by_cases h32 : i + lo' < 32
    · simp [hi, key (i + lo') (by omega) h32]
    · simp [hi, top (i + lo') (by omega)]
  · simp [hi]

end Sys2Proof.Machine
end

