-- ==== Sys2Proof/Laws/Regs.lean ====
section
/-! SUPPORT. Reading a field of a register after another has been set, on either die, and the indexed run state after a change. -/

namespace Sys2Proof.Machine

open Sys2Proof

/-- Two fields share no bit: they stand in registers of different homes, or in different bits of one. -/
def Fld.clear (x y : Fld) : Bool :=
  decide (regHome x.addr ≠ regHome y.addr) || decide (x.lo + x.len ≤ y.lo) || decide (y.lo + y.len ≤ x.lo)

/-- A field of 32 bits at most. -/
def Fld.fits (x : Fld) : Bool := decide (x.lo + x.len ≤ 32)

@[simp] theorem word_write_same (r : RegFile) (a : Nat) (w : Word) : (r.write a w).word a = w := by
  simp [RegFile.write, RegFile.word]

theorem word_write_home (r : RegFile) {a b : Nat} (w : Word) (h : regHome a = regHome b) : (r.write b w).word a = w := by
  simp [RegFile.write, RegFile.word, h]

theorem word_write_other (r : RegFile) {a b : Nat} (w : Word) (h : regHome a ≠ regHome b) : (r.write b w).word a = r.word a := by
  simp only [RegFile.write, RegFile.word]
  exact tget_tput_other _ _ _ h

theorem Fld.get_set_same (x : Fld) (v : Nat) (r : RegFile) (h : x.fits = true) : x.get (x.set v r) = v % 2 ^ x.len := by
  simp only [Fld.fits, decide_eq_true_eq] at h
  simp [Fld.get, Fld.set, wbits_wset_same _ _ _ _ h]

theorem Fld.get_set_clear (x y : Fld) (v : Nat) (r : RegFile) (hy : y.fits = true) (h : x.clear y = true) :
    x.get (y.set v r) = x.get r := by
  simp only [Fld.fits, decide_eq_true_eq] at hy
  by_cases ha : regHome x.addr = regHome y.addr
  · have hw : ∀ w, (r.write y.addr w).word x.addr = w := fun w => word_write_home r w ha
    have hr : r.word x.addr = r.word y.addr := by simp [RegFile.word, ha]
    simp only [Fld.clear, ha, ne_eq, not_true_eq_false, decide_false, Bool.false_or, Bool.or_eq_true, decide_eq_true_eq] at h
    simp only [Fld.get, Fld.set, hw, hr]
    rcases h with h | h
    · exact wbits_wset_below _ _ _ _ _ _ hy h
    · exact wbits_wset_above _ _ _ _ _ _ h
  · simp only [Fld.get, Fld.set]
    rw [word_write_other _ _ ha]

theorem Fld.word_set_other (y : Fld) (v : Nat) (r : RegFile) {a : Nat} (h : regHome a ≠ regHome y.addr) :
    (y.set v r).word a = r.word a := word_write_other r _ h

theorem Fld.get_lt (x : Fld) (r : RegFile) : x.get r < 2 ^ x.len := Nat.mod_lt _ (Nat.two_pow_pos _)

theorem Fld.get_bump_same (x : Fld) (r : RegFile) (h : x.fits = true) : x.get (x.bump r) = min (2 ^ x.len - 1) (x.get r + 1) := by
  unfold Fld.bump
  rw [Fld.get_set_same _ _ _ h, Nat.mod_eq_of_lt]
  · rfl
  · have := Nat.two_pow_pos x.len
    simp only [Fld.top]; omega

theorem Fld.get_bump_clear (x y : Fld) (r : RegFile) (hy : y.fits = true) (h : x.clear y = true) : x.get (y.bump r) = x.get r :=
  Fld.get_set_clear x y _ r hy h

theorem Field.g_put_same (f : Field) (x : Fld) (v : Nat) (h : x.fits = true) : (f.put x v).g x = v % 2 ^ x.len :=
  Fld.get_set_same x v f.img h

theorem Field.g_put_clear (f : Field) (x y : Fld) (v : Nat) (hy : y.fits = true) (h : x.clear y = true) :
    (f.put y v).g x = f.g x := Fld.get_set_clear x y v f.img hy h

theorem Field.g_bump_same (f : Field) (x : Fld) (h : x.fits = true) : (f.bump x).g x = min (2 ^ x.len - 1) (f.g x + 1) :=
  Fld.get_bump_same x f.img h

theorem Field.g_bump_clear (f : Field) (x y : Fld) (hy : y.fits = true) (h : x.clear y = true) : (f.bump y).g x = f.g x :=
  Fld.get_bump_clear x y f.img hy h

theorem Field.c_own_same (f : Field) (x : Fld) (v : Nat) (h : x.fits = true) : (f.own x v).c x = v % 2 ^ x.len :=
  Fld.get_set_same x v f.cfg h

theorem Field.c_own_clear (f : Field) (x y : Fld) (v : Nat) (hy : y.fits = true) (h : x.clear y = true) :
    (f.own y v).c x = f.c x := Fld.get_set_clear x y v f.cfg hy h

theorem Logic.g_put_same (l : Logic) (x : Fld) (v : Nat) (h : x.fits = true) : (l.put x v).g x = v % 2 ^ x.len :=
  Fld.get_set_same x v l.regs h

theorem Logic.g_put_clear (l : Logic) (x y : Fld) (v : Nat) (hy : y.fits = true) (h : x.clear y = true) :
    (l.put y v).g x = l.g x := Fld.get_set_clear x y v l.regs hy h

theorem Logic.g_bump_same (l : Logic) (x : Fld) (h : x.fits = true) : (l.bump x).g x = min (2 ^ x.len - 1) (l.g x + 1) :=
  Fld.get_bump_same x l.regs h

theorem Logic.g_bump_clear (l : Logic) (x y : Fld) (hy : y.fits = true) (h : x.clear y = true) : (l.bump y).g x = l.g x :=
  Fld.get_bump_clear x y l.regs hy h

/-- A one-bit field read as a truth value. -/
theorem Field.gb_eq (f : Field) (x : Fld) : f.gb x = (f.g x != 0) := rfl

theorem Field.cb_eq (f : Field) (x : Fld) : f.cb x = (f.c x != 0) := rfl

theorem Logic.gb_eq (l : Logic) (x : Fld) : l.gb x = (l.g x != 0) := rfl

@[simp] theorem b2n_mod (b : Bool) : b2n b % 2 = b2n b := by cases b <;> rfl

@[simp] theorem b2n_bne (b : Bool) : (b2n b != 0) = b := by cases b <;> rfl

@[simp] theorem b2n_eq_zero (b : Bool) : b2n b = 0 ↔ b = false := by cases b <;> simp [b2n]

/-! Indexed run state. -/

@[simp] theorem Field.term_setTerm_same (f : Field) (n : Nat) (t : TermRun) : (f.setTerm n t).term n = t := by
  simp [Field.term, Field.setTerm]

theorem Field.term_setTerm_other (f : Field) {k n : Nat} (t : TermRun) (h : k ≠ n) : (f.setTerm n t).term k = f.term k :=
  tget_tput_other _ _ _ h

@[simp] theorem Field.term_modTerm_same (f : Field) (n : Nat) (h : TermRun → TermRun) : (f.modTerm n h).term n = h (f.term n) := by
  simp [Field.modTerm]

theorem Field.term_modTerm_other (f : Field) {k n : Nat} (h : TermRun → TermRun) (hk : k ≠ n) :
    (f.modTerm n h).term k = f.term k := Field.term_setTerm_other f _ hk

@[simp] theorem Field.step_modStep_same (f : Field) (n : Nat) (h : StepRun → StepRun) : (f.modStep n h).step n = h (f.step n) := by
  simp [Field.step, Field.modStep]

theorem Field.step_modStep_other (f : Field) {k n : Nat} (h : StepRun → StepRun) (hk : k ≠ n) :
    (f.modStep n h).step k = f.step k := tget_tput_other _ _ _ hk

@[simp] theorem Field.group_modGroup_same (f : Field) (n : Nat) (h : GroupRun → GroupRun) :
    (f.modGroup n h).group n = h (f.group n) := by
  simp [Field.group, Field.modGroup]

theorem Field.group_modGroup_other (f : Field) {k n : Nat} (h : GroupRun → GroupRun) (hk : k ≠ n) :
    (f.modGroup n h).group k = f.group k := tget_tput_other _ _ _ hk

@[simp] theorem Field.ctx_modCtx_same (f : Field) (n : Nat) (h : CtxRun → CtxRun) : (f.modCtx n h).ctx n = h (f.ctx n) := by
  simp [Field.ctx, Field.modCtx]

theorem Field.ctx_modCtx_other (f : Field) {k n : Nat} (h : CtxRun → CtxRun) (hk : k ≠ n) : (f.modCtx n h).ctx k = f.ctx k :=
  tget_tput_other _ _ _ hk

@[simp] theorem Field.slice_modSlice_same (f : Field) (n : Nat) (h : SliceRun → SliceRun) :
    (f.modSlice n h).slice n = h (f.slice n) := by
  simp [Field.slice, Field.modSlice]

theorem Field.slice_modSlice_other (f : Field) {k n : Nat} (h : SliceRun → SliceRun) (hk : k ≠ n) :
    (f.modSlice n h).slice k = f.slice k := tget_tput_other _ _ _ hk

@[simp] theorem Field.prog_modProg_same (f : Field) (n : Nat) (h : ProgRun → ProgRun) : (f.modProg n h).prog n = h (f.prog n) := by
  simp [Field.prog, Field.modProg]

theorem Field.prog_modProg_other (f : Field) {k n : Nat} (h : ProgRun → ProgRun) (hk : k ≠ n) : (f.modProg n h).prog k = f.prog k :=
  tget_tput_other _ _ _ hk

end Sys2Proof.Machine
end

