-- ==== Sys2Proof/Laws/Run.lean ====
section
/-! SUPPORT. The three ways a command acts: that it answers a next state, what that state holds of either die, and that the queue stays. -/

namespace Sys2Proof.Machine

open Sys2Proof

/-! Messages that reach the logic die. -/

@[simp] theorem Logic.larderKeep_eq (l : Logic) (h : LarderStore → LarderStore) :
    l.larderKeep h = l.keep fun m => { m with larder := { h m.larder with copy := 1 - (h m.larder).copy, writes := ((h m.larder).writes + 1) % 65536 } } := rfl

theorem Logic.SameBut.refl (a : Logic) : a.SameBut a := by constructor <;> rfl

theorem Logic.SameBut.trans {a b c : Logic} (h : a.SameBut b) (k : b.SameBut c) : a.SameBut c := by
  constructor
  case owner => rw [h.owner, k.owner]
  case queue => rw [h.queue, k.queue]
  case partner => rw [h.partner, k.partner]
  case time => exact h.time.trans k.time
  case frac => exact h.frac.trans k.frac
  case mode => exact h.mode.trans k.mode
  case linkUp => exact h.linkUp.trans k.linkUp
  case draws => exact h.draws.trans k.draws
  case errout => exact h.errout.trans k.errout
  case minw => exact h.minw.trans k.minw
  case timeBad => exact h.timeBad.trans k.timeBad
  case resets => exact h.resets.trans k.resets
  case shutting => exact h.shutting.trans k.shutting
  case lifes => exact h.lifes.trans k.lifes
  case released => exact h.released.trans k.released
  case boot => exact h.boot.trans k.boot
  case bar => exact h.bar.trans k.bar
  case cores => exact h.cores.trans k.cores
  case mem => exact h.mem.trans k.mem
  case host => exact h.host.trans k.host
  case sess => exact h.sess.trans k.sess
  case crate => exact h.crate.trans k.crate
  case cellar => exact h.cellar.trans k.cellar
  case clocks => exact h.clocks.trans k.clocks
  case wdog => exact h.wdog.trans k.wdog
  case faults => exact h.faults.trans k.faults
  case loft => exact h.loft.trans k.loft

/-- The bookkeeping operations reach registers, records, fault events, the Larder record and the dwells' verdict only. -/
theorem Logic.put_same (l : Logic) (x : Fld) (v : Nat) : (l.put x v).SameBut l := by constructor <;> rfl

theorem Logic.bump_same (l : Logic) (x : Fld) : (l.bump x).SameBut l := by constructor <;> rfl

theorem Logic.fault_same (l : Logic) (k : Nat) (b : Bool) (p : Option Nat) (i : Bool) : (l.fault k b p i).SameBut l := by
  constructor <;> rfl

theorem Logic.record_same (l : Logic) (r : LoftReq) : (l.record r).SameBut l := by constructor <;> rfl

theorem Logic.setEvt_same (l : Logic) (p b q : Nat) (i u f : Bool) (t : Nat) (z : Option Nat) :
    (l.setEvt p b q i u f t z).SameBut l := by
  unfold Logic.setEvt Logic.when; dsimp only; split <;> constructor <;> rfl

theorem Logic.larderKeep_same (l : Logic) (h : LarderStore → LarderStore) : (l.larderKeep h).SameBut l := by
  constructor <;> rfl

theorem Logic.when_same (c : Bool) (h : Logic → Logic) (hh : ∀ l, (h l).SameBut l) (l : Logic) : (l.when c h).SameBut l := by
  cases c
  · exact .refl l
  · exact hh l

theorem Logic.fewer_same (kind index was : Nat) (inj : Bool) (l : Logic) : (l.fewer kind index was inj).SameBut l := by
  unfold Logic.fewer
  dsimp only
  refine (Logic.when_same _ _ (fun l => l.fault_same ..) _).trans ?_
  refine (Logic.when_same _ _ (fun l => l.fault_same ..) _).trans ?_
  exact Logic.when_same _ _ (fun l => l.setEvt_same ..) _

theorem Logic.gen_same (l : Logic) (p : Nat) : (l.gen p).SameBut l := l.put_same ..

theorem Logic.larderGen_same (l : Logic) : l.larderGen.SameBut l := by
  unfold Logic.larderGen
  split
  · exact .refl l
  · exact (Logic.gen_same ..).trans (by constructor <;> rfl)

theorem Logic.noteOwned_same (a : Nat) (l : Logic) : (l.noteOwned a).SameBut l := by constructor <;> rfl

theorem Logic.sendPartner_same (x : PFrame) (l : Logic) : (l.sendPartner x).SameBut l := by
  exact Logic.when_same _ _ (fun l => by constructor <;> rfl) _

theorem Logic.retire_same (kind index cause : Nat) (ws inj : Bool) (l : Logic) : (l.retire kind index cause ws inj).SameBut l := by
  unfold Logic.retire
  split
  · exact .refl l
  · dsimp only
    refine (Logic.larderGen_same _).trans ((Logic.when_same _ _ (fun l => Logic.fewer_same ..) _).trans ?_)
    refine (Logic.setEvt_same ..).trans ((Logic.put_same ..).trans ((Logic.put_same ..).trans ((Logic.put_same ..).trans ?_)))
    exact (Logic.put_same ..).trans (Logic.larderKeep_same ..)

theorem Logic.spareIn_same (kind index : Nat) (l : Logic) : (l.spareIn kind index).SameBut l := by
  unfold Logic.spareIn
  dsimp only
  exact (Logic.larderGen_same _).trans ((Logic.fewer_same ..).trans ((Logic.setEvt_same ..).trans (Logic.larderKeep_same ..)))

theorem Logic.defer_same (kind index : Nat) (on : Bool) (l : Logic) : (l.defer kind index on).SameBut l := by
  unfold Logic.defer
  dsimp only
  split
  · split
    · exact .refl l
    · exact (Logic.larderGen_same _).trans ((Logic.setEvt_same ..).trans (by constructor <;> rfl))
  · split
    · exact (Logic.larderGen_same _).trans (by constructor <;> rfl)
    · exact .refl l

theorem Logic.judgeDwells_same (l : Logic) : l.judgeDwells.SameBut l := by
  unfold Logic.judgeDwells
  split
  · dsimp only
    refine (Logic.when_same _ _ (fun l => l.fault_same ..) _).trans ((Logic.put_same ..).trans ?_)
    constructor <;> rfl
  · exact .refl l

theorem Logic.abortCause_same (c : Nat) (l : Logic) : (l.abortCause c).SameBut l := by
  unfold Logic.abortCause
  split
  · dsimp only
    split
    · exact .refl l
    · constructor <;> rfl
  · exact .refl l

/-- What a message can reach of the logic die. -/
theorem takeMsg_same (t : Nat) (m : FMsg) (l : Logic) : (takeMsg t m l).SameBut l := by
  cases m with
  | evt => exact l.setEvt_same ..
  | clearEvt => constructor <;> rfl
  | put x v =>
    simp only [takeMsg]
    exact (Logic.when_same (hwOwned x.addr) (Logic.noteOwned x.addr) (Logic.noteOwned_same _) (l.put x v)).trans (l.put_same x v)
  | bump => exact l.bump_same ..
  | gen page =>
    simp only [takeMsg]
    split
    · exact l.larderGen_same
    · exact l.gen_same page
  | fault => exact .refl l
  | record => exact .refl l
  | retire => exact l.retire_same ..
  | spareIn => exact l.spareIn_same ..
  | defer => exact l.defer_same ..
  | slice => exact (Logic.larderGen_same _).trans (Logic.larderKeep_same ..)
  | segments => constructor <;> rfl
  | refs => constructor <;> rfl
  | selfCal => exact (Logic.gen_same ..).trans (by constructor <;> rfl)
  | dwell b =>
    simp only [takeMsg]
    exact (Logic.judgeDwells_same _).trans ((Logic.sendPartner_same (.compare [] (some b)) _).trans (by constructor <;> rfl))
  | abort => exact l.abortCause_same ..

theorem takeMsgs_same (t : Nat) (ms : List FMsg) (l : Logic) : (ms.foldl (fun l m => takeMsg t m l) l).SameBut l := by
  induction ms generalizing l with
  | nil => exact .refl l
  | cons m ms ih => exact (ih _).trans (takeMsg_same t m l)

theorem drain_ld_same (s : State) : (drain s).ld.SameBut s.ld := by
  unfold drain
  split
  · exact takeMsgs_same ..
  · exact .refl _

@[simp] theorem drain_linkUp (s : State) : (drain s).ld.linkUp = s.ld.linkUp := (drain_ld_same s).linkUp

@[simp] theorem drain_pending (s : State) : (drain s).pending = s.pending := by
  unfold drain; split <;> rfl

/-- The field die keeps everything but its messages. -/
theorem drain_fd (s : State) : (drain s).fd = { s.fd with out := (drain s).fd.out } := by
  unfold drain; split <;> rfl

@[simp] theorem drain_fd_released (s : State) : (drain s).fd.released = s.fd.released := by
  unfold drain; split <;> rfl

@[simp] theorem drain_fd_configured (s : State) : (drain s).fd.configured = s.fd.configured := by
  unfold drain; split <;> rfl

@[simp] theorem drain_fd_mode (s : State) : (drain s).fd.mode = s.fd.mode := by
  unfold drain; split <;> rfl

@[simp] theorem drain_fd_paired (s : State) : (drain s).fd.paired = s.fd.paired := by
  unfold drain; split <;> rfl

@[simp] theorem drain_fd_lead (s : State) : (drain s).fd.lead = s.fd.lead := by
  unfold drain; split <;> rfl

@[simp] theorem drain_fd_wdArmed (s : State) : (drain s).fd.wdArmed = s.fd.wdArmed := by
  unfold drain; split <;> rfl

@[simp] theorem drain_fd_handover (s : State) : (drain s).fd.handover = s.fd.handover := by
  unfold drain; split <;> rfl

@[simp] theorem drain_fd_quiet (s : State) : (drain s).fd.quiet = s.fd.quiet := by
  unfold drain; split <;> rfl

@[simp] theorem drain_fd_report (s : State) : (drain s).fd.report = s.fd.report := by
  unfold drain; split <;> rfl

@[simp] theorem drain_fd_rolesDown (s : State) : (drain s).fd.rolesDown = s.fd.rolesDown := by
  unfold drain; split <;> rfl

@[simp] theorem drain_fd_cfg (s : State) : (drain s).fd.cfg = s.fd.cfg := by
  unfold drain; split <;> rfl

@[simp] theorem drain_fd_img (s : State) : (drain s).fd.img = s.fd.img := by
  unfold drain; split <;> rfl

@[simp] theorem drain_fd_time (s : State) : (drain s).fd.time = s.fd.time := by
  unfold drain; split <;> rfl

@[simp] theorem drain_fd_draws (s : State) : (drain s).fd.draws = s.fd.draws := by
  unfold drain; split <;> rfl

@[simp] theorem drain_fd_ctxs (s : State) : (drain s).fd.ctxs = s.fd.ctxs := by
  unfold drain; split <;> rfl

@[simp] theorem drain_fd_slices (s : State) : (drain s).fd.slices = s.fd.slices := by
  unfold drain; split <;> rfl

@[simp] theorem drain_fd_progs (s : State) : (drain s).fd.progs = s.fd.progs := by
  unfold drain; split <;> rfl

@[simp] theorem drain_fd_trigs (s : State) : (drain s).fd.trigs = s.fd.trigs := by
  unfold drain; split <;> rfl

@[simp] theorem drain_fd_trigSeen (s : State) : (drain s).fd.trigSeen = s.fd.trigSeen := by
  unfold drain; split <;> rfl

@[simp] theorem drain_fd_syncout (s : State) : (drain s).fd.syncout = s.fd.syncout := by
  unfold drain; split <;> rfl

@[simp] theorem drain_fd_tdacFault (s : State) : (drain s).fd.tdacFault = s.fd.tdacFault := by
  unfold drain; split <;> rfl

@[simp] theorem drain_fd_onFrc (s : State) : (drain s).fd.onFrc = s.fd.onFrc := by
  unfold drain; split <;> rfl

@[simp] theorem drain_fd_degraded (s : State) : (drain s).fd.degraded = s.fd.degraded := by
  unfold drain; split <;> rfl

@[simp] theorem drain_fd_returnAt (s : State) : (drain s).fd.returnAt = s.fd.returnAt := by
  unfold drain; split <;> rfl

@[simp] theorem drain_fd_urgReqs (s : State) : (drain s).fd.urgReqs = s.fd.urgReqs := by
  unfold drain; split <;> rfl

@[simp] theorem drain_fd_veto (s : State) : (drain s).fd.veto = s.fd.veto := by
  unfold drain; split <;> rfl

@[simp] theorem drain_fd_deferred (s : State) : (drain s).fd.deferred = s.fd.deferred := by
  unfold drain; split <;> rfl

@[simp] theorem drain_fd_rot (s : State) : (drain s).fd.rot = s.fd.rot := by
  unfold drain; split <;> rfl

@[simp] theorem drain_fd_cal (s : State) : (drain s).fd.cal = s.fd.cal := by
  unfold drain; split <;> rfl

@[simp] theorem drain_fd_snapq (s : State) : (drain s).fd.snapq = s.fd.snapq := by
  unfold drain; split <;> rfl

@[simp] theorem drain_fd_exc (s : State) : (drain s).fd.exc = s.fd.exc := by
  unfold drain; split <;> rfl

@[simp] theorem drain_fd_terms (s : State) : (drain s).fd.terms = s.fd.terms := by
  unfold drain; split <;> rfl

@[simp] theorem drain_fd_steps (s : State) : (drain s).fd.steps = s.fd.steps := by
  unfold drain; split <;> rfl

@[simp] theorem drain_fd_groups (s : State) : (drain s).fd.groups = s.fd.groups := by
  unfold drain; split <;> rfl

@[simp] theorem drain_fd_ruleHeld (s : State) : (drain s).fd.ruleHeld = s.fd.ruleHeld := by
  unfold drain; split <;> rfl

@[simp] theorem drain_fd_gov (s : State) : (drain s).fd.gov = s.fd.gov := by
  unfold drain; split <;> rfl

@[simp] theorem drain_fd_commits (s : State) : (drain s).fd.commits = s.fd.commits := by
  unfold drain; split <;> rfl

@[simp] theorem drain_fd_joined (s : State) : (drain s).fd.joined = s.fd.joined := by
  unfold drain; split <;> rfl

@[simp] theorem drain_fd_ramp (s : State) : (drain s).fd.ramp = s.fd.ramp := by
  unfold drain; split <;> rfl

@[simp] theorem drain_fd_dropped (s : State) : (drain s).fd.dropped = s.fd.dropped := by
  unfold drain; split <;> rfl

@[simp] theorem drain_fd_noticed (s : State) : (drain s).fd.noticed = s.fd.noticed := by
  unfold drain; split <;> rfl

@[simp] theorem drain_fd_notices (s : State) : (drain s).fd.notices = s.fd.notices := by
  unfold drain; split <;> rfl

@[simp] theorem drain_fd_partnerShunts (s : State) : (drain s).fd.partnerShunts = s.fd.partnerShunts := by
  unfold drain; split <;> rfl

@[simp] theorem drain_fd_bothShunts (s : State) : (drain s).fd.bothShunts = s.fd.bothShunts := by
  unfold drain; split <;> rfl

@[simp] theorem drain_fd_crateHash (s : State) : (drain s).fd.crateHash = s.fd.crateHash := by
  unfold drain; split <;> rfl

@[simp] theorem drain_fd_crateHead (s : State) : (drain s).fd.crateHead = s.fd.crateHead := by
  unfold drain; split <;> rfl

@[simp] theorem drain_fd_frcBad (s : State) : (drain s).fd.frcBad = s.fd.frcBad := by
  unfold drain; split <;> rfl

@[simp] theorem drain_fd_partAt (s : State) : (drain s).fd.partAt = s.fd.partAt := by
  unfold drain; split <;> rfl

@[simp] theorem drain_fd_resets (s : State) : (drain s).fd.resets = s.fd.resets := by
  unfold drain; split <;> rfl

@[simp] theorem drain_fd_shutting (s : State) : (drain s).fd.shutting = s.fd.shutting := by
  unfold drain; split <;> rfl

@[simp] theorem drain_fd_seqsLost (s : State) : (drain s).fd.seqsLost = s.fd.seqsLost := by
  unfold drain; split <;> rfl

@[simp] theorem drain_fd_urgOver (s : State) : (drain s).fd.urgOver = s.fd.urgOver := by
  unfold drain; split <;> rfl

@[simp] theorem drain_fd_rolesBack (s : State) : (drain s).fd.rolesBack = s.fd.rolesBack := by
  unfold drain; split <;> rfl

@[simp] theorem drain_fd_diagGone (s : State) : (drain s).fd.diagGone = s.fd.diagGone := by
  unfold drain; split <;> rfl

@[simp] theorem drain_fd_recBad (s : State) : (drain s).fd.recBad = s.fd.recBad := by
  unfold drain; split <;> rfl

@[simp] theorem drain_fd_tn (s : State) : (drain s).fd.tn = s.fd.tn := by
  unfold drain; split <;> rfl

@[simp] theorem drain_fd_tnMax (s : State) : (drain s).fd.tnMax = s.fd.tnMax := by
  unfold drain; split <;> rfl

@[simp] theorem drain_fd_tnMoves (s : State) : (drain s).fd.tnMoves = s.fd.tnMoves := by
  unfold drain; split <;> rfl

@[simp] theorem drain_fd_at_g (s : State) (y : Fld) : (drain s).fd.g y = s.fd.g y := by
  unfold drain; split <;> rfl

@[simp] theorem drain_fd_at_gb (s : State) (y : Fld) : (drain s).fd.gb y = s.fd.gb y := by
  unfold drain; split <;> rfl

@[simp] theorem drain_fd_at_c (s : State) (y : Fld) : (drain s).fd.c y = s.fd.c y := by
  unfold drain; split <;> rfl

@[simp] theorem drain_fd_at_cb (s : State) (y : Fld) : (drain s).fd.cb y = s.fd.cb y := by
  unfold drain; split <;> rfl

@[simp] theorem drain_fd_at_func (s : State) (k : Nat) : (drain s).fd.func k = s.fd.func k := by
  unfold drain; split <;> rfl

@[simp] theorem drain_fd_at_term (s : State) (k : Nat) : (drain s).fd.term k = s.fd.term k := by
  unfold drain; split <;> rfl

@[simp] theorem drain_fd_at_step (s : State) (k : Nat) : (drain s).fd.step k = s.fd.step k := by
  unfold drain; split <;> rfl

@[simp] theorem drain_fd_at_group (s : State) (k : Nat) : (drain s).fd.group k = s.fd.group k := by
  unfold drain; split <;> rfl

@[simp] theorem drain_fd_at_ctx (s : State) (k : Nat) : (drain s).fd.ctx k = s.fd.ctx k := by
  unfold drain; split <;> rfl

@[simp] theorem drain_fd_at_slice (s : State) (k : Nat) : (drain s).fd.slice k = s.fd.slice k := by
  unfold drain; split <;> rfl

@[simp] theorem drain_fd_at_prog (s : State) (k : Nat) : (drain s).fd.prog k = s.fd.prog k := by
  unfold drain; split <;> rfl

/-- With the link up only what waits for an EVENT frame stays. -/
theorem drain_out (s : State) (hl : s.ld.linkUp = true) : (drain s).fd.out = s.fd.out.filter waits := by
  simp [drain, hl]

theorem drain_ld (s : State) (hl : s.ld.linkUp = true) :
    (drain s).ld = s.fd.out.foldl (fun l m => takeMsg s.fd.time m l) s.ld := by
  simp [drain, hl]

/-- With the link up no reaction is the field die's own. -/
theorem localReset_up (old : Nat) (s : State) (hl : s.ld.linkUp = true) : localReset old s = s := by
  simp [localReset, hl]

theorem localReset_pending (old : Nat) (s : State) : (localReset old s).pending = s.pending := by
  unfold localReset; dsimp only; split <;> rfl

/-- With the link down the logic die stays, or sees the field die's own reset and its source (R41, R378). -/
theorem localReset_ld (old : Nat) (s : State) :
    (localReset old s).ld = s.ld ∨ ∃ i, (localReset old s).ld = s.resetField.ld.put F.DEVICE_RSTCAUSE_FAULT_ID i := by
  unfold localReset
  dsimp only
  split
  · exact .inr ⟨_, rfl⟩
  · exact .inl rfl

theorem drain_ld_down (s : State) (hl : s.ld.linkUp = false) : (drain s).ld = s.ld := by
  simp [drain, hl]

/-! The three ways a command acts. -/

/-- A command of the field die with both dies running and the link up. -/
theorem runField_up (h : Field → Field) (s : State) (hr : s.fd.released = true) (hl : s.ld.linkUp = true) :
    runField h s = .next (drain { s with fd := h s.fd }) := by
  simp [runField, hr, localReset_up _ _ (show (drain { s with fd := h s.fd }).ld.linkUp = true by simpa using hl)]

/-- In reset the field die does nothing. -/
theorem runField_held (h : Field → Field) (s : State) (hr : s.fd.released = false) : runField h s = .next s := by
  simp [runField, hr]

/-- Whatever it finds, a command of the field die answers a next state, leaves the queue, and reaches of the logic die only what
its messages reach; with the link down it leaves the logic die, or it has reset its own die and that shows. -/
theorem runField_next (h : Field → Field) (s : State) :
    ∃ t, runField h s = .next t ∧ t.pending = s.pending ∧ (s.ld.linkUp = true → t.ld.SameBut s.ld) ∧
      (s.ld.linkUp = false → t.ld = s.ld ∨ ∃ i, t.ld = s.resetField.ld.put F.DEVICE_RSTCAUSE_FAULT_ID i) := by
  refine ⟨_, rfl, ?_, fun hl => ?_, fun hl => ?_⟩
  · split
    · rw [localReset_pending, drain_pending]
    · rfl
  · split
    · rw [localReset_up _ _ (by simpa using hl)]
      exact drain_ld_same _
    · exact .refl _
  · split
    · have hd : (drain { s with fd := h s.fd }).ld = s.ld := drain_ld_down _ hl
      rcases localReset_ld s.fd.out.length (drain { s with fd := h s.fd }) with e | ⟨i, e⟩
      · exact .inl (e.trans hd)
      · exact .inr ⟨i, by rw [e]; simp only [State.resetField, hd]⟩
    · exact .inl rfl

theorem runLogic_next (h : Logic → Logic) (s : State) : runLogic h s = .next { s with ld := h s.ld } := rfl

theorem runBoth_next (h : State → State) (s : State) : runBoth h s = .next { drain (h s) with pending := s.pending } := rfl

end Sys2Proof.Machine
end

