-- ==== Sys2Proof/Tests/Slice0.lean ====
section
/-! SUPPORT. Small checks of the model: a state for every hypothesis of a statement, ill-formed commands refused, single steps whose
result the spec gives. -/

namespace Sys2Proof.Tests

open Sys2Proof Sys2Proof.Machine

/-- A state made by some changes, in order. -/
def at_ (hs : List (State → State)) (s : State := {}) : State := hs.foldl (fun s h => h s) s

/-- Change the logic die. -/
def L (h : Logic → Logic) : State → State := fun s => { s with ld := h s.ld }

/-- Change the field die. -/
def Fd (h : Field → Field) : State → State := fun s => { s with fd := h s.fd }

/-- Set a register field of the logic die, of the field die's configuration, of what its blocks show. -/
def reg (x : Fld) (v : Nat) : State → State := L (Logic.put x v)
def cfg (x : Fld) (v : Nat) : State → State := Fd (Field.own x v)
def img (x : Fld) (v : Nat) : State → State := Fd (Field.put x v)

/-- Both dies run and the link is up. -/
def up : State → State := fun s => { s with ld := { s.ld with linkUp := true }, fd := { s.fd with released := true, out := s.fd.out.filter waits } }

/-- The host port serves, in a mode. -/
def port (m : Mode) : State → State := L fun l =>
  (({ l with
    mode := m, host := {}, boot := { l.boot with logic := 2 }, sess := { l.sess with making := none }
    cores := {}, cellar := {}, pair := {} }).put F.HOST_LEGACY_EN 0).put F.PAIR_STAT_READY 0

/-- An Owner session whose next CTR is 5. -/
def owner : State → State := L fun l =>
  { l with sess := { l.sess with cur := some { id := 1, role := 3, top := 4 }, old := none } }

/-- No page is locked. -/
def open_ (page : Nat) : State → State := L (Logic.put (lockedBit page) 0)

/-! Commands that are not well formed, one for each check of Instr.wf, beside one that is. -/

theorem test_wf_reserved_op : (Instr.reservedOp 0x01).wf = false ∧ (Instr.reservedOp 0x33).wf = true := by decide
theorem test_wf_session_kind : (Instr.sessionKindRefused 0x01).wf = false ∧ (Instr.sessionKindRefused 0x7F).wf = true := by decide
theorem test_wf_mode_target : (Instr.modeReqOtherTarget none 2).wf = false ∧ (Instr.modeReqOtherTarget none 3).wf = true := by decide
theorem test_wf_code : (Instr.stage1Output 3 8388608 0 false).wf = false ∧ (Instr.stage1Output 3 (-8388608) 8388607 false).wf = true := by decide
theorem test_wf_selfcal : (Instr.selfCalDone ⟨0, 0, [1], [0, 0, 0, 0, 0, 0], [0, 0, 0, 0, 0, 0], [0, 0, 0, 0, 0, 0], [0, 0, 0, 0, 0, 0], 25⟩).wf = false ∧
    (Instr.selfCalDone ⟨0, 0, [0, 0, 0, 0, 0, 0], [0, 0, 0, 0, 0, 0], [0, 8388608, 0, 0, 0, 0], [0, 0, 0, 0, 0, 0], [0, 0, 0, 0, 0, 0], 25⟩).wf = false ∧
    (Instr.selfCalDone ⟨0, 0, [1, 0, 0, 0, 0, 0], [0, 0, 0, 0, 0, 0], [0, 0, 0, 0, 0, 0], [0, 0, 0, 0, 0, 0], [0, 0, 0, 0, 0, 0], 25⟩).wf = true := by decide
theorem test_wf_budget : (Instr.budgetSum ⟨[(3, 100), (3, 200)], [], [0, 0, 0, 0], [0, 0, 0, 0], 0, 0⟩).wf = false ∧
    (Instr.budgetSum ⟨[(3, 100)], [], [0, 0, 0], [0, 0, 0, 0], 0, 0⟩).wf = false ∧
    (Instr.budgetSum ⟨[(3, 100)], [(1, 24000), (1, 0)], [0, 0, 0, 0], [0, 0, 0, 0], 0, 0⟩).wf = false ∧
    (Instr.budgetSum ⟨[(3, 100), (4, 200)], [(1, 24000)], [0, 0, 0, 0], [0, 0, 0, 0], 0, 0⟩).wf = true := by decide
theorem test_wf_readings : (Instr.barrierState .passes false ⟨[], [2400], [(0, 0), (0, 0), (0, 0), (0, 0)], 0, 0⟩).wf = false ∧
    (Instr.barrierState .passes false ⟨[(1, 5, 5), (1, 6, 6)], [2400, 0, 0, 0], [(0, 0), (0, 0), (0, 0), (0, 0)], 0, 0⟩).wf = false ∧
    (Instr.barrierState .passes false ⟨[(1, 5, 5)], [2400, 0, 0, 0], [(0, 0)], 0, 0⟩).wf = false ∧
    (Instr.barrierState .passes false ⟨[(1, 5, 5)], [2400, 0, 0, 0], [(0, 0), (0, 0), (0, 0), (0, 0)], 0, 0⟩).wf = true := by decide
theorem test_wf_segments : (Instr.segmentMeasurement 3 [⟨1, 1024, false, false⟩, ⟨1, 1024, false, false⟩] 0).wf = false ∧
    (Instr.segmentMeasurement 3 [⟨1, 1024, false, false⟩, ⟨2, 1024, false, false⟩] 0).wf = true := by decide
theorem test_wf_scrub_row : (Instr.scrubRead .otp (memRows .otp) 0 .other).wf = false ∧ (Instr.scrubRead .otp 0 0 .other).wf = true := by decide
theorem test_wf_row_move : (Instr.rowMoveDone .romL (memRows .romL)).wf = false ∧ (Instr.rowMoveDone .romL 7).wf = true := by decide
theorem test_wf_row_count : (Instr.rowCountExpiry .fsram (memRows .fsram)).wf = false ∧ (Instr.rowCountExpiry .fsram 7).wf = true := by decide
theorem test_wf_march : (Instr.memoryChecksDone ⟨true, [], [], [(.cellar, memRows .cellar)], false, false⟩).wf = false ∧
    (Instr.memoryChecksDone ⟨true, [], [], [(.cellar, 3)], false, false⟩).wf = true := by decide
theorem test_wf_factory : (Instr.calibrationLoaded true [[6]] true).wf = false ∧ (Instr.calibrationLoaded true [[]] true).wf = false ∧
    (Instr.calibrationLoaded true [[5, 256, 512]] true).wf = true := by decide
theorem test_wf_cross_checks : (Instr.sliceCrossChecksDone ⟨[2, 2], false, none⟩).wf = false ∧
    (Instr.sliceCrossChecksDone ⟨[2, 3], false, none⟩).wf = true := by decide
theorem test_wf_bare_groups :
    (Instr.strapsLatched 0 ⟨false, [1, 1]⟩).wf = false ∧ (Instr.strapsLatched 0 ⟨false, [1, 2]⟩).wf = true := by decide
theorem test_wf_boot_time : (Instr.modeEntry false (2 ^ 32) true false).wf = false ∧ (Instr.modeEntry false 65000 true false).wf = true := by decide
theorem test_wf_handover_time : (Instr.handoverAnnouncement ⟨true, true, 0⟩ none (2 ^ 64) 0).wf = false ∧
    (Instr.handoverAnnouncement ⟨true, true, 0⟩ none 24576 0).wf = true := by decide
theorem test_wf_trigger_time : (Instr.pairTrigger ⟨true, true, 0⟩ none 1 (2 ^ 64)).wf = false ∧
    (Instr.pairTrigger ⟨true, true, 0⟩ none 1 24576).wf = true := by decide

/-! Single steps whose result the spec gives. -/

/-- What a next state holds, as a test. -/
def nextIs (o : Host.Outcome State Fault Refusal) (p : State → Bool) : Bool := match o with
  | .next t => p t
  | _ => false

/-- The host port in RUN with the link down, so that nothing waits to cross. -/
def hostRun : State := at_ [L fun l => { l with linkUp := false }, port .run]

/-- R41: a power-on reset leaves RSTCAUSE at POR alone. -/
theorem test_por_clears_rstcause :
    nextIs (execPowerOnReset (at_ [reg ⟨R.DEVICE_RSTCAUSE, 0, 10⟩ 1023])) (fun t => t.ld.regs.word R.DEVICE_RSTCAUSE == 1#32) = true := by decide

/-- R50: a read of a reserved page is refused with RESERVED_PAGE, 2. -/
theorem test_reserved_page :
    nextIs (execRead 0x1000 1 false hostRun) (fun t => t.ld.g F.HOST_ERR_REASON == 2) = true := by decide

/-- R253: SNAP_READ of an address that is no context's 0x40 is refused with SNAP_ADDR, 10. -/
theorem test_snap_addr :
    nextIs (execSnapRead 0x8041 false false hostRun) (fun t => t.ld.g F.HOST_ERR_REASON == 10) = true := by decide

/-- R52: a cause that occurs at the tick of its W1C clear stays set. -/
theorem test_w1c_recurrence :
    nextIs (execEvtRawClear none 2 3#32 1#32 (at_ [reg ⟨R.EVT_RAW 2, 0, 4⟩ 15, open_ 2] hostRun))
      (fun t => t.ld.g ⟨R.EVT_RAW 2, 0, 4⟩ == 13) = true := by decide

/-- FRAMES counts frames with a complete command byte (15_host_port.md): a step runs the front command and leaves the rest waiting. -/
theorem test_step_takes_front :
    nextIs (step { hostRun with pending := [.nopFrame false, .powerOnReset] }) (fun t => decide (t.pending = [.powerOnReset]) &&
      t.ld.g F.HOST_FRAMES_COUNT == 1) = true := by decide

/-- No word of the table spells a command. -/
theorem test_no_words : decodeTableWord 16 0x1234 = none := by decide

/-- The worked examples of chapters 07 and 14: settling counts 2052 and 145, the chain of a self-calibration with 1057. -/
theorem test_settle_counts :
    (({} : Field).settleCount { s2 := 5, maLen := 40 } false, ({} : Field).settleCount { s2 := 10, maLen := 16 } false,
      ({} : Field).settleCount { s2 := 11, maLen := 64 } false) = (2052, 145, 1057) := by decide

/-- The worked example of chapter 09: MIN of −2700 codes under the four presentations. -/
theorem test_present :
    (present false false (-2700), present false true (-2700), present true false (-2700), present true true (-2700))
      = (0xFFFFF574#32, 0x007FF574#32, 0xFFF57400#32, 0x7FF57400#32) := by decide

/-- The worked example of chapter 09: SUM, SUMSQ, MIN and MAX of its eight samples. -/
theorem test_window_example :
    (let w := [2000, -1500, 1800, -2200, 1000, -900, 2500, -2700].foldl (fun w x => Win.take x 0 w) ({} : Win)
     (w.count, w.sum, (w.sumsq + 128) / 256, w.minv, w.maxv)) = (8, 0, 115938, -2700, 2500) := by decide

/-- The worked example of chapter 09: 20.60 mA confirms the high alarm after 20.55 mA, with CONFIRM 1. -/
theorem test_threshold_example :
    ((judgeSwitch 0x5BD70A 0xE560 1 false 6048186 (judgeSwitch 0x5BD70A 0xE560 1 false 6033506 {}).1).2,
      (judgeSwitch 0x5BD70A 0xE560 1 false 6033506 {}).2) = (true, false) := by decide

/-- The worked example of chapter 25: T_N is 25 µs with PAIR.PORT 0x0010_4220. -/
theorem test_announce_time : announceTime 0x00104220#32 false = 25 := by decide


/-- R269: RNW, ADDR and DATA of a forerunner frame of 24 bits: a read of address 3, a write of 0x1234 to address 3. -/
theorem test_legacy_frames : legacyCommand 24 0x860000 = .legacyRead 16 3 ∧ legacyCommand 24 0x061234 = .legacyWrite 16 3 0x1234 := by decide

/-- The serial of a HELLO's sender, for a witness whose serial does not evaluate. -/
theorem helloSerial (serial nonce point : Nat) (ok : Bool) : (HelloFrom.mk serial nonce point ok).serial = serial := rfl

/-- A switch has turned on 738 ticks (30 µs) after it was switched on at the latest (R187). -/
theorem turnedOn (n : Nat) (f : Field) (h : (f.term n).dout.onAt + 738 ≤ f.time) : f.turningOn n = false := by
  simp [Field.turningOn]; omega

/-! Every hypothesis of a statement is met somewhere. -/

theorem wit_DigitalInputRows_1 : ∃ (s : State) (n : Terminal) (_mv : Int), s.up ∧ s.fd.diActive n = true :=
  ⟨at_ [up, img (F.TERM_CELLSTAT_FUNC_ACT 3) 1, cfg (F.CTRL_EN (R.pageTERM 3)) 1], 3, 24000, by decide⟩

theorem wit_DigitalInputRows_2 : ∃ (s : State) (n : Terminal) (mv : Int) (level : Bool), s.up ∧ s.fd.diActive n = true ∧ s.fd.diDue n = false ∧ (s.fd.term n).di.raw = some level ∧ (diThreshold n (s.fd.c (F.TERM_DI_CFG_TYPE n)) false s.fd.draws ≤ mv ∨ level = false) ∧ (mv ≤ diThreshold n (s.fd.c (F.TERM_DI_CFG_TYPE n)) true s.fd.draws ∨ level = true) ∧ (s.fd.term n).di.again = false ∧ (s.fd.term n).di.time = s.fd.cfg.word (R.TERM_DI_TIME n) ∧ s.fd.gb (F.TERM_DISTAT_VALID n) = true ∧ s.fd.gb (F.TERM_DISTAT_STATE n) = !level :=
  ⟨at_ [up, img (F.TERM_CELLSTAT_FUNC_ACT 3) 1, cfg (F.CTRL_EN (R.pageTERM 3)) 1, cfg (F.TERM_DI_TIME_DEBOUNCE 3) 9, Fd (Field.modDi 3 fun d => { d with run := 2, again := false, raw := some true, time := ((F.TERM_DI_TIME_DEBOUNCE 3).set 9 []).word (R.TERM_DI_TIME 3) }), Fd fun f => { f with cfg := f.cfg.write (R.TERM_DI_TIME 3) (((F.TERM_DI_TIME_DEBOUNCE 3).set 9 []).word (R.TERM_DI_TIME 3)) }, img (F.TERM_DISTAT_VALID 3) 1, img (F.TERM_DISTAT_STATE 3) 0], 3, 24000, true, by decide, by decide, by decide, by decide, .inl (by unfold diThreshold; dsimp only; split <;> omega), .inr rfl, by decide, by decide, by decide, by decide⟩

theorem wit_DigitalInputRows_3 : ∃ (s : State) (n : Terminal), s.up ∧ s.fd.diDue n = true ∧ s.fd.gb (F.TERM_DISTAT_VALID n) = true :=
  ⟨at_ [up, img (F.TERM_CELLSTAT_FUNC_ACT 3) 1, cfg (F.CTRL_EN (R.pageTERM 3)) 1, Fd (Field.modDi 3 fun d => { d with run := 900 }), img (F.TERM_DISTAT_VALID 3) 1], 3, by decide⟩

theorem wit_DigitalInputRows_4 : ∃ (s : State) (n : Terminal), s.up ∧ s.fd.diDue n = true ∧ s.fd.gb (F.TERM_DISTAT_VALID n) = false :=
  ⟨at_ [up, img (F.TERM_CELLSTAT_FUNC_ACT 3) 1, cfg (F.CTRL_EN (R.pageTERM 3)) 1, Fd (Field.modDi 3 fun d => { d with run := 900 }), img (F.TERM_DISTAT_VALID 3) 0], 3, by decide⟩

theorem wit_DigitalInputRows_5 : ∃ (s : State) (n : Terminal), s.up ∧ s.fd.diActive n = true :=
  ⟨at_ [up, img (F.TERM_CELLSTAT_FUNC_ACT 3) 1, cfg (F.CTRL_EN (R.pageTERM 3)) 1], 3, by decide⟩

theorem wit_DigitalInputRows_6 : ∃ (s : State) (n : Terminal), s.up ∧ s.fd.diActive n = true ∧ s.fd.c (F.TERM_DI_STUCK_STUCK_T n) ≠ 0 ∧ s.fd.diWatched n = true ∧ s.fd.gb (F.TERM_DISTAT_STUCK n) = false :=
  ⟨at_ [up, img (F.TERM_CELLSTAT_FUNC_ACT 3) 1, cfg (F.CTRL_EN (R.pageTERM 3)) 1, cfg (F.TERM_DI_STUCK_STUCK_T 3) 5, cfg (F.TERM_DI_EDGE_STUCK_POL 3) 2, img (F.TERM_DISTAT_VALID 3) 1, img (F.TERM_DISTAT_STUCK 3) 0], 3, by decide⟩

theorem wit_HostPortFrames_1 : ∃ (s : State) (_extra : Bool), s.told = true ∧ s.ld.answers = true :=
  ⟨at_ [L fun l => { l with linkUp := false }, port .follow], false, by decide⟩

theorem wit_HostPortFrames_2 : ∃ (s : State) (_extra : Bool), s.told = true ∧ s.ld.answers = true :=
  ⟨at_ [L fun l => { l with linkUp := false }, port .boot], true, by decide⟩

theorem wit_HostPortFrames_3 : ∃ (s : State) (a : Addr), s.told = true ∧ s.ld.serves = true ∧ pageKind (a.val / 256) ≠ .reserved :=
  ⟨at_ [L fun l => { l with linkUp := false }, port .safe], 0x2010, by decide⟩

theorem wit_HostPortFrames_4 : ∃ (s : State) (_a : Addr) (n : Nat), s.told = true ∧ s.ld.serves = true ∧ n ≠ 0 :=
  ⟨at_ [L fun l => { l with linkUp := false }, port .safe], 0xFFFE, 4, by decide⟩

theorem wit_HostPortFrames_5 : ∃ (s : State) (_c : Ctx) (_extra : Bool), s.told = true ∧ s.ld.serves = true :=
  ⟨at_ [L fun l => { l with linkUp := false }, port .safe], 2, false, by decide⟩

theorem wit_HostPortFrames_6 : ∃ (s : State) (a : Addr) (_extra : Bool), s.up ∧ s.ld.serves = true ∧ a.val < 16 ∧ s.ld.groupsFrom a 0 ≠ 0 :=
  ⟨at_ [up, port .run, reg (F.SLICE_GRP_SRC 1) 0], 3, false, by decide⟩

theorem wit_HostPortFrames_7 : ∃ (s : State) (rise : Bool), s.up ∧ s.ld.groupsFrom 15 (if rise then 1 else 2) ≠ 0 :=
  ⟨at_ [up, port .run, reg (F.SLICE_GRP_SRC 1) 2], false, by decide⟩

theorem wit_HostPortFrames_8 : ∃ (s : State) (code : Fin 256), s.told = true ∧ s.ld.serves = true ∧ listedOps.contains code.val = false :=
  ⟨at_ [L fun l => { l with linkUp := false }, port .safe], 0x33, by decide⟩

theorem wit_HostPortFrames_9 : ∃ (s : State) (c : Fin 256) (_a : Addr), s.told = true ∧ s.ld.portUp = true ∧ s.ld.stops c false = [] ∧ listedOps.contains c.val = true :=
  ⟨at_ [L fun l => { l with linkUp := false }, port .safe], 3, 0x10, by decide⟩

theorem wit_HostPortFrames_10 : ∃ (s : State) (_a : Addr), s.told = true ∧ s.ld.portUp = true :=
  ⟨at_ [L fun l => { l with linkUp := false }, port .safe], 0x10, by decide⟩

theorem wit_HostWordFrames_1 : ∃ (s : State) (page : Page) (_w : Word), s.told = true ∧ s.ld.serves = true ∧ (regRow (R.EVT_EN page)).isSome = true ∧ pageKind page ≠ .seqtab ∧ s.ld.locked page = false :=
  ⟨at_ [L fun l => { l with linkUp := false }, port .safe, open_ 5], 5, 77#32, by decide⟩

theorem wit_HostWordFrames_2 : ∃ (s : State) (a : Addr) (_w : Word) (r : RegRow), s.told = true ∧ s.ld.serves = true ∧ regRow a = some r ∧ r.acc ≠ .ro ∧ r.cls = .session :=
  ⟨at_ [L fun l => { l with linkUp := false }, port .safe], 0x2033, 1#32, (regRow 0x2033).getD ⟨0,0,1,.ro,.open_,0,0⟩, by decide⟩

theorem wit_HostWordFrames_3 : ∃ (s : State) (ctr : Word) (_a : Addr) (ws : List Word) (x : Session) (_tag : Nat) (_extra : Bool), s.told = true ∧ s.ld.serves = true ∧ s.ld.accepts ctr = true ∧ s.ld.sess.cur = some x ∧ ws ≠ [] ∧ ws.length ≤ 256 :=
  ⟨at_ [L fun l => { l with linkUp := false }, port .run, owner], 7#32, 0x2033, [1#32], { id := 1, role := 3, top := 4 }, 9, false, by decide⟩

theorem wit_HostWordFrames_4 : ∃ (s : State) (f : AuthFrame) (x : Session) (page : Page) (w : Word), s.told = true ∧ 1 ≤ s.ld.boot.logic ∧ s.ld.host.auth = some f ∧ f.mirrored = none ∧ f.ok = true ∧ s.ld.leadReady = false ∧ s.ld.sess.cur = some x ∧ x.id = f.keys ∧ f.addr = R.EVT_EN page ∧ f.words = [w] ∧ (regRow (R.EVT_EN page)).isSome = true ∧ pageKind page ≠ .seqtab ∧ s.ld.locked page = false :=
  ⟨at_ [L fun l => { l with linkUp := false }, port .run, owner, open_ 5, L fun l => { l with host := { l.host with auth := some { addr := 0x504, words := [3#32], ctr := 7, keys := 1, ok := true } } }], { addr := 0x504, words := [3#32], ctr := 7, keys := 1, ok := true }, { id := 1, role := 3, top := 4 }, 5, 3#32, by decide⟩

theorem wit_HostWordFrames_5 : ∃ (s : State) (ctr : Word) (_a : Addr) (n : Nat) (x : Session) (_extra : Bool), s.told = true ∧ s.ld.serves = true ∧ s.ld.accepts ctr = true ∧ s.ld.sess.cur = some x ∧ 2 ≤ x.role ∧ n ≠ 0 ∧ n ≤ 256 :=
  ⟨at_ [L fun l => { l with linkUp := false }, port .run, owner], 7#32, 0x2010, 3, { id := 1, role := 3, top := 4 }, false, by decide⟩

theorem wit_HostWordFrames_6 : ∃ (s : State) (_w : Word) (_again : Word) (page : Page), s.told = true ∧ s.ld.serves = true ∧ (regRow (R.EVT_RAW page)).isSome = true ∧ pageKind page ≠ .seqtab ∧ s.ld.locked page = false :=
  ⟨at_ [L fun l => { l with linkUp := false }, port .safe, open_ 5], 77#32, 1#32, 5, by decide⟩

theorem wit_HostWordFrames_7 : ∃ (s : State) (page : Page), s.told = true ∧ s.ld.serves = true ∧ (regRow (R.CLASS page)).isSome = true ∧ pageKind page ≠ .seqtab ∧ s.ld.locked page = false :=
  ⟨at_ [L fun l => { l with linkUp := false }, port .safe, open_ 5], 5, by decide⟩

theorem wit_HostWordFrames_8 : ∃ s : State, s.told = true ∧ s.ld.serves = true ∧ s.ld.locked R.pageHOST = false :=
  ⟨at_ [L fun l => { l with linkUp := false }, port .safe, open_ 2], by decide⟩

theorem wit_HostWatchdogRows_1 : ∃ (s : State) (a : Addr) (_extra : Bool), s.told = true ∧ s.ld.serves = true ∧ a.val < 8 ∧ s.ld.wdog.running = true ∧ nbit s.ld.wdog.tasks a = true ∧ s.ld.wdog.openAt ≤ s.ld.wdogCount ∧ nbit s.ld.wdog.injDouble a = false ∧ nbit (s.ld.g F.WDOG_SERVED_TASK) a = false :=
  ⟨at_ [L fun l => { l with linkUp := false }, port .run, L fun l => { l with wdog := { running := true, tasks := 9, close := 100 } }, reg F.WDOG_SERVED_TASK 1, reg F.WDOG_CFG_CLKSEL 0, reg wdogClkAlt 0], 3, false, by decide⟩

theorem wit_HostWatchdogRows_2 : ∃ (s : State) (a : Addr), s.told = true ∧ s.ld.serves = true ∧ a.val < 8 ∧ nbit (if s.ld.wdog.running then s.ld.wdog.tasks else s.ld.g F.WDOG_TASKS_EN) a = false :=
  ⟨at_ [L fun l => { l with linkUp := false }, port .run, L fun l => { l with wdog := { running := true, tasks := 1, close := 100 } }], 3, by decide⟩

theorem wit_HostWatchdogRows_3 : ∃ s : State, s.ld.wdog.firstDue = true ∧ s.ld.wdog.running = false ∧ s.ld.gb wdogHalted = false ∧ s.ld.g F.WDOG_TASKS_EN ≠ 0 ∧ s.ld.mode ≠ .boot :=
  ⟨at_ [port .run, reg wdogHalted 0, reg F.WDOG_TASKS_EN 5, L fun l => { l with wdog := { firstDue := true } }], by decide⟩

theorem wit_HostWatchdogRows_4 : ∃ s : State, s.ld.wdog.running = true ∧ s.ld.wdogJudges = true ∧ s.ld.wdog.injMissed = 0 ∧ s.ld.g F.WDOG_TASKS_EN ≠ 0 :=
  ⟨at_ [port .run, reg F.WDOG_TASKS_EN 5, reg F.WDOG_SERVED_TASK 1, L fun l => { l with wdog := { running := true, tasks := 5, double := 1 } }], by decide⟩

theorem wit_HostWatchdogRows_5 : ∃ s : State, s.ld.gb wdogClkAlt = false :=
  ⟨at_ [reg wdogClkAlt 0], by decide⟩

theorem wit_HostWatchdogRows_6 : ∃ (s : State) (ctr : Word) (w : Word), s.told = true ∧ s.ld.takes ctr (R.WDOG_TASKS) (w) :=
  ⟨at_ [L fun l => { l with linkUp := false }, port .run, owner, open_ (4)], 5#32, 6#32, by decide⟩

theorem wit_LoftRows_1 : ∃ (s : State) (r : LoftReq), firstOf s.ld.recs = some r ∧ s.ld.mram.loft.recs.length ≠ 8192 ∧ s.ld.loft.queue.length < 64 ∧ nbit s.ld.cores.lost 4 = false ∧ s.ld.classOn (r.code / 4096) = true :=
  ⟨at_ [port .run, L fun l => { l with recs := [{ code := 5, source := 3 }, { code := 6, source := 7 }], loft := {}, mram := {} }], { code := 5, source := 3 }, by decide⟩

theorem wit_LoftRows_2 : ∃ (s : State) (r : LoftReq) (q : List LoftReq), s.ld.loft.queue = r :: q ∧ s.ld.loftClearing = false ∧ nbit s.ld.cores.lost 4 = false ∧ s.ld.mram.loft.recs.length < 8192 :=
  ⟨at_ [port .run, L fun l => { l with loft := { queue := [{ code := 5, source := 3 }] }, mram := {} }], { code := 5, source := 3 }, [], by decide⟩

theorem wit_LoftRows_3 : ∃ (s : State) (ctr : Word), s.told = true ∧ s.ld.takes ctr (R.LOFT_CMD) (1#32) ∧ s.ld.g F.LOFT_VSTAT_STATE = 0 :=
  ⟨at_ [L fun l => { l with linkUp := false }, port .run, owner, open_ (6), reg F.LOFT_VSTAT_STATE 0], 5#32, by decide⟩

theorem wit_LoftRows_4 : ∃ (s : State) (ctr : Word), s.told = true ∧ s.ld.takes ctr (R.LOFT_CMD) (keyed 2 0x10F7) ∧ s.ld.g F.LOFT_VSTAT_STATE = 0 :=
  ⟨at_ [L fun l => { l with linkUp := false }, port .run, owner, open_ (6), reg F.LOFT_VSTAT_STATE 0], 5#32, by decide⟩

theorem wit_LoftRows_5 : ∃ (s : State) (ctr : Word), s.told = true ∧ s.ld.takes ctr (R.LOFT_CMD) (keyed 6 0x10F7) ∧ s.ld.g F.LOFT_VSTAT_STATE = 0 :=
  ⟨at_ [L fun l => { l with linkUp := false }, port .run, owner, open_ (6), reg F.LOFT_VSTAT_STATE 0], 5#32, by decide⟩

theorem wit_LoftRows_6 : ∃ (s : State) (clear : Bool) (force : Bool) (n : Nat), s.ld.loft.check = some (clear, force, n) ∧ s.ld.g F.LOFT_VSTAT_STATE = 1 ∧ s.ld.loft.failNext = false ∧ (s.ld.mram.loft.recs.take n).all (fun r => !r.bad) = true :=
  ⟨at_ [reg F.LOFT_VSTAT_STATE 1, L fun l => { l with loft := { check := some (true, false, 1) }, mram := { l.mram with loft := { recs := [{ req := { code := 5, source := 3 }, seq := 0, check := 0 }] } } }], true, false, 1, by decide⟩

theorem wit_LoftRows_7 : ∃ (s : State) (force : Bool) (n : Nat) (i : Nat), s.ld.loft.check = some (false, force, n) ∧ s.ld.g F.LOFT_VSTAT_STATE = 1 ∧ (s.ld.mram.loft.recs.take n).findIdx? (fun r => r.bad) = some i :=
  ⟨at_ [reg F.LOFT_VSTAT_STATE 1, L fun l => { l with loft := { check := some (false, false, 1) }, mram := { l.mram with loft := { recs := [{ req := { code := 5, source := 3 }, seq := 0, check := 0, bad := true }] } } }], false, 1, 0, by decide⟩

theorem wit_LoftRows_8 : ∃ s : State, s.ld.g F.LOFT_VSTAT_STATE = 2 :=
  ⟨at_ [reg F.LOFT_VSTAT_STATE 2], by decide⟩

theorem wit_SessionHandshakeRows_1 : ∃ (s : State) (ws : List Word), s.told = true ∧ s.ld.serves = true ∧ s.ld.cellar.hold = none ∧ s.ld.cellarServes = true ∧ s.ld.mram.owner.isSome = true ∧ wbits (ws.getD 0 0#32) 16 2 ≠ 0 ∧ (wbit (ws.getD 0 0#32) 0 = true → s.ld.sess.cur.isSome = true) :=
  ⟨at_ [L fun l => { l with linkUp := false }, port .run, reg cellarIdOk 1, reg cellarKatOk 1, reg cellarRngOk 1, L fun l => { l with mram := { l.mram with owner := some 7 } }], [0x00020000#32], by decide⟩

theorem wit_SessionHandshakeRows_2 : ∃ (s : State) (h : Handshake) (ws : List Word), s.told = true ∧ s.ld.made kChallenge = some (resOk, ws) ∧ s.ld.sess.hand = some h :=
  ⟨at_ [L fun l => { l with linkUp := false }, port .run, L fun l => { l with sess := { l.sess with hand := some { role := 2, rekey := false, result := 0 }, making := some (2, 0, []) } }], { role := 2, rekey := false, result := 0 }, [], by decide⟩

theorem wit_SessionHandshakeRows_3 : ∃ (s : State) (h : Handshake) (_ws : List Word) (_credOk : Bool) (_sigOk : Bool), s.told = true ∧ s.ld.serves = true ∧ s.ld.cellar.hold = none ∧ s.ld.sess.hand = some h ∧ h.sent ≠ [] ∧ h.proved = none :=
  ⟨at_ [L fun l => { l with linkUp := false }, port .run, L fun l => { l with sess := { l.sess with hand := some { role := 2, rekey := false, result := 0, sent := [1#32] } } }], { role := 2, rekey := false, result := 0, sent := [1#32] }, [], true, true, by decide⟩

theorem wit_SessionHandshakeRows_4 : ∃ (s : State) (h : Handshake) (p : Proved) (ws : List Word), s.told = true ∧ s.ld.made kAccept = some (resOk, ws) ∧ s.ld.sess.hand = some h ∧ h.proved = some p :=
  ⟨at_ [L fun l => { l with linkUp := false }, port .run, L fun l => { l with sess := { l.sess with cur := none, hand := some { role := 2, rekey := false, result := 0, proved := some ⟨0, 3, 9, 1⟩ }, making := some (4, 0, []) } }], { role := 2, rekey := false, result := 0, proved := some ⟨0, 3, 9, 1⟩ }, ⟨0, 3, 9, 1⟩, [], by decide⟩

theorem wit_SessionHandshakeRows_5 : ∃ s : State, s.told = true ∧ s.ld.serves = true ∧ s.ld.cellar.hold = none :=
  ⟨at_ [L fun l => { l with linkUp := false }, port .run], by decide⟩

theorem wit_SessionHandshakeRows_6 : ∃ (s : State) (r : Nat) (ws : List Word), s.ld.made kClosed = some (r, ws) ∧ s.ld.sess.cur.isSome = true :=
  ⟨at_ [L fun l => { l with linkUp := false }, port .run, owner, L fun l => { l with sess := { l.sess with making := some (6, 0, []) } }], 0, [], by decide⟩

theorem wit_SessionHandshakeRows_7 : ∃ s : State, s.ld.gb cellarRngOk = true :=
  ⟨at_ [reg cellarRngOk 1], by decide⟩

theorem wit_SessionHandshakeRows_8 : ∃ s : State, s.ld.gb cellarRngOk = true :=
  ⟨at_ [reg cellarRngOk 1, owner], by decide⟩

theorem wit_SessionHandshakeRows_9 : ∃ (s : State) (kind : Fin 128) (n : ReplyRead) (ws : List Word), s.told = true ∧ s.ld.serves = true ∧ n.words ≠ 0 ∧ s.ld.sess.reply = some (kind.val, ws) :=
  ⟨at_ [L fun l => { l with linkUp := false }, port .run, L fun l => { l with sess := { l.sess with reply := some (6, [3#32]) } }], 6, ⟨2, false⟩, [3#32], by decide⟩

theorem wit_SessionHandshakeRows_10 : ∃ (s : State) (kind : Fin 128), s.told = true ∧ s.ld.serves = true ∧ hostKinds.contains kind.val = false :=
  ⟨at_ [L fun l => { l with linkUp := false }, port .run], 2, by decide⟩

theorem wit_OwnershipRows_1 : ∃ (s : State) (_w : Word), s.told = true ∧ s.ld.serves = true ∧ s.ld.cellar.hold = none :=
  ⟨at_ [L fun l => { l with linkUp := false }, port .run], 1#32, by decide⟩

theorem wit_OwnershipRows_2 : ∃ (s : State) (r : Nat) (w : Word), s.ld.made kNonce = some (r, [w]) :=
  ⟨at_ [L fun l => { l with linkUp := false }, port .run, L fun l => { l with sess := { l.sess with making := some (17, 0, [1#32]) } }], 0, 1#32, by decide⟩

theorem wit_OwnershipRows_3 : ∃ (s : State) (_ws : List Word), s.told = true ∧ s.ld.serves = true ∧ s.ld.cellar.hold = none ∧ s.ld.enrolOpen = true ∧ s.ld.nonceOk 1 = true :=
  ⟨at_ [L fun l => { l with linkUp := false }, port .commission, reg cellarIdOk 1, reg cellarKatOk 1, reg cellarRngOk 1, reg cellarHalted 0, reg F.DEVICE_MODE_ENROL_OPEN 1, L fun l => { l with mram := {}, sess := { l.sess with nonce := some ⟨1, l.time, []⟩ } }], [], by decide⟩

theorem wit_OwnershipRows_4 : ∃ (s : State) (ws : List Word), s.told = true ∧ s.ld.made kEnrolDone = some (resOk, ws) ∧ s.ld.enrolOpen = true :=
  ⟨at_ [L fun l => { l with linkUp := false }, port .commission, reg cellarIdOk 1, reg cellarKatOk 1, reg cellarRngOk 1, reg cellarHalted 0, reg F.DEVICE_MODE_ENROL_OPEN 1, L fun l => { l with mram := {}, sess := { l.sess with making := some (19, 0, [5#32]) } }], [5#32], by decide⟩

theorem wit_OwnershipRows_5 : ∃ (s : State) (ws : List Word), s.told = true ∧ s.ld.serves = true ∧ s.ld.cellar.hold = none ∧ s.ld.role = 3 ∧ s.ld.mram.owner.isSome = true ∧ s.ld.cellarServes = true ∧ s.ld.nonceOk 2 = true ∧ wordsNat (msgWords 25 12 ws) = crateHash (s.ld.mram.slot s.ld.mram.active).words :=
  ⟨at_ [L fun l => { l with linkUp := false }, port .run, owner, reg cellarIdOk 1, reg cellarKatOk 1, reg cellarRngOk 1, reg cellarHalted 0, L fun l => { l with mram := { owner := some 7 }, sess := { l.sess with nonce := some ⟨2, l.time, []⟩ } }], [], by decide⟩

theorem wit_OwnershipRows_6 : ∃ (s : State) (ws : List Word), s.told = true ∧ s.ld.made kTransferDone = some (resOk, ws) ∧ s.ld.role = 3 ∧ (s.ld.freeSlot s.ld.mram.ownerSlot).isSome = true :=
  ⟨at_ [L fun l => { l with linkUp := false }, port .run, owner, L fun l => { l with mram := { owner := some 7 }, sess := { l.sess with making := some (21, 0, [5#32]) } }], [5#32], by decide⟩

theorem wit_CellarRows_1 : ∃ (s : State) (d : Fin 11) (_holds : Bool), s.told = true ∧ d.val ≠ 10 ∧ s.ld.detectorOn d = true ∧ s.ld.detGrade d = 0 :=
  ⟨at_ [L fun l => { l with linkUp := false }, port .run, reg ⟨R.CELLAR_GRADE, 4, 2⟩ 0], 2, true, by decide⟩

theorem wit_CellarRows_2 : ∃ (s : State) (d : Fin 11) (_holds : Bool), s.told = true ∧ d.val ≠ 10 ∧ s.ld.detectorOn d = true ∧ s.ld.detGrade d = 1 :=
  ⟨at_ [L fun l => { l with linkUp := false }, port .run, owner, reg ⟨R.CELLAR_GRADE, 4, 2⟩ 1], 2, true, by decide⟩

theorem wit_CellarRows_3 : ∃ (s : State) (d : Fin 11) (_holds : Bool), d.val ≠ 10 ∧ s.ld.detectorOn d = true ∧ 2 ≤ s.ld.detGrade d ∧ s.ld.mode ≠ .boot ∧ s.ld.mode ≠ .lockout :=
  ⟨at_ [L fun l => { l with linkUp := false }, port .run, owner, reg ⟨R.CELLAR_GRADE, 4, 2⟩ 2], 2, true, by decide⟩

theorem wit_CellarRows_4 : ∃ s : State, s.told = true :=
  ⟨at_ [L fun l => { l with linkUp := false }, port .run, owner], by decide⟩

theorem wit_CellarRows_5 : ∃ (s : State) (_pass : Bool), s.ld.gb cellarHalted = true ∧ s.ld.cellar.stuck = false :=
  ⟨at_ [reg cellarHalted 1, L fun l => { l with cellar := {} }], true, by decide⟩

theorem wit_CellarRows_7 : ∃ (s : State) (_pass : Bool), s.ld.cellar.testing = true :=
  ⟨at_ [L fun l => { l with cellar := { testing := true } }, owner], false, by decide⟩

theorem wit_CellarRows_8 : ∃ (s : State) (test : EntropyTest), test ≠ .pairwise ∧ s.ld.cellar.rngAt = none :=
  ⟨at_ [L fun l => { l with cellar := {} }], .proportion, by decide⟩

theorem wit_CellarRows_9 : ∃ (s : State) (_test : EntropyTest) (u : Nat), s.ld.cellar.rngAt = some u ∧ s.ld.time - u ≤ 60 * minuteTicks ∧ s.ld.gb cellarRngOk = true :=
  ⟨at_ [owner, reg cellarRngOk 1, L fun l => { l with time := 5, cellar := { rngAt := some 2 } }], .proportion, 2, by decide⟩

theorem wit_CellarCommandRows_1 : ∃ (s : State) (ctr : Word), s.told = true ∧ s.ld.takes ctr (R.CELLAR_SELFTEST) (1#32) :=
  ⟨at_ [L fun l => { l with linkUp := false }, port .run, owner, open_ (7)], 5#32, by decide⟩

theorem wit_CellarCommandRows_2 : ∃ (s : State) (ctr : Word), s.told = true ∧ s.ld.takes ctr (R.CELLAR_ZEROISE) (keyed 1 0x2E10) :=
  ⟨at_ [L fun l => { l with linkUp := false }, port .run, owner, open_ (7)], 5#32, by decide⟩

theorem wit_CellarCommandRows_3 : ∃ (s : State) (ctr : Word), s.told = true ∧ s.ld.takes ctr (R.CELLAR_ZEROISE) (keyed 2 0x6A7D) :=
  ⟨at_ [L fun l => { l with linkUp := false }, port .run, owner, open_ (7)], 5#32, by decide⟩

theorem wit_EngineRows_1 : ∃ (s : State) (_role : EngineRole), s.told = true :=
  ⟨at_ [L fun l => { l with linkUp := false }], 2, by decide⟩

theorem wit_EngineRows_2 : ∃ (s : State) (role : EngineRole) (i : Nat), s.told = true ∧ role.val ≠ 1 ∧ nbit s.ld.cores.lost role = false ∧ (role.val < 5 ∨ s.fd.released = true) ∧ s.ld.spareCore (coreKind role) = some i :=
  ⟨at_ [up, port .run, L fun l => { l with cores := {}, mram := {} }], 2, 4, by decide⟩

theorem wit_EngineRows_3 : ∃ (s : State) (role : EngineRole) (i : Nat), s.told = true ∧ role.val ≠ 1 ∧ nbit s.ld.cores.lost role = false ∧ (role.val < 5 ∨ s.fd.released = true) ∧ s.ld.spareCore (coreKind role) = some i :=
  ⟨at_ [up, port .run, L fun l => { l with cores := {}, mram := {} }], 2, 4, by decide⟩

theorem wit_EngineRows_4 : ∃ (s : State) (role : EngineRole), s.told = true ∧ role.val ≠ 1 ∧ nbit s.ld.cores.lost role = false ∧ (role.val < 5 ∨ s.fd.released = true) ∧ s.ld.spareCore (coreKind role) = none :=
  ⟨at_ [up, port .run, L fun l => { l with cores := {}, mram := { larder := { retired := [(1, 4)] } } }], 2, by decide⟩

theorem wit_EngineRows_5 : ∃ (s : State) (_role : EngineRole), s.told = true :=
  ⟨at_ [L fun l => { l with linkUp := false }, L fun l => { l with cores := { restarting := 4 } }], 2, by decide⟩

theorem wit_EngineRows_6 : ∃ (s : State) (role : EngineRole), role.val ≠ 1 ∧ nbit s.ld.cores.lost role = false ∧ nbit s.ld.cores.restarting role = false :=
  ⟨at_ [L fun l => { l with cores := {} }], 5, by decide⟩

theorem wit_EngineRows_7 : ∃ (s : State) (mem : Memory) (row : Nat) (_use : RowUse) (k : Nat), s.told = true ∧ s.memAsleep mem = false ∧ memKind mem = some k ∧ s.ld.rowInUse k row = true ∧ row < memRows mem ∧ s.ld.mem.marked.contains mem = false :=
  ⟨at_ [L fun l => { l with linkUp := false }, L fun l => { l with mem := {}, mram := {} }], .wsram, 9, .other, 7, by decide⟩

theorem wit_EngineRows_8 : ∃ (s : State) (row : Nat) (_p : Fin 4), s.told = true ∧ s.ld.rowInUse 11 row = true ∧ row < memRows .mram ∧ s.ld.mem.marked.contains .mram = false :=
  ⟨at_ [L fun l => { l with linkUp := false }, L fun l => { l with mem := {}, mram := {} }], 9, 2, by decide⟩

theorem wit_EngineRows_9 : ∃ (s : State) (mem : Memory) (row : Nat) (k : Nat) (sp : Nat) (x : RowMove), s.ld.mem.moves.find? (fun x => x.mem == mem && x.row == row) = some x ∧ memKind mem = some k ∧ s.ld.spareRow k = some sp :=
  ⟨at_ [L fun l => { l with mem := { moves := [⟨.wsram, 9, 2, false⟩] }, mram := {} }], .wsram, 9, 7, 16384, ⟨.wsram, 9, 2, false⟩, by decide⟩

theorem wit_FaultRows_1 : ∃ (s : State) (e : FaultEv), s.told = true ∧ s.ld.raised = [e] ∧ e.src < 64 ∧ nbit (s.ld.g (F.FAULT_SRC_REACT_MILD e.src)) 2 = false ∧ nbit (s.ld.g (F.FAULT_SRC_REACT_MILD e.src)) 3 = false ∧ nbit (s.ld.g (F.FAULT_SRC_REACT_SEVERE e.src)) 2 = false ∧ nbit (s.ld.g (F.FAULT_SRC_REACT_SEVERE e.src)) 3 = false :=
  ⟨at_ [up, port .run, reg (F.FAULT_SRC_REACT_MILD 40) 1, reg (F.FAULT_SRC_REACT_SEVERE 40) 1, L fun l => { l with raised := [{ src := 40, severe := true }] }], { src := 40, severe := true }, by decide⟩

theorem wit_FaultRows_2 : ∃ (s : State) (e : FaultEv), s.told = true ∧ s.ld.raised = [e] ∧ e.src < 64 ∧ e.severe = true ∧ wdogSource e.src = false ∧ s.ld.mode = .run ∧ s.ld.leadReady = false ∧ nbit (s.ld.g (F.FAULT_SRC_REACT_MILD e.src)) 2 = false ∧ nbit (s.ld.g (F.FAULT_SRC_REACT_MILD e.src)) 3 = false ∧ nbit (s.ld.g (F.FAULT_SRC_REACT_SEVERE e.src)) 2 = false ∧ nbit (s.ld.g (F.FAULT_SRC_REACT_SEVERE e.src)) 3 = false ∧ nbit (s.ld.g (F.FAULT_SRC_REACT_SEVERE e.src)) 5 = true :=
  ⟨at_ [up, port .run, reg (F.FAULT_SRC_REACT_MILD 40) 1, reg (F.FAULT_SRC_REACT_SEVERE 40) 33, reg F.PAIR_STAT_ROLE 0, L fun l => { l with raised := [{ src := 40, severe := true }] }], { src := 40, severe := true }, by decide⟩

theorem wit_FaultRows_3 : ∃ (s : State) (ctr : Word) (w : Word), s.told = true ∧ s.ld.takes ctr (R.FAULT_ACK) (w) ∧ wbit w 31 = false :=
  ⟨at_ [L fun l => { l with linkUp := false }, port .run, owner, open_ (5), reg (F.FAULT_SRC_STAT_INHAND 7) 1], 5#32, 7#32, by decide⟩

theorem wit_FaultRows_4 : ∃ (s : State) (ctr : Word) (i : Fin 64), s.told = true ∧ s.ld.takes ctr (R.FAULT_CLEAR) (word (256 + i)) ∧ (s.ld.eventsOf i).all (fun x => x.1 != s.ld.time) = true :=
  ⟨at_ [L fun l => { l with linkUp := false }, port .run, owner, open_ (5), reg (F.FAULT_SRC_STAT_SEVERE 7) 1], 5#32, 7, by decide⟩

theorem wit_FaultRows_5 : ∃ (s : State) (ctr : Word) (i : Fin 64), s.told = true ∧ s.ld.takes ctr (R.FAULT_CLEAR) (word (512 + i)) ∧ (s.ld.eventsOf i).all (fun x => x.1 != s.ld.time) = true :=
  ⟨at_ [L fun l => { l with linkUp := false }, port .run, owner, open_ (5), reg (F.FAULT_SRC_STAT_COUNT 7) 9], 5#32, 7, by decide⟩

theorem wit_FaultRows_6 : ∃ (s : State) (ctr : Word), s.told = true ∧ s.ld.takes ctr (R.FAULT_ERRCTL) (1#32) ∧ s.ld.errout = true ∧ s.ld.faults.errAt ≠ some s.ld.time :=
  ⟨at_ [L fun l => { l with linkUp := false }, port .run, owner, open_ (5), L fun l => { l with errout := true, minw := true }], 5#32, by decide⟩

theorem wit_FaultRows_7 : ∃ s : State, s.ld.minw = true :=
  ⟨at_ [L fun l => { l with minw := true }], by decide⟩

theorem wit_FaultRows_8 : ∃ s : State, s.up :=
  ⟨at_ [up], by decide⟩

theorem wit_LarderRows_1 : ∃ (s : State) (ctr : Word) (kind : Fin 16) (index : Fin 16777216), s.up ∧ s.ld.bar.cmds = [] ∧ s.ld.bar.pages = [] ∧ s.ld.takes ctr (R.LARDER_REQ) (word (16 + kind + 256 * index)) ∧ index.val < kindTotal kind ∧ s.ld.spares kind ≠ 0 ∧ s.ld.isRetired kind index = false ∧ (kind.val = 13 → s.ld.slotsUsed.contains index = true ∧ (s.ld.freeSlot index).isSome = true) ∧ s.retiring kind = false :=
  ⟨at_ [up, L fun l => { l with bar := { l.bar with cmds := [], pages := [] } }, port .run, owner, open_ (8), L fun l => { l with mram := {}, mem := {}, cores := {} }], 5#32, 9, 5, by decide⟩

theorem wit_LarderRows_2 : ∃ (s : State) (ctr : Word) (kind : Fin 16) (index : Fin 16777216), s.up ∧ s.ld.bar.cmds = [] ∧ s.ld.bar.pages = [] ∧ s.ld.takes ctr (R.LARDER_REQ) (word (16 + kind + 256 * index)) ∧ 7 ≤ kind.val ∧ kind.val ≤ 12 ∧ index.val < kindTotal kind ∧ s.ld.spares kind ≠ 0 ∧ s.ld.isRetired kind index = false ∧ s.ld.moving kind = false ∧ s.ld.rowInUse kind index = true :=
  ⟨at_ [up, L fun l => { l with bar := { l.bar with cmds := [], pages := [] } }, port .run, owner, open_ (8), L fun l => { l with mram := {}, mem := {}, cores := {} }], 5#32, 9, 5, by decide⟩

theorem wit_LarderRows_3 : ∃ (s : State) (ctr : Word) (kind : Fin 16) (index : Fin 16777216), s.up ∧ s.ld.bar.cmds = [] ∧ s.ld.bar.pages = [] ∧ s.ld.takes ctr (R.LARDER_REQ) (word (16 + kind + 256 * index)) ∧ 7 ≤ kind.val ∧ kind.val ≤ 12 ∧ index.val < kindTotal kind ∧ s.ld.spares kind ≠ 0 ∧ s.ld.isRetired kind index = false ∧ s.ld.moving kind = false ∧ s.ld.rowInUse kind index = false :=
  ⟨at_ [up, L fun l => { l with bar := { l.bar with cmds := [], pages := [] } }, port .run, owner, open_ (8), L fun l => { l with mram := {}, mem := {}, cores := {} }], 5#32, 9, 2050, by decide⟩

theorem wit_LarderRows_4 : ∃ (s : State) (ctr : Word) (kind : Fin 16) (index : Fin 16777216), s.up ∧ s.ld.bar.cmds = [] ∧ s.ld.bar.pages = [] ∧ s.ld.takes ctr (R.LARDER_REQ) (word (16 + kind + 256 * index)) ∧ index.val < kindTotal kind ∧ (s.ld.spares kind = 0 ∨ s.ld.isRetired kind index = true) :=
  ⟨at_ [up, L fun l => { l with bar := { l.bar with cmds := [], pages := [] } }, port .run, owner, open_ (8), L fun l => { l with mram := { larder := { retired := [(9, 5)] } }, mem := {} }], 5#32, 9, 5, by decide⟩

theorem wit_LarderRows_5 : ∃ (s : State) (ctr : Word) (kind : Fin 16) (index : Fin 16777216), s.up ∧ s.ld.bar.cmds = [] ∧ s.ld.bar.pages = [] ∧ s.ld.takes ctr (R.LARDER_REQ) (word (32 + kind + 256 * index)) ∧ index.val < kindTotal kind ∧ s.ld.isRetired kind index = true ∧ s.ld.restores_ kind index < 2 ∧ s.retiring kind = false :=
  ⟨at_ [up, L fun l => { l with bar := { l.bar with cmds := [], pages := [] } }, port .run, owner, open_ (8), L fun l => { l with mram := { larder := { retired := [(9, 5)] } }, mem := {} }], 5#32, 9, 5, by decide⟩

theorem wit_LarderRows_6 : ∃ (s : State) (r : RestoreResult) (k : Nat) (i : Nat) (rest : List (Nat × Nat)), s.told = true ∧ s.ld.larder.testing = (k, i) :: rest ∧ r.fail.val = 0 ∧ (k ≠ 0 ∨ s.ld.linkUp = true ∧ s.fd.released = true ∧ (s.fd.testVerdict i 0 r.dev).1 = 0) :=
  ⟨at_ [L fun l => { l with linkUp := false }, L fun l => { l with mram := { larder := { retired := [(9, 5)] } }, larder := { testing := [(9, 5)] } }], ⟨0, 0⟩, 9, 5, [], by decide⟩

theorem wit_LarderRows_7 : ∃ (s : State) (r : RestoreResult) (k : Nat) (i : Nat) (rest : List (Nat × Nat)), s.told = true ∧ s.ld.larder.testing = (k, i) :: rest ∧ k ≠ 0 ∧ r.fail.val ≠ 0 :=
  ⟨at_ [L fun l => { l with linkUp := false }, L fun l => { l with mram := { larder := { retired := [(9, 5)] } }, larder := { testing := [(9, 5)] } }], ⟨2, 0⟩, 9, 5, [], by decide⟩

theorem wit_LarderRows_8 : ∃ (s : State) (r : RestoreResult) (i : Nat) (rest : List (Nat × Nat)), s.told = true ∧ s.ld.larder.testing = (0, i) :: rest ∧ (s.ld.linkUp = true → s.fd.released = true → (s.fd.testVerdict i r.fail r.dev).1 ≠ 0) :=
  ⟨at_ [L fun l => { l with linkUp := false }, L fun l => { l with mram := { larder := { retired := [(0, 5)] } }, larder := { testing := [(0, 5)] } }], ⟨2, 0⟩, 5, [], by decide⟩

theorem wit_LarderRows_9 : ∃ (s : State) (ctr : Word) (w : Word), s.up ∧ s.ld.bar.cmds = [] ∧ s.ld.bar.pages = [] ∧ s.ld.takes ctr (R.LARDER_VETO) (w) :=
  ⟨at_ [up, L fun l => { l with bar := { l.bar with cmds := [], pages := [] } }, port .run, owner, open_ (8)], 5#32, 3#32, by decide⟩

theorem wit_BlockRows_1 : ∃ (s : State) (ctr : Word) (page : Page) (en : Bool), s.up ∧ s.ld.bar.cmds = [] ∧ s.ld.bar.pages = [] ∧ s.ld.takes ctr (R.CTRL page) (word (2 + b2n en)) ∧ s.status page 0 = false ∧ s.status page 1 = false ∧ s.enabled page = en :=
  ⟨at_ [up, L fun l => { l with bar := { l.bar with cmds := [], pages := [] } }, port .run, owner, open_ (5), (fun s => s.setStatus 5 0 false), (fun s => s.setStatus 5 1 false), reg (F.CTRL_EN 5) 1, cfg (F.CTRL_EN 5) 1], 5#32, 5, true, by decide⟩

theorem wit_BlockRows_2 : ∃ (s : State) (ctr : Word) (page : Page), s.up ∧ s.ld.bar.cmds = [] ∧ s.ld.bar.pages = [] ∧ s.ld.takes ctr (R.CTRL page) (1#32) ∧ s.status page 0 = false ∧ s.status page 1 = false ∧ s.enabled page = false ∧ s.ld.gb (F.CTRL_EN page) = false :=
  ⟨at_ [up, L fun l => { l with bar := { l.bar with cmds := [], pages := [] } }, port .run, owner, open_ (5), (fun s => s.setStatus 5 0 false), (fun s => s.setStatus 5 1 false), reg (F.CTRL_EN 5) 0, cfg (F.CTRL_EN 5) 0], 5#32, 5, by decide⟩

theorem wit_BlockRows_3 : ∃ (s : State) (ctr : Word) (page : Page), s.up ∧ s.ld.bar.cmds = [] ∧ s.ld.bar.pages = [] ∧ s.ld.takes ctr (R.CTRL page) (0#32) ∧ s.status page 0 = false ∧ s.status page 1 = false ∧ s.enabled page = true :=
  ⟨at_ [up, L fun l => { l with bar := { l.bar with cmds := [], pages := [] } }, port .run, owner, open_ (5), (fun s => s.setStatus 5 0 false), (fun s => s.setStatus 5 1 false), reg (F.CTRL_EN 5) 1, cfg (F.CTRL_EN 5) 1], 5#32, 5, by decide⟩

theorem wit_BlockRows_4 : ∃ (s : State) (page : Page), s.up ∧ s.resetting page = true ∧ s.shutsDown page = false ∧ s.status page 1 = false :=
  ⟨at_ [up, (fun s => s.setStatus 5 0 false), (fun s => s.setStatus 5 1 false), Fd fun f => { f with resets := [5], shutting := [] }, L fun l => { l with resets := [5], shutting := [] }], 5, by decide⟩

theorem wit_BlockRows_5 : ∃ (s : State) (page : Page), s.up ∧ s.status page 0 = true ∧ s.shutsDown page = true ∧ s.resetting page = false ∧ s.status page 1 = false :=
  ⟨at_ [up, (fun s => s.setStatus 5 0 false), (fun s => s.setStatus 5 1 false), (fun s => s.setStatus 5 0 true), Fd fun f => { f with resets := [], shutting := [5] }, L fun l => { l with resets := [], shutting := [5] }], 5, by decide⟩

theorem wit_BlockRows_6 : ∃ (s : State) (page : Page), s.up ∧ s.status page 0 = true ∧ s.shutsDown page = true ∧ s.resetting page = false ∧ s.status page 1 = true :=
  ⟨at_ [up, (fun s => s.setStatus 5 0 false), (fun s => s.setStatus 5 1 false), (fun s => s.setStatus 5 0 true), (fun s => s.setStatus 5 1 true), Fd fun f => { f with resets := [], shutting := [5] }, L fun l => { l with resets := [], shutting := [5] }], 5, by decide⟩

theorem wit_ClockRows_1 : ∃ (s : State) (src : Fin 7), s.told = true ∧ src.val ≤ 1 ∧ s.ld.gb (clockOk src) = true ∧ s.ld.gb F.CLOCK_SRCSTAT_DEGRADED = false ∧ s.ld.hfrcGood s.ld.hfrc = true :=
  ⟨at_ [up, port .run, L fun l => { l with mram := {}, clocks := {} }, reg (clockOk 0) 1, reg (clockOk 1) 1, reg (clockOk 2) 1, reg (clockOk 3) 1, reg (clockOk 4) 1, reg (clockOk 5) 1, reg F.CLOCK_SRCSTAT_DEGRADED 0], 0, by decide⟩

theorem wit_ClockRows_2 : ∃ (s : State) (src : Fin 7), src.val ≤ 1 ∧ s.ld.gb (clockOk src) = true ∧ s.ld.gb F.CLOCK_SRCSTAT_DEGRADED = false ∧ s.ld.hfrcGood 0 = false ∧ s.ld.hfrcGood 1 = false :=
  ⟨at_ [up, port .run, L fun l => { l with mram := {}, clocks := {} }, reg (clockOk 0) 1, reg (clockOk 1) 1, reg (clockOk 2) 1, reg (clockOk 3) 1, reg (clockOk 4) 1, reg (clockOk 5) 1, reg F.CLOCK_SRCSTAT_DEGRADED 0, reg (clockOk 2) 0, reg (clockOk 3) 0], 0, by decide⟩

theorem wit_ClockRows_3 : ∃ (s : State) (src : Fin 7), s.told = true ∧ src.val ≤ 1 ∧ s.ld.gb (clockOk src) = true ∧ s.ld.gb F.CLOCK_SRCSTAT_DEGRADED = false ∧ s.ld.hfrcGood s.ld.hfrc = false ∧ s.ld.hfrcGood (1 - s.ld.hfrc) = true :=
  ⟨at_ [up, port .run, L fun l => { l with mram := {}, clocks := {} }, reg (clockOk 0) 1, reg (clockOk 1) 1, reg (clockOk 2) 1, reg (clockOk 3) 1, reg (clockOk 4) 1, reg (clockOk 5) 1, reg F.CLOCK_SRCSTAT_DEGRADED 0, reg (clockOk 2) 0], 0, by decide⟩

theorem wit_ClockRows_4 : ∃ (s : State) (k : Fin 2), s.told = true ∧ s.ld.gb (clockOk (2 + k)) = true ∧ s.ld.hfrc = k.val ∧ s.ld.hfrcGood (1 - k) = true ∧ s.ld.isRetired 6 k = false :=
  ⟨at_ [up, port .run, L fun l => { l with mram := {}, clocks := {} }, reg (clockOk 0) 1, reg (clockOk 1) 1, reg (clockOk 2) 1, reg (clockOk 3) 1, reg (clockOk 4) 1, reg (clockOk 5) 1, reg F.CLOCK_SRCSTAT_DEGRADED 0], 0, by decide⟩

theorem wit_ClockRows_5 : ∃ (s : State) (src : Fin 7), s.told = true ∧ src.val = 4 ∧ s.ld.gb (clockOk 4) = true :=
  ⟨at_ [up, port .run, L fun l => { l with mram := {}, clocks := {} }, reg (clockOk 0) 1, reg (clockOk 1) 1, reg (clockOk 2) 1, reg (clockOk 3) 1, reg (clockOk 4) 1, reg (clockOk 5) 1, reg F.CLOCK_SRCSTAT_DEGRADED 0], 4, by decide⟩

theorem wit_ClockRows_6 : ∃ (s : State) (src : Fin 7), s.up ∧ src.val = 5 ∧ s.fd.recBad = false :=
  ⟨at_ [up, Fd fun f => { f with recBad := false }], 5, by decide⟩

theorem wit_ClockRows_7 : ∃ (s : State) (src : Fin 7), s.up ∧ src.val = 6 ∧ s.fd.frcBad = false :=
  ⟨at_ [up], 6, by decide⟩

theorem wit_ClockRows_8 : ∃ s : State, s.up :=
  ⟨at_ [up], by decide⟩

theorem wit_ClockRows_9 : ∃ (s : State) (src : Fin 7), s.told = true ∧ src.val ≤ 4 :=
  ⟨at_ [up], 2, by decide⟩

theorem wit_ClockRows_10 : ∃ (s : State) (src : Fin 7), s.told = true ∧ src.val ≤ 1 ∧ s.ld.gb (clockOk (1 - src)) = true ∧ s.ld.gb F.CLOCK_CFG_AUTO_RESTORE = true :=
  ⟨at_ [up, reg (clockOk 1) 1, reg F.CLOCK_CFG_AUTO_RESTORE 1], 0, by decide⟩

theorem wit_ClockRows_11 : ∃ (s : State) (ctr : Word), s.told = true ∧ s.ld.takes ctr (R.CLOCK_CTL) (1#32) ∧ s.ld.gb (clockOk 0) = true ∧ s.ld.gb (clockOk 1) = true :=
  ⟨at_ [L fun l => { l with linkUp := false }, port .run, owner, open_ (1), reg (clockOk 0) 1, reg (clockOk 1) 1], 5#32, by decide⟩

theorem wit_ClockRows_12 : ∃ s : State, s.told = true :=
  ⟨at_ [up], by decide⟩

theorem wit_ClockRows_13 : ∃ (s : State) (ctr : Word) (w : Word), s.told = true ∧ s.ld.takes ctr (R.CLOCK_FMEAS_CFG) (w ||| 0x80000000#32) :=
  ⟨at_ [L fun l => { l with linkUp := false }, port .run, owner, open_ (1)], 5#32, 0xA0102#32, by decide⟩

theorem wit_ClockRows_14 : ∃ (s : State) (_edges : Nat), s.ld.gb F.CLOCK_FMEAS_STAT_BUSY = true :=
  ⟨at_ [reg F.CLOCK_FMEAS_STAT_BUSY 1], 5000, by decide⟩

theorem wit_PartnerPortRows_1 : ∃ (s : State) (_partner : Bool), s.told = true ∧ s.ld.pairPortOn = true ∧ s.ld.pair.port.again = [] :=
  ⟨at_ [up, port .run, reg F.DEVICE_MODE_PAIRED 1, reg F.PAIR_STAT_LINK 1, reg cellarIdOk 1, reg cellarHalted 0, L fun l => { l with mram := { pairKey := some 7 } }, reg F.PAIR_STAT_ROLE 1], false, by decide⟩

theorem wit_PartnerPortRows_2 : ∃ (s : State) (_partner : Bool) (x : SentFrame PFrame) (rest : List (SentFrame PFrame)), s.told = true ∧ s.ld.pairPortOn = true ∧ s.ld.pair.port.again = x :: rest :=
  ⟨at_ [up, port .run, reg F.DEVICE_MODE_PAIRED 1, reg F.PAIR_STAT_LINK 1, reg cellarIdOk 1, reg cellarHalted 0, L fun l => { l with mram := { pairKey := some 7 } }, reg F.PAIR_STAT_ROLE 1, L fun l => { l with pair := { l.pair with port := { again := [{ kind := .ack none, fseq := 3 }] } } }], false, { kind := .ack none, fseq := 3 }, [], by decide⟩

theorem wit_PartnerPortRows_3 : ∃ (s : State) (c : PairSeen) (_resend : Option (Fin 256)) (_severe : Fin 256) (_approved : Bool), s.told = true ∧ s.ld.pairPortOn = true ∧ ¬ s.ld.passes c :=
  ⟨at_ [up, port .run, reg F.DEVICE_MODE_PAIRED 1, reg F.PAIR_STAT_LINK 1, reg cellarIdOk 1, reg cellarHalted 0, L fun l => { l with mram := { pairKey := some 7 } }, reg F.PAIR_STAT_ROLE 1], ⟨false, true, 0⟩, none, 3, true, by decide⟩

theorem wit_PartnerPortRows_4 : ∃ (s : State) (fr : PairSeen) (_resend : Option (Fin 256)) (_severe : Fin 256) (_approved : Bool), s.told = true ∧ s.ld.hears = true ∧ s.ld.passes fr :=
  ⟨at_ [up, port .run, reg F.DEVICE_MODE_PAIRED 1, reg F.PAIR_STAT_LINK 1, reg cellarIdOk 1, reg cellarHalted 0, L fun l => { l with mram := { pairKey := some 7 } }, reg F.PAIR_STAT_ROLE 1], ⟨true, true, 0⟩, none, 3, true, by decide⟩

theorem wit_PartnerPortRows_5 : ∃ (s : State) (fr : PairSeen) (_resend : Option (Fin 256)) (_x : Notice), s.up ∧ s.ld.hears = true ∧ s.ld.pairRole = 2 ∧ s.ld.passes fr :=
  ⟨at_ [up, port .follow, reg F.DEVICE_MODE_PAIRED 1, reg F.PAIR_STAT_LINK 1, reg cellarIdOk 1, reg cellarHalted 0, L fun l => { l with mram := { pairKey := some 7 } }, reg F.PAIR_STAT_ROLE 2], ⟨true, true, 0⟩, none, { n := 3, level := some 1, blocked := false, pulse := none }, by decide⟩

theorem wit_PartnerPortRows_6 : ∃ (s : State) (fr : PairSeen) (_resend : Option (Fin 256)) (_late : Bool) (f : AuthFrame) (x : Session) (page : Page) (w : Word) (u : Nat), s.told = true ∧ s.ld.hears = true ∧ 1 ≤ s.ld.boot.logic ∧ s.ld.host.auth = some f ∧ f.mirrored = some u ∧ s.ld.sess.cur = some x ∧ x.id = f.keys ∧ f.addr = R.EVT_EN page ∧ f.words = [w] ∧ (regRow (R.EVT_EN page)).isSome = true ∧ pageKind page ≠ .seqtab ∧ s.ld.locked page = false ∧ s.ld.passes fr :=
  ⟨at_ [up, port .run, reg F.DEVICE_MODE_PAIRED 1, reg F.PAIR_STAT_LINK 1, reg cellarIdOk 1, reg cellarHalted 0, L fun l => { l with mram := { pairKey := some 7 } }, reg F.PAIR_STAT_ROLE 1, owner, open_ 5, L fun l => { l with host := { l.host with auth := some { addr := 0x504, words := [3#32], ctr := 7, keys := 1, ok := true, mirrored := some 1 } } }], ⟨true, true, 0⟩, none, true, { addr := 0x504, words := [3#32], ctr := 7, keys := 1, ok := true, mirrored := some 1 }, { id := 1, role := 3, top := 4 }, 5, 3#32, 1, by decide⟩

theorem wit_PartnerPortRows_7 : ∃ (s : State) (f : AuthFrame) (x : Session) (page : Page) (w : Word) (u : Nat), s.told = true ∧ 1 ≤ s.ld.boot.logic ∧ s.ld.host.auth = some f ∧ f.mirrored = some u ∧ s.ld.sess.cur = some x ∧ x.id = f.keys ∧ f.addr = R.EVT_EN page ∧ f.words = [w] ∧ (regRow (R.EVT_EN page)).isSome = true ∧ pageKind page ≠ .seqtab ∧ s.ld.locked page = false :=
  ⟨at_ [up, port .run, reg F.DEVICE_MODE_PAIRED 1, reg F.PAIR_STAT_LINK 1, reg cellarIdOk 1, reg cellarHalted 0, L fun l => { l with mram := { pairKey := some 7 } }, reg F.PAIR_STAT_ROLE 1, owner, open_ 5, L fun l => { l with host := { l.host with auth := some { addr := 0x504, words := [3#32], ctr := 7, keys := 1, ok := true, mirrored := some 1 } } }], { addr := 0x504, words := [3#32], ctr := 7, keys := 1, ok := true, mirrored := some 1 }, { id := 1, role := 3, top := 4 }, 5, 3#32, 1, by decide⟩

theorem wit_PartnerPortRows_8 : ∃ (s : State) (fr : PairSeen) (_resend : Option (Fin 256)) (_c : Word) (x : Session), s.told = true ∧ s.ld.hears = true ∧ s.ld.sess.cur = some x ∧ s.ld.passes fr :=
  ⟨at_ [up, port .run, reg F.DEVICE_MODE_PAIRED 1, reg F.PAIR_STAT_LINK 1, reg cellarIdOk 1, reg cellarHalted 0, L fun l => { l with mram := { pairKey := some 7 } }, reg F.PAIR_STAT_ROLE 1, owner], ⟨true, true, 0⟩, none, 9#32, { id := 1, role := 3, top := 4 }, by decide⟩

theorem wit_PartnerPortRows_9 : ∃ (s : State) (fr : PairSeen) (_resend : Option (Fin 256)) (_w : Word) (_c : Word), s.told = true ∧ s.ld.hears = true ∧ s.ld.pairRole = 2 ∧ s.ld.pair.queue.length < 64 ∧ s.ld.passes fr :=
  ⟨at_ [up, port .follow, reg F.DEVICE_MODE_PAIRED 1, reg F.PAIR_STAT_LINK 1, reg cellarIdOk 1, reg cellarHalted 0, L fun l => { l with mram := { pairKey := some 7 } }, reg F.PAIR_STAT_ROLE 2], ⟨true, true, 0⟩, none, 6#32, 9#32, by decide⟩

theorem wit_PartnerPortRows_10 : ∃ (s : State) (fr : PairSeen) (_resend : Option (Fin 256)) (_c : Ctx) (_k : Word), s.told = true ∧ s.ld.hears = true ∧ s.ld.pairRole = 2 ∧ s.ld.pair.queue.length < 64 ∧ s.ld.passes fr :=
  ⟨at_ [up, port .follow, reg F.DEVICE_MODE_PAIRED 1, reg F.PAIR_STAT_LINK 1, reg cellarIdOk 1, reg cellarHalted 0, L fun l => { l with mram := { pairKey := some 7 } }, reg F.PAIR_STAT_ROLE 2], ⟨true, true, 0⟩, none, 3, 9#32, by decide⟩

theorem wit_PartnerPortRows_11 : ∃ (s : State) (fr : PairSeen) (_resend : Option (Fin 256)) (h : Heartbeat), s.told = true ∧ s.ld.hears = true ∧ s.ld.pairRole = 1 ∧ s.ld.pair.step = 7 ∧ h.role.val ≠ 1 ∧ h.ready = true ∧ s.ld.passes fr :=
  ⟨at_ [up, port .run, reg F.DEVICE_MODE_PAIRED 1, reg F.PAIR_STAT_LINK 1, reg cellarIdOk 1, reg cellarHalted 0, L fun l => { l with mram := { pairKey := some 7 } }, reg F.PAIR_STAT_ROLE 1, L fun l => { l with pair := { step := 7 } }], ⟨true, true, 0⟩, none, ⟨2, 4, 0, true⟩, by decide⟩

theorem wit_PartnerPortRows_12 : ∃ (s : State) (fr : PairSeen) (_resend : Option (Fin 256)) (h : Heartbeat), s.told = true ∧ s.ld.hears = true ∧ (s.ld.pairRole ≠ 1 ∨ h.role.val ≠ 1) ∧ s.ld.passes fr :=
  ⟨at_ [up, port .follow, reg F.DEVICE_MODE_PAIRED 1, reg F.PAIR_STAT_LINK 1, reg cellarIdOk 1, reg cellarHalted 0, L fun l => { l with mram := { pairKey := some 7 } }, reg F.PAIR_STAT_ROLE 2], ⟨true, true, 0⟩, none, ⟨1, 2, 0, false⟩, by decide⟩

theorem wit_PartnerPortRows_13 : ∃ (s : State) (fr : PairSeen) (_resend : Option (Fin 256)) (h : Heartbeat), s.told = true ∧ s.ld.hears = true ∧ s.ld.pairRole = 1 ∧ h.role.val = 1 ∧ h.pleadTime + ticks10us < s.ld.pair.pleadAt ∧ s.ld.passes fr :=
  ⟨at_ [up, port .run, reg F.DEVICE_MODE_PAIRED 1, reg F.PAIR_STAT_LINK 1, reg cellarIdOk 1, reg cellarHalted 0, L fun l => { l with mram := { pairKey := some 7 } }, reg F.PAIR_STAT_ROLE 1, L fun l => { l with pair := { l.pair with pleadAt := 5000 } }], ⟨true, true, 0⟩, none, ⟨1, 2, 0, false⟩, by decide⟩

theorem wit_PartnerPortRows_14 : ∃ (s : State) (fr : PairSeen) (_resend : Option (Fin 256)) (groups : Fin 16) (_stamp : Nat), s.up ∧ s.ld.hears = true ∧ s.ld.pairRole = 2 ∧ groups.val ≠ 0 ∧ s.ld.passes fr :=
  ⟨at_ [up, port .follow, reg F.DEVICE_MODE_PAIRED 1, reg F.PAIR_STAT_LINK 1, reg cellarIdOk 1, reg cellarHalted 0, L fun l => { l with mram := { pairKey := some 7 } }, reg F.PAIR_STAT_ROLE 2], ⟨true, true, 0⟩, none, 3, 99, by decide⟩

theorem wit_PartnerPortRows_15 : ∃ (s : State) (fr : PairSeen) (_resend : Option (Fin 256)) (offset : Int), s.told = true ∧ s.ld.hears = true ∧ offset.natAbs ≤ 20 ∧ s.ld.passes fr :=
  ⟨at_ [up, port .follow, reg F.DEVICE_MODE_PAIRED 1, reg F.PAIR_STAT_LINK 1, reg cellarIdOk 1, reg cellarHalted 0, L fun l => { l with mram := { pairKey := some 7 } }, reg F.PAIR_STAT_ROLE 2], ⟨true, true, 0⟩, none, -7, by decide⟩

theorem wit_PairStateRows_1 : ∃ (s : State) (fr : PairSeen) (_resend : Option (Fin 256)) (who : HelloFrom) (hash : Nat), fr.guard = true ∧ fr.tag = true ∧ who.pointOk = true ∧ s.told = true ∧ s.ld.pairPortOn = true ∧ s.ld.gb F.PAIR_STAT_LINK = true ∧ s.ld.pair.step = 1 ∧ who.serial = s.ld.otherSerial ∧ s.ld.gb cellarIdOk = true ∧ s.ld.gb cellarHalted = false ∧ hash = crateHash (s.ld.mram.slot s.ld.mram.active).words ∧ (s.ld.freeSlot (2 + s.ld.mram.pairSlot)).isSome = true :=
  ⟨at_ [up, port .run, reg F.DEVICE_MODE_PAIRED 1, reg F.PAIR_STAT_LINK 1, reg cellarIdOk 1, reg cellarHalted 0, L fun l => { l with mram := { pairKey := some 7 } }, reg F.PAIR_STAT_ROLE 1, L fun l => { l with pair := { step := 1 } }], ⟨true, true, 9⟩, none, { serial := (at_ [up, port .run, reg F.DEVICE_MODE_PAIRED 1, reg F.PAIR_STAT_LINK 1, reg cellarIdOk 1, reg cellarHalted 0, L fun l => { l with mram := { pairKey := some 7 } }, reg F.PAIR_STAT_ROLE 1, L fun l => { l with pair := { step := 1 } }]).ld.otherSerial, nonce := 9, point := 5, pointOk := true }, 0, by decide, by decide, by decide, by decide, by decide, by decide, by decide, helloSerial _ _ _ _, by decide, by decide, rfl, by decide⟩

theorem wit_PairStateRows_2 : ∃ (s : State) (fr : PairSeen) (_resend : Option (Fin 256)) (who : HelloFrom) (_hash : Nat) (_ok : Bool), fr.guard = true ∧ fr.tag = true ∧ who.pointOk = false ∧ s.told = true ∧ s.ld.pairPortOn = true ∧ s.ld.gb F.PAIR_STAT_LINK = true ∧ s.ld.pair.step = 1 ∧ s.ld.detGrade 9 ≤ 1 :=
  ⟨at_ [up, port .run, reg F.DEVICE_MODE_PAIRED 1, reg F.PAIR_STAT_LINK 1, reg cellarIdOk 1, reg cellarHalted 0, L fun l => { l with mram := { pairKey := some 7 } }, reg F.PAIR_STAT_ROLE 1, L fun l => { l with pair := { step := 1 } }, reg ⟨R.CELLAR_GRADE, 18, 2⟩ 0], ⟨true, true, 9⟩, none, { serial := 1, nonce := 9, point := 5, pointOk := false }, 0, true, by decide⟩

theorem wit_PairStateRows_3 : ∃ (s : State) (fr : PairSeen) (_resend : Option (Fin 256)) (x : Transfer), s.up ∧ s.ld.hears = true ∧ s.ld.pairRole = 2 ∧ s.ld.pair.step = 5 ∧ x.closes = [] ∧ s.ld.passes fr :=
  ⟨at_ [up, port .follow, reg F.DEVICE_MODE_PAIRED 1, reg F.PAIR_STAT_LINK 1, reg cellarIdOk 1, reg cellarHalted 0, L fun l => { l with mram := { pairKey := some 7 } }, reg F.PAIR_STAT_ROLE 2, L fun l => { l with pair := { step := 5 } }], ⟨true, true, 0⟩, none, ⟨[(3, some 5)], [(2, 7)], 6, 5, 1, [(3, -4)], some { id := 1, role := 2 }, 9, []⟩, by decide⟩

theorem wit_PairStateRows_4 : ∃ (s : State) (fr : PairSeen) (_resend : Option (Fin 256)) (_b : Bool), s.told = true ∧ s.ld.hears = true ∧ s.ld.pair.mine = none ∧ s.ld.pair.means = [] ∧ s.ld.passes fr :=
  ⟨at_ [up, port .run, reg F.DEVICE_MODE_PAIRED 1, reg F.PAIR_STAT_LINK 1, reg cellarIdOk 1, reg cellarHalted 0, L fun l => { l with mram := { pairKey := some 7 } }, reg F.PAIR_STAT_ROLE 1], ⟨true, true, 0⟩, none, true, by decide⟩

theorem wit_PairStateRows_5 : ∃ (s : State) (fr : PairSeen) (_resend : Option (Fin 256)) (_c : Ctx) (_q : Fin 256) (_v : Int), s.told = true ∧ s.ld.hears = true ∧ s.ld.pair.means = [] ∧ s.ld.passes fr :=
  ⟨at_ [up, port .run, reg F.DEVICE_MODE_PAIRED 1, reg F.PAIR_STAT_LINK 1, reg cellarIdOk 1, reg cellarHalted 0, L fun l => { l with mram := { pairKey := some 7 } }, reg F.PAIR_STAT_ROLE 1], ⟨true, true, 0⟩, none, 3, 7, -9, by decide⟩

theorem wit_PairStateRows_6 : ∃ (s : State) (fr : PairSeen) (_resend : Option (Fin 256)) (_i : Fin 65536) (_b : Fin 256), s.told = true ∧ s.ld.hears = true ∧ s.ld.pairRole = 2 ∧ s.ld.crateFree = true ∧ s.ld.passes fr :=
  ⟨at_ [up, port .follow, reg F.DEVICE_MODE_PAIRED 1, reg F.PAIR_STAT_LINK 1, reg cellarIdOk 1, reg cellarHalted 0, L fun l => { l with mram := { pairKey := some 7 } }, reg F.PAIR_STAT_ROLE 2, reg F.DEVICE_CRATE_STAT_STATE 0], ⟨true, true, 0⟩, none, 5, 77, by decide⟩

theorem wit_PairStateRows_7 : ∃ (s : State) (fr : PairSeen) (_resend : Option (Fin 256)), s.ld.hears = true ∧ s.ld.passes fr :=
  ⟨at_ [up, port .run, reg F.DEVICE_MODE_PAIRED 1, reg F.PAIR_STAT_LINK 1, reg cellarIdOk 1, reg cellarHalted 0, L fun l => { l with mram := { pairKey := some 7 } }, reg F.PAIR_STAT_ROLE 1], ⟨true, true, 0⟩, none, by decide⟩

theorem wit_PairStateRows_8 : ∃ s : State, s.ld.gb F.DEVICE_MODE_PAIRED = true ∧ s.ld.gb F.PAIR_STAT_READY = false ∧ nbit s.ld.cores.lost 3 = false ∧ s.ld.mode = .run ∧ s.ld.pairRole = 0 :=
  ⟨at_ [up, port .run, reg F.DEVICE_MODE_PAIRED 1, reg F.PAIR_STAT_LINK 1, reg cellarIdOk 1, reg cellarHalted 0, L fun l => { l with mram := { pairKey := some 7 } }, reg F.PAIR_STAT_ROLE 0, reg F.PAIR_STAT_READY 0], by decide⟩

theorem wit_PairStateRows_9 : ∃ (s : State) (ctr : Word) (fr : PairSeen), s.told = true ∧ s.ld.takesAsLead ctr (R.PAIR_CMD) (3#32) ∧ s.ld.hears = true ∧ s.ld.passes fr :=
  ⟨at_ [port .run, owner, open_ (3), L fun l => { l with linkUp := false, bar := { l.bar with cmds := [], pages := [] } }, reg F.DEVICE_MODE_PAIRED 1, reg F.PAIR_STAT_LINK 1, reg cellarIdOk 1, reg cellarHalted 0, L fun l => { l with mram := { pairKey := some 7 } }, reg F.PAIR_STAT_ROLE 1, reg F.PAIR_STAT_READY 1], 5#32, ⟨true, true, 0⟩, by decide⟩

theorem wit_PairStateRows_10 : ∃ (s : State) (ctr : Word) (page : Page) (w : Word), s.told = true ∧ s.ld.takesAsLead ctr (R.EVT_EN page) (w) ∧ (regRow (R.EVT_EN page)).isSome = true :=
  ⟨at_ [port .run, owner, open_ (5), L fun l => { l with linkUp := false }, reg F.PAIR_STAT_ROLE 1, reg F.PAIR_STAT_READY 1], 5#32, 5, 3#32, by decide⟩

theorem wit_PairStateRows_11 : ∃ (s : State) (ctr : Word) (n : Terminal) (on : Bool), s.told = true ∧ s.ld.takesAsLead ctr (R.TERM_DO_CMD n) (word (b2n on)) :=
  ⟨at_ [port .run, owner, open_ (0x43), L fun l => { l with linkUp := false }, reg F.PAIR_STAT_ROLE 1, reg F.PAIR_STAT_READY 1], 5#32, 3, true, by decide⟩

theorem wit_PairStateRows_12 : ∃ (s : State) (ctr : Word) (n : Terminal) (w : Word), s.told = true ∧ s.ld.takesAsLead ctr (R.TERM_AO_CMD n) (w) :=
  ⟨at_ [port .run, owner, open_ (0x43), L fun l => { l with linkUp := false }, reg F.PAIR_STAT_ROLE 1, reg F.PAIR_STAT_READY 1], 5#32, 3, 77#32, by decide⟩

theorem wit_PairStateRows_13 : ∃ (s : State) (ctr : Word), s.told = true ∧ s.ld.takes ctr (R.PAIR_CMD) (keyed 2 0x0B07) ∧ s.ld.pairRole ≠ 2 ∧ s.ld.pair.queue.length < 63 :=
  ⟨at_ [L fun l => { l with linkUp := false }, port .run, owner, open_ (3), reg F.PAIR_STAT_ROLE 1], 5#32, by decide⟩

theorem wit_PairRoleRows_1 : ∃ s : State, s.told = true ∧ s.ld.gb F.PAIR_STAT_LINK = true ∧ s.ld.pairRole = 2 :=
  ⟨at_ [up, port .follow, reg F.DEVICE_MODE_PAIRED 1, reg F.PAIR_STAT_LINK 1, reg cellarIdOk 1, reg cellarHalted 0, L fun l => { l with mram := { pairKey := some 7 } }, reg F.PAIR_STAT_ROLE 2], by decide⟩

theorem wit_PairRoleRows_2 : ∃ s : State, s.told = true ∧ s.ld.gb F.PAIR_STAT_LINK = true ∧ s.ld.pairRole = 2 :=
  ⟨at_ [up, port .follow, reg F.DEVICE_MODE_PAIRED 1, reg F.PAIR_STAT_LINK 1, reg cellarIdOk 1, reg cellarHalted 0, L fun l => { l with mram := { pairKey := some 7 } }, reg F.PAIR_STAT_ROLE 2], by decide⟩

theorem wit_PairRoleRows_3 : ∃ (s : State) (_held : Bool), s.told = true ∧ s.ld.gb F.PAIR_STAT_LINK = true ∧ s.ld.pairRole ≠ 2 :=
  ⟨at_ [up, port .run, reg F.DEVICE_MODE_PAIRED 1, reg F.PAIR_STAT_LINK 1, reg cellarIdOk 1, reg cellarHalted 0, L fun l => { l with mram := { pairKey := some 7 } }, reg F.PAIR_STAT_ROLE 1], false, by decide⟩

theorem wit_PairRoleRows_4 : ∃ (s : State) (_held : Bool), s.told = true ∧ s.ld.gb F.PAIR_STAT_LINK = false :=
  ⟨at_ [reg F.PAIR_STAT_LINK 0, L fun l => { l with linkUp := false }], true, by decide⟩

theorem wit_PairRoleRows_6 : ∃ s : State, s.told = true ∧ s.ld.pair.waiting = true ∧ s.ld.mode = .follow ∧ s.ld.pairRole = 2 :=
  ⟨at_ [up, port .follow, reg F.DEVICE_MODE_PAIRED 1, reg F.PAIR_STAT_LINK 1, reg cellarIdOk 1, reg cellarHalted 0, L fun l => { l with mram := { pairKey := some 7 } }, reg F.PAIR_STAT_ROLE 2, L fun l => { l with pair := { waiting := true } }], by decide⟩

theorem wit_PairRoleRows_7 : ∃ s : State, s.up ∧ s.ld.pairRole = 3 ∧ s.ld.mode = .follow ∧ nbit s.ld.cores.lost 3 = false :=
  ⟨at_ [up, port .follow, reg F.DEVICE_MODE_PAIRED 1, reg F.PAIR_STAT_LINK 1, reg cellarIdOk 1, reg cellarHalted 0, L fun l => { l with mram := { pairKey := some 7 } }, reg F.PAIR_STAT_ROLE 3], by decide⟩

theorem wit_PairRoleRows_8 : ∃ s : State, s.up ∧ s.ld.pairRole = 1 ∧ nbit s.ld.cores.lost 3 = true ∧ s.ld.gb F.PAIR_STAT_PLEAD_OUT = false :=
  ⟨at_ [up, port .run, reg F.DEVICE_MODE_PAIRED 1, reg F.PAIR_STAT_LINK 1, reg cellarIdOk 1, reg cellarHalted 0, L fun l => { l with mram := { pairKey := some 7 } }, reg F.PAIR_STAT_ROLE 1, L fun l => { l with cores := { lost := 8 } }, reg F.PAIR_STAT_PLEAD_OUT 0], by decide⟩

theorem wit_PairRoleRows_9 : ∃ (s : State) (n : Terminal) (x : Announced), s.up ∧ s.fd.noticed.find? (fun y => y.n == n.val) = some x ∧ x.due ≤ s.fd.time ∧ isOut (s.fd.func n) = true ∧ (s.fd.noticed.erase x).any (fun y => y.n == n.val) = false ∧ ((s.fd.term n).want.isSome = true ∨ (s.fd.act n).level = none) :=
  ⟨at_ [up, img (F.TERM_CELLSTAT_FUNC_ACT 3) 2, Fd fun f => { f with time := 9, noticed := [{ n := 3, due := 8, act := { rank := 5, cause := 0, level := none }, shown := { rank := 5, cause := 0, level := none } }] }, Fd (Field.modTerm 3 fun t => { t with want := some 1 })], 3, { n := 3, due := 8, act := { rank := 5, cause := 0, level := none }, shown := { rank := 5, cause := 0, level := none } }, by decide⟩

theorem wit_PairRoleRows_10 : ∃ (s : State) (n : Terminal) (x : Announced), s.up ∧ s.fd.noticed.find? (fun y => y.n == n.val) = some x ∧ x.due ≤ s.fd.time ∧ isOut (s.fd.func n) = true ∧ (s.fd.noticed.erase x).any (fun y => y.n == n.val) = true :=
  ⟨at_ [up, img (F.TERM_CELLSTAT_FUNC_ACT 3) 2, Fd fun f => { f with time := 9, noticed := [{ n := 3, due := 8, act := { rank := 5, cause := 0, level := none }, shown := { rank := 5, cause := 0, level := none } }, { n := 3, due := 12, act := { rank := 5, cause := 0, level := none }, shown := { rank := 5, cause := 0, level := none } }] }], 3, { n := 3, due := 8, act := { rank := 5, cause := 0, level := none }, shown := { rank := 5, cause := 0, level := none } }, by decide⟩

theorem wit_PairRoleRows_11 : ∃ (s : State) (n : Terminal), s.told = true ∧ (∀ x ∈ s.fd.noticed, x.n = n.val → s.fd.time < x.due) :=
  ⟨at_ [up, Fd fun f => { f with time := 7, noticed := [{ n := 3, due := 8, act := { rank := 5, cause := 0, level := none }, shown := { rank := 5, cause := 0, level := none } }] }], 3, by decide⟩

theorem wit_PairRoleRows_12 : ∃ (s : State) (n : Terminal), s.told = true ∧ s.fd.released = true ∧ s.ld.pair.lockCatch = false ∧ s.fd.mayArm n = true :=
  ⟨at_ [up, port .follow, L fun l => { l with pair := {} }, Fd fun f => { f with paired := true, mode := .follow }, img (F.TERM_CELLSTAT_FUNC_ACT 3) 2, img (F.FSUP_GRP_STAT_UV 0) 0, Fd (Field.modTerm 3 fun t => { t with catch_ := .idle, expect := some 1, blocked := false })], 3, by decide⟩

theorem wit_PairRoleRows_13 : ∃ (s : State) (n : Terminal), s.up ∧ (s.fd.term n).catch_ = .armed ∧ (isDo (s.fd.func n) = false ∨ (s.fd.term n).dout.masked = false) :=
  ⟨at_ [up, port .follow, Fd (Field.modTerm 3 fun t => { t with catch_ := .armed, expect := some 1, dout := {} })], 3, by decide⟩

theorem wit_PairRoleRows_14 : ∃ (s : State) (n : Terminal), s.told = true ∧ tget (fun _ => 0) s.ld.pair.caughtAt n ≠ 0 ∧ (s.fd.term n).catch_ = .engaged ∧ s.ld.pairRole = 2 ∧ s.ld.gb F.PAIR_STAT_READY = true ∧ s.ld.pair.queue.length < 64 :=
  ⟨at_ [up, up, port .follow, reg F.DEVICE_MODE_PAIRED 1, reg F.PAIR_STAT_LINK 1, reg cellarIdOk 1, reg cellarHalted 0, L fun l => { l with mram := { pairKey := some 7 } }, reg F.PAIR_STAT_ROLE 2, reg F.PAIR_STAT_READY 1, L fun l => { l with pair := { caughtAt := [(3, 9)] } }, Fd (Field.modTerm 3 fun t => { t with catch_ := .engaged })], 3, by decide⟩

theorem wit_HandoverRows_1 : ∃ (s : State) (ctr : Word) (fr : PairSeen), s.told = true ∧ s.ld.takesAsLead ctr (R.PAIR_CMD) (1#32) ∧ s.ld.hears = true ∧ s.ld.passes fr ∧ s.ld.pair.handover = none :=
  ⟨at_ [port .run, owner, open_ (3), L fun l => { l with linkUp := false, bar := { l.bar with cmds := [], pages := [] } }, reg F.DEVICE_MODE_PAIRED 1, reg F.PAIR_STAT_LINK 1, reg cellarIdOk 1, reg cellarHalted 0, L fun l => { l with mram := { pairKey := some 7 } }, reg F.PAIR_STAT_ROLE 1, reg F.PAIR_STAT_READY 1], 5#32, ⟨true, true, 0⟩, by decide⟩

theorem wit_HandoverRows_2 : ∃ (s : State) (fr : PairSeen) (_resend : Option (Fin 256)) (_caught : Word), s.told = true ∧ s.ld.hears = true ∧ s.ld.leadReady = true ∧ s.ld.pair.handover = none ∧ s.ld.passes fr :=
  ⟨at_ [up, port .run, reg F.DEVICE_MODE_PAIRED 1, reg F.PAIR_STAT_LINK 1, reg cellarIdOk 1, reg cellarHalted 0, L fun l => { l with mram := { pairKey := some 7 } }, reg F.PAIR_STAT_ROLE 1, reg F.PAIR_STAT_READY 1], ⟨true, true, 0⟩, none, 6#32, by decide⟩

theorem wit_HandoverRows_3 : ∃ (s : State) (fr : PairSeen) (_resend : Option (Fin 256)) (_ts : Nat) (_cause : Fin 8), s.up ∧ s.ld.hears = true ∧ s.ld.pairRole = 2 ∧ s.ld.gb F.PAIR_STAT_READY = true ∧ s.ld.passes fr :=
  ⟨at_ [up, port .follow, reg F.DEVICE_MODE_PAIRED 1, reg F.PAIR_STAT_LINK 1, reg cellarIdOk 1, reg cellarHalted 0, L fun l => { l with mram := { pairKey := some 7 } }, reg F.PAIR_STAT_ROLE 2, reg F.PAIR_STAT_READY 1], ⟨true, true, 0⟩, none, 900, 4, by decide⟩

theorem wit_HandoverRows_4 : ∃ (s : State) (fr : PairSeen) (_resend : Option (Fin 256)) (h : Handover), s.told = true ∧ s.ld.hears = true ∧ s.ld.pair.handover = some h ∧ s.ld.passes fr :=
  ⟨at_ [up, port .run, reg F.DEVICE_MODE_PAIRED 1, reg F.PAIR_STAT_LINK 1, reg cellarIdOk 1, reg cellarHalted 0, L fun l => { l with mram := { pairKey := some 7 } }, reg F.PAIR_STAT_ROLE 1, L fun l => { l with pair := { handover := some { ts := 5, cause := 1 } } }], ⟨true, true, 0⟩, none, { ts := 5, cause := 1 }, by decide⟩

theorem wit_HandoverRows_5 : ∃ (s : State) (h : Handover), s.ld.pair.handover = some h ∧ h.abort = none :=
  ⟨at_ [up, port .run, reg F.DEVICE_MODE_PAIRED 1, reg F.PAIR_STAT_LINK 1, reg cellarIdOk 1, reg cellarHalted 0, L fun l => { l with mram := { pairKey := some 7 } }, reg F.PAIR_STAT_ROLE 1, L fun l => { l with pair := { handover := some { ts := 5, cause := 1 } } }], { ts := 5, cause := 1 }, by decide⟩

theorem wit_HandoverRows_6 : ∃ (s : State) (h : Handover), s.up ∧ s.ld.pair.handover = some h ∧ h.begun = false ∧ (s.ld.pairRole = 1 ∨ s.ld.pairRole = 2) :=
  ⟨at_ [up, port .run, reg F.DEVICE_MODE_PAIRED 1, reg F.PAIR_STAT_LINK 1, reg cellarIdOk 1, reg cellarHalted 0, L fun l => { l with mram := { pairKey := some 7 } }, reg F.PAIR_STAT_ROLE 1, L fun l => { l with pair := { handover := some { ts := 5, cause := 1 } } }], { ts := 5, cause := 1 }, by decide⟩

theorem wit_HandoverRows_7 : ∃ (s : State) (h : Handover), s.up ∧ s.ld.pair.handover = some h ∧ h.begun = true ∧ h.steps < 256 :=
  ⟨at_ [up, port .run, reg F.DEVICE_MODE_PAIRED 1, reg F.PAIR_STAT_LINK 1, reg cellarIdOk 1, reg cellarHalted 0, L fun l => { l with mram := { pairKey := some 7 } }, reg F.PAIR_STAT_ROLE 1, L fun l => { l with pair := { handover := some { ts := 5, cause := 1, begun := true, steps := 9 } } }], { ts := 5, cause := 1, begun := true, steps := 9 }, by decide⟩

theorem wit_HandoverRows_8 : ∃ (s : State) (h : Handover), s.up ∧ s.ld.pair.handover = some h ∧ h.begun = true ∧ h.steps = 256 :=
  ⟨at_ [up, port .run, reg F.DEVICE_MODE_PAIRED 1, reg F.PAIR_STAT_LINK 1, reg cellarIdOk 1, reg cellarHalted 0, L fun l => { l with mram := { pairKey := some 7 } }, reg F.PAIR_STAT_ROLE 1, L fun l => { l with pair := { handover := some { ts := 5, cause := 1, begun := true, steps := 256 } } }], { ts := 5, cause := 1, begun := true, steps := 256 }, by decide⟩

theorem wit_HandoverRows_9 : ∃ (s : State) (h : Handover) (c : Nat), s.up ∧ s.ld.pair.handover = some h ∧ h.abort = some c :=
  ⟨at_ [up, port .run, reg F.DEVICE_MODE_PAIRED 1, reg F.PAIR_STAT_LINK 1, reg cellarIdOk 1, reg cellarHalted 0, L fun l => { l with mram := { pairKey := some 7 } }, reg F.PAIR_STAT_ROLE 1, L fun l => { l with pair := { handover := some { ts := 5, cause := 1, abort := some 2 } } }], { ts := 5, cause := 1, abort := some 2 }, 2, by decide⟩

theorem wit_CrateRows_1 : ∃ (s : State) (a : Addr) (_w : Word), s.told = true ∧ s.ld.serves = true ∧ s.ld.crateFree = true ∧ a.val < 16384 :=
  ⟨at_ [L fun l => { l with linkUp := false }, port .commission, L fun l => { l with crate := { words := (List.range 40).map fun i => if i = 0 then 0x46574352#32 else if i = 1 then 0x01000040#32 else if i = 2 then 160#32 else if i = 3 then 9#32 else if i = 5 then 0x2000000#32 else 0#32, fill := 40 }, mram := { owner := some 1 }, bar := {} }, reg F.DEVICE_CRATE_STAT_STATE 0], 5, 77#32, by decide⟩

theorem wit_CrateRows_2 : ∃ (s : State) (ctr : Word), s.told = true ∧ s.ld.takes ctr (R.DEVICE_CRATE_CTL) (1#32) ∧ s.ld.crateFree = true ∧ s.ld.g F.PAIR_STAT_ROLE ≠ 2 ∧ s.ld.cores.lost = 0 :=
  ⟨at_ [L fun l => { l with linkUp := false }, port .run, owner, open_ (0), reg F.DEVICE_CRATE_STAT_STATE 1, reg F.PAIR_STAT_ROLE 0], 5#32, by decide⟩

theorem wit_CrateRows_3 : ∃ (s : State) (ctr : Word), s.told = true ∧ s.ld.takes ctr (R.DEVICE_CRATE_CTL) (2#32) ∧ s.ld.crateFree = true ∧ s.ld.g F.PAIR_STAT_ROLE ≠ 2 ∧ s.ld.cores.lost = 0 :=
  ⟨at_ [L fun l => { l with linkUp := false }, port .run, owner, open_ (0), reg F.DEVICE_CRATE_STAT_STATE 1, reg F.PAIR_STAT_ROLE 0], 5#32, by decide⟩

theorem wit_CrateRows_4 : ∃ (s : State) (ctr : Word), s.told = true ∧ s.ld.takes ctr (R.DEVICE_CRATE_CTL) (3#32) ∧ s.ld.crateFree = true :=
  ⟨at_ [L fun l => { l with linkUp := false }, port .run, owner, open_ (0), reg F.DEVICE_CRATE_STAT_STATE 1], 5#32, by decide⟩

theorem wit_CrateRows_5 : ∃ (s : State) (sig : Bool) (keys : KeyCheck), s.told = true ∧ s.ld.crateState = stChecking ∧ s.ld.checkSteps s.ld.crate.words sig keys = 0 :=
  ⟨at_ [L fun l => { l with linkUp := false }, port .commission, L fun l => { l with crate := { words := (List.range 40).map fun i => if i = 0 then 0x46574352#32 else if i = 1 then 0x01000040#32 else if i = 2 then 160#32 else if i = 3 then 9#32 else if i = 5 then 0x2000000#32 else 0#32, fill := 40 }, mram := { owner := some 1 }, bar := {} }, reg F.DEVICE_CRATE_STAT_STATE 2, reg F.DEVICE_BOOTSTAT_KAT_OK 1], true, .unwrap, by decide⟩

theorem wit_CrateRows_6 : ∃ (s : State) (sig : Bool) (keys : KeyCheck) (k : Nat), s.told = true ∧ s.ld.crateState = stChecking ∧ k ≠ 0 ∧ k ≠ 4 ∧ (k = 8 → keys ≠ .badPoint) ∧ s.ld.checkSteps s.ld.crate.words sig keys = k :=
  ⟨at_ [L fun l => { l with linkUp := false }, port .commission, L fun l => { l with crate := { words := (List.range 40).map fun i => if i = 0 then 0x46574352#32 else if i = 1 then 0x01000040#32 else if i = 2 then 160#32 else if i = 3 then 9#32 else if i = 5 then 0x2000000#32 else 0#32, fill := 40 }, mram := { owner := some 1 }, bar := {} }, reg F.DEVICE_CRATE_STAT_STATE 2, L fun l => { l with mram := {} }], true, .unwrap, 3, by decide⟩

theorem wit_CrateRows_7 : ∃ s : State, s.told = true ∧ s.ld.crateState = stValidating ∧ s.ld.crate.mine = false ∧ s.ld.crate.joint = false ∧ s.ld.mode = .commission ∧ (validate (crateTarget s.ld.crate.words == 1) none (crateConfig s.ld.regs s.ld.crate.words)).ok = true :=
  ⟨at_ [L fun l => { l with linkUp := false }, port .commission, L fun l => { l with crate := { words := (List.range 40).map fun i => if i = 0 then 0x46574352#32 else if i = 1 then 0x01000040#32 else if i = 2 then 160#32 else if i = 3 then 9#32 else if i = 5 then 0x2000000#32 else 0#32, fill := 40 }, mram := { owner := some 1 }, bar := {} }, reg F.DEVICE_CRATE_STAT_STATE 3], by decide⟩

theorem wit_CrateRows_8 : ∃ s : State, s.told = true ∧ s.ld.crateState = stValidating ∧ s.ld.crate.mine = false ∧ s.ld.mode = .commission ∧ (validate (crateTarget s.ld.crate.words == 1) none (crateConfig s.ld.regs s.ld.crate.words)).ok = false :=
  ⟨at_ [L fun l => { l with linkUp := false }, port .commission, L fun l => { l with crate := { words := (List.range 40).map fun i => if i = 0 then 0x46574352#32 else if i = 1 then 0x01000040#32 else if i = 2 then 160#32 else if i = 3 then 9#32 else if i = 5 then 0x2000000#32 else 0#32, fill := 40 }, mram := { owner := some 1 }, bar := {} }, reg F.DEVICE_CRATE_STAT_STATE 3, L fun l => { l with crate := { l.crate with words := (List.range 42).map fun i => if i = 10 then 1#32 else if i = 16 then 0x0B400201#32 else if i = 17 then 0x01000000#32 else 0#32 } }], by decide⟩

theorem wit_CrateRows_9 : ∃ s : State, s.told = true ∧ s.ld.crateState = stWriting ∧ s.ld.crate.apply = false :=
  ⟨at_ [L fun l => { l with linkUp := false }, port .commission, L fun l => { l with crate := { words := (List.range 40).map fun i => if i = 0 then 0x46574352#32 else if i = 1 then 0x01000040#32 else if i = 2 then 160#32 else if i = 3 then 9#32 else if i = 5 then 0x2000000#32 else 0#32, fill := 40 }, mram := { owner := some 1 }, bar := {} }, reg F.DEVICE_CRATE_STAT_STATE 4], by decide⟩

theorem wit_CrateRows_10 : ∃ s : State, s.told = true ∧ s.ld.crateState = stWriting ∧ s.ld.crate.apply = true :=
  ⟨at_ [L fun l => { l with linkUp := false }, port .commission, L fun l => { l with crate := { words := (List.range 40).map fun i => if i = 0 then 0x46574352#32 else if i = 1 then 0x01000040#32 else if i = 2 then 160#32 else if i = 3 then 9#32 else if i = 5 then 0x2000000#32 else 0#32, fill := 40 }, mram := { owner := some 1 }, bar := {} }, reg F.DEVICE_CRATE_STAT_STATE 4, L fun l => { l with crate := { l.crate with apply := true } }], by decide⟩

theorem wit_CrateRows_11 : ∃ s : State, s.told = true ∧ s.ld.crateState = stApplying ∧ s.ld.bar.pages = [] :=
  ⟨at_ [L fun l => { l with linkUp := false }, port .commission, L fun l => { l with crate := { words := (List.range 40).map fun i => if i = 0 then 0x46574352#32 else if i = 1 then 0x01000040#32 else if i = 2 then 160#32 else if i = 3 then 9#32 else if i = 5 then 0x2000000#32 else 0#32, fill := 40 }, mram := { owner := some 1 }, bar := {} }, reg F.DEVICE_CRATE_STAT_STATE 5], by decide⟩

theorem wit_BarrierFrameRows_1 : ∃ s : State, s.told = true ∧ s.ld.trained = true ∧ (s.ld.linkEnd false).again = [] :=
  ⟨at_ [up, port .run, L fun l => { l with boot := { l.boot with field := 3 }, bar := {} }], by decide⟩

theorem wit_BarrierFrameRows_2 : ∃ s : State, s.told = true ∧ s.ld.trained = true ∧ (s.ld.linkEnd true).again = [] :=
  ⟨at_ [up, port .run, L fun l => { l with boot := { l.boot with field := 3 }, bar := {} }], by decide⟩

theorem wit_BarrierFrameRows_3 : ∃ (s : State) (fromLogic : Bool) (x : SentFrame BFrame) (rest : List (SentFrame BFrame)), s.told = true ∧ s.ld.trained = true ∧ (s.ld.linkEnd (!fromLogic)).again = x :: rest :=
  ⟨at_ [up, port .run, L fun l => { l with boot := { l.boot with field := 3 }, bar := {} }, L fun l => { l with bar := { logic := { again := [{ kind := .cmd, fseq := 3 }] } } }], true, { kind := .cmd, fseq := 3 }, [], by decide⟩

theorem wit_BarrierFrameRows_4 : ∃ (s : State) (_resend : Bool), s.fd.out.all waits = true ∧ s.ld.trained = true :=
  ⟨at_ [L fun l => { l with linkUp := false }, port .run, L fun l => { l with boot := { l.boot with field := 3 }, bar := {} }, Fd fun f => { f with out := [] }], false, by decide⟩

theorem wit_BarrierFrameRows_5 : ∃ (s : State) (_resend : Bool), s.told = true ∧ s.ld.trained = true :=
  ⟨at_ [up, port .run, L fun l => { l with boot := { l.boot with field := 3 }, bar := {} }], false, by decide⟩

theorem wit_BarrierFrameRows_6 : ∃ (s : State) (_resend : Bool), s.told = true ∧ s.ld.trained = true :=
  ⟨at_ [up, port .run, L fun l => { l with boot := { l.boot with field := 3 }, bar := {} }], false, by decide⟩

theorem wit_BarrierFrameRows_7 : ∃ (s : State) (_resend : Bool), s.told = true ∧ s.ld.trained = true :=
  ⟨at_ [up, port .run, L fun l => { l with boot := { l.boot with field := 3 }, bar := {} }], false, by decide⟩

theorem wit_BarrierFrameRows_8 : ∃ s : State, s.told = true ∧ s.ld.trained = true :=
  ⟨at_ [up, port .run, L fun l => { l with boot := { l.boot with field := 3 }, bar := {} }, L fun l => { l with bar := { field := { kept := [{ kind := .snap, fseq := 2 }, { kind := .event, fseq := 1 }] }, logic := { got := 2 } } }], by decide⟩

theorem wit_BarrierFrameRows_9 : ∃ (s : State) (_resend : Bool) (a : Nat) (w : Word) (rest : List (Nat × Word)), s.up ∧ s.ld.trained = true ∧ s.ld.bar.cmds = (a, w) :: rest :=
  ⟨at_ [up, port .run, L fun l => { l with boot := { l.boot with field := 3 }, bar := {} }, L fun l => { l with bar := { cmds := [(R.EVT_EN 0x43, 3#32)] } }], false, R.EVT_EN 0x43, 3#32, [], by decide⟩

theorem wit_BarrierFrameRows_10 : ∃ (s : State) (_resend : Bool) (p : Nat) (ps : List Nat), s.up ∧ s.ld.trained = true ∧ s.ld.bar.pages = p :: ps ∧ onField (p * 256) = true :=
  ⟨at_ [up, port .run, L fun l => { l with boot := { l.boot with field := 3 }, bar := {} }, L fun l => { l with bar := { pages := [0x43, 0x44] }, crate := { words := [] } }], false, 0x43, [0x44], by decide⟩

theorem wit_BarrierFrameRows_11 : ∃ (s : State) (_resend : Bool), s.told = true ∧ s.ld.trained = true ∧ s.fd.released = true :=
  ⟨at_ [up, port .run, L fun l => { l with boot := { l.boot with field := 3 }, bar := {} }], false, by decide⟩

theorem wit_BarrierFrameRows_12 : ∃ (s : State) (_resend : Bool) (sn : Snap) (q : List Snap), s.fd.out.all waits = true ∧ s.ld.trained = true ∧ s.fd.snapq = sn :: q ∧ s.ld.bar.half ≠ some (sn.ctx, sn.seq) :=
  ⟨at_ [up, port .run, L fun l => { l with boot := { l.boot with field := 3 }, bar := {} }, Fd fun f => { f with snapq := [{ ctx := 3, seq := 7, count := 9, sum := 0, sumsq := 0, minv := 0, mint := 0, maxv := 0, maxt := 0, flags := 0, blanked := 0, unsettled := 0, tclose := 0, opened := 0 }], out := [] }], false, { ctx := 3, seq := 7, count := 9, sum := 0, sumsq := 0, minv := 0, mint := 0, maxv := 0, maxt := 0, flags := 0, blanked := 0, unsettled := 0, tclose := 0, opened := 0 }, [], by decide⟩

theorem wit_BarrierFrameRows_13 : ∃ (s : State) (_resend : Bool) (sn : Snap) (q : List Snap), s.up ∧ s.ld.trained = true ∧ s.fd.snapq = sn :: q ∧ s.ld.bar.half = some (sn.ctx, sn.seq) ∧ sn.ctx < 64 :=
  ⟨at_ [up, port .run, L fun l => { l with boot := { l.boot with field := 3 }, bar := {} }, L fun l => { l with bar := { half := some (3, 7) } }, Fd fun f => { f with snapq := [{ ctx := 3, seq := 7, count := 9, sum := 0, sumsq := 0, minv := 0, mint := 0, maxv := 0, maxt := 0, flags := 0, blanked := 0, unsettled := 0, tclose := 0, opened := 0 }] }], false, { ctx := 3, seq := 7, count := 9, sum := 0, sumsq := 0, minv := 0, mint := 0, maxv := 0, maxt := 0, flags := 0, blanked := 0, unsettled := 0, tclose := 0, opened := 0 }, [], by decide⟩

theorem wit_BarrierFrameRows_14 : ∃ (s : State) (_resend : Bool) (_m : Readings), s.fd.out.all waits = true ∧ s.ld.trained = true ∧ s.fd.released = true ∧ s.fd.report = false :=
  ⟨at_ [up, port .run, L fun l => { l with boot := { l.boot with field := 3 }, bar := {} }, Fd fun f => { f with report := false, out := [] }], false, { meas := [], volt := [], rails := [], refDiff := 0, vbias := 0 }, by decide⟩

theorem wit_BarrierFrameRows_15 : ∃ (s : State) (_resend : Bool) (e : FaultEv), s.ld.trained = true ∧ s.fd.out = [.fault e] :=
  ⟨at_ [up, port .run, L fun l => { l with boot := { l.boot with field := 3 }, bar := {} }, Fd fun f => { f with out := [.fault { src := 50, severe := true }] }], false, { src := 50, severe := true }, by decide⟩

theorem wit_BarrierLinkRows_1 : ∃ s : State, s.ld.linkUp = true :=
  ⟨at_ [up, port .run], by decide⟩

theorem wit_BarrierLinkRows_2 : ∃ (s : State) (_lane : Fin 3) (errors : Nat), s.told = true ∧ errors ≤ 8 :=
  ⟨at_ [up], 1, 8, by decide⟩

theorem wit_BarrierLinkRows_3 : ∃ (s : State) (lane : Fin 3) (errors : Nat), s.told = true ∧ 8 < errors ∧ s.ld.isRetired 3 lane = false ∧ s.ld.gb (laneBit lane) = true :=
  ⟨at_ [up, L fun l => { l with mram := {} }, reg (laneBit 1) 1], 1, 9, by decide⟩

theorem wit_BarrierLinkRows_4 : ∃ (s : State) (k : Nat) (j : Nat), s.told = true ∧ s.ld.bar.switchDue = [k] ∧ k < 3 ∧ (s.ld.put (laneBit k) 0).spareLane = some j ∧ j ≠ k :=
  ⟨at_ [up, L fun l => { l with mram := { larder := { retired := [(3, 1)] } }, bar := { switchDue := [1] } }, reg F.BARRIER_LINK_LANES 3], 1, 2, by decide⟩

theorem wit_BarrierLinkRows_5 : ∃ (s : State) (k : Nat), s.told = true ∧ s.ld.bar.switchDue = [k] ∧ k < 3 ∧ (s.ld.put (laneBit k) 0).spareLane = none :=
  ⟨at_ [up, L fun l => { l with mram := { larder := { retired := [(3, 1), (3, 2)] } }, bar := { switchDue := [1] } }, reg F.BARRIER_LINK_LANES 3], 1, by decide⟩

theorem wit_ModeRequestRows_1 : ∃ (s : State) (ctr : Word), s.told = true ∧ s.ld.takes ctr (R.DEVICE_MODE_REQ) (4#32) ∧ s.ld.crateFree = true ∧ s.ld.cores.lost = 0 ∧ s.ld.mode = .run :=
  ⟨at_ [L fun l => { l with linkUp := false }, port .run, owner, open_ (0), reg F.DEVICE_CRATE_STAT_STATE 0], 5#32, by decide⟩

theorem wit_ModeRequestRows_2 : ∃ (s : State) (ctr : Word), s.told = true ∧ s.ld.takes ctr (R.DEVICE_MODE_REQ) (2#32) ∧ s.ld.crateFree = true ∧ s.ld.cores.lost = 0 ∧ s.ld.mode = .safe ∧ s.ld.causesClear = true :=
  ⟨at_ [L fun l => { l with linkUp := false }, port .safe, owner, open_ (0), reg F.DEVICE_CRATE_STAT_STATE 0, reg ⟨R.DEVICE_MODE, 9, 6⟩ 0], 5#32, by decide⟩

theorem wit_ModeRequestRows_3 : ∃ (s : State) (ctr : Word), s.told = true ∧ s.ld.takes ctr (R.DEVICE_MODE_REQ) (2#32) ∧ s.ld.crateFree = true ∧ s.ld.cores.lost = 0 ∧ s.ld.mode = .safe ∧ s.ld.causesClear = false :=
  ⟨at_ [L fun l => { l with linkUp := false }, port .safe, owner, open_ (0), reg F.DEVICE_CRATE_STAT_STATE 0, reg ⟨R.DEVICE_MODE, 9, 6⟩ 2], 5#32, by decide⟩

theorem wit_ModeRequestRows_4 : ∃ (s : State) (ctr : Word), s.told = true ∧ s.ld.takes ctr (R.DEVICE_MODE_REQ) (1#32) ∧ s.ld.crateFree = true ∧ s.ld.cores.lost = 0 ∧ (s.ld.mode = .run ∨ s.ld.mode = .safe) :=
  ⟨at_ [L fun l => { l with linkUp := false }, port .safe, owner, open_ (0), reg F.DEVICE_CRATE_STAT_STATE 0], 5#32, by decide⟩

theorem wit_ModeRequestRows_5 : ∃ (s : State) (ctr : Word) (v : Fin 8), s.told = true ∧ s.ld.takes ctr (R.DEVICE_MODE_REQ) (word v) ∧ v.val ≠ 1 ∧ v.val ≠ 2 ∧ v.val ≠ 4 ∧ s.ld.crateFree = true ∧ s.ld.cores.lost = 0 :=
  ⟨at_ [L fun l => { l with linkUp := false }, port .run, owner, open_ (0), reg F.DEVICE_CRATE_STAT_STATE 0], 5#32, 3, by decide⟩

theorem wit_ResetRows_4 : ∃ s : State, s.told = true :=
  ⟨at_ [up], by decide⟩

theorem wit_ResetRows_5 : ∃ (s : State) (ctr : Word), s.told = true ∧ s.ld.takes ctr (R.DEVICE_RESET) (keyed 1 0x0B07) :=
  ⟨at_ [L fun l => { l with linkUp := false }, port .run, owner, open_ (0)], 5#32, by decide⟩

theorem wit_ResetRows_6 : ∃ (s : State) (ctr : Word), s.told = true ∧ s.ld.takes ctr (R.DEVICE_RESET) (keyed 2 0x0B07) :=
  ⟨at_ [L fun l => { l with linkUp := false }, port .run, owner, open_ (0)], 5#32, by decide⟩

theorem wit_ResetRows_7 : ∃ (s : State) (ctr : Word), s.told = true ∧ s.ld.takes ctr (R.DEVICE_RESET) (keyed 3 0x0B07) :=
  ⟨at_ [L fun l => { l with linkUp := false }, port .run, owner, open_ (0)], 5#32, by decide⟩

theorem wit_ResetRows_8 : ∃ (s : State) (ctr : Word) (key : Fin 65536), s.told = true ∧ s.ld.takes ctr (R.DEVICE_RESET) (keyed 3 key) ∧ key.val ≠ 0x0B07 :=
  ⟨at_ [L fun l => { l with linkUp := false }, port .run, owner, open_ (0)], 5#32, 5, by decide⟩

theorem wit_StartRows_1 : ∃ s : State, s.ld.boot.main = 0 :=
  ⟨at_ [L fun l => { l with boot := { main := 0 } }], by decide⟩

theorem wit_StartRows_2 : ∃ (s : State) (_b : Fin 16) (_pads : Pads), s.ld.boot.main = 1 :=
  ⟨at_ [L fun l => { l with boot := { main := 1 } }], 8, { claim := true, bare := [2] }, by decide⟩

theorem wit_StartRows_3 : ∃ s : State, s.ld.boot.main = 2 :=
  ⟨at_ [L fun l => { l with boot := { main := 2 } }], by decide⟩

theorem wit_StartRows_4 : ∃ s : State, s.ld.boot.main = 3 :=
  ⟨at_ [L fun l => { l with boot := { main := 3 } }], by decide⟩

theorem wit_StartRows_5 : ∃ s : State, 4 ≤ s.ld.boot.main ∧ s.ld.boot.field = 0 :=
  ⟨at_ [L fun l => { l with boot := { main := 4 } }], by decide⟩

theorem wit_StartRows_6 : ∃ s : State, s.fd.out.all waits = true ∧ s.ld.boot.field = 1 :=
  ⟨at_ [L fun l => { l with boot := { main := 4 } }, L fun l => { l with boot := { main := 4, field := 1 } }, Fd fun f => { f with out := [] }], by decide⟩

theorem wit_StartRows_7 : ∃ s : State, s.ld.boot.field = 1 ∧ 4 ≤ s.ld.boot.tries :=
  ⟨at_ [L fun l => { l with boot := { main := 4, field := 1, tries := 4 } }], by decide⟩

theorem wit_StartRows_8 : ∃ s : State, s.ld.boot.field = 4 :=
  ⟨at_ [L fun l => { l with boot := { main := 4, field := 4 } }], by decide⟩

theorem wit_StartRows_9 : ∃ s : State, s.fd.out.all waits = true ∧ s.ld.boot.field = 2 ∧ s.fd.released = false ∧ s.ld.mram.larder.retired = [] :=
  ⟨at_ [Fd fun f => { f with released := false, out := [] }, L fun l => { l with boot := { main := 4, field := 2, bare := [2] }, mram := {}, linkUp := true }], by decide⟩

theorem wit_BootChecksRows_1 : ∃ (s : State) (x : MemoryFindings), s.told = true ∧ 4 ≤ s.ld.boot.main ∧ s.ld.boot.logic = 0 ∧ x.badRows = [] ∧ x.badRoles = [] ∧ x.badImages = [] ∧ x.lid = false ∧ x.mesh = false ∧ s.ld.mram.larder.retired = [] :=
  ⟨at_ [L fun l => { l with linkUp := false }, L fun l => { l with boot := { main := 4 } }, L fun l => { l with mram := {} }], { romOk := true, badRoles := [], badImages := [], badRows := [], lid := false, mesh := false }, by decide⟩

theorem wit_BootChecksRows_2 : ∃ (s : State) (_tests : Bool) (_entropy : Bool), s.ld.boot.logic = 1 ∧ s.ld.mram.puf = true :=
  ⟨at_ [L fun l => { l with boot := { logic := 1 }, mram := {} }], true, true, by decide⟩

theorem wit_BootChecksRows_3 : ∃ s : State, s.ld.boot.main = 4 ∧ s.ld.boot.logic = 2 ∧ s.ld.boot.field = 3 ∧ s.ld.boot.epochAt = none ∧ s.ld.mram.epoch < 0xFFFFFFFF :=
  ⟨at_ [L fun l => { l with boot := { main := 4, logic := 2, field := 3 }, mram := {} }], by decide⟩

theorem wit_BootChecksRows_4 : ∃ s : State, 5 ≤ s.ld.boot.main ∧ s.ld.boot.epochAt = none ∧ s.ld.mram.epoch < 0xFFFFFFFF :=
  ⟨at_ [L fun l => { l with boot := { main := 8 } }], by decide⟩

theorem wit_BootChecksRows_5 : ∃ (s : State) (_sig : Bool) (_rows : List (List Nat)) (_record : Bool), s.told = true ∧ s.ld.boot.main = 5 ∧ s.fd.released = true ∧ s.ld.boot.crate = none :=
  ⟨at_ [up, L fun l => { l with boot := { main := 5 } }], true, [], true, by decide⟩

theorem wit_BootChecksRows_6 : ∃ (s : State) (x : CrossChecks), s.told = true ∧ s.ld.boot.main = 6 ∧ s.fd.released = true ∧ s.ld.boot.promote = false ∧ x.off = [] ∧ x.ref = none :=
  ⟨at_ [up, L fun l => { l with boot := { main := 6 } }], { off := [], ref := none, tdac := false }, by decide⟩

theorem wit_BootChecksRows_7 : ∃ (s : State) (_claim : Bool) (_us : Nat) (_intact : Bool) (_plead : Bool), s.told = true ∧ s.ld.boot.main = 7 ∧ s.ld.mode = .boot ∧ s.ld.mram.marker = none ∧ s.ld.mram.owner = none :=
  ⟨at_ [up, L fun l => { l with boot := { main := 7 }, mode := .boot, mram := {}, cores := {} }], true, 5, true, false, by decide⟩

theorem wit_BootChecksRows_8 : ∃ (s : State) (_claim : Bool) (_us : Nat) (_intact : Bool) (_plead : Bool) (k : Nat), s.told = true ∧ s.ld.boot.main = 7 ∧ s.ld.mode = .boot ∧ s.ld.mram.marker = none ∧ s.ld.mram.owner = some k ∧ s.ld.boot.safe ≠ 0 :=
  ⟨at_ [up, L fun l => { l with boot := { main := 7 }, mode := .boot, mram := {}, cores := {} }, L fun l => { l with boot := { l.boot with safe := 32 }, mram := { owner := some 9 } }], true, 5, true, false, 9, by decide⟩

theorem wit_BootChecksRows_9 : ∃ (s : State) (_claim : Bool) (_us : Nat) (_intact : Bool) (_plead : Bool) (k : Nat) (ws : List Word), s.told = true ∧ s.ld.boot.main = 7 ∧ s.ld.mode = .boot ∧ s.ld.mram.marker = none ∧ s.ld.mram.owner = some k ∧ s.ld.boot.safe = 0 ∧ s.ld.causesClear = true ∧ s.ld.bootCrate = some ws ∧ nbit (crateFlags ws) 1 = false ∧ crateTarget ws ≠ 1 :=
  ⟨at_ [up, L fun l => { l with boot := { main := 7 }, mode := .boot, mram := {}, cores := {} }, L fun l => { l with boot := { l.boot with crate := some 0 }, mram := { owner := some 9 } }, reg ⟨R.DEVICE_MODE, 8, 7⟩ 0], true, 5, true, false, 9, [], by decide⟩

theorem wit_BootChecksRows_10 : ∃ (s : State) (ws : List Word), s.told = true ∧ s.ld.boot.kept = true ∧ 6 ≤ s.ld.boot.main ∧ s.fd.released = true ∧ s.fd.configured = true ∧ s.ld.gb F.DEVICE_MODE_FIELD_CFG = false ∧ s.ld.bootCrate = some ws ∧ s.fd.crateHash = some (crateHash ws) :=
  ⟨at_ [up, L fun l => { l with boot := { main := 6, kept := true, crate := some 0 }, mram := {} }, reg F.DEVICE_MODE_FIELD_CFG 0, Fd fun f => { f with configured := true, crateHash := some (crateHash []) }], [], by decide, by decide, by decide, by decide, by decide, by decide, by decide, rfl⟩

theorem wit_BootChecksRows_11 : ∃ (s : State) (ws : List Word), s.up ∧ 6 ≤ s.ld.boot.main ∧ s.fd.configured = false ∧ s.ld.activeCrate = some ws :=
  ⟨at_ [up, L fun l => { l with boot := { main := 7, crate := some 0 }, mram := {}, mode := .safe }, Fd fun f => { f with configured := false }], [], by decide⟩

theorem wit_LegacyRows_1 : ∃ (s : State) (_more : Fin 4), s.told = true ∧ s.ld.legacyUp = true ∧ s.ld.host.short = false :=
  ⟨at_ [L fun l => { l with linkUp := false }, port .run, reg F.HOST_LEGACY_EN 1], 1, by decide⟩

theorem wit_LegacyRows_2 : ∃ (s : State) (_more : Nat) (a : Fin 64), s.told = true ∧ s.ld.legacyUp = true ∧ s.ld.host.short = false ∧ (a.val = 0x3A ∨ a.val = 0x3B ∨ s.ld.mode ≠ .boot ∧ a.val = 0x3C) :=
  ⟨at_ [L fun l => { l with linkUp := false }, port .run, reg F.HOST_LEGACY_EN 1], 16, 0x3A, by decide⟩

theorem wit_LegacyRows_3 : ∃ (s : State) (more : Nat) (c : Fin 16) (data : Fin 65536), s.told = true ∧ s.ld.legacyUp = true ∧ s.ld.host.short = false ∧ s.ld.mode ≠ .boot ∧ 16 ≤ more ∧ data.val = s.legacyCfg c :=
  ⟨at_ [L fun l => { l with linkUp := false }, port .run, reg F.HOST_LEGACY_EN 1, reg (F.CTRL_EN (R.pageCTX 3)) 1], 16, 3, 0x100, by decide⟩

theorem wit_LegacyRows_4 : ∃ (s : State) (more : Nat) (a : Fin 64) (_data : Fin 65536), s.told = true ∧ s.ld.legacyUp = true ∧ s.ld.host.short = false ∧ s.ld.mode ≠ .boot ∧ 16 ≤ more ∧ a.val < 0x20 :=
  ⟨at_ [L fun l => { l with linkUp := false }, port .run, reg F.HOST_LEGACY_EN 1], 16, 0x11, 3, by decide⟩

theorem wit_LegacyRows_5 : ∃ (s : State) (_w : Fin 4), s.told = true ∧ s.ld.legacyUp = true :=
  ⟨at_ [L fun l => { l with linkUp := false }, port .run, reg F.HOST_LEGACY_EN 1], 2, by decide⟩

theorem wit_LegacyRows_6 : ∃ (s : State) (_more : Nat) (_n : Fin 16), s.told = true ∧ s.ld.legacyUp = true ∧ s.ld.host.short = false ∧ s.ld.mode ≠ .boot :=
  ⟨at_ [L fun l => { l with linkUp := false }, port .run, reg F.HOST_LEGACY_EN 1], 16, 3, by decide⟩

theorem wit_LegacyRows_7 : ∃ (s : State) (more : Nat) (n : Fin 16) (data : Fin 65536), s.told = true ∧ s.ld.legacyUp = true ∧ s.ld.host.short = false ∧ s.ld.mode ≠ .boot ∧ 16 ≤ more ∧ data.val ≠ s.legacyCfg n :=
  ⟨at_ [L fun l => { l with linkUp := false }, port .run, reg F.HOST_LEGACY_EN 1], 16, 3, 0xFFFF, by decide⟩

theorem wit_LegacyRows_8 : ∃ (s : State) (more : Nat) (n : Fin 16) (data : Fin 65536), s.told = true ∧ s.ld.legacyUp = true ∧ s.ld.host.short = false ∧ s.ld.mode ≠ .boot ∧ 16 ≤ more ∧ data.val = s.legacyCfg n :=
  ⟨at_ [L fun l => { l with linkUp := false }, port .run, reg F.HOST_LEGACY_EN 1, reg (F.CTRL_EN (R.pageCTX 3)) 1], 16, 3, 0x100, by decide⟩

theorem wit_LegacyRows_9 : ∃ (s : State) (_more : Nat), s.told = true ∧ s.ld.legacyUp = true ∧ s.ld.host.short = false ∧ s.ld.mode ≠ .boot :=
  ⟨at_ [L fun l => { l with linkUp := false }, port .run, reg F.HOST_LEGACY_EN 1], 16, by decide⟩

theorem wit_LegacyRows_10 : ∃ (s : State) (more : Nat) (data : Fin 65536), s.told = true ∧ s.ld.legacyUp = true ∧ s.ld.host.short = false ∧ s.up ∧ s.ld.mode ≠ .boot ∧ s.ld.mode ≠ .follow ∧ 16 ≤ more ∧ data.val < 16 ∧ s.ld.groupsFrom data 0 ≠ 0 :=
  ⟨at_ [L fun l => { l with linkUp := false }, port .run, reg F.HOST_LEGACY_EN 1, up, reg (F.SLICE_GRP_SRC 0) 0], 16, 5, by decide⟩

theorem wit_LegacyRows_11 : ∃ (s : State) (more : Nat), s.told = true ∧ s.ld.legacyUp = true ∧ s.ld.host.short = false ∧ s.ld.mode ≠ .boot ∧ s.ld.mode ≠ .follow ∧ 16 ≤ more ∧ s.ld.wdog.running = true ∧ nbit s.ld.wdog.tasks 0 = true ∧ s.ld.wdog.openAt ≤ s.ld.wdogCount ∧ nbit s.ld.wdog.injDouble 0 = false ∧ nbit (s.ld.g F.WDOG_SERVED_TASK) 0 = false :=
  ⟨at_ [L fun l => { l with linkUp := false }, port .run, reg F.HOST_LEGACY_EN 1, L fun l => { l with wdog := { running := true, tasks := 9, close := 100 } }, reg F.WDOG_SERVED_TASK 2, reg F.WDOG_CFG_CLKSEL 0, reg wdogClkAlt 0], 16, by decide⟩

theorem wit_LegacyRows_12 : ∃ (s : State) (more : Nat), s.told = true ∧ s.ld.legacyUp = true ∧ s.ld.host.short = false ∧ s.ld.mode ≠ .boot ∧ 16 ≤ more :=
  ⟨at_ [L fun l => { l with linkUp := false }, port .run, reg F.HOST_LEGACY_EN 1], 16, by decide⟩

theorem wit_FieldWordRows_1 : ∃ (s : State) (ctr : Word) (page : Page) (w : Word), s.told = true ∧ s.ld.takes ctr (R.EVT_EN page) (w) ∧ pageKind page ≠ .seqtab :=
  ⟨at_ [L fun l => { l with linkUp := false }, port .run, owner, open_ (5)], 5#32, 5, 0x30#32, by decide⟩

theorem wit_FieldWordRows_2 : ∃ (s : State) (ctr : Word) (c : Ctx) (w : Word), s.up ∧ s.ld.bar.cmds = [] ∧ s.ld.bar.pages = [] ∧ s.ld.takes ctr (R.CTX_TH_A_LEVEL c) (w) ∧ s.hostField.ctxWriteFails (R.CTX_TH_A_LEVEL c) (s.ld.merged (R.CTX_TH_A_LEVEL c) w) = false :=
  ⟨at_ [up, L fun l => { l with bar := { l.bar with cmds := [], pages := [] } }, port .run, owner, open_ (0x83)], 5#32, 3, 9#32, by decide⟩

theorem wit_FieldWordRows_3 : ∃ (s : State) (ctr : Word) (w : Word), s.told = true ∧ s.ld.takes ctr (R.INJECT R.pageLOFT) (w) :=
  ⟨at_ [L fun l => { l with linkUp := false }, port .run, owner, open_ (6)], 5#32, 0x10#32, by decide⟩

theorem wit_FieldWordRows_4 : ∃ (s : State) (ctr : Word) (k : Slice) (w : Word), s.up ∧ s.ld.bar.cmds = [] ∧ s.ld.bar.pages = [] ∧ s.ld.takes ctr (R.INJECT (R.pageSLICE k)) (w) ∧ wbit w 4 = false ∧ wbit w 5 = false ∧ wbit w 0 = true :=
  ⟨at_ [up, L fun l => { l with bar := { l.bar with cmds := [], pages := [] } }, port .run, owner, open_ (R.pageSLICE 2)], 5#32, 2, 1#32, by decide⟩

theorem wit_FieldWordRows_5 : ∃ (s : State) (ctr : Word) (c : Ctx), s.told = true ∧ s.ld.takes ctr (R.CTX_LIFE_CLR c) (1#32) :=
  ⟨at_ [L fun l => { l with linkUp := false }, port .run, owner, open_ (0x83)], 5#32, 3, by decide⟩

theorem wit_FieldWordRows_6 : ∃ (s : State) (ctr : Word) (n : Terminal), s.up ∧ s.ld.bar.cmds = [] ∧ s.ld.bar.pages = [] ∧ s.ld.takes ctr (R.TERM_DI_CLR n) (1#32) ∧ s.fd.func n = 1 :=
  ⟨at_ [up, L fun l => { l with bar := { l.bar with cmds := [], pages := [] } }, port .run, owner, open_ (0x43), img (F.TERM_CELLSTAT_FUNC_ACT 3) 1], 5#32, 3, by decide⟩

theorem wit_FieldWordRows_7 : ∃ (s : State) (ctr : Word) (n : Terminal), s.up ∧ s.ld.bar.cmds = [] ∧ s.ld.bar.pages = [] ∧ s.ld.takes ctr (R.TERM_DI_CLR n) (2#32) ∧ s.fd.func n = 1 :=
  ⟨at_ [up, L fun l => { l with bar := { l.bar with cmds := [], pages := [] } }, port .run, owner, open_ (0x43), img (F.TERM_CELLSTAT_FUNC_ACT 3) 1], 5#32, 3, by decide⟩

theorem wit_FieldWordRows_8 : ∃ (s : State) (ctr : Word) (u : Fin 8), s.up ∧ s.ld.bar.cmds = [] ∧ s.ld.bar.pages = [] ∧ s.ld.takes ctr (R.FILT_COMMIT u) (1#32) ∧ s.hostField.filtInUse u = false :=
  ⟨at_ [up, L fun l => { l with bar := { l.bar with cmds := [], pages := [] } }, port .run, owner, open_ (R.pageFILT 2)], 5#32, 2, by decide⟩

theorem wit_FieldWordRows_9 : ∃ (s : State) (u : Fin 8), s.up ∧ nbit s.fd.commits u = true ∧ s.fd.c (F.FILT_CFG_NTAPS u) ≠ 0 ∧ s.fd.c (F.FILT_CFG_DEC u) ≤ 5 :=
  ⟨at_ [up, Fd fun f => { f with commits := 4 }, cfg (F.FILT_CFG_NTAPS 2) 9], 2, by decide⟩

theorem wit_FieldWordRows_10 : ∃ (s : State) (u : Fin 8), s.up ∧ nbit s.fd.commits u = true ∧ s.fd.c (F.FILT_CFG_NTAPS u) = 0 :=
  ⟨at_ [up, Fd fun f => { f with commits := 4 }, cfg (F.FILT_CFG_NTAPS 2) 0], 2, by decide⟩

theorem wit_SourceRows_1 : ∃ (s : State) (ctr : Word) (k : Fin 4) (ampl : Bool) (w : Word), s.up ∧ s.ld.bar.cmds = [] ∧ s.ld.bar.pages = [] ∧ s.ld.takes ctr (if ampl then R.EXC_SINE_AMPL k else R.EXC_SINE_FREQ k) (w) ∧ (ampl = true ∨ s.hostField.tooFast k w = false) :=
  ⟨at_ [up, L fun l => { l with bar := { l.bar with cmds := [], pages := [] } }, port .run, owner, open_ (R.pageEXC)], 5#32, 1, true, 3#32, by decide⟩

theorem wit_SourceRows_2 : ∃ (s : State) (k : Fin 4), s.up ∧ (s.fd.sine k).changed = true ∧ s.fd.sineOn k = true :=
  ⟨at_ [up, port .run, Fd (Field.modSine 1 fun r => { r with changed := true, rampUp := true })], 1, by decide⟩

theorem wit_SourceRows_3 : ∃ (s : State) (ctr : Word) (k : Fin 4), s.up ∧ s.ld.bar.cmds = [] ∧ s.ld.bar.pages = [] ∧ s.ld.takes ctr (R.EXC_SINE_CTL k) (1#32) ∧ s.fd.gb (F.EXC_SINE_STAT_BUSY k) = false ∧ s.fd.sineOn k = false :=
  ⟨at_ [up, L fun l => { l with bar := { l.bar with cmds := [], pages := [] } }, port .run, owner, open_ (R.pageEXC), Fd (Field.modSine 1 fun _ => {}), img (F.EXC_SINE_STAT_BUSY 1) 0, img (F.EXC_SINE_STAT_RUNNING 1) 0], 5#32, 1, by decide⟩

theorem wit_SourceRows_4 : ∃ (s : State) (ctr : Word) (k : Fin 4), s.up ∧ s.ld.bar.cmds = [] ∧ s.ld.bar.pages = [] ∧ s.ld.takes ctr (R.EXC_SINE_CTL k) (0#32) ∧ s.fd.gb (F.EXC_SINE_STAT_BUSY k) = false ∧ s.fd.sineOn k = true :=
  ⟨at_ [up, L fun l => { l with bar := { l.bar with cmds := [], pages := [] } }, port .run, owner, open_ (R.pageEXC), img (F.EXC_SINE_STAT_BUSY 1) 0, img (F.EXC_SINE_STAT_RUNNING 1) 1], 5#32, 1, by decide⟩

theorem wit_SourceRows_5 : ∃ (s : State) (k : Fin 4), s.up ∧ s.fd.gb (F.EXC_SINE_STAT_BUSY k) = false ∧ (s.fd.sine k).rampUp = true :=
  ⟨at_ [up, port .run, img (F.EXC_SINE_STAT_BUSY 1) 0, Fd (Field.modSine 1 fun r => { r with rampUp := true })], 1, by decide⟩

theorem wit_SourceRows_6 : ∃ (s : State) (k : Fin 4), s.up ∧ s.fd.gb (F.EXC_SINE_STAT_BUSY k) = true ∧ s.fd.gb (F.EXC_SINE_STAT_PENDING k) = false :=
  ⟨at_ [up, port .run, img (F.EXC_SINE_STAT_BUSY 1) 1, img (F.EXC_SINE_STAT_PENDING 1) 0], 1, by decide⟩

theorem wit_SourceRows_7 : ∃ (s : State) (k : Fin 4) (mon : Fin 65536), s.up ∧ s.fd.gb (F.EXC_SINE_STAT_RUNNING k) = true ∧ 100 * ((mon.val : Int) - (s.fd.sine k).ampl).natAbs ≤ (s.fd.sine k).ampl :=
  ⟨at_ [up, port .run, img (F.EXC_SINE_STAT_RUNNING 1) 1, Fd (Field.modSine 1 fun r => { r with ampl := 1000 })], 1, 1003, by decide⟩

theorem wit_SourceRows_8 : ∃ (s : State) (k : Fin 4) (mon : Fin 65536), s.up ∧ s.fd.gb (F.EXC_SINE_STAT_RUNNING k) = true ∧ (s.fd.sine k).ampl < 100 * ((mon.val : Int) - (s.fd.sine k).ampl).natAbs ∧ (s.fd.sine k).errRun = 3 :=
  ⟨at_ [up, port .run, img (F.EXC_SINE_STAT_RUNNING 1) 1, Fd (Field.modSine 1 fun r => { r with ampl := 1000, errRun := 3 })], 1, 1030, by decide⟩

theorem wit_SourceRows_9 : ∃ (s : State) (src : Fin 8), s.up ∧ s.fd.canComply src = true ∧ s.fd.gb (complFlag src) = false :=
  ⟨at_ [up, port .run, img (F.EXC_IDCSTAT_ON 2) 1, img (complFlag 6) 0], 6, by decide⟩

theorem wit_SourceRows_10 : ∃ (s : State) (src : Fin 8), s.up ∧ s.fd.gateCuts src = false :=
  ⟨at_ [up, port .run], 6, by decide⟩

theorem wit_SourceRows_11 : ∃ (s : State) (ctr : Word) (k : Fin 4) (w : Word), s.up ∧ s.ld.bar.cmds = [] ∧ s.ld.bar.pages = [] ∧ s.ld.takes ctr (R.EXC_IDC k) (w) :=
  ⟨at_ [up, L fun l => { l with bar := { l.bar with cmds := [], pages := [] } }, port .run, owner, open_ (R.pageEXC)], 5#32, 1, 0x40#32, by decide⟩

theorem wit_SourceRows_12 : ∃ (s : State) (k : Fin 4), s.up ∧ s.fd.idc k ≠ { level := s.fd.c (F.EXC_IDC_LEVEL k), en := s.fd.cb (F.EXC_IDC_EN k) } :=
  ⟨at_ [up, port .run, cfg (F.EXC_IDC_EN 1) 1, cfg (F.EXC_IDC_LEVEL 1) 300], 1, by decide⟩

theorem wit_SourceRows_13 : ∃ (s : State) (_cur : Fin 65536), s.up :=
  ⟨at_ [up, port .run], 2501, by decide⟩

theorem wit_SourceRows_14 : ∃ (s : State) (ctr : Word) (w : Word), s.up ∧ s.ld.bar.cmds = [] ∧ s.ld.bar.pages = [] ∧ s.ld.takes ctr (R.EXC_TDAC) (w) ∧ s.hostField.cb F.XPT_CFG_TDAC_USER = true :=
  ⟨at_ [up, L fun l => { l with bar := { l.bar with cmds := [], pages := [] } }, port .run, owner, open_ (R.pageEXC), reg F.XPT_CFG_TDAC_USER 1], 5#32, 5#32, by decide⟩

theorem wit_ReferenceBlankRows_1 : ∃ s : State, s.up ∧ s.fd.gb F.EXC_REF_EXT_OK = true :=
  ⟨at_ [up, port .run, img F.EXC_REF_EXT_OK 1], by decide⟩

theorem wit_ReferenceBlankRows_2 : ∃ s : State, s.up :=
  ⟨at_ [up, port .run], by decide⟩

theorem wit_ReferenceBlankRows_3 : ∃ (s : State) (sl : Slice), s.up ∧ s.fd.gb F.EXC_REF_EXT_OK = true ∧ (s.fd.slice sl).refSettled = false :=
  ⟨at_ [up, port .run, img F.EXC_REF_EXT_OK 1, Fd (Field.modSlice 2 fun r => { r with refSettled := false })], 2, by decide⟩

theorem wit_ReferenceBlankRows_4 : ∃ (s : State) (bad : Fin 2) (_diff : Fin 65536), s.up ∧ s.fd.gb F.EXC_REF_SPARE_AVAIL = true ∧ s.fd.diagRuns = true ∧ nbit s.fd.veto 5 = false ∧ s.fd.g F.EXC_REF_ACTIVE = bad ∧ s.ld.isRetired 5 bad = false :=
  ⟨at_ [up, port .run, img F.EXC_REF_SPARE_AVAIL 1, img F.EXC_REF_ACTIVE 1, L fun l => { l with mram := {} }, Fd fun f => { f with veto := 0, rolesDown := 0 }], 1, 400, by decide⟩

theorem wit_ReferenceBlankRows_5 : ∃ (s : State) (_bad : Fin 2) (_diff : Fin 65536), s.up ∧ s.fd.gb F.EXC_REF_SPARE_AVAIL = true ∧ s.fd.diagRuns = true ∧ nbit s.fd.veto 5 = true :=
  ⟨at_ [up, port .run, img F.EXC_REF_SPARE_AVAIL 1, Fd fun f => { f with veto := 32, rolesDown := 0 }], 1, 400, by decide⟩

theorem wit_ReferenceBlankRows_6 : ∃ (s : State) (src : Option Terminal), s.up ∧ (match src with | none => s.fd.cb F.EXC_BLANK_CFG_PIN_EN = true | some n => s.fd.func n = 1 ∧ s.fd.cb (F.TERM_DI_CFG_BLANK_SRC n) = true) ∧ s.fd.exc.line = false ∧ s.fd.exc.ended = false ∧ s.fd.gb F.EXC_BLANK_STAT_ACTIVE = false :=
  ⟨at_ [up, port .run, cfg F.EXC_BLANK_CFG_PIN_EN 1, img F.EXC_BLANK_STAT_ACTIVE 0, Fd fun f => { f with exc := {} }], none, by decide⟩

theorem wit_ReferenceBlankRows_7 : ∃ s : State, s.up ∧ s.fd.exc.line = true ∧ s.fd.c F.EXC_BLANK_CFG_GUARD ≠ 0 ∧ (s.fd.pinBlanks = true → ∀ m : Terminal, s.fd.diBlanks m = false) :=
  ⟨at_ [up, port .run, Fd fun f => { f with exc := { line := true }, terms := [] }, img F.EXC_BLANK_STAT_PIN 1, cfg F.EXC_BLANK_CFG_PIN_EN 1, cfg F.EXC_BLANK_CFG_GUARD 9], by decide⟩

theorem wit_ReferenceBlankRows_8 : ∃ (s : State) (m : Terminal), s.up ∧ s.fd.exc.line = true ∧ s.fd.pinBlanks = true ∧ s.fd.diBlanks m = true :=
  ⟨at_ [up, port .run, Fd fun f => { f with exc := { line := true } }, img F.EXC_BLANK_STAT_PIN 1, cfg F.EXC_BLANK_CFG_PIN_EN 1, img (F.TERM_CELLSTAT_FUNC_ACT 3) 1, cfg (F.TERM_DI_CFG_BLANK_SRC 3) 1, Fd (Field.modDi 3 fun d => { d with raw := some true })], 3, by decide⟩

theorem wit_ReferenceBlankRows_9 : ∃ s : State, s.up ∧ s.fd.exc.guard = true ∧ s.fd.exc.ended = false ∧ s.fd.gb F.EXC_BLANK_STAT_ACTIVE = true :=
  ⟨at_ [up, port .run, Fd fun f => { f with exc := { guard := true } }, img F.EXC_BLANK_STAT_ACTIVE 1], by decide⟩

theorem wit_ReferenceBlankRows_10 : ∃ s : State, s.up ∧ s.fd.gb F.EXC_BLANK_STAT_ACTIVE = true ∧ s.fd.c F.EXC_BLANK_MAX_MAXLEN ≠ 0 :=
  ⟨at_ [up, port .run, img F.EXC_BLANK_STAT_ACTIVE 1, cfg F.EXC_BLANK_MAX_MAXLEN 9], by decide⟩

theorem wit_CellRows_1 : ∃ (s : State) (n : Terminal) (fn : Fin 8), s.up ∧ (s.fd.term n).next = some fn.val :=
  ⟨at_ [up, port .run, Fd (Field.modTerm 3 fun t => { t with next := some 2 })], 3, 2, by decide⟩

theorem wit_CellRows_2 : ∃ (s : State) (n : Terminal), s.up ∧ s.fd.gateClosed n = true :=
  ⟨at_ [up, port .run, img (F.TERM_CELLSTAT_FUNC_ACT 3) 3, img (F.TERM_CELLSTAT_GATE_OPEN 3) 0, img (F.TERM_CELLSTAT_SHUNT_OPEN 3) 0], 3, by decide⟩

theorem wit_CellRows_3 : ∃ (s : State) (_n : Terminal), s.up :=
  ⟨at_ [up, port .run, img (F.TERM_CELLSTAT_GATE_OPEN 3) 1], 3, by decide⟩

theorem wit_CellRows_4 : ∃ (s : State) (n : Terminal), s.up ∧ s.fd.func n = 4 ∧ s.fd.gb (F.TERM_CELLSTAT_SHUNT_OPEN n) = false :=
  ⟨at_ [up, port .run, img (F.TERM_CELLSTAT_FUNC_ACT 3) 4, img (F.TERM_CELLSTAT_SHUNT_OPEN 3) 0], 3, by decide⟩

theorem wit_CellRows_5 : ∃ (s : State) (_n : Terminal), s.up :=
  ⟨at_ [up, port .run, img (F.TERM_CELLSTAT_SHUNT_OPEN 3) 1], 3, by decide⟩

theorem wit_SwitchRows_1 : ∃ (s : State) (ctr : Word) (n : Terminal) (on : Bool), s.up ∧ s.ld.bar.cmds = [] ∧ s.ld.bar.pages = [] ∧ s.ld.takes ctr (R.TERM_DO_CMD n) (word (b2n on)) ∧ s.hostField.termRefuses n 0x33 (word (b2n on)) = none ∧ s.fd.func n = 2 ∧ s.fd.cb (F.TERM_DO_CFG_TIE_EN n) = false ∧ s.fd.paired = false ∧ s.fd.noticed.any (fun y => y.n == n.val) = false :=
  ⟨at_ [up, L fun l => { l with bar := { l.bar with cmds := [], pages := [] } }, port .run, owner, open_ (0x43), reg (F.TERM_CELL_FUNC 3) 2, img (F.TERM_CELLSTAT_FUNC_ACT 3) 2, cfg (F.TERM_DO_CFG_TIE_EN 3) 0, cfg (F.CTRL_EN (R.pageTERM 3)) 1, Fd fun f => { f with paired := false, mode := .run }, Fd fun f => { f with noticed := [] }], 5#32, 3, true, by decide⟩

theorem wit_SwitchRows_2 : ∃ (s : State) (n : Terminal), s.up ∧ s.fd.func n = 2 ∧ s.fd.gb (F.TERM_DO_STAT_ON n) = true ∧ s.fd.cb (F.TERM_DO_CFG_TIE_EN n) = false ∧ s.fd.paired = false :=
  ⟨at_ [up, port .run, img (F.TERM_CELLSTAT_FUNC_ACT 3) 2, cfg (F.TERM_DO_CFG_TIE_EN 3) 0, cfg (F.CTRL_EN (R.pageTERM 3)) 1, Fd fun f => { f with paired := false, mode := .run }, img (F.TERM_DO_STAT_ON 3) 1], 3, by decide⟩

theorem wit_SwitchRows_3 : ∃ (s : State) (_n : Terminal), s.up ∧ s.fd.paired = false :=
  ⟨at_ [up, port .run, img (F.TERM_CELLSTAT_FUNC_ACT 3) 2, cfg (F.TERM_DO_CFG_TIE_EN 3) 0, cfg (F.CTRL_EN (R.pageTERM 3)) 1, Fd fun f => { f with paired := false, mode := .run }, img (F.TERM_DO_STAT_REVERSE 3) 1], 3, by decide⟩

theorem wit_SwitchRows_4 : ∃ (s : State) (n : Terminal), s.up ∧ s.fd.func n = 2 ∧ s.fd.gb (F.TERM_DO_STAT_ON n) = true :=
  ⟨at_ [up, port .run, img (F.TERM_CELLSTAT_FUNC_ACT 3) 2, cfg (F.TERM_DO_CFG_TIE_EN 3) 0, cfg (F.CTRL_EN (R.pageTERM 3)) 1, Fd fun f => { f with paired := false, mode := .run }, img (F.TERM_DO_STAT_ON 3) 1], 3, by decide⟩

theorem wit_SwitchRows_5 : ∃ (s : State) (n : Terminal), s.up ∧ s.fd.func n = 2 :=
  ⟨at_ [up, port .run, img (F.TERM_CELLSTAT_FUNC_ACT 3) 2, cfg (F.TERM_DO_CFG_TIE_EN 3) 0, cfg (F.CTRL_EN (R.pageTERM 3)) 1, Fd fun f => { f with paired := false, mode := .run }, img (F.TERM_DO_STAT_ON 3) 1], 3, by decide⟩

theorem wit_SwitchRows_6 : ∃ (s : State) (n : Terminal), s.up ∧ s.fd.func n = 2 ∧ s.fd.gb (F.TERM_DO_STAT_ON n) = true ∧ (s.fd.term n).want.isSome = true ∧ (s.fd.term n).dout.fold = true ∧ s.fd.cb (F.TERM_DO_CFG_TIE_EN n) = false ∧ s.fd.paired = false :=
  ⟨at_ [up, port .run, img (F.TERM_CELLSTAT_FUNC_ACT 3) 2, cfg (F.TERM_DO_CFG_TIE_EN 3) 0, cfg (F.CTRL_EN (R.pageTERM 3)) 1, Fd fun f => { f with paired := false, mode := .run }, img (F.TERM_DO_STAT_ON 3) 1, Fd (Field.modDout 3 fun d => { d with fold := true }), Fd (Field.modTerm 3 fun t => { t with want := some 1 })], 3, by decide⟩

theorem wit_SwitchRows_7 : ∃ (s : State) (n : Terminal), s.up ∧ s.fd.func n = 2 ∧ (s.fd.term n).dout.ovl = true ∧ s.fd.gb (F.TERM_DO_STAT_LATCHED n) = false ∧ (s.fd.term n).want.isSome = true :=
  ⟨at_ [up, port .run, img (F.TERM_CELLSTAT_FUNC_ACT 3) 2, cfg (F.TERM_DO_CFG_TIE_EN 3) 0, cfg (F.CTRL_EN (R.pageTERM 3)) 1, Fd fun f => { f with paired := false, mode := .run }, Fd (Field.modDout 3 fun d => { d with ovl := true }), img (F.TERM_DO_STAT_LATCHED 3) 0, Fd (Field.modTerm 3 fun t => { t with want := some 1 })], 3, by decide⟩

theorem wit_SwitchRows_8 : ∃ (s : State) (n : Terminal), s.up ∧ s.fd.func n = 2 ∧ (s.fd.term n).want.isSome = true ∧ (s.fd.term n).dout.thm = false ∧ s.fd.cb (F.TERM_DO_CFG_TIE_EN n) = false ∧ s.fd.paired = false :=
  ⟨at_ [up, port .run, img (F.TERM_CELLSTAT_FUNC_ACT 3) 2, cfg (F.TERM_DO_CFG_TIE_EN 3) 0, cfg (F.CTRL_EN (R.pageTERM 3)) 1, Fd fun f => { f with paired := false, mode := .run }, Fd (Field.modDout 3 fun d => { d with thm := false }), Fd (Field.modTerm 3 fun t => { t with want := some 1 })], 3, by decide⟩

theorem wit_SwitchRows_9 : ∃ (s : State) (n : Terminal), s.up ∧ s.fd.func n = 2 ∧ (s.fd.term n).dout.hot = true :=
  ⟨at_ [up, port .run, img (F.TERM_CELLSTAT_FUNC_ACT 3) 2, cfg (F.TERM_DO_CFG_TIE_EN 3) 0, cfg (F.CTRL_EN (R.pageTERM 3)) 1, Fd fun f => { f with paired := false, mode := .run }, Fd (Field.modDout 3 fun d => { d with hot := true })], 3, by decide⟩

theorem wit_SwitchRows_10 : ∃ (s : State) (n : Terminal), s.up ∧ s.fd.func n = 2 ∧ (s.fd.term n).dout.thm = true ∧ s.fd.gb (F.TERM_DO_STAT_LATCHED n) = false ∧ (s.fd.term n).want.isSome = true :=
  ⟨at_ [up, port .run, img (F.TERM_CELLSTAT_FUNC_ACT 3) 2, cfg (F.TERM_DO_CFG_TIE_EN 3) 0, cfg (F.CTRL_EN (R.pageTERM 3)) 1, Fd fun f => { f with paired := false, mode := .run }, Fd (Field.modDout 3 fun d => { d with thm := true }), img (F.TERM_DO_STAT_LATCHED 3) 0, Fd (Field.modTerm 3 fun t => { t with want := some 1 })], 3, by decide⟩

theorem wit_SwitchRows_11 : ∃ (s : State) (ctr : Word) (n : Terminal), s.up ∧ s.ld.bar.cmds = [] ∧ s.ld.bar.pages = [] ∧ s.ld.takes ctr (R.TERM_DO_CLR n) (1#32) ∧ s.hostField.termRefuses n 0x3A 1#32 = none ∧ s.fd.func n = 2 :=
  ⟨at_ [up, L fun l => { l with bar := { l.bar with cmds := [], pages := [] } }, port .run, owner, open_ (0x43), reg (F.TERM_CELL_FUNC 3) 2, img (F.TERM_CELLSTAT_FUNC_ACT 3) 2, cfg (F.TERM_DO_CFG_TIE_EN 3) 0, cfg (F.CTRL_EN (R.pageTERM 3)) 1, Fd fun f => { f with paired := false, mode := .run }, img (F.TERM_DO_STAT_LATCHED 3) 1], 5#32, 3, by decide⟩

theorem wit_SwitchDiagnosisRows_1 : ∃ (s : State) (n : Terminal) (_band : BandReport), s.up ∧ s.fd.func n = 2 ∧ s.fd.cb (F.TERM_DO_CFG_TIE_EN n) = false ∧ s.fd.gb (F.TERM_DO_STAT_ON n) = false ∧ s.fd.gb (F.TERM_DO_STAT_CLAMP n) = false ∧ s.fd.gb (F.TERM_DO_STAT_TESTING n) = false ∧ (s.fd.term n).catch_ = .none ∧ (s.fd.paired = false ∨ s.fd.lead = false ∨ s.fd.commanded n = none) :=
  ⟨at_ [up, port .run, img (F.TERM_CELLSTAT_FUNC_ACT 3) 2, cfg (F.TERM_DO_CFG_TIE_EN 3) 0, cfg (F.CTRL_EN (R.pageTERM 3)) 1, Fd fun f => { f with paired := false, mode := .run }, img (F.TERM_DO_STAT_ON 3) 0, img (F.TERM_DO_STAT_CLAMP 3) 0, img (F.TERM_DO_STAT_TESTING 3) 0, Fd (Field.modTerm 3 fun t => { t with catch_ := .none })], 3, ⟨1, true⟩, by decide⟩

theorem wit_SwitchDiagnosisRows_2 : ∃ (s : State) (n : Terminal) (_low : Bool), s.up ∧ s.fd.func n = 2 ∧ s.fd.gb (F.TERM_DO_STAT_ON n) = true ∧ s.fd.c (F.TERM_DO_DIAG_IMIN n) ≠ 0 ∧ (s.fd.term n).catch_ = .none :=
  ⟨at_ [up, port .run, img (F.TERM_CELLSTAT_FUNC_ACT 3) 2, cfg (F.TERM_DO_CFG_TIE_EN 3) 0, cfg (F.CTRL_EN (R.pageTERM 3)) 1, Fd fun f => { f with paired := false, mode := .run }, img (F.TERM_DO_STAT_ON 3) 1, cfg (F.TERM_DO_DIAG_IMIN 3) 9, Fd (Field.modTerm 3 fun t => { t with catch_ := .none })], 3, true, by decide⟩

theorem wit_SwitchDiagnosisRows_3 : ∃ (s : State) (n : Terminal), s.up ∧ s.fd.func n = 2 ∧ s.fd.gb (F.TERM_DO_STAT_ON n) = true ∧ s.fd.cb (F.TERM_DO_CFG_TIE_EN n) = false ∧ s.fd.paired = false ∧ s.fd.cb (F.TERM_DO_DIAG_TP_EN n) = true ∧ (s.fd.term n).catch_ = .none ∧ s.fd.pulseTime n = true ∧ s.fd.pulseBlocked n = false :=
  ⟨at_ [up, port .run, img (F.TERM_CELLSTAT_FUNC_ACT 3) 2, cfg (F.TERM_DO_CFG_TIE_EN 3) 0, cfg (F.CTRL_EN (R.pageTERM 3)) 1, Fd fun f => { f with paired := false, mode := .run }, img (F.TERM_DO_STAT_ON 3) 1, cfg (F.TERM_DO_DIAG_TP_EN 3) 1, img (F.TERM_DO_STAT_TESTING 3) 0, Fd (Field.modTerm 3 fun t => { t with dout := {}, catch_ := .none }), Fd fun f => { f with handover := false, quiet := 0, time := 9000 }, img (F.TERM_DO_STAT_TESTING 0) 0, img (F.TERM_DO_STAT_TESTING 1) 0, img (F.TERM_DO_STAT_TESTING 2) 0, img (F.TERM_DO_STAT_TESTING 4) 0, img (F.TERM_DO_STAT_TESTING 5) 0, img (F.TERM_DO_STAT_TESTING 6) 0, img (F.TERM_DO_STAT_TESTING 7) 0], 3, by decide, by decide, by decide, by decide, by decide, by decide, by decide, by decide, by unfold Field.pulseBlocked; rw [turnedOn _ _ (by decide)]; decide⟩

theorem wit_SwitchDiagnosisRows_4 : ∃ (s : State) (n : Terminal), s.up ∧ s.fd.func n = 2 ∧ s.fd.cb (F.TERM_DO_CFG_TIE_EN n) = false ∧ s.fd.paired = false ∧ s.fd.gb (F.TERM_DO_STAT_TESTING n) = true ∧ (s.fd.term n).dout.failPulse = false :=
  ⟨at_ [up, port .run, img (F.TERM_CELLSTAT_FUNC_ACT 3) 2, cfg (F.TERM_DO_CFG_TIE_EN 3) 0, cfg (F.CTRL_EN (R.pageTERM 3)) 1, Fd fun f => { f with paired := false, mode := .run }, img (F.TERM_DO_STAT_TESTING 3) 1, Fd (Field.modDout 3 fun d => { d with failPulse := false })], 3, by decide⟩

theorem wit_SwitchDiagnosisRows_5 : ∃ (s : State) (n : Terminal), s.up ∧ s.fd.func n = 2 ∧ s.fd.cb (F.TERM_DO_CFG_TIE_EN n) = false ∧ s.fd.paired = false ∧ s.fd.gb (F.TERM_DO_STAT_TESTING n) = true ∧ (s.fd.term n).dout.failPulse = false :=
  ⟨at_ [up, port .run, img (F.TERM_CELLSTAT_FUNC_ACT 3) 2, cfg (F.TERM_DO_CFG_TIE_EN 3) 0, cfg (F.CTRL_EN (R.pageTERM 3)) 1, Fd fun f => { f with paired := false, mode := .run }, img (F.TERM_DO_STAT_TESTING 3) 1, Fd (Field.modDout 3 fun d => { d with failPulse := false })], 3, by decide⟩

theorem wit_SwitchDiagnosisRows_6 : ∃ (s : State) (n : Terminal) (_rs : List SegReading) (_ron : Fin 65536), s.up ∧ s.fd.func n = 2 ∧ s.fd.gb (F.TERM_DO_STAT_ON n) = true ∧ s.fd.diagRuns = true ∧ s.fd.gb (F.TERM_DO_STAT_LIMIT n) = false ∧ 100 ≤ s.fd.g (F.TERM_DO_MEAS_CURRENT n) :=
  ⟨at_ [up, port .run, img (F.TERM_CELLSTAT_FUNC_ACT 3) 2, cfg (F.TERM_DO_CFG_TIE_EN 3) 0, cfg (F.CTRL_EN (R.pageTERM 3)) 1, Fd fun f => { f with paired := false, mode := .run }, img (F.TERM_DO_STAT_ON 3) 1, img (F.TERM_DO_STAT_LIMIT 3) 0, img (F.TERM_DO_MEAS_CURRENT 3) 500, Fd fun f => { f with rolesDown := 0 }], 3, [⟨2, 1000, false, false⟩], 70, by decide⟩

theorem wit_SwitchDiagnosisRows_7 : ∃ (s : State) (n : Terminal) (x : SegReading) (_ron : Fin 65536), s.up ∧ s.fd.func n = 2 ∧ s.fd.gb (F.TERM_DO_STAT_ON n) = true ∧ s.fd.diagRuns = true ∧ s.fd.gb (F.TERM_DO_STAT_LIMIT n) = false ∧ 100 ≤ s.fd.g (F.TERM_DO_MEAS_CURRENT n) ∧ x.lowShare = true ∧ nbit (s.fd.g (F.TERM_DO_SEG_IN_SERVICE n)) x.seg = true ∧ nbit (s.fd.g (F.TERM_DO_SEG_RETIRED n)) x.seg = false :=
  ⟨at_ [up, port .run, img (F.TERM_CELLSTAT_FUNC_ACT 3) 2, cfg (F.TERM_DO_CFG_TIE_EN 3) 0, cfg (F.CTRL_EN (R.pageTERM 3)) 1, Fd fun f => { f with paired := false, mode := .run }, img (F.TERM_DO_STAT_ON 3) 1, img (F.TERM_DO_STAT_LIMIT 3) 0, img (F.TERM_DO_MEAS_CURRENT 3) 500, img (F.TERM_DO_SEG_IN_SERVICE 3) 255, img (F.TERM_DO_SEG_RETIRED 3) 0, Fd fun f => { f with rolesDown := 0 }, L fun l => { l with mram := {} }], 3, ⟨2, 1000, true, false⟩, 70, by decide⟩

theorem wit_SwitchDiagnosisRows_8 : ∃ (s : State) (ctr : Word) (n : Terminal), s.up ∧ s.ld.bar.cmds = [] ∧ s.ld.bar.pages = [] ∧ s.ld.takes ctr (R.TERM_DO_CLR n) (2#32) ∧ s.hostField.termRefuses n 0x3A 2#32 = none ∧ s.fd.func n = 2 :=
  ⟨at_ [up, L fun l => { l with bar := { l.bar with cmds := [], pages := [] } }, port .run, owner, open_ (0x43), reg (F.TERM_CELL_FUNC 3) 2, img (F.TERM_CELLSTAT_FUNC_ACT 3) 2, cfg (F.TERM_DO_CFG_TIE_EN 3) 0, cfg (F.CTRL_EN (R.pageTERM 3)) 1, Fd fun f => { f with paired := false, mode := .run }], 5#32, 3, by decide⟩

theorem wit_AnalogueOutputRows_1 : ∃ (s : State) (ctr : Word) (n : Terminal) (w : Word), s.up ∧ s.ld.bar.cmds = [] ∧ s.ld.bar.pages = [] ∧ s.ld.takes ctr (R.TERM_AO_CMD n) (w) ∧ s.hostField.termRefuses n 0x43 w = none ∧ isAo (s.fd.func n) = true ∧ s.fd.noticed.any (fun y => y.n == n.val) = false :=
  ⟨at_ [up, L fun l => { l with bar := { l.bar with cmds := [], pages := [] } }, port .run, owner, open_ (0x43), reg (F.TERM_CELL_FUNC 3) 5, img (F.TERM_CELLSTAT_FUNC_ACT 3) 5, cfg (F.CTRL_EN (R.pageTERM 3)) 1, Fd fun f => { f with paired := false, mode := .run }, Fd fun f => { f with noticed := [] }], 5#32, 3, 100000#32, by decide⟩

theorem wit_AnalogueOutputRows_2 : ∃ (s : State) (n : Terminal), s.up ∧ isAo (s.fd.func n) = true ∧ s.fd.gb (F.TERM_AO_STAT_COMPLIANCE n) = false :=
  ⟨at_ [up, port .run, img (F.TERM_CELLSTAT_FUNC_ACT 3) 5, cfg (F.CTRL_EN (R.pageTERM 3)) 1, Fd fun f => { f with paired := false, mode := .run }, img (F.TERM_AO_STAT_COMPLIANCE 3) 0], 3, by decide⟩

theorem wit_AnalogueOutputRows_3 : ∃ (s : State) (n : Terminal), s.up ∧ isAo (s.fd.func n) = true :=
  ⟨at_ [up, port .run, img (F.TERM_CELLSTAT_FUNC_ACT 3) 5, cfg (F.CTRL_EN (R.pageTERM 3)) 1, Fd fun f => { f with paired := false, mode := .run }, img (F.TERM_AO_STAT_COMPLIANCE 3) 0], 3, by decide⟩

theorem wit_AnalogueOutputRows_4 : ∃ (s : State) (n : Terminal), s.up ∧ s.fd.func n = 5 ∧ s.fd.gb (F.TERM_AO_STAT_OPEN_LOOP n) = false ∧ s.fd.g (F.TERM_AO_RAIL_SOURCE n) = 2 ∧ 10000 ≤ (s.fd.term n).level.getD 0 :=
  ⟨at_ [up, port .run, img (F.TERM_CELLSTAT_FUNC_ACT 3) 5, cfg (F.CTRL_EN (R.pageTERM 3)) 1, Fd fun f => { f with paired := false, mode := .run }, img (F.TERM_AO_STAT_OPEN_LOOP 3) 0, img (F.TERM_AO_RAIL_SOURCE 3) 2, Fd (Field.modTerm 3 fun t => { t with level := some 50000 })], 3, by decide⟩

theorem wit_AnalogueOutputRows_5 : ∃ (s : State) (n : Terminal), s.up ∧ s.fd.func n = 5 :=
  ⟨at_ [up, port .run, img (F.TERM_CELLSTAT_FUNC_ACT 3) 5, cfg (F.CTRL_EN (R.pageTERM 3)) 1, Fd fun f => { f with paired := false, mode := .run }, img (F.TERM_AO_STAT_OPEN_LOOP 3) 0, img (F.TERM_AO_RAIL_SOURCE 3) 2, Fd (Field.modTerm 3 fun t => { t with level := some 50000 })], 3, by decide⟩

theorem wit_AnalogueOutputRows_6 : ∃ (s : State) (n : Terminal), s.up ∧ s.fd.func n = 6 ∧ s.fd.gb (F.TERM_AO_STAT_OVERLOAD n) = false :=
  ⟨at_ [up, port .run, img (F.TERM_CELLSTAT_FUNC_ACT 3) 6, cfg (F.CTRL_EN (R.pageTERM 3)) 1, Fd fun f => { f with paired := false, mode := .run }, img (F.TERM_AO_STAT_OVERLOAD 3) 0], 3, by decide⟩

theorem wit_AnalogueOutputRows_7 : ∃ (s : State) (n : Terminal), s.up ∧ s.fd.func n = 6 :=
  ⟨at_ [up, port .run, img (F.TERM_CELLSTAT_FUNC_ACT 3) 6, cfg (F.CTRL_EN (R.pageTERM 3)) 1, Fd fun f => { f with paired := false, mode := .run }, img (F.TERM_AO_STAT_OVERLOAD 3) 0], 3, by decide⟩

theorem wit_AnalogueOutputRows_8 : ∃ (s : State) (n : Terminal), s.up ∧ isAo (s.fd.func n) = true ∧ s.fd.gb (F.TERM_AO_STAT_COMPLIANCE n) = false ∧ s.fd.gb (F.TERM_AO_STAT_THERM_LIM n) = false ∧ s.fd.gb (F.TERM_AO_STAT_OVERLOAD n) = false ∧ s.fd.gb (F.TERM_AO_STAT_THERMAL n) = false ∧ s.fd.gb (F.TERM_AO_STAT_READBACK n) = false :=
  ⟨at_ [up, port .run, img (F.TERM_CELLSTAT_FUNC_ACT 3) 5, cfg (F.CTRL_EN (R.pageTERM 3)) 1, Fd fun f => { f with paired := false, mode := .run }, img (F.TERM_AO_STAT_COMPLIANCE 3) 0, img (F.TERM_AO_STAT_THERM_LIM 3) 0, img (F.TERM_AO_STAT_OVERLOAD 3) 0, img (F.TERM_AO_STAT_THERMAL 3) 0, img (F.TERM_AO_STAT_READBACK 3) 0], 3, by decide⟩

theorem wit_AnalogueOutputRows_9 : ∃ (s : State) (n : Terminal), s.up ∧ isAo (s.fd.func n) = true ∧ s.fd.gb (F.TERM_AO_STAT_COMPLIANCE n) = false ∧ s.fd.gb (F.TERM_AO_STAT_THERM_LIM n) = false ∧ s.fd.gb (F.TERM_AO_STAT_OVERLOAD n) = false ∧ s.fd.gb (F.TERM_AO_STAT_THERMAL n) = false :=
  ⟨at_ [up, port .run, img (F.TERM_CELLSTAT_FUNC_ACT 3) 5, cfg (F.CTRL_EN (R.pageTERM 3)) 1, Fd fun f => { f with paired := false, mode := .run }, img (F.TERM_AO_STAT_COMPLIANCE 3) 0, img (F.TERM_AO_STAT_THERM_LIM 3) 0, img (F.TERM_AO_STAT_OVERLOAD 3) 0, img (F.TERM_AO_STAT_THERMAL 3) 0, img (F.TERM_AO_STAT_READBACK 3) 0], 3, by decide⟩

theorem wit_AnalogueOutputRows_10 : ∃ (s : State) (n : Terminal) (need : Nat), s.up ∧ isAo (s.fd.func n) = true ∧ s.fd.aoNeed n = some need ∧ (s.fd.step (n / 8)).stopped = false ∧ (s.fd.step (n / 8)).absent = false ∧ s.fd.safeRuns = true ∧ s.fd.aoConnected n = true ∧ need ≤ (s.fd.step (n / 8)).low ∧ need ≤ (s.fd.step (n / 8)).lowAt :=
  ⟨at_ [up, port .run, img (F.TERM_CELLSTAT_FUNC_ACT 3) 5, cfg (F.CTRL_EN (R.pageTERM 3)) 1, Fd fun f => { f with paired := false, mode := .run }, Fd (Field.modTerm 3 fun t => { t with level := some 50000 }), img (F.TERM_AO_MEAS_CURRENT 3) 500, img (F.TERM_AO_MEAS_VTERM 3) 2000, img (F.TERM_AO_RAIL_SOURCE 3) 2, Fd fun f => { f with rolesDown := 0 }, Fd (Field.modStep 0 fun t => { t with stopped := false, low := 5000, lowAt := 5000 })], 3, 3000, by decide⟩

theorem wit_AnalogueOutputRows_11 : ∃ (s : State) (n : Terminal) (v : Nat) (_below : Bool), s.up ∧ isAo (s.fd.func n) = true ∧ (s.fd.term n).ao.above = true ∧ (s.fd.term n).level = some v :=
  ⟨at_ [up, port .run, img (F.TERM_CELLSTAT_FUNC_ACT 3) 5, cfg (F.CTRL_EN (R.pageTERM 3)) 1, Fd fun f => { f with paired := false, mode := .run }, Fd (Field.modTerm 3 fun t => { t with level := some 50000, ao := { above := true } })], 3, 50000, false, by decide⟩

theorem wit_AnalogueOutputRows_12 : ∃ (s : State) (n : Terminal), s.up ∧ isAo (s.fd.func n) = true ∧ (s.fd.term n).level.isSome = true ∧ s.fd.paired = false :=
  ⟨at_ [up, port .run, img (F.TERM_CELLSTAT_FUNC_ACT 3) 5, cfg (F.CTRL_EN (R.pageTERM 3)) 1, Fd fun f => { f with paired := false, mode := .run }, Fd (Field.modTerm 3 fun t => { t with level := some 50000 })], 3, by decide⟩

theorem wit_AnalogueOutputRows_13 : ∃ (s : State) (n : Terminal), s.up ∧ isAo (s.fd.func n) = true :=
  ⟨at_ [up, port .run, img (F.TERM_CELLSTAT_FUNC_ACT 3) 5, cfg (F.CTRL_EN (R.pageTERM 3)) 1, Fd fun f => { f with paired := false, mode := .run }, img (F.TERM_AO_STAT_THERMAL 3) 1], 3, by decide⟩

theorem wit_AnalogueOutputRows_14 : ∃ (s : State) (ctr : Word) (n : Terminal), s.up ∧ s.ld.bar.cmds = [] ∧ s.ld.bar.pages = [] ∧ s.ld.takes ctr (R.TERM_AO_CLR n) (1#32) ∧ s.hostField.termRefuses n 0x49 1#32 = none ∧ isAo (s.fd.func n) = true :=
  ⟨at_ [up, L fun l => { l with bar := { l.bar with cmds := [], pages := [] } }, port .run, owner, open_ (0x43), reg (F.TERM_CELL_FUNC 3) 5, img (F.TERM_CELLSTAT_FUNC_ACT 3) 5, cfg (F.CTRL_EN (R.pageTERM 3)) 1, Fd fun f => { f with paired := false, mode := .run }], 5#32, 3, by decide⟩

theorem wit_StepSupplyRows_1 : ∃ (s : State) (g : Group), s.up ∧ (s.fd.step g).stopped = false ∧ (s.fd.step g).absent = false ∧ s.fd.safeRuns = true ∧ (s.fd.groupOuts g).filterMap (fun k => if isAo (s.fd.func k) then (s.fd.aoNeed k).map fun v => (v, k) else none) = [] ∧ s.fd.aoEnabled g = false :=
  ⟨at_ [up, port .run, Fd fun f => { f with steps := [], terms := [], rolesDown := 0, cfg := [] }], 0, by decide⟩

theorem wit_StepSupplyRows_2 : ∃ (s : State) (g : Group), s.up ∧ (s.fd.step g).stopped = false ∧ (s.fd.step g).absent = false ∧ s.fd.safeRuns = true ∧ (s.fd.groupOuts g).filterMap (fun k => if isAo (s.fd.func k) then (s.fd.aoNeed k).map fun v => (v, k) else none) = [] ∧ s.fd.aoEnabled g = true :=
  ⟨at_ [up, port .run, img (F.TERM_CELLSTAT_FUNC_ACT 3) 5, cfg (F.CTRL_EN (R.pageTERM 3)) 1, Fd fun f => { f with paired := false, mode := .run }, Fd fun f => { f with steps := [], rolesDown := 0 }, Fd (Field.modTerm 3 fun t => { t with level := some 0, expect := none, catch_ := .none }), img (F.TERM_CELLSTAT_FUNC_ACT 0) 0, img (F.TERM_CELLSTAT_FUNC_ACT 1) 0, img (F.TERM_CELLSTAT_FUNC_ACT 2) 0, img (F.TERM_CELLSTAT_FUNC_ACT 4) 0, img (F.TERM_CELLSTAT_FUNC_ACT 5) 0, img (F.TERM_CELLSTAT_FUNC_ACT 6) 0, img (F.TERM_CELLSTAT_FUNC_ACT 7) 0], 0, by decide⟩

theorem wit_StepSupplyRows_3 : ∃ (s : State) (g : Group) (n : Nat) (v : Nat), s.up ∧ (s.fd.step g).stopped = false ∧ (s.fd.step g).absent = false ∧ s.fd.safeRuns = true ∧ (s.fd.groupOuts g).filterMap (fun k => if isAo (s.fd.func k) then (s.fd.aoNeed k).map fun v => (v, k) else none) = [(v, n)] ∧ v ≤ s.fd.fsup g - 1700 ∧ (s.fd.step g).low < railFor (s.fd.fsup g - 1500) v ∧ n < 32 :=
  ⟨at_ [up, port .run, img (F.TERM_CELLSTAT_FUNC_ACT 3) 5, cfg (F.CTRL_EN (R.pageTERM 3)) 1, Fd fun f => { f with paired := false, mode := .run }, img (F.TERM_CELLSTAT_FUNC_ACT 0) 0, img (F.TERM_CELLSTAT_FUNC_ACT 1) 0, img (F.TERM_CELLSTAT_FUNC_ACT 2) 0, img (F.TERM_CELLSTAT_FUNC_ACT 4) 0, img (F.TERM_CELLSTAT_FUNC_ACT 5) 0, img (F.TERM_CELLSTAT_FUNC_ACT 6) 0, img (F.TERM_CELLSTAT_FUNC_ACT 7) 0, Fd (Field.modTerm 3 fun t => { t with level := some 50000 }), img (F.TERM_AO_RAIL_SOURCE 3) 2, img (F.TERM_AO_MEAS_CURRENT 3) 500, img (F.TERM_AO_MEAS_VTERM 3) 2000, img (F.FSUP_GRP_STAT_VOLT 0) 2400, Fd fun f => { f with steps := [], rolesDown := 0 }], 0, 3, 3000, by decide, by decide, by decide, by decide, by set_option maxRecDepth 2000 in decide, by decide, by set_option maxRecDepth 2000 in decide, by decide⟩

theorem wit_StepSupplyRows_4 : ∃ (s : State) (g : Group), s.up ∧ (s.fd.step g).plan = none :=
  ⟨at_ [up, port .run, Fd (Field.modStep 0 fun t => { t with plan := none })], 0, by decide⟩

theorem wit_StepSupplyRows_5 : ∃ (s : State) (g : Group), s.up ∧ (s.fd.step g).plan = none :=
  ⟨at_ [up, port .run, Fd (Field.modStep 0 fun t => { t with plan := none })], 0, by decide⟩

theorem wit_StepSupplyRows_6 : ∃ (s : State) (n : Terminal), s.up ∧ isAo (s.fd.func n) = true ∧ (s.fd.term n).level.isSome = true ∧ s.fd.g (F.TERM_AO_RAIL_SOURCE n) = 0 ∧ (s.fd.step (n / 8)).lowAt + 500 ≤ (s.fd.step (n / 8)).highAt :=
  ⟨at_ [up, port .run, img (F.TERM_CELLSTAT_FUNC_ACT 3) 5, cfg (F.CTRL_EN (R.pageTERM 3)) 1, Fd fun f => { f with paired := false, mode := .run }, Fd (Field.modTerm 3 fun t => { t with level := some 50000 }), img (F.TERM_AO_RAIL_SOURCE 3) 0, Fd (Field.modStep 0 fun t => { t with lowAt := 3000, highAt := 3500 })], 3, by decide⟩

theorem wit_StepSupplyRows_7 : ∃ (s : State) (g : Group), s.up ∧ s.fd.groupAo g ≠ [] ∧ (s.fd.step g).stopped = false ∧ (s.fd.step g).absent = false :=
  ⟨at_ [up, port .run, img (F.TERM_CELLSTAT_FUNC_ACT 3) 5, cfg (F.CTRL_EN (R.pageTERM 3)) 1, Fd fun f => { f with paired := false, mode := .run }, Fd (Field.modStep 0 fun t => { t with stopped := false })], 0, by decide⟩

theorem wit_StepSupplyRows_8 : ∃ (s : State) (g : Group), s.up ∧ (s.fd.step g).stopped = true ∧ (s.fd.step g).fails < 3 :=
  ⟨at_ [up, port .run, img (F.TERM_CELLSTAT_FUNC_ACT 3) 5, cfg (F.CTRL_EN (R.pageTERM 3)) 1, Fd fun f => { f with paired := false, mode := .run }, Fd (Field.modStep 0 fun t => { t with stopped := true, fails := 2 })], 0, by decide⟩

theorem wit_StepSupplyRows_9 : ∃ (s : State) (g : Group), s.up ∧ (s.fd.step g).stopped = true ∧ (s.fd.step g).fails < 3 :=
  ⟨at_ [up, port .run, img (F.TERM_CELLSTAT_FUNC_ACT 3) 5, cfg (F.CTRL_EN (R.pageTERM 3)) 1, Fd fun f => { f with paired := false, mode := .run }, Fd (Field.modStep 0 fun t => { t with stopped := true, fails := 2 })], 0, by decide⟩

theorem wit_SupplyRows_1 : ∃ (s : State) (g : Group) (k : Fin 3), s.up ∧ s.fd.gb (supplyFlag g k) = false :=
  ⟨at_ [up, port .run, img (supplyFlag 0 0) 0], 0, 0, by decide⟩

theorem wit_SupplyRows_2 : ∃ (s : State) (g : Group) (n : Nat), s.up ∧ s.fd.gb (supplyFlag g 2) = false ∧ n ∈ s.fd.groupOuts g ∧ s.fd.paired = false :=
  ⟨at_ [up, port .run, img (F.TERM_CELLSTAT_FUNC_ACT 3) 5, cfg (F.CTRL_EN (R.pageTERM 3)) 1, Fd fun f => { f with paired := false, mode := .run }, img (supplyFlag 0 2) 0], 0, 3, by decide⟩

theorem wit_SupplyRows_3 : ∃ (s : State) (_g : Group), s.up :=
  ⟨at_ [up, port .run, img (supplyFlag 0 0) 1], 0, by decide⟩

theorem wit_SupplyRows_4 : ∃ (s : State) (g : Group) (k : Fin 3), s.up ∧ s.fd.gb (supplyFlag g k) = true ∧ k.val ≠ 0 :=
  ⟨at_ [up, port .run, img (supplyFlag 0 1) 1], 0, 1, by decide⟩

theorem wit_SupplyRows_5 : ∃ (s : State) (g : Group) (n : Nat), s.up ∧ s.fd.gb (F.FSUP_GRP_STAT_LOW g) = true ∧ s.fd.c (F.FSUP_GRP_POL_POLICY g) = 1 ∧ n ∈ s.fd.groupOuts g ∧ s.fd.c (F.TERM_SS_CFG_SHED_PRIO n) = s.fd.nextPrio g (s.fd.group g).shedAt ∧ s.fd.nextPrio g (s.fd.group g).shedAt ≠ 0 :=
  ⟨at_ [up, port .run, img (F.TERM_CELLSTAT_FUNC_ACT 3) 5, cfg (F.CTRL_EN (R.pageTERM 3)) 1, Fd fun f => { f with paired := false, mode := .run }, img (F.FSUP_GRP_STAT_LOW 0) 1, cfg (F.FSUP_GRP_POL_POLICY 0) 1, cfg (F.TERM_SS_CFG_SHED_PRIO 3) 7, img (F.TERM_SS_STAT_SHED 3) 0, Fd (Field.modGroup 0 fun r => { r with shedAt := 8 })], 0, 3, by decide⟩

theorem wit_SupplyRows_6 : ∃ (s : State) (g : Group) (n : Nat) (q : List Nat), s.up ∧ (s.fd.group g).queue = n :: q ∧ n < 32 :=
  ⟨at_ [up, port .run, img (F.TERM_CELLSTAT_FUNC_ACT 3) 5, cfg (F.CTRL_EN (R.pageTERM 3)) 1, Fd fun f => { f with paired := false, mode := .run }, Fd (Field.modGroup 0 fun r => { r with queue := [3, 4] })], 0, 3, [4], by decide⟩

theorem wit_SupplyRows_7 : ∃ s : State, s.up ∧ s.fd.wdArmed = true :=
  ⟨at_ [up, port .run, img (F.TERM_CELLSTAT_FUNC_ACT 3) 5, cfg (F.CTRL_EN (R.pageTERM 3)) 1, Fd fun f => { f with paired := false, mode := .run }, Fd fun f => { f with wdArmed := true }], by decide⟩

theorem wit_SupplyRows_8 : ∃ (s : State) (ctr : Word) (n : Terminal) (on : Bool), s.up ∧ s.ld.bar.cmds = [] ∧ s.ld.bar.pages = [] ∧ s.ld.takes ctr (R.TERM_SS_FORCE n) (word (b2n on)) ∧ isOut (s.fd.func n) = true :=
  ⟨at_ [up, L fun l => { l with bar := { l.bar with cmds := [], pages := [] } }, port .run, owner, open_ (0x43), img (F.TERM_CELLSTAT_FUNC_ACT 3) 5, cfg (F.CTRL_EN (R.pageTERM 3)) 1, Fd fun f => { f with paired := false, mode := .run }], 5#32, 3, true, by decide⟩

theorem wit_ReflexBudgetRows_1 : ∃ (s : State) (r : Rule), s.up ∧ s.fd.configured = true ∧ s.fd.cb (F.REFLEX_RULE_C_EN r) = true ∧ s.fd.ruleActive r = true ∧ s.fd.ruleCond r = false ∧ s.fd.cb (F.REFLEX_RULE_C_LATCH r) = false :=
  ⟨at_ [up, port .run, Fd fun f => { f with configured := true }, cfg (F.REFLEX_RULE_C_EN 5) 1, cfg (F.REFLEX_RULE_C_LATCH 5) 0, cfg (F.REFLEX_RULE_A_TERM0 5) 0, cfg (F.REFLEX_RULE_A_TERM1 5) 0, cfg (F.REFLEX_RULE_B_TERM2 5) 0, cfg (F.REFLEX_RULE_B_TERM3 5) 0, img ⟨R.REFLEX_ACTIVE_LO, 5, 1⟩ 1], 5, by decide⟩

theorem wit_ReflexBudgetRows_2 : ∃ (s : State) (r : Rule), s.up ∧ s.fd.configured = true ∧ s.fd.cb (F.REFLEX_RULE_C_EN r) = true ∧ nbit s.fd.ruleHeld r = true ∧ s.fd.ruleCond r = true ∧ s.fd.ruleActive r = false :=
  ⟨at_ [up, port .run, Fd fun f => { f with configured := true, ruleHeld := 32, exc := { line := true } }, cfg (F.REFLEX_RULE_C_EN 5) 1, cfg (F.REFLEX_RULE_A_TERM0 5) 5, cfg (F.REFLEX_RULE_A_TERM1 5) 0, cfg (F.REFLEX_RULE_B_TERM2 5) 0, cfg (F.REFLEX_RULE_B_TERM3 5) 0, img ⟨R.REFLEX_ACTIVE_LO, 5, 1⟩ 0], 5, by decide⟩

theorem wit_ReflexBudgetRows_3 : ∃ (s : State) (ctr : Word) (hi : Bool) (w : Word) (k : Fin 32), s.up ∧ s.ld.bar.cmds = [] ∧ s.ld.bar.pages = [] ∧ s.ld.takes ctr (if hi then R.REFLEX_CLR_HI else R.REFLEX_CLR_LO) (w) ∧ wbit w k = true ∧ s.fd.cb (F.REFLEX_RULE_C_LATCH (k + 32 * b2n hi)) = true :=
  ⟨at_ [up, L fun l => { l with bar := { l.bar with cmds := [], pages := [] } }, port .run, owner, open_ (R.pageREFLEX), cfg (F.REFLEX_RULE_C_LATCH 5) 1, img ⟨R.REFLEX_ACTIVE_LO, 5, 1⟩ 1], 5#32, false, 0x20#32, 5, by decide⟩

theorem wit_ReflexBudgetRows_4 : ∃ (s : State) (_b : Budget), s.up :=
  ⟨at_ [up, port .run], { heat := [], volts := [], curr := [100, 200, 300, 400], peak := [100, 200, 300, 400], total := 1000, totalPeak := 1000 }, by decide⟩

theorem wit_ReflexBudgetRows_5 : ∃ (s : State) (n : Nat) (v : Nat), s.up ∧ s.fd.gov.above = [(Limit.package, v)] ∧ s.fd.bound .package < v ∧ s.fd.c F.FSUP_PKG_CFG_ACTION = 1 ∧ s.fd.nextShed .package = some n :=
  ⟨at_ [up, port .run, img (F.TERM_CELLSTAT_FUNC_ACT 3) 2, cfg (F.TERM_DO_CFG_TIE_EN 3) 0, cfg (F.CTRL_EN (R.pageTERM 3)) 1, Fd fun f => { f with paired := false, mode := .run }, cfg F.FSUP_PKG_CFG_ILIM 100, cfg F.FSUP_PKG_CFG_ACTION 1, Fd fun f => { f with gov := { above := [(Limit.package, 5000)] } }, Fd fun f => { f with img := [] }, img (F.TERM_CELLSTAT_FUNC_ACT 3) 2, Fd (Field.modTerm 3 fun t => { t with level := some 1, dout := {} })], 3, 5000, by decide⟩

theorem wit_ReflexBudgetRows_6 : ∃ (s : State) (n : Nat) (l : Limit) (q : List (Nat × Limit)), s.up ∧ s.fd.gov.holds = (n, l) :: q ∧ s.fd.gov.above = [] :=
  ⟨at_ [up, port .run, img (F.TERM_CELLSTAT_FUNC_ACT 3) 2, cfg (F.TERM_DO_CFG_TIE_EN 3) 0, cfg (F.CTRL_EN (R.pageTERM 3)) 1, Fd fun f => { f with paired := false, mode := .run }, Fd fun f => { f with gov := { holds := [(3, .package)] } }], 3, .package, [], by decide⟩

theorem wit_ReflexBudgetRows_7 : ∃ (s : State) (sl : Slice) (temp : Int), s.up ∧ s.fd.calDue sl = false ∧ s.fd.dueNow sl temp = true :=
  ⟨at_ [up, port .run, Fd fun f => { f with cal := {} }, img ⟨R.CAL_DUE, 2, 1⟩ 0], 2, -55, by decide⟩

theorem wit_ReflexBudgetRows_8 : ∃ (s : State) (ctr : Word) (sl : Slice) (pause : Bool), s.up ∧ s.ld.bar.cmds = [] ∧ s.ld.bar.pages = [] ∧ s.ld.takes ctr (R.CAL_RUN) (word (sl.val + 256 * b2n pause)) ∧ s.hostField.calRefused sl pause = false ∧ (s.fd.slice sl).role = .check ∧ (s.fd.g F.SLICE_ROT_STAT_PHASE = 1 ∨ s.fd.g F.SLICE_ROT_STAT_PHASE = 2) :=
  ⟨at_ [up, L fun l => { l with bar := { l.bar with cmds := [], pages := [] } }, port .run, owner, open_ (R.pageCAL), Fd fun f => { f with slices := [], rot := {}, cal := {} }, img F.SLICE_ROT_STAT_PHASE 1], 5#32, 16, false, by decide⟩

theorem wit_ReflexBudgetRows_9 : ∃ (s : State) (k : Nat) (x : CalResult), s.up ∧ k < 32 ∧ s.fd.cal.running = some k ∧ s.fd.diagRuns = true ∧ x.selfTest = 0 ∧ s.fd.rot.failNext.contains k = false ∧ s.fd.cal.failOfs = false ∧ s.fd.cal.failPath = false ∧ (∀ r : Fin 6, ∃ v, s.fd.foundGain r (x.plus.getD r 0) (x.minus.getD r 0) = some v ∧ s.fd.calOff k r (x.zero.getD r 0) v = false) ∧ (s.fd.gb F.CAL_STAT_PATH_SKIPPED = true ∨ s.fd.pathPasses x = true) :=
  ⟨at_ [up, port .run, Fd fun f => { f with cal := { running := some 16 }, slices := [], rot := {}, rolesDown := 0 }, img F.CAL_STAT_FACTORY_OK 0, img F.CAL_STAT_PATH_SKIPPED 1], 16, { selfTest := 0, dev := 3, zero := [1, 2, 3, 4, 5, 6], plus := [3600000, 3600000, 3600000, 3600000, 3600000, 1468007], minus := [-3600000, -3600000, -3600000, -3600000, -3600000, -1468007], pathPlus := [], pathMinus := [], temp := 25 }, by decide, by decide, by decide, by decide, by decide, by decide, by decide, by decide, fun r => by revert r; decide, by decide⟩

theorem wit_ReflexBudgetRows_10 : ∃ (s : State) (k : Nat) (x : CalResult), s.up ∧ s.fd.cal.running = some k ∧ s.fd.diagRuns = true ∧ x.selfTest = 0 ∧ s.fd.rot.failNext.contains k = false ∧ (∃ r : Fin 6, ∀ v, s.fd.foundGain r (x.plus.getD r 0) (x.minus.getD r 0) = some v → s.fd.calOff k r (x.zero.getD r 0) v = true) ∧ (s.fd.slice k).role = .selftest ∧ s.fd.rot.stage = .calCheck :=
  ⟨at_ [up, port .run, Fd fun f => { f with cal := { running := some 16 }, slices := [(16, { f.slice 16 with role := .selftest })], rot := { stage := .calCheck }, rolesDown := 0 }], 16, { selfTest := 0, dev := 3, zero := [], plus := [], minus := [], pathPlus := [], pathMinus := [], temp := 25 }, by decide⟩

theorem wit_SliceRows_1 : ∃ (s : State) (_phase : Fin 16) (x : Trigger) (q : List Trigger), s.up ∧ s.fd.trigs = x :: q :=
  ⟨at_ [up, port .run, Fd fun f => { f with trigs := [{ stamp := 9, groups := 5 }] }, cfg (F.SLICE_GRP_ARM 0) 1, cfg (F.SLICE_GRP_ARM 2) 1], 0, { stamp := 9, groups := 5 }, [], by decide⟩

theorem wit_SliceRows_2 : ∃ s : State, s.up ∧ s.fd.diagRuns = true ∧ s.fd.rot.stage = .dwell ∧ s.fd.g F.SLICE_ROT_STAT_PHASE = 2 ∧ s.fd.dwellFails = false :=
  ⟨at_ [up, port .run, Fd fun f => { f with rot := {}, slices := [], rolesDown := 0 }, img F.SLICE_ROT_STAT_PHASE 2], by decide⟩

theorem wit_SliceRows_3 : ∃ (s : State) (k : Nat), s.up ∧ s.fd.diagRuns = true ∧ s.fd.rot.stage = .dwell ∧ s.fd.g F.SLICE_ROT_STAT_PHASE = 2 ∧ s.fd.dwellFails = true ∧ s.fd.checkSlice = some k :=
  ⟨at_ [up, port .run, Fd fun f => { f with rot := { acc := [(3, { n := 10, a := 1000000, b := 0 })] }, slices := [], ctxs := [], rolesDown := 0 }, img F.SLICE_ROT_STAT_PHASE 2, cfg (F.CTX_PLAUS_LIMIT 3) 1], 16, by decide⟩

theorem wit_SliceRows_4 : ∃ (s : State) (sl : Slice) (_dev : Fin 65536), s.up ∧ s.fd.rot.subject = sl ∧ (s.fd.slice sl).role = .selftest ∧ s.fd.diagRuns = true ∧ s.fd.rot.stage = .checkTest ∧ s.fd.cb (F.CTRL_EN (R.pageSLICE sl)) = true ∧ s.fd.rot.failNext.contains sl.val = false :=
  ⟨at_ [up, port .run, cfg (F.CTRL_EN (R.pageSLICE 16)) 1, Fd fun f => { f with rot := { stage := .checkTest, subject := 16 }, slices := [], rolesDown := 0 }, Fd (Field.modSlice 16 fun r => { r with role := .selftest })], 16, 7, by decide⟩

theorem wit_SliceRows_5 : ∃ (s : State) (sl : Slice) (_dev : Fin 65536), s.up ∧ s.fd.rot.subject = sl ∧ (s.fd.slice sl).role = .selftest ∧ s.fd.diagRuns = true ∧ s.fd.rot.stage = .checkTest ∧ s.fd.cb (F.CTRL_EN (R.pageSLICE sl)) = false ∧ s.fd.rot.failNext.contains sl.val = false :=
  ⟨at_ [up, port .run, cfg (F.CTRL_EN (R.pageSLICE 16)) 0, Fd fun f => { f with rot := { stage := .checkTest, subject := 16 }, slices := [], rolesDown := 0 }, Fd (Field.modSlice 16 fun r => { r with role := .selftest })], 16, 7, by decide⟩

theorem wit_SliceRows_6 : ∃ (s : State) (sl : Slice) (fail : Fin 4) (_dev : Fin 65536), s.up ∧ s.fd.rot.subject = sl ∧ (s.fd.slice sl).role = .selftest ∧ s.fd.diagRuns = true ∧ s.fd.rot.stage = .checkTest ∧ (fail.val = 1 ∨ fail.val = 3) :=
  ⟨at_ [up, port .run, Fd fun f => { f with rot := { stage := .checkTest, subject := 16 }, slices := [], rolesDown := 0 }, Fd (Field.modSlice 16 fun r => { r with role := .selftest })], 16, 1, 7, by decide⟩

theorem wit_SliceRows_7 : ∃ (s : State) (p : Prog) (m : Nat × Nat), s.up ∧ s.fd.seqRuns = true ∧ s.fd.rot.moves.find? (fun m => m.1 == p.val) = some m ∧ s.fd.progSlice p ≠ some m.2 :=
  ⟨at_ [up, port .run, Fd fun f => { f with rot := { moves := [(2, 16)] }, slices := [], rolesDown := 0 }], 2, (2, 16), by decide⟩

theorem wit_SliceRows_8 : ∃ (s : State) (_sl : Slice), s.up :=
  ⟨at_ [up, port .run, Fd (Field.modSlice 2 fun r => { r with strikes := [9, 5] })], 2, by decide⟩

theorem wit_SliceRows_9 : ∃ (s : State) (sl : Slice) (_stuck : Bool), s.up ∧ ((s.fd.slice sl).role = .check ∨ (s.fd.slice sl).role = .selftest) ∧ s.fd.rot.moves = [] ∧ s.fd.rot.power = none :=
  ⟨at_ [up, port .run, Fd fun f => { f with slices := [], rot := {} }], 16, true, by decide⟩

theorem wit_SliceRows_10 : ∃ (s : State) (sl : Slice) (p : Nat), s.up ∧ s.fd.rot.power = some (sl.val, some p) ∧ s.fd.seqRuns = true ∧ s.fd.progSlice p ≠ some sl.val :=
  ⟨at_ [up, port .run, Fd fun f => { f with slices := [], rot := { power := some (17, some 2) }, rolesDown := 0 }], 17, 2, by decide⟩

theorem wit_SampleRows_1 : ∃ (s : State) (sl : Slice) (p : Prog) (c : Ctx) (_i : Int) (_q : Int) (_sat : Bool), s.up ∧ (s.fd.slice sl).role = .active ∧ s.fd.follows sl = some p.val ∧ (s.fd.slice sl).on = true ∧ (s.fd.slice sl).blanked = false ∧ (s.fd.slice sl).restart = false ∧ (s.fd.slice sl).restartRef = false ∧ s.fd.prog p = { s.fd.prog p with conn := some c.val, endDue := false, tmo := false } ∧ s.fd.pstate p ≠ 6 ∧ s.fd.cb (F.CTRL_EN (R.pageCTX c)) = true ∧ s.fd.blanks c = false ∧ s.fd.gateHeld c = false :=
  ⟨at_ [up, port .run, Fd fun f => { f with slices := [], progs := [], ctxs := [], rot := {}, rolesDown := 0 }, cfg (F.SEQ_PROG_VALID 2) 1, cfg (F.CTRL_EN (R.pageCTX 3)) 1, img (F.SEQ_PSTAT_STATE 2) 3, Fd (Field.modSlice 2 fun r => { r with on := true }), Fd (Field.modProg 2 fun r => { r with conn := some 3 })], 2, 2, 3, 500, 0, false, by decide⟩

theorem wit_SampleRows_2 : ∃ (s : State) (sl : Slice) (p : Prog) (o : ChainOut) (q : List ChainOut), s.up ∧ (s.fd.slice sl).role = .active ∧ s.fd.follows sl = some p.val ∧ (s.fd.slice sl).outs = o :: q ∧ s.fd.noRatio o.ctx = false ∧ s.fd.shadowed sl = false ∧ (s.fd.ctx o.ctx).win.count + 1 < 0xFFFFFF ∧ ((s.fd.ctx o.ctx).wcfg.byTime = true ∨ (s.fd.ctx o.ctx).win.count + 1 < (s.fd.ctx o.ctx).wcfg.len) :=
  ⟨at_ [up, port .run, Fd fun f => { f with slices := [], progs := [], ctxs := [], rot := {}, rolesDown := 0 }, cfg (F.SEQ_PROG_VALID 2) 1, cfg (F.CTRL_EN (R.pageCTX 3)) 1, img (F.SEQ_PSTAT_STATE 2) 3, Fd (Field.modSlice 2 fun r => { r with on := true }), Fd (Field.modProg 2 fun r => { r with conn := some 3 }), Fd (Field.modSlice 2 fun r => { r with outs := [{ ctx := 3, x := 77 }] }), Fd (Field.modCtx 3 fun x => { x with win := { opened := 0 }, wcfg := { byTime := true } }), cfg (F.CTX_CFG_REFSEL 3) 0], 2, 2, { ctx := 3, x := 77 }, [], by decide⟩

theorem wit_SampleRows_3 : ∃ (s : State) (sl : Slice) (c : Ctx) (r : Fin 7), s.up ∧ (s.fd.slice sl).pend = some (c.val, r.val) :=
  ⟨at_ [up, port .run, Fd fun f => { f with slices := [], progs := [], ctxs := [], rot := {}, rolesDown := 0 }, cfg (F.SEQ_PROG_VALID 2) 1, cfg (F.CTRL_EN (R.pageCTX 3)) 1, img (F.SEQ_PSTAT_STATE 2) 3, Fd (Field.modSlice 2 fun r => { r with on := true }), Fd (Field.modProg 2 fun r => { r with conn := some 3 }), Fd (Field.modSlice 2 fun r => { r with pend := some (3, 4) }), img (F.CTX_CTXSTAT_RANGE_ACT 3) 2], 2, 3, 4, by decide⟩

theorem wit_SampleRows_4 : ∃ (s : State) (ctr : Word) (w : Word), s.up ∧ s.ld.bar.cmds = [] ∧ s.ld.bar.pages = [] ∧ s.ld.takes ctr (R.SLICE_URGREQ) (w) ∧ s.hostField.urgentOk (wbits w 0 4) (wbits w 8 7) = true :=
  ⟨at_ [up, L fun l => { l with bar := { l.bar with cmds := [], pages := [] } }, port .run, owner, open_ (R.pageSLICE 0), reg (F.CTX_URG_PROGS 3) 4], 5#32, 0x00050302#32, by decide⟩

theorem wit_SampleRows_5 : ∃ (s : State) (early : Bool) (p : Prog) (c : Ctx) (n : Nat) (q : List (Nat × Nat × Nat)), s.up ∧ s.fd.urgReqs = (p.val, c.val, n) :: q ∧ s.fd.progRuns p = true ∧ s.fd.ctxSlice c = none ∧ s.fd.rot.moves = [] ∧ (s.fd.pstate p = 4 ∨ s.fd.pstate p = 1 ∧ early = true) :=
  ⟨at_ [up, port .run, Fd fun f => { f with slices := [], progs := [], ctxs := [], rot := {}, rolesDown := 0 }, cfg (F.SEQ_PROG_VALID 2) 1, cfg (F.CTRL_EN (R.pageCTX 3)) 1, img (F.SEQ_PSTAT_STATE 2) 3, Fd (Field.modSlice 2 fun r => { r with on := true }), Fd (Field.modProg 2 fun r => { r with conn := some 3 }), img (F.SEQ_PSTAT_STATE 2) 4, Fd fun f => { f with urgReqs := [(2, 5, 9)] }, Fd fun f => { f with slices := [(2, { f.slice 2 with on := true })] }], false, 2, 5, 9, [], by decide⟩

theorem wit_SampleRows_6 : ∃ (s : State) (_early : Bool) (p : Prog) (c : Ctx) (n : Nat) (q : List (Nat × Nat × Nat)), s.up ∧ s.fd.urgReqs = (p.val, c.val, n) :: q ∧ s.fd.progRuns p = false :=
  ⟨at_ [up, port .run, Fd fun f => { f with slices := [], urgReqs := [(2, 5, 9)] }], false, 2, 5, 9, [], by decide⟩

theorem wit_SampleRows_7 : ∃ (s : State) (p : Prog) (u : Urgent) (sl : Slice), s.up ∧ (s.fd.prog p).urg = some u ∧ u.waiting = false ∧ (s.fd.prog p).endDue = true ∧ s.fd.pstate p = 5 ∧ s.fd.progRuns p = true ∧ s.fd.progSlice p = some sl.val ∧ s.fd.cb (F.CTRL_EN (R.pageCTX (s.fd.entryCtx (s.fd.g (F.SEQ_PSTAT_ENTRY p))))) = true :=
  ⟨at_ [up, port .run, Fd fun f => { f with slices := [], progs := [], ctxs := [], rot := {}, rolesDown := 0 }, cfg (F.SEQ_PROG_VALID 2) 1, cfg (F.CTRL_EN (R.pageCTX 3)) 1, img (F.SEQ_PSTAT_STATE 2) 3, Fd (Field.modSlice 2 fun r => { r with on := true }), Fd (Field.modProg 2 fun r => { r with conn := some 3 }), img (F.SEQ_PSTAT_STATE 2) 5, img (F.SEQ_PSTAT_ENTRY 2) 5, cfg (F.SEQTAB_W0_CTX 5) 3, Fd (Field.modProg 2 fun r => { r with urg := some { ctx := 5, left := 0 }, endDue := true })], 2, { ctx := 5, left := 0 }, 2, by decide⟩

theorem wit_SequencerWindowRows_1 : ∃ (s : State) (p : Prog), s.up ∧ (s.fd.prog p).urg = none ∧ s.fd.progRuns p = true ∧ s.fd.pstate p ≠ 6 ∧ s.fd.boundaryDue p = true ∧ s.fd.cb (F.SEQTAB_W0_SYNC_WAIT (s.fd.nextEntry p (s.fd.g (F.SEQ_PSTAT_ENTRY p)))) = false ∧ s.fd.cb (F.CTRL_EN (R.pageCTX (s.fd.entryCtx (s.fd.nextEntry p (s.fd.g (F.SEQ_PSTAT_ENTRY p)))))) = true :=
  ⟨at_ [up, port .run, Fd fun f => { f with slices := [], progs := [], ctxs := [], rot := {}, rolesDown := 0 }, cfg (F.SEQ_PROG_VALID 2) 1, cfg (F.CTRL_EN (R.pageCTX 3)) 1, img (F.SEQ_PSTAT_STATE 2) 3, Fd (Field.modSlice 2 fun r => { r with on := true }), Fd (Field.modProg 2 fun r => { r with conn := some 3 }), Fd (Field.modProg 2 fun r => { r with endDue := true }), img (F.SEQ_PSTAT_ENTRY 2) 4, cfg (F.SEQTAB_W0_LOOP_END 4) 0, cfg (F.SEQTAB_W0_SYNC_WAIT 5) 0, cfg (F.SEQTAB_W0_CTX 5) 3], 2, by decide⟩

theorem wit_SequencerWindowRows_2 : ∃ (s : State) (p : Prog) (sl : Slice), s.up ∧ s.fd.pstate p = 1 ∧ s.fd.progSlice p = some sl.val :=
  ⟨at_ [up, port .run, Fd fun f => { f with slices := [], progs := [], ctxs := [], rot := {}, rolesDown := 0 }, cfg (F.SEQ_PROG_VALID 2) 1, cfg (F.CTRL_EN (R.pageCTX 3)) 1, img (F.SEQ_PSTAT_STATE 2) 3, Fd (Field.modSlice 2 fun r => { r with on := true }), Fd (Field.modProg 2 fun r => { r with conn := some 3 }), img (F.SEQ_PSTAT_STATE 2) 1], 2, 2, by decide⟩

theorem wit_SequencerWindowRows_3 : ∃ (s : State) (p : Prog), s.up ∧ s.fd.progRuns p = true ∧ s.fd.c (F.SEQ_PROG_TMO p) ≠ 0 ∧ (s.fd.pstate p = 1 ∨ s.fd.pstate p = 2 ∨ s.fd.pstate p = 3) ∧ (s.fd.prog p).tmo = false :=
  ⟨at_ [up, port .run, Fd fun f => { f with slices := [], progs := [], ctxs := [], rot := {}, rolesDown := 0 }, cfg (F.SEQ_PROG_VALID 2) 1, cfg (F.CTRL_EN (R.pageCTX 3)) 1, img (F.SEQ_PSTAT_STATE 2) 3, Fd (Field.modSlice 2 fun r => { r with on := true }), Fd (Field.modProg 2 fun r => { r with conn := some 3 }), cfg (F.SEQ_PROG_TMO 2) 9], 2, by decide⟩

theorem wit_SequencerWindowRows_4 : ∃ (s : State) (g : Group), s.up ∧ s.fd.groupReady g = true :=
  ⟨at_ [up, port .run, Fd fun f => { f with slices := [], progs := [], ctxs := [], rot := {}, rolesDown := 0 }, cfg (F.SEQ_PROG_VALID 2) 1, cfg (F.CTRL_EN (R.pageCTX 3)) 1, img (F.SEQ_PSTAT_STATE 2) 3, Fd (Field.modSlice 2 fun r => { r with on := true }), Fd (Field.modProg 2 fun r => { r with conn := some 3 }), Fd fun f => { f with cfg := [] }, cfg (F.SEQ_PROG_VALID 2) 1, img (F.SEQ_PSTAT_STATE 2) 4, cfg (F.SEQ_PROG_GROUP 2) 1, cfg (F.SEQTAB_W0_SYNC_WAIT 0) 1, cfg (F.SEQTAB_W0_LOOP_END 0) 1], 1, by decide⟩

theorem wit_SequencerWindowRows_5 : ∃ (s : State) (c : Ctx), s.up ∧ s.fd.configured = true ∧ s.fd.cb (F.CTX_CFG_VALID c) = true ∧ (s.fd.ctx c).timeDue s.fd.time = true ∧ (s.fd.ctx c).win.held = false ∧ s.fd.snapq.length < 512 :=
  ⟨at_ [up, port .run, Fd fun f => { f with slices := [], progs := [], ctxs := [], rot := {}, rolesDown := 0 }, cfg (F.SEQ_PROG_VALID 2) 1, cfg (F.CTRL_EN (R.pageCTX 3)) 1, img (F.SEQ_PSTAT_STATE 2) 3, Fd (Field.modSlice 2 fun r => { r with on := true }), Fd (Field.modProg 2 fun r => { r with conn := some 3 }), Fd fun f => { f with configured := true, snapq := [] }, cfg (F.CTX_CFG_VALID 3) 1, Fd (Field.modCtx 3 fun x => { x with win := { opened := 0, count := 9 }, wcfg := { byTime := true, ticks := 50 } }), Fd fun f => { f with time := 10 ^ 9 }], 3, by decide⟩

theorem wit_SequencerWindowRows_6 : ∃ (s : State) (c : Ctx), s.up ∧ s.fd.configured = true ∧ s.fd.cb (F.CTX_CFG_VALID c) = true ∧ (s.fd.ctx c).timeDue s.fd.time = true ∧ (s.fd.ctx c).win.held = false ∧ 512 ≤ s.fd.snapq.length ∧ s.fd.silent = false :=
  ⟨at_ [up, port .run, Fd fun f => { f with slices := [], progs := [], ctxs := [], rot := {}, rolesDown := 0 }, cfg (F.SEQ_PROG_VALID 2) 1, cfg (F.CTRL_EN (R.pageCTX 3)) 1, img (F.SEQ_PSTAT_STATE 2) 3, Fd (Field.modSlice 2 fun r => { r with on := true }), Fd (Field.modProg 2 fun r => { r with conn := some 3 }), Fd fun f => { f with configured := true, wdArmed := true, snapq := List.replicate 512 { ctx := 3, seq := 7, count := 9, sum := 0, sumsq := 0, minv := 0, mint := 0, maxv := 0, maxt := 0, flags := 0, blanked := 0, unsettled := 0, tclose := 0, opened := 0 } }, cfg (F.CTX_CFG_VALID 3) 1, Fd (Field.modCtx 3 fun x => { x with win := { opened := 0 }, wcfg := { byTime := true, ticks := 50 } }), Fd fun f => { f with time := 10 ^ 9 }], 3, by set_option maxRecDepth 8192 in decide⟩

theorem wit_SequencerWindowRows_7 : ∃ (s : State) (c : Ctx), s.up ∧ (s.fd.ctx c).win.held = true ∧ s.fd.snapq.length < 512 :=
  ⟨at_ [up, port .run, Fd fun f => { f with slices := [], progs := [], ctxs := [], rot := {}, rolesDown := 0 }, cfg (F.SEQ_PROG_VALID 2) 1, cfg (F.CTRL_EN (R.pageCTX 3)) 1, img (F.SEQ_PSTAT_STATE 2) 3, Fd (Field.modSlice 2 fun r => { r with on := true }), Fd (Field.modProg 2 fun r => { r with conn := some 3 }), Fd fun f => { f with snapq := [] }, Fd (Field.modCtx 3 fun x => { x with win := { opened := 0, held := true, count := 9 } })], 3, by decide⟩

theorem wit_StepRunsFront_1 : ∃ (s : State) (c : Instr) (q : List Instr), s.pending = c :: q :=
  ⟨{ pending := [.pllLocked] }, .pllLocked, [], rfl⟩

theorem wit_IdleStepTicks_1 : ∃ s : State, s.pending = [] ∧ 4 ≤ s.ld.boot.main ∧ -steerMax ≤ s.ld.pair.steer ∧ s.ld.mode = .follow :=
  ⟨at_ [L fun l => { l with boot := { l.boot with main := 8 }, mode := .follow }], by decide⟩

theorem wit_IdleStepTicks_2 : ∃ s t : State, (-steerMax ≤ s.ld.pair.steer ∧ s.ld.pair.steer ≤ steerMax) ∧ step s = .next t :=
  ⟨{}, _, by decide, rfl⟩

theorem wit_IdleStepTicks_3 : ∃ s : State, s.pending = [] ∧ s.ld.linkUp = true ∧ s.told = true ∧ s.ld.ownNext = false ∧ (∀ n : Terminal, isDo (s.fd.func n) = false) ∧
    s.fd.partAt = none ∧ s.ld.pair.pleadOff = none ∧ s.ld.pair.handover = none :=
  ⟨at_ [up], by decide⟩

theorem wit_IdleStepTicks_4 : ∃ (s : State) (n : Terminal), s.pending = [] ∧ s.up ∧ isDo (s.fd.func n) = true ∧ s.fd.gb (F.TERM_DO_STAT_ON n) = true ∧
    (∀ m : Terminal, (s.fd.term m).dout.pend = false) ∧ (s.fd.term n).dout.onAt + s.fd.c (F.TERM_DO_PROT_FOLD_T n) * doTicksMs < s.fd.time + 1 ∧ s.fd.partAt = none :=
  ⟨at_ [up, img (F.TERM_CELLSTAT_FUNC_ACT 3) 2, img (F.TERM_DO_STAT_ON 3) 1, img (F.TERM_DO_STAT_OVERLOAD 3) 1, Fd fun f => { f with time := 99999999 }], 3, by decide⟩

theorem wit_IdleStepTicks_5 : ∃ (s : State) (n : Terminal), s.pending = [] ∧ s.up ∧ s.fd.paired = false ∧ s.fd.cb (F.TERM_DO_CFG_TIE_EN n) = false ∧ s.fd.pulses n = true ∧
    (∀ m : Terminal, (s.fd.term m).dout.pend = true ↔ m = n) ∧ ({ s.fd with time := s.fd.time + 1 } : Field).pulseBlocked n = false ∧ s.fd.partAt = none :=
  ⟨at_ [up, img (F.TERM_CELLSTAT_FUNC_ACT 3) 2, img (F.TERM_DO_STAT_ON 3) 1, cfg (F.TERM_DO_DIAG_TP_EN 3) 1, Fd fun f => { f with time := 99999 },
    Fd (Field.modDout 3 fun d => { d with pend := true })], 3, by decide, by decide, by decide, by decide, by decide, by decide,
    by unfold Field.pulseBlocked; rw [turnedOn _ _ (by decide)]; decide⟩

theorem wit_IdleStepTicks_6 : ∃ (s : State) (o : Nat), s.pending = [] ∧ s.up ∧ s.fd.partAt = some o ∧ o ≤ s.fd.time + 1 :=
  ⟨at_ [up, Fd fun f => { f with partAt := some 0 }], 0, by decide⟩

theorem wit_IdleStepTicks_7 : ∃ (s : State) (o : Nat), s.pending = [] ∧ s.ld.pair.pleadOff = some o ∧ s.ld.pair.handover = none :=
  ⟨at_ [up, L fun l => { l with pair := { pleadOff := some 0 } }], 0, by decide⟩

theorem wit_EveryCommandAnswers_2 : ∃ (s : State) (c : Instr) (q : List Instr), s.pending = c :: q :=
  ⟨{ pending := [.dwellEnd, .nonce] }, .dwellEnd, [.nonce], rfl⟩

theorem wit_ToldInvariant_1 : ∃ s t : State, s.told = true ∧ step s = .next t :=
  ⟨{ ({} : State) with pending := [.oscWaitEnd] }, _, by decide, rfl⟩

theorem wit_MramInvariant_1 : ∃ s t : State, s.ld.mram.labelled ∧ step s = .next t :=
  ⟨{ ({} : State) with pending := [.internalResetRelease] }, _, List.Perm.refl _, rfl⟩

theorem wit_FieldRowsLeaveLogicDie_1 : ∃ (i : Instr) (s t : State), i.onFieldDie = true ∧ s.ld.linkUp = false ∧ s.fd.released = true ∧ exec i s = .next t :=
  ⟨.diSample 3 20000, at_ [Fd fun f => { f with released := true }], _, by decide, by decide, by decide, rfl⟩

theorem wit_LogicRowsLeaveFieldDie_1 : ∃ (i : Instr) (s t : State), i.onLogicDie = true ∧ exec i s = .next t :=
  ⟨.wdogWindowClose, {}, _, by decide, rfl⟩

theorem wit_AskingFramesFrame_1 : ∃ (i : Instr) (s t : State), i.onlyAsks = true ∧ s.ld.serves = true ∧ exec i s = .next t :=
  ⟨.cratePush 5 [77#32], at_ [port .run], _, by decide, by decide, rfl⟩

theorem wit_PlainWriteReach_1 : ∃ (a : Addr) (ws : List Word) (s t : State), s.told = true ∧ s.ld.serves = true ∧ exec (.write a ws) s = .next t :=
  ⟨0x2304, [1#32, 2#32], at_ [port .run], _, by decide, by decide, rfl⟩

theorem wit_TerminalRowsFrame_1 : ∃ (i : Instr) (n : Nat) (s t : State), i.atTerminal = some n ∧ s.up ∧ exec i s = .next t :=
  ⟨.thermalTrip 3, 3, at_ [up, img (F.TERM_CELLSTAT_FUNC_ACT 3) 2], _, rfl, by decide, rfl⟩

theorem wit_TerminalRowsFrame_2 : ∃ (i : Instr) (n : Nat) (s t : State), i.atTerminal = some n ∧ s.up ∧ exec i s = .next t ∧
    ((∃ mv, i = .diSample ⟨n % 32, by omega⟩ mv) → s.fd.cb (F.TERM_DI_CFG_BLANK_SRC n) = false) ∧ (∀ k, i ≠ .funcChangeSettle k) :=
  ⟨.diSample 3 20000, 3, at_ [up, img (F.TERM_CELLSTAT_FUNC_ACT 3) 1], _, rfl, by decide, rfl, fun _ => by decide, fun _ => by simp⟩

theorem wit_AnalogueRowsFrame_1 : ∃ (i : Instr) (g : Nat) (s t : State), i.atGroup = some g ∧ s.up ∧ exec i s = .next t :=
  ⟨.aoCompliance 13 true, 1, at_ [up, img (F.TERM_CELLSTAT_FUNC_ACT 13) 5], _, rfl, by decide, rfl⟩

theorem wit_MeasurementRowsFrame_1 : ∃ (i : Instr) (s t : State), i.measures = true ∧ s.ld.linkUp = true ∧ s.fd.released = true ∧ exec i s = .next t :=
  ⟨.calDue 2 5, at_ [up], _, by decide, by decide, by decide, rfl⟩

theorem wit_OutputRowsFrame_1 : ∃ (i : Instr) (s t : State), i.drives = true ∧ s.ld.linkUp = true ∧ s.fd.released = true ∧ exec i s = .next t :=
  ⟨.supplyFlagSet 1 2, at_ [up], _, by decide, by decide, by decide, rfl⟩

theorem wit_ExcitationRowsFrame_1 : ∃ (i : Instr) (s t : State), i.ofExcitation = true ∧ s.ld.linkUp = true ∧ s.fd.released = true ∧ exec i s = .next t :=
  ⟨.extrefBad, at_ [up], _, by decide, by decide, by decide, rfl⟩

theorem wit_ReservedAddresses_1 : ∃ (s : State) (a : Addr), s.told = true ∧ s.ld.serves = true ∧ regRow a = none ∧ pageKind (a.val / 256) ≠ .reserved :=
  ⟨at_ [L fun l => { l with linkUp := false }, port .run], 0x23F0, by decide⟩

theorem wit_ReservedAddresses_2 : ∃ (s : State) (a : Addr) (_w : Word), s.told = true ∧ s.ld.serves = true ∧ regRow a = none ∧ pageKind (a.val / 256) ≠ .reserved :=
  ⟨at_ [L fun l => { l with linkUp := false }, port .run], 0x23F0, 5#32, by decide⟩

theorem wit_ReservedAddresses_3 : ∃ (s : State) (c : Word) (a : Addr) (_w : Word) (_hit : Bool), s.told = true ∧ s.ld.serves = true ∧ s.ld.accepts c = true ∧ regRow a = none ∧ pageKind (a.val / 256) ≠ .reserved :=
  ⟨at_ [L fun l => { l with linkUp := false }, port .run, owner], 5#32, 0x23F0, 5#32, false, by decide⟩

theorem wit_ReservedAddresses_4 : ∃ (s : State) (a : Addr), s.told = true ∧ s.ld.serves = true ∧ pageKind (a.val / 256) = .reserved :=
  ⟨at_ [L fun l => { l with linkUp := false }, port .run], 0x7012, by decide⟩

theorem wit_ReservedAddresses_5 : ∃ (s : State) (a : Addr) (_w : Word), s.told = true ∧ s.ld.serves = true ∧ pageKind (a.val / 256) = .reserved :=
  ⟨at_ [L fun l => { l with linkUp := false }, port .run], 0x7012, 5#32, by decide⟩

theorem wit_ReservedAddresses_6 : ∃ (s : State) (c : Word) (a : Addr) (_w : Word) (_hit : Bool), s.told = true ∧ s.ld.serves = true ∧ s.ld.accepts c = true ∧ pageKind (a.val / 256) = .reserved :=
  ⟨at_ [L fun l => { l with linkUp := false }, port .run, owner], 5#32, 0x7012, 5#32, false, by decide⟩

theorem wit_FramesBeforeModeEntry_1 : ∃ (i : Instr) (s t : State), i.hostFrame = true ∧ s.told = true ∧ s.ld.boot.logic = 0 ∧ exec i s = .next t :=
  ⟨.statusFrame false, {}, _, by decide, by decide, by decide, rfl⟩

theorem wit_FramesBeforeModeEntry_2 : ∃ (i : Instr) (s t : State), i.hostFrame = true ∧ i.wf = true ∧ s.told = true ∧ s.ld.mode = .boot ∧ s.ld.answers = true ∧
    exec i s = .next t ∧ i.servedInBoot = false :=
  ⟨.syncFrame 1 false, at_ [port .boot], _, by decide, by decide, by decide, by decide, by decide, rfl, by decide⟩

theorem wit_FramesBeforeModeEntry_3 : ∃ (s : State) (_extra : Bool), s.told = true ∧ s.ld.mode = .boot ∧ s.ld.answers = true :=
  ⟨at_ [L fun l => { l with linkUp := false }, port .boot], false, by decide⟩

theorem wit_FramesBeforeModeEntry_4 : ∃ (s : State) (_extra : Bool), s.told = true ∧ s.ld.mode = .boot ∧ s.ld.answers = true :=
  ⟨at_ [L fun l => { l with linkUp := false }, port .boot], false, by decide⟩

theorem wit_FramesBeforeModeEntry_5 : ∃ (s : State) (a : Addr) (n : Nat), s.told = true ∧ s.ld.mode = .boot ∧ s.ld.answers = true ∧ 0 < n ∧ a.val + n ≤ 256 :=
  ⟨at_ [L fun l => { l with linkUp := false }, port .boot], 5, 3, by decide⟩

theorem wit_FramesBeforeModeEntry_6 : ∃ l : Logic, l.mode = .boot :=
  ⟨{}, rfl⟩

theorem wit_SnapReadRule_1 : ∃ (s : State) (_c : Ctx) (_extra : Bool), s.told = true ∧ s.ld.serves = true :=
  ⟨at_ [L fun l => { l with linkUp := false }, port .safe], 2, false, by decide⟩

theorem wit_SnapReadRule_2 : ∃ (s : State) (a : Addr) (_extra : Bool), s.told = true ∧ s.ld.serves = true ∧ (∀ c : Ctx, a.val ≠ R.CTX_SEQ c) :=
  ⟨at_ [L fun l => { l with linkUp := false }, port .safe], 0x8041, false, by decide⟩

theorem wit_IminRule_1 : ∃ (s : State) (n : Terminal), s.up ∧ isDo (s.fd.func n) = true ∧ (s.fd.term n).catch_ = .none ∧ s.fd.gb (F.TERM_DO_STAT_ON n) = true ∧ s.fd.c (F.TERM_DO_DIAG_IMIN n) ≠ 0 :=
  ⟨at_ [up, img (F.TERM_CELLSTAT_FUNC_ACT 3) 2, img (F.TERM_DO_STAT_ON 3) 1, Fd (Field.modTerm 3 fun t => { t with catch_ := .none }), cfg (F.TERM_DO_DIAG_IMIN 3) 20, img (F.TERM_DO_STAT_OPEN_WIRE 3) 0], 3, by decide⟩

theorem wit_IminRule_2 : ∃ (s : State) (n : Terminal), s.up ∧ isDo (s.fd.func n) = true ∧ (s.fd.term n).catch_ = .none ∧ s.fd.gb (F.TERM_DO_STAT_ON n) = true ∧ s.fd.c (F.TERM_DO_DIAG_IMIN n) ≠ 0 :=
  ⟨at_ [up, img (F.TERM_CELLSTAT_FUNC_ACT 3) 2, img (F.TERM_DO_STAT_ON 3) 1, Fd (Field.modTerm 3 fun t => { t with catch_ := .none }), cfg (F.TERM_DO_DIAG_IMIN 3) 20, img (F.TERM_DO_STAT_OPEN_WIRE 3) 1], 3, by decide⟩

theorem wit_IminRule_3 : ∃ (s : State) (n : Terminal) (_low : Bool), s.up ∧ isDo (s.fd.func n) = true ∧ (s.fd.term n).catch_ = .none ∧ (s.fd.gb (F.TERM_DO_STAT_ON n) = false ∨ s.fd.c (F.TERM_DO_DIAG_IMIN n) = 0) :=
  ⟨at_ [up, img (F.TERM_CELLSTAT_FUNC_ACT 3) 2, img (F.TERM_DO_STAT_ON 3) 1, Fd (Field.modTerm 3 fun t => { t with catch_ := .none }), cfg (F.TERM_DO_DIAG_IMIN 3) 0], 3, true, by decide⟩

theorem wit_LegacyCfgRule_1 : ∃ (s : State) (more : Nat) (n : Fin 16) (data : Fin 65536), s.told = true ∧ s.ld.legacyUp = true ∧ s.ld.host.short = false ∧ s.ld.mode ≠ .boot ∧ 16 ≤ more ∧ data.val = s.legacyCfg n :=
  ⟨at_ [L fun l => { l with linkUp := false }, port .run, reg F.HOST_LEGACY_EN 1, reg (F.CTRL_EN (R.pageCTX 3)) 1], 16, 3, 0x100, by decide⟩

theorem wit_LegacyCfgRule_2 : ∃ (s : State) (more : Nat) (n : Fin 16) (data : Fin 65536), s.told = true ∧ s.ld.legacyUp = true ∧ s.ld.host.short = false ∧ s.ld.mode ≠ .boot ∧ 16 ≤ more ∧ data.val ≠ s.legacyCfg n :=
  ⟨at_ [L fun l => { l with linkUp := false }, port .run, reg F.HOST_LEGACY_EN 1, reg (F.CTRL_EN (R.pageCTX 3)) 1], 16, 3, 0xFFFF, by decide⟩

theorem wit_AnalogueOutputLimit_1 : ∃ s : State, s.told = true ∧ s.ld.crateState = stValidating ∧ s.ld.crate.mine = false ∧ 16 < (allTerms.filter fun n => isAo ((({ cfg := crateConfig s.ld.regs s.ld.crate.words } : Field)).c (F.TERM_CELL_FUNC n))).length :=
  ⟨at_ [L fun l => { l with linkUp := false }, port .commission, reg F.DEVICE_CRATE_STAT_STATE 3, L fun l => { l with crate := { l.crate with mine := false, words := (List.range 74).map fun i => if i = 10 then 17#32 else if 16 ≤ i ∧ i < 50 then (if i % 2 = 0 then BitVec.ofNat 32 ((0x2010 + 256 * ((i - 16) / 2)) * 65536 + 0x0201) else 5#32) else 0#32 } }], by set_option maxRecDepth 100000 in decide⟩

theorem wit_AnalogueOutputLimit_2 : ∃ f : Field, (allTerms.filter fun n => isAo (f.c (F.TERM_CELL_FUNC n))).length ≤ 16 :=
  ⟨{}, by decide⟩

end Sys2Proof.Tests
end

section
/-! What a WRITE without authentication reaches (R4, R27, R246, R283): the writable OPEN registers of the map, what the write of one
does on either die, and that a frame of such words leaves everything else as it was. -/

namespace Sys2Proof.Machine

open Sys2Proof

/-! The OPEN registers of the map. -/

/-- No register of another class than OPEN stands at this address. -/
def openAt (a : Nat) : Bool := (regRow a).all fun r => r.cls == .open_

/-- The shared area of the SLICE pages has one table on all of them (R122). -/
theorem regRow_regHome (a : Nat) : regRow (regHome a) = regRow a := by
  unfold regHome
  split
  · next h =>
    obtain ⟨hlo, hhi, -, hoff⟩ := h
    have hk : pageKind (a / 256) = .slice (a / 256 - 0x40) := by
      simp only [pageKind]
      rw [if_neg (by omega), if_neg (by omega), if_neg (by omega), if_pos (by omega)]
    have hd : (0x4000 + a % 256) / 256 = 0x40 := by omega
    have hm : (0x4000 + a % 256) % 256 = a % 256 := by omega
    have hk0 : pageKind 0x40 = .slice 0 := rfl
    simp only [regRow, hd, hm, hk, hk0, pageRows]
  · rfl

theorem cls_of_openAt {a : Nat} {r : RegRow} (h : openAt a = true) (hr : regRow a = some r) : r.cls = .open_ := by
  simpa [openAt, hr] using h

theorem openAt_of_row {a : Nat} {r : RegRow} (hr : regRow a = some r) (h : r.cls = .open_) : openAt a = true := by
  simp [openAt, hr, h]

/-- A write at an OPEN address leaves every SESSION and SEALED register, whatever address names it. -/
theorem word_write_openAt (f : RegFile) {a x : Nat} (w : Word) {r : RegRow} (ha : openAt a = true) (hx : regRow x = some r)
    (hc : r.cls ≠ .open_) : (f.write a w).word x = f.word x := by
  refine word_write_other f w fun he => hc (cls_of_openAt ha ?_)
  rw [← regRow_regHome, ← he, regRow_regHome, hx]

/-- CLASS of a page with a head is OPEN (R51). -/
theorem openAt_CLASS {p : Nat} (h : pageKind p ≠ .seqtab) : openAt (R.CLASS p) = true := by
  have hd : (p * 256 + 7) / 256 = p := by omega
  have hm : (p * 256 + 7) % 256 = 7 := by omega
  simp only [openAt, R.CLASS, regRow, hd, hm]
  cases hk : pageKind p
  case seqtab => exact absurd hk h
  all_goals rfl

theorem openAt_FAULT_SRC_STAT : ∀ i < 64, openAt (R.FAULT_SRC_STAT i) = true := by decide

/-- The offsets from 0x10 on at which a page has a writable OPEN register. -/
def openOffs : PageKind → List Nat
  | .device => [0x12, 0x23, 0x40]
  | .clock => [0x15]
  | .host => [0x10, 0x11, 0x12, 0x18]
  | .fault => [0x16, 0x19]
  | .loft => [0x14]
  | .cellar => [0x58]
  | .cal => [0x10]
  | _ => []

/-- A row that is writable and OPEN is one register, at one of these offsets. -/
def RegRow.opensOnly (offs : List Nat) (r : RegRow) : Bool :=
  r.acc == .ro || r.cls != .open_ || (r.first == r.last && offs.contains r.first)

theorem rowsHead_opensOnly : rowsHead.all (RegRow.opensOnly [3, 4, 7]) = true := rfl

theorem rowsSEQTAB_opensOnly : rowsSEQTAB.all (RegRow.opensOnly []) = true := rfl

theorem pageRows_opensOnly (k : PageKind) : (pageRows k).all (RegRow.opensOnly (openOffs k)) = true := by
  cases k <;> rfl

/-- The row that a page's table gives an offset tells where its writable OPEN registers are. -/
theorem off_mem_of_find {rows : List RegRow} {offs : List Nat} {off : Nat} {r : RegRow} (ht : rows.all (RegRow.opensOnly offs) = true)
    (hf : rows.find? (fun r => inRow r.first r.last r.step off) = some r) (hro : r.acc ≠ .ro) (hc : r.cls = .open_) : off ∈ offs := by
  have hr := List.all_eq_true.mp ht r (List.mem_of_find?_eq_some hf)
  have hin := List.find?_some hf
  simp only [RegRow.opensOnly, Bool.or_eq_true, Bool.and_eq_true, beq_iff_eq, hro, hc, bne_self_eq_false, Bool.false_eq_true,
    false_or, List.contains_iff_mem] at hr
  simp only [inRow, Bool.and_eq_true, decide_eq_true_eq] at hin
  rw [show off = r.first by omega]
  exact hr.2

/-- Where the writable OPEN registers are: EVT_RAW, EVT_EN and CLASS of a page's head, and few others. -/
def OpenWritable (a : Nat) : Prop :=
  (a % 256 ∈ [3, 4, 7] ∧ pageKind (a / 256) ≠ .seqtab) ∨ (0x10 ≤ a % 256 ∧ a % 256 ∈ openOffs (pageKind (a / 256)))

theorem openWritable_of_row {a : Nat} {r : RegRow} (hr : regRow a = some r) (hro : r.acc ≠ .ro) (hc : r.cls = .open_) :
    OpenWritable a := by
  unfold regRow at hr
  dsimp only at hr
  split at hr
  · cases hr
  · exact absurd (off_mem_of_find rowsSEQTAB_opensOnly hr hro hc) (by simp)
  · next hs =>
    split at hr
    · exact .inl ⟨off_mem_of_find rowsHead_opensOnly hr hro hc, hs⟩
    · exact .inr ⟨by omega, off_mem_of_find (pageRows_opensOnly _) hr hro hc⟩

/-- Page 0x0E alone is the CAL page (R48). -/
theorem page_of_cal {p : Nat} (h : pageKind p = .cal) : p = 0xE := by
  have hlow : ∀ q < 0x10, pageKind q = .cal → q = 0xE := by decide
  by_cases hp : p < 0x10
  · exact hlow p hp h
  · simp only [pageKind, hp, if_false] at h
    split_ifs at h

/-- Without a session every register but an OPEN one is barred (R4). -/
theorem Logic.barred_closed (l : Logic) (a : Nat) (w : Word) {r : RegRow} (hc : r.cls ≠ .open_) : l.barred none a w r = some rClass := by
  unfold Logic.barred
  cases h : r.cls
  case open_ => exact absurd h hc
  all_goals rfl

/-! What such a word leaves of the logic die. -/

/-- What a plain WRITE leaves of the logic die: the SESSION and SEALED registers, and the state that is none of its blocks' own. -/
structure Logic.PlainKept (a b : Logic) : Prop where
  closed : ∀ x r, regRow x = some r → r.cls ≠ .open_ → a.regs.word x = b.regs.word x
  mode : a.mode = b.mode
  cur : a.sess.cur = b.sess.cur
  old : a.sess.old = b.sess.old
  mram : a.mram = b.mram
  boot : a.boot = b.boot
  cores : a.cores = b.cores
  cellar : a.cellar = b.cellar
  wdog : a.wdog = b.wdog
  time : a.time = b.time
  linkUp : a.linkUp = b.linkUp

namespace Logic.PlainKept

variable {a b : Logic}

theorem refl (l : Logic) : l.PlainKept l := by constructor <;> intros <;> rfl

theorem trans {c : Logic} (h : a.PlainKept b) (k : b.PlainKept c) : a.PlainKept c where
  closed x r hx hr := (h.closed x r hx hr).trans (k.closed x r hx hr)
  mode := h.mode.trans k.mode
  cur := h.cur.trans k.cur
  old := h.old.trans k.old
  mram := h.mram.trans k.mram
  boot := h.boot.trans k.boot
  cores := h.cores.trans k.cores
  cellar := h.cellar.trans k.cellar
  wdog := h.wdog.trans k.wdog
  time := h.time.trans k.time
  linkUp := h.linkUp.trans k.linkUp

/-- A change of anything that is not kept here. -/
theorem other {c : Logic} (h : a.PlainKept b) (regs : c.regs = a.regs := by rfl) (mode : c.mode = a.mode := by rfl)
    (cur : c.sess.cur = a.sess.cur := by rfl) (old : c.sess.old = a.sess.old := by rfl) (mram : c.mram = a.mram := by rfl)
    (boot : c.boot = a.boot := by rfl) (cores : c.cores = a.cores := by rfl) (cellar : c.cellar = a.cellar := by rfl)
    (wdog : c.wdog = a.wdog := by rfl) (time : c.time = a.time := by rfl) (linkUp : c.linkUp = a.linkUp := by rfl) :
    c.PlainKept b :=
  trans ⟨fun _ _ _ _ => by rw [regs], mode, cur, old, mram, boot, cores, cellar, wdog, time, linkUp⟩ h

theorem putWord (h : a.PlainKept b) {x : Nat} (w : Word) (hx : openAt x = true) : (a.putWord x w).PlainKept b :=
  trans ⟨fun _ _ hy hr => word_write_openAt a.regs w hx hy hr, rfl, rfl, rfl, rfl, rfl, rfl, rfl, rfl, rfl, rfl⟩ h

theorem put (h : a.PlainKept b) {x : Fld} (v : Nat) (hx : openAt x.addr = true) : (a.put x v).PlainKept b := h.putWord _ hx

theorem bump (h : a.PlainKept b) {x : Fld} (hx : openAt x.addr = true) : (a.bump x).PlainKept b := h.putWord _ hx

theorem when (h : a.PlainKept b) (c : Bool) {f : Logic → Logic} (hf : ∀ l, l.PlainKept b → (f l).PlainKept b) :
    (a.when c f).PlainKept b := by
  cases c
  · exact h
  · exact hf a h

theorem each (h : a.PlainKept b) (ns : List Nat) {f : Nat → Logic → Logic}
    (hf : ∀ n ∈ ns, ∀ l, l.PlainKept b → (f n l).PlainKept b) : (a.each ns f).PlainKept b := by
  induction ns generalizing a with
  | nil => exact h
  | cons n ns ih => exact ih (hf n List.mem_cons_self a h) fun m hm => hf m (List.mem_cons_of_mem n hm)

theorem fault (h : a.PlainKept b) (src : Nat) (severe : Bool) (param : Option Nat) (inj : Bool) :
    (a.fault src severe param inj).PlainKept b := h.other

theorem record (h : a.PlainKept b) (r : LoftReq) : (a.record r).PlainKept b := h.other

theorem evt (h : a.PlainKept b) {p : Nat} (k p2 : Nat) (inj quiet : Bool) (hp : openAt (R.EVT_RAW p) = true) :
    (a.evt p k p2 inj quiet).PlainKept b := by
  unfold Logic.evt Logic.setEvt
  exact (h.put _ hp).when _ fun _ hl => hl.record _

/-- A frame that ends in error shows on the HOST page and raises a fault event. -/
theorem frameError (h : a.PlainKept b) (op : Nat) (cs : List (Nat × Nat)) : (a.frameError op cs).PlainKept b := by
  have hcount : openAt R.HOST_FERRCOUNT = true := rfl
  have herr : openAt R.HOST_ERR = true := rfl
  have hanom : openAt R.HOST_ANOMALY = true := rfl
  have hraw : openAt (R.EVT_RAW R.pageHOST) = true := rfl
  unfold Logic.frameError
  dsimp only
  split
  · exact h.other
  · refine when (when (when (when (fault (evt ?shown _ _ _ _ hraw) _ _ _ _) _ ?short) _ ?busy) _ ?late) _ ?tag
    case shown =>
      refine put (x := F.HOST_ERR_ADDR) ?_ _ herr
      refine put (x := F.HOST_ERR_OPCODE) ?_ _ herr
      refine put (x := F.HOST_ERR_REASON) ?_ _ herr
      exact bump (x := F.HOST_FERRCOUNT_FERR) h.other hcount
    case short => exact fun l hl => (hl.bump (x := F.HOST_ANOMALY_FRAME_SHORT) hanom).evt _ _ _ _ hraw
    case busy => exact fun l hl => (hl.bump (x := F.HOST_FERRCOUNT_BUSY) hcount).evt _ _ _ _ hraw
    case late => exact fun l hl => hl.evt _ _ _ _ hraw
    case tag => exact fun l hl => hl.evt _ _ _ _ hraw

theorem extraEdges (h : a.PlainKept b) : a.extraEdges.PlainKept b :=
  (h.bump (x := F.HOST_ANOMALY_EXTRA_EDGE) rfl).evt _ _ _ _ rfl

theorem openFrame (h : a.PlainKept b) : a.openFrame.PlainKept b := by
  unfold Logic.openFrame Logic.statusPhase
  exact putWord h.other _ rfl

/-- A refused word is counted in CLASS of its page, or of the SEQ page for a SEQTAB address (R54). -/
theorem countRefusal (h : a.PlainKept b) (x k : Nat) : (a.countRefusal x k).PlainKept b := by
  have hp : openAt (R.CLASS (refusalPage x)) = true := by
    unfold refusalPage
    split
    · rfl
    · next hs => exact openAt_CLASS hs
  unfold Logic.countRefusal
  exact ((h.bump hp).put _ hp).put _ hp

theorem ackOne (h : a.PlainKept b) {i : Nat} (hi : i < 64) : (a.ackOne i).PlainKept b := by
  have ho := openAt_FAULT_SRC_STAT i hi
  unfold Logic.ackOne
  refine when ?_ _ fun l hl => hl.record _
  refine put (x := F.FAULT_SRC_STAT_URG i) ?_ _ ho
  refine put (x := F.FAULT_SRC_STAT_MERGED i) ?_ _ ho
  exact put (x := F.FAULT_SRC_STAT_INHAND i) h _ ho

theorem faultAck (h : a.PlainKept b) (w : Word) : (a.faultAck w).PlainKept b := by
  unfold Logic.faultAck
  split
  · exact h.each _ fun i hi l hl => hl.ackOne (List.mem_range.mp hi)
  · exact h.ackOne (Nat.mod_lt _ (by decide))

theorem errRelease (h : a.PlainKept b) (w : Word) : (a.errRelease w).PlainKept b := by
  unfold Logic.errRelease
  split
  · exact h
  · exact h.other

/-- CRATE_STAT.STATE is read-only and OPEN (R317). -/
theorem crateStat (h : a.PlainKept b) (v : Nat) : (a.put F.DEVICE_CRATE_STAT_STATE v).PlainKept b := h.put v rfl

theorem beginClose (h : a.PlainKept b) (apply joint : Bool) : (a.beginClose apply joint).PlainKept b := by
  unfold Logic.beginClose
  exact (crateStat h.other _).when _ fun _ hl => hl.other

theorem evtCleared (h : a.PlainKept b) {p : Nat} (w again : Word) (hp : openAt (R.EVT_RAW p) = true) :
    (a.evtCleared p w again).PlainKept b := by
  unfold Logic.evtCleared Logic.putRaw
  dsimp only
  split
  · exact (h.putWord _ hp).other
  · exact h.putWord _ hp

theorem classCleared (h : a.PlainKept b) {p : Nat} (w : Word) (hp : openAt (R.CLASS p) = true) : (a.classCleared p w).PlainKept b := by
  unfold Logic.classCleared
  split
  · exact h.put _ hp
  · exact h

theorem hostCleared (h : a.PlainKept b) (w : Word) : (a.hostCleared w).PlainKept b := by
  unfold Logic.hostCleared
  split
  · exact ((h.putWord _ rfl).putWord _ rfl).putWord _ rfl
  · exact h

theorem fmeasGo (h : a.PlainKept b) (w : Word) : (a.fmeasGo w).PlainKept b := by
  unfold Logic.fmeasGo
  split
  · exact h.putWord _ rfl
  · exact h

theorem wipe (h : a.PlainKept b) {x : Nat} (w : Word) (hx : openAt x = true) : (a.wipe x w).PlainKept b := h.putWord _ hx

end Logic.PlainKept

/-! What such a word leaves of the block. -/

/-- What a plain WRITE leaves of the block: of the field die everything but CAL.SEL, its messages too. -/
structure State.PlainKept (t s : State) : Prop where
  ld : t.ld.PlainKept s.ld
  cfg : ∀ x, x ≠ R.CAL_SEL → t.fd.cfg.word x = s.fd.cfg.word x
  fd : t.fd = { s.fd with cfg := t.fd.cfg }

namespace State.PlainKept

variable {t s : State}

theorem refl (s : State) : s.PlainKept s := ⟨.refl s.ld, fun _ _ => rfl, rfl⟩

theorem trans {u : State} (h : u.PlainKept t) (k : t.PlainKept s) : u.PlainKept s where
  ld := h.ld.trans k.ld
  cfg x hx := (h.cfg x hx).trans (k.cfg x hx)
  fd := by rw [h.fd, k.fd]

/-- A change of the logic die alone. -/
theorem setLd {l : Logic} (hl : l.PlainKept s.ld) : ({ s with ld := l } : State).PlainKept s := ⟨hl, fun _ _ => rfl, rfl⟩

theorem onLd {f : Logic → Logic} (h : t.PlainKept s) (hf : (f t.ld).PlainKept t.ld) : (t.onLd f).PlainKept s := trans (setLd hf) h

/-- The running configuration takes CAL.SEL. -/
theorem storeCalSel (s : State) (w : Word) : ({ s with fd := s.fd.store R.CAL_SEL w } : State).PlainKept s where
  ld := .refl s.ld
  cfg x hx := by
    have hhome : regHome R.CAL_SEL = 0xE10 := rfl
    refine word_write_other s.fd.cfg _ fun he => hx ?_
    rw [hhome, regHome] at he
    split at he
    · omega
    · exact he
  fd := rfl

/-- CAL.SEL is written on the logic die, and crosses to the field die or waits for it (R8). -/
theorem toField (s : State) (w : Word) : (s.toField R.CAL_SEL w).PlainKept s := by
  have hopen : openAt R.CAL_SEL = true := rfl
  have hnone : ∀ l : Logic, l.commandedAnew R.CAL_SEL w = l := fun _ => rfl
  have htake : ∀ f : Field, f.take R.CAL_SEL w = f.store R.CAL_SEL w := fun _ => rfl
  unfold State.toField
  simp only [htake]
  set s₁ := s.onLd _
  have h₁ : s₁.PlainKept s := by
    refine onLd (refl s) ?_
    split
    · exact .refl _
    · exact (Logic.PlainKept.refl _).putWord _ hopen
  set s₂ := if s₁.fd.released && s₁.fd.configured then s₁ else s₁.onLd (Logic.commandedAnew R.CAL_SEL w) with hs₂
  have h₂ : s₂.PlainKept s := by
    rw [hs₂]
    split
    · exact h₁
    · exact onLd h₁ (by rw [hnone]; exact .refl _)
  split
  · exact (storeCalSel s₂ w).trans h₂
  · split
    · exact onLd h₂ (Logic.PlainKept.refl _).other
    · exact h₂

theorem crateCtl (s : State) (w : Word) : (s.crateCtl w).2.PlainKept s := by
  unfold State.crateCtl
  dsimp only
  split
  · exact refl s
  · split
    · exact refl s
    · exact setLd (.crateStat (Logic.PlainKept.refl _).other _)
    · split
      · exact refl s
      · exact setLd (.beginClose (.refl _) _ _)

/-- A word of a page's head. -/
theorem actHead (s : State) {a : Nat} (w again : Word) (hopen : openAt a = true) (hoff : a % 256 ∈ [3, 4, 7]) :
    (s.actHead (a / 256) (a % 256) w again).PlainKept s := by
  simp only [List.mem_cons, List.not_mem_nil, or_false] at hoff
  rcases hoff with h | h | h <;> rw [h]
  · have ha : R.EVT_RAW (a / 256) = a := by unfold R.EVT_RAW; omega
    exact onLd (refl s) ((Logic.PlainKept.refl _).evtCleared w again (by rwa [ha]))
  · have ha : R.EVT_EN (a / 256) = a := by unfold R.EVT_EN; omega
    exact onLd (refl s) ((Logic.PlainKept.refl _).putWord w (by rwa [ha]))
  · have ha : R.CLASS (a / 256) = a := by unfold R.CLASS; omega
    exact onLd (refl s) ((Logic.PlainKept.refl _).classCleared w (by rwa [ha]))

/-- A stored word of the logic die's. -/
theorem storeWord (s : State) {a : Nat} (w : Word) (hopen : openAt a = true) (hf : onField a = false) :
    (s.storeWord a w).PlainKept s := by
  unfold State.storeWord
  rw [hf]
  exact onLd (refl s) ((Logic.PlainKept.refl _).putWord _ hopen)

/-- HOST.LEGACY (R267). -/
theorem legacyWord (s s₁ : State) (b : Bool) (h : s₁.PlainKept s) :
    (if s₁.ld.gb F.HOST_LEGACY_EN = b then s₁ else s₁.onLd Logic.dropReply).PlainKept s := by
  split
  · exact h
  · exact onLd h (Logic.PlainKept.refl _).other

/-- A word of a page's own writable OPEN registers. -/
theorem pageWord (s : State) (role : Nat) {a : Nat} (w again : Word) (hopen : openAt a = true) (hlow : 0x10 ≤ a % 256)
    (hoff : a % 256 ∈ openOffs (pageKind (a / 256))) : (s.actWord role a w again).2.PlainKept s := by
  unfold State.actWord
  dsimp only
  rw [if_neg (by omega)]
  have hstore := storeWord s w hopen
  cases hk : pageKind (a / 256) <;>
    simp only [onField, hk, openOffs, List.mem_cons, List.not_mem_nil, or_false, forall_const] at hoff hstore
  case device =>
    rcases hoff with h | h | h <;> simp only [h]
    · exact onLd (refl s) ((Logic.PlainKept.refl _).wipe w hopen)
    · exact onLd (refl s) ((Logic.PlainKept.refl _).wipe w hopen)
    · exact crateCtl s w
  case clock =>
    simp only [hoff]
    exact onLd (onLd (refl s) ((Logic.PlainKept.refl _).putWord _ hopen)) ((Logic.PlainKept.refl _).fmeasGo w)
  case host =>
    rcases hoff with h | h | h | h <;> simp only [h]
    · exact hstore
    · exact hstore
    · exact legacyWord s _ _ hstore
    · exact onLd (refl s) ((Logic.PlainKept.refl _).hostCleared w)
  case fault =>
    rcases hoff with h | h <;> simp only [h]
    · exact onLd (refl s) ((Logic.PlainKept.refl _).faultAck w)
    · exact onLd (refl s) ((Logic.PlainKept.refl _).errRelease w)
  case loft =>
    simp only [hoff]
    exact hstore
  case cellar =>
    simp only [hoff]
    exact hstore
  case cal =>
    have hp : a / 256 = 0xE := page_of_cal hk
    obtain rfl : a = R.CAL_SEL := by unfold R.CAL_SEL; omega
    exact toField s w

theorem actWord (s : State) (role : Nat) {a : Nat} (w again : Word) (hopen : openAt a = true) (ha : OpenWritable a) :
    (s.actWord role a w again).2.PlainKept s := by
  rcases ha with ⟨hoff, hseq⟩ | ⟨hlow, hoff⟩
  · have hlow : a % 256 < 0x10 := by
      simp only [List.mem_cons, List.not_mem_nil, or_false] at hoff
      omega
    have hact : s.actWord role a w again = (s.actHead (a / 256) (a % 256) w again).did := by
      unfold State.actWord
      exact if_pos ⟨hlow, hseq⟩
    rw [hact]
    exact actHead s w again hopen hoff
  · exact pageWord s role w again hopen hlow hoff

/-- What a page's chapter refuses leaves no mark at a writable OPEN register. -/
theorem blocked_snd (s : State) {a : Nat} (w : Word) (ha : OpenWritable a) : (s.blocked a w).2 = s := by
  unfold State.blocked
  dsimp only
  unfold OpenWritable at ha
  cases hk : pageKind (a / 256) <;>
    simp only [hk, openOffs, List.mem_cons, List.not_mem_nil, and_false, or_false] at ha ⊢
  case exc => split <;> [rfl; split] <;> rfl
  case slice => rw [if_neg (by omega)]
  case filt => rw [if_pos (by omega)]
  case cal => rw [if_neg (by omega)]

/-- Neither an update of hardware's on the same tick (R58) nor the page's chapter changes the state before such a word acts. -/
theorem snd_of_judged {s u : State} {a : Nat} {w : Word} {c : Prop} [Decidable c] {o : Option Nat} (ha : OpenWritable a)
    (h : (if c then (some rBlock, s) else s.blocked a w) = (o, u)) : u = s := by
  have hu := congrArg Prod.snd h
  rw [apply_ite Prod.snd, blocked_snd s w ha, ite_self] at hu
  exact hu.symm

/-- A word without a session: it has no register to write, is barred, or is one for a writable OPEN register. -/
theorem judgeWord (s : State) (a : Nat) (w again : Word) (hit : Bool) : (s.judgeWord none a w again hit).2.PlainKept s := by
  by_cases hidle : ∀ r, regRow a = some r → r.acc = .ro
  · rw [State.judgeWord_idle none a w again hit s hidle]
    exact refl s
  push Not at hidle
  obtain ⟨r, hr, hro⟩ := hidle
  by_cases hc : r.cls = .open_
  · have ha := openWritable_of_row hr hro hc
    unfold State.judgeWord
    simp only [hr, hro, if_false]
    split
    · exact refl s
    · split
      · next heq =>
        rw [snd_of_judged ha heq]
        exact refl s
      · next heq =>
        rw [snd_of_judged ha heq]
        exact actWord s _ w again (openAt_of_row hr hc) ha
  · rw [State.judgeWord_barred none a w again hit s r _ hr hro (s.ld.barred_closed a w hc)]
    exact refl s

theorem commitWord (s : State) (a : Nat) (w again : Word) (hit : Bool) : (s.commitWord none a w again hit).2.PlainKept s := by
  by_cases hp : pageKind (a / 256) = .reserved
  · rw [State.commitWord_reserved none a w again hit s hp]
    exact refl s
  · have h := judgeWord s a w again hit
    unfold State.commitWord
    rw [if_neg hp]
    generalize s.judgeWord none a w again hit = j at h ⊢
    obtain ⟨_ | k | _, u⟩ := j
    · exact h
    · exact onLd h ((Logic.PlainKept.refl _).countRefusal _ _)
    · exact h

theorem commitWords (s : State) (a : Nat) (ws : List Word) : (s.commitWords none a ws).2.PlainKept s := by
  induction ws generalizing a s with
  | nil => exact refl s
  | cons w ws ih =>
    unfold State.commitWords
    split
    · exact refl s
    · exact (ih _ _).trans (commitWord s _ w _ _)

/-- A frame keeps what its action keeps. -/
theorem frame (s : State) (op addr : Nat) (extra : Bool) (act : State → List (Nat × Nat) × State) (device : Bool)
    (hact : ∀ u, (act u).2.PlainKept u) : (s.frame op addr extra act device).PlainKept s := by
  have hopen : (s.onLd Logic.openFrame).PlainKept s := onLd (refl s) (Logic.PlainKept.refl _).openFrame
  have herr : ∀ (l : Logic) cs, ((l.frameError op cs).when extra Logic.extraEdges).PlainKept l := fun l cs =>
    ((Logic.PlainKept.refl l).frameError op cs).when _ fun _ hl => hl.extraEdges
  cases hup : s.ld.portUp
  case false =>
    rw [State.frame_down op addr extra act s device hup]
    exact refl s
  cases hshort : (s.onLd Logic.openFrame).ld.host.short
  case true =>
    rw [State.frame_marked op addr extra act s device hup hshort]
    exact onLd hopen ((Logic.PlainKept.refl _).other.frameError _ _)
  cases hstop : (s.onLd Logic.openFrame).ld.stops op device with
  | cons r rs =>
    have hboot : (s.onLd Logic.openFrame).ld.boot.logic ≠ 0 := by
      rw [hopen.ld.boot]
      simp only [Logic.portUp, Bool.and_eq_true, decide_eq_true_eq] at hup
      omega
    rw [State.frame_stopped op addr extra act s device r rs hup hshort hstop hboot]
    exact onLd hopen (herr _ _)
  | nil =>
    have hu := (hact (s.onLd Logic.openFrame)).trans hopen
    by_cases hboot : (act (s.onLd Logic.openFrame)).2.ld.boot.logic = 0
    · rw [State.frame_reset op addr extra act s _ device _ hup hshort hstop rfl hboot]
      exact hu
    · rw [State.frame_served op addr extra act s _ device _ hup hshort hstop rfl hboot]
      exact onLd hu (herr _ _)

theorem writeFrame (s : State) (a : Nat) (ws : List Word) : (s.writeFrame a ws).PlainKept s :=
  frame s _ _ _ _ _ fun u => commitWords u a ws

end State.PlainKept

/-- Messages that wait for a frame of their own change nothing of the logic die by themselves (R373, R378). -/
theorem takeMsgs_waits (time : Nat) {ms : List FMsg} (h : ms.all waits = true) (l : Logic) :
    ms.foldl (fun l m => takeMsg time m l) l = l := by
  induction ms generalizing l with
  | nil => rfl
  | cons m ms ih =>
    simp only [List.all_cons, Bool.and_eq_true] at h
    have hm : takeMsg time m l = l := by
      cases m with
      | fault | record => rfl
      | _ => exact absurd h.1 Bool.false_ne_true
    rw [List.foldl_cons, hm, ih h.2]

/-- What has been told is not told again. -/
theorem drain_ld_told (s : State) (h : s.told = true) : (drain s).ld = s.ld := by
  cases hl : s.ld.linkUp
  · exact drain_ld_down s hl
  · rw [drain_ld s hl]
    exact takeMsgs_waits _ (by simpa [State.told, hl] using h) _

theorem State.PlainKept.told {t s : State} (h : t.PlainKept s) (hs : s.told = true) : t.told = true := by
  have hout : t.fd.out = s.fd.out := by rw [h.fd]
  rw [State.told, h.ld.linkUp, hout]
  exact hs

/-- Settles O49: a word without a session meets a writable OPEN register, of which there are few, or changes no register but the
counts of the refusal; what the frame itself shows stands in OPEN registers too. -/
theorem plainWriteReach : Obligations.PlainWriteReach := by
  unfold Obligations.PlainWriteReach
  intro a ws s t htold hexec
  obtain rfl : { drain (s.writeFrame a ws) with pending := s.pending } = t := Host.Outcome.next.inj hexec
  have h := State.PlainKept.writeFrame s a ws
  dsimp only
  rw [drain_ld_told _ (h.told htold)]
  refine ⟨h.ld.closed, fun x hx => ?_, ?_, h.ld.mode, h.ld.cur, h.ld.old, h.ld.mram, h.ld.boot, h.ld.cores, h.ld.cellar,
    h.ld.wdog, h.ld.time⟩
  · rw [drain_fd_cfg]
    exact h.cfg x hx
  · rw [drain_fd, h.fd]

end Sys2Proof.Machine
end

section
/-! The commands of the logic die leave the field die and the state of the link (R7, R8, R22); with the link up, what the field die has
to tell crosses at once (R9, R373, R378). `-implicitDefEqProofs` has simp record its steps, which the kernel would otherwise evaluate. -/

namespace Sys2Proof.Machine

open Sys2Proof

/-! What the logic die does alone leaves the link up or down. -/

namespace Logic

@[simp] theorem when_linkUp (c : Bool) (h : Logic → Logic) (l : Logic) (hh : ∀ l, (h l).linkUp = l.linkUp) :
    (l.when c h).linkUp = l.linkUp := by
  cases c
  · rfl
  · exact hh l

@[simp] theorem each_linkUp (ns : List Nat) (h : Nat → Logic → Logic) (l : Logic) (hh : ∀ n l, (h n l).linkUp = l.linkUp) :
    (l.each ns h).linkUp = l.linkUp := by
  induction ns generalizing l with
  | nil => rfl
  | cons n ns ih => exact (ih (h n l)).trans (hh n l)

@[simp] theorem foldl_linkUp {α : Type} (xs : List α) (h : Logic → α → Logic) (l : Logic) (hh : ∀ l x, (h l x).linkUp = l.linkUp) :
    (xs.foldl h l).linkUp = l.linkUp := by
  induction xs generalizing l with
  | nil => rfl
  | cons x xs ih => exact (ih (h l x)).trans (hh l x)

@[simp] theorem putb_linkUp (l : Logic) (x : Fld) (b : Bool) : (l.putb x b).linkUp = l.linkUp := rfl
@[simp] theorem evt_linkUp (l : Logic) (p b q : Nat) (i u : Bool) : (l.evt p b q i u).linkUp = l.linkUp := setEvt_linkUp ..
@[simp] theorem gen_linkUp (l : Logic) (p : Nat) : (l.gen p).linkUp = l.linkUp := (gen_same l p).linkUp
@[simp] theorem modBar_linkUp (l : Logic) (h : BarrierRun → BarrierRun) : (l.modBar h).linkUp = l.linkUp := rfl
@[simp] theorem modBoot_linkUp (l : Logic) (h : BootRun → BootRun) : (l.modBoot h).linkUp = l.linkUp := rfl
@[simp] theorem modPair_linkUp (l : Logic) (h : PairRun → PairRun) : (l.modPair h).linkUp = l.linkUp := rfl
@[simp] theorem loftKeep_linkUp (l : Logic) (h : LoftStore → LoftStore) : (l.loftKeep h).linkUp = l.linkUp := rfl
@[simp] theorem larderGen_linkUp (l : Logic) : l.larderGen.linkUp = l.linkUp := l.larderGen_same.linkUp
@[simp] theorem sendPartner_linkUp (l : Logic) (x : PFrame) : (l.sendPartner x).linkUp = l.linkUp := (sendPartner_same x l).linkUp
@[simp] theorem retire_linkUp (l : Logic) (k i c : Nat) (w j : Bool) : (l.retire k i c w j).linkUp = l.linkUp := (retire_same ..).linkUp
@[simp] theorem spareIn_linkUp (l : Logic) (k i : Nat) : (l.spareIn k i).linkUp = l.linkUp := (spareIn_same ..).linkUp
@[simp] theorem defer_linkUp (l : Logic) (k i : Nat) (on : Bool) : (l.defer k i on).linkUp = l.linkUp := (defer_same ..).linkUp
@[simp] theorem add_linkUp (l : Logic) (x : Fld) (n : Nat) : (l.add x n).linkUp = l.linkUp := put_linkUp ..
@[simp] theorem releasePlead_linkUp (l : Logic) (b : Bool) : (l.releasePlead b).linkUp = l.linkUp := by simp -implicitDefEqProofs [releasePlead]

/-! The Loft (chapter 22). -/

@[simp] theorem showQueue_linkUp (l : Logic) : l.showQueue.linkUp = l.linkUp := by simp -implicitDefEqProofs [showQueue]

@[simp] theorem loftDrop_linkUp (l : Logic) : l.loftDrop.linkUp = l.linkUp := by simp -implicitDefEqProofs [loftDrop]

@[simp] theorem loftTake_linkUp (l : Logic) (r : LoftReq) : (l.loftTake r).linkUp = l.linkUp := by
  unfold loftTake; split <;> simp -implicitDefEqProofs

@[simp] theorem loftWrite_linkUp (l : Logic) (r : LoftReq) : (l.loftWrite r).linkUp = l.linkUp := by
  unfold loftWrite; dsimp only; split <;> simp -implicitDefEqProofs

theorem loftRecord_linkUp (l : Logic) : l.loftRecord.linkUp = l.linkUp := by
  unfold loftRecord; split <;> simp -implicitDefEqProofs

theorem loftWritten_linkUp (l : Logic) : l.loftWritten.linkUp = l.linkUp := by
  unfold loftWritten
  split
  · rfl
  · split <;> simp -implicitDefEqProofs

@[simp] theorem countRefusal_linkUp (l : Logic) (a r : Nat) : (l.countRefusal a r).linkUp = l.linkUp := by simp -implicitDefEqProofs [countRefusal]

@[simp] theorem frameError_linkUp (l : Logic) (op : Nat) (cs : List (Nat × Nat)) : (l.frameError op cs).linkUp = l.linkUp := by
  cases cs <;> simp -implicitDefEqProofs [frameError]

theorem loftChecked_linkUp (l : Logic) : l.loftChecked.linkUp = l.linkUp := by
  unfold loftChecked
  split
  · rfl
  · split
    · rfl
    · dsimp only
      split <;> split <;> simp -implicitDefEqProofs

theorem loftCleared_linkUp (l : Logic) : l.loftCleared.linkUp = l.linkUp := by
  unfold loftCleared; split <;> simp -implicitDefEqProofs

/-! The watchdog, ERROUT and the frequency counter (chapters 20 and 21). -/

@[simp] theorem wdogOpen_linkUp (l : Logic) (b : Bool) : (l.wdogOpen b).linkUp = l.linkUp := by simp -implicitDefEqProofs [wdogOpen]
@[simp] theorem wdogStop_linkUp (l : Logic) : l.wdogStop.linkUp = l.linkUp := by simp -implicitDefEqProofs [wdogStop]

@[simp] theorem wdogFinding_linkUp (l : Logic) (b k t : Nat) (i : Bool) : (l.wdogFinding b k t i).linkUp = l.linkUp := by
  simp -implicitDefEqProofs [wdogFinding]

theorem wdogFirst_linkUp (l : Logic) : l.wdogFirst.linkUp = l.linkUp := by
  unfold wdogFirst; split <;> simp -implicitDefEqProofs

theorem wdogClose_linkUp (l : Logic) : l.wdogClose.linkUp = l.linkUp := by
  simp -implicitDefEqProofs [wdogClose, apply_ite Logic.linkUp]

@[simp] theorem wdogCarry_linkUp (l : Logic) : l.wdogCarry.linkUp = l.linkUp := by
  unfold wdogCarry; split <;> rfl

theorem wdogClockStop_linkUp (l : Logic) (i : Bool) : (l.wdogClockStop i).linkUp = l.linkUp := by
  unfold wdogClockStop; split <;> simp -implicitDefEqProofs

theorem minwEnds_linkUp (l : Logic) : l.minwEnds.linkUp = l.linkUp := by
  unfold minwEnds; split <;> rfl

theorem fmeasDone_linkUp (l : Logic) (n : Nat) : (l.fmeasDone n).linkUp = l.linkUp := by
  unfold fmeasDone; split <;> simp -implicitDefEqProofs

/-! The Cellar, the sessions and the crates (chapters 17 and 18). -/

@[simp] theorem disapprove_linkUp (l : Logic) : l.disapprove.linkUp = l.linkUp := by
  unfold disapprove; split <;> simp -implicitDefEqProofs

@[simp] theorem endSessions_linkUp (l : Logic) : l.endSessions.linkUp = l.linkUp := by simp -implicitDefEqProofs [endSessions]

@[simp] theorem katFails_linkUp (l : Logic) : l.katFails.linkUp = l.linkUp := by simp -implicitDefEqProofs [katFails]

@[simp] theorem rngFails_linkUp (l : Logic) : l.rngFails.linkUp = l.linkUp := by simp -implicitDefEqProofs [rngFails]

theorem secRestarted_linkUp (l : Logic) (b : Bool) : (l.secRestarted b).linkUp = l.linkUp := by
  unfold secRestarted; split <;> simp -implicitDefEqProofs

theorem selftestDone_linkUp (l : Logic) (b : Bool) : (l.selftestDone b).linkUp = l.linkUp := by
  unfold selftestDone; split <;> simp -implicitDefEqProofs

theorem entropyFails_linkUp (l : Logic) (e : EntropyTest) : (l.entropyFails e).linkUp = l.linkUp := by
  cases e <;> simp -implicitDefEqProofs [entropyFails]

theorem enrolCloses_linkUp (l : Logic) : l.enrolCloses.linkUp = l.linkUp := by simp -implicitDefEqProofs [enrolCloses]

@[simp] theorem answer_linkUp (l : Logic) (k : Nat) (ws : List Word) : (l.answer k ws).linkUp = l.linkUp := rfl
@[simp] theorem drawWords_linkUp (l : Logic) (n : Nat) : (l.drawWords n).2.linkUp = l.linkUp := rfl

@[simp] theorem showSession_linkUp (l : Logic) : l.showSession.linkUp = l.linkUp := by
  unfold showSession; split <;> simp -implicitDefEqProofs

theorem closed_linkUp (l : Logic) : l.closed.linkUp = l.linkUp := by
  unfold closed
  split
  · rfl
  · split <;> simp -implicitDefEqProofs

theorem nonceReady_linkUp (l : Logic) : l.nonceReady.linkUp = l.linkUp := by
  unfold nonceReady; split <;> simp -implicitDefEqProofs

@[simp] theorem writeSlot_linkUp (l : Logic) (p : Nat) (ws : List Word) : (l.writeSlot p ws).linkUp = l.linkUp := keep_linkUp ..

@[simp] theorem lockNext_linkUp (l : Logic) : l.lockNext.linkUp = l.linkUp := by
  unfold lockNext
  split
  · split <;> simp -implicitDefEqProofs
  · rfl

@[simp] theorem beginApply_linkUp (l : Logic) (ps : List Nat) (c : RegFile) : (l.beginApply ps c).linkUp = l.linkUp :=
  (lockNext_linkUp _).trans (modBar_linkUp ..)

@[simp] theorem emptyStage_linkUp (l : Logic) : l.emptyStage.linkUp = l.linkUp := rfl

@[simp] theorem endClose_linkUp (l : Logic) (r p : Nat) : (l.endClose r p).linkUp = l.linkUp := by simp -implicitDefEqProofs [endClose]

theorem slotWritten_linkUp (l : Logic) : l.slotWritten.linkUp = l.linkUp := by
  unfold slotWritten
  split
  · rfl
  · dsimp only
    split <;> simp -implicitDefEqProofs

/-! Engines, memory rows and lanes (chapters 01 and 23). -/

theorem checkpoint_linkUp (l : Logic) (r : Nat) : (l.checkpoint r).linkUp = l.linkUp := by
  unfold checkpoint; split <;> simp -implicitDefEqProofs [writeCheckpoint]

theorem rowMoved_linkUp (l : Logic) (m : Memory) (row : Nat) : (l.rowMoved m row).linkUp = l.linkUp := by
  unfold rowMoved
  split
  · dsimp only
    split <;> simp -implicitDefEqProofs
  · rfl

theorem rowExpires_linkUp (l : Logic) (m : Memory) (row : Nat) : (l.rowExpires m row).linkUp = l.linkUp := by simp -implicitDefEqProofs [rowExpires]

@[simp] theorem laneRetires_linkUp (l : Logic) (k c : Nat) (i : Bool) : (l.laneRetires k c i).linkUp = l.linkUp := by
  unfold laneRetires; split <;> simp -implicitDefEqProofs

theorem laneFails_linkUp (l : Logic) (k n : Nat) (i : Bool) : (l.laneFails k n i).linkUp = l.linkUp := by
  unfold laneFails; dsimp only; split <;> simp -implicitDefEqProofs

@[simp] theorem laneLeaves_linkUp (l : Logic) (k : Nat) : (l.laneLeaves k).linkUp = l.linkUp := by
  unfold laneLeaves; dsimp only; split <;> simp -implicitDefEqProofs

theorem laneSwitch_linkUp (l : Logic) : l.laneSwitch.linkUp = l.linkUp := by
  unfold laneSwitch; split <;> simp -implicitDefEqProofs

/-! The partner port (chapter 19). -/

@[simp] theorem pairFails_linkUp (l : Logic) (b : Nat) : (l.pairFails b).linkUp = l.linkUp := by simp -implicitDefEqProofs [pairFails]

@[simp] theorem stepExpires_linkUp (l : Logic) : l.stepExpires.linkUp = l.linkUp := by
  simp -implicitDefEqProofs [stepExpires, apply_ite Logic.linkUp]

@[simp] theorem queueFrame_linkUp (l : Logic) (k : PFrame) : (l.queueFrame k).linkUp = l.linkUp := by
  unfold queueFrame; split <;> rfl

@[simp] theorem sayHello_linkUp (l : Logic) : l.sayHello.linkUp = l.linkUp := by simp -implicitDefEqProofs [sayHello]

theorem retryPairing_linkUp (l : Logic) : l.retryPairing.linkUp = l.linkUp := by
  unfold retryPairing
  split
  · dsimp only
    split <;> simp -implicitDefEqProofs
  · rfl

theorem pleadTimeout_linkUp (l : Logic) : l.pleadTimeout.linkUp = l.linkUp := by simp -implicitDefEqProofs [pleadTimeout]

theorem confirmSilence_linkUp (l : Logic) : l.confirmSilence.linkUp = l.linkUp := (abortCause_same 1 l).linkUp

/-! Start-up (chapter 02). -/

@[simp] theorem showClocks_linkUp (l : Logic) : l.showClocks.linkUp = l.linkUp := by simp -implicitDefEqProofs [showClocks]

theorem bootStep_linkUp (n : Nat) (h : Logic → Logic) (l : Logic) (hh : ∀ l, (h l).linkUp = l.linkUp) :
    (l.bootStep n h).linkUp = l.linkUp := by
  unfold bootStep
  split
  · exact (modBoot_linkUp ..).trans (hh l)
  · rfl

theorem resetReleased_linkUp (l : Logic) : l.resetReleased.linkUp = l.linkUp :=
  bootStep_linkUp _ _ l fun _ => by dsimp only; split <;> simp -implicitDefEqProofs

theorem strapsLatched_linkUp (l : Logic) (b : Nat) (p : Pads) : (l.strapsLatched b p).linkUp = l.linkUp :=
  bootStep_linkUp _ _ l fun _ => by simp -implicitDefEqProofs

theorem waitOver_linkUp (l : Logic) : l.waitOver.linkUp = l.linkUp := bootStep_linkUp _ _ l fun _ => rfl

theorem pllLocked_linkUp (l : Logic) : l.pllLocked.linkUp = l.linkUp := bootStep_linkUp _ _ l fun _ => by simp -implicitDefEqProofs

theorem visoUp_linkUp (l : Logic) : l.visoUp.linkUp = l.linkUp := by
  unfold visoUp; split <;> rfl

theorem retrain_linkUp (l : Logic) : l.retrain.linkUp = l.linkUp := by
  unfold retrain; split <;> rfl

theorem katsDone_linkUp (l : Logic) (t e i : Bool) : (l.katsDone t e i).linkUp = l.linkUp := by
  unfold katsDone; split <;> simp -implicitDefEqProofs

@[simp] theorem epochWritten_linkUp (l : Logic) : l.epochWritten.linkUp = l.linkUp := (modBoot_linkUp ..).trans (keep_linkUp ..)
@[simp] theorem looseRecord_linkUp (l : Logic) (p : Nat) : (l.looseRecord p).linkUp = l.linkUp := record_linkUp ..

@[simp] theorem showVerdict_linkUp (l : Logic) (v : Verdict) : (l.showVerdict v).linkUp = l.linkUp := by
  simp -implicitDefEqProofs [showVerdict]

@[simp] theorem judgeSlot_linkUp (l : Logic) (p : Nat) : (l.judgeSlot p).linkUp = l.linkUp := by simp -implicitDefEqProofs [judgeSlot]

@[simp] theorem noteCrate_linkUp (l : Logic) : l.noteCrate.linkUp = l.linkUp := by
  unfold noteCrate; dsimp only; split <;> simp -implicitDefEqProofs

theorem crateVerified_linkUp (l : Logic) (e : Bool) : (l.crateVerified e).linkUp = l.linkUp := by
  unfold crateVerified
  split
  · rfl
  · simp -implicitDefEqProofs [apply_ite Logic.linkUp]

theorem epochRetry_linkUp (l : Logic) (ok : Bool) : (l.epochRetry ok).linkUp = l.linkUp := by
  unfold epochRetry; split <;> simp -implicitDefEqProofs

theorem pairReady_linkUp (l : Logic) :
    (l.when (l.gb cellarRngOk) fun l => { l with sess := { l.sess with pairReady := true } }).linkUp = l.linkUp := by simp -implicitDefEqProofs

end Logic

/-! The three ways a command acts, by where it happens. -/

/-- A command of the field die is one by its way of acting. -/
theorem exec_onFieldDie {i : Instr} (h : i.onFieldDie = true) (s : State) : ∃ g, exec i s = runField g s := by
  revert h
  cases i <;> intro h <;> first | exact absurd h Bool.false_ne_true | exact ⟨_, rfl⟩

/-- A command of the logic die alone leaves the link up or down. -/
theorem exec_onLogicDie {i : Instr} (h : i.onLogicDie = true) (s : State) :
    ∃ g, exec i s = runLogic g s ∧ (g s.ld).linkUp = s.ld.linkUp := by
  cases i with
  | laneErrorLimit => exact ⟨_, rfl, Logic.laneFails_linkUp ..⟩
  | laneSwitch => exact ⟨_, rfl, Logic.laneSwitch_linkUp _⟩
  | checkpoint => exact ⟨_, rfl, Logic.checkpoint_linkUp ..⟩
  | secRestartDone => exact ⟨_, rfl, Logic.secRestarted_linkUp ..⟩
  | rowMoveDone => exact ⟨_, rfl, Logic.rowMoved_linkUp ..⟩
  | rowCountExpiry => exact ⟨_, rfl, Logic.rowExpires_linkUp ..⟩
  | internalResetRelease => exact ⟨_, rfl, Logic.resetReleased_linkUp _⟩
  | strapsLatched => exact ⟨_, rfl, Logic.strapsLatched_linkUp ..⟩
  | oscWaitEnd => exact ⟨_, rfl, Logic.waitOver_linkUp _⟩
  | pllLocked => exact ⟨_, rfl, Logic.pllLocked_linkUp _⟩
  | visoInRegulation => exact ⟨_, rfl, Logic.visoUp_linkUp _⟩
  | barrierRetrain => exact ⟨_, rfl, Logic.retrain_linkUp _⟩
  | knownAnswerTestsDone => exact ⟨_, rfl, Logic.katsDone_linkUp ..⟩
  | crateVerified => exact ⟨_, rfl, Logic.crateVerified_linkUp ..⟩
  | holdoffExpiry => exact ⟨_, rfl, rfl⟩
  | cellarSelftestDone => exact ⟨_, rfl, Logic.selftestDone_linkUp ..⟩
  | entropyHealthTest => exact ⟨_, rfl, Logic.entropyFails_linkUp ..⟩
  | enrolWindowExpiry => exact ⟨_, rfl, Logic.enrolCloses_linkUp _⟩
  | closed => exact ⟨_, rfl, Logic.closed_linkUp _⟩
  | nonce => exact ⟨_, rfl, Logic.nonceReady_linkUp _⟩
  | ephemeralPairReady => exact ⟨_, rfl, Logic.pairReady_linkUp _⟩
  | crateSlotWritten => exact ⟨_, rfl, Logic.slotWritten_linkUp _⟩
  | epochWriteRetry => exact ⟨_, rfl, Logic.epochRetry_linkUp ..⟩
  | pairingRetry => exact ⟨_, rfl, Logic.retryPairing_linkUp _⟩
  | pleadRefreshTimeout => exact ⟨_, rfl, Logic.pleadTimeout_linkUp _⟩
  | confirmationSilence => exact ⟨_, rfl, Logic.confirmSilence_linkUp _⟩
  | fmeasDone => exact ⟨_, rfl, Logic.fmeasDone_linkUp ..⟩
  | wdogFirstWindow => exact ⟨_, rfl, Logic.wdogFirst_linkUp _⟩
  | wdogWindowClose => exact ⟨_, rfl, Logic.wdogClose_linkUp _⟩
  | wdogClockStop => exact ⟨_, rfl, Logic.wdogClockStop_linkUp ..⟩
  | erroutMinwExpiry => exact ⟨_, rfl, Logic.minwEnds_linkUp _⟩
  | loftRecord => exact ⟨_, rfl, Logic.loftRecord_linkUp _⟩
  | loftRecordWritten => exact ⟨_, rfl, Logic.loftWritten_linkUp _⟩
  | loftVerifyDone => exact ⟨_, rfl, Logic.loftChecked_linkUp _⟩
  | loftClearDone => exact ⟨_, rfl, Logic.loftCleared_linkUp _⟩
  | _ => exact absurd h Bool.false_ne_true

/-- Every command acts on the logic die alone, on the field die, or on both with the field die's messages crossing. -/
theorem exec_ways (i : Instr) (s : State) :
    i.onLogicDie = true ∨ (∃ g, exec i s = runField g s) ∨ ∃ g, exec i s = runBoth g s := by
  unfold exec
  cases i <;> first | exact .inl rfl | exact .inr (.inl ⟨_, rfl⟩) | exact .inr (.inr ⟨_, rfl⟩)

/-- Settles O47: each of these commands changes the logic die by a change that leaves the link. -/
theorem logicRowsLeaveFieldDie : Obligations.LogicRowsLeaveFieldDie := by
  unfold Obligations.LogicRowsLeaveFieldDie
  intro i s t hi hexec
  obtain ⟨g, hg, hlink⟩ := exec_onLogicDie hi s
  obtain rfl : { s with ld := g s.ld } = t := Host.Outcome.next.inj (hg ▸ hexec)
  exact ⟨rfl, hlink⟩

/-- Settles O46: a command of the field die reaches of the logic die what messages reach, or shows the field die's own reset. -/
theorem fieldRowsLeaveLogicDie : Obligations.FieldRowsLeaveLogicDie := by
  unfold Obligations.FieldRowsLeaveLogicDie
  intro i s t hi hexec
  obtain ⟨g, hg⟩ := exec_onFieldDie hi s
  rw [hg] at hexec
  obtain ⟨u, hu, -, hup, hdown⟩ := runField_next g s
  obtain rfl : u = t := Host.Outcome.next.inj (hu.symm.trans hexec)
  refine ⟨fun hr => ?_, hup, hdown⟩
  exact Host.Outcome.next.inj (hu.symm.trans (runField_held g s hr))

/-! What has been told stays told (R9, R373, R378). -/

/-- Once the messages have crossed, nothing is left to tell without a frame of its own. -/
theorem told_drain (s : State) : (drain s).told = true := by
  cases hl : s.ld.linkUp
  · simp [State.told, hl]
  · simp [State.told, hl, drain_out s hl]

/-- With the link down nothing is told, so nothing has to be. -/
theorem State.told_of_down {s : State} (h : s.ld.linkUp = false) : s.told = true := by simp [State.told, h]

/-- Whatever leaves the link and the messages leaves nothing to tell. -/
theorem State.told_of_same {s t : State} (hs : s.told = true) (hl : t.ld.linkUp = s.ld.linkUp) (ho : t.fd.out = s.fd.out) :
    t.told = true := by
  rw [State.told, hl, ho]
  exact hs

@[simp] theorem State.resetField_linkUp (s : State) : s.resetField.ld.linkUp = s.ld.linkUp := by
  simp -implicitDefEqProofs [State.resetField, Logic.cause, apply_ite Logic.linkUp]

/-- The reset that the field die gives itself happens with the link down only, and leaves it down (R378). -/
theorem told_localReset (n : Nat) {s : State} (h : s.told = true) : (localReset n s).told = true := by
  cases hl : s.ld.linkUp
  · apply State.told_of_down
    rcases localReset_ld n s with e | ⟨i, e⟩
    · rw [e, hl]
    · rw [e, Logic.put_linkUp]
      simpa using hl
  · rwa [localReset_up n s hl]

@[simp] theorem Logic.lpoMoves_linkUp (l : Logic) : l.lpoMoves.linkUp = l.linkUp := by
  simp -implicitDefEqProofs [Logic.lpoMoves]

@[simp] theorem Logic.gateDisturbed_linkUp (l : Logic) : l.gateDisturbed.linkUp = l.linkUp := by
  simp -implicitDefEqProofs [Logic.gateDisturbed]

@[simp] theorem Field.undegraded_out (f : Field) : f.undegraded.out = f.out := by
  unfold Field.undegraded; split <;> rfl

/-- A return to the PLL tells nothing and leaves the link (R356). -/
theorem State.autoReturn_same (s : State) : s.autoReturn.ld.linkUp = s.ld.linkUp ∧ s.autoReturn.fd.out = s.fd.out := by
  unfold State.autoReturn State.undegrade
  split
  · dsimp only
    split <;> simp -implicitDefEqProofs
  · exact ⟨rfl, rfl⟩

@[simp] theorem Logic.applyPage_linkUp (l : Logic) (p : Nat) (c : RegFile) : (l.applyPage p c).linkUp = l.linkUp := by
  unfold Logic.applyPage
  dsimp only
  rw [Logic.when_linkUp, Logic.when_linkUp, Logic.foldl_linkUp]
  · exact fun l k => l.putWord_linkUp k _
  · exact fun _ => rfl
  · exact fun l => l.gen_linkUp p

/-- A page of the logic die tells nothing and leaves the link (R59). -/
theorem State.onePage_same {s : State} (h : s.ld.ownNext = true) :
    s.onePage.ld.linkUp = s.ld.linkUp ∧ s.onePage.fd.out = s.fd.out := by
  unfold Logic.ownNext at h
  unfold State.onePage
  split
  · exact ⟨rfl, rfl⟩
  next p ps hp =>
    rw [hp] at h
    dsimp only at h ⊢
    rw [if_pos h, if_pos h]
    generalize hl : Logic.lockNext _ = l
    have hlink : l.linkUp = s.ld.linkUp := by
      rw [← hl, Logic.lockNext_linkUp]
      simp -implicitDefEqProofs [apply_ite Logic.linkUp]
    split
    · exact ⟨(State.autoReturn_same _).1.trans hlink, (State.autoReturn_same _).2⟩
    · exact ⟨hlink, rfl⟩

@[simp] theorem Logic.tick_linkUp (l : Logic) : l.tick.linkUp = l.linkUp := by
  unfold Logic.tick
  split
  · rfl
  · simp -implicitDefEqProofs

@[simp] theorem Logic.pleadTick_linkUp (l : Logic) : l.pleadTick.linkUp = l.linkUp := by
  unfold Logic.pleadTick
  dsimp only
  split <;> split <;> simp -implicitDefEqProofs [Logic.assertPlead]

/-- A tick tells what it brings (R21, R189, R341). -/
theorem State.told_tick {s : State} (h : s.told = true) : s.tick.told = true := by
  have hpage : (if s.ld.ownNext then s.onePage else s).told = true := by
    split
    next ho => exact told_of_same h (onePage_same ho).1 (onePage_same ho).2
    · exact h
  unfold State.tick
  generalize (if s.ld.ownNext = true then s.onePage else s) = u at hpage ⊢
  dsimp only
  split
  · exact told_drain _
  · exact told_of_same hpage ((Logic.pleadTick_linkUp _).trans (Logic.tick_linkUp _)) rfl

/-- Settles O44: the messages of a command cross with it, and a change of the logic die alone adds none. -/
theorem toldInvariant : Obligations.ToldInvariant := by
  unfold Obligations.ToldInvariant
  intro s t hs hstep
  unfold step at hstep
  split at hstep
  · obtain rfl := Host.Outcome.next.inj hstep
    exact State.told_tick hs
  next i rest hq =>
    have hs' : { s with pending := rest }.told = true := hs
    generalize { s with pending := rest } = u at hs' hstep
    rcases exec_ways i u with hi | ⟨g, hg⟩ | ⟨g, hg⟩
    · obtain ⟨hfd, hlink⟩ := logicRowsLeaveFieldDie i u t hi hstep
      exact State.told_of_same hs' hlink (by rw [hfd])
    · obtain rfl := Host.Outcome.next.inj (hg ▸ hstep)
      split
      · exact told_localReset _ (told_drain _)
      · exact hs'
    · obtain rfl := Host.Outcome.next.inj (hg ▸ hstep)
      exact told_drain (g u)

end Sys2Proof.Machine
end

section
/-! Two statements that fail: the count of a row that expires advances LARDER.GEN, and a page of a crate that takes effect at a tick can
give TRIM another value at that tick. -/

namespace Sys2Proof.Machine

open Sys2Proof

/-- A row of MRAM has a count that is about to expire. -/
def rowCounted : State := { ld := { mem := { counts := [((.mram, 0), [0])] } } }

/-- The row's expiry advances LARDER.GEN beside clearing the count (R57, R390). -/
theorem rowExpires_rowCounted_gen : ((rowCounted.ld.rowExpires .mram 0).g ⟨R.GEN R.pageLARDER, 0, 32⟩) = 1 := by decide

/-- Refutes O10: in its last clause the logic die changes by more than the counts, as ROW_COUNT_EXPIRY advances LARDER.GEN. -/
theorem not_engineRows : ¬ Obligations.EngineRows := by
  unfold Obligations.EngineRows
  rintro ⟨-, -, -, -, -, -, -, -, -, hexpiry⟩
  obtain ⟨t, ht, hld, -⟩ := hexpiry rowCounted .mram 0
  obtain rfl : { rowCounted with ld := rowCounted.ld.rowExpires .mram 0 } = t := Host.Outcome.next.inj ht
  have hgen := congrArg (Logic.g ⟨R.GEN R.pageLARDER, 0, 32⟩) hld
  exact absurd (rowExpires_rowCounted_gen.symm.trans hgen) (by decide)

/-- A crate of one record, which writes 7 to DEVICE.TRIM: 16 words of its head with the count of records, the record, 24 words of its tail
(R306, R307). -/
def trimCrate : List Word :=
  List.replicate 10 0#32 ++ [1#32] ++ List.replicate 5 0#32 ++ [0x00220201#32, 7#32] ++ List.replicate 24 0#32

/-- The PLL has locked, and the DEVICE page of that crate takes effect next. -/
def trimWaits : State := { ld := { boot := { main := 4 }, bar := { pages := [R.pageDEVICE] }, crate := { words := trimCrate } } }

/-- The tick at which the page takes effect counts with the new TRIM. -/
theorem trimWaits_tick : trimWaits.tick.ld.time = 1 ∧ trimWaits.tick.ld.frac = 7 := ⟨rfl, rfl⟩

/-- Refutes O41: in its first clause DEVICE.TIME counts with the TRIM before the step, but a page of a crate that takes effect at the tick
counts first. -/
theorem not_idleStepTicks : ¬ Obligations.IdleStepTicks := by
  unfold Obligations.IdleStepTicks
  rintro ⟨hidle, -⟩
  obtain ⟨t, ht, -, -, -, -, -, -, -, -, -, -, htime⟩ := hidle trimWaits rfl
  obtain rfl : trimWaits.tick = t := Host.Outcome.next.inj ht
  have hcount := htime (by decide) (by decide)
  rw [trimWaits_tick.1, trimWaits_tick.2] at hcount
  exact absurd hcount (by decide)

end Sys2Proof.Machine
end

section
/-! What measuring leaves of the output side of the field die (R22, R27, R74, R181, R218): one lemma for each function that measuring
uses. `-implicitDefEqProofs` has simp record its steps, which the kernel would otherwise evaluate. -/

namespace Sys2Proof.Machine

open Sys2Proof

/-- What Field.SameOutputs compares. -/
structure OutputSide where
  mode : Mode
  paired : Bool
  lead : Bool
  wdArmed : Bool
  terms : Tab TermRun
  steps : Tab StepRun
  groups : Tab GroupRun
  ruleHeld : Nat
  gov : Governor
  joined : Bool
  ramp : Option Nat
  dropped : Nat
  noticed : List Announced
  notices : List Notice
  tn : Nat
  tnMax : Nat
  tnMoves : Bool
  partnerShunts : Tab Int
  bothShunts : Bool
  partAt : Option Nat
  resets : List Nat
  shutting : List Nat

namespace Field

/-- The output side of the field die. -/
def outputs : Field → OutputSide
  | { mode, paired, lead, wdArmed, terms, steps, groups, ruleHeld, gov, joined, ramp, dropped, noticed, notices, tn, tnMax, tnMoves,
      partnerShunts, bothShunts, partAt, resets, shutting, .. } =>
    { mode, paired, lead, wdArmed, terms, steps, groups, ruleHeld, gov, joined, ramp, dropped, noticed, notices, tn, tnMax, tnMoves,
      partnerShunts, bothShunts, partAt, resets, shutting }

/-- The output side read field by field is the output side. -/
@[simp] theorem outputs_fields (f : Field) :
    ({ mode := f.mode, paired := f.paired, lead := f.lead, wdArmed := f.wdArmed, terms := f.terms, steps := f.steps,
       groups := f.groups, ruleHeld := f.ruleHeld, gov := f.gov, joined := f.joined, ramp := f.ramp, dropped := f.dropped,
       noticed := f.noticed, notices := f.notices, tn := f.tn, tnMax := f.tnMax, tnMoves := f.tnMoves,
       partnerShunts := f.partnerShunts, bothShunts := f.bothShunts, partAt := f.partAt, resets := f.resets,
       shutting := f.shutting } : OutputSide) = f.outputs := (rfl)

/-- A change of any other field leaves it. -/
@[simp] theorem outputs_mk (f : Field)
    (released configured handover report tdacFault onFrc frcBad recBad degraded urgOver rolesBack diagGone seqsLost : Bool)
    (quiet rolesDown time draws trigSeen veto commits : Nat) (cfg img : RegFile) (out : List FMsg) (ctxs : Tab CtxRun)
    (slices : Tab SliceRun) (progs : Tab ProgRun) (trigs : List Trigger) (syncout returnAt crateHash : Option Nat)
    (urgReqs : List (Nat × Nat × Nat)) (deferred : List (Nat × Nat)) (rot : Rotation) (cal : CalRun) (snapq : List Snap)
    (exc : ExcRun) (crateHead : List Word) :
    ({ released, configured, mode := f.mode, paired := f.paired, lead := f.lead, wdArmed := f.wdArmed, handover, quiet, report,
       rolesDown, cfg, img, out, time, draws, ctxs, slices, progs, trigs, trigSeen, syncout, tdacFault, onFrc, frcBad, recBad,
       degraded, returnAt, urgReqs, urgOver, rolesBack, diagGone, veto, deferred, rot, cal, snapq, exc, terms := f.terms,
       steps := f.steps, groups := f.groups, ruleHeld := f.ruleHeld, gov := f.gov, commits, resets := f.resets,
       shutting := f.shutting, seqsLost, joined := f.joined, ramp := f.ramp, dropped := f.dropped, noticed := f.noticed,
       notices := f.notices, tn := f.tn, tnMax := f.tnMax, tnMoves := f.tnMoves, partnerShunts := f.partnerShunts,
       bothShunts := f.bothShunts, partAt := f.partAt, crateHash, crateHead } : Field).outputs = f.outputs := (rfl)

theorem sameOutputs_of_outputs {f g : Field} (h : f.outputs = g.outputs) : f.SameOutputs g where
  mode := congrArg OutputSide.mode h
  paired := congrArg OutputSide.paired h
  lead := congrArg OutputSide.lead h
  wdArmed := congrArg OutputSide.wdArmed h
  terms := congrArg OutputSide.terms h
  steps := congrArg OutputSide.steps h
  groups := congrArg OutputSide.groups h
  ruleHeld := congrArg OutputSide.ruleHeld h
  gov := congrArg OutputSide.gov h
  joined := congrArg OutputSide.joined h
  ramp := congrArg OutputSide.ramp h
  dropped := congrArg OutputSide.dropped h
  noticed := congrArg OutputSide.noticed h
  notices := congrArg OutputSide.notices h
  tn := congrArg OutputSide.tn h
  tnMax := congrArg OutputSide.tnMax h
  tnMoves := congrArg OutputSide.tnMoves h
  partnerShunts := congrArg OutputSide.partnerShunts h
  bothShunts := congrArg OutputSide.bothShunts h
  partAt := congrArg OutputSide.partAt h
  resets := congrArg OutputSide.resets h
  shutting := congrArg OutputSide.shutting h

/-! The named updates that leave it. -/

@[simp] theorem outputs_put (f : Field) (x : Fld) (v : Nat) : (f.put x v).outputs = f.outputs := (rfl)
@[simp] theorem outputs_putb (f : Field) (x : Fld) (b : Bool) : (f.putb x b).outputs = f.outputs := (rfl)
@[simp] theorem outputs_bump (f : Field) (x : Fld) : (f.bump x).outputs = f.outputs := (rfl)
@[simp] theorem outputs_own (f : Field) (x : Fld) (v : Nat) : (f.own x v).outputs = f.outputs := (rfl)
@[simp] theorem outputs_tell (f : Field) (m : FMsg) : (f.tell m).outputs = f.outputs := (rfl)
@[simp] theorem outputs_evt (f : Field) (p b q : Nat) (i u : Bool) : (f.evt p b q i u).outputs = f.outputs := (rfl)
@[simp] theorem outputs_fault (f : Field) (k : Nat) (b : Bool) (p : Option Nat) (i : Bool) : (f.fault k b p i).outputs = f.outputs := (rfl)
@[simp] theorem outputs_draw (f : Field) : f.draw.2.outputs = f.outputs := (rfl)
@[simp] theorem outputs_modCtx (f : Field) (n : Nat) (h : CtxRun → CtxRun) : (f.modCtx n h).outputs = f.outputs := (rfl)
@[simp] theorem outputs_modSlice (f : Field) (n : Nat) (h : SliceRun → SliceRun) : (f.modSlice n h).outputs = f.outputs := (rfl)
@[simp] theorem outputs_modProg (f : Field) (n : Nat) (h : ProgRun → ProgRun) : (f.modProg n h).outputs = f.outputs := (rfl)
@[simp] theorem outputs_gen (f : Field) (p : Nat) : (f.gen p).outputs = f.outputs := (rfl)
@[simp] theorem outputs_ownTell (f : Field) (x : Fld) (v : Nat) : (f.ownTell x v).outputs = f.outputs := (rfl)

@[simp] theorem outputs_when (c : Bool) (h : Field → Field) (f : Field) (hh : ∀ f, (h f).outputs = f.outputs) :
    (f.when c h).outputs = f.outputs := by
  cases c
  · rfl
  · exact hh f

@[simp] theorem outputs_each (ns : List Nat) (h : Nat → Field → Field) (f : Field) (hh : ∀ n f, (h n f).outputs = f.outputs) :
    (f.each ns h).outputs = f.outputs := by
  induction ns generalizing f with
  | nil => rfl
  | cons n ns ih => exact (ih (h n f)).trans (hh n f)

@[simp] theorem outputs_foldl {α : Type} (xs : List α) (h : Field → α → Field) (f : Field)
    (hh : ∀ f x, (h f x).outputs = f.outputs) : (xs.foldl h f).outputs = f.outputs := by
  induction xs generalizing f with
  | nil => rfl
  | cons x xs ih => exact (ih (h f x)).trans (hh f x)

/-! Contexts and slices (chapters 04 and 06). -/

@[simp] theorem outputs_flag (f : Field) (c bit : Nat) : (f.flag c bit).outputs = f.outputs := by simp -implicitDefEqProofs [flag]

@[simp] theorem outputs_disturb (f : Field) (s : Nat) :
    (f.disturb s).outputs = f.outputs := by simp -implicitDefEqProofs [disturb]

@[simp] theorem outputs_disturbCtx (f : Field) (c : Nat) :
    (f.disturbCtx c).outputs = f.outputs := by simp -implicitDefEqProofs [disturbCtx]

@[simp] theorem outputs_unsettleRef (f : Field) (s : Nat) :
    (f.unsettleRef s).outputs = f.outputs := by simp -implicitDefEqProofs [unsettleRef]

@[simp] theorem outputs_excite (f : Field) (src : Nat) :
    (f.excite src).outputs = f.outputs := by simp -implicitDefEqProofs [excite]

@[simp] theorem outputs_resettle (f : Field) (c : Nat) :
    (f.resettle c).outputs = f.outputs := by simp -implicitDefEqProofs [resettle]

@[simp] theorem outputs_setRole (f : Field) (s : Nat) (h : SliceRun → SliceRun) :
    (f.setRole s h).outputs = f.outputs := by simp -implicitDefEqProofs [setRole]

/-! Excitation, references and blanking (chapter 05). -/

@[simp] theorem outputs_modSine (f : Field) (k : Nat) (h : SineRun → SineRun) :
    (f.modSine k h).outputs = f.outputs := by simp -implicitDefEqProofs [modSine]

@[simp] theorem outputs_sineStart (f : Field) (k : Nat) :
    (f.sineStart k).outputs = f.outputs := by simp -implicitDefEqProofs [sineStart]

@[simp] theorem outputs_sineCross (f : Field) (k : Nat) : (f.sineCross k).outputs = f.outputs := by
  unfold sineCross; split <;> simp -implicitDefEqProofs

@[simp] theorem outputs_sineRampDone (f : Field) (k : Nat) : (f.sineRampDone k).outputs = f.outputs := by
  simp -implicitDefEqProofs [sineRampDone, apply_ite outputs]

@[simp] theorem outputs_sineMonitor (f : Field) (k mon : Nat) : (f.sineMonitor k mon).outputs = f.outputs := by
  simp -implicitDefEqProofs [sineMonitor, apply_ite outputs]

@[simp] theorem outputs_complEnter (f : Field) (src : Nat) (inj : Bool) : (f.complEnter src inj).outputs = f.outputs := by
  unfold complEnter; split <;> simp -implicitDefEqProofs

@[simp] theorem outputs_idcEffect (f : Field) (k : Nat) : (f.idcEffect k).outputs = f.outputs := by
  unfold idcEffect; dsimp only; split <;> simp -implicitDefEqProofs

@[simp] theorem outputs_vbias (f : Field) (cur : Nat) : (f.vbias cur).outputs = f.outputs := by
  unfold vbias; dsimp only; split <;> simp -implicitDefEqProofs

@[simp] theorem outputs_extBad (f : Field) (inj : Bool) : (f.extBad inj).outputs = f.outputs := by
  unfold extBad; split <;> simp -implicitDefEqProofs

@[simp] theorem outputs_refSettle (f : Field) (s : Nat) : (f.refSettle s).outputs = f.outputs := by
  simp -implicitDefEqProofs [refSettle, apply_ite outputs]

@[simp] theorem outputs_retireRef (f : Field) (b cause : Nat) (inj : Bool) :
    (f.retireRef b cause inj).outputs = f.outputs := by simp -implicitDefEqProofs [retireRef]

@[simp] theorem outputs_refMismatch (f : Field) (bad diff : Nat) : (f.refMismatch bad diff).outputs = f.outputs := by
  simp -implicitDefEqProofs [refMismatch, apply_ite outputs]

@[simp] theorem outputs_blankAssert (f : Field) : f.blankAssert.outputs = f.outputs := by
  unfold blankAssert; dsimp only; split <;> simp -implicitDefEqProofs

@[simp] theorem outputs_blankGuardEnd (f : Field) : f.blankGuardEnd.outputs = f.outputs := by
  simp -implicitDefEqProofs [blankGuardEnd, apply_ite outputs]

@[simp] theorem outputs_blankRelease (f : Field) : f.blankRelease.outputs = f.outputs := by
  unfold blankRelease; dsimp only; split <;> simp -implicitDefEqProofs

@[simp] theorem outputs_blankLine (f : Field) : f.blankLine.outputs = f.outputs := by
  simp -implicitDefEqProofs [blankLine, apply_ite outputs]

@[simp] theorem outputs_blankMaxlen (f : Field) : f.blankMaxlen.outputs = f.outputs := by
  unfold blankMaxlen; split <;> simp -implicitDefEqProofs

/-! Windows and switches (chapter 09). -/

@[simp] theorem outputs_openWindow (f : Field) (c : Nat) :
    (f.openWindow c).outputs = f.outputs := by simp -implicitDefEqProofs [openWindow]

@[simp] theorem outputs_taint (f : Field) (c : Nat) : (f.taint c).outputs = f.outputs := by
  unfold taint; split <;> simp -implicitDefEqProofs

@[simp] theorem outputs_restartSlice (f : Field) (s c : Nat) (again : Bool) : (f.restartSlice s c again).outputs = f.outputs := by
  unfold restartSlice; dsimp only; split <;> simp -implicitDefEqProofs

@[simp] theorem outputs_filterChange (f : Field) (c : Nat) (atBoundary : Bool) :
    (f.filterChange c atBoundary).outputs = f.outputs := by
  simp -implicitDefEqProofs [filterChange, apply_ite outputs]

@[simp] theorem outputs_deliver (f : Field) (c : Nat) (timed atBoundary drop : Bool) :
    (f.deliver c timed atBoundary drop).outputs = f.outputs := by simp -implicitDefEqProofs [deliver]

@[simp] theorem outputs_closeWindow (f : Field) (c : Nat) (timed atBoundary : Bool) :
    (f.closeWindow c timed atBoundary).outputs = f.outputs := by
  simp -implicitDefEqProofs [closeWindow, apply_ite outputs]

@[simp] theorem outputs_closeHeld (f : Field) (c : Nat) : (f.closeHeld c).outputs = f.outputs := by
  unfold closeHeld; split <;> simp -implicitDefEqProofs

@[simp] theorem outputs_showTh (f : Field) (c : Nat) : (f.showTh c).outputs = f.outputs := by simp -implicitDefEqProofs [showTh]

@[simp] theorem outputs_thChanged (f : Field) (c : Nat) (b : Bool) (on inj : Bool) :
    (f.thChanged c b on inj).outputs = f.outputs := by simp -implicitDefEqProofs [thChanged]

@[simp] theorem outputs_judgeA (f : Field) (c : Nat) (x : Int) : (f.judgeA c x).outputs = f.outputs := by
  unfold judgeA; split <;> simp -implicitDefEqProofs

@[simp] theorem outputs_judgeB (f : Field) (c : Nat) (x : Int) : (f.judgeB c x).outputs = f.outputs := by
  unfold judgeB; split <;> simp -implicitDefEqProofs

@[simp] theorem outputs_flagOut (f : Field) (o : ChainOut) :
    (f.flagOut o).outputs = f.outputs := by simp -implicitDefEqProofs [flagOut]

@[simp] theorem outputs_accumulate (f : Field) (c : Nat) (x : Int) (stamp : Nat) :
    (f.accumulate c x stamp).outputs = f.outputs := by
  unfold accumulate; dsimp only; split <;> simp -implicitDefEqProofs

/-! The sequencer (chapter 08). -/

@[simp] theorem outputs_drawHeld (f : Field) (k : Nat) :
    (f.drawHeld k).2.outputs = f.outputs := by simp -implicitDefEqProofs [drawHeld]

@[simp] theorem outputs_loadChain (f : Field) (c : Nat) : (f.loadChain c).outputs = f.outputs := by
  simp -implicitDefEqProofs [loadChain, apply_ite outputs]
  repeat' split
  all_goals simp -implicitDefEqProofs

@[simp] theorem outputs_unfreeze (f : Field) (s : Nat) (ch : Chain) :
    (f.unfreeze s ch).outputs = f.outputs := by simp -implicitDefEqProofs [unfreeze]

@[simp] theorem outputs_switchTo (f : Field) (p c : Nat) (force : Bool) : (f.switchTo p c force).outputs = f.outputs := by
  simp -implicitDefEqProofs [switchTo, apply_ite outputs]
  repeat' split
  all_goals simp -implicitDefEqProofs

@[simp] theorem outputs_showState (f : Field) (p : Nat) : (f.showState p).outputs = f.outputs := by
  simp -implicitDefEqProofs [showState, apply_ite outputs]
  split <;> simp -implicitDefEqProofs

@[simp] theorem outputs_startEntry (f : Field) (p e : Nat) (force : Bool) :
    (f.startEntry p e force).outputs = f.outputs := by simp -implicitDefEqProofs [startEntry]

@[simp] theorem outputs_reach (f : Field) (p e : Nat) : (f.reach p e).outputs = f.outputs := by
  unfold reach; split <;> simp -implicitDefEqProofs

@[simp] theorem outputs_loopDone (f : Field) (p : Nat) :
    (f.loopDone p).outputs = f.outputs := by simp -implicitDefEqProofs [loopDone]

@[simp] theorem outputs_goOn (f : Field) (p e : Nat) : (f.goOn p e).outputs = f.outputs := by
  unfold goOn; split <;> simp -implicitDefEqProofs

@[simp] theorem outputs_advanceEntry (f : Field) (p : Nat) :
    (f.advanceEntry p).outputs = f.outputs := by simp -implicitDefEqProofs [advanceEntry]

@[simp] theorem outputs_startRun (f : Field) (p : Nat) : (f.startRun p).outputs = f.outputs := by
  unfold startRun; split <;> simp -implicitDefEqProofs

@[simp] theorem outputs_restartChains (f : Field) (p : Nat) : (f.restartChains p).outputs = f.outputs := by
  unfold restartChains; split <;> simp -implicitDefEqProofs

@[simp] theorem outputs_waitAgain (f : Field) (p : Nat) :
    (f.waitAgain p).outputs = f.outputs := by simp -implicitDefEqProofs [waitAgain]

@[simp] theorem outputs_startHere (f : Field) (p : Nat) (force : Bool) : (f.startHere p force).outputs = f.outputs := by
  unfold startHere; dsimp only; split <;> simp -implicitDefEqProofs

@[simp] theorem outputs_urgentEnd (f : Field) (p : Nat) : (f.urgentEnd p).outputs = f.outputs := by
  simp -implicitDefEqProofs [urgentEnd]
  repeat' split
  all_goals simp -implicitDefEqProofs

@[simp] theorem outputs_atBoundary (f : Field) (p : Nat) : (f.atBoundary p).outputs = f.outputs := by
  simp -implicitDefEqProofs [atBoundary, apply_ite outputs]

@[simp] theorem outputs_preDelayEnd (f : Field) (p : Nat) : (f.preDelayEnd p).outputs = f.outputs := by
  unfold preDelayEnd; split <;> simp -implicitDefEqProofs

@[simp] theorem outputs_timeOut (f : Field) (p : Nat) : (f.timeOut p).outputs = f.outputs := by
  unfold timeOut; dsimp only; split <;> simp -implicitDefEqProofs

@[simp] theorem outputs_groupBoundary (f : Field) (g : Nat) : (f.groupBoundary g).outputs = f.outputs := by
  unfold groupBoundary; split <;> simp -implicitDefEqProofs

@[simp] theorem outputs_changeRange (f : Field) (c r : Nat) : (f.changeRange c r).outputs = f.outputs := by
  unfold changeRange; dsimp only; split <;> simp -implicitDefEqProofs

@[simp] theorem outputs_rangeSwitch (f : Field) (s : Nat) : (f.rangeSwitch s).outputs = f.outputs := by
  unfold rangeSwitch; split <;> simp -implicitDefEqProofs

@[simp] theorem outputs_decideRange (f : Field) (s c : Nat) (e : Exact) : (f.decideRange s c e).outputs = f.outputs := by
  simp -implicitDefEqProofs [decideRange, apply_ite outputs]

@[simp] theorem outputs_countSample (f : Field) (p : Nat) : (f.countSample p).outputs = f.outputs := by
  unfold countSample; split <;> simp -implicitDefEqProofs

@[simp] theorem outputs_closeByTime (f : Field) (c : Nat) : (f.closeByTime c).outputs = f.outputs := by
  unfold closeByTime; split <;> simp -implicitDefEqProofs

/-! Slices (chapter 06). -/

@[simp] theorem outputs_pushSample (f : Field) (s c : Nat) (i q : Int) (sat live : Bool) :
    (f.pushSample s c i q sat live).outputs = f.outputs := by simp -implicitDefEqProofs [pushSample]

@[simp] theorem outputs_blankedPeriod (f : Field) (s c : Nat) (i q : Int) (sat counts : Bool) :
    (f.blankedPeriod s c i q sat counts).outputs = f.outputs := by
  unfold blankedPeriod; dsimp only; split <;> simp -implicitDefEqProofs

@[simp] theorem outputs_watch (f : Field) (s c p : Nat) (i q : Int) :
    (f.watch s c p i q).outputs = f.outputs := by simp -implicitDefEqProofs [watch]

@[simp] theorem outputs_freezeEffect (f : Field) (s c : Nat) : (f.freezeEffect s c).outputs = f.outputs := by
  simp -implicitDefEqProofs [freezeEffect, apply_ite outputs]
  split <;> simp -implicitDefEqProofs

@[simp] theorem outputs_outputDue (f : Field) (s c p : Nat) : (f.outputDue s c p).outputs = f.outputs := by
  simp -implicitDefEqProofs [outputDue, apply_ite outputs]

@[simp] theorem outputs_overCode (f : Field) (must : Bool) (x : Int) : (f.overCode must x).2.outputs = f.outputs := by
  unfold overCode; split <;> simp -implicitDefEqProofs

@[simp] theorem outputs_followThaw (f : Field) (s c : Nat) :
    (f.followThaw s c).outputs = f.outputs := by simp -implicitDefEqProofs [followThaw]

@[simp] theorem outputs_breakRuns (f : Field) (c : Nat) :
    (f.breakRuns c).outputs = f.outputs := by simp -implicitDefEqProofs [breakRuns]

@[simp] theorem outputs_livePeriod (f : Field) (s c p : Nat) (i q : Int) (sat : Bool) :
    (f.livePeriod s c p i q sat).outputs = f.outputs := by
  simp -implicitDefEqProofs [livePeriod, apply_ite outputs]

@[simp] theorem outputs_boundaryHere (f : Field) (s p : Nat) :
    (f.boundaryHere s p).outputs = f.outputs := by simp -implicitDefEqProofs [boundaryHere]

@[simp] theorem outputs_stage1 (f : Field) (s : Nat) (i q : Int) (sat : Bool) : (f.stage1 s i q sat).outputs = f.outputs := by
  simp -implicitDefEqProofs [stage1]
  repeat' split
  all_goals simp -implicitDefEqProofs

@[simp] theorem outputs_pairUp (f : Field) (ok : Bool) : (f.pairUp ok).outputs = f.outputs := by
  simp -implicitDefEqProofs [pairUp]
  split <;> simp -implicitDefEqProofs [apply_ite outputs]

@[simp] theorem outputs_compare (f : Field) (o : ChainOut) (own : Bool) (x : Int) : (f.compare o own x).outputs = f.outputs := by
  unfold compare; split <;> simp -implicitDefEqProofs

@[simp] theorem outputs_settled (f : Field) (s : Nat) : (f.settled s).outputs = f.outputs := by
  simp -implicitDefEqProofs [settled]
  repeat' split
  all_goals simp -implicitDefEqProofs

@[simp] theorem outputs_restartEntry (f : Field) (p : Nat) : (f.restartEntry p).outputs = f.outputs := by
  simp -implicitDefEqProofs [restartEntry]
  repeat' split
  all_goals simp -implicitDefEqProofs

@[simp] theorem outputs_realign (f : Field) (g : Nat) : (f.realign g).outputs = f.outputs := by
  unfold realign; dsimp only; split <;> simp -implicitDefEqProofs

@[simp] theorem outputs_triggerGroup (f : Field) (g : Nat) (onPhase : Bool) : (f.triggerGroup g onPhase).outputs = f.outputs := by
  simp -implicitDefEqProofs [triggerGroup, apply_ite outputs]

@[simp] theorem outputs_trigger (f : Field) (phase : Nat) : (f.trigger phase).outputs = f.outputs := by
  unfold trigger; split <;> simp -implicitDefEqProofs

@[simp] theorem outputs_urgResult (f : Field) (k : Nat) :
    (f.urgResult k).outputs = f.outputs := by simp -implicitDefEqProofs [urgResult]

@[simp] theorem outputs_urgDrop (f : Field) (p c : Nat) : (f.urgDrop p c).outputs = f.outputs := by
  unfold urgDrop; split <;> simp -implicitDefEqProofs

@[simp] theorem outputs_urgArrive (f : Field) (early : Bool) : (f.urgArrive early).outputs = f.outputs := by
  simp -implicitDefEqProofs [urgArrive]
  split <;> simp -implicitDefEqProofs [apply_ite outputs]

/-! Rotation, self-tests and self-calibration (chapters 06 and 14). -/

@[simp] theorem outputs_phase (f : Field) (k : Nat) : (f.phase k).outputs = f.outputs := by simp -implicitDefEqProofs [phase]

@[simp] theorem outputs_modRot (f : Field) (h : Rotation → Rotation) :
    (f.modRot h).outputs = f.outputs := by simp -implicitDefEqProofs [modRot]

theorem outputs_once (f : Field) (h : Field → Field) (hh : ∀ f, (h f).outputs = f.outputs) : (f.once h).outputs = f.outputs := by
  simp [once, hh]

@[simp] theorem outputs_dacCode (f : Field) (v : Int) :
    (f.dacCode v).outputs = f.outputs := by simp -implicitDefEqProofs [dacCode]

@[simp] theorem outputs_testVerdict (f : Field) (s fail dev : Nat) :
    (f.testVerdict s fail dev).2.outputs = f.outputs := by simp -implicitDefEqProofs [testVerdict]

@[simp] theorem outputs_unshadow (f : Field) : f.unshadow.outputs = f.outputs := by
  simp -implicitDefEqProofs [unshadow]
  split <;> simp -implicitDefEqProofs [apply_ite outputs]

@[simp] theorem outputs_stopRotation (f : Field) :
    f.stopRotation.outputs = f.outputs := by simp -implicitDefEqProofs [stopRotation]

@[simp] theorem outputs_beginCal (f : Field) (k : Nat) (paused : Bool) :
    (f.beginCal k paused).outputs = f.outputs := by simp -implicitDefEqProofs [beginCal]

@[simp] theorem outputs_startCal (f : Field) (k phase : Nat) (stage : RotStage) :
    (f.startCal k phase stage).outputs = f.outputs := by simp -implicitDefEqProofs [startCal]

@[simp] theorem outputs_startDwell (f : Field) (p : Nat) : (f.startDwell p).outputs = f.outputs := by
  simp -implicitDefEqProofs [startDwell]
  split <;> simp -implicitDefEqProofs [apply_ite outputs]

@[simp] theorem outputs_rotate (f : Field) (p : Nat) : (f.rotate p).outputs = f.outputs := by
  simp -implicitDefEqProofs [rotate, apply_ite outputs]
  split <;> simp -implicitDefEqProofs

@[simp] theorem outputs_retireSlice (f : Field) (s cause src : Nat) (inj : Bool) :
    (f.retireSlice s cause src inj).outputs = f.outputs := by simp -implicitDefEqProofs [retireSlice]

@[simp] theorem outputs_retireDue (f : Field) (s : Nat) (inj : Bool) :
    (f.retireDue s inj).outputs = f.outputs := by simp -implicitDefEqProofs [retireDue]

@[simp] theorem outputs_powerSpare (f : Field) (next heir : Bool) : (f.powerSpare next heir).outputs = f.outputs := by
  unfold powerSpare; split <;> simp -implicitDefEqProofs

@[simp] theorem outputs_stopProg (f : Field) (p : Nat) :
    (f.stopProg p).outputs = f.outputs := by simp -implicitDefEqProofs [stopProg]

@[simp] theorem outputs_resumeSlice (f : Field) (s : Nat) : (f.resumeSlice s).outputs = f.outputs := by
  simp -implicitDefEqProofs [resumeSlice]
  split <;> simp -implicitDefEqProofs [apply_ite outputs]

@[simp] theorem outputs_migrate (f : Field) (p k : Nat) (spared : Bool) : (f.migrate p k spared).outputs = f.outputs := by
  unfold migrate; split <;> simp -implicitDefEqProofs

@[simp] theorem outputs_calReturn (f : Field) (k : Nat) :
    (f.calReturn k).outputs = f.outputs := by simp -implicitDefEqProofs [calReturn]

@[simp] theorem outputs_calRestart (f : Field) (k : Nat) :
    (f.calRestart k).outputs = f.outputs := by simp -implicitDefEqProofs [calRestart]

@[simp] theorem outputs_calAbandon (f : Field) : f.calAbandon.outputs = f.outputs := by
  unfold calAbandon; split <;> simp -implicitDefEqProofs

@[simp] theorem outputs_dropCal (f : Field) : f.dropCal.outputs = f.outputs := by
  simp -implicitDefEqProofs [dropCal]
  split <;> simp -implicitDefEqProofs [apply_ite outputs]

@[simp] theorem outputs_abandon (f : Field) : f.abandon.outputs = f.outputs := by
  unfold abandon; dsimp only; split <;> simp -implicitDefEqProofs

@[simp] theorem outputs_moveRole (f : Field) (p s : Nat) (inj : Bool) : (f.moveRole p s inj).outputs = f.outputs := by
  simp -implicitDefEqProofs [moveRole]
  split <;> simp -implicitDefEqProofs [apply_ite outputs]

@[simp] theorem outputs_reassign (f : Field) (ps : List Nat) : (f.reassign ps).outputs = f.outputs := by
  refine outputs_each _ _ _ fun p f => ?_
  split <;> simp -implicitDefEqProofs

@[simp] theorem outputs_sliceFails (f : Field) (s : Nat) (inj : Bool) : (f.sliceFails s inj).outputs = f.outputs := by
  simp -implicitDefEqProofs [sliceFails]
  split <;> simp -implicitDefEqProofs [apply_ite outputs]

@[simp] theorem outputs_showDetector (f : Field) (s : Nat) (stuck inj : Bool) :
    (f.showDetector s stuck inj).outputs = f.outputs := by simp -implicitDefEqProofs [showDetector]

@[simp] theorem outputs_detector (f : Field) (s : Nat) (stuck inj : Bool) : (f.detector s stuck inj).outputs = f.outputs := by
  unfold detector; dsimp only; split <;> simp -implicitDefEqProofs

@[simp] theorem outputs_migration (f : Field) (p : Nat) : (f.migration p).outputs = f.outputs := by
  simp -implicitDefEqProofs [migration, apply_ite outputs]
  repeat' split
  all_goals simp -implicitDefEqProofs

@[simp] theorem outputs_spareConnected (f : Field) (k : Nat) : (f.spareConnected k).outputs = f.outputs := by
  simp -implicitDefEqProofs [spareConnected]
  repeat' split
  all_goals simp -implicitDefEqProofs

@[simp] theorem outputs_useBias (f : Field) : f.useBias.outputs = f.outputs := by simp -implicitDefEqProofs [useBias]

@[simp] theorem outputs_pairVerdict (f : Field) (fails : Bool) : (f.pairVerdict fails).outputs = f.outputs := by
  unfold pairVerdict; split <;> simp -implicitDefEqProofs

@[simp] theorem outputs_disagree (f : Field) : f.disagree.outputs = f.outputs := by
  unfold disagree; split <;> simp -implicitDefEqProofs

@[simp] theorem outputs_dwellPasses (f : Field) : f.dwellPasses.outputs = f.outputs := by
  simp -implicitDefEqProofs [dwellPasses, apply_ite outputs]

@[simp] theorem outputs_dwellEnd (f : Field) : f.dwellEnd.outputs = f.outputs := by
  simp -implicitDefEqProofs [dwellEnd, apply_ite outputs]

@[simp] theorem outputs_strike (f : Field) (s : Nat) : (f.strike s).outputs = f.outputs := by
  simp -implicitDefEqProofs [strike, apply_ite outputs]

@[simp] theorem outputs_tookOver (f : Field) : f.tookOver.outputs = f.outputs := by
  unfold tookOver; split <;> simp -implicitDefEqProofs

@[simp] theorem outputs_selfTestDone (f : Field) (s fail dev : Nat) : (f.selfTestDone s fail dev).outputs = f.outputs := by
  simp -implicitDefEqProofs [selfTestDone, apply_ite outputs]
  split <;> simp -implicitDefEqProofs [apply_ite outputs]

@[simp] theorem outputs_strikeExpiry (f : Field) (s : Nat) : (f.strikeExpiry s).outputs = f.outputs := by
  unfold strikeExpiry; split <;> simp -implicitDefEqProofs

@[simp] theorem outputs_calEnds (f : Field) (k result : Nat) :
    (f.calEnds k result).outputs = f.outputs := by simp -implicitDefEqProofs [calEnds]

@[simp] theorem outputs_calTake (f : Field) (k : Nat) (x : CalResult) :
    (f.calTake k x).outputs = f.outputs := by simp -implicitDefEqProofs [calTake]

@[simp] theorem outputs_calResume (f : Field) (k : Nat) : (f.calResume k).outputs = f.outputs := by
  unfold calResume; split <;> simp -implicitDefEqProofs

@[simp] theorem outputs_calFails (f : Field) (k src : Nat) (inj : Bool) : (f.calFails k src inj).outputs = f.outputs := by
  unfold calFails; split <;> simp -implicitDefEqProofs

@[simp] theorem outputs_selfCalDone (f : Field) (x : CalResult) : (f.selfCalDone x).outputs = f.outputs := by
  simp -implicitDefEqProofs [selfCalDone]
  split <;> simp -implicitDefEqProofs [apply_ite outputs]

@[simp] theorem outputs_becomesDue (f : Field) (s : Nat) (temp : Int) : (f.becomesDue s temp).outputs = f.outputs := by
  unfold becomesDue; dsimp only; split <;> simp -implicitDefEqProofs

/-! Filter sets (chapter 07). -/

@[simp] theorem outputs_filtCommit (f : Field) (u : Nat) : (f.filtCommit u).outputs = f.outputs := by
  unfold filtCommit; dsimp only; split <;> simp -implicitDefEqProofs

@[simp] theorem outputs_filtDone (f : Field) (u : Nat) : (f.filtDone u).outputs = f.outputs := by
  unfold filtDone; split <;> simp -implicitDefEqProofs

/-! What the blank line shows at a digital input: its raw level alone (R180). -/

/-- Nothing of the output side has changed but the run state of digital inputs. -/
def OutputsButDi (g f : Field) : Prop :=
  ({ g with terms := f.terms } : Field).outputs = f.outputs ∧ ∀ k, { g.term k with di := (f.term k).di } = f.term k

theorem outputsButDi_of_outputs {g f : Field} (h : g.outputs = f.outputs) : g.OutputsButDi f := by
  have hterms : g.terms = f.terms := congrArg OutputSide.terms h
  refine ⟨?_, fun k => ?_⟩
  · rw [← hterms]
    exact h
  · rw [term, hterms]
    rfl

theorem OutputsButDi.trans {g h f : Field} (a : g.OutputsButDi h) (b : h.OutputsButDi f) : g.OutputsButDi f := by
  obtain ⟨ao, ad⟩ := a
  obtain ⟨bo, bd⟩ := b
  refine ⟨?_, fun k => ?_⟩
  · refine Eq.trans ?_ bo
    exact congrArg (fun o : OutputSide => { o with terms := f.terms }) ao
  · rw [← bd k, ← ad k]

theorem blankLevel_outputsButDi (on : Bool) (n : Nat) (f : Field) : (f.blankLevel on n).OutputsButDi f := by
  refine ⟨rfl, fun k => ?_⟩
  by_cases h : k = n
  · subst h
    simp [blankLevel, modDi]
  · simp [blankLevel, modDi, term_modTerm_other f _ h]

theorem blankLevels_outputsButDi (on : Bool) (ns : List Nat) (f : Field) : (f.each ns (blankLevel on)).OutputsButDi f := by
  induction ns generalizing f with
  | nil => exact outputsButDi_of_outputs rfl
  | cons n ns ih => exact (ih _).trans (blankLevel_outputsButDi on n f)

theorem blankOn_outputsButDi (src : Option Nat) (f : Field) : (f.blankOn src).OutputsButDi f := by
  cases src with
  | none => exact outputsButDi_of_outputs (by simp [blankOn])
  | some n => exact (outputsButDi_of_outputs (outputs_blankLine _)).trans (blankLevel_outputsButDi true n f)

theorem blankOff_outputsButDi (f : Field) : f.blankOff.OutputsButDi f := by
  unfold blankOff
  dsimp only
  split
  · exact outputsButDi_of_outputs (by simp)
  · exact (outputsButDi_of_outputs (outputs_blankLine _)).trans (blankLevels_outputsButDi false _ f)

end Field

/-- A measuring command acts on the field die by a change that leaves the output side, but for the levels of the blank line's sources. -/
theorem exec_measures {i : Instr} (h : i.measures = true) (s : State) :
    ∃ g, exec i s = runField g s ∧ ((g s.fd).OutputsButDi s.fd) ∧
      (i ≠ .blankLineRelease → (∀ n, i ≠ .blankLineAssert (some n)) → (g s.fd).outputs = s.fd.outputs) := by
  have keeps {g : Field → Field} (hg : exec i s = runField g s) (ho : (g s.fd).outputs = s.fd.outputs) :
      ∃ g, exec i s = runField g s ∧ ((g s.fd).OutputsButDi s.fd) ∧
        (i ≠ .blankLineRelease → (∀ n, i ≠ .blankLineAssert (some n)) → (g s.fd).outputs = s.fd.outputs) :=
    ⟨g, hg, Field.outputsButDi_of_outputs ho, fun _ _ => ho⟩
  cases i with
  | blankLineRelease => exact ⟨_, rfl, Field.blankOff_outputsButDi s.fd, fun hne => absurd rfl hne⟩
  | blankLineAssert src =>
    cases src with
    | none => exact keeps rfl (by simp [Field.blankOn])
    | some n => exact ⟨_, rfl, Field.blankOn_outputsButDi (some n.val) s.fd, fun _ hne => absurd rfl (hne n)⟩
  | sineZeroCrossing => exact keeps rfl (Field.outputs_sineCross ..)
  | sineRampDone => exact keeps rfl (Field.outputs_sineRampDone ..)
  | sinePeriodMonitor => exact keeps rfl (Field.outputs_sineMonitor ..)
  | sourceComplianceEnter => exact keeps rfl (by simp)
  | sourceComplianceClear => exact keeps rfl (by simp)
  | idcChangeEffect => exact keeps rfl (Field.outputs_idcEffect ..)
  | vbiasOverload => exact keeps rfl (Field.outputs_vbias ..)
  | extrefBad => exact keeps rfl (Field.outputs_extBad ..)
  | extrefOk => exact keeps rfl (Field.outputs_put ..)
  | refSettled => exact keeps rfl (Field.outputs_refSettle ..)
  | refMismatch => exact keeps rfl (Field.outputs_refMismatch ..)
  | blankGuardExpiry => exact keeps rfl (Field.outputs_blankGuardEnd _)
  | blankMaxlenExpiry => exact keeps rfl (Field.outputs_blankMaxlen _)
  | triggerTakesEffect => exact keeps rfl (Field.outputs_trigger ..)
  | dwellEnd => exact keeps rfl (Field.outputs_once _ _ Field.outputs_dwellEnd)
  | sliceSelftestDone => exact keeps rfl (Field.outputs_once _ _ fun f => f.outputs_selfTestDone ..)
  | migration => exact keeps rfl (Field.outputs_once _ _ fun f => f.outputs_migration _)
  | strikeExpiry => exact keeps rfl (Field.outputs_strikeExpiry ..)
  | sliceDetectorFires => exact keeps rfl (Field.outputs_once _ _ fun f => f.outputs_detector ..)
  | coldSpareConnected => exact keeps rfl (Field.outputs_once _ _ fun f => f.outputs_spareConnected _)
  | urgentRequestArrival => exact keeps rfl (Field.outputs_urgArrive ..)
  | urgentEntryEnd => exact keeps rfl (by simp)
  | stage1Output => exact keeps rfl (Field.outputs_stage1 ..)
  | settledSample => exact keeps rfl (Field.outputs_settled ..)
  | firCommitDone => exact keeps rfl (Field.outputs_filtDone ..)
  | entryBoundary => exact keeps rfl (by simp)
  | predelayEnd => exact keeps rfl (Field.outputs_preDelayEnd ..)
  | entryTimeout => exact keeps rfl (Field.outputs_timeOut ..)
  | groupBoundary => exact keeps rfl (Field.outputs_groupBoundary ..)
  | rangeSwitch => exact keeps rfl (Field.outputs_rangeSwitch ..)
  | windowCloseByTime => exact keeps rfl (Field.outputs_closeByTime ..)
  | windowCloseDeferred => exact keeps rfl (Field.outputs_closeHeld ..)
  | calDue => exact keeps rfl (Field.outputs_becomesDue ..)
  | selfCalDone => exact keeps rfl (Field.outputs_once _ _ fun f => f.outputs_selfCalDone _)
  | _ => exact absurd h Bool.false_ne_true

/-- Settles O52: no change that a measuring command makes reaches the output side, and its messages leave the field die as it is. -/
theorem measurementRowsFrame : Obligations.MeasurementRowsFrame := by
  unfold Obligations.MeasurementRowsFrame
  intro i s t hi hl hexec
  obtain ⟨g, hg, ⟨hside, hterm⟩, hall⟩ := exec_measures hi s
  cases hr : s.fd.released
  · obtain rfl : s = t := Host.Outcome.next.inj ((runField_held g s hr).symm.trans (hg.symm.trans hexec))
    exact ⟨Field.sameOutputs_of_outputs rfl, fun _ => rfl, fun _ _ => rfl⟩
  · obtain rfl : drain { s with fd := g s.fd } = t :=
      Host.Outcome.next.inj ((runField_up g s hr hl).symm.trans (hg.symm.trans hexec))
    rw [drain_fd]
    exact ⟨Field.sameOutputs_of_outputs hside, hterm, fun ha hb => congrArg OutputSide.terms (hall ha hb)⟩

end Sys2Proof.Machine
end

section
/-! A statement of the link that fails: with more than 64 fault events waiting, the newest is merged when the link falls (R378). -/

namespace Sys2Proof.Machine

open Sys2Proof

/-- The link is up, and 65 fault events of one source wait for their frames. -/
def manyFaultsWait : State :=
  { ld := { linkUp := true }, fd := { out := List.replicate 65 (.fault { src := 0, severe := false }) } }

/-- The fall of the link merges the newest of them into another (R378). -/
theorem linkFalls_manyFaultsWait : (drain manyFaultsWait.linkFalls).fd.out.length = 64 := rfl

/-- Refutes O21: in its first clause the field die does not stay as it is, for LINK_DOWN has it keep at most 64 events. -/
theorem not_barrierLinkRows : ¬ Obligations.BarrierLinkRows := by
  unfold Obligations.BarrierLinkRows
  rintro ⟨hfall, -⟩
  obtain ⟨t, ht, -, -, -, hfd, -⟩ := hfall manyFaultsWait rfl
  obtain rfl : { drain manyFaultsWait.linkFalls with pending := manyFaultsWait.pending } = t := Host.Outcome.next.inj ht
  have hlength : (drain manyFaultsWait.linkFalls).fd.out.length = manyFaultsWait.fd.out.length :=
    congrArg (fun f : Field => f.out.length) hfd
  exact absurd (linkFalls_manyFaultsWait.symm.trans hlength) (by decide)

end Sys2Proof.Machine
end

section
/-! A statement of the barrier's frames that fails: with the link down, the field die keeps at most 64 of the events that wait (R378). -/

namespace Sys2Proof.Machine

open Sys2Proof

/-- A trained link that is down, and 65 fault events of one source waiting on the field die. -/
def trainedWithManyFaults : State :=
  { ld := { boot := { field := 2 } }, fd := { out := List.replicate 65 (.fault { src := 0, severe := false }) } }

/-- A frame slot of the logic die merges the newest of them into another (R378). -/
theorem frameSlot_manyFaults : (drain (trainedWithManyFaults.frameSlot true)).fd.out.length = 64 := rfl

/-- Refutes O20: in its first clause the field die does not stay as it is, for with the link down each command has it keep at most 64 events. -/
theorem not_barrierFrameRows : ¬ Obligations.BarrierFrameRows := by
  unfold Obligations.BarrierFrameRows
  rintro ⟨hslot, -⟩
  obtain ⟨t, ht, x, -, -, -, -, -, -, hfd⟩ := hslot trainedWithManyFaults rfl rfl rfl
  obtain rfl : { drain (trainedWithManyFaults.frameSlot true) with pending := trainedWithManyFaults.pending } = t :=
    Host.Outcome.next.inj ht
  have hlength : (drain (trainedWithManyFaults.frameSlot true)).fd.out.length = trainedWithManyFaults.fd.out.length :=
    congrArg (fun f : Field => f.out.length) hfd
  exact absurd (frameSlot_manyFaults.symm.trans hlength) (by decide)

end Sys2Proof.Machine
end

section
/-! A statement of the sequencer that fails: a programme that waits at its group's boundary passes over an entry whose context is disabled
(R144), and waits again where the next one carries SYNC_WAIT (R145). -/

namespace Sys2Proof.Machine

open Sys2Proof

/-- A field die whose programme 0 waits at entry 0, of the disabled context 0, before entry 1, of the enabled context 3; both entries wait for
group 0. -/
def waitsAtDisabledEntry : Field :=
  let f : Field := ({ released := true } : Field).modSlice 0 fun r => { r with on := true }
  let f := ((f.own (F.SEQ_PROG_VALID 0) 1).own (F.SEQTAB_W0_SYNC_WAIT 0) 1).own (F.SEQTAB_W0_SYNC_WAIT 1) 1
  let f := ((f.own (F.SEQTAB_W0_LOOP_END 1) 1).own (F.SEQTAB_W0_CTX 1) 3).own (F.CTRL_EN (R.pageCTX 3)) 1
  f.put (F.SEQ_PSTAT_STATE 0) 4

/-- The whole device with that field die and the link up. -/
def deviceWaitsAtDisabledEntry : State := { ld := { linkUp := true }, fd := waitsAtDisabledEntry }

/-- The group is at its boundary, and programme 0 counts toward it. -/
theorem groupReady_waitsAtDisabledEntry :
    waitsAtDisabledEntry.groupReady 0 = true ∧ (0 : Fin 16).val ∈ waitsAtDisabledEntry.countedProgs 0 := by decide

/-- After the boundary programme 0 waits again, at entry 1. -/
theorem groupBoundary_waitsAgain :
    (waitsAtDisabledEntry.groupBoundary 0).pstate 0 = 4 ∧ (waitsAtDisabledEntry.groupBoundary 0).g (F.SEQ_PSTAT_ENTRY 0) = 1 := by decide

/-- Refutes O39: in its fourth clause a programme counted toward the boundary may wait again, at the next entry of its run whose context is
enabled. -/
theorem not_sequencerWindowRows : ¬ Obligations.SequencerWindowRows := by
  unfold Obligations.SequencerWindowRows
  rintro ⟨-, -, -, hgroup, -⟩
  obtain ⟨hready, hcounted⟩ := groupReady_waitsAtDisabledEntry
  obtain ⟨t, ht, -, -, hstarts, -⟩ := hgroup deviceWaitsAtDisabledEntry 0 ⟨rfl, rfl, rfl⟩ hready
  obtain rfl : drain { deviceWaitsAtDisabledEntry with fd := waitsAtDisabledEntry.groupBoundary 0 } = t :=
    Host.Outcome.next.inj ((runField_up (Field.groupBoundary 0) deviceWaitsAtDisabledEntry rfl rfl).symm.trans ht)
  obtain ⟨hstate, -⟩ := hstarts _ hcounted
  refine hstate ?_
  rw [Field.pstate, Field.g, drain_fd_img]
  exact groupBoundary_waitsAgain.1

end Sys2Proof.Machine
end

section
/-! What driving an output leaves as it is (R25, R186, R202, R222, R332). -/

namespace Sys2Proof.Machine

open Sys2Proof

/-! Fields of registers at different offsets of their pages, or of different bits. -/

/-- Two fields stand at different offsets of their pages, or in different bits. -/
def Fld.apart (x y : Fld) : Bool :=
  x.addr % 256 != y.addr % 256 || decide (x.lo + x.len ≤ y.lo) || decide (y.lo + y.len ≤ x.lo)

theorem regHome_mod (a : Nat) : regHome a % 256 = a % 256 := by
  unfold regHome
  split <;> omega

theorem Fld.clear_of_apart {x y : Fld} (h : x.apart y = true) : x.clear y = true := by
  simp only [Fld.apart, Fld.clear, Bool.or_eq_true, decide_eq_true_eq, bne_iff_ne] at h ⊢
  refine h.imp_left fun h => h.imp_left fun hoff heq => hoff ?_
  rw [← regHome_mod x.addr, ← regHome_mod y.addr, heq]

/-- Where a field stands: its offset, its lowest bit and its length. -/
def Fld.spot (x : Fld) : Nat × Nat × Nat := (x.addr % 256, x.lo, x.len)

theorem Fld.apart_of_spot (x : Fld) {y y' : Fld} (h : y.spot = y'.spot) : x.apart y = x.apart y' := by
  simp only [Fld.spot, Prod.mk.injEq] at h
  simp [Fld.apart, h]

/-- The fields that show how a terminal is driven, but for LATCHED. -/
def drivingFlds (k : Nat) : List Fld :=
  [F.TERM_DO_STAT_TESTING k, F.TERM_DO_STAT_OPEN_WIRE k, F.TERM_DO_STAT_BACKFEED k, F.TERM_DO_STAT_CLAMP k, F.TERM_DO_STAT_LIMIT k,
   F.TERM_DO_STAT_ON k, F.TERM_DO_STAT_CAUSE k, F.TERM_DO_STAT_CMD k, F.TERM_DO_STAT_TIED k, F.TERM_SS_STAT_ACTIVE k,
   F.TERM_AO_RAIL_SOURCE k, F.TERM_AO_RAIL_HEADROOM k, F.TERM_AO_RAIL_PDISS k, F.TERM_AO_STAT_RAMPING k, F.TERM_AO_STAT_CAUSE k,
   F.TERM_AO_STAT_NE43_CLAMP k]

/-- The fields that show which triggers of R222 hold on a terminal. -/
def triggerFlds (k : Nat) : List Fld := [F.TERM_SS_STAT_REFLEX k, F.TERM_SS_STAT_HELD k]

theorem drivingFlds_fits (k : Nat) : (drivingFlds k).all Fld.fits = true := rfl

theorem triggerFlds_fits (k : Nat) : (triggerFlds k).all Fld.fits = true := rfl

/-- They stand at the same spots of every terminal's page. -/
theorem drivingFlds_spots (k : Nat) : (drivingFlds k).map Fld.spot = (drivingFlds 0).map Fld.spot := by
  simp [drivingFlds, Fld.spot, F.TERM_DO_STAT_TESTING, F.TERM_DO_STAT_OPEN_WIRE, F.TERM_DO_STAT_BACKFEED, F.TERM_DO_STAT_CLAMP,
    F.TERM_DO_STAT_LIMIT, F.TERM_DO_STAT_ON, F.TERM_DO_STAT_CAUSE, F.TERM_DO_STAT_CMD, F.TERM_DO_STAT_TIED, F.TERM_SS_STAT_ACTIVE,
    F.TERM_AO_RAIL_SOURCE, F.TERM_AO_RAIL_HEADROOM, F.TERM_AO_RAIL_PDISS, F.TERM_AO_STAT_RAMPING, F.TERM_AO_STAT_CAUSE,
    F.TERM_AO_STAT_NE43_CLAMP, R.TERM_DO_STAT, R.TERM_SS_STAT, R.TERM_AO_STAT, R.TERM_AO_RAIL]

theorem triggerFlds_spots (k : Nat) : (triggerFlds k).map Fld.spot = (triggerFlds 0).map Fld.spot := by
  simp [triggerFlds, Fld.spot, F.TERM_SS_STAT_REFLEX, F.TERM_SS_STAT_HELD, R.TERM_SS_STAT]

/-- A field in which no terminal's driving shows. -/
def Fld.still (x : Fld) : Bool := (drivingFlds 0).all x.apart

/-- A field that neither a terminal's driving nor its LATCHED shows in. -/
def Fld.undriven (x : Fld) : Bool := x.still && x.apart (F.TERM_DO_STAT_LATCHED 0)

/-- A field in which no terminal's triggers show. -/
def Fld.untriggered (x : Fld) : Bool := (triggerFlds 0).all x.apart

/-- What stands apart from some fields stands apart from fields at the same spots. -/
theorem Fld.apart_of_spots {x y : Fld} {ys zs : List Fld} (h : ys.all x.apart = true) (hs : zs.map Fld.spot = ys.map Fld.spot)
    (hy : y ∈ zs) : x.apart y = true := by
  obtain ⟨z, hz, hzy⟩ := List.mem_map.mp (hs ▸ List.mem_map_of_mem hy)
  rw [x.apart_of_spot hzy.symm]
  exact List.all_eq_true.mp h z hz

theorem Fld.clear_of_still {x y : Fld} {k : Nat} (hx : x.still = true) (hy : y ∈ drivingFlds k) : x.clear y = true :=
  clear_of_apart (apart_of_spots hx (drivingFlds_spots k) hy)

theorem Fld.clear_of_untriggered {x y : Fld} {k : Nat} (hx : x.untriggered = true) (hy : y ∈ triggerFlds k) : x.clear y = true :=
  clear_of_apart (apart_of_spots hx (triggerFlds_spots k) hy)

/-! Driving. -/

/-- Of a terminal's run state what its driving leaves: all but a switch's timers, pulses and wear. -/
def TermRun.steady (t : TermRun) : TermRun :=
  { t with dout := { ovl := t.dout.ovl, thm := t.dout.thm, hot := t.dout.hot, gov := t.dout.gov, tries := t.dout.tries,
                     thermTries := t.dout.thermTries } }

/-- What showing how outputs are driven leaves of the field die. -/
structure Field.Kept (g f : Field) : Prop where
  cfg : g.cfg = f.cfg
  mode : g.mode = f.mode
  paired : g.paired = f.paired
  joined : g.joined = f.joined
  dropped : g.dropped = f.dropped
  partAt : g.partAt = f.partAt
  out : g.out = f.out
  img : ∀ x : Fld, x.still = true → g.g x = f.g x
  term : ∀ n, (g.term n).steady = (f.term n).steady

namespace Field.Kept

variable {f g h : Field}

theorem refl (f : Field) : f.Kept f := by constructor <;> intros <;> rfl

theorem trans (a : h.Kept g) (b : g.Kept f) : h.Kept f where
  cfg := a.cfg.trans b.cfg
  mode := a.mode.trans b.mode
  paired := a.paired.trans b.paired
  joined := a.joined.trans b.joined
  dropped := a.dropped.trans b.dropped
  partAt := a.partAt.trans b.partAt
  out := a.out.trans b.out
  img x hx := (a.img x hx).trans (b.img x hx)
  term n := (a.term n).trans (b.term n)

theorem put (a : g.Kept f) (k : Nat) {y : Fld} {v : Nat} (hy : y ∈ drivingFlds k := by simp [drivingFlds]) : (g.put y v).Kept f :=
  trans (g := g) ⟨rfl, rfl, rfl, rfl, rfl, rfl, rfl,
    fun x hx => g.g_put_clear x y v (List.all_eq_true.mp (drivingFlds_fits k) y hy) (Fld.clear_of_still hx hy), fun _ => rfl⟩ a

theorem modTerm (a : g.Kept f) (k : Nat) {c : TermRun → TermRun} (hc : ∀ t, (c t).steady = t.steady) : (g.modTerm k c).Kept f :=
  trans (g := g) ⟨rfl, rfl, rfl, rfl, rfl, rfl, rfl, fun _ _ => rfl, fun n => by
    by_cases hn : n = k
    · subst hn
      rw [Field.term_modTerm_same]
      exact hc _
    · rw [Field.term_modTerm_other _ _ hn]⟩ a

theorem modTermBoth (a : g.Kept f) (k : Nat) {c : TermRun → TermRun} (hc : ∀ t, (c t).steady = c t.steady) :
    (g.modTerm k c).Kept (f.modTerm k c) :=
  ⟨a.cfg, a.mode, a.paired, a.joined, a.dropped, a.partAt, a.out, a.img, fun n => by
    by_cases hn : n = k
    · subst hn
      rw [Field.term_modTerm_same, Field.term_modTerm_same, hc, hc, a.term]
    · rw [Field.term_modTerm_other _ _ hn, Field.term_modTerm_other _ _ hn]
      exact a.term n⟩

theorem when (a : g.Kept f) (c : Bool) {c' : Field → Field} (hc : ∀ g, g.Kept f → (c' g).Kept f) : (g.when c c').Kept f := by
  cases c
  · exact a
  · exact hc g a

end Field.Kept

/-- A switched output that was off and is to turn on has a fresh count of attempts (R189). -/
def Field.startsAfresh (k : Nat) (a : Act) (f : Field) : Field :=
  f.when ((f.term k).want.isNone && a.level.isSome) (Field.freshAttempts k)

/-- An output takes an action: what it follows, and the level that protection leaves. -/
def Field.takesAct (k : Nat) (a : Act) (shown : Option Act) (f : Field) : Field :=
  f.modTerm k fun t => { t with want := a.level, level := (shown.getD (f.delivered k a)).level }

theorem Field.driveDo_kept (k : Nat) (a : Act) (shown : Option Act) (f : Field) :
    (f.driveDo k a shown).Kept ((f.startsAfresh k a).takesAct k a shown) := by
  unfold Field.driveDo Field.takesAct
  rw [← Field.startsAfresh]
  generalize f.startsAfresh k a = f
  dsimp only
  generalize shown.getD (f.delivered k a) = d
  have hoff : (f.when d.level.isNone fun f => f.put (F.TERM_DO_STAT_TESTING k) 0).Kept f :=
    (Kept.refl f).when _ fun g hg => hg.put k
  have hon := hoff.modTermBoth k (c := fun t => { t with want := a.level, level := d.level }) fun _ => rfl
  refine .put (.put (.put (.put (.put (.when (.when (.when (.when hon _ ?masked) _ ?due) _ ?turnsOn) _ ?turnsOff) k) k) k) k) k
  case masked => exact fun g hg => hg.modTerm k fun _ => rfl
  case due => exact fun g hg => hg.modTerm k fun _ => rfl
  case turnsOn => exact fun g hg => ((hg.put k).put k).put k
  case turnsOff => exact fun g hg => ((hg.put k).put k).modTerm k fun _ => rfl

theorem Field.showRail_kept (k : Nat) (f : Field) : (f.showRail k).Kept f := by
  unfold Field.showRail
  dsimp only
  split <;> exact ((Kept.refl f).put k).put k

theorem Field.driveAo_kept (k : Nat) (a : Act) (shown : Option Act) (f : Field) :
    (f.driveAo k a shown).Kept (f.takesAct k a shown) := by
  have hsource (g : Field) (v : Nat) : (g.put (F.TERM_AO_RAIL_SOURCE k) v).Kept g := (Kept.refl g).put k
  unfold Field.driveAo
  refine (Field.showRail_kept _ _).trans (.put (.put (.put ?_ k) k) k)
  rw [← Field.takesAct]
  generalize f.takesAct k a shown = g
  have hon : (if g.aoConnected k then g else g.put (F.TERM_AO_RAIL_SOURCE k) (g.firstSource k)).Kept g := by
    split
    · exact .refl g
    · exact hsource g _
  dsimp only
  split
  · generalize (if g.aoConnected k then g else g.put (F.TERM_AO_RAIL_SOURCE k) (g.firstSource k)) = u at hon ⊢
    split
    · exact hon.when _ fun _ hu => hu.put k
    · exact hon.put k
  · split
    · exact (hsource _ _).put k
    · exact (Kept.refl _).put k

/-! What R25 gives a terminal depends on no output's driving. -/

/-- Two field dies on which the same action of R25 is in force. -/
structure Field.SameAct (g f : Field) : Prop where
  cfg : g.cfg = f.cfg
  mode : g.mode = f.mode
  joined : g.joined = f.joined
  dropped : g.dropped = f.dropped
  partAt : g.partAt = f.partAt
  img : ∀ x : Fld, x.undriven = true → g.g x = f.g x
  ss : ∀ n, (g.term n).ss = (f.term n).ss
  catch_ : ∀ n, (g.term n).catch_ = (f.term n).catch_
  expect : ∀ n, (g.term n).expect = (f.term n).expect

/-- A bit of a word is a field. -/
theorem wbit_eq (w : Word) (k : Nat) : wbit w k = (wbits w k 1 != 0) := by
  unfold wbit wbits
  rw [pow_one]
  rcases Nat.mod_two_eq_zero_or_one (w.toNat / 2 ^ k) with h | h <;> simp [h]

theorem Field.ruleActive_eq (r : Nat) (f : Field) :
    f.ruleActive r = f.gb ⟨if r < 32 then R.REFLEX_ACTIVE_LO else R.REFLEX_ACTIVE_HI, r % 32, 1⟩ := wbit_eq _ _

/-- The fields that R25 reads of a terminal. -/
def actFlds (n : Nat) : List Fld :=
  [F.TERM_CELLSTAT_FUNC_ACT n, F.TERM_SS_STAT_UV n, F.TERM_SS_STAT_MODE n, F.TERM_SS_STAT_BARRIER n, F.TERM_SS_STAT_SUPPLY n,
   F.TERM_SS_STAT_FORCE n, F.TERM_SS_STAT_SHED n, F.FSUP_GRP_STAT_LOW (n / 8)]

theorem undriven_actFlds : ∀ n < 32, (actFlds n).all Fld.undriven = true := by decide

theorem undriven_reflexActive : ∀ r < 64,
    (Fld.mk (if r < 32 then R.REFLEX_ACTIVE_LO else R.REFLEX_ACTIVE_HI) (r % 32) 1).undriven = true := by decide

namespace Field.SameAct

variable {f u v : Field}

theorem refl (f : Field) : f.SameAct f := by constructor <;> intros <;> rfl

theorem trans (a : v.SameAct u) (b : u.SameAct f) : v.SameAct f where
  cfg := a.cfg.trans b.cfg
  mode := a.mode.trans b.mode
  joined := a.joined.trans b.joined
  dropped := a.dropped.trans b.dropped
  partAt := a.partAt.trans b.partAt
  img x hx := (a.img x hx).trans (b.img x hx)
  ss n := (a.ss n).trans (b.ss n)
  catch_ n := (a.catch_ n).trans (b.catch_ n)
  expect n := (a.expect n).trans (b.expect n)

theorem of_kept (a : u.Kept f) : u.SameAct f where
  cfg := a.cfg
  mode := a.mode
  joined := a.joined
  dropped := a.dropped
  partAt := a.partAt
  img x hx := a.img x (Bool.and_eq_true_iff.mp hx).1
  ss n := show (u.term n).steady.ss = (f.term n).steady.ss by rw [a.term]
  catch_ n := show (u.term n).steady.catch_ = (f.term n).steady.catch_ by rw [a.term]
  expect n := show (u.term n).steady.expect = (f.term n).steady.expect by rw [a.term]

theorem modTerm (a : u.SameAct f) (k : Nat) {c : TermRun → TermRun} (hs : ∀ t, (c t).ss = t.ss) (hc : ∀ t, (c t).catch_ = t.catch_)
    (he : ∀ t, (c t).expect = t.expect) : (u.modTerm k c).SameAct f := by
  have hterm (n : Nat) : (u.modTerm k c).term n = if n = k then c (u.term n) else u.term n := by
    split
    · next hn => rw [hn, Field.term_modTerm_same]
    · next hn => rw [Field.term_modTerm_other _ _ hn]
  refine trans (u := u) ⟨rfl, rfl, rfl, rfl, rfl, fun _ _ => rfl, fun n => ?_, fun n => ?_, fun n => ?_⟩ a
  all_goals
    rw [hterm]
    split
  exacts [hs _, rfl, hc _, rfl, he _, rfl]

theorem startsAfresh (k : Nat) (x : Act) (f : Field) : (f.startsAfresh k x).SameAct f := by
  unfold Field.startsAfresh Field.when
  split
  · refine trans ?_ ((refl f).modTerm k
      (c := fun t => { t with dout := { t.dout with tries := 0, thermTries := 0, ovl := false, thm := t.dout.hot } })
      (fun _ => rfl) (fun _ => rfl) fun _ => rfl)
    refine ⟨rfl, rfl, rfl, rfl, rfl, fun x hx => ?_, fun _ => rfl, fun _ => rfl, fun _ => rfl⟩
    refine Field.g_put_clear _ x _ 0 rfl (Fld.clear_of_apart ?_)
    rw [x.apart_of_spot (y' := F.TERM_DO_STAT_LATCHED 0) (by simp [Fld.spot, F.TERM_DO_STAT_LATCHED, R.TERM_DO_STAT])]
    exact (Bool.and_eq_true_iff.mp hx).2
  · exact refl f

theorem takesAct (k : Nat) (x : Act) (shown : Option Act) (f : Field) : (f.takesAct k x shown).SameAct f :=
  (refl f).modTerm k (fun _ => rfl) (fun _ => rfl) fun _ => rfl

theorem driveDo (k : Nat) (x : Act) (shown : Option Act) (f : Field) : (f.driveDo k x shown).SameAct f :=
  (of_kept (f.driveDo_kept k x shown)).trans ((takesAct ..).trans (startsAfresh ..))

theorem driveAo (k : Nat) (x : Act) (shown : Option Act) (f : Field) : (f.driveAo k x shown).SameAct f :=
  (of_kept (f.driveAo_kept k x shown)).trans (takesAct ..)

section
variable (a : u.SameAct f) {n : Nat} (hn : n < 32)
include a

theorem c (x : Fld) : u.c x = f.c x := by rw [Field.c, a.cfg]; rfl

theorem cb (x : Fld) : u.cb x = f.cb x := by rw [Field.cb_eq, a.c]; rfl

theorem ruleActive {r : Nat} (hr : r < 64) : u.ruleActive r = f.ruleActive r := by
  rw [Field.ruleActive_eq, Field.ruleActive_eq, Field.gb_eq, a.img _ (undriven_reflexActive r hr)]
  rfl

include hn

theorem g {x : Fld} (hx : x ∈ actFlds n) : u.g x = f.g x := a.img x (List.all_eq_true.mp (undriven_actFlds n hn) x hx)

theorem gb {x : Fld} (hx : x ∈ actFlds n) : u.gb x = f.gb x := by rw [Field.gb_eq, a.g hn hx]; rfl

theorem func : u.func n = f.func n := a.g hn (by simp [actFlds])

theorem ruleTargets (r : Nat) : u.ruleTargets r n = f.ruleTargets r n := by simp [Field.ruleTargets, a.c, a.cb, a.func hn]

theorem reflexAct : u.reflexAct n = f.reflexAct n := by
  have hrule (k : Nat) : ((List.range 64).any fun r => u.ruleActive r && u.c (F.REFLEX_RULE_C_ACTION r) == k && u.ruleTargets r n) =
      (List.range 64).any fun r => f.ruleActive r && f.c (F.REFLEX_RULE_C_ACTION r) == k && f.ruleTargets r n := by
    refine Bool.eq_iff_iff.mpr ?_
    simp only [List.any_eq_true, Bool.and_eq_true]
    refine exists_congr fun r => and_congr_right fun hr => ?_
    rw [a.ruleActive (List.mem_range.mp hr), a.c, a.ruleTargets hn]
  simp [Field.reflexAct, a.mode, hrule]

theorem safeLevel : u.safeLevel n = f.safeLevel n := by
  simp [Field.safeLevel, a.ss, a.c, a.func hn]

theorem safeHeld : u.safeHeld n = f.safeHeld n := by
  have hflag (x : Fld) (hx : x ∈ actFlds n := by simp [actFlds]) : u.gb x = f.gb x := a.gb hn hx
  simp only [Field.safeHeld, a.ss, hflag (F.TERM_SS_STAT_MODE n), hflag (F.TERM_SS_STAT_BARRIER n), hflag (F.TERM_SS_STAT_SUPPLY n),
    hflag (F.TERM_SS_STAT_FORCE n)]

theorem tied : u.tied n = f.tied n := by simp [Field.tied, a.c, a.cb, a.func hn]

theorem hostAct : u.hostAct n = f.hostAct n := by
  have hlow : u.gb (F.FSUP_GRP_STAT_LOW (n / 8)) = f.gb (F.FSUP_GRP_STAT_LOW (n / 8)) := a.gb hn (by simp [actFlds])
  have hhead : u.head n = f.head n := by
    rw [Field.head, a.tied hn]
    rfl
  have hcmd : u.commanded n = f.commanded n := by
    have hclamps : u.clamps n = f.clamps n := by simp only [Field.clamps, a.c, a.cb, a.func hn]
    unfold Field.commanded
    rw [a.cb, a.cb, a.func hn, a.c, hclamps, hhead]
  simp [Field.hostAct, Field.drivesAlong, a.mode, a.joined, a.dropped, a.partAt, a.ss, a.catch_, a.expect, a.func hn, hlow, hcmd]

theorem ownAct : u.ownAct n = f.ownAct n := by
  have huv : u.gb (F.TERM_SS_STAT_UV n) = f.gb (F.TERM_SS_STAT_UV n) := a.gb hn (by simp [actFlds])
  have hshed : u.gb (F.TERM_SS_STAT_SHED n) = f.gb (F.TERM_SS_STAT_SHED n) := a.gb hn (by simp [actFlds])
  simp only [Field.ownAct, huv, hshed, a.mode, a.c, a.safeLevel hn, a.safeHeld hn, a.hostAct hn, a.reflexAct hn]

theorem act : u.act n = f.act n := by
  have hlt (m : Nat) (hm : f.tied n = some m) : m < 32 := by
    unfold Field.tied at hm
    split at hm
    · exact Option.some.inj hm ▸ Fld.get_lt (F.TERM_DO_CFG_TIE n) f.cfg
    · simp at hm
  simp only [Field.act, a.tied hn, a.ownAct hn]
  split
  · next m hm => rw [a.ownAct (hlt m hm)]
  · rfl

end

end Field.SameAct

end Sys2Proof.Machine
end

section
/-! What settling an output leaves (R25, R189, R222), and a switched output that protection holds off (R186). -/

namespace Sys2Proof.Machine

open Sys2Proof

/-- A trigger of R222 that begins or ends on a terminal. -/
def FMsg.isTrigger : FMsg → Bool
  | .evt _ bit _ _ _ => decide (28 ≤ bit ∧ bit < 32)
  | _ => false

/-- A terminal's run state but for its safe state's. -/
def TermRun.driving (t : TermRun) : TermRun := { t with ss := {} }

/-- What noting the triggers of R222 leaves of the field die. -/
structure Field.Noted (g f : Field) : Prop where
  cfg : g.cfg = f.cfg
  paired : g.paired = f.paired
  img : ∀ x : Fld, x.untriggered = true → g.g x = f.g x
  stay : ∀ n, (g.term n).ss.stay = (f.term n).ss.stay
  term : ∀ n, (g.term n).driving = (f.term n).driving
  out : ∃ es, g.out = f.out ++ es ∧ es.all FMsg.isTrigger = true

namespace Field.Noted

variable {f g h : Field}

theorem refl (f : Field) : f.Noted f := ⟨rfl, rfl, fun _ _ => rfl, fun _ => rfl, fun _ => rfl, [], by simp⟩

theorem trans (a : h.Noted g) (b : g.Noted f) : h.Noted f := by
  obtain ⟨es, hes, hall⟩ := a.out
  obtain ⟨es', hes', hall'⟩ := b.out
  refine ⟨a.cfg.trans b.cfg, a.paired.trans b.paired, fun x hx => (a.img x hx).trans (b.img x hx),
    fun n => (a.stay n).trans (b.stay n), fun n => (a.term n).trans (b.term n), es' ++ es, ?_, ?_⟩
  · rw [hes, hes', List.append_assoc]
  · rw [List.all_append, hall, hall', Bool.and_self]

theorem put (a : g.Noted f) (k : Nat) {y : Fld} {v : Nat} (hy : y ∈ triggerFlds k := by simp [triggerFlds]) : (g.put y v).Noted f :=
  trans (g := g) ⟨rfl, rfl,
    fun x hx => g.g_put_clear x y v (List.all_eq_true.mp (triggerFlds_fits k) y hy) (Fld.clear_of_untriggered hx hy), fun _ => rfl,
    fun _ => rfl, [], (List.append_nil _).symm, rfl⟩ a

theorem modSs (a : g.Noted f) (k : Nat) {c : SsRun → SsRun} (hc : ∀ x, (c x).stay = x.stay := by exact fun _ => rfl) :
    (g.modSs k c).Noted f := by
  have hterm (n : Nat) : (g.modSs k c).term n = if n = k then { g.term n with ss := c (g.term n).ss } else g.term n := by
    rw [Field.modSs]
    split
    · next hn => rw [hn, Field.term_modTerm_same]
    · next hn => rw [Field.term_modTerm_other _ _ hn]
  refine trans (g := g) ⟨rfl, rfl, fun _ _ => rfl, fun n => ?_, fun n => ?_, [], (List.append_nil _).symm, rfl⟩ a
  · rw [hterm]
    split
    · exact hc _
    · rfl
  · rw [hterm]
    split <;> rfl

theorem evt (a : g.Noted f) (page : Nat) {bit : Nat} (hb : 28 ≤ bit ∧ bit < 32 := by decide) : (g.evt page bit).Noted f :=
  trans (g := g) ⟨rfl, rfl, fun _ _ => rfl, fun _ => rfl, fun _ => rfl, _, rfl, by simp [FMsg.isTrigger, hb]⟩ a

end Field.Noted

theorem Field.noteTriggers_noted (k : Nat) (f : Field) : (f.noteTriggers k).Noted f := by
  unfold Field.noteTriggers
  dsimp only
  have hrx (b : Bool) : (f.putb (F.TERM_SS_STAT_REFLEX k) b).Noted f := (Noted.refl f).put k
  split
  · exact (((hrx _).modSs k).put k).evt _
  · split
    · split
      · exact ((hrx _).modSs k).evt _
      · exact ((((hrx _).modSs k).evt _).modSs k).put k
    · split
      · exact ((hrx _).modSs k).put k
      · exact hrx _

theorem Field.noteOne_noticed (k : Nat) (f : Field) : (f.noteOne k).noticed = f.noticed := by
  unfold Field.noteOne Field.when Field.noteTriggers
  dsimp only
  split
  · repeat' split
    all_goals simp -implicitDefEqProofs [Field.evt, Field.modSs, Field.modTerm, Field.putb]
  · rfl

theorem Field.noteOne_noted (k : Nat) (f : Field) : (f.noteOne k).Noted f := by
  unfold Field.noteOne Field.when
  split
  · exact noteTriggers_noted k f
  · exact .refl f

/-! Driving by R25 and R332. -/

theorem Field.kept_notices (f : Field) (xs : List Announced) (ns : List Notice) : ({ f with noticed := xs, notices := ns } : Field).Kept f := by
  constructor <;> intros <;> rfl

theorem Field.tellPartner_kept (k : Nat) (f : Field) : (f.tellPartner k).Kept f := by
  unfold Field.tellPartner
  split
  · exact kept_notices f f.noticed _
  · exact .refl f

/-- A terminal that follows the action in force takes it now, at its announcement, or has taken it. -/
theorem Field.drive_kept (k : Nat) (f : Field) :
    (f.drive k).Kept f ∨ ∃ u : Field, u.Kept f ∧ (f.drive k).Kept (u.driveNow k) := by
  unfold Field.drive
  dsimp only
  split
  · exact .inr ⟨_, kept_notices f _ f.notices, .refl _⟩
  · split
    · split
      · exact .inl (.refl f)
      · exact .inr ⟨f, .refl f, .refl _⟩
    · split
      · exact .inr ⟨f, .refl f, tellPartner_kept ..⟩
      · exact .inl ((tellPartner_kept ..).trans (kept_notices f _ f.notices))

/-- A switch's protection and its count of attempts (R186, R189, R190). -/
def Field.attempts (n : Nat) (f : Field) : DoRun × Bool := ((f.term n).steady.dout, f.gb (F.TERM_DO_STAT_LATCHED n))

/-- A fresh count of attempts. -/
def freshCount (a : DoRun × Bool) : DoRun × Bool := ({ a.1 with tries := 0, thermTries := 0, ovl := false, thm := a.1.hot }, false)

theorem still_latched : ∀ n < 32, (F.TERM_DO_STAT_LATCHED n).still = true := by decide

theorem Field.Kept.attempts {f g : Field} (a : g.Kept f) {n : Nat} (hn : n < 32) : g.attempts n = f.attempts n := by
  unfold Field.attempts
  rw [a.term, Field.gb_eq, a.img _ (still_latched n hn)]
  rfl

theorem Field.Kept.want {f g : Field} (a : g.Kept f) (n : Nat) : (g.term n).want = (f.term n).want :=
  show (g.term n).steady.want = (f.term n).steady.want by rw [a.term]

theorem Field.Kept.level {f g : Field} (a : g.Kept f) (n : Nat) : (g.term n).level = (f.term n).level :=
  show (g.term n).steady.level = (f.term n).steady.level by rw [a.term]

theorem Field.term_freshAttempts (n k : Nat) (f : Field) :
    (f.freshAttempts k).term n =
      if n = k then { f.term n with dout := { (f.term n).dout with tries := 0, thermTries := 0, ovl := false, thm := (f.term n).dout.hot } }
      else f.term n := by
  have hput (g : Field) (x : Fld) : (g.put x 0).term n = g.term n := rfl
  rw [Field.freshAttempts, hput, Field.modDout]
  split
  · next hn => rw [hn, Field.term_modTerm_same]
  · next hn => rw [Field.term_modTerm_other _ _ hn]

theorem Field.attempts_freshAttempts (n : Nat) (f : Field) : (f.freshAttempts n).attempts n = freshCount (f.attempts n) := by
  have hlatched : (f.freshAttempts n).gb (F.TERM_DO_STAT_LATCHED n) = false := by
    rw [Field.gb_eq, Field.freshAttempts, Field.g_put_same _ _ _ rfl]
    rfl
  unfold Field.attempts
  rw [hlatched, term_freshAttempts, if_pos rfl]
  rfl

theorem clear_latched {n k : Nat} (h : n ≠ k) : (F.TERM_DO_STAT_LATCHED n).clear (F.TERM_DO_STAT_LATCHED k) = true := by
  have hhome (m : Nat) : regHome (R.TERM_DO_STAT m) = 0x2034 + 256 * m := by
    unfold regHome R.TERM_DO_STAT
    rw [if_neg (by omega)]
  simp only [Fld.clear, F.TERM_DO_STAT_LATCHED, hhome, Bool.or_eq_true, decide_eq_true_eq]
  omega

theorem Field.attempts_freshAttempts_other {n k : Nat} (h : n ≠ k) (f : Field) : (f.freshAttempts k).attempts n = f.attempts n := by
  have hlatched : (f.freshAttempts k).gb (F.TERM_DO_STAT_LATCHED n) = f.gb (F.TERM_DO_STAT_LATCHED n) := by
    rw [Field.gb_eq, Field.freshAttempts, Field.g_put_clear _ _ _ _ rfl (clear_latched h)]
    rfl
  unfold Field.attempts
  rw [hlatched, term_freshAttempts, if_neg h]

theorem Field.attempts_startsAfresh (n k : Nat) (a : Act) (f : Field) :
    (f.startsAfresh k a).attempts n = f.attempts n ∨
      (k = n ∧ (f.term n).want = none ∧ a.level ≠ none ∧ (f.startsAfresh k a).attempts n = freshCount (f.attempts n)) := by
  unfold Field.startsAfresh Field.when
  split
  · next hc =>
    simp only [Bool.and_eq_true, Option.isNone_iff_eq_none, Option.isSome_iff_ne_none] at hc
    by_cases hn : n = k
    · subst hn
      exact .inr ⟨rfl, hc.1, hc.2, attempts_freshAttempts n f⟩
    · exact .inl (attempts_freshAttempts_other hn f)
  · exact .inl rfl

theorem Field.term_takesAct (n k : Nat) (a : Act) (shown : Option Act) (f : Field) :
    (f.takesAct k a shown).term n =
      if n = k then { f.term n with want := a.level, level := (shown.getD (f.delivered k a)).level } else f.term n := by
  unfold Field.takesAct
  split
  · next hn => rw [hn, Field.term_modTerm_same]
  · next hn => rw [Field.term_modTerm_other _ _ hn]

theorem Field.attempts_takesAct (n k : Nat) (a : Act) (shown : Option Act) (f : Field) : (f.takesAct k a shown).attempts n = f.attempts n := by
  unfold Field.attempts
  rw [term_takesAct]
  split <;> rfl

theorem Field.want_startsAfresh (n k : Nat) (a : Act) (f : Field) : ((f.startsAfresh k a).term n).want = (f.term n).want := by
  unfold Field.startsAfresh Field.when
  split
  · rw [term_freshAttempts]
    split <;> rfl
  · rfl

section
variable {n : Nat} (hn : n < 32) (k : Nat) (f : Field)
include hn

/-- Driving leaves a switch's count of attempts, or starts it afresh where the switch was off and is to turn on. -/
theorem Field.attempts_driveNow :
    (f.driveNow k).attempts n = f.attempts n ∨
      (k = n ∧ (f.term n).want = none ∧ (f.act n).level ≠ none ∧ (f.driveNow k).attempts n = freshCount (f.attempts n)) := by
  unfold Field.driveNow
  split
  · rw [(f.driveDo_kept k (f.act k) none).attempts hn, attempts_takesAct]
    refine (attempts_startsAfresh n k (f.act k) f).imp_right fun ⟨hk, hw, ha, hf⟩ => ⟨hk, hw, hk ▸ ha, hf⟩
  · split
    · rw [(f.driveAo_kept k (f.act k) none).attempts hn, attempts_takesAct]
      exact .inl rfl
    · exact .inl rfl

omit hn in
theorem Field.want_driveNow : ((f.driveNow k).term n).want = (f.term n).want ∨ ((f.driveNow k).term n).want = (f.act n).level := by
  have htakes (g : Field) (hg : (g.term n).want = (f.term n).want) :
      ((g.takesAct k (f.act k) none).term n).want = (f.term n).want ∨ ((g.takesAct k (f.act k) none).term n).want = (f.act n).level := by
    rw [term_takesAct]
    split
    · next h => exact .inr (h ▸ rfl)
    · exact .inl hg
  unfold Field.driveNow
  split
  · rw [(f.driveDo_kept k (f.act k) none).want]
    exact htakes _ (want_startsAfresh ..)
  · split
    · rw [(f.driveAo_kept k (f.act k) none).want]
      exact htakes _ rfl
    · exact .inl rfl

omit hn in
theorem Field.driveNow_sameAct : (f.driveNow k).SameAct f := by
  unfold Field.driveNow
  split
  · exact .driveDo ..
  · split
    · exact .driveAo ..
    · exact .refl f

omit hn in
theorem Field.drive_sameAct : (f.drive k).SameAct f := by
  rcases f.drive_kept k with h | ⟨u, hu, h⟩
  · exact .of_kept h
  · exact (SameAct.of_kept h).trans ((u.driveNow_sameAct k).trans (.of_kept hu))

theorem Field.attempts_drive :
    (f.drive k).attempts n = f.attempts n ∨
      (k = n ∧ (f.term n).want = none ∧ (f.act n).level ≠ none ∧ (f.drive k).attempts n = freshCount (f.attempts n)) := by
  rcases f.drive_kept k with h | ⟨u, hu, h⟩
  · exact .inl (h.attempts hn)
  · rw [h.attempts hn, ← hu.attempts hn, ← hu.want, ← (SameAct.of_kept hu).act hn]
    exact u.attempts_driveNow hn k

theorem Field.want_drive : ((f.drive k).term n).want = (f.term n).want ∨ ((f.drive k).term n).want = (f.act n).level := by
  rcases f.drive_kept k with h | ⟨u, hu, h⟩
  · exact .inl (h.want n)
  · rw [h.want, ← hu.want, ← (SameAct.of_kept hu).act hn]
    exact u.want_driveNow k

omit hn in
theorem Field.drive_out : (f.drive k).out = f.out := by
  have hnow (u : Field) : (u.driveNow k).out = u.out := by
    unfold Field.driveNow
    split
    · rw [(u.driveDo_kept k _ none).out]
      unfold Field.startsAfresh Field.when
      split <;> rfl
    · split
      · rw [(u.driveAo_kept k _ none).out]
        rfl
      · rfl
  rcases f.drive_kept k with h | ⟨u, hu, h⟩
  · exact h.out
  · rw [h.out, hnow, hu.out]

end

/-! Settling. -/

/-- What settling outputs leaves of the field die. -/
structure Field.Settled (g f : Field) : Prop where
  cfg : g.cfg = f.cfg
  img : ∀ x : Fld, x.undriven = true → x.untriggered = true → g.g x = f.g x
  out : ∃ es, g.out = f.out ++ es ∧ es.all FMsg.isTrigger = true

namespace Field.Settled

variable {f g h : Field}

theorem trans (a : h.Settled g) (b : g.Settled f) : h.Settled f := by
  obtain ⟨es, hes, hall⟩ := a.out
  obtain ⟨es', hes', hall'⟩ := b.out
  refine ⟨a.cfg.trans b.cfg, fun x hx hy => (a.img x hx hy).trans (b.img x hx hy), es' ++ es, ?_, ?_⟩
  · rw [hes, hes', List.append_assoc]
  · rw [List.all_append, hall, hall', Bool.and_self]

theorem of_noted (a : g.Noted f) : g.Settled f := ⟨a.cfg, fun x _ hx => a.img x hx, a.out⟩

theorem drive (k : Nat) (f : Field) : (f.drive k).Settled f :=
  ⟨(f.drive_sameAct k).cfg, fun x hx _ => (f.drive_sameAct k).img x hx, [], by rw [f.drive_out, List.append_nil], rfl⟩

theorem settle (k : Nat) (f : Field) : (f.settle k).Settled f := by
  unfold Field.settle
  split
  · exact (drive ..).trans ((drive ..).trans (of_noted ((Field.noteOne_noted ..).trans (Field.noteOne_noted ..))))
  · exact (drive ..).trans (of_noted (Field.noteOne_noted ..))

end Field.Settled

theorem untriggered_latched : ∀ n < 32, (F.TERM_DO_STAT_LATCHED n).untriggered = true := by decide

theorem Field.Noted.attempts {f g : Field} (a : g.Noted f) {n : Nat} (hn : n < 32) : g.attempts n = f.attempts n := by
  have hdout : (g.term n).steady.dout = (f.term n).steady.dout :=
    show (g.term n).driving.steady.dout = (f.term n).driving.steady.dout by rw [a.term]
  unfold Field.attempts
  rw [hdout, Field.gb_eq, a.img _ (untriggered_latched n hn)]
  rfl

theorem Field.Noted.want {f g : Field} (a : g.Noted f) (n : Nat) : (g.term n).want = (f.term n).want :=
  show (g.term n).driving.want = (f.term n).driving.want by rw [a.term]

/-- A switch that was to be on before keeps its count of attempts as its terminal settles. -/
theorem Field.attempts_settle {n : Nat} (hn : n < 32) (f : Field) (hw : (f.term n).want ≠ none) :
    (f.settle n).attempts n = f.attempts n := by
  have hfirst (g : Field) (hg : g.Noted f) : (g.drive n).attempts n = f.attempts n := by
    rcases g.attempts_drive hn n with h | ⟨-, hnone, -⟩
    · rw [h, hg.attempts hn]
    · exact absurd (hg.want n ▸ hnone) hw
  unfold Field.settle
  split
  · next m hm =>
    have hg := (Field.noteOne_noted m (f.noteOne n)).trans (Field.noteOne_noted n f)
    generalize (f.noteOne n).noteOne m = g at hg ⊢
    rcases (g.drive n).attempts_drive hn m with h | ⟨-, hnone, hact, -⟩
    · rw [h, hfirst g hg]
    · rw [(g.drive_sameAct n).act hn] at hact
      rcases g.want_drive hn n with hkept | htaken
      · exact absurd ((hg.want n).symm.trans (hkept.symm.trans hnone)) hw
      · exact absurd (htaken.symm.trans hnone) hact
  · exact hfirst _ (Field.noteOne_noted n f)

/-- A fresh count of attempts stays as the terminal settles. -/
theorem Field.attempts_settle_fresh {n : Nat} (hn : n < 32) (f : Field) (hfresh : freshCount (f.attempts n) = f.attempts n) :
    (f.settle n).attempts n = f.attempts n := by
  have hdrive (k : Nat) (g : Field) (hg : g.attempts n = f.attempts n) : (g.drive k).attempts n = f.attempts n := by
    rcases g.attempts_drive hn k with h | ⟨-, -, -, h⟩
    · rw [h, hg]
    · rw [h, hg, hfresh]
  unfold Field.settle
  split
  · exact hdrive _ _ (hdrive _ _ (((Field.noteOne_noted ..).trans (Field.noteOne_noted ..)).attempts hn))
  · exact hdrive _ _ ((Field.noteOne_noted ..).attempts hn)

end Sys2Proof.Machine
end

section
/-! The switched outputs' protection, command by command (R185, R186, R188, R189, R190). -/

namespace Sys2Proof.Machine

open Sys2Proof

/-- A message that sets an event bit or waits for a frame of its own. -/
def FMsg.isMark : FMsg → Bool
  | .evt _ bit _ _ _ => decide (bit < 32)
  | .fault _ | .record _ => true
  | _ => false

theorem FMsg.isMark_of_waits {m : FMsg} (h : waits m = true) : m.isMark = true := by
  cases m with
  | fault | record => rfl
  | _ => exact absurd h Bool.false_ne_true

theorem FMsg.isMark_of_isTrigger {m : FMsg} (h : m.isTrigger = true) : m.isMark = true := by
  cases m with
  | evt page bit p2 inj quiet =>
    simp only [isTrigger, decide_eq_true_eq] at h
    simp only [isMark, decide_eq_true_eq]
    omega
  | _ => exact absurd h Bool.false_ne_true

theorem clear_evtRaw {p p' b b' : Nat} (h : ¬(p = p' ∧ b = b')) : (Fld.mk (R.EVT_RAW p) b 1).clear ⟨R.EVT_RAW p', b', 1⟩ = true := by
  have hhome (q : Nat) : regHome (R.EVT_RAW q) = q * 256 + 3 := by
    unfold regHome R.EVT_RAW
    rw [if_neg (by omega)]
  simp only [Fld.clear, hhome, Bool.or_eq_true, decide_eq_true_eq]
  omega

/-- An event bit that is set stays while marks are taken. -/
theorem takeMsg_mark_evt {m : FMsg} (hm : m.isMark = true) (t p b : Nat) (hb : b < 32) (l : Logic)
    (h : l.gb ⟨R.EVT_RAW p, b, 1⟩ = true) : (takeMsg t m l).gb ⟨R.EVT_RAW p, b, 1⟩ = true := by
  cases m with
  | evt p' b' q i u =>
    simp only [FMsg.isMark, decide_eq_true_eq] at hm
    rw [takeMsg, Logic.gb, Logic.setEvt_regs]
    change (l.put ⟨R.EVT_RAW p', b', 1⟩ 1).gb _ = true
    rw [Logic.gb_eq]
    by_cases hs : p = p' ∧ b = b'
    · obtain ⟨rfl, rfl⟩ := hs
      rw [Logic.g_put_same _ _ _ (by simp only [Fld.fits, decide_eq_true_eq]; omega)]
      rfl
    · rw [Logic.g_put_clear _ _ _ _ (by simp only [Fld.fits, decide_eq_true_eq]; omega) (clear_evtRaw hs)]
      exact h
  | fault | record => exact h
  | _ => exact absurd hm Bool.false_ne_true

theorem takeMsgs_mark_evt {ms : List FMsg} (hms : ∀ m ∈ ms, m.isMark = true) (t p b : Nat) (hb : b < 32) (l : Logic)
    (h : l.gb ⟨R.EVT_RAW p, b, 1⟩ = true) : (ms.foldl (fun l m => takeMsg t m l) l).gb ⟨R.EVT_RAW p, b, 1⟩ = true := by
  induction ms generalizing l with
  | nil => exact h
  | cons m ms ih =>
    exact ih (fun m hm => hms m (List.mem_cons_of_mem _ hm)) _ (takeMsg_mark_evt (hms m List.mem_cons_self) t p b hb l h)

/-- An event that the field die tells among marks shows on the logic die. -/
theorem drain_evt (s : State) (hl : s.ld.linkUp = true) (hms : ∀ m ∈ s.fd.out, m.isMark = true) {p b q : Nat} {i u : Bool} (hb : b < 32)
    (hmem : .evt p b q i u ∈ s.fd.out) : (drain s).ld.gb ⟨R.EVT_RAW p, b, 1⟩ = true := by
  obtain ⟨before, after, hout⟩ := List.append_of_mem hmem
  rw [drain_ld s hl, hout, List.foldl_append, List.foldl_cons]
  refine takeMsgs_mark_evt (fun m hm => hms m (by simp [hout, hm])) _ p b hb _ ?_
  rw [takeMsg, Logic.gb, Logic.setEvt_regs]
  change (Logic.put _ _ _).gb _ = true
  rw [Logic.gb_eq, Logic.g_put_same _ _ _ (by simp only [Fld.fits, decide_eq_true_eq]; omega)]
  rfl

/-! An output without a tie, outside a pair. -/

theorem Field.tied_none {n : Nat} {f : Field} (h : f.cb (F.TERM_DO_CFG_TIE_EN n) = false) : f.tied n = none := by
  simp [Field.tied, h]

theorem untriggered_func : ∀ n < 32, (F.TERM_CELLSTAT_FUNC_ACT n).untriggered = true := by decide

theorem Field.Noted.func {f g : Field} (a : g.Noted f) {n : Nat} (hn : n < 32) : g.func n = f.func n :=
  a.img _ (untriggered_func n hn)

/-- A switch without a tie, outside a pair, settles by taking the action in force. -/
theorem Field.settle_alone {n : Nat} (hn : n < 32) (f : Field) (hf : f.func n = 2) (ht : f.tied n = none) (hp : f.paired = false) :
    ∃ u : Field, u.Noted f ∧ f.settle n = u.driveDo n (u.act n) none := by
  have hnoted := f.noteOne_noted n
  refine ⟨{ f.noteOne n with noticed := (f.noteOne n).noticed.filter fun x => x.n != n },
    ⟨hnoted.cfg, hnoted.paired, hnoted.img, hnoted.stay, hnoted.term, hnoted.out⟩, ?_⟩
  have hannounces : (f.noteOne n).announces n = false := by simp [Field.announces, hnoted.paired, hp]
  have hfunc : Field.func n { f.noteOne n with noticed := (f.noteOne n).noticed.filter fun x => x.n != n } = 2 := (hnoted.func hn).trans hf
  simp only [Field.settle, ht, Field.drive, hannounces, Bool.not_false, if_true, Field.driveNow, hfunc, isDo, beq_self_eq_true]

/-- Of rank 1 is only the switch-off below UV (R25). -/
theorem Field.ownAct_level_of_rank {n : Nat} {f : Field} (h : (f.ownAct n).rank = 1) : (f.ownAct n).level = none := by
  have hhost : (f.hostAct n).rank ≠ 1 := by
    unfold Field.hostAct
    dsimp only
    repeat' split
    all_goals simp
  revert h
  unfold Field.ownAct
  repeat' split
  all_goals simp [hhost]

/-- A protection of a switch holds its level down. -/
theorem Field.delivered_protected {n : Nat} {f : Field} (hf : f.func n = 2) (a : Act) (ha : a.rank = 1 → a.level = none)
    (hp : f.doProtected n = true) : (f.delivered n a).level = none := by
  unfold Field.delivered
  split
  · next h => exact ha h
  · simp [Field.protected_, hf, isDo, hp]

theorem clear_on : ∀ n < 32, [F.TERM_DO_STAT_CAUSE n, F.TERM_DO_STAT_CMD n, F.TERM_DO_STAT_TIED n, F.TERM_SS_STAT_ACTIVE n].all
    (F.TERM_DO_STAT_ON n).clear = true := by decide

/-- A switch whose level falls away is off. -/
theorem Field.driveDo_off {n : Nat} (hn : n < 32) (a : Act) (f : Field) (h : ((f.startsAfresh n a).delivered n a).level = none) :
    (f.driveDo n a none).gb (F.TERM_DO_STAT_ON n) = false := by
  have hput (y : Fld) (v : Nat) (g : Field) (hfits : y.fits = true)
      (hy : y ∈ [F.TERM_DO_STAT_CAUSE n, F.TERM_DO_STAT_CMD n, F.TERM_DO_STAT_TIED n, F.TERM_SS_STAT_ACTIVE n] := by simp) :
      (g.put y v).g (F.TERM_DO_STAT_ON n) = g.g (F.TERM_DO_STAT_ON n) :=
    g.g_put_clear _ _ _ hfits (List.all_eq_true.mp (clear_on n hn) y hy)
  unfold Field.driveDo
  rw [← Field.startsAfresh]
  dsimp only [Option.getD_none]
  rw [h, Field.gb_eq]
  simp only [Field.putb]
  rw [hput _ _ _ rfl, hput _ _ _ rfl, hput _ _ _ rfl, hput _ _ _ rfl, Field.g_put_same _ _ _ rfl]
  rfl

/-- What holds a switch off: REVERSE, or a protection of one that was to be on. -/
def Field.barred (n : Nat) (f : Field) : Prop :=
  f.gb (F.TERM_DO_STAT_REVERSE n) = true ∨ (f.term n).want ≠ none ∧ ((f.term n).dout.ovl = true ∨ (f.term n).dout.thm = true)

theorem undriven_reverse : ∀ n < 32, (F.TERM_DO_STAT_REVERSE n).undriven = true := by decide

theorem untriggered_reverse : ∀ n < 32, (F.TERM_DO_STAT_REVERSE n).untriggered = true := by decide

/-- A switch that protection holds off turns off as it settles (R186). -/
theorem Field.settle_barred {n : Nat} (hn : n < 32) (f : Field) (hf : f.func n = 2) (ht : f.cb (F.TERM_DO_CFG_TIE_EN n) = false)
    (hp : f.paired = false) (hoff : f.barred n) :
    ((f.settle n).term n).level = none ∧ (f.settle n).gb (F.TERM_DO_STAT_ON n) = false := by
  obtain ⟨u, hu, hsettle⟩ := f.settle_alone hn hf (tied_none ht) hp
  have htu : u.tied n = none := tied_none (by rw [Field.cb, hu.cfg]; exact ht)
  have hrank : (u.act n).rank = 1 → (u.act n).level = none := by
    rw [Field.act, htu]
    exact ownAct_level_of_rank
  generalize u.act n = a at hrank hsettle
  have hsame := SameAct.startsAfresh n a u
  have hprot : (u.startsAfresh n a).doProtected n = true := by
    rcases hoff with hrev | ⟨hw, hd⟩
    · have : (u.startsAfresh n a).gb (F.TERM_DO_STAT_REVERSE n) = true := by
        rw [Field.gb_eq, hsame.img _ (undriven_reverse n hn), hu.img _ (untriggered_reverse n hn)]
        exact hrev
      simp [Field.doProtected, this]
    · have hkeep : u.startsAfresh n a = u := by
        have hwu : (u.term n).want ≠ none := hu.want n ▸ hw
        simp [Field.startsAfresh, Field.when, Option.isNone_eq_false_iff.mpr (Option.isSome_iff_ne_none.mpr hwu)]
      have hdout : (u.term n).dout = (f.term n).dout :=
        show (u.term n).driving.dout = (f.term n).driving.dout by rw [hu.term]
      rcases hd with h | h <;> simp [Field.doProtected, hkeep, hdout, h]
  have hlevel := delivered_protected ((hsame.func hn).trans ((hu.func hn).trans hf)) a hrank hprot
  rw [hsettle]
  refine ⟨?_, driveDo_off hn a u hlevel⟩
  rw [(u.driveDo_kept n a none).level, term_takesAct, if_pos rfl]
  exact hlevel

/-! A flag of a switched output. -/

/-- The flags of a switched output that its protection sets. -/
def protectionFlds (n : Nat) : List Fld :=
  [F.TERM_DO_STAT_REVERSE n, F.TERM_DO_STAT_OVERLOAD n, F.TERM_DO_STAT_THERMAL n, F.TERM_DO_STAT_LATCHED n]

theorem fits_protectionFlds (n : Nat) : (protectionFlds n).all Fld.fits = true := rfl

theorem clear_func_protection : ∀ n < 32, (protectionFlds n).all (F.TERM_CELLSTAT_FUNC_ACT n).clear = true := by decide

section
variable (n : Nat) (x : Fld) (bit : Nat) (inj : Bool) (f : Field)

theorem Field.doFlag_cfg : (f.doFlag n x bit inj).cfg = f.cfg := by simp [Field.doFlag, Field.doFault, Field.fault, Field.evt]

theorem Field.doFlag_paired : (f.doFlag n x bit inj).paired = f.paired := by simp [Field.doFlag, Field.doFault, Field.fault, Field.evt]

theorem Field.doFlag_terms : (f.doFlag n x bit inj).terms = f.terms := by simp [Field.doFlag, Field.doFault, Field.fault, Field.evt]

theorem Field.doFlag_img : (f.doFlag n x bit inj).img = (f.put x 1).img := by simp [Field.doFlag, Field.doFault, Field.fault, Field.evt]

theorem Field.doFlag_out :
    ∃ e, (f.doFlag n x bit inj).out = f.out ++ [.evt (R.pageTERM n) bit 0 inj false, .fault e] := by
  simp [Field.doFlag, Field.doFault, Field.fault, Field.evt, Field.tell]

theorem Field.doFlag_g (y : Fld) : (f.doFlag n x bit inj).g y = (f.put x 1).g y := by
  rw [Field.g, doFlag_img]
  rfl

theorem Field.doFlag_term (m : Nat) : (f.doFlag n x bit inj).term m = f.term m := by
  rw [Field.term, doFlag_terms]
  rfl

end

theorem Field.doFlag_func {n : Nat} (hn : n < 32) {x : Fld} (hx : x ∈ protectionFlds n) (bit : Nat) (inj : Bool) (f : Field) :
    (f.doFlag n x bit inj).func n = f.func n :=
  (f.doFlag_g ..).trans <| f.g_put_clear _ _ _ (List.all_eq_true.mp (fits_protectionFlds n) x hx)
    (List.all_eq_true.mp (clear_func_protection n hn) x hx)

/-- The field die tells an event among marks. -/
structure Field.Tells (page bit : Nat) (f : Field) : Prop where
  marks : ∀ m ∈ f.out, m.isMark = true
  evt : ∃ q i u, .evt page bit q i u ∈ f.out

theorem Field.tells_of_append {page bit : Nat} {f g : Field} {es : List FMsg} (h : f.Tells page bit) (hout : g.out = f.out ++ es)
    (hes : ∀ m ∈ es, m.isMark = true) : g.Tells page bit := by
  obtain ⟨hmarks, q, i, u, hmem⟩ := h
  refine ⟨fun m hm => ?_, q, i, u, hout ▸ List.mem_append_left es hmem⟩
  rw [hout, List.mem_append] at hm
  exact hm.elim (hmarks m) (hes m)

theorem Field.Tells.settle {page bit : Nat} {f : Field} (h : f.Tells page bit) (n : Nat) : (f.settle n).Tells page bit := by
  obtain ⟨es, hes, hall⟩ := (Settled.settle n f).out
  exact tells_of_append h hes fun m hm => FMsg.isMark_of_isTrigger (List.all_eq_true.mp hall m hm)

theorem Field.Tells.doFlag {page bit : Nat} {f : Field} (h : f.Tells page bit) (n : Nat) (x : Fld) {b : Nat} (hb : b < 32) (inj : Bool) :
    (f.doFlag n x b inj).Tells page bit := by
  obtain ⟨e, he⟩ := f.doFlag_out n x b inj
  exact tells_of_append h he (by simp [FMsg.isMark, hb])

theorem Field.tells_doFlag {f : Field} (h : f.out.all waits = true) (n : Nat) (x : Fld) {b : Nat} (hb : b < 32) (inj : Bool) :
    (f.doFlag n x b inj).Tells (R.pageTERM n) b := by
  obtain ⟨e, he⟩ := f.doFlag_out n x b inj
  refine ⟨?_, 0, inj, false, by simp [he]⟩
  have hwaits (m : FMsg) (hm : m ∈ f.out) : m.isMark = true := FMsg.isMark_of_waits (List.all_eq_true.mp h m hm)
  simpa [he, or_imp, forall_and, FMsg.isMark, hb] using hwaits

theorem Field.Tells.drain {s : State} {page bit : Nat} (h : s.fd.Tells page bit) (hl : s.ld.linkUp = true) (hb : bit < 32) :
    (drain s).ld.gb ⟨R.EVT_RAW page, bit, 1⟩ = true := by
  obtain ⟨hmarks, q, i, u, hmem⟩ := h
  exact drain_evt s hl hmarks hb hmem

/-! REVERSE (R185). -/

theorem settled_protection : ∀ n < 32, [F.TERM_DO_STAT_REVERSE n, F.TERM_DO_STAT_OVERLOAD n, F.TERM_DO_STAT_THERMAL n,
    F.TERM_DO_COUNT_OVERLOADS n].all (fun x => x.undriven && x.untriggered) = true := by decide

/-- The flags of a switch but LATCHED, and its count of overloads, stay as it settles. -/
theorem Field.g_settle {n : Nat} (hn : n < 32) (k : Nat) (f : Field) {x : Fld}
    (hx : x ∈ [F.TERM_DO_STAT_REVERSE n, F.TERM_DO_STAT_OVERLOAD n, F.TERM_DO_STAT_THERMAL n, F.TERM_DO_COUNT_OVERLOADS n] := by simp) :
    (f.settle k).g x = f.g x := by
  obtain ⟨hd, ht⟩ := Bool.and_eq_true_iff.mp (List.all_eq_true.mp (settled_protection n hn) x hx)
  exact (Settled.settle k f).img x hd ht

section
variable {s : State} {n : Terminal} (hup : s.up)
include hup

/-- A command of the field die, with the link up. -/
theorem exec_of_runField {i : Instr} {h : Field → Field} (hi : exec i s = runField h s) {p : State → Prop}
    (hp : p (drain { s with fd := h s.fd })) : Answers (exec i s) p :=
  ⟨_, hi.trans (runField_up h s hup.1 hup.2.1), hp⟩

theorem reverseDetected_turnsOff (hf : s.fd.func n = 2) (hon : s.fd.gb (F.TERM_DO_STAT_ON n) = true)
    (ht : s.fd.cb (F.TERM_DO_CFG_TIE_EN n) = false) (hp : s.fd.paired = false) :
    Answers (exec (.reverseDetected n) s) fun t => t.fd.gb (F.TERM_DO_STAT_REVERSE n) = true ∧ (t.fd.term n).level = none ∧
      t.fd.gb (F.TERM_DO_STAT_ON n) = false ∧ t.ld.gb ⟨R.EVT_RAW (R.pageTERM n), 17, 1⟩ = true ∧ t.fd.cfg = s.fd.cfg := by
  refine exec_of_runField hup (h := Field.reverse n false) rfl ?_
  have hset : s.fd.reverse n false = (s.fd.doFlag n (F.TERM_DO_STAT_REVERSE n) 17 false).settle n := by simp [Field.reverse, hf, isDo, hon]
  have hflag : (s.fd.doFlag n (F.TERM_DO_STAT_REVERSE n) 17 false).gb (F.TERM_DO_STAT_REVERSE n) = true := by
    rw [Field.gb_eq, Field.doFlag_g, Field.g_put_same _ _ _ rfl]
    rfl
  have hoff := Field.settle_barred n.isLt (s.fd.doFlag n (F.TERM_DO_STAT_REVERSE n) 17 false)
    ((s.fd.doFlag_func n.isLt (by simp [protectionFlds]) 17 false).trans hf) (by rw [Field.cb, Field.doFlag_cfg]; exact ht)
    ((s.fd.doFlag_paired ..).trans hp) (.inl hflag)
  simp only [drain_fd_at_gb, drain_fd_at_term, drain_fd_cfg, hset]
  refine ⟨?_, hoff.1, hoff.2, ?_, (Field.Settled.settle ..).cfg.trans (s.fd.doFlag_cfg ..)⟩
  · rw [Field.gb_eq, Field.g_settle n.isLt]
    exact hflag
  · exact ((Field.tells_doFlag hup.2.2 n _ (by decide) false).settle n).drain hup.2.1 (by decide)

end

end Sys2Proof.Machine
end

section
/-! Reversal, overload and thermal protection of switched outputs, and their retries (R185, R188, R189, R190). -/

namespace Sys2Proof.Machine

open Sys2Proof

theorem Field.modDout_eq (n : Nat) (c : DoRun → DoRun) (f : Field) : f.modDout n c = f.setTerm n { f.term n with dout := c (f.term n).dout } := rfl

@[simp] theorem Field.modDout_cfg (n : Nat) (c : DoRun → DoRun) (f : Field) : (f.modDout n c).cfg = f.cfg := by simp [modDout_eq, Field.setTerm]

@[simp] theorem Field.modDout_img (n : Nat) (c : DoRun → DoRun) (f : Field) : (f.modDout n c).img = f.img := by simp [modDout_eq, Field.setTerm]

@[simp] theorem Field.modDout_paired (n : Nat) (c : DoRun → DoRun) (f : Field) : (f.modDout n c).paired = f.paired := by
  simp [modDout_eq, Field.setTerm]

@[simp] theorem Field.modDout_out (n : Nat) (c : DoRun → DoRun) (f : Field) : (f.modDout n c).out = f.out := by simp [modDout_eq, Field.setTerm]

@[simp] theorem Field.modDout_term (n : Nat) (c : DoRun → DoRun) (f : Field) :
    (f.modDout n c).term n = { f.term n with dout := c (f.term n).dout } := by simp [Field.modDout]

@[simp] theorem Field.modDout_g (n : Nat) (c : DoRun → DoRun) (f : Field) (x : Fld) : (f.modDout n c).g x = f.g x := by
  rw [Field.g, modDout_img]
  rfl

/-! What tripping a protection does before the output settles: it sets flags, tells events and counts. -/

/-- What a step of a protection's trip does to a switched output. -/
structure Field.Trips (n : Nat) (g f : Field) : Prop where
  cfg : g.cfg = f.cfg
  paired : g.paired = f.paired
  func : g.func n = f.func n
  want : (g.term n).want = (f.term n).want
  flag : ∀ x ∈ protectionFlds n, f.gb x = true → g.gb x = true
  tells : ∀ page bit, f.Tells page bit → g.Tells page bit

theorem clear_protection : ∀ n < 32, ∀ x ∈ protectionFlds n, ∀ y ∈ protectionFlds n, x = y ∨ x.clear y = true := by decide

theorem clear_overloads : ∀ n < 32, (F.TERM_CELLSTAT_FUNC_ACT n :: protectionFlds n).all (fun x =>
    x.clear (F.TERM_DO_COUNT_OVERLOADS n) && x.clear (F.TERM_DO_COUNT_THERMALS n) && (F.TERM_DO_COUNT_OVERLOADS n).clear x) = true := by decide

namespace Field.Trips

variable {n : Nat} {f g h : Field}

theorem refl (f : Field) : f.Trips n f := ⟨rfl, rfl, rfl, rfl, fun _ _ h => h, fun _ _ h => h⟩

theorem trans (a : h.Trips n g) (b : g.Trips n f) : h.Trips n f where
  cfg := a.cfg.trans b.cfg
  paired := a.paired.trans b.paired
  func := a.func.trans b.func
  want := a.want.trans b.want
  flag x hx h := a.flag x hx (b.flag x hx h)
  tells p b' h := a.tells p b' (b.tells p b' h)

theorem doFlag (hn : n < 32) (f : Field) {x : Fld} (hx : x ∈ protectionFlds n) {bit : Nat} (hb : bit < 32) (inj : Bool) :
    (f.doFlag n x bit inj).Trips n f where
  cfg := f.doFlag_cfg ..
  paired := f.doFlag_paired ..
  func := f.doFlag_func hn hx bit inj
  want := by rw [f.doFlag_term]
  flag y hy h := by
    have hfits := List.all_eq_true.mp (fits_protectionFlds n) x hx
    rw [Field.gb_eq, f.doFlag_g]
    rcases clear_protection n hn y hy x hx with rfl | hc
    · rw [Field.g_put_same _ _ _ hfits]
      revert hx
      simp only [protectionFlds, List.mem_cons, List.not_mem_nil, or_false]
      rintro (rfl | rfl | rfl | rfl) <;> rfl
    · rw [Field.g_put_clear _ _ _ _ hfits hc]
      exact h
  tells _ _ h := h.doFlag n x hb inj

theorem bump (hn : n < 32) (f : Field) {x : Fld} (hx : x = F.TERM_DO_COUNT_OVERLOADS n ∨ x = F.TERM_DO_COUNT_THERMALS n) :
    (f.bump x).Trips n f := by
  have hfits : x.fits = true := by rcases hx with rfl | rfl <;> rfl
  have hclear (y : Fld) (hy : y ∈ F.TERM_CELLSTAT_FUNC_ACT n :: protectionFlds n) : y.clear x = true := by
    have h := List.all_eq_true.mp (clear_overloads n hn) y hy
    simp only [Bool.and_eq_true] at h
    rcases hx with rfl | rfl
    · exact h.1.1
    · exact h.1.2
  exact {
    cfg := by simp
    paired := by simp
    func := f.g_bump_clear _ _ hfits (hclear _ List.mem_cons_self)
    want := by simp [Field.term]
    flag := fun y hy h => by
      rw [Field.gb_eq, f.g_bump_clear _ _ hfits (hclear y (List.mem_cons_of_mem _ hy))]
      exact h
    tells := fun _ _ h => ⟨by simpa using h.marks, by simpa using h.evt⟩ }

theorem modDout (f : Field) (c : DoRun → DoRun) : (f.modDout n c).Trips n f where
  cfg := by simp
  paired := by simp
  func := by simp [Field.func]
  want := by simp
  flag x _ h := by rw [Field.gb_eq, modDout_g]; exact h
  tells _ _ h := ⟨by simpa using h.marks, by simpa using h.evt⟩

theorem when (a : g.Trips n f) (c : Bool) {c' : Field → Field} (hc : ∀ g, (c' g).Trips n g) : (g.when c c').Trips n f := by
  cases c
  · exact a
  · exact (hc g).trans a

end Field.Trips

/-! What each command leaves of the field die. -/

/-- A trip of a protection, before the output settles: no attempts left latch the switch. -/
def Field.tripped (n : Nat) (limit made : Nat) (f : Field) : Field := f.when (!attemptsLeft limit made) (Field.latch n false)

theorem Field.tripped_trips {n : Nat} (hn : n < 32) (limit made : Nat) (f : Field) : (f.tripped n limit made).Trips n f :=
  (Trips.refl f).when _ fun g => .doFlag hn g (by simp [protectionFlds]) (by decide) _

theorem Field.tripped_term (n m limit made : Nat) (f : Field) : (f.tripped n limit made).term m = f.term m := by
  unfold Field.tripped Field.when
  split
  · exact f.doFlag_term ..
  · rfl

theorem Field.tripped_latched {n limit made : Nat} {f : Field} (h : attemptsLeft limit made = false) :
    (f.tripped n limit made).gb (F.TERM_DO_STAT_LATCHED n) = true := by
  rw [Field.tripped, h, Field.gb_eq]
  change ((f.doFlag n (F.TERM_DO_STAT_LATCHED n) 19 false).g _ != 0) = true
  rw [f.doFlag_g, Field.g_put_same _ _ _ rfl]
  rfl

theorem clear_count_latched : ∀ n < 32, (F.TERM_DO_COUNT_OVERLOADS n).clear (F.TERM_DO_STAT_LATCHED n) = true := by decide

theorem Field.tripped_overloads {n : Nat} (hn : n < 32) (limit made : Nat) (f : Field) :
    (f.tripped n limit made).g (F.TERM_DO_COUNT_OVERLOADS n) = f.g (F.TERM_DO_COUNT_OVERLOADS n) := by
  unfold Field.tripped Field.when
  split
  · exact (f.doFlag_g ..).trans (f.g_put_clear _ _ _ rfl (clear_count_latched n hn))
  · rfl

/-- A protection that trips turns the switch off, and shows what it set. -/
theorem Field.settle_tripped {n : Nat} (hn : n < 32) {f g : Field} (h : g.Trips n f) (hf : f.func n = 2)
    (ht : f.cb (F.TERM_DO_CFG_TIE_EN n) = false) (hp : f.paired = false) (hw : (f.term n).want ≠ none)
    (hd : (g.term n).dout.ovl = true ∨ (g.term n).dout.thm = true) :
    ((g.settle n).term n).level = none ∧ (g.settle n).attempts n = g.attempts n := by
  have hwg : (g.term n).want ≠ none := h.want ▸ hw
  refine ⟨(g.settle_barred hn (h.func.trans hf) ?_ (h.paired.trans hp) (.inr ⟨hwg, hd⟩)).1, g.attempts_settle hn hwg⟩
  rw [Field.cb, h.cfg]
  exact ht

theorem Field.latched_of_attempts {n : Nat} {f g : Field} (h : g.attempts n = f.attempts n) :
    g.gb (F.TERM_DO_STAT_LATCHED n) = f.gb (F.TERM_DO_STAT_LATCHED n) := congrArg Prod.snd h

theorem Field.dout_of_attempts {n : Nat} {f g : Field} (h : g.attempts n = f.attempts n) :
    (g.term n).steady.dout = (f.term n).steady.dout := congrArg Prod.fst h

/-- The overload that the end of the fold-back time finds, before the output settles. -/
def Field.overloads (n : Nat) (f : Field) : Field :=
  ((((f.modDout n fun d => { d with cut := none }).doFlag n (F.TERM_DO_STAT_OVERLOAD n) 13 false).bump (F.TERM_DO_COUNT_OVERLOADS n)).modDout n
    fun d => { d with ovl := true, fold := false })

theorem Field.overloads_trips {n : Nat} (hn : n < 32) (f : Field) : (f.overloads n).Trips n f :=
  (Trips.modDout _ _).trans ((Trips.bump hn _ (.inl rfl)).trans
    ((Trips.doFlag hn _ (by simp [protectionFlds]) (by decide) false).trans (Trips.modDout f _)))

theorem Field.c_of_cfg {f g : Field} (h : g.cfg = f.cfg) (x : Fld) : g.c x = f.c x := by
  rw [Field.c, h]
  rfl

theorem Field.foldback_eq {n : Nat} {f : Field} (hf : f.func n = 2) (hon : f.gb (F.TERM_DO_STAT_ON n) = true)
    (hfold : (f.term n).dout.fold = true) :
    f.foldback n false = ((f.overloads n).tripped n (f.c (F.TERM_DO_PROT_RETRY_N n)) (f.term n).dout.tries).settle n := by
  unfold Field.foldback
  simp only [hf, isDo, beq_self_eq_true, hon, hfold, Bool.true_or, Bool.and_true, if_true]
  unfold Field.overload
  dsimp only
  rw [Field.c_of_cfg (f := f) (by simp [Field.doFlag_cfg]), Field.modDout_term]
  rfl

theorem clear_count_overload : ∀ n < 32, (F.TERM_DO_COUNT_OVERLOADS n).clear (F.TERM_DO_STAT_OVERLOAD n) = true := by decide

theorem Field.overloads_count {n : Nat} (hn : n < 32) (f : Field) :
    (f.overloads n).g (F.TERM_DO_COUNT_OVERLOADS n) =
      min (2 ^ (F.TERM_DO_COUNT_OVERLOADS n).len - 1) (f.g (F.TERM_DO_COUNT_OVERLOADS n) + 1) := by
  rw [Field.overloads, modDout_g, Field.g_bump_same _ _ rfl, Field.doFlag_g, Field.g_put_clear _ _ _ _ rfl (clear_count_overload n hn),
    modDout_g]

theorem Field.doFlag_shows {n : Nat} {x : Fld} (hx : x ∈ protectionFlds n) (bit : Nat) (inj : Bool) (f : Field) :
    (f.doFlag n x bit inj).gb x = true := by
  have hfits := List.all_eq_true.mp (fits_protectionFlds n) x hx
  rw [Field.gb_eq, f.doFlag_g, Field.g_put_same _ _ _ hfits]
  simp only [protectionFlds, List.mem_cons, List.not_mem_nil, or_false] at hx
  rcases hx with rfl | rfl | rfl | rfl <;> rfl

theorem Field.overloads_shows {n : Nat} (hn : n < 32) (f : Field) : (f.overloads n).gb (F.TERM_DO_STAT_OVERLOAD n) = true :=
  ((Trips.modDout _ _).trans (Trips.bump hn _ (.inl rfl))).flag _ (by simp [protectionFlds]) (doFlag_shows (by simp [protectionFlds]) ..)

/-- The thermal trip of a switch, before its output settles (R190). -/
def Field.overheats (n : Nat) (f : Field) : Field :=
  let f := (f.doFlag n (F.TERM_DO_STAT_THERMAL n) 14 false).bump (F.TERM_DO_COUNT_THERMALS n)
  f.modDout n fun d => { d with thm := true, hot := true, cut := if d.fold then some f.time else none }

theorem Field.overheats_trips {n : Nat} (hn : n < 32) (f : Field) :
    (f.overheats n).Trips n (f.doFlag n (F.TERM_DO_STAT_THERMAL n) 14 false) := by
  unfold Field.overheats
  dsimp only
  exact (Trips.modDout _ _).trans (Trips.bump hn _ (.inr rfl))

theorem Field.thermalTrip_eq {n : Nat} {f : Field} (hf : f.func n = 2) (hw : (f.term n).want.isSome = true)
    (ht : (f.term n).dout.thm = false) :
    f.thermalTrip n false = ((f.overheats n).tripped n (f.c (F.TERM_DO_PROT_THERM_N n)) (f.term n).dout.thermTries).settle n := by
  unfold Field.thermalTrip
  simp -implicitDefEqProofs only [hf, isDo, beq_self_eq_true, hw, ht, Bool.not_false, Bool.and_true, if_true]
  rw [Field.c_of_cfg (f := f) (by simp [Field.doFlag_cfg])]
  rfl

section
variable {s : State} {n : Terminal} (hup : s.up)
include hup

theorem reverseCleared_clears :
    Answers (exec (.reverseCleared n) s) fun t => t.fd.gb (F.TERM_DO_STAT_REVERSE n) = false ∧ t.fd.cfg = s.fd.cfg := by
  refine exec_of_runField hup (h := Field.reverseEnd n) rfl ?_
  simp only [drain_fd_at_gb, drain_fd_cfg]
  unfold Field.reverseEnd
  split
  · have hset := Field.Settled.settle n (s.fd.put (F.TERM_DO_STAT_REVERSE n) 0)
    refine ⟨?_, hset.cfg⟩
    rw [Field.gb_eq, Field.g_settle n.isLt, Field.g_put_same _ _ _ rfl]
    rfl
  · next h => exact ⟨Bool.eq_false_iff.mpr h, rfl⟩

theorem currentLimit_atLimit (hf : s.fd.func n = 2) (hon : s.fd.gb (F.TERM_DO_STAT_ON n) = true) :
    Answers (exec (.currentLimitRegulation n .atLimit) s) fun t => t.fd.gb (F.TERM_DO_STAT_LIMIT n) = true ∧
      (t.fd.term n).dout.fold = true ∧ (t.fd.term n).level = (s.fd.term n).level := by
  refine exec_of_runField hup (h := Field.limitRegulation n .atLimit false) rfl ?_
  simp only [drain_fd_at_gb, drain_fd_at_term, Field.limitRegulation, hf, isDo, beq_self_eq_true, hon, if_true, Field.modDout_term]
  refine ⟨?_, trivial, by simp [Field.term, Field.evt]⟩
  rw [Field.gb_eq, Field.modDout_g]
  change ((s.fd.put (F.TERM_DO_STAT_LIMIT n) 1).g _ != 0) = true
  rw [Field.g_put_same _ _ _ rfl]
  rfl

theorem currentLimit_bothEnded (hf : s.fd.func n = 2) :
    Answers (exec (.currentLimitRegulation n .bothEnded) s) fun t => t.fd.gb (F.TERM_DO_STAT_LIMIT n) = false ∧
      (t.fd.term n).dout.fold = false := by
  refine exec_of_runField hup (h := Field.limitRegulation n .bothEnded false) rfl ?_
  simp only [drain_fd_at_gb, drain_fd_at_term, Field.limitRegulation, hf, isDo, beq_self_eq_true, if_true, Field.modDout_term]
  refine ⟨?_, trivial⟩
  rw [Field.gb_eq, Field.modDout_g, Field.g_put_same _ _ _ rfl]
  rfl

theorem foldbackExpiry_turnsOff (hf : s.fd.func n = 2) (hon : s.fd.gb (F.TERM_DO_STAT_ON n) = true)
    (hw : (s.fd.term n).want.isSome = true) (hfold : (s.fd.term n).dout.fold = true) (ht : s.fd.cb (F.TERM_DO_CFG_TIE_EN n) = false)
    (hp : s.fd.paired = false) :
    Answers (exec (.foldbackExpiry n) s) fun t => t.fd.gb (F.TERM_DO_STAT_OVERLOAD n) = true ∧ (t.fd.term n).level = none ∧
      t.fd.g (F.TERM_DO_COUNT_OVERLOADS n) = min (2 ^ (F.TERM_DO_COUNT_OVERLOADS n).len - 1) (s.fd.g (F.TERM_DO_COUNT_OVERLOADS n) + 1) ∧
      (attemptsLeft (s.fd.c (F.TERM_DO_PROT_RETRY_N n)) (s.fd.term n).dout.tries = false → t.fd.gb (F.TERM_DO_STAT_LATCHED n) = true) := by
  refine exec_of_runField hup (h := Field.foldback n false) rfl ?_
  simp only [drain_fd_at_gb, drain_fd_at_g, drain_fd_at_term, Field.foldback_eq hf hon hfold]
  generalize s.fd.c (F.TERM_DO_PROT_RETRY_N n) = limit
  generalize (s.fd.term n).dout.tries = made
  have htrip := (s.fd.overloads n).tripped_trips n.isLt limit made
  have hovl : (((s.fd.overloads n).tripped n limit made).term n).dout.ovl = true := by
    rw [Field.tripped_term, Field.overloads, Field.modDout_term]
  obtain ⟨hlevel, hattempts⟩ := Field.settle_tripped n.isLt (htrip.trans (s.fd.overloads_trips n.isLt)) hf ht hp
    (Option.isSome_iff_ne_none.mp hw) (.inl hovl)
  refine ⟨?_, hlevel, ?_, fun h => ?_⟩
  · rw [Field.gb_eq, Field.g_settle n.isLt]
    exact htrip.flag _ (by simp [protectionFlds]) (s.fd.overloads_shows n.isLt)
  · rw [Field.g_settle n.isLt, Field.tripped_overloads n.isLt, s.fd.overloads_count n.isLt]
  · rw [Field.latched_of_attempts hattempts]
    exact Field.tripped_latched h

theorem thermalTrip_turnsOff (hf : s.fd.func n = 2) (hw : (s.fd.term n).want.isSome = true) (hthm : (s.fd.term n).dout.thm = false)
    (ht : s.fd.cb (F.TERM_DO_CFG_TIE_EN n) = false) (hp : s.fd.paired = false) :
    Answers (exec (.thermalTrip n) s) fun t => t.fd.gb (F.TERM_DO_STAT_THERMAL n) = true ∧ (t.fd.term n).dout.hot = true ∧
      (t.fd.term n).level = none ∧ t.ld.gb ⟨R.EVT_RAW (R.pageTERM n), 14, 1⟩ = true := by
  refine exec_of_runField hup (h := Field.thermalTrip n false) rfl ?_
  simp only [drain_fd_at_gb, drain_fd_at_term, Field.thermalTrip_eq hf hw hthm]
  generalize s.fd.c (F.TERM_DO_PROT_THERM_N n) = limit
  generalize (s.fd.term n).dout.thermTries = made
  have htrip := ((s.fd.overheats n).tripped_trips n.isLt limit made).trans (s.fd.overheats_trips n.isLt)
  have hdout : (((s.fd.overheats n).tripped n limit made).term n).dout.thm = true ∧
      (((s.fd.overheats n).tripped n limit made).term n).dout.hot = true := by
    rw [Field.tripped_term, Field.overheats, Field.modDout_term]
    exact ⟨rfl, rfl⟩
  obtain ⟨hlevel, hattempts⟩ := Field.settle_tripped n.isLt
    (htrip.trans (.doFlag n.isLt s.fd (by simp [protectionFlds]) (by decide) false)) hf ht hp (Option.isSome_iff_ne_none.mp hw) (.inr hdout.1)
  refine ⟨?_, ?_, hlevel, ?_⟩
  · rw [Field.gb_eq, Field.g_settle n.isLt]
    exact htrip.flag _ (by simp [protectionFlds]) (Field.doFlag_shows (by simp [protectionFlds]) ..)
  · exact (congrArg DoRun.hot (Field.dout_of_attempts hattempts)).trans hdout.2
  · exact ((htrip.tells _ _ (Field.tells_doFlag hup.2.2 n _ (by decide) false)).settle n).drain hup.2.1 (by decide)

theorem overloadRetry_tries (hf : s.fd.func n = 2) (ho : (s.fd.term n).dout.ovl = true)
    (hl : s.fd.gb (F.TERM_DO_STAT_LATCHED n) = false) (hw : (s.fd.term n).want.isSome = true) :
    Answers (exec (.overloadRetry n) s) fun t => (t.fd.term n).dout.ovl = false ∧
      (t.fd.term n).dout.tries = (s.fd.term n).dout.tries + 1 ∧ t.fd.cfg = s.fd.cfg := by
  refine exec_of_runField hup (h := Field.overloadRetry n) rfl ?_
  simp only [drain_fd_at_term, drain_fd_cfg, Field.overloadRetry, hf, isDo, beq_self_eq_true, ho, hl, hw, Bool.not_false, Bool.and_true, if_true]
  have hset (g : Field) (hg : g = s.fd.modDout n fun d => { d with ovl := false, tries := d.tries + 1 }) :
      ((g.settle n).term n).steady.dout = (g.term n).steady.dout := by
    refine Field.dout_of_attempts (g.attempts_settle n.isLt ?_)
    rw [hg, Field.modDout_term]
    exact Option.isSome_iff_ne_none.mp hw
  have hdout := hset _ rfl
  rw [Field.modDout_term] at hdout
  exact ⟨congrArg DoRun.ovl hdout, congrArg DoRun.tries hdout, (Field.Settled.settle ..).cfg.trans (Field.modDout_cfg ..)⟩

theorem channelCooled_cools (hf : s.fd.func n = 2) (hh : (s.fd.term n).dout.hot = true) :
    Answers (exec (.channelCooled n) s) fun t => (t.fd.term n).dout.hot = false ∧ t.fd.gb (F.TERM_DO_STAT_THERMAL n) = false ∧
      (t.fd.term n).level = (s.fd.term n).level := by
  refine exec_of_runField hup (h := Field.cooled n) rfl ?_
  simp only [drain_fd_at_gb, drain_fd_at_term, Field.cooled, hf, isDo, beq_self_eq_true, hh, Bool.and_true, if_true]
  have hterm (g : Field) (x : Fld) (m : Nat) : (g.put x 0).term m = g.term m := by simp [Field.term]
  rw [hterm, Field.modDout_term, Field.gb_eq, Field.g_put_same _ _ _ rfl]
  exact ⟨rfl, rfl, rfl⟩

theorem thermalRetry_tries (hf : s.fd.func n = 2) (ht : (s.fd.term n).dout.thm = true)
    (hl : s.fd.gb (F.TERM_DO_STAT_LATCHED n) = false) (hw : (s.fd.term n).want.isSome = true) :
    Answers (exec (.thermalRetry n) s) fun t => (t.fd.term n).dout.thm = false ∧
      (t.fd.term n).dout.thermTries = (s.fd.term n).dout.thermTries + 1 := by
  refine exec_of_runField hup (h := Field.thermalRetry n) rfl ?_
  simp only [drain_fd_at_term, Field.thermalRetry, hf, isDo, beq_self_eq_true, ht, hl, hw, Bool.not_false, Bool.and_true, if_true]
  have hcool : ((s.fd.cooled n).term n).want = (s.fd.term n).want ∧ ((s.fd.cooled n).term n).dout.thermTries = (s.fd.term n).dout.thermTries := by
    have hterm (g : Field) (x : Fld) (m : Nat) : (g.put x 0).term m = g.term m := by simp [Field.term]
    unfold Field.cooled
    split
    · rw [hterm, Field.modDout_term]
      exact ⟨rfl, rfl⟩
    · exact ⟨rfl, rfl⟩
  have hset (g : Field) (hg : g = (s.fd.cooled n).modDout n fun d => { d with thm := false, thermTries := d.thermTries + 1 }) :
      ((g.settle n).term n).steady.dout = (g.term n).steady.dout := by
    refine Field.dout_of_attempts (g.attempts_settle n.isLt ?_)
    rw [hg, Field.modDout_term, hcool.1]
    exact Option.isSome_iff_ne_none.mp hw
  have hdout := hset _ rfl
  rw [Field.modDout_term] at hdout
  exact ⟨congrArg DoRun.thm hdout, (congrArg DoRun.thermTries hdout).trans (congrArg (· + 1) hcool.2)⟩

end

end Sys2Proof.Machine
end

section
/-! One word of a session on a terminal's page: from the frame to the field die (R8, R54, R246, R247, R303). -/

namespace Sys2Proof.Machine

open Sys2Proof

/-- The logic die as a frame that is served hands it on: it has counted the frame and, with a counter, accepted it. -/
structure Logic.Framed (a b : Logic) : Prop where
  regs : ∀ y, regHome y ≠ R.HOST_FRAMES → a.regs.word y = b.regs.word y
  linkUp : a.linkUp = b.linkUp
  bar : a.bar = b.bar
  boot : a.boot = b.boot
  mode : a.mode = b.mode
  pair : a.pair = b.pair
  ferr : a.host.ferr = false

namespace Logic.Framed

variable {a b : Logic}

theorem get (h : a.Framed b) {x : Fld} (hx : regHome x.addr ≠ R.HOST_FRAMES) : x.get a.regs = x.get b.regs := by
  rw [Fld.get, h.regs _ hx]
  rfl

theorem gb (h : a.Framed b) {x : Fld} (hx : regHome x.addr ≠ R.HOST_FRAMES) : a.gb x = b.gb x := by
  rw [Logic.gb, h.get hx]
  rfl

end Logic.Framed

theorem Logic.openFrame_framed (l : Logic) : l.openFrame.Framed l := by
  refine ⟨fun y hy => ?_, rfl, rfl, rfl, rfl, rfl, rfl⟩
  exact word_write_other l.regs _ hy

theorem Logic.Framed.setSess {a b : Logic} (h : a.Framed b) (x : SessionRun) : ({ a with sess := x } : Logic).Framed b :=
  ⟨h.regs, h.linkUp, h.bar, h.boot, h.mode, h.pair, h.ferr⟩

/-- Without an overlap of sessions, accepting a counter below the warning notes it in the session alone (R303, R304). -/
theorem Logic.acceptCtr_alone (l : Logic) (x : Session) {ctr : Nat} (hold : l.sess.old = none) (hctr : ctr < 0xFFFF0000) :
    l.acceptCtr x ctr = { l with sess := (l.acceptCtr x ctr).sess } := by
  have hfirst : decide (0xFFFF0000 ≤ ctr) = false := decide_eq_false (by omega)
  unfold Logic.acceptCtr Logic.endOverlap Logic.when
  simp only [hfirst, Bool.false_and, Bool.false_eq_true, if_false, hold, Option.map_none, Option.isSome_none]
  split
  · rw [ite_self]
  · rfl

/-- Nothing refuses a WRITE_AUTH as a whole on a port that serves, with a session (R35, R256, R260, R285, R320, R341). -/
theorem Logic.stops_writeAuth {l : Logic} (hserves : l.serves = true) (hcur : l.sess.cur.isSome = true) :
    l.openFrame.stops opWriteAuth false = [] := by
  simp only [Logic.serves, Bool.and_eq_true, Bool.not_eq_true', Bool.or_eq_true, beq_iff_eq] at hserves
  obtain ⟨⟨⟨⟨⟨⟨-, hmode⟩, hpending⟩, hrestarts⟩, hlost⟩, hbusy⟩, htesting⟩ := hserves
  have hframed := l.openFrame_framed
  have hopen : l.openFrame.framePending = l.framePending ∧ l.openFrame.hostRestarts = l.hostRestarts ∧ l.openFrame.hostLost = l.hostLost ∧
      l.openFrame.cellar = l.cellar ∧ l.openFrame.sess = l.sess ∧ l.openFrame.host.ready = l.host.ready ∧ l.openFrame.time = l.time := by
    unfold Logic.openFrame Logic.selected Logic.statusPhase Logic.framePending Logic.hostRestarts Logic.hostLost
    simp only [Logic.putWord_host, Logic.putWord_sess, Logic.putWord_cores, Logic.putWord_cellar, Logic.putWord_time, and_self]
  obtain ⟨hpending', hrestarts', hlost', hcellar, hsess, hready, htime⟩ := hopen
  have hbusy' : l.openFrame.handoverBusy = false := by
    rw [← hbusy, Logic.handoverBusy, Logic.handoverBusy, hframed.pair, hready, htime, Logic.g, hframed.get (by decide)]
    rfl
  unfold Logic.stops
  simp only [hpending', hpending, hrestarts', hrestarts, hlost', hlost, hcellar, htesting, hsess, hbusy', hframed.mode]
  have hrole : l.sess.cur.isNone = false := by simpa using hcur
  rcases hmode with (h | h) | h <;> simp [h, hrole]

/-- A word of the session that serves acts in its frame once the frame has opened and its counter is accepted (R246, R303). -/
theorem State.oneWord_takes {s : State} {ctr : Word} {a : Nat} {w : Word} (ht : s.ld.takes ctr a w)
    (act : Option Session → State → List (Nat × Nat) × State) :
    ∃ l x, l.Framed s.ld ∧ s.ld.sess.cur = some x ∧
      ∀ u : State, act (some x) { s with ld := l } = ([], u) → u.ld.boot.logic ≠ 0 →
        s.oneWord (some ctr) a w act = u.onLd (Logic.frameError opWriteAuth []) := by
  obtain ⟨hserves, hlead, haccepts, -⟩ := ht
  have hanswers := hserves
  simp only [Logic.serves, Logic.answers, Bool.and_eq_true, Bool.not_eq_true'] at hanswers
  obtain ⟨⟨⟨⟨⟨⟨⟨⟨⟨hport, hshort⟩, -⟩, htag⟩, -⟩, -⟩, -⟩, -⟩, -⟩, -⟩ := hanswers
  have hframed := s.ld.openFrame_framed
  cases hcur : s.ld.sess.cur with
  | none => simp [Logic.accepts, hcur] at haccepts
  | some x =>
    have hold : s.ld.sess.old = none := by
      cases h : s.ld.sess.old with
      | none => rfl
      | some y => simp [Logic.accepts, hcur, h] at haccepts
    simp only [Logic.accepts, hcur, hold, Bool.and_eq_true, decide_eq_true_eq] at haccepts
    obtain ⟨hctr, hlimit⟩ := haccepts
    have hlead' : s.ld.openFrame.leadReady = false := by
      rw [← hlead, Logic.leadReady, Logic.leadReady, hframed.gb (by decide), Logic.g, hframed.get (by decide)]
      rfl
    have haccept := Logic.acceptCtr_alone s.ld.openFrame x (ctr := ctr.toNat) hold hlimit
    have hstops := Logic.stops_writeAuth hserves (by rw [hcur]; rfl)
    refine ⟨s.ld.openFrame.acceptCtr x ctr.toNat, x, ?_, rfl, fun u hu hboot => ?_⟩
    · rw [haccept]
      exact hframed.setSess _
    · unfold State.oneWord
      refine (State.frame_served opWriteAuth a false _ s u false [] hport hshort hstops ?_ hboot).trans rfl
      have hopen : (s.onLd Logic.openFrame).ld = s.ld.openFrame := rfl
      have hsess : s.ld.openFrame.sess = s.ld.sess ∧ s.ld.openFrame.host.badTag = s.ld.host.badTag := by
        unfold Logic.openFrame Logic.selected Logic.statusPhase
        simp only [Logic.putWord_host, Logic.putWord_sess, and_self]
      have hjudged : s.ld.openFrame.judgedBy ctr.toNat (fun _ => false) = (some x, s.ld.openFrame) := by
        simp only [Logic.judgedBy, hsess.1, hold, hcur]
      have hlead'' : (s.ld.openFrame.acceptCtr x ctr.toNat).leadReady = false := by
        rw [haccept]
        exact hlead'
      simp only [hopen, hjudged, hctr, Bool.not_true, Bool.false_eq_true, if_false, hsess.2, htag]
      exact (if_neg (ne_true_of_eq_false hlead'')).trans hu

/-! A word of a terminal's page. -/

theorem Logic.each_same (xs : List Nat) {c : Nat → Logic → Logic} (hc : ∀ k l, (c k l).SameBut l) (l : Logic) :
    (l.each xs c).SameBut l := by
  induction xs generalizing l with
  | nil => exact .refl l
  | cons k xs ih => exact (ih (c k l)).trans (hc k l)

/-- The field die has a word that is handed to it over a link that is up, with none waiting (R8). -/
theorem State.toField_up {s : State} (a : Nat) (w : Word) (hr : s.fd.released = true) (hl : s.ld.linkUp = true) (hc : s.ld.bar.cmds = []) :
    (s.toField a w).fd = s.fd.take a w ∧ (s.toField a w).ld.SameBut s.ld := by
  have hput (l : Logic) (v : Word) : (l.putWord a v).SameBut l := by constructor <;> rfl
  have hanew (l : Logic) : (l.commandedAnew a w).SameBut l := by
    unfold Logic.commandedAnew
    split
    · exact Logic.when_same _ _ (Logic.each_same _ fun k l => l.put_same _ 0) l
    · exact .refl l
  unfold State.toField
  extract_lets m s1 s2
  have h1 : s1.fd = s.fd ∧ s1.ld.SameBut s.ld := by
    refine ⟨rfl, ?_⟩
    simp only [s1, State.onLd]
    split
    · exact .refl _
    · exact hput _ _
  have h2 : s2.fd = s.fd ∧ s2.ld.SameBut s.ld := by
    simp only [s2]
    split
    · exact h1
    · exact ⟨h1.1, (hanew _).trans h1.2⟩
  obtain ⟨hfd, hld⟩ := h2
  rw [hld.linkUp, hld.bar, hfd, hl, hr, hc]
  exact ⟨rfl, hld⟩

/-- What refuses a word of a terminal's page before the rules of the page is the same for a frame that has been counted. -/
theorem Logic.Framed.barred {a b : Logic} (h : a.Framed b) (x : Session) {y n : Nat} (w : Word) (r : RegRow) (hp : pageKind (y / 256) = .term n)
    (hy : regHome y ≠ R.HOST_FRAMES) (hlock : regHome (lockedBit (y / 256)).addr ≠ R.HOST_FRAMES) :
    a.barred (some x) y w r = b.barred (some x) y w r := by
  have hneed : x.mayWrite y w a = x.mayWrite y w b := by simp only [Session.mayWrite, Logic.needRole, hp]
  have hmerged : a.merged y w = b.merged y w := by rw [Logic.merged, h.regs y hy]; rfl
  have hlocked : a.locked (y / 256) = b.locked (y / 256) := by simp only [Logic.locked, hp, h.gb hlock]; rfl
  cases hcls : r.cls <;>
    simp only [Logic.barred, hcls, hneed, hmerged, hlocked, h.gb (x := F.DEVICE_MODE_PAIRED) (by decide)]

/-- A register of a terminal's page that a host writes, at an offset behind the head. -/
structure TermRegister (n a off : Nat) : Prop where
  page : pageKind (a / 256) = .term n
  offset : a % 256 = off
  past : 0x10 ≤ off
  home : regHome a ≠ R.HOST_FRAMES
  lock : regHome (lockedBit (a / 256)).addr ≠ R.HOST_FRAMES
  row : ∃ r, regRow a = some r ∧ r.acc ≠ .ro

/-- The same, decided. -/
def isTermRegister (n a off : Nat) : Bool :=
  decide (pageKind (a / 256) = .term n ∧ a % 256 = off ∧ 0x10 ≤ off ∧ regHome a ≠ R.HOST_FRAMES ∧
    regHome (lockedBit (a / 256)).addr ≠ R.HOST_FRAMES) && (regRow a).any fun r => r.acc != .ro

theorem termRegister {n a off : Nat} (h : isTermRegister n a off = true) : TermRegister n a off := by
  simp only [isTermRegister, Bool.and_eq_true, decide_eq_true_eq, Option.any_eq_true, bne_iff_ne] at h
  obtain ⟨⟨hpage, hoff, hpast, hhome, hlock⟩, hrow⟩ := h
  exact ⟨hpage, hoff, hpast, hhome, hlock, hrow⟩

theorem termRegister_doCmd (n : Terminal) : TermRegister n (R.TERM_DO_CMD n) 0x33 :=
  termRegister ((by decide : ∀ n : Fin 32, isTermRegister n (R.TERM_DO_CMD n) 0x33 = true) n)

theorem termRegister_doClr (n : Terminal) : TermRegister n (R.TERM_DO_CLR n) 0x3A :=
  termRegister ((by decide : ∀ n : Fin 32, isTermRegister n (R.TERM_DO_CLR n) 0x3A = true) n)

/-- The fields that the rules of a terminal's page read. -/
theorem framed_termRefuses : ∀ n < 32, [F.TERM_CELL_FUNC n, F.TERM_DO_CFG_TIE_EN n, F.TERM_DO_CFG_TIE n].all
    (fun x => regHome x.addr != R.HOST_FRAMES) = true := by decide

theorem Logic.Framed.termRefuses {l : Logic} {s : State} (h : l.Framed s.ld) {n : Nat} (hn : n < 32) (off : Nat) (w : Word) :
    ({ s with ld := l } : State).hostField.termRefuses n off w = s.hostField.termRefuses n off w := by
  have hget (x : Fld) (hx : x ∈ [F.TERM_CELL_FUNC n, F.TERM_DO_CFG_TIE_EN n, F.TERM_DO_CFG_TIE n] := by simp) :
      ({ s with ld := l } : State).hostField.c x = s.hostField.c x :=
    h.get (bne_iff_ne.mp (List.all_eq_true.mp (framed_termRefuses n hn) x hx))
  have htie : ({ s with ld := l } : State).hostField.cb (F.TERM_DO_CFG_TIE_EN n) = s.hostField.cb (F.TERM_DO_CFG_TIE_EN n) :=
    congrArg (· != 0) (hget (F.TERM_DO_CFG_TIE_EN n))
  simp only [Field.termRefuses, hget (F.TERM_CELL_FUNC n), htie, hget (F.TERM_DO_CFG_TIE n)]

/-- A session's word for a terminal commits on the field die where nothing refuses it (R8, R54). -/
theorem State.commitWord_term {s : State} {l : Logic} {x : Session} {n a off : Nat} {w : Word} (hn : n < 32) (ha : TermRegister n a off)
    (h : l.Framed s.ld) (hcur : s.ld.sess.cur = some x) (hgrants : s.ld.grants a w = true)
    (hrules : s.hostField.termRefuses n off w = none) :
    ({ s with ld := l } : State).commitWord (some x) a w = ([], ({ s with ld := l } : State).toField a w) := by
  obtain ⟨r, hrow, hacc⟩ := ha.row
  have hbarred : l.barred (some x) a w r = none := by
    rw [h.barred x w r ha.page ha.home ha.lock]
    simpa [Logic.grants, hcur, hrow] using hgrants
  have hblocked : ({ s with ld := l } : State).blocked a w = (none, { s with ld := l }) := by
    simp only [State.blocked, ha.page, ha.offset, h.termRefuses hn, hrules]
  have howned : hwOwned a = false := by simp only [hwOwned, ha.page]
  have hacts (role : Nat) (u : State) : u.actWord role a w 0#32 = (u.toField a w).did := by
    have hpast : ¬ a % 256 < 0x10 := by rw [ha.offset]; exact Nat.not_lt.mpr ha.past
    have hfield : onField a = true := by simp only [onField, ha.page]
    simp only [State.actWord, hpast, false_and, if_false, ha.page, State.storeWord, hfield, if_true]
  refine State.commitWord_done _ a w 0#32 false _ _ (by simp [ha.page]) ?_
  simp only [State.judgeWord, hrow, if_neg hacc, hbarred, howned, Bool.false_and, Bool.false_eq_true, if_false, hblocked, hacts]
  rfl

/-- A session's word for a terminal reaches the field die, and its frame ends without error. -/
theorem State.termWord_done {s : State} {n a off : Nat} {ctr w : Word} (hup : s.up) (hcmds : s.ld.bar.cmds = []) (ht : s.ld.takes ctr a w)
    (hn : n < 32) (ha : TermRegister n a off) (hrules : s.hostField.termRefuses n off w = none) :
    (s.wordFrame (some ctr) a w).fd = s.fd.take a w ∧ (s.wordFrame (some ctr) a w).ld.host.ferr = false := by
  obtain ⟨l, x, hframed, hcur, hword⟩ := State.oneWord_takes ht fun ses s => s.commitWord ses a w
  obtain ⟨hserves, -, -, hgrants⟩ := ht
  have hboot : s.ld.boot.logic ≠ 0 := by
    simp only [Logic.serves, Logic.answers, Logic.portUp, Bool.and_eq_true, decide_eq_true_eq] at hserves
    omega
  obtain ⟨hfd, hld⟩ := State.toField_up (s := { s with ld := l }) a w hup.1 (hframed.linkUp.trans hup.2.1) (by rw [hframed.bar]; exact hcmds)
  have hdone := hword _ (State.commitWord_term hn ha hframed hcur hgrants hrules) (by rw [hld.boot, hframed.boot]; exact hboot)
  have hwf : s.wordFrame (some ctr) a w = s.oneWord (some ctr) a w fun ses s => s.commitWord ses a w := rfl
  rw [hwf, hdone]
  refine ⟨hfd, ?_⟩
  change (State.toField a w { s with ld := l }).ld.host.ferr = false
  rw [hld.host]
  exact hframed.ferr

end Sys2Proof.Machine
end

section
/-! Commands of a switched output by the host (R25, R30, R186, R189). -/

namespace Sys2Proof.Machine

open Sys2Proof

/-- The field die takes a word of a terminal's page behind the head as a command of that terminal. -/
theorem Field.take_term {n a off : Nat} (h : TermRegister n a off) (w : Word) (f : Field) : f.take a w = f.takeTerm n off w := by
  have hpast := h.past
  have hinject : off ≠ 6 := by omega
  have hctrl : off ≠ 1 := by omega
  simp only [Field.take, h.page, h.offset, hinject, hctrl, false_and, if_false]

/-- What readies an output for a command of the host leaves. -/
structure Field.Readied (n : Nat) (g f : Field) : Prop where
  cfg : g.cfg = f.cfg
  noticed : g.noticed = f.noticed
  func : g.func n = f.func n
  stay : (g.term n).ss.stay = true → (f.term n).ss.stay = true

namespace Field.Readied

variable {n : Nat} {f g h : Field}

theorem refl (f : Field) : f.Readied n f := ⟨rfl, rfl, rfl, id⟩

theorem trans (a : h.Readied n g) (b : g.Readied n f) : h.Readied n f :=
  ⟨a.cfg.trans b.cfg, a.noticed.trans b.noticed, a.func.trans b.func, b.stay ∘ a.stay⟩

theorem modTerm (f : Field) (k : Nat) {c : TermRun → TermRun} (hc : ∀ t, (c t).ss.stay = true → t.ss.stay = true) :
    (f.modTerm k c).Readied n f := by
  refine ⟨rfl, rfl, rfl, fun hs => ?_⟩
  by_cases hk : n = k
  · subst hk
    rw [Field.term_modTerm_same] at hs
    exact hc _ hs
  · rwa [Field.term_modTerm_other _ _ hk] at hs

theorem freeStage (f : Field) : (f.freeStage n).Readied n f := by
  unfold Field.freeStage
  split
  · exact modTerm f n fun _ => id
  · exact .refl f

theorem endHold (f : Field) : (f.endHold n).Readied n f := by
  unfold Field.endHold
  split
  · exact modTerm f n fun _ => id
  · exact .refl f

theorem freshAttempts (hn : n < 32) (f : Field) : (f.freshAttempts n).Readied n f := by
  refine trans ?_ (modTerm f n (c := fun t => { t with dout := { t.dout with tries := 0, thermTries := 0, ovl := false, thm := t.dout.hot } })
    fun _ => id)
  exact ⟨rfl, rfl, Field.g_put_clear _ _ _ _ rfl
    (List.all_eq_true.mp (clear_func_protection n hn) (F.TERM_DO_STAT_LATCHED n) (by simp [protectionFlds])), id⟩

theorem noteOne (hn : n < 32) (f : Field) : (f.noteOne n).Readied n f :=
  have h := f.noteOne_noted n
  ⟨h.cfg, f.noteOne_noticed n, h.func hn, fun hs => h.stay n ▸ hs⟩

end Field.Readied

/-- A stay that ends is told to the logic die. -/
theorem Field.stay_ended (n : Nat) (f : Field) :
    (f.when (f.term n).ss.stay (Field.setStay n false)).Readied n f ∧
      ((f.when (f.term n).ss.stay (Field.setStay n false)).term n).ss.stay = false := by
  have hterm (g : Field) (m : FMsg) : (g.tell m).term n = g.term n := rfl
  cases hs : (f.term n).ss.stay
  · exact ⟨.refl f, hs⟩
  · have hstay : ((f.setStay n false).term n).ss.stay = false := by
      rw [Field.setStay, hterm, Field.modSs, Field.term_modTerm_same]
    exact ⟨⟨rfl, rfl, rfl, fun h => absurd (hstay.symm.trans h) Bool.false_ne_true⟩, hstay⟩

/-- A command of an untied switch: the level that R25 then gives it is what it follows. -/
theorem Field.outputCommand_follows {n : Nat} (hn : n < 32) (was : Bool) (f : Field) (hf : f.func n = 2)
    (ht : f.cb (F.TERM_DO_CFG_TIE_EN n) = false) (hx : f.noticed.any (fun y => y.n == n) = false) :
    (f.outputCommand n was).cfg = f.cfg ∧ ((f.outputCommand n was).term n).ss.stay = false ∧
      ((f.outputCommand n was).term n).want = ((f.outputCommand n was).act n).level := by
  obtain ⟨hstay, hended⟩ := f.stay_ended n
  unfold Field.outputCommand
  extract_lets f1 f2 f3
  have h1 : f1.Readied n f := hstay
  have htied (g : Field) (h : g.Readied n f) : g.tied n = none := tied_none (by rw [Field.cb, h.cfg]; exact ht)
  have heach (g : Field) (h : g.Readied n f) {c : Nat → Field → Field} (hc : ∀ g, (c n g).Readied n g) :
      (g.each (g.tieSet n) c).Readied n g := by
    simp only [Field.tieSet, htied g h]
    exact hc g
  have h2 : f2.Readied n f1 := by
    simp only [f2, Field.when]
    split
    · exact heach f1 h1 Field.Readied.endHold
    · exact .refl f1
  have h3 : f3.Readied n f1 := by
    simp only [f3, Field.when]
    split
    · exact (heach f2 (h2.trans h1) (Field.Readied.freshAttempts hn)).trans h2
    · exact h2
  have hu : (f3.noteOne n).Readied n f1 := (Field.Readied.noteOne hn f3).trans h3
  have hfree : ((f3.noteOne n).term n).ss.stay = false := Bool.eq_false_iff.mpr fun h => Bool.eq_false_iff.mp hended (hu.stay h)
  replace hu := hu.trans h1
  have hsettle : f3.settleHost n = (f3.noteOne n).driveDo n ((f3.noteOne n).act n) none := by
    have hnot : (f3.noteOne n).noticed.any (fun y => y.n == n) = false := by rw [hu.noticed]; exact hx
    have hfunc : (f3.noteOne n).func n = 2 := hu.func.trans hf
    simp only [Field.settleHost, htied f3 (h3.trans h1), Field.driveHost, hnot, Bool.false_eq_true, if_false, Field.driveNow, hfunc, isDo,
      beq_self_eq_true, if_true]
  generalize f3.noteOne n = u at hu hfree hsettle
  have hsame : (f3.settleHost n).SameAct u := hsettle ▸ .driveDo n (u.act n) none u
  refine ⟨hsame.cfg.trans hu.cfg, (congrArg SsRun.stay (hsame.ss n)).trans hfree, ?_⟩
  rw [hsame.act hn, hsettle, (u.driveDo_kept n _ none).want, term_takesAct, if_pos rfl]

/-- UNLATCH starts a fresh count of attempts, and a latched switch is tried at once (R189). -/
theorem Field.unlatch_fresh {n : Nat} (hn : n < 32) (f : Field) (hf : f.func n = 2) :
    (f.unlatch n).gb (F.TERM_DO_STAT_LATCHED n) = false ∧ ((f.unlatch n).term n).dout.tries = 0 ∧
      ((f.unlatch n).term n).dout.thermTries = 0 ∧ (f.gb (F.TERM_DO_STAT_LATCHED n) = true → ((f.unlatch n).term n).dout.ovl = false) ∧
      (f.unlatch n).cfg = f.cfg := by
  cases hl : f.gb (F.TERM_DO_STAT_LATCHED n)
  · have hcount : f.unlatch n = f.modDout n fun d => { d with tries := 0, thermTries := 0 } := by simp [Field.unlatch, hf, isDo, hl]
    rw [hcount, Field.modDout_term, Field.gb_eq, Field.modDout_g]
    exact ⟨hl, rfl, rfl, fun h => absurd h Bool.false_ne_true, Field.modDout_cfg ..⟩
  · have htry : f.unlatch n = (f.freshAttempts n).settle n := by simp [Field.unlatch, hf, isDo, hl]
    have hfresh := f.attempts_freshAttempts n
    have hkeep := (f.freshAttempts n).attempts_settle_fresh hn (by rw [hfresh]; rfl)
    rw [← htry, hfresh] at hkeep
    have hdout := dout_of_attempts (f := f.freshAttempts n) (hkeep.trans hfresh.symm)
    rw [term_freshAttempts, if_pos rfl] at hdout
    refine ⟨congrArg Prod.snd hkeep, congrArg DoRun.tries hdout, congrArg DoRun.thermTries hdout, fun _ => congrArg DoRun.ovl hdout, ?_⟩
    rw [htry]
    exact (Settled.settle ..).cfg

theorem Field.cb_of_cfg {f g : Field} (h : g.cfg = f.cfg) (x : Fld) : g.cb x = f.cb x := by
  rw [Field.cb, h]
  rfl

theorem Field.takeTerm_doCmd (n : Nat) (w : Word) (f : Field) :
    f.takeTerm n 0x33 w = ((f.store (R.TERM_DO_CMD n) w).freeStage n).outputCommand n (f.cb (F.TERM_DO_CMD_ON n)) := by
  have haddr : R.CTRL (R.pageTERM n) - 1 + 0x33 = R.TERM_DO_CMD n := by
    unfold R.CTRL R.pageTERM R.TERM_DO_CMD
    omega
  rw [← haddr]
  rfl

theorem writeMask_doCmd : ∀ n < 32, writeMask (R.TERM_DO_CMD n) = 1 := by decide

/-- The switch's command is the word that is stored (R186). -/
theorem Field.store_doCmd {n : Nat} (hn : n < 32) (on : Bool) (f : Field) :
    (f.store (R.TERM_DO_CMD n) (word (b2n on))).cb (F.TERM_DO_CMD_ON n) = on := by
  have hword (w : Word) : wbits (w &&& ~~~word 1 ||| word (b2n on) &&& word 1) 0 1 = b2n on := by
    have hbit (v : Word) : wbits v 0 1 = (v &&& 1#32).toNat := by simp [wbits, BitVec.toNat_and, Nat.and_one_is_mod]
    have hmask : ~~~word 1 &&& 1#32 = 0#32 := by decide
    rw [hbit, BitVec.and_or_distrib_right, BitVec.and_assoc, hmask, BitVec.and_zero, BitVec.zero_or]
    cases on <;> rfl
  simp only [Field.store, writeMask_doCmd n hn, Field.cb_eq, Field.c, Fld.get, F.TERM_DO_CMD_ON, word_write_same, hword]
  cases on <;> rfl

/-- It leaves the switch's ties. -/
theorem Field.store_doCmd_tie {n : Nat} (hn : n < 32) (w : Word) (f : Field) :
    (f.store (R.TERM_DO_CMD n) w).cb (F.TERM_DO_CFG_TIE_EN n) = f.cb (F.TERM_DO_CFG_TIE_EN n) := by
  have hhome : ∀ n < 32, regHome (R.TERM_DO_CFG n) ≠ regHome (R.TERM_DO_CMD n) := by decide
  simp only [Field.store, Field.cb_eq, Field.c, Fld.get, F.TERM_DO_CFG_TIE_EN, word_write_other _ _ (hhome n hn)]

theorem drain_sameAct (s : State) : (drain s).fd.SameAct s.fd where
  cfg := drain_fd_cfg s
  mode := drain_fd_mode s
  joined := drain_fd_joined s
  dropped := drain_fd_dropped s
  partAt := drain_fd_partAt s
  img x _ := drain_fd_at_g s x
  ss n := congrArg TermRun.ss (drain_fd_at_term s n)
  catch_ n := congrArg TermRun.catch_ (drain_fd_at_term s n)
  expect n := congrArg TermRun.expect (drain_fd_at_term s n)

section
variable {s : State} {n : Terminal} {ctr : Word} (hup : s.up) (hcmds : s.ld.bar.cmds = [])
include hup hcmds

theorem doCommand_follows {on : Bool} (htakes : s.ld.takes ctr (R.TERM_DO_CMD n) (word (b2n on)))
    (hrules : s.hostField.termRefuses n 0x33 (word (b2n on)) = none) (hf : s.fd.func n = 2)
    (ht : s.fd.cb (F.TERM_DO_CFG_TIE_EN n) = false) (hx : s.fd.noticed.any (fun y => y.n == n.val) = false) :
    Answers (exec (.doCommand (some ctr) n on) s) fun t => t.ld.host.ferr = false ∧ t.fd.cb (F.TERM_DO_CMD_ON n) = on ∧
      (t.fd.term n).ss.stay = false ∧ (t.fd.term n).want = (t.fd.act n).level := by
  obtain ⟨hfd, hferr⟩ := State.termWord_done hup hcmds htakes n.isLt (termRegister_doCmd n) hrules
  refine ⟨{ drain (s.wordFrame (some ctr) (R.TERM_DO_CMD n) (word (b2n on))) with pending := s.pending }, rfl, ?_⟩
  generalize s.wordFrame (some ctr) (R.TERM_DO_CMD n) (word (b2n on)) = u at hfd hferr
  rw [Field.take_term (termRegister_doCmd n), Field.takeTerm_doCmd] at hfd
  have hready := Field.Readied.freeStage (n := n) (s.fd.store (R.TERM_DO_CMD n) (word (b2n on)))
  obtain ⟨hcfg, hstay, hwant⟩ := Field.outputCommand_follows n.isLt (s.fd.cb (F.TERM_DO_CMD_ON n))
    ((s.fd.store (R.TERM_DO_CMD n) (word (b2n on))).freeStage n) (hready.func.trans hf)
    ((Field.cb_of_cfg hready.cfg _).trans ((Field.store_doCmd_tie n.isLt _ s.fd).trans ht)) (by rw [hready.noticed]; exact hx)
  refine ⟨(congrArg HostRun.ferr (drain_ld_same u).host).trans hferr, ?_, ?_, ?_⟩
  · exact (Field.cb_of_cfg ((drain_fd_cfg u).trans (hfd ▸ hcfg.trans hready.cfg)) _).trans (Field.store_doCmd n.isLt on s.fd)
  · rw [drain_fd_at_term, hfd]
    exact hstay
  · rw [drain_fd_at_term, (drain_sameAct u).act n.isLt, hfd]
    exact hwant

theorem doUnlatch_fresh (htakes : s.ld.takes ctr (R.TERM_DO_CLR n) 1#32)
    (hrules : s.hostField.termRefuses n 0x3A 1#32 = none) (hf : s.fd.func n = 2) :
    Answers (exec (.doUnlatch (some ctr) n) s) fun t => t.ld.host.ferr = false ∧ t.fd.gb (F.TERM_DO_STAT_LATCHED n) = false ∧
      (t.fd.term n).dout.tries = 0 ∧ (t.fd.term n).dout.thermTries = 0 ∧
      (s.fd.gb (F.TERM_DO_STAT_LATCHED n) = true → (t.fd.term n).dout.ovl = false) ∧ t.fd.cfg = s.fd.cfg := by
  obtain ⟨hfd, hferr⟩ := State.termWord_done hup hcmds htakes n.isLt (termRegister_doClr n) hrules
  refine ⟨{ drain (s.wordFrame (some ctr) (R.TERM_DO_CLR n) 1#32) with pending := s.pending }, rfl, ?_⟩
  generalize s.wordFrame (some ctr) (R.TERM_DO_CLR n) 1#32 = u at hfd hferr
  rw [Field.take_term (termRegister_doClr n)] at hfd
  have hclr : s.fd.takeTerm n 0x3A 1#32 = s.fd.unlatch n := rfl
  simp only [drain_fd_at_gb, drain_fd_at_term, drain_fd_cfg, hfd, hclr]
  exact ⟨(congrArg HostRun.ferr (drain_ld_same _).host).trans hferr, s.fd.unlatch_fresh n.isLt hf⟩

end

/-- Settles O31: what each command of a switched output leaves on the field die, its protection and attempts among it, and a word of the
host's session from its frame to the field die. -/
theorem switchRows : Obligations.SwitchRows := by
  refine ⟨fun s ctr n on hup hcmds _ htakes hrules hf ht _ hx => doCommand_follows hup hcmds htakes hrules hf ht hx,
    fun s n hup hf hon ht hp => reverseDetected_turnsOff hup hf hon ht hp, fun s n hup _ => reverseCleared_clears hup,
    fun s n hup hf hon => currentLimit_atLimit hup hf hon, fun s n hup hf => currentLimit_bothEnded hup hf,
    fun s n hup hf hon hw hfold ht hp => foldbackExpiry_turnsOff hup hf hon hw hfold ht hp,
    fun s n hup hf ho hl hw => overloadRetry_tries hup hf ho hl hw, fun s n hup hf hw hthm ht hp => thermalTrip_turnsOff hup hf hw hthm ht hp,
    fun s n hup hf hh => channelCooled_cools hup hf hh, fun s n hup hf ht hl hw => thermalRetry_tries hup hf ht hl hw,
    fun s ctr n hup hcmds _ htakes hrules hf => doUnlatch_fresh hup hcmds htakes hrules hf⟩

end Sys2Proof.Machine
end

section
/-! What the field die tells as it carries out the retirements that VETO held back (R396): retirements, spares that take over, slice roles,
events and faults, one lemma for each function it uses. `-implicitDefEqProofs` has simp record its steps, which the kernel would otherwise
evaluate. -/

namespace Sys2Proof.Machine

open Sys2Proof

/-- A message that writes no field of a register which the field die chooses. -/
def FMsg.reports : FMsg → Bool
  | .evt .. | .gen _ | .fault _ | .record _ | .retire .. | .spareIn .. | .defer .. | .slice .. | .segments .. | .refs .. => true
  | .clearEvt _ | .put .. | .bump _ | .selfCal .. | .dwell _ | .abort _ => false

namespace Field

/-- Nothing but reports waits on the field die. -/
def reports (f : Field) : Bool := f.out.all FMsg.reports

@[simp] theorem reports_tell (f : Field) (m : FMsg) : (f.tell m).reports = (f.reports && m.reports) := by
  simp [reports, tell, List.all_append]

/-- A change of any other field leaves that. -/
@[simp] theorem reports_mk (f : Field)
    (released configured lead paired wdArmed handover report tdacFault onFrc frcBad recBad degraded urgOver rolesBack diagGone seqsLost tnMoves
      joined bothShunts : Bool) (mode : Mode)
    (quiet rolesDown time draws trigSeen veto commits dropped tn tnMax ruleHeld : Nat) (cfg img : RegFile) (ctxs : Tab CtxRun)
    (slices : Tab SliceRun) (progs : Tab ProgRun) (trigs : List Trigger) (syncout returnAt crateHash ramp partAt : Option Nat)
    (urgReqs : List (Nat × Nat × Nat)) (deferred : List (Nat × Nat)) (rot : Rotation) (cal : CalRun) (snapq : List Snap)
    (exc : ExcRun) (terms : Tab TermRun) (steps : Tab StepRun) (groups : Tab GroupRun) (gov : Governor) (resets shutting : List Nat)
    (noticed : List Announced) (notices : List Notice) (partnerShunts : Tab Int) (crateHead : List Word) :
    ({ released, configured, mode, paired, lead, wdArmed, handover, quiet, report, rolesDown, cfg, img, out := f.out, time, draws, ctxs,
       slices, progs, trigs, trigSeen, syncout, tdacFault, onFrc, frcBad, recBad, degraded, returnAt, urgReqs, urgOver, rolesBack,
       diagGone, veto, deferred, rot, cal, snapq, exc, terms, steps, groups, ruleHeld, gov, commits, resets, shutting, seqsLost, joined,
       ramp, dropped, noticed, notices, tn, tnMax, tnMoves, partnerShunts, bothShunts, partAt, crateHash, crateHead } : Field).reports =
      f.reports := (rfl)

@[simp] theorem reports_put (f : Field) (x : Fld) (v : Nat) : (f.put x v).reports = f.reports := (rfl)
@[simp] theorem reports_putb (f : Field) (x : Fld) (b : Bool) : (f.putb x b).reports = f.reports := (rfl)
@[simp] theorem reports_bump (f : Field) (x : Fld) : (f.bump x).reports = f.reports := (rfl)
@[simp] theorem reports_draw (f : Field) : f.draw.2.reports = f.reports := (rfl)
@[simp] theorem reports_modCtx (f : Field) (n : Nat) (h : CtxRun → CtxRun) : (f.modCtx n h).reports = f.reports := (rfl)
@[simp] theorem reports_modSlice (f : Field) (n : Nat) (h : SliceRun → SliceRun) : (f.modSlice n h).reports = f.reports := (rfl)
@[simp] theorem reports_modProg (f : Field) (n : Nat) (h : ProgRun → ProgRun) : (f.modProg n h).reports = f.reports := (rfl)
@[simp] theorem reports_modRot (f : Field) (h : Rotation → Rotation) : (f.modRot h).reports = f.reports := (rfl)

@[simp] theorem reports_evt (f : Field) (p b q : Nat) (i u : Bool) : (f.evt p b q i u).reports = f.reports := by simp [evt, FMsg.reports]

@[simp] theorem reports_gen (f : Field) (p : Nat) : (f.gen p).reports = f.reports := by simp [gen, FMsg.reports]

@[simp] theorem reports_fault (f : Field) (k : Nat) (b : Bool) (p : Option Nat) (i : Bool) : (f.fault k b p i).reports = f.reports := by
  simp [fault, FMsg.reports]

@[simp] theorem reports_when (c : Bool) (h : Field → Field) (f : Field) (hh : ∀ f, (h f).reports = f.reports) :
    (f.when c h).reports = f.reports := by
  cases c
  · rfl
  · exact hh f

@[simp] theorem reports_each (ns : List Nat) (h : Nat → Field → Field) (f : Field) (hh : ∀ n f, (h n f).reports = f.reports) :
    (f.each ns h).reports = f.reports := by
  induction ns generalizing f with
  | nil => rfl
  | cons n ns ih => exact (ih (h n f)).trans (hh n f)

@[simp] theorem reports_settle (f : Field) (n : Nat) : (f.settle n).reports = f.reports := by
  obtain ⟨es, hes, hall⟩ := (Settled.settle n f).out
  have hes' : es.all FMsg.reports = true := List.all_eq_true.mpr fun m hm => by
    have := List.all_eq_true.mp hall m hm
    cases m with
    | evt => rfl
    | _ => exact absurd this Bool.false_ne_true
  simp [reports, hes, List.all_append, hes']

@[simp] theorem reports_showState (f : Field) (p : Nat) : (f.showState p).reports = f.reports := by
  simp -implicitDefEqProofs [showState, apply_ite reports]
  split <;> simp -implicitDefEqProofs

@[simp] theorem reports_drawHeld (f : Field) (k : Nat) : (f.drawHeld k).2.reports = f.reports := by
  simp -implicitDefEqProofs [drawHeld]

@[simp] theorem reports_loadChain (f : Field) (c : Nat) : (f.loadChain c).reports = f.reports := by
  unfold loadChain
  dsimp only
  repeat' split
  all_goals simp -implicitDefEqProofs

@[simp] theorem reports_resettle (f : Field) (c : Nat) : (f.resettle c).reports = f.reports := by
  simp -implicitDefEqProofs [resettle]

@[simp] theorem reports_restartSlice (f : Field) (s c : Nat) (again : Bool) :
    (f.restartSlice s c again).reports = f.reports := by
  unfold restartSlice
  dsimp only
  split <;> simp -implicitDefEqProofs

@[simp] theorem reports_unfreeze (f : Field) (s : Nat) (ch : Chain) : (f.unfreeze s ch).reports = f.reports := by
  simp -implicitDefEqProofs [unfreeze]

@[simp] theorem reports_switchTo (f : Field) (p c : Nat) (force : Bool) : (f.switchTo p c force).reports = f.reports := by
  unfold switchTo
  dsimp only
  repeat' split
  all_goals simp -implicitDefEqProofs

@[simp] theorem reports_startEntry (f : Field) (p e : Nat) (force : Bool) : (f.startEntry p e force).reports = f.reports := by
  simp -implicitDefEqProofs [startEntry]

@[simp] theorem reports_reach (f : Field) (p e : Nat) : (f.reach p e).reports = f.reports := by
  unfold reach
  split <;> simp -implicitDefEqProofs

@[simp] theorem reports_loopDone (f : Field) (p : Nat) : (f.loopDone p).reports = f.reports := by
  simp -implicitDefEqProofs [loopDone]

@[simp] theorem reports_goOn (f : Field) (p e : Nat) : (f.goOn p e).reports = f.reports := by
  unfold goOn
  split <;> simp -implicitDefEqProofs

@[simp] theorem reports_restartChains (f : Field) (p : Nat) : (f.restartChains p).reports = f.reports := by
  unfold restartChains
  split <;> simp -implicitDefEqProofs

@[simp] theorem reports_startHere (f : Field) (p : Nat) (force : Bool) : (f.startHere p force).reports = f.reports := by
  unfold startHere
  dsimp only
  split <;> simp -implicitDefEqProofs

@[simp] theorem reports_startRun (f : Field) (p : Nat) : (f.startRun p).reports = f.reports := by
  unfold startRun
  split <;> simp -implicitDefEqProofs

@[simp] theorem reports_phase (f : Field) (k : Nat) : (f.phase k).reports = f.reports := by simp -implicitDefEqProofs [phase]

@[simp] theorem reports_setRole (f : Field) (s : Nat) (h : SliceRun → SliceRun) : (f.setRole s h).reports = f.reports := by
  simp -implicitDefEqProofs [setRole, FMsg.reports]

@[simp] theorem reports_beginCal (f : Field) (k : Nat) (paused : Bool) : (f.beginCal k paused).reports = f.reports := by
  simp -implicitDefEqProofs [beginCal]

@[simp] theorem reports_startCal (f : Field) (k phase : Nat) (stage : RotStage) :
    (f.startCal k phase stage).reports = f.reports := by simp -implicitDefEqProofs [startCal]

@[simp] theorem reports_unshadow (f : Field) : f.unshadow.reports = f.reports := by
  simp -implicitDefEqProofs [unshadow]
  split <;> simp -implicitDefEqProofs [apply_ite reports]

@[simp] theorem reports_stopRotation (f : Field) : f.stopRotation.reports = f.reports := by
  simp -implicitDefEqProofs [stopRotation]

@[simp] theorem reports_startDwell (f : Field) (p : Nat) : (f.startDwell p).reports = f.reports := by
  simp -implicitDefEqProofs [startDwell]
  split <;> simp -implicitDefEqProofs [apply_ite reports]

@[simp] theorem reports_rotate (f : Field) (p : Nat) : (f.rotate p).reports = f.reports := by
  simp -implicitDefEqProofs [rotate, apply_ite reports]
  split <;> simp -implicitDefEqProofs

@[simp] theorem reports_resumeSlice (f : Field) (s : Nat) : (f.resumeSlice s).reports = f.reports := by
  simp -implicitDefEqProofs [resumeSlice]
  split <;> simp -implicitDefEqProofs [apply_ite reports]

@[simp] theorem reports_calRestart (f : Field) (k : Nat) : (f.calRestart k).reports = f.reports := by
  simp -implicitDefEqProofs [calRestart]

@[simp] theorem reports_calReturn (f : Field) (k : Nat) : (f.calReturn k).reports = f.reports := by
  simp -implicitDefEqProofs [calReturn]

@[simp] theorem reports_calAbandon (f : Field) : f.calAbandon.reports = f.reports := by
  unfold calAbandon
  split <;> simp -implicitDefEqProofs

@[simp] theorem reports_dropCal (f : Field) : f.dropCal.reports = f.reports := by
  simp -implicitDefEqProofs [dropCal]
  split <;> simp -implicitDefEqProofs [apply_ite reports]

@[simp] theorem reports_abandon (f : Field) : f.abandon.reports = f.reports := by
  unfold abandon
  dsimp only
  split <;> simp -implicitDefEqProofs

@[simp] theorem reports_stopProg (f : Field) (p : Nat) : (f.stopProg p).reports = f.reports := by
  simp -implicitDefEqProofs [stopProg]

@[simp] theorem reports_retireSlice (f : Field) (s cause src : Nat) (inj : Bool) :
    (f.retireSlice s cause src inj).reports = f.reports := by
  simp -implicitDefEqProofs [retireSlice, FMsg.reports]

@[simp] theorem reports_retireDue (f : Field) (s : Nat) (inj : Bool) : (f.retireDue s inj).reports = f.reports := by
  simp -implicitDefEqProofs [retireDue]

@[simp] theorem reports_moveRole (f : Field) (p s : Nat) (inj : Bool) : (f.moveRole p s inj).reports = f.reports := by
  simp -implicitDefEqProofs [moveRole]
  split <;> simp -implicitDefEqProofs [apply_ite reports]

@[simp] theorem reports_powerSpare (f : Field) (next heir : Bool) : (f.powerSpare next heir).reports = f.reports := by
  unfold powerSpare
  split <;> simp -implicitDefEqProofs

@[simp] theorem reports_reassign (f : Field) (ps : List Nat) : (f.reassign ps).reports = f.reports := by
  refine reports_each _ _ _ fun p f => ?_
  split <;> simp -implicitDefEqProofs

@[simp] theorem reports_sliceFails (f : Field) (s : Nat) (inj : Bool) : (f.sliceFails s inj).reports = f.reports := by
  simp -implicitDefEqProofs [sliceFails]
  split <;> simp -implicitDefEqProofs [apply_ite reports]

@[simp] theorem reports_retireSegment (f : Field) (n k cause : Nat) (inj : Bool) :
    (f.retireSegment n k cause inj).reports = f.reports := by
  unfold retireSegment
  dsimp only
  repeat' split
  all_goals simp -implicitDefEqProofs [FMsg.reports]

@[simp] theorem reports_flag (f : Field) (c bit : Nat) : (f.flag c bit).reports = f.reports := by
  simp -implicitDefEqProofs [flag]

@[simp] theorem reports_unsettleRef (f : Field) (s : Nat) : (f.unsettleRef s).reports = f.reports := by
  simp -implicitDefEqProofs [unsettleRef]

@[simp] theorem reports_retireRef (f : Field) (b cause : Nat) (inj : Bool) : (f.retireRef b cause inj).reports = f.reports := by
  simp -implicitDefEqProofs [retireRef, FMsg.reports]

/-- What VETO lets go is reported. -/
theorem reports_takeVeto (f : Field) (w : Word) : (f.takeVeto w).reports = f.reports := by
  have hdefer (xs : List (Nat × Nat)) (g : Field) : (xs.foldl (fun f x => f.tell (.defer x.1 x.2 false)) g).reports = g.reports := by
    induction xs generalizing g with
    | nil => rfl
    | cons x xs ih => exact (ih _).trans (by simp [FMsg.reports])
  simp -implicitDefEqProofs [takeVeto, apply_ite reports, hdefer]

/-- With nothing held back, VETO changes nothing more. -/
theorem takeVeto_idle (f : Field) (w : Word) (h : f.deferred = []) : (f.takeVeto w).cfg = f.cfg := by
  simp [takeVeto, h, each]

end Field

end Sys2Proof.Machine
end

section
/-! Start-up: what training shows, through the messages that cross with it (R10, R36, R396). -/

namespace Sys2Proof.Machine

open Sys2Proof

/-- What training shows: the lanes that carry traffic, and BARRIER_OK. -/
def trainingFlds : List Fld := [F.BARRIER_LINK_LANES, F.DEVICE_BOOTSTAT_BARRIER_OK]

/-- Two logic dies that show the same training. -/
structure Logic.SameTraining (a b : Logic) : Prop where
  g : ∀ x ∈ trainingFlds, a.g x = b.g x

/-- A register in which no training shows. -/
def elsewhere (a : Nat) : Bool := trainingFlds.all fun x => regHome x.addr != regHome a

theorem elsewhere_of_offset {a : Nat} (h : a % 256 ≠ 0x10 ∧ a % 256 ≠ 0x14) : elsewhere a = true := by
  have hmod := regHome_mod a
  have hlink : regHome R.BARRIER_LINK = 0x0910 := by decide
  have hstat : regHome R.DEVICE_BOOTSTAT = 0x0014 := by decide
  simp only [elsewhere, trainingFlds, F.BARRIER_LINK_LANES, F.DEVICE_BOOTSTAT_BARRIER_OK, hlink, hstat, List.all_cons, List.all_nil,
    Bool.and_true, Bool.and_eq_true, bne_iff_ne]
  omega

namespace Logic.SameTraining

variable {a b c : Logic}

theorem refl (a : Logic) : a.SameTraining a := ⟨fun _ _ => rfl⟩

theorem trans (h : c.SameTraining b) (k : b.SameTraining a) : c.SameTraining a :=
  ⟨fun x hx => (h.g x hx).trans (k.g x hx)⟩

theorem of_regs (h : b.regs = a.regs) : b.SameTraining a := ⟨fun x _ => by rw [Logic.g, h]; rfl⟩

/-- A write of another register. -/
theorem put (h : b.SameTraining a) (y : Fld) (v : Nat) (hy : elsewhere y.addr = true := by decide) : (b.put y v).SameTraining a := by
  refine trans ⟨fun x hx => ?_⟩ h
  have hne : regHome x.addr ≠ regHome y.addr := bne_iff_ne.mp (List.all_eq_true.mp hy x hx)
  exact congrArg (wbits · x.lo x.len) (Fld.word_set_other y v b.regs hne)

theorem setEvt (h : b.SameTraining a) (p bit q : Nat) (i u f : Bool) (t : Nat) (z : Option Nat) :
    (b.setEvt p bit q i u f t z).SameTraining a :=
  (of_regs (Logic.setEvt_regs ..)).trans (h.put _ _ (elsewhere_of_offset (by simp only [R.EVT_RAW]; omega)))

theorem gen (h : b.SameTraining a) (p : Nat) : (b.gen p).SameTraining a :=
  h.put _ _ (elsewhere_of_offset (by simp only [R.GEN]; omega))

theorem when (h : b.SameTraining a) (d : Bool) {d' : Logic → Logic} (hd : ∀ l, (d' l).SameTraining l) : (b.when d d').SameTraining a := by
  cases d
  · exact h
  · exact (hd b).trans h

theorem fault (h : b.SameTraining a) (k : Nat) (d : Bool) (p : Option Nat) (i : Bool) : (b.fault k d p i).SameTraining a := ⟨h.g⟩

theorem larderKeep (h : b.SameTraining a) (k : LarderStore → LarderStore) : (b.larderKeep k).SameTraining a := ⟨h.g⟩

theorem larderGen (h : b.SameTraining a) : b.larderGen.SameTraining a := by
  unfold Logic.larderGen
  split
  · exact h
  · exact gen (b := { b with larder := { b.larder with genAt := some b.time } }) ⟨h.g⟩ _

theorem fewer (h : b.SameTraining a) (k i n : Nat) (j : Bool) : (b.fewer k i n j).SameTraining a := by
  unfold Logic.fewer
  exact .when (.when (.when h _ fun l => (refl l).setEvt ..) _ fun l => (refl l).fault ..) _ fun l => (refl l).fault ..

end Logic.SameTraining

theorem Logic.retire_sameTraining (k i n : Nat) (w j : Bool) (l : Logic) : (l.retire k i n w j).SameTraining l := by
  unfold Logic.retire
  split
  · exact .refl l
  · refine .larderGen (.when (.setEvt (.put (.put (.put (.put ?_ _ _) _ _) _ _) _ _) ..) _ fun l => (SameTraining.refl l).fewer ..)
    exact (SameTraining.refl l).larderKeep _

theorem Logic.defer_sameTraining (k i : Nat) (on : Bool) (l : Logic) : (l.defer k i on).SameTraining l := by
  unfold Logic.defer
  dsimp only
  split
  · split
    · exact .refl l
    · exact .larderGen (.trans ((SameTraining.refl _).setEvt ..) (.of_regs rfl))
  · split
    · exact .larderGen (.of_regs rfl)
    · exact .refl l

/-- Reports show no training. -/
theorem takeMsg_sameTraining {m : FMsg} (hm : m.reports = true) (t : Nat) (l : Logic) : (takeMsg t m l).SameTraining l := by
  have hsame := Logic.SameTraining.refl l
  cases m with
  | evt => exact hsame.setEvt ..
  | gen =>
    simp only [takeMsg]
    split
    · exact hsame.larderGen
    · exact hsame.gen _
  | retire k i c w j => exact l.retire_sameTraining ..
  | spareIn => exact (((hsame.larderKeep _).setEvt ..).fewer ..).larderGen
  | defer k i on => exact l.defer_sameTraining ..
  | slice => exact (hsame.larderKeep _).larderGen
  | fault | record => exact hsame
  | segments | refs => exact .of_regs rfl
  | _ => exact absurd hm Bool.false_ne_true

/-- Where the field die tells nothing but reports, what training shows stays as they cross. -/
theorem drain_sameTraining (s : State) (hr : s.fd.reports = true) : (drain s).ld.SameTraining s.ld := by
  have hfold (ms : List FMsg) (hms : ms.all FMsg.reports = true) (l : Logic) :
      (ms.foldl (fun l m => takeMsg s.fd.time m l) l).SameTraining l := by
    induction ms generalizing l with
    | nil => exact .refl l
    | cons m ms ih =>
      obtain ⟨hm, hms⟩ := Bool.and_eq_true_iff.mp hms
      exact (ih hms _).trans (takeMsg_sameTraining hm _ l)
  cases hl : s.ld.linkUp with
  | false => rw [drain_ld_down s hl]; exact .refl _
  | true => rw [drain_ld s hl]; exact hfold _ hr s.ld

end Sys2Proof.Machine
end

section
/-! Start-up, step by step (R10, R11, R15, R32, R34, R36, R43). -/

namespace Sys2Proof.Machine

open Sys2Proof

/-! Clocks that run are healthy (R34). -/

theorem Logic.gb_put_one (l : Logic) (x : Fld) (hx : x.fits = true) (hlen : x.len = 1) : (l.put x 1).gb x = true := by
  rw [Logic.gb_eq, Logic.g_put_same _ _ _ hx, hlen]
  rfl

theorem Logic.gb_put_clear (l : Logic) (x y : Fld) (v : Nat) (hy : y.fits = true) (h : x.clear y = true) : (l.put y v).gb x = l.gb x :=
  congrArg (· != 0) (l.g_put_clear x y v hy h)

/-- The source and the spare HFRC show beside the clocks' health. -/
theorem Logic.showClocks_clockOk (l : Logic) {k : Nat} (hk : k < 8) : l.showClocks.gb (clockOk k) = l.gb (clockOk k) := by
  have hclear : ∀ k < 8, (clockOk k).clear F.CLOCK_SRCSTAT_LOGIC_SRC = true ∧ (clockOk k).clear F.CLOCK_SRCSTAT_HFRC_SPARE = true := by decide
  obtain ⟨hsrc, hspare⟩ := hclear k hk
  unfold Logic.showClocks
  exact (Logic.gb_put_clear _ _ _ _ rfl hspare).trans (Logic.gb_put_clear _ _ _ _ rfl hsrc)

/-- A clock that is put healthy is, whatever the others. -/
theorem Logic.put_clockOk {l : Logic} {j k : Nat} (hj : j < 8) (hk : k < 8) (h : j = k ∨ l.gb (clockOk k) = true) :
    (l.put (clockOk j) 1).gb (clockOk k) = true := by
  have hclear : ∀ j < 8, ∀ k < 8, j ≠ k → (clockOk k).clear (clockOk j) = true := by decide
  have hfits : ∀ j < 8, (clockOk j).fits = true := by decide
  by_cases hjk : j = k
  · subst hjk
    exact l.gb_put_one _ (hfits j hj) rfl
  · rw [Logic.gb_put_clear _ _ _ _ (hfits j hj) (hclear j hj k hk hjk)]
    exact h.resolve_left hjk

/-- A step of the main line that is due. -/
theorem Logic.bootStep_due {n : Nat} {l : Logic} (h : l.boot.main = n) (c : Logic → Logic) :
    l.bootStep n c = (c l).modBoot fun b => { b with main := n + 1 } := if_pos h

theorem Logic.bootStep_main {n : Nat} {l : Logic} (h : l.boot.main = n) (c : Logic → Logic) : (l.bootStep n c).boot.main = n + 1 := by
  rw [bootStep_due h]
  rfl

theorem Logic.bootStep_regs {n : Nat} {l : Logic} (h : l.boot.main = n) (c : Logic → Logic) : (l.bootStep n c).regs = (c l).regs := by
  rw [bootStep_due h]
  rfl

theorem Logic.bootStep_mram {n : Nat} {l : Logic} (h : l.boot.main = n) (c : Logic → Logic) : (l.bootStep n c).mram = (c l).mram := by
  rw [bootStep_due h]
  rfl

theorem Logic.bootStep_g {n : Nat} {l : Logic} (h : l.boot.main = n) (c : Logic → Logic) (x : Fld) : (l.bootStep n c).g x = (c l).g x := by
  rw [Logic.g, bootStep_regs h]
  rfl

theorem Logic.bootStep_gb {n : Nat} {l : Logic} (h : l.boot.main = n) (c : Logic → Logic) (x : Fld) : (l.bootStep n c).gb x = (c l).gb x :=
  congrArg (· != 0) (bootStep_g h c x)

/-- The LOCKOUT marker's counts show beside the clocks. -/
theorem clear_clockOk_counts : ∀ k < 8, (clockOk k).clear F.CELLAR_ALARMCNT_PURGE = true ∧
    (clockOk k).clear F.CELLAR_ALARMCNT_GRAVE = true := by decide

theorem Logic.resetReleased_runs (l : Logic) (h : l.boot.main = 0) :
    l.resetReleased.boot.main = 1 ∧ (∀ k ∈ [2, 3, 4], l.resetReleased.gb (clockOk k) = true) ∧ l.resetReleased.mram = l.mram := by
  unfold Logic.resetReleased
  refine ⟨Logic.bootStep_main h _, fun k hk => ?_, ?_⟩
  · simp only [List.mem_cons, List.not_mem_nil, or_false] at hk
    have hk8 : k < 8 := by omega
    obtain ⟨hpurge, hgrave⟩ := clear_clockOk_counts k hk8
    have hruns (g : Logic) : ((((g.put (clockOk 2) 1).put (clockOk 3) 1).put (clockOk 4) 1).showClocks).gb (clockOk k) = true := by
      rw [Logic.showClocks_clockOk _ hk8]
      refine Logic.put_clockOk (by decide) hk8 ?_
      rcases hk with rfl | rfl | rfl
      · exact .inr (Logic.put_clockOk (by decide) hk8 (.inr (Logic.put_clockOk (by decide) hk8 (.inl rfl))))
      · exact .inr (Logic.put_clockOk (by decide) hk8 (.inl rfl))
      · exact .inl rfl
    rw [Logic.bootStep_gb h]
    dsimp only
    split
    · exact (Logic.gb_put_clear _ _ _ _ rfl hgrave).trans ((Logic.gb_put_clear _ _ _ _ rfl hpurge).trans (hruns _))
    · exact hruns _
  · have hputs (g : Logic) : (((g.put (clockOk 2) 1).put (clockOk 3) 1).put (clockOk 4) 1).showClocks.mram = g.mram := by
      simp -implicitDefEqProofs [Logic.showClocks, Logic.putb]
    rw [Logic.bootStep_mram h]
    dsimp only
    split
    · simp -implicitDefEqProofs only [Logic.put_mram, hputs]
    · exact hputs _

/-- The straps' word gives BOOT3-BOOT0 and CLAIM (R32). -/
theorem straps_word : ∀ (b : Fin 16) (claim : Bool), wbits (word (b.val % 16 + 16 * b2n claim)) 0 4 = b.val ∧
    (wbits (word (b.val % 16 + 16 * b2n claim)) 4 1 != 0) = claim := by decide

theorem Logic.strapsLatched_shows (l : Logic) (b : Fin 16) (pads : Pads) (h : l.boot.main = 1) :
    let t := l.strapsLatched b pads
    t.boot.main = 2 ∧ t.g ⟨R.DEVICE_STRAPS, 0, 4⟩ = b ∧ t.gb F.DEVICE_STRAPS_CLAIM = pads.claim ∧ t.gb F.HOST_LEGACY_EN = nbit b 3 ∧
      t.boot.bare = pads.bare.map Fin.val := by
  unfold Logic.strapsLatched
  rw [Logic.bootStep_due h]
  obtain ⟨hboot, hclaim⟩ := straps_word b pads.claim
  have hword (x : Fld) (hx : x.addr = R.DEVICE_STRAPS) (g : Logic) :
      ((g.putWord R.DEVICE_STRAPS (word (b.val % 16 + 16 * b2n pads.claim))).putb F.HOST_LEGACY_EN (nbit b 3)).g x =
        wbits (word (b.val % 16 + 16 * b2n pads.claim)) x.lo x.len := by
    have hclear : x.clear F.HOST_LEGACY_EN = true := by
      simp only [Fld.clear, hx, Bool.or_eq_true]
      exact .inl (.inl (by decide))
    refine (Logic.g_put_clear _ _ _ _ rfl hclear).trans ?_
    rw [Logic.g, Fld.get, hx]
    exact congrArg (wbits · x.lo x.len) (word_write_same g.regs _ _)
  refine ⟨rfl, (hword ⟨R.DEVICE_STRAPS, 0, 4⟩ rfl l).trans hboot, ?_, ?_, rfl⟩
  · exact (congrArg (· != 0) (hword F.DEVICE_STRAPS_CLAIM rfl l)).trans hclaim
  · refine (congrArg (· != 0) (Logic.g_put_same _ F.HOST_LEGACY_EN _ rfl)).trans ?_
    cases nbit b 3 <;> rfl

theorem Logic.pllLocked_runs (l : Logic) (h : l.boot.main = 3) :
    l.pllLocked.boot.main = 4 ∧ ∀ k < 2, l.pllLocked.gb (clockOk k) = true := by
  unfold Logic.pllLocked
  refine ⟨Logic.bootStep_main h _, fun k hk => (Logic.bootStep_gb h _ _).trans ?_⟩
  have hshow := Logic.showClocks_clockOk ((l.put (clockOk 0) 1).put (clockOk 1) 1) (k := k) (by omega)
  refine hshow.trans (Logic.put_clockOk (by decide) (by omega) ?_)
  rcases k with _ | k
  · exact .inr (Logic.put_clockOk (by decide) (by decide) (.inl rfl))
  · exact .inl (by omega)




theorem Logic.waitOver_regs (l : Logic) (h : l.boot.main = 2) : l.waitOver.boot.main = 3 ∧ l.waitOver.regs = l.regs :=
  ⟨Logic.bootStep_main h _, Logic.bootStep_regs h _⟩

/-! Training (R10, R36, R42). -/

theorem State.takeTime_fd (s : State) : s.takeTime.fd = s.fd := by
  unfold State.takeTime
  split
  · rfl
  · dsimp only
    split <;> rfl

theorem State.takeTime_mram (s : State) : s.takeTime.ld.mram = s.ld.mram := by
  unfold State.takeTime
  split
  · rfl
  · dsimp only
    split <;> rfl

/-- What the logic die has once training has succeeded, before the link rises. -/
def Logic.trainedBy (kept frcBad : Bool) (l : Logic) : Logic :=
  let l := l.modBoot fun b => { b with field := 2, kept := kept, safe := nclr b.safe 3 }
  let nonce := Sys2Proof.Config.free l.draws
  let l := { l with draws := l.draws + 1 }.modBar fun b => { b with
    logic := { peerReset := true }, field := { peerReset := !kept }, nonce := nonce, key := some (Sys2Proof.Config.linkKey nonce) }
  let l := (l.put F.BARRIER_LINK_LANES l.mram.larder.lanes).putb F.BARRIER_LINK_SINGLE (decide ((nbits 3 l.mram.larder.lanes).length < 2))
  ((l.bump ⟨R.BARRIER_LANEERR_B, 16, 16⟩).put F.DEVICE_BOOTSTAT_BARRIER_OK 1).putb (clockOk 5) (!frcBad)

/-- The field die's peer has been reset. -/
def Logic.seesPeer (l : Logic) : Logic := ((l.evt R.pageDEVICE 2).evt R.pageBARRIER 4).fault 37 false

theorem State.linkTrained_ld_eq (s : State) :
    s.linkTrained.ld = ((s.takeTime.ld.trainedBy s.fd.released s.takeTime.fd.frcBad).linkRises).when s.fd.released Logic.seesPeer := rfl

theorem State.linkTrained_fd_eq (s : State) :
    s.linkTrained.fd = if s.fd.released then ({ s.takeTime.fd with recBad := false } : Field).takeVeto 0#32
      else { s.takeTime.fd with recBad := false } := rfl

theorem Logic.trainedBy_shows (kept frcBad : Bool) (l : Logic) :
    (l.trainedBy kept frcBad).g F.BARRIER_LINK_LANES = l.mram.larder.lanes % 2 ^ F.BARRIER_LINK_LANES.len ∧
      (l.trainedBy kept frcBad).gb F.DEVICE_BOOTSTAT_BARRIER_OK = true ∧ (l.trainedBy kept frcBad).boot.field = 2 := by
  unfold Logic.trainedBy
  extract_lets l1 nonce l2 l3
  refine ⟨?_, ?_, rfl⟩
  · have hlanes : l3.g F.BARRIER_LINK_LANES = l.mram.larder.lanes % 2 ^ F.BARRIER_LINK_LANES.len :=
      (Logic.g_put_clear _ _ F.BARRIER_LINK_SINGLE _ rfl (by decide)).trans (Logic.g_put_same _ _ _ rfl)
    calc _ = _ := Logic.g_put_clear _ _ (clockOk 5) _ rfl (by decide)
      _ = _ := Logic.g_put_clear _ _ F.DEVICE_BOOTSTAT_BARRIER_OK _ rfl (by decide)
      _ = _ := Logic.g_bump_clear _ _ ⟨R.BARRIER_LANEERR_B, 16, 16⟩ rfl (by decide)
      _ = _ := hlanes
  · exact (Logic.gb_put_clear _ _ (clockOk 5) _ rfl (by decide)).trans (Logic.gb_put_one _ _ rfl rfl)

theorem Logic.evt_kept (p b : Nat) (l : Logic) : (l.evt p b).linkUp = l.linkUp ∧ (l.evt p b).boot = l.boot ∧ (l.evt p b).SameTraining l := by
  unfold Logic.evt
  refine ⟨setEvt_linkUp .., (Logic.setEvt_same ..).boot, (SameTraining.refl l).setEvt ..⟩

theorem Logic.linkRises_up (l : Logic) : l.linkRises.linkUp = true ∧ l.linkRises.boot = l.boot ∧ l.linkRises.SameTraining l := by
  unfold Logic.linkRises
  split
  · next h => exact ⟨h, rfl, .refl l⟩
  · obtain ⟨hup, hboot, hsame⟩ := Logic.evt_kept R.pageBARRIER 1 { l with linkUp := true }
    exact ⟨(Logic.put_linkUp ..).trans hup, (Logic.put_boot ..).trans hboot, (hsame.put (safeCause 3) 0).trans (.of_regs rfl)⟩

theorem Logic.seesPeer_same (l : Logic) : l.seesPeer.linkUp = l.linkUp ∧ l.seesPeer.boot = l.boot ∧ l.seesPeer.SameTraining l := by
  obtain ⟨hup, hboot, hsame⟩ := l.evt_kept R.pageDEVICE 2
  obtain ⟨hup', hboot', hsame'⟩ := (l.evt R.pageDEVICE 2).evt_kept R.pageBARRIER 4
  exact ⟨hup'.trans hup, hboot'.trans hboot, (hsame'.trans hsame).fault ..⟩

/-- Training that succeeds raises the link and shows the lanes in service (R10, R36). -/
theorem State.linkTrained_ld (s : State) :
    s.linkTrained.ld.linkUp = true ∧ s.linkTrained.ld.boot.field = 2 ∧ s.linkTrained.ld.gb F.DEVICE_BOOTSTAT_BARRIER_OK = true ∧
      s.linkTrained.ld.g F.BARRIER_LINK_LANES = s.ld.mram.larder.lanes % 2 ^ F.BARRIER_LINK_LANES.len := by
  rw [State.linkTrained_ld_eq]
  obtain ⟨hlanes, hok, hfield⟩ := s.takeTime.ld.trainedBy_shows s.fd.released s.takeTime.fd.frcBad
  generalize s.takeTime.ld.trainedBy s.fd.released s.takeTime.fd.frcBad = l at hlanes hok hfield ⊢
  obtain ⟨hup, hboot, hsame⟩ := l.linkRises_up
  have hpeer : (l.linkRises.when s.fd.released Logic.seesPeer).linkUp = true ∧
      (l.linkRises.when s.fd.released Logic.seesPeer).boot = l.boot ∧ (l.linkRises.when s.fd.released Logic.seesPeer).SameTraining l := by
    cases s.fd.released
    · rw [Logic.when_false]
      exact ⟨hup, hboot, hsame⟩
    · obtain ⟨hup', hboot', hsame'⟩ := l.linkRises.seesPeer_same
      rw [Logic.when_true]
      exact ⟨hup'.trans hup, hboot'.trans hboot, hsame'.trans hsame⟩
  obtain ⟨hup', hboot', hsame'⟩ := hpeer
  refine ⟨hup', (congrArg BootRun.field hboot').trans hfield, ?_, ?_⟩
  · exact (congrArg (· != 0) (hsame'.g F.DEVICE_BOOTSTAT_BARRIER_OK (by simp [trainingFlds]))).trans hok
  · rw [← State.takeTime_mram s, ← hlanes]
    exact hsame'.g F.BARRIER_LINK_LANES (by simp [trainingFlds])

/-- A field die that ran on carries out what VETO held back, and tells nothing but reports (R396). -/
theorem State.linkTrained_fd (s : State) (hr : s.fd.reports = true) :
    s.linkTrained.fd.reports = true ∧ (s.fd.deferred = [] → s.linkTrained.fd.cfg = s.fd.cfg) := by
  rw [State.linkTrained_fd_eq, State.takeTime_fd]
  split
  · refine ⟨(Field.reports_takeVeto ..).trans hr, fun h => Field.takeVeto_idle _ _ h⟩
  · exact ⟨hr, fun _ => rfl⟩

theorem Field.reports_of_waits {f : Field} (h : f.out.all waits = true) : f.reports = true := by
  refine List.all_eq_true.mpr fun m hm => ?_
  have hw := List.all_eq_true.mp h m hm
  cases m with
  | fault | record => rfl
  | _ => exact absurd hw Bool.false_ne_true

theorem barrierTrained_raisesLink {s : State} (hout : s.fd.out.all waits = true) (hfield : s.ld.boot.field = 1) :
    Answers (exec (.barrierTrained true) s) fun t => t.ld.linkUp = true ∧ t.ld.boot.field = 2 ∧
      t.ld.gb F.DEVICE_BOOTSTAT_BARRIER_OK = true ∧
      t.ld.g F.BARRIER_LINK_LANES = s.ld.mram.larder.lanes % 2 ^ F.BARRIER_LINK_LANES.len ∧ (s.fd.deferred = [] → t.fd.cfg = s.fd.cfg) := by
  have htrained : s.barrierTrained true = s.linkTrained := by simp [State.barrierTrained, hfield]
  obtain ⟨hup, hboot, hok, hlanes⟩ := s.linkTrained_ld
  obtain ⟨hreports, hcfg⟩ := s.linkTrained_fd (Field.reports_of_waits hout)
  refine ⟨{ drain (s.barrierTrained true) with pending := s.pending }, rfl, ?_⟩
  rw [htrained]
  generalize s.linkTrained = u at hup hboot hok hlanes hreports hcfg
  have hsame := drain_sameTraining u hreports
  refine ⟨(drain_linkUp u).trans hup, (congrArg BootRun.field (drain_ld_same u).boot).trans hboot, ?_, ?_,
    fun h => (drain_fd_cfg u).trans (hcfg h)⟩
  · exact (congrArg (· != 0) (hsame.g F.DEVICE_BOOTSTAT_BARRIER_OK (by simp [trainingFlds]))).trans hok
  · exact (hsame.g F.BARRIER_LINK_LANES (by simp [trainingFlds])).trans hlanes

theorem nbit_nset_same (n k : Nat) : nbit (nset n k) k = true := by
  unfold nset
  split
  · assumption
  · next h =>
    simp only [nbit, beq_iff_eq] at h ⊢
    rw [Nat.add_div_right _ (Nat.two_pow_pos k)]
    omega

theorem barrierTrained_fails {s : State} (hfield : s.ld.boot.field = 1) (htries : 4 ≤ s.ld.boot.tries) :
    Answers (exec (.barrierTrained false) s) fun t => t.ld.boot.field = 4 ∧ nbit t.ld.boot.safe 3 = true ∧ t.ld.linkUp = s.ld.linkUp := by
  have hfails : s.barrierTrained false = s.onLd (Logic.modBoot fun b =>
      { b with tries := s.ld.boot.tries + 1, field := 4, safe := nset b.safe 3 }) := by
    simp [State.barrierTrained, hfield, State.onLd, Logic.modBoot, htries]
  refine ⟨{ drain (s.barrierTrained false) with pending := s.pending }, rfl, ?_⟩
  rw [hfails]
  have hboot := (drain_ld_same (s.onLd (Logic.modBoot fun b =>
    { b with tries := s.ld.boot.tries + 1, field := 4, safe := nset b.safe 3 }))).boot
  exact ⟨congrArg BootRun.field hboot, (congrArg (nbit ·.safe 3) hboot).trans (nbit_nset_same ..), drain_linkUp _⟩

/-! The field die leaves its reset (R15, R34, R104, R419). -/

/-- With nothing retired every role starts on the core the record gives it. -/
theorem State.startRoles_whole (s : State) (h : s.ld.mram.larder.retired = []) (rs : List Nat) : s.startRoles rs = s := by
  unfold State.startRoles
  induction rs with
  | nil => rfl
  | cons r rs ih =>
    rw [List.foldl_cons]
    simpa [Logic.isRetired, h] using ih

theorem Field.aligned_each (ns : List Nat) (hns : ∀ n ∈ ns, n < 4) (f : Field) {g : Nat} (hg : g < 4)
    (h : g ∈ ns ∨ f.gb (F.SLICE_GRP_ALIGNED g) = true) :
    (f.each ns fun g f => f.put (F.SLICE_GRP_ALIGNED g) 1).gb (F.SLICE_GRP_ALIGNED g) = true := by
  have hclear : ∀ n < 4, ∀ g < 4, n ≠ g → (F.SLICE_GRP_ALIGNED g).clear (F.SLICE_GRP_ALIGNED n) = true := by decide
  induction ns generalizing f with
  | nil => exact h.resolve_left List.not_mem_nil
  | cons n ns ih =>
    refine ih (fun m hm => hns m (List.mem_cons_of_mem _ hm)) (f.put (F.SLICE_GRP_ALIGNED n) 1) ?_
    by_cases hn : n = g
    · subst hn
      exact .inr (congrArg (· != 0) (f.g_put_same (F.SLICE_GRP_ALIGNED n) 1 rfl))
    · rw [Field.gb_eq, Field.g_put_clear _ _ _ _ rfl (hclear n (hns n List.mem_cons_self) g hg hn)]
      exact h.imp_left fun hmem => (List.mem_cons.mp hmem).resolve_left (Ne.symm hn)

theorem Field.absent_each (ns : List Nat) (f : Field) {g : Nat} (h : g ∈ ns ∨ (f.step g).absent = true) :
    ((f.each ns fun g f => f.modStep g fun s => { s with absent := true }).step g).absent = true := by
  induction ns generalizing f with
  | nil => exact h.resolve_left List.not_mem_nil
  | cons n ns ih =>
    refine ih (f.modStep n fun s => { s with absent := true }) ?_
    by_cases hn : g = n
    · subst hn
      exact .inr (by rw [Field.step_modStep_same])
    · rw [Field.step_modStep_other _ _ hn]
      exact h.imp_left fun hmem => (List.mem_cons.mp hmem).resolve_left hn

/-- A field die that leaves its reset has its groups aligned, and knows those without inductor. -/
theorem Field.leaveReset_shows (bare : List Nat) (f : Field) :
    (f.leaveReset bare).released = true ∧ (∀ g : Fin 4, g.val ∈ bare → ((f.leaveReset bare).step g).absent = true) ∧
      ∀ g : Fin 4, (f.leaveReset bare).gb (F.SLICE_GRP_ALIGNED g) = true := by
  have hmods (ns : List Nat) (f : Field) :
      (f.each ns fun g f => f.modStep g fun s => { s with absent := true }).released = f.released ∧
        ∀ x, (f.each ns fun g f => f.modStep g fun s => { s with absent := true }).gb x = f.gb x := by
    induction ns generalizing f with
    | nil => exact ⟨rfl, fun _ => rfl⟩
    | cons n ns ih => exact ih (f.modStep n fun s => { s with absent := true })
  unfold Field.leaveReset
  extract_lets f1 f2
  obtain ⟨hreleased, himg⟩ := hmods (bare.filter (· < 4)) f2
  refine ⟨hreleased, fun g hg => Field.absent_each _ _ (.inl ?_), fun g => ?_⟩
  · simp [hg, g.isLt]
  · rw [himg]
    exact Field.aligned_each _ (by simp) f1 g.isLt (.inl (List.mem_range.mpr g.isLt))

theorem fieldDieReleased_runs {s : State} (hfield : s.ld.boot.field = 2) (hreset : s.fd.released = false)
    (hwhole : s.ld.mram.larder.retired = []) :
    Answers (exec (.fieldDieReleased) s) fun t => t.fd.released = true ∧ t.ld.boot.field = 3 ∧
      (∀ g : Fin 4, g.val ∈ s.ld.boot.bare → (t.fd.step g).absent = true) ∧
      (s.ld.linkUp = true → ∀ g : Fin 4, t.fd.gb (F.SLICE_GRP_ALIGNED g) = true) := by
  have hfresh : s.fieldReleased =
      (State.mk (s.ld.modBoot fun b => { b with field := 3, kept := b.kept && !true }) (s.fd.leaveReset s.ld.boot.bare) s.pending).showRoles := by
    have htrained : s.ld.trained = true := by simp [Logic.trained, hfield]
    unfold State.fieldReleased
    simp only [htrained, hfield, hreset, Bool.not_true, Bool.false_eq_true, and_false, or_self, if_false, Bool.not_false, if_true]
    rw [State.startRoles_whole _ ?whole]
    case whole => exact hwhole
    rfl
  obtain ⟨hreleased, habsent, haligned⟩ := s.fd.leaveReset_shows s.ld.boot.bare
  refine ⟨{ drain s.fieldReleased with pending := s.pending }, rfl, ?_⟩
  rw [hfresh]
  generalize s.fd.leaveReset s.ld.boot.bare = f at hreleased habsent haligned
  refine ⟨(drain_fd_released _).trans hreleased, congrArg BootRun.field (drain_ld_same _).boot, fun g hg => ?_, fun _ g => ?_⟩
  · exact (congrArg StepRun.absent (drain_fd_at_step _ _)).trans (habsent g hg)
  · exact (drain_fd_at_gb _ _).trans (haligned g)

/-- Settles O24: what each step of start-up leaves, up to the release of the field die. What VETO held back is carried out as the link
comes up; its messages show no training. -/
theorem startRows : Obligations.StartRows := by
  refine ⟨fun s h => ⟨_, runLogic_next .., ?_⟩, fun s b pads h => ⟨_, runLogic_next .., s.ld.strapsLatched_shows b pads h⟩,
    fun s h => ⟨_, runLogic_next .., s.ld.waitOver_regs h⟩, fun s h => ⟨_, runLogic_next .., ?_⟩,
    fun s h h' => ⟨_, runLogic_next .., ?_⟩, fun s hout h => barrierTrained_raisesLink hout h,
    fun s h h' => barrierTrained_fails h h', fun s h => ⟨_, runLogic_next .., ?_⟩, fun s _ h hr hw => fieldDieReleased_runs h hr hw⟩
  · obtain ⟨hmain, hruns, hmram⟩ := s.ld.resetReleased_runs h
    exact ⟨hmain, hruns 2 (by simp), hruns 3 (by simp), hruns 4 (by simp), hmram⟩
  · obtain ⟨hmain, hruns⟩ := s.ld.pllLocked_runs h
    exact ⟨hmain, hruns 0 (by decide), hruns 1 (by decide)⟩
  · simp [Logic.visoUp, h, h', Logic.modBoot]
  · simp [Logic.retrain, h, Logic.modBoot]

end Sys2Proof.Machine
end

section
/-! Two statements that fail for a word of the host can lose: an internal update of the register at the same tick wins (R58). -/

namespace Sys2Proof.Machine

open Sys2Proof

/-- A running device with an Owner's session, whose host may write the test DAC; at this tick the field die has changed TDAC and CTRL of
SLICE[0] (R58). -/
def updatedAtThisTick : State :=
  { ld := { regs := F.XPT_CFG_TDAC_USER.set 1 [], mode := .run, linkUp := true, boot := { logic := 2 }
            sess := { cur := some { id := 1, role := 3, top := 4 } }, owned := [(R.EXC_TDAC, 0), (R.CTRL (R.pageSLICE 0), 0)] }
    fd := { released := true } }

theorem updatedAtThisTick_up : updatedAtThisTick.up := by decide

/-- The session may write both registers. -/
theorem updatedAtThisTick_takes :
    updatedAtThisTick.ld.takes 5#32 (R.CTRL (R.pageSLICE 0)) 2#32 ∧ updatedAtThisTick.ld.takes 5#32 R.EXC_TDAC 7#32 := by decide

/-- A block reset of SLICE[0] is refused with BLOCK, and so is a code for the test DAC. -/
theorem updatedAtThisTick_refuses :
    (updatedAtThisTick.wordFrame (some 5#32) (R.CTRL (R.pageSLICE 0)) 2#32).ld.host.ferr = true ∧
      (updatedAtThisTick.wordFrame (some 5#32) R.EXC_TDAC 7#32).ld.host.ferr = true := by decide

/-- Refutes O13: in its first clause a block reset of a slice may be refused, for an internal update of its CTRL at that tick wins (R58). -/
theorem not_blockRows : ¬ Obligations.BlockRows := by
  unfold Obligations.BlockRows
  rintro ⟨hreset, -⟩
  obtain ⟨t, ht, hferr, -⟩ := hreset updatedAtThisTick 5#32 (Fin.ofNat 256 (R.pageSLICE 0)) false updatedAtThisTick_up rfl rfl
    updatedAtThisTick_takes.1 (by decide) (by decide) (by decide)
  obtain rfl : { drain (updatedAtThisTick.wordFrame (some 5#32) (R.CTRL (R.pageSLICE 0)) 2#32) with
    pending := updatedAtThisTick.pending } = t := Host.Outcome.next.inj ht
  have hhost := congrArg HostRun.ferr (drain_ld_same (updatedAtThisTick.wordFrame (some 5#32) (R.CTRL (R.pageSLICE 0)) 2#32)).host
  exact Bool.false_ne_true (hferr.symm.trans (hhost.trans updatedAtThisTick_refuses.1))

/-- Refutes O28: in its last clause the code of the test DAC may be refused, for an internal update of TDAC at that tick wins (R58). -/
theorem not_sourceRows : ¬ Obligations.SourceRows := by
  unfold Obligations.SourceRows
  rintro ⟨-, -, -, -, -, -, -, -, -, -, -, -, -, htdac⟩
  obtain ⟨t, ht, hferr, -⟩ := htdac updatedAtThisTick 5#32 7#32 updatedAtThisTick_up rfl rfl updatedAtThisTick_takes.2 (by decide)
  obtain rfl : { drain (updatedAtThisTick.wordFrame (some 5#32) R.EXC_TDAC 7#32) with pending := updatedAtThisTick.pending } = t :=
    Host.Outcome.next.inj ht
  have hhost := congrArg HostRun.ferr (drain_ld_same (updatedAtThisTick.wordFrame (some 5#32) R.EXC_TDAC 7#32)).host
  exact Bool.false_ne_true (hferr.symm.trans (hhost.trans updatedAtThisTick_refuses.2))

end Sys2Proof.Machine
end

section
/-! Two statements of resets and start-up that fail: with the link down, the field die keeps at most 64 of the fault events that wait (R378). -/

namespace Sys2Proof.Machine

open Sys2Proof

/-- NRESET takes the link down, and the newest of 65 fault events is merged into another (R378). -/
theorem nreset_manyFaultsWait : (drain (manyFaultsWait.resetLogic 2)).fd.out.length = 64 := rfl

/-- Refutes O23: in its third clause the field die does not stay as it is, for NRESET takes the link down and has it keep at most 64
events. -/
theorem not_resetRows : ¬ Obligations.ResetRows := by
  unfold Obligations.ResetRows
  rintro ⟨-, -, hnreset, -⟩
  obtain ⟨t, ht, hfd, -⟩ := hnreset manyFaultsWait
  obtain rfl : { drain (manyFaultsWait.resetLogic 2) with pending := manyFaultsWait.pending } = t := Host.Outcome.next.inj ht
  have hlength : (drain (manyFaultsWait.resetLogic 2)).fd.out.length = manyFaultsWait.fd.undegraded.out.length :=
    congrArg (fun f : Field => f.out.length) hfd
  exact absurd (nreset_manyFaultsWait.symm.trans hlength) (by decide)

/-- After a reset of the logic die alone the field die runs the crate that start-up has selected, an empty one; the link is down, and 65 fault
events of one source wait. -/
def selectedCrateRuns : State :=
  { ld := { boot := { main := 6, kept := true, crate := some 0 } }
    fd := { released := true, configured := true, crateHash := some (crateHash [])
            out := List.replicate 65 (.fault { src := 0, severe := false }) } }

/-- Its report keeps the configuration. -/
theorem hashReport_selectedCrateRuns : selectedCrateRuns.hashReport = selectedCrateRuns.onLd (Logic.put F.DEVICE_MODE_FIELD_CFG 1) :=
  (if_neg (by decide)).trans (if_pos rfl)

/-- The newest of the events is merged into another (R378). -/
theorem hashReport_selectedCrateRuns_out : (drain selectedCrateRuns.hashReport).fd.out.length = 64 := by
  rw [hashReport_selectedCrateRuns]
  rfl

/-- Refutes O25: in its clause on the configuration reported the field die does not stay as it is, for with the link down each command has
it keep at most 64 events. -/
theorem not_bootChecksRows : ¬ Obligations.BootChecksRows := by
  unfold Obligations.BootChecksRows
  rintro ⟨-, -, -, -, -, -, -, -, -, hreport, -⟩
  obtain ⟨t, ht, -, hfd⟩ := hreport selectedCrateRuns [] rfl rfl (by decide) rfl rfl (by decide) rfl rfl
  obtain rfl : { drain selectedCrateRuns.hashReport with pending := selectedCrateRuns.pending } = t := Host.Outcome.next.inj ht
  have hlength : (drain selectedCrateRuns.hashReport).fd.out.length = selectedCrateRuns.fd.out.length :=
    congrArg (fun f : Field => f.out.length) hfd
  exact absurd (hashReport_selectedCrateRuns_out.symm.trans hlength) (by decide)

end Sys2Proof.Machine
end

section
/-! What reset leaves (R30, R34, R41, R361, R421). -/

namespace Sys2Proof.Machine

open Sys2Proof

/-- A register file with one entry reads that word at its address, and the reset value elsewhere. -/
theorem word_single {h : Nat} (w : Word) (a : Nat) : RegFile.word [(h, w)] a = if regHome a = h then w else resetWord (regHome a) := by
  simp [RegFile.word, tget, eq_comm]

/-- RSTCAUSE is the only register at its own home. -/
theorem regHome_eq_rstcause (a : Nat) : regHome a = R.DEVICE_RSTCAUSE ↔ a = R.DEVICE_RSTCAUSE := by
  unfold regHome R.DEVICE_RSTCAUSE
  split <;> omega

/-- Settles O43: the state is a literal; its one register entry is RSTCAUSE with POR set. -/
theorem resetState : Obligations.ResetState := by
  refine ⟨⟨rfl, rfl, rfl, rfl, rfl, rfl, rfl, fun a => ?_, fun _ => rfl, fun _ => rfl⟩, rfl, ⟨by decide, rfl, rfl⟩, .refl _⟩
  refine (word_single (h := R.DEVICE_RSTCAUSE) 1#32 a).trans ?_
  simp only [regHome_eq_rstcause]

end Sys2Proof.Machine
end

section
/-! What a frame that reads, asks or stages leaves (R27, R248, R251, R253, R254, R283, R299): the registers, records, events on their way,
free values, the port, what a session's handshake has in hand, staging, the watchdog and the partner's queue may change, and nothing else. -/

namespace Sys2Proof.Machine

open Sys2Proof

/-- The logic die without what such a frame can change. -/
def Logic.unasked (l : Logic) : Logic :=
  { l with regs := [], raised := [], recs := [], draws := 0, host := {}, sess := { cur := l.sess.cur, old := l.sess.old }, crate := {}
           wdog := {}, pair := {} }

/-- The block without it. -/
def State.unasked (s : State) : State := { s with ld := s.ld.unasked }

namespace Logic

/-- A change of what is left out. -/
@[simp] theorem unasked_mk (l : Logic) (regs : RegFile) (raised : List FaultEv) (recs : List LoftReq) (draws : Nat) (host : HostRun)
    (sess : SessionRun) (crate : CrateRun) (wdog : WdogRun) (pair : PairRun) (hcur : sess.cur = l.sess.cur) (hold : sess.old = l.sess.old) :
    ({ regs, time := l.time, frac := l.frac, mode := l.mode, linkUp := l.linkUp, raised, recs, draws, errout := l.errout, minw := l.minw,
       timeBad := l.timeBad, resets := l.resets, shutting := l.shutting, lifes := l.lifes, released := l.released, owned := l.owned,
       boot := l.boot, bar := l.bar, cores := l.cores, mem := l.mem, host, sess, crate, cellar := l.cellar, clocks := l.clocks, wdog,
       faults := l.faults, loft := l.loft, larder := l.larder, pair, mram := l.mram } : Logic).unasked = l.unasked := by
  simp only [unasked, hcur, hold]

@[simp] theorem unasked_put (l : Logic) (x : Fld) (v : Nat) : (l.put x v).unasked = l.unasked := (rfl)
@[simp] theorem unasked_bump (l : Logic) (x : Fld) : (l.bump x).unasked = l.unasked := (rfl)
@[simp] theorem unasked_fault (l : Logic) (k : Nat) (b : Bool) (p : Option Nat) (i : Bool) : (l.fault k b p i).unasked = l.unasked := (rfl)
@[simp] theorem unasked_record (l : Logic) (r : LoftReq) : (l.record r).unasked = l.unasked := (rfl)
@[simp] theorem unasked_modPair (l : Logic) (h : PairRun → PairRun) : (l.modPair h).unasked = l.unasked := (rfl)
@[simp] theorem unasked_openFrame (l : Logic) : l.openFrame.unasked = l.unasked := (rfl)
@[simp] theorem unasked_making (l : Logic) (k r : Nat) (ws : List Word) : (l.making k r ws).unasked = l.unasked := (rfl)
@[simp] theorem unasked_dropReply (l : Logic) : l.dropReply.unasked = l.unasked := (rfl)

@[simp] theorem unasked_when (c : Bool) (h : Logic → Logic) (l : Logic) (hh : ∀ l, (h l).unasked = l.unasked) :
    (l.when c h).unasked = l.unasked := by
  cases c
  · rfl
  · exact hh l

@[simp] theorem unasked_evt (l : Logic) (p b q : Nat) (i u : Bool) : (l.evt p b q i u).unasked = l.unasked := by
  simp -implicitDefEqProofs [evt, setEvt]

@[simp] theorem unasked_extraEdges (l : Logic) : l.extraEdges.unasked = l.unasked := by simp -implicitDefEqProofs [extraEdges]

@[simp] theorem unasked_frameError (l : Logic) (op : Nat) (cs : List (Nat × Nat)) : (l.frameError op cs).unasked = l.unasked := by
  cases cs <;> simp -implicitDefEqProofs [frameError]

@[simp] theorem unasked_sendPartner (l : Logic) (k : PFrame) : (l.sendPartner k).unasked = l.unasked := by
  simp -implicitDefEqProofs [sendPartner]

@[simp] theorem unasked_stageWords (l : Logic) (a : Nat) (ws : List Word) : (stageWords a ws l).unasked = l.unasked := by
  induction ws generalizing a l with
  | nil => rfl
  | cons w ws ih =>
    unfold stageWords
    split
    · rw [ih]
      rfl
    · rfl

@[simp] theorem unasked_wdogFinding (l : Logic) (b k t : Nat) (i : Bool) : (l.wdogFinding b k t i).unasked = l.unasked := by
  simp -implicitDefEqProofs [wdogFinding]

@[simp] theorem unasked_wdogJudge (l : Logic) (t : Nat) : (l.wdogJudge t).unasked = l.unasked := by
  unfold wdogJudge
  extract_lets c l1
  have h1 : l1.unasked = l.unasked := by
    simp only [l1]
    split <;> rfl
  rw [← h1]
  split
  · rfl
  · split
    · simp -implicitDefEqProofs
    · split
      · simp -implicitDefEqProofs
      · split
        · simp -implicitDefEqProofs
        · rfl

@[simp] theorem unasked_checkIn (l : Logic) (t : Nat) : (l.checkIn t).2.unasked = l.unasked := by
  unfold checkIn
  extract_lets reg
  split
  · rfl
  · split
    · exact unasked_wdogJudge l t
    · rfl

@[simp] theorem unasked_opened (l : Logic) (ws : List Word) (ok : Bool) : (l.opened ws ok).unasked = l.unasked := (rfl)

@[simp] theorem unasked_prove (l : Logic) (ws : List Word) (c g : Bool) : (l.prove ws c g).unasked = l.unasked := by
  unfold prove
  split
  · split <;> rfl
  · rfl

@[simp] theorem unasked_useNonce (l : Logic) (k r : Nat) (ws : List Word) : (l.useNonce k r ws).unasked = l.unasked := (rfl)
@[simp] theorem unasked_enrol (l : Logic) (ws : List Word) (p g : Bool) : (l.enrol ws p g).unasked = l.unasked := (rfl)
@[simp] theorem unasked_transfer (l : Logic) (ws : List Word) (p g : Bool) : (l.transfer ws p g).unasked = l.unasked := (rfl)

@[simp] theorem unasked_legacyRefused (l : Logic) (op a : Nat) (rs : List Nat) : (l.legacyRefused op rs a).unasked = l.unasked := by
  simp -implicitDefEqProofs [legacyRefused]

@[simp] theorem unasked_wdogRestart (l : Logic) : l.wdogRestart.unasked = l.unasked := by
  have hgrades (is : List Nat) (l : Logic) : (is.foldl (fun l i => if l.severe i then
      ((l.put (F.FAULT_SRC_STAT_SEVERE i) 0).gen R.pageFAULT).record
        { code := 0x4003, source := i, time := l.time, p0 := l.g (F.FAULT_SRC_STAT_COUNT i) } else l) l).unasked = l.unasked := by
    induction is generalizing l with
    | nil => rfl
    | cons i is ih =>
      rw [List.foldl_cons, ih]
      split
      · rw [unasked_record, gen, unasked_put, unasked_put]
      · rfl
  unfold wdogRestart
  split
  · exact (hgrades _ _).trans (by simp -implicitDefEqProofs)
  · rfl

end Logic

namespace State

@[simp] theorem unasked_onLd (s : State) (h : Logic → Logic) (hh : ∀ l, (h l).unasked = l.unasked) : (s.onLd h).unasked = s.unasked :=
  congrArg (fun l => { s with ld := l }) (hh s.ld)

@[simp] theorem unasked_setLd (s : State) (l : Logic) (h : l.unasked = s.ld.unasked) : ({ s with ld := l } : State).unasked = s.unasked :=
  congrArg (fun l => { s with ld := l }) h

@[simp] theorem unasked_replyWith (s : State) (ws : List Word) : (s.replyWith ws).unasked = s.unasked := (rfl)

/-- A frame leaves what its action leaves. -/
theorem unasked_frame (op addr : Nat) (extra : Bool) (act : State → List (Nat × Nat) × State) (s : State) (device cut : Bool)
    (hact : ∀ u, (act u).2.unasked = u.unasked) : (s.frame op addr extra act device cut).unasked = s.unasked := by
  have hopen : (s.onLd Logic.openFrame).unasked = s.unasked := (rfl)
  unfold frame
  split
  · rfl
  · extract_lets u
    split
    · simp -implicitDefEqProofs [u, hopen]
    · split
      next cs v heq =>
        have hv : v.unasked = u.unasked := by
          revert heq
          split
          · rintro heq
            rw [← hact u, heq]
          · rintro heq
            rw [← (Prod.mk.inj heq).2]
        split
        · exact hv.trans hopen
        · rw [unasked_onLd _ _ (by simp -implicitDefEqProofs), hv, hopen]

theorem unasked_fetch (s : State) (a : Nat) : (s.fetch a).2.unasked = s.unasked := by
  unfold fetch
  extract_lets w
  split
  · split <;> rfl
  · rfl

theorem unasked_fetchMany (s : State) (a n : Nat) : (fetchMany a n s).2.unasked = s.unasked := by
  induction n generalizing a s with
  | zero => rfl
  | succ n ih => exact (ih (s.fetch (a % 65536)).2 (a + 1)).trans (s.unasked_fetch _)

theorem unasked_isLate (s : State) (late : Bool) : (s.isLate late).2.unasked = s.unasked := (rfl)

theorem unasked_readFrame (s : State) (a n : Nat) (late : Bool) : (s.readFrame a n late).2.unasked = s.unasked := by
  unfold readFrame
  split
  · rfl
  · exact (unasked_fetchMany _ a n).trans (s.unasked_isLate late)

theorem unasked_snapFrame (s : State) (a : Nat) (late : Bool) : (s.snapFrame a late).2.unasked = s.unasked := by
  unfold snapFrame
  split
  · exact (unasked_fetchMany _ a 18).trans (s.unasked_isLate late)
  · rfl

theorem unasked_serviceTask (s : State) (a : Nat) : (s.serviceTask a).2.unasked = s.unasked := by
  have hl := s.ld.unasked_checkIn a
  unfold serviceTask
  split
  · rfl
  · generalize s.ld.checkIn a = x at hl
    obtain ⟨_ | r, l⟩ := x
    · exact unasked_setLd s _ ((Logic.unasked_when _ _ l fun l => l.unasked_sendPartner _).trans hl)
    · exact unasked_setLd s l hl

theorem unasked_pushWords (s : State) (a : Nat) (ws : List Word) : (s.pushWords a ws).2.unasked = s.unasked := by
  unfold pushWords
  split
  · rfl
  · exact unasked_onLd s _ fun l => l.unasked_stageWords a ws

theorem unasked_message (s : State) (kind : Nat) (act : State → State) (hact : ∀ u, (act u).unasked = u.unasked) :
    (s.message kind act).unasked = s.unasked := by
  refine unasked_frame _ _ _ _ s _ _ fun u => ?_
  split
  · rfl
  · exact hact u

theorem unasked_readReply (s : State) (kind : Nat) (x : ReplyRead) : (s.readReply kind x).2.unasked = s.unasked := by
  unfold readReply
  extract_lets a n
  split
  · rfl
  · rw [← s.unasked_isLate x.late]
    obtain ⟨late, u⟩ := s.isLate x.late
    have hlong (ws vs : List Word) : (if ws.length < n then (u.replyWith vs).onLd Logic.extraEdges else u.replyWith vs).unasked = u.unasked := by
      split
      · exact unasked_onLd (u.replyWith vs) _ Logic.unasked_extraEdges
      · rfl
    dsimp only
    split
    · next k ws _ =>
      by_cases hk : k = kind
      · rw [if_pos hk]
        exact hlong ws _
      · rw [if_neg hk]
        rfl
    · rfl

theorem unasked_legacyShort (s : State) (w : Nat) : (s.legacyShort w).unasked = s.unasked := by
  unfold legacyShort
  split
  · rfl
  · exact unasked_onLd s _ fun l => Logic.unasked_legacyRefused _ _ _ _

/-- A forerunner's frame leaves what its action leaves. -/
theorem unasked_legacyFrame (w op addr : Nat) (act : State → (List Nat × Nat) × State) (s : State)
    (hact : ∀ u, (act u).2.unasked = u.unasked) : (s.legacyFrame w op addr act).unasked = s.unasked := by
  unfold legacyFrame
  split
  · rfl
  · split
    · exact unasked_legacyShort _ 0
    · extract_lets u v
      have hv : v.unasked = s.unasked := by
        simp only [v]
        split
        · exact unasked_onLd u _ Logic.unasked_extraEdges
        · rfl
      have hact' := (hact v).trans hv
      generalize act v = x at hact'
      obtain ⟨⟨r, data⟩, t⟩ := x
      have hend (u : State) (hu : u.unasked = s.unasked) : (if u.ld.legacyUp then u.onLd fun l =>
          { l with host := { l.host with legacyNext := l.legacyStatus (!r.isEmpty) * 65536 + data % 65536 } }
          else u.onLd Logic.dropReply).unasked = s.unasked := by
        split <;> exact hu
      refine hend _ ?_
      split
      · exact hact'
      · exact (unasked_onLd t _ fun l => l.unasked_legacyRefused ..).trans hact'

theorem unasked_legacyRead (s : State) (more a : Nat) : (s.legacyRead more a).unasked = s.unasked := by
  refine unasked_legacyFrame _ _ _ _ s fun u => ?_
  unfold legacyReadCmd
  split
  · rfl
  · have hfetch : (u.legacyFetch a).2.unasked = u.unasked := by
      unfold legacyFetch
      repeat' split
      all_goals rfl
    exact hfetch

theorem unasked_compareCfg (s : State) (c data : Nat) : (s.compareCfg c data).2.unasked = s.unasked := by
  unfold compareCfg
  extract_lets v
  split <;> rfl

theorem unasked_kick (s : State) : s.kick.2.unasked = s.unasked := by
  unfold kick
  extract_lets u
  rw [unasked_serviceTask]
  simp only [u]
  split
  · exact unasked_onLd s _ Logic.unasked_wdogRestart
  · rfl

theorem unasked_actsAs (data : Nat) (x : List (Nat × Nat) × State) : (actsAs data x).2 = x.2 := by
  unfold actsAs
  split <;> rfl

/-- A forerunner's write of CH[n]_CFG, KICK or MODESEL. -/
theorem unasked_legacyWrite (s : State) (more a data : Nat) (ha : 0x20 ≤ a ∧ a < 0x30 ∨ a = 0x39 ∨ a = 0x3E) :
    (s.legacyWrite more a data).unasked = s.unasked := by
  refine unasked_legacyFrame _ _ _ _ s fun u => ?_
  unfold legacyWriteCmd
  extract_lets short
  split
  · rfl
  · split
    · rfl
    · unfold legacyStore
      rcases ha with ⟨hlo, hhi⟩ | rfl | rfl
      · rw [if_neg (by omega), if_pos hhi]
        exact unasked_compareCfg ..
      · change (if (u.ld.mode == .follow) = true then _ else if data ≠ 0x5A5A then _ else actsAs data u.kick).2.unasked = _
        split
        · rfl
        · split
          · rfl
          · rw [unasked_actsAs]
            exact unasked_kick u
      · change (if data ≠ 0xA5C3 then _ else ((_ : List Nat × Nat), u.onLd (Logic.put F.HOST_LEGACY_EN 0 ·))).2.unasked = _
        split <;> rfl

end State

/-- A command acts on both dies and leaves what asking leaves, until messages cross. -/
def LeavesUnasked (o : Host.Outcome State Fault Refusal) (s : State) : Prop := ∃ g, o = runBoth g s ∧ (g s).unasked = s.unasked

theorem LeavesUnasked.of_runBoth {g : State → State} {s : State} (h : (g s).unasked = s.unasked) : LeavesUnasked (runBoth g s) s :=
  ⟨g, rfl, h⟩

/-- Each of these commands leaves it. -/
theorem exec_onlyAsks {i : Instr} (h : i.onlyAsks = true) (s : State) : LeavesUnasked (exec i s) s := by
  unfold exec
  cases i with
  | read => exact .of_runBoth (State.unasked_frame _ _ _ _ s _ _ fun u => u.unasked_readFrame ..)
  | statusFrame => exact .of_runBoth (State.unasked_frame _ _ _ _ s _ _ fun u => u.unasked_replyWith _)
  | snapRead => exact .of_runBoth (State.unasked_frame _ _ _ _ s _ _ fun u => u.unasked_snapFrame ..)
  | checkIn => exact .of_runBoth (State.unasked_frame _ _ _ _ s _ _ fun u => u.unasked_serviceTask _)
  | cratePush => exact .of_runBoth (State.unasked_frame _ _ _ _ s _ _ fun u => u.unasked_pushWords ..)
  | sessionRead => exact .of_runBoth (State.unasked_frame _ _ _ _ s _ _ fun u => u.unasked_readReply ..)
  | nopFrame => exact .of_runBoth (State.unasked_frame _ _ _ _ s _ _ fun _ => rfl)
  | reservedOp code =>
    refine .of_runBoth ?_
    split
    · rfl
    · exact State.unasked_frame _ _ _ _ s _ _ fun _ => rfl
  | sessionKindRefused kind =>
    refine .of_runBoth ?_
    split
    · rfl
    · exact State.unasked_frame _ _ _ _ s _ _ fun _ => rfl
  | legacyPoll => exact .of_runBoth (State.unasked_legacyFrame _ _ _ _ s fun _ => rfl)
  | legacyRead => exact .of_runBoth (s.unasked_legacyRead ..)
  | legacyShortFrame => exact .of_runBoth (s.unasked_legacyShort _)
  | legacyChDataRead => exact .of_runBoth (s.unasked_legacyRead ..)
  | legacyChCfgWrite more n data => exact .of_runBoth (s.unasked_legacyWrite more _ _ (.inl (by omega)))
  | legacyTimeRead => exact .of_runBoth (s.unasked_legacyRead ..)
  | legacyKick => exact .of_runBoth (s.unasked_legacyWrite _ _ _ (.inr (.inl rfl)))
  | legacyModesel => exact .of_runBoth (s.unasked_legacyWrite _ _ _ (.inr (.inr rfl)))
  | openSession => exact .of_runBoth (s.unasked_message _ _ fun u => u.unasked_onLd _ fun l => l.unasked_opened ..)
  | prove => exact .of_runBoth (s.unasked_message _ _ fun u => u.unasked_onLd _ fun l => l.unasked_prove ..)
  | closeSession => exact .of_runBoth (s.unasked_message _ _ fun u => u.unasked_onLd _ fun l => l.unasked_making ..)
  | challengeReq => exact .of_runBoth (s.unasked_message _ _ fun u => u.unasked_onLd _ fun l => l.unasked_making ..)
  | enrol => exact .of_runBoth (s.unasked_message _ _ fun u => u.unasked_onLd _ fun l => l.unasked_enrol ..)
  | transfer => exact .of_runBoth (s.unasked_message _ _ fun u => u.unasked_onLd _ fun l => l.unasked_transfer ..)
  | _ => exact absurd h Bool.false_ne_true

/-- Settles O48: such a frame leaves what it can change nothing of, and the messages that cross with it reach of MRAM the Larder record
alone. -/
theorem askingFramesFrame : Obligations.AskingFramesFrame := by
  unfold Obligations.AskingFramesFrame
  intro i s t hi hexec
  obtain ⟨g, hg, hkept⟩ := exec_onlyAsks hi s
  obtain rfl : { drain (g s) with pending := s.pending } = t := Host.Outcome.next.inj (hg ▸ hexec)
  generalize g s = u at hkept
  have hfd : u.unasked.fd = s.unasked.fd := congrArg State.fd hkept
  have hld {α : Type} (p : Logic → α) : p u.ld.unasked = p s.ld.unasked := congrArg (fun u : State => p u.ld) hkept
  have hdrain := drain_ld_same u
  refine ⟨?_, hdrain.mode.trans (hld Logic.mode), hdrain.time.trans (hld Logic.time),
    hdrain.linkUp.trans (hld Logic.linkUp), hdrain.boot.trans (hld Logic.boot),
    hdrain.cores.trans (hld Logic.cores), hdrain.mem.trans (hld Logic.mem),
    hdrain.bar.trans (hld Logic.bar), hdrain.clocks.trans (hld Logic.clocks),
    hdrain.cellar.trans (hld Logic.cellar), hdrain.faults.trans (hld Logic.faults),
    (congrArg SessionRun.cur hdrain.sess).trans (hld (fun l => l.sess.cur)),
    (congrArg SessionRun.old hdrain.sess).trans (hld (fun l => l.sess.old)), ?_⟩
  · rw [drain_fd]
    exact hfd ▸ rfl
  · rw [← show u.ld.mram = s.ld.mram from hld Logic.mram]
    exact hdrain.owner

end Sys2Proof.Machine
end

section
/-! The native port before mode entry (R35): nothing until step 8a completes, then STATUS, NOP and READ of the DEVICE page alone. -/

namespace Sys2Proof.Machine

open Sys2Proof

/-! A frame that ends in error sets FERR (R255). -/

@[simp] theorem Logic.when_host (c : Bool) (h : Logic → Logic) (l : Logic) (hh : ∀ l, (h l).host = l.host) : (l.when c h).host = l.host := by
  cases c
  · rfl
  · exact hh l

@[simp] theorem Logic.evt_host (l : Logic) (p b q : Nat) (i u : Bool) : (l.evt p b q i u).host = l.host := by
  rw [evt, setEvt_host]

@[simp] theorem Logic.extraEdges_host (l : Logic) : l.extraEdges.host = l.host := by
  rw [extraEdges, evt_host, bump_host]

theorem Logic.frameError_host (l : Logic) (op : Nat) (c : Nat × Nat) (cs : List (Nat × Nat)) :
    (l.frameError op (c :: cs)).host = { l.host with provoked := false, ferr := true } := by
  unfold Logic.frameError
  dsimp only
  simp -implicitDefEqProofs

theorem Logic.frameError_ferr (l : Logic) (op : Nat) {cs : List (Nat × Nat)} (h : cs ≠ []) : (l.frameError op cs).host.ferr = true := by
  cases cs with
  | nil => exact absurd rfl h
  | cons c cs => rw [frameError_host]

theorem Logic.portUp_boot {l : Logic} (h : l.portUp = true) : l.boot.logic ≠ 0 := by
  simp only [Logic.portUp, Bool.and_eq_true, decide_eq_true_eq] at h
  omega

/-- So does one that is stopped at its head, or whose action finds an error and does nothing. -/
theorem State.frame_ferr {op addr : Nat} {extra device cut : Bool} {act : State → List (Nat × Nat) × State} {s : State}
    (hport : s.ld.portUp = true) (hshort : s.ld.host.short = false)
    (h : s.ld.openFrame.stops op device ≠ [] ∨ ∃ c, act (s.onLd Logic.openFrame) = ([c], s.onLd Logic.openFrame)) :
    (s.frame op addr extra act device cut).ld.host.ferr = true := by
  have hboot : (s.onLd Logic.openFrame).ld.boot.logic ≠ 0 := fun h =>
    Logic.portUp_boot hport ((congrArg BootRun.logic s.ld.openFrame_framed.boot).symm.trans h)
  have hshort' : (s.onLd Logic.openFrame).ld.host.short = false := hshort
  have hends (cs : List (Nat × Nat)) (hcs : cs ≠ []) :
      (((s.onLd Logic.openFrame).ld.frameError op cs).when extra Logic.extraEdges).host.ferr = true := by
    rw [Logic.when_host _ _ _ Logic.extraEdges_host]
    exact Logic.frameError_ferr _ op hcs
  unfold State.frame
  rw [if_neg (by simp [hport])]
  simp only [hshort', Bool.false_eq_true, if_false]
  split
  · next hstops =>
    obtain ⟨c, hc⟩ := h.resolve_left fun h => h hstops
    rw [hc, if_neg hboot]
    exact hends [c] (List.cons_ne_nil c [])
  · next hstops =>
    rw [if_neg hboot]
    exact hends _ (by simpa using fun h => absurd h hstops)

/-! Before mode entry. -/

/-- The frames that R35 does not serve. -/
def refusedInBoot (op : Nat) (device : Bool) : Bool := listedOps.contains op && op != opStatus && op != opNop && !(op == opRead && device)

theorem Logic.stops_boot {l : Logic} {op : Nat} {device : Bool} (hmode : l.mode = .boot) (h : refusedInBoot op device = true) :
    l.stops op device ≠ [] := by
  simp only [refusedInBoot, Bool.and_eq_true, bne_iff_ne, Bool.not_eq_true'] at h
  obtain ⟨⟨⟨hlisted, hstatus⟩, hnop⟩, hread⟩ := h
  have hlisted' : op ∈ listedOps := List.contains_iff_mem.mp hlisted
  unfold Logic.stops
  simp [hmode, hlisted', hstatus, hnop, hread]

/-- The listed frames that are served. -/
theorem Logic.served_boot {l : Logic} {op : Nat} {device : Bool} (hmode : l.mode = .boot) (hlisted : listedOps.contains op = true)
    (h : l.stops op device = []) : op = opStatus ∨ op = opNop ∨ op = opRead := by
  by_contra hne
  simp only [not_or] at hne
  obtain ⟨hstatus, hnop, hread⟩ := hne
  refine Logic.stops_boot hmode ?_ h
  rw [refusedInBoot, hlisted]
  simp [hstatus, hnop, hread]

/-- What the port does with a frame of the host before mode entry. -/
def HeldInBoot (i : Instr) (o : Host.Outcome State Fault Refusal) (s : State) : Prop :=
  ∃ g, o = runBoth g s ∧ (s.ld.portUp = false → g s = s) ∧
    (i.wf = true → s.ld.mode = .boot → s.ld.answers = true → i.servedInBoot = false → (g s).ld.host.ferr = true)

/-- A frame is held in boot if it is refused as a whole or its action finds nothing to act on. -/
theorem HeldInBoot.of_frame {i : Instr} {s : State} (op addr : Nat) (extra : Bool) (act : State → List (Nat × Nat) × State)
    (device cut : Bool)
    (h : i.wf = true → i.servedInBoot = false → refusedInBoot op device = true ∨
      ∃ c, act (s.onLd Logic.openFrame) = ([c], s.onLd Logic.openFrame)) :
    HeldInBoot i (runBoth (fun s => s.frame op addr extra act device cut) s) s := by
  refine ⟨_, rfl, fun hdown => by simp [State.frame, hdown], fun hwf hmode hanswers hserved => ?_⟩
  simp only [Logic.answers, Bool.and_eq_true, Bool.not_eq_true'] at hanswers
  obtain ⟨⟨⟨hport, hshort⟩, -⟩, -⟩ := hanswers
  exact State.frame_ferr hport hshort ((h hwf hserved).imp_left (Logic.stops_boot (s.ld.openFrame_framed.mode.trans hmode)))

theorem HeldInBoot.of_refused {i : Instr} {s : State} {op : Nat} (h : refusedInBoot op false = true) (addr : Nat) (extra : Bool)
    (act : State → List (Nat × Nat) × State) (cut : Bool) : HeldInBoot i (runBoth (fun s => s.frame op addr extra act false cut) s) s :=
  .of_frame op addr extra act false cut fun _ _ => .inl h

theorem HeldInBoot.of_wordFrame {i : Instr} {s : State} (ctr : Option Word) (a : Nat) (w again : Word) (hit : Bool) :
    HeldInBoot i (runBoth (fun s => s.wordFrame ctr a w again hit) s) s := by
  cases ctr with
  | none => exact .of_refused rfl ..
  | some c => exact .of_refused rfl ..

/-- A frame of a command that there is none of, or of a kind that no host sends, finds nothing to do. -/
theorem HeldInBoot.of_unless {i : Instr} {s : State} {op addr : Nat} {c : Nat × Nat} (p : Prop) [Decidable p] (hp : i.wf = true → ¬ p) :
    HeldInBoot i (runBoth (fun s => if p then s else s.frame op addr false fun s => ([c], s)) s) s := by
  by_cases h : p
  · refine ⟨_, rfl, fun _ => if_pos h, fun hwf => absurd h (hp hwf)⟩
  · simp only [h, if_false]
    exact .of_frame op addr false _ false false fun _ _ => .inr ⟨c, rfl⟩

theorem State.readFrame_none (s : State) (a : Nat) (late : Bool) : s.readFrame a 0 late = ([(4, a)], s) := rfl

/-- A frame released too early. -/
theorem State.shortFrame_ferr {s : State} (code : Option Nat) (a : Nat) (ws : List Word) (hport : s.ld.portUp = true) (hmode : s.ld.mode = .boot) :
    (s.shortFrame code a ws).ld.host.ferr = true := by
  unfold State.shortFrame
  rw [if_neg (by simp [hport])]
  cases code with
  | none => exact Logic.frameError_ferr _ _ (List.cons_ne_nil _ _)
  | some c =>
    dsimp only
    split
    · exact Logic.frameError_ferr _ _ (List.cons_ne_nil _ _)
    · next hlisted =>
      rw [Bool.not_eq_true, Bool.not_eq_false'] at hlisted
      have hends (x : List (Nat × Nat) × State) (k : Nat) (hx : x.2.unasked = s.unasked) :
          (if x.2.ld.boot.logic = 0 then x.2 else x.2.onLd (Logic.frameError c (x.1 ++ [(4, k)]))).ld.host.ferr = true := by
        have hboot : x.2.ld.boot.logic ≠ 0 := fun h =>
          Logic.portUp_boot hport ((congrArg (fun u : State => u.ld.boot.logic) hx).symm.trans h)
        rw [if_neg hboot]
        exact Logic.frameError_ferr _ _ (List.append_ne_nil_of_right_ne_nil _ (List.cons_ne_nil _ _))
      refine hends _ _ ?_
      have hopen : (s.onLd fun l => ({ l with host := { l.host with short := false } }).openFrame).unasked = s.unasked := (rfl)
      rw [← hopen]
      generalize hu : s.onLd (fun l => ({ l with host := { l.host with short := false } }).openFrame) = u
      have hmode' : u.ld.mode = .boot := hu ▸ hmode
      split
      · next hstops =>
        obtain rfl | rfl | rfl := Logic.served_boot hmode' hlisted hstops
        · rfl
        · rfl
        · exact u.unasked_fetchMany a ws.length
      · rfl

theorem exec_heldInBoot {i : Instr} (h : i.hostFrame = true) (s : State) : HeldInBoot i (exec i s) s := by
  unfold exec
  cases i with
  | write => exact .of_refused rfl ..
  | writeAuth => exact .of_refused rfl ..
  | read a n late =>
    refine .of_frame _ _ _ _ _ _ fun _ hserved => ?_
    simp only [Instr.servedInBoot, decide_eq_false_iff_not, not_and, Nat.not_le] at hserved
    cases n with
    | zero => exact .inr ⟨_, State.readFrame_none ..⟩
    | succ n =>
      have hfar : ¬ a.val + (n + 1) ≤ 256 := Nat.not_le.mpr (hserved (Nat.succ_pos n))
      exact .inl (by rw [decide_eq_false hfar]; rfl)
  | readAuth => exact .of_refused rfl ..
  | statusFrame => exact .of_frame _ _ _ _ _ _ fun _ h => absurd h.symm Bool.false_ne_true
  | snapRead => exact .of_refused rfl ..
  | checkIn => exact .of_refused rfl ..
  | cratePush => exact .of_refused rfl ..
  | sessionRead => exact .of_refused rfl ..
  | syncFrame => exact .of_refused rfl ..
  | nopFrame => exact .of_frame _ _ _ _ _ _ fun _ h => absurd h.symm Bool.false_ne_true
  | reservedOp code => exact .of_unless _ fun hwf => by simpa [Instr.wf, listedOps] using hwf
  | frameShort code a ws =>
    refine ⟨_, rfl, fun hdown => by simp [State.shortFrame, hdown], fun _ hmode hanswers _ => ?_⟩
    simp only [Logic.answers, Bool.and_eq_true] at hanswers
    exact State.shortFrame_ferr _ _ _ hanswers.1.1.1 hmode
  | registerWrite => exact .of_wordFrame ..
  | openSession => exact .of_refused rfl ..
  | prove => exact .of_refused rfl ..
  | closeSession => exact .of_refused rfl ..
  | challengeReq => exact .of_refused rfl ..
  | enrol => exact .of_refused rfl ..
  | transfer => exact .of_refused rfl ..
  | sessionKindRefused kind =>
    refine .of_unless _ fun hwf => ?_
    simpa [Instr.wf, hostKinds, kOpen, kProve, kClose, kChallengeReq, kEnrol, kTransfer] using hwf
  | _ => exact absurd h Bool.false_ne_true

/-! What is served. -/

/-- A frame that R35 serves and that ends without error. -/
theorem State.frame_servedInBoot {op addr : Nat} {extra device cut : Bool} {act : State → List (Nat × Nat) × State} {s u : State}
    (hmode : s.ld.mode = .boot) (hanswers : s.ld.answers = true) (hop : op = opStatus ∨ op = opNop ∨ op = opRead ∧ device = true)
    (hact : act (s.onLd Logic.openFrame) = ([], u)) (hu : u.unasked = s.unasked) :
    s.frame op addr extra act device cut = u.onLd fun l => (l.frameError op []).when extra Logic.extraEdges := by
  simp only [Logic.answers, Bool.and_eq_true, Bool.not_eq_true'] at hanswers
  obtain ⟨⟨⟨hport, hshort⟩, -⟩, -⟩ := hanswers
  have hmode' : (s.onLd Logic.openFrame).ld.mode = .boot := hmode
  have hshort' : (s.onLd Logic.openFrame).ld.host.short = false := hshort
  have hstops : (s.onLd Logic.openFrame).ld.stops op device = [] := by
    unfold Logic.stops
    obtain rfl | rfl | ⟨rfl, rfl⟩ := hop <;> simp [hmode', opStatus, opNop, opRead, opWrite, opWriteAuth, opReadAuth, opCratePush, opSession]
  have hboot : u.ld.boot.logic ≠ 0 := fun h =>
    Logic.portUp_boot hport ((congrArg (fun u : State => u.ld.boot.logic) hu).symm.trans h)
  unfold State.frame
  rw [if_neg (by simp [hport])]
  simp only [hshort', Bool.false_eq_true, if_false, hstops, hact]
  rw [if_neg hboot]

/-- What it shows of the port is what its action leaves of it. -/
theorem answers_servedInBoot {op addr : Nat} {extra device cut : Bool} {act : State → List (Nat × Nat) × State} {s u : State} {p : State → Prop}
    (hmode : s.ld.mode = .boot) (hanswers : s.ld.answers = true) (hop : op = opStatus ∨ op = opNop ∨ op = opRead ∧ device = true)
    (hact : act (s.onLd Logic.openFrame) = ([], u)) (hu : u.unasked = s.unasked)
    (hp : ∀ t : State, t.ld.host = { u.ld.host with provoked := false } → p t) :
    Answers (runBoth (fun s => s.frame op addr extra act device cut) s) p := by
  refine ⟨_, rfl, hp _ ?_⟩
  change (drain (s.frame op addr extra act device cut)).ld.host = _
  rw [State.frame_servedInBoot hmode hanswers hop hact hu, (drain_ld_same _).host]
  exact Logic.when_host _ _ _ Logic.extraEdges_host

theorem State.fetchMany_device (s : State) {a n : Nat} (h : a + n ≤ 256) :
    s.fetchMany a n = ((List.range n).map fun i => s.readWord (a + i), s) := by
  induction n generalizing a with
  | zero => rfl
  | succ n ih =>
    have hpage : pageKind (a % 65536 / 256) = .device := by
      rw [Nat.mod_eq_of_lt (by omega), Nat.div_eq_of_lt (by omega)]
      rfl
    have hfetch : s.fetch (a % 65536) = (s.readWord a, s) := by
      unfold State.fetch
      rw [hpage, Nat.mod_eq_of_lt (by omega)]
    unfold State.fetchMany
    rw [hfetch]
    dsimp only
    rw [ih (by omega), List.range_succ_eq_map]
    simp [Nat.add_assoc, Nat.add_comm 1]

theorem reservedIn_device {a n : Nat} (h : a + n ≤ 256) : reservedIn a n = [] := by
  have hnone : ∀ x ∈ wordAddrs a n, (pageKind (x / 256) == .reserved) = false := by
    intro x hx
    simp only [wordAddrs, List.mem_map, List.mem_range] at hx
    obtain ⟨i, hi, rfl⟩ := hx
    rw [Nat.mod_eq_of_lt (by omega), Nat.div_eq_of_lt (by omega)]
    rfl
  rw [reservedIn, List.filter_eq_nil_iff.mpr fun x hx => ne_true_of_eq_false (hnone x hx)]
  rfl

theorem State.isLate_unmarked (s : State) (h : s.ld.host.late = false) : s.isLate false = (false, s) := by
  have hhost : { s.ld.host with late := false, provoked := s.ld.host.provoked || (s.ld.host.late && !false) } = s.ld.host := by
    generalize s.ld.host = x at h
    cases x
    obtain rfl := h
    simp
  unfold State.isLate
  rw [h]
  exact congrArg (fun x => (false, s.onLd fun l => { l with host := x })) hhost

theorem State.readFrame_device (s : State) {a n : Nat} (hn : 0 < n) (h : a + n ≤ 256) (hlate : s.ld.host.late = false) :
    s.readFrame a n false = ([], s.replyWith ((List.range n).map fun i => s.readWord (a + i))) := by
  unfold State.readFrame
  rw [if_neg (by omega), s.isLate_unmarked hlate]
  simp [State.fetchMany_device s h, reservedIn_device h, lateWords]

theorem Logic.statusByte_boot {l : Logic} (h : l.mode = .boot) : l.statusByte % 8 = 0 ∧ nbit l.statusByte 7 = false := by
  have hready : l.ready = false := by simp [Logic.ready, h]
  have hpack (a b c d : Bool) : pack [(0, 0), (3, b2n a), (4, b2n b), (5, b2n c), (6, b2n d), (7, b2n false)] % 8 = 0 ∧
      nbit (pack [(0, 0), (3, b2n a), (4, b2n b), (5, b2n c), (6, b2n d), (7, b2n false)]) 7 = false := by
    decide +revert
  rw [Logic.statusByte, h, hready]
  exact hpack ..

/-- Settles O56: with the port down a frame changes nothing; before mode entry `stops` refuses as a whole what is not served. -/
theorem framesBeforeModeEntry : Obligations.FramesBeforeModeEntry := by
  unfold Obligations.FramesBeforeModeEntry
  refine ⟨?none, ?refused, ?status, ?nop, ?read, fun l => Logic.statusByte_boot⟩
  case none =>
    intro i s t hi htold hboot hexec
    obtain ⟨g, hg, hdown, -⟩ := exec_heldInBoot hi s
    obtain rfl : { drain (g s) with pending := s.pending } = t := Host.Outcome.next.inj (hg ▸ hexec)
    have hport : s.ld.portUp = false := by simp [Logic.portUp, hboot]
    have hfd := drain_fd s
    have hld := drain_ld_told s htold
    rw [hdown hport]
    generalize drain s = u at hfd hld
    simp only [← hfd, ← hld]
  case refused =>
    intro i s t hi hwf _ hmode hanswers hexec hserved
    obtain ⟨g, hg, -, hferr⟩ := exec_heldInBoot hi s
    obtain rfl : { drain (g s) with pending := s.pending } = t := Host.Outcome.next.inj (hg ▸ hexec)
    exact (congrArg HostRun.ferr (drain_ld_same (g s)).host).trans (hferr hwf hmode hanswers hserved)
  case status =>
    intro s extra _ hmode hanswers
    exact answers_servedInBoot hmode hanswers (.inl rfl) rfl rfl fun t ht =>
      ⟨congrArg HostRun.status ht, congrArg HostRun.reply ht, congrArg HostRun.ferr ht⟩
  case nop =>
    intro s extra _ hmode hanswers
    exact answers_servedInBoot hmode hanswers (.inr (.inl rfl)) rfl rfl fun t ht =>
      ⟨congrArg HostRun.status ht, congrArg HostRun.ferr ht⟩
  case read =>
    intro s a n _ hmode hanswers hn hpage
    have hlate : (s.onLd Logic.openFrame).ld.host.late = false := by
      simp only [Logic.answers, Bool.and_eq_true, Bool.not_eq_true'] at hanswers
      exact hanswers.1.2
    exact answers_servedInBoot hmode hanswers (.inr (.inr ⟨rfl, decide_eq_true hpage⟩)) (State.readFrame_device _ hn hpage hlate) rfl
      fun t ht => ⟨congrArg HostRun.status ht, congrArg HostRun.reply ht, congrArg HostRun.ferr ht⟩

end Sys2Proof.Machine
end

section
/-! What the host's requests for a mode find (R26, R28, R29, R30, R47): the change of mode, what the outputs tell of it, and a word of the
session that asks. -/

namespace Sys2Proof.Machine

open Sys2Proof

/-! What shows of a mode. -/

/-- Two logic dies that show the same mode, under the same host frame. -/
structure Logic.SameShown (a b : Logic) : Prop where
  shown : a.regs.word R.DEVICE_MODE = b.regs.word R.DEVICE_MODE
  mode : a.mode = b.mode
  host : a.host = b.host
  boot : a.boot = b.boot
  linkUp : a.linkUp = b.linkUp

namespace Logic.SameShown

variable {a b c : Logic}

theorem refl (a : Logic) : a.SameShown a := ⟨rfl, rfl, rfl, rfl, rfl⟩

theorem trans (h : c.SameShown b) (k : b.SameShown a) : c.SameShown a :=
  ⟨h.shown.trans k.shown, h.mode.trans k.mode, h.host.trans k.host, h.boot.trans k.boot, h.linkUp.trans k.linkUp⟩

theorem of_same (h : a.SameBut b) (hw : a.regs.word R.DEVICE_MODE = b.regs.word R.DEVICE_MODE) : a.SameShown b :=
  ⟨hw, h.mode, h.host, h.boot, h.linkUp⟩

theorem put (h : b.SameShown a) (y : Fld) (v : Nat) (hy : regHome y.addr ≠ 0x10 := by decide) : (b.put y v).SameShown a :=
  trans (of_same (b.put_same y v) (Fld.word_set_other y v b.regs hy.symm)) h

theorem setEvt (h : b.SameShown a) (p bit q : Nat) (i u f : Bool) (t : Nat) (z : Option Nat) : (b.setEvt p bit q i u f t z).SameShown a := by
  have hy : regHome (R.EVT_RAW p) ≠ 0x10 := fun he => by
    have hmod := regHome_mod (R.EVT_RAW p)
    rw [he, R.EVT_RAW] at hmod
    omega
  refine trans (of_same (b.setEvt_same ..) ?_) h
  rw [Logic.setEvt_regs]
  exact Fld.word_set_other _ _ b.regs hy.symm

theorem evt (h : b.SameShown a) (p bit q : Nat) (i u : Bool) : (b.evt p bit q i u).SameShown a := h.setEvt ..

theorem g (h : b.SameShown a) {x : Fld} (hx : x.addr = R.DEVICE_MODE := by rfl) : b.g x = a.g x := by
  rw [Logic.g, Fld.get, hx, h.shown, ← hx]
  rfl

end Logic.SameShown

theorem Logic.disapprove_sameShown (l : Logic) : l.disapprove.SameShown l := by
  unfold Logic.disapprove
  split
  · exact ((SameShown.refl l).put ..).evt ..
  · exact .refl l

/-- A change of mode shows in DEVICE.MODE. -/
theorem Logic.setMode_sameShown {m : Mode} {l : Logic} (h : l.mode ≠ m) :
    (l.setMode m).SameShown (({ l with mode := m } : Logic).put F.DEVICE_MODE_MODE (modeCode m)) := by
  have hsame (u : Logic) (k p0 p1 p2 : Nat) : ((u.evt R.pageDEVICE 0).log k R.pageDEVICE p0 p1 p2).disapprove.SameShown u := by
    have hlog : ((u.evt R.pageDEVICE 0).log k R.pageDEVICE p0 p1 p2).SameShown (u.evt R.pageDEVICE 0) := ⟨rfl, rfl, rfl, rfl, rfl⟩
    exact (disapprove_sameShown _).trans (hlog.trans ((SameShown.refl u).evt ..))
  unfold Logic.setMode
  rw [if_neg h]
  exact hsame _ ..

/-- The mode changes beside the causes of SAFE and the request's outcome. -/
structure Logic.Changed (m : Mode) (a b : Logic) : Prop where
  mode : a.mode = m
  code : b.mode ≠ m → a.g F.DEVICE_MODE_MODE = modeCode m
  beside : ∀ x : Fld, x.addr = R.DEVICE_MODE → x.clear F.DEVICE_MODE_MODE = true → a.g x = b.g x
  host : a.host = b.host
  boot : a.boot = b.boot
  linkUp : a.linkUp = b.linkUp

theorem Logic.setMode_changed (m : Mode) (l : Logic) : (l.setMode m).Changed m l := by
  by_cases h : l.mode = m
  · rw [Logic.setMode, if_pos h]
    exact ⟨h, fun hne => absurd h hne, fun _ _ _ => rfl, rfl, rfl, rfl⟩
  · have hset := setMode_sameShown h
    have hcode : modeCode m < 8 := by cases m <;> decide
    refine ⟨hset.mode, fun _ => ?_, fun x hx hclear => ?_, hset.host, hset.boot, hset.linkUp⟩
    · rw [hset.g, Logic.g_put_same _ _ _ rfl]
      exact Nat.mod_eq_of_lt hcode
    · rw [hset.g hx, Logic.g_put_clear _ _ _ _ rfl hclear]
      rfl

theorem Logic.Changed.of_sameShown {m : Mode} {a b c : Logic} (h : b.Changed m a) (k : c.SameShown b) : c.Changed m a :=
  ⟨k.mode.trans h.mode, fun hne => k.g.trans (h.code hne), fun x hx hclear => (k.g hx).trans (h.beside x hx hclear), k.host.trans h.host,
    k.boot.trans h.boot, k.linkUp.trans h.linkUp⟩

/-! What the outputs tell as a mode holds or releases them (R27, R30). -/

/-- An event, OUTHOLD of a terminal, or what waits for an EVENT frame. -/
def FMsg.stands : FMsg → Bool
  | .evt .. => true
  | .put x _ => x.addr == R.DEVICE_OUTHOLD
  | m => waits m

theorem takeMsg_sameShown {m : FMsg} (h : m.stands = true) (t : Nat) (l : Logic) : (takeMsg t m l).SameShown l := by
  cases m with
  | evt => exact (Logic.SameShown.refl l).setEvt ..
  | put x v =>
    have hx : x.addr = R.DEVICE_OUTHOLD := beq_iff_eq.mp h
    have howned : hwOwned x.addr = false := by rw [hx]; rfl
    simp only [takeMsg, howned]
    exact (Logic.SameShown.refl l).put x v (by rw [hx]; decide)
  | fault | record => exact .refl l
  | _ => exact absurd h Bool.false_ne_true

namespace Field

/-- Nothing else waits on the field die. -/
def stands (f : Field) : Bool := f.out.all FMsg.stands

theorem stands_of_out {f g : Field} (h : g.out = f.out) : g.stands = f.stands := by rw [stands, h]; rfl

theorem stands_append {f g : Field} {es : List FMsg} (h : g.out = f.out ++ es) (hes : es.all FMsg.stands = true) : g.stands = f.stands := by
  rw [stands, h, List.all_append, hes, Bool.and_true]
  rfl

theorem stands_each (ns : List Nat) (h : Nat → Field → Field) (f : Field) (hh : ∀ n f, (h n f).stands = f.stands) :
    (f.each ns h).stands = f.stands := by
  induction ns generalizing f with
  | nil => rfl
  | cons n ns ih => exact (ih (h n f)).trans (hh n f)

theorem stands_noteOne (f : Field) (n : Nat) : (f.noteOne n).stands = f.stands := by
  obtain ⟨es, hes, hall⟩ := (noteOne_noted n f).out
  refine stands_append hes (List.all_eq_true.mpr fun m hm => ?_)
  have hm' := List.all_eq_true.mp hall m hm
  cases m with
  | evt => rfl
  | _ => exact absurd hm' Bool.false_ne_true

theorem stands_settleAll (f : Field) : f.settleAll.stands = f.stands :=
  (stands_each _ _ _ fun n g => stands_of_out (g.drive_out (k := n))).trans (stands_each _ _ _ fun n g => g.stands_noteOne n)

theorem stands_setStay (f : Field) (n : Nat) (b : Bool) : (f.setStay n b).stands = f.stands :=
  stands_append rfl rfl

theorem stands_holdOutputs (f : Field) (m : Mode) : (f.holdOutputs m).stands = f.stands :=
  (stands_settleAll _).trans (stands_each _ _ _ fun _ _ => rfl)

theorem stands_releaseOutputs (f : Field) (m : Mode) (restore : Nat → Bool) (fresh : Bool) :
    (f.releaseOutputs m restore fresh).stands = f.stands := by
  refine (stands_settleAll _).trans (stands_each _ _ _ fun n g => ?_)
  refine (stands_setStay _ _ _).trans (stands_of_out ?_)
  have hend (g : Field) : (g.endHold n).out = g.out := by
    unfold endHold
    split <;> rfl
  unfold Field.when
  split
  · exact hend _
  · rfl

end Field

/-- What the outputs tell leaves the mode that shows as it is, and nothing of it stays behind. -/
theorem State.onFd_hear_sameShown {s : State} (htold : s.told = true) {h : Field → Field} (hh : ∀ f, (h f).stands = f.stands) :
    (s.onFd h).hear.ld.SameShown s.ld ∧ (s.onFd h).hear.told = true := by
  have hld : (s.onFd h).ld = s.ld := by
    unfold State.onFd
    split <;> rfl
  have hstands (hl : s.ld.linkUp = true) : (s.onFd h).fd.stands = true := by
    have hs : s.fd.stands = true := by
      simp only [State.told, hl, Bool.not_true, Bool.false_or] at htold
      refine List.all_eq_true.mpr fun m hm => ?_
      have hw := List.all_eq_true.mp htold m hm
      cases m with
      | fault | record => rfl
      | _ => exact absurd hw Bool.false_ne_true
    unfold State.onFd
    split
    · exact (hh s.fd).trans hs
    · exact hs
  generalize s.onFd h = u at hld hstands
  have hfold (ms : List FMsg) (hms : ms.all FMsg.stands = true) (l : Logic) : (ms.foldl (fun l m => takeMsg u.fd.time m l) l).SameShown l := by
    induction ms generalizing l with
    | nil => exact .refl l
    | cons m ms ih =>
      obtain ⟨hm, hms⟩ := Bool.and_eq_true_iff.mp hms
      exact (ih hms _).trans (takeMsg_sameShown hm _ l)
  have hdrain : (drain u).ld.SameShown s.ld ∧ (drain u).told = true := by
    cases hl : s.ld.linkUp with
    | false =>
      have hu : u.ld.linkUp = false := hld ▸ hl
      rw [State.told, drain_linkUp, drain_ld_down u hu, hu, hld]
      exact ⟨.refl _, rfl⟩
    | true =>
      have hu : u.ld.linkUp = true := hld ▸ hl
      refine ⟨?_, ?_⟩
      · rw [drain_ld u hu, ← hld]
        exact hfold _ (hstands hl) _
      · simp [State.told, drain, hu]
  unfold State.hear
  dsimp only
  split
  · exact ⟨hdrain.1.evt R.pageDEVICE 3 0 false false, hdrain.2⟩
  · exact hdrain

/-- The outputs hear of the mode. -/
theorem State.setMode_hear {s : State} (htold : s.told = true) (m : Mode) {h : Field → Field} (hh : ∀ f, (h f).stands = f.stands) :
    ((s.onLd (Logic.setMode m)).onFd h).hear.ld.Changed m s.ld ∧ ((s.onLd (Logic.setMode m)).onFd h).hear.told = true := by
  have hset := s.ld.setMode_changed m
  have htold' : (s.onLd (Logic.setMode m)).told = true := by
    unfold State.told at htold ⊢
    rw [show (s.onLd (Logic.setMode m)).ld.linkUp = s.ld.linkUp from hset.linkUp]
    exact htold
  have hhear := State.onFd_hear_sameShown htold' hh
  exact ⟨hset.of_sameShown hhear.1, hhear.2⟩

theorem State.hold_changed {s : State} (htold : s.told = true) (m : Mode) : (s.hold m).ld.Changed m s.ld ∧ (s.hold m).told = true :=
  State.setMode_hear htold m fun f => f.stands_holdOutputs m

theorem State.release_changed {s : State} (htold : s.told = true) (m : Mode) (exit : Nat) (fresh : Bool) :
    (s.release m exit fresh).ld.Changed m s.ld ∧ (s.release m exit fresh).told = true :=
  State.setMode_hear htold m fun f => f.stands_releaseOutputs m _ fresh

/-! A request in its frame. -/

/-- The logic die as the frame of a word that is taken leaves it to the word. -/
theorem State.oneWord_opens {s : State} {ctr : Word} {a : Nat} {w : Word} (ht : s.ld.takes ctr a w)
    (act : Option Session → State → List (Nat × Nat) × State) :
    ∃ x sess, s.ld.sess.cur = some x ∧
      ∀ u : State, act (some x) { s with ld := { s.ld.openFrame with sess := sess } } = ([], u) → u.ld.boot.logic ≠ 0 →
        s.oneWord (some ctr) a w act = u.onLd (Logic.frameError opWriteAuth []) := by
  obtain ⟨hserves, hlead, haccepts, -⟩ := ht
  have hanswers := hserves
  simp only [Logic.serves, Logic.answers, Bool.and_eq_true, Bool.not_eq_true'] at hanswers
  obtain ⟨⟨⟨⟨⟨⟨⟨⟨⟨hport, hshort⟩, -⟩, htag⟩, -⟩, -⟩, -⟩, -⟩, -⟩, -⟩ := hanswers
  cases hcur : s.ld.sess.cur with
  | none => simp [Logic.accepts, hcur] at haccepts
  | some x =>
    cases hold : s.ld.sess.old with
    | some y => simp [Logic.accepts, hcur, hold] at haccepts
    | none =>
      simp only [Logic.accepts, hcur, hold, Bool.and_eq_true, decide_eq_true_eq] at haccepts
      obtain ⟨hctr, hlimit⟩ := haccepts
      have hold' : s.ld.openFrame.sess.old = none := hold
      have haccept := Logic.acceptCtr_alone s.ld.openFrame x hold' hlimit
      have hframed := s.ld.openFrame_framed
      have hlead' : (s.ld.openFrame.acceptCtr x ctr.toNat).leadReady = false := by
        rw [haccept, ← hlead, Logic.leadReady, Logic.leadReady, ← hframed.gb (by decide), Logic.g, Logic.g, ← hframed.get (by decide)]
        rfl
      refine ⟨x, (s.ld.openFrame.acceptCtr x ctr.toNat).sess, rfl, fun u hu hboot => ?_⟩
      rw [← haccept] at hu
      unfold State.oneWord
      refine (State.frame_served opWriteAuth a false _ s u false [] hport hshort
        (Logic.stops_writeAuth hserves (by rw [hcur]; rfl)) ?_ hboot).trans rfl
      have hjudged : s.ld.openFrame.judgedBy ctr.toNat (fun _ => false) = (some x, s.ld.openFrame) := by
        have hcur' : s.ld.openFrame.sess.cur = some x := hcur
        simp only [Logic.judgedBy, hold', hcur']
      have htag' : s.ld.openFrame.host.badTag = false := htag
      have hopen : (s.onLd Logic.openFrame).ld = s.ld.openFrame := rfl
      simp only [hopen, hjudged, hctr, Bool.not_true, Bool.false_eq_true, if_false, htag']
      exact (if_neg (ne_true_of_eq_false hlead')).trans hu

theorem State.commitWord_modeReq {s : State} {l : Logic} {x : Session} {w : Word} (h : l.Framed s.ld) (hcur : s.ld.sess.cur = some x)
    (hgrants : s.ld.grants R.DEVICE_MODE_REQ w = true) :
    ({ s with ld := l } : State).commitWord (some x) R.DEVICE_MODE_REQ w = ([], ({ s with ld := l } : State).modeReq x.role w) := by
  have hrow : ∃ r, regRow R.DEVICE_MODE_REQ = some r ∧ r.acc ≠ .ro := by
    cases hr : regRow R.DEVICE_MODE_REQ with
    | none => exact absurd hr (by decide)
    | some r => exact ⟨r, rfl, fun h => absurd (congrArg (Option.map RegRow.acc) hr) (by rw [Option.map_some, h]; decide)⟩
  obtain ⟨r, hrow, hacc⟩ := hrow
  have hpage : pageKind (R.DEVICE_MODE_REQ / 256) = .device := rfl
  have hmerged : l.merged R.DEVICE_MODE_REQ w = s.ld.merged R.DEVICE_MODE_REQ w := by
    rw [Logic.merged, h.regs _ (by decide)]
    rfl
  have hlocked : l.locked (R.DEVICE_MODE_REQ / 256) = s.ld.locked (R.DEVICE_MODE_REQ / 256) :=
    h.gb (x := lockedBit (R.DEVICE_MODE_REQ / 256)) (by decide)
  have hbarred : l.barred (some x) R.DEVICE_MODE_REQ w r = none := by
    have hsame : l.barred (some x) R.DEVICE_MODE_REQ w r = s.ld.barred (some x) R.DEVICE_MODE_REQ w r := by
      have hneed : x.mayWrite R.DEVICE_MODE_REQ w l = x.mayWrite R.DEVICE_MODE_REQ w s.ld := rfl
      cases hcls : r.cls <;>
        simp only [Logic.barred, hcls, hneed, hmerged, hlocked, h.gb (x := F.DEVICE_MODE_PAIRED) (by decide)]
    rw [hsame]
    simpa [Logic.grants, hcur, hrow] using hgrants
  have hblocked : ({ s with ld := l } : State).blocked R.DEVICE_MODE_REQ w = (none, { s with ld := l }) := rfl
  refine State.commitWord_done _ _ w 0#32 false _ _ (by decide) ?_
  simp only [State.judgeWord, hrow, if_neg hacc, hbarred, show hwOwned R.DEVICE_MODE_REQ = false from rfl, Bool.false_and, Bool.false_eq_true,
    if_false, hblocked]
  rfl

/-- What a request leaves: nothing to tell, the frame as it stood, and what shows of the mode. -/
structure State.Asked (p : Mode → RegFile → Prop) (t s : State) : Prop where
  told : t.told = true
  host : t.ld.host = s.ld.host
  boot : t.ld.boot = s.ld.boot
  shown : p t.ld.mode t.ld.regs

/-- A request that the session may make is judged by the mode and the causes that stand. -/
theorem answers_modeReq {s : State} {ctr w : Word} {p : Mode → RegFile → Prop} (htold : s.told = true)
    (ht : s.ld.takes ctr R.DEVICE_MODE_REQ w) (hfree : s.ld.crateFree = true) (hlost : s.ld.cores.lost = 0)
    (h : ∀ (u : State) (role : Nat), u.told = true → u.ld.Framed s.ld → (u.ld.crateFree && !nbit u.ld.cores.lost 0) = true →
      State.Asked p (u.modeReq role w) u) :
    Answers (runBoth (fun s => s.wordFrame (some ctr) R.DEVICE_MODE_REQ w) s) fun t => t.ld.host.ferr = false ∧ p t.ld.mode t.ld.regs := by
  obtain ⟨x, sess, hcur, hword⟩ := State.oneWord_opens ht fun ses s => s.commitWord ses R.DEVICE_MODE_REQ w
  have hframed := s.ld.openFrame_framed.setSess sess
  have hlost' : ({ s.ld.openFrame with sess := sess } : Logic).cores.lost = 0 := hlost
  have hboot : s.ld.boot.logic ≠ 0 := by
    have hserves := ht.1
    simp only [Logic.serves, Logic.answers, Bool.and_eq_true] at hserves
    exact Logic.portUp_boot hserves.1.1.1.1.1.1.1.1.1
  generalize ({ s.ld.openFrame with sess := sess } : Logic) = l at hframed hlost' hword
  have hfree' : (l.crateFree && !nbit l.cores.lost 0) = true := by
    have hcrate : l.crateFree = s.ld.crateFree := by
      rw [Logic.crateFree, Logic.crateFree, Logic.crateState, Logic.crateState, Logic.g, Logic.g, hframed.get (by decide)]
    rw [hcrate, hfree, hlost']
    rfl
  have htold' : ({ s with ld := l } : State).told = true := by
    rw [State.told, hframed.linkUp]
    exact htold
  have hasked := h { s with ld := l } x.role htold' hframed hfree'
  have hdone := hword _ (State.commitWord_modeReq hframed hcur ht.2.2.2) (by rw [hasked.boot, hframed.boot]; exact hboot)
  have hld : (drain (s.wordFrame (some ctr) R.DEVICE_MODE_REQ w)).ld =
      Logic.frameError opWriteAuth [] (State.modeReq x.role w { s with ld := l }).ld := by
    rw [State.wordFrame, hdone]
    exact drain_ld_told _ hasked.told
  refine ⟨_, rfl, ?_⟩
  change (fun l : Logic => l.host.ferr = false ∧ p l.mode l.regs) (drain (s.wordFrame (some ctr) R.DEVICE_MODE_REQ w)).ld
  rw [hld]
  exact ⟨(congrArg HostRun.ferr hasked.host).trans hframed.ferr, hasked.shown⟩

/-! What each request is. -/

section
variable {s : State} (h : (s.ld.crateFree && !nbit s.ld.cores.lost 0) = true) (role : Nat)
include h

theorem State.modeReq_safe (hmode : s.ld.mode = .run) : s.modeReq role 4#32 = (s.onLd (Logic.put F.DEVICE_MODE_REQ_RESULT 1)).safe 0 := by
  unfold State.modeReq
  dsimp only
  rw [h, hmode]
  rfl

theorem State.modeReq_run (hmode : s.ld.mode = .safe) (hclear : s.ld.causesClear = true) :
    s.modeReq role 2#32 = (s.onLd (Logic.put F.DEVICE_MODE_REQ_RESULT 1)).runAsked 0 := by
  unfold State.modeReq
  dsimp only
  rw [h, hmode]
  exact if_pos hclear

theorem State.modeReq_run_refused (hmode : s.ld.mode = .safe) (hstands : s.ld.causesClear = false) :
    s.modeReq role 2#32 = s.onLd fun l => (l.put F.DEVICE_MODE_REQ_RESULT 2).evt R.pageDEVICE 1 := by
  unfold State.modeReq
  dsimp only
  rw [h, hmode]
  exact if_neg (ne_true_of_eq_false hstands)

theorem State.modeReq_commission (hmode : s.ld.mode = .run ∨ s.ld.mode = .safe) :
    s.modeReq role 1#32 = (s.onLd (Logic.put F.DEVICE_MODE_REQ_RESULT 1)).hold .commission := by
  unfold State.modeReq
  dsimp only
  rcases hmode with hm | hm <;> rw [h, hm] <;> rfl

/-- No other target is granted. -/
theorem State.modeReq_other {v : Fin 8} (h1 : v.val ≠ 1) (h2 : v.val ≠ 2) (h4 : v.val ≠ 4) :
    s.modeReq role (word v) = s.onLd fun l => (l.put F.DEVICE_MODE_REQ_RESULT 2).evt R.pageDEVICE 1 := by
  have hv : ∀ v : Fin 8, wbits (word v) 0 3 = v.val := by decide
  unfold State.modeReq
  dsimp only
  rw [hv, if_neg (by simp [h])]
  split
  · next hk => exact absurd hk h4
  · next hk => exact absurd hk h2
  · next hk => exact absurd hk h1
  · next hk => exact absurd hk h1
  · next hk => exact absurd hk h2
  · rfl

end

/-! How each request ends. -/

theorem Logic.abortCause_sameShown (k : Nat) (l : Logic) : (l.abortCause k).SameShown l := by
  refine .of_same (l.abortCause_same k) ?_
  unfold Logic.abortCause
  repeat' split
  all_goals rfl

/-- A cause of SAFE beside the request's outcome. -/
theorem State.safe_asked {s : State} (htold : s.told = true) (hmode : s.ld.mode = .run) :
    ((s.onLd (Logic.put F.DEVICE_MODE_REQ_RESULT 1)).safe 0).Asked
      (fun m r => F.DEVICE_MODE_REQ_RESULT.get r = 1 ∧ m = .safe ∧ F.DEVICE_MODE_MODE.get r = modeCode .safe ∧
        ((safeCause 0).get r != 0) = true) s := by
  generalize hu : (s.onLd (Logic.put F.DEVICE_MODE_REQ_RESULT 1)).onLd (fun l => (l.put (safeCause 0) 1).abortCause 5) = u
  have hshown : u.ld.SameShown ((s.ld.put F.DEVICE_MODE_REQ_RESULT 1).put (safeCause 0) 1) := by
    rw [← hu]
    exact Logic.abortCause_sameShown 5 _
  have htold' : u.told = true := by
    rw [State.told, hshown.linkUp, ← hu]
    exact htold
  have hmode' : u.ld.mode = .run := hshown.mode.trans hmode
  have hsafe : (s.onLd (Logic.put F.DEVICE_MODE_REQ_RESULT 1)).safe 0 = u.hold .safe := by
    unfold State.safe
    simp [hu, hmode']
  rw [hsafe]
  obtain ⟨hchanged, htold''⟩ := State.hold_changed htold' .safe
  refine ⟨htold'', hchanged.host.trans hshown.host, hchanged.boot.trans hshown.boot, ?_, hchanged.mode, ?_, ?_⟩
  · refine (hchanged.beside F.DEVICE_MODE_REQ_RESULT rfl rfl).trans (hshown.g.trans ?_)
    rw [Logic.g_put_clear _ _ _ _ rfl rfl, Logic.g_put_same _ _ _ rfl]
    rfl
  · exact hchanged.code (by rw [hmode']; decide)
  · refine congrArg (· != 0) (a₂ := 1) ((hchanged.beside (safeCause 0) rfl rfl).trans (hshown.g.trans ?_))
    rw [Logic.g_put_same _ _ _ rfl]
    rfl

/-- HOST_CMD clears, and the causes beside it stay clear. -/
theorem State.runAsked_asked {s : State} (htold : s.told = true) (hclear : s.ld.causesClear = true) :
    ((s.onLd (Logic.put F.DEVICE_MODE_REQ_RESULT 1)).runAsked 0).Asked
      (fun m r => F.DEVICE_MODE_REQ_RESULT.get r = 1 ∧ m = .run ∧ ((safeCause 0).get r != 0) = false) s := by
  generalize hu : (s.onLd (Logic.put F.DEVICE_MODE_REQ_RESULT 1)).onLd (Logic.put (safeCause 0) 0) = u
  obtain ⟨hchanged, htold'⟩ := State.release_changed (s := u) (by rw [← hu]; exact htold) .run 0 false
  have hcauses : (u.release .run 0 false).ld.causesClear = true := by
    rw [Logic.causesClear, hchanged.beside _ rfl rfl, ← hclear, Logic.causesClear, ← hu]
    change (((s.ld.put F.DEVICE_MODE_REQ_RESULT 1).put (safeCause 0) 0).g ⟨R.DEVICE_MODE, 9, 6⟩ == 0) = _
    rw [Logic.g_put_clear _ _ _ _ rfl rfl, Logic.g_put_clear _ _ _ _ rfl rfl]
  have hrun : (s.onLd (Logic.put F.DEVICE_MODE_REQ_RESULT 1)).runAsked 0 = u.release .run 0 false := by
    unfold State.runAsked
    rw [hu, if_pos hcauses]
  rw [hrun]
  refine ⟨htold', hchanged.host.trans (hu ▸ rfl), hchanged.boot.trans (hu ▸ rfl), ?_, hchanged.mode, ?_⟩
  · refine (hchanged.beside F.DEVICE_MODE_REQ_RESULT rfl rfl).trans ?_
    rw [← hu]
    change ((s.ld.put F.DEVICE_MODE_REQ_RESULT 1).put (safeCause 0) 0).g F.DEVICE_MODE_REQ_RESULT = 1
    rw [Logic.g_put_clear _ _ _ _ rfl rfl, Logic.g_put_same _ _ _ rfl]
    rfl
  · refine congrArg (· != 0) (a₂ := 0) ((hchanged.beside (safeCause 0) rfl rfl).trans ?_)
    rw [← hu]
    exact Logic.g_put_same (s.ld.put F.DEVICE_MODE_REQ_RESULT 1) (safeCause 0) 0 rfl

theorem State.commission_asked {s : State} (htold : s.told = true) :
    ((s.onLd (Logic.put F.DEVICE_MODE_REQ_RESULT 1)).hold .commission).Asked
      (fun m r => F.DEVICE_MODE_REQ_RESULT.get r = 1 ∧ m = .commission) s := by
  obtain ⟨hchanged, htold'⟩ := State.hold_changed (s := s.onLd (Logic.put F.DEVICE_MODE_REQ_RESULT 1)) htold .commission
  exact ⟨htold', hchanged.host, hchanged.boot,
    (hchanged.beside F.DEVICE_MODE_REQ_RESULT rfl rfl).trans (Logic.g_put_same s.ld F.DEVICE_MODE_REQ_RESULT 1 rfl), hchanged.mode⟩

/-- A request that is refused (R29). -/
theorem State.refused_asked {s : State} {mode : Mode} (htold : s.told = true) (hmode : s.ld.mode = mode) :
    (s.onLd fun l => (l.put F.DEVICE_MODE_REQ_RESULT 2).evt R.pageDEVICE 1).Asked
      (fun m r => F.DEVICE_MODE_REQ_RESULT.get r = 2 ∧ m = mode ∧ (Fld.get ⟨R.EVT_RAW R.pageDEVICE, 1, 1⟩ r != 0) = true) s := by
  have hshown : ((s.ld.put F.DEVICE_MODE_REQ_RESULT 2).evt R.pageDEVICE 1).SameShown (s.ld.put F.DEVICE_MODE_REQ_RESULT 2) :=
    (Logic.SameShown.refl _).evt ..
  refine ⟨?_, hshown.host, hshown.boot, ?_, hshown.mode.trans hmode, ?_⟩
  · rw [State.told, show (s.onLd fun l => (l.put F.DEVICE_MODE_REQ_RESULT 2).evt R.pageDEVICE 1).ld.linkUp = s.ld.linkUp from hshown.linkUp]
    exact htold
  · exact hshown.g.trans (Logic.g_put_same s.ld F.DEVICE_MODE_REQ_RESULT 2 rfl)
  · refine congrArg (· != 0) (a₂ := 1) ?_
    change Logic.g ⟨R.EVT_RAW R.pageDEVICE, 1, 1⟩ ((s.ld.put F.DEVICE_MODE_REQ_RESULT 2).evt R.pageDEVICE 1) = 1
    rw [Logic.g, Logic.evt, Logic.setEvt_regs]
    exact Logic.g_put_same (s.ld.put F.DEVICE_MODE_REQ_RESULT 2) ⟨R.EVT_RAW R.pageDEVICE, 1, 1⟩ 1 rfl

theorem Logic.Framed.causesClear {a b : Logic} (h : a.Framed b) : a.causesClear = b.causesClear := by
  rw [Logic.causesClear, Logic.causesClear, Logic.g, Logic.g, h.get (by decide)]

/-- Settles O22: a word of MODE_REQ that is taken is judged by the mode and the causes of SAFE that stand; the outputs tell nothing that shows
in DEVICE.MODE. -/
theorem modeRequestRows : Obligations.ModeRequestRows := by
  unfold Obligations.ModeRequestRows
  refine ⟨?safe, ?run, ?standing, ?commission, ?other⟩
  case safe =>
    intro s ctr htold ht hfree hlost hmode
    have hanswers := answers_modeReq htold ht hfree hlost fun u role hu hframed hufree => by
      rw [State.modeReq_safe hufree role (hframed.mode.trans hmode)]
      exact State.safe_asked hu (hframed.mode.trans hmode)
    exact hanswers
  case run =>
    intro s ctr htold ht hfree hlost hmode hclear
    have hanswers := answers_modeReq htold ht hfree hlost fun u role hu hframed hufree => by
      have huclear := hframed.causesClear.trans hclear
      rw [State.modeReq_run hufree role (hframed.mode.trans hmode) huclear]
      exact State.runAsked_asked hu huclear
    exact hanswers
  case standing =>
    intro s ctr htold ht hfree hlost hmode hstands
    have hanswers := answers_modeReq htold ht hfree hlost fun u role hu hframed hufree => by
      rw [State.modeReq_run_refused hufree role (hframed.mode.trans hmode) (hframed.causesClear.trans hstands)]
      exact State.refused_asked hu (hframed.mode.trans hmode)
    exact hanswers
  case commission =>
    intro s ctr htold ht hfree hlost hmode
    have hanswers := answers_modeReq htold ht hfree hlost fun u role hu hframed hufree => by
      rw [State.modeReq_commission hufree role (hframed.mode ▸ hmode)]
      exact State.commission_asked hu
    exact hanswers
  case other =>
    intro s ctr v htold ht h1 h2 h4 hfree hlost
    have hanswers := answers_modeReq htold ht hfree hlost fun u role hu hframed hufree => by
      rw [State.modeReq_other hufree role h1 h2 h4]
      exact State.refused_asked hu hframed.mode
    exact hanswers

end Sys2Proof.Machine
end

section
/-! Analogue outputs: their flags, the thermal limit, the cap and the trip, command by command (R202, R210, R211, R213, R215). -/

namespace Sys2Proof.Machine

open Sys2Proof

theorem not_isDo_of_isAo {fn : Nat} (h : isAo fn = true) : isDo fn = false := by
  simp only [isAo, isDo, Bool.or_eq_true, beq_iff_eq, beq_eq_false_iff_ne] at h ⊢
  omega

/-- An analogue output is never tied (R196). -/
theorem Field.tied_ao {n : Nat} {f : Field} (h : isAo (f.func n) = true) : f.tied n = none := by
  rw [Field.tied, not_isDo_of_isAo h]
  rfl

/-! A flag of an analogue output. -/

/-- The flags of AO_STAT that a monitor sets. -/
def aoFlags (n : Nat) : List Fld :=
  [F.TERM_AO_STAT_COMPLIANCE n, F.TERM_AO_STAT_OPEN_LOOP n, F.TERM_AO_STAT_OVERLOAD n, F.TERM_AO_STAT_READBACK n, F.TERM_AO_STAT_THERM_LIM n,
   F.TERM_AO_STAT_THERMAL n]

/-- No driving, no trigger and no count shows in them, and the cell's function stands elsewhere. -/
def isAoFlag (n : Nat) (x : Fld) : Bool :=
  x.undriven && x.untriggered && x.clear (F.TERM_AO_COUNT_COMPLIANCE n) && x.clear (F.TERM_AO_COUNT_THERM_LIM n) &&
    (F.TERM_CELLSTAT_FUNC_ACT n).clear x

theorem isAoFlag_aoFlags : ∀ n < 32, (aoFlags n).all (isAoFlag n) = true := by decide

theorem isAoFlag_of_mem {n : Nat} (hn : n < 32) {x : Fld} (hx : x ∈ aoFlags n) : isAoFlag n x = true :=
  List.all_eq_true.mp (isAoFlag_aoFlags n hn) x hx

theorem Field.tells_evt {f : Field} (h : f.out.all waits = true) (page : Nat) {bit : Nat} (hb : bit < 32) (inj : Bool) :
    (f.evt page bit (inj := inj)).Tells page bit := by
  have hwaits (m : FMsg) (hm : m ∈ f.out) : m.isMark = true := FMsg.isMark_of_waits (List.all_eq_true.mp h m hm)
  refine ⟨?_, 0, inj, false, by simp [Field.evt, Field.tell]⟩
  simpa [Field.evt, Field.tell, or_imp, forall_and, FMsg.isMark, hb] using hwaits

theorem Field.Tells.aoFault {f : Field} {page bit : Nat} (h : f.Tells page bit) (n : Nat) (severe inj : Bool) :
    (f.aoFault n severe inj).Tells page bit :=
  tells_of_append (es := [_]) h rfl (by simp [FMsg.isMark])

theorem Field.gb_evt (f : Field) (x : Fld) (page bit q : Nat) (inj quiet : Bool) : (f.evt page bit q inj quiet).gb x = f.gb x := rfl

theorem Field.gb_aoFault (f : Field) (x : Fld) (n : Nat) (severe inj : Bool) : (f.aoFault n severe inj).gb x = f.gb x := rfl

theorem Field.term_aoFault (f : Field) (k n : Nat) (severe inj : Bool) : (f.aoFault n severe inj).term k = f.term k := rfl

theorem Field.term_evt (f : Field) (k page bit q : Nat) (inj quiet : Bool) : (f.evt page bit q inj quiet).term k = f.term k := rfl

theorem Field.term_bump (f : Field) (k : Nat) (x : Fld) : (f.bump x).term k = f.term k := rfl

section
variable {s : State} {n : Terminal} (hup : s.up)
include hup

/-- A flag that is set with its event, the level as it was. -/
theorem setsFlag {i : Instr} {h : Field → Field} (hi : exec i s = runField h s) {x : Fld} {bit : Nat} (hb : bit < 32)
    (hflag : (h s.fd).gb x = true) (htells : (h s.fd).Tells (R.pageTERM n) bit) (hlevel : ((h s.fd).term n).level = (s.fd.term n).level) :
    Answers (exec i s) fun t => t.fd.gb x = true ∧ t.ld.gb ⟨R.EVT_RAW (R.pageTERM n), bit, 1⟩ = true ∧
      (t.fd.term n).level = (s.fd.term n).level := by
  refine exec_of_runField hup hi ?_
  simp only [drain_fd_at_gb, drain_fd_at_term]
  exact ⟨hflag, htells.drain (s := { s with fd := h s.fd }) hup.2.1 hb, hlevel⟩

/-- A flag that clears. -/
theorem clearsFlag {i : Instr} {h : Field → Field} (hi : exec i s = runField h s) {x : Fld} (hflag : (h s.fd).gb x = false)
    (hlevel : ((h s.fd).term n).level = (s.fd.term n).level) :
    Answers (exec i s) fun t => t.fd.gb x = false ∧ (t.fd.term n).level = (s.fd.term n).level := by
  refine exec_of_runField hup hi ?_
  simp only [drain_fd_at_gb, drain_fd_at_term]
  exact ⟨hflag, hlevel⟩

end

theorem fits_of_aoFlags {n : Nat} {x : Fld} (hx : x ∈ aoFlags n) : x.fits = true ∧ x.len = 1 := by
  simp only [aoFlags, List.mem_cons, List.not_mem_nil, or_false] at hx
  rcases hx with rfl | rfl | rfl | rfl | rfl | rfl <;> exact ⟨rfl, rfl⟩

section
variable {n : Nat} (hn : n < 32) {x : Fld} (hx : x ∈ aoFlags n) (f : Field)

include hx in
theorem Field.gb_putFlag (b : Bool) : (f.put x (b2n b)).gb x = b := by
  obtain ⟨hfits, hlen⟩ := fits_of_aoFlags hx
  rw [Field.gb_eq, Field.g_put_same _ _ _ hfits, hlen]
  cases b <;> rfl

include hn hx

theorem Field.gb_tellPartner_flag : (f.tellPartner n).gb x = f.gb x := by
  have hflag := isAoFlag_of_mem hn hx
  simp only [isAoFlag, Fld.undriven, Bool.and_eq_true] at hflag
  rw [Field.gb_eq, (f.tellPartner_kept n).img x hflag.1.1.1.1.1]
  rfl

theorem Field.gb_bumpCount_flag {y : Fld} (hy : y = F.TERM_AO_COUNT_COMPLIANCE n ∨ y = F.TERM_AO_COUNT_THERM_LIM n) :
    (f.bump y).gb x = f.gb x := by
  have hflag := isAoFlag_of_mem hn hx
  simp only [isAoFlag, Bool.and_eq_true] at hflag
  have hclear : x.clear y = true ∧ y.fits = true := by
    rcases hy with rfl | rfl
    · exact ⟨hflag.1.1.2, rfl⟩
    · exact ⟨hflag.1.2, rfl⟩
  rw [Field.gb_eq, Field.g_bump_clear _ _ _ hclear.2 hclear.1]
  rfl

theorem Field.gb_settle_flag : (f.settle n).gb x = f.gb x := by
  have hflag := isAoFlag_of_mem hn hx
  simp only [isAoFlag, Bool.and_eq_true] at hflag
  rw [Field.gb_eq, (Settled.settle n f).img x hflag.1.1.1.1 hflag.1.1.1.2]
  rfl

end

/-- A flag that clears, told to the partner where it was set. -/
theorem Field.clearFlag {n : Nat} (hn : n < 32) {x : Fld} (hx : x ∈ aoFlags n) (c : Bool) (f : Field) :
    ((f.put x 0).when c (Field.tellPartner n)).gb x = false ∧ (((f.put x 0).when c (Field.tellPartner n)).term n).level = (f.term n).level := by
  have hput := Field.gb_putFlag hx f false
  cases c
  · exact ⟨hput, rfl⟩
  · exact ⟨(Field.gb_tellPartner_flag hn hx _).trans hput, ((f.put x 0).tellPartner_kept n).level n⟩

/-! The flags of a monitor, command by command. -/

section
variable {s : State} {n : Terminal} (hup : s.up)
include hup

theorem aoCompliance_sets (hf : isAo (s.fd.func n) = true) (hx : s.fd.gb (F.TERM_AO_STAT_COMPLIANCE n) = false) :
    Answers (exec (.aoCompliance n true) s) fun t => t.fd.gb (F.TERM_AO_STAT_COMPLIANCE n) = true ∧
      t.ld.gb ⟨R.EVT_RAW (R.pageTERM n), 20, 1⟩ = true ∧ (t.fd.term n).level = (s.fd.term n).level := by
  have hmem : F.TERM_AO_STAT_COMPLIANCE n ∈ aoFlags n := by simp [aoFlags]
  have hset : s.fd.compliance n true false = (((((s.fd.put (F.TERM_AO_STAT_COMPLIANCE n) 1).tellPartner n).bump
      (F.TERM_AO_COUNT_COMPLIANCE n)).evt (R.pageTERM n) 20).aoFault n false false) := by
    simp [Field.compliance, hf, hx]
  have hkept := (s.fd.put (F.TERM_AO_STAT_COMPLIANCE n) 1).tellPartner_kept n
  refine setsFlag hup (h := Field.compliance n true false) rfl (bit := 20) (by decide) ?_ ?_ ?_
  · rw [hset, Field.gb_aoFault, Field.gb_evt, Field.gb_bumpCount_flag n.isLt hmem _ (.inl rfl), Field.gb_tellPartner_flag n.isLt hmem]
    exact Field.gb_putFlag hmem s.fd true
  · rw [hset]
    have hwaits : (((s.fd.put (F.TERM_AO_STAT_COMPLIANCE n) 1).tellPartner n).bump (F.TERM_AO_COUNT_COMPLIANCE n)).out.all waits = true := by
      rw [Field.bump_out, hkept.out]
      exact hup.2.2
    exact (Field.tells_evt hwaits _ (by decide) false).aoFault n false false
  · rw [hset, Field.term_aoFault, Field.term_evt, Field.term_bump]
    exact hkept.level n

theorem aoCompliance_clears (hf : isAo (s.fd.func n) = true) :
    Answers (exec (.aoCompliance n false) s) fun t => t.fd.gb (F.TERM_AO_STAT_COMPLIANCE n) = false ∧
      (t.fd.term n).level = (s.fd.term n).level := by
  have hclear := Field.clearFlag n.isLt (x := F.TERM_AO_STAT_COMPLIANCE n) (by simp [aoFlags]) (s.fd.gb (F.TERM_AO_STAT_COMPLIANCE n)) s.fd
  have hset : s.fd.compliance n false false =
      (s.fd.put (F.TERM_AO_STAT_COMPLIANCE n) 0).when (s.fd.gb (F.TERM_AO_STAT_COMPLIANCE n)) (Field.tellPartner n) := by
    simp [Field.compliance, hf]
  exact clearsFlag hup (h := Field.compliance n false false) rfl (hset ▸ hclear.1) (hset ▸ hclear.2)

theorem aoOpenLoop_sets (hf : s.fd.func n = 5) (hx : s.fd.gb (F.TERM_AO_STAT_OPEN_LOOP n) = false)
    (hsource : s.fd.g (F.TERM_AO_RAIL_SOURCE n) = 2) (hlevel : 10000 ≤ (s.fd.term n).level.getD 0) :
    Answers (exec (.aoOpenLoop n true) s) fun t => t.fd.gb (F.TERM_AO_STAT_OPEN_LOOP n) = true ∧
      t.ld.gb ⟨R.EVT_RAW (R.pageTERM n), 21, 1⟩ = true ∧ (t.fd.term n).level = (s.fd.term n).level := by
  have hmem : F.TERM_AO_STAT_OPEN_LOOP n ∈ aoFlags n := by simp [aoFlags]
  have hset : s.fd.openLoop n true false = ((((s.fd.put (F.TERM_AO_STAT_OPEN_LOOP n) 1).tellPartner n).evt (R.pageTERM n) 21).aoFault n
      false false) := by
    simp [Field.openLoop, hf, hx, hsource, hlevel]
  have hkept := (s.fd.put (F.TERM_AO_STAT_OPEN_LOOP n) 1).tellPartner_kept n
  refine setsFlag hup (h := Field.openLoop n true false) rfl (bit := 21) (by decide) ?_ ?_ ?_
  · rw [hset]
    exact (Field.gb_tellPartner_flag n.isLt hmem _).trans (Field.gb_putFlag hmem s.fd true)
  · rw [hset]
    have hwaits : ((s.fd.put (F.TERM_AO_STAT_OPEN_LOOP n) 1).tellPartner n).out.all waits = true := hkept.out ▸ hup.2.2
    exact (Field.tells_evt hwaits _ (by decide) false).aoFault n false false
  · rw [hset]
    exact hkept.level n

theorem aoOpenLoop_clears (hf : s.fd.func n = 5) :
    Answers (exec (.aoOpenLoop n false) s) fun t => t.fd.gb (F.TERM_AO_STAT_OPEN_LOOP n) = false ∧
      (t.fd.term n).level = (s.fd.term n).level := by
  have hclear := Field.clearFlag n.isLt (x := F.TERM_AO_STAT_OPEN_LOOP n) (by simp [aoFlags]) (s.fd.gb (F.TERM_AO_STAT_OPEN_LOOP n)) s.fd
  have hset : s.fd.openLoop n false false =
      (s.fd.put (F.TERM_AO_STAT_OPEN_LOOP n) 0).when (s.fd.gb (F.TERM_AO_STAT_OPEN_LOOP n)) (Field.tellPartner n) := by
    simp [Field.openLoop, hf]
  exact clearsFlag hup (h := Field.openLoop n false false) rfl (hset ▸ hclear.1) (hset ▸ hclear.2)

theorem aoVOverload_sets (hf : s.fd.func n = 6) (hx : s.fd.gb (F.TERM_AO_STAT_OVERLOAD n) = false) :
    Answers (exec (.aoVOverload n true) s) fun t => t.fd.gb (F.TERM_AO_STAT_OVERLOAD n) = true ∧
      t.ld.gb ⟨R.EVT_RAW (R.pageTERM n), 24, 1⟩ = true ∧ (t.fd.term n).level = (s.fd.term n).level := by
  have hset : s.fd.aoOverload n true false = (s.fd.put (F.TERM_AO_STAT_OVERLOAD n) 1).evt (R.pageTERM n) 24 := by
    simp [Field.aoOverload, hf, hx]
  refine setsFlag hup (h := Field.aoOverload n true false) rfl (bit := 24) (by decide) ?_ ?_ ?_
  · rw [hset]
    exact Field.gb_putFlag (n := n) (by simp [aoFlags]) s.fd true
  · rw [hset]
    exact Field.tells_evt (f := s.fd.put (F.TERM_AO_STAT_OVERLOAD n) 1) hup.2.2 _ (bit := 24) (by decide) false
  · rw [hset]
    rfl

theorem aoVOverload_clears (hf : s.fd.func n = 6) :
    Answers (exec (.aoVOverload n false) s) fun t => t.fd.gb (F.TERM_AO_STAT_OVERLOAD n) = false ∧
      (t.fd.term n).level = (s.fd.term n).level := by
  have hset : s.fd.aoOverload n false false = s.fd.put (F.TERM_AO_STAT_OVERLOAD n) 0 := by simp [Field.aoOverload, hf]
  refine clearsFlag hup (h := Field.aoOverload n false false) rfl ?_ ?_
  · rw [hset]
    exact Field.gb_putFlag (n := n) (by simp [aoFlags]) s.fd false
  · rw [hset]
    rfl

section
variable (hf : isAo (s.fd.func n) = true) (hcompliance : s.fd.gb (F.TERM_AO_STAT_COMPLIANCE n) = false)
  (hlimit : s.fd.gb (F.TERM_AO_STAT_THERM_LIM n) = false) (hoverload : s.fd.gb (F.TERM_AO_STAT_OVERLOAD n) = false)
  (hthermal : s.fd.gb (F.TERM_AO_STAT_THERMAL n) = false)
include hf hcompliance hlimit hoverload hthermal

theorem readbackMismatch_sets (hx : s.fd.gb (F.TERM_AO_STAT_READBACK n) = false) :
    Answers (exec (.readbackMismatch n true) s) fun t => t.fd.gb (F.TERM_AO_STAT_READBACK n) = true ∧
      t.ld.gb ⟨R.EVT_RAW (R.pageTERM n), 26, 1⟩ = true ∧ (t.fd.term n).level = (s.fd.term n).level := by
  have hset : s.fd.readback n true false = (((s.fd.put (F.TERM_AO_STAT_READBACK n) 1).evt (R.pageTERM n) 26).aoFault n false false) := by
    simp [Field.readback, hf, hx, hcompliance, hlimit, hoverload, hthermal]
  refine setsFlag hup (h := Field.readback n true false) rfl (bit := 26) (by decide) ?_ ?_ ?_
  · rw [hset]
    exact Field.gb_putFlag (n := n) (by simp [aoFlags]) s.fd true
  · rw [hset]
    exact (Field.tells_evt (f := s.fd.put (F.TERM_AO_STAT_READBACK n) 1) hup.2.2 _ (bit := 26) (by decide) false).aoFault n false false
  · rw [hset]
    rfl

theorem readbackMismatch_clears :
    Answers (exec (.readbackMismatch n false) s) fun t => t.fd.gb (F.TERM_AO_STAT_READBACK n) = false ∧
      (t.fd.term n).level = (s.fd.term n).level := by
  have hset : s.fd.readback n false false = s.fd.put (F.TERM_AO_STAT_READBACK n) 0 := by
    simp [Field.readback, hf, hcompliance, hlimit, hoverload, hthermal]
  refine clearsFlag hup (h := Field.readback n false false) rfl ?_ ?_
  · rw [hset]
    exact Field.gb_putFlag (n := n) (by simp [aoFlags]) s.fd false
  · rw [hset]
    rfl

end

end

end Sys2Proof.Machine
end

section
/-! Analogue outputs: the thermal limit, the cap, the trip and its end, and the host's commands (R30, R202, R207, R211, R215). -/

namespace Sys2Proof.Machine

open Sys2Proof

/-! The thermal limit (R211 step 1). -/

theorem clear_source : ∀ n < 32, (F.TERM_AO_RAIL_SOURCE n).clear (F.TERM_AO_RAIL_HEADROOM n) = true ∧
    (F.TERM_AO_RAIL_SOURCE n).clear (F.TERM_AO_RAIL_PDISS n) = true := by decide

/-- The figures of a rail leave its source. -/
theorem Field.showRail_source {n : Nat} (hn : n < 32) (f : Field) :
    (f.showRail n).g (F.TERM_AO_RAIL_SOURCE n) = f.g (F.TERM_AO_RAIL_SOURCE n) := by
  obtain ⟨hheadroom, hpdiss⟩ := clear_source n hn
  unfold Field.showRail
  dsimp only
  split <;> rw [Field.g_put_clear _ _ _ _ rfl hpdiss, Field.g_put_clear _ _ _ _ rfl hheadroom]

theorem Field.modAo_term (n : Nat) (c : AoRun → AoRun) (f : Field) : (f.modAo n c).term n = { f.term n with ao := c (f.term n).ao } := by
  rw [Field.modAo, Field.term_modTerm_same]

theorem Field.aoNeed_modAo (n : Nat) (c : AoRun → AoRun) (f : Field) : (f.modAo n c).aoNeed n = f.aoNeed n := by
  have hlevel : (f.modAo n c).aoLevel n = f.aoLevel n := by
    unfold Field.aoLevel
    rw [Field.modAo_term]
    rfl
  unfold Field.aoNeed
  rw [hlevel]
  rfl

/-- An output above its limit moves to LOW where that rail meets its need. -/
theorem Field.thermalLimit_low {n need : Nat} {f : Field} (hf : isAo (f.func n) = true) (hneed : f.aoNeed n = some need)
    (hstopped : (f.step (n / 8)).stopped = false) (habsent : (f.step (n / 8)).absent = false) (hruns : f.safeRuns = true)
    (hconnected : f.aoConnected n = true) (hlow : need ≤ (f.step (n / 8)).low) (hstands : need ≤ (f.step (n / 8)).lowAt) :
    f.thermalLimit n = ((f.modAo n fun o => { o with above := true }).put (F.TERM_AO_RAIL_SOURCE n) 0).showRail n := by
  have hsource : (f.modAo n fun o => { o with above := true }).lowestSource n need = 0 := by
    have hmeets : railMeets need (f.step (n / 8)).low (f.step (n / 8)).lowAt = true := decide_eq_true ⟨hlow, hstands⟩
    exact if_pos hmeets
  have hconnected' : (f.modAo n fun o => { o with above := true }).aoConnected n = true := hconnected
  have hruns' : (f.modAo n fun o => { o with above := true }).safeRuns = true := hruns
  unfold Field.thermalLimit
  simp only [hf, if_true, Field.aoNeed_modAo, hneed, hstopped, habsent, hruns', Bool.or_false, Bool.not_true, Bool.false_eq_true, if_false, hsource,
    Nat.zero_lt_two, Field.toSource, hconnected']

/-! What a retune of the rails leaves (R207). -/

/-- The configuration and a flag of an output are the same. -/
structure Field.SameFlag (x : Fld) (g f : Field) : Prop where
  cfg : g.cfg = f.cfg
  flag : g.g x = f.g x

namespace Field.SameFlag

variable {x : Fld} {f g h : Field}

theorem refl (f : Field) : f.SameFlag x f := ⟨rfl, rfl⟩

theorem trans (a : h.SameFlag x g) (b : g.SameFlag x f) : h.SameFlag x f := ⟨a.cfg.trans b.cfg, a.flag.trans b.flag⟩

theorem put (a : g.SameFlag x f) (y : Fld) (v : Nat) (hy : y.fits = true) (hx : x.clear y = true) : (g.put y v).SameFlag x f :=
  trans (g := g) ⟨rfl, g.g_put_clear x y v hy hx⟩ a

theorem modStep (a : g.SameFlag x f) (k : Nat) (c : StepRun → StepRun) : (g.modStep k c).SameFlag x f := ⟨a.cfg, a.flag⟩

theorem each (ns : List Nat) {c : Nat → Field → Field} (hc : ∀ n f, (c n f).SameFlag x f) (f : Field) : (f.each ns c).SameFlag x f := by
  induction ns generalizing f with
  | nil => exact refl f
  | cons n ns ih => exact (ih (c n f)).trans (hc n f)

end Field.SameFlag

/-- A flag that stands apart from where the rails show. -/
def Fld.offRails (x : Fld) : Bool := x.still && x.apart (F.TERM_AO_GRP_LOW 0) && x.apart (F.TERM_AO_GRP_HIGH 0)

section
variable {x : Fld} (hx : x.offRails = true) (f : Field)
include hx

theorem Field.showRail_sameFlag (k : Nat) : (f.showRail k).SameFlag x f := by
  simp only [Fld.offRails, Bool.and_eq_true] at hx
  exact ⟨(f.showRail_kept k).cfg, (f.showRail_kept k).img x hx.1.1⟩

theorem Field.toSource_sameFlag (k v : Nat) : (f.toSource k v).SameFlag x f := by
  simp only [Fld.offRails, Bool.and_eq_true] at hx
  unfold Field.toSource
  split
  · exact (SameFlag.refl f).put _ v rfl (Fld.clear_of_still (k := k) hx.1.1 (by simp [drivingFlds]))
  · exact .refl f

theorem Field.showGroup_sameFlag (k : Nat) : (f.showGroup k).SameFlag x f := by
  have hrails := hx
  simp only [Fld.offRails, Bool.and_eq_true] at hrails
  have hspots : (F.TERM_AO_GRP_LOW k).spot = (F.TERM_AO_GRP_LOW 0).spot ∧ (F.TERM_AO_GRP_HIGH k).spot = (F.TERM_AO_GRP_HIGH 0).spot := by
    simp [Fld.spot, F.TERM_AO_GRP_LOW, F.TERM_AO_GRP_HIGH, R.TERM_AO_GRP]
  have hlow : x.clear (F.TERM_AO_GRP_LOW k) = true := Fld.clear_of_apart ((x.apart_of_spot hspots.1).trans hrails.1.2)
  have hhigh : x.clear (F.TERM_AO_GRP_HIGH k) = true := Fld.clear_of_apart ((x.apart_of_spot hspots.2).trans hrails.2)
  unfold Field.showGroup
  split
  · exact (Field.showRail_sameFlag hx _ k).trans (((SameFlag.refl f).put _ _ rfl hlow).put _ _ rfl hhigh)
  · exact .refl f

theorem Field.advance_sameFlag (g : Nat) : (f.advance g).SameFlag x f := by
  have hmoves (ms : List (Nat × Nat)) (u : Field) : (ms.foldl (fun f m => f.toSource m.1 m.2) u).SameFlag x u := by
    induction ms generalizing u with
    | nil => exact .refl u
    | cons m ms ih => exact (ih _).trans (u.toSource_sameFlag hx m.1 m.2)
  unfold Field.advance
  dsimp only
  split
  · exact .refl f
  · split
    · exact (hmoves _ f).modStep g _
    · exact (hmoves _ f).modStep g _

theorem Field.startPlan_sameFlag (g : Nat) (p : Retune) : (f.startPlan g p).SameFlag x f :=
  (SameFlag.each _ (fun n u => u.showGroup_sameFlag hx n) _).trans ((Field.advance_sameFlag hx _ g).trans ⟨rfl, rfl⟩)

theorem Field.thermalLimit_sameFlag (n : Nat) : (f.thermalLimit n).SameFlag x f := by
  have habove : (f.modAo n fun o => { o with above := true }).SameFlag x f := ⟨rfl, rfl⟩
  unfold Field.thermalLimit
  split
  · dsimp only
    generalize f.modAo n (fun o => { o with above := true }) = u at habove
    have hmove (v : Nat) : ((u.toSource n v).showRail n).SameFlag x f :=
      (Field.showRail_sameFlag hx _ n).trans ((u.toSource_sameFlag hx n v).trans habove)
    split
    · exact habove
    · split
      · exact habove
      · split
        · exact hmove _
        · split
          · exact (u.startPlan_sameFlag hx _ _).trans habove
          · exact hmove _
  · exact .refl f

end

/-! The cap and the trip (R211 steps 2 and 3). -/

/-- Driving leaves an output's cap. -/
theorem Field.ao_drive (n k : Nat) (f : Field) : ((f.drive k).term n).ao = (f.term n).ao := by
  have hkept {u v : Field} (h : u.Kept v) : (u.term n).ao = (v.term n).ao :=
    show (u.term n).steady.ao = (v.term n).steady.ao by rw [h.term]
  have htakes (u : Field) (a : Act) : ((u.takesAct k a none).term n).ao = (u.term n).ao := by
    rw [Field.term_takesAct]
    split <;> rfl
  have hfresh (u : Field) (a : Act) : ((u.startsAfresh k a).term n).ao = (u.term n).ao := by
    unfold Field.startsAfresh Field.when
    split
    · rw [Field.term_freshAttempts]
      split <;> rfl
    · rfl
  have hnow (u : Field) : ((u.driveNow k).term n).ao = (u.term n).ao := by
    unfold Field.driveNow
    split
    · rw [hkept (u.driveDo_kept k (u.act k) none), htakes, hfresh]
    · split
      · rw [hkept (u.driveAo_kept k (u.act k) none), htakes]
      · rfl
  rcases f.drive_kept k with h | ⟨u, hu, h⟩
  · exact hkept h
  · rw [hkept h, hnow, hkept hu]

theorem Field.ao_noteOne (n k : Nat) (f : Field) : ((f.noteOne k).term n).ao = (f.term n).ao :=
  show ((f.noteOne k).term n).driving.ao = (f.term n).driving.ao by rw [(f.noteOne_noted k).term]

theorem Field.ao_settle (n k : Nat) (f : Field) : ((f.settle k).term n).ao = (f.term n).ao := by
  unfold Field.settle
  split
  · rw [Field.ao_drive, Field.ao_drive, Field.ao_noteOne, Field.ao_noteOne]
  · rw [Field.ao_drive, Field.ao_noteOne]

/-- An analogue output outside a pair settles by taking the action in force. -/
theorem Field.settle_aoAlone {n : Nat} (hn : n < 32) (f : Field) (hf : isAo (f.func n) = true) (hp : f.paired = false) :
    ∃ u : Field, u.Noted f ∧ f.settle n = u.driveAo n (u.act n) none := by
  have hnoted := f.noteOne_noted n
  refine ⟨{ f.noteOne n with noticed := (f.noteOne n).noticed.filter fun x => x.n != n },
    ⟨hnoted.cfg, hnoted.paired, hnoted.img, hnoted.stay, hnoted.term, hnoted.out⟩, ?_⟩
  have hannounces : (f.noteOne n).announces n = false := by simp [Field.announces, hnoted.paired, hp]
  have hfunc : isAo (Field.func n { f.noteOne n with noticed := (f.noteOne n).noticed.filter fun x => x.n != n }) = true :=
    (congrArg isAo (hnoted.func hn)).trans hf
  simp only [Field.settle, Field.tied_ao hf, Field.drive, hannounces, Bool.not_false, if_true, Field.driveNow, not_isDo_of_isAo hfunc,
    Bool.false_eq_true, if_false, hfunc]

/-- A thermal trip holds an analogue output's level at zero. -/
theorem Field.delivered_tripped {n : Nat} {f : Field} (hf : isAo (f.func n) = true) (a : Act) (ha : a.rank = 1 → a.level = none)
    (ht : f.gb (F.TERM_AO_STAT_THERMAL n) = true) : (f.delivered n a).level.getD 0 = 0 := by
  unfold Field.delivered
  split
  · next h => rw [ha h]; rfl
  · simp only [Field.protected_, not_isDo_of_isAo hf, Bool.false_eq_true, if_false, ht, if_true]
    cases a.level <;> rfl

theorem Field.settle_tripped_ao {n : Nat} (hn : n < 32) (f : Field) (hf : isAo (f.func n) = true) (hp : f.paired = false)
    (ht : f.gb (F.TERM_AO_STAT_THERMAL n) = true) : ((f.settle n).term n).level.getD 0 = 0 := by
  obtain ⟨u, hu, hsettle⟩ := f.settle_aoAlone hn hf hp
  have hfu : isAo (u.func n) = true := (congrArg isAo (hu.func hn)).trans hf
  have hrank : (u.act n).rank = 1 → (u.act n).level = none := by
    rw [Field.act, Field.tied_ao hfu]
    exact ownAct_level_of_rank
  have hflag := isAoFlag_of_mem hn (x := F.TERM_AO_STAT_THERMAL n) (by simp [aoFlags])
  simp only [isAoFlag, Bool.and_eq_true] at hflag
  have htu : u.gb (F.TERM_AO_STAT_THERMAL n) = true := by
    rw [Field.gb_eq, hu.img _ hflag.1.1.1.2]
    exact ht
  rw [hsettle, (u.driveAo_kept n _ none).level, Field.term_takesAct, if_pos rfl]
  exact Field.delivered_tripped hfu _ hrank htu

end Sys2Proof.Machine
end

section
/-! The commands of an analogue output by the host, and what each row leaves (R30, R202, R210, R211, R213, R215). -/

namespace Sys2Proof.Machine

open Sys2Proof

theorem termRegister_aoCmd (n : Terminal) : TermRegister n (R.TERM_AO_CMD n) 0x43 :=
  termRegister ((by decide : ∀ n : Fin 32, isTermRegister n (R.TERM_AO_CMD n) 0x43 = true) n)

theorem termRegister_aoClr (n : Terminal) : TermRegister n (R.TERM_AO_CLR n) 0x49 :=
  termRegister ((by decide : ∀ n : Fin 32, isTermRegister n (R.TERM_AO_CLR n) 0x49 = true) n)

theorem Field.takeTerm_aoCmd (n : Nat) (w : Word) (f : Field) :
    f.takeTerm n 0x43 w = ((f.store (R.TERM_AO_CMD n) w).freeStage n).outputCommand n false := by
  have haddr : R.CTRL (R.pageTERM n) - 1 + 0x43 = R.TERM_AO_CMD n := by
    unfold R.CTRL R.pageTERM R.TERM_AO_CMD
    omega
  rw [← haddr]
  rfl

/-- A stored word shows its writable bits. -/
theorem Field.store_word (a : Nat) (w : Word) (f : Field) : (f.store a w).cfg.word a &&& word (writeMask a) = w &&& word (writeMask a) := by
  have hmask (v m : Word) : (v &&& ~~~m ||| w &&& m) &&& m = w &&& m := by
    ext i hi
    simp only [BitVec.getElem_and, BitVec.getElem_or, BitVec.getElem_not]
    cases m[i] <;> simp
  simp only [Field.store, word_write_same, hmask]

/-- A command of an analogue output: the level that R25 then gives it is what it follows. -/
theorem Field.outputCommand_ao {n : Nat} (hn : n < 32) (was : Bool) (f : Field) (hf : isAo (f.func n) = true)
    (hx : f.noticed.any (fun y => y.n == n) = false) :
    (f.outputCommand n was).cfg = f.cfg ∧ ((f.outputCommand n was).term n).ss.stay = false ∧
      ((f.outputCommand n was).term n).want = ((f.outputCommand n was).act n).level := by
  obtain ⟨hstay, hended⟩ := f.stay_ended n
  have hfunc {g : Field} (h : g.Readied n f) : isAo (g.func n) = true := (congrArg isAo h.func).trans hf
  unfold Field.outputCommand
  extract_lets f1 f2 f3
  have h1 : f1.Readied n f := hstay
  have h2 : f2.Readied n f1 := by
    simp only [f2, Field.when]
    split
    · simp only [Field.tieSet, Field.tied_ao (hfunc h1)]
      exact Field.Readied.endHold f1
    · exact .refl f1
  have h3 : f3 = f2 := by simp [f3, Field.when, not_isDo_of_isAo (hfunc (h2.trans h1))]
  rw [h3]
  have hu : (f2.noteOne n).Readied n f1 := (Field.Readied.noteOne hn f2).trans h2
  have hfree : ((f2.noteOne n).term n).ss.stay = false := Bool.eq_false_iff.mpr fun h => Bool.eq_false_iff.mp hended (hu.stay h)
  replace hu := hu.trans h1
  have hsettle : f2.settleHost n = (f2.noteOne n).driveAo n ((f2.noteOne n).act n) none := by
    have hnot : (f2.noteOne n).noticed.any (fun y => y.n == n) = false := by rw [hu.noticed]; exact hx
    simp only [Field.settleHost, Field.tied_ao (hfunc (h2.trans h1)), Field.driveHost, hnot, Bool.false_eq_true, if_false, Field.driveNow,
      not_isDo_of_isAo (hfunc hu), hfunc hu, if_true]
  generalize f2.noteOne n = u at hu hfree hsettle
  have hsame : (f2.settleHost n).SameAct u := hsettle ▸ .driveAo n (u.act n) none u
  refine ⟨hsame.cfg.trans hu.cfg, (congrArg SsRun.stay (hsame.ss n)).trans hfree, ?_⟩
  rw [hsame.act hn, hsettle, (u.driveAo_kept n _ none).want, term_takesAct, if_pos rfl]

theorem clear_counts : ∀ n < 32, (F.TERM_AO_COUNT_COMPLIANCE n).clear (F.TERM_AO_COUNT_THERM_LIM n) = true := by decide

theorem Field.aoClearCounts_clears {n : Nat} (hn : n < 32) {f : Field} (hf : isAo (f.func n) = true) :
    (f.aoClearCounts n).g (F.TERM_AO_COUNT_COMPLIANCE n) = 0 ∧ (f.aoClearCounts n).g (F.TERM_AO_COUNT_THERM_LIM n) = 0 ∧
      (f.aoClearCounts n).cfg = f.cfg := by
  rw [Field.aoClearCounts, if_pos hf, Field.g_put_clear _ _ _ _ rfl (clear_counts n hn), Field.g_put_same _ _ _ rfl, Field.g_put_same _ _ _ rfl,
    Field.put_cfg, Field.put_cfg]
  exact ⟨rfl, rfl, rfl⟩

theorem offRails_thermal : ∀ n < 32, (F.TERM_AO_STAT_THERMAL n).offRails = true := by decide

theorem clear_thermal_ramping : ∀ n < 32, (F.TERM_AO_STAT_THERMAL n).clear (F.TERM_AO_STAT_RAMPING n) = true := by decide

/-- The trip ends, and the output goes through the thermal limit again (R211). -/
theorem Field.aoResume_ends {n : Nat} (hn : n < 32) {f : Field} (hf : isAo (f.func n) = true) :
    (f.aoResume n).gb (F.TERM_AO_STAT_THERMAL n) = false ∧ (f.aoResume n).cfg = f.cfg := by
  have hmem : F.TERM_AO_STAT_THERMAL n ∈ aoFlags n := by simp [aoFlags]
  cases ht : f.gb (F.TERM_AO_STAT_THERMAL n)
  · have hnot : f.aoResume n = f := by simp [Field.aoResume, ht]
    rw [hnot]
    exact ⟨ht, rfl⟩
  · have hends : f.aoResume n = (((f.put (F.TERM_AO_STAT_THERMAL n) 0).put (F.TERM_AO_STAT_RAMPING n) 0).settle n).thermalLimit n := by
      simp [Field.aoResume, hf, ht]
    generalize hu : (f.put (F.TERM_AO_STAT_THERMAL n) 0).put (F.TERM_AO_STAT_RAMPING n) 0 = u at hends
    have hucfg : u.cfg = f.cfg := by rw [← hu, Field.put_cfg, Field.put_cfg]
    have huflag : u.gb (F.TERM_AO_STAT_THERMAL n) = false := by
      rw [← hu, Field.gb_eq, Field.g_put_clear _ _ _ _ rfl (clear_thermal_ramping n hn)]
      exact Field.gb_putFlag hmem f false
    have hlimit := (u.settle n).thermalLimit_sameFlag (offRails_thermal n hn) n
    rw [hends]
    refine ⟨?_, hlimit.cfg.trans ((Field.Settled.settle n u).cfg.trans hucfg)⟩
    rw [Field.gb_eq, hlimit.flag]
    exact (Field.gb_settle_flag hn hmem u).trans huflag

/-- The cap goes one step below the level (R211). -/
def Field.lowered (n v : Nat) (f : Field) : Field :=
  f.modAo n fun o => { o with cap := some (min ((f.term n).ao.cap.getD v) v - aoSpan (f.func n) / 100) }

/-- THERM_LIM shows, with its count and event where it did not (R211). -/
def Field.limits (n : Nat) (f : Field) : Field :=
  f.when (!f.gb (F.TERM_AO_STAT_THERM_LIM n)) fun f =>
    ((f.put (F.TERM_AO_STAT_THERM_LIM n) 1).bump (F.TERM_AO_COUNT_THERM_LIM n)).evt (R.pageTERM n) 22

theorem Field.capDown_eq {n v : Nat} {f : Field} (h : (f.term n).level = some v) :
    f.capDown n false = ((f.lowered n v).limits n).settle n := by
  unfold Field.capDown
  rw [h]
  rfl

theorem Field.limits_term (n k : Nat) (f : Field) : (f.limits n).term k = f.term k := by
  unfold Field.limits Field.when
  split
  · rw [Field.term_evt, Field.term_bump]
    rfl
  · rfl

theorem Field.limits_shows {n : Nat} (hn : n < 32) (f : Field) : (f.limits n).gb (F.TERM_AO_STAT_THERM_LIM n) = true := by
  have hmem : F.TERM_AO_STAT_THERM_LIM n ∈ aoFlags n := by simp [aoFlags]
  unfold Field.limits
  cases h : f.gb (F.TERM_AO_STAT_THERM_LIM n)
  · change (((f.put (F.TERM_AO_STAT_THERM_LIM n) 1).bump (F.TERM_AO_COUNT_THERM_LIM n)).evt (R.pageTERM n) 22).gb _ = true
    rw [Field.gb_evt, Field.gb_bumpCount_flag hn hmem _ (.inr rfl)]
    exact Field.gb_putFlag hmem f true
  · exact h

section
variable {s : State} {n : Terminal} (hup : s.up)
include hup

section
variable {ctr : Word} (hcmds : s.ld.bar.cmds = [])
include hcmds

theorem aoCommand_follows {w : Word} (htakes : s.ld.takes ctr (R.TERM_AO_CMD n) w) (hrules : s.hostField.termRefuses n 0x43 w = none)
    (hf : isAo (s.fd.func n) = true) (hx : s.fd.noticed.any (fun y => y.n == n.val) = false) :
    Answers (exec (.aoCommand (some ctr) n w) s) fun t => t.ld.host.ferr = false ∧
      t.fd.cfg.word (R.TERM_AO_CMD n) &&& word (writeMask (R.TERM_AO_CMD n)) = w &&& word (writeMask (R.TERM_AO_CMD n)) ∧
      (t.fd.term n).ss.stay = false ∧ (t.fd.term n).want = (t.fd.act n).level := by
  obtain ⟨hfd, hferr⟩ := State.termWord_done hup hcmds htakes n.isLt (termRegister_aoCmd n) hrules
  refine ⟨{ drain (s.wordFrame (some ctr) (R.TERM_AO_CMD n) w) with pending := s.pending }, rfl, ?_⟩
  generalize s.wordFrame (some ctr) (R.TERM_AO_CMD n) w = u at hfd hferr
  rw [Field.take_term (termRegister_aoCmd n), Field.takeTerm_aoCmd] at hfd
  have hready := Field.Readied.freeStage (n := n) (s.fd.store (R.TERM_AO_CMD n) w)
  obtain ⟨hcfg, hstay, hwant⟩ := Field.outputCommand_ao n.isLt false ((s.fd.store (R.TERM_AO_CMD n) w).freeStage n)
    ((congrArg isAo hready.func).trans hf) (by rw [hready.noticed]; exact hx)
  have hstored : u.fd.cfg = (s.fd.store (R.TERM_AO_CMD n) w).cfg := hfd ▸ hcfg.trans hready.cfg
  refine ⟨(congrArg HostRun.ferr (drain_ld_same u).host).trans hferr, ?_, ?_, ?_⟩
  · rw [drain_fd_cfg, hstored]
    exact Field.store_word ..
  · rw [drain_fd_at_term, hfd]
    exact hstay
  · rw [drain_fd_at_term, (drain_sameAct u).act n.isLt, hfd]
    exact hwant

theorem aoClearCounts_counts (htakes : s.ld.takes ctr (R.TERM_AO_CLR n) 1#32) (hrules : s.hostField.termRefuses n 0x49 1#32 = none)
    (hf : isAo (s.fd.func n) = true) :
    Answers (exec (.aoClearCounts (some ctr) n) s) fun t => t.ld.host.ferr = false ∧ t.fd.g (F.TERM_AO_COUNT_COMPLIANCE n) = 0 ∧
      t.fd.g (F.TERM_AO_COUNT_THERM_LIM n) = 0 ∧ t.fd.cfg = s.fd.cfg := by
  obtain ⟨hfd, hferr⟩ := State.termWord_done hup hcmds htakes n.isLt (termRegister_aoClr n) hrules
  refine ⟨{ drain (s.wordFrame (some ctr) (R.TERM_AO_CLR n) 1#32) with pending := s.pending }, rfl, ?_⟩
  generalize s.wordFrame (some ctr) (R.TERM_AO_CLR n) 1#32 = u at hfd hferr
  rw [Field.take_term (termRegister_aoClr n)] at hfd
  have hclr : s.fd.takeTerm n 0x49 1#32 = s.fd.aoClearCounts n := rfl
  simp only [drain_fd_at_g, drain_fd_cfg, hfd, hclr]
  exact ⟨(congrArg HostRun.ferr (drain_ld_same _).host).trans hferr, Field.aoClearCounts_clears n.isLt hf⟩

end

theorem aoThermalLimit_toLow {need : Nat} (hf : isAo (s.fd.func n) = true) (hneed : s.fd.aoNeed n = some need)
    (hstopped : (s.fd.step (n / 8)).stopped = false) (habsent : (s.fd.step (n / 8)).absent = false) (hruns : s.fd.safeRuns = true)
    (hconnected : s.fd.aoConnected n = true) (hlow : need ≤ (s.fd.step (n / 8)).low) (hstands : need ≤ (s.fd.step (n / 8)).lowAt) :
    Answers (exec (.aoThermalLimit n) s) fun t => t.fd.g (F.TERM_AO_RAIL_SOURCE n) = 0 ∧ (t.fd.term n).ao.above = true ∧
      (t.fd.term n).level = (s.fd.term n).level := by
  refine exec_of_runField hup (h := Field.thermalLimit n) rfl ?_
  have hmoves := Field.thermalLimit_low hf hneed hstopped habsent hruns hconnected hlow hstands
  have hterm := Field.modAo_term n (fun o => { o with above := true }) s.fd
  have hkept := Field.showRail_kept n ((s.fd.modAo n fun o => { o with above := true }).put (F.TERM_AO_RAIL_SOURCE n) 0)
  simp only [drain_fd_at_g, drain_fd_at_term, hmoves]
  refine ⟨(Field.showRail_source n.isLt _).trans (Field.g_put_same _ _ _ rfl), ?_, ?_⟩
  · have habove : ((s.fd.modAo n fun o => { o with above := true }).term n).ao.above = true := by rw [hterm]
    exact (congrArg (fun t => t.ao.above) (hkept.term n)).trans habove
  · have hlevel : ((s.fd.modAo n fun o => { o with above := true }).term n).level = (s.fd.term n).level := by rw [hterm]
    exact (hkept.level n).trans hlevel

theorem aoCapStep_lowers {v : Nat} {below : Bool} (hf : isAo (s.fd.func n) = true) (habove : (s.fd.term n).ao.above = true)
    (hlevel : (s.fd.term n).level = some v) :
    Answers (exec (.aoCapStep n true below) s) fun t => t.fd.gb (F.TERM_AO_STAT_THERM_LIM n) = true ∧
      ((t.fd.term n).level.isSome = true →
        (t.fd.term n).ao.cap = some (min ((s.fd.term n).ao.cap.getD v) v - aoSpan (s.fd.func n) / 100)) := by
  refine exec_of_runField hup (h := Field.capStep n true below) rfl ?_
  have hmem : F.TERM_AO_STAT_THERM_LIM n ∈ aoFlags n := by simp [aoFlags]
  have hdown : s.fd.capStep n true below = ((s.fd.lowered n v).limits n).settle n := by
    simp only [Field.capStep, hf, habove, Bool.and_self, if_true]
    exact Field.capDown_eq hlevel
  simp only [drain_fd_at_gb, drain_fd_at_term, hdown]
  rw [Field.gb_settle_flag n.isLt hmem, Field.ao_settle, Field.limits_term, Field.lowered, Field.modAo_term]
  exact ⟨Field.limits_shows n.isLt _, fun _ => rfl⟩

theorem aoThermalTrip_zero (hf : isAo (s.fd.func n) = true) (hlevel : (s.fd.term n).level.isSome = true) (hp : s.fd.paired = false) :
    Answers (exec (.aoThermalTrip n) s) fun t => t.fd.gb (F.TERM_AO_STAT_THERMAL n) = true ∧ (t.fd.term n).level.getD 0 = 0 ∧
      t.ld.gb ⟨R.EVT_RAW (R.pageTERM n), 23, 1⟩ = true := by
  refine exec_of_runField hup (h := Field.aoTrip n false) rfl ?_
  have hmem : F.TERM_AO_STAT_THERMAL n ∈ aoFlags n := by simp [aoFlags]
  have hflag := isAoFlag_of_mem n.isLt hmem
  simp only [isAoFlag, Bool.and_eq_true] at hflag
  have htrip : s.fd.aoTrip n false = ((s.fd.put (F.TERM_AO_STAT_THERMAL n) 1).evt (R.pageTERM n) 23).settle n := by
    simp [Field.aoTrip, hf, hlevel]
  have hset : ((s.fd.put (F.TERM_AO_STAT_THERMAL n) 1).evt (R.pageTERM n) 23).gb (F.TERM_AO_STAT_THERMAL n) = true :=
    Field.gb_putFlag hmem s.fd true
  have hfunc : isAo (((s.fd.put (F.TERM_AO_STAT_THERMAL n) 1).evt (R.pageTERM n) 23).func n) = true :=
    (congrArg isAo (Field.g_put_clear s.fd _ _ _ rfl hflag.2)).trans hf
  have htells := Field.tells_evt (f := s.fd.put (F.TERM_AO_STAT_THERMAL n) 1) hup.2.2 (R.pageTERM n) (bit := 23) (by decide) false
  simp only [drain_fd_at_gb, drain_fd_at_term, htrip]
  refine ⟨(Field.gb_settle_flag n.isLt hmem _).trans hset, Field.settle_tripped_ao n.isLt _ hfunc hp hset, ?_⟩
  exact (htells.settle n).drain hup.2.1 (by decide)

theorem aoThermalResume_ends (hf : isAo (s.fd.func n) = true) :
    Answers (exec (.aoThermalResume n) s) fun t => t.fd.gb (F.TERM_AO_STAT_THERMAL n) = false ∧ t.fd.cfg = s.fd.cfg := by
  refine exec_of_runField hup (h := Field.aoResume n) rfl ?_
  simp only [drain_fd_at_gb, drain_fd_cfg]
  exact Field.aoResume_ends n.isLt hf

end

/-- Settles O33: each row by what its command does on the field die; settling an output keeps its flags and its cap, and a word of the host's
session reaches the field die. -/
theorem analogueOutputRows : Obligations.AnalogueOutputRows := by
  refine ⟨fun s ctr n w hup hcmds _ htakes hrules hf hx => aoCommand_follows hup hcmds htakes hrules hf hx,
    fun s n hup hf hx => aoCompliance_sets hup hf hx, fun s n hup hf => aoCompliance_clears hup hf,
    fun s n hup hf hx hsource hlevel => aoOpenLoop_sets hup hf hx hsource hlevel, fun s n hup hf => aoOpenLoop_clears hup hf,
    fun s n hup hf hx => aoVOverload_sets hup hf hx, fun s n hup hf => aoVOverload_clears hup hf,
    fun s n hup hf hc hl ho ht hx => readbackMismatch_sets hup hf hc hl ho ht hx,
    fun s n hup hf hc hl ho ht => readbackMismatch_clears hup hf hc hl ho ht,
    fun s n need hup hf hneed hstopped habsent hruns hconnected hlow hstands =>
      aoThermalLimit_toLow hup hf hneed hstopped habsent hruns hconnected hlow hstands,
    fun s n v below hup hf habove hlevel => aoCapStep_lowers hup hf habove hlevel,
    fun s n hup hf hlevel hp => aoThermalTrip_zero hup hf hlevel hp, fun s n hup hf => aoThermalResume_ends hup hf,
    fun s ctr n hup hcmds _ htakes hrules hf => aoClearCounts_counts hup hcmds htakes hrules hf⟩

end Sys2Proof.Machine
end

section
/-! Two statements of register words that fail: with the link down, the field die keeps at most 64 of the fault events that wait (R378), and
the lead of a READY pair commits a word of its session only once its partner has it (R331). -/

namespace Sys2Proof.Machine

open Sys2Proof

/-- A running device with an Owner's session and the link down; 65 fault events of one source wait on the field die. -/
def linkDownManyFaults : State :=
  { ld := { mode := .run, boot := { logic := 2 }, sess := { cur := some { id := 1, role := 3, top := 4 } } }
    fd := { released := true, out := List.replicate 65 (.fault { src := 0, severe := false }) } }

theorem linkDownManyFaults_takes : linkDownManyFaults.ld.takes 5#32 (R.EVT_EN R.pageHOST) 1#32 := by decide

/-- A word for EVT_EN has the newest of the events merged into another (R378). -/
theorem evtEnWord_linkDownManyFaults_out :
    (drain (linkDownManyFaults.wordFrame (some 5#32) (R.EVT_EN R.pageHOST) 1#32)).fd.out.length = 64 := rfl

/-- Refutes O27: in its first clause the field die does not stay as it is, for with the link down each command has it keep at most 64
events. -/
theorem not_fieldWordRows : ¬ Obligations.FieldWordRows := by
  unfold Obligations.FieldWordRows
  rintro ⟨hevtEn, -⟩
  obtain ⟨t, ht, -, -, hfd⟩ := hevtEn linkDownManyFaults 5#32 (Fin.ofNat 256 R.pageHOST) 1#32 rfl linkDownManyFaults_takes (by decide)
  obtain rfl : { drain (linkDownManyFaults.wordFrame (some 5#32) (R.EVT_EN R.pageHOST) 1#32) with
    pending := linkDownManyFaults.pending } = t := Host.Outcome.next.inj ht
  have hlength : (drain (linkDownManyFaults.wordFrame (some 5#32) (R.EVT_EN R.pageHOST) 1#32)).fd.out.length =
      linkDownManyFaults.fd.out.length := congrArg (fun f : Field => f.out.length) hfd
  exact absurd (evtEnWord_linkDownManyFaults_out.symm.trans hlength) (by decide)

/-- The running lead of a READY pair, with an Owner's session. -/
def leadOfReadyPair : State :=
  { ld := { regs := F.PAIR_STAT_READY.set 1 (F.PAIR_STAT_ROLE.set 1 []), mode := .run, boot := { logic := 2 }
            sess := { cur := some { id := 1, role := 3, top := 4 } } } }

theorem leadOfReadyPair_accepts : leadOfReadyPair.ld.serves = true ∧ leadOfReadyPair.ld.accepts 5#32 = true := by decide

/-- Its session's word for an address of the reserved page 0x10 waits while it is mirrored, and its frame ends without error. -/
theorem reservedWord_leadOfReadyPair :
    (leadOfReadyPair.wordFrame (some 5#32) 0x1000 0#32).ld.host.auth.isSome = true ∧
      (leadOfReadyPair.wordFrame (some 5#32) 0x1000 0#32).ld.host.ferr = false := by decide

/-- Refutes O55: in its last clause the frame of a session's word for a reserved page may leave FERR clear, for on the lead of a READY pair
the word is mirrored first and commits later (R331). -/
theorem not_reservedAddresses : ¬ Obligations.ReservedAddresses := by
  unfold Obligations.ReservedAddresses
  rintro ⟨-, -, -, -, -, hsession⟩
  obtain ⟨hserves, haccepts⟩ := leadOfReadyPair_accepts
  obtain ⟨t, ht, hferr, -⟩ := hsession leadOfReadyPair 5#32 0x1000 0#32 false rfl hserves haccepts rfl
  obtain rfl : { drain (leadOfReadyPair.wordFrame (some 5#32) 0x1000 0#32) with pending := leadOfReadyPair.pending } = t :=
    Host.Outcome.next.inj ht
  have hhost := congrArg HostRun.ferr (drain_ld_same (leadOfReadyPair.wordFrame (some 5#32) 0x1000 0#32)).host
  exact Bool.false_ne_true (reservedWord_leadOfReadyPair.2.symm.trans (hhost.symm.trans hferr))

end Sys2Proof.Machine
end

section
/-! Validation of the number of analogue outputs (R64, R310, R424): seventeen or more are a failure of the crosspoint page, up to sixteen
none, and a failure of any page ends the CLOSE. -/

namespace Sys2Proof.Machine

open Sys2Proof

/-- The terminals that a configuration makes analogue outputs. -/
def Field.aoTerms (f : Field) : List Nat := allTerms.filter fun n => isAo (f.c (F.TERM_CELL_FUNC n))

/-- Beyond sixteen, their number is a failure of the crosspoint page. -/
theorem Field.aoCount_mem_xptFails {f : Field} (h : 16 < f.aoTerms.length) (bad : List Nat) (live : Option RegFile) :
    xptFail 9 64 (f.aoTerms.getD 16 0) ∈ f.xptFails bad live := by
  unfold Field.xptFails
  rw [Field.aoTerms] at h
  simp only [List.mem_append, if_pos h]
  exact .inl (.inl (.inr (List.mem_singleton.mpr rfl)))

theorem xptFail_reason_ne {r : Nat} (h : r ≠ 9) (k n : Nat) : (xptFail r k n).reason ≠ 9 := h

/-- Up to sixteen, no failure of the crosspoint page is of their number. -/
theorem Field.xptFails_reason_ne {f : Field} (h : f.aoTerms.length ≤ 16) (bad : List Nat) (live : Option RegFile) :
    ∀ v ∈ f.xptFails bad live, v.reason ≠ 9 := by
  have hmap {α : Type} {xs : List α} {r : Nat} (hr : r ≠ 9) (k n : α → Nat) : ∀ v ∈ xs.map fun x => xptFail r (k x) (n x), v.reason ≠ 9 :=
    List.forall_mem_map.mpr fun x _ => xptFail_reason_ne hr (k x) (n x)
  unfold Field.xptFails
  rw [Field.aoTerms] at h
  simp only [List.forall_mem_append, if_neg (Nat.not_lt.mpr h)]
  refine ⟨⟨⟨⟨⟨⟨⟨⟨⟨⟨?enc, hmap (by decide) _ _⟩, hmap (by decide) _ _⟩, hmap (by decide) _ _⟩, hmap (by decide) _ _⟩, hmap (by decide) _ _⟩,
    hmap (by decide) _ _⟩, hmap (by decide) _ _⟩, List.forall_mem_nil _⟩, ?tdac⟩, ?cells⟩
  case enc =>
    refine List.forall_mem_filterMap.mpr fun a _ v hv => ?_
    split at hv
    · split at hv
      · exact Option.some.inj hv ▸ xptFail_reason_ne (by decide) _ _
      · split at hv
        · exact Option.some.inj hv ▸ xptFail_reason_ne (by decide) _ _
        · exact absurd hv (Option.some_ne_none v).symm
    · exact absurd hv (Option.some_ne_none v).symm
  case tdac =>
    split
    · exact List.forall_mem_nil _
    · refine List.forall_mem_append.mpr ⟨List.forall_mem_filterMap.mpr fun x _ v hv => ?_, hmap (by decide) _ _⟩
      split at hv
      · exact Option.some.inj hv ▸ xptFail_reason_ne (by decide) _ _
      · exact absurd hv (Option.some_ne_none v).symm
  case cells =>
    split
    · exact hmap (by decide) _ _
    · exact List.forall_mem_nil _

theorem validate_ok_of_xptFails {paired : Bool} {live : Option RegFile} {r : RegFile} {v : VFail}
    (h : v ∈ ({ cfg := r } : Field).xptFails (badWords paired r) live) : (validate paired live r).ok = false := by
  have hne : (({ cfg := r } : Field).xptFails (badWords paired r) live == []) = false := by
    rw [beq_eq_false_iff_ne]
    exact List.ne_nil_of_mem h
  simp [validate, hne]

/-! A CLOSE that fails (R309, R310, R424). -/

theorem Logic.showVerdict_mram (v : Verdict) (l : Logic) : (l.showVerdict v).mram = l.mram := by
  unfold Logic.showVerdict
  induction v.words generalizing l with
  | nil => rfl
  | cons x xs ih =>
    rw [List.foldl_cons, ih]
    unfold Logic.when
    split <;> simp [Logic.evt_eq]

theorem Logic.tellCheck_mram (ok : Bool) (l : Logic) : (l.tellCheck ok).mram = l.mram := by
  unfold Logic.tellCheck Logic.when
  split
  · unfold Logic.sendPartner Logic.when
    split <;> rfl
  · rfl

theorem Logic.endClose_mram (reason page : Nat) (l : Logic) : (l.endClose reason page).mram = l.mram := by
  unfold Logic.endClose
  simp only [Logic.evt_eq, Logic.putb_eq, Logic.setEvt_mram, Logic.put_mram]
  rfl

/-- An event of the DEVICE page shows in no other register of it. -/
theorem Logic.g_evt_device (bit : Nat) (l : Logic) {x : Fld} (hx : x.addr = R.DEVICE_CRATE_STAT) (hb : bit < 32 := by decide) :
    (l.evt R.pageDEVICE bit).g x = l.g x := by
  rw [Logic.evt_eq, Logic.g, Logic.setEvt_regs]
  exact l.g_put_clear x _ 1 (by simpa [Fld.fits] using hb) (by simp [Fld.clear, hx]; exact .inl (.inl (by decide)))

/-- What a CLOSE that fails shows in CRATE_STAT (R309, R317). -/
theorem Logic.endClose_validation (page : Nat) (l : Logic) :
    (l.endClose 9 page).crateState = stIdle ∧ (l.endClose 9 page).g F.DEVICE_CRATE_STAT_REASON = 9 ∧
      (l.endClose 9 page).gb F.DEVICE_CRATE_STAT_LAST_OK = false := by
  unfold Logic.endClose
  dsimp only
  generalize Logic.modPair _ _ = u
  rw [Logic.crateState, Logic.gb_eq, Logic.putb_eq, if_neg (by decide), Logic.g_evt_device 9 _ rfl, Logic.g_evt_device 9 _ rfl,
    Logic.g_evt_device 9 _ rfl]
  refine ⟨?state, ?reason, ?lastOk⟩
  case state =>
    rw [Logic.g_put_clear _ _ _ _ rfl rfl, Logic.g_put_clear _ _ _ _ rfl rfl, Logic.g_put_clear _ _ _ _ rfl rfl, Logic.g_put_same _ _ _ rfl]
    rfl
  case reason =>
    rw [Logic.g_put_clear _ _ _ _ rfl rfl, Logic.g_put_clear _ _ _ _ rfl rfl, Logic.g_put_same _ _ _ rfl]
    rfl
  case lastOk =>
    rw [Logic.g_put_same _ _ _ rfl]
    rfl

/-- A validation that fails ends the CLOSE (R310, R424). -/
theorem State.validationDone_fails {s : State} (hstate : s.ld.crateState = stValidating) (hmine : s.ld.crate.mine = false)
    (hfail : ∀ live, (validate (crateTarget s.ld.crate.words == 1) live (crateConfig s.ld.regs s.ld.crate.words)).ok = false) :
    ∃ (u : Logic) (page : Nat), s.validationDone = { s with ld := u.endClose 9 page } ∧ u.linkUp = s.ld.linkUp ∧ u.mram = s.ld.mram := by
  have hok := hfail (if (s.ld.mode == .run || s.ld.mode == .safe) && crateFlags s.ld.crate.words % 2 == 1 then some s.ld.regs else none)
  unfold State.validationDone
  rw [if_neg (by simp [hstate, hmine])]
  dsimp only
  simp only [hok, Bool.not_false, if_true, Bool.false_and, Logic.when_false]
  refine ⟨_, _, rfl, by simp [Logic.tellCheck], ?_⟩
  rw [Logic.tellCheck_mram, Logic.showVerdict_mram]

theorem crateValidationComplete_fails {s : State} (htold : s.told = true) (hstate : s.ld.crateState = stValidating)
    (hmine : s.ld.crate.mine = false)
    (hfail : ∀ live, (validate (crateTarget s.ld.crate.words == 1) live (crateConfig s.ld.regs s.ld.crate.words)).ok = false) :
    Answers (exec .crateValidationComplete s) fun t => t.ld.crateState = stIdle ∧ t.ld.g F.DEVICE_CRATE_STAT_REASON = 9 ∧
      t.ld.gb F.DEVICE_CRATE_STAT_LAST_OK = false ∧ t.ld.mram = s.ld.mram := by
  obtain ⟨u, page, hdone, hlink, hmram⟩ := State.validationDone_fails hstate hmine hfail
  have hld : (drain s.validationDone).ld = u.endClose 9 page := by
    rw [hdone]
    exact drain_ld_told _ (State.told_of_same htold ((Logic.endClose_linkUp ..).trans hlink) rfl)
  obtain ⟨hidle, hreason, hlast⟩ := Logic.endClose_validation page u
  refine ⟨{ drain s.validationDone with pending := s.pending }, rfl, ?_⟩
  dsimp only
  rw [hld]
  exact ⟨hidle, hreason, hlast, (Logic.endClose_mram ..).trans hmram⟩

/-- Settles O60: the number is judged among the checks of the crosspoint page, which name it in one failure. -/
theorem analogueOutputLimit : Obligations.AnalogueOutputLimit :=
  ⟨fun _ htold hstate hmine hmany => crateValidationComplete_fails htold hstate hmine fun live =>
    validate_ok_of_xptFails (Field.aoCount_mem_xptFails hmany _ live), fun _ bad live hfew => Field.xptFails_reason_ne hfew bad live⟩

end Sys2Proof.Machine
end

section
/-! What driving an output leaves of the measurement side of the field die (R74, R180, R181, R186, R218, R227): one lemma for each function
that terminals, supplies, reflexes and the governor use. `-implicitDefEqProofs` has simp record its steps, which the kernel would otherwise
evaluate. -/

namespace Sys2Proof.Machine

open Sys2Proof

namespace Field

/-- The field die without what driving an output may change: what shows and what is told, terminals, supplies, groups, rules, the governor
and changes that are announced. -/
def measureSide (f : Field) : Field :=
  { f with wdArmed := false, report := false, img := [], out := [], draws := 0, deferred := [], terms := [], steps := [], groups := []
           ruleHeld := 0, gov := {}, noticed := [], notices := [] }

/-- A change of any of that leaves it. -/
@[simp] theorem measureSide_mk (f : Field) (wdArmed report : Bool) (draws ruleHeld : Nat) (img : RegFile) (out : List FMsg)
    (deferred : List (Nat × Nat)) (terms : Tab TermRun) (steps : Tab StepRun) (groups : Tab GroupRun) (gov : Governor)
    (noticed : List Announced) (notices : List Notice) :
    ({ released := f.released, configured := f.configured, mode := f.mode, paired := f.paired, lead := f.lead, wdArmed,
       handover := f.handover, quiet := f.quiet, report, rolesDown := f.rolesDown, cfg := f.cfg, img, out, time := f.time, draws,
       ctxs := f.ctxs, slices := f.slices, progs := f.progs, trigs := f.trigs, trigSeen := f.trigSeen, syncout := f.syncout,
       tdacFault := f.tdacFault, onFrc := f.onFrc, frcBad := f.frcBad, recBad := f.recBad, degraded := f.degraded, returnAt := f.returnAt,
       urgReqs := f.urgReqs, urgOver := f.urgOver, rolesBack := f.rolesBack, diagGone := f.diagGone, veto := f.veto, deferred,
       rot := f.rot, cal := f.cal, snapq := f.snapq, exc := f.exc, terms, steps, groups, ruleHeld, gov, commits := f.commits,
       resets := f.resets, shutting := f.shutting, seqsLost := f.seqsLost, joined := f.joined, ramp := f.ramp, dropped := f.dropped,
       noticed, notices, tn := f.tn, tnMax := f.tnMax, tnMoves := f.tnMoves, partnerShunts := f.partnerShunts, bothShunts := f.bothShunts,
       partAt := f.partAt, crateHash := f.crateHash, crateHead := f.crateHead } : Field).measureSide =
      f.measureSide := (rfl)

/-- On the measurement side two field dies agree, but for excitation. -/
structure SameButExc (g f : Field) : Prop where
  side : ({ g with exc := f.exc } : Field).measureSide = f.measureSide

theorem sameButExc_of_measureSide {g f : Field} (h : g.measureSide = f.measureSide) : g.SameButExc f :=
  ⟨congrArg (fun u : Field => { u with exc := f.exc }) h⟩

theorem SameButExc.trans {h g f : Field} (a : h.SameButExc g) (b : g.SameButExc f) : h.SameButExc f :=
  ⟨Eq.trans (congrArg (fun u : Field => { u with exc := f.exc }) a.side) b.side⟩

/-- A measurement side holds what Field.SameMeasure compares. -/
theorem sameMeasure_of_measureSide {g f : Field} (h : g.measureSide = f.measureSide) : g.SameMeasure f := by
  have hsame : g.measureSide.SameMeasure f.measureSide := by
    rw [h]
    constructor <;> rfl
  exact ⟨hsame.ctxs, hsame.slices, hsame.progs, hsame.trigs, hsame.trigSeen, hsame.syncout, hsame.tdacFault, hsame.onFrc, hsame.frcBad,
    hsame.recBad, hsame.degraded, hsame.returnAt, hsame.urgReqs, hsame.urgOver, hsame.rolesBack, hsame.diagGone, hsame.seqsLost, hsame.rot,
    hsame.cal, hsame.snapq, hsame.exc, hsame.commits⟩

/-! The named updates that leave it. -/

@[simp] theorem measureSide_put (f : Field) (x : Fld) (v : Nat) : (f.put x v).measureSide = f.measureSide := (rfl)
@[simp] theorem measureSide_putb (f : Field) (x : Fld) (b : Bool) : (f.putb x b).measureSide = f.measureSide := (rfl)
@[simp] theorem measureSide_forget (f : Field) (p : Nat → Bool) : (f.forget p).measureSide = f.measureSide := (rfl)
@[simp] theorem measureSide_bump (f : Field) (x : Fld) : (f.bump x).measureSide = f.measureSide := (rfl)
@[simp] theorem measureSide_tell (f : Field) (m : FMsg) : (f.tell m).measureSide = f.measureSide := (rfl)
@[simp] theorem measureSide_evt (f : Field) (p b q : Nat) (i u : Bool) : (f.evt p b q i u).measureSide = f.measureSide := (rfl)
@[simp] theorem measureSide_fault (f : Field) (k : Nat) (b : Bool) (p : Option Nat) (i : Bool) :
    (f.fault k b p i).measureSide = f.measureSide := (rfl)
@[simp] theorem measureSide_draw (f : Field) : f.draw.2.measureSide = f.measureSide := (rfl)
@[simp] theorem measureSide_setTerm (f : Field) (n : Nat) (t : TermRun) : (f.setTerm n t).measureSide = f.measureSide := (rfl)
@[simp] theorem measureSide_modTerm (f : Field) (n : Nat) (h : TermRun → TermRun) : (f.modTerm n h).measureSide = f.measureSide := (rfl)
@[simp] theorem measureSide_modDout (f : Field) (n : Nat) (h : DoRun → DoRun) : (f.modDout n h).measureSide = f.measureSide := (rfl)
@[simp] theorem measureSide_modDi (f : Field) (n : Nat) (h : DiRun → DiRun) : (f.modDi n h).measureSide = f.measureSide := (rfl)
@[simp] theorem measureSide_modAo (f : Field) (n : Nat) (h : AoRun → AoRun) : (f.modAo n h).measureSide = f.measureSide := (rfl)
@[simp] theorem measureSide_modSs (f : Field) (n : Nat) (h : SsRun → SsRun) : (f.modSs n h).measureSide = f.measureSide := (rfl)
@[simp] theorem measureSide_modStep (f : Field) (g : Nat) (h : StepRun → StepRun) : (f.modStep g h).measureSide = f.measureSide := (rfl)
@[simp] theorem measureSide_modGroup (f : Field) (g : Nat) (h : GroupRun → GroupRun) : (f.modGroup g h).measureSide = f.measureSide := (rfl)

@[simp] theorem measureSide_when (c : Bool) (h : Field → Field) (f : Field) (hh : ∀ f, (h f).measureSide = f.measureSide) :
    (f.when c h).measureSide = f.measureSide := by
  cases c
  · rfl
  · exact hh f

@[simp] theorem measureSide_foldl {α : Type} (xs : List α) (h : Field → α → Field) (f : Field)
    (hh : ∀ f x, (h f x).measureSide = f.measureSide) : (xs.foldl h f).measureSide = f.measureSide := by
  induction xs generalizing f with
  | nil => rfl
  | cons x xs ih => exact (ih (h f x)).trans (hh f x)

@[simp] theorem measureSide_each (ns : List Nat) (h : Nat → Field → Field) (f : Field) (hh : ∀ n f, (h n f).measureSide = f.measureSide) :
    (f.each ns h).measureSide = f.measureSide := measureSide_foldl ns (fun f n => h n f) f fun f n => hh n f
/-! An output follows its action (R25, R186, R202, R222, R332). -/

@[simp] theorem measureSide_noteTriggers (f : Field) (n : Nat) : (f.noteTriggers n).measureSide = f.measureSide := by
  unfold noteTriggers
  dsimp only
  repeat' split
  all_goals simp -implicitDefEqProofs

@[simp] theorem measureSide_noteOne (f : Field) (n : Nat) : (f.noteOne n).measureSide = f.measureSide := by
  simp -implicitDefEqProofs [noteOne]

@[simp] theorem measureSide_freshAttempts (f : Field) (n : Nat) : (f.freshAttempts n).measureSide = f.measureSide := by
  simp -implicitDefEqProofs [freshAttempts]

@[simp] theorem measureSide_driveDo (f : Field) (n : Nat) (a : Act) (shown : Option Act) :
    (f.driveDo n a shown).measureSide = f.measureSide := by
  simp -implicitDefEqProofs [driveDo]

@[simp] theorem measureSide_showRail (f : Field) (n : Nat) : (f.showRail n).measureSide = f.measureSide := by
  simp -implicitDefEqProofs [showRail, apply_ite measureSide]

@[simp] theorem measureSide_showGroup (f : Field) (n : Nat) : (f.showGroup n).measureSide = f.measureSide := by
  simp -implicitDefEqProofs [showGroup, apply_ite measureSide]

@[simp] theorem measureSide_driveAo (f : Field) (n : Nat) (a : Act) (shown : Option Act) :
    (f.driveAo n a shown).measureSide = f.measureSide := by
  simp -implicitDefEqProofs [driveAo]
  split <;> simp -implicitDefEqProofs [apply_ite measureSide]

@[simp] theorem measureSide_driveNow (f : Field) (n : Nat) : (f.driveNow n).measureSide = f.measureSide := by
  simp -implicitDefEqProofs [driveNow, apply_ite measureSide]

@[simp] theorem measureSide_driveAnnounced (f : Field) (x : Announced) : (f.driveAnnounced x).measureSide = f.measureSide := by
  simp -implicitDefEqProofs [driveAnnounced, apply_ite measureSide]

@[simp] theorem measureSide_tellPartner (f : Field) (n : Nat) : (f.tellPartner n).measureSide = f.measureSide := by
  simp -implicitDefEqProofs [tellPartner, apply_ite measureSide]

@[simp] theorem measureSide_drive (f : Field) (n : Nat) : (f.drive n).measureSide = f.measureSide := by
  simp -implicitDefEqProofs [drive, apply_ite measureSide]

@[simp] theorem measureSide_settle (f : Field) (n : Nat) : (f.settle n).measureSide = f.measureSide := by
  unfold settle
  split <;> simp -implicitDefEqProofs

@[simp] theorem measureSide_settleAll (f : Field) : f.settleAll.measureSide = f.measureSide := by simp -implicitDefEqProofs [settleAll]

@[simp] theorem measureSide_showShedding (f : Field) (g : Nat) : (f.showShedding g).measureSide = f.measureSide := by
  simp -implicitDefEqProofs [showShedding]

/-! Analogue outputs and their supplies (chapter 12). -/

@[simp] theorem measureSide_toSource (f : Field) (n src : Nat) : (f.toSource n src).measureSide = f.measureSide := by
  simp -implicitDefEqProofs [toSource, apply_ite measureSide]

@[simp] theorem measureSide_advance (f : Field) (g : Nat) : (f.advance g).measureSide = f.measureSide := by
  simp -implicitDefEqProofs [advance]
  split <;> simp -implicitDefEqProofs [apply_ite measureSide]

@[simp] theorem measureSide_startPlan (f : Field) (g : Nat) (p : Retune) : (f.startPlan g p).measureSide = f.measureSide := by
  simp -implicitDefEqProofs [startPlan]

@[simp] theorem measureSide_retune (f : Field) (g : Nat) : (f.retune g).measureSide = f.measureSide := by
  simp -implicitDefEqProofs [retune, apply_ite measureSide]

@[simp] theorem measureSide_railArrives (f : Field) (g : Nat) (high : Bool) : (f.railArrives g high).measureSide = f.measureSide := by
  simp -implicitDefEqProofs [railArrives, apply_ite measureSide]

@[simp] theorem measureSide_headroomMove (f : Field) (n : Nat) : (f.headroomMove n).measureSide = f.measureSide := by
  simp -implicitDefEqProofs [headroomMove, apply_ite measureSide]

@[simp] theorem measureSide_aoFault (f : Field) (n : Nat) (severe inj : Bool) : (f.aoFault n severe inj).measureSide = f.measureSide := by
  simp -implicitDefEqProofs [aoFault]

@[simp] theorem measureSide_compliance (f : Field) (n : Nat) (set inj : Bool) : (f.compliance n set inj).measureSide = f.measureSide := by
  simp -implicitDefEqProofs [compliance, apply_ite measureSide]

@[simp] theorem measureSide_openLoop (f : Field) (n : Nat) (set inj : Bool) : (f.openLoop n set inj).measureSide = f.measureSide := by
  simp -implicitDefEqProofs [openLoop, apply_ite measureSide]

@[simp] theorem measureSide_aoOverload (f : Field) (n : Nat) (set inj : Bool) : (f.aoOverload n set inj).measureSide = f.measureSide := by
  simp -implicitDefEqProofs [aoOverload, apply_ite measureSide]

@[simp] theorem measureSide_thermalLimit (f : Field) (n : Nat) : (f.thermalLimit n).measureSide = f.measureSide := by
  simp -implicitDefEqProofs [thermalLimit, apply_ite measureSide]
  split <;> simp -implicitDefEqProofs [apply_ite measureSide]

@[simp] theorem measureSide_capDown (f : Field) (n : Nat) (inj : Bool) : (f.capDown n inj).measureSide = f.measureSide := by
  unfold capDown
  split <;> simp -implicitDefEqProofs

@[simp] theorem measureSide_capUp (f : Field) (n : Nat) : (f.capUp n).measureSide = f.measureSide := by
  unfold capUp
  split <;> simp -implicitDefEqProofs

@[simp] theorem measureSide_capStep (f : Field) (n : Nat) (excess below : Bool) :
    (f.capStep n excess below).measureSide = f.measureSide := by
  simp -implicitDefEqProofs [capStep, apply_ite measureSide]

@[simp] theorem measureSide_aoTrip (f : Field) (n : Nat) (inj : Bool) : (f.aoTrip n inj).measureSide = f.measureSide := by
  simp -implicitDefEqProofs [aoTrip, apply_ite measureSide]

@[simp] theorem measureSide_aoResume (f : Field) (n : Nat) : (f.aoResume n).measureSide = f.measureSide := by
  simp -implicitDefEqProofs [aoResume, apply_ite measureSide]

@[simp] theorem measureSide_stepFault (f : Field) (g : Nat) (inj : Bool) : (f.stepFault g inj).measureSide = f.measureSide := by
  simp -implicitDefEqProofs [stepFault, apply_ite measureSide]

@[simp] theorem measureSide_stepRestart (f : Field) (g : Nat) (ok : Bool) : (f.stepRestart g ok).measureSide = f.measureSide := by
  simp -implicitDefEqProofs [stepRestart, apply_ite measureSide]

@[simp] theorem measureSide_readback (f : Field) (n : Nat) (set inj : Bool) : (f.readback n set inj).measureSide = f.measureSide := by
  simp -implicitDefEqProofs [readback, apply_ite measureSide]

/-! Digital inputs (chapter 10). -/

@[simp] theorem measureSide_diCount (f : Field) (n : Nat) (on : Bool) : (f.diCount n on).measureSide = f.measureSide := by
  simp -implicitDefEqProofs [diCount, apply_ite measureSide]

@[simp] theorem measureSide_diChange (f : Field) (n : Nat) : (f.diChange n).measureSide = f.measureSide := by
  simp -implicitDefEqProofs [diChange, apply_ite measureSide]

@[simp] theorem measureSide_diReject (f : Field) (n : Nat) : (f.diReject n).measureSide = f.measureSide := by
  simp -implicitDefEqProofs [diReject]

@[simp] theorem measureSide_diInterval (f : Field) (n : Nat) : (f.diInterval n).measureSide = f.measureSide := by
  simp -implicitDefEqProofs [diInterval, apply_ite measureSide]

@[simp] theorem measureSide_diStuck (f : Field) (n : Nat) (inj : Bool) : (f.diStuck n inj).measureSide = f.measureSide := by
  simp -implicitDefEqProofs [diStuck, apply_ite measureSide]

/-! Cells and switched outputs (chapters 04 and 11). -/

@[simp] theorem measureSide_startsLow (f : Field) (n : Nat) : (f.startsLow n).measureSide = f.measureSide := by
  unfold startsLow
  dsimp only
  repeat' split
  all_goals simp -implicitDefEqProofs

@[simp] theorem measureSide_shuntOpen (f : Field) (n : Nat) (inj : Bool) : (f.shuntOpen n inj).measureSide = f.measureSide := by
  simp -implicitDefEqProofs [shuntOpen, apply_ite measureSide]

@[simp] theorem measureSide_shuntReclose (f : Field) (n : Nat) : (f.shuntReclose n).measureSide = f.measureSide := by
  simp -implicitDefEqProofs [shuntReclose, apply_ite measureSide]

@[simp] theorem measureSide_doFault (f : Field) (n : Nat) (inj : Bool) : (f.doFault n inj).measureSide = f.measureSide := by
  simp -implicitDefEqProofs [doFault]

@[simp] theorem measureSide_doFlag (f : Field) (n : Nat) (x : Fld) (bit : Nat) (inj : Bool) :
    (f.doFlag n x bit inj).measureSide = f.measureSide := by
  simp -implicitDefEqProofs [doFlag]

@[simp] theorem measureSide_reverse (f : Field) (n : Nat) (inj : Bool) : (f.reverse n inj).measureSide = f.measureSide := by
  simp -implicitDefEqProofs [reverse, apply_ite measureSide]

@[simp] theorem measureSide_reverseEnd (f : Field) (n : Nat) : (f.reverseEnd n).measureSide = f.measureSide := by
  simp -implicitDefEqProofs [reverseEnd, apply_ite measureSide]

@[simp] theorem measureSide_latch (f : Field) (n : Nat) (inj : Bool) : (f.latch n inj).measureSide = f.measureSide := by
  simp -implicitDefEqProofs [latch]

@[simp] theorem measureSide_overload (f : Field) (n : Nat) (inj : Bool) : (f.overload n inj).measureSide = f.measureSide := by
  simp -implicitDefEqProofs [overload]

@[simp] theorem measureSide_foldback (f : Field) (n : Nat) (inj : Bool) : (f.foldback n inj).measureSide = f.measureSide := by
  simp -implicitDefEqProofs [foldback, apply_ite measureSide]

@[simp] theorem measureSide_overloadRetry (f : Field) (n : Nat) : (f.overloadRetry n).measureSide = f.measureSide := by
  simp -implicitDefEqProofs [overloadRetry, apply_ite measureSide]

@[simp] theorem measureSide_thermalTrip (f : Field) (n : Nat) (inj : Bool) : (f.thermalTrip n inj).measureSide = f.measureSide := by
  simp -implicitDefEqProofs [thermalTrip, apply_ite measureSide]

@[simp] theorem measureSide_cooled (f : Field) (n : Nat) : (f.cooled n).measureSide = f.measureSide := by
  simp -implicitDefEqProofs [cooled, apply_ite measureSide]

@[simp] theorem measureSide_thermalRetry (f : Field) (n : Nat) : (f.thermalRetry n).measureSide = f.measureSide := by
  simp -implicitDefEqProofs [thermalRetry, apply_ite measureSide]

@[simp] theorem measureSide_limitRegulation (f : Field) (n : Nat) (e : LimitEvent) (inj : Bool) :
    (f.limitRegulation n e inj).measureSide = f.measureSide := by
  unfold limitRegulation
  repeat' split
  all_goals simp -implicitDefEqProofs

@[simp] theorem measureSide_showBand (f : Field) (b : BandReport) (n : Nat) : (f.showBand b n).measureSide = f.measureSide := by
  simp -implicitDefEqProofs [showBand]

@[simp] theorem measureSide_bandHeld (f : Field) (n : Nat) (b : BandReport) : (f.bandHeld n b).measureSide = f.measureSide := by
  simp -implicitDefEqProofs [bandHeld, apply_ite measureSide]

@[simp] theorem measureSide_iminLow (f : Field) (n : Nat) (low : Bool) : (f.iminLow n low).measureSide = f.measureSide := by
  simp -implicitDefEqProofs [iminLow, apply_ite measureSide]

@[simp] theorem measureSide_pulseStart (f : Field) (n : Nat) : (f.pulseStart n).measureSide = f.measureSide := by
  simp -implicitDefEqProofs [pulseStart]

@[simp] theorem measureSide_pulseDue (f : Field) (n : Nat) : (f.pulseDue n).measureSide = f.measureSide := by
  simp -implicitDefEqProofs [pulseDue, apply_ite measureSide]

@[simp] theorem measureSide_pulseResult (f : Field) (pass inj : Bool) (n : Nat) :
    (f.pulseResult pass inj n).measureSide = f.measureSide := by
  simp -implicitDefEqProofs [pulseResult, apply_ite measureSide]

@[simp] theorem measureSide_pulseEnd (f : Field) (n : Nat) (fell : Bool) : (f.pulseEnd n fell).measureSide = f.measureSide := by
  simp -implicitDefEqProofs [pulseEnd, apply_ite measureSide]

@[simp] theorem measureSide_retireSegment (f : Field) (n k cause : Nat) (inj : Bool) :
    (f.retireSegment n k cause inj).measureSide = f.measureSide := by
  unfold retireSegment
  dsimp only
  repeat' split
  all_goals simp -implicitDefEqProofs

@[simp] theorem measureSide_wearSegment (f : Field) (n k : Nat) : (f.wearSegment n k).measureSide = f.measureSide := by
  simp -implicitDefEqProofs [wearSegment, apply_ite measureSide]

@[simp] theorem measureSide_countSegment (f : Field) (n : Nat) (r : SegReading) : (f.countSegment n r).measureSide = f.measureSide := by
  simp -implicitDefEqProofs [countSegment]

@[simp] theorem measureSide_segments (f : Field) (n : Nat) (rs : List SegReading) (ron : Nat) :
    (f.segments n rs ron).measureSide = f.measureSide := by
  unfold segments
  dsimp only
  refine (measureSide_when _ _ _ fun f => by simp).trans (measureSide_when _ _ _ fun f => ?_)
  split
  · split <;> simp -implicitDefEqProofs
  · simp -implicitDefEqProofs

/-! Supplies, safe states, reflexes and the governor (chapter 13). -/

@[simp] theorem measureSide_setStay (f : Field) (n : Nat) (b : Bool) : (f.setStay n b).measureSide = f.measureSide := by
  simp -implicitDefEqProofs [setStay]

@[simp] theorem measureSide_shed (f : Field) (n : Nat) : (f.shed n).measureSide = f.measureSide := by
  simp -implicitDefEqProofs [shed, apply_ite measureSide]

@[simp] theorem measureSide_shedBelow (f : Field) (g bound : Nat) : (f.shedBelow g bound).measureSide = f.measureSide := by
  simp -implicitDefEqProofs [shedBelow, apply_ite measureSide]

@[simp] theorem measureSide_lowSets (f : Field) (g : Nat) : (f.lowSets g).measureSide = f.measureSide := by
  simp -implicitDefEqProofs [lowSets]
  split <;> simp -implicitDefEqProofs

@[simp] theorem measureSide_uvSets (f : Field) (g : Nat) : (f.uvSets g).measureSide = f.measureSide := by
  simp -implicitDefEqProofs [uvSets]

@[simp] theorem measureSide_flagSets (f : Field) (g k : Nat) (inj : Bool) : (f.flagSets g k inj).measureSide = f.measureSide := by
  unfold flagSets
  dsimp only
  repeat' split
  all_goals simp -implicitDefEqProofs

@[simp] theorem measureSide_releaseOne (f : Field) (g n : Nat) : (f.releaseOne g n).measureSide = f.measureSide := by
  simp -implicitDefEqProofs [releaseOne, apply_ite measureSide]

@[simp] theorem measureSide_releaseEnds (f : Field) (g : Nat) : (f.releaseEnds g).measureSide = f.measureSide := by
  simp -implicitDefEqProofs [releaseEnds, apply_ite measureSide]

@[simp] theorem measureSide_releaseSome (f : Field) (g k : Nat) : (f.releaseSome g k).measureSide = f.measureSide := by
  simp -implicitDefEqProofs [releaseSome]

@[simp] theorem measureSide_releaseBegins (f : Field) (g : Nat) (l : List Nat) (uvOnly : Bool) :
    (f.releaseBegins g l uvOnly).measureSide = f.measureSide := by
  simp -implicitDefEqProofs [releaseBegins]

@[simp] theorem measureSide_recover (f : Field) (g : Nat) : (f.recover g).measureSide = f.measureSide := by
  simp -implicitDefEqProofs [recover]

@[simp] theorem measureSide_flagClears (f : Field) (g k : Nat) : (f.flagClears g k).measureSide = f.measureSide := by
  unfold flagClears
  dsimp only
  repeat' split
  all_goals simp -implicitDefEqProofs

@[simp] theorem measureSide_shedStep (f : Field) (g : Nat) : (f.shedStep g).measureSide = f.measureSide := by
  simp -implicitDefEqProofs [shedStep, apply_ite measureSide]

@[simp] theorem measureSide_releaseStep (f : Field) (g : Nat) : (f.releaseStep g).measureSide = f.measureSide := by
  simp -implicitDefEqProofs [releaseStep, apply_ite measureSide]

@[simp] theorem measureSide_watchdogExpires (f : Field) (inj : Bool) : (f.watchdogExpires inj).measureSide = f.measureSide := by
  simp -implicitDefEqProofs [watchdogExpires, apply_ite measureSide]

@[simp] theorem measureSide_budgetSum (f : Field) (b : Budget) : (f.budgetSum b).measureSide = f.measureSide := by
  simp -implicitDefEqProofs [budgetSum]

@[simp] theorem measureSide_deduct (f : Field) (l : Limit) (v : Nat) : (f.deduct l v).measureSide = f.measureSide := by
  simp -implicitDefEqProofs [deduct]

@[simp] theorem measureSide_deductShed (f : Field) (n : Nat) : (f.deductShed n).measureSide = f.measureSide := by
  simp -implicitDefEqProofs [deductShed]

@[simp] theorem measureSide_govShed (f : Field) (l : Limit) : (f.govShed l).measureSide = f.measureSide := by
  unfold govShed
  split <;> simp -implicitDefEqProofs

@[simp] theorem measureSide_govStepFor (f : Field) (l : Limit) : (f.govStepFor l).measureSide = f.measureSide := by
  unfold govStepFor
  dsimp only
  repeat' split
  all_goals simp -implicitDefEqProofs

@[simp] theorem measureSide_govStep (f : Field) : f.govStep.measureSide = f.measureSide := by
  simp -implicitDefEqProofs [govStep, apply_ite measureSide]

@[simp] theorem measureSide_govRelease (f : Field) : f.govRelease.measureSide = f.measureSide := by
  unfold govRelease
  dsimp only
  repeat' split
  all_goals simp -implicitDefEqProofs

@[simp] theorem measureSide_setRule (f : Field) (r : Nat) (on : Bool) : (f.setRule r on).measureSide = f.measureSide := by
  simp -implicitDefEqProofs [setRule]

@[simp] theorem measureSide_releaseRule (f : Field) (r : Nat) : (f.releaseRule r).measureSide = f.measureSide := by
  simp -implicitDefEqProofs [releaseRule, apply_ite measureSide]

@[simp] theorem measureSide_judgeRule (f : Field) (r : Nat) : (f.judgeRule r).measureSide = f.measureSide := by
  simp -implicitDefEqProofs [judgeRule, apply_ite measureSide]

@[simp] theorem measureSide_evaluate (f : Field) : f.evaluate.measureSide = f.measureSide := by
  simp -implicitDefEqProofs [evaluate, apply_ite measureSide]

@[simp] theorem measureSide_activate (f : Field) (r : Nat) : (f.activate r).measureSide = f.measureSide := by
  simp -implicitDefEqProofs [activate, apply_ite measureSide]

@[simp] theorem measureSide_noticeApply (f : Field) (n : Nat) : (f.noticeApply n).measureSide = f.measureSide := by
  unfold noticeApply
  dsimp only
  repeat' split
  all_goals simp -implicitDefEqProofs

/-! The blank line and the commands that reach it (R97, R99, R180). -/

theorem sameButExc_exc (f : Field) (e : ExcRun) : ({ f with exc := e } : Field).SameButExc f := ⟨rfl⟩

theorem blankAssert_sameButExc (f : Field) : f.blankAssert.SameButExc f := by
  unfold blankAssert
  dsimp only
  refine (sameButExc_of_measureSide ?_).trans (sameButExc_exc f { f.exc with line := true, guard := false })
  split <;> simp -implicitDefEqProofs

theorem blankGuardEnd_sameButExc (f : Field) : f.blankGuardEnd.SameButExc f := by
  unfold blankGuardEnd
  dsimp only
  split
  · split
    · exact (sameButExc_of_measureSide (measureSide_put ..)).trans
        ((sameButExc_exc _ _).trans
          ((sameButExc_of_measureSide (measureSide_put ..)).trans (sameButExc_exc f { f.exc with guard := false })))
    · refine (sameButExc_of_measureSide ?_).trans (sameButExc_exc f { f.exc with guard := false })
      split <;> simp -implicitDefEqProofs
  · exact sameButExc_of_measureSide rfl

theorem blankRelease_sameButExc (f : Field) : f.blankRelease.SameButExc f := by
  have hline := (sameButExc_of_measureSide (measureSide_put _ F.EXC_BLANK_STAT_GUARD_ON 1)).trans
    (sameButExc_exc f { f.exc with line := false, guard := true })
  unfold blankRelease
  dsimp only
  split
  · exact (blankGuardEnd_sameButExc _).trans hline
  · exact hline

theorem blankLine_sameButExc (f : Field) : f.blankLine.SameButExc f := by
  have hshown (b : Bool) := sameButExc_of_measureSide (measureSide_putb f F.EXC_BLANK_STAT_DI b)
  unfold blankLine
  dsimp only
  split
  · exact hshown _
  · split
    · exact (blankAssert_sameButExc _).trans (hshown _)
    · exact (blankRelease_sameButExc _).trans (hshown _)

theorem measureSide_diLevel (f : Field) (n : Nat) (mv : Int) : (f.diLevel n mv).2.measureSide = f.measureSide := by
  unfold diLevel
  dsimp only
  repeat' split
  all_goals rfl

/-- A sample's level is taken, before the blank line and the run of samples follow it: an earlier run that is long enough changes the state
first, and DI_TIME takes effect (R173, R175). -/
def diTakes (n : Nat) (mv : Int) (f : Field) : Field :=
  let u := f.when (f.diDue n) (diChange n)
  let w := u.cfg.word (R.TERM_DI_TIME n)
  (u.diLevel n mv).2.modDi n fun d =>
    { if d.time = w && !d.again then d else { d with time := w, run := 0, again := false } with raw := some (u.diLevel n mv).1 }

/-- The run of samples follows a level (R175, R176). -/
def diJudges (n : Nat) (w : Word) (level : Bool) (f : Field) : Field :=
  let f := (f.putb (F.TERM_DISTAT_RAW n) level).putb (F.TERM_DISTAT_CONT_ACT n) (f.diCont n w)
  let d := (f.term n).di
  if f.gb (F.TERM_DISTAT_VALID n) then
    if level = f.gb (F.TERM_DISTAT_STATE n) then
      if d.run = 0 then f else (f.modDi n fun d => { d with run := 0 }).diReject n
    else f.modDi n fun d => { d with run := d.run + 1 }
  else if d.cand = level then f.modDi n fun d => { d with run := d.run + 1 }
  else f.modDi n fun d => { d with cand := level, run := 1 }

theorem diSample_eq (f : Field) (n : Nat) (mv : Int) :
    f.diSample n mv =
      if f.diActive n then
        ((f.diTakes n mv).when ((f.diTakes n mv).cb (F.TERM_DI_CFG_BLANK_SRC n)) blankLine).diJudges n
          ((f.when (f.diDue n) (diChange n)).cfg.word (R.TERM_DI_TIME n)) ((f.when (f.diDue n) (diChange n)).diLevel n mv).1
      else f := rfl

theorem measureSide_diTakes (f : Field) (n : Nat) (mv : Int) : (f.diTakes n mv).measureSide = f.measureSide := by
  simp -implicitDefEqProofs [diTakes, measureSide_diLevel]

theorem measureSide_diJudges (f : Field) (n : Nat) (w : Word) (level : Bool) : (f.diJudges n w level).measureSide = f.measureSide := by
  simp -implicitDefEqProofs [diJudges, apply_ite measureSide]

theorem diSample_sameButExc (f : Field) (n : Nat) (mv : Int) : (f.diSample n mv).SameButExc f := by
  have hwhen (c : Bool) (u : Field) : (u.when c blankLine).SameButExc u := by
    cases c
    · exact sameButExc_of_measureSide rfl
    · exact blankLine_sameButExc u
  rw [diSample_eq]
  split
  · exact (sameButExc_of_measureSide (measureSide_diJudges ..)).trans
      ((hwhen _ _).trans (sameButExc_of_measureSide (measureSide_diTakes ..)))
  · exact sameButExc_of_measureSide rfl

theorem takeFunc_sameButExc (f : Field) (n fn : Nat) : (f.takeFunc n fn).SameButExc f := by
  unfold takeFunc
  dsimp only
  exact (blankLine_sameButExc _).trans (sameButExc_of_measureSide (by simp -implicitDefEqProofs))

theorem funcSettle_sameButExc (f : Field) (n : Nat) : (f.funcSettle n).SameButExc f := by
  unfold funcSettle
  split
  · exact (sameButExc_of_measureSide (measureSide_evt ..)).trans (takeFunc_sameButExc ..)
  · exact sameButExc_of_measureSide rfl

end Field

/-- A driving command acts on the field die by a change that leaves the measurement side, but for what a sample and a new function do to
excitation. -/
theorem exec_drives {i : Instr} (h : i.drives = true) (s : State) :
    ∃ g, exec i s = runField g s ∧ (g s.fd).SameButExc s.fd ∧
      ((∀ n mv, i ≠ .diSample n mv) → (∀ n, i ≠ .funcChangeSettle n) → (g s.fd).measureSide = s.fd.measureSide) := by
  have keeps {g : Field → Field} (hg : exec i s = runField g s) (hm : (g s.fd).measureSide = s.fd.measureSide) :
      ∃ g, exec i s = runField g s ∧ (g s.fd).SameButExc s.fd ∧
        ((∀ n mv, i ≠ .diSample n mv) → (∀ n, i ≠ .funcChangeSettle n) → (g s.fd).measureSide = s.fd.measureSide) :=
    ⟨g, hg, Field.sameButExc_of_measureSide hm, fun _ _ => hm⟩
  cases i with
  | funcChangeSettle n => exact ⟨_, rfl, Field.funcSettle_sameButExc s.fd n, fun _ hne => absurd rfl (hne n)⟩
  | diSample n mv => exact ⟨_, rfl, Field.diSample_sameButExc s.fd n mv, fun hne _ => absurd rfl (hne n mv)⟩
  | barrierWatchdogExpiry => exact keeps rfl (Field.measureSide_watchdogExpires _ _)
  | shuntOvercurrent => exact keeps rfl (Field.measureSide_shuntOpen ..)
  | shuntReclose => exact keeps rfl (Field.measureSide_shuntReclose ..)
  | diStateChange => exact keeps rfl (Field.measureSide_when _ _ _ fun f => f.measureSide_diChange _)
  | chatterIntervalEnd => exact keeps rfl (Field.measureSide_diInterval ..)
  | diStuckExpiry => exact keeps rfl (Field.measureSide_diStuck ..)
  | reverseDetected => exact keeps rfl (Field.measureSide_reverse ..)
  | reverseCleared => exact keeps rfl (Field.measureSide_reverseEnd ..)
  | foldbackExpiry => exact keeps rfl (Field.measureSide_foldback ..)
  | overloadRetry => exact keeps rfl (Field.measureSide_overloadRetry ..)
  | thermalTrip => exact keeps rfl (Field.measureSide_thermalTrip ..)
  | thermalRetry => exact keeps rfl (Field.measureSide_thermalRetry ..)
  | offStateBandHeld => exact keeps rfl (Field.measureSide_bandHeld ..)
  | iminLow => exact keeps rfl (Field.measureSide_iminLow ..)
  | offPulseDue => exact keeps rfl (Field.measureSide_pulseDue ..)
  | offPulseEnd => exact keeps rfl (Field.measureSide_pulseEnd ..)
  | segmentMeasurement => exact keeps rfl (Field.measureSide_segments ..)
  | railRetune => exact keeps rfl (Field.measureSide_retune ..)
  | headroomMove => exact keeps rfl (Field.measureSide_headroomMove ..)
  | aoCompliance => exact keeps rfl (Field.measureSide_compliance ..)
  | aoOpenLoop => exact keeps rfl (Field.measureSide_openLoop ..)
  | aoVOverload => exact keeps rfl (Field.measureSide_aoOverload ..)
  | aoThermalLimit => exact keeps rfl (Field.measureSide_thermalLimit ..)
  | aoCapStep => exact keeps rfl (Field.measureSide_capStep ..)
  | aoThermalTrip => exact keeps rfl (Field.measureSide_aoTrip ..)
  | aoThermalResume => exact keeps rfl (Field.measureSide_aoResume ..)
  | stepSupplyFault => exact keeps rfl (Field.measureSide_stepFault ..)
  | stepSupplyRestart => exact keeps rfl (Field.measureSide_stepRestart ..)
  | readbackMismatch => exact keeps rfl (Field.measureSide_readback ..)
  | supplyFlagSet => exact keeps rfl (Field.measureSide_flagSets ..)
  | supplyFlagClear => exact keeps rfl (Field.measureSide_flagClears ..)
  | shedStep => exact keeps rfl (Field.measureSide_shedStep ..)
  | releaseStep => exact keeps rfl (Field.measureSide_releaseStep ..)
  | reflexEvaluation => exact keeps rfl (Field.measureSide_evaluate _)
  | reflexRuleActive => exact keeps rfl (Field.measureSide_activate ..)
  | budgetSum => exact keeps rfl (Field.measureSide_budgetSum ..)
  | governorShedStep => exact keeps rfl (Field.measureSide_govStep _)
  | governorRelease => exact keeps rfl (Field.measureSide_govRelease _)
  | noticeApply => exact keeps rfl (Field.measureSide_noticeApply ..)
  | currentLimitRegulation => exact keeps rfl (Field.measureSide_limitRegulation ..)
  | channelCooled => exact keeps rfl (Field.measureSide_cooled ..)
  | railAtSetpoint => exact keeps rfl (Field.measureSide_railArrives ..)
  | _ => exact absurd h Bool.false_ne_true

/-- Settles O53: no change that a driving command makes reaches the measurement side, and its messages leave the field die as it is. -/
theorem outputRowsFrame : Obligations.OutputRowsFrame := by
  unfold Obligations.OutputRowsFrame
  intro i s t hi hl hexec
  obtain ⟨g, hg, hside, hall⟩ := exec_drives hi s
  cases hr : s.fd.released
  · obtain rfl : s = t := Host.Outcome.next.inj ((runField_held g s hr).symm.trans (hg.symm.trans hexec))
    exact ⟨Field.sameMeasure_of_measureSide rfl, rfl, rfl, fun _ _ => rfl⟩
  · obtain rfl : drain { s with fd := g s.fd } = t :=
      Host.Outcome.next.inj ((runField_up g s hr hl).symm.trans (hg.symm.trans hexec))
    have hexc (ha : ∀ n mv, i ≠ .diSample n mv) (hb : ∀ n, i ≠ .funcChangeSettle n) : (g s.fd).measureSide.exc = s.fd.measureSide.exc := by
      rw [hall ha hb]
    have hcfg : ({ g s.fd with exc := s.fd.exc } : Field).measureSide.cfg = s.fd.measureSide.cfg := by rw [hside.side]
    have hmode : ({ g s.fd with exc := s.fd.exc } : Field).measureSide.mode = s.fd.measureSide.mode := by rw [hside.side]
    rw [drain_fd]
    exact ⟨Field.sameMeasure_of_measureSide hside.side, hcfg, hmode, hexc⟩

end Sys2Proof.Machine
end

section
/-! What a terminal's cell, its digital input and its switched output reach of the field die (R61, R74, R175, R180, R186, R196): the run
state of some terminals, the registers of their pages and of a few others, and messages about these. -/

namespace Sys2Proof.Machine

open Sys2Proof

/-- What a change may reach: terminals with their pages, further pages, and the Larder record. -/
structure Reach where
  terms : List Nat
  pages : List Nat := []
  wear : Bool := false

/-- Is a page, of those below the slices', among those reached? -/
def Reach.page (r : Reach) (p : Nat) : Prop := p < 0x40 ∧ (p ∈ r.terms.map R.pageTERM ∨ p ∈ r.pages)

/-- Is a terminal reached? -/
def Reach.has (r : Reach) (n : Nat) : Prop := n < 32 ∧ n ∈ r.terms

theorem Reach.has.page {r : Reach} {n : Nat} (h : r.has n) : r.page (R.pageTERM n) :=
  ⟨Nat.add_lt_add_left h.1 0x20, .inl (List.mem_map_of_mem h.2)⟩

/-- A message about what is reached. -/
def FMsg.within (r : Reach) : FMsg → Prop
  | .evt page bit _ _ _ => r.page page ∧ bit < 32
  | .fault _ | .record _ => True
  | .gen page => page = R.pageLARDER ∧ r.wear = true
  | .retire .. | .spareIn .. | .defer .. | .segments .. => r.wear = true
  | _ => False

/-- A register of another page than the written one, of those below the slices' pages. -/
theorem word_set_page {x : Nat} {y : Fld} (v : Nat) (w : RegFile) (hy : y.addr / 256 < 0x40) (h : x / 256 ≠ y.addr / 256) :
    (y.set v w).word x = w.word x := by
  refine Fld.word_set_other y v w ?_
  unfold regHome
  split <;> split <;> omega

/-- The registers of a terminal's page. -/
theorem termPage {off n : Nat} (h : off / 256 = 0x20) : (off + 256 * n) / 256 = R.pageTERM n := by
  rw [Nat.add_mul_div_left _ _ (by decide), h]

/-- A word that a filter of the table keeps. -/
theorem tget_filter {α : Type} (d : Nat → α) (t : Tab α) {p : Nat → Bool} {k : Nat} (h : p k = true) :
    tget d (t.filter fun w => p w.1) k = tget d t k := by
  induction t with
  | nil => rfl
  | cons w t ih =>
    obtain ⟨j, v⟩ := w
    by_cases hj : j = k
    · subst hj
      simp [tget, h]
    · cases hp : p j <;> simp [tget, hp, hj, ih]

/-- A register lies on the page of its home, or on one of the slices'. -/
theorem regHome_page (x : Nat) : regHome x / 256 = x / 256 ∨ regHome x / 256 = 0x40 := by
  unfold regHome
  split
  · exact .inr (by omega)
  · exact .inl rfl

/-- SHEDDING of a terminal's group shows on the supplies' page. -/
theorem sheddingPage {n : Nat} (hn : n < 32) : (F.FSUP_GRP_STAT_SHEDDING (n / 8)).addr / 256 = R.pageFSUP := by
  simp only [F.FSUP_GRP_STAT_SHEDDING, R.FSUP_GRP_STAT, R.pageFSUP]
  omega

/-- Between two states of the field die only what is reached differs, of what terminals could reach. -/
structure Field.Within (r : Reach) (g f : Field) : Prop where
  cfg : g.cfg = f.cfg
  steps : g.steps = f.steps
  groups : g.groups = f.groups
  ruleHeld : g.ruleHeld = f.ruleHeld
  gov : g.gov = f.gov
  exc : ¬r.page R.pageEXC → g.exc = f.exc
  term : ∀ k, k ∉ r.terms → g.term k = f.term k
  img : ∀ x, ¬r.page (x / 256) → g.img.word x = f.img.word x
  out : ∃ es, g.out = f.out ++ es ∧ ∀ m ∈ es, m.within r

namespace Field.Within

variable {r : Reach} {f g h : Field} {n : Nat}

theorem refl (r : Reach) (f : Field) : f.Within r f := ⟨rfl, rfl, rfl, rfl, rfl, fun _ => rfl, fun _ _ => rfl, fun _ _ => rfl, [], by simp⟩

theorem trans (a : h.Within r g) (b : g.Within r f) : h.Within r f := by
  obtain ⟨es, hes, hall⟩ := a.out
  obtain ⟨es', hes', hall'⟩ := b.out
  refine ⟨a.cfg.trans b.cfg, a.steps.trans b.steps, a.groups.trans b.groups, a.ruleHeld.trans b.ruleHeld, a.gov.trans b.gov,
    fun he => (a.exc he).trans (b.exc he), fun k hk => (a.term k hk).trans (b.term k hk), fun x hx => (a.img x hx).trans (b.img x hx),
    es' ++ es, ?_, ?_⟩
  · rw [hes, hes', List.append_assoc]
  · exact List.forall_mem_append.mpr ⟨hall', hall⟩

theorem c (a : g.Within r f) (x : Fld) : g.c x = f.c x := by
  rw [Field.c, a.cfg]
  rfl

/-! The named updates. -/

/-- What is announced and what is drawn or held back are no part of it. -/
theorem keep (a : g.Within r f) (noticed : List Announced) (notices : List Notice) (draws : Nat) (deferred : List (Nat × Nat)) :
    ({ g with noticed, notices, draws, deferred } : Field).Within r f :=
  ⟨a.cfg, a.steps, a.groups, a.ruleHeld, a.gov, a.exc, a.term, a.img, a.out⟩

theorem setExc (a : g.Within r f) (hexc : r.page R.pageEXC) (e : ExcRun) : ({ g with exc := e } : Field).Within r f :=
  ⟨a.cfg, a.steps, a.groups, a.ruleHeld, a.gov, fun he => absurd hexc he, a.term, a.img, a.out⟩

theorem putAt (a : g.Within r f) {p : Nat} (hp : r.page p) {y : Fld} {v : Nat} (hy : y.addr / 256 = p) :
    (g.put y v).Within r f := by
  refine trans (g := g) ⟨rfl, rfl, rfl, rfl, rfl, fun _ => rfl, fun _ _ => rfl, fun x hx => ?_, [], (List.append_nil _).symm, by simp⟩ a
  subst hy
  exact word_set_page v g.img hp.1 fun he => hx (he ▸ hp)

/-! A register of a terminal's page: its offset and 256 for each terminal. -/

theorem put (a : g.Within r f) (hn : r.has n) {off lo len v : Nat} (hoff : off / 256 = 0x20) :
    (g.put ⟨off + 256 * n, lo, len⟩ v).Within r f := a.putAt hn.page (termPage hoff)

theorem putb (a : g.Within r f) (hn : r.has n) {off lo len : Nat} {b : Bool} (hoff : off / 256 = 0x20) :
    (g.putb ⟨off + 256 * n, lo, len⟩ b).Within r f := a.putAt hn.page (termPage hoff)

theorem bump (a : g.Within r f) (hn : r.has n) {off lo len : Nat} (hoff : off / 256 = 0x20) :
    (g.bump ⟨off + 256 * n, lo, len⟩).Within r f := a.putAt hn.page (termPage hoff)

theorem tell (a : g.Within r f) {m : FMsg} (hm : m.within r) : (g.tell m).Within r f :=
  trans (g := g) ⟨rfl, rfl, rfl, rfl, rfl, fun _ => rfl, fun _ _ => rfl, fun _ _ => rfl, [m], rfl, by simpa using hm⟩ a

theorem evt (a : g.Within r f) {p : Nat} (hp : r.page p) {bit q : Nat} {i u : Bool} (hb : bit < 32) :
    (g.evt p bit q i u).Within r f := a.tell ⟨hp, hb⟩

theorem fault (a : g.Within r f) {k : Nat} {b : Bool} {p : Option Nat} {i : Bool} : (g.fault k b p i).Within r f := a.tell trivial

theorem setTerm (a : g.Within r f) (hn : r.has n) {t : TermRun} : (g.setTerm n t).Within r f :=
  trans (g := g) ⟨rfl, rfl, rfl, rfl, rfl, fun _ => rfl, fun _ hk => Field.term_setTerm_other g t fun he => hk (he ▸ hn.2),
    fun _ _ => rfl, [], (List.append_nil _).symm, by simp⟩ a

theorem modTerm (a : g.Within r f) (hn : r.has n) {c : TermRun → TermRun} : (g.modTerm n c).Within r f := a.setTerm hn
theorem modDout (a : g.Within r f) (hn : r.has n) {c : DoRun → DoRun} : (g.modDout n c).Within r f := a.setTerm hn
theorem modDi (a : g.Within r f) (hn : r.has n) {c : DiRun → DiRun} : (g.modDi n c).Within r f := a.setTerm hn
theorem modSs (a : g.Within r f) (hn : r.has n) {c : SsRun → SsRun} : (g.modSs n c).Within r f := a.setTerm hn

theorem when (a : g.Within r f) {c : Bool} {c' : Field → Field} (hc : ∀ u, u.Within r f → (c' u).Within r f) :
    (g.when c c').Within r f := by
  cases c
  · exact a
  · exact hc g a

theorem ite {c : Prop} [Decidable c] (a : g.Within r f) (b : h.Within r f) : (if c then g else h).Within r f := by
  split
  · exact a
  · exact b

theorem foldl {α : Type} (a : g.Within r f) {xs : List α} {c : Field → α → Field}
    (hc : ∀ u, ∀ x ∈ xs, u.Within r f → (c u x).Within r f) : (xs.foldl c g).Within r f := by
  induction xs generalizing g with
  | nil => exact a
  | cons x xs ih => exact ih (hc g x List.mem_cons_self a) fun u y hy => hc u y (List.mem_cons_of_mem _ hy)

theorem each (a : g.Within r f) {ns : List Nat} {c : Nat → Field → Field} (hc : ∀ u, ∀ k ∈ ns, u.Within r f → (c k u).Within r f) :
    (g.each ns c).Within r f := a.foldl hc

/-! An output follows its action (R25, R186, R202, R222, R332). -/

section
variable (a : g.Within r f) (hn : r.has n)
include a hn

theorem noteTriggers : (g.noteTriggers n).Within r f :=
  .ite (.evt (.put (.modSs (.putb a hn rfl) hn) hn rfl) hn.page (by decide)) <|
    .ite (.ite (.evt (.modSs (.putb a hn rfl) hn) hn.page (by decide))
        (.put (.modSs (.evt (.modSs (.putb a hn rfl) hn) hn.page (by decide)) hn) hn rfl)) <|
      .ite (.put (.modSs (.putb a hn rfl) hn) hn rfl) (.putb a hn rfl)

theorem noteOne : (g.noteOne n).Within r f := a.when fun _ hu => hu.noteTriggers hn

theorem freshAttempts : (g.freshAttempts n).Within r f := (a.modDout hn).put hn rfl

theorem driveDo {x : Act} {shown : Option Act} : (g.driveDo n x shown).Within r f := by
  have hfresh := a.when (c := (g.term n).want.isNone && x.level.isSome) fun _ hu => hu.freshAttempts hn
  have hoff {u : Field} (hu : u.Within r f) {c : Bool} : (u.when c (Field.put (F.TERM_DO_STAT_TESTING n) 0)).Within r f :=
    hu.when fun _ hv => hv.put hn rfl
  refine .putb (.putb (.put (.put (.putb ?_ hn rfl) hn rfl) hn rfl) hn rfl) hn rfl
  refine .when (.when (.when (.when (.modTerm (hoff hfresh) hn) ?due) ?timer) ?turnsOn) ?turnsOff
  case due => exact fun _ hu => hu.modDout hn
  case timer => exact fun _ hu => hu.modDout hn
  case turnsOn => exact fun _ hu => .put (.putb (.putb hu hn rfl) hn rfl) hn rfl
  case turnsOff => exact fun _ hu => .modDout (.put (.putb hu hn rfl) hn rfl) hn

theorem showRail : (g.showRail n).Within r f := .ite (.put (.put a hn rfl) hn rfl) (.put (.put a hn rfl) hn rfl)

theorem showGroup : (g.showGroup n).Within r f := .ite (.showRail (.put (.put a hn rfl) hn rfl) hn) a

theorem driveAo {x : Act} {shown : Option Act} : (g.driveAo n x shown).Within r f := by
  refine .showRail (.putb (.putb (.put ?_ hn rfl) hn rfl) hn rfl) hn
  have hg := a.modTerm hn (c := fun t => { t with want := x.level, level := (shown.getD (g.delivered n x)).level })
  generalize g.modTerm n (fun t => { t with want := x.level, level := (shown.getD (g.delivered n x)).level }) = u at hg ⊢
  have hon : (if u.aoConnected n then u else u.put (F.TERM_AO_RAIL_SOURCE n) (u.firstSource n)).Within r f := .ite hg (.put hg hn rfl)
  dsimp only
  split
  · exact .ite (.when hon fun _ hv => hv.put hn rfl) (.put hon hn rfl)
  · exact .ite (.put (.put hg hn rfl) hn rfl) (.put hg hn rfl)

theorem driveNow : (g.driveNow n).Within r f := .ite (.driveDo a hn) (.ite (.driveAo a hn) a)

omit hn in
theorem tellPartner : (g.tellPartner n).Within r f := .ite (a.keep g.noticed _ g.draws g.deferred) a

theorem drive : (g.drive n).Within r f :=
  .ite (.driveNow (a.keep _ g.notices g.draws g.deferred) hn) <|
    .ite (.ite a (.driveNow a hn)) (.ite (.tellPartner (.driveNow a hn)) (.tellPartner (a.keep _ g.notices g.draws g.deferred)))

end

/-- The terminal tied to another is the one its configuration names. -/
theorem tied_eq {f : Field} {n m : Nat} (h : f.tied n = some m) : m = f.c (F.TERM_DO_CFG_TIE n) := by
  unfold Field.tied at h
  split at h
  · exact (Option.some.inj h).symm
  · exact absurd h (Option.some_ne_none m).symm

section
variable (a : g.Within r f) (hn : r.has n) (hm : r.has (f.c (F.TERM_DO_CFG_TIE n)))
include a hn hm

omit hn in
theorem has_tied {m : Nat} (h : g.tied n = some m) : r.has m := by
  rw [tied_eq h, a.c]
  exact hm

theorem has_tieSet : ∀ k ∈ g.tieSet n, r.has k := by
  unfold Field.tieSet
  split
  · next m h => simpa using ⟨hn, a.has_tied hm h⟩
  · simpa using hn

theorem settle : (g.settle n).Within r f := by
  unfold Field.settle
  split
  · next m h =>
    have hm' := a.has_tied hm h
    exact .drive (.drive (.noteOne (.noteOne a hn) hm') hn) hm'
  · exact .drive (.noteOne a hn) hn

/-- A change of both terminals of a tie. -/
theorem eachTied {u : Field} (hu : u.Within r f) {c : Nat → Field → Field} (hc : ∀ v, ∀ k, r.has k → v.Within r f → (c k v).Within r f) :
    (g.each (u.tieSet n) c).Within r f := a.each fun v k hk hv => hc v k (hu.has_tieSet hn hm k hk) hv

end

/-! Digital inputs (chapter 10). -/

section
variable (a : g.Within r f) (hn : r.has n)
include a hn

theorem diCount {on : Bool} : (g.diCount n on).Within r f := by
  have hcount := (a.modDi hn (c := fun d => { d with edgeAt := some g.time }))
  exact .ite (.ite (.evt (.bump (.put (.put hcount hn rfl) hn rfl) hn rfl) hn.page (by decide)) (.put (.put hcount hn rfl) hn rfl)) a

theorem diChange : (g.diChange n).Within r f := by
  have hrun := a.modDi hn (c := fun d => { d with run := 0, since := g.time })
  refine .ite (.diCount (.evt (.put (.putb hrun hn rfl) hn rfl) hn.page ?bit) hn) (.putb (.put hrun hn rfl) hn rfl)
  split <;> decide

theorem diReject : (g.diReject n).Within r f := .modDi (.bump a hn rfl) hn

omit hn in
theorem diLevel {mv : Int} : (g.diLevel n mv).2.Within r f := by
  unfold Field.diLevel
  dsimp only
  split
  · exact a.keep g.noticed g.notices _ g.deferred
  · split
    · exact a.keep g.noticed g.notices _ g.deferred
    · split <;> exact a.keep g.noticed g.notices _ g.deferred

theorem diTakes {mv : Int} : (g.diTakes n mv).Within r f := by
  have hu : (g.when (g.diDue n) (Field.diChange n)).Within r f := a.when fun _ hu => hu.diChange hn
  unfold Field.diTakes
  exact .modDi (.diLevel hu) hn

theorem diJudges {w : Word} {level : Bool} : (g.diJudges n w level).Within r f := by
  have hraw {x y : Bool} : ((g.putb (F.TERM_DISTAT_RAW n) x).putb (F.TERM_DISTAT_CONT_ACT n) y).Within r f := .putb (.putb a hn rfl) hn rfl
  exact .ite (.ite (.ite hraw (.diReject (.modDi hraw hn) hn)) (.modDi hraw hn)) (.ite (.modDi hraw hn) (.modDi hraw hn))

theorem diInterval : (g.diInterval n).Within r f :=
  .ite (.ite (.evt (.putb (.modDi a hn) hn rfl) hn.page (by decide)) (.putb (.modDi a hn) hn rfl)) a

theorem diStuck {inj : Bool} : (g.diStuck n inj).Within r f := .ite (.fault (.evt (.put a hn rfl) hn.page (by decide))) a

end

/-! The blank line (R97, R99, R180). -/

section
variable (a : g.Within r f) (hexc : r.page R.pageEXC)
include a hexc

theorem blankAssert : g.blankAssert.Within r f := by
  have hline := (a.setExc hexc { g.exc with line := true, guard := false }).putAt hexc
    (y := F.EXC_BLANK_STAT_GUARD_ON) (v := 0) rfl
  exact .ite hline (.evt (.putAt (.putAt hline hexc rfl) hexc rfl) hexc (by decide))

theorem blankGuardEnd : g.blankGuardEnd.Within r f := by
  have hguard := (a.setExc hexc { g.exc with guard := false }).putAt hexc
    (y := F.EXC_BLANK_STAT_GUARD_ON) (v := 0) rfl
  exact .ite (.ite (.putAt (hguard.setExc hexc _) hexc rfl) (.ite (.evt (.putAt hguard hexc rfl) hexc (by decide)) hguard)) a

theorem blankRelease : g.blankRelease.Within r f := by
  have hline := (a.setExc hexc { g.exc with line := false, guard := true }).putAt hexc
    (y := F.EXC_BLANK_STAT_GUARD_ON) (v := 1) rfl
  exact .ite (.blankGuardEnd hline hexc) hline

theorem blankLine : g.blankLine.Within r f := by
  have hshown {b : Bool} := a.putAt hexc (y := F.EXC_BLANK_STAT_DI) (v := b2n b) rfl
  exact .ite hshown (.ite (.blankAssert hshown hexc) (.blankRelease hshown hexc))

end

theorem diSample (a : g.Within r f) (hn : r.has n) (hexc : f.cb (F.TERM_DI_CFG_BLANK_SRC n) = true → r.page R.pageEXC) {mv : Int} :
    (g.diSample n mv).Within r f := by
  have htakes := a.diTakes hn (mv := mv)
  rw [Field.diSample_eq]
  refine .ite (.diJudges ?_ hn) a
  cases hsrc : (g.diTakes n mv).cb (F.TERM_DI_CFG_BLANK_SRC n)
  · exact htakes
  · refine .blankLine htakes (hexc ?_)
    rw [← hsrc, Field.cb_eq, Field.cb_eq, htakes.c]

/-! The cell (chapter 04). -/

section
variable (a : g.Within r f) (hn : r.has n)
include a hn

theorem startsLow : (g.startsLow n).Within r f := by
  unfold Field.startsLow
  dsimp only
  refine .ite a ?_
  split
  · exact a.put hn rfl
  · exact .ite (.evt (.put a hn rfl) hn.page (by decide)) (.modSs a hn)
  · exact .modSs a hn

theorem forget {p : Nat → Bool} (hp : ∀ x, p x = true → x / 256 = R.pageTERM n) : (g.forget p).Within r f := by
  refine trans (g := g) ⟨rfl, rfl, rfl, rfl, rfl, fun _ => rfl, fun _ _ => rfl, fun x hx => ?_, [], (List.append_nil _).symm, by simp⟩ a
  refine tget_filter (p := fun x => !p x) resetWord g.img ?_
  rw [Bool.not_eq_true', Bool.eq_false_iff]
  intro hpx
  rcases regHome_page x with he | he
  · exact hx (he ▸ (hp _ hpx).symm ▸ hn.page)
  · have hpage := he.symm.trans (hp _ hpx)
    have := hn.1
    simp only [R.pageTERM] at hpage
    omega

theorem shuntOpen {inj : Bool} : (g.shuntOpen n inj).Within r f :=
  .ite (.fault (.evt (.modTerm (.tellPartner (.put a hn rfl)) hn) hn.page (by decide))) a

theorem shuntReclose : (g.shuntReclose n).Within r f := .ite (.tellPartner (.put a hn rfl)) a

end

theorem takeFunc (a : g.Within r f) (hn : r.has n) (hm : r.has (f.c (F.TERM_DO_CFG_TIE n))) (hexc : r.page R.pageEXC)
    (hfsup : r.page R.pageFSUP) {fn : Nat} : (g.takeFunc n fn).Within r f := by
  refine .blankLine (.putAt (.showGroup (.settle (.put ?_ hn rfl) hn hm) hn) hfsup (sheddingPage hn.1)) hexc
  refine .when (.when (.when (.putb (.when (.putb (.putb (.putb (.put (.forget (.modDi (.setTerm a hn) hn) hn ?page) hn rfl) hn rfl) hn rfl)
    hn rfl) ?uv) hn rfl) ?low) ?segments) ?source
  case page =>
    intro x hx
    simp only [Bool.or_eq_true, Bool.and_eq_true, decide_eq_true_eq, beq_iff_eq] at hx
    simp only [R.TERM_DI_CFG, R.TERM_SS_CFG, R.TERM_SS_STAT] at hx
    simp only [R.pageTERM]
    omega
  case uv => exact fun _ hu => hu.evt hn.page (by decide)
  case low => exact fun _ hu => .startsLow (.modSs hu hn) hn
  case segments => exact fun _ hu => hu.putb hn rfl
  case source => exact fun _ hu => hu.put hn rfl

theorem funcSettle (a : g.Within r f) (hn : r.has n) (hm : r.has (f.c (F.TERM_DO_CFG_TIE n))) (hexc : r.page R.pageEXC)
    (hfsup : r.page R.pageFSUP) : (g.funcSettle n).Within r f := by
  unfold Field.funcSettle
  split
  · exact .evt (.takeFunc a hn hm hexc hfsup) hn.page (by decide)
  · exact a

/-! The switched output (chapter 11). -/

section
variable (a : g.Within r f) (hn : r.has n)
include a hn

theorem doFlag {off lo len bit : Nat} {inj : Bool} (hoff : off / 256 = 0x20) (hb : bit < 32) :
    (g.doFlag n ⟨off + 256 * n, lo, len⟩ bit inj).Within r f := .fault (.evt (.put a hn hoff) hn.page hb)

theorem cooled : (g.cooled n).Within r f := .ite (.put (.modDout a hn) hn rfl) a

theorem limitRegulation {e : LimitEvent} {inj : Bool} : (g.limitRegulation n e inj).Within r f := by
  refine .ite ?_ a
  cases e
  · exact .ite (.modDout (.evt (.put a hn rfl) hn.page (by decide)) hn) a
  · exact .ite (.modDout a hn) a
  · exact .put a hn rfl
  · exact .modDout (.put a hn rfl) hn

theorem showBand {b : BandReport} : (g.showBand b n).Within r f := by
  have hwire {c x : Bool} : (g.when c (Field.putb (F.TERM_DO_STAT_OPEN_WIRE n) x)).Within r f := a.when fun _ hu => hu.putb hn rfl
  unfold Field.showBand
  refine .when (.when (.putb hwire hn rfl) ?wire) ?backfeed
  case wire => exact fun _ hu => .fault (.evt hu hn.page (by decide))
  case backfeed => exact fun _ hu => .fault (.evt hu hn.page (by decide))

theorem iminLow {low : Bool} : (g.iminLow n low).Within r f :=
  .ite (.when (.putb (.modDout a hn) hn rfl) fun _ hu => .fault (.evt hu hn.page (by decide))) a

theorem pulseResult {pass inj : Bool} : (g.pulseResult pass inj n).Within r f := by
  have htested : (g.put (F.TERM_DO_STAT_TESTING n) 0).Within r f := a.put hn rfl
  have hend := htested.modDout hn (c := fun d => { d with bfPulse := !pass, failPulse := false, masked := false })
  unfold Field.pulseResult
  dsimp only
  split
  · exact .put (.bump hend hn rfl) hn rfl
  · exact .doFlag (.bump hend hn rfl) hn rfl (by decide)

theorem countSegment {x : SegReading} : (g.countSegment n x).Within r f := .modDout a hn

end

section
variable (a : g.Within r f) (hn : r.has n) (hm : r.has (f.c (F.TERM_DO_CFG_TIE n)))
include a hn hm

theorem reverse {inj : Bool} : (g.reverse n inj).Within r f := .ite (.settle (.doFlag a hn rfl (by decide)) hn hm) a

theorem reverseEnd : (g.reverseEnd n).Within r f := .ite (.settle (.put a hn rfl) hn hm) a

theorem overload {inj : Bool} : (g.overload n inj).Within r f :=
  .settle (.when (.modDout (.bump (.doFlag a hn rfl (by decide)) hn rfl) hn) fun _ hu => hu.doFlag hn rfl (by decide)) hn hm

theorem foldback {inj : Bool} : (g.foldback n inj).Within r f := .ite (.overload (.modDout a hn) hn hm) a

theorem overloadRetry : (g.overloadRetry n).Within r f := .ite (.settle (.modDout a hn) hn hm) a

theorem thermalTrip {inj : Bool} : (g.thermalTrip n inj).Within r f :=
  .ite (.settle (.when (.modDout (.bump (.doFlag a hn rfl (by decide)) hn rfl) hn) fun _ hu => hu.doFlag hn rfl (by decide)) hn hm) a

theorem thermalRetry : (g.thermalRetry n).Within r f := .ite (.settle (.modDout (.cooled a hn) hn) hn hm) a

theorem bandHeld {b : BandReport} : (g.bandHeld n b).Within r f := .ite (.eachTied a hn hm a fun _ _ hk hv => hv.showBand hk) a

theorem pulseStart : (g.pulseStart n).Within r f := .settle (.eachTied a hn hm a fun _ _ hk hv => .modDout (.put hv hk rfl) hk) hn hm

theorem pulseDue : (g.pulseDue n).Within r f := .ite a (.ite (.modDout a hn) (.ite (.modDout a hn) (.pulseStart a hn hm)))

theorem pulseEnd {fell : Bool} : (g.pulseEnd n fell).Within r f := by
  have hresults {x y : Bool} : ((g.each (g.tieSet n) (Field.pulseResult x y)).settle n).Within r f :=
    .settle (.eachTied a hn hm a fun _ _ hk hv => hv.pulseResult hk) hn hm
  exact .ite (.eachTied hresults hn hm hresults fun _ _ _ hv => hv.tellPartner) a

/-! Segments wear (R198, R199). -/

variable (hw : r.wear = true)
include hw

theorem retireSegment {k cause : Nat} {inj : Bool} : (g.retireSegment n k cause inj).Within r f := by
  have hspared : (F.STATUS_SPARED (R.pageTERM n)).addr / 256 = R.pageTERM n := by
    simp only [F.STATUS_SPARED, R.STATUS, R.pageTERM]
    omega
  refine .ite a (.settle (.putb (.when (.putAt (.tell (.tell (.evt (.put (.put ?spare hn rfl) hn rfl) hn.page (by decide)) (by exact hw))
    (by exact hw)) hn.page hspared) ?few) hn rfl) hn hm)
  case few => exact fun _ hu => hu.fault
  case spare =>
    split
    · exact a.tell hw
    · exact a

theorem wearSegment {k : Nat} : (g.wearSegment n k).Within r f :=
  .ite (.ite a (.tell (a.keep g.noticed g.notices g.draws _) hw)) (.retireSegment a hn hm hw)

theorem segments {rs : List SegReading} {ron : Nat} : (g.segments n rs ron).Within r f := by
  refine .when (.when a ?measured) ?leaks
  case leaks => exact fun u hu => hu.each fun v k _ hv => hv.retireSegment hn hm hw
  case measured =>
    intro u hu
    have hshown {v : Field} (hv : v.Within r f) {c : Bool} {w : Nat} :
        (((v.when c (Field.tell (.gen R.pageLARDER))).put (F.TERM_DO_RON_RON n) ron).put (F.TERM_DO_RON_WORST n) w).Within r f :=
      .put (.put (.when hv fun _ hx => hx.tell (m := .gen R.pageLARDER) ⟨rfl, hw⟩) hn rfl) hn rfl
    have hretires {v : Field} (hv : v.Within r f) {ks : List Nat} := hv.each (ns := ks) (c := fun k f => f.retireSegment n k 2 false)
      fun _ _ _ hx => hx.retireSegment hn hm hw
    have hwears {v : Field} (hv : v.Within r f) {ks : List Nat} := hv.each (ns := ks) (c := Field.wearSegment n)
      fun _ _ _ hx => hx.wearSegment hn hm hw
    dsimp only
    generalize hv : Field.each _ (Field.wearSegment n) _ = v
    have hworn : v.Within r f := hv ▸ hwears (hretires (hshown (hu.foldl fun _ _ _ hx => hx.countSegment hn)))
    refine .ite ?_ hworn
    split
    · exact .retireSegment (.modDout hworn hn) hn hm hw
    · exact .modDout hworn hn

end

end Field.Within

end Sys2Proof.Machine
end

section
/-! What the messages of a terminal's command show on the logic die, and the frame of these commands (R61, R74, R175, R180, R186, R196). -/

namespace Sys2Proof.Machine

open Sys2Proof

/-- Between two logic dies only registers of pages that are reached differ, and the Larder's. -/
structure Logic.Shows (r : Reach) (b a : Logic) : Prop where
  word : ∀ x, ¬r.page (x / 256) → x / 256 ≠ R.pageLARDER → b.regs.word x = a.regs.word x

/-- Does a page show what is reached, or the Larder? -/
def Reach.shown (r : Reach) (p : Nat) : Prop := r.page p ∨ p = R.pageLARDER

namespace Logic.Shows

variable {r : Reach} {a b c : Logic}

theorem refl (r : Reach) (a : Logic) : a.Shows r a := ⟨fun _ _ _ => rfl⟩

theorem trans (h : c.Shows r b) (k : b.Shows r a) : c.Shows r a :=
  ⟨fun x hx hy => (h.word x hx hy).trans (k.word x hx hy)⟩

theorem of_regs (h : b.regs = a.regs) : b.Shows r a := ⟨fun x _ _ => by rw [h]⟩

theorem putAt (h : b.Shows r a) {p : Nat} (hp : r.shown p) {y : Fld} {v : Nat} (hy : y.addr / 256 = p) :
    (b.put y v).Shows r a := by
  subst hy
  refine trans ⟨fun x hx hl => word_set_page v b.regs ?_ fun he => ?_⟩ h
  · exact hp.elim And.left fun hl => hl ▸ by decide
  · exact hp.elim (fun hp => hx (he ▸ hp)) fun hp => hl (he.trans hp)

theorem putLarder (h : b.Shows r a) {y : Fld} {v : Nat} (hy : y.addr / 256 = R.pageLARDER) : (b.put y v).Shows r a :=
  h.putAt (.inr rfl) hy

theorem setEvt (h : b.Shows r a) {p : Nat} (hp : r.shown p) (bit q : Nat) (i u f : Bool) (t : Nat) (z : Option Nat) :
    (b.setEvt p bit q i u f t z).Shows r a :=
  (of_regs (Logic.setEvt_regs ..)).trans (h.putAt hp (by simp only [R.EVT_RAW]; omega))

theorem larderEvt (h : b.Shows r a) (bit k n q : Nat) (i : Bool) : (b.larderEvt bit k n q i).Shows r a := h.setEvt (.inr rfl) ..

theorem when (h : b.Shows r a) {d : Bool} {d' : Logic → Logic} (hd : ∀ l, l.Shows r a → (d' l).Shows r a) : (b.when d d').Shows r a := by
  cases d
  · exact h
  · exact hd b h

theorem fault (h : b.Shows r a) (k : Nat) (d : Bool) (p : Option Nat) (i : Bool) : (b.fault k d p i).Shows r a := ⟨h.word⟩

theorem larderKeep (h : b.Shows r a) (k : LarderStore → LarderStore) : (b.larderKeep k).Shows r a := ⟨h.word⟩

theorem larderGen (h : b.Shows r a) : b.larderGen.Shows r a := by
  have hgen : ({ b with larder := { b.larder with genAt := some b.time } } : Logic).Shows r a := ⟨h.word⟩
  unfold Logic.larderGen
  split
  · exact h
  · exact hgen.putLarder rfl

theorem fewer (h : b.Shows r a) (k i n : Nat) (j : Bool) : (b.fewer k i n j).Shows r a := by
  unfold Logic.fewer
  exact .when (.when (.when h fun _ hl => hl.larderEvt ..) fun _ hl => hl.fault ..) fun _ hl => hl.fault ..

theorem retire (h : b.Shows r a) (k i n : Nat) (w j : Bool) : (b.retire k i n w j).Shows r a := by
  unfold Logic.retire
  split
  · exact h
  · exact .larderGen (.when (.larderEvt (.putLarder (.putLarder (.putLarder (.putLarder (h.larderKeep _) rfl) rfl) rfl) rfl) ..)
      fun _ hl => hl.fewer ..)

theorem spareIn (h : b.Shows r a) (k i : Nat) : (b.spareIn k i).Shows r a := .larderGen (.fewer (.larderEvt (h.larderKeep _) ..) ..)

theorem defer (h : b.Shows r a) (k i : Nat) (on : Bool) : (b.defer k i on).Shows r a := by
  have hpending (p : List (Nat × Nat)) : ({ b with larder := { b.larder with pending := p } } : Logic).Shows r a := ⟨h.word⟩
  unfold Logic.defer
  dsimp only
  split
  · split
    · exact h
    · exact .larderGen (.larderEvt (hpending _) ..)
  · split
    · exact .larderGen (hpending _)
    · exact h

/-- A message about what is reached. -/
theorem takeMsg (h : b.Shows r a) {m : FMsg} (hm : m.within r) (t : Nat) : (takeMsg t m b).Shows r a := by
  cases m with
  | evt => exact h.setEvt (.inl hm.1) ..
  | gen p =>
    obtain ⟨rfl, -⟩ := hm
    exact h.larderGen
  | retire => exact h.retire ..
  | spareIn => exact h.spareIn ..
  | defer => exact h.defer ..
  | segments => exact ⟨h.word⟩
  | fault | record => exact h
  | _ => exact hm.elim

theorem takeMsgs (h : b.Shows r a) {ms : List FMsg} (hms : ∀ m ∈ ms, m.within r) (t : Nat) :
    (ms.foldl (fun l m => Machine.takeMsg t m l) b).Shows r a := by
  induction ms generalizing b with
  | nil => exact h
  | cons m ms ih =>
    obtain ⟨hm, hms⟩ := List.forall_mem_cons.mp hms
    exact ih (h.takeMsg hm t) hms

end Logic.Shows

/-- With nothing to tell before, what a change of the field die tells shows on the pages that it reaches. -/
theorem drain_shows {s : State} {g : Field} {r : Reach} (hup : s.up) (h : g.Within r s.fd) :
    (drain { s with fd := g }).ld.Shows r s.ld := by
  obtain ⟨es, hes, hall⟩ := h.out
  rw [drain_ld { s with fd := g } hup.2.1]
  dsimp only
  rw [hes, List.foldl_append, takeMsgs_waits _ hup.2.2]
  exact (Logic.Shows.refl r s.ld).takeMsgs hall _

/-- What a command of a terminal reaches: the terminal and the one tied to it; a function that takes effect reaches excitation and its
supply's group (R63, R180), a sample excitation where it is a source of the blank line (R180), and the segments wear (R198). -/
def reachOf (i : Instr) (n : Nat) (f : Field) : Reach where
  terms := [n, f.c (F.TERM_DO_CFG_TIE n)]
  pages := match i with
    | .funcChangeSettle _ => [R.pageEXC, R.pageFSUP]
    | .diSample .. => if f.cb (F.TERM_DI_CFG_BLANK_SRC n) then [R.pageEXC] else []
    | _ => []
  wear := match i with
    | .segmentMeasurement .. => true
    | _ => false

theorem reachOf_self (i : Instr) (n : Terminal) (f : Field) : (reachOf i n f).has n := ⟨n.isLt, List.mem_cons_self⟩

theorem reachOf_tied (i : Instr) (n : Nat) (f : Field) : (reachOf i n f).has (f.c (F.TERM_DO_CFG_TIE n)) :=
  ⟨Fld.get_lt _ _, List.mem_cons_of_mem _ List.mem_cons_self⟩

theorem funcSettle_within (n : Terminal) (f : Field) : (f.funcSettle n).Within (reachOf (.funcChangeSettle n) n f) f :=
  Field.Within.funcSettle (.refl ..) (reachOf_self ..) (reachOf_tied ..) ⟨by decide, .inr (by simp [reachOf])⟩
    ⟨by decide, .inr (by simp [reachOf])⟩

/-- A command of a terminal is a change of the field die within its reach. -/
theorem exec_atTerminal {i : Instr} {n : Nat} (h : i.atTerminal = some n) (s : State) :
    ∃ g, exec i s = runField g s ∧ (g s.fd).Within (reachOf i n s.fd) s.fd := by
  have hself (m : Terminal) := reachOf_self i m s.fd
  have htie (m : Terminal) := reachOf_tied i m s.fd
  have reaches {m : Terminal} {g : Field → Field} (hm : some m.val = some n) (hg : exec i s = runField g s)
      (hw : (g s.fd).Within (reachOf i m s.fd) s.fd) : ∃ g, exec i s = runField g s ∧ (g s.fd).Within (reachOf i n s.fd) s.fd :=
    ⟨g, hg, Option.some.inj hm ▸ hw⟩
  have start (m : Terminal) := Field.Within.refl (reachOf i m s.fd) s.fd
  cases i with
  | funcChangeSettle m => exact reaches h rfl (funcSettle_within m s.fd)
  | diSample m mv => exact reaches h rfl ((start m).diSample (hself m) fun hsrc => ⟨by decide, .inr (by simp [reachOf, hsrc])⟩)
  | shuntOvercurrent m => exact reaches h rfl ((start m).shuntOpen (hself m))
  | shuntReclose m => exact reaches h rfl ((start m).shuntReclose (hself m))
  | diStateChange m => exact reaches h rfl ((start m).when fun _ hu => hu.diChange (hself m))
  | chatterIntervalEnd m => exact reaches h rfl ((start m).diInterval (hself m))
  | diStuckExpiry m => exact reaches h rfl ((start m).diStuck (hself m))
  | reverseDetected m => exact reaches h rfl ((start m).reverse (hself m) (htie m))
  | reverseCleared m => exact reaches h rfl ((start m).reverseEnd (hself m) (htie m))
  | foldbackExpiry m => exact reaches h rfl ((start m).foldback (hself m) (htie m))
  | overloadRetry m => exact reaches h rfl ((start m).overloadRetry (hself m) (htie m))
  | thermalTrip m => exact reaches h rfl ((start m).thermalTrip (hself m) (htie m))
  | thermalRetry m => exact reaches h rfl ((start m).thermalRetry (hself m) (htie m))
  | offStateBandHeld m => exact reaches h rfl ((start m).bandHeld (hself m) (htie m))
  | iminLow m => exact reaches h rfl ((start m).iminLow (hself m))
  | offPulseDue m => exact reaches h rfl ((start m).pulseDue (hself m) (htie m))
  | offPulseEnd m => exact reaches h rfl ((start m).pulseEnd (hself m) (htie m))
  | segmentMeasurement m => exact reaches h rfl ((start m).segments (hself m) (htie m) rfl)
  | currentLimitRegulation m => exact reaches h rfl ((start m).limitRegulation (hself m))
  | channelCooled m => exact reaches h rfl ((start m).cooled (hself m))
  | _ => exact absurd h (Option.some_ne_none n).symm

/-- A page that is reached is that of the terminal or of its partner, or excitation's, or with a new function the supplies'. -/
theorem reachOf_page {i : Instr} {n p : Nat} {f : Field} (h : (reachOf i n f).page p) :
    p = R.pageTERM n ∨ p = R.pageTERM (f.c (F.TERM_DO_CFG_TIE n)) ∨ p = R.pageEXC ∨ p = R.pageFSUP ∧ ∃ k, i = .funcChangeSettle k := by
  obtain ⟨-, hp | hp⟩ := h
  · simp only [reachOf, List.map_cons, List.map_nil, List.mem_cons, List.not_mem_nil, or_false] at hp
    exact hp.elim .inl fun hp => .inr (.inl hp)
  · refine .inr (.inr ?_)
    cases i with
    | funcChangeSettle k =>
      simp only [reachOf, List.mem_cons, List.not_mem_nil, or_false] at hp
      exact hp.imp id fun hp => ⟨hp, k, rfl⟩
    | diSample m mv =>
      simp only [reachOf, List.mem_ite_nil_right, List.mem_singleton] at hp
      exact .inl hp.2
    | _ => exact absurd hp List.not_mem_nil

/-- Excitation is reached by a new function and by a source of the blank line alone. -/
theorem reachOf_excitation {i : Instr} {n : Nat} {f : Field} (h : (reachOf i n f).page R.pageEXC) :
    (∃ k, i = .funcChangeSettle k) ∨ (∃ m mv, i = .diSample m mv) ∧ f.cb (F.TERM_DI_CFG_BLANK_SRC n) = true := by
  obtain ⟨-, hp | hp⟩ := h
  · simp only [reachOf, List.map_cons, List.map_nil, List.mem_cons, List.not_mem_nil, or_false, R.pageTERM, R.pageEXC] at hp
    omega
  · cases i with
    | funcChangeSettle k => exact .inl ⟨k, rfl⟩
    | diSample m mv =>
      simp only [reachOf, List.mem_ite_nil_right] at hp
      exact .inr ⟨⟨m, mv, rfl⟩, hp.1⟩
    | _ => exact absurd hp List.not_mem_nil

/-- A command of a terminal drives outputs. -/
theorem drives_of_atTerminal {i : Instr} {n : Nat} (h : i.atTerminal = some n) : i.drives = true := by
  cases i with
  | funcChangeSettle | shuntOvercurrent | shuntReclose | diSample | diStateChange | chatterIntervalEnd | diStuckExpiry | reverseDetected
  | reverseCleared | foldbackExpiry | overloadRetry | thermalTrip | thermalRetry | offStateBandHeld | iminLow | offPulseDue | offPulseEnd
  | segmentMeasurement | currentLimitRegulation | channelCooled => rfl
  | _ => exact absurd h (Option.some_ne_none n).symm

/-- The state that a command of a terminal answers. -/
theorem exec_atTerminal_next {i : Instr} {n : Nat} {s t : State} (h : i.atTerminal = some n) (hup : s.up) (hexec : exec i s = .next t) :
    ∃ g : Field, g.Within (reachOf i n s.fd) s.fd ∧ drain { s with fd := g } = t := by
  obtain ⟨g, hg, hwithin⟩ := exec_atTerminal h s
  exact ⟨g s.fd, hwithin, Host.Outcome.next.inj ((runField_up g s hup.1 hup.2.1).symm.trans (hg.symm.trans hexec))⟩

/-- Settles O50: each of these commands acts within its reach, and so do its messages. -/
theorem terminalRowsFrame : Obligations.TerminalRowsFrame := by
  unfold Obligations.TerminalRowsFrame
  constructor
  · intro i n s t hi hup hexec
    obtain ⟨hmeasure, hcfg, hmode, -⟩ := outputRowsFrame i s t (drives_of_atTerminal hi) hup.2.1 hexec
    obtain ⟨g, hg, rfl⟩ := exec_atTerminal_next hi hup hexec
    have hshows := drain_shows hup hg
    have hld := drain_ld_same { s with fd := g }
    rw [drain_fd] at hmeasure hcfg hmode ⊢
    refine ⟨hcfg, hmeasure, hmode, hg.steps, hg.groups, hg.gov, hg.ruleHeld, hld, ?_⟩
    rintro m rfl
    refine ⟨fun k hk hkm => hg.term k (by simp [reachOf, hk, hkm]), fun x hn hm hexc hfsup => ?_⟩
    have hpage : ¬(reachOf i n s.fd).page (x / 256) := fun hp => by
      obtain he | he | he | ⟨he, k, hik⟩ := reachOf_page hp
      · exact hn he
      · exact hm he
      · exact hexc he
      · exact hfsup he k hik
    exact ⟨hg.img x hpage, fun hlarder => hshows.word x hpage hlarder⟩
  · intro i n s t hi hup hexec hsample hfunc
    obtain ⟨g, hg, rfl⟩ := exec_atTerminal_next hi hup hexec
    have hpage : ¬(reachOf i n s.fd).page R.pageEXC := fun hp => by
      obtain ⟨k, hik⟩ | ⟨⟨m, mv, rfl⟩, hsrc⟩ := reachOf_excitation hp
      · exact hfunc k hik
      · obtain rfl := Option.some.inj hi
        have hm : m = ⟨m.val % 32, Nat.mod_lt _ (by decide)⟩ := Fin.ext (Nat.mod_eq_of_lt m.isLt).symm
        exact absurd (hsrc.symm.trans (hsample ⟨mv, congrArg (Instr.diSample · mv) hm⟩)) (by decide)
    have hshows := drain_shows hup hg
    rw [drain_fd]
    refine ⟨hg.exc hpage, fun x hx => ?_⟩
    exact ⟨hg.img x (hx ▸ hpage), hshows.word x (hx ▸ hpage) (hx ▸ by decide)⟩

end Sys2Proof.Machine
end

section
/-! The terminal cell, command by command: a function takes effect, the gate and the shunt (R62, R63, R65, R75). -/

namespace Sys2Proof.Machine

open Sys2Proof

namespace Field

/-! The function that waits for a cell to be off (R63). -/

/-- The function that waits on a terminal. -/
def waiting (n : Nat) (f : Field) : Option Nat := (f.term n).next

section
variable {n : Nat} {f g : Field}

theorem Kept.waiting (a : g.Kept f) : g.waiting n = f.waiting n :=
  show (g.term n).steady.next = (f.term n).steady.next by rw [a.term]

theorem Noted.waiting (a : g.Noted f) : g.waiting n = f.waiting n :=
  show (g.term n).driving.next = (f.term n).driving.next by rw [a.term]

end

section
variable (n k : Nat) (f : Field)

@[simp] theorem waiting_put (x : Fld) (v : Nat) : (f.put x v).waiting n = f.waiting n := (rfl)
@[simp] theorem waiting_putb (x : Fld) (b : Bool) : (f.putb x b).waiting n = f.waiting n := (rfl)
@[simp] theorem waiting_forget (p : Nat → Bool) : (f.forget p).waiting n = f.waiting n := (rfl)
@[simp] theorem waiting_evt (p b q : Nat) (i u : Bool) : (f.evt p b q i u).waiting n = f.waiting n := (rfl)

theorem waiting_modTerm (h : TermRun → TermRun) (hh : (h (f.term k)).next = (f.term k).next) : (f.modTerm k h).waiting n = f.waiting n := by
  unfold waiting
  by_cases hn : n = k
  · rw [hn, term_modTerm_same, hh]
  · rw [term_modTerm_other _ _ hn]

@[simp] theorem waiting_modDi (h : DiRun → DiRun) : (f.modDi k h).waiting n = f.waiting n := waiting_modTerm n k f _ rfl
@[simp] theorem waiting_modSs (h : SsRun → SsRun) : (f.modSs k h).waiting n = f.waiting n := waiting_modTerm n k f _ rfl
@[simp] theorem waiting_modDout (h : DoRun → DoRun) : (f.modDout k h).waiting n = f.waiting n := waiting_modTerm n k f _ rfl
@[simp] theorem waiting_freshAttempts : (f.freshAttempts k).waiting n = f.waiting n :=
  waiting_modDout n k f fun d => { d with tries := 0, thermTries := 0, ovl := false, thm := d.hot }

@[simp] theorem waiting_takesAct (a : Act) (shown : Option Act) : (f.takesAct k a shown).waiting n = f.waiting n :=
  waiting_modTerm n k f _ rfl

@[simp] theorem waiting_when (c : Bool) (h : Field → Field) (hh : ∀ f, (h f).waiting n = f.waiting n) :
    (f.when c h).waiting n = f.waiting n := by
  cases c
  · rfl
  · exact hh f

theorem waiting_driveNow : (f.driveNow k).waiting n = f.waiting n := by
  unfold driveNow
  split
  · rw [(f.driveDo_kept ..).waiting, waiting_takesAct]
    exact waiting_when _ _ _ _ fun g => waiting_freshAttempts n k g
  · split
    · rw [(f.driveAo_kept ..).waiting, waiting_takesAct]
    · rfl

theorem waiting_drive : (f.drive k).waiting n = f.waiting n := by
  rcases f.drive_kept k with h | ⟨u, hu, h⟩
  · exact h.waiting
  · rw [h.waiting, waiting_driveNow, hu.waiting]

theorem waiting_settle : (f.settle k).waiting n = f.waiting n := by
  unfold settle
  split
  · rw [waiting_drive, waiting_drive, (noteOne_noted ..).waiting, (noteOne_noted ..).waiting]
  · rw [waiting_drive, (noteOne_noted ..).waiting]

theorem waiting_showGroup : (f.showGroup k).waiting n = f.waiting n := by
  rw [showGroup]
  split
  · rw [(showRail_kept ..).waiting, waiting_put, waiting_put]
  · exact rfl

theorem waiting_startsLow : (f.startsLow k).waiting n = f.waiting n := by
  unfold startsLow
  dsimp only
  split
  · rfl
  · split
    · rfl
    · split <;> simp
    · exact waiting_modSs ..

end

/-! A function takes effect (R63). -/

/-- What the supplies and excitation show. -/
def aside : Reach where
  terms := []
  pages := [R.pageEXC, R.pageFSUP]

/-- A new function shows, and all that follows it does. -/
def takesFunc (n fn : Nat) (f : Field) : Field :=
  ((((f.put (F.TERM_CELLSTAT_FUNC_ACT n) fn).settle n).showGroup n).showShedding (n / 8)).blankLine

/-- What follows it: the group's supplies show, and the blank line follows the inputs. -/
theorem takesFunc_within {n : Nat} (hn : n < 32) (fn : Nat) (f : Field) :
    (f.takesFunc n fn).Within aside (((f.put (F.TERM_CELLSTAT_FUNC_ACT n) fn).settle n).showGroup n) :=
  .blankLine (.putAt (.refl ..) ⟨by decide, .inr (by decide)⟩ (sheddingPage hn)) ⟨by decide, .inr (by decide)⟩

theorem func_stands : ∀ n < 32, (F.TERM_CELLSTAT_FUNC_ACT n).undriven = true ∧ (F.TERM_CELLSTAT_FUNC_ACT n).offRails = true := by decide

theorem takesFunc_func {n fn : Nat} (hn : n < 32) (f : Field) : (f.takesFunc n fn).func n = fn % 16 := by
  obtain ⟨hdriven, hrails⟩ := func_stands n hn
  have hpage : ¬aside.page ((F.TERM_CELLSTAT_FUNC_ACT n).addr / 256) := by
    simp only [Reach.page, aside, F.TERM_CELLSTAT_FUNC_ACT, R.TERM_CELLSTAT, R.pageEXC, R.pageFSUP, List.map_nil, List.mem_cons,
      List.not_mem_nil, false_or, or_false]
    omega
  calc (f.takesFunc n fn).func n
      = (((f.put (F.TERM_CELLSTAT_FUNC_ACT n) fn).settle n).showGroup n).func n :=
        congrArg (wbits · _ _) ((takesFunc_within hn fn f).img _ hpage)
    _ = ((f.put (F.TERM_CELLSTAT_FUNC_ACT n) fn).settle n).func n := (showGroup_sameFlag hrails _ n).flag
    _ = (f.put (F.TERM_CELLSTAT_FUNC_ACT n) fn).func n := (Settled.settle n _).img _ hdriven (untriggered_func n hn)
    _ = fn % 16 := g_put_same f (F.TERM_CELLSTAT_FUNC_ACT n) fn rfl

theorem waiting_takesFunc {n fn : Nat} (hn : n < 32) (f : Field) : (f.takesFunc n fn).waiting n = f.waiting n := by
  rw [waiting, (takesFunc_within hn fn f).term n List.not_mem_nil]
  exact (waiting_showGroup ..).trans (waiting_settle ..)

/-- A function takes effect on a cell whose run state has started from reset. -/
theorem takeFunc_eq (n fn : Nat) (f : Field) : ∃ g : Field, g.waiting n = none ∧ f.takeFunc n fn = g.takesFunc n fn := by
  unfold takeFunc
  dsimp only
  refine ⟨_, ?_, rfl⟩
  have hreset (t : TermRun) (ht : t.next = none) : (f.setTerm n t).waiting n = none := by rw [waiting, term_setTerm_same, ht]
  simp [waiting_startsLow, hreset]

theorem takeFunc_func {n : Nat} (hn : n < 32) (fn : Fin 8) (f : Field) : (f.takeFunc n fn).func n = fn := by
  obtain ⟨g, -, hg⟩ := f.takeFunc_eq n fn
  rw [hg, takesFunc_func hn]
  exact Nat.mod_eq_of_lt (Nat.lt_trans fn.isLt (by decide))

theorem waiting_takeFunc {n fn : Nat} (hn : n < 32) (f : Field) : (f.takeFunc n fn).waiting n = none := by
  obtain ⟨g, hw, hg⟩ := f.takeFunc_eq n fn
  rw [hg, waiting_takesFunc hn, hw]

end Field

/-- What is told about what is reached are marks, where no segment wears. -/
theorem FMsg.isMark_of_within {r : Reach} (hr : r.wear = false) {m : FMsg} (h : m.within r) : m.isMark = true := by
  cases m with
  | evt => exact decide_eq_true h.2
  | fault | record => rfl
  | gen => exact absurd (hr.symm.trans h.2) Bool.false_ne_true
  | retire | spareIn | defer | segments => exact absurd (hr.symm.trans h) Bool.false_ne_true
  | _ => exact h.elim

theorem Field.Within.marks {r : Reach} {g f : Field} (a : g.Within r f) (hr : r.wear = false) (h : f.out.all waits = true) :
    ∀ m ∈ g.out, m.isMark = true := by
  obtain ⟨es, hes, hall⟩ := a.out
  rw [hes]
  exact List.forall_mem_append.mpr ⟨fun m hm => FMsg.isMark_of_waits (List.all_eq_true.mp h m hm),
    fun m hm => FMsg.isMark_of_within hr (hall m hm)⟩

theorem Field.mem_evt (f : Field) (page bit q : Nat) (inj quiet : Bool) :
    FMsg.evt page bit q inj quiet ∈ (f.evt page bit q inj quiet).out := List.mem_append_right _ List.mem_cons_self

theorem Field.func_evt (f : Field) (n page bit q : Nat) (inj quiet : Bool) : (f.evt page bit q inj quiet).func n = f.func n := rfl

theorem Field.term_fault (f : Field) (k src : Nat) (severe : Bool) (p : Option Nat) (inj : Bool) :
    (f.fault src severe p inj).term k = f.term k := rfl

theorem Field.Tells.each {page bit : Nat} (ns : List Nat) {c : Nat → Field → Field} (hc : ∀ n f, (c n f).out = f.out) {f : Field}
    (h : f.Tells page bit) : (f.each ns c).Tells page bit := by
  induction ns generalizing f with
  | nil => exact h
  | cons n ns ih => exact ih (tells_of_append h ((hc n f).trans (List.append_nil _).symm) (by simp))

/-- A disturbance of a context shows nowhere. -/
theorem Field.disturbCtx_sameFlag (x : Fld) (c : Nat) (f : Field) : (f.disturbCtx c).SameFlag x f :=
  .each _ (c := Field.disturb) (fun _ _ => ⟨rfl, rfl⟩) f

/-! The gate and the shunt (R65, R75). -/

/-- A closed gate opens, and is told and reported. -/
def Field.opensGate (n : Nat) (inj : Bool) (f : Field) : Field :=
  ((f.put (F.TERM_CELLSTAT_GATE_OPEN n) 1).evt (R.pageTERM n) 0 (inj := inj)).fault 47 false n inj

theorem Field.opensGate_g (f : Field) (n : Nat) (inj : Bool) (x : Fld) :
    (f.opensGate n inj).g x = (f.put (F.TERM_CELLSTAT_GATE_OPEN n) 1).g x := rfl

theorem Field.opensGate_cfg (f : Field) (n : Nat) (inj : Bool) : (f.opensGate n inj).cfg = f.cfg := by
  simp [Field.opensGate, Field.fault, Field.evt]

section
variable {n : Nat} {f : Field}

theorem Field.overvoltage_opens (f : Field) (hc : f.gateClosed n = true) (inj : Bool) :
    ∃ hits : List Nat, f.overvoltage n inj = (f.opensGate n inj).each hits fun c f => f.flag c 5 :=
  ⟨_, if_pos hc⟩

theorem Field.opensGate_tells (h : f.out.all waits = true) (n : Nat) (inj : Bool) : (f.opensGate n inj).Tells (R.pageTERM n) 0 :=
  tells_of_append (es := [_]) (tells_evt (f := f.put (F.TERM_CELLSTAT_GATE_OPEN n) 1) h (R.pageTERM n) (bit := 0) (by decide) inj) rfl
    (by simp [FMsg.isMark])

end

theorem still_shuntOpen : ∀ n < 32, (F.TERM_CELLSTAT_SHUNT_OPEN n).still = true := by decide

/-- The shunt of a current input opens: it shows, it is counted and it is told. -/
theorem Field.shuntOpen_opens {f : Field} {n : Nat} (hn : n < 32) (hf : f.func n = 4) (hs : f.gb (F.TERM_CELLSTAT_SHUNT_OPEN n) = false)
    (inj : Bool) : (f.shuntOpen n inj).gb (F.TERM_CELLSTAT_SHUNT_OPEN n) = true ∧
      ((f.shuntOpen n inj).term n).shunts = (f.term n).shunts + 1 ∧ ∃ u, .evt (R.pageTERM n) 1 0 inj u ∈ (f.shuntOpen n inj).out := by
  have hshown : ((f.put (F.TERM_CELLSTAT_SHUNT_OPEN n) 1).tellPartner n).gb (F.TERM_CELLSTAT_SHUNT_OPEN n) = true := by
    rw [Field.gb_eq, (Field.tellPartner_kept n _).img _ (still_shuntOpen n hn), Field.g_put_same _ _ _ rfl]
    rfl
  have hopens : (f.func n == 4 && !f.gb (F.TERM_CELLSTAT_SHUNT_OPEN n)) = true := by simp [hf, hs]
  rw [Field.shuntOpen, if_pos hopens]
  refine ⟨?_, ?_, decide ((f.term n).shunts % 10 ≠ 0), ?_⟩
  · rw [Field.gb_eq, Field.g, Field.fault, Field.tell_img, Field.evt_eq, Field.tell_img, Field.modTerm_eq, Field.setTerm_img]
    exact hshown
  · rw [Field.term_fault, Field.term_evt, Field.term_modTerm_same]
  · simp [Field.evt, Field.tell, Field.fault]

section
variable {s : State} {n : Terminal} (hup : s.up)
include hup

theorem funcChangeSettle_takesEffect (fn : Fin 8) (hnext : (s.fd.term n).next = some fn.val) :
    Answers (exec (.funcChangeSettle n) s) fun t => t.fd.func n = fn ∧ (t.fd.term n).next = none ∧
      t.ld.gb ⟨R.EVT_RAW (R.pageTERM n), 2, 1⟩ = true ∧ t.fd.cfg = s.fd.cfg := by
  refine exec_of_runField hup (h := Field.funcSettle n) rfl ?_
  have hsettle : s.fd.funcSettle n = (s.fd.takeFunc n fn).evt (R.pageTERM n) 2 := by rw [Field.funcSettle, hnext]
  have hmarks := (funcSettle_within n s.fd).marks rfl hup.2.2
  have htells : (s.fd.funcSettle n).Tells (R.pageTERM n) 2 := ⟨hmarks, 0, false, false, hsettle ▸ Field.mem_evt ..⟩
  have hcfg := (funcSettle_within n s.fd).cfg
  have hfunc : (s.fd.funcSettle n).func n = fn := by rw [hsettle, Field.func_evt, Field.takeFunc_func n.isLt]
  have hwaiting : (s.fd.funcSettle n).waiting n = none := by rw [hsettle, Field.waiting_evt, Field.waiting_takeFunc n.isLt]
  simp only [drain_fd_at_func, drain_fd_at_term, drain_fd_cfg]
  exact ⟨hfunc, hwaiting, htells.drain hup.2.1 (by decide), hcfg⟩

theorem terminalOvervoltage_opensGate (hc : s.fd.gateClosed n = true) :
    Answers (exec (.terminalOvervoltage n) s) fun t => t.fd.gb (F.TERM_CELLSTAT_GATE_OPEN n) = true ∧
      t.ld.gb ⟨R.EVT_RAW (R.pageTERM n), 0, 1⟩ = true ∧ t.fd.func n = s.fd.func n ∧ t.fd.cfg = s.fd.cfg := by
  have hclear : (F.TERM_CELLSTAT_FUNC_ACT n).clear (F.TERM_CELLSTAT_GATE_OPEN n) = true := by
    simp [Fld.clear, F.TERM_CELLSTAT_FUNC_ACT, F.TERM_CELLSTAT_GATE_OPEN]
  obtain ⟨hits, hopen⟩ := s.fd.overvoltage_opens hc false
  have hflags (x : Fld) (f : Field) : (f.each hits fun c f => f.flag c 5).SameFlag x f :=
    .each hits (c := fun c f => f.flag c 5) (fun _ _ => ⟨rfl, rfl⟩) f
  have htells : (s.fd.overvoltage n false).Tells (R.pageTERM n) 0 :=
    hopen ▸ .each hits (c := fun c f => f.flag c 5) (fun _ _ => rfl) (Field.opensGate_tells hup.2.2 n false)
  have hgate : (s.fd.overvoltage n false).gb (F.TERM_CELLSTAT_GATE_OPEN n) = true := by
    rw [hopen, Field.gb_eq, (hflags (F.TERM_CELLSTAT_GATE_OPEN n) _).flag, Field.opensGate_g, Field.g_put_same _ _ _ rfl]
    rfl
  have hfunc : (s.fd.overvoltage n false).func n = s.fd.func n := by
    rw [hopen, Field.func, (hflags (F.TERM_CELLSTAT_FUNC_ACT n) _).flag, Field.opensGate_g, Field.g_put_clear _ _ _ _ rfl hclear, Field.func]
  have hcfg : (s.fd.overvoltage n false).cfg = s.fd.cfg := by
    rw [hopen, (hflags (F.TERM_CELLSTAT_FUNC_ACT n) _).cfg, Field.opensGate_cfg]
  refine exec_of_runField hup (h := Field.overvoltage n false) rfl ?_
  simp only [drain_fd_at_gb, drain_fd_at_func, drain_fd_cfg]
  exact ⟨hgate, htells.drain hup.2.1 (by decide), hfunc, hcfg⟩

theorem gateReclose_closesGate :
    Answers (exec (.gateReclose n) s) fun t => t.fd.gb (F.TERM_CELLSTAT_GATE_OPEN n) = false ∧ t.fd.cfg = s.fd.cfg := by
  refine exec_of_runField hup (h := Field.gateReclose n) rfl ?_
  simp only [drain_fd_at_gb, drain_fd_cfg]
  unfold Field.gateReclose
  split
  · have hsame := Field.SameFlag.each (x := F.TERM_CELLSTAT_GATE_OPEN n) (allCtxs.filter fun c => s.fd.usesTerm c n)
      (fun c f => f.disturbCtx_sameFlag _ c) (s.fd.put (F.TERM_CELLSTAT_GATE_OPEN n) 0)
    refine ⟨?_, hsame.cfg⟩
    rw [Field.gb_eq, hsame.flag, Field.g_put_same _ _ _ rfl]
    rfl
  · next h => exact ⟨Bool.eq_false_iff.mpr h, rfl⟩

theorem shuntOvercurrent_opensShunt (hf : s.fd.func n = 4) (hs : s.fd.gb (F.TERM_CELLSTAT_SHUNT_OPEN n) = false) :
    Answers (exec (.shuntOvercurrent n) s) fun t => t.fd.gb (F.TERM_CELLSTAT_SHUNT_OPEN n) = true ∧
      (t.fd.term n).shunts = (s.fd.term n).shunts + 1 ∧ t.ld.gb ⟨R.EVT_RAW (R.pageTERM n), 1, 1⟩ = true ∧ t.fd.cfg = s.fd.cfg := by
  refine exec_of_runField hup (h := Field.shuntOpen n false) rfl ?_
  obtain ⟨hopen, hcount, u, hmem⟩ := Field.shuntOpen_opens n.isLt hf hs false
  have hwithin : (s.fd.shuntOpen n false).Within (reachOf (.shuntOvercurrent n) n s.fd) s.fd :=
    Field.Within.shuntOpen (.refl ..) (reachOf_self ..)
  have htells : (s.fd.shuntOpen n false).Tells (R.pageTERM n) 1 := ⟨hwithin.marks rfl hup.2.2, _, _, u, hmem⟩
  simp only [drain_fd_at_gb, drain_fd_at_term, drain_fd_cfg]
  exact ⟨hopen, hcount, htells.drain hup.2.1 (by decide), hwithin.cfg⟩

theorem shuntReclose_closesShunt :
    Answers (exec (.shuntReclose n) s) fun t => t.fd.gb (F.TERM_CELLSTAT_SHUNT_OPEN n) = false ∧ t.fd.cfg = s.fd.cfg := by
  refine exec_of_runField hup (h := Field.shuntReclose n) rfl ?_
  simp only [drain_fd_at_gb, drain_fd_cfg]
  unfold Field.shuntReclose
  dsimp only
  split
  · have hkept := (s.fd.put (F.TERM_CELLSTAT_SHUNT_OPEN n) 0).tellPartner_kept n
    refine ⟨?_, hkept.cfg⟩
    rw [Field.gb_eq, hkept.img _ (still_shuntOpen n n.isLt), Field.g_put_same _ _ _ rfl]
    rfl
  · next h => exact ⟨Bool.eq_false_iff.mpr h, rfl⟩

end

/-- Settles O30: a clause for each command. -/
theorem cellRows : Obligations.CellRows := by
  unfold Obligations.CellRows
  exact ⟨fun _ _ fn hup hnext => funcChangeSettle_takesEffect hup fn hnext, fun _ _ hup hc => terminalOvervoltage_opensGate hup hc,
    fun _ _ hup => gateReclose_closesGate hup, fun _ _ hup hf hs => shuntOvercurrent_opensShunt hup hf hs,
    fun _ _ hup => shuntReclose_closesShunt hup⟩

end Sys2Proof.Machine
end

section
/-! What excitation, references and blanking leave of the field die (R80, R85, R90, R92, R94): programmes, triggers, rotation, calibration
and what waits for commands of its own, and the registers outside the EXC page. -/

namespace Sys2Proof.Machine

open Sys2Proof

/-- Between two states of the field die only run state of contexts, slices, terminals and excitation differs, what the EXC page shows, and
what is told. -/
structure Field.OnExcPage (g f : Field) : Prop where
  cfg : g.cfg = f.cfg
  progs : g.progs = f.progs
  trigs : g.trigs = f.trigs
  rot : g.rot = f.rot
  cal : g.cal = f.cal
  snapq : g.snapq = f.snapq
  urgReqs : g.urgReqs = f.urgReqs
  commits : g.commits = f.commits
  img : ∀ x, x / 256 ≠ R.pageEXC → g.img.word x = f.img.word x

/-- The registers of source `k`, a sine generator or a DC source, that its commands show. -/
def sourceFlds (k : Nat) : List Fld :=
  [F.EXC_SINE_STAT_BUSY k, F.EXC_SINE_STAT_PENDING k, F.EXC_SINE_STAT_RUNNING k, F.EXC_SINE_STAT_COMPL k, F.EXC_SINE_STAT_AMPL_ERR k,
   F.EXC_SINE_MON_MON k, F.EXC_IDCSTAT_ON k, F.EXC_IDCSTAT_COMPL k]

theorem sourceFlds_page : ∀ k < 4, ∀ x ∈ sourceFlds k, x.addr / 256 = R.pageEXC := by decide

theorem complFlag_page : ∀ src < 8, (complFlag src).addr / 256 = R.pageEXC := by decide

/-- What the blank line alone reaches. -/
def excPage : Reach where
  terms := []
  pages := [R.pageEXC]

theorem excPage_page {p : Nat} : excPage.page p ↔ p = R.pageEXC := by
  simp only [Reach.page, excPage, List.map_nil, List.mem_cons, List.not_mem_nil, or_false, false_or, and_iff_right_iff_imp]
  rintro rfl
  decide

namespace Field.OnExcPage

variable {f g h : Field}

theorem refl (f : Field) : f.OnExcPage f := ⟨rfl, rfl, rfl, rfl, rfl, rfl, rfl, rfl, fun _ _ => rfl⟩

theorem trans (a : h.OnExcPage g) (b : g.OnExcPage f) : h.OnExcPage f where
  cfg := a.cfg.trans b.cfg
  progs := a.progs.trans b.progs
  trigs := a.trigs.trans b.trigs
  rot := a.rot.trans b.rot
  cal := a.cal.trans b.cal
  snapq := a.snapq.trans b.snapq
  urgReqs := a.urgReqs.trans b.urgReqs
  commits := a.commits.trans b.commits
  img x hx := (a.img x hx).trans (b.img x hx)

/-- What leaves the measurement side but for excitation, and reaches the EXC page alone. -/
theorem of_within (a : g.SameButExc f) (b : g.Within excPage f) : g.OnExcPage f where
  cfg := b.cfg
  progs := (sameMeasure_of_measureSide a.side).progs
  trigs := (sameMeasure_of_measureSide a.side).trigs
  rot := (sameMeasure_of_measureSide a.side).rot
  cal := (sameMeasure_of_measureSide a.side).cal
  snapq := (sameMeasure_of_measureSide a.side).snapq
  urgReqs := (sameMeasure_of_measureSide a.side).urgReqs
  commits := (sameMeasure_of_measureSide a.side).commits
  img x hx := b.img x fun hp => hx (excPage_page.mp hp)

/-! The named updates. -/

/-- Run state of excitation, contexts, slices and terminals, what is told and what is held back are no part of it. -/
theorem keep (a : g.OnExcPage f) (exc : ExcRun) (ctxs : Tab CtxRun) (slices : Tab SliceRun) (terms : Tab TermRun) (out : List FMsg)
    (deferred : List (Nat × Nat)) : ({ g with exc, ctxs, slices, terms, out, deferred } : Field).OnExcPage f :=
  ⟨a.cfg, a.progs, a.trigs, a.rot, a.cal, a.snapq, a.urgReqs, a.commits, a.img⟩

theorem setExc (a : g.OnExcPage f) (e : ExcRun) : ({ g with exc := e } : Field).OnExcPage f :=
  a.keep e g.ctxs g.slices g.terms g.out g.deferred

theorem defers (a : g.OnExcPage f) (l : List (Nat × Nat)) : ({ g with deferred := l } : Field).OnExcPage f :=
  a.keep g.exc g.ctxs g.slices g.terms g.out l

theorem tell (a : g.OnExcPage f) {m : FMsg} : (g.tell m).OnExcPage f := a.keep g.exc g.ctxs g.slices g.terms _ g.deferred

theorem modCtx (a : g.OnExcPage f) {n : Nat} {c : CtxRun → CtxRun} : (g.modCtx n c).OnExcPage f :=
  a.keep g.exc _ g.slices g.terms g.out g.deferred

theorem modSlice (a : g.OnExcPage f) {n : Nat} {c : SliceRun → SliceRun} : (g.modSlice n c).OnExcPage f :=
  a.keep g.exc g.ctxs _ g.terms g.out g.deferred

theorem blankLevel (a : g.OnExcPage f) {on : Bool} {n : Nat} : (g.blankLevel on n).OnExcPage f :=
  a.keep g.exc g.ctxs g.slices _ g.out g.deferred

theorem modSine (a : g.OnExcPage f) {k : Nat} {c : SineRun → SineRun} : (g.modSine k c).OnExcPage f := a.setExc _

theorem put (a : g.OnExcPage f) {y : Fld} {v : Nat} (hy : y.addr / 256 = R.pageEXC) : (g.put y v).OnExcPage f :=
  trans (g := g) ⟨rfl, rfl, rfl, rfl, rfl, rfl, rfl, rfl, fun _ hx => word_set_page v g.img (hy ▸ by decide) (hy ▸ hx)⟩ a

theorem putSource (a : g.OnExcPage f) {k : Nat} (hk : k < 4) {y : Fld} {v : Nat} (hy : y ∈ sourceFlds k := by simp [sourceFlds]) :
    (g.put y v).OnExcPage f := a.put (sourceFlds_page k hk y hy)

theorem when (a : g.OnExcPage f) {c : Bool} {c' : Field → Field} (hc : ∀ u, u.OnExcPage f → (c' u).OnExcPage f) :
    (g.when c c').OnExcPage f := by
  cases c
  · exact a
  · exact hc g a

theorem ite {c : Prop} [Decidable c] (a : g.OnExcPage f) (b : h.OnExcPage f) : (if c then g else h).OnExcPage f := by
  split
  · exact a
  · exact b

theorem each (a : g.OnExcPage f) {ns : List Nat} {c : Nat → Field → Field} (hc : ∀ u n, u.OnExcPage f → (c n u).OnExcPage f) :
    (g.each ns c).OnExcPage f := by
  unfold Field.each
  induction ns generalizing g with
  | nil => exact a
  | cons n ns ih => exact ih (hc g n a)

/-! Contexts and slices that a source or a reference disturbs (R87, R95). -/

theorem flag (a : g.OnExcPage f) {c bit : Nat} : (g.flag c bit).OnExcPage f := a.modCtx

theorem excite (a : g.OnExcPage f) {src : Nat} : (g.excite src).OnExcPage f := a.each fun _ _ hu => hu.each fun _ _ hv => hv.modSlice

theorem unsettleRefs (a : g.OnExcPage f) {ns : List Nat} : (g.each ns Field.unsettleRef).OnExcPage f := a.each fun _ _ hu => hu.modSlice

/-! Sources (R80, R82, R85, R86). -/

section
variable (a : g.OnExcPage f) {k : Nat} (hk : k < 4)
include a

theorem sineStart : (g.sineStart k).OnExcPage f := .unsettleRefs a.modSine

theorem sineCross : (g.sineCross k).OnExcPage f := .ite (.excite a.modSine) a

theorem vbias {cur : Nat} : (g.vbias cur).OnExcPage f := .ite (.tell (.put (.put a rfl) rfl)) (.put (.put a rfl) rfl)

theorem complEnter {src : Nat} (hsrc : src < 8) {inj : Bool} : (g.complEnter src inj).OnExcPage f :=
  .ite a (.each (.excite (.tell (.put a (complFlag_page src hsrc)))) fun _ _ hu => hu.flag)

include hk

theorem sineRampDone : (g.sineRampDone k).OnExcPage f := by
  have hdown : (((((g.modSine k fun r => { r with changed := false }).put (F.EXC_SINE_STAT_BUSY k) 0).put (F.EXC_SINE_STAT_COMPL k) 0).put
      (F.EXC_SINE_STAT_AMPL_ERR k) 0).excite k).OnExcPage f := .excite (.putSource (.putSource (.putSource a.modSine hk) hk) hk)
  exact .ite (.ite (.sineStart (.putSource hdown hk)) hdown) (.ite (.excite (.putSource a.modSine hk)) a)

theorem sineMonitor {mon : Nat} : (g.sineMonitor k mon).OnExcPage f := by
  have hmon : (g.put (F.EXC_SINE_MON_MON k) mon).OnExcPage f := .putSource a hk
  exact .ite (.ite (.ite (.ite (.tell (.putSource hmon.modSine hk)) hmon.modSine) (.putSource hmon.modSine hk)) hmon) a

theorem idcEffect : (g.idcEffect k).OnExcPage f :=
  .ite a (.excite (.putSource (.when (.setExc a _) fun _ hu => hu.putSource hk) hk))

end

/-! References and the blank line (R95, R96, R97, R99). -/

section
variable (a : g.OnExcPage f)
include a

theorem extBad {inj : Bool} : (g.extBad inj).OnExcPage f := .ite (.unsettleRefs (.tell (.put a rfl))) a

theorem refSettle {s : Nat} : (g.refSettle s).OnExcPage f := .ite a a.modSlice

theorem retireRef {b cause : Nat} {inj : Bool} : (g.retireRef b cause inj).OnExcPage f :=
  .tell (.when (.tell (.tell (.put (.setExc a _) rfl))) fun _ hu =>
    .unsettleRefs (.each (.tell (.tell (.put hu rfl))) fun _ _ hv => hv.flag))

theorem refMismatch {bad diff : Nat} : (g.refMismatch bad diff).OnExcPage f := by
  have hshown : (((g.put F.EXC_REF_DIFF diff).evt R.pageEXC 14).tell (.gen R.pageLARDER)).OnExcPage f := .tell (.tell (.put a rfl))
  exact .ite (.ite hshown (.ite (.ite hshown (.tell (hshown.defers _))) hshown.retireRef)) a

theorem blankMaxlen : g.blankMaxlen.OnExcPage f :=
  .ite (.each (.tell (.tell (.put (.put (.setExc a _) rfl) rfl))) fun _ _ hu => hu.modSlice) a

theorem blankLine : g.blankLine.OnExcPage f :=
  trans (of_within (blankLine_sameButExc g) (.blankLine (.refl ..) (excPage_page.mpr rfl))) a

theorem blankGuardEnd : g.blankGuardEnd.OnExcPage f :=
  trans (of_within (blankGuardEnd_sameButExc g) (.blankGuardEnd (.refl ..) (excPage_page.mpr rfl))) a

theorem blankOn {src : Option Nat} : (g.blankOn src).OnExcPage f := by
  cases src with
  | none => exact .blankLine (.put a rfl)
  | some n => exact .blankLine a.blankLevel

theorem blankOff : g.blankOff.OnExcPage f := .ite (.blankLine (.put a rfl)) (.blankLine (.each a fun _ _ hu => hu.blankLevel))

end

end Field.OnExcPage

/-- A command of excitation, references or blanking acts on the field die by a change that shows on the EXC page alone. -/
theorem exec_ofExcitation {i : Instr} (h : i.ofExcitation = true) (s : State) :
    ∃ g, exec i s = runField g s ∧ (g s.fd).OnExcPage s.fd := by
  have start := Field.OnExcPage.refl s.fd
  cases i with
  | sineZeroCrossing => exact ⟨_, rfl, start.sineCross⟩
  | sineRampDone k => exact ⟨_, rfl, start.sineRampDone k.isLt⟩
  | sinePeriodMonitor k => exact ⟨_, rfl, start.sineMonitor k.isLt⟩
  | sourceComplianceEnter src => exact ⟨_, rfl, start.when fun _ hu => hu.complEnter src.isLt⟩
  | sourceComplianceClear src => exact ⟨_, rfl, start.when fun _ hu => hu.put (complFlag_page src src.isLt)⟩
  | idcChangeEffect k => exact ⟨_, rfl, start.idcEffect k.isLt⟩
  | vbiasOverload => exact ⟨_, rfl, start.vbias⟩
  | extrefBad => exact ⟨_, rfl, start.extBad⟩
  | extrefOk => exact ⟨_, rfl, start.put rfl⟩
  | refSettled => exact ⟨_, rfl, start.refSettle⟩
  | refMismatch => exact ⟨_, rfl, start.refMismatch⟩
  | blankLineAssert => exact ⟨_, rfl, start.blankOn⟩
  | blankLineRelease => exact ⟨_, rfl, start.blankOff⟩
  | blankGuardExpiry => exact ⟨_, rfl, start.blankGuardEnd⟩
  | blankMaxlenExpiry => exact ⟨_, rfl, start.blankMaxlen⟩
  | _ => exact absurd h Bool.false_ne_true

/-- Settles O54: what such a command changes shows on the EXC page, and its messages leave the field die as it is. -/
theorem excitationRowsFrame : Obligations.ExcitationRowsFrame := by
  unfold Obligations.ExcitationRowsFrame
  intro i s t hi hl hexec
  obtain ⟨g, hg, hpage⟩ := exec_ofExcitation hi s
  have hkept : t.fd.OnExcPage s.fd := by
    cases hr : s.fd.released
    · obtain rfl : s = t := Host.Outcome.next.inj ((runField_held g s hr).symm.trans (hg.symm.trans hexec))
      exact .refl _
    · obtain rfl : drain { s with fd := g s.fd } = t :=
        Host.Outcome.next.inj ((runField_up g s hr hl).symm.trans (hg.symm.trans hexec))
      rw [drain_fd]
      exact hpage.keep _ _ _ _ _ _
  exact ⟨hkept.cfg, hkept.progs, hkept.trigs, hkept.rot, hkept.cal, hkept.snapq, hkept.urgReqs, hkept.commits, hkept.img⟩

end Sys2Proof.Machine
end

section
/-! Shared facts: what a loop over contexts, slices or terminals leaves, one-bit registers read back, and what is retired stays so while
messages are taken (R390). -/

namespace Sys2Proof.Machine

open Sys2Proof

/-! What a loop over contexts, slices or terminals leaves of a field die. -/

/-- Between two states of the field die nothing shows, nothing is told, and excitation's own state is the same. -/
structure Field.Unseen (g f : Field) : Prop where
  cfg : g.cfg = f.cfg
  img : g.img = f.img
  exc : g.exc = f.exc
  out : g.out = f.out

namespace Field.Unseen

variable {f u v : Field}

theorem trans (a : v.Unseen u) (b : u.Unseen f) : v.Unseen f :=
  ⟨a.cfg.trans b.cfg, a.img.trans b.img, a.exc.trans b.exc, a.out.trans b.out⟩

theorem each (ns : List Nat) {c : Nat → Field → Field} (hc : ∀ n f, (c n f).Unseen f) (f : Field) : (f.each ns c).Unseen f := by
  induction ns generalizing f with
  | nil => exact ⟨rfl, rfl, rfl, rfl⟩
  | cons n ns ih => exact (ih (c n f)).trans (hc n f)

theorem g (a : u.Unseen f) (x : Fld) : u.g x = f.g x := congrArg x.get a.img

theorem gb (a : u.Unseen f) (x : Fld) : u.gb x = f.gb x := congrArg (· != 0) (a.g x)

theorem tells (a : u.Unseen f) {page bit : Nat} (h : f.Tells page bit) : u.Tells page bit :=
  tells_of_append h (a.out.trans (List.append_nil _).symm) (by simp)

end Field.Unseen

namespace Field

theorem unsettleRefs_unseen (ns : List Nat) (f : Field) : (f.each ns unsettleRef).Unseen f :=
  .each ns (c := unsettleRef) (fun _ _ => ⟨rfl, rfl, rfl, rfl⟩) f

theorem flags_unseen (bit : Nat) (ns : List Nat) (f : Field) : (f.each ns fun c f => f.flag c bit).Unseen f :=
  .each ns (c := fun c f => f.flag c bit) (fun _ _ => ⟨rfl, rfl, rfl, rfl⟩) f

theorem blankLevel_unseen (on : Bool) (n : Nat) (f : Field) : (f.blankLevel on n).Unseen f := ⟨rfl, rfl, rfl, rfl⟩

theorem blankLevels_unseen (on : Bool) (ns : List Nat) (f : Field) : (f.each ns (blankLevel on)).Unseen f :=
  .each ns (c := blankLevel on) (fun n f => f.blankLevel_unseen on n) f

theorem modSlices_unseen (c : SliceRun → SliceRun) (ns : List Nat) (f : Field) : (f.each ns fun s f => f.modSlice s c).Unseen f :=
  .each ns (c := fun s f => f.modSlice s c) (fun _ _ => ⟨rfl, rfl, rfl, rfl⟩) f

/-- A one-bit field that is shown reads back. -/
theorem gb_putb_same (f : Field) {x : Fld} (b : Bool) (hx : x.fits = true) (hlen : x.len = 1) : (f.putb x b).gb x = b := by
  rw [gb_eq, putb, g_put_same _ _ _ hx, hlen, pow_one, b2n_mod, b2n_bne]

theorem gb_set (f : Field) {x : Fld} (hx : x.fits = true) (hlen : x.len = 1) : (f.put x 1).gb x = true := gb_putb_same f true hx hlen

theorem gb_cleared (f : Field) {x : Fld} (hx : x.fits = true) : (f.put x 0).gb x = false := by
  rw [gb_eq, g_put_same _ _ _ hx, Nat.zero_mod, bne_self_eq_false]

theorem gb_put_clear (f : Field) {x y : Fld} (v : Nat) (hy : y.fits = true) (h : x.clear y = true) : (f.put y v).gb x = f.gb x := by
  rw [gb_eq, g_put_clear _ _ _ _ hy h, gb_eq]

theorem gb_bump_clear (f : Field) {x y : Fld} (hy : y.fits = true) (h : x.clear y = true) : (f.bump y).gb x = f.gb x :=
  gb_put_clear f _ hy h

/-- Excitation's own state shows nowhere. -/
theorem g_exc (f : Field) (e : ExcRun) (x : Fld) : ({ f with exc := e } : Field).g x = f.g x := rfl

theorem gb_exc (f : Field) (e : ExcRun) (x : Fld) : ({ f with exc := e } : Field).gb x = f.gb x := rfl

/-- A further event among marks. -/
theorem Tells.evt_next {f : Field} {page bit : Nat} (h : f.Tells page bit) (p : Nat) {b : Nat} (hb : b < 32) : (f.evt p b).Tells p b :=
  ⟨(tells_of_append (es := [_]) h rfl (by simpa [FMsg.isMark] using hb)).marks, _, _, _, mem_evt ..⟩

end Field

/-- With nothing to tell but what waits, the field die stays as it is. -/
theorem drain_fd_of_waits {s : State} (hl : s.ld.linkUp = true) (h : s.fd.out.all waits = true) : (drain s).fd = s.fd := by
  have hkept : s.fd.out.filter waits = s.fd.out := List.filter_eq_self.mpr (List.all_eq_true.mp h)
  rw [drain_fd, drain_out s hl, hkept]

/-! What is retired stays so while messages are taken (R390). -/

namespace Logic

@[simp] theorem gen_mram (l : Logic) (p : Nat) : (l.gen p).mram = l.mram := put_mram ..

@[simp] theorem noteOwned_mram (a : Nat) (l : Logic) : (l.noteOwned a).mram = l.mram := rfl

@[simp] theorem larderEvt_mram (l : Logic) (bit k i c : Nat) (inj : Bool) : (l.larderEvt bit k i c inj).mram = l.mram := setEvt_mram ..

@[simp] theorem when_mram (c : Bool) (h : Logic → Logic) (l : Logic) (hh : ∀ l, (h l).mram = l.mram) : (l.when c h).mram = l.mram := by
  cases c
  · rfl
  · exact hh l

@[simp] theorem larderGen_mram (l : Logic) : l.larderGen.mram = l.mram := by
  unfold larderGen
  split
  · rfl
  · rw [gen_mram]

@[simp] theorem fewer_mram (l : Logic) (k i was : Nat) (inj : Bool) : (l.fewer k i was inj).mram = l.mram := by
  unfold fewer
  dsimp only
  rw [when_mram _ _ _ fun _ => fault_mram .., when_mram _ _ _ fun _ => fault_mram .., when_mram _ _ _ fun _ => larderEvt_mram ..]

@[simp] theorem defer_mram (l : Logic) (k i : Nat) (on : Bool) : (l.defer k i on).mram = l.mram := by
  unfold defer
  dsimp only
  split
  · split
    · rfl
    · rw [larderGen_mram, larderEvt_mram]
  · split
    · rw [larderGen_mram]
    · rfl

@[simp] theorem judgeDwells_mram (l : Logic) : l.judgeDwells.mram = l.mram := by
  unfold judgeDwells
  split
  · dsimp only
    rw [when_mram _ _ _ fun _ => fault_mram .., put_mram]
  · rfl

@[simp] theorem sendPartner_mram (l : Logic) (k : PFrame) : (l.sendPartner k).mram = l.mram := when_mram _ _ _ fun _ => rfl

@[simp] theorem abortCause_mram (l : Logic) (c : Nat) : (l.abortCause c).mram = l.mram := by
  unfold abortCause
  split
  · split <;> rfl
  · rfl

theorem isRetired_iff {l : Logic} {k i : Nat} : l.isRetired k i = true ↔ (k, i) ∈ l.mram.larder.retired := List.contains_iff_mem

theorem retire_retired (l : Logic) (k i cause : Nat) (wasSpare inj : Bool) : (l.retire k i cause wasSpare inj).mram.larder.retired =
    if l.isRetired k i then l.mram.larder.retired else l.mram.larder.retired ++ [(k, i)] := by
  unfold retire
  split
  · rfl
  · dsimp only
    rw [larderGen_mram, when_mram _ _ _ fun _ => fewer_mram .., larderEvt_mram]
    cases wasSpare <;> rfl

theorem retire_isRetired (l : Logic) (k i cause : Nat) (wasSpare inj : Bool) : (l.retire k i cause wasSpare inj).isRetired k i = true := by
  rw [isRetired_iff, retire_retired]
  split
  · next h => exact isRetired_iff.mp h
  · exact List.mem_append_right _ (List.mem_singleton_self _)

theorem spareIn_retired (l : Logic) (k i : Nat) : (l.spareIn k i).mram.larder.retired = l.mram.larder.retired := by
  unfold spareIn
  dsimp only
  rw [larderGen_mram, fewer_mram, larderEvt_mram]
  rfl

end Logic

/-- No message takes a retirement back. -/
theorem takeMsg_isRetired {l : Logic} {k i : Nat} (h : l.isRetired k i = true) (t : Nat) (m : FMsg) :
    (takeMsg t m l).isRetired k i = true := by
  rw [Logic.isRetired_iff] at h ⊢
  cases m with
  | evt => rwa [takeMsg, Logic.setEvt_mram]
  | clearEvt => rwa [takeMsg, Logic.putWord_mram]
  | bump => rwa [takeMsg, Logic.bump_mram]
  | put => rwa [takeMsg, Logic.when_mram _ _ _ (Logic.noteOwned_mram _), Logic.put_mram]
  | gen page =>
    rw [takeMsg]
    split
    · rwa [Logic.larderGen_mram]
    · rwa [Logic.gen_mram]
  | retire =>
    rw [takeMsg, Logic.retire_retired]
    split
    · exact h
    · exact List.mem_append_left _ h
  | spareIn => rwa [takeMsg, Logic.spareIn_retired]
  | defer => rwa [takeMsg, Logic.defer_mram]
  | slice =>
    rw [takeMsg, Logic.larderGen_mram]
    exact h
  | selfCal =>
    rw [takeMsg, Logic.gen_mram]
    exact h
  | dwell =>
    rw [takeMsg, Logic.judgeDwells_mram, Logic.sendPartner_mram]
    exact h
  | abort => rwa [takeMsg, Logic.abortCause_mram]
  | segments | refs | fault | record => exact h

theorem takeMsgs_isRetired {l : Logic} {k i : Nat} (h : l.isRetired k i = true) (t : Nat) (ms : List FMsg) :
    (ms.foldl (fun l m => takeMsg t m l) l).isRetired k i = true := by
  induction ms generalizing l with
  | nil => exact h
  | cons m ms ih => exact ih (takeMsg_isRetired h t m)

/-- A retirement that the field die tells is in the Larder record. -/
theorem drain_isRetired (s : State) (hl : s.ld.linkUp = true) {k i cause : Nat} {wasSpare inj : Bool}
    (hmem : .retire k i cause wasSpare inj ∈ s.fd.out) : (drain s).ld.isRetired k i = true := by
  obtain ⟨before, after, hout⟩ := List.append_of_mem hmem
  rw [drain_ld s hl, hout, List.foldl_append, List.foldl_cons]
  exact takeMsgs_isRetired (Logic.retire_isRetired ..) _ _

end Sys2Proof.Machine
end

section
/-! References and blanking, command by command: loss, settling and replacement of a reference, the blank line, its guard and its limit
(R95, R96, R97, R99). -/

namespace Sys2Proof.Machine

open Sys2Proof

namespace Field

/-! A reference is replaced (R96). -/

/-- The references differ, which is shown and told. -/
def refsDiffer (diff : Nat) (f : Field) : Field := ((f.put F.EXC_REF_DIFF diff).evt R.pageEXC 14).tell (.gen R.pageLARDER)

/-- A reference is withdrawn, of the spares or, where it is the primary, of those in service. -/
def withdrawsRef (b cause : Nat) (primary inj : Bool) (f : Field) : Field :=
  ((({ f with exc := { f.exc with retiredRef := some b } } : Field).put F.EXC_REF_SPARE_AVAIL 0).tell
    (.retire 5 b cause (!primary) inj)).fault 50 false b inj

/-- The reference other than `b` becomes the primary. -/
def otherRef (b : Nat) (inj : Bool) (f : Field) : Field :=
  ((f.put F.EXC_REF_ACTIVE (1 - b)).tell (.spareIn 5 (1 - b))).evt R.pageEXC 15 (inj := inj)

theorem withdrawsRef_g {b cause : Nat} {primary inj : Bool} {f : Field} {x : Fld} (h : x.clear F.EXC_REF_SPARE_AVAIL = true) :
    (f.withdrawsRef b cause primary inj).g x = f.g x := by
  rw [withdrawsRef, fault, tell_at_g, tell_at_g, g_put_clear _ _ _ _ rfl h, g_exc]

theorem withdrawsRef_noSpare (b cause : Nat) (primary inj : Bool) (f : Field) :
    (f.withdrawsRef b cause primary inj).gb F.EXC_REF_SPARE_AVAIL = false := by
  rw [withdrawsRef, fault, tell_at_gb, tell_at_gb, gb_cleared _ rfl]

theorem withdrawsRef_exc (b cause : Nat) (primary inj : Bool) (f : Field) :
    (f.withdrawsRef b cause primary inj).exc = { f.exc with retiredRef := some b } := by
  rw [withdrawsRef, fault, tell_exc, tell_exc, put_exc]

theorem withdrawsRef_out (b cause : Nat) (primary inj : Bool) (f : Field) :
    .retire 5 b cause (!primary) inj ∈ (f.withdrawsRef b cause primary inj).out :=
  List.mem_append_left _ (List.mem_append_right _ (List.mem_singleton_self _))

theorem otherRef_g (b : Nat) (inj : Bool) (f : Field) (x : Fld) : (f.otherRef b inj).g x = (f.put F.EXC_REF_ACTIVE (1 - b)).g x := by
  rw [otherRef, evt_eq, tell_at_g, tell_at_g]

theorem otherRef_exc (b : Nat) (inj : Bool) (f : Field) : (f.otherRef b inj).exc = f.exc := by
  rw [otherRef, evt_eq, tell_exc, tell_exc, put_exc]

theorem otherRef_out {b : Nat} {inj : Bool} {f : Field} {m : FMsg} (h : m ∈ f.out) : m ∈ (f.otherRef b inj).out :=
  List.mem_append_left _ (List.mem_append_left _ h)

/-- What a primary that is withdrawn leaves once the other reference has taken its place. -/
theorem replacesRef_shows (b cause : Nat) (inj : Bool) (f : Field) :
    ((f.withdrawsRef b cause true inj).otherRef b inj).g F.EXC_REF_ACTIVE = 1 - b ∧
      ((f.withdrawsRef b cause true inj).otherRef b inj).gb F.EXC_REF_SPARE_AVAIL = false ∧
      ((f.withdrawsRef b cause true inj).otherRef b inj).exc.retiredRef = some b ∧
      ((f.withdrawsRef b cause true inj).otherRef b inj).g F.EXC_REF_DIFF = f.g F.EXC_REF_DIFF := by
  refine ⟨?_, ?_, ?_, ?_⟩
  · rw [otherRef_g, g_put_same _ _ _ rfl]
    exact Nat.mod_eq_of_lt (Nat.lt_of_le_of_lt (Nat.sub_le ..) (by decide))
  · rw [gb_eq, otherRef_g, g_put_clear _ _ _ _ rfl rfl, ← gb_eq, withdrawsRef_noSpare]
  · rw [otherRef_exc, withdrawsRef_exc]
  · rw [otherRef_g, g_put_clear _ _ _ _ rfl rfl, withdrawsRef_g rfl]

/-- A primary at fault is withdrawn and the other reference takes its place; contexts and slices follow. -/
theorem retireRef_primary {b : Nat} (cause : Nat) (inj : Bool) (f : Field) (h : f.g F.EXC_REF_ACTIVE = b) :
    ∃ g v, f.retireRef b cause inj = tell (.refs v (some b)) g ∧ g.Unseen ((f.withdrawsRef b cause true inj).otherRef b inj) := by
  subst h
  simp only [retireRef, beq_self_eq_true, when_true]
  exact ⟨_, _, rfl, (unsettleRefs_unseen ..).trans (flags_unseen ..)⟩

theorem refsDiffer_g (diff : Nat) (f : Field) (x : Fld) : (f.refsDiffer diff).g x = (f.put F.EXC_REF_DIFF diff).g x := by
  rw [refsDiffer, tell_at_g, evt_eq, tell_at_g]

theorem refsDiffer_exc (diff : Nat) (f : Field) : (f.refsDiffer diff).exc = f.exc := by
  rw [refsDiffer, tell_exc, evt_eq, tell_exc, put_exc]

/-- A difference of the references leaves whether DIAG runs, and what is vetoed. -/
theorem refsDiffer_diagRuns (diff : Nat) (f : Field) : (f.refsDiffer diff).diagRuns = f.diagRuns := by
  rw [diagRuns, refsDiffer, tell_rolesDown, evt_eq, tell_rolesDown, put_rolesDown, ← diagRuns]

theorem refsDiffer_veto (diff : Nat) (f : Field) : (f.refsDiffer diff).veto = f.veto := by
  rw [refsDiffer, tell_veto, evt_eq, tell_veto, put_veto]

/-- The retirement of a reference is kept for the end of a veto. -/
def defersRef (b : Nat) (f : Field) : Field :=
  if f.deferred.contains (5, b) then f else tell (.defer 5 b true) { f with deferred := f.deferred ++ [(5, b)] }

theorem mem_defersRef (b : Nat) (f : Field) : (5, b) ∈ (f.defersRef b).deferred := by
  unfold defersRef
  split
  · next hc => exact List.contains_iff_mem.mp hc
  · exact List.mem_append_right _ (List.mem_singleton_self _)

theorem defersRef_img (b : Nat) (f : Field) : (f.defersRef b).img = f.img := by
  unfold defersRef
  split <;> rfl

theorem defersRef_exc (b : Nat) (f : Field) : (f.defersRef b).exc = f.exc := by
  unfold defersRef
  split <;> rfl

theorem refMismatch_eq {f : Field} (bad diff : Nat) (hs : f.gb F.EXC_REF_SPARE_AVAIL = true) (hd : f.diagRuns = true) :
    f.refMismatch bad diff =
      if nbit f.veto 5 then (f.refsDiffer diff).defersRef bad else (f.refsDiffer diff).retireRef bad 1 false := by
  have hruns : ¬(!(f.refsDiffer diff).diagRuns) = true := by simp [refsDiffer_diagRuns, hd]
  rw [← refsDiffer_veto diff f]
  exact (if_pos hs).trans (if_neg hruns)

/-! The blank line (R97, R99, R180). -/

/-- Does a designated terminal assert the blank line? -/
def anyDi (f : Field) : Bool := allTerms.any fun n => f.diBlanks n

theorem anyDi_of_diBlanks {f : Field} (n : Terminal) (h : f.diBlanks n = true) : f.anyDi = true :=
  List.any_eq_true.mpr ⟨n, List.mem_range.mpr n.isLt, h⟩

theorem anyDi_eq_false {f : Field} (h : ∀ n : Terminal, f.diBlanks n = false) : f.anyDi = false :=
  List.any_eq_false.mpr fun n hn => Bool.eq_false_iff.mp (h ⟨n, List.mem_range.mp hn⟩)

/-- What shows on the EXC page is no part of what a terminal asserts. -/
theorem OnExcPage.diBlanks {g f : Field} (a : g.OnExcPage f) (ht : g.terms = f.terms) (n : Nat) : g.diBlanks n = f.diBlanks n := by
  have hpage : (F.TERM_CELLSTAT_FUNC_ACT n).addr / 256 ≠ R.pageEXC := by
    simp only [F.TERM_CELLSTAT_FUNC_ACT, R.TERM_CELLSTAT, R.pageEXC]
    omega
  have hfunc : g.func n = f.func n := congrArg (wbits · _ _) (a.img _ hpage)
  simp only [Field.diBlanks, hfunc, cb, a.cfg, term, ht]

theorem diBlanks_put (f : Field) {x : Fld} (v : Nat) (hx : x.addr / 256 = R.pageEXC) (n : Nat) : (f.put x v).diBlanks n = f.diBlanks n :=
  (OnExcPage.put (.refl f) hx).diBlanks rfl n

theorem diBlanks_blankLevel_same (on : Bool) (n : Nat) (f : Field) :
    (f.blankLevel on n).diBlanks n = (f.func n == 1 && f.cb (F.TERM_DI_CFG_BLANK_SRC n) && on) := by
  have hfunc : (f.blankLevel on n).func n = f.func n := rfl
  have hcb (x : Fld) : (f.blankLevel on n).cb x = f.cb x := rfl
  have hraw : ((f.blankLevel on n).term n).di.raw = some (on != f.cb (F.TERM_DI_CFG_BLANK_POL n)) := by simp [blankLevel, modDi]
  rw [diBlanks, hfunc, hcb, hcb, hraw]
  cases on <;> cases f.cb (F.TERM_DI_CFG_BLANK_POL n) <;> simp

theorem diBlanks_blankLevel_other (on : Bool) {m n : Nat} (f : Field) (h : m ≠ n) : (f.blankLevel on n).diBlanks m = f.diBlanks m := by
  have hfunc : (f.blankLevel on n).func m = f.func m := rfl
  have hcb (x : Fld) : (f.blankLevel on n).cb x = f.cb x := rfl
  have hterm : (f.blankLevel on n).term m = f.term m := term_modTerm_other f _ h
  rw [diBlanks, hfunc, hcb, hcb, hterm, ← diBlanks]

/-- Terminals that release assert nothing, nor do those that asserted nothing. -/
theorem diBlanks_released (ns : List Nat) (m : Nat) (f : Field) (h : m ∈ ns ∨ f.diBlanks m = false) :
    (f.each ns (blankLevel false)).diBlanks m = false := by
  induction ns generalizing f with
  | nil => exact h.resolve_left List.not_mem_nil
  | cons n ns ih =>
    refine ih (f.blankLevel false n) ?_
    by_cases hm : m = n
    · subst hm
      exact .inr (by rw [diBlanks_blankLevel_same, Bool.and_false])
    · rw [diBlanks_blankLevel_other _ _ hm]
      exact h.imp_left fun hmem => (List.mem_cons.mp hmem).resolve_left hm

theorem pinBlanks_putDi (f : Field) (b : Bool) : (f.putb F.EXC_BLANK_STAT_DI b).pinBlanks = f.pinBlanks := by
  rw [pinBlanks, putb, gb_put_clear _ _ rfl rfl, put_at_cb, ← pinBlanks]

/-- The line follows its sources: DI shows those of terminals, and a change asserts or releases it. -/
theorem blankLine_eq (f : Field) :
    f.blankLine = if (f.anyDi || f.pinBlanks) == f.exc.line then f.putb F.EXC_BLANK_STAT_DI f.anyDi
      else if f.anyDi || f.pinBlanks then (f.putb F.EXC_BLANK_STAT_DI f.anyDi).blankAssert
      else (f.putb F.EXC_BLANK_STAT_DI f.anyDi).blankRelease := by
  rw [← pinBlanks_putDi f f.anyDi]
  rfl

/-- A line that asserts where no blanking goes on begins one, which is shown and counted. -/
theorem blankAssert_begins {f : Field} (he : f.exc.ended = false) (ha : f.gb F.EXC_BLANK_STAT_ACTIVE = false) :
    f.blankAssert.exc.line = true ∧ f.blankAssert.exc.guard = false ∧ f.blankAssert.gb F.EXC_BLANK_STAT_ACTIVE = true ∧
      f.blankAssert.g F.EXC_BLANK_STAT_COUNT = min (2 ^ F.EXC_BLANK_STAT_COUNT.len - 1) (f.g F.EXC_BLANK_STAT_COUNT + 1) ∧
      f.blankAssert.gb F.EXC_BLANK_STAT_PIN = f.gb F.EXC_BLANK_STAT_PIN ∧
      f.blankAssert.gb F.EXC_BLANK_STAT_DI = f.gb F.EXC_BLANK_STAT_DI := by
  have hactive : (({ f with exc := { f.exc with line := true, guard := false } } : Field).put F.EXC_BLANK_STAT_GUARD_ON 0).gb
      F.EXC_BLANK_STAT_ACTIVE = false := (gb_put_clear _ _ rfl rfl).trans ha
  have hbegins : f.blankAssert = ((((({ f with exc := { f.exc with line := true, guard := false } } : Field).put
      F.EXC_BLANK_STAT_GUARD_ON 0).put F.EXC_BLANK_STAT_ACTIVE 1).bump F.EXC_BLANK_STAT_COUNT).evt R.pageEXC 16) := by
    rw [blankAssert, if_neg]
    rw [put_exc, hactive, he]
    decide
  rw [hbegins]
  simp (disch := decide) only [evt_eq, tell_exc, bump_exc, put_exc, tell_at_g, tell_at_gb, g_bump_same, g_put_clear, g_exc, gb_bump_clear,
    gb_set, gb_put_clear, gb_exc, and_self]

/-- A line that releases has the guard time run, in which the blanking goes on. -/
theorem blankRelease_guards {f : Field} (hg : f.c F.EXC_BLANK_CFG_GUARD ≠ 0) :
    f.blankRelease.exc.line = false ∧ f.blankRelease.exc.guard = true ∧ f.blankRelease.gb F.EXC_BLANK_STAT_GUARD_ON = true ∧
      f.blankRelease.gb F.EXC_BLANK_STAT_ACTIVE = f.gb F.EXC_BLANK_STAT_ACTIVE ∧
      f.blankRelease.gb F.EXC_BLANK_STAT_DI = f.gb F.EXC_BLANK_STAT_DI := by
  have hguards : f.blankRelease =
      ({ f with exc := { f.exc with line := false, guard := true } } : Field).put F.EXC_BLANK_STAT_GUARD_ON 1 := if_neg hg
  rw [hguards]
  simp (disch := decide) only [put_exc, gb_set, gb_put_clear, gb_exc, and_self]

/-- The guard time ends the blanking that goes on. -/
theorem blankGuardEnd_ends {f : Field} (hg : f.exc.guard = true) (he : f.exc.ended = false) (ha : f.gb F.EXC_BLANK_STAT_ACTIVE = true) :
    f.blankGuardEnd = ((({ f with exc := { f.exc with guard := false } } : Field).put F.EXC_BLANK_STAT_GUARD_ON 0).put
      F.EXC_BLANK_STAT_ACTIVE 0).evt R.pageEXC 17 := by
  have hactive : (({ f with exc := { f.exc with guard := false } } : Field).put F.EXC_BLANK_STAT_GUARD_ON 0).gb
      F.EXC_BLANK_STAT_ACTIVE = true := (gb_put_clear _ _ rfl rfl).trans ha
  exact (if_pos hg).trans ((if_neg (Bool.eq_false_iff.mp he)).trans (if_pos hactive))

/-- A blanking that has lasted too long ends with STUCK. -/
def endsStuck (f : Field) : Field :=
  (((({ f with exc := { f.exc with ended := true } } : Field).put F.EXC_BLANK_STAT_ACTIVE 0).put F.EXC_BLANK_STAT_STUCK 1).evt
    R.pageEXC 17).evt R.pageEXC 18

theorem blankMaxlen_unseen {f : Field} (ha : f.gb F.EXC_BLANK_STAT_ACTIVE = true) (hm : f.c F.EXC_BLANK_MAX_MAXLEN ≠ 0) :
    f.blankMaxlen.Unseen f.endsStuck := by
  have hdue : (f.gb F.EXC_BLANK_STAT_ACTIVE && f.c F.EXC_BLANK_MAX_MAXLEN != 0) = true := by simp [ha, hm]
  rw [blankMaxlen, if_pos hdue]
  exact modSlices_unseen ..

/-- The line asserts as soon as one source does. -/
theorem blankLine_asserts {f : Field} (hon : (f.anyDi || f.pinBlanks) = true) (hl : f.exc.line = false) :
    f.blankLine = (f.putb F.EXC_BLANK_STAT_DI f.anyDi).blankAssert := by
  rw [blankLine_eq, hon, hl]
  rfl

/-- The line releases once no source asserts it. -/
theorem blankLine_releases {f : Field} (hoff : ∀ n : Terminal, f.diBlanks n = false) (hp : f.pinBlanks = false) (hl : f.exc.line = true) :
    f.blankLine = (f.putb F.EXC_BLANK_STAT_DI false).blankRelease := by
  rw [blankLine_eq, anyDi_eq_false hoff, hp, hl]
  rfl

theorem blankLine_cfg (f : Field) : f.blankLine.cfg = f.cfg := (OnExcPage.blankLine (.refl f)).cfg

theorem diBlanks_blankLine (f : Field) (n : Nat) : f.blankLine.diBlanks n = f.diBlanks n :=
  (OnExcPage.blankLine (.refl f)).diBlanks (congrArg OutputSide.terms (outputs_blankLine f)) n

/-- A source that asserts the line while no blanking goes on begins one. -/
theorem blankLine_begins {f : Field} (hon : (f.anyDi || f.pinBlanks) = true) (hl : f.exc.line = false) (he : f.exc.ended = false)
    (ha : f.gb F.EXC_BLANK_STAT_ACTIVE = false) :
    f.blankLine.exc.line = true ∧ f.blankLine.exc.guard = false ∧ f.blankLine.gb F.EXC_BLANK_STAT_ACTIVE = true ∧
      f.blankLine.g F.EXC_BLANK_STAT_COUNT = min (2 ^ F.EXC_BLANK_STAT_COUNT.len - 1) (f.g F.EXC_BLANK_STAT_COUNT + 1) ∧
      f.blankLine.gb F.EXC_BLANK_STAT_PIN = f.gb F.EXC_BLANK_STAT_PIN ∧ f.blankLine.gb F.EXC_BLANK_STAT_DI = f.anyDi := by
  have hactive : (f.putb F.EXC_BLANK_STAT_DI f.anyDi).gb F.EXC_BLANK_STAT_ACTIVE = false := (gb_put_clear _ _ rfl rfl).trans ha
  obtain ⟨hline, hguard, hbegun, hcount, hpin, hdi⟩ := blankAssert_begins (f := f.putb F.EXC_BLANK_STAT_DI f.anyDi) he hactive
  rw [blankLine_asserts hon hl]
  exact ⟨hline, hguard, hbegun, hcount.trans (by rw [putb, g_put_clear _ _ _ _ rfl rfl]), hpin.trans (gb_put_clear _ _ rfl rfl),
    hdi.trans (gb_putb_same _ _ rfl rfl)⟩

/-- Without a source that asserts it the line releases: the guard time runs, in which the blanking goes on. -/
theorem blankLine_guards {f : Field} (hoff : ∀ n : Terminal, f.diBlanks n = false) (hp : f.pinBlanks = false) (hl : f.exc.line = true)
    (hg : f.c F.EXC_BLANK_CFG_GUARD ≠ 0) :
    f.blankLine.exc.line = false ∧ f.blankLine.exc.guard = true ∧ f.blankLine.gb F.EXC_BLANK_STAT_GUARD_ON = true ∧
      f.blankLine.gb F.EXC_BLANK_STAT_ACTIVE = f.gb F.EXC_BLANK_STAT_ACTIVE ∧ f.blankLine.gb F.EXC_BLANK_STAT_DI = false := by
  obtain ⟨hline, hguard, hon, hactive, hdi⟩ := blankRelease_guards (f := f.putb F.EXC_BLANK_STAT_DI false) hg
  rw [blankLine_releases hoff hp hl]
  exact ⟨hline, hguard, hon, hactive.trans (gb_put_clear _ _ rfl rfl), hdi.trans (gb_putb_same _ _ rfl rfl)⟩

/-- The pin asserts the line where PIN_EN feeds it in. -/
theorem pinBlanks_shown {f : Field} (h : f.cb F.EXC_BLANK_CFG_PIN_EN = true) : (f.put F.EXC_BLANK_STAT_PIN 1).pinBlanks = true := by
  rw [pinBlanks, gb_set _ rfl rfl, put_at_cb, h, Bool.and_self]

theorem pinBlanks_released (f : Field) : (f.put F.EXC_BLANK_STAT_PIN 0).pinBlanks = false := by
  rw [pinBlanks, gb_cleared _ rfl, Bool.false_and]

/-- Where the line has one kind of source, the pin or terminals, that source releases and nothing asserts the line any more. -/
theorem blankOff_eq {f : Field} (h : f.pinBlanks = true → ∀ n : Terminal, f.diBlanks n = false) :
    ∃ u : Field, f.blankOff = u.blankLine ∧ (∀ n : Terminal, u.diBlanks n = false) ∧ u.pinBlanks = false ∧ u.exc = f.exc ∧ u.cfg = f.cfg ∧
      u.gb F.EXC_BLANK_STAT_ACTIVE = f.gb F.EXC_BLANK_STAT_ACTIVE := by
  by_cases hpin : (f.pinBlanks || (allTerms.filter fun n => f.diBlanks n) == []) = true
  · refine ⟨f.put F.EXC_BLANK_STAT_PIN 0, if_pos hpin, fun n => ?_, f.pinBlanks_released, rfl, rfl, gb_put_clear _ _ rfl rfl⟩
    rw [diBlanks_put _ _ rfl]
    rcases Bool.or_eq_true_iff.mp hpin with hp | hnone
    · exact h hp n
    · exact Bool.eq_false_iff.mpr (List.filter_eq_nil_iff.mp (beq_iff_eq.mp hnone) n (List.mem_range.mpr n.isLt))
  · have hlevels := f.blankLevels_unseen false (allTerms.filter fun n => f.diBlanks n)
    refine ⟨_, if_neg hpin, fun n => diBlanks_released _ n f ?_, ?_, hlevels.exc, hlevels.cfg, hlevels.gb _⟩
    · cases hn : f.diBlanks n
      · exact .inr rfl
      · exact .inl (List.mem_filter.mpr ⟨List.mem_range.mpr n.isLt, hn⟩)
    · rw [pinBlanks, hlevels.gb, cb, hlevels.cfg, ← cb, ← pinBlanks]
      exact (Bool.or_eq_false_iff.mp (Bool.eq_false_iff.mpr hpin)).1

/-- With a terminal that asserts the line, a release of the pin leaves it. -/
theorem blankOff_stays {f : Field} (n : Terminal) (hl : f.exc.line = true) (hp : f.pinBlanks = true) (hn : f.diBlanks n = true) :
    f.blankOff = (f.put F.EXC_BLANK_STAT_PIN 0).putb F.EXC_BLANK_STAT_DI true := by
  have hdi : (f.put F.EXC_BLANK_STAT_PIN 0).anyDi = true := anyDi_of_diBlanks n ((diBlanks_put _ _ rfl _).trans hn)
  have hoff : f.blankOff = (f.put F.EXC_BLANK_STAT_PIN 0).blankLine := if_pos (by rw [hp, Bool.true_or])
  rw [hoff, blankLine_eq, hdi, put_exc, hl]
  rfl

end Field

@[simp] theorem drain_fd_at_diBlanks (s : State) (n : Nat) : (drain s).fd.diBlanks n = s.fd.diBlanks n := by
  simp only [Field.diBlanks, drain_fd_at_func, drain_fd_at_cb, drain_fd_at_term]

/-! The commands. -/

section
variable {s : State} (hup : s.up)
include hup

theorem extrefBad_shows (hok : s.fd.gb F.EXC_REF_EXT_OK = true) :
    Answers (exec .extrefBad s) fun t => t.fd.gb F.EXC_REF_EXT_OK = false ∧ t.ld.gb ⟨R.EVT_RAW R.pageEXC, 13, 1⟩ = true ∧
      t.fd.cfg = s.fd.cfg := by
  refine exec_of_runField hup (h := Field.extBad false) rfl ?_
  have hunseen : (s.fd.extBad false).Unseen ((s.fd.put F.EXC_REF_EXT_OK 0).evt R.pageEXC 13) := by
    rw [Field.extBad, if_pos hok]
    exact Field.unsettleRefs_unseen ..
  have htells := hunseen.tells (Field.tells_evt (f := s.fd.put F.EXC_REF_EXT_OK 0) hup.2.2 R.pageEXC (bit := 13) (by decide) false)
  simp only [drain_fd_at_gb, drain_fd_cfg]
  exact ⟨(hunseen.gb _).trans (s.fd.gb_cleared rfl), htells.drain hup.2.1 (by decide), hunseen.cfg⟩

theorem extrefOk_shows :
    Answers (exec .extrefOk s) fun t => t.fd = { s.fd with img := F.EXC_REF_EXT_OK.set 1 s.fd.img } := by
  refine exec_of_runField hup (h := Field.put F.EXC_REF_EXT_OK 1) rfl ?_
  exact drain_fd_of_waits (s := { s with fd := s.fd.put F.EXC_REF_EXT_OK 1 }) hup.2.1 hup.2.2

theorem refSettled_restarts (sl : Slice) (hok : s.fd.gb F.EXC_REF_EXT_OK = true) (hs : (s.fd.slice sl).refSettled = false) :
    Answers (exec (.refSettled sl) s) fun t => t.fd.slice sl = { s.fd.slice sl with
        refSettled := true, restartRef := !(s.fd.slice sl).blanked, broken := (s.fd.slice sl).broken || (s.fd.slice sl).blanked } ∧
      t.fd.cfg = s.fd.cfg := by
  refine exec_of_runField hup (h := Field.refSettle sl) rfl ?_
  have hsettles : s.fd.refSettle sl = s.fd.modSlice sl fun r =>
      { r with refSettled := true, restartRef := !r.blanked, broken := r.broken || r.blanked } := by
    refine if_neg ?_
    rw [hs, hok]
    cases s.fd.facing sl <;> simp
  simp only [drain_fd_at_slice, drain_fd_cfg, hsettles]
  exact ⟨Field.slice_modSlice_same .., rfl⟩

theorem refMismatch_replaces (bad : Fin 2) (diff : Fin 65536) (hs : s.fd.gb F.EXC_REF_SPARE_AVAIL = true) (hd : s.fd.diagRuns = true)
    (hv : nbit s.fd.veto 5 = false) (ha : s.fd.g F.EXC_REF_ACTIVE = bad) :
    Answers (exec (.refMismatch bad diff) s) fun t => t.fd.g F.EXC_REF_ACTIVE = 1 - bad.val ∧ t.fd.gb F.EXC_REF_SPARE_AVAIL = false ∧
      t.fd.exc.retiredRef = some bad.val ∧ t.fd.g F.EXC_REF_DIFF = diff ∧ t.ld.isRetired 5 bad = true := by
  refine exec_of_runField hup (h := Field.refMismatch bad diff) rfl ?_
  have hactive : (s.fd.refsDiffer diff).g F.EXC_REF_ACTIVE = bad := by
    rw [Field.refsDiffer_g, Field.g_put_clear _ _ _ _ rfl rfl, ha]
  obtain ⟨g, v, hg, hunseen⟩ := Field.retireRef_primary 1 false (s.fd.refsDiffer diff) hactive
  have hret : s.fd.refMismatch bad diff = g.tell (.refs v (some bad.val)) := by
    rw [Field.refMismatch_eq _ _ hs hd, if_neg (Bool.eq_false_iff.mp hv), hg]
  obtain ⟨hother, hspare, hretired, hdiff⟩ := Field.replacesRef_shows bad 1 false (s.fd.refsDiffer diff)
  have hmem : .retire 5 bad.val 1 false false ∈ (s.fd.refMismatch bad diff).out := by
    rw [hret, Field.tell, hunseen.out]
    exact List.mem_append_left _ (Field.otherRef_out (Field.withdrawsRef_out ..))
  have hshown : (s.fd.refsDiffer diff).g F.EXC_REF_DIFF = diff := by
    rw [Field.refsDiffer_g, Field.g_put_same _ _ _ rfl]
    exact Nat.mod_eq_of_lt diff.isLt
  simp only [drain_fd_at_g, drain_fd_at_gb, drain_fd_exc, hret, Field.tell_at_g, Field.tell_at_gb, Field.tell_exc, hunseen.g, hunseen.gb,
    hunseen.exc, hother, hspare, hretired, hdiff, hshown, true_and]
  exact hret ▸ drain_isRetired { s with fd := s.fd.refMismatch bad diff } hup.2.1 hmem

theorem refMismatch_deferred (bad : Fin 2) (diff : Fin 65536) (hs : s.fd.gb F.EXC_REF_SPARE_AVAIL = true) (hd : s.fd.diagRuns = true)
    (hv : nbit s.fd.veto 5 = true) :
    Answers (exec (.refMismatch bad diff) s) fun t => (5, bad.val) ∈ t.fd.deferred ∧
      t.fd.g F.EXC_REF_ACTIVE = s.fd.g F.EXC_REF_ACTIVE ∧ t.fd.exc.retiredRef = s.fd.exc.retiredRef := by
  refine exec_of_runField hup (h := Field.refMismatch bad diff) rfl ?_
  have hdefers : s.fd.refMismatch bad diff = (s.fd.refsDiffer diff).defersRef bad := by rw [Field.refMismatch_eq _ _ hs hd, if_pos hv]
  have hactive : ((s.fd.refsDiffer diff).defersRef bad).g F.EXC_REF_ACTIVE = s.fd.g F.EXC_REF_ACTIVE := by
    rw [Field.g, Field.defersRef_img, ← Field.g, Field.refsDiffer_g, Field.g_put_clear _ _ _ _ rfl rfl]
  simp only [drain_fd_deferred, drain_fd_at_g, drain_fd_exc, hdefers, hactive, Field.defersRef_exc, Field.refsDiffer_exc, and_true]
  exact Field.mem_defersRef ..

theorem blankLineAssert_begins {src : Option Terminal} (hpin : src = none → s.fd.cb F.EXC_BLANK_CFG_PIN_EN = true)
    (hterm : ∀ n, src = some n → s.fd.func n = 1 ∧ s.fd.cb (F.TERM_DI_CFG_BLANK_SRC n) = true) (hl : s.fd.exc.line = false)
    (he : s.fd.exc.ended = false) (ha : s.fd.gb F.EXC_BLANK_STAT_ACTIVE = false) :
    Answers (exec (.blankLineAssert src) s) fun t => t.fd.exc.line = true ∧ t.fd.exc.guard = false ∧
      t.fd.gb F.EXC_BLANK_STAT_ACTIVE = true ∧
      t.fd.g F.EXC_BLANK_STAT_COUNT = min (2 ^ F.EXC_BLANK_STAT_COUNT.len - 1) (s.fd.g F.EXC_BLANK_STAT_COUNT + 1) ∧
      (src = none → t.fd.gb F.EXC_BLANK_STAT_PIN = true) ∧ (src ≠ none → t.fd.gb F.EXC_BLANK_STAT_DI = true) ∧ t.fd.cfg = s.fd.cfg := by
  refine exec_of_runField hup (h := Field.blankOn (src.map Fin.val)) rfl ?_
  simp only [drain_fd_exc, drain_fd_at_g, drain_fd_at_gb, drain_fd_cfg]
  cases src with
  | none =>
    have hon : ((s.fd.put F.EXC_BLANK_STAT_PIN 1).anyDi || (s.fd.put F.EXC_BLANK_STAT_PIN 1).pinBlanks) = true := by
      rw [Field.pinBlanks_shown (hpin rfl), Bool.or_true]
    obtain ⟨hline, hguard, hbegun, hcount, hshown, -⟩ := Field.blankLine_begins hon hl he ((Field.gb_put_clear _ _ rfl rfl).trans ha)
    exact ⟨hline, hguard, hbegun, hcount.trans (by rw [Field.g_put_clear _ _ _ _ rfl rfl]), fun _ => hshown.trans (s.fd.gb_set rfl rfl),
      fun h => absurd rfl h, Field.blankLine_cfg _⟩
  | some n =>
    obtain ⟨hfunc, hsrc⟩ := hterm n rfl
    have hdi : (s.fd.blankLevel true n).anyDi = true :=
      Field.anyDi_of_diBlanks n (by rw [Field.diBlanks_blankLevel_same, hfunc, hsrc]; rfl)
    have hunseen := s.fd.blankLevel_unseen true n
    obtain ⟨hline, hguard, hbegun, hcount, -, hshown⟩ :=
      Field.blankLine_begins (f := s.fd.blankLevel true n) (by rw [hdi, Bool.true_or]) hl he ((hunseen.gb _).trans ha)
    exact ⟨hline, hguard, hbegun, hcount.trans (by rw [hunseen.g]), fun h => absurd h (Option.some_ne_none n),
      fun _ => hshown.trans hdi, Field.blankLine_cfg _⟩

theorem blankLineRelease_guards (hl : s.fd.exc.line = true) (hg : s.fd.c F.EXC_BLANK_CFG_GUARD ≠ 0)
    (hone : s.fd.pinBlanks = true → ∀ m : Terminal, s.fd.diBlanks m = false) :
    Answers (exec .blankLineRelease s) fun t => t.fd.exc.line = false ∧ t.fd.exc.guard = true ∧
      t.fd.gb F.EXC_BLANK_STAT_GUARD_ON = true ∧ t.fd.gb F.EXC_BLANK_STAT_ACTIVE = s.fd.gb F.EXC_BLANK_STAT_ACTIVE ∧
      t.fd.gb F.EXC_BLANK_STAT_DI = false ∧ ∀ m : Terminal, t.fd.diBlanks m = false := by
  refine exec_of_runField hup (h := Field.blankOff) rfl ?_
  obtain ⟨u, hu, hoff, hp, hexc, hcfg, hactive⟩ := Field.blankOff_eq hone
  obtain ⟨hline, hguard, hon, hgoes, hdi⟩ := Field.blankLine_guards hoff hp (hexc ▸ hl) (by rwa [Field.c, hcfg])
  simp only [drain_fd_exc, drain_fd_at_gb, drain_fd_at_diBlanks, hu, Field.diBlanks_blankLine]
  exact ⟨hline, hguard, hon, hgoes.trans hactive, hdi, hoff⟩

theorem blankLineRelease_stays (m : Terminal) (hl : s.fd.exc.line = true) (hp : s.fd.pinBlanks = true) (hm : s.fd.diBlanks m = true) :
    Answers (exec .blankLineRelease s) fun t => t.fd.exc.line = true ∧
      t.fd.gb F.EXC_BLANK_STAT_ACTIVE = s.fd.gb F.EXC_BLANK_STAT_ACTIVE ∧ t.fd.gb F.EXC_BLANK_STAT_DI = true ∧
      t.fd.gb F.EXC_BLANK_STAT_PIN = false := by
  refine exec_of_runField hup (h := Field.blankOff) rfl ?_
  simp (disch := decide) only [drain_fd_exc, drain_fd_at_gb, Field.blankOff_stays m hl hp hm, Field.putb_eq, Field.put_exc,
    Field.gb_put_clear, Field.gb_cleared, hl, and_true, true_and]
  exact Field.gb_putb_same _ true rfl rfl

theorem blankGuardExpiry_ends (hg : s.fd.exc.guard = true) (he : s.fd.exc.ended = false)
    (ha : s.fd.gb F.EXC_BLANK_STAT_ACTIVE = true) :
    Answers (exec .blankGuardExpiry s) fun t => t.fd.exc.guard = false ∧ t.fd.gb F.EXC_BLANK_STAT_ACTIVE = false ∧
      t.ld.gb ⟨R.EVT_RAW R.pageEXC, 17, 1⟩ = true := by
  refine exec_of_runField hup (h := Field.blankGuardEnd) rfl ?_
  have hends := Field.blankGuardEnd_ends hg he ha
  have htells : s.fd.blankGuardEnd.Tells R.pageEXC 17 := by
    rw [hends]
    exact Field.tells_evt (by simpa using hup.2.2) R.pageEXC (by decide) false
  refine ⟨?_, ?_, htells.drain hup.2.1 (by decide)⟩
  · rw [drain_fd_exc, hends]
    rfl
  · rw [drain_fd_at_gb, hends, Field.gb_evt, Field.gb_cleared _ rfl]

theorem blankMaxlenExpiry_ends (ha : s.fd.gb F.EXC_BLANK_STAT_ACTIVE = true) (hm : s.fd.c F.EXC_BLANK_MAX_MAXLEN ≠ 0) :
    Answers (exec .blankMaxlenExpiry s) fun t => t.fd.gb F.EXC_BLANK_STAT_ACTIVE = false ∧ t.fd.gb F.EXC_BLANK_STAT_STUCK = true ∧
      t.fd.exc.ended = true ∧ t.ld.gb ⟨R.EVT_RAW R.pageEXC, 18, 1⟩ = true := by
  refine exec_of_runField hup (h := Field.blankMaxlen) rfl ?_
  have hunseen := Field.blankMaxlen_unseen ha hm
  have hended : s.fd.endsStuck.Tells R.pageEXC 18 :=
    (Field.tells_evt (by simpa using hup.2.2) R.pageEXC (bit := 17) (by decide) false).evt_next R.pageEXC (by decide)
  simp (disch := decide) only [drain_fd_exc, drain_fd_at_gb, hunseen.gb, hunseen.exc, Field.endsStuck, Field.gb_evt, Field.gb_put_clear,
    Field.gb_set, Field.gb_cleared, true_and]
  exact ⟨rfl, (hunseen.tells hended).drain hup.2.1 (by decide)⟩

end

/-- Settles O29: a clause for each command, and one more where a veto defers a reference's retirement and where a terminal holds the line. -/
theorem referenceBlankRows : Obligations.ReferenceBlankRows := by
  unfold Obligations.ReferenceBlankRows
  refine ⟨fun _ hup hok => extrefBad_shows hup hok, fun _ hup => extrefOk_shows hup, fun _ sl hup hok hs => refSettled_restarts hup sl hok hs,
    fun _ bad diff hup hs hd hv ha _ => refMismatch_replaces hup bad diff hs hd hv ha,
    fun _ bad diff hup hs hd hv => refMismatch_deferred hup bad diff hs hd hv, ?_,
    fun _ hup hl hg hone => blankLineRelease_guards hup hl hg hone, fun _ m hup hl hp hm => blankLineRelease_stays hup m hl hp hm,
    fun _ hup hg he ha => blankGuardExpiry_ends hup hg he ha, fun _ hup ha hm => blankMaxlenExpiry_ends hup ha hm⟩
  intro s src hup hsrc hl he ha
  refine blankLineAssert_begins hup ?_ ?_ hl he ha
  · rintro rfl
    exact hsrc
  · rintro n rfl
    exact hsrc

end Sys2Proof.Machine
end

section
/-! Two statements of the measurement slices that fail: a trigger does not act on a group that is not armed, so SYNCOUT stays as it was
(R105); and a settled sample under an open gate reads over-range, whatever its calibrated code (R75). -/

namespace Sys2Proof.Machine

open Sys2Proof

/-- A device with the link up, none of whose groups is armed, and a trigger on its way to group 0. -/
def triggersDisarmedGroup : State :=
  { ld := { linkUp := true }, fd := { released := true, trigs := [{ stamp := 0, groups := 1 }] } }

/-- The trigger is used up without a pulse on SYNCOUT. -/
theorem trigger_triggersDisarmedGroup_syncout : (triggersDisarmedGroup.fd.trigger 0).syncout = none := by decide

/-- Refutes O37: in its first clause SYNCOUT pulses for a trigger of group 0 though the group may not be armed, and then the trigger does not
act on it (R105). -/
theorem not_sliceRows : ¬ Obligations.SliceRows := by
  unfold Obligations.SliceRows
  rintro ⟨htrigger, -⟩
  obtain ⟨t, ht, -, hsync, -⟩ := htrigger triggersDisarmedGroup 0 _ [] ⟨rfl, rfl, rfl⟩ rfl
  obtain rfl : drain { triggersDisarmedGroup with fd := triggersDisarmedGroup.fd.trigger 0 } = t :=
    Host.Outcome.next.inj ((runField_up (Field.trigger 0) triggersDisarmedGroup rfl rfl).symm.trans ht)
  have hpulse := hsync (by decide)
  rw [drain_fd_syncout, trigger_triggersDisarmedGroup_syncout] at hpulse
  exact Option.some_ne_none _ hpulse.symm

/-- A code that has to read over-range does (R75). -/
theorem Field.overRange_overCode (x : Int) (f : Field) : overRange (f.overCode true x).1 = true := by
  unfold Field.overCode
  split
  · refine decide_eq_true ?_
    simp only [fullScale]
    split <;> omega
  · next h => simpa using h

/-- A field die with a settled sample of context 0 on its way out of slice 0, taken while a terminal that the context senses had its gate
open; nothing is calibrated, and the window is empty. -/
def samplesUnderOpenGate : Field :=
  ({ released := true } : Field).modSlice 0 fun r => { r with outs := [{ ctx := 0, x := 0, forced := true }] }

/-- The whole device with that field die and the link up. -/
def deviceSamplesUnderOpenGate : State := { ld := { linkUp := true }, fd := samplesUnderOpenGate }

/-- The sample's calibrated code is 0, and so is the sum of its window. -/
theorem samplesUnderOpenGate_codes :
    samplesUnderOpenGate.calCode 0 (samplesUnderOpenGate.calExact 0 0 0) = 0 ∧ (samplesUnderOpenGate.ctx 0).win.sum = 0 := by decide

/-- What enters the sum is the code that the open gate makes of it. -/
theorem settled_samplesUnderOpenGate_sum :
    ((samplesUnderOpenGate.settled 0).ctx 0).win.sum = 0 + (samplesUnderOpenGate.overCode true 0).1 := rfl

/-- Refutes O38: in its second clause a settled sample enters its window's sum with its calibrated code, but one taken while a terminal that
its context senses had its gate open enters with a code that reads over-range (R75). -/
theorem not_sampleRows : ¬ Obligations.SampleRows := by
  unfold Obligations.SampleRows
  rintro ⟨-, hsettled, -⟩
  obtain ⟨t, ht, -, -, hsum, -⟩ := hsettled deviceSamplesUnderOpenGate 0 0 { ctx := 0, x := 0, forced := true } [] ⟨rfl, rfl, rfl⟩ (by decide)
    (by decide) (by decide) (by decide) (by decide) (by decide) (by decide)
  obtain rfl : drain { deviceSamplesUnderOpenGate with fd := samplesUnderOpenGate.settled 0 } = t :=
    Host.Outcome.next.inj ((runField_up (Field.settled 0) deviceSamplesUnderOpenGate rfl rfl).symm.trans ht)
  obtain ⟨hcode, hempty⟩ := samplesUnderOpenGate_codes
  rw [drain_fd_at_ctx] at hsum
  have hzero : (samplesUnderOpenGate.overCode true 0).1 = 0 :=
    Int.add_left_cancel (settled_samplesUnderOpenGate_sum.symm.trans (hsum.trans (congrArg₂ (· + ·) hempty hcode)))
  have hover := samplesUnderOpenGate.overRange_overCode 0
  rw [hzero] at hover
  exact absurd hover (by decide)

end Sys2Proof.Machine
end

section
/-! Digital inputs, command by command: a sample, a change of the debounced state, the chatter interval and the stuck watch (R171, R173, R174,
R175, R176, R177). -/

namespace Sys2Proof.Machine

open Sys2Proof

/-- Does a field stand at another offset of its page than DISTAT (R183)? -/
def Fld.offDistat (y : Fld) : Bool := y.addr % 256 != 0x24

/-- The registers of the counts do. -/
theorem offDistat_counts (n : Nat) : (F.TERM_DI_CNT_CNT n).offDistat = true ∧ (F.TERM_DI_CNT_LAST_T_LAST_T n).offDistat = true ∧
    (F.TERM_DI_CNT_WRAPS_WRAPS n).offDistat = true ∧ (F.TERM_DI_CHAT_COUNT n).offDistat = true := by
  simp [Fld.offDistat, F.TERM_DI_CNT_CNT, F.TERM_DI_CNT_LAST_T_LAST_T, F.TERM_DI_CNT_WRAPS_WRAPS, F.TERM_DI_CHAT_COUNT, R.TERM_DI_CNT,
    R.TERM_DI_CNT_LAST_T, R.TERM_DI_CNT_WRAPS, R.TERM_DI_CHAT]

/-- Bits of one register share none. -/
theorem Fld.clear_of_bits {a i j : Nat} (h : i ≠ j) : (Fld.mk a i 1).clear ⟨a, j, 1⟩ = true := by
  simp only [Fld.clear, Bool.or_eq_true, decide_eq_true_eq]
  omega

/-- A sample's level is taken; a DI_TIME written takes effect and starts the run of samples again (R175). -/
def DiRun.takes (w : Word) (level : Bool) (d : DiRun) : DiRun :=
  { if d.time = w && !d.again then d else { d with time := w, run := 0, again := false } with raw := some level }

theorem DiRun.takes_time (w : Word) (level : Bool) (d : DiRun) : (d.takes w level).time = w := by
  unfold takes
  dsimp only
  split
  · next h => exact of_decide_eq_true (Bool.and_eq_true_iff.mp h).1
  · rfl

/-- Without one the run goes on. -/
theorem DiRun.takes_run {w : Word} (level : Bool) {d : DiRun} (hw : d.time = w) (ha : d.again = false) : (d.takes w level).run = d.run := by
  simp [takes, hw, ha]

namespace Field

/-! The run state of a digital input, and DISTAT. -/

section
variable {n : Nat}

@[simp] theorem di_modDi (f : Field) (h : DiRun → DiRun) : ((f.modDi n h).term n).di = h (f.term n).di :=
  congrArg TermRun.di (term_modTerm_same ..)

@[simp] theorem img_modDi (f : Field) (h : DiRun → DiRun) : (f.modDi n h).img = f.img := rfl

@[simp] theorem cfg_modDi (f : Field) (h : DiRun → DiRun) : (f.modDi n h).cfg = f.cfg := rfl

@[simp] theorem draws_modDi (f : Field) (h : DiRun → DiRun) : (f.modDi n h).draws = f.draws := rfl

/-- A field of a register that reads the same. -/
theorem gb_of_word {g f : Field} {x : Fld} (h : g.img.word x.addr = f.img.word x.addr) : g.gb x = f.gb x := congrArg (wbits · _ _ != 0) h

/-- Another register is written. -/
theorem distat_put (f : Field) (y : Fld) (v : Nat) (h : y.offDistat = true) :
    (f.put y v).img.word (R.TERM_DISTAT n) = f.img.word (R.TERM_DISTAT n) := by
  refine Fld.word_set_other y v f.img fun he => bne_iff_ne.mp h ?_
  have hoff := congrArg (· % 256) he
  simp only [regHome_mod, R.TERM_DISTAT] at hoff
  omega

theorem distat_bump (f : Field) (y : Fld) (h : y.offDistat = true) :
    (f.bump y).img.word (R.TERM_DISTAT n) = f.img.word (R.TERM_DISTAT n) := distat_put f y _ h

/-- The blank line shows on the EXC page alone (R97). -/
theorem distat_blankLine (f : Field) : f.blankLine.img.word (R.TERM_DISTAT n) = f.img.word (R.TERM_DISTAT n) :=
  (OnExcPage.blankLine (.refl f)).img _ (by simp only [R.TERM_DISTAT, R.pageEXC]; omega)

theorem term_blankLine (f : Field) (k : Nat) : f.blankLine.term k = f.term k :=
  (Within.blankLine (.refl excPage f) (excPage_page.mpr rfl)).term k List.not_mem_nil

end

/-! The counts of edges and of rejected transitions leave the state and its run of samples (R176, R178). -/

/-- An edge is counted and stamped. -/
def diCounts (n : Nat) (f : Field) : Field :=
  ((f.modDi n fun d => { d with edgeAt := some f.time }).put (F.TERM_DI_CNT_CNT n) ((f.g (F.TERM_DI_CNT_CNT n) + 1) % 2 ^ 32)).put
    (F.TERM_DI_CNT_LAST_T_LAST_T n) (f.time % 2 ^ 32)

/-- What a count of edges leaves of a field die. -/
structure Counted (n : Nat) (g f : Field) : Prop where
  cfg : g.cfg = f.cfg
  distat : g.img.word (R.TERM_DISTAT n) = f.img.word (R.TERM_DISTAT n)
  di : ∃ e, (g.term n).di = { (f.term n).di with edgeAt := e }
  draws : g.draws = f.draws

section
variable (n : Nat) (f : Field)

theorem diCounts_counted : (f.diCounts n).Counted n f := by
  obtain ⟨hcnt, hstamp, -, -⟩ := offDistat_counts n
  refine ⟨?_, ?_, ⟨some f.time, ?_⟩, ?_⟩
  · rw [diCounts, put_cfg, put_cfg, cfg_modDi]
  · rw [diCounts, distat_put _ _ _ hstamp, distat_put _ _ _ hcnt, img_modDi]
  · rw [diCounts, put_at_term, put_at_term, di_modDi]
  · rw [diCounts, put_draws, put_draws, draws_modDi]

theorem diCount_counted (on : Bool) : (f.diCount n on).Counted n f := by
  have hcounts := f.diCounts_counted n
  have hcase : f.diCount n on = f ∨ f.diCount n on = f.diCounts n ∨
      f.diCount n on = ((f.diCounts n).bump (F.TERM_DI_CNT_WRAPS_WRAPS n)).evt (R.pageTERM n) 8 :=
    (ite_eq_or_eq _ _ _).symm.imp id fun h => (ite_eq_or_eq _ _ _).symm.imp h.trans h.trans
  obtain h | h | h := hcase
  · rw [h]
    exact ⟨rfl, rfl, ⟨_, rfl⟩, rfl⟩
  · rw [h]
    exact hcounts
  · obtain ⟨-, -, hwraps, -⟩ := offDistat_counts n
    rw [h, evt_eq]
    refine ⟨?_, ?_, ?_, ?_⟩
    · rw [tell_cfg, bump_cfg, hcounts.cfg]
    · rw [tell_img, distat_bump _ _ hwraps, hcounts.distat]
    · rw [tell_at_term, bump_at_term]
      exact hcounts.di
    · rw [tell_draws, bump_draws, hcounts.draws]

theorem distat_diReject : (f.diReject n).img.word (R.TERM_DISTAT n) = f.img.word (R.TERM_DISTAT n) := by
  obtain ⟨-, -, -, hcount⟩ := offDistat_counts n
  rw [diReject, img_modDi, distat_bump _ _ hcount]

theorem di_diReject : ((f.diReject n).term n).di = { (f.term n).di with iv := (f.term n).di.iv + 1 } := by
  rw [diReject, di_modDi, bump_at_term]

/-! A change of the debounced state (R175). -/

/-- The run of samples starts again, from now. -/
def diRestarts : Field := f.modDi n fun d => { d with run := 0, since := f.time }

/-- A state turns over with its event, before the edge counts. -/
def diTurns : Field :=
  (((f.diRestarts n).putb (F.TERM_DISTAT_STATE n) !f.gb (F.TERM_DISTAT_STATE n)).put (F.TERM_DISTAT_STUCK n) 0).evt (R.pageTERM n)
    (if !f.gb (F.TERM_DISTAT_STATE n) then 4 else 5)

/-- The first state comes to stand, without an event. -/
def diStands : Field := ((f.diRestarts n).put (F.TERM_DISTAT_VALID n) 1).putb (F.TERM_DISTAT_STATE n) (f.term n).di.cand

theorem diChange_eq : f.diChange n =
    if f.gb (F.TERM_DISTAT_VALID n) then (f.diTurns n).diCount n !f.gb (F.TERM_DISTAT_STATE n) else f.diStands n := rfl

/-- Either leaves the configuration and the free values, and starts the run of samples again. -/
theorem diTurns_kept : (f.diTurns n).cfg = f.cfg ∧ (f.diTurns n).draws = f.draws ∧
    ((f.diTurns n).term n).di = { (f.term n).di with run := 0, since := f.time } := by
  simp only [diTurns, diRestarts, putb, evt_eq, tell_cfg, tell_draws, tell_at_term, put_cfg, put_draws, put_at_term, cfg_modDi, draws_modDi,
    di_modDi, and_self]

theorem diStands_kept : (f.diStands n).cfg = f.cfg ∧ (f.diStands n).draws = f.draws ∧
    ((f.diStands n).term n).di = { (f.term n).di with run := 0, since := f.time } := by
  simp only [diStands, diRestarts, putb, put_cfg, put_draws, put_at_term, cfg_modDi, draws_modDi, di_modDi, and_self]

variable {n f}

theorem diChange_of_valid (hv : f.gb (F.TERM_DISTAT_VALID n) = true) :
    f.diChange n = (f.diTurns n).diCount n !f.gb (F.TERM_DISTAT_STATE n) := if_pos hv

/-- A valid state turns over, clears STUCK, and starts the run again. -/
theorem diChange_turns (hv : f.gb (F.TERM_DISTAT_VALID n) = true) :
    (f.diChange n).gb (F.TERM_DISTAT_STATE n) = !f.gb (F.TERM_DISTAT_STATE n) ∧ (f.diChange n).gb (F.TERM_DISTAT_STUCK n) = false ∧
      ((f.diChange n).term n).di.run = 0 ∧ ((f.diChange n).term n).di.since = f.time := by
  have hcounted := (f.diTurns n).diCount_counted n !f.gb (F.TERM_DISTAT_STATE n)
  obtain ⟨e, hedge⟩ := hcounted.di
  obtain ⟨-, -, hdi⟩ := f.diTurns_kept n
  rw [diChange_of_valid hv, gb_of_word (x := F.TERM_DISTAT_STATE n) hcounted.distat, gb_of_word (x := F.TERM_DISTAT_STUCK n) hcounted.distat,
    hedge, hdi, diTurns, evt_eq, tell_at_gb, tell_at_gb]
  exact ⟨(gb_put_clear _ _ rfl (Fld.clear_of_bits (by decide))).trans (gb_putb_same _ _ rfl rfl), gb_cleared _ rfl, rfl, rfl⟩

/-- It tells event 4 or 5 of the terminal. -/
theorem diChange_out (hv : f.gb (F.TERM_DISTAT_VALID n) = true) (hn : n < 32) :
    .evt (R.pageTERM n) (if f.gb (F.TERM_DISTAT_STATE n) then 5 else 4) 0 false false ∈ (f.diChange n).out := by
  have hreach : (f.diChange n).Within { terms := [n] } (f.diTurns n) := by
    rw [diChange_of_valid hv]
    exact .diCount (.refl ..) ⟨hn, List.mem_singleton_self n⟩
  have hbit : (if f.gb (F.TERM_DISTAT_STATE n) then 5 else 4) = if !f.gb (F.TERM_DISTAT_STATE n) then 4 else 5 := by
    cases f.gb (F.TERM_DISTAT_STATE n) <;> rfl
  obtain ⟨es, hes, -⟩ := hreach.out
  rw [hes, hbit]
  exact List.mem_append_left _ (mem_evt ..)

/-- The first state is that of the run of samples. -/
theorem diChange_stands (hv : f.gb (F.TERM_DISTAT_VALID n) = false) :
    (f.diChange n).gb (F.TERM_DISTAT_VALID n) = true ∧ (f.diChange n).gb (F.TERM_DISTAT_STATE n) = (f.term n).di.cand ∧
      (f.diChange n).out = f.out := by
  have hchange : f.diChange n = f.diStands n := if_neg (Bool.eq_false_iff.mp hv)
  rw [hchange, diStands]
  exact ⟨(gb_put_clear _ _ rfl (Fld.clear_of_bits (by decide))).trans (gb_set _ rfl rfl), gb_putb_same _ _ rfl rfl, rfl⟩

end

/-! The comparator's level at a sample (R171, R174). -/

/-- The level that a voltage in mV has by the thresholds of a TYPE, between them the level it had, or for the first sample a free one. -/
def levelAt (n type k : Nat) (raw : Option Bool) (mv : Int) : Bool :=
  if diThreshold n type true k < mv then true
  else if mv < diThreshold n type false k then false
  else raw.getD (Sys2Proof.Config.free (k + 1) % 2 == 1)

section
variable {n type k : Nat} {raw : Option Bool} {mv : Int}

theorem diThreshold_falling_lt_rising (n type k : Nat) : diThreshold n type false k < diThreshold n type true k := by
  unfold diThreshold
  simp only [if_true, Bool.false_eq_true, if_false]
  omega

theorem levelAt_above (h : diThreshold n type true k < mv) : levelAt n type k raw mv = true := if_pos h

theorem levelAt_below (h : mv < diThreshold n type false k) : levelAt n type k raw mv = false := by
  have hrising := diThreshold_falling_lt_rising n type k
  rw [levelAt, if_neg (by omega), if_pos h]

theorem levelAt_between (hlo : diThreshold n type false k ≤ mv) (hhi : mv ≤ diThreshold n type true k) {b : Bool} :
    levelAt n type k (some b) mv = b := by
  rw [levelAt, if_neg (not_lt.mpr hhi), if_neg (not_lt.mpr hlo), Option.getD_some]

/-- A voltage that does not lead away from a level keeps it. -/
theorem levelAt_keeps {b : Bool} (hlo : diThreshold n type false k ≤ mv ∨ b = false) (hhi : mv ≤ diThreshold n type true k ∨ b = true) :
    levelAt n type k (some b) mv = b := by
  by_cases habove : diThreshold n type true k < mv
  · rw [levelAt_above habove, hhi.resolve_left (not_le.mpr habove)]
  · by_cases hbelow : mv < diThreshold n type false k
    · rw [levelAt_below hbelow, hlo.resolve_left (not_le.mpr hbelow)]
    · exact levelAt_between (not_lt.mp hbelow) (not_lt.mp habove)

end

/-- The level that the next sample of a terminal finds. -/
def sampleLevel (n : Nat) (mv : Int) (f : Field) : Bool := levelAt n (f.c (F.TERM_DI_CFG_TYPE n)) f.draws (f.term n).di.raw mv

section
variable (n : Nat) (mv : Int) (f : Field)

theorem diLevel_eq : ∃ k, f.diLevel n mv = (f.sampleLevel n mv, { f with draws := k }) := by
  have hterm (k : Nat) : ({ f with draws := k } : Field).term n = f.term n := rfl
  unfold diLevel sampleLevel levelAt
  simp only [hterm]
  split
  · exact ⟨_, rfl⟩
  · split
    · exact ⟨_, rfl⟩
    · cases (f.term n).di.raw <;> exact ⟨_, rfl⟩

/-- What a change of the debounced state leaves: the comparator finds the same. -/
structure SameLevel (n : Nat) (g f : Field) : Prop where
  cfg : g.cfg = f.cfg
  draws : g.draws = f.draws
  raw : (g.term n).di.raw = (f.term n).di.raw

theorem diChange_sameLevel : (f.diChange n).SameLevel n f := by
  have hcounted := (f.diTurns n).diCount_counted n !f.gb (F.TERM_DISTAT_STATE n)
  obtain ⟨e, hedge⟩ := hcounted.di
  obtain ⟨hcfg, hdraws, hdi⟩ := f.diTurns_kept n
  obtain ⟨hcfg', hdraws', hdi'⟩ := f.diStands_kept n
  rw [diChange_eq]
  split
  · exact ⟨hcounted.cfg.trans hcfg, hcounted.draws.trans hdraws, by rw [hedge, hdi]⟩
  · exact ⟨hcfg', hdraws', by rw [hdi']⟩

/-- A run of samples that has become long enough changes the state before the next sample. -/
def diSettled : Field := f.when (f.diDue n) (diChange n)

theorem diSettled_sameLevel : (f.diSettled n).SameLevel n f := by
  unfold diSettled
  cases f.diDue n
  · exact ⟨rfl, rfl, rfl⟩
  · exact f.diChange_sameLevel n

theorem sampleLevel_diSettled : (f.diSettled n).sampleLevel n mv = f.sampleLevel n mv := by
  obtain ⟨hcfg, hdraws, hraw⟩ := f.diSettled_sameLevel n
  rw [sampleLevel, hdraws, hraw, c, hcfg, ← c, ← sampleLevel]

/-! A sample (R173, R174, R175). -/

/-- A sample's level is taken, and the blank line has followed it. -/
def diTaken : Field := (f.diTakes n mv).when ((f.diTakes n mv).cb (F.TERM_DI_CFG_BLANK_SRC n)) blankLine

/-- RAW and CONT_ACT show. -/
def diShows (w : Word) (level : Bool) : Field := (f.putb (F.TERM_DISTAT_RAW n) level).putb (F.TERM_DISTAT_CONT_ACT n) (f.diCont n w)

theorem diSample_active {f : Field} (h : f.diActive n = true) :
    f.diSample n mv = (f.diTaken n mv).diJudges n (f.cfg.word (R.TERM_DI_TIME n)) (f.sampleLevel n mv) := by
  obtain ⟨k, hk⟩ := (f.diSettled n).diLevel_eq n mv
  rw [diSample_eq, if_pos h, ← diTaken, ← diSettled, hk, sampleLevel_diSettled, (f.diSettled_sameLevel n).cfg]

theorem diTakes_eq : ∃ k, f.diTakes n mv =
    ({ f.diSettled n with draws := k } : Field).modDi n (DiRun.takes (f.cfg.word (R.TERM_DI_TIME n)) (f.sampleLevel n mv)) := by
  obtain ⟨k, hk⟩ := (f.diSettled n).diLevel_eq n mv
  refine ⟨k, ?_⟩
  rw [diTakes, ← diSettled]
  dsimp only
  rw [hk, sampleLevel_diSettled, (f.diSettled_sameLevel n).cfg]
  rfl

/-- The blank line leaves what the sample took. -/
theorem diTaken_takes : (f.diTaken n mv).cfg = (f.diTakes n mv).cfg ∧ (f.diTaken n mv).term n = (f.diTakes n mv).term n ∧
    (f.diTaken n mv).img.word (R.TERM_DISTAT n) = (f.diTakes n mv).img.word (R.TERM_DISTAT n) := by
  unfold diTaken
  cases (f.diTakes n mv).cb (F.TERM_DI_CFG_BLANK_SRC n)
  · exact ⟨rfl, rfl, rfl⟩
  · exact ⟨(OnExcPage.blankLine (.refl _)).cfg, term_blankLine .., distat_blankLine _⟩

/-- A sample takes its level and the DI_TIME written. -/
theorem diTaken_level : (f.diTaken n mv).cfg = f.cfg ∧ ((f.diTaken n mv).term n).di.raw = some (f.sampleLevel n mv) ∧
    ((f.diTaken n mv).term n).di.time = f.cfg.word (R.TERM_DI_TIME n) := by
  obtain ⟨hcfg, hterm, -⟩ := f.diTaken_takes n mv
  obtain ⟨k, hk⟩ := f.diTakes_eq n mv
  rw [hcfg, hterm, hk, cfg_modDi, di_modDi]
  exact ⟨(f.diSettled_sameLevel n).cfg, rfl, DiRun.takes_time ..⟩

/-- With no change due and no DI_TIME written, the run of samples goes on. -/
theorem diTaken_run (hdue : f.diDue n = false) (hagain : (f.term n).di.again = false)
    (htime : (f.term n).di.time = f.cfg.word (R.TERM_DI_TIME n)) :
    ((f.diTaken n mv).term n).di.run = (f.term n).di.run ∧ (f.diTaken n mv).img.word (R.TERM_DISTAT n) = f.img.word (R.TERM_DISTAT n) := by
  obtain ⟨-, hterm, hdistat⟩ := f.diTaken_takes n mv
  obtain ⟨k, hk⟩ := f.diTakes_eq n mv
  have hsettled : f.diSettled n = f := by rw [diSettled, hdue, when_false]
  have hkeeps (d : Field) : ({ d with draws := k } : Field).term n = d.term n := rfl
  rw [hterm, hdistat, hk, hsettled, di_modDi, img_modDi, hkeeps]
  exact ⟨DiRun.takes_run _ htime hagain, rfl⟩

end

/-! The run of samples follows the level (R175, R176). -/

section
variable (n : Nat) (w : Word) (level : Bool) (f : Field)

theorem diShows_flags : (f.diShows n w level).term n = f.term n ∧ (f.diShows n w level).gb (F.TERM_DISTAT_RAW n) = level ∧
    (f.diShows n w level).gb (F.TERM_DISTAT_CONT_ACT n) = f.diCont n w := by
  rw [diShows, putb, putb, put_at_term, put_at_term, ← putb, ← putb]
  refine ⟨rfl, ?_, gb_putb_same _ _ rfl rfl⟩
  exact (gb_put_clear _ _ rfl (Fld.clear_of_bits (by decide))).trans (gb_putb_same _ _ rfl rfl)

theorem diShows_state : (f.diShows n w level).gb (F.TERM_DISTAT_VALID n) = f.gb (F.TERM_DISTAT_VALID n) ∧
    (f.diShows n w level).gb (F.TERM_DISTAT_STATE n) = f.gb (F.TERM_DISTAT_STATE n) := by
  have hclear {i : Nat} (u : Field) (hraw : i ≠ 1) (hcont : i ≠ 3) : (u.diShows n w level).gb ⟨R.TERM_DISTAT n, i, 1⟩ =
      u.gb ⟨R.TERM_DISTAT n, i, 1⟩ :=
    (gb_put_clear _ _ rfl (Fld.clear_of_bits hcont)).trans (gb_put_clear _ _ rfl (Fld.clear_of_bits hraw))
  exact ⟨hclear f (by decide) (by decide), hclear f (by decide) (by decide)⟩

theorem diJudges_eq : f.diJudges n w level =
    if (f.diShows n w level).gb (F.TERM_DISTAT_VALID n) then
      if level = (f.diShows n w level).gb (F.TERM_DISTAT_STATE n) then
        if ((f.diShows n w level).term n).di.run = 0 then f.diShows n w level
        else ((f.diShows n w level).modDi n fun d => { d with run := 0 }).diReject n
      else (f.diShows n w level).modDi n fun d => { d with run := d.run + 1 }
    else if ((f.diShows n w level).term n).di.cand = level then (f.diShows n w level).modDi n fun d => { d with run := d.run + 1 }
    else (f.diShows n w level).modDi n fun d => { d with cand := level, run := 1 } := rfl

/-- Whatever becomes of the run, what shows and what was taken stay. -/
theorem diJudges_shows : (f.diJudges n w level).img.word (R.TERM_DISTAT n) = (f.diShows n w level).img.word (R.TERM_DISTAT n) ∧
    ((f.diJudges n w level).term n).di.raw = (f.term n).di.raw ∧ ((f.diJudges n w level).term n).di.time = (f.term n).di.time := by
  obtain ⟨hterm, -, -⟩ := f.diShows_flags n w level
  rw [diJudges_eq, ← hterm]
  split
  · split
    · split
      · exact ⟨rfl, rfl, rfl⟩
      · rw [distat_diReject, di_diReject, img_modDi, di_modDi]
        exact ⟨rfl, rfl, rfl⟩
    · rw [img_modDi, di_modDi]
      exact ⟨rfl, rfl, rfl⟩
  · split <;> rw [img_modDi, di_modDi] <;> exact ⟨rfl, rfl, rfl⟩

variable {level f}

/-- A level against a valid state lengthens the run by one. -/
theorem diJudges_against (hv : f.gb (F.TERM_DISTAT_VALID n) = true) (hs : f.gb (F.TERM_DISTAT_STATE n) = !level) :
    ((f.diJudges n w level).term n).di.run = (f.term n).di.run + 1 ∧ (f.diJudges n w level).gb (F.TERM_DISTAT_STATE n) = !level := by
  obtain ⟨hdistat, -, -⟩ := f.diJudges_shows n w level
  obtain ⟨hterm, -, -⟩ := f.diShows_flags n w level
  obtain ⟨hvalid, hstate⟩ := f.diShows_state n w level
  have hrun : f.diJudges n w level = (f.diShows n w level).modDi n fun d => { d with run := d.run + 1 } := by
    rw [diJudges_eq, hvalid, hstate, if_pos hv, hs, if_neg (by cases level <;> decide)]
  rw [gb_of_word (x := F.TERM_DISTAT_STATE n) hdistat, hstate, hs, hrun, di_modDi, hterm]
  exact ⟨rfl, rfl⟩

end

/-- What an active input shows and holds after a sample. -/
theorem diSample_shows {n : Nat} {f : Field} (mv : Int) (ha : f.diActive n = true) :
    (f.diSample n mv).gb (F.TERM_DISTAT_RAW n) = f.sampleLevel n mv ∧
      (f.diSample n mv).gb (F.TERM_DISTAT_CONT_ACT n) = f.diCont n (f.cfg.word (R.TERM_DI_TIME n)) ∧
      ((f.diSample n mv).term n).di.raw = some (f.sampleLevel n mv) ∧
      ((f.diSample n mv).term n).di.time = f.cfg.word (R.TERM_DI_TIME n) := by
  obtain ⟨hcfg, hraw, htime⟩ := f.diTaken_level n mv
  obtain ⟨-, hshown, hcont⟩ := (f.diTaken n mv).diShows_flags n (f.cfg.word (R.TERM_DI_TIME n)) (f.sampleLevel n mv)
  obtain ⟨hdistat, hraw', htime'⟩ := (f.diTaken n mv).diJudges_shows n (f.cfg.word (R.TERM_DI_TIME n)) (f.sampleLevel n mv)
  have hsame (w : Word) : (f.diTaken n mv).diCont n w = f.diCont n w := by rw [diCont, diCont, cb, cb, hcfg, ← cb, ← cb]
  rw [diSample_active n mv ha, gb_of_word (x := F.TERM_DISTAT_RAW n) hdistat, gb_of_word (x := F.TERM_DISTAT_CONT_ACT n) hdistat, hshown,
    hcont, hraw', hraw, htime', htime, hsame]
  exact ⟨rfl, rfl, rfl, rfl⟩

/-! The chatter interval and the stuck watch (R176, R177). -/

/-- Is an interval one of chatter? -/
def diChatters (n : Nat) (f : Field) : Bool :=
  (f.term n).di.mark || (f.c (F.TERM_DI_EDGE_CHAT_LIM n) != 0 && decide (f.c (F.TERM_DI_EDGE_CHAT_LIM n) ≤ (f.term n).di.iv))

/-- An interval ends, and counts anew. -/
def diNewInterval (n : Nat) (f : Field) : Field :=
  (f.modDi n fun d => { d with iv := 0, mark := false }).putb (F.TERM_DISTAT_CHATTER n) (f.diChatters n)

theorem diInterval_shows {n : Nat} {f : Field} (ha : f.diActive n = true) :
    (f.diInterval n).gb (F.TERM_DISTAT_CHATTER n) = f.diChatters n ∧ ((f.diInterval n).term n).di.iv = 0 := by
  have hinterval : f.diInterval n =
      if f.diChatters n then (f.diNewInterval n).evt (R.pageTERM n) 6 (inj := (f.term n).di.mark) else f.diNewInterval n := if_pos ha
  have hshows : (f.diNewInterval n).gb (F.TERM_DISTAT_CHATTER n) = f.diChatters n := gb_putb_same _ _ rfl rfl
  have hcount : ((f.diNewInterval n).term n).di.iv = 0 := by rw [diNewInterval, putb, put_at_term, di_modDi]
  rw [hinterval]
  split
  · rw [evt_eq, tell_at_gb, tell_at_term]
    exact ⟨hshows, hcount⟩
  · exact ⟨hshows, hcount⟩

/-- A watched state that lasts shows STUCK, and tells event 7 and source DI, 44. -/
theorem diStuck_sets {n : Nat} {f : Field} (ha : f.diActive n = true) (ht : f.c (F.TERM_DI_STUCK_STUCK_T n) ≠ 0)
    (hw : f.diWatched n = true) (hs : f.gb (F.TERM_DISTAT_STUCK n) = false) (inj : Bool) :
    (f.diStuck n inj).gb (F.TERM_DISTAT_STUCK n) = true ∧ .evt (R.pageTERM n) 7 0 inj false ∈ (f.diStuck n inj).out ∧
      .fault { src := 44, severe := false, param := n, injected := inj, time := f.time } ∈ (f.diStuck n inj).out := by
  have hsets : f.diStuck n inj = ((f.put (F.TERM_DISTAT_STUCK n) 1).evt (R.pageTERM n) 7 (inj := inj)).fault 44 false n inj := by
    rw [diStuck, if_pos]
    simp [ha, ht, hw, hs]
  rw [hsets]
  refine ⟨?_, List.mem_append_left _ (mem_evt ..), List.mem_append_right _ (List.mem_singleton_self _)⟩
  rw [fault, tell_at_gb, evt_eq, tell_at_gb, gb_set _ rfl rfl]

end Field

/-! The commands. -/

section
variable {s : State} {n : Terminal} (hup : s.up)
include hup

/-- A sample shows its level, whether the terminal samples continuously, and takes DI_TIME. -/
theorem diSample_showsLevel (mv : Int) (ha : s.fd.diActive n = true) :
    Answers (exec (.diSample n mv) s) fun t =>
      (diThreshold n (s.fd.c (F.TERM_DI_CFG_TYPE n)) true s.fd.draws < mv → t.fd.gb (F.TERM_DISTAT_RAW n) = true) ∧
      (mv < diThreshold n (s.fd.c (F.TERM_DI_CFG_TYPE n)) false s.fd.draws → t.fd.gb (F.TERM_DISTAT_RAW n) = false) ∧
      (diThreshold n (s.fd.c (F.TERM_DI_CFG_TYPE n)) false s.fd.draws ≤ mv →
        mv ≤ diThreshold n (s.fd.c (F.TERM_DI_CFG_TYPE n)) true s.fd.draws →
        ∀ b, (s.fd.term n).di.raw = some b → t.fd.gb (F.TERM_DISTAT_RAW n) = b) ∧
      (t.fd.term n).di.raw = some (t.fd.gb (F.TERM_DISTAT_RAW n)) ∧
      t.fd.gb (F.TERM_DISTAT_CONT_ACT n) = s.fd.diCont n (s.fd.cfg.word (R.TERM_DI_TIME n)) ∧
      (t.fd.term n).di.time = s.fd.cfg.word (R.TERM_DI_TIME n) := by
  refine exec_of_runField hup (h := Field.diSample n mv) rfl ?_
  obtain ⟨hshown, hcont, hraw, htime⟩ := Field.diSample_shows mv ha
  simp only [drain_fd_at_gb, drain_fd_at_term]
  rw [hshown, hraw]
  refine ⟨Field.levelAt_above, Field.levelAt_below, fun hlo hhi b hb => ?_, rfl, hcont, htime⟩
  rw [Field.sampleLevel, hb]
  exact Field.levelAt_between hlo hhi

/-- A sample that keeps a level against the state lengthens the run. -/
theorem diSample_lengthensRun (mv : Int) {level : Bool} (ha : s.fd.diActive n = true) (hdue : s.fd.diDue n = false)
    (hraw : (s.fd.term n).di.raw = some level)
    (hlo : diThreshold n (s.fd.c (F.TERM_DI_CFG_TYPE n)) false s.fd.draws ≤ mv ∨ level = false)
    (hhi : mv ≤ diThreshold n (s.fd.c (F.TERM_DI_CFG_TYPE n)) true s.fd.draws ∨ level = true)
    (hagain : (s.fd.term n).di.again = false) (htime : (s.fd.term n).di.time = s.fd.cfg.word (R.TERM_DI_TIME n))
    (hv : s.fd.gb (F.TERM_DISTAT_VALID n) = true) (hs : s.fd.gb (F.TERM_DISTAT_STATE n) = !level) :
    Answers (exec (.diSample n mv) s) fun t =>
      (t.fd.term n).di.run = (s.fd.term n).di.run + 1 ∧ t.fd.gb (F.TERM_DISTAT_STATE n) = !level := by
  refine exec_of_runField hup (h := Field.diSample n mv) rfl ?_
  have hlevel : s.fd.sampleLevel n mv = level := by rw [Field.sampleLevel, hraw, Field.levelAt_keeps hlo hhi]
  obtain ⟨hrun, hdistat⟩ := s.fd.diTaken_run n mv hdue hagain htime
  obtain ⟨hlonger, hstate⟩ := Field.diJudges_against n (s.fd.cfg.word (R.TERM_DI_TIME n)) (f := s.fd.diTaken n mv)
    ((Field.gb_of_word (x := F.TERM_DISTAT_VALID n) hdistat).trans hv) ((Field.gb_of_word (x := F.TERM_DISTAT_STATE n) hdistat).trans hs)
  simp only [drain_fd_at_gb, drain_fd_at_term]
  rw [Field.diSample_active n mv ha, hlevel]
  exact ⟨hlonger.trans (congrArg (· + 1) hrun), hstate⟩

/-- A run that is long enough changes the state. -/
theorem exec_diStateChange_of_due (hdue : s.fd.diDue n = true) {p : State → Prop} (hp : p (drain { s with fd := s.fd.diChange n })) :
    Answers (exec (.diStateChange n) s) p := by
  refine exec_of_runField hup (h := fun f => f.when (f.diDue n) (Field.diChange n)) rfl ?_
  rw [hdue, Field.when_true]
  exact hp

/-- A run that is long enough turns a valid state over, with its event. -/
theorem diStateChange_turns (hdue : s.fd.diDue n = true) (hv : s.fd.gb (F.TERM_DISTAT_VALID n) = true) :
    Answers (exec (.diStateChange n) s) fun t =>
      t.fd.gb (F.TERM_DISTAT_STATE n) = !s.fd.gb (F.TERM_DISTAT_STATE n) ∧ t.fd.gb (F.TERM_DISTAT_STUCK n) = false ∧
      (t.fd.term n).di.run = 0 ∧ (t.fd.term n).di.since = s.fd.time ∧
      t.ld.gb ⟨R.EVT_RAW (R.pageTERM n), if s.fd.gb (F.TERM_DISTAT_STATE n) then 5 else 4, 1⟩ = true := by
  refine exec_diStateChange_of_due hup hdue ?_
  have hreach := (Field.Within.refl _ s.fd).diChange (reachOf_self (.diStateChange n) n s.fd)
  have htells : (s.fd.diChange n).Tells (R.pageTERM n) (if s.fd.gb (F.TERM_DISTAT_STATE n) then 5 else 4) :=
    ⟨hreach.marks rfl hup.2.2, _, _, _, Field.diChange_out hv n.isLt⟩
  obtain ⟨hstate, hstuck, hrun, hsince⟩ := Field.diChange_turns hv
  simp only [drain_fd_at_gb, drain_fd_at_term]
  exact ⟨hstate, hstuck, hrun, hsince, htells.drain (s := { s with fd := s.fd.diChange n }) hup.2.1 (by split <;> decide)⟩

/-- The first state comes to stand, and nothing is told. -/
theorem diStateChange_stands (hdue : s.fd.diDue n = true) (hv : s.fd.gb (F.TERM_DISTAT_VALID n) = false) :
    Answers (exec (.diStateChange n) s) fun t =>
      t.fd.gb (F.TERM_DISTAT_VALID n) = true ∧ t.fd.gb (F.TERM_DISTAT_STATE n) = (s.fd.term n).di.cand ∧ t.ld = s.ld := by
  refine exec_diStateChange_of_due hup hdue ?_
  obtain ⟨hvalid, hstate, hout⟩ := Field.diChange_stands hv
  simp only [drain_fd_at_gb]
  rw [drain_ld { s with fd := s.fd.diChange n } hup.2.1]
  exact ⟨hvalid, hstate, takeMsgs_waits _ (hout ▸ hup.2.2) _⟩

theorem chatterIntervalEnd_shows (ha : s.fd.diActive n = true) :
    Answers (exec (.chatterIntervalEnd n) s) fun t =>
      t.fd.gb (F.TERM_DISTAT_CHATTER n) = s.fd.diChatters n ∧ (t.fd.term n).di.iv = 0 := by
  refine exec_of_runField hup (h := Field.diInterval n) rfl ?_
  simp only [drain_fd_at_gb, drain_fd_at_term]
  exact Field.diInterval_shows ha

/-- A watched state that lasts sets STUCK and raises source DI. -/
theorem diStuckExpiry_sets (ha : s.fd.diActive n = true) (ht : s.fd.c (F.TERM_DI_STUCK_STUCK_T n) ≠ 0) (hw : s.fd.diWatched n = true)
    (hs : s.fd.gb (F.TERM_DISTAT_STUCK n) = false) :
    Answers (exec (.diStuckExpiry n) s) fun t =>
      t.fd.gb (F.TERM_DISTAT_STUCK n) = true ∧ t.ld.gb ⟨R.EVT_RAW (R.pageTERM n), 7, 1⟩ = true ∧
      .fault { src := 44, severe := false, param := n, time := s.fd.time } ∈ t.fd.out := by
  refine exec_of_runField hup (h := Field.diStuck n false) rfl ?_
  obtain ⟨hflag, hevt, hfault⟩ := Field.diStuck_sets ha ht hw hs false
  have hreach := (Field.Within.refl _ s.fd).diStuck (reachOf_self (.diStuckExpiry n) n s.fd) (inj := false)
  have htells : (s.fd.diStuck n false).Tells (R.pageTERM n) 7 := ⟨hreach.marks rfl hup.2.2, _, _, _, hevt⟩
  rw [drain_fd_at_gb, drain_out { s with fd := s.fd.diStuck n false } hup.2.1]
  exact ⟨hflag, htells.drain (s := { s with fd := s.fd.diStuck n false }) hup.2.1 (by decide), List.mem_filter.mpr ⟨hfault, rfl⟩⟩

end

/-- Settles O1: a clause for each command, a sample having one more where it goes against the state, and a change one where it is the
first. -/
theorem digitalInputRows : Obligations.DigitalInputRows := by
  unfold Obligations.DigitalInputRows
  exact ⟨fun _ _ mv hup ha => diSample_showsLevel hup mv ha,
    fun _ _ mv _ hup ha hdue hraw hlo hhi hagain htime hv hs => diSample_lengthensRun hup mv ha hdue hraw hlo hhi hagain htime hv hs,
    fun _ _ hup hdue hv => diStateChange_turns hup hdue hv, fun _ _ hup hdue hv => diStateChange_stands hup hdue hv,
    fun _ _ hup ha => chatterIntervalEnd_shows hup ha, fun _ _ hup ha ht hw hs => diStuckExpiry_sets hup ha ht hw hs⟩

end Sys2Proof.Machine
end

section
/-! Diagnosis of switched outputs: the load-current check (R192, R193, R201), and a statement that fails, for a stage in FOLLOW judges no
off-state band while its mirrored command is on (R197, R319). -/

namespace Sys2Proof.Machine

open Sys2Proof

/-! The load-current check (R193). -/

namespace Field

/-- Is the load current of a terminal judged: a switch that is on, with IMIN, and not a stage in catch (R197)? -/
def iminJudged (n : Nat) (f : Field) : Bool :=
  isDo (f.func n) && f.gb (F.TERM_DO_STAT_ON n) && f.c (F.TERM_DO_DIAG_IMIN n) != 0 && (f.term n).catch_ == .none

/-- OPEN_WIRE follows the load current. -/
def iminShown (n : Nat) (low : Bool) (f : Field) : Field :=
  (f.modDout n fun d => { d with owImin := low }).putb (F.TERM_DO_STAT_OPEN_WIRE n) low

/-- An open wire is told with event 15 and the event of source DO. -/
def tellsOpenWire (n : Nat) (f : Field) : Field := (f.evt (R.pageTERM n) 15).doFault n

theorem gb_iminShown (n : Nat) (low : Bool) (f : Field) : (f.iminShown n low).gb (F.TERM_DO_STAT_OPEN_WIRE n) = low :=
  gb_putb_same _ low rfl rfl

theorem gb_tellsOpenWire (n : Nat) (x : Fld) (f : Field) : (f.tellsOpenWire n).gb x = f.gb x := rfl

theorem tellsOpenWire_tells {f : Field} (h : f.out.all waits = true) (n : Nat) : (f.tellsOpenWire n).Tells (R.pageTERM n) 15 :=
  tells_of_append (es := [_]) (tells_evt h (R.pageTERM n) (bit := 15) (by decide) false) rfl (by simp [FMsg.isMark])

theorem iminLow_judged {n : Nat} {f : Field} (h : f.iminJudged n = true) (low : Bool) :
    f.iminLow n low = (f.iminShown n low).when (low && !f.gb (F.TERM_DO_STAT_OPEN_WIRE n)) (tellsOpenWire n) := if_pos h

theorem iminLow_unjudged {n : Nat} {f : Field} (h : f.iminJudged n = false) (low : Bool) : f.iminLow n low = f :=
  if_neg (Bool.eq_false_iff.mp h)

theorem iminLow_openWire {n : Nat} {f : Field} (h : f.iminJudged n = true) (low : Bool) :
    (f.iminLow n low).gb (F.TERM_DO_STAT_OPEN_WIRE n) = low := by
  rw [iminLow_judged h, when]
  split
  · rw [gb_tellsOpenWire, gb_iminShown]
  · exact gb_iminShown n low f

/-- A wire newly found open is told. -/
theorem iminLow_tells {n : Nat} {f : Field} (h : f.iminJudged n = true) (hclear : f.gb (F.TERM_DO_STAT_OPEN_WIRE n) = false)
    (hwaits : f.out.all waits = true) : (f.iminLow n true).Tells (R.pageTERM n) 15 := by
  rw [iminLow_judged h, hclear]
  exact tellsOpenWire_tells (f := f.iminShown n true) hwaits n

end Field

/-- With nothing to tell but what waits, the device stays as it is. -/
theorem drain_of_up {s : State} (hup : s.up) : drain s = s := by
  obtain ⟨-, hlink, hwaits⟩ := hup
  rw [drain, if_pos hlink, takeMsgs_waits _ hwaits, List.filter_eq_self.mpr (List.all_eq_true.mp hwaits)]

/-- Settles O58: the check shows its judgement in OPEN_WIRE and tells a wire newly found open, and changes nothing where it does not judge. -/
theorem iminRule : Obligations.IminRule := by
  unfold Obligations.IminRule
  have hjudged {f : Field} {n : Nat} (hdo : isDo (f.func n) = true) (hcatch : (f.term n).catch_ = .none)
      (hon : f.gb (F.TERM_DO_STAT_ON n) = true) (himin : f.c (F.TERM_DO_DIAG_IMIN n) ≠ 0) : f.iminJudged n = true := by
    simp [Field.iminJudged, hdo, hcatch, hon, himin]
  refine ⟨fun s n hup hdo hcatch hon himin => ?low, fun s n hup hdo hcatch hon himin => ?carries, fun s n low hup _ _ hidle => ?idle⟩
  case low =>
    have hjudge := hjudged hdo hcatch hon himin
    refine exec_of_runField hup (h := Field.iminLow n true) rfl ⟨?_, fun hclear => ?_⟩
    · rw [drain_fd_at_gb]
      exact Field.iminLow_openWire hjudge true
    · exact (Field.iminLow_tells hjudge hclear hup.2.2).drain (s := { s with fd := s.fd.iminLow n true }) hup.2.1 (by decide)
  case carries =>
    refine exec_of_runField hup (h := Field.iminLow n false) rfl ?_
    rw [drain_fd_at_gb]
    exact Field.iminLow_openWire (hjudged hdo hcatch hon himin) false
  case idle =>
    have hnot : s.fd.iminJudged n = false := by
      rcases hidle with hoff | hzero
      · simp [Field.iminJudged, hoff]
      · simp [Field.iminJudged, hzero]
    refine exec_of_runField hup (h := Field.iminLow n low) rfl ?_
    rw [Field.iminLow_unjudged hnot]
    exact drain_of_up hup

/-! The off-state bands (R192, R197). -/

/-- A stage in FOLLOW judges no band while its mirrored command is on (R197). -/
theorem Field.bandHeld_follow {n : Nat} {f : Field} (hfollow : f.mode = .follow) (hcmd : f.commanded n ≠ none) (b : BandReport) :
    f.bandHeld n b = f := by
  simp [Field.bandHeld, hfollow, hcmd]

/-- A follower that has lost its partner (R319): in FOLLOW, outside a READY pair and not in catch. Its terminal 0 is a switched output that is
commanded on, and off. -/
def followerAlone : Field :=
  let f : Field := ({ released := true, mode := .follow } : Field).put (F.TERM_CELLSTAT_FUNC_ACT 0) 2
  (f.own (F.CTRL_EN (R.pageTERM 0)) 1).own (F.TERM_DO_CMD_ON 0) 1

/-- The whole device with that field die and the link up. -/
def deviceFollowsAlone : State := { ld := { linkUp := true }, fd := followerAlone }

theorem followerAlone_commanded : followerAlone.commanded 0 ≠ none := by decide

/-- Refutes O32: in its first clause BACKFEED shows a report of the backfeed band, but a stage in FOLLOW whose mirrored command is on judges
none (R197). -/
theorem not_switchDiagnosisRows : ¬ Obligations.SwitchDiagnosisRows := by
  unfold Obligations.SwitchDiagnosisRows
  rintro ⟨hband, -⟩
  obtain ⟨t, ht, -, hbackfeed, -⟩ := hband deviceFollowsAlone 0 ⟨2, false⟩ ⟨rfl, rfl, rfl⟩ (by decide) (by decide) (by decide) (by decide)
    (by decide) (by decide) (.inl rfl)
  obtain rfl : drain { deviceFollowsAlone with fd := followerAlone.bandHeld 0 ⟨2, false⟩ } = t :=
    Host.Outcome.next.inj ((runField_up (Field.bandHeld 0 ⟨2, false⟩) deviceFollowsAlone rfl rfl).symm.trans ht)
  rw [drain_fd_at_gb, Field.bandHeld_follow rfl followerAlone_commanded] at hbackfeed
  exact absurd hbackfeed (by decide)

end Sys2Proof.Machine
end

section
/-! The frame of the analogue outputs' commands, which fails, for it speaks of every state, reached or not: a retune that has a terminal above
31 to move writes a register that the slices share, and this shows on every SLICE page (R122). -/

namespace Sys2Proof.Machine

open Sys2Proof

/-- A field die whose group 0 has a retune in hand that is to move terminal 32, which no device has: its page would be SLICE[0]'s. -/
def movesBeyondTerminals : Field :=
  ({ released := true } : Field).modStep 0 fun s => { s with plan := some { low := 0, high := 0, moves := [(32, 1)] } }

/-- The whole device with that field die and the link up. -/
def deviceMovesBeyondTerminals : State := { ld := { linkUp := true }, fd := movesBeyondTerminals }

/-- As the HIGH rail arrives, the move changes a register of SLICE[1]. -/
theorem railArrives_movesBeyondTerminals :
    (movesBeyondTerminals.railArrives 0 true).img.word 0x4146 ≠ movesBeyondTerminals.img.word 0x4146 := by decide

/-- SLICE[1]'s page is that of no terminal of group 0, and not the one that the move names. -/
theorem slicePage_otherThanMoved (k : Nat)
    (h : k / 8 = 0 ∨ ∃ p, (movesBeyondTerminals.step 0).plan = some p ∧ ∃ m ∈ p.moves, m.1 = k) : 0x4146 / 256 ≠ R.pageTERM k := by
  have hk : k < 8 ∨ k = 32 := by
    rcases h with h | ⟨p, hp, m, hm, rfl⟩
    · exact .inl (by omega)
    · obtain rfl : { low := 0, high := 0, moves := [(32, 1)] } = p := Option.some.inj hp
      exact .inr (congrArg Prod.fst (List.mem_singleton.mp hm))
  simp only [R.pageTERM]
  omega

/-- Refutes O51: in its last clause a register of a slice's page stays, but a retune's move of a terminal above 31 changes it, for the slices
share that register (R122). -/
theorem not_analogueRowsFrame : ¬ Obligations.AnalogueRowsFrame := by
  unfold Obligations.AnalogueRowsFrame
  intro h
  obtain ⟨-, -, -, -, -, -, -, -, -, hword⟩ := h (.railAtSetpoint 0 true) 0 deviceMovesBeyondTerminals _ rfl ⟨rfl, rfl, rfl⟩
    (runField_up (Field.railArrives 0 true) deviceMovesBeyondTerminals rfl rfl)
  have himg := (hword 0x4146 slicePage_otherThanMoved).1
  rw [drain_fd] at himg
  exact railArrives_movesBeyondTerminals himg

end Sys2Proof.Machine
end

section
/-! The step supplies: where a retune takes the rails, and a rail that arrives (R206, R207). -/

namespace Sys2Proof.Machine

open Sys2Proof

/-! A retune in hand, on the converter alone. -/

namespace StepRun

/-- Does a move wait for its rail? -/
def waits (s : StepRun) (m : Nat × Nat) : Bool := if m.2 = 0 then s.lowMoving else s.highMoving

/-- A retune starts: the rails that rise are raised. -/
def raised (p : Retune) (s : StepRun) : StepRun :=
  { s with low := max s.low p.low, high := max s.high p.high, lowMoving := s.lowMoving || decide (s.low < p.low),
           highMoving := s.highMoving || decide (s.high < p.high), plan := some p }

/-- A retune is carried on: with no move left the rails that fall are lowered. -/
def carried (p : Retune) (s : StepRun) : StepRun :=
  if p.moves.filter s.waits = [] then
    { s with low := p.low, high := p.high, lowMoving := s.lowMoving || p.low != s.low, highMoving := s.highMoving || p.high != s.high,
             plan := none }
  else { s with plan := some { p with moves := p.moves.filter s.waits } }

/-- A rail has arrived. -/
def arrived (high : Bool) (s : StepRun) : StepRun :=
  if high then { s with highMoving := false, highAt := s.high } else { s with lowMoving := false, lowAt := s.low }

theorem arrived_plan (high : Bool) (s : StepRun) : (s.arrived high).plan = s.plan := by cases high <;> rfl

end StepRun

namespace Field

/-- What every step of a loop leaves, the loop leaves. -/
theorem each_leaves {α : Type} (view : Field → α) (ns : List Nat) {c : Nat → Field → Field} (hc : ∀ n f, view (c n f) = view f)
    (f : Field) : view (f.each ns c) = view f := by
  induction ns generalizing f with
  | nil => rfl
  | cons n ns ih => exact (ih (c n f)).trans (hc n f)

theorem steps_showRail (n : Nat) (f : Field) : (f.showRail n).steps = f.steps := by
  unfold showRail
  dsimp only
  split <;> rw [put_steps, put_steps]

theorem steps_showGroup (n : Nat) (f : Field) : (f.showGroup n).steps = f.steps := by
  unfold showGroup
  dsimp only
  split
  · rw [steps_showRail, put_steps, put_steps]
  · rfl

theorem steps_toSource (n src : Nat) (f : Field) : (f.toSource n src).steps = f.steps := by
  unfold toSource
  split
  · exact put_steps ..
  · rfl

theorem steps_moves (ms : List (Nat × Nat)) (f : Field) : (ms.foldl (fun f m => f.toSource m.1 m.2) f).steps = f.steps := by
  induction ms generalizing f with
  | nil => rfl
  | cons m ms ih => exact (ih _).trans (steps_toSource m.1 m.2 f)

theorem step_of_steps {g f : Field} (h : g.steps = f.steps) (k : Nat) : g.step k = f.step k := by rw [step, h, step]

theorem step_showGroups (ns : List Nat) (f : Field) (k : Nat) : (f.each ns showGroup).step k = f.step k :=
  step_of_steps (each_leaves steps ns steps_showGroup f) k

/-- A retune in hand is carried on. -/
theorem step_advance {g : Nat} {p : Retune} {f : Field} (h : (f.step g).plan = some p) : (f.advance g).step g = (f.step g).carried p := by
  have hmoves (ms : List (Nat × Nat)) : (ms.foldl (fun f m => f.toSource m.1 m.2) f).step g = f.step g :=
    step_of_steps (steps_moves ms f) g
  unfold advance
  simp only [h]
  split
  · next hleft =>
    rw [step_modStep_same, hmoves]
    exact (if_pos hleft).symm
  · next hleft =>
    rw [step_modStep_same, hmoves]
    exact (if_neg hleft).symm

theorem advance_noPlan {g : Nat} {f : Field} (h : (f.step g).plan = none) : f.advance g = f := by
  unfold advance
  simp only [h]

/-- A retune starts, and goes as far as no rail is waited for. -/
theorem step_startPlan (g : Nat) (p : Retune) (f : Field) : (f.startPlan g p).step g = ((f.step g).raised p).carried p := by
  have hraised : (f.modStep g (StepRun.raised p)).step g = (f.step g).raised p := step_modStep_same f g _
  rw [← hraised, ← step_advance (congrArg StepRun.plan hraised)]
  exact step_showGroups ..

/-- The enabled outputs of a group that count, each with its need. -/
def needs (g : Nat) (f : Field) : List (Nat × Nat) :=
  (f.groupOuts g).filterMap fun n => if isAo (f.func n) then (f.aoNeed n).map fun v => (v, n) else none

/-- Does a group's converter run, and the role that tunes it? -/
structure Tunes (g : Nat) (f : Field) : Prop where
  stopped : (f.step g).stopped = false
  absent : (f.step g).absent = false
  safe : f.safeRuns = true

/-- With no output that counts both rails go to the lowest setpoint, or to 0 V. -/
theorem retune_noNeeds {g : Nat} {f : Field} (h : f.Tunes g) (hneeds : f.needs g = []) :
    f.retune g = f.startPlan g { low := if f.aoEnabled g then 2500 else 0, high := if f.aoEnabled g then 2500 else 0, moves := [] } := by
  rw [needs] at hneeds
  simp [retune, h.stopped, h.absent, h.safe, hneeds, sortNeeds, each]

theorem bestSplit_one (top v n : Nat) (f : Field) : f.bestSplit top [(v, n)] = (1, railFor top v, railFor top v) := rfl

/-- The one output that counts is to move to LOW. -/
theorem retune_oneNeed {g n v : Nat} {f : Field} (h : f.Tunes g) (hneeds : f.needs g = [(v, n)]) (hlim : v ≤ f.fsup g - 1700) :
    f.retune g = f.startPlan g { low := railFor (f.fsup g - 1500) v, high := railFor (f.fsup g - 1500) v, moves := [(n, 0)] } := by
  rw [needs] at hneeds
  simp [retune, h.stopped, h.absent, h.safe, hneeds, hlim, sortNeeds, insertNeed, each, bestSplit_one]

/-- A rail arrives where no retune is in hand: there is none to carry on or to drop. -/
theorem step_railArrives_noPlan {g : Nat} {f : Field} (h : (f.step g).plan = none) (high : Bool) :
    (f.railArrives g high).step g = (f.step g).arrived high := by
  have harrived : (f.modStep g (StepRun.arrived high)).step g = (f.step g).arrived high := step_modStep_same f g _
  have hcarries (u : Field) (hu : (u.step g).plan = none) :
      (if u.safeRuns then u.advance g else u.modStep g fun s => { s with plan := none }).step g = u.step g := by
    split
    · rw [advance_noPlan hu]
    · rw [step_modStep_same, ← hu]
  have hplan : ((f.modStep g (StepRun.arrived high)).step g).plan = none := by rw [harrived, StepRun.arrived_plan, h]
  exact (step_showGroups ..).trans ((hcarries _ hplan).trans harrived)

/-- An output on LOW goes to HIGH where that rail stands 0.5 V above (R209). -/
theorem headroomMove_lowToHigh {n : Nat} (hn : n < 32) {f : Field} (hf : isAo (f.func n) = true) (hsource : f.g (F.TERM_AO_RAIL_SOURCE n) = 0)
    (hstands : (f.step (n / 8)).lowAt + 500 ≤ (f.step (n / 8)).highAt) : (f.headroomMove n).g (F.TERM_AO_RAIL_SOURCE n) = 1 := by
  have hmoves : f.headroomMove n = (f.put (F.TERM_AO_RAIL_SOURCE n) 1).showRail n := by
    simp [headroomMove, toSource, sourceVolts, aoConnected, hf, hsource, hstands]
  rw [hmoves, showRail_source hn, g_put_same _ _ _ rfl]
  rfl

end Field

end Sys2Proof.Machine
end

section
/-! The step supplies, command by command: retunes, rails that arrive, headroom moves, faults and restarts (R206, R207, R209, R212). -/

namespace Sys2Proof.Machine

open Sys2Proof

namespace Field

/-! A fault of a converter and its restart (R212). -/

/-- What each step of a loop brings about for its own member, and every step keeps, holds of all members in the end. -/
theorem each_establishes {p : Nat → Field → Prop} {ns : List Nat} {c : Nat → Field → Field} (hsets : ∀ n ∈ ns, ∀ f, p n (c n f))
    (hkeeps : ∀ n ∈ ns, ∀ m f, p n f → p n (c m f)) (f : Field) : ∀ n ∈ ns, p n (f.each ns c) := by
  have keeps (n : Nat) (hn : n ∈ ns) (ms : List Nat) (u : Field) (hu : p n u) : p n (u.each ms c) := by
    induction ms generalizing u with
    | nil => exact hu
    | cons m ms ih => exact ih _ (hkeeps n hn m u hu)
  induction ns generalizing f with
  | nil => exact fun n hn => absurd hn List.not_mem_nil
  | cons k ns ih =>
    refine List.forall_mem_cons.mpr ⟨keeps k List.mem_cons_self ns _ (hsets k List.mem_cons_self f), ?_⟩
    exact ih (fun n hn => hsets n (List.mem_cons_of_mem k hn)) (fun n hn => hkeeps n (List.mem_cons_of_mem k hn)) _
      fun n hn => keeps n (List.mem_cons_of_mem k hn)

theorem lt_of_mem_groupAo {g : Group} {n : Nat} {f : Field} (h : n ∈ f.groupAo g) : n < 32 := by
  obtain ⟨k, hk, rfl⟩ := List.mem_map.mp (List.mem_filter.mp h).1
  have hk := List.mem_range.mp hk
  omega

/-- STEP_FAULT of one output goes up or down: others that are so stay so. -/
theorem gb_putStepFault {n m : Nat} {b : Bool} {f : Field} (h : n = m ∨ f.gb (F.TERM_AO_STAT_STEP_FAULT n) = b) :
    (f.putb (F.TERM_AO_STAT_STEP_FAULT m) b).gb (F.TERM_AO_STAT_STEP_FAULT n) = b := by
  have hsame := f.gb_putb_same (x := F.TERM_AO_STAT_STEP_FAULT m) b rfl rfl
  by_cases hhome : regHome (R.TERM_AO_STAT n) = regHome (R.TERM_AO_STAT m)
  · have hword : (f.putb (F.TERM_AO_STAT_STEP_FAULT m) b).gb (F.TERM_AO_STAT_STEP_FAULT n) =
        (f.putb (F.TERM_AO_STAT_STEP_FAULT m) b).gb (F.TERM_AO_STAT_STEP_FAULT m) := by
      simp only [gb_eq, Field.g, Fld.get, RegFile.word, F.TERM_AO_STAT_STEP_FAULT, hhome]
    exact hword.trans hsame
  · have hclear : (F.TERM_AO_STAT_STEP_FAULT n).clear (F.TERM_AO_STAT_STEP_FAULT m) = true := by
      simp [Fld.clear, F.TERM_AO_STAT_STEP_FAULT, hhome]
    rcases h with rfl | h
    · exact hsame
    · exact (gb_put_clear f _ rfl hclear).trans h

theorem offRails_stepFault : ∀ n < 32, (F.TERM_AO_STAT_STEP_FAULT n).offRails = true := by decide

/-- An output whose converter has failed: it moves to FSUP and shows and tells STEP_FAULT. -/
def losesRails (inj : Bool) (n : Nat) (f : Field) : Field :=
  (((f.toSource n 2).put (F.TERM_AO_STAT_STEP_FAULT n) 1).evt (R.pageTERM n) 25 (inj := inj)).showGroup n

theorem losesRails_stepFault {n m : Nat} (hn : n < 32) (inj : Bool) {f : Field}
    (h : n = m ∨ f.gb (F.TERM_AO_STAT_STEP_FAULT n) = true) : (f.losesRails inj m).gb (F.TERM_AO_STAT_STEP_FAULT n) = true := by
  have hoff := offRails_stepFault n hn
  have hsource : (f.toSource m 2).gb (F.TERM_AO_STAT_STEP_FAULT n) = f.gb (F.TERM_AO_STAT_STEP_FAULT n) :=
    congrArg (· != 0) (toSource_sameFlag hoff f m 2).flag
  have hput := gb_putStepFault (m := m) (h.imp_right hsource.trans)
  exact (congrArg (· != 0) (showGroup_sameFlag hoff _ m).flag).trans hput

theorem losesRails_cfg (inj : Bool) (n : Nat) (f : Field) : (f.losesRails inj n).cfg = f.cfg := by
  have hoff := offRails_stepFault 0 (by decide)
  exact (showGroup_sameFlag hoff _ n).cfg.trans (toSource_sameFlag hoff f n 2).cfg

theorem losesRails_steps (inj : Bool) (n : Nat) (f : Field) : (f.losesRails inj n).steps = f.steps := by
  rw [losesRails, steps_showGroup]
  exact steps_toSource n 2 f

/-- The converter of a group has failed, and its outputs with it. -/
def converterFails (g : Nat) (inj : Bool) (f : Field) : Field :=
  (f.modStep g fun _ => { stopped := true }).each (f.groupAo g) (losesRails inj)

theorem stepFault_eq {g : Nat} {f : Field} (hao : f.groupAo g ≠ []) (hstopped : (f.step g).stopped = false)
    (habsent : (f.step g).absent = false) (inj : Bool) :
    f.stepFault g inj = (f.converterFails g inj).aoFault (((f.converterFails g inj).groupAo g).headD (8 * g)) false inj :=
  if_neg (by simp [hao, hstopped, habsent])

theorem converterFails_stopped (g : Nat) (inj : Bool) (f : Field) : ((f.converterFails g inj).step g).stopped = true := by
  rw [converterFails, step_of_steps (each_leaves steps _ (losesRails_steps inj) _), step_modStep_same]

theorem converterFails_stepFault {g : Group} (inj : Bool) (f : Field) :
    ∀ n ∈ f.groupAo g, (f.converterFails g inj).gb (F.TERM_AO_STAT_STEP_FAULT n) = true :=
  each_establishes (p := fun n f => f.gb (F.TERM_AO_STAT_STEP_FAULT n) = true) (c := losesRails inj)
    (fun _ hn _ => losesRails_stepFault (lt_of_mem_groupAo hn) inj (.inl rfl))
    (fun _ hn _ _ h => losesRails_stepFault (lt_of_mem_groupAo hn) inj (.inr h)) _

theorem converterFails_cfg (g : Nat) (inj : Bool) (f : Field) : (f.converterFails g inj).cfg = f.cfg :=
  each_leaves Field.cfg _ (losesRails_cfg inj) _

/-- A restart that succeeds: the converter runs, and its outputs show no fault. -/
theorem stepRestart_ok {g : Nat} {f : Field} (hstopped : (f.step g).stopped = true) (hfails : (f.step g).fails < 3) :
    f.stepRestart g true = (f.modStep g fun s => { s with stopped := false, fails := 0 }).each (f.groupAo g) fun n f =>
      f.put (F.TERM_AO_STAT_STEP_FAULT n) 0 := by
  unfold stepRestart
  rw [if_pos (by simp [hstopped, hfails])]
  rfl

theorem stepRestart_ok_step {g : Nat} {f : Field} (hstopped : (f.step g).stopped = true) (hfails : (f.step g).fails < 3) :
    (f.stepRestart g true).step g = { f.step g with stopped := false, fails := 0 } := by
  rw [stepRestart_ok hstopped hfails, step_of_steps (each_leaves steps _ (fun n f => put_steps f _ 0) _), step_modStep_same]

theorem stepRestart_ok_stepFault {g : Nat} {f : Field} (hstopped : (f.step g).stopped = true) (hfails : (f.step g).fails < 3) :
    ∀ n ∈ f.groupAo g, (f.stepRestart g true).gb (F.TERM_AO_STAT_STEP_FAULT n) = false := by
  rw [stepRestart_ok hstopped hfails]
  exact each_establishes (p := fun n f => f.gb (F.TERM_AO_STAT_STEP_FAULT n) = false)
    (fun _ _ _ => gb_putStepFault (b := false) (.inl rfl)) (fun _ _ _ _ h => gb_putStepFault (b := false) (.inr h)) _

/-- A restart that fails is counted; the third is a fault of source AO. -/
theorem stepRestart_fails {g : Nat} {f : Field} (hstopped : (f.step g).stopped = true) (hfails : (f.step g).fails < 3) :
    (f.stepRestart g false).step g = { f.step g with fails := (f.step g).fails + 1 } ∧ (f.stepRestart g false).cfg = f.cfg := by
  have hcounts : (f.modStep g fun s => { s with fails := s.fails + 1 }).step g = { f.step g with fails := (f.step g).fails + 1 } :=
    step_modStep_same ..
  unfold stepRestart
  dsimp only
  rw [if_pos (by simp [hstopped, hfails]), if_neg Bool.false_ne_true]
  split
  · exact ⟨hcounts, rfl⟩
  · exact ⟨hcounts, rfl⟩

end Field

/-! The commands. -/

section
variable {s : State} (hup : s.up) {g : Group}
include hup

section
variable (htunes : s.fd.Tunes g)
include htunes

/-- Both rails go to one setpoint, at which no output is waited for. -/
theorem railRetune_noNeeds (hneeds : s.fd.needs g = []) {v : Nat} (hv : (if s.fd.aoEnabled g then 2500 else 0) = v) :
    Answers (exec (.railRetune g) s) fun t => (t.fd.step g).plan = none ∧ (t.fd.step g).low = v ∧ (t.fd.step g).high = v ∧
      ((s.fd.step g).low ≠ v → (t.fd.step g).lowMoving = true) := by
  refine exec_of_runField hup (h := Field.retune g) rfl ?_
  simp only [drain_fd_at_step]
  rw [Field.retune_noNeeds htunes hneeds, hv, Field.step_startPlan]
  refine ⟨rfl, rfl, rfl, fun hne => ?_⟩
  simp only [StepRun.carried, StepRun.raised, List.filter_nil, if_true, Bool.or_eq_true, decide_eq_true_eq, bne_iff_ne]
  omega

/-- LOW rises to what the one output needs, and the output waits for it. -/
theorem railRetune_oneNeed {n v : Nat} (hneeds : s.fd.needs g = [(v, n)]) (hlim : v ≤ s.fd.fsup g - 1700)
    (hrises : (s.fd.step g).low < railFor (s.fd.fsup g - 1500) v) :
    Answers (exec (.railRetune g) s) fun t => (t.fd.step g).low = railFor (s.fd.fsup g - 1500) v ∧ (t.fd.step g).lowMoving = true ∧
      (t.fd.step g).high = max (s.fd.step g).high (railFor (s.fd.fsup g - 1500) v) := by
  refine exec_of_runField hup (h := Field.retune g) rfl ?_
  simp only [drain_fd_at_step]
  rw [Field.retune_oneNeed htunes hneeds hlim, Field.step_startPlan]
  generalize railFor (s.fd.fsup g - 1500) v = rail at hrises
  have hwaits : ((s.fd.step g).raised { low := rail, high := rail, moves := [(n, 0)] }).waits (n, 0) = true := by
    simp [StepRun.waits, StepRun.raised, hrises]
  rw [StepRun.carried, List.filter_cons_of_pos hwaits, if_neg (List.cons_ne_nil _ _)]
  exact ⟨max_eq_right hrises.le, hwaits, rfl⟩

end

theorem railAtSetpoint_noPlan (hplan : (s.fd.step g).plan = none) (high : Bool) :
    Answers (exec (.railAtSetpoint g high) s) fun t => t.fd.step g = (s.fd.step g).arrived high := by
  refine exec_of_runField hup (h := Field.railArrives g high) rfl ?_
  simp only [drain_fd_at_step]
  exact Field.step_railArrives_noPlan hplan high

theorem headroomMove_toHigh {n : Terminal} (hf : isAo (s.fd.func n) = true) (hsource : s.fd.g (F.TERM_AO_RAIL_SOURCE n) = 0)
    (hstands : (s.fd.step (n / 8)).lowAt + 500 ≤ (s.fd.step (n / 8)).highAt) :
    Answers (exec (.headroomMove n) s) fun t => t.fd.g (F.TERM_AO_RAIL_SOURCE n) = 1 := by
  refine exec_of_runField hup (h := Field.headroomMove n) rfl ?_
  simp only [drain_fd_at_g]
  exact Field.headroomMove_lowToHigh n.isLt hf hsource hstands

theorem stepSupplyFault_stops (hao : s.fd.groupAo g ≠ []) (hstopped : (s.fd.step g).stopped = false) (habsent : (s.fd.step g).absent = false) :
    Answers (exec (.stepSupplyFault g) s) fun t => (t.fd.step g).stopped = true ∧
      (∀ n ∈ s.fd.groupAo g, t.fd.gb (F.TERM_AO_STAT_STEP_FAULT n) = true) ∧ t.fd.cfg = s.fd.cfg := by
  refine exec_of_runField hup (h := Field.stepFault g false) rfl ?_
  simp only [drain_fd_at_step, drain_fd_at_gb, drain_fd_cfg]
  rw [Field.stepFault_eq hao hstopped habsent]
  exact ⟨Field.converterFails_stopped g false s.fd, Field.converterFails_stepFault false s.fd, Field.converterFails_cfg g false s.fd⟩

section
variable (hstopped : (s.fd.step g).stopped = true) (hfails : (s.fd.step g).fails < 3)
include hstopped hfails

theorem stepSupplyRestart_runs : Answers (exec (.stepSupplyRestart g true) s) fun t => (t.fd.step g).stopped = false ∧
    (t.fd.step g).fails = 0 ∧ ∀ n ∈ s.fd.groupAo g, t.fd.gb (F.TERM_AO_STAT_STEP_FAULT n) = false := by
  refine exec_of_runField hup (h := Field.stepRestart g true) rfl ?_
  simp only [drain_fd_at_step, drain_fd_at_gb, Field.stepRestart_ok_step hstopped hfails, true_and]
  exact Field.stepRestart_ok_stepFault hstopped hfails

theorem stepSupplyRestart_counts : Answers (exec (.stepSupplyRestart g false) s) fun t => (t.fd.step g).stopped = true ∧
    (t.fd.step g).fails = (s.fd.step g).fails + 1 ∧ t.fd.cfg = s.fd.cfg := by
  refine exec_of_runField hup (h := Field.stepRestart g false) rfl ?_
  obtain ⟨hstep, hcfg⟩ := Field.stepRestart_fails hstopped hfails
  simp only [drain_fd_at_step, drain_fd_cfg, hstep, hcfg, hstopped, and_self]

end

end

/-- Settles O34: a clause for each command, by where it takes the converter of the group and what it shows on the group's outputs. -/
theorem stepSupplyRows : Obligations.StepSupplyRows := by
  unfold Obligations.StepSupplyRows
  refine ⟨fun s g hup hstopped habsent hsafe hneeds hoff => ?stops, fun s g hup hstopped habsent hsafe hneeds hon => ?lowest,
    fun s g n v hup hstopped habsent hsafe hneeds hlim hrises _ => railRetune_oneNeed hup ⟨hstopped, habsent, hsafe⟩ hneeds hlim hrises,
    fun s g hup hplan => ?low, fun s g hup hplan => ?high,
    fun s n hup hf _ hsource hstands => headroomMove_toHigh hup hf hsource hstands,
    fun s g hup hao hstopped habsent => stepSupplyFault_stops hup hao hstopped habsent,
    fun s g hup hstopped hfails => stepSupplyRestart_runs hup hstopped hfails,
    fun s g hup hstopped hfails => stepSupplyRestart_counts hup hstopped hfails⟩
  case stops => exact railRetune_noNeeds hup ⟨hstopped, habsent, hsafe⟩ hneeds (by rw [hoff]; rfl)
  case lowest => exact railRetune_noNeeds hup ⟨hstopped, habsent, hsafe⟩ hneeds (by rw [hon]; rfl)
  case low =>
    obtain ⟨t, ht, hstep⟩ := railAtSetpoint_noPlan hup hplan false
    exact ⟨t, ht, by simp [hstep, StepRun.arrived]⟩
  case high =>
    obtain ⟨t, ht, hstep⟩ := railAtSetpoint_noPlan hup hplan true
    exact ⟨t, ht, by simp [hstep, StepRun.arrived]⟩

end Sys2Proof.Machine
end

section
/-! The governor on a follower. -/

namespace Sys2Proof.Machine

open Sys2Proof

/-- In FOLLOW the governor acts on no output (R319). -/
theorem Field.govStep_follow {f : Field} (h : f.mode = .follow) : f.govStep = f := if_pos h

/-- A follower in FOLLOW whose package current passes its limit, with ACTION 1. Its terminal 0 is a switched output that is on: the one that the
governor of a lead would shed. -/
def followerOverLimit : Field :=
  let f : Field := ({ released := true, mode := .follow, gov := { above := [(.package, 70000)] } } : Field).put (F.TERM_CELLSTAT_FUNC_ACT 0) 2
  (f.modTerm 0 fun t => { t with level := some 1 }).own F.FSUP_PKG_CFG_ACTION 1

/-- The whole device with that field die and the link up. -/
def deviceFollowsOverLimit : State := { ld := { linkUp := true }, fd := followerOverLimit }

theorem followerOverLimit_nextShed : followerOverLimit.nextShed .package = some 0 := by decide

/-- Refutes O36: in its fifth clause GOVERNOR_SHED_STEP holds off the next switch, but on a follower in FOLLOW the governor acts on no output
(R319). -/
theorem not_reflexBudgetRows : ¬ Obligations.ReflexBudgetRows := by
  unfold Obligations.ReflexBudgetRows
  rintro ⟨-, -, -, -, hshed, -⟩
  obtain ⟨t, ht, hgov, -⟩ := hshed deviceFollowsOverLimit 0 70000 ⟨rfl, rfl, rfl⟩ rfl (by decide) (by decide) followerOverLimit_nextShed
  obtain rfl : drain { deviceFollowsOverLimit with fd := followerOverLimit.govStep } = t :=
    Host.Outcome.next.inj ((runField_up Field.govStep deviceFollowsOverLimit rfl rfl).symm.trans ht)
  rw [drain_fd_at_term, Field.govStep_follow rfl] at hgov
  exact absurd hgov (by decide)

end Sys2Proof.Machine
end

section
/-! Settling several outputs, and an event that goes on showing while later messages arrive (R25, R51, R222). -/

namespace Sys2Proof.Machine

open Sys2Proof

/-! Events. -/

/-- A message after which an event that shows goes on showing. -/
def FMsg.KeepsEvents (m : FMsg) : Prop :=
  ∀ (t p b : Nat) (l : Logic), b < 32 → l.gb ⟨R.EVT_RAW p, b, 1⟩ = true → (takeMsg t m l).gb ⟨R.EVT_RAW p, b, 1⟩ = true

theorem FMsg.keepsEvents_of_isMark {m : FMsg} (h : m.isMark = true) : m.KeepsEvents := fun t p b l hb => takeMsg_mark_evt h t p b hb l

theorem FMsg.keepsEvents_evt (page p2 : Nat) {bit : Nat} (hb : bit < 32) (inj quiet : Bool) : (FMsg.evt page bit p2 inj quiet).KeepsEvents :=
  keepsEvents_of_isMark (decide_eq_true hb)

/-- The abort of a handover is the pair's own. -/
theorem FMsg.keepsEvents_abort (c : Nat) : (FMsg.abort c).KeepsEvents := by
  intro t p b l _ h
  have hregs : (l.abortCause c).regs = l.regs := by
    unfold Logic.abortCause
    split
    · dsimp only
      split <;> rfl
    · rfl
  rwa [takeMsg, Logic.gb, hregs]

/-- OUTHOLD is no event. -/
theorem FMsg.keepsEvents_outhold (n v : Nat) : (FMsg.put ⟨R.DEVICE_OUTHOLD, n, 1⟩ v).KeepsEvents := by
  intro t p b l _ h
  have hother : regHome (R.EVT_RAW p) ≠ regHome R.DEVICE_OUTHOLD := by
    intro heq
    have hoff := congrArg (· % 256) heq
    simp only [regHome_mod, R.EVT_RAW, R.DEVICE_OUTHOLD] at hoff
    omega
  have hput : (l.put ⟨R.DEVICE_OUTHOLD, n, 1⟩ v).gb ⟨R.EVT_RAW p, b, 1⟩ = l.gb ⟨R.EVT_RAW p, b, 1⟩ := by
    rw [Logic.gb, Fld.get, Logic.put, Fld.word_set_other _ v l.regs hother]
    rfl
  rwa [takeMsg, Logic.when, if_neg (by decide : ¬hwOwned R.DEVICE_OUTHOLD = true), hput]

/-- The field die tells an event, and after it only what goes on showing it. -/
def Field.Says (page bit : Nat) (f : Field) : Prop :=
  ∃ before q i u after, f.out = before ++ .evt page bit q i u :: after ∧ ∀ m ∈ after, m.KeepsEvents

namespace Field

theorem says_evt (page bit p2 : Nat) (inj quiet : Bool) (f : Field) : (f.evt page bit p2 inj quiet).Says page bit :=
  ⟨f.out, p2, inj, quiet, [], rfl, fun _ hm => absurd hm List.not_mem_nil⟩

theorem Says.append {page bit : Nat} {f g : Field} {es : List FMsg} (h : f.Says page bit) (hout : g.out = f.out ++ es)
    (hes : ∀ m ∈ es, m.KeepsEvents) : g.Says page bit := by
  obtain ⟨before, q, i, u, after, hf, hafter⟩ := h
  exact ⟨before, q, i, u, after ++ es, by rw [hout, hf, List.append_assoc, List.cons_append], List.forall_mem_append.mpr ⟨hafter, hes⟩⟩

/-- An event that the field die says shows on the logic die. -/
theorem Says.drain {s : State} {page bit : Nat} (h : s.fd.Says page bit) (hl : s.ld.linkUp = true) (hb : bit < 32) :
    (drain s).ld.gb ⟨R.EVT_RAW page, bit, 1⟩ = true := by
  obtain ⟨before, q, i, u, after, hout, hafter⟩ := h
  have hkeep (ms : List FMsg) (hms : ∀ m ∈ ms, m.KeepsEvents) (l : Logic) (hset : l.gb ⟨R.EVT_RAW page, bit, 1⟩ = true) :
      (ms.foldl (fun l m => takeMsg s.fd.time m l) l).gb ⟨R.EVT_RAW page, bit, 1⟩ = true := by
    induction ms generalizing l with
    | nil => exact hset
    | cons m ms ih =>
      obtain ⟨hm, hms⟩ := List.forall_mem_cons.mp hms
      exact ih hms _ (hm _ _ _ l hb hset)
  rw [drain_ld s hl, hout, List.foldl_append, List.foldl_cons]
  refine hkeep after hafter _ ?_
  rw [takeMsg, Logic.gb, Logic.setEvt_regs]
  exact Logic.gb_put_one _ _ (by simp only [Fld.fits, decide_eq_true_eq]; omega) rfl

/-! Several outputs settle. -/

theorem Settled.refl (f : Field) : f.Settled f := ⟨rfl, fun _ _ _ => rfl, [], (List.append_nil _).symm, rfl⟩

theorem Settled.each (ns : List Nat) {c : Nat → Field → Field} (hc : ∀ n f, (c n f).Settled f) (f : Field) : (f.each ns c).Settled f := by
  induction ns generalizing f with
  | nil => exact .refl f
  | cons n ns ih => exact (ih _).trans (hc n f)

theorem Settled.settleAll (f : Field) : f.settleAll.Settled f :=
  (Settled.each allTerms (fun n f => .drive n f) _).trans (Settled.each allTerms (fun n f => .of_noted (f.noteOne_noted n)) f)

theorem untriggered_actFlds : ∀ n < 32, (actFlds n).all Fld.untriggered = true := by decide

/-- What R25 reads of a terminal stays as outputs settle. -/
theorem Settled.gb {g f : Field} (h : g.Settled f) {n : Nat} (hn : n < 32) {x : Fld} (hx : x ∈ actFlds n := by simp [actFlds]) :
    g.gb x = f.gb x :=
  congrArg (· != 0) (h.img x (List.all_eq_true.mp (undriven_actFlds n hn) x hx) (List.all_eq_true.mp (untriggered_actFlds n hn) x hx))

/-- What they tell is triggers that begin or end. -/
theorem Settled.says {g f : Field} (h : g.Settled f) : ∃ es, g.out = f.out ++ es ∧ ∀ m ∈ es, m.KeepsEvents := by
  obtain ⟨es, hout, hes⟩ := h.out
  exact ⟨es, hout, fun m hm => FMsg.keepsEvents_of_isMark (FMsg.isMark_of_isTrigger (List.all_eq_true.mp hes m hm))⟩

/-- What the supplies keep beside the outputs: the groups' run state, and whether the barrier's watchdog is armed. -/
def supplySide (f : Field) : Tab GroupRun × Bool := (f.groups, f.wdArmed)

@[simp] theorem supplySide_put (f : Field) (x : Fld) (v : Nat) : (f.put x v).supplySide = f.supplySide := (rfl)
@[simp] theorem supplySide_putb (f : Field) (x : Fld) (b : Bool) : (f.putb x b).supplySide = f.supplySide := (rfl)
@[simp] theorem supplySide_tell (f : Field) (m : FMsg) : (f.tell m).supplySide = f.supplySide := (rfl)
@[simp] theorem supplySide_evt (f : Field) (page bit p2 : Nat) (inj quiet : Bool) :
    (f.evt page bit p2 inj quiet).supplySide = f.supplySide := (rfl)
@[simp] theorem supplySide_modTerm (f : Field) (n : Nat) (c : TermRun → TermRun) : (f.modTerm n c).supplySide = f.supplySide := (rfl)
@[simp] theorem supplySide_modDout (f : Field) (n : Nat) (c : DoRun → DoRun) : (f.modDout n c).supplySide = f.supplySide := (rfl)
@[simp] theorem supplySide_modSs (f : Field) (n : Nat) (c : SsRun → SsRun) : (f.modSs n c).supplySide = f.supplySide := (rfl)

@[simp] theorem supplySide_when (c : Bool) (h : Field → Field) (f : Field) (hh : ∀ f, (h f).supplySide = f.supplySide) :
    (f.when c h).supplySide = f.supplySide := by
  cases c
  · rfl
  · exact hh f

theorem supplySide_noteTriggers (n : Nat) (f : Field) : (f.noteTriggers n).supplySide = f.supplySide := by
  unfold noteTriggers
  dsimp only
  repeat' split
  all_goals simp -implicitDefEqProofs

@[simp] theorem supplySide_noteOne (n : Nat) (f : Field) : (f.noteOne n).supplySide = f.supplySide :=
  supplySide_when _ _ f (supplySide_noteTriggers n)

theorem supplySide_driveDo (n : Nat) (a : Act) (shown : Option Act) (f : Field) : (f.driveDo n a shown).supplySide = f.supplySide := by
  simp -implicitDefEqProofs [driveDo, freshAttempts]

@[simp] theorem supplySide_showRail (n : Nat) (f : Field) : (f.showRail n).supplySide = f.supplySide := by
  simp -implicitDefEqProofs [showRail, apply_ite supplySide]

theorem supplySide_driveAo (n : Nat) (a : Act) (shown : Option Act) (f : Field) : (f.driveAo n a shown).supplySide = f.supplySide := by
  unfold driveAo
  dsimp only
  split
  all_goals simp -implicitDefEqProofs [apply_ite supplySide]

theorem supplySide_driveNow (n : Nat) (f : Field) : (f.driveNow n).supplySide = f.supplySide := by
  simp -implicitDefEqProofs [driveNow, apply_ite supplySide, supplySide_driveDo, supplySide_driveAo]

/-- What a partner is told is no part of it. -/
theorem supplySide_noticed (f : Field) (noticed : List Announced) (notices : List Notice) :
    ({ f with noticed, notices } : Field).supplySide = f.supplySide := rfl

theorem supplySide_tellPartner (n : Nat) (f : Field) : (f.tellPartner n).supplySide = f.supplySide := by
  unfold tellPartner
  split
  · exact supplySide_noticed f f.noticed _
  · rfl

@[simp] theorem supplySide_drive (n : Nat) (f : Field) : (f.drive n).supplySide = f.supplySide := by
  unfold drive
  dsimp only
  split
  · exact (supplySide_driveNow ..).trans (supplySide_noticed f _ f.notices)
  · split
    · split
      · rfl
      · exact supplySide_driveNow ..
    · split
      · exact (supplySide_tellPartner ..).trans (supplySide_driveNow ..)
      · exact (supplySide_tellPartner ..).trans (supplySide_noticed f _ f.notices)

@[simp] theorem supplySide_settle (n : Nat) (f : Field) : (f.settle n).supplySide = f.supplySide := by
  unfold settle
  split <;> simp -implicitDefEqProofs

theorem supplySide_settleAll (f : Field) : f.settleAll.supplySide = f.supplySide :=
  (each_leaves supplySide _ supplySide_drive _).trans (each_leaves supplySide _ supplySide_noteOne f)

theorem group_of_supplySide {g f : Field} (h : g.supplySide = f.supplySide) (k : Nat) : g.group k = f.group k := by
  rw [group, show g.groups = f.groups from congrArg Prod.fst h, group]

end Field

end Sys2Proof.Machine
end

section
/-! The flags WARN, LOW and UV of the supply groups: what setting and clearing one leaves of the others, and what it tells (R216, R217, R218,
R219). -/

namespace Sys2Proof.Machine

open Sys2Proof

/-! The supply groups' flags stand apart from whatever the outputs show. -/

theorem supplyFlag_fits (j : Group) (k : Fin 3) : (supplyFlag j k).fits = true ∧ (supplyFlag j k).len = 1 := by
  fin_cases k <;> exact ⟨rfl, rfl⟩

theorem supplyFlag_still : ∀ (j : Group) (k : Fin 3), (supplyFlag j k).undriven = true ∧ (supplyFlag j k).untriggered = true ∧
    (supplyFlag j k).offRails = true := by decide

/-- The other fields of FSUP that the sag policies write. -/
theorem supplyFlag_clear_group : ∀ (j g : Group) (k : Fin 3), (supplyFlag j k).clear (F.FSUP_GRP_STAT_RECOVERING g) = true ∧
    (supplyFlag j k).clear (F.FSUP_GRP_STAT_SHEDDING g) = true ∧ (supplyFlag j k).clear ⟨R.FSUP_LOWCOUNT, 8 * g, 8⟩ = true := by decide

/-- A field at another offset than SS_STAT's stands apart from every terminal's. -/
theorem Fld.clear_ssStat_of_offset {x : Fld} (h : x.addr % 256 ≠ 0x53) (n lo len : Nat) : x.clear ⟨R.TERM_SS_STAT n, lo, len⟩ = true := by
  have hoff : R.TERM_SS_STAT n % 256 = 0x53 := by
    unfold R.TERM_SS_STAT
    omega
  exact clear_of_apart (by simp [apart, hoff, h])

theorem supplyFlag_offset (j : Group) (k : Fin 3) : (supplyFlag j k).addr % 256 ≠ 0x53 := by revert j k; decide

/-- What the sag policies leave: the supply groups' flags, and the events that show. -/
structure Field.SupplyKept (h f : Field) : Prop where
  flag : ∀ (j : Group) (k : Fin 3), h.g (supplyFlag j k) = f.g (supplyFlag j k)
  out : ∃ es, h.out = f.out ++ es ∧ ∀ m ∈ es, m.KeepsEvents

namespace Field.SupplyKept

variable {f g h : Field}

theorem refl (f : Field) : f.SupplyKept f := ⟨fun _ _ => rfl, [], (List.append_nil _).symm, fun _ hm => absurd hm List.not_mem_nil⟩

theorem trans (a : h.SupplyKept g) (b : g.SupplyKept f) : h.SupplyKept f := by
  obtain ⟨es, hes, hall⟩ := a.out
  obtain ⟨es', hes', hall'⟩ := b.out
  exact ⟨fun j k => (a.flag j k).trans (b.flag j k), es' ++ es, by rw [hes, hes', List.append_assoc], List.forall_mem_append.mpr ⟨hall', hall⟩⟩

theorem gb (a : g.SupplyKept f) (j : Group) (k : Fin 3) : g.gb (supplyFlag j k) = f.gb (supplyFlag j k) := congrArg (· != 0) (a.flag j k)

/-- A change of run state alone. -/
theorem run (a : g.SupplyKept f) (himg : h.img = g.img) (hout : h.out = g.out) : h.SupplyKept f :=
  trans ⟨fun j k => by rw [Field.g, himg, Field.g], [], by rw [hout, List.append_nil], fun _ hm => absurd hm List.not_mem_nil⟩ a

theorem modTerm (a : g.SupplyKept f) (n : Nat) (c : TermRun → TermRun) : (g.modTerm n c).SupplyKept f := a.run rfl rfl
theorem modSs (a : g.SupplyKept f) (n : Nat) (c : SsRun → SsRun) : (g.modSs n c).SupplyKept f := a.run rfl rfl
theorem modGroup (a : g.SupplyKept f) (j : Nat) (c : GroupRun → GroupRun) : (g.modGroup j c).SupplyKept f := a.run rfl rfl
theorem modStep (a : g.SupplyKept f) (j : Nat) (c : StepRun → StepRun) : (g.modStep j c).SupplyKept f := a.run rfl rfl

theorem put (a : g.SupplyKept f) {y : Fld} (v : Nat) (hfits : y.fits = true) (hy : ∀ (j : Group) (k : Fin 3), (supplyFlag j k).clear y = true) :
    (g.put y v).SupplyKept f :=
  trans ⟨fun j k => g.g_put_clear _ y v hfits (hy j k), [], (List.append_nil _).symm, fun _ hm => absurd hm List.not_mem_nil⟩ a

theorem putSsStat (a : g.SupplyKept f) (n : Nat) {lo len : Nat} (v : Nat) (hfits : (Fld.mk (R.TERM_SS_STAT n) lo len).fits = true) :
    (g.put ⟨R.TERM_SS_STAT n, lo, len⟩ v).SupplyKept f :=
  a.put v hfits fun j k => Fld.clear_ssStat_of_offset (supplyFlag_offset j k) n lo len

theorem tell (a : g.SupplyKept f) {m : FMsg} (hm : m.KeepsEvents) : (g.tell m).SupplyKept f :=
  trans (g := g) ⟨fun _ _ => rfl, [m], rfl, by simpa using hm⟩ a

theorem evt (a : g.SupplyKept f) (page : Nat) {bit : Nat} (hb : bit < 32) : (g.evt page bit).SupplyKept f :=
  a.tell (FMsg.keepsEvents_evt page 0 hb false false)

theorem when (a : g.SupplyKept f) (c : Bool) {c' : Field → Field} (hc : ∀ u, u.SupplyKept f → (c' u).SupplyKept f) :
    (g.when c c').SupplyKept f := by
  cases c
  · exact a
  · exact hc g a

theorem each (a : g.SupplyKept f) (ns : List Nat) {c : Nat → Field → Field} (hc : ∀ n u, u.SupplyKept f → (c n u).SupplyKept f) :
    (g.each ns c).SupplyKept f := by
  induction ns generalizing g with
  | nil => exact a
  | cons n ns ih => exact ih (hc n g a)

theorem settle (a : g.SupplyKept f) (n : Nat) : (g.settle n).SupplyKept f := by
  have hset := Settled.settle n g
  refine trans ⟨fun j k => ?_, hset.says⟩ a
  obtain ⟨hdriven, htriggered, -⟩ := supplyFlag_still j k
  exact hset.img _ hdriven htriggered

theorem settles (a : g.SupplyKept f) (ns : List Nat) : (g.each ns Field.settle).SupplyKept f := a.each ns fun n _ hu => hu.settle n

section
variable (a : g.SupplyKept f) (j : Group)
include a

theorem recovering (v : Nat) : (g.put (F.FSUP_GRP_STAT_RECOVERING j) v).SupplyKept f :=
  a.put v rfl fun i k => (supplyFlag_clear_group i j k).1

theorem showShedding : (g.showShedding j).SupplyKept f := a.put _ rfl fun i k => (supplyFlag_clear_group i j k).2.1

/-! LOW and UV set (R217, R218). -/

omit j in
theorem shed (n : Nat) : (g.shed n).SupplyKept f := by
  unfold Field.shed
  split
  · exact a
  · exact ((a.putSsStat n 1 rfl).modSs n _).evt _ (by decide)

theorem shedBelow (bound : Nat) : (g.shedBelow j bound).SupplyKept f := by
  unfold Field.shedBelow
  extract_lets p u
  split
  · exact a
  · exact (a.modGroup j _).each _ fun n _ hu => hu.shed n

theorem lowSets : (g.lowSets j).SupplyKept f := by
  unfold Field.lowSets
  extract_lets f1 f2 f3 f4 f5
  have h1 : f1.SupplyKept f := a.put _ (by revert j; decide) fun i k => (supplyFlag_clear_group i j k).2.2
  have h3 : f3.SupplyKept f := (h1.modGroup j _).recovering j 0
  have h4 : f4.SupplyKept f := h3.each _ fun n _ hu => hu.modTerm n _
  have h5 : f5.SupplyKept f := by
    simp only [f5]
    split
    · exact h4.shedBelow j 16
    · exact h4.each _ fun n _ hu => (hu.putSsStat n 1 rfl).modSs n _
    · exact h4
  exact (h5.settles _).showShedding j

end

end Field.SupplyKept

namespace Field

/-- UV has set (R218): no stage of the group stays armed, none of its outputs waits for release, and a handover aborts. -/
def disarms (g : Nat) (f : Field) : Field :=
  let f := f.each ((groupTerms g).filter fun n => (f.term n).catch_ == .armed) fun n f => f.modTerm n fun t => { t with catch_ := .idle }
  let f := f.modGroup g fun r => { r with queue := [], uvOnly := false }
  let f := f.put (F.FSUP_GRP_STAT_RECOVERING g) 0
  f.when f.handover (Field.tell (.abort 3))

/-- Then its outputs show that they are below UV, and its converter stands still; they have not settled yet. -/
def losesSupply (g : Nat) (f : Field) : Field :=
  ((f.disarms g).each ((f.disarms g).groupOuts g) fun n f => (f.put (F.TERM_SS_STAT_UV n) 1).evt (R.pageTERM n) 31).modStep g fun s =>
    { s with low := 0, high := 0, lowAt := 0, highAt := 0, lowMoving := false, highMoving := false, plan := none }

theorem uvSets_eq (g : Nat) (f : Field) :
    f.uvSets g = ((f.losesSupply g).each ((f.losesSupply g).groupOuts g) settle).each (groupTerms g) showGroup := rfl

theorem SupplyKept.disarms {g f : Field} (a : g.SupplyKept f) (j : Group) : (g.disarms j).SupplyKept f :=
  (((a.each _ fun n _ hu => hu.modTerm n _).modGroup j _).recovering j 0).when _ fun _ hu => hu.tell (FMsg.keepsEvents_abort 3)

theorem SupplyKept.losesSupply {g f : Field} (a : g.SupplyKept f) (j : Group) : (g.losesSupply j).SupplyKept f :=
  ((a.disarms j).each _ fun n _ hu => (hu.putSsStat n 1 rfl).evt _ (by decide)).modStep j _

theorem out_showGroup (n : Nat) (f : Field) : (f.showGroup n).out = f.out := by
  simp -implicitDefEqProofs [showGroup, showRail, apply_ite Field.out]

theorem SupplyKept.uvSets {g f : Field} (a : g.SupplyKept f) (j : Group) : (g.uvSets j).SupplyKept f := by
  rw [uvSets_eq]
  refine ((a.losesSupply j).settles _).each _ fun n u hu => trans ⟨fun i k => ?_, [], ?_, fun _ hm => absurd hm List.not_mem_nil⟩ hu
  · exact (showGroup_sameFlag (supplyFlag_still i k).2.2 u n).flag
  · exact (out_showGroup n u).trans (List.append_nil _).symm

/-! Release (R219). -/

namespace SupplyKept

variable {f g : Field} (a : g.SupplyKept f)
include a

theorem setStay (n : Nat) (b : Bool) : (g.setStay n b).SupplyKept f :=
  (a.modSs n _).tell (FMsg.keepsEvents_outhold n (b2n b))

theorem releaseOne (j n : Nat) : (g.releaseOne j n).SupplyKept f := by
  unfold Field.releaseOne
  split
  · exact (a.putSsStat n 0 rfl).settle n
  · extract_lets held f1 f2 f3
    have h1 : f1.SupplyKept f := ((a.putSsStat n 0 rfl).putSsStat n 0 rfl).putSsStat n 0 rfl
    have h3 : f3.SupplyKept f := (h1.modSs n _).when _ fun _ hu => hu.setStay n true
    exact h3.settle n

variable (j : Group)

theorem releaseEnds : (g.releaseEnds j).SupplyKept f := by
  unfold Field.releaseEnds
  split
  · exact ((a.recovering j 0).evt _ (by omega)).showShedding j
  · split
    · exact (a.modGroup j _).recovering j 0
    · exact a

theorem releaseSome (k : Nat) : (g.releaseSome j k).SupplyKept f :=
  (((a.modGroup j _).each _ fun n _ hu => hu.releaseOne j n).releaseEnds j).showShedding j

theorem releaseBegins (ns : List Nat) (uvOnly : Bool) : (g.releaseBegins j ns uvOnly).SupplyKept f :=
  ((a.modGroup j _).recovering j 1).releaseSome j _

theorem recover : (g.recover j).SupplyKept f :=
  (a.each _ fun n _ hu => (hu.modSs n _).settle n).releaseBegins j _ false

end SupplyKept

/-! A flag that sets, and one that clears (R216). -/

/-- A flag shows, with its event and its fault event. -/
def showsFlag (g k : Nat) (inj : Bool) (f : Field) : Field :=
  ((f.put (supplyFlag g k) 1).evt R.pageFSUP (4 * k + g) (inj := inj)).fault (40 + k) false g inj

theorem flagSets_kept {j : Group} {k : Fin 3} {f : Field} (h : f.gb (supplyFlag j k) = false) (inj : Bool) :
    (f.flagSets j k inj).SupplyKept (f.showsFlag j k inj) := by
  have hrefl := SupplyKept.refl (f.showsFlag j k inj)
  unfold flagSets
  rw [if_neg (Bool.eq_false_iff.mp h)]
  extract_lets u
  split
  · exact hrefl
  · exact hrefl.lowSets j
  · exact hrefl.uvSets j

theorem showsFlag_shows (j : Group) (k : Fin 3) (inj : Bool) (f : Field) : (f.showsFlag j k inj).gb (supplyFlag j k) = true :=
  gb_set f (supplyFlag_fits j k).1 (supplyFlag_fits j k).2

theorem showsFlag_says (g k : Nat) (inj : Bool) (f : Field) : (f.showsFlag g k inj).Says R.pageFSUP (4 * k + g) :=
  (says_evt R.pageFSUP (4 * k + g) 0 inj false (f.put (supplyFlag g k) 1)).append rfl
    fun m hm => FMsg.keepsEvents_of_isMark (by rw [List.mem_singleton.mp hm]; rfl)

theorem flagClears_kept {j : Group} {k : Fin 3} {f : Field} (h : f.gb (supplyFlag j k) = true) :
    (f.flagClears j k).SupplyKept (f.put (supplyFlag j k) 0) := by
  have hrefl := SupplyKept.refl (f.put (supplyFlag j k) 0)
  unfold flagClears
  rw [if_neg (by simp [h])]
  extract_lets u
  split
  · exact hrefl
  · split
    · exact hrefl
    · exact hrefl.recover j
  · split
    · exact hrefl.recover j
    · split
      · exact hrefl.releaseBegins j _ true
      · exact hrefl

end Field

end Sys2Proof.Machine
end

section
/-! The flags of SS_STAT, and how an output below UV settles (R25, R218). -/

namespace Sys2Proof.Machine

open Sys2Proof

namespace Field

/-! A flag of SS_STAT. -/

theorem clear_ssStat {n m : Nat} (h : n ≠ m) (lo len lo' len' : Nat) :
    (Fld.mk (R.TERM_SS_STAT n) lo len).clear ⟨R.TERM_SS_STAT m, lo', len'⟩ = true := by
  have hhome (k : Nat) : regHome (R.TERM_SS_STAT k) = 0x2053 + 256 * k := by
    unfold regHome R.TERM_SS_STAT
    rw [if_neg (by omega)]
  simp only [Fld.clear, hhome, Bool.or_eq_true, decide_eq_true_eq]
  omega

/-- A flag that is put on one terminal stands on another where it stood before. -/
theorem gb_put_ssStat {n m lo : Nat} {b : Bool} {f : Field} (hlo : lo < 32) (h : n = m ∨ f.gb ⟨R.TERM_SS_STAT n, lo, 1⟩ = b) :
    (f.putb ⟨R.TERM_SS_STAT m, lo, 1⟩ b).gb ⟨R.TERM_SS_STAT n, lo, 1⟩ = b := by
  have hfits (k : Nat) : (Fld.mk (R.TERM_SS_STAT k) lo 1).fits = true := by simp only [Fld.fits, decide_eq_true_eq]; omega
  by_cases hnm : n = m
  · subst hnm
    exact gb_putb_same f b (hfits n) rfl
  · exact (gb_put_clear f _ (hfits m) (clear_ssStat hnm lo 1 lo 1)).trans (h.resolve_left hnm)

theorem lt_of_mem_groupTerms {g : Group} {n : Nat} (h : n ∈ groupTerms g) : n < 32 := by
  obtain ⟨k, hk, rfl⟩ := List.mem_map.mp h
  have hk := List.mem_range.mp hk
  omega

theorem mem_groupOuts {g : Group} {n : Nat} {f : Field} (h : n ∈ f.groupOuts g) : n ∈ groupTerms g ∧ n < 32 ∧ isOut (f.func n) = true := by
  obtain ⟨hterm, hout⟩ := List.mem_filter.mp h
  exact ⟨hterm, lt_of_mem_groupTerms hterm, hout⟩

/-! Below UV (R218). -/

/-- An output below UV, outside a pair. -/
structure BelowUv (n : Nat) (f : Field) : Prop where
  uv : f.gb (F.TERM_SS_STAT_UV n) = true
  paired : f.paired = false
  out : isOut (f.func n) = true

/-- Below UV an output's action is OFF, its tie included (R25). -/
theorem act_level_of_uv {n : Nat} {f : Field} (h : f.gb (F.TERM_SS_STAT_UV n) = true) : (f.act n).level = none := by
  have hown : f.ownAct n = { rank := 1, cause := 3, level := none } := by simp [ownAct, h]
  have hrank (m : Nat) : ¬(f.ownAct m).rank < 1 := by
    unfold ownAct hostAct
    dsimp only
    repeat' split
    all_goals simp
  unfold act
  split
  · next m _ =>
    rw [hown, Act.above]
    split
    · rfl
    · rw [if_neg (hrank m)]
      split
      · assumption
      · rfl
  · rw [hown]

theorem BelowUv.of_settled {n : Nat} {f g : Field} (h : f.BelowUv n) (hn : n < 32) (hs : g.Settled f) (hp : g.paired = f.paired) :
    g.BelowUv n where
  uv := (hs.gb hn).trans h.uv
  paired := hp.trans h.paired
  out := by
    have hfunc := hs.img (F.TERM_CELLSTAT_FUNC_ACT n) (List.all_eq_true.mp (undriven_actFlds n hn) _ (by simp [actFlds])) (untriggered_func n hn)
    exact (congrArg isOut hfunc).trans h.out

theorem paired_settle (n : Nat) (f : Field) : (f.settle n).paired = f.paired :=
  show (f.settle n).measureSide.paired = f.measureSide.paired by rw [measureSide_settle]

section
variable {n : Nat} (hn : n < 32) {f : Field}
include hn

theorem want_drive_of_uv (h : f.gb (F.TERM_SS_STAT_UV n) = true) (hw : (f.term n).want = none) (k : Nat) :
    ((f.drive k).term n).want = none :=
  (f.want_drive hn k).elim (·.trans hw) (·.trans (act_level_of_uv h))

/-- An output below UV that is to be off stays so as outputs settle. -/
theorem want_settle_of_uv (h : f.gb (F.TERM_SS_STAT_UV n) = true) (hw : (f.term n).want = none) (k : Nat) :
    ((f.settle k).term n).want = none := by
  have hnoted {u : Field} (hu : u.Noted f) : u.gb (F.TERM_SS_STAT_UV n) = true ∧ (u.term n).want = none :=
    ⟨((Settled.of_noted hu).gb hn).trans h, (hu.want n).trans hw⟩
  unfold settle
  split
  · next m _ =>
    obtain ⟨huv, hwant⟩ := hnoted (((f.noteOne k).noteOne_noted m).trans (f.noteOne_noted k))
    exact want_drive_of_uv hn (((Settled.drive k _).gb hn).trans huv) (want_drive_of_uv hn huv hwant k) m
  · obtain ⟨huv, hwant⟩ := hnoted (f.noteOne_noted k)
    exact want_drive_of_uv hn huv hwant k

omit hn in
/-- An output outside a pair takes the action in force as it is driven. -/
theorem want_drive_unpaired (hp : f.paired = false) (hout : isOut (f.func n) = true) : ((f.drive n).term n).want = (f.act n).level := by
  have hannounces : f.announces n = false := by simp [announces, hp]
  have hnow (u : Field) (hu : isOut (u.func n) = true) : ((u.driveNow n).term n).want = (u.act n).level := by
    unfold driveNow
    split
    · rw [(u.driveDo_kept n _ none).want, term_takesAct, if_pos rfl]
    · next hdo =>
      rw [if_pos (by simpa [isOut, hdo] using hu), (u.driveAo_kept n _ none).want, term_takesAct, if_pos rfl]
  rw [drive, hannounces]
  exact hnow { f with noticed := f.noticed.filter fun x => x.n != n } hout

/-- An output below UV is to be off as it settles. -/
theorem BelowUv.want_settle (h : f.BelowUv n) : ((f.settle n).term n).want = none := by
  have hdrive {u : Field} (hu : u.Noted f) : u.gb (F.TERM_SS_STAT_UV n) = true ∧ ((u.drive n).term n).want = none := by
    obtain ⟨huv, hp, hout⟩ := h.of_settled hn (.of_noted hu) hu.paired
    exact ⟨huv, (want_drive_unpaired hp hout).trans (act_level_of_uv huv)⟩
  unfold settle
  split
  · next m _ =>
    obtain ⟨huv, hwant⟩ := hdrive (((f.noteOne n).noteOne_noted m).trans (f.noteOne_noted n))
    exact want_drive_of_uv hn (((Settled.drive n _).gb hn).trans huv) hwant m
  · exact (hdrive (f.noteOne_noted n)).2

end

/-- Outputs below UV are to be off once they have settled. -/
theorem want_settles_of_uv {ns : List Nat} {f : Field} (hns : ∀ n ∈ ns, n < 32 ∧ f.BelowUv n) :
    ∀ n ∈ ns, ((f.each ns settle).term n).want = none := by
  have hstays (n : Nat) (hn : n < 32) (ms : List Nat) (u : Field) (huv : u.gb (F.TERM_SS_STAT_UV n) = true) (hw : (u.term n).want = none) :
      ((u.each ms settle).term n).want = none := by
    induction ms generalizing u with
    | nil => exact hw
    | cons m ms ih => exact ih _ (((Settled.settle m u).gb hn).trans huv) (want_settle_of_uv hn huv hw m)
  induction ns generalizing f with
  | nil => exact fun _ hn => absurd hn List.not_mem_nil
  | cons k ns ih =>
    obtain ⟨⟨hk, hbelow⟩, hns⟩ := List.forall_mem_cons.mp hns
    have hset := Settled.settle k f
    refine List.forall_mem_cons.mpr ⟨hstays k hk ns _ ((hset.gb hk).trans hbelow.uv) (hbelow.want_settle hk), ih fun n hn => ?_⟩
    obtain ⟨hlt, hb⟩ := hns n hn
    exact ⟨hlt, hb.of_settled hlt hset (paired_settle k f)⟩

end Field

end Sys2Proof.Machine
end

section
/-! UV sets on a group: its outputs are to be off (R218). -/

namespace Sys2Proof.Machine

open Sys2Proof

namespace Field

theorem offRails_uv : ∀ n < 32, (F.TERM_SS_STAT_UV n).offRails = true := by decide

theorem want_showGroup (m n : Nat) (f : Field) : ((f.showGroup m).term n).want = (f.term n).want := by
  unfold showGroup
  dsimp only
  split
  · rw [(showRail_kept m _).want, put_at_term, put_at_term]
  · rfl

theorem clear_recovering : ∀ (n : Fin 32) (g : Group), (F.TERM_CELLSTAT_FUNC_ACT n).clear (F.FSUP_GRP_STAT_RECOVERING g) = true := by decide

theorem offset_func (n : Nat) : (F.TERM_CELLSTAT_FUNC_ACT n).addr % 256 ≠ 0x53 := by
  unfold F.TERM_CELLSTAT_FUNC_ACT R.TERM_CELLSTAT
  dsimp only
  omega

theorem offset_recovering : ∀ g : Group, (F.FSUP_GRP_STAT_RECOVERING g).addr % 256 ≠ 0x53 := by decide

theorem recovering_still : ∀ g : Group, (F.FSUP_GRP_STAT_RECOVERING g).undriven = true ∧ (F.FSUP_GRP_STAT_RECOVERING g).untriggered = true ∧
    (F.FSUP_GRP_STAT_RECOVERING g).offRails = true := by decide

theorem disarms_g (g : Nat) (x : Fld) (f : Field) : (f.disarms g).g x = (f.put (F.FSUP_GRP_STAT_RECOVERING g) 0).g x := by
  have himg : (f.disarms g).img = (f.put (F.FSUP_GRP_STAT_RECOVERING g) 0).img := by
    unfold disarms
    extract_lets f1 f2 f3
    have hcatch : f1.img = f.img :=
      each_leaves Field.img _ (c := fun n u => u.modTerm n fun t => { t with catch_ := .idle }) (fun _ _ => rfl) f
    have hrecovering : f3.img = (f.put (F.FSUP_GRP_STAT_RECOVERING g) 0).img := congrArg (Fld.set (F.FSUP_GRP_STAT_RECOVERING g) 0) hcatch
    unfold Field.when
    split <;> exact hrecovering
  rw [Field.g, himg, Field.g]

theorem losesSupply_g (g : Nat) {x : Fld} (hx : x.addr % 256 ≠ 0x53) (f : Field) : (f.losesSupply g).g x = (f.disarms g).g x := by
  rw [losesSupply, modStep_at_g]
  exact each_leaves (Field.g x) _ (c := fun n u => (u.put (F.TERM_SS_STAT_UV n) 1).evt (R.pageTERM n) 31)
    (fun n u => u.g_put_clear x _ 1 rfl (Fld.clear_ssStat_of_offset hx n 6 1)) (f.disarms g)

section
variable {g : Group} (f : Field)

theorem disarms_func {n : Nat} (hn : n < 32) : (f.disarms g).func n = f.func n :=
  (disarms_g g _ f).trans (g_put_clear _ _ _ _ rfl (clear_recovering ⟨n, hn⟩ g))

theorem losesSupply_func {n : Nat} (hn : n < 32) : (f.losesSupply g).func n = f.func n :=
  (losesSupply_g g (offset_func n) f).trans (disarms_func f hn)

theorem losesSupply_paired : (f.losesSupply g).paired = f.paired :=
  have hside : (f.losesSupply g).measureSide = f.measureSide := by simp -implicitDefEqProofs [losesSupply, disarms]
  show (f.losesSupply g).measureSide.paired = f.measureSide.paired by rw [hside]

theorem groupOuts_of_func {u : Field} (h : ∀ n < 32, u.func n = f.func n) : u.groupOuts g = f.groupOuts g :=
  List.filter_congr fun n hn => by rw [h n (lt_of_mem_groupTerms hn)]

theorem gb_showsUv {n m : Nat} {u : Field} (h : n = m ∨ u.gb (F.TERM_SS_STAT_UV n) = true) :
    ((u.put (F.TERM_SS_STAT_UV m) 1).evt (R.pageTERM m) 31).gb (F.TERM_SS_STAT_UV n) = true := by
  rw [gb_evt]
  exact gb_put_ssStat (b := true) (by decide) h

theorem losesSupply_uv : ∀ n ∈ f.groupOuts g, (f.losesSupply g).gb (F.TERM_SS_STAT_UV n) = true := by
  rw [← groupOuts_of_func f (fun _ => disarms_func (g := g) f), losesSupply]
  simp only [modStep_at_gb]
  exact each_establishes (p := fun n u => u.gb (F.TERM_SS_STAT_UV n) = true)
    (c := fun n u => (u.put (F.TERM_SS_STAT_UV n) 1).evt (R.pageTERM n) 31)
    (fun _ _ _ => gb_showsUv (.inl rfl)) (fun _ _ _ _ h => gb_showsUv (.inr h)) (f.disarms g)

/-- Outside a pair each output of the group is to be off, shows UV, and none recovers. -/
theorem uvSets_off (hp : f.paired = false) {n : Nat} (hn : n ∈ f.groupOuts g) :
    (f.uvSets g).gb (F.TERM_SS_STAT_UV n) = true ∧ ((f.uvSets g).term n).want = none ∧
      (f.uvSets g).gb (F.FSUP_GRP_STAT_RECOVERING g) = false := by
  have houts : (f.losesSupply g).groupOuts g = f.groupOuts g := groupOuts_of_func f fun _ => losesSupply_func f
  have hbelow : ∀ m ∈ f.groupOuts g, m < 32 ∧ (f.losesSupply g).BelowUv m := fun m hm =>
    have ⟨_, hlt, hout⟩ := mem_groupOuts hm
    ⟨hlt, losesSupply_uv f m hm, (losesSupply_paired f).trans hp, (congrArg isOut (losesSupply_func f hlt)).trans hout⟩
  have hset := Settled.each (f.groupOuts g) Settled.settle (f.losesSupply g)
  have hrails {x : Fld} (hx : x.offRails = true) (u : Field) : (u.each (groupTerms g) showGroup).gb x = u.gb x :=
    congrArg (· != 0) (SameFlag.each _ (fun m u => u.showGroup_sameFlag hx m) u).flag
  rw [uvSets_eq, houts]
  refine ⟨?uv, ?want, ?recovering⟩
  case uv =>
    rw [hrails (offRails_uv n (hbelow n hn).1), hset.gb (hbelow n hn).1]
    exact (hbelow n hn).2.uv
  case want =>
    rw [each_leaves (fun u => (u.term n).want) _ (fun m u => want_showGroup m n u)]
    exact want_settles_of_uv hbelow n hn
  case recovering =>
    obtain ⟨hdriven, htriggered, hoff⟩ := recovering_still g
    rw [hrails hoff, gb_eq, hset.img _ hdriven htriggered, losesSupply_g g (offset_recovering g), disarms_g]
    exact gb_cleared f rfl

end

end Field

end Sys2Proof.Machine
end

section
/-! Shedding and release (R217, R219). -/

namespace Sys2Proof.Machine

open Sys2Proof

namespace Field

/-! An output is shed (R217). -/

theorem gb_modSs (m : Nat) (c : SsRun → SsRun) (x : Fld) (f : Field) : (f.modSs m c).gb x = f.gb x := (rfl)

theorem gb_shed {n m : Nat} {u : Field} (h : n = m ∨ u.gb (F.TERM_SS_STAT_SHED n) = true) : (u.shed m).gb (F.TERM_SS_STAT_SHED n) = true := by
  unfold shed
  split
  · next hm =>
    rcases h with rfl | h
    · exact hm
    · exact h
  · rw [gb_evt, gb_modSs]
    exact gb_put_ssStat (b := true) (by decide) h

theorem supplySide_shed (n : Nat) (f : Field) : (f.shed n).supplySide = f.supplySide := by
  simp -implicitDefEqProofs [shed, apply_ite supplySide]

section
variable {g : Group} {bound : Nat} {f : Field} (hprio : f.nextPrio g bound ≠ 0)
include hprio

theorem shedBelow_eq : f.shedBelow g bound = (f.modGroup g fun r => { r with shedAt := f.nextPrio g bound }).each
    ((f.groupOuts g).filter fun n => f.c (F.TERM_SS_CFG_SHED_PRIO n) == f.nextPrio g bound) shed := if_neg hprio

/-- Every output of the next priority is shed, and the group notes the priority. -/
theorem shedBelow_sheds {n : Nat} (hn : n ∈ f.groupOuts g) (hnext : f.c (F.TERM_SS_CFG_SHED_PRIO n) = f.nextPrio g bound) :
    (f.shedBelow g bound).gb (F.TERM_SS_STAT_SHED n) = true ∧ ((f.shedBelow g bound).group g).shedAt = f.nextPrio g bound := by
  rw [shedBelow_eq hprio]
  constructor
  · exact each_establishes (p := fun n u => u.gb (F.TERM_SS_STAT_SHED n) = true) (c := shed) (fun _ _ _ => gb_shed (.inl rfl))
      (fun _ _ _ _ h => gb_shed (.inr h)) _ n (List.mem_filter.mpr ⟨hn, beq_iff_eq.mpr hnext⟩)
  · rw [group_of_supplySide (each_leaves supplySide _ supplySide_shed _), group_modGroup_same]

end

theorem offset_shedding : ∀ g : Group, (F.FSUP_GRP_STAT_SHEDDING g).addr % 256 ≠ 0x53 := by decide

/-- A flag of SS_STAT stands apart from the registers of a supply group. -/
theorem gb_put_group {n lo : Nat} {y : Fld} (hfits : y.fits = true) (hoff : y.addr % 256 ≠ 0x53) (v : Nat) (f : Field) :
    (f.put y v).gb ⟨R.TERM_SS_STAT n, lo, 1⟩ = f.gb ⟨R.TERM_SS_STAT n, lo, 1⟩ := by
  refine gb_put_clear f v hfits (Fld.clear_of_apart ?_)
  have hss : R.TERM_SS_STAT n % 256 = 0x53 := by
    unfold R.TERM_SS_STAT
    omega
  simp [Fld.apart, hss, Ne.symm hoff]

theorem showShedding_ssStat (g : Group) (n lo : Nat) (f : Field) :
    (f.showShedding g).gb ⟨R.TERM_SS_STAT n, lo, 1⟩ = f.gb ⟨R.TERM_SS_STAT n, lo, 1⟩ := by
  unfold showShedding putb
  exact gb_put_group rfl (offset_shedding g) _ f

theorem showShedding_group (g k : Nat) (f : Field) : (f.showShedding g).group k = f.group k := by
  rw [showShedding, putb, put_at_group]

/-- SHED_STEP sheds the outputs of the next priority (R217). -/
theorem shedStep_sheds {g : Group} {n : Nat} {f : Field} (hlow : f.gb (F.FSUP_GRP_STAT_LOW g) = true)
    (hpolicy : f.c (F.FSUP_GRP_POL_POLICY g) = 1) (hn : n ∈ f.groupOuts g)
    (hnext : f.c (F.TERM_SS_CFG_SHED_PRIO n) = f.nextPrio g (f.group g).shedAt) (hprio : f.nextPrio g (f.group g).shedAt ≠ 0) :
    (f.shedStep g).gb (F.TERM_SS_STAT_SHED n) = true ∧ ((f.shedStep g).group g).shedAt = f.nextPrio g (f.group g).shedAt ∧
      (f.shedStep g).gb (F.FSUP_GRP_STAT_SHEDDING g) = true := by
  obtain ⟨hshed, hat⟩ := shedBelow_sheds hprio hn hnext
  obtain ⟨hterm, hlt, -⟩ := mem_groupOuts hn
  have hstep : f.shedStep g = ((f.shedBelow g (f.group g).shedAt).each ((f.shedBelow g (f.group g).shedAt).groupOuts g) settle).showShedding g :=
    if_pos (by simp [hlow, hpolicy])
  rw [hstep]
  generalize f.shedBelow g (f.group g).shedAt = u at hshed hat
  generalize u.groupOuts g = ns
  have hsettled : (u.each ns settle).gb (F.TERM_SS_STAT_SHED n) = true := ((Settled.each ns Settled.settle u).gb hlt).trans hshed
  have hgroup : (u.each ns settle).group g = u.group g := group_of_supplySide (each_leaves supplySide ns supplySide_settle u) g
  generalize u.each ns settle = v at hsettled hgroup
  refine ⟨?shed, ?at_, ?shedding⟩
  case shed => exact (showShedding_ssStat g n 5 v).trans hsettled
  case at_ => rw [showShedding_group, hgroup, hat]
  case shedding =>
    refine (gb_putb_same v _ rfl rfl).trans (List.any_eq_true.mpr ⟨n, hterm, ?_⟩)
    rw [hsettled, Bool.true_or, Bool.true_or]

/-! An output is released (R219). -/

theorem supplySide_setStay (n : Nat) (b : Bool) (f : Field) : (f.setStay n b).supplySide = f.supplySide := rfl

theorem releaseOne_group (g n k : Nat) (f : Field) : (f.releaseOne g n).group k = f.group k := by
  refine group_of_supplySide ?_ k
  unfold releaseOne
  split
  · simp -implicitDefEqProofs
  · simp -implicitDefEqProofs [supplySide_setStay]

theorem releaseOne_uv (g : Nat) {n : Nat} (hn : n < 32) (f : Field) : (f.releaseOne g n).gb (F.TERM_SS_STAT_UV n) = false := by
  have huv (u : Field) : (u.put (F.TERM_SS_STAT_UV n) 0).gb (F.TERM_SS_STAT_UV n) = false := gb_cleared u rfl
  have hsettle {u : Field} (h : u.gb (F.TERM_SS_STAT_UV n) = false) : (u.settle n).gb (F.TERM_SS_STAT_UV n) = false :=
    ((Settled.settle n u).gb hn).trans h
  unfold releaseOne
  split
  · exact hsettle (huv f)
  · extract_lets held f1 f2 f3
    have h2 : f2.gb (F.TERM_SS_STAT_UV n) = false := huv _
    refine hsettle ?_
    simp only [f3, Field.when]
    split <;> exact h2

section
variable {g : Group} (f : Field)

theorem releaseEnds_queue : ((f.releaseEnds g).group g).queue = (f.group g).queue := by
  rw [releaseEnds]
  split
  · rw [showShedding_group, evt, tell_at_group, put_at_group]
  · split
    · rw [put_at_group, group_modGroup_same]
    · rfl

theorem put_recovering_ssStat (n lo : Nat) (u : Field) :
    (u.put (F.FSUP_GRP_STAT_RECOVERING g) 0).gb ⟨R.TERM_SS_STAT n, lo, 1⟩ = u.gb ⟨R.TERM_SS_STAT n, lo, 1⟩ :=
  gb_put_group rfl (offset_recovering g) 0 u

theorem releaseEnds_gb (n lo : Nat) : (f.releaseEnds g).gb ⟨R.TERM_SS_STAT n, lo, 1⟩ = f.gb ⟨R.TERM_SS_STAT n, lo, 1⟩ := by
  rw [releaseEnds]
  split
  · rw [showShedding_ssStat, gb_evt, put_recovering_ssStat]
  · split
    · rw [put_recovering_ssStat, modGroup_at_gb]
    · rfl

/-- RELEASE_STEP releases the next output (R219). -/
theorem releaseStep_releases {n : Nat} {q : List Nat} (hqueue : (f.group g).queue = n :: q) (hn : n < 32) :
    ((f.releaseStep g).group g).queue = q ∧ (f.releaseStep g).gb (F.TERM_SS_STAT_UV n) = false := by
  have hstep : f.releaseStep g = (((f.modGroup g fun r => { r with queue := q }).releaseOne g n).releaseEnds g).showShedding g := by
    rw [releaseStep, if_neg (by simp [hqueue]), releaseSome]
    simp only [hqueue]
    rfl
  have hpopped : ((f.modGroup g fun r => { r with queue := q }).group g).queue = q := by rw [group_modGroup_same]
  rw [hstep]
  generalize f.modGroup g (fun r => { r with queue := q }) = u at hpopped
  constructor
  · rw [showShedding_group, releaseEnds_queue, releaseOne_group, hpopped]
  · refine (showShedding_ssStat g n 6 _).trans ?_
    exact (releaseEnds_gb _ n 6).trans (releaseOne_uv g hn u)

end

end Field

end Sys2Proof.Machine
end

section
/-! Barrier silence and host forces (R220, R222). -/

namespace Sys2Proof.Machine

open Sys2Proof

namespace Field

/-! The barrier's watchdog expires (R220). -/

/-- The field die shows the silence. -/
def showsSilence (inj : Bool) (f : Field) : Field :=
  let u : Field := { f with wdArmed := false, report := true }
  (((u.put F.FSUP_BWSTAT_EXPIRED 1).putb F.FSUP_BWSTAT_RELEASE (f.paired && f.lead)).bump F.FSUP_BWSTAT_COUNT).evt R.pageFSUP 16 (inj := inj)

/-- An output learns of it: `lead` as RELEASE shows. -/
def silenceOne (lead : Bool) (n : Nat) (f : Field) : Field :=
  (f.put (F.TERM_SS_STAT_BARRIER n) 1).modSs n fun s => { s with release := s.release || lead }

/-- Every output learns of it; they have not settled yet. -/
def goesSilent (inj : Bool) (f : Field) : Field :=
  (f.showsSilence inj).each (allTerms.filter fun n => isOut ((f.showsSilence inj).func n)) (silenceOne (f.paired && f.lead))

section
variable {f : Field}

theorem watchdogExpires_eq (h : f.wdArmed = true) (inj : Bool) : f.watchdogExpires inj = (f.goesSilent inj).settleAll := if_pos h

theorem supplySide_silenceOne (lead : Bool) (n : Nat) (u : Field) : (u.silenceOne lead n).supplySide = u.supplySide := rfl

end

variable (inj : Bool) (f : Field)

theorem showsSilence_flags : (f.showsSilence inj).gb F.FSUP_BWSTAT_EXPIRED = true ∧
    (f.showsSilence inj).gb F.FSUP_BWSTAT_RELEASE = (f.paired && f.lead) := by
  unfold showsSilence
  extract_lets u
  rw [gb_evt, gb_evt, gb_bump_clear _ rfl (by decide), gb_bump_clear _ rfl (by decide)]
  constructor
  · rw [putb, gb_put_clear _ _ rfl (by decide)]
    exact gb_set u rfl rfl
  · exact gb_putb_same _ _ rfl rfl

theorem clear_func_silence : ∀ n : Fin 32, [F.FSUP_BWSTAT_EXPIRED, F.FSUP_BWSTAT_RELEASE, F.FSUP_BWSTAT_COUNT].all
    (F.TERM_CELLSTAT_FUNC_ACT n).clear = true := by decide

theorem showsSilence_func (n : Terminal) : (f.showsSilence inj).func n = f.func n := by
  have hclear (y : Fld) (hy : y ∈ [F.FSUP_BWSTAT_EXPIRED, F.FSUP_BWSTAT_RELEASE, F.FSUP_BWSTAT_COUNT] := by simp) :
      (F.TERM_CELLSTAT_FUNC_ACT n).clear y = true := List.all_eq_true.mp (clear_func_silence n) y hy
  unfold showsSilence func
  extract_lets u
  rw [evt_eq, tell_at_g, g_bump_clear _ _ _ rfl (hclear F.FSUP_BWSTAT_COUNT), putb, g_put_clear _ _ _ _ rfl (hclear F.FSUP_BWSTAT_RELEASE),
    g_put_clear _ _ _ _ rfl (hclear F.FSUP_BWSTAT_EXPIRED), Field.g, Field.g]

theorem gb_silenceOne {lead : Bool} {n m : Nat} {u : Field} (h : n = m ∨ u.gb (F.TERM_SS_STAT_BARRIER n) = true) :
    (u.silenceOne lead m).gb (F.TERM_SS_STAT_BARRIER n) = true := by
  rw [silenceOne, gb_modSs]
  exact gb_put_ssStat (b := true) (by decide) h

theorem goesSilent_barrier {n : Terminal} (hout : isOut (f.func n) = true) : (f.goesSilent inj).gb (F.TERM_SS_STAT_BARRIER n) = true :=
  each_establishes (p := fun n u => u.gb (F.TERM_SS_STAT_BARRIER n) = true) (fun _ _ _ => gb_silenceOne (.inl rfl))
    (fun _ _ _ _ h => gb_silenceOne (.inr h)) _ n
    (List.mem_filter.mpr ⟨List.mem_range.mpr n.isLt, by rw [showsSilence_func]; exact hout⟩)

theorem goesSilent_flag {x : Fld} (hx : x.addr % 256 ≠ 0x53) : (f.goesSilent inj).gb x = (f.showsSilence inj).gb x :=
  each_leaves (Field.gb x) _ (c := silenceOne (f.paired && f.lead)) (fun n u => by
    rw [silenceOne, gb_modSs]
    exact gb_put_clear u 1 rfl (Fld.clear_ssStat_of_offset hx n 2 1)) (f.showsSilence inj)

theorem wdArmed_of_supplySide {u : Field} {gs : Tab GroupRun} {b : Bool} (h : u.supplySide = (gs, b)) : u.wdArmed = b :=
  congrArg Prod.snd h

theorem supplySide_bump (x : Fld) (u : Field) : (u.bump x).supplySide = u.supplySide := (rfl)

theorem supplySide_showsSilence : (f.showsSilence inj).supplySide = (f.groups, false) := by
  rw [showsSilence, supplySide_evt, supplySide_bump, supplySide_putb, supplySide_put, supplySide]

theorem supplySide_goesSilent : (f.goesSilent inj).supplySide = (f.groups, false) :=
  (each_leaves supplySide _ (supplySide_silenceOne _) _).trans (f.supplySide_showsSilence inj)

theorem goesSilent_says : (f.goesSilent inj).Says R.pageFSUP 16 := by
  have hout : (f.goesSilent inj).out = (f.showsSilence inj).out ++ [] :=
    (each_leaves Field.out _ (c := silenceOne (f.paired && f.lead)) (fun _ _ => rfl) (f.showsSilence inj)).trans (List.append_nil _).symm
  exact (says_evt R.pageFSUP 16 0 inj false _).append hout fun _ hm => absurd hm List.not_mem_nil

theorem silence_still : [F.FSUP_BWSTAT_EXPIRED, F.FSUP_BWSTAT_RELEASE].all
    (fun x => x.undriven && x.untriggered && x.addr % 256 != 0x53) = true := by decide

/-- What shows of the silence stays as the outputs learn of it and settle. -/
theorem watchdogExpires_flag {f : Field} (h : f.wdArmed = true) {x : Fld} (hx : x ∈ [F.FSUP_BWSTAT_EXPIRED, F.FSUP_BWSTAT_RELEASE]) :
    (f.watchdogExpires inj).gb x = (f.showsSilence inj).gb x := by
  have hstill := List.all_eq_true.mp silence_still x hx
  simp only [Bool.and_eq_true, bne_iff_ne] at hstill
  obtain ⟨⟨hdriven, htriggered⟩, hoff⟩ := hstill
  rw [watchdogExpires_eq h, gb_eq, (Settled.settleAll _).img x hdriven htriggered, ← gb_eq, goesSilent_flag inj f hoff]

/-- BARRIER_WATCHDOG_EXPIRY takes every output to its safe state, or releases it on a lead (R220). -/
theorem watchdogExpires_silences {f : Field} (h : f.wdArmed = true) : (f.watchdogExpires inj).wdArmed = false ∧
    (f.watchdogExpires inj).gb F.FSUP_BWSTAT_EXPIRED = true ∧ (f.watchdogExpires inj).gb F.FSUP_BWSTAT_RELEASE = (f.paired && f.lead) ∧
    (∀ n : Terminal, isOut (f.func n) = true → (f.watchdogExpires inj).gb (F.TERM_SS_STAT_BARRIER n) = true) ∧
    (f.watchdogExpires inj).Says R.pageFSUP 16 := by
  obtain ⟨hexpired, hrelease⟩ := f.showsSilence_flags inj
  have hset := Settled.settleAll (f.goesSilent inj)
  refine ⟨?disarmed, (watchdogExpires_flag inj h (by simp)).trans hexpired, (watchdogExpires_flag inj h (by simp)).trans hrelease, ?outs, ?event⟩
  all_goals rw [watchdogExpires_eq h]
  case disarmed => exact wdArmed_of_supplySide ((supplySide_settleAll _).trans (supplySide_goesSilent inj f))
  case outs => exact fun n hout => (hset.gb n.isLt).trans (goesSilent_barrier inj f hout)
  case event =>
    obtain ⟨es, hes, hkeep⟩ := hset.says
    exact (goesSilent_says inj f).append hes hkeep

/-! The host forces a safe state (R222). -/

/-- A register of one writable bit holds the bit that is stored. -/
theorem store_bit {a : Nat} (hmask : writeMask a = 1) (on : Bool) (f : Field) : (f.store a (word (b2n on))).c ⟨a, 0, 1⟩ = b2n on := by
  have hbit (v : Word) : wbits v 0 1 = (v &&& word 1).toNat := by simp [wbits, word, BitVec.toNat_and, Nat.and_one_is_mod]
  have hstored := f.store_word a (word (b2n on))
  rw [hmask] at hstored
  rw [Field.c, Fld.get, hbit, hstored]
  cases on <;> rfl

theorem writeMask_ssForce : ∀ n < 32, writeMask (R.TERM_SS_FORCE n) = 1 := by decide

theorem takeTerm_ssForce (n : Nat) (w : Word) (f : Field) : f.takeTerm n 0x52 w = (f.store (R.TERM_SS_FORCE n) w).force n := by
  have haddr : R.CTRL (R.pageTERM n) - 1 + 0x52 = R.TERM_SS_FORCE n := by
    unfold R.CTRL R.pageTERM R.TERM_SS_FORCE
    omega
  rw [← haddr]
  rfl

/-- An output's force shows, and the outputs' commands stay. -/
theorem force_shows {n : Nat} (hn : n < 32) {f : Field} (hout : isOut (f.func n) = true) {on : Bool} (hon : f.c (F.TERM_SS_FORCE_FORCE n) = b2n on) :
    (f.force n).gb (F.TERM_SS_STAT_FORCE n) = on ∧ (f.force n).cfg = f.cfg := by
  rw [force, if_pos hout, hon]
  have hset := Settled.settle n (f.put (F.TERM_SS_STAT_FORCE n) (b2n on))
  exact ⟨(hset.gb hn).trans (gb_putb_same f on rfl rfl), hset.cfg⟩

end Field

theorem termRegister_ssForce (n : Terminal) : TermRegister n (R.TERM_SS_FORCE n) 0x52 :=
  termRegister ((by decide : ∀ n : Fin 32, isTermRegister n (R.TERM_SS_FORCE n) 0x52 = true) n)

end Sys2Proof.Machine
end

section
/-! The supply monitors' commands (R216, R217, R218, R219, R220, R222). -/

namespace Sys2Proof.Machine

open Sys2Proof

namespace Field

theorem cfg_of_measureSide {f g : Field} (h : g.measureSide = f.measureSide) : g.cfg = f.cfg :=
  show g.measureSide.cfg = f.measureSide.cfg by rw [h]

/-! A flag sets, and clears. -/

theorem flagSets_shows {g : Group} {k : Fin 3} {inj : Bool} {f : Field} (h : f.gb (supplyFlag g k) = false) :
    (f.flagSets g k inj).gb (supplyFlag g k) = true :=
  ((flagSets_kept h inj).gb g k).trans (showsFlag_shows ..)

theorem flagSets_says {g : Group} {k : Fin 3} {inj : Bool} {f : Field} (h : f.gb (supplyFlag g k) = false) :
    (f.flagSets g k inj).Says R.pageFSUP (4 * k + g) := by
  obtain ⟨es, hout, hkeep⟩ := (flagSets_kept h inj).out
  exact (showsFlag_says ..).append hout hkeep

theorem clear_flag_func : ∀ (n : Fin 32) (g : Group), (F.TERM_CELLSTAT_FUNC_ACT n).clear (supplyFlag g 2) = true := by decide

theorem showsUv_func {n : Nat} (hn : n < 32) (g : Group) (inj : Bool) (f : Field) : (f.showsFlag g 2 inj).func n = f.func n :=
  g_put_clear f _ _ 1 (supplyFlag_fits g 2).1 (clear_flag_func ⟨n, hn⟩ g)

theorem showsFlag_paired (g k : Nat) (inj : Bool) (f : Field) : (f.showsFlag g k inj).paired = f.paired := by
  rw [showsFlag, fault, tell_paired, evt_eq, tell_paired, put_paired]

theorem flagSets_uv {g : Group} {inj : Bool} {f : Field} (h : f.gb (supplyFlag g 2) = false) :
    f.flagSets g 2 inj = (f.showsFlag g 2 inj).uvSets g := if_neg (Bool.eq_false_iff.mp h)

theorem flagSets_off {g : Group} {inj : Bool} {f : Field} (h : f.gb (supplyFlag g 2) = false) (hp : f.paired = false) {n : Nat}
    (hn : n ∈ f.groupOuts g) : (f.flagSets g 2 inj).gb (F.TERM_SS_STAT_UV n) = true ∧ ((f.flagSets g 2 inj).term n).want = none ∧
      (f.flagSets g 2 inj).gb (F.FSUP_GRP_STAT_RECOVERING g) = false := by
  rw [flagSets_uv h]
  refine uvSets_off _ ((showsFlag_paired ..).trans hp) ?_
  rwa [groupOuts_of_func f fun _ hm => showsUv_func hm g inj f]

theorem flagClears_clears {g : Group} {k : Fin 3} (f : Field) : (f.flagClears g k).gb (supplyFlag g k) = false := by
  cases h : f.gb (supplyFlag g k) with
  | false => rwa [flagClears, if_pos (by simp [h])]
  | true => exact ((flagClears_kept h).gb g k).trans (gb_cleared f (supplyFlag_fits g k).1)

/-- The end of WARN is the flag's alone. -/
theorem flagClears_warn_terms (g : Group) (f : Field) : (f.flagClears g (0 : Fin 3)).terms = f.terms := by
  rw [Fin.val_zero]
  unfold flagClears
  split
  · rfl
  · exact put_terms ..

end Field

section
variable {s : State} (hup : s.up)
include hup

theorem supplyFlagSet_shows {g : Group} {k : Fin 3} (h : s.fd.gb (supplyFlag g k) = false) :
    Answers (exec (.supplyFlagSet g k) s) fun t => t.fd.gb (supplyFlag g k) = true ∧
      t.ld.gb ⟨R.EVT_RAW R.pageFSUP, 4 * k.val + g.val, 1⟩ = true ∧ t.fd.cfg = s.fd.cfg := by
  refine exec_of_runField hup (h := Field.flagSets g k false) rfl ⟨?_, ?_, ?_⟩
  · rw [drain_fd_at_gb]
    exact Field.flagSets_shows h
  · exact (Field.flagSets_says h).drain (s := { s with fd := s.fd.flagSets g k false }) hup.2.1 (by omega)
  · rw [drain_fd_cfg]
    exact Field.cfg_of_measureSide (Field.measureSide_flagSets ..)

theorem supplyFlagSet_off {g : Group} {n : Nat} (h : s.fd.gb (supplyFlag g 2) = false) (hn : n ∈ s.fd.groupOuts g)
    (hp : s.fd.paired = false) :
    Answers (exec (.supplyFlagSet g 2) s) fun t => t.fd.gb (F.TERM_SS_STAT_UV n) = true ∧ (t.fd.term n).want = none ∧
      t.fd.gb (F.FSUP_GRP_STAT_RECOVERING g) = false := by
  refine exec_of_runField hup (h := Field.flagSets g 2 false) rfl ?_
  simp only [drain_fd_at_gb, drain_fd_at_term]
  exact Field.flagSets_off h hp hn

theorem supplyFlagClear_clears (g : Group) (k : Fin 3) :
    Answers (exec (.supplyFlagClear g k) s) fun t => t.fd.gb (supplyFlag g k) = false ∧ t.fd.cfg = s.fd.cfg := by
  refine exec_of_runField hup (h := Field.flagClears g k) rfl ?_
  rw [drain_fd_at_gb, drain_fd_cfg]
  exact ⟨s.fd.flagClears_clears, Field.cfg_of_measureSide (Field.measureSide_flagClears ..)⟩

theorem supplyFlagClear_warn (g : Group) :
    Answers (exec (.supplyFlagClear g 0) s) fun t => t.fd.gb (supplyFlag g 0) = false ∧ t.fd.terms = s.fd.terms ∧ t.fd.cfg = s.fd.cfg := by
  refine exec_of_runField hup (h := Field.flagClears g (0 : Fin 3)) rfl ?_
  rw [drain_fd_at_gb, drain_fd_terms, drain_fd_cfg]
  exact ⟨s.fd.flagClears_clears, s.fd.flagClears_warn_terms g, Field.cfg_of_measureSide (Field.measureSide_flagClears ..)⟩

theorem shedStep_answers {g : Group} {n : Nat} (hlow : s.fd.gb (F.FSUP_GRP_STAT_LOW g) = true)
    (hpolicy : s.fd.c (F.FSUP_GRP_POL_POLICY g) = 1) (hn : n ∈ s.fd.groupOuts g)
    (hnext : s.fd.c (F.TERM_SS_CFG_SHED_PRIO n) = s.fd.nextPrio g (s.fd.group g).shedAt)
    (hprio : s.fd.nextPrio g (s.fd.group g).shedAt ≠ 0) :
    Answers (exec (.shedStep g) s) fun t => t.fd.gb (F.TERM_SS_STAT_SHED n) = true ∧
      (t.fd.group g).shedAt = s.fd.nextPrio g (s.fd.group g).shedAt ∧ t.fd.gb (F.FSUP_GRP_STAT_SHEDDING g) = true := by
  refine exec_of_runField hup (h := Field.shedStep g) rfl ?_
  simp only [drain_fd_at_gb, drain_fd_at_group]
  exact Field.shedStep_sheds hlow hpolicy hn hnext hprio

theorem releaseStep_answers {g : Group} {n : Nat} {q : List Nat} (hqueue : (s.fd.group g).queue = n :: q) (hn : n < 32) :
    Answers (exec (.releaseStep g) s) fun t => (t.fd.group g).queue = q ∧ t.fd.gb (F.TERM_SS_STAT_UV n) = false ∧ t.fd.cfg = s.fd.cfg := by
  obtain ⟨hleft, huv⟩ := s.fd.releaseStep_releases hqueue hn
  refine exec_of_runField hup (h := Field.releaseStep g) rfl ?_
  rw [drain_fd_at_group, drain_fd_at_gb, drain_fd_cfg]
  exact ⟨hleft, huv, Field.cfg_of_measureSide (Field.measureSide_releaseStep ..)⟩

theorem barrierWatchdogExpiry_silences (h : s.fd.wdArmed = true) :
    Answers (exec .barrierWatchdogExpiry s) fun t => t.fd.wdArmed = false ∧ t.fd.gb F.FSUP_BWSTAT_EXPIRED = true ∧
      t.fd.gb F.FSUP_BWSTAT_RELEASE = (s.fd.paired && s.fd.lead) ∧
      (∀ n : Terminal, isOut (s.fd.func n) = true → t.fd.gb (F.TERM_SS_STAT_BARRIER n) = true) ∧
      t.ld.gb ⟨R.EVT_RAW R.pageFSUP, 16, 1⟩ = true := by
  obtain ⟨hdisarmed, hexpired, hrelease, houts, hsays⟩ := Field.watchdogExpires_silences false h
  refine exec_of_runField hup (h := Field.watchdogExpires false) rfl ?_
  simp only [drain_fd_wdArmed, drain_fd_at_gb]
  exact ⟨hdisarmed, hexpired, hrelease, houts, hsays.drain (s := { s with fd := s.fd.watchdogExpires false }) hup.2.1 (by decide)⟩

theorem ssForceWrite_forces {ctr : Word} {n : Terminal} {on : Bool} (hcmds : s.ld.bar.cmds = [])
    (htakes : s.ld.takes ctr (R.TERM_SS_FORCE n) (word (b2n on))) (hout : isOut (s.fd.func n) = true) :
    Answers (exec (.ssForceWrite (some ctr) n on) s) fun t => t.ld.host.ferr = false ∧ t.fd.gb (F.TERM_SS_STAT_FORCE n) = on ∧
      t.fd.cb (F.TERM_SS_FORCE_FORCE n) = on := by
  obtain ⟨hfd, hferr⟩ := State.termWord_done hup hcmds htakes n.isLt (termRegister_ssForce n) rfl
  have hstored := s.fd.store_bit (Field.writeMask_ssForce n n.isLt) on
  obtain ⟨hforce, hcfg⟩ := Field.force_shows n.isLt (f := s.fd.store (R.TERM_SS_FORCE n) (word (b2n on))) hout hstored
  refine ⟨{ drain (s.wordFrame (some ctr) (R.TERM_SS_FORCE n) (word (b2n on))) with pending := s.pending }, rfl, ?_⟩
  generalize s.wordFrame (some ctr) (R.TERM_SS_FORCE n) (word (b2n on)) = u at hfd hferr
  rw [Field.take_term (termRegister_ssForce n), Field.takeTerm_ssForce] at hfd
  refine ⟨(congrArg HostRun.ferr (drain_ld_same u).host).trans hferr, ?_, ?_⟩
  · rw [drain_fd_at_gb, hfd, hforce]
  · rw [Field.cb_of_cfg ((drain_fd_cfg u).trans (hfd ▸ hcfg)), Field.cb_eq, F.TERM_SS_FORCE_FORCE, hstored, b2n_bne]

end

/-- Settles O35: a supply flag that sets or clears keeps the others and what it tells, an output below UV settles off, and the steps of
shedding and release, the barrier's silence and the host's force show on every output they name. -/
theorem supplyRows : Obligations.SupplyRows :=
  ⟨fun _ _ _ hup h => supplyFlagSet_shows hup h, fun _ _ _ hup h hn hp => supplyFlagSet_off hup h hn hp,
    fun _ g hup => supplyFlagClear_warn hup g, fun _ g k hup _ _ => supplyFlagClear_clears hup g k,
    fun _ _ _ hup hlow hpolicy hn hnext hprio => shedStep_answers hup hlow hpolicy hn hnext hprio,
    fun _ _ _ _ hup hqueue hn => releaseStep_answers hup hqueue hn, fun _ hup h => barrierWatchdogExpiry_silences hup h,
    fun _ _ _ _ hup hcmds _ htakes hout => ssForceWrite_forces hup hcmds htakes hout⟩

end Sys2Proof.Machine
end

section
/-! The queue of waiting commands (log entry 1): a step runs its front, and every command answers and leaves the rest. -/

namespace Sys2Proof.Machine

open Sys2Proof

/-- Settles O40: it is how a step is defined. -/
theorem stepRunsFront : Obligations.StepRunsFront := by
  unfold Obligations.StepRunsFront
  intro s c q hq
  rw [step, hq]

/-- On whichever die a command acts, it answers and leaves the queue. -/
theorem exec_keeps_pending (i : Instr) (s : State) : Answers (exec i s) fun t => t.pending = s.pending := by
  rcases exec_ways i s with hi | ⟨g, hg⟩ | ⟨g, hg⟩
  · obtain ⟨g, hg, -⟩ := exec_onLogicDie hi s
    rw [hg]
    exact ⟨_, runLogic_next g s, rfl⟩
  · rw [hg]
    obtain ⟨t, ht, hpending, -⟩ := runField_next g s
    exact ⟨t, ht, hpending⟩
  · rw [hg]
    exact ⟨_, runBoth_next g s, rfl⟩

/-- Settles O42: a command runs on the logic die, on the field die, or on both, and none of the three touches the queue. -/
theorem everyCommandAnswers : Obligations.EveryCommandAnswers := by
  unfold Obligations.EveryCommandAnswers
  refine ⟨exec_keeps_pending, fun s c q hq => ?_⟩
  rw [stepRunsFront s c q hq]
  exact exec_keeps_pending c { s with pending := q }

end Sys2Proof.Machine
end

section
/-! Three statements of a pair that fail: with the link down, the field die keeps at most 64 of the fault events that wait (R378), whatever
command runs. -/

namespace Sys2Proof.Machine

open Sys2Proof

/-- A command that acts on both dies while the link is down and 65 fault events of one source wait does not leave the field die as it is. -/
theorem runBoth_merges_manyFaults {s t : State} {g : State → State} (h : runBoth g s = .next t) (hs : s.fd.out.length = 65)
    (hg : (drain (g s)).fd.out.length = 64) : t.fd ≠ s.fd := by
  obtain rfl : { drain (g s) with pending := s.pending } = t := Host.Outcome.next.inj h
  intro hfd
  have hlength : (drain (g s)).fd.out.length = s.fd.out.length := congrArg (fun f : Field => f.out.length) hfd
  omega

/-- The link is down, the partner's too, and 65 fault events of one source wait on the field die. -/
def noPartnerManyFaults : State := { fd := { out := List.replicate 65 (.fault { src := 0, severe := false }) } }

/-- Refutes O17: in its fourth clause the field die does not stay as it is, for with the link down each command has it keep at most 64
events. -/
theorem not_pairRoleRows : ¬ Obligations.PairRoleRows := by
  unfold Obligations.PairRoleRows
  rintro ⟨-, -, -, hgone, -⟩
  obtain ⟨t, ht, rfl⟩ := hgone noPartnerManyFaults false rfl rfl
  exact runBoth_merges_manyFaults ht rfl rfl rfl

/-- The running lead of a READY pair, with an Owner's session; its partner port hears the partner under the pair key, its link to the field die
is down, and 65 fault events of one source wait there. -/
def leadManyFaults : State :=
  { ld := { regs := cellarIdOk.set 1 (F.DEVICE_MODE_PAIRED.set 1 (F.PAIR_STAT_LINK.set 1 leadOfReadyPair.ld.regs)), mode := .run
            boot := { logic := 2 }, sess := leadOfReadyPair.ld.sess, mram := { pairKey := some 0 } }
    fd := noPartnerManyFaults.fd }

/-- A frame of the partner that passes its checks there. -/
def passingFrame : PairSeen := { guard := true, tag := true, fseq := 0 }

theorem leadManyFaults_hears : leadManyFaults.ld.hears = true ∧ leadManyFaults.ld.passes passingFrame := by decide

theorem leadManyFaults_takes :
    leadManyFaults.ld.takesAsLead 5#32 (R.EVT_EN R.pageHOST) 1#32 ∧ leadManyFaults.ld.takesAsLead 5#32 R.PAIR_CMD 1#32 := by decide

/-- Refutes O16: in its clause on EVT_EN the field die does not stay as it is while the word waits for the partner, for with the link down each
command has it keep at most 64 events. -/
theorem not_pairStateRows : ¬ Obligations.PairStateRows := by
  unfold Obligations.PairStateRows
  rintro ⟨-, -, -, -, -, -, -, -, -, hmirrors, -⟩
  obtain ⟨t, ht, -, -, -, hfd, -⟩ :=
    hmirrors leadManyFaults 5#32 (Fin.ofNat 256 R.pageHOST) 1#32 rfl leadManyFaults_takes.1 (by decide)
  exact runBoth_merges_manyFaults ht rfl rfl hfd

/-- Refutes O18: in its first clause the field die does not stay as it is while the command waits for the partner, for with the link down each
command has it keep at most 64 events. -/
theorem not_handoverRows : ¬ Obligations.HandoverRows := by
  unfold Obligations.HandoverRows
  rintro ⟨hmirrors, -⟩
  obtain ⟨hhears, hpasses⟩ := leadManyFaults_hears
  obtain ⟨t, ht, ⟨-, -, -, hfd, -⟩, -⟩ := hmirrors leadManyFaults 5#32 passingFrame rfl leadManyFaults_takes.2 hhears hpasses rfl
  exact runBoth_merges_manyFaults ht rfl rfl hfd

end Sys2Proof.Machine
end

section
/-! Two statements of sessions and ownership that fail where the Cellar cannot take a key: no free key slot at a rekey, or a transfer that
names another configuration than ACTIVE. -/

namespace Sys2Proof.Machine

open Sys2Proof

/-- A proved rekey waits for its ACCEPT while a session is active, and the spare session slot is retired. -/
def rekeyWithoutSlot : State :=
  { ld := { mram := { larder := { retired := [(13, 15)] } }
            sess := { cur := some { id := 5, role := 3 }
                      hand := some { role := 3, result := resOk, rekey := true, proved := some { result := resOk, scope := 0, holder := 0, t2 := 0 } }
                      making := some (kAccept, resOk, []) } } }

/-- Refutes O6: in its clause on ACCEPT no slot may be free for the keys of a rekey (R279); then the message is refused and the session
that was active stays. -/
theorem not_sessionHandshakeRows : ¬ Obligations.SessionHandshakeRows := by
  unfold Obligations.SessionHandshakeRows
  rintro ⟨-, -, -, haccept, -⟩
  obtain ⟨t, ht, -, -, -, x, hcur, hid, -⟩ := haccept rekeyWithoutSlot _ _ [] (by decide) rfl rfl rfl
  obtain rfl := Host.Outcome.next.inj ht
  have hstays : ((State.accept rekeyWithoutSlot).ld.sess.cur.map (·.id)) = some 5 := by decide
  have hnew : ((State.accept rekeyWithoutSlot).ld.sess.cur.map (·.id)) = some 1 := by
    rw [show (State.accept rekeyWithoutSlot).ld.sess.cur = some x from hcur, Option.map_some, hid]
    rfl
  exact absurd (hstays.symm.trans hnew) (by decide)

/-- An Owner's transfer is to be answered; ACTIVE holds no crate, and the message names another. -/
def transferOfOther : State :=
  { ld := { sess := { cur := some { id := 5, role := 3 }
                      making := some (kTransferDone, resOk, List.replicate 61 1#32) } } }

/-- Refutes O7: in its clause on TRANSFER_DONE the message may name another configuration than the one that is ACTIVE by then; the transfer
is answered HASH and no key is stored. -/
theorem not_ownershipRows : ¬ Obligations.OwnershipRows := by
  unfold Obligations.OwnershipRows
  rintro ⟨-, -, -, -, -, hdone⟩
  obtain ⟨t, ht, howner, -⟩ := hdone transferOfOther _ (by decide) rfl rfl rfl
  obtain rfl := Host.Outcome.next.inj ht
  have hstays : (State.transferDone transferOfOther).ld.mram.owner = none := by decide
  exact absurd (hstays.symm.trans howner) (by simp)

end Sys2Proof.Machine
end

section
/-! Reading a register of the logic die after the bookkeeping operations: an event, a record, a fault event, what ends a frame. -/

namespace Sys2Proof.Machine

open Sys2Proof

namespace Logic

/-! A field, where the operation leaves the registers or writes elsewhere. -/

@[simp] theorem g_record (l : Logic) (r : LoftReq) (x : Fld) : (l.record r).g x = l.g x := rfl
@[simp] theorem g_fault (l : Logic) (k : Nat) (b : Bool) (p : Option Nat) (i : Bool) (x : Fld) : (l.fault k b p i).g x = l.g x := rfl
@[simp] theorem g_keep (l : Logic) (h : Mram → Mram) (x : Fld) : (l.keep h).g x = l.g x := rfl
@[simp] theorem g_loftKeep (l : Logic) (h : LoftStore → LoftStore) (x : Fld) : (l.loftKeep h).g x = l.g x := rfl
@[simp] theorem g_modPair (l : Logic) (h : PairRun → PairRun) (x : Fld) : (l.modPair h).g x = l.g x := rfl

theorem g_when (c : Bool) (h : Logic → Logic) (l : Logic) (x : Fld) : (l.when c h).g x = if c then (h l).g x else l.g x := by
  cases c <;> rfl

theorem g_when_same {c : Bool} {h : Logic → Logic} {x : Fld} (hh : ∀ l, (h l).g x = l.g x) (l : Logic) : (l.when c h).g x = l.g x := by
  rw [g_when, hh, ite_self]

@[simp] theorem g_sendPartner (l : Logic) (k : PFrame) (x : Fld) : (l.sendPartner k).g x = l.g x :=
  g_when_same (h := modPair _) (fun _ => rfl) l

theorem regs_setEvt (l : Logic) (p b q : Nat) (i u f : Bool) (t : Nat) (z : Option Nat) :
    (l.setEvt p b q i u f t z).regs = (l.put ⟨R.EVT_RAW p, b, 1⟩ 1).regs := by
  unfold setEvt when
  dsimp only
  split <;> rfl

theorem regs_evt (l : Logic) (p b q : Nat) (i u : Bool) : (l.evt p b q i u).regs = (l.put ⟨R.EVT_RAW p, b, 1⟩ 1).regs := regs_setEvt ..

theorem g_evt (l : Logic) (p b q : Nat) (i u : Bool) (x : Fld) : (l.evt p b q i u).g x = (l.put ⟨R.EVT_RAW p, b, 1⟩ 1).g x :=
  congrArg x.get (l.regs_evt p b q i u)

theorem g_evt_clear (l : Logic) {p b : Nat} (q : Nat) (i u : Bool) {x : Fld} (hb : b < 32) (h : x.clear ⟨R.EVT_RAW p, b, 1⟩ = true) :
    (l.evt p b q i u).g x = l.g x :=
  (l.g_evt p b q i u x).trans (l.g_put_clear x _ 1 (decide_eq_true (Nat.succ_le_of_lt hb)) h)

theorem gb_evt_same (l : Logic) {p b : Nat} (q : Nat) (i u : Bool) (hb : b < 32) : (l.evt p b q i u).gb ⟨R.EVT_RAW p, b, 1⟩ = true :=
  (congrArg (· != 0) (l.g_evt p b q i u _)).trans (gb_put_one l _ (decide_eq_true (Nat.succ_le_of_lt hb)) rfl)

theorem gb_putb_same (l : Logic) {x : Fld} (b : Bool) (hx : x.fits = true) (hlen : x.len = 1) : (l.putb x b).gb x = b := by
  rw [gb_eq, putb, g_put_same _ _ _ hx, hlen]
  exact (congrArg (· != 0) (b2n_mod b)).trans (b2n_bne b)

theorem gb_put_same (l : Logic) {x : Fld} (v : Nat) (hx : x.fits = true) : (l.put x v).gb x = (v % 2 ^ x.len != 0) := by
  rw [gb_eq, g_put_same _ _ _ hx]

theorem g_of_regs {l m : Logic} (h : l.regs = m.regs) (x : Fld) : l.g x = m.g x := congrArg x.get h

theorem gb_of_g {l m : Logic} {x : Fld} (h : l.g x = m.g x) : l.gb x = m.gb x := congrArg (· != 0) h

/-! An event of a page of the logic die. -/

section
variable (l : Logic) (p b q : Nat) (i u : Bool)

@[simp] theorem evt_time : (l.evt p b q i u).time = l.time := setEvt_time ..
@[simp] theorem evt_mode : (l.evt p b q i u).mode = l.mode := setEvt_mode ..
@[simp] theorem evt_raised : (l.evt p b q i u).raised = l.raised := setEvt_raised ..
@[simp] theorem evt_draws : (l.evt p b q i u).draws = l.draws := setEvt_draws ..
@[simp] theorem evt_errout : (l.evt p b q i u).errout = l.errout := setEvt_errout ..
@[simp] theorem evt_minw : (l.evt p b q i u).minw = l.minw := setEvt_minw ..
@[simp] theorem evt_boot : (l.evt p b q i u).boot = l.boot := setEvt_boot ..
@[simp] theorem evt_bar : (l.evt p b q i u).bar = l.bar := setEvt_bar ..
@[simp] theorem evt_cores : (l.evt p b q i u).cores = l.cores := setEvt_cores ..
@[simp] theorem evt_mem : (l.evt p b q i u).mem = l.mem := setEvt_mem ..
@[simp] theorem evt_sess : (l.evt p b q i u).sess = l.sess := setEvt_sess ..
@[simp] theorem evt_crate : (l.evt p b q i u).crate = l.crate := setEvt_crate ..
@[simp] theorem evt_cellar : (l.evt p b q i u).cellar = l.cellar := setEvt_cellar ..
@[simp] theorem evt_clocks : (l.evt p b q i u).clocks = l.clocks := setEvt_clocks ..
@[simp] theorem evt_wdog : (l.evt p b q i u).wdog = l.wdog := setEvt_wdog ..
@[simp] theorem evt_faults : (l.evt p b q i u).faults = l.faults := setEvt_faults ..
@[simp] theorem evt_loft : (l.evt p b q i u).loft = l.loft := setEvt_loft ..
@[simp] theorem evt_larder : (l.evt p b q i u).larder = l.larder := setEvt_larder ..
@[simp] theorem evt_pair : (l.evt p b q i u).pair = l.pair := setEvt_pair ..
@[simp] theorem evt_mram : (l.evt p b q i u).mram = l.mram := setEvt_mram ..
@[simp] theorem evt_lifes : (l.evt p b q i u).lifes = l.lifes := setEvt_lifes ..
@[simp] theorem evt_shutting : (l.evt p b q i u).shutting = l.shutting := setEvt_shutting ..
@[simp] theorem evt_resets : (l.evt p b q i u).resets = l.resets := setEvt_resets ..
@[simp] theorem evt_released : (l.evt p b q i u).released = l.released := setEvt_released ..

end

/-! A word. -/

theorem word_put_other (l : Logic) {x : Fld} (v : Nat) {a : Nat} (h : regHome a ≠ regHome x.addr) :
    (l.put x v).regs.word a = l.regs.word a := x.word_set_other v l.regs h

theorem word_evt_other (l : Logic) {p b : Nat} (q : Nat) (i u : Bool) {a : Nat} (h : regHome a ≠ regHome (R.EVT_RAW p)) :
    (l.evt p b q i u).regs.word a = l.regs.word a := by
  rw [regs_evt]
  exact l.word_put_other 1 h

/-! What ends a frame writes four registers of the HOST page (R255, R258, R261). -/

/-- They are the page's events, what refused the frame last, and its counts. -/
def endWords : List Nat := [R.EVT_RAW R.pageHOST, R.HOST_ERR, R.HOST_ANOMALY, R.HOST_FERRCOUNT]

theorem not_mem_endWords {a : Nat} (h : 0x216 ≤ a) : a ∉ endWords := fun ha =>
  absurd ((by decide : ∀ x ∈ endWords, x < 0x216) a ha) (Nat.not_lt.mpr h)

section
variable {a : Nat}

theorem word_evtHost (h : regHome a ∉ endWords) (l : Logic) (b q : Nat) (i u : Bool) :
    (l.evt R.pageHOST b q i u).regs.word a = l.regs.word a :=
  l.word_evt_other q i u fun e => h (by rw [e]; decide)

theorem word_when {c : Bool} {k : Logic → Logic} (hk : ∀ l, (k l).regs.word a = l.regs.word a) (l : Logic) :
    (l.when c k).regs.word a = l.regs.word a := by
  cases c
  · rfl
  · exact hk l

theorem word_extraEdges (h : regHome a ∉ endWords) (l : Logic) : l.extraEdges.regs.word a = l.regs.word a :=
  (word_evtHost h ..).trans (word_put_other l _ fun e => h (by rw [e]; decide))

theorem word_frameError (h : regHome a ∉ endWords) (l : Logic) (op : Nat) (cs : List (Nat × Nat)) :
    (l.frameError op cs).regs.word a = l.regs.word a := by
  have hput (l : Logic) {x : Fld} (hx : regHome x.addr ∈ endWords) (v : Nat) : (l.put x v).regs.word a = l.regs.word a :=
    word_put_other l v fun e => h (by rw [e]; exact hx)
  cases cs with
  | nil => rfl
  | cons c cs =>
    unfold frameError
    dsimp only
    have hmark (l : Logic) {x : Fld} (hx : regHome x.addr ∈ endWords) (b q : Nat) (i u : Bool) :
        ((l.bump x).evt R.pageHOST b q i u).regs.word a = l.regs.word a := (word_evtHost h ..).trans (hput l hx _)
    refine (word_when (fun l => word_evtHost h ..) _).trans <| (word_when (fun l => word_evtHost h ..) _).trans <|
      (word_when (fun l => hmark l (by decide) ..) _).trans <| (word_when (fun l => hmark l (by decide) ..) _).trans <|
      (word_evtHost h ..).trans <| (hput _ (by decide) _).trans <| (hput _ (by decide) _).trans <| (hput _ (by decide) _).trans <|
      hput _ (by decide) _

/-- The end of a frame leaves every other register. -/
theorem word_endFrame (h : regHome a ∉ endWords) (l : Logic) (op : Nat) (cs : List (Nat × Nat)) (extra : Bool) :
    ((l.frameError op cs).when extra extraEdges).regs.word a = l.regs.word a :=
  (word_when (word_extraEdges h) _).trans (word_frameError h ..)

theorem g_endFrame {x : Fld} (h : regHome x.addr ∉ endWords) (l : Logic) (op : Nat) (cs : List (Nat × Nat)) (extra : Bool) :
    ((l.frameError op cs).when extra extraEdges).g x = l.g x := congrArg (wbits · x.lo x.len) (word_endFrame h l op cs extra)

theorem g_frameError {x : Fld} (h : regHome x.addr ∉ endWords) (l : Logic) (op : Nat) (cs : List (Nat × Nat)) :
    (l.frameError op cs).g x = l.g x := congrArg (wbits · x.lo x.len) (word_frameError h l op cs)

end

/-- HOST.ERR after a frame that one cause ended (R261). -/
structure Refused (op reason addr : Nat) (l : Logic) : Prop where
  reason : l.g F.HOST_ERR_REASON = reason % 16
  opcode : l.g F.HOST_ERR_OPCODE = op % 256
  addr : l.g F.HOST_ERR_ADDR = addr % 65536

theorem Refused.of_word {op r k : Nat} {l m : Logic} (h : l.Refused op r k) (hm : m.regs.word R.HOST_ERR = l.regs.word R.HOST_ERR) :
    m.Refused op r k :=
  have hg (x : Fld) (hx : x.addr = R.HOST_ERR) : m.g x = l.g x := congrArg (wbits · x.lo x.len) (hx ▸ hm)
  ⟨(hg _ rfl).trans h.reason, (hg _ rfl).trans h.opcode, (hg _ rfl).trans h.addr⟩

/-- Of several causes, the first in the table's order (R261). -/
def firstCause (c : Nat × Nat) (cs : List (Nat × Nat)) : Nat × Nat := cs.foldl (fun b x => if x.1 < b.1 then x else b) c

theorem frameError_refused (l : Logic) (op : Nat) (c : Nat × Nat) (cs : List (Nat × Nat)) :
    (l.frameError op (c :: cs)).Refused op (firstCause c cs).1 (firstCause c cs).2 := by
  have hevt (l : Logic) (b q : Nat) (i u : Bool) : (l.evt R.pageHOST b q i u).regs.word R.HOST_ERR = l.regs.word R.HOST_ERR :=
    l.word_evt_other q i u (by decide)
  have hbump (l : Logic) {x : Fld} (hx : regHome R.HOST_ERR ≠ regHome x.addr) : (l.bump x).regs.word R.HOST_ERR = l.regs.word R.HOST_ERR :=
    word_put_other l _ hx
  unfold frameError
  dsimp only
  refine Refused.of_word ?_ ((word_when (fun l => hevt ..) _).trans <| (word_when (fun l => hevt ..) _).trans <|
    (word_when (fun l => (hevt ..).trans (hbump l (by decide))) _).trans <|
    (word_when (fun l => (hevt ..).trans (hbump l (by decide))) _).trans <| hevt ..)
  refine ⟨?_, ?_, ?_⟩
  · rw [g_put_clear _ _ _ _ rfl rfl, g_put_clear _ _ _ _ rfl rfl, g_put_same _ _ _ rfl]
    rfl
  · rw [g_put_clear _ _ _ _ rfl rfl, g_put_same _ _ _ rfl]
    rfl
  · rw [g_put_same _ _ _ rfl]
    rfl

theorem endFrame_refused (l : Logic) (op : Nat) (c : Nat × Nat) (cs : List (Nat × Nat)) (extra : Bool) :
    ((l.frameError op (c :: cs)).when extra extraEdges).Refused op (firstCause c cs).1 (firstCause c cs).2 := by
  refine (l.frameError_refused op c cs).of_word (word_when (fun l => ?_) _)
  exact (l.bump _).word_evt_other _ _ _ (by decide) |>.trans (word_put_other l _ (by decide))

/-! Beside the registers, faults and records to come, and the port, it leaves the logic die. -/

/-- The logic die without them. -/
def bare (l : Logic) : Logic := { l with regs := [], raised := [], recs := [], host := {} }

/-- Whatever does not read them is the same of two logic dies that agree beside them. -/
theorem of_bare {α : Type} (p : Logic → α) {l m : Logic} (h : l.bare = m.bare) (hp : ∀ l : Logic, p l.bare = p l := by exact fun _ => rfl) :
    p l = p m := (hp l).symm.trans ((congrArg p h).trans (hp m))

section
variable (l : Logic)

@[simp] theorem bare_put (x : Fld) (v : Nat) : (l.put x v).bare = l.bare := (rfl)
@[simp] theorem bare_putb (x : Fld) (b : Bool) : (l.putb x b).bare = l.bare := (rfl)
@[simp] theorem bare_putWord (a : Nat) (w : Word) : (l.putWord a w).bare = l.bare := (rfl)
@[simp] theorem bare_bump (x : Fld) : (l.bump x).bare = l.bare := (rfl)
@[simp] theorem bare_fault (k : Nat) (b : Bool) (p : Option Nat) (i : Bool) : (l.fault k b p i).bare = l.bare := (rfl)
@[simp] theorem bare_record (r : LoftReq) : (l.record r).bare = l.bare := (rfl)
@[simp] theorem bare_gen (p : Nat) : (l.gen p).bare = l.bare := l.bare_put ..
@[simp] theorem bare_countRefusal (a reason : Nat) : (l.countRefusal a reason).bare = l.bare := by
  rw [countRefusal, bare_put, bare_put, bare_bump]
@[simp] theorem countRefusal_host (a reason : Nat) : (l.countRefusal a reason).host = l.host := by
  rw [countRefusal, put_host, put_host, bump_host]

theorem bare_when {c : Bool} {h : Logic → Logic} (hh : ∀ l, (h l).bare = l.bare) : (l.when c h).bare = l.bare := by
  cases c
  · rfl
  · exact hh l

@[simp] theorem bare_setEvt (p b q : Nat) (i u f : Bool) (t : Nat) (z : Option Nat) : (l.setEvt p b q i u f t z).bare = l.bare := by
  unfold setEvt
  extract_lets l1 p0 r
  rw [bare_when l1 fun l => l.bare_record r, bare_put]

@[simp] theorem bare_evt (p b q : Nat) (i u : Bool) : (l.evt p b q i u).bare = l.bare := by rw [evt, bare_setEvt]

@[simp] theorem bare_extraEdges : l.extraEdges.bare = l.bare := by rw [extraEdges, bare_evt, bare_bump]

@[simp] theorem bare_frameError (op : Nat) (cs : List (Nat × Nat)) : (l.frameError op cs).bare = l.bare := by
  cases cs with
  | nil => rfl
  | cons c cs =>
    unfold frameError
    dsimp only
    refine (bare_when _ fun l => by rw [bare_evt]).trans <| (bare_when _ fun l => by rw [bare_evt]).trans <|
      (bare_when _ fun l => by rw [bare_evt, bare_bump]).trans <| (bare_when _ fun l => by rw [bare_evt, bare_bump]).trans ?_
    rw [bare_fault, bare_evt, bare_put, bare_put, bare_put, bare_bump]
    rfl

theorem bare_endFrame (op : Nat) (cs : List (Nat × Nat)) (extra : Bool) : ((l.frameError op cs).when extra extraEdges).bare = l.bare :=
  (bare_when _ bare_extraEdges).trans (l.bare_frameError op cs)

/-- The port keeps all but the error mark. -/
theorem endFrame_host (op : Nat) (cs : List (Nat × Nat)) (extra : Bool) :
    ((l.frameError op cs).when extra extraEdges).host = { l.host with provoked := false, ferr := !cs.isEmpty || l.host.ferr } := by
  rw [when_host _ _ _ extraEdges_host]
  cases cs with
  | nil => rfl
  | cons c cs => exact l.frameError_host op c cs

end

/-- The logic die after the end of a frame that u leaves, for its causes. -/
structure Ends (op : Nat) (cs : List (Nat × Nat)) (t u : Logic) : Prop where
  host : t.host = { u.host with provoked := false, ferr := !cs.isEmpty || u.host.ferr }
  word : ∀ {a}, regHome a ∉ endWords → t.regs.word a = u.regs.word a
  bare : t.bare = u.bare
  refused : ∀ {c ds}, cs = c :: ds → t.Refused op (firstCause c ds).1 (firstCause c ds).2

theorem ends_of_eq {t u : Logic} {op : Nat} {cs : List (Nat × Nat)} {extra : Bool} (h : t = (u.frameError op cs).when extra extraEdges) :
    t.Ends op cs u := by
  subst h
  exact ⟨u.endFrame_host op cs extra, fun ha => word_endFrame ha .., u.bare_endFrame op cs extra, fun hcs => hcs ▸ u.endFrame_refused ..⟩

theorem Ends.get {t u : Logic} {op : Nat} {cs : List (Nat × Nat)} (h : t.Ends op cs u) {x : Fld} (hx : regHome x.addr ∉ endWords) :
    t.g x = u.g x := congrArg (wbits · x.lo x.len) (h.word hx)

end Logic

/-- A change of the logic die alone. -/
theorem State.onLd_ld (s : State) (h : Logic → Logic) : (s.onLd h).ld = h s.ld := rfl

theorem State.onLd_fd (s : State) (h : Logic → Logic) : (s.onLd h).fd = s.fd := rfl

end Sys2Proof.Machine
end

section
/-! A frame of the native port that is served, and the frame of one word that a session's counter vouches for (R246, R255, R303). -/

namespace Sys2Proof.Machine

open Sys2Proof

/-- Nothing refuses a frame as a whole on a port that serves, with a session where the opcode asks for one (R35, R256, R260, R285, R320). -/
theorem Logic.stops_serves {l : Logic} (hserves : l.serves = true) {op : Nat} {device : Bool}
    (hses : op = opWriteAuth ∨ op = opReadAuth → l.sess.cur.isSome = true) : l.openFrame.stops op device = [] := by
  simp only [Logic.serves, Bool.and_eq_true, Bool.not_eq_true', Bool.or_eq_true, beq_iff_eq] at hserves
  obtain ⟨⟨⟨⟨⟨⟨-, hmode⟩, hpending⟩, hrestarts⟩, hlost⟩, hbusy⟩, htesting⟩ := hserves
  have hpending' : l.openFrame.framePending = false := hpending
  have hrestarts' : l.openFrame.hostRestarts = false := hrestarts
  have hlost' : l.openFrame.hostLost = false := hlost
  have htesting' : l.openFrame.cellar.testing = false := htesting
  have hbusy' : l.openFrame.handoverBusy = false := by
    rw [← hbusy, Logic.handoverBusy, Logic.handoverBusy, Logic.g, l.openFrame_framed.get (by decide)]
    rfl
  have hrole : ((op == opWriteAuth || op == opReadAuth) && l.openFrame.sess.cur.isNone) = false := by
    by_cases h : op = opWriteAuth ∨ op = opReadAuth
    · have hsome : l.openFrame.sess.cur.isSome = true := hses h
      rw [← Option.not_isSome, hsome, Bool.not_true, Bool.and_false]
    · simp only [not_or] at h
      simp [h]
  have hmode' : l.openFrame.mode = .commission ∨ l.openFrame.mode = .run ∨ l.openFrame.mode = .safe := or_assoc.mp hmode
  unfold Logic.stops
  simp only [hpending', hrestarts', hlost', hbusy', htesting', hrole]
  rcases hmode' with h | h | h <;> simp [h]

/-- A port that serves answers, and no INJECT mark waits. -/
theorem Logic.serves_answers {l : Logic} (h : l.serves = true) : l.answers = true := by
  simp only [Logic.serves, Bool.and_eq_true] at h
  exact h.1.1.1.1.1.1

/-- A frame that nothing refuses as a whole does what its action does, and ends for the causes that it finds. -/
theorem State.frame_acts {op addr : Nat} {extra device cut : Bool} {act : State → List (Nat × Nat) × State} {s : State}
    (hanswers : s.ld.answers = true) (hstops : s.ld.openFrame.stops op device = []) :
    s.frame op addr extra act device cut =
      if (act (s.onLd Logic.openFrame)).2.ld.boot.logic = 0 then (act (s.onLd Logic.openFrame)).2
      else (act (s.onLd Logic.openFrame)).2.onLd fun l =>
        (l.frameError op (act (s.onLd Logic.openFrame)).1).when extra Logic.extraEdges := by
  simp only [Logic.answers, Bool.and_eq_true, Bool.not_eq_true'] at hanswers
  obtain ⟨⟨⟨hport, hshort⟩, -⟩, -⟩ := hanswers
  have hshort' : (s.onLd Logic.openFrame).ld.host.short = false := hshort
  have hstops' : (s.onLd Logic.openFrame).ld.stops op device = [] := hstops
  unfold State.frame
  rw [if_neg (by simp [hport])]
  simp only [hshort', Bool.false_eq_true, if_false, hstops']

theorem Logic.answers_boot {l : Logic} (h : l.answers = true) : l.boot.logic ≠ 0 := by
  simp only [Logic.answers, Bool.and_eq_true] at h
  exact Logic.portUp_boot h.1.1.1

/-- A command that leaves nothing to tell: the logic die is as it leaves it, the field die beside its messages too. -/
theorem answers_told {g : State → State} {s : State} {p : State → Prop} (htold : s.told = true) (hlink : (g s).ld.linkUp = s.ld.linkUp)
    (hout : (g s).fd.out = s.fd.out)
    (hp : ∀ t : State, t.ld = (g s).ld → { t.fd with out := s.fd.out } = { (g s).fd with out := s.fd.out } → p t) :
    Answers (runBoth g s) p := by
  refine ⟨_, rfl, hp _ (drain_ld_told _ (State.told_of_same htold hlink hout)) ?_⟩
  change { (drain (g s)).fd with out := s.fd.out } = _
  rw [drain_fd]

/-- A frame whose action leaves nothing to tell. -/
theorem answers_frameFd {op addr : Nat} {extra device cut : Bool} {act : State → List (Nat × Nat) × State} {s u : State}
    {cs : List (Nat × Nat)} {p : State → Prop} (htold : s.told = true) (hanswers : s.ld.answers = true)
    (hstops : s.ld.openFrame.stops op device = []) (hact : act (s.onLd Logic.openFrame) = (cs, u)) (hboot : u.ld.boot = s.ld.boot)
    (hlink : u.ld.linkUp = s.ld.linkUp) (hout : u.fd.out = s.fd.out)
    (hp : ∀ t : State, t.ld = (u.ld.frameError op cs).when extra Logic.extraEdges →
      { t.fd with out := s.fd.out } = { u.fd with out := s.fd.out } → p t) :
    Answers (runBoth (fun s => s.frame op addr extra act device cut) s) p := by
  have hframe : s.frame op addr extra act device cut = u.onLd fun l => (l.frameError op cs).when extra Logic.extraEdges := by
    have hboot' : u.ld.boot.logic ≠ 0 := by
      rw [hboot]
      exact Logic.answers_boot hanswers
    rw [State.frame_acts hanswers hstops, hact]
    exact if_neg hboot'
  refine answers_told htold ?_ ?_ ?_ <;> rw [hframe]
  · exact (Logic.of_bare Logic.linkUp (u.ld.bare_endFrame op cs extra)).trans hlink
  · exact hout
  · exact hp

/-- A frame whose action leaves the field die as well. -/
theorem answers_frame {op addr : Nat} {extra device cut : Bool} {act : State → List (Nat × Nat) × State} {s u : State}
    {cs : List (Nat × Nat)} {p : State → Prop} (htold : s.told = true) (hanswers : s.ld.answers = true)
    (hstops : s.ld.openFrame.stops op device = []) (hact : act (s.onLd Logic.openFrame) = (cs, u)) (hboot : u.ld.boot = s.ld.boot)
    (hlink : u.ld.linkUp = s.ld.linkUp) (hfd : u.fd = s.fd)
    (hp : ∀ t : State, t.ld = (u.ld.frameError op cs).when extra Logic.extraEdges → { t.fd with out := s.fd.out } = s.fd → p t) :
    Answers (runBoth (fun s => s.frame op addr extra act device cut) s) p :=
  answers_frameFd htold hanswers hstops hact hboot hlink (congrArg Field.out hfd) fun t hld ht =>
    hp t hld (ht.trans (congrArg (fun f : Field => { f with out := s.fd.out }) hfd))

/-! A frame of one word. -/

/-- A session that has accepted a counter (R303). -/
def Session.accepted (ctr : Word) (x : Session) : Session := { x with top := ctr.toNat, count := x.count + 1 }

/-- Without an overlap of sessions, a counter below the warning is noted in the session alone (R303, R304). -/
theorem Logic.acceptCtr_cur {l : Logic} {x : Session} (hcur : l.sess.cur = some x) (hold : l.sess.old = none) {ctr : Word}
    (hctr : ctr.toNat < 0xFFFF0000) :
    l.acceptCtr x ctr.toNat = { l with sess := { l.sess with cur := some (x.accepted ctr) } } := by
  have hfirst : decide (0xFFFF0000 ≤ ctr.toNat) = false := decide_eq_false (by omega)
  unfold Logic.acceptCtr Logic.endOverlap Logic.when
  simp only [hfirst, Bool.false_and, Bool.false_eq_true, if_false, hold, hcur, Option.map_none, Option.map_some, Option.isSome_none, if_true,
    ite_self]
  rfl

/-- The logic die as a frame hands it to the word of session x: the frame is counted, and the session has accepted its counter. -/
def Logic.framed (x : Session) (ctr : Word) (l : Logic) : Logic :=
  { l.openFrame with sess := { l.sess with cur := some (x.accepted ctr) } }

theorem Logic.framed_framed (l : Logic) (x : Session) (ctr : Word) : (l.framed x ctr).Framed l := l.openFrame_framed.setSess _

/-- What the word of a session that serves does, its frame ends by; a word that resets the logic die ends it at once (R40, R246, R303). -/
theorem State.oneWord_ends {s : State} {ctr : Word} {a : Nat} {w : Word} (ht : s.ld.takes ctr a w)
    (act : Option Session → State → List (Nat × Nat) × State) :
    ∃ x, s.ld.sess.cur = some x ∧ ∀ cs u, act (some x) { s with ld := s.ld.framed x ctr } = (cs, u) →
      s.oneWord (some ctr) a w act = if u.ld.boot.logic = 0 then u else u.onLd (Logic.frameError opWriteAuth cs) := by
  obtain ⟨hserves, hlead, haccepts, -⟩ := ht
  have hanswers := Logic.serves_answers hserves
  cases hcur : s.ld.sess.cur with
  | none => simp [Logic.accepts, hcur] at haccepts
  | some x =>
    cases hold : s.ld.sess.old with
    | some y => simp [Logic.accepts, hcur, hold] at haccepts
    | none =>
      simp only [Logic.accepts, hcur, hold, Bool.and_eq_true, decide_eq_true_eq] at haccepts
      obtain ⟨hctr, hlimit⟩ := haccepts
      have hcur' : s.ld.openFrame.sess.cur = some x := hcur
      have hold' : s.ld.openFrame.sess.old = none := hold
      have haccept : s.ld.openFrame.acceptCtr x ctr.toNat = s.ld.framed x ctr := Logic.acceptCtr_cur hcur' hold' hlimit
      have hlead' : (s.ld.framed x ctr).leadReady = false := by
        rw [← hlead, Logic.leadReady, Logic.leadReady, ← (s.ld.framed_framed x ctr).gb (by decide), Logic.g, Logic.g,
          ← (s.ld.framed_framed x ctr).get (by decide)]
      have htag : s.ld.openFrame.host.badTag = false := by
        simp only [Logic.answers, Bool.and_eq_true, Bool.not_eq_true'] at hanswers
        exact hanswers.2
      have hjudged : s.ld.openFrame.judgedBy ctr.toNat (fun _ => false) = (some x, s.ld.openFrame) := by
        simp only [Logic.judgedBy, hold', hcur']
      refine ⟨x, rfl, fun cs u hu => ?_⟩
      have hacts : (fun s : State => State.onLd Logic.openFrame s) s = { s with ld := s.ld.openFrame } := rfl
      unfold State.oneWord
      dsimp only
      rw [State.frame_acts hanswers (Logic.stops_serves hserves fun _ => by rw [hcur]; rfl)]
      dsimp only [State.onLd]
      simp only [hjudged, hctr, Bool.not_true, Bool.false_eq_true, if_false, htag, haccept, hlead', hu]
      rfl

/-! A word of a register on the logic die. -/

/-- What refuses a word before the rules of its page is the same for a frame that has been counted. -/
theorem Logic.Framed.barredAll {a b : Logic} (h : a.Framed b) (ses : Option Session) {y : Nat} (w : Word) (r : RegRow)
    (hy : regHome y ≠ R.HOST_FRAMES) (hlock : regHome (lockedBit (y / 256)).addr ≠ R.HOST_FRAMES) : a.barred ses y w r = b.barred ses y w r := by
  have hneed : a.needRole y w = b.needRole y w := by
    unfold Logic.needRole
    rw [h.gb (x := approvedBit) (by decide)]
  have hmay (x : Session) : x.mayWrite y w a = x.mayWrite y w b := by rw [Session.mayWrite, Session.mayWrite, hneed]
  have hmerged : a.merged y w = b.merged y w := by rw [Logic.merged, Logic.merged, h.regs y hy]
  have hlocked : a.locked (y / 256) = b.locked (y / 256) := by rw [Logic.locked, Logic.locked, h.gb hlock, h.bar]
  cases ses <;> cases hcls : r.cls <;>
    simp only [Logic.barred, hcls, hmay, hmerged, hlocked, h.gb (x := F.DEVICE_MODE_PAIRED) (by decide)]

/-- A register that a host writes and no rule of whose page refuses a word in some states. -/
structure FreeRegister (a : Nat) : Prop where
  row : ∃ r, regRow a = some r ∧ r.acc ≠ .ro
  page : pageKind (a / 256) ≠ .reserved
  home : regHome a ≠ R.HOST_FRAMES
  lock : regHome (lockedBit (a / 256)).addr ≠ R.HOST_FRAMES
  own : hwOwned a = false
  free : ∀ (w : Word) (s : State), s.blocked a w = (none, s)

/-- Most of it, decided. -/
def isWritable (a : Nat) : Bool :=
  decide (pageKind (a / 256) ≠ .reserved ∧ regHome a ≠ R.HOST_FRAMES ∧ regHome (lockedBit (a / 256)).addr ≠ R.HOST_FRAMES) && !hwOwned a &&
    (regRow a).any fun r => r.acc != .ro

theorem freeRegister {a : Nat} (h : isWritable a = true) (hfree : ∀ (w : Word) (s : State), s.blocked a w = (none, s)) : FreeRegister a := by
  simp only [isWritable, Bool.and_eq_true, decide_eq_true_eq, Bool.not_eq_true', Option.any_eq_true, bne_iff_ne] at h
  obtain ⟨⟨⟨hpage, hhome, hlock⟩, hown⟩, hrow⟩ := h
  exact ⟨hrow, hpage, hhome, hlock, hown, hfree⟩

/-- A word that the session may write acts as its page says. -/
theorem State.judgeWord_framed {s : State} {l : Logic} {x : Session} {a : Nat} {w : Word} (ha : FreeRegister a) (h : l.Framed s.ld)
    (hcur : s.ld.sess.cur = some x) (hgrants : s.ld.grants a w = true) :
    ({ s with ld := l } : State).judgeWord (some x) a w 0#32 false = ({ s with ld := l } : State).actWord x.role a w 0#32 := by
  obtain ⟨r, hrow, hacc⟩ := ha.row
  have hbarred : l.barred (some x) a w r = none := by
    rw [h.barredAll (some x) w r ha.home ha.lock]
    simpa [Logic.grants, hcur, hrow] using hgrants
  simp only [State.judgeWord, hrow, if_neg hacc, hbarred, ha.own, Bool.false_and, Bool.false_eq_true, if_false, ha.free]

/-- A word that is carried out ends its frame without error; one that resets the logic die ends it at once. -/
theorem State.wordFrame_acts {s : State} {ctr : Word} {a : Nat} {w : Word} (ht : s.ld.takes ctr a w) (ha : FreeRegister a) :
    ∃ x, s.ld.sess.cur = some x ∧ ∀ u, ({ s with ld := s.ld.framed x ctr } : State).actWord x.role a w 0#32 = (.done, u) →
      s.wordFrame (some ctr) a w = if u.ld.boot.logic = 0 then u else u.onLd (Logic.frameError opWriteAuth []) := by
  obtain ⟨x, hcur, hends⟩ := State.oneWord_ends ht fun ses s => s.commitWord ses a w
  refine ⟨x, hcur, fun u hu => hends [] u ?_⟩
  refine State.commitWord_done _ a w 0#32 false _ _ ha.page ?_
  rw [State.judgeWord_framed ha (s.ld.framed_framed x ctr) hcur ht.2.2.2, hu]

/-- A word that acts on the logic die alone. -/
theorem answers_logicWord {s : State} {ctr : Word} {a : Nat} {w : Word} {p : State → Prop} (htold : s.told = true) (ht : s.ld.takes ctr a w)
    (ha : FreeRegister a)
    (h : ∀ x, s.ld.sess.cur = some x → ∃ l, ({ s with ld := s.ld.framed x ctr } : State).actWord x.role a w 0#32 = (.done, { s with ld := l }) ∧
      l.boot = s.ld.boot ∧ l.linkUp = s.ld.linkUp ∧ ∀ t : State, t.ld = l.frameError opWriteAuth [] → p t) :
    Answers (runBoth (fun s => s.wordFrame (some ctr) a w) s) p := by
  obtain ⟨x, hcur, hacts⟩ := State.wordFrame_acts ht ha
  obtain ⟨l, hact, hboot, hlink, hp⟩ := h x hcur
  have hboot' : l.boot.logic ≠ 0 := by
    rw [hboot]
    exact Logic.answers_boot (Logic.serves_answers ht.1)
  have hframe := (hacts _ hact).trans (if_neg hboot')
  refine answers_told htold ?_ ?_ ?_ <;> rw [hframe]
  · exact hlink
  · rfl
  · exact fun t ht _ => hp t ht

end Sys2Proof.Machine
end

section
/-! The Loft (R384, R385, R387, R388, R389): an event is taken, a record is written, the chain is checked, a clear leaves one record. -/

namespace Sys2Proof.Machine

open Sys2Proof

namespace Logic

/-- A record that is written stands last, under the next number (R382, R384). -/
theorem loftWrite_appends (l : Logic) (r : LoftReq) (h : l.mram.loft.recs.length ≠ 8192) :
    ∃ x head, (l.loftWrite r).bare =
        (l.loftKeep fun m => { m with recs := m.recs ++ [x], next := (m.next + 1) % 2 ^ 32, head := head }).bare ∧
      x.seq = l.mram.loft.next ∧ x.req.code = r.code ∧ x.req.time = r.time ∧ x.bad = false := by
  have hend (l : Logic) (c d : Bool) : (((l.when c (evt R.pageLOFT 0)).when d (evt R.pageLOFT 1)).gen R.pageLOFT).bare = l.bare := by
    rw [bare_gen, bare_when _ fun l => bare_evt .., bare_when _ fun l => bare_evt ..]
  unfold loftWrite
  dsimp only
  rw [if_neg h]
  exact ⟨_, _, hend _ _ _, rfl, rfl, rfl, rfl⟩

end Logic

/-- An event that nothing refuses joins the queue (R385). -/
theorem loftRecord_queues (s : State) (r : LoftReq) (hfirst : firstOf s.ld.recs = some r) (hroom : s.ld.mram.loft.recs.length ≠ 8192)
    (hqueue : s.ld.loft.queue.length < 64) (hcore : nbit s.ld.cores.lost 4 = false) (hclass : s.ld.classOn (r.code / 4096) = true) :
    Answers (exec .loftRecord s) fun t =>
      t.ld.loft.queue = s.ld.loft.queue ++ [r] ∧ t.ld.recs = s.ld.recs.erase r ∧ t.ld.mram = s.ld.mram := by
  refine ⟨_, runLogic_next Logic.loftRecord s, ?_⟩
  have htaken : ({ s.ld with recs := s.ld.recs.erase r } : Logic).loftTake r =
      ({ s.ld with recs := s.ld.recs.erase r, loft := { s.ld.loft with queue := s.ld.loft.queue ++ [r] } } : Logic).showQueue := by
    have hclass' : ({ s.ld with recs := s.ld.recs.erase r } : Logic).classOn (r.code / 4096) = true := hclass
    unfold Logic.loftTake
    rw [if_neg]
    simp [hroom, hcore, hclass', Nat.not_le.mpr hqueue]
  have hrecord : s.ld.loftRecord = ({ s.ld with recs := s.ld.recs.erase r } : Logic).loftTake r := by rw [Logic.loftRecord, hfirst]
  dsimp only
  rw [hrecord, htaken]
  exact ⟨rfl, rfl, rfl⟩

/-- The oldest event of the queue becomes a record (R384). -/
theorem loftWritten_appends (s : State) (r : LoftReq) (q : List LoftReq) (hqueue : s.ld.loft.queue = r :: q)
    (hclear : s.ld.loftClearing = false) (hcore : nbit s.ld.cores.lost 4 = false) (hroom : s.ld.mram.loft.recs.length < 8192) :
    Answers (exec .loftRecordWritten s) fun t => t.ld.loft.queue = q ∧ t.ld.mram.loft.recs.length = s.ld.mram.loft.recs.length + 1 ∧
      t.ld.mram.loft.next = (s.ld.mram.loft.next + 1) % 2 ^ 32 ∧
      ∃ x, t.ld.mram.loft.recs = s.ld.mram.loft.recs ++ [x] ∧ x.seq = s.ld.mram.loft.next ∧ x.req.code = r.code ∧ x.req.time = r.time ∧
        x.bad = false := by
  refine ⟨_, runLogic_next Logic.loftWritten s, ?_⟩
  have hwritten : s.ld.loftWritten = (({ s.ld with loft := { s.ld.loft with queue := q } } : Logic).loftWrite r).showQueue := by
    unfold Logic.loftWritten
    rw [hclear, hcore, hqueue]
    rfl
  obtain ⟨x, head, hbare, hx⟩ := Logic.loftWrite_appends { s.ld with loft := { s.ld.loft with queue := q } } r (Nat.ne_of_lt hroom)
  have hshow (l : Logic) : l.showQueue.loft = l.loft ∧ l.showQueue.mram = l.mram := ⟨rfl, rfl⟩
  obtain ⟨hloft, hmram⟩ := hshow (Logic.loftWrite r { s.ld with loft := { s.ld.loft with queue := q } })
  dsimp only
  rw [hwritten, hloft, hmram]
  refine ⟨Logic.of_bare (fun l => l.loft.queue) hbare, ?_, Logic.of_bare (fun l => l.mram.loft.next) hbare, x,
    Logic.of_bare (fun l => l.mram.loft.recs) hbare, hx⟩
  exact (Logic.of_bare (fun l => l.mram.loft.recs.length) hbare).trans List.length_append

/-! A check of the chain. -/

theorem freeRegister_loftCmd : FreeRegister R.LOFT_CMD := freeRegister (by decide) fun _ _ => rfl

/-- A check of the records there are begins; a clear may follow. -/
def Logic.loftChecks (clear force : Bool) (l : Logic) : Logic :=
  ({ l with loft := { l.loft with check := some (clear, force, l.mram.loft.recs.length) } } : Logic).put F.LOFT_VSTAT_STATE 1

/-- LOFT.CMD starts a check of the records there are, with no other in hand (R387, R388). -/
theorem loftCmd_begins {s : State} {ctr w : Word} {clear force : Bool} (htold : s.told = true) (ht : s.ld.takes ctr R.LOFT_CMD w)
    (hidle : s.ld.g F.LOFT_VSTAT_STATE = 0)
    (hcmd : ∀ l : Logic, l.g F.LOFT_VSTAT_STATE = 0 → l.loftCmd w = (.done, l.loftChecks clear force)) :
    Answers (runBoth (fun s => s.wordFrame (some ctr) R.LOFT_CMD w) s) fun t => t.ld.host.ferr = false ∧
      t.ld.loft.check = some (clear, force, s.ld.mram.loft.recs.length) ∧ t.ld.g F.LOFT_VSTAT_STATE = 1 ∧ t.ld.mram = s.ld.mram := by
  refine answers_logicWord htold ht freeRegister_loftCmd fun x _ => ⟨(s.ld.framed x ctr).loftChecks clear force, ?_, rfl, rfl, ?_⟩
  · change (let y := (s.ld.framed x ctr).loftCmd w; (y.1, { s with ld := y.2 })) = _
    rw [hcmd _ (((s.ld.framed_framed x ctr).get (x := F.LOFT_VSTAT_STATE) (by decide)).trans hidle)]
  · intro t ht
    rw [ht]
    exact ⟨(s.ld.framed_framed x ctr).ferr, rfl, Logic.g_put_same _ _ _ rfl, rfl⟩

theorem Logic.loftCmd_verify {l : Logic} (h : l.g F.LOFT_VSTAT_STATE = 0) : l.loftCmd 1#32 = (.done, l.loftChecks false false) := by
  unfold Logic.loftCmd
  dsimp only
  rw [if_neg (by decide), if_neg (not_not.mpr h), if_pos (by decide)]
  rfl

theorem Logic.loftCmd_clear {l : Logic} (h : l.g F.LOFT_VSTAT_STATE = 0) {w : Word} (hclear : wbit w 1 = true) (hkey : wbits w 16 16 = 0x10F7) :
    l.loftCmd w = (.done, l.loftChecks true (wbit w 2)) := by
  unfold Logic.loftCmd
  dsimp only
  rw [if_pos hclear, if_neg (not_not.mpr hkey), if_neg (not_not.mpr h)]
  rfl

/-- What a check that finds every record sound shows (R387). -/
def Logic.loftSound (l : Logic) : Logic :=
  (({ l with loft := { l.loft with failNext := false } } : Logic).put F.LOFT_VSTAT_RESULT 1).evt R.pageLOFT 3

/-- What a check that finds record i unsound shows (R387). -/
def Logic.loftUnsound (i : Nat) (l : Logic) : Logic :=
  ((({ l with loft := { l.loft with failNext := false } } : Logic).put F.LOFT_VSTAT_RESULT 2).put F.LOFT_VSTAT_FAIL_IDX i).evt R.pageLOFT 4

/-- No check is in hand. -/
def Logic.loftUnchecked (l : Logic) : Logic := ({ l with loft := { l.loft with check := none } } : Logic).put F.LOFT_VSTAT_STATE 0

section
variable {s : State} {clear force : Bool} {n : Nat}

theorem Logic.loftSound_shown {l m : Logic} (hregs : m.regs = l.loftSound.regs) (hmram : m.mram = l.loftSound.mram) (v : Nat) :
    (m.put F.LOFT_VSTAT_STATE v).g F.LOFT_VSTAT_RESULT = 1 ∧ (m.put F.LOFT_VSTAT_STATE v).gb ⟨R.EVT_RAW R.pageLOFT, 3, 1⟩ = true ∧
      (m.put F.LOFT_VSTAT_STATE v).g F.LOFT_VSTAT_STATE = v % 4 ∧ (m.put F.LOFT_VSTAT_STATE v).mram = l.mram := by
  refine ⟨?_, ?_, Logic.g_put_same _ _ _ rfl, hmram.trans (Logic.evt_mram ..)⟩
  · rw [Logic.g_put_clear _ _ _ _ rfl (by decide), Logic.g_of_regs hregs]
    exact (Logic.g_evt_clear _ _ _ _ (by decide) (by decide)).trans (Logic.g_put_same _ _ _ rfl)
  · rw [Logic.gb_put_clear _ _ _ _ rfl (by decide), Logic.gb_of_g (Logic.g_of_regs hregs _)]
    exact Logic.gb_evt_same _ _ _ _ (by decide)

/-- The chain checked from its first record to the last covered: all are sound (R387). -/
theorem loftVerifyDone_passes (hcheck : s.ld.loft.check = some (clear, force, n)) (hstate : s.ld.g F.LOFT_VSTAT_STATE = 1)
    (hfail : s.ld.loft.failNext = false) (hall : (s.ld.mram.loft.recs.take n).all (fun r => !r.bad) = true) :
    Answers (exec .loftVerifyDone s) fun t => t.ld.g F.LOFT_VSTAT_RESULT = 1 ∧ t.ld.gb ⟨R.EVT_RAW R.pageLOFT, 3, 1⟩ = true ∧
      t.ld.g F.LOFT_VSTAT_STATE = (if clear then 2 else 0) ∧ t.ld.mram = s.ld.mram := by
  have hfound : (s.ld.mram.loft.recs.take n).findIdx? (fun r => r.bad) = none :=
    List.findIdx?_eq_none_iff.mpr fun r hr => by simpa using List.all_eq_true.mp hall r hr
  have hchecked : s.ld.loftChecked = if clear then s.ld.loftSound.put F.LOFT_VSTAT_STATE 2 else s.ld.loftSound.loftUnchecked := by
    unfold Logic.loftChecked
    rw [hcheck]
    dsimp only
    rw [if_neg (not_not.mpr hstate), hfound, hfail]
    rfl
  refine ⟨_, runLogic_next Logic.loftChecked s, ?_⟩
  dsimp only
  rw [hchecked]
  cases clear
  · exact Logic.loftSound_shown (m := { s.ld.loftSound with loft := { s.ld.loftSound.loft with check := none } }) rfl rfl 0
  · exact Logic.loftSound_shown rfl rfl 2

/-- The first record that does not verify is shown, and the check ends (R387). -/
theorem loftVerifyDone_fails {i : Nat} (hcheck : s.ld.loft.check = some (false, force, n)) (hstate : s.ld.g F.LOFT_VSTAT_STATE = 1)
    (hfound : (s.ld.mram.loft.recs.take n).findIdx? (fun r => r.bad) = some i) :
    Answers (exec .loftVerifyDone s) fun t => t.ld.g F.LOFT_VSTAT_RESULT = 2 ∧
      t.ld.g F.LOFT_VSTAT_FAIL_IDX = i % 2 ^ F.LOFT_VSTAT_FAIL_IDX.len ∧ t.ld.g F.LOFT_VSTAT_STATE = 0 ∧ t.ld.loft.check = none := by
  have hchecked : ∃ r, s.ld.loftChecked = ((s.ld.loftUnsound i).record r).loftUnchecked := by
    unfold Logic.loftChecked
    rw [hcheck]
    dsimp only
    rw [if_neg (not_not.mpr hstate), hfound]
    exact ⟨_, rfl⟩
  obtain ⟨r, hchecked⟩ := hchecked
  have hshown {x : Fld} (hx : x.clear F.LOFT_VSTAT_STATE = true) : ((s.ld.loftUnsound i).record r).loftUnchecked.g x = (s.ld.loftUnsound i).g x :=
    (Logic.g_put_clear _ _ _ _ rfl hx).trans (Logic.g_of_regs rfl x)
  refine ⟨_, runLogic_next Logic.loftChecked s, ?_⟩
  dsimp only
  rw [hchecked, hshown (by decide), hshown (by decide), Logic.loftUnsound, Logic.g_evt_clear _ _ _ _ (by decide) (by decide),
    Logic.g_evt_clear _ _ _ _ (by decide) (by decide), Logic.g_put_clear _ _ _ _ rfl (by decide), Logic.g_put_same _ _ _ rfl,
    Logic.g_put_same _ _ _ rfl]
  exact ⟨rfl, rfl, Logic.g_put_same _ _ _ rfl, rfl⟩

end

/-- The Loft emptied by a clear: its records are gone, the chain goes on from its head (R388). -/
def Logic.loftEmptied (l : Logic) : Logic :=
  l.loftKeep fun m => { m with recs := [], dropped := 0, clears := (m.clears + 1) % 2 ^ 32, base := m.head }

/-- A clear leaves the record of itself alone (R388). -/
theorem loftClearDone_clears {s : State} (hstate : s.ld.g F.LOFT_VSTAT_STATE = 2) :
    Answers (exec .loftClearDone s) fun t => t.ld.mram.loft.recs.length = 1 ∧ (t.ld.mram.loft.recs.map fun r => r.req.code) = [3] ∧
      t.ld.mram.loft.dropped = 0 ∧ t.ld.mram.loft.clears = (s.ld.mram.loft.clears + 1) % 2 ^ 32 ∧
      t.ld.mram.loft.base = s.ld.mram.loft.head ∧ t.ld.loft.check = none ∧ t.ld.g F.LOFT_VSTAT_STATE = 0 := by
  have hcleared : ∃ r : LoftReq, r.code = 3 ∧ s.ld.loftCleared = (s.ld.loftEmptied.loftWrite r).loftUnchecked.evt R.pageLOFT 5 := by
    unfold Logic.loftCleared
    rw [if_neg (not_not.mpr hstate)]
    exact ⟨_, rfl, rfl⟩
  obtain ⟨r, hcode, hcleared⟩ := hcleared
  have hempty : s.ld.loftEmptied.mram.loft.recs = [] := rfl
  obtain ⟨x, head, hbare, -, hx, -, -⟩ := Logic.loftWrite_appends s.ld.loftEmptied r (by rw [hempty]; decide)
  have hmram : (s.ld.loftEmptied.loftWrite r).mram.loft =
      { s.ld.loftEmptied.mram.loft with recs := [x], next := (s.ld.loftEmptied.mram.loft.next + 1) % 2 ^ 32, head := head } :=
    Logic.of_bare (fun l => l.mram.loft) hbare
  generalize s.ld.loftEmptied.loftWrite r = l at hcleared hmram
  have hkept : l.loftUnchecked.mram = l.mram := Logic.put_mram ..
  refine ⟨_, runLogic_next Logic.loftCleared s, ?_⟩
  dsimp only
  rw [hcleared, Logic.evt_mram, Logic.evt_loft, Logic.g_evt_clear _ _ _ _ (by decide) (by decide), hkept, hmram]
  exact ⟨rfl, congrArg (fun c => [c]) (hx.trans hcode), rfl, rfl, rfl, rfl, Logic.g_put_same _ _ _ rfl⟩

/-- Settles O5: what the Loft engine does to its queue, its records and LOFT.VSTAT, a command at a time. -/
theorem loftRows : Obligations.LoftRows := by
  unfold Obligations.LoftRows
  exact ⟨loftRecord_queues, loftWritten_appends,
    fun _ _ htold ht hidle => (loftCmd_begins htold ht hidle fun _ => Logic.loftCmd_verify).imp fun _ h =>
      ⟨h.1, h.2.1, h.2.2.1, h.2.2.2.1⟩,
    fun _ _ htold ht hidle => loftCmd_begins htold ht hidle fun _ h => Logic.loftCmd_clear h (by decide) (by decide),
    fun _ _ htold ht hidle => loftCmd_begins htold ht hidle fun _ h => Logic.loftCmd_clear h (by decide) (by decide),
    fun _ _ _ _ hcheck hstate hfail hall => loftVerifyDone_passes hcheck hstate hfail hall,
    fun _ _ _ _ hcheck hstate hfound => loftVerifyDone_fails hcheck hstate hfound,
    fun _ hstate => loftClearDone_clears hstate⟩

end Sys2Proof.Machine
end

section
/-! What a frame of the host reads (R49, R163, R251, R253). -/

namespace Sys2Proof.Machine

open Sys2Proof

namespace State

/-! A word read does not depend on the port. -/

/-- The block with another state of the port. -/
def setHost (h : HostRun) (s : State) : State := { s with ld := { s.ld with host := h } }

theorem headWord_setHost (s : State) (h : HostRun) (page off : Nat) : (s.setHost h).headWord page off = s.headWord page off := by
  unfold headWord
  split <;> rfl

theorem logicView_setHost (s : State) (h : HostRun) (a : Nat) : (s.setHost h).logicView a = s.logicView a := by
  unfold logicView
  dsimp only
  split <;> rfl

theorem readWord_setHost (s : State) (h : HostRun) (a : Nat) : (s.setHost h).readWord a = s.readWord a := by
  unfold readWord
  simp only [headWord_setHost, logicView_setHost]
  rfl

/-- The word that a frame reads is the one its STATUS phase shows. -/
theorem readWord_openFrame (s : State) (a : Nat) : (s.onLd Logic.openFrame).readWord a = (s.onLd Logic.statusPhase).readWord a :=
  (s.onLd Logic.statusPhase).readWord_setHost s.ld.openFrame.host a

/-! A field register whose home is the logic die. -/

/-- Such a register, in no page of a terminal, behind the computed words of the head. -/
structure LogicHome (a : Nat) : Prop where
  field : onField a = true
  home : logicHome a = true
  head : a % 256 ≠ 2 ∧ a % 256 ≠ 5 ∧ a % 256 ≠ 7
  page : ∀ n, pageKind (a / 256) ≠ .term n

/-- It is read as the logic die holds it. -/
theorem readWord_logicHome {a : Nat} (ha : LogicHome a) (s : State) :
    s.readWord a = match regRow a with
      | none => 0#32
      | some r => if r.acc = .wo then 0#32 else s.ld.regs.word a := by
  obtain ⟨h2, h5, h7⟩ := ha.head
  have hnone : s.headWord (a / 256) (a % 256) = none := by
    unfold headWord
    split
    next h => exact absurd h h2
    next h => exact absurd h h5
    next h => exact absurd h h7
    next => rfl
  unfold readWord
  cases regRow a with
  | none => rfl
  | some r =>
    by_cases hwo : r.acc = .wo
    · simp [hwo, h7]
    · simp only [hwo, hnone, ha.field, ha.home, decide_false, Bool.false_and, Bool.false_eq_true, if_false, if_true, ite_self, Bool.true_or]
      cases hk : pageKind (a / 256) with
      | term n => exact absurd hk (ha.page n)
      | _ => rfl

theorem readWord_of_word {a : Nat} (ha : LogicHome a) {s t : State} (h : t.ld.regs.word a = s.ld.regs.word a) : t.readWord a = s.readWord a := by
  rw [readWord_logicHome ha, readWord_logicHome ha, h]

/-! Words fetched one after another. -/

/-- What fetching words changes: the UNREAD of contexts (R163). -/
structure Fetched (t s : State) : Prop where
  fd : t.fd = s.fd
  ld : t.ld.bare = s.ld.bare
  host : t.ld.host = s.ld.host
  words : ∀ y, (∀ c, regHome y ≠ regHome (R.CTX_SNAPSTAT c)) → t.ld.regs.word y = s.ld.regs.word y

theorem Fetched.refl (s : State) : s.Fetched s := ⟨rfl, rfl, rfl, fun _ _ => rfl⟩

theorem Fetched.boot {t s : State} (h : t.Fetched s) : t.ld.boot = s.ld.boot := Logic.of_bare Logic.boot h.ld

theorem Fetched.linkUp {t s : State} (h : t.Fetched s) : t.ld.linkUp = s.ld.linkUp := Logic.of_bare Logic.linkUp h.ld

theorem Fetched.trans {t u s : State} (h : t.Fetched u) (k : u.Fetched s) : t.Fetched s :=
  ⟨h.fd.trans k.fd, h.ld.trans k.ld, h.host.trans k.host, fun y hy => (h.words y hy).trans (k.words y hy)⟩

theorem fetched_clearUnread (s : State) (c : Nat) : (s.onLd (Logic.put (F.CTX_SNAPSTAT_UNREAD c) 0)).Fetched s :=
  ⟨s.onLd_fd _, by rw [State.onLd_ld, Logic.bare_put], by rw [State.onLd_ld, Logic.put_host],
    fun y hy => by rw [State.onLd_ld]; exact s.ld.word_put_other 0 (hy c)⟩

theorem fetch_fetched (s : State) (a : Nat) : (s.fetch a).2.Fetched s := by
  unfold fetch
  extract_lets w
  split
  · split
    · exact s.fetched_clearUnread _
    · exact .refl s
  · exact .refl s

theorem fetchMany_fetched (s : State) (a n : Nat) : (s.fetchMany a n).2.Fetched s := by
  induction n generalizing a s with
  | zero => exact .refl s
  | succ n ih => exact (ih (s.fetch (a % 65536)).2 (a + 1)).trans (s.fetch_fetched _)

theorem fetchMany_length (s : State) (a n : Nat) : (s.fetchMany a n).1.length = n := by
  induction n generalizing a s with
  | zero => rfl
  | succ n ih => exact congrArg (· + 1) (ih (s.fetch (a % 65536)).2 (a + 1))

theorem fetch_word (s : State) (a : Nat) : (s.fetch a).1 = s.readWord a := by
  unfold fetch
  dsimp only
  split
  · split <;> rfl
  · rfl

/-- Words that do not show UNREAD are those that the first state shows. -/
theorem fetchMany_words (s : State) {a n : Nat} (hfar : a + n ≤ 65536) (ha : ∀ i < n, LogicHome (a + i))
    (hunread : ∀ i < n, ∀ c, regHome (a + i) ≠ regHome (R.CTX_SNAPSTAT c)) :
    (s.fetchMany a n).1 = (List.range n).map fun i => s.readWord (a + i) := by
  induction n generalizing a s with
  | zero => rfl
  | succ n ih =>
    have hnext (i : Nat) : a + 1 + i = a + (i + 1) := by omega
    have hrest := ih (s.fetch (a % 65536)).2 (a := a + 1) (by omega) (fun i hi => hnext i ▸ ha (i + 1) (by omega))
      (fun i hi => hnext i ▸ hunread (i + 1) (by omega))
    have hsame : ∀ i ∈ List.range n, (s.fetch (a % 65536)).2.readWord (a + 1 + i) = s.readWord (a + (i + 1)) := by
      intro i hi
      have hi : i + 1 < n + 1 := Nat.succ_lt_succ (List.mem_range.mp hi)
      rw [hnext]
      exact readWord_of_word (ha _ hi) ((s.fetch_fetched _).words _ (hunread _ hi))
    calc (s.fetchMany a (n + 1)).1 = (s.fetch (a % 65536)).1 :: ((s.fetch (a % 65536)).2.fetchMany (a + 1) n).1 := rfl
      _ = s.readWord a :: (List.range n).map fun i => s.readWord (a + (i + 1)) := by
        rw [fetch_word, hrest, List.map_congr_left hsame, Nat.mod_eq_of_lt (by omega)]
      _ = _ := by rw [List.range_succ_eq_map, List.map_cons, List.map_map]; rfl

end State

end Sys2Proof.Machine
end

section
/-! SNAP_READ (R253, R261): GEN and the snapshot group of one context, or nineteen words of ones. -/

namespace Sys2Proof.Machine

open Sys2Proof

theorem pageKind_ctx {c : Nat} (h : c < 128) : pageKind (0x80 + c) = .ctx c := by
  unfold pageKind
  repeat rw [if_neg (by omega)]
  rw [if_pos (by omega), Nat.add_sub_cancel_left]

theorem pageKind_eq_ctx {p c : Nat} (h : pageKind p = .ctx c) : p = 0x80 + c ∧ c < 128 := by
  unfold pageKind at h
  split_ifs at h
  case pos => split at h <;> exact absurd h (by simp)
  case pos hlo hhi =>
    obtain rfl := PageKind.ctx.inj h
    omega

theorem regHome_far {a : Nat} (h : 0x5200 ≤ a) : regHome a = a := by
  unfold regHome
  rw [if_neg (by omega)]

/-- The snapshot group of a context, and its GEN, are read as the logic die holds them. -/
theorem logicHome_ctx {c k : Nat} (hc : c < 128) (hk : k = 8 ∨ 0x40 ≤ k ∧ k ≤ 0x51) : State.LogicHome (0x8000 + 256 * c + k) := by
  have hpage : pageKind ((0x8000 + 256 * c + k) / 256) = .ctx c := by
    rw [← pageKind_ctx hc]
    congr 1
    omega
  have hoff : (0x8000 + 256 * c + k) % 256 = k := by omega
  refine ⟨?_, ?_, ?_, ?_⟩
  · simp only [onField, hpage]
  · simp only [logicHome, hpage, hoff]
    rcases hk with rfl | hk
    · rfl
    · simp; omega
  · omega
  · rw [hpage]
    exact fun n => nofun

/-- The snapshot group is fetched as it stands, UNREAD apart. -/
theorem State.fetchMany_snapshot (s : State) (c : Ctx) :
    (s.fetchMany (R.CTX_SEQ c) 18).1 = (List.range 18).map fun i => s.readWord (R.CTX_SEQ c + i) := by
  have haddr (i : Nat) : R.CTX_SEQ c + i = 0x8000 + 256 * c + (0x40 + i) := by
    unfold R.CTX_SEQ
    omega
  refine s.fetchMany_words (by unfold R.CTX_SEQ; omega) (fun i hi => ?_) fun i hi d => ?_
  · rw [haddr]
    exact logicHome_ctx c.isLt (.inr (by omega))
  · rw [haddr, regHome_far (by omega), regHome_far (by unfold R.CTX_SNAPSTAT; omega)]
    unfold R.CTX_SNAPSTAT
    omega

/-- SNAP_READ at the snapshot group of a context. -/
theorem State.snapFrame_group {s : State} (hlate : s.ld.host.late = false) (c : Ctx) : s.snapFrame (R.CTX_SEQ c) false =
    ([], (s.fetchMany (R.CTX_SEQ c) 18).2.replyWith (s.readWord (R.GEN (R.pageCTX c)) :: (List.range 18).map fun i => s.readWord (R.CTX_SEQ c + i))) := by
  have hpage : pageKind (R.CTX_SEQ c / 256) = .ctx c := by
    rw [← pageKind_ctx c.isLt]
    congr 1
    unfold R.CTX_SEQ
    omega
  have hoff : decide (R.CTX_SEQ c % 256 = 0x40) = true := by
    unfold R.CTX_SEQ
    exact decide_eq_true (by omega)
  unfold State.snapFrame
  rw [hpage, hoff]
  simp only [s.isLate_unmarked hlate, ← s.fetchMany_snapshot c]
  rfl

/-- SNAP_READ anywhere else. -/
theorem State.snapFrame_elsewhere (s : State) {a : Nat} (ha : ∀ c : Ctx, a ≠ R.CTX_SEQ c) :
    s.snapFrame a false = ([(10, a)], s.replyWith (List.replicate 19 ones)) := by
  unfold State.snapFrame
  split
  next c hpage hoff =>
    obtain ⟨hpage, hc⟩ := pageKind_eq_ctx hpage
    have hoff := of_decide_eq_true hoff
    exact absurd (show a = R.CTX_SEQ c by unfold R.CTX_SEQ; omega) (ha ⟨c, hc⟩)
  next => rfl

/-- On a port that serves, nothing waits to make a read late. -/
theorem Logic.serves_late {l : Logic} (h : l.serves = true) : l.host.late = false := by
  have hanswers := Logic.serves_answers h
  simp only [Logic.answers, Bool.and_eq_true, Bool.not_eq_true'] at hanswers
  exact hanswers.1.2

theorem Logic.serves_stops {l : Logic} (h : l.serves = true) {op : Nat} {device : Bool} (hop : op ≠ opWriteAuth ∧ op ≠ opReadAuth) :
    l.openFrame.stops op device = [] :=
  Logic.stops_serves h fun ho => (ho.elim hop.1 hop.2).elim

/-- A read of a context's snapshot group answers GEN and the eighteen words, and fetches them. -/
theorem answers_snapRead {s : State} {c : Ctx} {extra : Bool} (htold : s.told = true) (hserves : s.ld.serves = true) :
    Answers (exec (.snapRead (Fin.ofNat 65536 (R.CTX_SEQ c)) false extra) s) fun t =>
      (t.ld.host.reply = s.readWord (R.GEN (R.pageCTX c)) :: (List.range 18).map fun i => s.readWord (R.CTX_SEQ c + i)) ∧
      t.ld.host.ferr = false ∧
      t.ld.g (F.CTX_SNAPSTAT_UNREAD c) = ((s.onLd Logic.openFrame).fetchMany (R.CTX_SEQ c) 18).2.ld.g (F.CTX_SNAPSTAT_UNREAD c) := by
  have haddr : (Fin.ofNat 65536 (R.CTX_SEQ c)).val = R.CTX_SEQ c := Nat.mod_eq_of_lt (by unfold R.CTX_SEQ; omega)
  have hsame {k : Nat} (hk : k = 8 ∨ 0x40 ≤ k ∧ k ≤ 0x51) :
      (s.onLd Logic.openFrame).readWord (0x8000 + 256 * c + k) = s.readWord (0x8000 + 256 * c + k) :=
    State.readWord_of_word (logicHome_ctx c.isLt hk)
      (s.ld.openFrame_framed.regs _ (by rw [regHome_far (by omega)]; unfold R.HOST_FRAMES; omega))
  have hgen : R.GEN (R.pageCTX c) = 0x8000 + 256 * c + 8 := by
    unfold R.GEN R.pageCTX
    omega
  have hgroup (i : Nat) : R.CTX_SEQ c + i = 0x8000 + 256 * c + (0x40 + i) := by
    unfold R.CTX_SEQ
    omega
  have hfetched := (s.onLd Logic.openFrame).fetchMany_fetched (R.CTX_SEQ c) 18
  have hact := State.snapFrame_group (s := s.onLd Logic.openFrame) (show s.ld.host.late = false from Logic.serves_late hserves) c
  have hwords : ∀ i ∈ List.range 18, (s.onLd Logic.openFrame).readWord (R.CTX_SEQ c + i) = s.readWord (R.CTX_SEQ c + i) := by
    intro i hi
    have hi := List.mem_range.mp hi
    rw [hgroup]
    exact hsame (.inr (by omega))
  rw [List.map_congr_left hwords, hgen, hsame (.inl rfl), ← hgen] at hact
  generalize ((s.onLd Logic.openFrame).fetchMany (R.CTX_SEQ c) 18).2 = u at hfetched hact
  generalize s.readWord (R.GEN (R.pageCTX c)) :: (List.range 18).map (fun i => s.readWord (R.CTX_SEQ c + i)) = reply at hact
  refine answers_frame (u := u.replyWith reply) htold (Logic.serves_answers hserves) (Logic.serves_stops hserves (by decide))
    ((congrArg (State.snapFrame · false (s.onLd Logic.openFrame)) haddr).trans hact) hfetched.boot hfetched.linkUp hfetched.fd fun t ht _ => ?_
  have hend := Logic.ends_of_eq ht
  have hferr : u.ld.host.ferr = false := congrArg HostRun.ferr hfetched.host
  refine ⟨congrArg HostRun.reply hend.host, (congrArg HostRun.ferr hend.host).trans hferr, hend.get ?_⟩
  have hhome : regHome (R.CTX_SNAPSTAT c) = R.CTX_SNAPSTAT c := regHome_far (by unfold R.CTX_SNAPSTAT; omega)
  exact Logic.not_mem_endWords (a := regHome (R.CTX_SNAPSTAT c)) (by rw [hhome]; unfold R.CTX_SNAPSTAT; omega)

/-- Settles O57: the group is read as it stands, GEN first; any other address reads ones and ends in error. -/
theorem snapReadRule : Obligations.SnapReadRule := by
  unfold Obligations.SnapReadRule
  refine ⟨fun s c extra htold hserves => ?_, fun s a extra htold hserves ha => ?_⟩
  · obtain ⟨t, hstep, hreply, hferr, -⟩ := answers_snapRead (c := c) (extra := extra) htold hserves
    exact ⟨t, hstep, hreply, hferr⟩
  · refine answers_frame (u := (s.onLd Logic.openFrame).replyWith (List.replicate 19 ones)) htold (Logic.serves_answers hserves)
      (Logic.serves_stops hserves (by decide)) (State.snapFrame_elsewhere _ ha) rfl rfl rfl fun t ht _ => ?_
    have hend := Logic.ends_of_eq ht
    exact ⟨congrArg HostRun.reply hend.host, congrArg HostRun.ferr hend.host, (hend.refused rfl).reason⟩

end Sys2Proof.Machine
end

section
/-! The frames of the native port that need no session (R245, R250, R251, R253, R254, R255, R257, R258, R260, R104). -/

namespace Sys2Proof.Machine

open Sys2Proof

/-! STATUS and NOP are served in every mode (R254, R260). -/

theorem Logic.stops_status (l : Logic) (device : Bool) : l.stops opStatus device = [] := by
  unfold Logic.stops
  cases l.mode <;> simp [opStatus, opWriteAuth, opReadAuth, opCratePush, opSession, opWrite, opNop, opRead, opCheckIn, opSync]

theorem Logic.stops_nop (l : Logic) (device : Bool) : l.stops opNop device = [] := by
  unfold Logic.stops
  cases l.mode <;> simp [opStatus, opWriteAuth, opReadAuth, opCratePush, opSession, opWrite, opNop, opRead, opCheckIn, opSync]

theorem statusFrame_answers (s : State) (extra : Bool) (htold : s.told = true) (hanswers : s.ld.answers = true) :
    Answers (exec (.statusFrame extra) s) fun t => t.ld.host.status = s.ld.statusByte ∧
      t.ld.host.reply = [word s.ld.statusPhase.summary] ∧ t.ld.host.ferr = false ∧
      t.ld.regs.word R.HOST_FRAMES = s.ld.regs.word R.HOST_FRAMES + 1#32 := by
  refine answers_frame (u := (s.onLd Logic.openFrame).replyWith [word s.ld.statusPhase.summary]) htold hanswers (Logic.stops_status ..) rfl
    rfl rfl rfl fun t ht _ => ?_
  have hend := Logic.ends_of_eq ht
  exact ⟨congrArg HostRun.status hend.host, congrArg HostRun.reply hend.host, congrArg HostRun.ferr hend.host,
    (hend.word (by decide)).trans (word_write_same ..)⟩

theorem Logic.extraEdges_counts (l : Logic) :
    l.extraEdges.g F.HOST_ANOMALY_EXTRA_EDGE = min (2 ^ F.HOST_ANOMALY_EXTRA_EDGE.len - 1) (l.g F.HOST_ANOMALY_EXTRA_EDGE + 1) := by
  rw [Logic.extraEdges, Logic.g_evt_clear _ _ _ _ (by decide) (by decide), Logic.g_bump_same _ _ rfl]

theorem nopFrame_answers (s : State) (extra : Bool) (htold : s.told = true) (hanswers : s.ld.answers = true) :
    Answers (exec (.nopFrame extra) s) fun t => t.ld.host.status = s.ld.statusByte ∧ t.ld.host.reply = [] ∧ t.ld.host.ferr = false ∧
      t.ld.g F.HOST_ANOMALY_EXTRA_EDGE = if extra then min (2 ^ F.HOST_ANOMALY_EXTRA_EDGE.len - 1) (s.ld.g F.HOST_ANOMALY_EXTRA_EDGE + 1)
        else s.ld.g F.HOST_ANOMALY_EXTRA_EDGE := by
  refine answers_frame (u := s.onLd Logic.openFrame) htold hanswers (Logic.stops_nop ..) rfl rfl rfl rfl fun t ht _ => ?_
  have hend := Logic.ends_of_eq ht
  refine ⟨congrArg HostRun.status hend.host, congrArg HostRun.reply hend.host, congrArg HostRun.ferr hend.host, ?_⟩
  have hopen : (s.ld.openFrame.frameError opNop []).g F.HOST_ANOMALY_EXTRA_EDGE = s.ld.g F.HOST_ANOMALY_EXTRA_EDGE :=
    (Logic.g_of_regs rfl _).trans (s.ld.openFrame_framed.get (by decide))
  rw [ht, Logic.g_when, Logic.extraEdges_counts]
  simp only [State.onLd, hopen]

/-! READ (R251). -/

/-- READ fetches its words and ends in error for those on reserved pages. -/
theorem readFrame_answers {s : State} {a : Addr} {n : Nat} {p : State → Prop} (htold : s.told = true) (hserves : s.ld.serves = true) (hn : n ≠ 0)
    (hp : ∀ t : State, t.ld.host.reply = ((s.onLd Logic.openFrame).fetchMany a n).1 → t.ld.host.ferr = !(reservedIn a n).isEmpty →
      { t.fd with out := s.fd.out } = s.fd → p t) :
    Answers (exec (.read a n false) s) p := by
  have hfetched := (s.onLd Logic.openFrame).fetchMany_fetched a n
  have hlate := (s.onLd Logic.openFrame).isLate_unmarked (show s.ld.host.late = false from Logic.serves_late hserves)
  have hact : (s.onLd Logic.openFrame).readFrame a n false =
      (reservedIn a n, ((s.onLd Logic.openFrame).fetchMany a n).2.replyWith ((s.onLd Logic.openFrame).fetchMany a n).1) := by
    unfold State.readFrame
    rw [if_neg hn, hlate]
    rfl
  generalize (s.onLd Logic.openFrame).fetchMany a n = x at hfetched hact hp
  refine answers_frame (u := x.2.replyWith x.1) htold (Logic.serves_answers hserves) (Logic.serves_stops hserves (by decide)) hact hfetched.boot
    hfetched.linkUp hfetched.fd fun t ht hfd => ?_
  have hend := Logic.ends_of_eq ht
  have hferr : x.2.ld.host.ferr = false := congrArg HostRun.ferr hfetched.host
  refine hp t (congrArg HostRun.reply hend.host) ((congrArg HostRun.ferr hend.host).trans ?_) hfd
  change (!(reservedIn a n).isEmpty || x.2.ld.host.ferr) = _
  rw [hferr, Bool.or_false]

theorem readFrame_single (s : State) (a : Addr) (htold : s.told = true) (hserves : s.ld.serves = true)
    (hpage : pageKind (a.val / 256) ≠ .reserved) :
    Answers (exec (.read a 1 false) s) fun t => t.ld.host.reply = [(s.onLd Logic.statusPhase).readWord a] ∧ t.ld.host.ferr = false ∧
      t.fd.cfg = s.fd.cfg ∧ t.fd.img = s.fd.img := by
  have haddr : a.val % 65536 = a.val := Nat.mod_eq_of_lt a.isLt
  refine readFrame_answers htold hserves Nat.one_ne_zero fun t hreply hferr hfd => ⟨?_, ?_, (congrArg Field.cfg hfd :), (congrArg Field.img hfd :)⟩
  · rw [hreply, ← s.readWord_openFrame]
    change [((s.onLd Logic.openFrame).fetch (a.val % 65536)).1] = _
    rw [State.fetch_word, haddr]
  · have hnone : reservedIn a 1 = [] := by
      simp [reservedIn, wordAddrs, haddr, hpage]
    rw [hferr, hnone]
    rfl

theorem readFrame_many (s : State) (a : Addr) (n : Nat) (htold : s.told = true) (hserves : s.ld.serves = true) (hn : n ≠ 0) :
    Answers (exec (.read a n false) s) fun t => t.ld.host.reply.length = n ∧ (t.ld.host.ferr = true ↔ reservedIn a n ≠ []) :=
  readFrame_answers htold hserves hn fun t hreply hferr _ =>
    ⟨by rw [hreply, State.fetchMany_length], by rw [hferr, Bool.not_eq_true', List.isEmpty_eq_false_iff]⟩

/-! SNAP_READ (R253). -/

theorem State.fetch_keepsRead (s : State) (a : Nat) {c : Nat} (h : s.ld.g (F.CTX_SNAPSTAT_UNREAD c) = 0) :
    (s.fetch a).2.ld.g (F.CTX_SNAPSTAT_UNREAD c) = 0 := by
  unfold State.fetch
  extract_lets w
  split
  next d _ =>
    split
    · change (s.ld.put (F.CTX_SNAPSTAT_UNREAD d) 0).g _ = 0
      by_cases hd : c = d
      · rw [hd, Logic.g_put_same _ _ _ rfl]
        rfl
      · rw [Logic.g_put_clear _ _ _ _ rfl ?_, h]
        have hhome (e : Nat) : regHome (F.CTX_SNAPSTAT_UNREAD e).addr = R.CTX_SNAPSTAT e := regHome_far (by
          change 0x5200 ≤ R.CTX_SNAPSTAT e
          unfold R.CTX_SNAPSTAT
          omega)
        have hapart : regHome (F.CTX_SNAPSTAT_UNREAD c).addr ≠ regHome (F.CTX_SNAPSTAT_UNREAD d).addr := by
          rw [hhome, hhome]
          unfold R.CTX_SNAPSTAT
          omega
        simp [Fld.clear, hapart]
    · exact h
  next => exact h

theorem State.fetchMany_keepsRead (s : State) (a n : Nat) {c : Nat} (h : s.ld.g (F.CTX_SNAPSTAT_UNREAD c) = 0) :
    (s.fetchMany a n).2.ld.g (F.CTX_SNAPSTAT_UNREAD c) = 0 := by
  induction n generalizing a s with
  | zero => exact h
  | succ n ih => exact ih (s.fetch (a % 65536)).2 (a + 1) (s.fetch_keepsRead _ h)

/-- The first word of the group counts it as read (R163). -/
theorem State.fetchMany_reads (s : State) (c : Ctx) (n : Nat) : (s.fetchMany (R.CTX_SEQ c) (n + 1)).2.ld.g (F.CTX_SNAPSTAT_UNREAD c) = 0 := by
  have hfirst : (s.fetch (R.CTX_SEQ c % 65536)).2 = s.onLd (Logic.put (F.CTX_SNAPSTAT_UNREAD c) 0) := by
    have hpage : pageKind (R.CTX_SEQ c % 65536 / 256) = .ctx c := by
      rw [← pageKind_ctx c.isLt]
      congr 1
      unfold R.CTX_SEQ
      omega
    unfold State.fetch
    rw [hpage]
    dsimp only
    rw [if_pos (by unfold R.CTX_SEQ; omega)]
  exact State.fetchMany_keepsRead (s.fetch (R.CTX_SEQ c % 65536)).2 _ n (hfirst ▸ Logic.g_put_same _ _ _ rfl)

theorem snapRead_reads (s : State) (c : Ctx) (extra : Bool) (htold : s.told = true) (hserves : s.ld.serves = true) :
    Answers (exec (.snapRead (Fin.ofNat 65536 (R.CTX_SEQ c)) false extra) s) fun t => t.ld.host.reply.length = 19 ∧ t.ld.host.ferr = false ∧
      t.ld.g (F.CTX_SNAPSTAT_UNREAD c) = 0 := by
  obtain ⟨t, hstep, hreply, hferr, hunread⟩ := answers_snapRead (c := c) (extra := extra) htold hserves
  refine ⟨t, hstep, ?_, hferr, hunread.trans (State.fetchMany_reads _ c 17)⟩
  rw [hreply, List.length_cons, List.length_map, List.length_range]

/-! SYNC and SYNCIN (R104, R250). -/

/-- A trigger for some groups is stamped and waits on the field die. -/
theorem State.presentTrigger_fd {s : State} (hup : s.ld.linkUp = true ∧ s.fd.released = true) {groups : Nat} (stamp : Nat) (h : groups ≠ 0) :
    (s.presentTrigger groups stamp).fd = { s.fd with trigs := s.fd.trigs ++ [{ stamp := stamp, groups := groups }] } := by
  have honFd (k : Field → Field) : s.onFd k = { s with fd := k s.fd } := by
    unfold State.onFd
    rw [hup.1, hup.2]
    rfl
  unfold State.presentTrigger
  rw [if_neg h, honFd]
  dsimp only
  split <;> rfl

theorem Logic.sendPartner_port (l : Logic) (k : PFrame) : (l.sendPartner k).boot = l.boot ∧ (l.sendPartner k).linkUp = l.linkUp ∧
    (l.sendPartner k).host = l.host := by
  unfold Logic.sendPartner Logic.when
  split <;> exact ⟨rfl, rfl, rfl⟩

/-- Beside the partner's queue a trigger leaves the logic die. -/
theorem State.presentTrigger_ld (s : State) (groups stamp : Nat) : (s.presentTrigger groups stamp).ld.boot = s.ld.boot ∧
    (s.presentTrigger groups stamp).ld.linkUp = s.ld.linkUp ∧ (s.presentTrigger groups stamp).ld.host = s.ld.host := by
  have honFd (h : Field → Field) : (s.onFd h).ld = s.ld := by
    unfold State.onFd
    split <;> rfl
  unfold State.presentTrigger
  split
  · exact ⟨rfl, rfl, rfl⟩
  · dsimp only
    split
    · rw [State.onLd, honFd]
      exact s.ld.sendPartner_port _
    · rw [honFd]
      exact ⟨rfl, rfl, rfl⟩

theorem Logic.groupsFrom_openFrame (l : Logic) (mask src : Nat) : l.openFrame.groupsFrom mask src = l.groupsFrom mask src := by
  have hsrc : ∀ g ∈ List.range 4, (nbit mask g && l.openFrame.g (F.SLICE_GRP_SRC g) == src) = (nbit mask g && l.g (F.SLICE_GRP_SRC g) == src) := by
    intro g hg
    have hhome : ∀ g ∈ List.range 4, regHome (F.SLICE_GRP_SRC g).addr ≠ R.HOST_FRAMES := by decide
    rw [Logic.g, l.openFrame_framed.get (hhome g hg)]
    rfl
  unfold Logic.groupsFrom
  rw [List.filter_congr hsrc]
  rfl

theorem syncFrame_triggers (s : State) (a : Addr) (extra : Bool) (hup : s.up) (hserves : s.ld.serves = true) (ha : a.val < 16)
    (hgroups : s.ld.groupsFrom a 0 ≠ 0) :
    Answers (exec (.syncFrame a extra) s) fun t => t.fd.trigs = s.fd.trigs ++ [{ stamp := s.ld.time, groups := s.ld.groupsFrom a 0 }] ∧
      t.ld.host.ferr = false := by
  have hact : (s.onLd Logic.openFrame).syncGroups a = ([], (s.onLd Logic.openFrame).presentTrigger (s.ld.groupsFrom a 0) s.ld.time) := by
    unfold State.syncGroups
    rw [if_neg (not_not.mpr (Nat.div_eq_of_lt ha))]
    exact congrArg (fun k => (([] : List (Nat × Nat)), (s.onLd Logic.openFrame).presentTrigger k s.ld.time)) (s.ld.groupsFrom_openFrame a 0)
  have hfd := State.presentTrigger_fd (s := s.onLd Logic.openFrame) ⟨hup.2.1, hup.1⟩ s.ld.time hgroups
  obtain ⟨hboot, hlink, hhost⟩ := (s.onLd Logic.openFrame).presentTrigger_ld (s.ld.groupsFrom a 0) s.ld.time
  generalize (s.onLd Logic.openFrame).presentTrigger (s.ld.groupsFrom a 0) s.ld.time = u at hact hfd hboot hlink hhost
  refine answers_frameFd (u := u) (by simp [State.told, hup.2]) (Logic.serves_answers hserves) (Logic.serves_stops hserves (by decide)) hact hboot
    hlink (by rw [hfd]; rfl) fun t ht hfd' => ?_
  refine ⟨(congrArg Field.trigs hfd' :).trans ((congrArg Field.trigs hfd :)), ?_⟩
  exact (congrArg HostRun.ferr (Logic.ends_of_eq ht).host).trans (congrArg HostRun.ferr hhost)

theorem syncinEdge_triggers (s : State) (rise : Bool) (hup : s.up) (hgroups : s.ld.groupsFrom 15 (if rise then 1 else 2) ≠ 0) :
    Answers (exec (.syncinEdge rise) s) fun t =>
      t.fd.trigs = s.fd.trigs ++ [{ stamp := s.ld.time, groups := s.ld.groupsFrom 15 (if rise then 1 else 2) }] := by
  refine ⟨_, rfl, ?_⟩
  change (drain (s.presentTrigger _ _)).fd.trigs = _
  rw [drain_fd_trigs, State.presentTrigger_fd ⟨hup.2.1, hup.1⟩ s.ld.time hgroups]

/-! A command byte that is none, and a frame released too early (R257, R260). -/

theorem reservedOp_refused (s : State) (code : Fin 256) (htold : s.told = true) (hserves : s.ld.serves = true)
    (hcode : listedOps.contains code.val = false) :
    Answers (exec (.reservedOp code) s) fun t => t.ld.host.ferr = true ∧ t.ld.g F.HOST_ERR_REASON = 3 ∧ t.ld.g F.HOST_ERR_OPCODE = code := by
  have hop : code.val ≠ opWriteAuth ∧ code.val ≠ opReadAuth := by
    constructor <;> intro h <;> rw [h] at hcode <;> exact absurd hcode (by decide)
  have hexec : exec (.reservedOp code) s = runBoth (fun s => s.frame code 0 false fun s => ([(3, 0)], s)) s := by
    change runBoth (fun s => if listedOps.contains code.val then s else s.frame code 0 false fun s => ([(3, 0)], s)) s = _
    rw [hcode]
    rfl
  rw [hexec]
  refine answers_frame (u := s.onLd Logic.openFrame) htold (Logic.serves_answers hserves) (Logic.serves_stops hserves hop) rfl rfl rfl rfl
    fun t ht _ => ?_
  have hend := Logic.ends_of_eq ht
  obtain ⟨hreason, hopcode, -⟩ := hend.refused rfl
  exact ⟨congrArg HostRun.ferr hend.host, hreason, hopcode.trans (Nat.mod_eq_of_lt code.isLt)⟩

/-- A READ of the DEVICE page is refused as a whole only where any frame of the opcode is. -/
theorem Logic.stops_device {l : Logic} {op : Nat} (device : Bool) (h : l.stops op false = []) : l.stops op device = [] := by
  unfold Logic.stops at h ⊢
  simp only [List.append_eq_nil_iff] at h ⊢
  obtain ⟨⟨⟨hmode, hbusy⟩, hses⟩, hlost⟩ := h
  refine ⟨⟨⟨?_, hbusy⟩, hses⟩, hlost⟩
  cases hm : l.mode with
  | boot =>
    rw [hm] at hmode
    refine if_pos ?_
    have hserved := of_not_not fun h => absurd ((if_neg h).symm.trans hmode) (List.cons_ne_nil _ _)
    simp only [Bool.and_false, Bool.or_false] at hserved
    rcases Bool.or_eq_true .. |>.mp hserved with h | h
    · rw [h, Bool.true_or, Bool.true_or]
    · rw [h, Bool.or_true]
  | lockout | follow =>
    rw [hm] at hmode
    exact hmode
  | commission | run | safe => rfl

/-- A frame that is released too early is counted, and uses up INJECT's mark. -/
def Logic.openShort (l : Logic) : Logic := Logic.openFrame { l with host := { l.host with short := false } }

/-- So it is once the frame has been counted. -/
theorem Logic.stops_openShort {l : Logic} {op : Nat} (device : Bool) (h : l.stops op false = []) : l.openShort.stops op device = [] := by
  have hopen (l : Logic) : l.openFrame.stops op device = l.stops op device := by
    have hbusy : l.openFrame.handoverBusy = l.handoverBusy := by
      rw [Logic.handoverBusy, Logic.handoverBusy, Logic.g, l.openFrame_framed.get (by decide)]
      rfl
    unfold Logic.stops
    rw [hbusy]
    rfl
  exact (hopen _).trans (Logic.stops_device (l := l) device h)

/-- A frame released before its first word has done nothing: another cause than FRAME_SHORT comes after it in the table. -/
theorem State.shortFrame_nothing {s : State} {c a : Nat} (hport : s.ld.portUp = true) (hstops : s.ld.stops c false = [])
    (hlisted : listedOps.contains c = true) :
    ∃ cs, (∀ x ∈ cs, 4 < x.1) ∧
      s.shortFrame (some c) a [] = s.onLd fun l => l.openShort.frameError c (cs ++ [(4, a % 65536)]) := by
  have hfetch (t : State) : ∃ cs : List (Nat × Nat), (∀ x ∈ cs, 4 < x.1) ∧
      (if c = opWrite then t.commitWords none a [] else if c = opCratePush then t.pushWords a [] else t.fetchShort c a 0) = (cs, t) := by
    unfold State.pushWords State.fetchShort
    split_ifs
    · exact ⟨[], nofun, rfl⟩
    · exact ⟨[(15, a)], by simp, rfl⟩
    · exact ⟨[(11, max a 16384 % 65536)], by simp, rfl⟩
    · exact ⟨[], nofun, rfl⟩
    · split
      · next h => exact absurd h (by decide)
      · exact ⟨[], nofun, rfl⟩
      · exact ⟨[(10, a)], by simp, rfl⟩
    · exact ⟨[], nofun, rfl⟩
    · split
      · exact ⟨[], nofun, rfl⟩
      · exact ⟨[], nofun, rfl⟩
    · exact ⟨[], nofun, rfl⟩
  obtain ⟨cs, hcs, hacts⟩ := hfetch (s.onLd Logic.openShort)
  refine ⟨cs, hcs, ?_⟩
  change _ = (s.onLd Logic.openShort).onLd (Logic.frameError c (cs ++ [(4, a % 65536)]))
  have hstops' : (s.onLd Logic.openShort).ld.stops c (decide (a + 0 ≤ 256)) = [] := Logic.stops_openShort _ hstops
  have hboot : ¬ (s.onLd Logic.openShort).ld.boot.logic = 0 := Logic.portUp_boot (l := s.ld) hport
  unfold State.shortFrame
  rw [if_neg (by simp [hport])]
  dsimp only
  rw [if_neg (by rw [hlisted]; decide)]
  have hopen : (s.onLd fun l => Logic.openFrame { l with host := { l.host with short := false } }) = s.onLd Logic.openShort := rfl
  rw [hopen]
  generalize s.onLd Logic.openShort = u at hstops' hboot hacts
  rw [List.length_nil, hstops']
  dsimp only
  rw [hacts, if_neg hboot]
  rfl

/-- Such a cause yields to FRAME_SHORT. -/
theorem Logic.firstCause_short {cs : List (Nat × Nat)} (h : ∀ x ∈ cs, 4 < x.1) (a : Nat) :
    ∃ c ds, cs ++ [(4, a)] = c :: ds ∧ Logic.firstCause c ds = (4, a) := by
  cases cs with
  | nil => exact ⟨_, _, rfl, rfl⟩
  | cons c cs =>
    refine ⟨c, cs ++ [(4, a)], rfl, ?_⟩
    have hlater : 4 < (Logic.firstCause c cs).1 := by
      obtain ⟨hc, hcs⟩ := List.forall_mem_cons.mp h
      clear h
      induction cs generalizing c with
      | nil => exact hc
      | cons d cs ih =>
        obtain ⟨hd, hcs⟩ := List.forall_mem_cons.mp hcs
        refine ih _ ?_ hcs
        dsimp only
        split
        · exact hd
        · exact hc
    unfold Logic.firstCause at hlater ⊢
    rw [List.foldl_append]
    exact if_pos hlater

theorem frameShort_refused (s : State) (c : Fin 256) (a : Addr) (htold : s.told = true) (hport : s.ld.portUp = true)
    (hstops : s.ld.stops c false = []) (hlisted : listedOps.contains c.val = true) :
    Answers (exec (.frameShort (some c) a []) s) fun t => t.ld.host.ferr = true ∧ t.ld.g F.HOST_ERR_REASON = 4 ∧ t.ld.g F.HOST_ERR_OPCODE = c ∧
      t.ld.g F.HOST_ERR_ADDR = a := by
  obtain ⟨cs, hcs, hshort⟩ := State.shortFrame_nothing (a := a) hport hstops hlisted
  obtain ⟨d, ds, hcauses, hfirst⟩ := Logic.firstCause_short hcs (a.val % 65536)
  change Answers (runBoth (State.shortFrame (some c.val) a.val []) s) _
  refine answers_told htold ?_ ?_ ?_ <;> rw [hshort]
  · exact Logic.of_bare Logic.linkUp ((Logic.bare_frameError ..).trans (rfl))
  · rfl
  · intro t ht _
    dsimp only [State.onLd] at ht
    rw [hcauses] at ht
    obtain ⟨hreason, hopcode, haddr⟩ := s.ld.openShort.frameError_refused c d ds
    rw [hfirst] at hreason haddr
    rw [ht]
    exact ⟨Logic.frameError_ferr _ _ (List.cons_ne_nil _ _), hreason, hopcode.trans (Nat.mod_eq_of_lt c.isLt),
      haddr.trans ((Nat.mod_mod ..).trans (Nat.mod_eq_of_lt a.isLt))⟩

/-- Without a complete command byte the port is selected, and the opcode and address in HOST.ERR are free (R257). -/
def Logic.selectShort (l : Logic) : Logic := { l.selected with draws := l.draws + 2 }

theorem Logic.selectShort_linkUp (l : Logic) : l.selectShort.linkUp = l.linkUp := rfl

theorem Logic.selectShort_regs (l : Logic) : l.selectShort.regs = l.regs := rfl

theorem State.shortFrame_none {s : State} (hport : s.ld.portUp = true) (a : Nat) :
    ∃ op k, s.shortFrame none a [] = { s with ld := s.ld.selectShort.frameError op [(4, k)] } := by
  refine ⟨Sys2Proof.Config.free s.ld.draws % 256, Sys2Proof.Config.free (s.ld.draws + 1) % 65536, ?_⟩
  unfold State.shortFrame
  rw [if_neg (by simp [hport])]
  dsimp only [State.onLd]
  rw [Logic.selectShort]

/-- The frame is not counted in FRAMES. -/
theorem frameShort_uncounted (s : State) (a : Addr) (htold : s.told = true) (hport : s.ld.portUp = true) :
    Answers (exec (.frameShort none a []) s) fun t => t.ld.host.ferr = true ∧ t.ld.g F.HOST_ERR_REASON = 4 ∧
      t.ld.regs.word R.HOST_FRAMES = s.ld.regs.word R.HOST_FRAMES := by
  obtain ⟨op, k, hshort⟩ := State.shortFrame_none hport a
  change Answers (runBoth (State.shortFrame none a.val []) s) _
  refine answers_told htold ?_ ?_ ?_ <;> rw [hshort]
  · exact (Logic.of_bare Logic.linkUp (Logic.bare_frameError ..)).trans s.ld.selectShort_linkUp
  · intro t ht _
    rw [ht, ← s.ld.selectShort_regs]
    generalize s.ld.selectShort = l
    exact ⟨Logic.frameError_ferr _ _ (List.cons_ne_nil _ _), (Logic.frameError_refused ..).reason, Logic.word_frameError (by decide) ..⟩

/-- Settles O2: the frames that need no session, one after another. -/
theorem hostPortFrames : Obligations.HostPortFrames := by
  unfold Obligations.HostPortFrames
  exact ⟨statusFrame_answers, nopFrame_answers, readFrame_single, readFrame_many, snapRead_reads, syncFrame_triggers, syncinEdge_triggers,
    reservedOp_refused, frameShort_refused, frameShort_uncounted⟩

end Sys2Proof.Machine
end

section
/-! The host watchdog (R250, R366, R367, R368, R369): its windows, its check-ins, the loss of its clock, a TASKS write. -/

namespace Sys2Proof.Machine

open Sys2Proof

/-! A set as a sum of powers of two. -/

theorem nbit_testBit (n k : Nat) : nbit n k = n.testBit k := by
  rw [nbit, Nat.testBit_eq_decide_div_mod_eq]
  rfl

theorem nbit_mod {n k b : Nat} (h : k < b) : nbit (n % 2 ^ b) k = nbit n k := by
  rw [nbit_testBit, nbit_testBit, Nat.testBit_mod_two_pow, decide_eq_true h, Bool.true_and]

/-- The set of the positions below n with a property. -/
theorem nbit_sum (n : Nat) (p : Nat → Bool) :
    ((List.range n).filter p).foldl (fun a t => a + 2 ^ t) 0 < 2 ^ n ∧
    ∀ k, nbit (((List.range n).filter p).foldl (fun a t => a + 2 ^ t) 0) k = (decide (k < n) && p k) := by
  induction n with
  | zero => exact ⟨Nat.one_pos, fun k => by simp [nbit]⟩
  | succ n ih =>
    obtain ⟨hlt, hbit⟩ := ih
    rw [List.range_succ, List.filter_append, List.foldl_append]
    generalize ((List.range n).filter p).foldl (fun a t => a + 2 ^ t) 0 = m at hlt hbit
    have hnext (k : Nat) : decide (k < n + 1) = (decide (k < n) || decide (k = n)) := by
      rw [← Bool.decide_or]
      exact decide_eq_decide.mpr Nat.lt_succ_iff_lt_or_eq
    cases hp : p n with
    | false =>
      simp only [List.filter_cons, hp, List.filter_nil, Bool.false_eq_true, if_false, List.foldl_nil]
      refine ⟨hlt.trans (Nat.pow_lt_pow_succ Nat.one_lt_two), fun k => ?_⟩
      rw [hbit, hnext]
      by_cases hk : k = n <;> simp [hk, hp]
    | true =>
      simp only [List.filter_cons, hp, List.filter_nil, if_true, List.foldl_cons, List.foldl_nil]
      refine ⟨by rw [Nat.pow_succ]; omega, fun k => ?_⟩
      have hor : m + 2 ^ n = 2 ^ n ||| m := by
        rw [Nat.add_comm]
        simpa using Nat.two_pow_add_eq_or_of_lt hlt 1
      rw [nbit_testBit, hor, Nat.testBit_or, Nat.testBit_two_pow, ← nbit_testBit, hbit, hnext]
      by_cases hk : k = n
      · simp [hk, hp]
      · simp [hk, Ne.symm hk]

/-! A finding. -/

namespace Logic

theorem bare_wdogFinding (l : Logic) (bit src task : Nat) (inj : Bool) : (l.wdogFinding bit src task inj).bare = l.bare := by
  rw [wdogFinding, bare_fault, bare_evt]

theorem word_wdogFinding (l : Logic) (bit src task : Nat) (inj : Bool) {a : Nat} (ha : regHome a ≠ R.EVT_RAW R.pageWDOG) :
    (l.wdogFinding bit src task inj).regs.word a = l.regs.word a :=
  word_evt_other l task inj false ha

/-- Findings of several tasks. -/
theorem wdogFindings {bit src : Nat} {inj : Nat → Bool} (ts : List Nat) (l : Logic) :
    (ts.foldl (fun l t => l.wdogFinding bit src t (inj t)) l).bare = l.bare ∧
    ∀ a, regHome a ≠ R.EVT_RAW R.pageWDOG → (ts.foldl (fun l t => l.wdogFinding bit src t (inj t)) l).regs.word a = l.regs.word a := by
  induction ts generalizing l with
  | nil => exact ⟨rfl, fun _ _ => rfl⟩
  | cons t ts ih =>
    obtain ⟨hbare, hword⟩ := ih (l.wdogFinding bit src t (inj t))
    exact ⟨hbare.trans (bare_wdogFinding ..), fun a ha => (hword a ha).trans (word_wdogFinding l bit src t (inj t) ha)⟩

/-! A window opens. -/

theorem word_wdogOpen (first : Bool) (l : Logic) {a : Nat} (hserved : regHome a ≠ R.WDOG_SERVED) (hstate : regHome a ≠ R.WDOG_STATE)
    (hstatus : regHome a ≠ R.STATUS R.pageWDOG) : (l.wdogOpen first).regs.word a = l.regs.word a :=
  (word_put_other _ _ hstatus).trans <| (word_put_other _ _ hstate).trans <| word_put_other _ _ hserved

/-- The window's set-up (R367, R369). -/
theorem wdogOpen_window (first : Bool) (l : Logic) : (l.wdogOpen first).wdog.running = true ∧ (l.wdogOpen first).wdog.opened = l.time ∧
    (l.wdogOpen first).wdog.openAt = (if first then 0 else l.g F.WDOG_WIN_OPEN) ∧ (l.wdogOpen first).wdog.tasks = l.g F.WDOG_TASKS_EN :=
  ⟨rfl, rfl, rfl, rfl⟩

/-- No task is served in it yet. -/
theorem wdogOpen_unserved (first : Bool) (l : Logic) : (l.wdogOpen first).g F.WDOG_SERVED_TASK = 0 := by
  unfold wdogOpen
  dsimp only
  rw [g_put_clear _ _ _ _ rfl (by decide), putb, g_put_clear _ _ _ _ rfl (by decide), g_put_same _ _ _ rfl]
  rfl

theorem wdogOpen_first (first : Bool) (l : Logic) : (l.wdogOpen first).gb F.WDOG_STATE_FIRSTWIN = first := by
  unfold wdogOpen
  dsimp only
  rw [gb_put_clear _ _ _ _ rfl (by decide), gb_putb_same _ _ rfl rfl]

end Logic

theorem wdogFirstWindow_opens (s : State) (hdue : s.ld.wdog.firstDue = true) (hrunning : s.ld.wdog.running = false)
    (hhalted : s.ld.gb wdogHalted = false) (htasks : s.ld.g F.WDOG_TASKS_EN ≠ 0) (hmode : s.ld.mode ≠ .boot) :
    Answers (exec .wdogFirstWindow s) fun t => t.ld.wdog.running = true ∧ t.ld.wdog.opened = s.ld.time ∧ t.ld.wdog.openAt = 0 ∧
      t.ld.wdog.tasks = s.ld.g F.WDOG_TASKS_EN ∧ t.ld.g F.WDOG_SERVED_TASK = 0 ∧ t.ld.gb F.WDOG_STATE_FIRSTWIN = true ∧ t.fd = s.fd := by
  have hfirst : s.ld.wdogFirst = s.ld.wdogOpen true := if_pos (by simp [hdue, hrunning, hhalted, htasks, hmode])
  obtain ⟨hruns, hopened, hopen, hen⟩ := s.ld.wdogOpen_window true
  refine ⟨_, runLogic_next Logic.wdogFirst s, ?_⟩
  dsimp only
  rw [hfirst]
  exact ⟨hruns, hopened, hopen, hen, s.ld.wdogOpen_unserved true, s.ld.wdogOpen_first true, rfl⟩

/-! A window closes (R367, R368, R369). -/

/-- What a window's close latches: the tasks missed, and those served twice or early. -/
def Logic.wdogLatch (missed double early : Nat) (l : Logic) : Logic :=
  let l := ((l.put F.WDOG_TASKFLT_MISSED missed).put F.WDOG_TASKFLT_DOUBLE double).put F.WDOG_TASKFLT_EARLY early
  l.putWord R.WDOG_WINCOUNT (l.regs.word R.WDOG_WINCOUNT + 1#32)

theorem Logic.wdogLatch_shown (missed double early : Nat) (l : Logic) :
    (l.wdogLatch missed double early).g F.WDOG_TASKFLT_MISSED = missed % 2 ^ 8 ∧
    (l.wdogLatch missed double early).g F.WDOG_TASKFLT_DOUBLE = double % 2 ^ 8 ∧
    (l.wdogLatch missed double early).g F.WDOG_TASKFLT_EARLY = early % 2 ^ 8 ∧
    (l.wdogLatch missed double early).regs.word R.WDOG_WINCOUNT = l.regs.word R.WDOG_WINCOUNT + 1#32 ∧
    (l.wdogLatch missed double early).g F.WDOG_TASKS_EN = l.g F.WDOG_TASKS_EN ∧ (l.wdogLatch missed double early).time = l.time := by
  have hcount (m : Logic) (w : Word) {x : Fld} (hx : regHome x.addr ≠ R.WDOG_WINCOUNT) : (m.putWord R.WDOG_WINCOUNT w).g x = m.g x :=
    congrArg (wbits · x.lo x.len) (word_write_other _ w hx)
  unfold Logic.wdogLatch
  dsimp only
  rw [hcount _ _ (by decide), hcount _ _ (by decide), hcount _ _ (by decide), hcount _ _ (by decide)]
  refine ⟨?_, ?_, Logic.g_put_same _ _ _ rfl, (word_write_same ..).trans (congrArg (· + 1#32) ?_), ?_,
    by rw [Logic.putWord_time, Logic.put_time, Logic.put_time, Logic.put_time]⟩
  · rw [Logic.g_put_clear _ _ _ _ rfl (by decide), Logic.g_put_clear _ _ _ _ rfl (by decide), Logic.g_put_same _ _ _ rfl]
    rfl
  · rw [Logic.g_put_clear _ _ _ _ rfl (by decide), Logic.g_put_same _ _ _ rfl]
    rfl
  · rw [Logic.word_put_other _ _ (by decide), Logic.word_put_other _ _ (by decide), Logic.word_put_other _ _ (by decide)]
  · rw [Logic.g_put_clear _ _ _ _ rfl (by decide), Logic.g_put_clear _ _ _ _ rfl (by decide), Logic.g_put_clear _ _ _ _ rfl (by decide)]

/-- After a window without a finding, SAFE no longer has the watchdog as a cause (R30). -/
def Logic.wdogCleared (clean : Bool) (l : Logic) : Logic :=
  if clean then ({ l with wdog := { l.wdog with restarted := false } }).put (safeCause 1) 0 else l

theorem Logic.wdogCleared_kept (clean : Bool) (l : Logic) : (l.wdogCleared clean).time = l.time ∧
    ∀ a, regHome a ≠ R.DEVICE_MODE → (l.wdogCleared clean).regs.word a = l.regs.word a := by
  unfold Logic.wdogCleared
  split
  · exact ⟨rfl, fun a ha => Logic.word_put_other _ _ ha⟩
  · exact ⟨rfl, fun _ _ => rfl⟩

/-- The registered tasks without a service. -/
def Logic.wdogUnserved (l : Logic) : List Nat := (List.range 8).filter fun t => nbit l.wdog.tasks t && !nbit (l.g F.WDOG_SERVED_TASK) t

/-- A window that is judged closes: its findings are told. -/
def Logic.wdogTold (l : Logic) : Logic :=
  l.wdogUnserved.foldl (fun m t => m.wdogFinding 0 32 t (nbit (l.g F.WDOG_SERVED_TASK) t)) { l with wdog := { l.wdog with injMissed := 0 } }

theorem Logic.wdogTold_kept (l : Logic) : l.wdogTold.time = l.time ∧ ∀ a, regHome a ≠ R.EVT_RAW R.pageWDOG →
    l.wdogTold.regs.word a = l.regs.word a := by
  obtain ⟨hbare, hword⟩ := Logic.wdogFindings (bit := 0) (src := 32) (inj := nbit (l.g F.WDOG_SERVED_TASK)) l.wdogUnserved
    { l with wdog := { l.wdog with injMissed := 0 } }
  exact ⟨(Logic.of_bare Logic.time hbare :), hword⟩

/-- Then they latch, and the next window opens. -/
theorem Logic.wdogClose_latches {l : Logic} (hrunning : l.wdog.running = true) (hjudges : l.wdogJudges = true) (hinj : l.wdog.injMissed = 0) :
    ∃ clean, l.wdogClose =
      let m := (l.wdogTold.wdogLatch (l.wdogUnserved.foldl (fun a t => a + 2 ^ t) 0) l.wdog.double l.wdog.early).wdogCleared clean
      if m.g F.WDOG_TASKS_EN = 0 then m.wdogStop else m.wdogOpen false := by
  have hgone : ((List.range 8).filter fun t => l.wdogJudges && nbit l.wdog.tasks t && (!nbit (l.g F.WDOG_SERVED_TASK) t || nbit l.wdog.injMissed t)) =
      l.wdogUnserved := by
    refine List.filter_congr fun t _ => ?_
    simp [hjudges, hinj, nbit]
  refine ⟨l.wdogUnserved.foldl (fun a t => a + 2 ^ t) 0 == 0 && l.wdog.double == 0 && l.wdog.early == 0 && l.wdog.restarted, ?_⟩
  unfold Logic.wdogClose Logic.wdogTold Logic.wdogLatch Logic.wdogCleared
  rw [if_neg (by simp [hrunning])]
  dsimp only
  rw [hgone, hjudges]
  rfl

theorem wdogWindowClose_judges (s : State) (hrunning : s.ld.wdog.running = true) (hjudges : s.ld.wdogJudges = true)
    (hinj : s.ld.wdog.injMissed = 0) (htasks : s.ld.g F.WDOG_TASKS_EN ≠ 0) :
    Answers (exec .wdogWindowClose s) fun t =>
      (∀ k : Fin 8, nbit (t.ld.g F.WDOG_TASKFLT_MISSED) k = (nbit s.ld.wdog.tasks k && !nbit (s.ld.g F.WDOG_SERVED_TASK) k)) ∧
      t.ld.g F.WDOG_TASKFLT_DOUBLE = s.ld.wdog.double % 256 ∧ t.ld.g F.WDOG_TASKFLT_EARLY = s.ld.wdog.early % 256 ∧
      t.ld.regs.word R.WDOG_WINCOUNT = s.ld.regs.word R.WDOG_WINCOUNT + 1#32 ∧ t.ld.wdog.running = true ∧ t.ld.wdog.opened = s.ld.time ∧
      t.ld.g F.WDOG_SERVED_TASK = 0 := by
  obtain ⟨clean, hclose⟩ := Logic.wdogClose_latches hrunning hjudges hinj
  obtain ⟨htime, hword⟩ := s.ld.wdogTold_kept
  refine ⟨_, runLogic_next Logic.wdogClose s, ?_⟩
  dsimp only
  rw [hclose]
  generalize s.ld.wdogTold = x at htime hword ⊢
  obtain ⟨hmissed, hdouble, hearly, hcount, hen, hlatched⟩ :=
    x.wdogLatch_shown (s.ld.wdogUnserved.foldl (fun a t => a + 2 ^ t) 0) s.ld.wdog.double s.ld.wdog.early
  generalize x.wdogLatch (s.ld.wdogUnserved.foldl (fun a t => a + 2 ^ t) 0) s.ld.wdog.double s.ld.wdog.early = y
    at hmissed hdouble hearly hcount hen hlatched ⊢
  obtain ⟨hkept, hwords⟩ := y.wdogCleared_kept clean
  generalize y.wdogCleared clean = m at hkept hwords ⊢
  have hen' : m.g F.WDOG_TASKS_EN = s.ld.g F.WDOG_TASKS_EN := by
    rw [Logic.g, Fld.get, hwords _ (by decide)]
    exact hen.trans (congrArg (wbits · 0 8) (hword R.WDOG_TASKS (by decide)))
  dsimp only
  rw [if_neg (hen' ▸ htasks)]
  obtain ⟨hruns, hopened, -, -⟩ := m.wdogOpen_window false
  have hopen {a : Nat} (ha : a = R.WDOG_TASKFLT ∨ a = R.WDOG_WINCOUNT) : (m.wdogOpen false).regs.word a = y.regs.word a := by
    rcases ha with rfl | rfl <;> exact (Logic.word_wdogOpen _ _ (by decide) (by decide) (by decide)).trans (hwords _ (by decide))
  have hshown {x : Fld} (hx : x.addr = R.WDOG_TASKFLT) : (m.wdogOpen false).g x = y.g x :=
    congrArg (wbits · x.lo x.len) (hopen (.inl hx))
  refine ⟨fun k => ?_, (hshown rfl).trans hdouble, (hshown rfl).trans hearly, (hopen (.inr rfl)).trans (hcount.trans ?_), hruns,
    hopened.trans (hkept.trans (hlatched.trans htime)), m.wdogOpen_unserved false⟩
  · rw [hshown rfl, hmissed, nbit_mod k.isLt, Logic.wdogUnserved, (nbit_sum 8 _).2, decide_eq_true k.isLt, Bool.true_and]
  · rw [hword _ (by decide)]

/-! Check-ins (R250, R367, R368). -/

/-- The count does not depend on what a frame does before its command. -/
theorem Logic.wdogCount_openFrame (l : Logic) : l.openFrame.wdogCount = l.wdogCount := by
  have hgb {x : Fld} (hx : regHome x.addr ≠ R.HOST_FRAMES) : l.openFrame.gb x = l.gb x := l.openFrame_framed.gb hx
  have hlpo : l.openFrame.wdogOnLpo = l.wdogOnLpo := by rw [Logic.wdogOnLpo, Logic.wdogOnLpo, hgb (by decide), hgb (by decide)]
  unfold Logic.wdogCount
  rw [hlpo, hgb (x := clockOk 4) (by decide), hgb (x := F.CLOCK_SRCSTAT_DEGRADED) (by decide)]
  rfl

/-- A first service of a registered task in the open part of a window. -/
theorem Logic.checkIn_serves {l : Logic} {t : Nat} (ht : t < 8) (hrunning : l.wdog.running = true) (htask : nbit l.wdog.tasks t = true)
    (hopen : l.wdog.openAt ≤ l.wdogCount) (hinj : nbit l.wdog.injDouble t = false) (hfirst : nbit (l.g F.WDOG_SERVED_TASK) t = false) :
    ∃ m : Logic, l.checkIn t = (none, m) ∧ nbit (m.g F.WDOG_SERVED_TASK) t = true ∧ m.boot = l.boot ∧ m.linkUp = l.linkUp ∧
      m.host = l.host ∧ ∀ x : Fld, regHome x.addr ≠ R.WDOG_SERVED → m.g x = l.g x := by
  have hjudged (m : Logic) : nbit ((m.put F.WDOG_SERVED_TASK (nset (m.g F.WDOG_SERVED_TASK) t)).g F.WDOG_SERVED_TASK) t = true := by
    rw [Logic.g_put_same _ _ _ rfl]
    exact (nbit_mod ht).trans (nbit_nset_same _ t)
  have hcheck : l.checkIn t = (none, l.wdogJudge t) := by
    unfold Logic.checkIn
    dsimp only
    rw [hrunning, if_pos rfl, htask]
    rfl
  refine ⟨_, hcheck, ?_⟩
  unfold Logic.wdogJudge
  extract_lets c m
  have hm : m.wdog = l.wdog ∧ (∀ x, m.g x = l.g x) ∧ m.boot = l.boot ∧ m.linkUp = l.linkUp ∧ m.host = l.host := by
    unfold m
    split <;> exact ⟨rfl, fun _ => rfl, rfl, rfl, rfl⟩
  generalize m = m at hm ⊢
  obtain ⟨hwdog, hget, hboot, hlink, hhost⟩ := hm
  rw [hwdog, if_neg (Nat.not_lt.mpr hopen), hinj, hget, hfirst, ← hget]
  simp only [Bool.false_eq_true, if_false, ite_self]
  exact ⟨hjudged m, hboot, hlink, hhost, fun x hx => (congrArg (wbits · x.lo x.len) (Logic.word_put_other m _ hx)).trans (hget x)⟩

/-- Beside the partner's queue, a frame to the partner leaves the logic die. -/
theorem Logic.whenSent_port (l : Logic) (c : Bool) (k : PFrame) : (l.when c (Logic.sendPartner k)).boot = l.boot ∧
    (l.when c (Logic.sendPartner k)).linkUp = l.linkUp ∧ (l.when c (Logic.sendPartner k)).host = l.host ∧
    ∀ x, (l.when c (Logic.sendPartner k)).g x = l.g x := by
  cases c
  · exact ⟨rfl, rfl, rfl, fun _ => rfl⟩
  · obtain ⟨hboot, hlink, hhost⟩ := l.sendPartner_port k
    exact ⟨hboot, hlink, hhost, l.g_sendPartner k⟩

theorem checkIn_serves (s : State) (a : Addr) (extra : Bool) (htold : s.told = true) (hserves : s.ld.serves = true) (ha : a.val < 8)
    (hrunning : s.ld.wdog.running = true) (htask : nbit s.ld.wdog.tasks a = true) (hopen : s.ld.wdog.openAt ≤ s.ld.wdogCount)
    (hinj : nbit s.ld.wdog.injDouble a = false) (hfirst : nbit (s.ld.g F.WDOG_SERVED_TASK) a = false) :
    Answers (exec (.checkIn a extra) s) fun t => nbit (t.ld.g F.WDOG_SERVED_TASK) a = true ∧ t.ld.host.ferr = false := by
  obtain ⟨m, hcheck, hserved, hboot, hlink, hhost, -⟩ := Logic.checkIn_serves (l := s.ld.openFrame) ha hrunning htask
    (s.ld.wdogCount_openFrame.symm ▸ hopen) hinj ((congrArg (nbit · a) (s.ld.openFrame_framed.get (x := F.WDOG_SERVED_TASK) (by decide))).trans hfirst)
  have hact : (s.onLd Logic.openFrame).serviceTask a =
      ([], { s with ld := m.when (m.g F.PAIR_STAT_ROLE == 1) (Logic.sendPartner (.mirror (.checkIn (Fin.ofNat 8 a)))) }) := by
    unfold State.serviceTask
    rw [if_neg (not_not.mpr (Nat.div_eq_of_lt ha))]
    dsimp only [State.onLd]
    rw [hcheck]
  obtain ⟨hboot', hlink', hhost', hserved'⟩ := m.whenSent_port (m.g F.PAIR_STAT_ROLE == 1) (.mirror (.checkIn (Fin.ofNat 8 a)))
  refine answers_frame htold (Logic.serves_answers hserves) (Logic.serves_stops hserves (by decide)) hact (hboot'.trans hboot)
    (hlink'.trans hlink) rfl fun t ht _ => ?_
  have hend := Logic.ends_of_eq ht
  refine ⟨?_, (congrArg HostRun.ferr hend.host).trans (congrArg HostRun.ferr (hhost'.trans hhost))⟩
  rw [hend.get (by decide)]
  exact (congrArg (nbit · a) (hserved' _)).trans hserved

theorem Logic.checkIn_refuses {l : Logic} {t : Nat} (htask : nbit (if l.wdog.running then l.wdog.tasks else l.g F.WDOG_TASKS_EN) t = false) :
    l.checkIn t = (some 15, l.bump F.WDOG_UNREG_COUNT) := by
  unfold Logic.checkIn
  extract_lets reg
  rw [show nbit reg t = false from htask]
  rfl

/-- A task that is not registered is counted, and its frame ends in error (R250, R368). -/
theorem checkIn_refused (s : State) (a : Addr) (htold : s.told = true) (hserves : s.ld.serves = true) (ha : a.val < 8)
    (htask : nbit (if s.ld.wdog.running then s.ld.wdog.tasks else s.ld.g F.WDOG_TASKS_EN) a = false) :
    Answers (exec (.checkIn a false) s) fun t => t.ld.host.ferr = true ∧ t.ld.g F.HOST_ERR_REASON = 15 ∧
      t.ld.g F.WDOG_UNREG_COUNT = min (2 ^ F.WDOG_UNREG_COUNT.len - 1) (s.ld.g F.WDOG_UNREG_COUNT + 1) := by
  have hget {x : Fld} (hx : regHome x.addr ≠ R.HOST_FRAMES) : s.ld.openFrame.g x = s.ld.g x := s.ld.openFrame_framed.get hx
  have htask' : nbit (if s.ld.openFrame.wdog.running then s.ld.openFrame.wdog.tasks else s.ld.openFrame.g F.WDOG_TASKS_EN) a = false := by
    rw [hget (by decide)]
    exact htask
  have hact : (s.onLd Logic.openFrame).serviceTask a = ([(15, a.val)], (s.onLd Logic.openFrame).onLd (Logic.bump F.WDOG_UNREG_COUNT)) := by
    unfold State.serviceTask
    rw [if_neg (not_not.mpr (Nat.div_eq_of_lt ha))]
    dsimp only [State.onLd]
    rw [Logic.checkIn_refuses htask']
  refine answers_frame htold (Logic.serves_answers hserves) (Logic.serves_stops hserves (by decide)) hact rfl rfl rfl fun t ht _ => ?_
  have hend := Logic.ends_of_eq ht
  refine ⟨congrArg HostRun.ferr hend.host, (hend.refused rfl).reason, ?_⟩
  rw [hend.get (by decide), ← hget (by decide)]
  exact Logic.g_bump_same _ _ rfl

/-! The other clock, and a TASKS write (R366, R369). -/

/-- A count that has just been taken over does not depend on the clock. -/
theorem Logic.wdogCount_taken {l : Logic} (hopened : l.wdog.opened = l.time) :
    l.wdogCount = if l.wdog.running then min l.wdog.base (l.wdog.close - 1) else 0 := by
  have hloose (percent : Nat) : l.looseCount percent 0 = 0 := by
    simp [Logic.looseCount, Nat.mod_one]
  unfold Logic.wdogCount
  rw [hopened]
  simp only [Nat.sub_self, hloose, Nat.zero_div, ite_self, Nat.add_zero]

/-- The other clock goes on at the count reached (R366). -/
theorem Logic.wdogCarry_counts (l : Logic) : l.wdogCarry.time = l.time ∧
    l.wdogCarry.wdog = { l.wdog with base := l.wdogCarry.wdog.base, opened := l.wdogCarry.wdog.opened } ∧
    ∀ m : Logic, m.wdog = l.wdogCarry.wdog → m.time = l.time → m.wdogCount = l.wdogCount := by
  cases hrunning : l.wdog.running with
  | false =>
    have hcarry : l.wdogCarry = l := if_neg (by simp [hrunning])
    have hstopped {m : Logic} (h : m.wdog = l.wdog) : m.wdogCount = 0 := by
      unfold Logic.wdogCount
      rw [h, hrunning]
      exact if_neg Bool.false_ne_true
    rw [hcarry]
    exact ⟨rfl, rfl, fun m hm _ => (hstopped hm).trans (hstopped rfl).symm⟩
  | true =>
    have hcarry : l.wdogCarry = { l with wdog := { l.wdog with base := l.wdogCount, opened := l.time }, draws := if l.wdogOnLpo then l.draws + 1 else l.draws } :=
      if_pos hrunning
    have hbelow : l.wdogCount ≤ l.wdog.close - 1 := by
      unfold Logic.wdogCount
      rw [hrunning]
      exact Nat.min_le_right _ _
    rw [hcarry]
    refine ⟨rfl, rfl, fun m hm htime => ?_⟩
    rw [Logic.wdogCount_taken (by rw [hm]; exact htime.symm), hm]
    dsimp only
    rw [if_pos hrunning, Nat.min_eq_left hbelow]

theorem wdogClockStop_carries (s : State) (halt : s.ld.gb wdogClkAlt = false) :
    Answers (exec .wdogClockStop s) fun t => t.ld.gb wdogClkAlt = true ∧ t.ld.gb ⟨R.EVT_RAW R.pageWDOG, 3, 1⟩ = true ∧
      (∃ e ∈ t.ld.raised, e.src = 35 ∧ e.severe = true) ∧ t.ld.wdogCount = s.ld.wdogCount ∧
      t.ld.wdog = { s.ld.wdog with base := t.ld.wdog.base, opened := t.ld.wdog.opened } := by
  obtain ⟨htime, hwdog, hcount⟩ := s.ld.wdogCarry_counts
  have hstop : s.ld.wdogClockStop false = ((s.ld.wdogCarry.put wdogClkAlt 1).evt R.pageWDOG 3).fault 35 true := by
    unfold Logic.wdogClockStop
    rw [halt]
    rfl
  refine ⟨_, runLogic_next (Logic.wdogClockStop false) s, ?_⟩
  dsimp only
  rw [hstop]
  generalize s.ld.wdogCarry = l at htime hwdog hcount ⊢
  have hkept : (((l.put wdogClkAlt 1).evt R.pageWDOG 3).fault 35 true).bare = l.bare := by rw [Logic.bare_fault, Logic.bare_evt, Logic.bare_put]
  have hwdog' : (((l.put wdogClkAlt 1).evt R.pageWDOG 3).fault 35 true).wdog = l.wdog := Logic.of_bare Logic.wdog hkept
  refine ⟨?_, ?_, ⟨_, List.mem_append_right _ (List.mem_singleton_self _), rfl, rfl⟩, ?_, ?_⟩
  · rw [Logic.gb_of_g (Logic.g_fault ..), Logic.gb_of_g (Logic.g_evt_clear _ _ _ _ (by decide) (by decide)), Logic.gb_put_same _ _ rfl]
    rfl
  · rw [Logic.gb_of_g (Logic.g_fault ..), Logic.gb_evt_same _ _ _ _ (by decide)]
  · exact hcount _ hwdog' ((Logic.of_bare Logic.time hkept).trans htime)
  · rw [hwdog']
    exact hwdog

theorem freeRegister_wdogTasks : FreeRegister R.WDOG_TASKS := freeRegister (by decide) fun _ _ => rfl

theorem Logic.word_record (l : Logic) (r : LoftReq) (a : Nat) : (l.record r).regs.word a = l.regs.word a := rfl

theorem Logic.word_gen_other (l : Logic) {p a : Nat} (h : regHome a ≠ R.GEN p) (hp : regHome (R.GEN p) = R.GEN p) : (l.gen p).regs.word a = l.regs.word a := by
  rw [Logic.gen]
  exact Logic.word_put_other l _ (by rw [hp]; exact h)

/-- The watchdog's grades stand in the FAULT page. -/
theorem Logic.wdogGrades_kept (l : Logic) : l.wdogGrades.host = l.host ∧ l.wdogGrades.bare = l.bare ∧
    ∀ a, (∀ i ∈ [32, 33, 34], regHome a ≠ regHome (F.FAULT_SRC_STAT_SEVERE i).addr) → regHome a ≠ R.GEN R.pageFAULT →
      l.wdogGrades.regs.word a = l.regs.word a := by
  have hstep (l : Logic) (x : Fld) (r : LoftReq) : (((l.put x 0).gen R.pageFAULT).record r).host = l.host ∧
      ∀ a, regHome a ≠ regHome x.addr → regHome a ≠ R.GEN R.pageFAULT → (((l.put x 0).gen R.pageFAULT).record r).regs.word a = l.regs.word a :=
    ⟨(Logic.record_host ..).trans ((Logic.put_host ..).trans (Logic.put_host ..)), fun a ha hgen => (Logic.word_record ..).trans <| ((l.put x 0).word_gen_other hgen rfl).trans (l.word_put_other 0 ha)⟩
  unfold Logic.wdogGrades
  generalize [32, 33, 34] = ks
  induction ks generalizing l with
  | nil => exact ⟨rfl, rfl, fun _ _ _ => rfl⟩
  | cons i ks ih =>
    rw [List.foldl_cons]
    split
    · obtain ⟨hhost, hbare, hword⟩ := ih (((l.put (F.FAULT_SRC_STAT_SEVERE i) 0).gen R.pageFAULT).record
        { code := 0x4003, source := i, time := l.time, p0 := l.g (F.FAULT_SRC_STAT_COUNT i) })
      refine ⟨hhost.trans (hstep ..).1, hbare.trans ?_, fun a ha hgen => (hword a (fun k hk => ha k (List.mem_cons_of_mem i hk)) hgen).trans ?_⟩
      · rw [Logic.bare_record, Logic.bare_gen, Logic.bare_put]
      · exact (hstep ..).2 a (ha i List.mem_cons_self) hgen
    · obtain ⟨hhost, hbare, hword⟩ := ih l
      exact ⟨hhost, hbare, fun a ha hgen => hword a (fun k hk => ha k (List.mem_cons_of_mem i hk)) hgen⟩

/-- The words that a restart writes beside the page's STATUS. -/
def wdogRestartWords : List Nat :=
  [R.EVT_RAW R.pageWDOG, R.GEN R.pageFAULT, R.FAULT_SRC_STAT 32, R.FAULT_SRC_STAT 33, R.FAULT_SRC_STAT 34]

/-- A restart of a halted watchdog shows in its HALTED, and leaves the count. -/
theorem Logic.wdogRestart_kept (l : Logic) : l.wdogRestart.gb wdogHalted = false ∧
    (∃ restarted due, l.wdogRestart.wdog = { l.wdog with restarted := restarted, firstDue := due }) ∧ l.wdogRestart.host = l.host ∧
    l.wdogRestart.boot = l.boot ∧ l.wdogRestart.linkUp = l.linkUp ∧ l.wdogRestart.time = l.time ∧ l.wdogRestart.draws = l.draws ∧
    ∀ x : Fld, regHome x.addr ∉ wdogRestartWords → x.clear wdogHalted = true → l.wdogRestart.g x = l.g x := by
  unfold Logic.wdogRestart
  split
  next h =>
    obtain ⟨hhost, hbare, hword⟩ := ((l.put wdogHalted 0).evt R.pageWDOG 5).wdogGrades_kept
    have hget {x : Fld} (hx : regHome x.addr ∉ wdogRestartWords) :
        ((l.put wdogHalted 0).evt R.pageWDOG 5).wdogGrades.g x = (l.put wdogHalted 0).g x := by
      have hall : ∀ y ∈ wdogRestartWords, regHome x.addr ≠ y := fun y hy e => hx (e ▸ hy)
      have hstat : ∀ i ∈ [32, 33, 34], regHome x.addr ≠ regHome (F.FAULT_SRC_STAT_SEVERE i).addr := by
        have hhomes : ∀ i ∈ [32, 33, 34], regHome (F.FAULT_SRC_STAT_SEVERE i).addr ∈ wdogRestartWords := by decide
        exact fun i hi => hall _ (hhomes i hi)
      exact congrArg (wbits · x.lo x.len)
        ((hword _ hstat (hall _ (by decide))).trans (Logic.word_evt_other _ _ _ _ (hall (regHome (R.EVT_RAW R.pageWDOG)) (by decide))))
    rw [Logic.evt_host, Logic.put_host] at hhost
    rw [Logic.bare_evt, Logic.bare_put] at hbare
    generalize ((l.put wdogHalted 0).evt R.pageWDOG 5).wdogGrades = m at hhost hbare hget
    refine ⟨?_, ⟨true, true, ?_⟩, hhost, (Logic.of_bare Logic.boot hbare :), (Logic.of_bare Logic.linkUp hbare :),
      (Logic.of_bare Logic.time hbare :), (Logic.of_bare Logic.draws hbare :), fun x hx hclear => ?_⟩
    · exact (Logic.gb_of_g (hget (by decide))).trans (Logic.gb_put_same _ _ rfl)
    · exact congrArg (fun w : WdogRun => { w with restarted := true, firstDue := true }) (Logic.of_bare Logic.wdog hbare)
    · exact (hget hx).trans (Logic.g_put_clear _ _ _ _ rfl hclear)
  next h => exact ⟨Bool.eq_false_iff.mpr h, ⟨_, _, rfl⟩, rfl, rfl, rfl, rfl, rfl, fun _ _ _ => rfl⟩

/-- The count goes on (R369). -/
theorem Logic.wdogRestart_count (l : Logic) : l.wdogRestart.wdogCount = l.wdogCount := by
  obtain ⟨-, ⟨restarted, due, hwdog⟩, -, -, -, htime, hdraws, hget⟩ := l.wdogRestart_kept
  generalize l.wdogRestart = m at hwdog htime hdraws hget ⊢
  have hlpo : m.wdogOnLpo = l.wdogOnLpo := by
    rw [Logic.wdogOnLpo, Logic.wdogOnLpo, Logic.gb_of_g (hget F.WDOG_CFG_CLKSEL (by decide) (by decide)),
      Logic.gb_of_g (hget wdogClkAlt (by decide) (by decide))]
  unfold Logic.wdogCount Logic.looseCount
  rw [hlpo, Logic.gb_of_g (hget (clockOk 4) (by decide) (by decide)), Logic.gb_of_g (hget F.CLOCK_SRCSTAT_DEGRADED (by decide) (by decide)),
    hwdog, htime, hdraws]

/-- A TASKS write registers its tasks, and a halted watchdog restarts. -/
theorem Logic.wdogTasks_registers (w : Word) (l : Logic) : (l.wdogTasks w).g F.WDOG_TASKS_EN = wbits w 0 8 ∧ (l.wdogTasks w).gb wdogHalted = false ∧
    (l.wdogTasks w).boot = l.boot ∧ (l.wdogTasks w).linkUp = l.linkUp ∧ (l.wdogTasks w).host = l.host := by
  obtain ⟨hhalted, -, hhost, hboot, hlink, -, -, hget⟩ := (l.put F.WDOG_TASKS_EN (wbits w 0 8)).wdogRestart_kept
  have hen' := (hget F.WDOG_TASKS_EN (by decide) (by decide)).trans ((Logic.g_put_same l F.WDOG_TASKS_EN (wbits w 0 8) rfl).trans (Nat.mod_mod _ _))
  unfold Logic.wdogTasks
  dsimp only
  split
  · exact ⟨hen', hhalted, hboot, hlink, hhost⟩
  · exact ⟨hen', hhalted, hboot, hlink, hhost⟩

theorem wdogTasksWrite_registers (s : State) (ctr w : Word) (htold : s.told = true) (ht : s.ld.takes ctr R.WDOG_TASKS w) :
    Answers (exec (.wdogTasksWrite (some ctr) w) s) fun t => t.ld.host.ferr = false ∧ t.ld.g F.WDOG_TASKS_EN = wbits w 0 8 ∧
      t.ld.gb wdogHalted = false := by
  refine answers_logicWord htold ht freeRegister_wdogTasks fun x _ => ?_
  obtain ⟨hen, hhalted, hboot, hlink, hhost⟩ := (s.ld.framed x ctr).wdogTasks_registers w
  refine ⟨_, rfl, hboot, hlink, fun t ht => ?_⟩
  rw [ht]
  exact ⟨(congrArg HostRun.ferr hhost).trans (s.ld.framed_framed x ctr).ferr, hen, hhalted⟩

/-- Settles O4: the watchdog, row after row. -/
theorem hostWatchdogRows : Obligations.HostWatchdogRows := by
  unfold Obligations.HostWatchdogRows
  exact ⟨checkIn_serves, checkIn_refused, wdogFirstWindow_opens, wdogWindowClose_judges, wdogClockStop_carries, wdogTasksWrite_registers⟩

end Sys2Proof.Machine
end

section
/-! The forerunner protocol (R250, R265, R266, R268-R274): each frame shifts out the reply of the one before it, and acts. -/

namespace Sys2Proof.Machine

open Sys2Proof

theorem Fld.clear_of_home {x y : Fld} (h : regHome x.addr ≠ regHome y.addr) : x.clear y = true := by
  simp [Fld.clear, h]

/-! A frame begins and ends. -/

/-- A forerunner frame of w bits shifts the pending reply out, and its extra edges are counted (R258, R270). -/
def Logic.legacyShifted (w : Nat) (l : Logic) : Logic := { l with host := { l.host with legacySent := shiftedOut w l.host.legacyNext } }

/-- The block as the frame's command finds it. -/
def State.legacyStart (w : Nat) (s : State) : State :=
  if 32 < w then (s.onLd (Logic.legacyShifted w)).onLd Logic.extraEdges else s.onLd (Logic.legacyShifted w)

/-- What that leaves. -/
structure State.Shifted (w : Nat) (t s : State) : Prop where
  fd : t.fd = s.fd
  ld : t.ld.bare = s.ld.bare
  host : t.ld.host = (s.ld.legacyShifted w).host
  word : ∀ {a}, regHome a ∉ Logic.endWords → t.ld.regs.word a = s.ld.regs.word a

theorem State.legacyStart_shifted (w : Nat) (s : State) : (s.legacyStart w).Shifted w s := by
  have hbare : (s.ld.legacyShifted w).bare = s.ld.bare := rfl
  have hword (a : Nat) : (s.ld.legacyShifted w).regs.word a = s.ld.regs.word a := rfl
  unfold State.legacyStart State.onLd
  split
  · exact ⟨rfl, (Logic.bare_extraEdges _).trans hbare, Logic.extraEdges_host _, fun ha => (Logic.word_extraEdges ha _).trans (hword _)⟩
  · exact ⟨rfl, hbare, rfl, fun _ => hword _⟩

namespace State.Shifted

variable {w : Nat} {t s : State} (h : t.Shifted w s)
include h

theorem get {x : Fld} (hx : regHome x.addr ∉ Logic.endWords) : t.ld.g x = s.ld.g x := congrArg (wbits · x.lo x.len) (h.word hx)

theorem mode : t.ld.mode = s.ld.mode := Logic.of_bare Logic.mode h.ld

theorem boot : t.ld.boot = s.ld.boot := Logic.of_bare Logic.boot h.ld

theorem linkUp : t.ld.linkUp = s.ld.linkUp := Logic.of_bare Logic.linkUp h.ld

theorem time : t.ld.time = s.ld.time := Logic.of_bare Logic.time h.ld

theorem port : t.ld.host.ferr = s.ld.host.ferr ∧ t.ld.host.legacyErrs = s.ld.host.legacyErrs ∧ t.ld.host.mismatches = s.ld.host.mismatches := by
  rw [h.host]
  exact ⟨rfl, rfl, rfl⟩

theorem legacyUp : t.ld.legacyUp = s.ld.legacyUp := by
  rw [Logic.legacyUp, Logic.legacyUp, h.boot, Logic.gb_of_g (h.get (x := F.HOST_LEGACY_EN) (by decide))]

end State.Shifted

/-- The reply of a frame is pending from then on (R270). -/
def Logic.legacyReplies (err : Bool) (data : Nat) (l : Logic) : Logic :=
  { l with host := { l.host with legacyNext := l.legacyStatus err * 65536 + data % 65536 } }

theorem Logic.legacyReplies_data (err : Bool) (data : Nat) (l : Logic) : (l.legacyReplies err data).host.legacyNext % 65536 = data % 65536 := by
  change (l.legacyStatus err * 65536 + data % 65536) % 65536 = _
  rw [Nat.mul_add_mod', Nat.mod_mod]

theorem Logic.legacyReplies_kept (err : Bool) (data : Nat) (l : Logic) : (l.legacyReplies err data).regs = l.regs ∧
    (l.legacyReplies err data).host = { l.host with legacyNext := (l.legacyReplies err data).host.legacyNext } := ⟨rfl, rfl⟩

theorem State.legacyFrame_acts {w opcode addr data : Nat} {act : State → (List Nat × Nat) × State} {s u : State} {r : List Nat}
    (hup : s.ld.legacyUp = true) (hshort : s.ld.host.short = false) (hact : act (s.legacyStart w) = ((r, data), u)) :
    s.legacyFrame w opcode addr act =
      let v := if r.isEmpty then u else u.onLd (Logic.legacyRefused opcode r addr)
      if v.ld.legacyUp then v.onLd (Logic.legacyReplies (!r.isEmpty) data) else v.onLd Logic.dropReply := by
  unfold State.legacyFrame
  rw [if_neg (by simp [hup]), if_neg (by simp [hshort])]
  unfold State.legacyStart Logic.legacyShifted at hact
  dsimp only at hact ⊢
  rw [hact]
  rfl

section
variable {w opcode addr data : Nat} {act : State → (List Nat × Nat) × State} {s u : State} {p : State → Prop}

/-- A forerunner frame whose command is accepted, and leaves nothing to tell. -/
theorem answers_legacy (htold : s.told = true) (hup : s.ld.legacyUp = true) (hshort : s.ld.host.short = false)
    (hact : act (s.legacyStart w) = (([], data), u)) (hup' : u.ld.legacyUp = true) (hlink : u.ld.linkUp = s.ld.linkUp) (hout : u.fd.out = s.fd.out)
    (hp : ∀ t : State, t.ld = u.ld.legacyReplies false data → { t.fd with out := s.fd.out } = { u.fd with out := s.fd.out } → p t) :
    Answers (runBoth (State.legacyFrame w opcode addr act) s) p := by
  have hframe : s.legacyFrame w opcode addr act = u.onLd (Logic.legacyReplies false data) := by
    rw [State.legacyFrame_acts hup hshort hact]
    exact if_pos hup'
  refine answers_told htold ?_ ?_ ?_ <;> rw [hframe]
  · exact hlink
  · exact hout
  · exact hp

/-- One whose command is refused for one reason. -/
theorem answers_legacyRefused {reason : Nat} (htold : s.told = true) (hup : s.ld.legacyUp = true) (hshort : s.ld.host.short = false)
    (hact : act (s.legacyStart w) = (([reason], data), u)) (hup' : u.ld.legacyUp = true) (hlink : u.ld.linkUp = s.ld.linkUp) (hfd : u.fd = s.fd)
    (hp : ∀ t : State, t.ld = (u.ld.legacyRefused opcode [reason] addr).legacyReplies true data → { t.fd with out := s.fd.out } = s.fd → p t) :
    Answers (runBoth (State.legacyFrame w opcode addr act) s) p := by
  have hbare : (u.ld.legacyRefused opcode [reason] addr).bare = u.ld.bare := (Logic.bare_frameError ..).trans (rfl)
  have hup'' : (u.ld.legacyRefused opcode [reason] addr).legacyUp = true := by
    rw [← hup', Logic.legacyUp, Logic.legacyUp, Logic.of_bare Logic.boot hbare]
    exact congrArg (_ && ·) (Logic.gb_of_g (Logic.g_frameError (by decide) ..))
  have hframe : s.legacyFrame w opcode addr act = u.onLd fun l => (l.legacyRefused opcode [reason] addr).legacyReplies true data := by
    rw [State.legacyFrame_acts hup hshort hact]
    exact if_pos hup''
  refine answers_told htold ?_ ?_ ?_ <;> rw [hframe]
  · exact (Logic.of_bare Logic.linkUp hbare).trans hlink
  · exact congrArg Field.out hfd
  · exact fun t hld ht => hp t hld (ht.trans (congrArg (fun f : Field => { f with out := s.fd.out }) hfd))

end

/-- What a refusal shows (R271). -/
theorem Logic.legacyRefused_shown (op reason addr : Nat) (l : Logic) : (l.legacyRefused op [reason] addr).host.ferr = true ∧
    (l.legacyRefused op [reason] addr).g F.HOST_ERR_REASON = reason % 16 ∧
    (l.legacyRefused op [reason] addr).host = { l.host with legacyErrs := min 0xFFFF (l.host.legacyErrs + 1), provoked := false, ferr := true } ∧
    ∀ {a}, regHome a ∉ Logic.endWords → (l.legacyRefused op [reason] addr).regs.word a = l.regs.word a := by
  have hhost : (l.legacyRefused op [reason] addr).host =
      { l.host with legacyErrs := min 0xFFFF (l.host.legacyErrs + 1), provoked := false, ferr := true } := Logic.frameError_host ..
  exact ⟨congrArg HostRun.ferr hhost, (Logic.frameError_refused ..).reason, hhost, fun ha => Logic.word_frameError ha ..⟩

/-! Polls and reads (R269, R272, R273). -/

theorem Logic.legacyShifted_lstatus (w : Nat) (l : Logic) : (l.legacyShifted w).lstatus = l.lstatus := rfl

/-- A poll has no extra edges, and its act changes nothing. -/
theorem State.legacyStart_lstatus {w : Nat} (hw : w ≤ 32) (s : State) : (s.legacyStart w).ld.lstatus = s.ld.lstatus := by
  rw [State.legacyStart, if_neg (Nat.not_lt.mpr hw)]
  exact s.ld.legacyShifted_lstatus w

theorem legacyPoll_replies (s : State) (more : Fin 4) (htold : s.told = true) (hup : s.ld.legacyUp = true) (hshort : s.ld.host.short = false) :
    Answers (exec (.legacyPoll more) s) fun t => t.ld.host.legacySent = shiftedOut (4 + more) s.ld.host.legacyNext ∧
      t.ld.host.legacyNext % 65536 = s.ld.lstatus % 65536 := by
  have hstart := s.legacyStart_shifted (4 + more)
  have hstatus := s.legacyStart_lstatus (w := 4 + more) (by omega)
  change Answers (runBoth (State.legacyFrame (4 + more) 0xF2 0 fun s => (([], s.ld.lstatus), s)) s) _
  refine answers_legacy (u := s.legacyStart (4 + more)) (data := s.ld.lstatus) htold hup hshort ?_ (hstart.legacyUp.trans hup) hstart.linkUp
    (congrArg Field.out hstart.fd) fun t ht _ => ?_
  · rw [hstatus]
  · rw [ht, Logic.legacyReplies_data]
    exact ⟨congrArg HostRun.legacySent hstart.host, rfl⟩

/-- A read that is answered: what it replies, and what it leaves. -/
theorem answers_legacyRead {s u : State} {more a v : Nat} {p : State → Prop} (htold : s.told = true) (hup : s.ld.legacyUp = true)
    (hshort : s.ld.host.short = false) (hmode : s.ld.mode = .boot → a = 0x3A ∨ a = 0x3B)
    (hfetch : (s.legacyStart (8 + more)).legacyFetch a = (v, u)) (hup' : u.ld.legacyUp = true) (hlink : u.ld.linkUp = s.ld.linkUp)
    (hfd : u.fd = s.fd) (hp : ∀ t : State, t.ld = u.ld.legacyReplies false v → p t) :
    Answers (runBoth (State.legacyRead more a) s) p := by
  have hact : (s.legacyStart (8 + more)).legacyReadCmd a = (([], v), u) := by
    have hserved : ¬ ((s.legacyStart (8 + more)).ld.mode = .boot ∧ a ≠ 0x30 ∧ a ≠ 0x3A ∧ a ≠ 0x3B) := by
      rintro ⟨hboot, -, hid, hrev⟩
      exact (hmode ((s.legacyStart_shifted _).mode.symm.trans hboot)).elim hid hrev
    unfold State.legacyReadCmd
    rw [if_neg hserved, hfetch]
  change Answers (runBoth (State.legacyFrame (8 + more) opLegacyRead a (State.legacyReadCmd a)) s) p
  exact answers_legacy htold hup hshort hact hup' hlink (congrArg Field.out hfd) fun t ht _ => hp t ht

/-- ID, REV and ERRCNT (R272). -/
theorem legacyRead_replies (s : State) (more : Nat) (a : Fin 64) (htold : s.told = true) (hup : s.ld.legacyUp = true)
    (hshort : s.ld.host.short = false) (ha : a.val = 0x3A ∨ a.val = 0x3B ∨ s.ld.mode ≠ .boot ∧ a.val = 0x3C) :
    Answers (exec (.legacyRead more a) s) fun t => t.ld.host.legacySent = shiftedOut (8 + more) s.ld.host.legacyNext ∧
      t.ld.host.legacyNext % 65536 = (if a.val = 0x3A then 0x1608 else if a.val = 0x3B then 0x3218 else s.ld.host.legacyErrs % 65536) := by
  have hstart := s.legacyStart_shifted (8 + more)
  have hserved : s.ld.mode = .boot → a.val = 0x3A ∨ a.val = 0x3B := fun h => ha.imp_right fun ha => ha.resolve_right fun hc => hc.1 h
  have hfetch : (s.legacyStart (8 + more)).legacyFetch a =
      (if a.val = 0x3A then 0x1608 else if a.val = 0x3B then 0x3218 else s.ld.host.legacyErrs, s.legacyStart (8 + more)) := by
    rcases ha with ha | ha | ⟨-, ha⟩ <;> rw [ha]
    · rfl
    · rfl
    · exact congrArg (fun k => (k, s.legacyStart (8 + more))) ((congrArg HostRun.legacyErrs hstart.host).trans rfl)
  refine answers_legacyRead htold hup hshort hserved hfetch (hstart.legacyUp.trans hup) hstart.linkUp hstart.fd fun t ht => ?_
  rw [ht, Logic.legacyReplies_data]
  refine ⟨congrArg HostRun.legacySent hstart.host, ?_⟩
  split_ifs <;> rfl

/-- The logic die once a channel's latest snapshot has been latched. -/
def Logic.latched (c : Nat) (x : LegacyLatch) (l : Logic) : Logic :=
  ({ l with host := { l.host with latches := tput (fun _ => {}) l.host.latches c x } } : Logic).put (F.CTX_SNAPSTAT_UNREAD c) 0

theorem Logic.latched_shown {c : Nat} (hc : c < 16) (x : LegacyLatch) (l : Logic) : (l.latched c x).legacyUp = l.legacyUp ∧
    (l.latched c x).linkUp = l.linkUp ∧ (l.latched c x).host.legacySent = l.host.legacySent ∧
    (l.latched c x).gb (F.CTX_SNAPSTAT_UNREAD c) = false := by
  have hhome : regHome R.HOST_LEGACY ≠ regHome (R.CTX_SNAPSTAT c) := by
    rw [regHome_far (a := R.CTX_SNAPSTAT c) (by unfold R.CTX_SNAPSTAT; omega)]
    exact Nat.ne_of_lt (Nat.lt_of_lt_of_le (m := 0x8052) (by decide) (Nat.le_add_right ..))
  unfold Logic.latched
  refine ⟨?_, Logic.put_linkUp .., (congrArg HostRun.legacySent (Logic.put_host ..)).trans rfl, Logic.gb_put_same _ _ rfl⟩
  rw [Logic.legacyUp, Logic.legacyUp, Logic.put_boot, Logic.gb_put_clear _ _ _ _ rfl (Fld.clear_of_home hhome)]
  rfl

/-- CH_DATA (R273). -/
theorem legacyChDataRead_replies (s : State) (more : Nat) (n : Fin 16) (htold : s.told = true) (hup : s.ld.legacyUp = true)
    (hshort : s.ld.host.short = false) (hmode : s.ld.mode ≠ .boot) :
    Answers (exec (.legacyChDataRead more n) s) fun t => t.ld.host.legacySent = shiftedOut (8 + more) s.ld.host.legacyNext ∧
      t.ld.host.legacyNext % 65536 = s.ld.legacyData n % 65536 ∧ t.ld.gb (F.CTX_SNAPSTAT_UNREAD n) = false := by
  have hstart := s.legacyStart_shifted (8 + more)
  have hfar {a : Nat} (ha : 0x8000 ≤ a) : regHome a ∉ Logic.endWords := Logic.not_mem_endWords (by rw [regHome_far (by omega)]; omega)
  have hdata : (s.legacyStart (8 + more)).ld.legacyData n = s.ld.legacyData n := by
    unfold Logic.legacyData
    rw [hstart.word (hfar (a := R.CTX_FLAGS n) ?_), hstart.word (hfar (a := R.CTX_COUNT n) ?_), hstart.word (hfar (a := R.CTX_SUM_HI n) ?_),
      hstart.word (hfar (a := R.CTX_SUM_LO n) ?_)]
    all_goals simp only [R.CTX_FLAGS, R.CTX_COUNT, R.CTX_SUM_HI, R.CTX_SUM_LO]; omega
  have hlatch (v : State) : v.legacyFetch n = (v.ld.legacyData n, v.onLd (Logic.latched n ⟨v.ld.legacyData n, v.legacyStat n⟩)) :=
    if_pos n.isLt
  obtain ⟨hup', hlink, hsent, hunread⟩ := Logic.latched_shown n.isLt ⟨(s.legacyStart (8 + more)).ld.legacyData n,
    (s.legacyStart (8 + more)).legacyStat n⟩ (s.legacyStart (8 + more)).ld
  refine answers_legacyRead htold hup hshort (fun h => absurd h hmode) (hlatch _) (hup'.trans (hstart.legacyUp.trans hup))
    (hlink.trans hstart.linkUp) ((State.onLd_fd ..).trans hstart.fd) fun t ht => ?_
  rw [State.onLd_ld] at ht
  generalize (s.legacyStart (8 + more)).ld.latched n ⟨(s.legacyStart (8 + more)).ld.legacyData n, (s.legacyStart (8 + more)).legacyStat n⟩ = m at *
  rw [ht, Logic.legacyReplies_data]
  exact ⟨hsent.trans (congrArg HostRun.legacySent hstart.host), congrArg (· % 65536) hdata, hunread⟩

/-- TIME0 latches the device's time (R272). -/
def Logic.latchTime (l : Logic) : Logic := { l with host := { l.host with times := l.time % 2 ^ 64 } }

theorem legacyTimeRead_replies (s : State) (more : Nat) (htold : s.told = true) (hup : s.ld.legacyUp = true) (hshort : s.ld.host.short = false)
    (hmode : s.ld.mode ≠ .boot) :
    Answers (exec (.legacyTimeRead more) s) fun t => t.ld.host.times = s.ld.time % 2 ^ 64 ∧ t.ld.host.legacyNext % 65536 = s.ld.time % 65536 := by
  have hstart := s.legacyStart_shifted (8 + more)
  have htimes : ((s.legacyStart (8 + more)).onLd Logic.latchTime).ld.host.times = s.ld.time % 2 ^ 64 := congrArg (· % 2 ^ 64) hstart.time
  have hfetch : (s.legacyStart (8 + more)).legacyFetch 0x34 =
      (((s.legacyStart (8 + more)).onLd Logic.latchTime).ld.host.times % 65536, (s.legacyStart (8 + more)).onLd Logic.latchTime) := rfl
  rw [htimes] at hfetch
  refine answers_legacyRead htold hup hshort (fun h => absurd h hmode) hfetch (hstart.legacyUp.trans hup) hstart.linkUp hstart.fd fun t ht => ?_
  rw [ht, Logic.legacyReplies_data]
  exact ⟨htimes, by omega⟩

/-! Writes (R266, R271, R272, R274). -/

section
variable {s u : State} {more a data v : Nat} {p : State → Prop}

theorem State.legacyWriteCmd_stores (hmode : s.ld.mode ≠ .boot) (hmore : 16 ≤ more) :
    (s.legacyStart (8 + more)).legacyWriteCmd (8 + more) a data = (s.legacyStart (8 + more)).legacyStore a data := by
  unfold State.legacyWriteCmd
  dsimp only
  rw [if_neg (by rw [(s.legacyStart_shifted _).mode]; exact hmode), if_neg (by omega)]

/-- A write that its register takes. -/
theorem answers_legacyWrite (htold : s.told = true) (hup : s.ld.legacyUp = true) (hshort : s.ld.host.short = false) (hmode : s.ld.mode ≠ .boot)
    (hmore : 16 ≤ more) (hstore : (s.legacyStart (8 + more)).legacyStore a data = (([], v), u)) (hup' : u.ld.legacyUp = true)
    (hlink : u.ld.linkUp = s.ld.linkUp) (hout : u.fd.out = s.fd.out)
    (hp : ∀ t : State, t.ld = u.ld.legacyReplies false v → { t.fd with out := s.fd.out } = { u.fd with out := s.fd.out } → p t) :
    Answers (runBoth (State.legacyWrite more a data) s) p := by
  change Answers (runBoth (State.legacyFrame (8 + more) opLegacyWrite a (State.legacyWriteCmd (8 + more) a data)) s) p
  exact answers_legacy htold hup hshort ((State.legacyWriteCmd_stores hmode hmore).trans hstore) hup' hlink hout hp

/-- A write that its register refuses. -/
theorem answers_legacyWriteRefused {reason : Nat} (htold : s.told = true) (hup : s.ld.legacyUp = true) (hshort : s.ld.host.short = false)
    (hmode : s.ld.mode ≠ .boot) (hmore : 16 ≤ more) (hstore : (s.legacyStart (8 + more)).legacyStore a data = (([reason], v), u))
    (hup' : u.ld.legacyUp = true) (hlink : u.ld.linkUp = s.ld.linkUp) (hfd : u.fd = s.fd)
    (hp : ∀ t : State, t.ld = (u.ld.legacyRefused opLegacyWrite [reason] a).legacyReplies true v → { t.fd with out := s.fd.out } = s.fd → p t) :
    Answers (runBoth (State.legacyWrite more a data) s) p := by
  change Answers (runBoth (State.legacyFrame (8 + more) opLegacyWrite a (State.legacyWriteCmd (8 + more) a data)) s) p
  exact answers_legacyRefused htold hup hshort ((State.legacyWriteCmd_stores hmode hmore).trans hstore) hup' hlink hfd hp

end

/-- The configuration of a context is read from its page. -/
theorem State.Shifted.read_ctx {w : Nat} {t s : State} (h : t.Shifted w s) {c k : Nat} (hc : c < 128) (hk : k < 256)
    (hhead : k ≠ 2 ∧ k ≠ 5 ∧ k ≠ 7) : t.readWord (0x8000 + 256 * c + k) = s.readWord (0x8000 + 256 * c + k) := by
  have hpage : pageKind ((0x8000 + 256 * c + k) / 256) = .ctx c := by
    rw [← pageKind_ctx hc]
    congr 1
    omega
  have hoff : (0x8000 + 256 * c + k) % 256 = k := by omega
  have hhead' (x : State) (page : Nat) : x.headWord page k = none := by
    obtain ⟨h2, h5, h7⟩ := hhead
    unfold State.headWord
    split
    next h => exact absurd rfl h2
    next h => exact absurd rfl h5
    next h => exact absurd rfl h7
    next => rfl
  have hown : t.ld.regs.word (0x8000 + 256 * c + k) = s.ld.regs.word (0x8000 + 256 * c + k) :=
    h.word (Logic.not_mem_endWords (by rw [regHome_far (by omega)]; omega))
  have hsel : t.ld.regs.word R.CAL_SEL = s.ld.regs.word R.CAL_SEL := h.word (by decide)
  have hfield : onField (0x8000 + 256 * c + k) = true := by simp only [onField, hpage]
  unfold State.readWord
  simp only [hoff, hhead', hown, hsel, h.fd, h.linkUp, hfield, hpage, ite_self, if_true]

theorem State.Shifted.legacyCfg {w : Nat} {t s : State} (h : t.Shifted w s) {c : Nat} (hc : c < 16) : t.legacyCfg c = s.legacyCfg c := by
  have hread (x : Fld) {k : Nat} (hx : x.addr = 0x8000 + 256 * c + k) (hk : k < 256 ∧ k ≠ 2 ∧ k ≠ 5 ∧ k ≠ 7) : t.read x = s.read x := by
    rw [State.read, State.read, hx, h.read_ctx (by omega) hk.1 hk.2]
  have har := hread (F.CTX_AR_EN c) (k := 0x11) (by change R.CTX_AR c = _; unfold R.CTX_AR; omega) (by decide)
  have hrange := hread (F.CTX_CTXSTAT_RANGE_ACT c) (k := 0x1E) (by change R.CTX_CTXSTAT c = _; unfold R.CTX_CTXSTAT; omega) (by decide)
  have hrefsel := hread (F.CTX_CFG_REFSEL c) (k := 0x10) (by change R.CTX_CFG c = _; unfold R.CTX_CFG; omega) (by decide)
  have hen := hread (F.CTRL_EN (R.pageCTX c)) (k := 1) (by change R.CTRL (R.pageCTX c) = _; unfold R.CTRL R.pageCTX; omega) (by decide)
  unfold State.legacyCfg
  rw [har, hrange, hrefsel, hen]

theorem endWords_page {x : Nat} (h : x / 256 ≠ R.pageHOST) : regHome x ∉ Logic.endWords := fun hx =>
  absurd ((by decide : ∀ y ∈ Logic.endWords, y / 256 = R.pageHOST) _ hx) ((regHome_page x).elim (fun hp => hp ▸ h) fun hp => by rw [hp]; decide)

/-- CH_CFG's write is compared with the value in force (R274). -/
theorem State.legacyStore_cfg (t : State) (n : Fin 16) (data : Nat) :
    t.legacyStore (0x20 + n) data = t.compareCfg n data := by
  unfold State.legacyStore
  dsimp only
  rw [if_neg (by omega), if_pos (by omega), Nat.add_sub_cancel_left]

/-- A write of CH_CFG with another value is counted (R274). -/
def Logic.legacyMismatch (n : Nat) (l : Logic) : Logic :=
  { l with host := { l.host with mismatches := min 1023 (l.host.mismatches + 1), mismatchAt := 0x20 + n } }

theorem Logic.legacyMismatch_kept (n : Nat) (l : Logic) : (l.legacyMismatch n).legacyUp = l.legacyUp ∧ (l.legacyMismatch n).linkUp = l.linkUp ∧
    (∀ a, (l.legacyMismatch n).regs.word a = l.regs.word a) ∧ (l.legacyMismatch n).host.mismatches = min 1023 (l.host.mismatches + 1) ∧
    (l.legacyMismatch n).host.mismatchAt = 0x20 + n := ⟨rfl, rfl, fun _ => rfl, rfl, rfl⟩

section
variable {s : State} {more : Nat} {n : Fin 16} {data : Fin 65536} (htold : s.told = true) (hup : s.ld.legacyUp = true)
  (hshort : s.ld.host.short = false) (hmode : s.ld.mode ≠ .boot) (hmore : 16 ≤ more)
include htold hup hshort hmode hmore

/-- A write of the value in force is accepted. -/
theorem legacyCfgWrite_accepted (hdata : data.val = s.legacyCfg n) :
    Answers (runBoth (State.legacyWrite more (0x20 + n) data) s) fun t => { t.fd with out := s.fd.out } = s.fd ∧
      t.ld.host.legacyNext % 65536 = data ∧ t.ld.host.legacyErrs = s.ld.host.legacyErrs ∧ t.ld.host.mismatches = s.ld.host.mismatches ∧
      t.ld.host.ferr = s.ld.host.ferr ∧ ∀ x, x / 256 ≠ R.pageHOST → t.ld.regs.word x = s.ld.regs.word x := by
  have hstart := s.legacyStart_shifted (8 + more)
  have hstore : (s.legacyStart (8 + more)).legacyStore (0x20 + n) data = (([], data.val), s.legacyStart (8 + more)) := by
    rw [State.legacyStore_cfg, State.compareCfg, hstart.legacyCfg n.isLt]
    dsimp only
    rw [if_pos hdata, hdata]
  refine answers_legacyWrite htold hup hshort hmode hmore hstore (hstart.legacyUp.trans hup) hstart.linkUp (congrArg Field.out hstart.fd) fun t ht hfd => ?_
  obtain ⟨hferr, herrs, hmis⟩ := hstart.port
  rw [hstart.fd] at hfd
  rw [ht, Logic.legacyReplies_data]
  exact ⟨hfd, Nat.mod_eq_of_lt data.isLt, herrs, hmis, hferr, fun x hx => hstart.word (endWords_page hx)⟩

/-- A write of another value is refused, and counted. -/
theorem legacyCfgWrite_refused (hdata : data.val ≠ s.legacyCfg n) :
    Answers (runBoth (State.legacyWrite more (0x20 + n) data) s) fun t => { t.fd with out := s.fd.out } = s.fd ∧
      t.ld.host.legacyNext % 65536 = s.legacyCfg n % 65536 ∧ t.ld.host.mismatches = min 1023 (s.ld.host.mismatches + 1) ∧
      t.ld.host.mismatchAt = 0x20 + n.val ∧ t.ld.host.ferr = true ∧ t.ld.g F.HOST_ERR_REASON = 15 ∧
      ∀ x, x / 256 ≠ R.pageHOST → t.ld.regs.word x = s.ld.regs.word x := by
  have hstart := s.legacyStart_shifted (8 + more)
  have hstore : (s.legacyStart (8 + more)).legacyStore (0x20 + n) data =
      (([15], s.legacyCfg n), (s.legacyStart (8 + more)).onLd (Logic.legacyMismatch n)) := by
    rw [State.legacyStore_cfg, State.compareCfg, hstart.legacyCfg n.isLt]
    dsimp only
    rw [if_neg hdata]
    rfl
  obtain ⟨hup', hlink, hregs, hcount, hat⟩ := (s.legacyStart (8 + more)).ld.legacyMismatch_kept n
  rw [State.onLd] at hstore
  generalize (s.legacyStart (8 + more)).ld.legacyMismatch n = l at hstore hup' hlink hregs hcount hat
  obtain ⟨hferr, hreason, hhost, hword⟩ := l.legacyRefused_shown opLegacyWrite 15 (0x20 + n)
  obtain ⟨-, -, hmis⟩ := hstart.port
  refine answers_legacyWriteRefused htold hup hshort hmode hmore hstore (hup'.trans (hstart.legacyUp.trans hup)) (hlink.trans hstart.linkUp)
    hstart.fd fun t ht hfd => ?_
  rw [ht, Logic.legacyReplies_data]
  obtain ⟨hregs', hhost'⟩ := (l.legacyRefused opLegacyWrite [15] (0x20 + n)).legacyReplies_kept true (s.legacyCfg n)
  rw [Logic.g_of_regs hregs', hregs']
  refine ⟨hfd, rfl, ?_, ?_, ?_, hreason,
    fun x hx => (hword (endWords_page hx)).trans ((hregs x).trans (hstart.word (endWords_page hx)))⟩
  · rw [hhost', hhost]
    exact hcount.trans (congrArg (fun k => min 1023 (k + 1)) hmis)
  · rw [hhost', hhost]
    exact hat
  · rw [hhost', hhost]

end

/-- Settles O59: the value in force is accepted, another one counted and refused. -/
theorem legacyCfgRule : Obligations.LegacyCfgRule := by
  unfold Obligations.LegacyCfgRule
  refine ⟨fun s more n data htold hup hshort hmode hmore hdata => ?_, fun s more n data htold hup hshort hmode hmore hdata => ?_⟩
  · obtain ⟨t, hstep, hfd, hnext, -, hmis, hferr, hword⟩ := legacyCfgWrite_accepted htold hup hshort hmode hmore hdata
    exact ⟨t, hstep, hfd, hnext, hmis, hferr, hword⟩
  · obtain ⟨t, hstep, hfd, hnext, hmis, -, hferr, hreason, hword⟩ := legacyCfgWrite_refused htold hup hshort hmode hmore hdata
    exact ⟨t, hstep, hfd, hnext, hmis, hferr, hreason, hword⟩

/-- A write of the channels' data and state is refused (R271). -/
theorem legacyWrite_readOnly (s : State) (more : Nat) (a : Fin 64) (data : Fin 65536) (htold : s.told = true) (hup : s.ld.legacyUp = true)
    (hshort : s.ld.host.short = false) (hmode : s.ld.mode ≠ .boot) (hmore : 16 ≤ more) (ha : a.val < 0x20) :
    Answers (exec (.legacyWrite more a data) s) fun t => t.ld.host.ferr = true ∧ t.ld.g F.HOST_ERR_REASON = 1 ∧
      t.ld.host.legacyErrs = min 0xFFFF (s.ld.host.legacyErrs + 1) ∧ t.fd.cfg = s.fd.cfg := by
  have hstart := s.legacyStart_shifted (8 + more)
  have hstore : (s.legacyStart (8 + more)).legacyStore a data = (([1], 0xFFFF), s.legacyStart (8 + more)) := by
    unfold State.legacyStore
    exact if_pos ha
  obtain ⟨-, herrs, -⟩ := hstart.port
  refine answers_legacyWriteRefused htold hup hshort hmode hmore hstore (hstart.legacyUp.trans hup) hstart.linkUp hstart.fd fun t ht hfd => ?_
  generalize (s.legacyStart (8 + more)).ld = l at herrs ht
  obtain ⟨-, hreason, hhost, -⟩ := l.legacyRefused_shown opLegacyWrite 1 a
  obtain ⟨hregs, hhost'⟩ := (l.legacyRefused opLegacyWrite [1] a).legacyReplies_kept true 0xFFFF
  rw [ht, Logic.g_of_regs hregs, hhost', hhost]
  exact ⟨rfl, hreason, congrArg (fun k => min 0xFFFF (k + 1)) herrs, (congrArg Field.cfg hfd :)⟩

/-- A short frame keeps the pending reply, with its ERR bit set. -/
def Logic.legacyCut (w : Nat) (l : Logic) : Logic :=
  { l with
    draws := l.draws + 2
    host := { l.host with short := false, legacySent := shiftedOut (min w 3) l.host.legacyNext, legacyNext := nset l.host.legacyNext 22 } }

theorem Logic.legacyCut_kept (w : Nat) (l : Logic) : (l.legacyCut w).linkUp = l.linkUp ∧
    (l.legacyCut w).host.legacyErrs = l.host.legacyErrs ∧ (l.legacyCut w).host.legacyNext = nset l.host.legacyNext 22 := ⟨rfl, rfl, rfl⟩

theorem legacyShortFrame_refused (s : State) (w : Fin 4) (htold : s.told = true) (hup : s.ld.legacyUp = true) :
    Answers (exec (.legacyShortFrame w) s) fun t => t.ld.g F.HOST_ERR_REASON = 4 ∧
      t.ld.host.legacyErrs = min 0xFFFF (s.ld.host.legacyErrs + 1) ∧ t.ld.host.legacyNext = nset s.ld.host.legacyNext 22 := by
  have hshort : ∃ op k, s.legacyShort w = { s with ld := (s.ld.legacyCut w).legacyRefused op [4] k } := by
    refine ⟨Sys2Proof.Config.free ((s.ld.legacyCut w).draws - 2) % 256, Sys2Proof.Config.free ((s.ld.legacyCut w).draws - 1) % 65536, ?_⟩
    unfold State.legacyShort Logic.legacyCut
    rw [if_neg (by simp [hup])]
    rfl
  obtain ⟨op, k, hshort⟩ := hshort
  obtain ⟨hlink, herrs, hnext⟩ := s.ld.legacyCut_kept w
  generalize s.ld.legacyCut w = l at hshort hlink herrs hnext
  obtain ⟨-, hreason, hhost, -⟩ := l.legacyRefused_shown op 4 k
  have hbare : (l.legacyRefused op [4] k).bare = l.bare := (Logic.bare_frameError ..).trans (rfl)
  change Answers (runBoth (State.legacyShort w) s) _
  refine answers_told htold ?_ ?_ ?_ <;> rw [hshort]
  · exact (Logic.of_bare Logic.linkUp hbare).trans hlink
  · intro t ht _
    rw [ht, hhost]
    exact ⟨hreason, congrArg (fun k => min 0xFFFF (k + 1)) herrs, hnext⟩

/-! SYNC, KICK and MODESEL (R266, R272). -/

theorem State.presentTrigger_g (s : State) (groups stamp : Nat) (x : Fld) : (s.presentTrigger groups stamp).ld.g x = s.ld.g x := by
  have honFd (h : Field → Field) : (s.onFd h).ld = s.ld := by
    unfold State.onFd
    split <;> rfl
  unfold State.presentTrigger
  split
  · rfl
  · dsimp only
    split
    · rw [State.onLd, honFd]
      exact s.ld.g_sendPartner _ x
    · rw [honFd]

theorem State.Shifted.groupsFrom {w : Nat} {t s : State} (h : t.Shifted w s) (mask src : Nat) : t.ld.groupsFrom mask src = s.ld.groupsFrom mask src := by
  have hsrc : ∀ g ∈ List.range 4, (nbit mask g && t.ld.g (F.SLICE_GRP_SRC g) == src) = (nbit mask g && s.ld.g (F.SLICE_GRP_SRC g) == src) := by
    intro g hg
    have hhome : ∀ g ∈ List.range 4, regHome (F.SLICE_GRP_SRC g).addr ∉ Logic.endWords := by decide
    rw [h.get (hhome g hg)]
  unfold Logic.groupsFrom
  rw [List.filter_congr hsrc, h.mode]

theorem legacySync_triggers (s : State) (more : Nat) (data : Fin 65536) (htold : s.told = true) (hup : s.ld.legacyUp = true)
    (hshort : s.ld.host.short = false) (hlive : s.up) (hmode : s.ld.mode ≠ .boot) (hlead : s.ld.mode ≠ .follow) (hmore : 16 ≤ more)
    (hdata : data.val < 16) (hgroups : s.ld.groupsFrom data 0 ≠ 0) :
    Answers (exec (.legacySync more data) s) fun t =>
      t.fd.trigs = s.fd.trigs ++ [{ stamp := s.ld.time, groups := s.ld.groupsFrom data 0 }] ∧ t.ld.host.ferr = s.ld.host.ferr := by
  have hstart := s.legacyStart_shifted (8 + more)
  have hstore : (s.legacyStart (8 + more)).legacyStore 0x38 data =
      (([], data.val), (s.legacyStart (8 + more)).presentTrigger (s.ld.groupsFrom data 0) s.ld.time) := by
    have hmine : ((s.legacyStart (8 + more)).ld.mode == .follow) = false := by
      rw [hstart.mode]
      simpa using hlead
    unfold State.legacyStore
    dsimp only
    rw [if_neg (by decide), if_neg (by decide), hmine, if_neg Bool.false_ne_true, State.syncGroups, if_neg (not_not.mpr (Nat.div_eq_of_lt hdata)),
      hstart.groupsFrom, hstart.time]
    rfl
  obtain ⟨hferr, -, -⟩ := hstart.port
  have hfd := State.presentTrigger_fd (s := s.legacyStart (8 + more)) ⟨hstart.linkUp.trans hlive.2.1, (congrArg Field.released hstart.fd).trans hlive.1⟩
    s.ld.time hgroups
  obtain ⟨hboot, hlink, hhost⟩ := (s.legacyStart (8 + more)).presentTrigger_ld (s.ld.groupsFrom data 0) s.ld.time
  have hen := (s.legacyStart (8 + more)).presentTrigger_g (s.ld.groupsFrom data 0) s.ld.time F.HOST_LEGACY_EN
  generalize (s.legacyStart (8 + more)).presentTrigger (s.ld.groupsFrom data 0) s.ld.time = u at hstore hfd hboot hlink hhost hen
  have hup' : u.ld.legacyUp = true := by
    rw [← hup, ← hstart.legacyUp, Logic.legacyUp, Logic.legacyUp, hboot, Logic.gb_of_g hen]
  refine answers_legacyWrite htold hup hshort hmode hmore hstore hup' (hlink.trans hstart.linkUp) ?_ fun t ht hfd' => ⟨?_, ?_⟩
  · rw [hfd]
    exact (congrArg Field.out hstart.fd :)
  · refine (congrArg Field.trigs hfd' :).trans ((congrArg Field.trigs hfd :).trans ?_)
    rw [hstart.fd]
  · rw [ht, (u.ld.legacyReplies_kept false data).2, hhost]
    exact hferr

theorem State.Shifted.wdogCount {w : Nat} {t s : State} (h : t.Shifted w s) : t.ld.wdogCount = s.ld.wdogCount := by
  have hgb {x : Fld} (hx : regHome x.addr ∉ Logic.endWords) : t.ld.gb x = s.ld.gb x := Logic.gb_of_g (h.get hx)
  have hlpo : t.ld.wdogOnLpo = s.ld.wdogOnLpo := by rw [Logic.wdogOnLpo, Logic.wdogOnLpo, hgb (by decide), hgb (by decide)]
  unfold Logic.wdogCount Logic.looseCount
  rw [hlpo, hgb (x := clockOk 4) (by decide), hgb (x := F.CLOCK_SRCSTAT_DEGRADED) (by decide), h.time, Logic.of_bare Logic.wdog h.ld,
    Logic.of_bare Logic.draws h.ld]

/-- The restart of a halted watchdog, where task 0 is registered, leaves what a check-in is judged by. -/
theorem State.kick_serves {s : State} (hrunning : s.ld.wdog.running = true) (htask : nbit s.ld.wdog.tasks 0 = true)
    (hopen : s.ld.wdog.openAt ≤ s.ld.wdogCount) (hinj : nbit s.ld.wdog.injDouble 0 = false)
    (hfirst : nbit (s.ld.g F.WDOG_SERVED_TASK) 0 = false) :
    ∃ l : Logic, s.kick = ([], { s with ld := l }) ∧ nbit (l.g F.WDOG_SERVED_TASK) 0 = true ∧ l.legacyUp = s.ld.legacyUp ∧ l.linkUp = s.ld.linkUp ∧
      l.host = s.ld.host := by
  have hserves (m : Logic) (hwdog : ∃ restarted due, m.wdog = { s.ld.wdog with restarted := restarted, firstDue := due })
      (hcount : m.wdogCount = s.ld.wdogCount) (hserved : m.g F.WDOG_SERVED_TASK = s.ld.g F.WDOG_SERVED_TASK)
      (hen : m.g F.HOST_LEGACY_EN = s.ld.g F.HOST_LEGACY_EN) (hboot : m.boot = s.ld.boot) (hlink : m.linkUp = s.ld.linkUp)
      (hhost : m.host = s.ld.host) : ∃ l : Logic, ({ s with ld := m } : State).serviceTask 0 = ([], { s with ld := l }) ∧
        nbit (l.g F.WDOG_SERVED_TASK) 0 = true ∧ l.legacyUp = s.ld.legacyUp ∧ l.linkUp = s.ld.linkUp ∧ l.host = s.ld.host := by
    obtain ⟨restarted, due, hwdog⟩ := hwdog
    obtain ⟨k, hcheck, hbit, hboot', hlink', hhost', hen'⟩ := Logic.checkIn_serves (l := m) (t := 0) (by decide) (hwdog ▸ hrunning)
      (hwdog ▸ htask) (by rw [hcount, hwdog]; exact hopen) (hwdog ▸ hinj) (hserved ▸ hfirst)
    obtain ⟨hboot'', hlink'', hhost'', hget⟩ := k.whenSent_port (k.g F.PAIR_STAT_ROLE == 1) (.mirror (.checkIn (Fin.ofNat 8 0)))
    refine ⟨k.when (k.g F.PAIR_STAT_ROLE == 1) (Logic.sendPartner (.mirror (.checkIn (Fin.ofNat 8 0)))), ?_, ?_, ?_, ?_, ?_⟩
    · unfold State.serviceTask
      rw [if_neg (by decide)]
      dsimp only
      rw [hcheck]
    · rw [hget, hbit]
    · rw [Logic.legacyUp, Logic.legacyUp, hboot'', hboot', hboot, Logic.gb_of_g ((hget _).trans ((hen' _ (by decide)).trans hen))]
    · exact hlink''.trans (hlink'.trans hlink)
    · exact hhost''.trans (hhost'.trans hhost)
  unfold State.kick
  dsimp only
  split
  · obtain ⟨-, hwdog, hhost, hboot, hlink, -, -, hget⟩ := s.ld.wdogRestart_kept
    exact hserves _ hwdog s.ld.wdogRestart_count (hget _ (by decide) (by decide)) (hget _ (by decide) (by decide)) hboot hlink hhost
  · exact hserves s.ld ⟨_, _, rfl⟩ rfl rfl rfl rfl rfl rfl

theorem legacyKick_serves (s : State) (more : Nat) (htold : s.told = true) (hup : s.ld.legacyUp = true) (hshort : s.ld.host.short = false)
    (hmode : s.ld.mode ≠ .boot) (hlead : s.ld.mode ≠ .follow) (hmore : 16 ≤ more) (hrunning : s.ld.wdog.running = true)
    (htask : nbit s.ld.wdog.tasks 0 = true) (hopen : s.ld.wdog.openAt ≤ s.ld.wdogCount) (hinj : nbit s.ld.wdog.injDouble 0 = false)
    (hfirst : nbit (s.ld.g F.WDOG_SERVED_TASK) 0 = false) :
    Answers (exec (.legacyKick more) s) fun t => nbit (t.ld.g F.WDOG_SERVED_TASK) 0 = true ∧ t.ld.host.ferr = s.ld.host.ferr := by
  have hstart := s.legacyStart_shifted (8 + more)
  have hwdog : (s.legacyStart (8 + more)).ld.wdog = s.ld.wdog := Logic.of_bare Logic.wdog hstart.ld
  obtain ⟨l, hkick, hserved, hup', hlink, hhost⟩ := State.kick_serves (s := s.legacyStart (8 + more)) (hwdog ▸ hrunning) (hwdog ▸ htask)
    (by rw [hwdog, hstart.wdogCount]; exact hopen) (hwdog ▸ hinj) (by rw [hstart.get (by decide)]; exact hfirst)
  obtain ⟨hferr, -, -⟩ := hstart.port
  have hstore : (s.legacyStart (8 + more)).legacyStore 0x39 0x5A5A = (([], 0x5A5A), { s.legacyStart (8 + more) with ld := l }) := by
    have hmine : ((s.legacyStart (8 + more)).ld.mode == .follow) = false := by
      rw [hstart.mode]
      simpa using hlead
    unfold State.legacyStore
    dsimp only
    rw [if_neg (by decide), if_neg (by decide), hmine, if_neg Bool.false_ne_true, if_neg (by decide), hkick]
    rfl
  refine answers_legacyWrite htold hup hshort hmode hmore hstore (hup'.trans (hstart.legacyUp.trans hup)) (hlink.trans hstart.linkUp)
    (congrArg Field.out hstart.fd) fun t ht _ => ?_
  obtain ⟨hregs, hhost'⟩ := l.legacyReplies_kept false 0x5A5A
  rw [ht, Logic.g_of_regs hregs, hhost', hhost]
  exact ⟨hserved, hferr⟩

theorem legacyModesel_returns (s : State) (more : Nat) (htold : s.told = true) (hup : s.ld.legacyUp = true) (hshort : s.ld.host.short = false)
    (hmode : s.ld.mode ≠ .boot) (hmore : 16 ≤ more) :
    Answers (exec (.legacyModesel more (0xA5C3 : Fin 65536)) s) fun t => t.ld.gb F.HOST_LEGACY_EN = false ∧ t.ld.host.legacyNext = 0 := by
  have hstart := s.legacyStart_shifted (8 + more)
  have hstore : (s.legacyStart (8 + more)).legacyStore 0x3E 0xA5C3 =
      (([], 0xA5C3), (s.legacyStart (8 + more)).onLd (Logic.put F.HOST_LEGACY_EN 0)) := by
    unfold State.legacyStore
    rfl
  have hoff : ((s.legacyStart (8 + more)).ld.put F.HOST_LEGACY_EN 0).gb F.HOST_LEGACY_EN = false := Logic.gb_put_same _ _ rfl
  have hlink : ((s.legacyStart (8 + more)).ld.put F.HOST_LEGACY_EN 0).linkUp = s.ld.linkUp := (Logic.put_linkUp ..).trans hstart.linkUp
  rw [State.onLd] at hstore
  have hfd := hstart.fd
  have hacts := State.legacyFrame_acts (opcode := opLegacyWrite) (addr := 0x3E) hup hshort ((State.legacyWriteCmd_stores hmode hmore).trans hstore)
  generalize (s.legacyStart (8 + more)).ld.put F.HOST_LEGACY_EN 0 = l at hacts hoff hlink
  have hdown : l.legacyUp = false := by rw [Logic.legacyUp, hoff, Bool.and_false]
  have hframe : State.legacyWrite more 0x3E 0xA5C3 s = { s.legacyStart (8 + more) with ld := l.dropReply } := by
    have hdown' : ¬ l.legacyUp = true := by simp [hdown]
    exact hacts.trans (if_neg hdown')
  change Answers (runBoth (State.legacyWrite more 0x3E 0xA5C3) s) _
  refine answers_told htold ?_ ?_ ?_ <;> rw [hframe]
  · exact hlink
  · exact congrArg Field.out hfd
  · intro t ht _
    rw [ht]
    exact ⟨hoff, rfl⟩

/-- Settles O26: the forerunner's frames, one after another. -/
theorem legacyRows : Obligations.LegacyRows := by
  unfold Obligations.LegacyRows
  refine ⟨legacyPoll_replies, legacyRead_replies, fun s more c data htold hup hshort hmode hmore hdata => ?_, legacyWrite_readOnly,
    legacyShortFrame_refused, legacyChDataRead_replies, fun s more n data htold hup hshort hmode hmore hdata => ?_,
    fun s more n data htold hup hshort hmode hmore hdata => ?_, legacyTimeRead_replies, legacySync_triggers, legacyKick_serves,
    legacyModesel_returns⟩
  · have haddr : (Fin.ofNat 64 (0x20 + c)).val = 0x20 + c := Nat.mod_eq_of_lt (by omega)
    obtain ⟨t, hstep, -, hnext, herrs, hmis, -, -⟩ := legacyCfgWrite_accepted htold hup hshort hmode hmore hdata
    rw [← haddr] at hstep
    exact ⟨t, hstep, hnext, herrs, hmis⟩
  · obtain ⟨t, hstep, hfd, -, hmis, hat, -, hreason, -⟩ := legacyCfgWrite_refused htold hup hshort hmode hmore hdata
    exact ⟨t, hstep, hmis, hat, hreason, (congrArg Field.cfg hfd :)⟩
  · obtain ⟨t, hstep, -, hnext, -, hmis, hferr, -⟩ := legacyCfgWrite_accepted htold hup hshort hmode hmore hdata
    exact ⟨t, hstep, hnext, hmis, hferr⟩

end Sys2Proof.Machine
end

section
/-! Words carried by WRITE, WRITE_AUTH and READ_AUTH, and the words that clear (R51, R52, R54, R246, R247, R252, R257, R265, R303). -/

namespace Sys2Proof.Machine

open Sys2Proof

/-! EVT_RAW, EVT_EN and CLASS of a page with a head. -/

/-- A register of a page's head that anyone may write (R51). -/
structure HeadOpen (p off : Nat) : Prop where
  off : off ∈ [3, 4, 7]
  page : p < 256
  seqtab : pageKind p ≠ .seqtab
  reserved : pageKind p ≠ .reserved

namespace HeadOpen

variable {p off : Nat} (h : HeadOpen p off)
include h

theorem lt : off < 0x10 := by
  have hoff := h.off
  simp only [List.mem_cons, List.not_mem_nil, or_false] at hoff
  omega

theorem div : (p * 256 + off) / 256 = p := by
  have := h.lt
  omega

theorem mod : (p * 256 + off) % 256 = off := by
  have := h.lt
  omega

theorem addr : p * 256 + off < 65536 := by
  have := h.lt
  have := h.page
  omega

theorem home : regHome (p * 256 + off) = p * 256 + off := by
  have hmod := h.mod
  have hlt := h.lt
  unfold regHome
  rw [if_neg (by omega)]

theorem row : ∃ r, regRow (p * 256 + off) = some r ∧ r.acc ≠ .ro ∧ r.cls = .open_ := by
  have hrows : ∀ k ∈ [3, 4, 7], ∃ r, rowsHead.find? (fun r => inRow r.first r.last r.step k) = some r ∧ r.acc ≠ .ro ∧ r.cls = .open_ := by
    intro k hk
    simp only [List.mem_cons, List.not_mem_nil, or_false] at hk
    rcases hk with rfl | rfl | rfl <;> exact ⟨_, rfl, by decide, rfl⟩
  obtain ⟨r, hfind, hr⟩ := hrows off h.off
  refine ⟨r, ?_, hr⟩
  unfold regRow
  simp only [h.div, h.mod]
  cases hk : pageKind p with
  | seqtab => exact absurd hk h.seqtab
  | reserved => exact absurd hk h.reserved
  | _ => exact (if_pos h.lt).trans hfind

/-- No value of it is reserved. -/
theorem wordOk (paired : Bool) (w : Word) : wordOk paired (p * 256 + off) w = true := by
  have hfirst (k : PageKind) : (pageEnc k).all (fun e => decide (0x10 ≤ e.first)) = true := by
    cases k <;> rfl
  have henc : encOk (p * 256 + off) w = true := by
    refine List.all_eq_true.mpr fun e he => ?_
    have hbelow : ¬ e.first ≤ off := Nat.not_le.mpr (Nat.lt_of_lt_of_le h.lt (of_decide_eq_true (List.all_eq_true.mp (hfirst _) e he)))
    rw [h.mod, inRow, decide_eq_false hbelow]
    rfl
  have hdep : depOk paired (p * 256 + off) w = true := by
    have hoff := h.off
    unfold depOk
    simp only [h.div, h.mod]
    simp only [List.mem_cons, List.not_mem_nil, or_false] at hoff
    rcases hoff with rfl | rfl | rfl <;> cases pageKind p <;> rfl
  rw [Machine.wordOk, henc, hdep]
  rfl

theorem owned : hwOwned (p * 256 + off) = false := by
  have hoff := h.off
  unfold hwOwned
  simp only [h.div, h.mod]
  simp only [List.mem_cons, List.not_mem_nil, or_false] at hoff
  rcases hoff with rfl | rfl | rfl <;> cases pageKind p <;> rfl

theorem blocked (w : Word) (s : State) : s.blocked (p * 256 + off) w = (none, s) := by
  have hoff := h.off
  unfold State.blocked
  simp only [h.div, h.mod]
  simp only [List.mem_cons, List.not_mem_nil, or_false] at hoff
  rcases hoff with rfl | rfl | rfl <;> cases pageKind p <;> rfl

/-- With the page free of a lock, its word acts. -/
theorem judge {s : State} (hlock : s.ld.locked p = false) (ses : Option Session) (w again : Word) :
    s.judgeWord ses (p * 256 + off) w again false = (s.actHead p off w again).did := by
  obtain ⟨r, hrow, hacc, hcls⟩ := h.row
  have hbarred : s.ld.barred ses (p * 256 + off) w r = none := by
    unfold Logic.barred
    rw [hcls]
    cases ses <;> simp only [h.div, hlock, h.wordOk, Bool.false_eq_true, if_false, Bool.not_true]
  simp only [State.judgeWord, hrow, if_neg hacc, hbarred, h.owned, Bool.false_and, Bool.false_eq_true, if_false, h.blocked]
  unfold State.actWord
  simp only [h.div, h.mod]
  exact if_pos ⟨h.lt, h.seqtab⟩

theorem commit {s : State} (hlock : s.ld.locked p = false) (ses : Option Session) (w again : Word) :
    s.commitWord ses (p * 256 + off) w again = ([], s.actHead p off w again) :=
  State.commitWord_done ses _ w again false s _ (by rw [h.div]; exact h.reserved) (h.judge hlock ses w again)

end HeadOpen

/-- The registers that the map has. -/
theorem headOpen {p off : Nat} (hoff : off ∈ [3, 4, 7]) (hp : p < 256) (hs : pageKind p ≠ .seqtab) (hr : (regRow (p * 256 + off)).isSome = true) :
    HeadOpen p off := by
  refine ⟨hoff, hp, hs, fun hk => ?_⟩
  have hdiv : (p * 256 + off) / 256 = p := by
    simp only [List.mem_cons, List.not_mem_nil, or_false] at hoff
    omega
  unfold regRow at hr
  simp only [hdiv, hk] at hr
  exact Bool.false_ne_true hr

theorem Logic.Framed.locked {a b : Logic} (h : a.Framed b) {p off : Nat} (hp : HeadOpen p off) : a.locked p = b.locked p := by
  have hclass : HeadOpen p 7 := ⟨by decide, hp.page, hp.seqtab, hp.reserved⟩
  have hhome : regHome (lockedBit p).addr ≠ R.HOST_FRAMES := by
    change regHome (p * 256 + 7) ≠ 0x216
    rw [hclass.home]
    omega
  rw [Logic.locked, Logic.locked, h.gb hhome, h.bar]

/-- The word of a frame of one word. -/
theorem State.commitWords_single {s : State} (hboot : s.ld.boot.logic ≠ 0) (ses : Option Session) {a : Nat} (ha : a < 65536) (w : Word) :
    s.commitWords ses a [w] = s.commitWord ses a w := by
  unfold State.commitWords
  rw [if_neg hboot, Nat.mod_eq_of_lt ha]
  generalize s.commitWord ses a w = x
  obtain ⟨cs, u⟩ := x
  exact congrArg (fun c => (c, u)) (List.append_nil cs)

theorem serves_plain {l : Logic} (h : l.serves = true) {device : Bool} : l.openFrame.stops opWrite device = [] := Logic.serves_stops h (by decide)

section
variable {s : State} {p off : Nat} {w again : Word} {q : State → Prop}

theorem Logic.evtCleared_kept (l : Logic) (p : Nat) (w again : Word) : (l.evtCleared p w again).boot = l.boot ∧
    (l.evtCleared p w again).linkUp = l.linkUp ∧ (l.evtCleared p w again).host = l.host := by
  unfold Logic.evtCleared Logic.putRaw
  dsimp only
  split <;> exact ⟨rfl, rfl, rfl⟩

theorem Logic.classCleared_kept (l : Logic) (p : Nat) (w : Word) : (l.classCleared p w).boot = l.boot ∧
    (l.classCleared p w).linkUp = l.linkUp ∧ (l.classCleared p w).host = l.host := by
  unfold Logic.classCleared
  split
  · exact ⟨Logic.put_boot .., Logic.put_linkUp .., Logic.put_host ..⟩
  · exact ⟨rfl, rfl, rfl⟩

/-- What a head's register leaves beside the registers. -/
theorem State.actHead_kept (s : State) {off : Nat} (hoff : off ∈ [3, 4, 7]) (p : Nat) (w again : Word) :
    (s.actHead p off w again).fd = s.fd ∧ (s.actHead p off w again).ld.boot = s.ld.boot ∧ (s.actHead p off w again).ld.linkUp = s.ld.linkUp ∧
      (s.actHead p off w again).ld.host = s.ld.host := by
  have honLd {h : Logic → Logic} (hh : ∀ l, (h l).boot = l.boot ∧ (h l).linkUp = l.linkUp ∧ (h l).host = l.host) :
      (s.onLd h).fd = s.fd ∧ (s.onLd h).ld.boot = s.ld.boot ∧ (s.onLd h).ld.linkUp = s.ld.linkUp ∧ (s.onLd h).ld.host = s.ld.host := ⟨rfl, hh s.ld⟩
  simp only [List.mem_cons, List.not_mem_nil, or_false] at hoff
  rcases hoff with rfl | rfl | rfl
  · exact honLd fun l => l.evtCleared_kept p w again
  · exact honLd fun l => ⟨Logic.putWord_boot .., Logic.putWord_linkUp .., Logic.putWord_host ..⟩
  · exact honLd fun l => l.classCleared_kept p w

/-- A frame that writes a head's register in the plain. -/
theorem answers_headWord {act : State → List (Nat × Nat) × State} {addr : Nat} (h : HeadOpen p off) (htold : s.told = true)
    (hserves : s.ld.serves = true) (hlock : s.ld.locked p = false)
    (hact : act (s.onLd Logic.openFrame) = (s.onLd Logic.openFrame).commitWord none (p * 256 + off) w again)
    (hq : ∀ t : State, t.ld.regs = ((s.onLd Logic.openFrame).actHead p off w again).ld.regs → t.ld.host.ferr = false → q t) :
    Answers (runBoth (fun s => s.frame opWrite addr false act) s) q := by
  have hlock' : (s.onLd Logic.openFrame).ld.locked p = false := (s.ld.openFrame_framed.locked h).trans hlock
  obtain ⟨hfd, hboot, hlink, hhost⟩ := (s.onLd Logic.openFrame).actHead_kept h.off p w again
  refine answers_frame htold (Logic.serves_answers hserves) (serves_plain hserves) (hact.trans (h.commit hlock' none w again)) hboot hlink hfd
    fun t ht _ => hq t ?_ ?_
  · rw [ht]
    rfl
  · rw [ht]
    exact congrArg HostRun.ferr hhost

end

/-- An EVT_EN is stored (R51). -/
theorem write_stores (s : State) (page : Page) (w : Word) (htold : s.told = true) (hserves : s.ld.serves = true)
    (hrow : (regRow (R.EVT_EN page)).isSome = true) (hs : pageKind page ≠ .seqtab) (hlock : s.ld.locked page = false) :
    Answers (exec (.write (Fin.ofNat 65536 (R.EVT_EN page)) [w]) s) fun t => t.ld.regs.word (R.EVT_EN page) = w ∧ t.ld.host.ferr = false := by
  have h := headOpen (off := 4) (by decide) page.isLt hs hrow
  have haddr : (Fin.ofNat 65536 (R.EVT_EN page)).val = R.EVT_EN page := Nat.mod_eq_of_lt h.addr
  refine answers_headWord (addr := (Fin.ofNat 65536 (R.EVT_EN page)).val) (w := w) (again := 0#32) h htold hserves hlock ?_ fun t hregs hferr => ⟨?_, hferr⟩
  · rw [haddr]
    exact State.commitWords_single (s := s.onLd Logic.openFrame) (Logic.answers_boot (l := s.ld) (Logic.serves_answers hserves)) none h.addr w
  · rw [hregs]
    exact word_write_same ..

/-- A refused word is counted, with its reason, on its page (R54). -/
theorem State.refused_shown (s : State) (a : Nat) : (s.onLd (Logic.countRefusal a 1)).ld.boot = s.ld.boot ∧
    (s.onLd (Logic.countRefusal a 1)).ld.linkUp = s.ld.linkUp ∧ (s.onLd (Logic.countRefusal a 1)).fd = s.fd ∧
    (s.onLd (Logic.countRefusal a 1)).ld.g ⟨R.CLASS (refusalPage a), 16, 3⟩ = 1 := by
  have hbare := s.ld.bare_countRefusal a 1
  rw [State.onLd_ld, State.onLd_fd]
  refine ⟨Logic.of_bare Logic.boot hbare, Logic.of_bare Logic.linkUp hbare, rfl, ?_⟩
  rw [Logic.countRefusal]
  exact Logic.g_put_same _ ⟨R.CLASS (refusalPage a), 16, 3⟩ 1 rfl

/-- A SESSION register is refused without a session (R54, R246). -/
theorem write_refused (s : State) (a : Addr) (w : Word) (r : RegRow) (htold : s.told = true) (hserves : s.ld.serves = true)
    (hrow : regRow a = some r) (hacc : r.acc ≠ .ro) (hcls : r.cls = .session) :
    Answers (exec (.write a [w]) s) fun t => t.ld.host.ferr = true ∧ t.ld.g F.HOST_ERR_REASON = 1 ∧ t.ld.g F.HOST_ERR_ADDR = a ∧
      t.ld.g ⟨R.CLASS (refusalPage a), 16, 3⟩ = 1 ∧ t.fd.cfg = s.fd.cfg := by
  have hpage : pageKind (a.val / 256) ≠ .reserved := by
    intro hk
    unfold regRow at hrow
    simp only [hk] at hrow
    exact absurd hrow (by simp)
  have hbarred : (s.onLd Logic.openFrame).ld.barred none a.val w r = some 1 := by
    unfold Logic.barred
    rw [hcls]
    rfl
  have hact : (s.onLd Logic.openFrame).commitWords none a.val [w] =
      ([(1, a.val)], (s.onLd Logic.openFrame).onLd (Logic.countRefusal a.val 1)) := by
    rw [State.commitWords_single (s := s.onLd Logic.openFrame) (Logic.answers_boot (l := s.ld) (Logic.serves_answers hserves)) none a.isLt w]
    unfold State.commitWord
    rw [if_neg hpage, State.judgeWord_barred none a.val w 0#32 false _ r 1 hrow hacc hbarred]
    rfl
  obtain ⟨hboot, hlink, hfd, hclass⟩ := (s.onLd Logic.openFrame).refused_shown a
  rw [s.onLd_fd] at hfd
  refine answers_frame htold (Logic.serves_answers hserves) (serves_plain hserves) hact (hboot.trans (rfl)) (hlink.trans (rfl))
    hfd fun t ht hfd' => ?_
  have hend := Logic.ends_of_eq ht
  obtain ⟨hreason, -, haddr⟩ := hend.refused rfl
  refine ⟨congrArg HostRun.ferr hend.host, hreason, haddr.trans (Nat.mod_eq_of_lt a.isLt), ?_, (congrArg Field.cfg hfd' :)⟩
  have hhome : regHome (R.CLASS (refusalPage a)) ∉ Logic.endWords := by
    have hmod : ∀ y ∈ Logic.endWords, y % 256 ≠ 7 := by decide
    intro hmem
    refine hmod _ hmem ?_
    rw [regHome_mod]
    unfold R.CLASS
    omega
  rw [hend.get hhome]
  exact hclass

/-- EVT_RAW's causes written 1 clear, but those that occur at the same tick (R52). -/
theorem evtRawClear_clears (s : State) (w again : Word) (page : Page) (htold : s.told = true) (hserves : s.ld.serves = true)
    (hrow : (regRow (R.EVT_RAW page)).isSome = true) (hs : pageKind page ≠ .seqtab) (hlock : s.ld.locked page = false) :
    Answers (exec (.evtRawClear none page w again) s) fun t =>
      t.ld.regs.word (R.EVT_RAW page) = s.ld.regs.word (R.EVT_RAW page) &&& ~~~(w &&& ~~~again) ∧ t.ld.host.ferr = false := by
  have h := headOpen (off := 3) (by decide) page.isLt hs hrow
  have hraw (l : Logic) : (l.evtCleared page w again).regs.word (R.EVT_RAW page) = l.regs.word (R.EVT_RAW page) &&& ~~~(w &&& ~~~again) := by
    unfold Logic.evtCleared Logic.putRaw
    dsimp only
    split <;> exact word_write_same ..
  have hframe : s.ld.openFrame.regs.word (R.EVT_RAW page) = s.ld.regs.word (R.EVT_RAW page) := by
    refine s.ld.openFrame_framed.regs _ ?_
    change regHome (page.val * 256 + 3) ≠ 0x216
    rw [h.home]
    omega
  refine answers_headWord (addr := R.EVT_RAW page) (w := w) (again := again) h htold hserves hlock rfl fun t hregs hferr => ⟨?_, hferr⟩
  rw [hregs, ← hframe]
  exact hraw _

/-- CLASS.CLR empties the refusals (R51). -/
theorem classClr_empties (s : State) (page : Page) (htold : s.told = true) (hserves : s.ld.serves = true)
    (hrow : (regRow (R.CLASS page)).isSome = true) (hs : pageKind page ≠ .seqtab) (hlock : s.ld.locked page = false) :
    Answers (exec (.classClr none page) s) fun t => t.ld.g ⟨R.CLASS page, 0, 19⟩ = 0 ∧ t.ld.host.ferr = false := by
  have h := headOpen (off := 7) (by decide) page.isLt hs hrow
  refine answers_headWord (addr := R.CLASS page) (w := 0x80000000#32) (again := 0#32) h htold hserves hlock rfl fun t hregs hferr => ⟨?_, hferr⟩
  rw [Logic.g_of_regs hregs]
  change (s.ld.openFrame.classCleared page 0x80000000#32).g _ = 0
  unfold Logic.classCleared
  rw [if_pos (by decide)]
  exact Logic.g_put_same _ _ _ rfl

/-- HOST_CLR (R265). -/
theorem hostClr_clears (s : State) (htold : s.told = true) (hserves : s.ld.serves = true) (hlock : s.ld.locked R.pageHOST = false) :
    Answers (exec (.hostClr none) s) fun t => t.ld.regs.word R.HOST_ANOMALY = 0#32 ∧ t.ld.regs.word R.HOST_FERRCOUNT = 0#32 ∧
      t.ld.regs.word R.HOST_ERR = 0#32 ∧ t.ld.host.ferr = false := by
  have hlock' : s.ld.openFrame.locked R.pageHOST = false := (s.ld.openFrame_framed.locked (p := R.pageHOST) (off := 3)
    ⟨by decide, by decide, by decide, by decide⟩).trans hlock
  have hact : (s.onLd Logic.openFrame).commitWord none R.HOST_CLR 1#32 = ([], { s with ld := s.ld.openFrame.hostCleared 1#32 }) := by
    refine State.commitWord_done none _ _ _ _ _ _ (by decide) ?_
    obtain ⟨r, hrow, hacc, hcls, hok⟩ : ∃ r, regRow R.HOST_CLR = some r ∧ r.acc = .wo ∧ r.cls = .open_ ∧
        ∀ paired, wordOk paired R.HOST_CLR 1#32 = true := ⟨_, rfl, rfl, rfl, by decide⟩
    have hbarred : s.ld.openFrame.barred none R.HOST_CLR 1#32 r = none := by
      unfold Logic.barred
      rw [hcls, hacc]
      dsimp only
      rw [show R.HOST_CLR / 256 = R.pageHOST from rfl, hlock', if_neg Bool.false_ne_true, if_neg (by decide : ¬ Acc.wo = .rw), hok]
      rfl
    have hro : ¬ r.acc = .ro := by rw [hacc]; decide
    simp only [State.judgeWord, hrow, if_neg hro, State.onLd, hbarred]
    rfl
  have hkept (l : Logic) : (l.hostCleared 1#32).boot = l.boot ∧ (l.hostCleared 1#32).linkUp = l.linkUp ∧ (l.hostCleared 1#32).host = l.host := by
    unfold Logic.hostCleared
    rw [if_pos (by decide)]
    exact ⟨rfl, rfl, rfl⟩
  have hcleared (l : Logic) : (l.hostCleared 1#32).regs.word R.HOST_ANOMALY = 0#32 ∧ (l.hostCleared 1#32).regs.word R.HOST_FERRCOUNT = 0#32 ∧
      (l.hostCleared 1#32).regs.word R.HOST_ERR = 0#32 := by
    unfold Logic.hostCleared
    rw [if_pos (by decide)]
    have hput (l : Logic) {y : Nat} (w : Word) {x : Nat} (hx : regHome x ≠ regHome y) : (l.putWord y w).regs.word x = l.regs.word x :=
      word_write_other _ w hx
    have hsame (l : Logic) (y : Nat) (w : Word) : (l.putWord y w).regs.word y = w := word_write_same ..
    exact ⟨(hput _ _ (by decide)).trans ((hput _ _ (by decide)).trans (hsame ..)), (hput _ _ (by decide)).trans (hsame ..), hsame ..⟩
  obtain ⟨hboot, hlink, hhost⟩ := hkept s.ld.openFrame
  obtain ⟨hanom, hcount, herr⟩ := hcleared s.ld.openFrame
  generalize s.ld.openFrame.hostCleared 1#32 = l at hact hboot hlink hhost hanom hcount herr
  refine answers_frame htold (Logic.serves_answers hserves) (serves_plain hserves) hact hboot hlink rfl fun t ht _ => ?_
  have hregs : t.ld.regs = l.regs := by rw [ht]; rfl
  rw [hregs]
  exact ⟨hanom, hcount, herr, (congrArg HostRun.ferr (Logic.ends_of_eq ht).host).trans (congrArg HostRun.ferr hhost)⟩

/-! A session's frames. -/

/-- The session that accepts a counter is the only one. -/
theorem Logic.accepts_session {l : Logic} {ctr : Word} {x : Session} (haccepts : l.accepts ctr = true) (hcur : l.sess.cur = some x) :
    l.sess.old = none ∧ x.accepts ctr.toNat = true ∧ ctr.toNat < 0xFFFF0000 := by
  unfold Logic.accepts at haccepts
  rw [hcur] at haccepts
  cases hold : l.sess.old with
  | some y => simp [hold] at haccepts
  | none =>
    simp only [hold, Bool.and_eq_true, decide_eq_true_eq] at haccepts
    exact ⟨rfl, haccepts⟩

/-- What a session makes of the words of a WRITE_AUTH. -/
def Session.writes (ctr a : Nat) (ws : List Word) (tag : Nat) (x : Session) : AuthFrame where
  addr := a
  words := (x.openWrite ctr a ws).1
  ctr := ctr
  keys := x.id
  ok := x.verifies ctr a ws tag

/-- A WRITE_AUTH waits for its tag's verification. -/
def Logic.authPends (f : AuthFrame) (l : Logic) : Logic := { l with host := { l.host with badTag := false, auth := some f } }

/-- A WRITE_AUTH under a counter that the session accepts is pending (R247). -/
theorem writeAuth_pends (s : State) (ctr : Word) (a : Addr) (ws : List Word) (x : Session) (tag : Nat) (extra : Bool) (htold : s.told = true)
    (hserves : s.ld.serves = true) (haccepts : s.ld.accepts ctr = true) (hcur : s.ld.sess.cur = some x) (hws : ws ≠ []) (hlen : ws.length ≤ 256) :
    Answers (exec (.writeAuth ctr a ws tag extra) s) fun t => t.ld.host.auth = some (x.writes ctr.toNat a ws tag) ∧ t.ld.host.ferr = false ∧ t.fd.cfg = s.fd.cfg := by
  obtain ⟨hold, hctr, -⟩ := Logic.accepts_session haccepts hcur
  have htag : s.ld.host.badTag = false := by
    have hanswers := Logic.serves_answers hserves
    simp only [Logic.answers, Bool.and_eq_true, Bool.not_eq_true'] at hanswers
    exact hanswers.2
  have hjudged (by_ : Session → Bool) : s.ld.openFrame.judgedBy ctr.toNat by_ = (some x, s.ld.openFrame) := by
    unfold Logic.judgedBy
    rw [show s.ld.openFrame.sess.old = none from hold, show s.ld.openFrame.sess.cur = some x from hcur]
  have hbad : s.ld.openFrame.host.badTag = false := htag
  have hact : (s.onLd Logic.openFrame).authFrame ctr.toNat a ws tag = ([], (s.onLd Logic.openFrame).onLd (Logic.authPends
      (x.writes ctr.toNat a ws tag))) := by
    unfold State.authFrame
    rw [if_neg (by simp [hws, Nat.not_lt.mpr hlen])]
    dsimp only [State.onLd]
    rw [hjudged]
    dsimp only
    rw [hctr, hbad]
    rfl
  refine answers_frame htold (Logic.serves_answers hserves) (Logic.stops_serves hserves fun _ => by rw [hcur]; rfl) hact rfl rfl rfl
    fun t ht hfd => ?_
  have hend := Logic.ends_of_eq ht
  exact ⟨congrArg HostRun.auth hend.host, congrArg HostRun.ferr hend.host, (congrArg Field.cfg hfd :)⟩

theorem State.fetchAllowed_fetched (denied : Nat → Bool) (ps : List Nat) (s : State) : (s.fetchAllowed denied ps).2.Fetched s := by
  induction ps generalizing s with
  | nil => exact .refl s
  | cons p ps ih =>
    have hstep : (State.fetchAllowed denied (p :: ps) s).2 = (State.fetchAllowed denied ps (if denied (p / 256) then s else (s.fetch p).2)).2 := by
      cases h : denied (p / 256) <;> simp [State.fetchAllowed, h]
    rw [hstep]
    refine (ih _).trans ?_
    split
    · exact .refl s
    · exact s.fetch_fetched p

/-- A READ_AUTH under a counter that the session accepts answers its words and the tag, and uses the counter up (R252). -/
theorem readAuth_answers (s : State) (ctr : Word) (a : Addr) (n : Nat) (x : Session) (extra : Bool) (htold : s.told = true)
    (hserves : s.ld.serves = true) (haccepts : s.ld.accepts ctr = true) (hcur : s.ld.sess.cur = some x) (hrole : 2 ≤ x.role) (hn : n ≠ 0)
    (hlen : n ≤ 256) :
    Answers (exec (.readAuth ctr a n false extra) s) fun t => t.ld.host.reply.length = n + 4 ∧
      t.ld.sess.cur = some { x with top := ctr.toNat, count := x.count + 1 } := by
  obtain ⟨hold, hctr, hlimit⟩ := Logic.accepts_session haccepts hcur
  have hjudged (by_ : Session → Bool) : s.ld.openFrame.judgedBy ctr.toNat by_ = (some x, s.ld.openFrame) := by
    unfold Logic.judgedBy
    rw [show s.ld.openFrame.sess.old = none from hold, show s.ld.openFrame.sess.cur = some x from hcur]
  have haccept : s.ld.openFrame.acceptCtr x ctr.toNat = s.ld.framed x ctr :=
    Logic.acceptCtr_cur (l := s.ld.openFrame) hcur hold hlimit
  have hmode : ((s.ld.framed x ctr).mode == .follow) = false := by
    have hmode : s.ld.mode = .commission ∨ s.ld.mode = .run ∨ s.ld.mode = .safe := by
      simp only [Logic.serves, Bool.and_eq_true, Bool.or_eq_true, beq_iff_eq] at hserves
      exact or_assoc.mp hserves.1.1.1.1.1.2
    change (s.ld.mode == .follow) = false
    rcases hmode with h | h | h <;> rw [h] <;> rfl
  have hlate : (s.ld.framed x ctr).host.late = false := Logic.serves_late (l := s.ld) hserves
  have hallowed (p : Nat) : x.readDenied p = false := by
    unfold Session.readDenied
    rw [show (x.role == 1) = false by simp; omega, Bool.false_and]
  have hunlate := State.isLate_unmarked { s with ld := s.ld.framed x ctr } hlate
  have hnone : (wordAddrs a n).filter (fun p => x.readDenied (p / 256)) = [] := List.filter_eq_nil_iff.mpr fun p _ => by simp [hallowed]
  have hact : ∃ cs reply, (s.onLd Logic.openFrame).readAuth ctr.toNat a n false =
      (cs, (State.fetchAllowed (fun page => x.readDenied page) (wordAddrs a n) { s with ld := s.ld.framed x ctr }).2.replyWith reply) ∧
      reply.length = n + 4 := by
    unfold State.readAuth
    rw [if_neg (by simp [hn, Nat.not_lt.mpr hlen])]
    dsimp only [State.onLd]
    rw [hjudged]
    dsimp only
    rw [hctr, if_neg (by simp), haccept, hmode, show (s.ld.framed x ctr).when false _ = s.ld.framed x ctr from rfl, hunlate, hnone]
    refine ⟨_, _, rfl, ?_⟩
    rw [List.length_append, List.length_map, List.length_range, natWords, List.length_map, List.length_range]
  obtain ⟨cs, reply, hact, hreply⟩ := hact
  have hfetched := State.fetchAllowed_fetched (fun page => x.readDenied page) (wordAddrs a n) { s with ld := s.ld.framed x ctr }
  generalize (State.fetchAllowed (fun page => x.readDenied page) (wordAddrs a n) { s with ld := s.ld.framed x ctr }).2 = u at hact hfetched
  refine answers_frame htold (Logic.serves_answers hserves) (Logic.stops_serves hserves fun _ => by rw [hcur]; rfl) hact hfetched.boot
    hfetched.linkUp hfetched.fd fun t ht _ => ?_
  have hend := Logic.ends_of_eq ht
  exact ⟨(congrArg (fun h : HostRun => h.reply.length) hend.host).trans hreply,
    (Logic.of_bare (fun l => l.sess.cur) hend.bare).trans (Logic.of_bare (fun l => l.sess.cur) hfetched.ld)⟩

/-! The end of a WRITE_AUTH's verification (R247). -/

/-- The words that the acceptance of a counter may write: a warning, and the events of it and of a session's end. -/
def acceptWords : List Nat := [R.DEVICE_SESS_STAT, R.EVT_RAW R.pageDEVICE, R.EVT_RAW R.pageCELLAR]

/-- What it keeps. -/
structure Logic.CtrKept (a b : Logic) : Prop where
  boot : a.boot = b.boot
  linkUp : a.linkUp = b.linkUp
  bar : a.bar = b.bar
  host : a.host = b.host
  word : ∀ {y}, regHome y ∉ acceptWords → a.regs.word y = b.regs.word y

namespace Logic.CtrKept

variable {a b c : Logic}

theorem refl (a : Logic) : a.CtrKept a := ⟨rfl, rfl, rfl, rfl, fun _ => rfl⟩

theorem trans (h : a.CtrKept b) (k : b.CtrKept c) : a.CtrKept c :=
  ⟨h.boot.trans k.boot, h.linkUp.trans k.linkUp, h.bar.trans k.bar, h.host.trans k.host, fun hy => (h.word hy).trans (k.word hy)⟩

theorem setSess (b : Logic) (x : SessionRun) : ({ b with sess := x } : Logic).CtrKept b := ⟨rfl, rfl, rfl, rfl, fun _ => rfl⟩

theorem put (b : Logic) (x : Fld) (v : Nat) (hx : regHome x.addr ∈ acceptWords) : (b.put x v).CtrKept b :=
  ⟨Logic.put_boot .., Logic.put_linkUp .., Logic.put_bar .., Logic.put_host .., fun hy => b.word_put_other v fun e => hy (e ▸ hx)⟩

theorem evt (b : Logic) (p k q : Nat) (i u : Bool) (hp : regHome (R.EVT_RAW p) ∈ acceptWords) : (b.evt p k q i u).CtrKept b :=
  ⟨Logic.evt_boot .., Logic.of_bare Logic.linkUp (Logic.bare_evt ..), Logic.evt_bar .., Logic.evt_host ..,
    fun hy => b.word_evt_other q i u fun e => hy (e ▸ hp)⟩

theorem sendPartner (b : Logic) (c : Bool) (k : PFrame) : (b.when c (Logic.sendPartner k)).CtrKept b := by
  have hqueued (b : Logic) (d : Bool) (g : PairRun → PairRun) : (b.when d (Logic.modPair g)).CtrKept b := by
    cases d
    · exact refl b
    · exact ⟨rfl, rfl, rfl, rfl, fun _ => rfl⟩
  cases c
  · exact refl b
  · exact hqueued b _ _

theorem endOverlap (b : Logic) : b.endOverlap.CtrKept b := by
  unfold Logic.endOverlap
  split
  · exact (sendPartner _ _ _).trans ((evt _ R.pageCELLAR _ _ _ _ (by decide)).trans (setSess b _))
  · exact refl b

theorem acceptCtr (b : Logic) (x : Session) (ctr : Nat) : (b.acceptCtr x ctr).CtrKept b := by
  have hwarned (b : Logic) (c : Bool) : (b.when c fun l => (l.put F.DEVICE_SESS_STAT_REKEY_WARN 1).evt R.pageDEVICE 10).CtrKept b := by
    cases c
    · exact refl b
    · exact (evt (b.put F.DEVICE_SESS_STAT_REKEY_WARN 1) R.pageDEVICE 10 0 false false (by decide)).trans (put b F.DEVICE_SESS_STAT_REKEY_WARN 1 (by decide))
  unfold Logic.acceptCtr
  extract_lets up first run l m
  have hm : m.CtrKept b := (hwarned l first).trans (setSess b _)
  clear_value m
  split
  · split
    · exact (endOverlap m).trans hm
    · exact hm
  · exact hm

end Logic.CtrKept

/-- A port without a pending WRITE_AUTH. -/
def Logic.authGone (l : Logic) : Logic := { l with host := { l.host with auth := none } }

/-- The one word of a WRITE_AUTH, for an EVT_EN, is stored. -/
theorem State.commitAuth_stores {s : State} {f : AuthFrame} {p : Nat} {w : Word} (hboot : s.ld.boot.logic ≠ 0) (h : HeadOpen p 4)
    (hlock : s.ld.locked p = false) (haddr : f.addr = R.EVT_EN p) (hwords : f.words = [w]) (x : Session) :
    s.commitAuth f x = { s with ld := (s.ld.authGone.putWord (R.EVT_EN p) w).frameError opWriteAuth [] } := by
  have hboot' : (s.onLd Logic.authGone).ld.boot.logic ≠ 0 := hboot
  have hlock' : (s.onLd Logic.authGone).ld.locked p = false := hlock
  have hcommit : (s.onLd Logic.authGone).commitWords (some x) f.addr f.words =
      ([], { s with ld := s.ld.authGone.putWord (R.EVT_EN p) w }) := by
    rw [hwords, haddr]
    exact (State.commitWords_single hboot' (some x) h.addr w).trans (h.commit hlock' (some x) w 0#32)
  unfold State.commitAuth
  change (let y := (s.onLd Logic.authGone).commitWords (some x) f.addr f.words; if y.2.ld.boot.logic = 0 then y.2 else
    y.2.onLd (Logic.frameError opWriteAuth y.1)) = _
  rw [hcommit]
  exact if_neg hboot

theorem authVerifyDone_commits (s : State) (f : AuthFrame) (x : Session) (page : Page) (w : Word) (htold : s.told = true)
    (hboot : 1 ≤ s.ld.boot.logic) (hauth : s.ld.host.auth = some f) (hmirrored : f.mirrored = none) (hok : f.ok = true)
    (hlead : s.ld.leadReady = false) (hcur : s.ld.sess.cur = some x) (hkeys : x.id = f.keys) (haddr : f.addr = R.EVT_EN page)
    (hwords : f.words = [w]) (hrow : (regRow (R.EVT_EN page)).isSome = true) (hs : pageKind page ≠ .seqtab) (hlock : s.ld.locked page = false) :
    Answers (exec .authVerifyDone s) fun t => t.ld.host.auth = none ∧ t.ld.regs.word (R.EVT_EN page) = w := by
  have h := headOpen (off := 4) (by decide) page.isLt hs hrow
  have hsession : s.ld.sessionOf f.keys = some x := by
    unfold Logic.sessionOf
    rw [hcur]
    exact if_pos hkeys
  have hkept := Logic.CtrKept.acceptCtr s.ld x f.ctr
  have hlead' : (s.ld.acceptCtr x f.ctr).leadReady = false := by
    have hget {y : Fld} (hy : regHome y.addr ∉ acceptWords) : (s.ld.acceptCtr x f.ctr).g y = s.ld.g y :=
      congrArg (wbits · y.lo y.len) (hkept.word hy)
    rw [← hlead, Logic.leadReady, Logic.leadReady, hget (by decide), Logic.gb_of_g (hget (by decide))]
  have hlock' : (s.ld.acceptCtr x f.ctr).locked page = false := by
    have hclass : regHome (lockedBit page).addr ∉ acceptWords := by
      have hmod : ∀ y ∈ acceptWords, y % 256 ≠ 7 := by decide
      intro hmem
      refine hmod _ hmem ?_
      rw [regHome_mod]
      change (page.val * 256 + 7) % 256 = 7
      omega
    rw [← hlock, Logic.locked, Logic.locked, hkept.bar, Logic.gb_of_g (congrArg (wbits · 24 1) (hkept.word hclass))]
  have hdone : s.authDone = ({ s with ld := s.ld.acceptCtr x f.ctr } : State).commitAuth f x := by
    unfold State.authDone
    rw [hauth]
    dsimp only
    rw [hmirrored, if_neg (by decide), hsession]
    dsimp only
    rw [hok, if_neg (by decide : ¬ (!true) = true)]
    have hlone : ¬ (s.ld.acceptCtr x f.ctr).leadReady = true := by simp [hlead']
    exact if_neg hlone
  generalize s.ld.acceptCtr x f.ctr = l at hkept hlock' hdone
  have hboot' : l.boot.logic ≠ 0 := by
    rw [hkept.boot]
    exact Nat.one_le_iff_ne_zero.mp hboot
  rw [State.commitAuth_stores hboot' h hlock' haddr hwords] at hdone
  change Answers (runBoth State.authDone s) _
  refine answers_told htold ?_ ?_ ?_ <;> rw [hdone]
  · exact hkept.linkUp
  · intro t ht _
    rw [ht]
    exact ⟨rfl, word_write_same ..⟩

/-- Settles O3: the words of the host's frames, one kind of frame after another. -/
theorem hostWordFrames : Obligations.HostWordFrames := by
  unfold Obligations.HostWordFrames
  exact ⟨write_stores, write_refused, writeAuth_pends, authVerifyDone_commits, readAuth_answers, evtRawClear_clears, classClr_empties,
    hostClr_clears⟩

end Sys2Proof.Machine
end

section
/-! Clocks: a source's failure and return, degraded mode, the HFRCs, and the frequency counter (R351-R360). -/

namespace Sys2Proof.Machine

open Sys2Proof

/-! SRCSTAT shows the sources' health in its lowest bits, and DEGRADED in bit 12 (R365). -/

/-- Two logic dies show the same of both. -/
def Logic.SrcSame (t l : Logic) : Prop :=
  ∀ b, b < 8 ∨ b = 12 → t.gb ⟨R.CLOCK_SRCSTAT, b, 1⟩ = l.gb ⟨R.CLOCK_SRCSTAT, b, 1⟩

namespace Logic.SrcSame

variable {t l m : Logic}

theorem trans (h : t.SrcSame l) (k : l.SrcSame m) : t.SrcSame m := fun b hb => (h b hb).trans (k b hb)

theorem of_word (h : t.regs.word R.CLOCK_SRCSTAT = l.regs.word R.CLOCK_SRCSTAT) : t.SrcSame l := fun b _ =>
  Logic.gb_of_g (congrArg (wbits · b 1) h)

theorem put (l : Logic) {y : Fld} (v : Nat) (hy : regHome R.CLOCK_SRCSTAT ≠ regHome y.addr) : (l.put y v).SrcSame l :=
  of_word (l.word_put_other v hy)

theorem evt (l : Logic) (p b q : Nat) (i u : Bool) (hp : regHome R.CLOCK_SRCSTAT ≠ regHome (R.EVT_RAW p)) : (l.evt p b q i u).SrcSame l :=
  of_word (l.word_evt_other q i u hp)

theorem showClocks (l : Logic) : l.showClocks.SrcSame l := fun b hb => by
  have hclear {lo len : Nat} (h : b + 1 ≤ lo ∨ lo + len ≤ b) : Fld.clear ⟨R.CLOCK_SRCSTAT, b, 1⟩ ⟨R.CLOCK_SRCSTAT, lo, len⟩ = true := by
    simp only [Fld.clear, Bool.or_eq_true, decide_eq_true_eq]
    omega
  unfold Logic.showClocks
  exact (Logic.gb_put_clear _ _ _ _ rfl (hclear (by omega))).trans (Logic.gb_put_clear _ _ _ _ rfl (hclear (by omega)))

theorem gateDisturbed (l : Logic) : l.gateDisturbed.SrcSame l :=
  of_word (Logic.word_when (fun l => l.word_put_other 1 (by decide)) l)

theorem lpoMoves (l : Logic) : l.lpoMoves.SrcSame l := of_word <| Logic.word_when (fun l => by
  unfold Logic.wdogCarry
  split <;> rfl) l

/-- The Larder's bookkeeping writes its own page alone. -/
theorem shows {r : Reach} (h : t.Shows r l) (hr : ¬r.page 1) : t.SrcSame l := of_word (h.word _ hr (by decide))

theorem hfrcGood (h : t.SrcSame l) (hr : t.mram.larder.retired = l.mram.larder.retired) {k : Nat} (hk : k ≤ 1) :
    t.hfrcGood k = l.hfrcGood k := by
  have hok : t.gb (clockOk (2 + k)) = l.gb (clockOk (2 + k)) := h (2 + k) (.inl (by omega))
  rw [Logic.hfrcGood, Logic.hfrcGood, Logic.isRetired, Logic.isRetired, hok, hr]

end Logic.SrcSame

namespace Logic

@[simp] theorem bare_showClocks (l : Logic) : l.showClocks.bare = l.bare := by simp [showClocks]

@[simp] theorem bare_gateDisturbed (l : Logic) : l.gateDisturbed.bare = l.bare := bare_when l fun l => l.bare_put ..

theorem hfrc_le (l : Logic) : l.hfrc ≤ 1 := by
  unfold hfrc
  cases l.clocks.hfrcB <;> decide

/-- SRCSTAT shows the HFRC in service while degraded. -/
theorem showClocks_source (l : Logic) :
    l.showClocks.g F.CLOCK_SRCSTAT_LOGIC_SRC = if l.gb F.CLOCK_SRCSTAT_DEGRADED then 1 + l.hfrc else 0 := by
  have := l.hfrc_le
  unfold showClocks putb
  rw [g_put_clear _ _ _ _ rfl rfl, g_put_same _ _ _ rfl]
  exact Nat.mod_eq_of_lt (by split <;> (simp only [F.CLOCK_SRCSTAT_LOGIC_SRC]; omega))

theorem lpoMoves_same (l : Logic) :
    { l.lpoMoves with wdog := l.wdog, draws := l.draws } = l := by
  unfold lpoMoves when wdogCarry
  split
  · split <;> rfl
  · rfl

theorem lpoMoves_clocks (l : Logic) : l.lpoMoves.clocks = l.clocks := (congrArg Logic.clocks l.lpoMoves_same :)
theorem lpoMoves_time (l : Logic) : l.lpoMoves.time = l.time := (congrArg Logic.time l.lpoMoves_same :)
theorem lpoMoves_mram (l : Logic) : l.lpoMoves.mram = l.mram := (congrArg Logic.mram l.lpoMoves_same :)
theorem lpoMoves_boot (l : Logic) : l.lpoMoves.boot = l.boot := (congrArg Logic.boot l.lpoMoves_same :)
theorem lpoMoves_host (l : Logic) : l.lpoMoves.host = l.host := (congrArg Logic.host l.lpoMoves_same :)
theorem lpoMoves_loft (l : Logic) : l.lpoMoves.loft = l.loft := (congrArg Logic.loft l.lpoMoves_same :)

/-! A source fails (R351). -/

section
variable (l : Logic) {ok bit src : Nat} {x : Fld} (inj : Bool) (hx : x.addr = R.CLOCK_FAILCNT)

theorem bare_clockFailed : (l.clockFailed ok bit src (some x) inj).bare = l.bare := by
  rw [clockFailed, bare_bump, bare_fault, bare_evt, bare_put]

include hx

theorem word_clockFailed {a : Nat} (ha : regHome a ≠ R.CLOCK_FAILCNT) :
    (l.clockFailed ok bit src (some x) inj).regs.word a = ((l.put (clockOk ok) 0).evt R.pageCLOCK bit (inj := inj)).regs.word a := by
  unfold clockFailed
  exact (word_put_other _ _ (by rw [hx]; exact ha)).trans rfl

theorem clockFailed_src (b : Nat) : (l.clockFailed ok bit src (some x) inj).gb ⟨R.CLOCK_SRCSTAT, b, 1⟩ = (l.put (clockOk ok) 0).gb ⟨R.CLOCK_SRCSTAT, b, 1⟩ :=
  gb_of_g <| congrArg (wbits · b 1) <| (l.word_clockFailed inj hx (a := R.CLOCK_SRCSTAT) (by decide)).trans <|
    word_evt_other _ _ _ _ (a := R.CLOCK_SRCSTAT) (by decide)

theorem clockFailed_shown (hok : ok < 32) : (l.clockFailed ok bit src (some x) inj).gb (clockOk ok) = false :=
  (l.clockFailed_src inj hx ok).trans (gb_put_same l 0 (decide_eq_true (Nat.succ_le_of_lt hok)))

theorem clockFailed_other (hok : ok < 32) {b : Nat} (hb : b ≠ ok) :
    (l.clockFailed ok bit src (some x) inj).gb ⟨R.CLOCK_SRCSTAT, b, 1⟩ = l.gb ⟨R.CLOCK_SRCSTAT, b, 1⟩ :=
  (l.clockFailed_src inj hx b).trans (gb_put_clear l _ _ _ (decide_eq_true (Nat.succ_le_of_lt hok)) (Fld.clear_of_bits hb))

theorem clockFailed_evt (hbit : bit < 32) : (l.clockFailed ok bit src (some x) inj).gb ⟨R.EVT_RAW R.pageCLOCK, bit, 1⟩ = true :=
  have hword := l.word_clockFailed (ok := ok) (bit := bit) (src := src) inj hx (a := R.EVT_RAW R.pageCLOCK) (by decide)
  (gb_of_g (x := ⟨R.EVT_RAW R.pageCLOCK, bit, 1⟩) (congrArg (wbits · bit 1) hword)).trans (gb_evt_same _ _ _ _ hbit)

/-- The HFRCs serve as before the failure of another source. -/
theorem clockFailed_hfrcGood (hok : ok < 32) {k : Nat} (hk : 2 + k ≠ ok) :
    (l.clockFailed ok bit src (some x) inj).hfrcGood k = l.hfrcGood k := by
  have hgb : (l.clockFailed ok bit src (some x) inj).gb (clockOk (2 + k)) = l.gb (clockOk (2 + k)) := l.clockFailed_other inj hx hok hk
  rw [hfrcGood, hfrcGood, hgb, isRetired, isRetired, of_bare Logic.mram (l.bare_clockFailed inj)]

end

end Logic

/-! Degraded mode (R352). -/

/-- nURG asserts, and the link's rate change falls due. -/
def Logic.urges (l : Logic) : Logic :=
  { l with clocks := { l.clocks with urg := true, degradedAt := some l.time }, bar := { l.bar with rateDue := some true } }

/-- The logic die once degraded mode has begun on the HFRC in service. -/
def Logic.goesDegraded (inj : Bool) (l : Logic) : Logic :=
  (((l.lpoMoves.put F.CLOCK_SRCSTAT_DEGRADED 1).put clockDegraded 1).evt R.pageCLOCK 6 (inj := inj)).urges.showClocks.gateDisturbed

theorem Logic.bare_goesDegraded (inj : Bool) (l : Logic) : (l.goesDegraded inj).bare = l.lpoMoves.bare.urges := by
  rw [goesDegraded, bare_gateDisturbed, bare_showClocks]
  have hurges (m : Logic) : m.urges.bare = m.bare.urges := rfl
  rw [hurges, bare_evt, bare_put, bare_put]

theorem Logic.goesDegraded_kept (inj : Bool) (l : Logic) : (l.goesDegraded inj).linkUp = l.linkUp ∧
    (l.goesDegraded inj).clocks = { l.clocks with urg := true, degradedAt := some l.time } ∧ (l.goesDegraded inj).bar.rateDue = some true := by
  have hbare := l.bare_goesDegraded inj
  have hclocks : (l.goesDegraded inj).clocks = l.lpoMoves.bare.urges.clocks := (congrArg Logic.clocks hbare :)
  have hlink : (l.goesDegraded inj).linkUp = l.lpoMoves.linkUp := (congrArg Logic.linkUp hbare :)
  have hkept : l.lpoMoves.bare.urges.clocks = { l.lpoMoves.clocks with urg := true, degradedAt := some l.lpoMoves.time } := rfl
  refine ⟨hlink.trans l.lpoMoves_linkUp, ?_, (congrArg (fun l : Logic => l.bar.rateDue) hbare :)⟩
  rw [hclocks, hkept, l.lpoMoves_clocks, l.lpoMoves_time]

/-- SRCSTAT shows it. -/
theorem Logic.goesDegraded_shown (inj : Bool) (l : Logic) : (l.goesDegraded inj).gb F.CLOCK_SRCSTAT_DEGRADED = true ∧
    (l.goesDegraded inj).g F.CLOCK_SRCSTAT_LOGIC_SRC = 1 + l.hfrc ∧ ∀ b < 8, (l.goesDegraded inj).gb ⟨R.CLOCK_SRCSTAT, b, 1⟩ = l.gb ⟨R.CLOCK_SRCSTAT, b, 1⟩ := by
  have hclear {b : Nat} (hb : b < 8) : Fld.clear ⟨R.CLOCK_SRCSTAT, b, 1⟩ F.CLOCK_SRCSTAT_DEGRADED = true := Fld.clear_of_bits (by omega)
  have hhfrc (b : Bool) (hb : (l.goesDegraded inj).clocks.hfrcB = b) : b = l.clocks.hfrcB := by rw [← hb, (l.goesDegraded_kept inj).2.1]
  unfold Logic.goesDegraded at hhfrc ⊢
  have hevt : (((l.lpoMoves.put F.CLOCK_SRCSTAT_DEGRADED 1).put clockDegraded 1).evt R.pageCLOCK 6 (inj := inj)).urges.SrcSame
      (l.lpoMoves.put F.CLOCK_SRCSTAT_DEGRADED 1) :=
    (SrcSame.evt _ _ _ _ _ _ (by decide)).trans (SrcSame.put _ _ (by decide))
  generalize (((l.lpoMoves.put F.CLOCK_SRCSTAT_DEGRADED 1).put clockDegraded 1).evt R.pageCLOCK 6 (inj := inj)).urges = m at *
  have hshown : m.showClocks.gateDisturbed.SrcSame m := (SrcSame.gateDisturbed _).trans (SrcSame.showClocks _)
  have hdegraded : m.gb F.CLOCK_SRCSTAT_DEGRADED = true := (hevt 12 (.inr rfl)).trans (Logic.gb_put_one _ _ rfl rfl)
  refine ⟨(hshown 12 (.inr rfl)).trans hdegraded, ?_, fun b hb => ?_⟩
  · have hserves : m.hfrc = l.hfrc :=
      congrArg b2n (hhfrc _ (congrArg ClockRun.hfrcB (Logic.of_bare Logic.clocks (by rw [bare_gateDisturbed, bare_showClocks]))))
    have hsrc : m.showClocks.gateDisturbed.g F.CLOCK_SRCSTAT_LOGIC_SRC = m.showClocks.g F.CLOCK_SRCSTAT_LOGIC_SRC :=
      congrArg (wbits · 8 2) (Logic.word_when (fun l => l.word_put_other (a := R.CLOCK_SRCSTAT) 1 (by decide)) _)
    rw [hsrc, m.showClocks_source, hdegraded, hserves, if_pos rfl]
  · exact (hshown b (.inl hb)).trans ((hevt b (.inl hb)).trans ((Logic.gb_put_clear _ _ _ _ rfl (hclear hb)).trans (SrcSame.lpoMoves l b (.inl hb))))

/-- A failure that takes a source from the logic domains begins it where an HFRC serves them. -/
theorem State.degrade_serves {u : State} {inj : Bool} (hnot : u.ld.serveHfrc.gb F.CLOCK_SRCSTAT_DEGRADED = false)
    (hgood : u.ld.serveHfrc.hfrcGood u.ld.serveHfrc.hfrc = true) :
    u.degrade inj = { u with
      ld := (u.ld.serveHfrc.goesDegraded inj).when u.fd.released (Logic.putb clockOnFrc true)
      fd := { u.fd with degraded := true, tnMoves := true, onFrc := u.fd.released || u.fd.onFrc } } := by
  unfold State.degrade
  simp only [hnot, hgood, Bool.not_true, Bool.false_eq_true, if_false]
  cases u.fd.released <;> rfl

/-- The device in degraded mode. -/
theorem answers_degrade {src : Fin 7} {s : State} {l : Logic} (htold : s.told = true)
    (hfails : s.clockFails src false = State.degrade false { s with ld := l }) (hlink : l.serveHfrc.linkUp = s.ld.linkUp)
    (hnot : l.serveHfrc.gb F.CLOCK_SRCSTAT_DEGRADED = false) (hgood : l.serveHfrc.hfrcGood l.serveHfrc.hfrc = true) {p : State → Prop}
    (hp : ∀ t : State, t.ld.clocks = { l.serveHfrc.clocks with urg := true, degradedAt := some l.serveHfrc.time } →
      t.ld.bar.rateDue = some true → t.ld.gb F.CLOCK_SRCSTAT_DEGRADED = true → t.ld.g F.CLOCK_SRCSTAT_LOGIC_SRC = 1 + l.serveHfrc.hfrc →
      (∀ b < 8, t.ld.gb ⟨R.CLOCK_SRCSTAT, b, 1⟩ = l.serveHfrc.gb ⟨R.CLOCK_SRCSTAT, b, 1⟩) → (s.fd.released = true → t.fd.onFrc = true) → p t) :
    Answers (exec (.clockSourceFail src) s) p := by
  have hdegrades := hfails.trans (State.degrade_serves (u := { s with ld := l }) (inj := false) hnot hgood)
  obtain ⟨hkept, hclocks, hrate⟩ := l.serveHfrc.goesDegraded_kept false
  obtain ⟨hdegraded, hsrc, hbits⟩ := l.serveHfrc.goesDegraded_shown false
  generalize l.serveHfrc.goesDegraded false = m at *
  have hbare : (m.when s.fd.released (Logic.putb clockOnFrc true)).bare = m.bare := Logic.bare_when m fun _ => rfl
  have hword : (m.when s.fd.released (Logic.putb clockOnFrc true)).regs.word R.CLOCK_SRCSTAT = m.regs.word R.CLOCK_SRCSTAT :=
    Logic.word_when (fun l => l.word_put_other _ (by decide)) m
  have hg (x : Fld) (hx : x.addr = R.CLOCK_SRCSTAT) : (m.when s.fd.released (Logic.putb clockOnFrc true)).g x = m.g x :=
    congrArg (wbits · x.lo x.len) (hx ▸ hword)
  refine answers_told (g := State.clockFails src false) htold ?_ (by rw [hdegrades]) fun t hld hfd => ?_
  · rw [hdegrades]
    exact (Logic.of_bare Logic.linkUp hbare).trans (hkept.trans hlink)
  · rw [hdegrades] at hld hfd
    dsimp only at hld
    refine hp t ?_ ?_ ?_ ?_ (fun b hb => ?_) fun hreleased => ?_
    · rw [hld, Logic.of_bare Logic.clocks hbare, hclocks]
    · rw [hld, Logic.of_bare Logic.bar hbare, hrate]
    · rw [hld, Logic.gb_of_g (hg _ rfl), hdegraded]
    · rw [hld, hg _ rfl, hsrc]
    · rw [hld, Logic.gb_of_g (hg _ rfl), hbits b hb]
    · have honFrc : t.fd.onFrc = (s.fd.released || s.fd.onFrc) := (congrArg Field.onFrc hfd :)
      rw [honFrc, hreleased]
      rfl

/-- ROOT or the PLL fails. -/
theorem State.clockFails_main {s : State} {src : Fin 7} (hsrc : src.val ≤ 1) (hok : s.ld.gb (clockOk src) = true) :
    ∃ x : Fld, x.addr = R.CLOCK_FAILCNT ∧
      s.clockFails src false = State.degrade false { s with ld := s.ld.clockFailed src src src (some x) false } := by
  have hcases : src = 0 ∨ src = 1 := by omega
  rcases hcases with rfl | rfl
  · exact ⟨F.CLOCK_FAILCNT_ROOT, rfl, if_pos hok⟩
  · exact ⟨F.CLOCK_FAILCNT_PLL, rfl, if_pos hok⟩

theorem clockFail_degrades (s : State) (src : Fin 7) (htold : s.told = true) (hsrc : src.val ≤ 1) (hok : s.ld.gb (clockOk src) = true)
    (hnot : s.ld.gb F.CLOCK_SRCSTAT_DEGRADED = false) (hgood : s.ld.hfrcGood s.ld.hfrc = true) :
    Answers (exec (.clockSourceFail src) s) fun t => t.ld.gb (clockOk src) = false ∧ t.ld.gb F.CLOCK_SRCSTAT_DEGRADED = true ∧
      t.ld.clocks.urg = true ∧ t.ld.clocks.degradedAt = some s.ld.time ∧ t.ld.bar.rateDue = some true ∧
      t.ld.g F.CLOCK_SRCSTAT_LOGIC_SRC = 1 + s.ld.hfrc ∧ (s.fd.released = true → t.fd.onFrc = true) := by
  obtain ⟨x, hx, hfails⟩ := State.clockFails_main hsrc hok
  have hbare := s.ld.bare_clockFailed (ok := src) (bit := src) (src := src) (x := x) false
  have hshown := s.ld.clockFailed_shown (ok := src) (bit := src) (src := src) false hx (by omega)
  have hother := s.ld.clockFailed_other (ok := src) (bit := src) (src := src) false hx (by omega) (b := 12) (by omega)
  have hgoods : (s.ld.clockFailed src src src (some x) false).hfrcGood s.ld.hfrc = s.ld.hfrcGood s.ld.hfrc :=
    s.ld.clockFailed_hfrcGood false hx (by omega) (by omega)
  generalize s.ld.clockFailed src src src (some x) false = l at *
  have hhfrc : l.hfrc = s.ld.hfrc := Logic.of_bare Logic.hfrc hbare
  have hserve : l.serveHfrc = l := by
    have : (!l.hfrcGood l.hfrc && l.hfrcGood (1 - l.hfrc)) = false := by rw [hhfrc, hgoods, hgood]; rfl
    unfold Logic.serveHfrc
    rw [this]
    rfl
  refine answers_degrade htold hfails ?_ ?_ ?_ fun t hclocks hrate hdegraded hlogic hbits honFrc => ?_
  · rw [hserve]
    exact Logic.of_bare Logic.linkUp hbare
  · rw [hserve]
    exact hother.trans hnot
  · rw [hserve, hhfrc, hgoods, hgood]
  · rw [hserve] at hclocks hlogic hbits
    refine ⟨(hbits src (by omega)).trans hshown, hdegraded, ?_, ?_, hrate, hlogic.trans (by rw [hhfrc]), honFrc⟩
    · rw [hclocks]
    · rw [hclocks, Logic.of_bare Logic.time hbare]

/-! The HFRCs (R354). -/

/-- The HFRC that serves, as it is noted. -/
def Logic.hfrcNamed (b : Bool) (l : Logic) : Logic :=
  ({ l with clocks := { l.clocks with hfrcB := b } } : Logic).larderKeep fun r => { r with hfrcB := b }

theorem Logic.hfrcNamed_kept (b : Bool) (l : Logic) : (l.hfrcNamed b).linkUp = l.linkUp ∧ (l.hfrcNamed b).time = l.time ∧
    (l.hfrcNamed b).clocks = { l.clocks with hfrcB := b } ∧ (l.hfrcNamed b).mram.larder.retired = l.mram.larder.retired ∧
    (l.hfrcNamed b).mram.larder.hfrcB = b ∧ (l.hfrcNamed b).regs = l.regs := ⟨rfl, rfl, rfl, rfl, rfl, rfl⟩

/-- The domains move to the other HFRC, which is no spare any more. -/
def Logic.hfrcMoves (b : Bool) (i : Nat) (l : Logic) : Logic := (l.hfrcNamed b).spareIn 6 i

theorem Logic.spareIn_hfrcB (l : Logic) (k i : Nat) : (l.spareIn k i).mram.larder.hfrcB = l.mram.larder.hfrcB := by
  unfold Logic.spareIn
  dsimp only
  rw [larderGen_mram, fewer_mram, larderEvt_mram]
  rfl

theorem Logic.retire_hfrcB (l : Logic) (k i cause : Nat) (wasSpare inj : Bool) :
    (l.retire k i cause wasSpare inj).mram.larder.hfrcB = l.mram.larder.hfrcB := by
  unfold Logic.retire
  split
  · rfl
  · dsimp only
    rw [larderGen_mram, when_mram _ _ _ fun _ => fewer_mram .., larderEvt_mram, Logic.putb, put_mram, put_mram, put_mram, put_mram, larderKeep_eq, Logic.keep]
    cases wasSpare <;> rfl

theorem not_reach_empty (p : Nat) : ¬Reach.page { terms := [] } p := fun ⟨_, h⟩ => h.elim (nomatch ·) (nomatch ·)

theorem Logic.hfrcMoves_kept (b : Bool) (i : Nat) (l : Logic) : (l.hfrcMoves b i).linkUp = l.linkUp ∧ (l.hfrcMoves b i).time = l.time ∧
    (l.hfrcMoves b i).clocks = { l.clocks with hfrcB := b } ∧ (l.hfrcMoves b i).mram.larder.retired = l.mram.larder.retired ∧
    (l.hfrcMoves b i).mram.larder.hfrcB = b ∧ (l.hfrcMoves b i).SrcSame l := by
  obtain ⟨hlink, htime, hclocks, hretired, hkeeps, hregs⟩ := l.hfrcNamed_kept b
  unfold Logic.hfrcMoves
  generalize l.hfrcNamed b = m at *
  have hsame := m.spareIn_same 6 i
  refine ⟨hsame.linkUp.trans hlink, hsame.time.trans htime, hsame.clocks.trans hclocks, (m.spareIn_retired ..).trans hretired,
    (m.spareIn_hfrcB ..).trans hkeeps, .shows ((Logic.Shows.of_regs hregs).spareIn 6 i) (not_reach_empty 1)⟩

theorem b2n_beq_zero {n : Nat} (h : n ≤ 1) : b2n (n == 0) = 1 - n := by
  have : n = 0 ∨ n = 1 := by omega
  rcases this with rfl | rfl <;> rfl

theorem Logic.serveHfrc_eq (l : Logic) : l.serveHfrc =
    if !l.hfrcGood l.hfrc && l.hfrcGood (1 - l.hfrc) then l.hfrcMoves (l.hfrc == 0) (b2n (l.hfrc == 0)) else l := (rfl)

theorem Logic.serveHfrc_moves {l : Logic} (hbad : l.hfrcGood l.hfrc = false) (hgood : l.hfrcGood (1 - l.hfrc) = true) :
    l.serveHfrc = l.hfrcMoves (l.hfrc == 0) (1 - l.hfrc) := by
  rw [l.serveHfrc_eq, hbad, hgood, b2n_beq_zero l.hfrc_le]
  exact if_pos rfl

/-- The HFRC in service gives way to the other, a switch of the domains' source while degraded (R360). -/
def Logic.hfrcGivesWay (k : Nat) (l : Logic) : Logic :=
  (l.hfrcMoves (k == 0) (1 - k)).when (l.gb F.CLOCK_SRCSTAT_DEGRADED) Logic.gateDisturbed

theorem Logic.hfrcRetires_eq (k cause : Nat) (inj : Bool) (l : Logic) : l.hfrcRetires k cause inj =
    ((l.when (l.hfrc == k && l.hfrcGood (1 - k)) (Logic.hfrcGivesWay k)).retire 6 k cause (!(l.hfrc == k)) inj).showClocks := (rfl)

theorem Logic.bare_hfrcGivesWay (k : Nat) (l : Logic) : (l.hfrcGivesWay k).bare = (l.hfrcMoves (k == 0) (1 - k)).bare :=
  Logic.bare_when _ Logic.bare_gateDisturbed

theorem Logic.hfrcGivesWay_src (k : Nat) (l : Logic) : (l.hfrcGivesWay k).SrcSame (l.hfrcMoves (k == 0) (1 - k)) := by
  unfold Logic.hfrcGivesWay
  cases l.gb F.CLOCK_SRCSTAT_DEGRADED
  · rw [Logic.when_false]
    exact fun _ _ => rfl
  · rw [Logic.when_true]
    exact .gateDisturbed _

theorem clockFail_other (s : State) (src : Fin 7) (htold : s.told = true) (hsrc : src.val ≤ 1) (hok : s.ld.gb (clockOk src) = true)
    (hnot : s.ld.gb F.CLOCK_SRCSTAT_DEGRADED = false) (hbad : s.ld.hfrcGood s.ld.hfrc = false) (hgood : s.ld.hfrcGood (1 - s.ld.hfrc) = true) :
    Answers (exec (.clockSourceFail src) s) fun t => t.ld.gb F.CLOCK_SRCSTAT_DEGRADED = true ∧ t.ld.clocks.hfrcB = (s.ld.hfrc == 0) ∧
      t.ld.clocks.urg = true ∧ t.ld.g F.CLOCK_SRCSTAT_LOGIC_SRC = 2 - s.ld.hfrc := by
  obtain ⟨x, hx, hfails⟩ := State.clockFails_main hsrc hok
  have hle := s.ld.hfrc_le
  have hbare := s.ld.bare_clockFailed (ok := src) (bit := src) (src := src) (x := x) false
  have hother := s.ld.clockFailed_other (ok := src) (bit := src) (src := src) false hx (by omega) (b := 12) (by omega)
  have hgoods (k : Nat) : (s.ld.clockFailed src src src (some x) false).hfrcGood k = s.ld.hfrcGood k :=
    s.ld.clockFailed_hfrcGood false hx (by omega) (by omega)
  generalize s.ld.clockFailed src src src (some x) false = l at *
  have hhfrc : l.hfrc = s.ld.hfrc := Logic.of_bare Logic.hfrc hbare
  have hserve : l.serveHfrc = l.hfrcMoves (s.ld.hfrc == 0) (1 - s.ld.hfrc) := by
    rw [Logic.serveHfrc_moves (by rw [hhfrc, hgoods, hbad]) (by rw [hhfrc, hgoods, hgood]), hhfrc]
  obtain ⟨hlink, -, hclocks, hretired, -, hsrcs⟩ := l.hfrcMoves_kept (s.ld.hfrc == 0) (1 - s.ld.hfrc)
  rw [← hserve] at hlink hclocks hretired hsrcs
  have hnow : l.serveHfrc.hfrc = 1 - s.ld.hfrc := by rw [Logic.hfrc, hclocks, b2n_beq_zero hle]
  refine answers_degrade htold hfails (hlink.trans (Logic.of_bare Logic.linkUp hbare)) ((hsrcs 12 (.inr rfl)).trans (hother.trans hnot)) ?_
    fun t htclocks _ hdegraded hlogic _ _ => ⟨hdegraded, ?_, ?_, ?_⟩
  · rw [hnow, hsrcs.hfrcGood hretired (by omega), hgoods, hgood]
  · rw [htclocks, hclocks]
  · rw [htclocks]
  · rw [hlogic, hnow]
    omega

/-- The HFRC in service fails and the other takes its place. -/
theorem hfrcFail_retires (s : State) (k : Fin 2) (htold : s.told = true) (hok : s.ld.gb (clockOk (2 + k)) = true) (hserves : s.ld.hfrc = k.val)
    (hgood : s.ld.hfrcGood (1 - k) = true) (_ : s.ld.isRetired 6 k = false) :
    Answers (exec (.clockSourceFail (Fin.ofNat 7 (2 + k))) s) fun t => t.ld.isRetired 6 k = true ∧ t.ld.clocks.hfrcB = (k.val == 0) ∧
      t.ld.mram.larder.hfrcB = (k.val == 0) ∧ t.ld.gb (clockOk (2 + k)) = false := by
  have hfails : s.clockFails (Fin.ofNat 7 (2 + k)).val false = s.hfrcFails k false := by
    have hcases : k = 0 ∨ k = 1 := by omega
    rcases hcases with rfl | rfl <;> exact if_pos hok
  have hbare := s.ld.bare_clockFailed (ok := 2 + k) (bit := 2) (src := 2 + k) (x := F.CLOCK_FAILCNT_HFRC) false
  have hshown := s.ld.clockFailed_shown (ok := 2 + k) (bit := 2) (src := 2 + k) false (x := F.CLOCK_FAILCNT_HFRC) rfl (by omega)
  have hgoods : (s.ld.clockFailed (2 + k) 2 (2 + k) (some F.CLOCK_FAILCNT_HFRC) false).hfrcGood (1 - k) = true :=
    (s.ld.clockFailed_hfrcGood false (x := F.CLOCK_FAILCNT_HFRC) rfl (by omega) (by omega)).trans hgood
  have hends : s.hfrcFails k false =
      { s with ld := (s.ld.clockFailed (2 + k) 2 (2 + k) (some F.CLOCK_FAILCNT_HFRC) false).hfrcRetires k 2 false } := by
    unfold State.hfrcFails
    simp only [hgood, Bool.not_true, Bool.and_false, Bool.false_and, Bool.false_eq_true, if_false]
  generalize s.ld.clockFailed (2 + k) 2 (2 + k) (some F.CLOCK_FAILCNT_HFRC) false = l at *
  have hhfrc : l.hfrc = k := (Logic.of_bare Logic.hfrc hbare).trans hserves
  have hmoves : l.hfrcRetires k 2 false = ((l.hfrcGivesWay k).retire 6 k 2 false false).showClocks := by
    rw [Logic.hfrcRetires_eq, hhfrc, hgoods, beq_self_eq_true, Bool.and_self, Logic.when_true, Bool.not_true]
  obtain ⟨hlink, -, hclocks, -, hkeeps, hsrcs⟩ := l.hfrcMoves_kept (k.val == 0) (1 - k)
  have hgate := l.bare_hfrcGivesWay k
  have hgates := (l.hfrcGivesWay_src k).trans hsrcs
  generalize l.hfrcGivesWay k = m at *
  have hretire := Logic.retire_same 6 k 2 false false m
  have hshown' : (m.retire 6 k 2 false false).showClocks.gb (clockOk (2 + k)) = l.gb (clockOk (2 + k)) :=
    (((Logic.SrcSame.showClocks _).trans (.shows ((Logic.Shows.refl { terms := [] } m).retire ..) (not_reach_empty 1))).trans
      hgates) (2 + k) (.inl (by omega))
  have hall := (m.retire 6 k 2 false false).bare_showClocks
  refine answers_told (g := State.clockFails (Fin.ofNat 7 (2 + k)) false) htold ?_ (by rw [hfails, hends]) fun t hld _ => ?_
  · rw [hfails, hends, hmoves]
    exact (Logic.of_bare Logic.linkUp hall).trans (hretire.linkUp.trans ((Logic.of_bare Logic.linkUp hgate).trans
      (hlink.trans (Logic.of_bare Logic.linkUp hbare))))
  · rw [hld, hfails, hends, hmoves]
    dsimp only
    refine ⟨?_, ?_, ?_, hshown'.trans hshown⟩
    · exact (Logic.of_bare (fun l => l.isRetired 6 k) hall).trans (Logic.retire_isRetired ..)
    · rw [Logic.of_bare Logic.clocks hall, hretire.clocks, Logic.of_bare Logic.clocks hgate, hclocks]
    · rw [Logic.of_bare Logic.mram hall, Logic.retire_hfrcB, Logic.of_bare Logic.mram hgate, hkeeps]

/-! Without a source the logic die resets (R358). -/

/-- RSTCAUSE shows the reset that came last. -/
theorem wbit_rstCause {bit : Nat} (hbit : 1 < bit ∧ bit < 32) (w : Word) : wbit (rstCause bit w) bit = true := by
  unfold rstCause
  rw [if_neg (by omega)]
  change nbit (BitVec.ofNat 32 _).toNat bit = true
  rw [BitVec.toNat_ofNat, nbit_mod hbit.2]
  by_cases h : wbit w bit = true
  · rw [if_pos h]
    exact h
  · rw [if_neg h, nbit_testBit, Nat.add_comm, Nat.testBit_two_pow_add_eq, ← nbit_testBit]
    exact (congrArg not (Bool.eq_false_of_not_eq_true h)).trans Bool.not_false

theorem Logic.reset_cause {bit : Nat} (hbit : 1 < bit ∧ bit < 32) (l : Logic) : (l.reset bit).gb ⟨R.DEVICE_RSTCAUSE, bit, 1⟩ = true := by
  have hword : (l.reset bit).regs.word R.DEVICE_RSTCAUSE = rstCause bit (l.regs.word R.DEVICE_RSTCAUSE) := word_write_same ..
  rw [← wbit_rstCause hbit (l.regs.word R.DEVICE_RSTCAUSE), wbit_eq, ← hword]
  rfl

theorem Logic.reset_mram (bit : Nat) (l : Logic) :
    (l.reset bit).mram = { l.mram with loft := { l.mram.loft with flight := l.loft.queue.head? } } := (rfl)

/-- A logic die that resets alone, whatever the field die's clock. -/
theorem State.resetLogic_shown {bit : Nat} (hbit : 1 < bit ∧ bit < 32) (s : State) : (s.resetLogic bit).ld.mode = .boot ∧
    (s.resetLogic bit).ld.linkUp = false ∧ (s.resetLogic bit).ld.gb ⟨R.DEVICE_RSTCAUSE, bit, 1⟩ = true ∧
    (s.resetLogic bit).ld.mram = { s.ld.mram with loft := { s.ld.mram.loft with flight := s.ld.loft.queue.head? } } ∧
    (s.resetLogic bit).fd.cfg = s.fd.cfg := by
  refine ⟨rfl, rfl, ?_, rfl, ?_⟩
  · have hclear : Fld.clear ⟨R.DEVICE_RSTCAUSE, bit, 1⟩ clockOnFrc = true :=
      Fld.clear_of_home (by decide : regHome R.DEVICE_RSTCAUSE ≠ regHome clockOnFrc.addr)
    exact (Logic.gb_put_clear _ _ _ _ rfl hclear).trans (s.ld.reset_cause hbit)
  · unfold State.resetLogic Field.undegraded
    dsimp only
    split <;> rfl

theorem clockFail_resets (s : State) (src : Fin 7) (hsrc : src.val ≤ 1) (hok : s.ld.gb (clockOk src) = true)
    (hnot : s.ld.gb F.CLOCK_SRCSTAT_DEGRADED = false) (h0 : s.ld.hfrcGood 0 = false) (h1 : s.ld.hfrcGood 1 = false) :
    Answers (exec (.clockSourceFail src) s) fun t => t.ld.mode = .boot ∧ t.ld.gb ⟨R.DEVICE_RSTCAUSE, 4, 1⟩ = true ∧ t.fd.onFrc = true ∧
      t.ld.mram = { s.ld.mram with loft := { s.ld.mram.loft with flight := s.ld.loft.queue.head? } } ∧ t.fd.cfg = s.fd.cfg := by
  obtain ⟨x, hx, hfails⟩ := State.clockFails_main hsrc hok
  have hbare := s.ld.bare_clockFailed (ok := src) (bit := src) (src := src) (x := x) false
  have hother := s.ld.clockFailed_other (ok := src) (bit := src) (src := src) false hx (by omega) (b := 12) (by omega)
  have hnone (k : Nat) (hk : k ≤ 1) : (s.ld.clockFailed src src src (some x) false).hfrcGood k = false := by
    have hcases : k = 0 ∨ k = 1 := by omega
    rw [s.ld.clockFailed_hfrcGood false hx (by omega) (by omega)]
    rcases hcases with rfl | rfl <;> assumption
  have hmram := Logic.of_bare Logic.mram hbare
  have hloft := Logic.of_bare Logic.loft hbare
  generalize s.ld.clockFailed src src src (some x) false = l at *
  have hserve : l.serveHfrc = l := by
    rw [Logic.serveHfrc_eq, hnone _ l.hfrc_le, hnone _ (by omega)]
    rfl
  have hnot' : l.serveHfrc.gb F.CLOCK_SRCSTAT_DEGRADED = false := by
    rw [hserve]
    exact hother.trans hnot
  have hlost : s.clockFails src false = State.clockLost { s with ld := l } := by
    rw [hfails]
    unfold State.degrade
    rw [hserve] at hnot'
    simp only [hserve, hnot', hnone _ l.hfrc_le, Bool.not_false, Bool.false_eq_true, if_false, if_true]
  obtain ⟨hmode, hlink, hcause, hkept, hcfg⟩ := State.resetLogic_shown (bit := 4) ⟨by decide, by decide⟩ { s with ld := l }
  refine ⟨_, runBoth_next (State.clockFails src false) s, ?_⟩
  dsimp only
  rw [hlost, State.clockLost, drain_fd_onFrc, drain_fd_cfg]
  generalize State.resetLogic 4 { s with ld := l } = u at *
  have hstays : (drain (u.fcoreOn true)).ld = u.ld.putb clockOnFrc true := drain_ld_down _ hlink
  rw [hstays]
  refine ⟨hmode, ?_, rfl, ?_, hcfg⟩
  · exact (Logic.gb_put_clear _ _ _ _ rfl (Fld.clear_of_home (by decide))).trans hcause
  · exact hkept.trans (by rw [hmram, hloft])

/-! The LPO (R354). -/

/-- The watchdog counts on where the LPO's consumers move to the HFRC. -/
theorem Logic.lpoMoves_counts {l m : Logic} (hwdog : m.wdog = l.lpoMoves.wdog) (htime : m.time = l.time)
    (hlpo : m.wdogOnLpo = l.wdogOnLpo) : m.wdogCount = l.wdogCount := by
  cases honLpo : l.wdogOnLpo with
  | true =>
    have hcarry : l.lpoMoves = l.wdogCarry := by rw [lpoMoves, honLpo, when_true]
    exact l.wdogCarry_counts.2.2 m (hwdog.trans (by rw [hcarry])) htime
  | false =>
    have hstays : l.lpoMoves = l := by rw [lpoMoves, honLpo, when_false]
    rw [hstays] at hwdog
    unfold Logic.wdogCount
    rw [hlpo, honLpo, hwdog, htime]
    rfl

theorem Logic.lpoMoves_wdog (l : Logic) : l.lpoMoves.wdog = { l.wdog with base := l.lpoMoves.wdog.base, opened := l.lpoMoves.wdog.opened } := by
  unfold lpoMoves
  cases l.wdogOnLpo
  · rfl
  · exact l.wdogCarry_counts.2.1

theorem lpoFail_shown (s : State) (src : Fin 7) (htold : s.told = true) (hsrc : src.val = 4) (hok : s.ld.gb (clockOk 4) = true) :
    Answers (exec (.clockSourceFail src) s) fun t => t.ld.gb (clockOk 4) = false ∧ t.ld.gb ⟨R.EVT_RAW R.pageCLOCK, 3, 1⟩ = true ∧
      t.ld.wdogCount = s.ld.wdogCount ∧ t.ld.wdog = { s.ld.wdog with base := t.ld.wdog.base, opened := t.ld.wdog.opened } := by
  have hfails : s.clockFails src false = { s with ld := s.ld.lpoMoves.clockFailed 4 3 4 (some F.CLOCK_FAILCNT_LPO) false } := by
    rw [hsrc]
    exact if_pos hok
  have hbare := s.ld.lpoMoves.bare_clockFailed (ok := 4) (bit := 3) (src := 4) (x := F.CLOCK_FAILCNT_LPO) false
  have hshown := s.ld.lpoMoves.clockFailed_shown (ok := 4) (bit := 3) (src := 4) (x := F.CLOCK_FAILCNT_LPO) false rfl (by decide)
  have hevt := s.ld.lpoMoves.clockFailed_evt (ok := 4) (bit := 3) (src := 4) (x := F.CLOCK_FAILCNT_LPO) false rfl (by decide)
  have honLpo : (s.ld.lpoMoves.clockFailed 4 3 4 (some F.CLOCK_FAILCNT_LPO) false).wdogOnLpo = s.ld.wdogOnLpo := by
    have hregs : s.ld.lpoMoves.regs = s.ld.regs := (congrArg Logic.regs s.ld.lpoMoves_same :)
    have hword {a : Nat} (ha : regHome a ≠ R.CLOCK_FAILCNT) (hevt : regHome a ≠ regHome (R.EVT_RAW R.pageCLOCK))
        (hput : regHome a ≠ regHome R.CLOCK_SRCSTAT) :
        (s.ld.lpoMoves.clockFailed 4 3 4 (some F.CLOCK_FAILCNT_LPO) false).regs.word a = s.ld.regs.word a := by
      rw [Logic.word_clockFailed _ _ rfl ha, Logic.word_evt_other _ _ _ _ hevt, Logic.word_put_other _ _ hput, hregs]
    have hgb {x : Fld} (hx : regHome x.addr ≠ R.CLOCK_FAILCNT) (hevt : regHome x.addr ≠ regHome (R.EVT_RAW R.pageCLOCK))
        (hput : regHome x.addr ≠ regHome R.CLOCK_SRCSTAT) :
        (s.ld.lpoMoves.clockFailed 4 3 4 (some F.CLOCK_FAILCNT_LPO) false).gb x = s.ld.gb x :=
      Logic.gb_of_g (congrArg (wbits · x.lo x.len) (hword hx hevt hput))
    rw [Logic.wdogOnLpo, hgb (by decide) (by decide) (by decide), hgb (by decide) (by decide) (by decide), ← Logic.wdogOnLpo]
  refine answers_told (g := State.clockFails src false) htold ?_ (by rw [hfails]) fun t hld _ => ?_
  · rw [hfails]
    exact (Logic.of_bare Logic.linkUp hbare).trans s.ld.lpoMoves_linkUp
  · rw [hld, hfails]
    dsimp only
    generalize s.ld.lpoMoves.clockFailed 4 3 4 (some F.CLOCK_FAILCNT_LPO) false = m at *
    have hwdog : m.wdog = s.ld.lpoMoves.wdog := Logic.of_bare Logic.wdog hbare
    refine ⟨hshown, hevt, Logic.lpoMoves_counts hwdog ((Logic.of_bare Logic.time hbare).trans s.ld.lpoMoves_time) honLpo, ?_⟩
    rw [hwdog]
    exact s.ld.lpoMoves_wdog

/-! The field die's clocks (R351-R353). -/

theorem State.up_told {s : State} (hup : s.up) : s.told = true := by
  rw [State.told, hup.2.2, Bool.or_true]

/-- With nothing to tell before, the messages of a command reach the logic die in order. -/
theorem drain_ld_tells {s : State} {old es : List FMsg} (hlink : s.ld.linkUp = true) (hwaits : old.all waits = true)
    (hout : s.fd.out = old ++ es) : (drain s).ld = es.foldl (fun l m => takeMsg s.fd.time m l) s.ld := by
  rw [drain_ld s hlink, hout, List.foldl_append, takeMsgs_waits _ hwaits]

theorem Logic.setEvt_shown (l : Logic) (p b q : Nat) (i u f : Bool) (t : Nat) (z : Option Nat) (hb : b < 32) :
    (l.setEvt p b q i u f t z).gb ⟨R.EVT_RAW p, b, 1⟩ = true := by
  rw [gb_of_g (g_of_regs (l.regs_setEvt p b q i u f t z) _)]
  exact gb_put_one l _ (decide_eq_true (Nat.succ_le_of_lt hb)) rfl

theorem Logic.setEvt_other (l : Logic) (p b q : Nat) (i u f : Bool) (t : Nat) (z : Option Nat) {x : Fld}
    (hx : regHome x.addr ≠ regHome (R.EVT_RAW p)) : (l.setEvt p b q i u f t z).gb x = l.gb x := by
  rw [gb_of_g (g_of_regs (l.regs_setEvt p b q i u f t z) _)]
  exact gb_of_g (congrArg (wbits · x.lo x.len) (l.word_put_other 1 hx))

/-- A field die that has lost the recovered clock. -/
def Field.losesRecovered (f : Field) : Field :=
  ({ f with onFrc := true, recBad := true }.tell (.evt R.pageCLOCK 4 0 false false)).fault 5 false none false

theorem Field.losesRecovered_out (f : Field) :
    ∃ e, f.losesRecovered.out = f.out ++ [.evt R.pageCLOCK 4 0 false false, .fault e] := ⟨_, List.append_assoc ..⟩

/-- A field die that has lost FRC. -/
def Field.losesFrc (f : Field) : Field :=
  ({ f with frcBad := true }.tell (.put (clockOk 5) 0) |>.tell (.evt R.pageCLOCK 5 0 false false)).fault 6 false none false

theorem Field.losesFrc_out (f : Field) :
    ∃ e, f.losesFrc.out = f.out ++ [.put (clockOk 5) 0, .evt R.pageCLOCK 5 0 false false, .fault e] :=
  ⟨_, (List.append_assoc ..).trans (List.append_assoc ..)⟩

theorem recoveredFail_shown (s : State) (src : Fin 7) (hup : s.up) (hsrc : src.val = 5) (hrec : s.fd.recBad = false) :
    Answers (exec (.clockSourceFail src) s) fun t => t.fd.onFrc = true ∧ t.ld.gb clockOnFrc = true ∧
      t.ld.gb ⟨R.EVT_RAW R.pageCLOCK, 4, 1⟩ = true := by
  obtain ⟨hreleased, hlink, hwaits⟩ := hup
  have hfails : s.clockFails src false =
      { s with ld := (s.ld.when (!s.fd.onFrc) Logic.gateDisturbed).putb clockOnFrc true, fd := s.fd.losesRecovered } := by
    rw [hsrc]
    exact (if_pos hreleased).trans (if_neg fun h => Bool.false_ne_true (hrec.symm.trans h))
  have hlink' : ((s.ld.when (!s.fd.onFrc) Logic.gateDisturbed).putb clockOnFrc true).linkUp = true :=
    (Logic.of_bare Logic.linkUp ((Logic.bare_putb _ _ _).trans (Logic.bare_when _ Logic.bare_gateDisturbed))).trans hlink
  have hshown : ((s.ld.when (!s.fd.onFrc) Logic.gateDisturbed).putb clockOnFrc true).gb clockOnFrc = true := Logic.gb_putb_same _ _ rfl rfl
  generalize (s.ld.when (!s.fd.onFrc) Logic.gateDisturbed).putb clockOnFrc true = l at hfails hlink' hshown
  obtain ⟨e, hout⟩ := s.fd.losesRecovered_out
  have hld := drain_ld_tells (s := { s with ld := l, fd := s.fd.losesRecovered }) hlink' hwaits hout
  refine ⟨_, runBoth_next (State.clockFails src false) s, ?_⟩
  dsimp only
  rw [hfails, drain_fd_onFrc, hld]
  simp only [List.foldl_cons, List.foldl_nil, takeMsg]
  exact ⟨rfl, (Logic.setEvt_other _ _ _ _ _ _ _ _ _ (by decide)).trans hshown, Logic.setEvt_shown _ _ _ _ _ _ _ _ _ (by decide)⟩

theorem frcFail_shown (s : State) (src : Fin 7) (hup : s.up) (hsrc : src.val = 6) (hfrc : s.fd.frcBad = false) :
    Answers (exec (.clockSourceFail src) s) fun t => t.ld.gb (clockOk 5) = false ∧ t.ld.gb ⟨R.EVT_RAW R.pageCLOCK, 5, 1⟩ = true := by
  obtain ⟨hreleased, hlink, hwaits⟩ := hup
  have hfails : s.clockFails src false = { s with fd := s.fd.losesFrc } := by
    rw [hsrc]
    exact if_pos (by rw [hreleased, hfrc]; rfl)
  obtain ⟨e, hout⟩ := s.fd.losesFrc_out
  have hld := drain_ld_tells (s := { s with fd := s.fd.losesFrc }) hlink hwaits hout
  refine ⟨_, runBoth_next (State.clockFails src false) s, ?_⟩
  dsimp only
  rw [hfails, hld]
  simp only [List.foldl_cons, List.foldl_nil, takeMsg]
  have hput : (s.ld.put (clockOk 5) 0).when (hwOwned (clockOk 5).addr) (Logic.noteOwned (clockOk 5).addr) = s.ld.put (clockOk 5) 0 := if_neg (by decide)
  rw [hput]
  exact ⟨(Logic.setEvt_other _ _ _ _ _ _ _ _ _ (by decide)).trans (Logic.gb_put_same s.ld 0 rfl), Logic.setEvt_shown _ _ _ _ _ _ _ _ _ (by decide)⟩

theorem relock_returns (s : State) (hup : s.up) :
    Answers (exec .fieldClockRelock s) fun t => t.fd.onFrc = false ∧ t.ld.gb clockOnFrc = false := by
  have hrelock : s.relock = { s with
      ld := (s.ld.when s.fd.onFrc Logic.gateDisturbed).putb clockOnFrc false, fd := { s.fd with onFrc := false } } := if_pos hup.1
  refine answers_told (g := State.relock) (State.up_told hup) ?_ (by rw [hrelock]) fun t hld hfd => ?_
  · rw [hrelock]
    exact Logic.of_bare Logic.linkUp ((Logic.bare_putb _ _ _).trans (Logic.bare_when _ Logic.bare_gateDisturbed))
  · rw [hrelock] at hld hfd
    refine ⟨(congrArg Field.onFrc hfd :), ?_⟩
    rw [hld]
    exact Logic.gb_putb_same _ _ rfl rfl

/-! Sources return, and degraded mode ends (R351, R356). -/

/-- The count of degraded time stops, and the link's rate change falls due. -/
def Logic.calms (l : Logic) : Logic :=
  { l with clocks := { l.clocks with degTicks := l.degTicks, degradedAt := none }, bar := { l.bar with rateDue := some false } }

/-- The logic die once its domains have returned to the PLL. -/
def Logic.undegrades (l : Logic) : Logic :=
  (((l.lpoMoves.put F.CLOCK_SRCSTAT_DEGRADED 0).put clockDegraded 0).evt R.pageCLOCK 7).calms.showClocks.gateDisturbed

theorem State.undegrade_eq (s : State) : s.undegrade =
    if s.ld.gb F.CLOCK_SRCSTAT_DEGRADED then { s with ld := s.ld.undegrades, fd := { s.fd.undegraded with tnMoves := true } } else s := (rfl)

theorem Logic.undegrades_kept (l : Logic) : l.undegrades.linkUp = l.linkUp ∧ l.undegrades.mram = l.mram ∧
    l.undegrades.boot = l.boot ∧ l.undegrades.host = l.host := by
  have hbare : l.undegrades.bare = l.lpoMoves.bare.calms := by
    rw [undegrades, bare_gateDisturbed, bare_showClocks]
    have hcalms (m : Logic) : m.calms.bare = m.bare.calms := rfl
    rw [hcalms, bare_evt, bare_put, bare_put]
  have hlink : l.undegrades.linkUp = l.lpoMoves.linkUp := (congrArg Logic.linkUp hbare :)
  have hmram : l.undegrades.mram = l.lpoMoves.mram := (congrArg Logic.mram hbare :)
  have hboot : l.undegrades.boot = l.lpoMoves.boot := (congrArg Logic.boot hbare :)
  refine ⟨hlink.trans l.lpoMoves_linkUp, hmram.trans l.lpoMoves_mram, hboot.trans l.lpoMoves_boot, ?_⟩
  have hshown (m : Logic) : m.calms.showClocks.gateDisturbed.host = m.host := when_host _ _ _ fun _ => put_host ..
  rw [undegrades, hshown, evt_host, put_host, put_host, l.lpoMoves_host]

theorem Logic.undegrades_shown (l : Logic) : l.undegrades.gb F.CLOCK_SRCSTAT_DEGRADED = false ∧
    ∀ b < 8, l.undegrades.gb ⟨R.CLOCK_SRCSTAT, b, 1⟩ = l.gb ⟨R.CLOCK_SRCSTAT, b, 1⟩ := by
  have hclear {b : Nat} (hb : b < 8) : Fld.clear ⟨R.CLOCK_SRCSTAT, b, 1⟩ F.CLOCK_SRCSTAT_DEGRADED = true := Fld.clear_of_bits (by omega)
  have hsrcs : l.undegrades.SrcSame (l.lpoMoves.put F.CLOCK_SRCSTAT_DEGRADED 0) := by
    unfold Logic.undegrades
    have hcalms (m : Logic) : m.calms.SrcSame m := fun _ _ => rfl
    exact (((SrcSame.gateDisturbed _).trans (SrcSame.showClocks _)).trans (hcalms _)).trans
      ((SrcSame.evt _ _ _ _ _ _ (by decide)).trans (SrcSame.put _ _ (by decide)))
  refine ⟨(hsrcs 12 (.inr rfl)).trans (gb_put_same _ _ rfl), fun b hb => ?_⟩
  exact (hsrcs b (.inl hb)).trans ((gb_put_clear _ _ _ _ rfl (hclear hb)).trans (SrcSame.lpoMoves l b (.inl hb)))

theorem clockOk_fits {n : Nat} (h : n < 32) : (clockOk n).fits = true := decide_eq_true (Nat.succ_le_of_lt h)

/-- What the end of degraded mode leaves. -/
structure State.Undegraded (t s : State) : Prop where
  linkUp : t.ld.linkUp = s.ld.linkUp
  mram : t.ld.mram = s.ld.mram
  boot : t.ld.boot = s.ld.boot
  host : t.ld.host = s.ld.host
  out : t.fd.out = s.fd.out
  bits : ∀ b < 8, t.ld.gb ⟨R.CLOCK_SRCSTAT, b, 1⟩ = s.ld.gb ⟨R.CLOCK_SRCSTAT, b, 1⟩

theorem State.undegrade_kept (s : State) : s.undegrade.Undegraded s ∧ s.undegrade.ld.gb F.CLOCK_SRCSTAT_DEGRADED = false := by
  rw [State.undegrade_eq]
  split
  next =>
    obtain ⟨hlink, hmram, hboot, hhost⟩ := s.ld.undegrades_kept
    obtain ⟨hover, hbits⟩ := s.ld.undegrades_shown
    refine ⟨⟨hlink, hmram, hboot, hhost, ?_, hbits⟩, hover⟩
    unfold Field.undegraded
    dsimp only
    split <;> rfl
  next h => exact ⟨⟨rfl, rfl, rfl, rfl, rfl, fun _ _ => rfl⟩, Bool.eq_false_of_not_eq_true h⟩

theorem State.autoReturn_kept (s : State) : s.autoReturn.Undegraded s := by
  unfold State.autoReturn
  split
  · exact s.undegrade_kept.1
  · exact ⟨rfl, rfl, rfl, rfl, rfl, fun _ _ => rfl⟩

theorem State.clockReturns_healthy (s : State) {n : Nat} (hn : n ≤ 4) : (s.clockReturns n).ld.linkUp = s.ld.linkUp ∧
    (s.clockReturns n).fd.out = s.fd.out ∧ (s.clockReturns n).ld.gb (clockOk n) = true ∧ (s.clockReturns n).ld.mram = s.ld.mram := by
  have hput : (s.ld.put (clockOk n) 1).gb (clockOk n) = true := Logic.gb_put_one _ _ (clockOk_fits (by omega)) rfl
  have hmains : ∀ b, s.clockReturns n = State.autoReturn { s with ld := s.ld.put (clockOk n) 1 } → b = n → b < 8 →
      (s.clockReturns n).ld.linkUp = s.ld.linkUp ∧ (s.clockReturns n).fd.out = s.fd.out ∧ (s.clockReturns n).ld.gb (clockOk n) = true ∧
      (s.clockReturns n).ld.mram = s.ld.mram := fun b h hb hlt => by
    have hauto := State.autoReturn_kept { s with ld := s.ld.put (clockOk n) 1 }
    rw [h]
    exact ⟨hauto.linkUp, hauto.out, (hauto.bits n (by omega)).trans hput, hauto.mram⟩
  have hhfrcs : s.clockReturns n = { s with ld := (s.ld.put (clockOk n) 1).showClocks } →
      (s.clockReturns n).ld.linkUp = s.ld.linkUp ∧ (s.clockReturns n).fd.out = s.fd.out ∧ (s.clockReturns n).ld.gb (clockOk n) = true ∧
      (s.clockReturns n).ld.mram = s.ld.mram := fun h => by
    have hbare := (s.ld.put (clockOk n) 1).bare_showClocks.trans (s.ld.bare_put ..)
    rw [h]
    exact ⟨Logic.of_bare Logic.linkUp hbare, rfl, (Logic.showClocks_clockOk _ (by omega)).trans hput, Logic.of_bare Logic.mram hbare⟩
  have hcases : n = 0 ∨ n = 1 ∨ n = 2 ∨ n = 3 ∨ n = 4 := by omega
  rcases hcases with rfl | rfl | rfl | rfl | rfl
  · exact hmains 0 rfl rfl (by decide)
  · exact hmains 1 rfl rfl (by decide)
  · exact hhfrcs rfl
  · exact hhfrcs rfl
  · by_cases h : s.ld.gb (clockOk 4) = true
    · have hstays : s.clockReturns 4 = s := if_pos h
      rw [hstays]
      exact ⟨rfl, rfl, h, rfl⟩
    · have hreturns : s.clockReturns 4 = { s with ld := s.ld.lpoMoves.put (clockOk 4) 1 } := if_neg h
      rw [hreturns]
      exact ⟨s.ld.lpoMoves_linkUp, rfl, Logic.gb_put_one _ _ rfl rfl, s.ld.lpoMoves_mram⟩

theorem clockReturn_healthy (s : State) (src : Fin 7) (htold : s.told = true) (hsrc : src.val ≤ 4) :
    Answers (exec (.clockSourceReturn src) s) fun t => t.ld.gb (clockOk src) = true ∧ t.ld.mram = s.ld.mram := by
  obtain ⟨hlink, hout, hok, hmram⟩ := s.clockReturns_healthy hsrc
  exact answers_told (g := State.clockReturns src) htold hlink hout fun t hld _ => by rw [hld]; exact ⟨hok, hmram⟩

theorem State.autoReturn_both {u : State} (h0 : u.ld.gb (clockOk 0) = true) (h1 : u.ld.gb (clockOk 1) = true)
    (hauto : u.ld.gb F.CLOCK_CFG_AUTO_RESTORE = true) : u.autoReturn = u.undegrade := if_pos (by rw [h0, h1, hauto]; rfl)

theorem clockReturn_restores (s : State) (src : Fin 7) (htold : s.told = true) (hsrc : src.val ≤ 1)
    (hother : s.ld.gb (clockOk (1 - src)) = true) (hauto : s.ld.gb F.CLOCK_CFG_AUTO_RESTORE = true) :
    Answers (exec (.clockSourceReturn src) s) fun t => t.ld.gb F.CLOCK_SRCSTAT_DEGRADED = false := by
  have hreturns : s.clockReturns src = State.undegrade { s with ld := s.ld.put (clockOk src) 1 } := by
    have hfits : (clockOk src).fits = true := clockOk_fits (by omega)
    have hboth : (s.ld.put (clockOk src) 1).gb (clockOk src) = true ∧ (s.ld.put (clockOk src) 1).gb (clockOk (1 - src)) = true :=
      ⟨Logic.gb_put_one _ _ hfits rfl, (Logic.gb_put_clear _ _ _ _ hfits (Fld.clear_of_bits (by omega))).trans hother⟩
    have hcfg : (s.ld.put (clockOk src) 1).gb F.CLOCK_CFG_AUTO_RESTORE = true :=
      (Logic.gb_put_clear _ _ _ _ hfits (Fld.clear_of_home (by decide : regHome R.CLOCK_CFG ≠ regHome R.CLOCK_SRCSTAT))).trans hauto
    have hcases : src = 0 ∨ src = 1 := by omega
    rcases hcases with rfl | rfl
    · exact State.autoReturn_both hboth.1 hboth.2 hcfg
    · exact State.autoReturn_both hboth.2 hboth.1 hcfg
  obtain ⟨hkept, hover⟩ := State.undegrade_kept { s with ld := s.ld.put (clockOk src) 1 }
  refine answers_told (g := State.clockReturns src) htold ?_ ?_ fun t hld _ => ?_
  · rw [hreturns]
    exact hkept.linkUp
  · rw [hreturns]
    exact hkept.out
  · rw [hld, hreturns]
    exact hover

theorem freeRegister_clockCtl : FreeRegister R.CLOCK_CTL := freeRegister (by decide) fun _ _ => rfl

theorem clockRestore_restores (s : State) (ctr : Word) (htold : s.told = true) (ht : s.ld.takes ctr R.CLOCK_CTL 1#32)
    (hroot : s.ld.gb (clockOk 0) = true) (hpll : s.ld.gb (clockOk 1) = true) :
    Answers (exec (.clockRestore (some ctr)) s) fun t => t.ld.host.ferr = false ∧ t.ld.gb F.CLOCK_SRCSTAT_DEGRADED = false := by
  obtain ⟨x, -, hacts⟩ := State.wordFrame_acts ht freeRegister_clockCtl
  have hframed := s.ld.framed_framed x ctr
  have hferr := hframed.ferr
  have hboth : (s.ld.framed x ctr).gb (clockOk 0) = true ∧ (s.ld.framed x ctr).gb (clockOk 1) = true :=
    ⟨(hframed.gb (by decide)).trans hroot, (hframed.gb (by decide)).trans hpll⟩
  have hlink : (s.ld.framed x ctr).linkUp = s.ld.linkUp := rfl
  have hbooted : (s.ld.framed x ctr).boot = s.ld.boot := rfl
  generalize s.ld.framed x ctr = l at *
  have hact : ({ s with ld := l } : State).actWord x.role R.CLOCK_CTL 1#32 0#32 = (.done, State.undegrade { s with ld := l }) := by
    change State.clockRestore 1#32 { s with ld := l } = _
    unfold State.clockRestore
    rw [if_neg (by decide), if_neg (by simp only [hboth.1, hboth.2]; decide)]
    rfl
  obtain ⟨hkept, hover⟩ := State.undegrade_kept { s with ld := l }
  have hboot : (State.undegrade { s with ld := l }).ld.boot.logic ≠ 0 := by
    rw [hkept.boot, hbooted]
    exact Logic.answers_boot (Logic.serves_answers ht.1)
  have hframe := (hacts _ hact).trans (if_neg hboot)
  refine answers_told (g := fun s => s.wordFrame (some ctr) R.CLOCK_CTL 1#32) htold ?_ ?_ fun t hld _ => ?_
  · exact (congrArg (fun u : State => u.ld.linkUp) hframe).trans (hkept.linkUp.trans hlink)
  · exact (congrArg (fun u : State => u.fd.out) hframe).trans hkept.out
  · rw [hld, hframe]
    exact ⟨(congrArg HostRun.ferr hkept.host).trans hferr, hover⟩

/-! FCORE stops, and frequencies are measured (R359, R360). -/

/-- The logic die's view of a field die that resets alone, before its source FIELD_RESET. -/
def Logic.peerLost (l : Logic) : Logic :=
  ((({ l.cause 9 with bar := { l.bar with half := none, cmds := [], field := { peerReset := true }
                                          logic := { l.bar.logic with next := 0, got := 0, kept := [], again := [] } } } : Logic).put
    F.DEVICE_MODE_FIELD_CFG 0).evt R.pageDEVICE 2).evt R.pageBARRIER 4

theorem State.resetField_ld (s : State) : s.resetField.ld = if s.ld.peerLost.mode = .boot then s.ld.peerLost else s.ld.peerLost.fault 36 false := (rfl)

theorem Logic.peerLost_shown (l : Logic) : l.peerLost.g F.DEVICE_MODE_FIELD_CFG = 0 ∧ l.peerLost.raised = l.raised := by
  unfold Logic.peerLost
  refine ⟨?_, ?_⟩
  · rw [g_evt_clear _ _ _ _ (by decide) (by decide), g_evt_clear _ _ _ _ (by decide) (by decide), g_put_same _ _ _ rfl]
    rfl
  · rw [evt_raised, evt_raised, put_raised]
    rfl

theorem State.resetField_shown (s : State) : s.resetField.fd.released = false ∧ s.resetField.fd.cfg = [] ∧ s.resetField.fd.terms = [] ∧
    s.resetField.fd.out = [] ∧ s.resetField.ld.g F.DEVICE_MODE_FIELD_CFG = 0 ∧ ∀ e ∈ s.ld.raised, e ∈ s.resetField.ld.raised := by
  obtain ⟨hcfg, hraised⟩ := s.ld.peerLost_shown
  refine ⟨rfl, rfl, rfl, rfl, ?_, fun e he => ?_⟩ <;> rw [State.resetField_ld]
  · split
    · exact hcfg
    · exact hcfg
  · rw [← hraised] at he
    split
    · exact he
    · exact List.mem_append_left _ he

theorem fcoreStop_resets (s : State) (_ : s.told = true) :
    Answers (exec .fcoreStop s) fun t => t.fd.released = false ∧ t.fd.cfg = [] ∧ t.fd.terms = [] ∧ t.ld.g F.DEVICE_MODE_FIELD_CFG = 0 ∧
      ∃ e ∈ t.ld.raised, e.src = 7 := by
  obtain ⟨hreleased, hcfg, hterms, hout, hfield, hraised⟩ := State.resetField_shown (s.onLd fun l => l.fault 7 false)
  have htold : s.fcoreStop.told = true := by
    rw [State.told, State.fcoreStop, hout, List.all_nil, Bool.or_true]
  refine ⟨_, runBoth_next State.fcoreStop s, ?_⟩
  dsimp only
  rw [drain_ld_told _ htold, drain_fd_released, drain_fd_cfg, drain_fd_terms]
  exact ⟨hreleased, hcfg, hterms, hfield, _, hraised _ (List.mem_append_right _ (List.mem_singleton_self _)), rfl⟩

theorem freeRegister_fmeasCfg : FreeRegister R.CLOCK_FMEAS_CFG := freeRegister (by decide) fun _ _ => rfl

theorem wbit_or_go (w : Word) : wbit (w ||| 0x80000000#32) 31 = true := by
  change nbit (w ||| 0x80000000#32).toNat 31 = true
  rw [nbit_testBit, BitVec.toNat_or, Nat.testBit_or]
  exact (congrArg (w.toNat.testBit 31 || ·) (by decide : (0x80000000#32).toNat.testBit 31 = true)).trans (Bool.or_true _)

theorem fmeasGo_starts (s : State) (ctr w : Word) (htold : s.told = true) (ht : s.ld.takes ctr R.CLOCK_FMEAS_CFG (w ||| 0x80000000#32)) :
    Answers (exec (.fmeasGo (some ctr) w) s) fun t => t.ld.host.ferr = false ∧ t.ld.regs.word R.CLOCK_FMEAS_STAT = 1#32 := by
  refine answers_logicWord htold ht freeRegister_fmeasCfg fun x _ => ?_
  have hferr := (s.ld.framed_framed x ctr).ferr
  have hgo (l : Logic) : l.fmeasGo (w ||| 0x80000000#32) = l.putWord R.CLOCK_FMEAS_STAT 1#32 := if_pos (wbit_or_go w)
  refine ⟨((s.ld.framed x ctr).putWord R.CLOCK_FMEAS_CFG ((w ||| 0x80000000#32) &&& 0x001F0F0F#32)).fmeasGo (w ||| 0x80000000#32), rfl, ?_, ?_, fun t ht => ?_⟩
  · rw [hgo]
    rfl
  · rw [hgo]
    rfl
  · rw [ht, hgo]
    have hstat (l : Logic) : ((l.putWord R.CLOCK_FMEAS_STAT 1#32).frameError opWriteAuth []).regs.word R.CLOCK_FMEAS_STAT = 1#32 :=
      word_write_same l.regs R.CLOCK_FMEAS_STAT 1#32
    exact ⟨hferr, hstat _⟩

theorem fmeasDone_shown (s : State) (edges : Nat) (hbusy : s.ld.gb F.CLOCK_FMEAS_STAT_BUSY = true) :
    Answers (exec (.fmeasDone edges) s) fun t => t.ld.gb F.CLOCK_FMEAS_STAT_BUSY = false ∧ t.ld.gb F.CLOCK_FMEAS_STAT_DONE = true ∧
      t.ld.g F.CLOCK_FMEAS_RES_COUNT = min 0xFFFFFFFF edges ∧ t.ld.gb F.CLOCK_FMEAS_STAT_OVF = decide (2 ^ 32 ≤ edges) := by
  have hdone : s.ld.fmeasDone edges = ((((s.ld.put F.CLOCK_FMEAS_STAT_BUSY 0).put F.CLOCK_FMEAS_STAT_DONE 1).putb F.CLOCK_FMEAS_STAT_OVF
      (decide (2 ^ 32 ≤ edges))).put F.CLOCK_FMEAS_RES_COUNT (min 0xFFFFFFFF edges)).evt R.pageCLOCK 8 := if_pos hbusy
  refine ⟨_, runLogic_next (Logic.fmeasDone edges) s, ?_⟩
  dsimp only
  rw [hdone]
  generalize s.ld = l
  have hevt (l : Logic) (x : Fld) (hx : x.clear ⟨R.EVT_RAW R.pageCLOCK, 8, 1⟩ = true) : (l.evt R.pageCLOCK 8).g x = l.g x :=
    Logic.g_evt_clear _ _ _ _ (by decide) hx
  refine ⟨?_, ?_, ?_, ?_⟩
  · rw [Logic.gb_of_g (hevt _ _ (by decide)), Logic.gb_put_clear _ _ _ _ rfl (by decide), Logic.putb, Logic.gb_put_clear _ _ _ _ rfl (by decide),
      Logic.gb_put_clear _ _ _ _ rfl (by decide), Logic.gb_put_same _ _ rfl]
    rfl
  · rw [Logic.gb_of_g (hevt _ _ (by decide)), Logic.gb_put_clear _ _ _ _ rfl (by decide), Logic.putb, Logic.gb_put_clear _ _ _ _ rfl (by decide),
      Logic.gb_put_same _ _ rfl]
    rfl
  · rw [hevt _ _ (by decide), Logic.g_put_same _ _ _ rfl]
    exact Nat.mod_eq_of_lt (Nat.lt_of_le_of_lt (Nat.min_le_left ..) (by decide))
  · rw [Logic.gb_of_g (hevt _ _ (by decide)), Logic.gb_put_clear _ _ _ _ rfl (by decide), Logic.gb_putb_same _ _ rfl rfl]

/-- Settles O14: the clocks, row after row. -/
theorem clockRows : Obligations.ClockRows := by
  unfold Obligations.ClockRows
  exact ⟨clockFail_degrades, clockFail_resets, clockFail_other, hfrcFail_retires, lpoFail_shown, recoveredFail_shown, frcFail_shown,
    relock_returns, clockReturn_healthy, clockReturn_restores, clockRestore_restores, fcoreStop_resets, fmeasGo_starts, fmeasDone_shown⟩

end Sys2Proof.Machine
end

section
/-! What MRAM keeps beside the Loft's and the Larder's records: the bookkeeping, the modes, the blocks, the watchdog and the fault collector
leave it (R278, R311, R315, R376). `-implicitDefEqProofs` has simp record its steps, which the kernel would otherwise evaluate. -/

namespace Sys2Proof.Machine

open Sys2Proof

/-- MRAM without the records of the Loft and the Larder: the crate slots and their labels, FLOOR, BOOT_EPOCH, the keys and the marker. -/
def Mram.vault (m : Mram) : Mram := { m with loft := {}, larder := {} }

theorem Logic.SameBut.vault {a b : Logic} (h : a.SameBut b) : a.mram.vault = b.mram.vault := by
  rw [h.owner]
  rfl

namespace Logic

@[simp] theorem putb_mram (l : Logic) (x : Fld) (b : Bool) : (l.putb x b).mram = l.mram := rfl
@[simp] theorem log_mram (l : Logic) (c k p q r : Nat) : (l.log c k p q r).mram = l.mram := rfl
@[simp] theorem modPair_mram (h : PairRun → PairRun) (l : Logic) : (l.modPair h).mram = l.mram := rfl
@[simp] theorem modBar_mram (h : BarrierRun → BarrierRun) (l : Logic) : (l.modBar h).mram = l.mram := rfl
@[simp] theorem modBoot_mram (h : BootRun → BootRun) (l : Logic) : (l.modBoot h).mram = l.mram := rfl
@[simp] theorem loftKeep_vault (h : LoftStore → LoftStore) (l : Logic) : (l.loftKeep h).mram.vault = l.mram.vault := (rfl)
@[simp] theorem keep_mram (h : Mram → Mram) (l : Logic) : (l.keep h).mram = h l.mram := rfl
@[simp] theorem vault_larder (m : Mram) (k : LarderStore) : ({ m with larder := k } : Mram).vault = m.vault := rfl
@[simp] theorem vault_loft (m : Mram) (k : LoftStore) : ({ m with loft := k } : Mram).vault = m.vault := rfl

@[simp] theorem retire_vault (l : Logic) (k i c : Nat) (w j : Bool) : (l.retire k i c w j).mram.vault = l.mram.vault := (retire_same ..).vault
@[simp] theorem spareIn_vault (l : Logic) (k i : Nat) : (l.spareIn k i).mram.vault = l.mram.vault := (spareIn_same ..).vault

@[simp] theorem when_vault (c : Bool) (h : Logic → Logic) (l : Logic) (hh : ∀ l, (h l).mram.vault = l.mram.vault) :
    (l.when c h).mram.vault = l.mram.vault := by
  cases c
  · rfl
  · exact hh l

@[simp] theorem each_vault (ns : List Nat) (h : Nat → Logic → Logic) (l : Logic) (hh : ∀ n l, (h n l).mram.vault = l.mram.vault) :
    (l.each ns h).mram.vault = l.mram.vault := by
  induction ns generalizing l with
  | nil => rfl
  | cons n ns ih => exact (ih (h n l)).trans (hh n l)

@[simp] theorem foldl_vault {α : Type} (xs : List α) (h : Logic → α → Logic) (l : Logic) (hh : ∀ l x, (h l x).mram.vault = l.mram.vault) :
    (xs.foldl h l).mram.vault = l.mram.vault := by
  induction xs generalizing l with
  | nil => rfl
  | cons x xs ih => exact (ih (h l x)).trans (hh l x)

end Logic

namespace State

@[simp] theorem foldl_vault {α : Type} (xs : List α) (h : State → α → State) (s : State)
    (hh : ∀ s x, (h s x).ld.mram.vault = s.ld.mram.vault) : (xs.foldl h s).ld.mram.vault = s.ld.mram.vault := by
  induction xs generalizing s with
  | nil => rfl
  | cons x xs ih => exact (ih (h s x)).trans (hh s x)

@[simp] theorem onLd_vault (h : Logic → Logic) (s : State) (hh : ∀ l, (h l).mram.vault = l.mram.vault) :
    (s.onLd h).ld.mram.vault = s.ld.mram.vault := hh s.ld

@[simp] theorem onFd_ld (h : Field → Field) (s : State) : (s.onFd h).ld = s.ld := by
  unfold onFd
  split <;> rfl

end State

@[simp] theorem drain_vault (s : State) : (drain s).ld.mram.vault = s.ld.mram.vault := (drain_ld_same s).vault

/-! Modes, the Loft, blocks and the watchdog. -/

@[simp] theorem State.fcoreOn_vault (frc : Bool) (s : State) : (s.fcoreOn frc).ld.mram.vault = s.ld.mram.vault := by
  simp -implicitDefEqProofs [State.fcoreOn]

@[simp] theorem Logic.assertPlead_vault (l : Logic) : l.assertPlead.mram.vault = l.mram.vault := by
  simp -implicitDefEqProofs [Logic.assertPlead]

@[simp] theorem Logic.releasePlead_vault (other : Bool) (l : Logic) : (l.releasePlead other).mram.vault = l.mram.vault := by
  simp -implicitDefEqProofs [Logic.releasePlead]

@[simp] theorem Logic.cause_vault (bit : Nat) (l : Logic) : (l.cause bit).mram.vault = l.mram.vault := by
  simp -implicitDefEqProofs [Logic.cause]

@[simp] theorem State.resetField_vault (s : State) : s.resetField.ld.mram.vault = s.ld.mram.vault := by
  unfold State.resetField
  dsimp only
  split <;> simp -implicitDefEqProofs

@[simp] theorem localReset_vault (old : Nat) (s : State) : (localReset old s).ld.mram.vault = s.ld.mram.vault := by
  unfold localReset
  dsimp only
  split <;> simp -implicitDefEqProofs

@[simp] theorem State.hear_vault (s : State) : s.hear.ld.mram.vault = s.ld.mram.vault := by
  unfold State.hear
  dsimp only
  split <;> simp -implicitDefEqProofs

@[simp] theorem Logic.disapprove_vault (l : Logic) : l.disapprove.mram.vault = l.mram.vault := by
  unfold Logic.disapprove
  split <;> simp -implicitDefEqProofs

@[simp] theorem Logic.approve_vault (l : Logic) : l.approve.mram.vault = l.mram.vault := by
  unfold Logic.approve
  split <;> simp -implicitDefEqProofs

@[simp] theorem Logic.setMode_vault (m : Mode) (l : Logic) : (l.setMode m).mram.vault = l.mram.vault := by
  unfold Logic.setMode
  split <;> simp -implicitDefEqProofs

@[simp] theorem State.hold_vault (m : Mode) (s : State) : (s.hold m).ld.mram.vault = s.ld.mram.vault := by
  simp -implicitDefEqProofs [State.hold]

@[simp] theorem State.release_vault (m : Mode) (exit : Nat) (fresh : Bool) (s : State) :
    (s.release m exit fresh).ld.mram.vault = s.ld.mram.vault := by
  simp -implicitDefEqProofs [State.release]

@[simp] theorem State.beginHandover_vault (cause caught : Nat) (s : State) :
    (s.beginHandover cause caught).ld.mram.vault = s.ld.mram.vault := by
  simp -implicitDefEqProofs [State.beginHandover]

@[simp] theorem State.safe_vault (cause : Nat) (s : State) : (s.safe cause).ld.mram.vault = s.ld.mram.vault := by
  unfold State.safe
  dsimp only
  (repeat' split) <;> simp -implicitDefEqProofs

@[simp] theorem Logic.reset_vault (bit : Nat) (l : Logic) : (l.reset bit).mram.vault = l.mram.vault := by
  simp -implicitDefEqProofs [Logic.reset]

@[simp] theorem State.resetLogic_vault (bit : Nat) (s : State) : (s.resetLogic bit).ld.mram.vault = s.ld.mram.vault := by
  simp -implicitDefEqProofs [State.resetLogic]

@[simp] theorem State.resetBoth_vault (bit : Nat) (s : State) : (s.resetBoth bit).ld.mram.vault = s.ld.mram.vault := by
  simp -implicitDefEqProofs [State.resetBoth]

@[simp] theorem Logic.wdogCarry_vault (l : Logic) : l.wdogCarry.mram.vault = l.mram.vault := by
  unfold Logic.wdogCarry
  split <;> simp -implicitDefEqProofs

@[simp] theorem Logic.lpoMoves_vault (l : Logic) : l.lpoMoves.mram.vault = l.mram.vault := by
  simp -implicitDefEqProofs [Logic.lpoMoves]

@[simp] theorem State.deny_vault (reason : Nat) (s : State) : (s.deny reason).2.ld.mram.vault = s.ld.mram.vault := by
  simp -implicitDefEqProofs [State.deny]

@[simp] theorem State.did_vault (s : State) : s.did.2.ld.mram.vault = s.ld.mram.vault := by
  simp -implicitDefEqProofs [State.did]

@[simp] theorem Logic.countRefusal_vault (a reason : Nat) (l : Logic) : (l.countRefusal a reason).mram.vault = l.mram.vault := by
  simp -implicitDefEqProofs [Logic.countRefusal]

@[simp] theorem Logic.frameError_vault (opcode : Nat) (causes : List (Nat × Nat)) (l : Logic) :
    (l.frameError opcode causes).mram.vault = l.mram.vault := by
  unfold Logic.frameError
  split <;> simp -implicitDefEqProofs

@[simp] theorem Logic.loftDrop_vault (l : Logic) : l.loftDrop.mram.vault = l.mram.vault := by
  simp -implicitDefEqProofs [Logic.loftDrop]

@[simp] theorem Logic.showQueue_vault (l : Logic) : l.showQueue.mram.vault = l.mram.vault := by
  simp -implicitDefEqProofs [Logic.showQueue]

@[simp] theorem Logic.loftTake_vault (r : LoftReq) (l : Logic) : (l.loftTake r).mram.vault = l.mram.vault := by
  unfold Logic.loftTake
  split <;> simp -implicitDefEqProofs

@[simp] theorem Logic.loftRecord_vault (l : Logic) : l.loftRecord.mram.vault = l.mram.vault := by
  unfold Logic.loftRecord
  split <;> simp -implicitDefEqProofs

@[simp] theorem Logic.loftWrite_vault (r : LoftReq) (l : Logic) : (l.loftWrite r).mram.vault = l.mram.vault := by
  unfold Logic.loftWrite
  dsimp only
  split <;> simp -implicitDefEqProofs

@[simp] theorem Logic.loftWritten_vault (l : Logic) : l.loftWritten.mram.vault = l.mram.vault := by
  unfold Logic.loftWritten
  dsimp only
  (repeat' split) <;> simp -implicitDefEqProofs

@[simp] theorem Logic.loftCmd_vault (w : Word) (l : Logic) : (l.loftCmd w).2.mram.vault = l.mram.vault := by
  unfold Logic.loftCmd
  dsimp only
  (repeat' split) <;> simp -implicitDefEqProofs

@[simp] theorem Logic.loftChecked_vault (l : Logic) : l.loftChecked.mram.vault = l.mram.vault := by
  unfold Logic.loftChecked
  dsimp only
  (repeat' split) <;> simp -implicitDefEqProofs

@[simp] theorem Logic.loftCleared_vault (l : Logic) : l.loftCleared.mram.vault = l.mram.vault := by
  unfold Logic.loftCleared
  split <;> simp -implicitDefEqProofs

@[simp] theorem Logic.loftTorn_vault (intact : Bool) (l : Logic) : (l.loftTorn intact).mram.vault = l.mram.vault := by
  unfold Logic.loftTorn
  dsimp only
  (repeat' split) <;> simp -implicitDefEqProofs

@[simp] theorem State.setStatus_vault (page bit : Nat) (b : Bool) (s : State) : (s.setStatus page bit b).ld.mram.vault = s.ld.mram.vault := by
  unfold State.setStatus
  split <;> simp -implicitDefEqProofs

@[simp] theorem Logic.wdogAbandon_vault (l : Logic) : l.wdogAbandon.mram.vault = l.mram.vault := by
  simp -implicitDefEqProofs [Logic.wdogAbandon]

@[simp] theorem Logic.resetBlock_vault (page : Nat) (l : Logic) : (l.resetBlock page).mram.vault = l.mram.vault := by
  unfold Logic.resetBlock
  split <;> simp -implicitDefEqProofs

@[simp] theorem Logic.enable_vault (page : Nat) (l : Logic) : (l.enable page).mram.vault = l.mram.vault := by
  unfold Logic.enable
  dsimp only
  (repeat' split) <;> simp -implicitDefEqProofs

@[simp] theorem Logic.disable_vault (page : Nat) (l : Logic) : (l.disable page).mram.vault = l.mram.vault := by
  unfold Logic.disable
  dsimp only
  (repeat' split) <;> simp -implicitDefEqProofs

@[simp] theorem Logic.putRaw_vault (page : Nat) (v : Word) (l : Logic) : (l.putRaw page v).mram.vault = l.mram.vault := by
  unfold Logic.putRaw
  split <;> simp -implicitDefEqProofs

@[simp] theorem Logic.resetPage_vault (page : Nat) (l : Logic) : (l.resetPage page).mram.vault = l.mram.vault := by
  unfold Logic.resetPage
  split <;> simp -implicitDefEqProofs

@[simp] theorem Logic.idle_vault (page : Nat) (l : Logic) : (l.idle page).mram.vault = l.mram.vault := by
  unfold Logic.idle
  dsimp only
  split <;> simp -implicitDefEqProofs

@[simp] theorem Logic.takeCtrl_vault (page : Nat) (w : Word) (l : Logic) : (l.takeCtrl page w).mram.vault = l.mram.vault := by
  unfold Logic.takeCtrl
  split <;> simp -implicitDefEqProofs

@[simp] theorem State.resetPage_vault (page : Nat) (s : State) : (s.resetPage page).ld.mram.vault = s.ld.mram.vault := by
  unfold State.resetPage
  (repeat' split) <;> simp -implicitDefEqProofs

@[simp] theorem Logic.resetEnds_vault (page : Nat) (l : Logic) : (l.resetEnds page).mram.vault = l.mram.vault := by
  unfold Logic.resetEnds
  dsimp only
  (repeat' split) <;> simp -implicitDefEqProofs

@[simp] theorem Logic.shutdownDone_vault (page : Nat) (l : Logic) : (l.shutdownDone page).mram.vault = l.mram.vault := by
  unfold Logic.shutdownDone
  dsimp only
  (repeat' split) <;> simp -implicitDefEqProofs

@[simp] theorem Logic.wdogOpen_vault (first : Bool) (l : Logic) : (l.wdogOpen first).mram.vault = l.mram.vault := by
  simp -implicitDefEqProofs [Logic.wdogOpen]

@[simp] theorem Logic.wdogStop_vault (l : Logic) : l.wdogStop.mram.vault = l.mram.vault := by
  simp -implicitDefEqProofs [Logic.wdogStop]

@[simp] theorem Logic.wdogFirst_vault (l : Logic) : l.wdogFirst.mram.vault = l.mram.vault := by
  unfold Logic.wdogFirst
  split <;> simp -implicitDefEqProofs

@[simp] theorem Logic.wdogFinding_vault (bit src task : Nat) (inj : Bool) (l : Logic) :
    (l.wdogFinding bit src task inj).mram.vault = l.mram.vault := by
  simp -implicitDefEqProofs [Logic.wdogFinding]

@[simp] theorem Logic.wdogJudge_vault (t : Nat) (l : Logic) : (l.wdogJudge t).mram.vault = l.mram.vault := by
  unfold Logic.wdogJudge
  dsimp only
  (repeat' split) <;> simp -implicitDefEqProofs

@[simp] theorem Logic.checkIn_vault (t : Nat) (l : Logic) : (l.checkIn t).2.mram.vault = l.mram.vault := by
  unfold Logic.checkIn
  dsimp only
  (repeat' split) <;> simp -implicitDefEqProofs

@[simp] theorem Logic.wdogClose_vault (l : Logic) : l.wdogClose.mram.vault = l.mram.vault := by
  unfold Logic.wdogClose
  dsimp only
  (repeat' split) <;> simp -implicitDefEqProofs

@[simp] theorem Logic.wdogGrades_vault (l : Logic) : l.wdogGrades.mram.vault = l.mram.vault := by
  simp -implicitDefEqProofs [Logic.wdogGrades, apply_ite Logic.mram]

@[simp] theorem Logic.wdogRestart_vault (l : Logic) : l.wdogRestart.mram.vault = l.mram.vault := by
  unfold Logic.wdogRestart
  split <;> simp -implicitDefEqProofs

@[simp] theorem Logic.wdogTasks_vault (w : Word) (l : Logic) : (l.wdogTasks w).mram.vault = l.mram.vault := by
  unfold Logic.wdogTasks
  dsimp only
  split <;> simp -implicitDefEqProofs

@[simp] theorem Logic.wdogClockStop_vault (inj : Bool) (l : Logic) : (l.wdogClockStop inj).mram.vault = l.mram.vault := by
  unfold Logic.wdogClockStop
  split <;> simp -implicitDefEqProofs

@[simp] theorem Logic.wdogHalt_vault (l : Logic) : l.wdogHalt.mram.vault = l.mram.vault := by
  unfold Logic.wdogHalt
  split <;> simp -implicitDefEqProofs

@[simp] theorem Logic.wdogInject_vault (w : Word) (l : Logic) : (l.wdogInject w).mram.vault = l.mram.vault := by
  simp -implicitDefEqProofs [Logic.wdogInject]

/-! The fault collector. -/

@[simp] theorem Logic.countEvent_vault (e : FaultEv) (l : Logic) : (l.countEvent e).mram.vault = l.mram.vault := by
  simp -implicitDefEqProofs [Logic.countEvent]

@[simp] theorem Logic.faultRecord_vault (n i param reactions : Nat) (r : LoftReq) (l : Logic) :
    (l.faultRecord n i param reactions r).mram.vault = l.mram.vault := by
  simp -implicitDefEqProofs [Logic.faultRecord]

@[simp] theorem Logic.errpin_vault (i : Nat) (l : Logic) : (l.errpin i).mram.vault = l.mram.vault := by
  simp -implicitDefEqProofs [Logic.errpin]

@[simp] theorem State.react_vault (i bits : Nat) (severe : Bool) (s : State) : (s.react i bits severe).ld.mram.vault = s.ld.mram.vault := by
  unfold State.react
  split <;> simp -implicitDefEqProofs

theorem State.collect_vault (e : FaultEv) (x : State × ResetsDue) : (State.collect e x).1.ld.mram.vault = x.1.ld.mram.vault := by
  unfold State.collect
  dsimp only
  split <;> simp -implicitDefEqProofs

theorem State.collects_vault (es : List FaultEv) (x : State × ResetsDue) :
    (es.foldl (fun a e => State.collect e a) x).1.ld.mram.vault = x.1.ld.mram.vault := by
  induction es generalizing x with
  | nil => rfl
  | cons e es ih => exact (ih _).trans (State.collect_vault e x)

@[simp] theorem State.blockReset_vault (x : Nat × Nat) (s : State) : (s.blockReset x).ld.mram.vault = s.ld.mram.vault := by
  unfold State.blockReset
  dsimp only
  (repeat' split) <;> simp -implicitDefEqProofs

@[simp] theorem Logic.loftFlush_vault (l : Logic) : l.loftFlush.mram.vault = l.mram.vault := by
  simp -implicitDefEqProofs [Logic.loftFlush]

@[simp] theorem Logic.endHandling_vault (l : Logic) : l.endHandling.mram.vault = l.mram.vault := by
  simp -implicitDefEqProofs [Logic.endHandling]

@[simp] theorem State.chipResets_vault (due : ResetsDue) (s : State) : (s.chipResets due).ld.mram.vault = s.ld.mram.vault := by
  unfold State.chipResets
  dsimp only
  (repeat' split) <;> simp -implicitDefEqProofs

@[simp] theorem State.collectTick_vault (s : State) : s.collectTick.ld.mram.vault = s.ld.mram.vault := by
  unfold State.collectTick
  split
  · rfl
  · dsimp only
    rw [State.chipResets_vault, State.collects_vault]
    rfl

@[simp] theorem Logic.ackOne_vault (i : Nat) (l : Logic) : (l.ackOne i).mram.vault = l.mram.vault := by
  simp -implicitDefEqProofs [Logic.ackOne]

@[simp] theorem Logic.faultAck_vault (w : Word) (l : Logic) : (l.faultAck w).mram.vault = l.mram.vault := by
  unfold Logic.faultAck
  split <;> simp -implicitDefEqProofs

@[simp] theorem Logic.faultClear_vault (w : Word) (l : Logic) : (l.faultClear w).mram.vault = l.mram.vault := by
  simp -implicitDefEqProofs [Logic.faultClear]

@[simp] theorem Logic.errRelease_vault (w : Word) (l : Logic) : (l.errRelease w).mram.vault = l.mram.vault := by
  unfold Logic.errRelease
  split <;> simp -implicitDefEqProofs

@[simp] theorem Logic.minwEnds_vault (l : Logic) : l.minwEnds.mram.vault = l.mram.vault := by
  unfold Logic.minwEnds
  split <;> simp -implicitDefEqProofs

@[simp] theorem State.deliver_vault (late : Bool) (s : State) : (s.deliver late).ld.mram.vault = s.ld.mram.vault :=
  Logic.foldl_vault _ _ _ fun _ m => by cases m <;> rfl

@[simp] theorem State.deliverKept_vault (s : State) : s.deliverKept.ld.mram.vault = s.ld.mram.vault := by
  unfold State.deliverKept
  split <;> simp -implicitDefEqProofs

end Sys2Proof.Machine
end

section
/-! The Cellar: alarms at their grade, the SEC cores, self-tests, the entropy source, and zeroisation (R281-R294). -/

namespace Sys2Proof.Machine

open Sys2Proof

/-! Sessions end, and approved mode may (R284, R289). -/

/-- The registers that show it. -/
def sessionWords : List Nat := [R.STATUS R.pageCELLAR, R.EVT_RAW R.pageCELLAR, R.DEVICE_SESS_STAT, R.DEVICE_SESS_BOUND]

/-- What neither changes of the logic die. -/
structure Logic.CellarKept (t l : Logic) : Prop where
  word : ∀ {a}, regHome a ∉ sessionWords → t.regs.word a = l.regs.word a
  evts : ∀ {b}, b ≠ 3 → b ≠ 4 → t.gb ⟨R.EVT_RAW R.pageCELLAR, b, 1⟩ = l.gb ⟨R.EVT_RAW R.pageCELLAR, b, 1⟩
  stat : ∀ {b}, b ≠ 4 → t.gb (cellarStatus b) = l.gb (cellarStatus b)
  mram : t.mram = l.mram
  cellar : t.cellar = l.cellar
  time : t.time = l.time
  mode : t.mode = l.mode
  linkUp : t.linkUp = l.linkUp
  raised : t.raised = l.raised

namespace Logic.CellarKept

variable {t l m : Logic}

theorem refl (l : Logic) : l.CellarKept l := ⟨fun _ => rfl, fun _ _ => rfl, fun _ => rfl, rfl, rfl, rfl, rfl, rfl, rfl⟩

theorem trans (h : t.CellarKept l) (k : l.CellarKept m) : t.CellarKept m :=
  ⟨fun ha => (h.word ha).trans (k.word ha), fun h3 h4 => (h.evts h3 h4).trans (k.evts h3 h4), fun h4 => (h.stat h4).trans (k.stat h4),
    h.mram.trans k.mram, h.cellar.trans k.cellar, h.time.trans k.time, h.mode.trans k.mode, h.linkUp.trans k.linkUp, h.raised.trans k.raised⟩

theorem setSess (l : Logic) (x : SessionRun) : ({ l with sess := x } : Logic).CellarKept l :=
  ⟨fun _ => rfl, fun _ _ => rfl, fun _ => rfl, rfl, rfl, rfl, rfl, rfl, rfl⟩

/-- A word of another register than STATUS and EVT_RAW. -/
theorem of_word (hbare : t.bare = l.bare) (hraised : t.raised = l.raised) {x : Nat} (hx : regHome x ∈ sessionWords)
    (hstat : regHome (R.STATUS R.pageCELLAR) ≠ regHome x) (hevt : regHome (R.EVT_RAW R.pageCELLAR) ≠ regHome x)
    (hword : ∀ {a}, regHome a ≠ regHome x → t.regs.word a = l.regs.word a) : t.CellarKept l :=
  ⟨fun ha => hword fun e => ha (e ▸ hx), fun {b} _ _ => Logic.gb_of_g (congrArg (wbits · b 1) (hword hevt)),
    fun {b} _ => Logic.gb_of_g (congrArg (wbits · b 1) (hword hstat)), Logic.of_bare Logic.mram hbare, Logic.of_bare Logic.cellar hbare,
    Logic.of_bare Logic.time hbare, Logic.of_bare Logic.mode hbare, Logic.of_bare Logic.linkUp hbare, hraised⟩

/-- An event of these bits. -/
theorem evt (l : Logic) {b : Nat} (hb : b = 3 ∨ b = 4) (q : Nat) (i u : Bool) : (l.evt R.pageCELLAR b q i u).CellarKept l := by
  have hbare : (l.evt R.pageCELLAR b q i u).bare = l.bare := Logic.bare_evt ..
  have hclear {c : Nat} (h3 : c ≠ 3) (h4 : c ≠ 4) : Fld.clear ⟨R.EVT_RAW R.pageCELLAR, c, 1⟩ ⟨R.EVT_RAW R.pageCELLAR, b, 1⟩ = true :=
    Fld.clear_of_bits (by omega)
  refine ⟨fun ha => Logic.word_evt_other _ _ _ _ fun e => ha ?_, fun h3 h4 => ?_, fun _ => ?_, Logic.of_bare Logic.mram hbare,
    Logic.of_bare Logic.cellar hbare, Logic.of_bare Logic.time hbare, Logic.of_bare Logic.mode hbare, Logic.of_bare Logic.linkUp hbare,
    Logic.evt_raised ..⟩
  · rw [e]
    decide
  · exact Logic.gb_of_g (Logic.g_evt_clear _ _ _ _ (by omega) (hclear h3 h4))
  · exact Logic.gb_of_g (Logic.g_evt_clear _ _ _ _ (by omega) (Fld.clear_of_home (by decide :
      regHome (R.STATUS R.pageCELLAR) ≠ regHome (R.EVT_RAW R.pageCELLAR))))

theorem sendPartner (l : Logic) (k : PFrame) : (l.sendPartner k).CellarKept l := by
  unfold Logic.sendPartner
  cases l.gb F.PAIR_STAT_READY && decide (l.pair.queue.length < 64)
  · exact .refl l
  · exact ⟨fun _ => rfl, fun _ _ => rfl, fun _ => rfl, rfl, rfl, rfl, rfl, rfl, rfl⟩

theorem when {c : Bool} {h : Logic → Logic} (hh : ∀ l, (h l).CellarKept l) (l : Logic) : (l.when c h).CellarKept l := by
  cases c
  · exact .refl l
  · exact hh l

theorem approved (l : Logic) (v : Nat) : (l.put approvedBit v).CellarKept l :=
  ⟨fun ha => l.word_put_other v fun e => ha (by rw [e]; decide),
    fun {b} _ _ => Logic.gb_of_g (congrArg (wbits · b 1) (l.word_put_other (a := R.EVT_RAW R.pageCELLAR) v (by decide))),
    fun h4 => Logic.gb_put_clear l _ _ v rfl (Fld.clear_of_bits h4), rfl, rfl, rfl, rfl, rfl, rfl⟩

theorem disapprove (l : Logic) : l.disapprove.CellarKept l := by
  unfold Logic.disapprove
  split
  · exact (evt _ (.inr rfl) _ _ _).trans (approved l 0)
  · exact .refl l

theorem noWarning (l : Logic) : (l.put F.DEVICE_SESS_STAT_REKEY_WARN 0).CellarKept l :=
  of_word (x := R.DEVICE_SESS_STAT) (Logic.bare_put ..) rfl (by decide) (by decide) (by decide) fun ha => Logic.word_put_other l 0 ha

theorem noBound (l : Logic) : (l.putWord R.DEVICE_SESS_BOUND 0#32).CellarKept l :=
  of_word (x := R.DEVICE_SESS_BOUND) (Logic.bare_putWord ..) rfl (by decide) (by decide) (by decide) fun ha => (word_write_other l.regs 0#32 ha :)

theorem endSessions (l : Logic) : l.endSessions.CellarKept l := by
  unfold Logic.endSessions
  refine (when (fun l => ?_) _).trans ?_
  · exact (when (sendPartner · (.state none)) _).trans (evt l (.inl rfl) _ _ _)
  · exact (noBound _).trans ((noWarning _).trans (setSess l _))

end Logic.CellarKept

theorem Logic.endSessions_sess (l : Logic) : l.endSessions.sess = { l.sess with cur := none, old := none, hand := none } := by
  have hsend (l : Logic) (k : PFrame) : (l.sendPartner k).sess = l.sess := (Logic.sendPartner_same k l).sess
  unfold Logic.endSessions Logic.when
  dsimp only
  split
  · split
    · rw [hsend, Logic.evt_sess, Logic.putWord_sess, Logic.put_sess]
    · rw [Logic.evt_sess, Logic.putWord_sess, Logic.put_sess]
  · rw [Logic.putWord_sess, Logic.put_sess]

theorem Logic.disapprove_sess (l : Logic) : l.disapprove.sess = l.sess := by
  unfold Logic.disapprove
  split
  · rw [Logic.evt_sess, Logic.put_sess]
  · rfl

/-! Alarms (R287, R289). -/

/-- ALARM and its count are the registers that an alarm writes. -/
theorem Logic.showAlarm_kept (det grade : Nat) (inj : Bool) (l : Logic) : (l.showAlarm det grade inj).bare = l.bare ∧
    (l.showAlarm det grade inj).raised = l.raised ∧ (l.showAlarm det grade inj).regs.word R.CELLAR_ALARM = word (alarmWord det grade inj) ∧
    ∀ a, regHome a ≠ R.CELLAR_ALARM → regHome a ≠ R.CELLAR_ALARMCNT → (l.showAlarm det grade inj).regs.word a = l.regs.word a := by
  have hbump (m : Logic) {a : Nat} (ha : regHome a ≠ R.CELLAR_ALARMCNT) : (m.bump ⟨R.CELLAR_ALARMCNT, 8 * grade, 8⟩).regs.word a = m.regs.word a :=
    m.word_put_other _ ha
  unfold Logic.showAlarm
  refine ⟨by rw [bare_bump, bare_putWord], rfl, ?_, fun a hone hcnt => ?_⟩
  · exact (hbump _ (by decide)).trans (word_write_same ..)
  · exact (hbump _ hcnt).trans (word_write_other _ _ hone)

/-- The logic die as a detector that fires hands it to its alarm. -/
def Logic.detected (d : Nat) (holds : Bool) (l : Logic) : Logic :=
  if d = 9 then { l.firing d holds with cellar := { (l.firing d holds).cellar with authTimes := [] } }
  else if d = 6 then { l.firing d holds with cellar := { (l.firing d holds).cellar with tagTimes := [] } }
  else l.firing d holds

theorem Logic.detected_kept (d : Nat) (holds : Bool) (l : Logic) : (l.detected d holds).regs = (l.putb ⟨R.CELLAR_DETSTAT, d, 1⟩ holds).regs ∧
    (l.detected d holds).sess = l.sess ∧ (l.detected d holds).mram = l.mram ∧ (l.detected d holds).time = l.time ∧
    (l.detected d holds).mode = l.mode ∧ (l.detected d holds).linkUp = l.linkUp := by
  unfold Logic.detected
  split
  · exact ⟨rfl, rfl, rfl, rfl, rfl, rfl⟩
  · split <;> exact ⟨rfl, rfl, rfl, rfl, rfl, rfl⟩

/-- A detector that is on gives its alarm at its grade. -/
theorem State.tamper_alarms {s : State} {d : Nat} {holds : Bool} (hd : d ≠ 10) (hon : s.ld.detectorOn d = true) :
    s.tamper d holds = State.alarm d (s.ld.detGrade d) false { s with ld := s.ld.detected d holds } := by
  have hword {a : Nat} (ha : regHome a ≠ R.CELLAR_DETSTAT) : (s.ld.firing d holds).regs.word a = s.ld.regs.word a :=
    s.ld.word_put_other (x := ⟨R.CELLAR_DETSTAT, d, 1⟩) _ ha
  have hstays : (s.ld.firing d holds).detectorOn d = true := by
    have hpolicy {x : Fld} (hx : x.addr = R.CELLAR_POLICY) : (s.ld.firing d holds).gb x = s.ld.gb x :=
      Logic.gb_of_g (congrArg (wbits · x.lo x.len) (hword (by rw [hx]; decide)))
    rw [← hon, Logic.detectorOn, Logic.detectorOn, hpolicy rfl, hpolicy rfl]
  have hgrade : (s.ld.firing d holds).detGrade d = s.ld.detGrade d := congrArg (wbits · (2 * d) 2) (hword (a := R.CELLAR_GRADE) (by decide))
  have hdetector : (s.onLd (Logic.firing d holds)).detector d false =
      State.detectorAt d (s.ld.detGrade d) false (s.onLd (Logic.firing d holds)) := by
    rw [← hgrade]
    exact if_pos hstays
  rw [State.tamper, if_pos hon, hdetector, State.detectorAt, if_neg hd]
  rfl

theorem fits_detstat {d : Nat} (hd : d < 32) : (Fld.mk R.CELLAR_DETSTAT d 1).fits = true := decide_eq_true (Nat.succ_le_of_lt hd)

theorem detector_notices (s : State) (d : Fin 11) (holds : Bool) (htold : s.told = true) (hd : d.val ≠ 10) (hon : s.ld.detectorOn d = true)
    (hgrade : s.ld.detGrade d = 0) :
    Answers (exec (.tamperDetectorFires d holds) s) fun t => t.ld.gb ⟨R.CELLAR_DETSTAT, d, 1⟩ = holds ∧
      t.ld.regs.word R.CELLAR_ALARM = word (alarmWord d 0 false) ∧ t.ld.gb ⟨R.EVT_RAW R.pageCELLAR, 0, 1⟩ = true ∧ t.ld.sess = s.ld.sess ∧
      t.ld.mram = s.ld.mram := by
  have halarm : s.tamper d holds =
      { s with ld := ((s.ld.detected d holds).showAlarm d 0 false).evt R.pageCELLAR 0 (alarmWord d 0 false) } := by
    rw [State.tamper_alarms hd hon, hgrade]
    rfl
  obtain ⟨hregs, hsess, hmram, -, -, hlink⟩ := s.ld.detected_kept d holds
  have hstat : (s.ld.detected d holds).gb ⟨R.CELLAR_DETSTAT, d, 1⟩ = holds := by
    rw [Logic.gb_of_g (Logic.g_of_regs hregs _)]
    exact Logic.gb_putb_same _ _ (fits_detstat (by omega)) rfl
  generalize s.ld.detected d holds = l at *
  obtain ⟨hbare, -, hshown, hother⟩ := l.showAlarm_kept d 0 false
  generalize l.showAlarm d 0 false = m at *
  have hevt := m.bare_evt R.pageCELLAR 0 (alarmWord d 0 false) false false
  refine answers_told (g := State.tamper d holds) htold ?_ (by rw [halarm]) fun t hld _ => ?_
  · rw [halarm]
    exact (Logic.of_bare Logic.linkUp (hevt.trans hbare)).trans hlink
  · rw [hld, halarm]
    refine ⟨?_, ?_, ?_, ?_, ?_⟩
    · rw [← hstat]
      refine Logic.gb_of_g (congrArg (wbits · d 1) ?_)
      exact (Logic.word_evt_other _ _ _ _ (a := R.CELLAR_DETSTAT) (by decide)).trans (hother R.CELLAR_DETSTAT (by decide) (by decide))
    · exact (Logic.word_evt_other _ _ _ _ (by decide)).trans hshown
    · exact Logic.gb_evt_same _ _ _ _ (by decide)
    · exact (Logic.of_bare Logic.sess (hevt.trans hbare)).trans hsess
    · exact (Logic.of_bare Logic.mram (hevt.trans hbare)).trans hmram

/-- A GUARD holds new sessions off for a second at least. -/
theorem Logic.holdOff_kept (l : Logic) : l.holdOff.regs = l.regs ∧ l.holdOff.sess = l.sess ∧ l.holdOff.mram = l.mram ∧ l.holdOff.linkUp = l.linkUp ∧
    l.holdOff.mode = l.mode ∧ l.holdOff.raised = l.raised ∧ l.holdOff.cellar.mismatchAt = l.cellar.mismatchAt ∧
    ∃ u, l.holdOff.cellar.hold = some u ∧ l.time + 24576000 ≤ u := by
  refine ⟨rfl, rfl, rfl, rfl, rfl, rfl, rfl, _, rfl, ?_⟩
  have hpow (k : Nat) : 24576000 ≤ 2 ^ k * secondTicks := Nat.le_mul_of_pos_left _ (Nat.two_pow_pos k)
  exact Nat.add_le_add_left (hpow _) _

/-- What a GUARD shows. -/
structure Logic.Guarded (det : Nat) (t l : Logic) : Prop where
  alarm : t.regs.word R.CELLAR_ALARM = word (alarmWord det 1 false)
  event : t.gb ⟨R.EVT_RAW R.pageCELLAR, 1, 1⟩ = true
  evts : ∀ {b}, b ≠ 1 → b ≠ 3 → b ≠ 4 → t.gb ⟨R.EVT_RAW R.pageCELLAR, b, 1⟩ = l.gb ⟨R.EVT_RAW R.pageCELLAR, b, 1⟩
  stat : ∀ {b}, b ≠ 4 → t.gb (cellarStatus b) = l.gb (cellarStatus b)
  sess : t.sess = { l.sess with cur := none, old := none, hand := none }
  hold : ∃ u, t.cellar.hold = some u ∧ l.time + 24576000 ≤ u
  mismatch : t.cellar.mismatchAt = l.cellar.mismatchAt
  mram : t.mram = l.mram
  linkUp : t.linkUp = l.linkUp

/-- It raises its fault beside. -/
theorem Logic.guard_shown (det : Nat) (l : Logic) (sec : Bool) : (l.guard det false sec).Guarded det l := by
  obtain ⟨hbare, -, hshown, hother⟩ := l.showAlarm_kept det 1 false
  have hraises (m : Logic) (h : m.Guarded det l) :
      (if sec = true then m.fault 17 true det false else m.when (m.mode != .boot) (Logic.fault 56 false (param := det) (inj := false))).Guarded det l := by
    obtain ⟨h1, h2, h3, h4, h5, h6, h7, h8, h9⟩ := h
    unfold Logic.when
    repeat' split
    all_goals exact ⟨h1, h2, h3, h4, h5, h6, h7, h8, h9⟩
  refine hraises _ ?_
  have hevt := (l.showAlarm det 1 false).bare_evt R.pageCELLAR 1 (alarmWord det 1 false) false false
  have hmark := (l.showAlarm det 1 false).gb_evt_same (p := R.pageCELLAR) (b := 1) (alarmWord det 1 false) false false (by decide)
  have hword {a : Nat} (ha : regHome a ≠ regHome (R.EVT_RAW R.pageCELLAR)) :
      ((l.showAlarm det 1 false).evt R.pageCELLAR 1 (alarmWord det 1 false) false).regs.word a = (l.showAlarm det 1 false).regs.word a :=
    Logic.word_evt_other _ _ _ _ ha
  have hevts {b : Nat} (hb : b ≠ 1) : ((l.showAlarm det 1 false).evt R.pageCELLAR 1 (alarmWord det 1 false) false).gb ⟨R.EVT_RAW R.pageCELLAR, b, 1⟩ =
      (l.showAlarm det 1 false).gb ⟨R.EVT_RAW R.pageCELLAR, b, 1⟩ := Logic.gb_of_g (Logic.g_evt_clear _ _ _ _ (by decide) (Fld.clear_of_bits hb))
  generalize l.showAlarm det 1 false = m at *
  generalize m.evt R.pageCELLAR 1 (alarmWord det 1 false) false = n at *
  have hall := hevt.trans hbare
  have hends := Logic.CellarKept.endSessions n
  have hsess := n.endSessions_sess
  obtain ⟨hregs, hsess', hmram, hlink, -, -, hmismatch, hhold⟩ := n.endSessions.holdOff_kept
  have hgb (x : Fld) : n.endSessions.holdOff.gb x = n.endSessions.gb x := Logic.gb_of_g (Logic.g_of_regs hregs x)
  refine ⟨?_, ?_, fun h1 h3 h4 => ?_, fun {b} h4 => ?_, ?_, ?_, ?_, ?_, ?_⟩
  · rw [hregs, hends.word (by decide), hword (by decide), hshown]
  · rw [hgb, hends.evts (by decide) (by decide), hmark]
  · rw [hgb, hends.evts h3 h4, hevts h1]
    exact Logic.gb_of_g (congrArg (wbits · _ 1) (hother (R.EVT_RAW R.pageCELLAR) (by decide) (by decide)))
  · rw [hgb, hends.stat h4]
    exact Logic.gb_of_g (congrArg (wbits · b 1)
      ((hword (a := R.STATUS R.pageCELLAR) (by decide)).trans (hother (R.STATUS R.pageCELLAR) (by decide) (by decide))))
  · rw [hsess', hsess, Logic.of_bare Logic.sess hall]
  · rw [← Logic.of_bare Logic.time hall, ← hends.time]
    exact hhold
  · rw [hmismatch, hends.cellar, Logic.of_bare Logic.cellar hall]
  · rw [hmram, hends.mram, Logic.of_bare Logic.mram hall]
  · rw [hlink, hends.linkUp, Logic.of_bare Logic.linkUp hall]

theorem detector_guards (s : State) (d : Fin 11) (holds : Bool) (htold : s.told = true) (hd : d.val ≠ 10) (hon : s.ld.detectorOn d = true)
    (hgrade : s.ld.detGrade d = 1) :
    Answers (exec (.tamperDetectorFires d holds) s) fun t => t.ld.regs.word R.CELLAR_ALARM = word (alarmWord d 1 false) ∧
      t.ld.gb ⟨R.EVT_RAW R.pageCELLAR, 1, 1⟩ = true ∧ t.ld.sess.cur = none ∧ t.ld.sess.hand = none ∧
      (∃ u, t.ld.cellar.hold = some u ∧ s.ld.time + 24576000 ≤ u) ∧ t.ld.mram = s.ld.mram := by
  have halarm : s.tamper d holds = { s with ld := (s.ld.detected d holds).guard d false } := by
    rw [State.tamper_alarms hd hon, hgrade]
    rfl
  obtain ⟨-, -, hmram, htime, -, hlink⟩ := s.ld.detected_kept d holds
  have hguard := (s.ld.detected d holds).guard_shown d (d.val == 10)
  refine answers_told (g := State.tamper d holds) htold ?_ (by rw [halarm]) fun t hld _ => ?_
  · rw [halarm]
    exact hguard.linkUp.trans hlink
  · rw [hld, halarm]
    refine ⟨hguard.alarm, hguard.event, ?_, ?_, ?_, hguard.mram.trans hmram⟩
    · exact congrArg SessionRun.cur hguard.sess
    · exact congrArg SessionRun.hand hguard.sess
    · rw [← htime]
      exact hguard.hold

/-! PURGE and GRAVE (R289, R292, R294). -/

@[simp] theorem State.collectAll_vault (s : State) : s.collectAll.ld.mram.vault = s.ld.mram.vault := by
  have hfold (ks : List Nat) (u : State) : (ks.foldl (fun u _ => u.collectTick) u).ld.mram.vault = u.ld.mram.vault := by
    induction ks generalizing u with
    | nil => rfl
    | cons _ _ ih => exact (ih _).trans u.collectTick_vault
  exact hfold _ s

/-- What a PURGE or GRAVE leaves of MRAM's keys. -/
structure Mram.Erased (grade : Nat) (m was : Mram) : Prop where
  owner : m.owner = none
  pairKey : m.pairKey = none
  keys : m.keys = []
  marker : ∃ k, m.marker = some k ∧ k.grade = max grade ((was.marker.map (·.grade)).getD 0)
  puf : m.puf = (was.puf && grade != 3)
  floor : m.floor = was.floor

theorem Mram.Erased.of_vault {grade : Nat} {m n was : Mram} (h : n.Erased grade was) (hvault : m.vault = n.vault) : m.Erased grade was := by
  obtain ⟨howner, hpair, hkeys, ⟨k, hmarker, hgrade⟩, hpuf, hfloor⟩ := h
  exact ⟨(congrArg Mram.owner hvault :).trans howner, (congrArg Mram.pairKey hvault :).trans hpair, (congrArg Mram.keys hvault :).trans hkeys,
    ⟨k, (congrArg Mram.marker hvault :).trans hmarker, hgrade⟩, (congrArg Mram.puf hvault :).trans hpuf,
    (congrArg Mram.floor hvault :).trans hfloor⟩

theorem Logic.lockout_erases (grade : Nat) (l : Logic) : (l.lockout grade).mram.Erased grade l.mram := by
  have hends (m : Logic) : ((m.put (cellarStatus 5) 0).endSessions.disapprove).mram = m.mram :=
    (Logic.CellarKept.disapprove _).mram.trans (Logic.CellarKept.endSessions _).mram
  have hid (m : Logic) : (m.when (grade == 3) (Logic.put cellarIdOk 0)).mram = m.mram := by
    cases h : grade == 3 <;> rfl
  unfold Logic.lockout
  dsimp only
  rw [hends, hid]
  refine ⟨rfl, rfl, rfl, ⟨_, rfl, ?_⟩, rfl, rfl⟩
  cases l.mram.marker with
  | none => exact Nat.max_comm ..
  | some k => exact Nat.max_comm ..

/-- The logic die resets alone once the keys are erased. -/
theorem State.purge_resets {s : State} {det grade : Nat} {inj : Bool} (hboot : s.ld.mode ≠ .boot) (hlock : s.ld.mode ≠ .lockout) :
    ∃ u : State, s.purge det grade inj = u.resetLogic 6 ∧ u.ld.mram.Erased grade s.ld.mram := by
  have hnot : ¬(s.ld.mode = .boot ∨ s.ld.mode = .lockout) := not_or.mpr ⟨hboot, hlock⟩
  have halarm := (s.ld.showAlarm_kept det grade inj).1
  have hmode := Logic.of_bare Logic.mode halarm
  have hmram := Logic.of_bare Logic.mram halarm
  unfold State.purge
  dsimp only
  generalize s.ld.showAlarm det grade inj = l at *
  generalize hrec : l.record _ = m
  have hmode' : (m.when (m.mode != .boot) fun l => l.fault 57 true det inj).mode = s.ld.mode := by
    rw [← hmode, ← hrec]
    unfold Logic.when
    split <;> rfl
  have hmram' : (m.when (m.mode != .boot) fun l => l.fault 57 true det inj).mram = s.ld.mram := by
    rw [← hmram, ← hrec]
    unfold Logic.when
    split <;> rfl
  generalize m.when (m.mode != .boot) (fun l => l.fault 57 true det inj) = n at *
  rw [hmode', if_neg hnot]
  refine ⟨_, rfl, .of_vault (hmram' ▸ n.lockout_erases grade) ?_⟩
  change (State.collectAll _).ld.loftFlush.mram.vault = _
  rw [Logic.loftFlush_vault, State.collectAll_vault]

/-- So what it leaves is what stands after the step. -/
theorem State.purge_leaves {s u : State} {det grade : Nat} {inj : Bool} (hboot : s.ld.mode ≠ .boot) (hlock : s.ld.mode ≠ .lockout)
    (hu : u = s.purge det grade inj) : u.ld.mram.Erased grade s.ld.mram ∧ u.ld.mode = .boot ∧ u.ld.linkUp = false ∧ u.ld.sess.cur = none ∧
      u.ld.boot = {} ∧ u.ld.gb ⟨R.DEVICE_RSTCAUSE, 6, 1⟩ = true := by
  obtain ⟨v, hv, herased⟩ := State.purge_resets (det := det) (grade := grade) (inj := inj) hboot hlock
  obtain ⟨hmode, hlink, hcause, -, -⟩ := v.resetLogic_shown (bit := 6) (by decide)
  rw [hu, hv]
  exact ⟨herased.of_vault (v.resetLogic_vault 6), hmode, hlink, rfl, rfl, hcause⟩

theorem detector_purges (s : State) (d : Fin 11) (holds : Bool) (hd : d.val ≠ 10) (hon : s.ld.detectorOn d = true)
    (hgrade : 2 ≤ s.ld.detGrade d) (hboot : s.ld.mode ≠ .boot) (hlock : s.ld.mode ≠ .lockout) :
    Answers (exec (.tamperDetectorFires d holds) s) fun t => t.ld.mram.owner = none ∧ t.ld.mram.pairKey = none ∧ t.ld.mram.keys = [] ∧
      t.ld.mram.marker.isSome = true ∧ t.ld.mode = .boot ∧ t.ld.sess.cur = none ∧ t.ld.gb ⟨R.DEVICE_RSTCAUSE, 6, 1⟩ = true := by
  have halarm : s.tamper d holds = ({ s with ld := s.ld.detected d holds } : State).purge d (s.ld.detGrade d) false := by
    rw [State.tamper_alarms hd hon]
    match s.ld.detGrade d, hgrade with
    | _ + 2, _ => rfl
  obtain ⟨-, -, -, -, hmode, -⟩ := s.ld.detected_kept d holds
  obtain ⟨herased, hmode', hlink, hsess, -, hcause⟩ := State.purge_leaves (hmode ▸ hboot) (hmode ▸ hlock) halarm
  obtain ⟨k, hmarker, -⟩ := herased.marker
  refine ⟨_, runBoth_next .., ?_⟩
  dsimp only
  rw [drain_ld_down _ hlink]
  exact ⟨herased.owner, herased.pairKey, herased.keys, Option.isSome_iff_exists.mpr ⟨k, hmarker⟩, hmode', hsess, hcause⟩

theorem freeRegister_zeroise : FreeRegister R.CELLAR_ZEROISE := freeRegister (by decide) fun _ _ => rfl

/-- ZEROISE with its key (R294), which ends with the logic die in reset. -/
theorem zeroise_leaves {s : State} {ctr w : Word} {grade : Nat} (ht : s.ld.takes ctr R.CELLAR_ZEROISE w)
    (hact : ∀ u : State, u.zeroise w = (u.purge 15 grade false).did) :
    Answers (runBoth (State.wordFrame (some ctr) R.CELLAR_ZEROISE w) s) fun t => t.ld.mram.Erased grade s.ld.mram ∧ t.ld.mode = .boot ∧
      t.ld.sess.cur = none ∧ t.ld.boot = {} ∧ t.ld.gb ⟨R.DEVICE_RSTCAUSE, 6, 1⟩ = true := by
  obtain ⟨x, -, hacts⟩ := State.wordFrame_acts ht freeRegister_zeroise
  have hserves := ht.1
  have hmode : (s.ld.framed x ctr).mode = s.ld.mode := rfl
  have hmram : (s.ld.framed x ctr).mram = s.ld.mram := rfl
  generalize s.ld.framed x ctr = l at *
  have hruns : s.ld.mode ≠ .boot ∧ s.ld.mode ≠ .lockout := by
    constructor <;> intro hm <;> simp [Logic.serves, hm] at hserves
  obtain ⟨herased, hmode', hlink, hsess, hbooted, hcause⟩ := State.purge_leaves (s := { s with ld := l }) (det := 15) (grade := grade)
    (inj := false) (hmode ▸ hruns.1) (hmode ▸ hruns.2) rfl
  have hframe := (hacts _ (hact { s with ld := l })).trans (if_pos (congrArg BootRun.logic hbooted))
  refine ⟨_, runBoth_next .., ?_⟩
  dsimp only
  rw [hframe, drain_ld_down _ hlink]
  exact ⟨hmram ▸ herased, hmode', hsess, hbooted, hcause⟩

/-! SEC mismatches, tests, the entropy source and the enrolment window. -/

/-- CELLAR.STATUS as a mismatch of the SEC pair shows it (R291). -/
def Logic.secHalted (l : Logic) : Logic := ((l.put cellarSecOk 0).put cellarHalted 1).evt R.pageCELLAR 6

theorem Logic.secHalted_shown (l : Logic) : l.secHalted.gb cellarHalted = true ∧ l.secHalted.gb cellarSecOk = false ∧
    l.secHalted.gb ⟨R.EVT_RAW R.pageCELLAR, 6, 1⟩ = true ∧ l.secHalted.bare = l.bare := by
  have hstat (m : Logic) (b : Nat) : (m.evt R.pageCELLAR 6).gb (cellarStatus b) = m.gb (cellarStatus b) :=
    Logic.gb_of_g (Logic.g_evt_clear m _ _ _ (by decide) (Fld.clear_of_home (by decide :
      regHome (R.STATUS R.pageCELLAR) ≠ regHome (R.EVT_RAW R.pageCELLAR))))
  refine ⟨?_, ?_, Logic.gb_evt_same _ _ _ _ (by decide), ?_⟩
  · exact (hstat _ 10).trans (Logic.gb_put_one _ _ (by decide) rfl)
  · exact (hstat _ 9).trans ((Logic.gb_put_clear _ cellarSecOk cellarHalted 1 (by decide) (by decide)).trans
      ((Logic.gb_eq ..).trans (congrArg (· != 0) (Logic.g_put_same l cellarSecOk 0 (by decide)))))
  · exact Logic.bare_evt ..

/-- DETSTAT is the register that a detector's condition shows in. -/
theorem Logic.firing_kept (d : Nat) (holds : Bool) (l : Logic) : (l.firing d holds).sess = l.sess ∧ (l.firing d holds).linkUp = l.linkUp ∧
    (l.firing d holds).cellar.mismatchAt = l.cellar.mismatchAt ∧
    ∀ {x : Fld}, regHome x.addr ≠ R.CELLAR_DETSTAT → (l.firing d holds).gb x = l.gb x :=
  ⟨rfl, rfl, rfl, fun {x} hx => Logic.gb_of_g (congrArg (wbits · x.lo x.len)
    (l.word_put_other (x := ⟨R.CELLAR_DETSTAT, d, 1⟩) (b2n holds) hx))⟩

theorem secMismatch_halts (s : State) (htold : s.told = true) :
    Answers (exec .secMismatch s) fun t => t.ld.gb cellarHalted = true ∧ t.ld.gb cellarSecOk = false ∧ t.ld.sess.cur = none ∧
      t.ld.cellar.mismatchAt = some s.ld.time ∧ t.ld.gb ⟨R.EVT_RAW R.pageCELLAR, 6, 1⟩ = true := by
  obtain ⟨l, hl, hmismatch, hlink⟩ : ∃ l : Logic, s.secMismatch false = { s with ld := (l.secHalted.firing 10 true).disapprove.guard 10 false } ∧
      l.cellar.mismatchAt = some s.ld.time ∧ l.linkUp = s.ld.linkUp := ⟨_, rfl, rfl, rfl⟩
  obtain ⟨hhalted, hsecOk, hevt, hbare⟩ := l.secHalted_shown
  have hmismatch' := (Logic.of_bare (fun l => l.cellar.mismatchAt) hbare :).trans hmismatch
  have hlink' := (Logic.of_bare Logic.linkUp hbare).trans hlink
  generalize l.secHalted = m at *
  obtain ⟨-, hfires, hfired, hgb⟩ := m.firing_kept 10 true
  have hstat (b : Nat) : (m.firing 10 true).gb (cellarStatus b) = m.gb (cellarStatus b) := hgb (by decide : regHome (R.STATUS R.pageCELLAR) ≠ _)
  have hsix := hgb (x := ⟨R.EVT_RAW R.pageCELLAR, 6, 1⟩) (by decide)
  generalize m.firing 10 true = n at *
  have hdis := Logic.CellarKept.disapprove n
  have hguard := n.disapprove.guard_shown 10 (10 == 10)
  refine answers_told (g := State.secMismatch false) htold ?_ (by rw [hl]) fun t hld _ => ?_
  · rw [hl]
    exact hguard.linkUp.trans (hdis.linkUp.trans (hfires.trans hlink'))
  · rw [hld, hl]
    refine ⟨?_, ?_, congrArg SessionRun.cur hguard.sess, ?_, ?_⟩
    · exact (hguard.stat (by decide)).trans ((hdis.stat (by decide)).trans ((hstat 10).trans hhalted))
    · exact (hguard.stat (by decide)).trans ((hdis.stat (by decide)).trans ((hstat 9).trans hsecOk))
    · exact hguard.mismatch.trans ((congrArg CellarRun.mismatchAt hdis.cellar).trans (hfired.trans hmismatch'))
    · exact (hguard.evts (by decide) (by decide) (by decide)).trans ((hdis.evts (by decide) (by decide)).trans (hsix.trans hevt))

/-- A test that ends the sessions: its own bits, APPROVED and the sessions (R285, R286). -/
theorem Logic.testFails_shown (l : Logic) (src : Nat) (severe : Bool) : ∀ t, t = (l.disapprove.endSessions).fault src severe →
    t.CellarKept { l with raised := t.raised } ∧ t.sess.cur = none ∧ ∃ e ∈ t.raised, e.src = src ∧ e.severe = severe := by
  rintro t rfl
  have hkept := (Logic.CellarKept.endSessions l.disapprove).trans (Logic.CellarKept.disapprove l)
  have hsess := l.disapprove.endSessions_sess
  refine ⟨⟨hkept.word, hkept.evts, hkept.stat, hkept.mram, hkept.cellar, hkept.time, hkept.mode, hkept.linkUp, rfl⟩,
    congrArg SessionRun.cur hsess, _, List.mem_append_right _ (List.mem_singleton_self _), rfl, rfl⟩

theorem Logic.gb_put_zero (l : Logic) (x : Fld) (hx : x.fits = true) : (l.put x 0).gb x = false := by
  rw [Logic.gb_eq, Logic.g_put_same _ _ _ hx, Nat.zero_mod]
  rfl

theorem secRestart_clears (s : State) (pass : Bool) (hhalted : s.ld.gb cellarHalted = true) (hstuck : s.ld.cellar.stuck = false) :
    Answers (exec (.secRestartDone pass) s) fun t => t.ld.gb cellarHalted = !pass ∧ t.ld.cellar = s.ld.cellar := by
  have hdone : s.ld.secRestarted pass = if pass = true then s.ld.put cellarHalted 0 else s.ld := by
    rw [Logic.secRestarted, hhalted, hstuck]
    rfl
  refine ⟨_, runLogic_next .., ?_⟩
  dsimp only
  rw [hdone]
  cases pass
  · exact ⟨hhalted, rfl⟩
  · exact ⟨s.ld.gb_put_zero _ (by decide), rfl⟩

theorem Logic.katFails_shown (l : Logic) : l.katFails.cellar.testing = l.cellar.testing ∧ l.katFails.gb cellarKatOk = false ∧
    l.katFails.sess.cur = none := by
  obtain ⟨m, hm, hbit, hcellar⟩ : ∃ m : Logic, l.katFails = (m.disapprove.endSessions).fault 60 false ∧ m.gb cellarKatOk = false ∧
      m.cellar.testing = l.cellar.testing :=
    ⟨_, rfl, (Logic.gb_put_clear _ cellarKatOk F.DEVICE_BOOTSTAT_KAT_OK 0 (by decide) (by decide)).trans
      (Logic.gb_put_zero _ _ (by decide)), rfl⟩
  obtain ⟨hkept, hsess, -⟩ := m.testFails_shown 60 false _ hm
  exact ⟨(congrArg CellarRun.testing hkept.cellar).trans hcellar, (hkept.stat (by decide)).trans hbit, hsess⟩

theorem selftestDone_judges (s : State) (pass : Bool) (htesting : s.ld.cellar.testing = true) :
    Answers (exec (.cellarSelftestDone pass) s) fun t => t.ld.cellar.testing = false ∧
      t.ld.gb cellarKatOk = (pass && s.ld.gb cellarKatOk) ∧ t.ld.sess.cur = (if pass then s.ld.sess.cur else none) := by
  refine ⟨_, runLogic_next .., ?_⟩
  dsimp only
  rw [Logic.selftestDone, if_pos htesting]
  cases pass with
  | true => exact ⟨rfl, rfl, rfl⟩
  | false =>
    obtain ⟨hcellar, hkat, hsess⟩ := Logic.katFails_shown { s.ld with cellar := { s.ld.cellar with testing := false } }
    exact ⟨hcellar, hkat, hsess⟩

/-- The count of a health test that fails (R286). -/
def Logic.testCounted : EntropyTest → Logic → Logic
  | .repetition, l => l.bump F.CELLAR_RNGSTAT_REPCOUNT
  | .proportion, l => l.bump F.CELLAR_RNGSTAT_ADAPTIVE
  | .pairwise, l => l

theorem Logic.testCounted_kept (test : EntropyTest) (l : Logic) : (l.testCounted test).bare = l.bare ∧
    ∀ {x : Fld}, regHome x.addr ≠ R.CELLAR_RNGSTAT → (l.testCounted test).gb x = l.gb x := by
  have hbump {y : Fld} (hy : regHome y.addr = R.CELLAR_RNGSTAT) {x : Fld} (hx : regHome x.addr ≠ R.CELLAR_RNGSTAT) : (l.bump y).gb x = l.gb x :=
    Logic.gb_of_g (congrArg (wbits · x.lo x.len) (l.word_put_other (x := y) (min (2 ^ y.len - 1) (l.g y + 1)) (hy ▸ hx)))
  cases test with
  | repetition => exact ⟨bare_bump .., hbump rfl⟩
  | proportion => exact ⟨bare_bump .., hbump rfl⟩
  | pairwise => exact ⟨rfl, fun _ => rfl⟩

theorem entropy_counts (s : State) (test : EntropyTest) (htest : test ≠ .pairwise) (hnone : s.ld.cellar.rngAt = none) :
    Answers (exec (.entropyHealthTest test) s) fun t => t.ld.cellar.rngAt = some s.ld.time ∧ t.ld.gb cellarRngOk = s.ld.gb cellarRngOk ∧
      t.ld.g (if test = .proportion then F.CELLAR_RNGSTAT_ADAPTIVE else F.CELLAR_RNGSTAT_REPCOUNT) =
        min (2 ^ F.CELLAR_RNGSTAT_ADAPTIVE.len - 1)
          (s.ld.g (if test = .proportion then F.CELLAR_RNGSTAT_ADAPTIVE else F.CELLAR_RNGSTAT_REPCOUNT) + 1) := by
  have hfails : s.ld.entropyFails test =
      { s.ld.testCounted test with cellar := { (s.ld.testCounted test).cellar with rngAt := some (s.ld.testCounted test).time } } := by
    have hsecond : (s.ld.testCounted test).cellar.rngAt = none := (Logic.of_bare (fun l => l.cellar.rngAt) (s.ld.testCounted_kept test).1 :).trans hnone
    cases test with
    | repetition =>
      change Logic.when ((_ || match (s.ld.testCounted .repetition).cellar.rngAt with | some _ => _ | none => _) && _) _ _ = _
      rw [hsecond]
      rfl
    | proportion =>
      change Logic.when ((_ || match (s.ld.testCounted .proportion).cellar.rngAt with | some _ => _ | none => _) && _) _ _ = _
      rw [hsecond]
      rfl
    | pairwise => exact absurd rfl htest
  obtain ⟨hbare, hgb⟩ := s.ld.testCounted_kept test
  refine ⟨_, runLogic_next .., ?_⟩
  dsimp only
  rw [hfails]
  refine ⟨congrArg some (Logic.of_bare Logic.time hbare), hgb (x := cellarRngOk) (by decide), ?_⟩
  cases test with
  | repetition => exact s.ld.g_bump_same _ (by decide)
  | proportion => exact s.ld.g_bump_same _ (by decide)
  | pairwise => exact absurd rfl htest

theorem Logic.rngFails_shown (l : Logic) : l.rngFails.gb cellarRngOk = false ∧ l.rngFails.sess.cur = none ∧
    ∃ e ∈ l.rngFails.raised, e.src = 59 ∧ e.severe = true := by
  obtain ⟨m, hm, hbit⟩ : ∃ m : Logic, l.rngFails = (m.disapprove.endSessions).fault 59 true ∧ m.gb cellarRngOk = false :=
    ⟨_, rfl, (Logic.gb_of_g (Logic.g_evt_clear _ _ _ _ (by decide) (Fld.clear_of_home (by decide :
      regHome (R.STATUS R.pageCELLAR) ≠ regHome (R.EVT_RAW R.pageCELLAR))))).trans (Logic.gb_put_zero l cellarRngOk (by decide))⟩
  obtain ⟨hkept, hsess, hraised⟩ := m.testFails_shown 59 true _ hm
  exact ⟨(hkept.stat (by decide)).trans hbit, hsess, hraised⟩

theorem entropy_fails (s : State) (test : EntropyTest) (u : Nat) (hfirst : s.ld.cellar.rngAt = some u)
    (hsoon : s.ld.time - u ≤ 60 * minuteTicks) (hok : s.ld.gb cellarRngOk = true) :
    Answers (exec (.entropyHealthTest test) s) fun t => t.ld.gb cellarRngOk = false ∧ t.ld.sess.cur = none ∧
      ∃ e ∈ t.ld.raised, e.src = 59 ∧ e.severe = true := by
  obtain ⟨hbare, hgb⟩ := s.ld.testCounted_kept test
  have hok' : (s.ld.testCounted test).gb cellarRngOk = true := (hgb (x := cellarRngOk) (by decide)).trans hok
  have hsecond : (match (s.ld.testCounted test).cellar.rngAt with
      | some t => decide ((s.ld.testCounted test).time - t ≤ 60 * minuteTicks)
      | none => false) = true := by
    rw [(Logic.of_bare (fun l => l.cellar.rngAt) hbare :).trans hfirst, Logic.of_bare Logic.time hbare]
    exact decide_eq_true hsoon
  have hfails : ∃ l, s.ld.entropyFails test = Logic.rngFails l := by
    have hwhen {c : Bool} (l : Logic) (hc : c = true) : ∃ m, l.when c Logic.rngFails = Logic.rngFails m := ⟨l, if_pos hc⟩
    cases test with
    | repetition => exact hwhen _ (Bool.and_eq_true_iff.mpr ⟨hsecond, hok'⟩)
    | proportion => exact hwhen _ (Bool.and_eq_true_iff.mpr ⟨hsecond, hok'⟩)
    | pairwise => exact hwhen _ hok
  obtain ⟨l, hl⟩ := hfails
  refine ⟨_, runLogic_next .., ?_⟩
  dsimp only
  rw [hl]
  exact l.rngFails_shown

theorem enrolWindow_closes (s : State) : Answers (exec .enrolWindowExpiry s) fun t =>
    t.ld.g F.DEVICE_MODE_ENROL_OPEN = (if s.ld.mram.owner.isNone then 0 else s.ld.g F.DEVICE_MODE_ENROL_OPEN) ∧ t.ld.mram = s.ld.mram ∧
      t.fd = s.fd := by
  refine ⟨_, runLogic_next .., ?_⟩
  dsimp only
  unfold Logic.enrolCloses Logic.when
  split
  · exact ⟨s.ld.g_put_same F.DEVICE_MODE_ENROL_OPEN 0 (by decide), rfl, rfl⟩
  · exact ⟨rfl, rfl, rfl⟩

/-- Settles O8: a detector acts at its grade, and each test of the Cellar ends what it must. -/
theorem cellarRows : Obligations.CellarRows := by
  unfold Obligations.CellarRows
  exact ⟨detector_notices, detector_guards, detector_purges, secMismatch_halts, secRestart_clears,
    fun s => ⟨_, runLogic_next .., rfl, rfl, rfl⟩, selftestDone_judges, entropy_counts, entropy_fails, enrolWindow_closes⟩

/-! The commands of an Owner session (R285, R294). -/

theorem freeRegister_selftest : FreeRegister R.CELLAR_SELFTEST := freeRegister (by decide) fun _ _ => rfl

theorem selftest_starts (s : State) (ctr : Word) (htold : s.told = true) (ht : s.ld.takes ctr R.CELLAR_SELFTEST 1#32) :
    Answers (exec (.cellarSelftest (some ctr)) s) fun t => t.ld.host.ferr = false ∧ t.ld.cellar.testing = true ∧
      t.ld.sess.cur.isSome = true ∧ t.ld.gb cellarKatOk = s.ld.gb cellarKatOk ∧ t.ld.mram = s.ld.mram ∧ t.ld.serves = false := by
  refine answers_logicWord htold ht freeRegister_selftest fun x _ => ?_
  have hframed := s.ld.framed_framed x ctr
  have hferr := hframed.ferr
  have hkat : (s.ld.framed x ctr).gb cellarKatOk = s.ld.gb cellarKatOk := hframed.gb (by decide)
  have hkept : (s.ld.framed x ctr).mram = s.ld.mram ∧ (s.ld.framed x ctr).sess.cur.isSome = true ∧ (s.ld.framed x ctr).boot = s.ld.boot ∧
    (s.ld.framed x ctr).linkUp = s.ld.linkUp := ⟨rfl, rfl, rfl, rfl⟩
  generalize s.ld.framed x ctr = l at *
  obtain ⟨hmram, hcur, hboot, hlink⟩ := hkept
  refine ⟨{ l with cellar := { l.cellar with testing := true } }, rfl, hboot, hlink, fun t hld => ?_⟩
  rw [hld]
  refine ⟨hferr, rfl, hcur, hkat, hmram, ?_⟩
  change (_ && !true) = false
  exact Bool.and_false _

/-- Settles O9: the tests start, and a ZEROISE with its key erases and resets. -/
theorem cellarCommandRows : Obligations.CellarCommandRows := by
  unfold Obligations.CellarCommandRows
  refine ⟨selftest_starts, fun s ctr _ ht => ?purge, fun s ctr _ ht => ?grave⟩
  case purge =>
    obtain ⟨t, hstep, herased, hmode, hsess, hboot, hcause⟩ := zeroise_leaves (grade := 2) ht fun _ => rfl
    exact ⟨t, hstep, herased.owner, herased.pairKey, herased.keys, hmode, hsess, herased.marker, hboot, hcause, herased.floor⟩
  case grave =>
    obtain ⟨t, hstep, herased, hmode, hsess, hboot, hcause⟩ := zeroise_leaves (grade := 3) ht fun _ => rfl
    exact ⟨t, hstep, herased.owner, herased.pairKey, herased.keys, hmode, hsess, herased.marker,
      herased.puf.trans (Bool.and_false _), hboot, hcause, herased.floor⟩

end Sys2Proof.Machine
end

section
/-! The fault collector: counting and grading, reactions, acknowledgement, clears, ERROUT and kept events (R370-R378). -/

namespace Sys2Proof.Machine

open Sys2Proof

/-! What SAFE and its outputs leave of the collector's registers (R28, R372). -/

/-- TOTAL, LAST and the sources' STAT. -/
def isFaultWord (a : Nat) : Bool := a == R.FAULT_TOTAL || a == R.FAULT_LAST || decide (R.FAULT_SRC_STAT 0 ≤ a ∧ a < R.FAULT_SRC_STAT 64)

theorem isFaultWord_low {a : Nat} (h : a % 256 < 0x1B) : isFaultWord a = false := by
  refine Bool.eq_false_iff.mpr fun hone => ?_
  simp only [isFaultWord, Bool.or_eq_true, beq_iff_eq, decide_eq_true_eq] at hone
  simp only [R.FAULT_TOTAL, R.FAULT_LAST, R.FAULT_SRC_STAT] at hone
  omega

theorem isFaultWord_evt (p : Nat) : isFaultWord (regHome (R.EVT_RAW p)) = false := by
  refine isFaultWord_low ?_
  rw [regHome_mod, R.EVT_RAW]
  omega

/-- Between two logic dies neither these nor the events that wait differ. -/
structure Logic.FaultKept (t l : Logic) : Prop where
  word : ∀ a, isFaultWord (regHome a) = true → t.regs.word a = l.regs.word a
  raised : t.raised = l.raised

namespace Logic.FaultKept

variable {t l m : Logic}

theorem refl (l : Logic) : l.FaultKept l := ⟨fun _ _ => rfl, rfl⟩

theorem trans (h : t.FaultKept l) (k : l.FaultKept m) : t.FaultKept m := ⟨fun a ha => (h.word a ha).trans (k.word a ha), h.raised.trans k.raised⟩

theorem put (l : Logic) {y : Fld} (v : Nat) (hy : isFaultWord (regHome y.addr) = false) : (l.put y v).FaultKept l :=
  ⟨fun _ ha => l.word_put_other v fun e => absurd (e ▸ ha) (Bool.eq_false_iff.mp hy), rfl⟩

theorem setEvt (l : Logic) (p b q : Nat) (i u f : Bool) (t : Nat) (z : Option Nat) : (l.setEvt p b q i u f t z).FaultKept l :=
  ⟨fun a ha => by rw [Logic.setEvt_regs]; exact (put l 1 (y := ⟨R.EVT_RAW p, b, 1⟩) (isFaultWord_evt p)).word a ha, Logic.setEvt_raised ..⟩

theorem evt (l : Logic) (p b q : Nat) (i u : Bool) : (l.evt p b q i u).FaultKept l := setEvt l ..

theorem when {c : Bool} {h : Logic → Logic} (hh : ∀ l, (h l).FaultKept l) (l : Logic) : (l.when c h).FaultKept l := by
  cases c
  · exact refl l
  · exact hh l

theorem sendPartner (k : PFrame) (l : Logic) : (l.sendPartner k).FaultKept l := by
  unfold Logic.sendPartner
  exact when (h := Logic.modPair _) (fun _ => ⟨fun _ _ => rfl, rfl⟩) l

theorem abortCause (c : Nat) (l : Logic) : (l.abortCause c).FaultKept l := by
  unfold Logic.abortCause
  split
  · split <;> exact ⟨fun _ _ => rfl, rfl⟩
  · exact refl l

theorem disapprove (l : Logic) : l.disapprove.FaultKept l := by
  unfold Logic.disapprove
  split
  · exact (evt _ _ _ _ _ _).trans (put l 0 (by decide))
  · exact refl l

theorem setMode (m : Mode) (l : Logic) : (l.setMode m).FaultKept l := by
  have hlog (l : Logic) (c s p0 p1 p2 : Nat) : (l.log c s p0 p1 p2).FaultKept l := ⟨fun _ _ => rfl, rfl⟩
  have hmode : ({ l with mode := m } : Logic).FaultKept l := ⟨fun _ _ => rfl, rfl⟩
  unfold Logic.setMode
  split
  · exact refl l
  · exact (disapprove _).trans ((hlog _ _ _ _ _ _).trans ((evt _ _ _ _ _ _).trans ((put _ _ (by decide)).trans hmode)))

/-- What the outputs tell. -/
theorem takeMsg {msg : FMsg} (h : msg.stands = true) (t : Nat) (l : Logic) : (Machine.takeMsg t msg l).FaultKept l := by
  cases msg with
  | evt => exact setEvt l ..
  | put x v =>
    have hx : x.addr = R.DEVICE_OUTHOLD := beq_iff_eq.mp h
    have howned : hwOwned x.addr = false := by rw [hx]; rfl
    simp only [Machine.takeMsg, howned]
    exact put l v (by rw [hx]; decide)
  | fault | record => exact refl l
  | _ => exact absurd h Bool.false_ne_true

end Logic.FaultKept

/-- What the outputs tell keeps what each of their messages keeps. -/
theorem State.onFd_hear_keeps {P : Logic → Prop} {s : State} (htold : s.told = true) {h : Field → Field} (hh : ∀ f, (h f).stands = f.stands)
    (hmsg : ∀ (m : FMsg) (t : Nat) (l : Logic), m.stands = true → P l → P (takeMsg t m l)) (hevt : ∀ l, P l → P (l.evt R.pageDEVICE 3))
    (hP : P s.ld) : P (s.onFd h).hear.ld := by
  have hld : (s.onFd h).ld = s.ld := s.onFd_ld h
  have hstands (hl : s.ld.linkUp = true) : (s.onFd h).fd.stands = true := by
    have hs : s.fd.stands = true := by
      simp only [State.told, hl, Bool.not_true, Bool.false_or] at htold
      refine List.all_eq_true.mpr fun m hm => ?_
      have hw := List.all_eq_true.mp htold m hm
      cases m with
      | fault | record => rfl
      | _ => exact absurd hw Bool.false_ne_true
    unfold State.onFd
    split
    · exact (hh s.fd).trans hs
    · exact hs
  generalize s.onFd h = u at hld hstands
  have hfold (ms : List FMsg) (hms : ms.all FMsg.stands = true) (l : Logic) (hl : P l) :
      P (ms.foldl (fun l m => takeMsg u.fd.time m l) l) := by
    induction ms generalizing l with
    | nil => exact hl
    | cons m ms ih =>
      obtain ⟨hm, hms⟩ := Bool.and_eq_true_iff.mp hms
      exact ih hms _ (hmsg m _ l hm hl)
  have hdrain : P (drain u).ld := by
    cases hl : u.ld.linkUp with
    | false => rw [drain_ld_down u hl, hld]; exact hP
    | true =>
      rw [drain_ld u hl, hld]
      exact hfold _ (hstands (hld ▸ hl)) _ hP
  unfold State.hear
  dsimp only
  split
  · exact hevt _ hdrain
  · exact hdrain

theorem State.hold_faultKept {s : State} (htold : s.told = true) (m : Mode) : (s.hold m).ld.FaultKept s.ld := by
  have htold' : (s.onLd (Logic.setMode m)).told = true := State.told_of_same htold (s.ld.setMode_changed m).linkUp rfl
  exact State.onFd_hear_keeps (P := fun l => l.FaultKept s.ld) htold' (fun f => f.stands_holdOutputs m)
    (fun m t l hm hl => (Logic.FaultKept.takeMsg hm t l).trans hl) (fun l hl => (Logic.FaultKept.evt l _ _ _ _ _).trans hl)
    (Logic.FaultKept.setMode m s.ld)

theorem State.beginHandover_faultKept (cause caught : Nat) (s : State) : (s.beginHandover cause caught).ld.FaultKept s.ld ∧
    (s.beginHandover cause caught).ld.linkUp = s.ld.linkUp ∧ (s.beginHandover cause caught).fd.out = s.fd.out := by
  unfold State.beginHandover
  dsimp only
  refine ⟨?_, ?_, ?_⟩
  · rw [State.onFd_ld]
    exact (Logic.FaultKept.put _ _ (by decide)).trans ((Logic.FaultKept.put _ _ (by decide)).trans ((Logic.FaultKept.put _ _ (by decide)).trans
      ((Logic.FaultKept.sendPartner _ _).trans ⟨fun _ _ => rfl, rfl⟩)))
  · rw [State.onFd_ld]
    exact (Logic.sendPartner_same _ _).linkUp
  · unfold State.onFd
    split <;> rfl

/-- SAFE, by its bit alone, by a planned handover or by the mode. -/
theorem State.safe_faultKept {s : State} (htold : s.told = true) (cause : Nat) : (s.safe cause).ld.FaultKept s.ld ∧ (s.safe cause).told = true := by
  have hmark : (s.onLd fun l => (l.put (safeCause cause) 1).abortCause 5).ld.FaultKept s.ld :=
    (Logic.FaultKept.abortCause _ _).trans (Logic.FaultKept.put s.ld 1 (by decide : isFaultWord (regHome R.DEVICE_MODE) = false))
  have hmarked : (s.onLd fun l => (l.put (safeCause cause) 1).abortCause 5).told = true :=
    State.told_of_same htold (Logic.abortCause_same _ _).linkUp rfl
  have hpair {u : State} (hu : u.ld.FaultKept s.ld) (htold : u.told = true) (h : PairRun → PairRun) :
      (u.onLd fun l => { l with pair := h l.pair }).ld.FaultKept s.ld ∧ (u.onLd fun l => { l with pair := h l.pair }).told = true :=
    ⟨⟨hu.word, hu.raised⟩, State.told_of_same htold rfl rfl⟩
  unfold State.safe
  dsimp only
  generalize s.onLd (fun l => (l.put (safeCause cause) 1).abortCause 5) = u at *
  split
  · exact ⟨hmark, hmarked⟩
  split
  · have hlock := hpair hmark hmarked fun p => { p with lockCatch := true }
    generalize u.onLd (fun l => { l with pair := { l.pair with lockCatch := true } }) = v at *
    split
    · exact hpair hlock.1 hlock.2 fun p => { p with handAgain := true }
    · obtain ⟨hkept, hlink, hout⟩ := v.beginHandover_faultKept 4 0
      exact ⟨hkept.trans hlock.1, State.told_of_same hlock.2 hlink hout⟩
  split
  · exact ⟨hmark, hmarked⟩
  · exact ⟨(State.hold_faultKept hmarked .safe).trans hmark, (State.hold_changed hmarked .safe).2⟩

/-! One event (R371, R373). -/

/-- The STAT register of a source. -/
theorem fault_stat {i : Nat} (hi : i < 64) : isFaultWord (R.FAULT_SRC_STAT i) = true ∧ regHome (R.FAULT_SRC_STAT i) = R.FAULT_SRC_STAT i ∧
    R.FAULT_SRC_STAT i ≠ R.FAULT_TOTAL ∧ R.FAULT_SRC_STAT i ≠ R.FAULT_LAST ∧ R.FAULT_SRC_STAT i ≠ R.PAIR_STAT := by
  have hall : ∀ i < 64, isFaultWord (R.FAULT_SRC_STAT i) = true ∧ regHome (R.FAULT_SRC_STAT i) = R.FAULT_SRC_STAT i ∧
    R.FAULT_SRC_STAT i ≠ R.FAULT_TOTAL ∧ R.FAULT_SRC_STAT i ≠ R.FAULT_LAST ∧ R.FAULT_SRC_STAT i ≠ R.PAIR_STAT := by decide
  exact hall i hi

/-- What the collector goes on to do once it has counted an event. -/
structure Logic.Collects (i : Nat) (t l : Logic) : Prop where
  count : t.g (F.FAULT_SRC_STAT_COUNT i) = l.g (F.FAULT_SRC_STAT_COUNT i)
  severe : l.gb (F.FAULT_SRC_STAT_SEVERE i) = true → t.gb (F.FAULT_SRC_STAT_SEVERE i) = true
  inhand : l.gb (F.FAULT_SRC_STAT_INHAND i) = true → t.gb (F.FAULT_SRC_STAT_INHAND i) = true
  total : t.regs.word R.FAULT_TOTAL = l.regs.word R.FAULT_TOTAL
  last : t.regs.word R.FAULT_LAST = l.regs.word R.FAULT_LAST
  raised : t.raised = l.raised
  mode : t.mode = l.mode
  linkUp : t.linkUp = l.linkUp
  pair : t.regs.word R.PAIR_STAT = l.regs.word R.PAIR_STAT

namespace Logic.Collects

variable {i : Nat} {t l m : Logic}

theorem refl (i : Nat) (l : Logic) : l.Collects i l := ⟨rfl, id, id, rfl, rfl, rfl, rfl, rfl, rfl⟩

theorem trans (h : t.Collects i l) (k : l.Collects i m) : t.Collects i m :=
  ⟨h.count.trans k.count, h.severe ∘ k.severe, h.inhand ∘ k.inhand, h.total.trans k.total, h.last.trans k.last, h.raised.trans k.raised,
    h.mode.trans k.mode, h.linkUp.trans k.linkUp, h.pair.trans k.pair⟩

theorem of_kept (hi : i < 64) (h : t.FaultKept l) (hsame : t.SameBut l) (hpair : t.regs.word R.PAIR_STAT = l.regs.word R.PAIR_STAT) :
    t.Collects i l := by
  obtain ⟨hone, hhome, -, -, -⟩ := fault_stat hi
  have hword : t.regs.word (R.FAULT_SRC_STAT i) = l.regs.word (R.FAULT_SRC_STAT i) := h.word _ (hhome.symm ▸ hone)
  have hg (lo len : Nat) : t.g ⟨R.FAULT_SRC_STAT i, lo, len⟩ = l.g ⟨R.FAULT_SRC_STAT i, lo, len⟩ := congrArg (wbits · lo len) hword
  exact ⟨hg 0 16, (Logic.gb_of_g (hg 16 1) ▸ ·), (Logic.gb_of_g (hg 17 1) ▸ ·), h.word _ (by decide), h.word _ (by decide), h.raised, hsame.mode,
    hsame.linkUp, hpair⟩

theorem put (hi : i < 64) (l : Logic) {y : Fld} (v : Nat) (hy : isFaultWord (regHome y.addr) = false) (hpair : regHome R.PAIR_STAT ≠ regHome y.addr) :
    (l.put y v).Collects i l := of_kept hi (.put l v hy) (l.put_same y v) (l.word_put_other v hpair)

theorem evt (hi : i < 64) (l : Logic) (p b q : Nat) (x u : Bool) : (l.evt p b q x u).Collects i l := by
  refine of_kept hi (.evt l p b q x u) (l.setEvt_same ..) (Logic.word_evt_other _ _ _ _ fun e => ?_)
  have hmod := regHome_mod (R.EVT_RAW p)
  rw [← e, R.EVT_RAW] at hmod
  exact absurd hmod (by rw [Nat.mul_comm, Nat.mul_add_mod]; decide)

/-- A mark of the source itself. -/
theorem mark (hi : i < 64) (l : Logic) {b : Nat} (hb : 16 ≤ b) (hfits : b < 32) : (l.put ⟨R.FAULT_SRC_STAT i, b, 1⟩ 1).Collects i l := by
  obtain ⟨-, hhome, htotal, hlast, hpair⟩ := fault_stat hi
  have hmark : (Fld.mk (R.FAULT_SRC_STAT i) b 1).fits = true := decide_eq_true (Nat.succ_le_of_lt hfits)
  have hstays {c : Nat} (hc : l.gb ⟨R.FAULT_SRC_STAT i, c, 1⟩ = true) :
      (l.put ⟨R.FAULT_SRC_STAT i, b, 1⟩ 1).gb ⟨R.FAULT_SRC_STAT i, c, 1⟩ = true := by
    by_cases h : c = b
    · rw [h]
      exact Logic.gb_put_one l _ hmark rfl
    · rw [Logic.gb_put_clear l ⟨R.FAULT_SRC_STAT i, c, 1⟩ _ 1 hmark (Fld.clear_of_bits h)]
      exact hc
  have hword {a : Nat} (ha : regHome a = a) (hne : R.FAULT_SRC_STAT i ≠ a) :
      (l.put ⟨R.FAULT_SRC_STAT i, b, 1⟩ 1).regs.word a = l.regs.word a :=
    l.word_put_other (x := ⟨R.FAULT_SRC_STAT i, b, 1⟩) 1 (by rw [ha, hhome]; exact hne.symm)
  refine ⟨Logic.g_put_clear l _ _ 1 hmark ?_, hstays, hstays, hword rfl htotal, hword rfl hlast, rfl, rfl, rfl, hword rfl hpair⟩
  exact Bool.or_eq_true_iff.mpr (.inl (Bool.or_eq_true_iff.mpr (.inr (decide_eq_true hb))))

theorem when {c : Bool} {h : Logic → Logic} (hh : ∀ l, (h l).Collects i l) (l : Logic) : (l.when c h).Collects i l := by
  cases c
  · exact refl i l
  · exact hh l

theorem faultRecord (i n k p r : Nat) (q : LoftReq) (l : Logic) : (l.faultRecord n k p r q).Collects i l :=
  ⟨rfl, id, id, rfl, rfl, rfl, rfl, rfl, rfl⟩

theorem abortCause (hi : i < 64) (c : Nat) (l : Logic) : (l.abortCause c).Collects i l := by
  refine of_kept hi (.abortCause c l) (l.abortCause_same c) ?_
  unfold Logic.abortCause
  split
  · split <;> rfl
  · rfl

theorem wdogHalt (hi : i < 64) (l : Logic) : l.wdogHalt.Collects i l := by
  unfold Logic.wdogHalt Logic.wdogStop
  split
  · exact refl i l
  · exact (evt hi _ _ _ _ _ _).trans ((put hi _ _ (by decide) (by decide)).trans ((put hi _ _ (by decide) (by decide)).trans
      ((put hi _ _ (by decide) (by decide)).trans ((put hi _ _ (by decide) (by decide)).trans ⟨rfl, id, id, rfl, rfl, rfl, rfl, rfl, rfl⟩))))

theorem errpin (hi : i < 64) (k : Nat) (l : Logic) : (l.errpin k).Collects i l :=
  (evt hi _ _ _ _ _ _).trans ((put hi _ _ (by decide) (by decide)).trans ⟨rfl, id, id, rfl, rfl, rfl, rfl, rfl, rfl⟩)

theorem gen (hi : i < 64) (l : Logic) : (l.gen R.pageFAULT).Collects i l := put hi _ _ (by decide) (by decide)

end Logic.Collects

/-- TOTAL and LAST with a counted event (R371). -/
def Logic.tallied (e : FaultEv) (graded merged : Bool) (l : Logic) : Logic :=
  (l.putWord R.FAULT_TOTAL (l.regs.word R.FAULT_TOTAL + word (max 1 e.count))).putWord R.FAULT_LAST
    (word (pack [(0, e.src), (8, b2n graded), (9, b2n merged), (10, b2n e.injected), (16, e.param % 256)]))

/-- Its grade (R371). -/
def Logic.marked (i : Nat) (graded fresh : Bool) (l : Logic) : Logic :=
  (l.when graded (Logic.put (F.FAULT_SRC_STAT_SEVERE i) 1)).when fresh (Logic.gen R.pageFAULT)

/-- Its records and what it stops before its reactions (R373, R374). -/
def Logic.handled (i k b : Nat) (graded fresh halts : Bool) (r : LoftReq) (l : Logic) : Logic :=
  ((((l.faultRecord 1 i k b r).when fresh (Logic.faultRecord 2 i k b r)).when (b != 0)
    (Logic.put (F.FAULT_SRC_STAT_INHAND i) 1)).when graded (Logic.abortCause 4)).when halts Logic.wdogHalt

theorem Logic.marked_collects {i : Nat} (hi : i < 64) (graded fresh : Bool) (l : Logic) : (l.marked i graded fresh).Collects i l ∧
    (graded = true → (l.marked i graded fresh).gb (F.FAULT_SRC_STAT_SEVERE i) = true) := by
  have hgen (m : Logic) : (m.when fresh (Logic.gen R.pageFAULT)).Collects i m := Collects.when (fun l => Collects.gen hi l) m
  refine ⟨(hgen _).trans (Collects.when (fun l => Collects.mark hi l (by decide) (by decide)) l), fun hgraded => (hgen _).severe ?_⟩
  rw [hgraded]
  exact Logic.gb_put_one l _ rfl rfl

theorem Logic.handled_collects {i : Nat} (hi : i < 64) (k b : Nat) (graded fresh halts : Bool) (r : LoftReq) (l : Logic) :
    (l.handled i k b graded fresh halts r).Collects i l ∧
    (b ≠ 0 → (l.handled i k b graded fresh halts r).gb (F.FAULT_SRC_STAT_INHAND i) = true) := by
  have hrecords : ((l.faultRecord 1 i k b r).when fresh (Logic.faultRecord 2 i k b r)).Collects i l :=
    (Collects.when (fun l => Collects.faultRecord i 2 i k b r l) _).trans (Collects.faultRecord i 1 i k b r l)
  have hstops (m : Logic) : ((m.when graded (Logic.abortCause 4)).when halts Logic.wdogHalt).Collects i m :=
    (Collects.when (Collects.wdogHalt hi) _).trans (Collects.when (Collects.abortCause hi 4) m)
  unfold Logic.handled
  generalize (l.faultRecord 1 i k b r).when fresh (Logic.faultRecord 2 i k b r) = m at *
  refine ⟨(hstops _).trans ((Collects.when (fun l => Collects.mark hi l (by decide) (by decide)) m).trans hrecords), fun hb => (hstops _).inhand ?_⟩
  rw [bne_iff_ne.mpr hb]
  exact Logic.gb_put_one m _ rfl rfl

/-- The reactions to an event of this grade. -/
def Logic.reactions (i : Nat) (graded : Bool) (l : Logic) : Nat :=
  if graded then l.g (F.FAULT_SRC_REACT_SEVERE i) else l.g (F.FAULT_SRC_REACT_MILD i)

/-- Is a counted event SEVERE (R371)? -/
def Logic.grades (e : FaultEv) (l : Logic) : Bool := e.severe || (!l.severe e.src && l.nth e.src e.time)

/-- Is it merged into an event in hand (R375)? -/
def Logic.merges (e : FaultEv) (l : Logic) : Bool := l.gb (F.FAULT_SRC_STAT_INHAND e.src) && !l.grades e

/-- What is due after an event that is not merged (R376). -/
def ResetsDue.after (e : FaultEv) (b : Nat) (due : ResetsDue) : ResetsDue :=
  { blocks := if nbit b 2 then due.blocks ++ [(e.src, e.param)] else due.blocks
    chips := if nbit b 3 && !(fieldSource e.src && e.performed) then due.chips ++ [e.src] else due.chips }

/-- The tally and grade of a counted event. -/
def Logic.judged (e : FaultEv) (l : Logic) : Logic :=
  (l.tallied e (l.grades e) (l.merges e)).marked e.src (l.grades e) (l.grades e && !l.severe e.src)

/-- It is handled by its reactions. -/
def Logic.reacting (e : FaultEv) (l : Logic) : Logic :=
  let fresh := l.grades e && !l.severe e.src
  (l.judged e).handled e.src e.param (l.reactions e.src (l.grades e)) (l.grades e) fresh (fresh && wdogSource e.src)
    { code := 0, source := e.src, injected := e.injected, severe := l.grades e, late := e.late, time := e.time }

theorem State.collect_eq (e : FaultEv) (s : State) (l : Logic) (due : ResetsDue) (hl : l = s.ld.countEvent e) : State.collect e (s, due) =
    if l.merges e = true then ({ s with ld := ((l.judged e).put (F.FAULT_SRC_STAT_MERGED e.src) 1).evt R.pageFAULT 16 }, due)
    else (State.react e.src (l.reactions e.src (l.grades e)) (l.grades e) { s with ld := l.reacting e },
      due.after e (l.reactions e.src (l.grades e))) := by
  rw [hl]
  rfl

/-- One event: counted and graded, and what of it is still due is merged into an event in hand or is its reactions alone. -/
theorem State.collect_counts {e : FaultEv} (hi : e.src < 64) (s : State) (l : Logic) (due : ResetsDue) (hl : l = s.ld.countEvent e) : ∃ t : Logic,
    t.Collects e.src (l.tallied e (l.grades e) (l.merges e)) ∧ (l.grades e = true → t.gb (F.FAULT_SRC_STAT_SEVERE e.src) = true) ∧
    (l.merges e = false → l.reactions e.src (l.grades e) ≠ 0 → t.gb (F.FAULT_SRC_STAT_INHAND e.src) = true) ∧
    State.collect e (s, due) = if l.merges e = true then ({ s with ld := t }, due) else
      (State.react e.src (l.reactions e.src (l.grades e)) (l.grades e) { s with ld := t }, due.after e (l.reactions e.src (l.grades e))) := by
  rw [State.collect_eq e s l due hl]
  obtain ⟨hjudged, hgraded⟩ : (l.judged e).Collects e.src (l.tallied e (l.grades e) (l.merges e)) ∧ _ :=
    (l.tallied e (l.grades e) (l.merges e)).marked_collects hi _ _
  cases hmerged : l.merges e with
  | true =>
    have hmark := Logic.Collects.mark hi (l.judged e) (b := 18) (by decide) (by decide)
    have hends := (Logic.Collects.evt hi _ R.pageFAULT 16 0 false false).trans hmark
    exact ⟨_, hends.trans (hmerged ▸ hjudged), fun h => hends.severe (hgraded h), fun h => absurd h (by decide),
      (if_pos rfl).trans (if_pos rfl).symm⟩
  | false =>
    obtain ⟨hhandled, hhand⟩ := (l.judged e).handled_collects hi e.param (l.reactions e.src (l.grades e)) (l.grades e)
      (l.grades e && !l.severe e.src) (l.grades e && !l.severe e.src && wdogSource e.src) _
    exact ⟨_, hhandled.trans (hmerged ▸ hjudged), fun h => hhandled.severe (hgraded h), fun _ => hhand,
      (if_neg Bool.false_ne_true).trans (if_neg Bool.false_ne_true).symm⟩

/-- IRQ, URG and ERRPIN, and then SAFE (R373). -/
theorem State.react_collects {i : Nat} (hi : i < 64) (b : Nat) (severe : Bool) (s : State) : ∃ l : Logic, l.Collects i s.ld ∧
    s.react i b severe = if nbit b 5 = true then ({ s with ld := l } : State).safe (if wdogSource i then 1 else 2) else { s with ld := l } := by
  refine ⟨((s.ld.when (nbit b 0) (Logic.evt R.pageFAULT (i / 8 + 8 * b2n severe))).when (nbit b 1)
    (Logic.put (F.FAULT_SRC_STAT_URG i) 1)).when (nbit b 4) (Logic.errpin i), ?_, rfl⟩
  exact (Logic.Collects.when (Logic.Collects.errpin hi i) _).trans
    ((Logic.Collects.when (fun l => Logic.Collects.mark hi l (by decide) (by decide)) _).trans
      (Logic.Collects.when (fun l => Logic.Collects.evt hi l _ _ _ _ _) s.ld))

/-- The logic die as the one event that waits is counted. -/
def Logic.collecting (e : FaultEv) (l : Logic) : Logic := ({ l with raised := [] } : Logic).countEvent e

/-- An event without a reaction that resets leaves nothing due. -/
theorem State.collectTick_one {s : State} {e : FaultEv} (hraised : s.ld.raised = [e])
    (hdue : ∀ u : State, u.ld = { s.ld with raised := [] } → (State.collect e (u, {})).2 = {}) :
    s.collectTick = (State.collect e ({ s with ld := { s.ld with raised := [] } }, {})).1 := by
  have hnone (u : State) : u.chipResets {} = u := rfl
  have hsort : s.ld.raised.foldl (fun a e => insertEv e a) [] = [e] := by
    rw [hraised]
    rfl
  have hnow : [e].filter (fun x => x.time == e.time) = [e] := by simp
  unfold State.collectTick
  split
  next h => rw [hsort] at h; cases h
  next h =>
    cases hsort.symm.trans h
    dsimp only
    rw [hnow]
    change State.chipResets (State.collect e ({ s with ld := { s.ld with raised := [] } }, {})).2 _ = _
    rw [hdue _ rfl, hnone]
    rfl

theorem reactions_counted {e : FaultEv} (hi : e.src < 64) (l : Logic) (graded : Bool) :
    (l.collecting e).reactions e.src graded = l.reactions e.src graded := by
  have hword : (l.collecting e).regs.word (R.FAULT_SRC_REACT e.src) = l.regs.word (R.FAULT_SRC_REACT e.src) := by
    have hne : ∀ i < 64, regHome (R.FAULT_SRC_REACT i) ≠ regHome (R.FAULT_SRC_STAT i) := by decide
    exact l.word_put_other (x := F.FAULT_SRC_STAT_COUNT e.src) _ (hne _ hi)
  have hg (lo len : Nat) : (l.collecting e).g ⟨R.FAULT_SRC_REACT e.src, lo, len⟩ = l.g ⟨R.FAULT_SRC_REACT e.src, lo, len⟩ :=
    congrArg (wbits · lo len) hword
  cases graded
  · exact hg 0 6
  · exact hg 8 6

/-- The reactions to a source's events reset nothing. -/
def Logic.resetsNothing (i : Nat) (l : Logic) : Prop := ∀ graded, nbit (l.reactions i graded) 2 = false ∧ nbit (l.reactions i graded) 3 = false

theorem State.collectTick_counts {s : State} {e : FaultEv} (hraised : s.ld.raised = [e]) (hi : e.src < 64)
    (hnot : s.ld.resetsNothing e.src) : ∀ l, l = s.ld.collecting e → ∃ t : Logic,
    t.Collects e.src (l.tallied e (l.grades e) (l.merges e)) ∧ (l.grades e = true → t.gb (F.FAULT_SRC_STAT_SEVERE e.src) = true) ∧
    (l.merges e = false → s.ld.reactions e.src (l.grades e) ≠ 0 → t.gb (F.FAULT_SRC_STAT_INHAND e.src) = true) ∧
    s.collectTick = if l.merges e = true then { s with ld := t } else
      State.react e.src (s.ld.reactions e.src (l.grades e)) (l.grades e) { s with ld := t } := by
  intro l hl
  have hreact (graded : Bool) : l.reactions e.src graded = s.ld.reactions e.src graded := by rw [hl, reactions_counted hi]
  have hafter : ResetsDue.after e (l.reactions e.src (l.grades e)) {} = {} := by
    obtain ⟨h2, h3⟩ := hnot (l.grades e)
    rw [ResetsDue.after, hreact, h2, h3]
    rfl
  obtain ⟨t, hcollects, hgraded, hhand, hcollect⟩ := State.collect_counts hi { s with ld := { s.ld with raised := [] } } l {} hl
  rw [hafter, hreact] at hcollect
  rw [hreact] at hhand
  refine ⟨t, hcollects, hgraded, hhand, ?_⟩
  rw [State.collectTick_one hraised ?_, hcollect]
  · split <;> rfl
  · intro u hu
    obtain ⟨t, -, -, -, hcollect⟩ := State.collect_counts hi u l {} (hl.trans (congrArg (Logic.countEvent e) hu.symm))
    rw [hcollect, hafter]
    split <;> rfl

theorem wbits_pack {i : Nat} (hi : i < 64) (a b c d : Nat) : wbits (word (pack [(0, i), (8, a), (9, b), (10, c), (16, d)])) 0 6 = i := by
  simp only [wbits, word, pack, List.foldl_cons, List.foldl_nil, BitVec.toNat_ofNat]
  omega

theorem Logic.tallied_shown {e : FaultEv} (hi : e.src < 64) (l : Logic) (graded merged : Bool) :
    (l.tallied e graded merged).g (F.FAULT_SRC_STAT_COUNT e.src) = l.g (F.FAULT_SRC_STAT_COUNT e.src) ∧
    (l.tallied e graded merged).regs.word R.FAULT_TOTAL = l.regs.word R.FAULT_TOTAL + word (max 1 e.count) ∧
    (l.tallied e graded merged).g F.FAULT_LAST_SOURCE = e.src := by
  obtain ⟨-, hhome, htotal, hlast, -⟩ := fault_stat hi
  refine ⟨?_, ?_, ?_⟩
  · exact congrArg (wbits · 0 16) ((word_write_other (a := R.FAULT_SRC_STAT e.src) (b := R.FAULT_LAST) _ _ (by rw [hhome]; exact hlast)).trans
      (word_write_other (a := R.FAULT_SRC_STAT e.src) (b := R.FAULT_TOTAL) _ _ (by rw [hhome]; exact htotal)))
  · exact (word_write_other (a := R.FAULT_TOTAL) (b := R.FAULT_LAST) _ _ (by decide)).trans (word_write_same ..)
  · exact (congrArg (wbits · 0 6) (word_write_same ..)).trans (wbits_pack hi ..)

theorem Logic.collecting_regs (e : FaultEv) (l : Logic) : (l.collecting e).regs =
    (l.put (F.FAULT_SRC_STAT_COUNT e.src) (min 0xFFFF (l.g (F.FAULT_SRC_STAT_COUNT e.src) + max 1 e.count))).regs := (rfl)

theorem Logic.collecting_bare (e : FaultEv) (l : Logic) : (l.collecting e).raised = [] ∧ (l.collecting e).mode = l.mode ∧
    (l.collecting e).linkUp = l.linkUp := by
  unfold Logic.collecting Logic.countEvent
  exact ⟨Logic.put_raised .., Logic.put_mode .., Logic.put_linkUp ..⟩

theorem Logic.collecting_count {e : FaultEv} (l : Logic) :
    (l.collecting e).g (F.FAULT_SRC_STAT_COUNT e.src) = min 0xFFFF (l.g (F.FAULT_SRC_STAT_COUNT e.src) + max 1 e.count) := by
  have hlt (n : Nat) : min 0xFFFF n % 2 ^ 16 = min 0xFFFF n := by omega
  rw [Logic.g_of_regs (l.collecting_regs e), Logic.g_put_same _ _ _ rfl]
  exact hlt _

theorem Logic.collecting_word {e : FaultEv} (hi : e.src < 64) (l : Logic) {a : Nat} (ha : regHome a = a) (hne : R.FAULT_SRC_STAT e.src ≠ a) :
    (l.collecting e).regs.word a = l.regs.word a := by
  obtain ⟨-, hhome, -⟩ := fault_stat hi
  rw [Logic.collecting_regs]
  exact l.word_put_other (x := F.FAULT_SRC_STAT_COUNT e.src) _ (by rw [ha]; exact fun h => hne (hhome.symm.trans h.symm))

/-- What the one event that waits leaves of the collector's registers. -/
theorem State.collectTick_shows {s : State} {e : FaultEv} (htold : s.told = true) (hraised : s.ld.raised = [e]) (hi : e.src < 64)
    (hnot : s.ld.resetsNothing e.src) : ∀ l, l = s.ld.collecting e → ∃ t : Logic,
    t.Collects e.src (l.tallied e (l.grades e) (l.merges e)) ∧ (l.grades e = true → t.gb (F.FAULT_SRC_STAT_SEVERE e.src) = true) ∧
    s.collectTick.ld.FaultKept t ∧ s.collectTick.told = true := by
  intro l hl
  obtain ⟨-, -, hlink⟩ := s.ld.collecting_bare e
  obtain ⟨t, hcollects, hgraded, -, htick⟩ := State.collectTick_counts hraised hi hnot l hl
  have htold' {u : Logic} (hu : u.Collects e.src (l.tallied e (l.grades e) (l.merges e))) : ({ s with ld := u } : State).told = true :=
    State.told_of_same htold (hu.linkUp.trans (hl ▸ hlink)) rfl
  cases hmerges : l.merges e with
  | true =>
    rw [if_pos hmerges] at htick
    rw [htick]
    rw [hmerges] at hcollects htold'
    exact ⟨t, hcollects, hgraded, .refl t, htold' hcollects⟩
  | false =>
    rw [if_neg (Bool.eq_false_iff.mp hmerges)] at htick
    obtain ⟨u, hu, hreact⟩ := State.react_collects hi (s.ld.reactions e.src (l.grades e)) (l.grades e) { s with ld := t }
    rw [htick, hreact]
    rw [hmerges] at hcollects htold'
    refine ⟨u, hu.trans hcollects, fun h => hu.severe (hgraded h), ?_⟩
    split
    · exact State.safe_faultKept (htold' (hu.trans hcollects)) _
    · exact ⟨.refl u, htold' (hu.trans hcollects)⟩

theorem faultEvent_counts (s : State) (e : FaultEv) (htold : s.told = true) (hraised : s.ld.raised = [e]) (hi : e.src < 64)
    (hnot : s.ld.resetsNothing e.src) :
    Answers (exec .faultEvent s) fun t => t.ld.raised = [] ∧
      t.ld.g (F.FAULT_SRC_STAT_COUNT e.src) = min 0xFFFF (s.ld.g (F.FAULT_SRC_STAT_COUNT e.src) + max 1 e.count) ∧
      t.ld.regs.word R.FAULT_TOTAL = s.ld.regs.word R.FAULT_TOTAL + word (max 1 e.count) ∧ t.ld.g F.FAULT_LAST_SOURCE = e.src ∧
      (e.severe = true → t.ld.gb (F.FAULT_SRC_STAT_SEVERE e.src) = true) := by
  obtain ⟨l, hl⟩ : ∃ l, l = s.ld.collecting e := ⟨_, rfl⟩
  obtain ⟨hone, hhome, htotal, -, -⟩ := fault_stat hi
  obtain ⟨t, hcollects, hgraded, hkept, htold'⟩ := State.collectTick_shows htold hraised hi hnot l hl
  obtain ⟨hcount, htally, hlast⟩ := l.tallied_shown hi (l.grades e) (l.merges e)
  have hstat : s.collectTick.ld.regs.word (R.FAULT_SRC_STAT e.src) = t.regs.word (R.FAULT_SRC_STAT e.src) := hkept.word _ (hhome.symm ▸ hone)
  refine ⟨_, runBoth_next .., ?_⟩
  dsimp only
  rw [drain_ld_told _ htold']
  refine ⟨?_, ?_, ?_, ?_, fun hs => ?_⟩
  · rw [hkept.raised, hcollects.raised]
    exact hl ▸ (s.ld.collecting_bare e).1
  · refine (congrArg (wbits · 0 16) hstat).trans (hcollects.count.trans (hcount.trans ?_))
    rw [hl]
    exact s.ld.collecting_count
  · rw [hkept.word _ (by decide), hcollects.total, htally, hl, s.ld.collecting_word hi rfl htotal]
  · exact (congrArg (wbits · 0 6) ((hkept.word R.FAULT_LAST (by decide)).trans hcollects.last)).trans hlast
  · refine (Logic.gb_of_g (x := F.FAULT_SRC_STAT_SEVERE e.src) (congrArg (wbits · 16 1) hstat :)).trans (hgraded ?_)
    rw [Logic.grades, hs, Bool.true_or]

/-- In RUN, without a READY pair to lead, a cause of SAFE enters it (R28). -/
theorem State.safe_enters {s : State} (htold : s.told = true) (hrun : s.ld.mode = .run) (halone : s.ld.leadReady = false) :
    (s.safe 2).ld.mode = .safe ∧ (s.safe 2).ld.gb (safeCause 2) = true := by
  have hmarked : (s.onLd fun l => (l.put (safeCause 2) 1).abortCause 5).told = true :=
    State.told_of_same htold (Logic.abortCause_same _ _).linkUp rfl
  have hregs : (s.onLd fun l => (l.put (safeCause 2) 1).abortCause 5).ld.regs = (s.ld.put (safeCause 2) 1).regs := by
    unfold State.onLd Logic.abortCause
    dsimp only
    repeat' split
    all_goals rfl
  have hrun' : (s.onLd fun l => (l.put (safeCause 2) 1).abortCause 5).ld.mode = .run := (Logic.abortCause_same _ _).mode.trans hrun
  have halone' : (s.onLd fun l => (l.put (safeCause 2) 1).abortCause 5).ld.leadReady = false := by
    rw [← halone]
    refine congrArg (fun w => wbits w 0 2 == 1 && wbits w 5 1 != 0) (a₂ := s.ld.regs.word R.PAIR_STAT) ?_
    rw [hregs]
    exact s.ld.word_put_other (x := safeCause 2) 1 (by decide)
  have hcause : (s.onLd fun l => (l.put (safeCause 2) 1).abortCause 5).ld.gb (safeCause 2) = true :=
    (Logic.gb_of_g (Logic.g_of_regs hregs _)).trans (Logic.gb_put_one s.ld _ (by decide) rfl)
  unfold State.safe
  dsimp only
  generalize s.onLd (fun l => (l.put (safeCause 2) 1).abortCause 5) = u at *
  rw [if_neg (not_not_intro hrun'), halone']
  have hchanged := (State.hold_changed hmarked .safe).1
  exact ⟨hchanged.mode, (Logic.gb_of_g (hchanged.beside (safeCause 2) rfl (by decide))).trans hcause⟩

theorem faultEvent_safe (s : State) (e : FaultEv) (htold : s.told = true) (hraised : s.ld.raised = [e]) (hi : e.src < 64) (hsevere : e.severe = true)
    (hwdog : wdogSource e.src = false) (hrun : s.ld.mode = .run) (halone : s.ld.leadReady = false) (hnot : s.ld.resetsNothing e.src)
    (hsafe : nbit (s.ld.g (F.FAULT_SRC_REACT_SEVERE e.src)) 5 = true) :
    Answers (exec .faultEvent s) fun t => t.ld.mode = .safe ∧ t.ld.gb (safeCause 2) = true ∧ t.ld.gb (F.FAULT_SRC_STAT_INHAND e.src) = true := by
  obtain ⟨l, hl⟩ : ∃ l, l = s.ld.collecting e := ⟨_, rfl⟩
  obtain ⟨hone, hhome, -, hlast, hpair⟩ := fault_stat hi
  obtain ⟨-, hmode, hlink⟩ := s.ld.collecting_bare e
  obtain ⟨t, hcollects, -, hhand, htick⟩ := State.collectTick_counts hraised hi hnot l hl
  have hgrades : l.grades e = true := by rw [Logic.grades, hsevere, Bool.true_or]
  have hmerges : l.merges e = false := by rw [Logic.merges, hgrades, Bool.not_true, Bool.and_false]
  have hbits : s.ld.reactions e.src (l.grades e) = s.ld.g (F.FAULT_SRC_REACT_SEVERE e.src) := by rw [hgrades]; rfl
  rw [if_neg (Bool.eq_false_iff.mp hmerges)] at htick
  obtain ⟨u, hu, hreact⟩ := State.react_collects hi (s.ld.reactions e.src (l.grades e)) (l.grades e) { s with ld := t }
  rw [hreact, hbits, if_pos hsafe, if_neg (Bool.eq_false_iff.mp hwdog)] at htick
  have hends := hu.trans hcollects
  have hpairs : u.regs.word R.PAIR_STAT = s.ld.regs.word R.PAIR_STAT := by
    refine hends.pair.trans ?_
    rw [← s.ld.collecting_word hi rfl hpair, ← hl]
    exact (word_write_other (a := R.PAIR_STAT) (b := R.FAULT_LAST) _ _ (by decide)).trans
      (word_write_other (a := R.PAIR_STAT) (b := R.FAULT_TOTAL) _ _ (by decide))
  have hlead : u.leadReady = false := by
    rw [← halone]
    exact congrArg (fun w => wbits w 0 2 == 1 && wbits w 5 1 != 0) hpairs
  have hrun' : u.mode = .run := hends.mode.trans ((hl ▸ hmode).trans hrun)
  have htold' : ({ s with ld := u } : State).told = true := State.told_of_same htold (hends.linkUp.trans (hl ▸ hlink)) rfl
  have hnonzero : s.ld.reactions e.src (l.grades e) ≠ 0 := by
    rw [hbits]
    intro h
    rw [h] at hsafe
    exact absurd hsafe (by decide)
  obtain ⟨hmode', hcause⟩ := State.safe_enters htold' hrun' hlead
  obtain ⟨hkept, htold''⟩ := State.safe_faultKept htold' 2
  refine ⟨_, runBoth_next .., ?_⟩
  dsimp only
  rw [drain_ld_told _ (htick ▸ htold''), htick]
  exact ⟨hmode', hcause, (Logic.gb_of_g (x := F.FAULT_SRC_STAT_INHAND e.src) (congrArg (wbits · 17 1)
    (hkept.word (R.FAULT_SRC_STAT e.src) (hhome.symm ▸ hone)) :)).trans (hu.inhand (hhand hmerges hnonzero))⟩

/-! Acknowledgement, clears, ERROUT and kept events (R372, R375, R377, R378). -/

theorem freeRegister_faultAck : FreeRegister R.FAULT_ACK := freeRegister (by decide) fun _ _ => rfl
theorem freeRegister_faultClear : FreeRegister R.FAULT_CLEAR := freeRegister (by decide) fun _ _ => rfl
theorem freeRegister_errCtl : FreeRegister R.FAULT_ERRCTL := freeRegister (by decide) fun _ _ => rfl

/-- INHAND, MERGED and URG of a source clear. -/
def Logic.unhandled (i : Nat) (l : Logic) : Logic :=
  ((l.put (F.FAULT_SRC_STAT_INHAND i) 0).put (F.FAULT_SRC_STAT_MERGED i) 0).put (F.FAULT_SRC_STAT_URG i) 0

theorem Logic.unhandled_shown (i : Nat) (l : Logic) : (l.unhandled i).gb (F.FAULT_SRC_STAT_INHAND i) = false ∧
    (l.unhandled i).gb (F.FAULT_SRC_STAT_MERGED i) = false ∧ (l.unhandled i).gb (F.FAULT_SRC_STAT_URG i) = false ∧
    (l.unhandled i).bare = l.bare ∧ (l.unhandled i).host = l.host := by
  have hstays (m : Logic) (b c : Nat) (hc : c < 32) (h : b ≠ c) :
      (m.put ⟨R.FAULT_SRC_STAT i, c, 1⟩ 0).gb ⟨R.FAULT_SRC_STAT i, b, 1⟩ = m.gb ⟨R.FAULT_SRC_STAT i, b, 1⟩ :=
    Logic.gb_put_clear m _ _ 0 (decide_eq_true (Nat.succ_le_of_lt hc)) (Fld.clear_of_bits h)
  have hclears (m : Logic) (b : Nat) (hb : b < 32) : (m.put ⟨R.FAULT_SRC_STAT i, b, 1⟩ 0).gb ⟨R.FAULT_SRC_STAT i, b, 1⟩ = false :=
    Logic.gb_put_zero m _ (decide_eq_true (Nat.succ_le_of_lt hb))
  unfold Logic.unhandled
  refine ⟨?_, ?_, hclears _ 19 (by decide), ?_, ?_⟩
  · exact (hstays _ 17 19 (by decide) (by decide)).trans ((hstays _ 17 18 (by decide) (by decide)).trans (hclears l 17 (by decide)))
  · exact (hstays _ 18 19 (by decide) (by decide)).trans (hclears _ 18 (by decide))
  · rw [Logic.bare_put, Logic.bare_put, Logic.bare_put]
  · rw [Logic.put_host, Logic.put_host, Logic.put_host]

/-- The record of an acknowledgement. -/
def Logic.ackRecord (i : Nat) (l : Logic) : Logic :=
  l.faultRecord 4 i (tget (fun _ => 0) l.faults.params i) 0 { code := 0, source := i, severe := l.severe i, time := l.time }

theorem Logic.ackOne_eq (i : Nat) (l : Logic) : l.ackOne i = (l.unhandled i).when (l.gb (F.FAULT_SRC_STAT_INHAND i)) (Logic.ackRecord i) := (rfl)

theorem Logic.ackRecord_kept (i : Nat) (l : Logic) : (l.ackRecord i).regs = l.regs ∧ (l.ackRecord i).bare = l.bare ∧
    (l.ackRecord i).host = l.host := ⟨rfl, rfl, rfl⟩

/-- An acknowledged source shows none of its handling. -/
theorem Logic.ackOne_shown (i : Nat) (l : Logic) : (l.ackOne i).gb (F.FAULT_SRC_STAT_INHAND i) = false ∧
    (l.ackOne i).gb (F.FAULT_SRC_STAT_MERGED i) = false ∧ (l.ackOne i).gb (F.FAULT_SRC_STAT_URG i) = false ∧ (l.ackOne i).bare = l.bare ∧
    (l.ackOne i).host = l.host := by
  obtain ⟨hinhand, hmerged, hurg, hb, hh⟩ := l.unhandled_shown i
  rw [Logic.ackOne_eq]
  generalize l.unhandled i = m at *
  unfold Logic.when
  split
  · obtain ⟨hr, hb', hh'⟩ := m.ackRecord_kept i
    exact ⟨(Logic.gb_of_g (Logic.g_of_regs hr _)).trans hinhand, (Logic.gb_of_g (Logic.g_of_regs hr _)).trans hmerged,
      (Logic.gb_of_g (Logic.g_of_regs hr _)).trans hurg, hb'.trans hb, hh'.trans hh⟩
  · exact ⟨hinhand, hmerged, hurg, hb, hh⟩

theorem faultAck_ends (s : State) (ctr w : Word) (htold : s.told = true) (ht : s.ld.takes ctr R.FAULT_ACK w) (hone : wbit w 31 = false) :
    Answers (exec (.faultAck (some ctr) w) s) fun t => t.ld.host.ferr = false ∧ t.ld.gb (F.FAULT_SRC_STAT_INHAND (wbits w 0 6)) = false ∧
      t.ld.gb (F.FAULT_SRC_STAT_MERGED (wbits w 0 6)) = false ∧ t.ld.gb (F.FAULT_SRC_STAT_URG (wbits w 0 6)) = false := by
  refine answers_logicWord htold ht freeRegister_faultAck fun x _ => ?_
  have hferr := (s.ld.framed_framed x ctr).ferr
  have hkept : (s.ld.framed x ctr).boot = s.ld.boot ∧ (s.ld.framed x ctr).linkUp = s.ld.linkUp := ⟨rfl, rfl⟩
  generalize s.ld.framed x ctr = l at *
  obtain ⟨hinhand, hmerged, hurg, hbare, hhost⟩ := l.ackOne_shown (wbits w 0 6)
  have hack : l.faultAck w = l.ackOne (wbits w 0 6) := if_neg (Bool.eq_false_iff.mp hone)
  refine ⟨l.faultAck w, rfl, ?_, ?_, fun t hld => ?_⟩
  · rw [hack]
    exact (Logic.of_bare Logic.boot hbare).trans hkept.1
  · rw [hack]
    exact (Logic.of_bare Logic.linkUp hbare).trans hkept.2
  · rw [hld, hack]
    exact ⟨(congrArg HostRun.ferr hhost).trans hferr, hinhand, hmerged, hurg⟩

/-- A grade that is cleared (R372). -/
def Logic.gradeCleared (i : Nat) (l : Logic) : Logic :=
  let l := (l.putb (F.FAULT_SRC_STAT_SEVERE i) false).gen R.pageFAULT
  l.faultRecord 3 i (tget (fun _ => 0) l.faults.params i) 0 { code := 0, source := i, time := l.time }

/-- SAFE_CAUSE.FAULT clears (R372). -/
def Logic.faultSafeCleared (l : Logic) : Logic :=
  let l := l.put (safeCause 2) 0
  { l with pair := { l.pair with lockCatch := l.gb (safeCause 4) } }

/-- A count that is cleared, of a source without an event of this tick (R372). -/
def Logic.countCleared (i : Nat) (l : Logic) : Logic :=
  ({ l with faults := { l.faults with history := tput (fun _ => []) l.faults.history i [] } }).put (F.FAULT_SRC_STAT_COUNT i) 0

theorem eventsOf_now {i : Nat} {l : Logic} (h : (l.eventsOf i).all (fun x => x.1 != l.time) = true) :
    (l.eventsOf i).filter (fun x => x.1 == l.time) = [] := by
  refine List.filter_eq_nil_iff.mpr fun x hx heq => ?_
  have hne := List.all_eq_true.mp h x hx
  rw [bne, heq] at hne
  exact Bool.false_ne_true hne

theorem clearGrade_word : ∀ i : Fin 64, wbits (word (256 + i)) 0 6 = i.val ∧ wbit (word (256 + i)) 8 = true ∧ wbit (word (256 + i)) 9 = false := by
  decide

theorem clearCount_word : ∀ i : Fin 64, wbits (word (512 + i)) 0 6 = i.val ∧ wbit (word (512 + i)) 8 = false ∧ wbit (word (512 + i)) 9 = true := by
  decide

theorem Logic.faultClear_grade {i : Fin 64} {l : Logic} (h : (l.eventsOf i).all (fun x => x.1 != l.time) = true) :
    ∃ c, l.faultClear (word (256 + i)) = (l.when (l.severe i) (Logic.gradeCleared i)).when c Logic.faultSafeCleared := by
  obtain ⟨hsrc, h8, h9⟩ := clearGrade_word i
  unfold Logic.faultClear
  dsimp only
  rw [hsrc, h8, h9, eventsOf_now h]
  simp only [List.any_nil, bne_self_eq_false, Bool.false_and, Bool.or_false, Bool.not_false, Bool.true_and, Logic.when_true, Logic.when_false]
  exact ⟨_, rfl⟩

theorem Logic.faultClear_count {i : Fin 64} {l : Logic} (h : (l.eventsOf i).all (fun x => x.1 != l.time) = true) :
    l.faultClear (word (512 + i)) = l.countCleared i := by
  obtain ⟨hsrc, h8, h9⟩ := clearCount_word i
  unfold Logic.faultClear
  dsimp only
  rw [hsrc, h8, h9, eventsOf_now h]
  rfl

theorem Logic.gradeCleared_shown {i : Nat} (hi : i < 64) (l : Logic) : (l.gradeCleared i).gb (F.FAULT_SRC_STAT_SEVERE i) = false ∧
    (l.gradeCleared i).bare = l.bare ∧ (l.gradeCleared i).host = l.host := by
  have hrecord (m : Logic) (n k p r : Nat) (q : LoftReq) : (m.faultRecord n k p r q).regs = m.regs ∧ (m.faultRecord n k p r q).bare = m.bare ∧
    (m.faultRecord n k p r q).host = m.host := ⟨rfl, rfl, rfl⟩
  have hsevere : (l.putb (F.FAULT_SRC_STAT_SEVERE i) false).gb (F.FAULT_SRC_STAT_SEVERE i) = false := Logic.gb_putb_same _ _ rfl rfl
  have hgen : ((l.putb (F.FAULT_SRC_STAT_SEVERE i) false).gen R.pageFAULT).bare = l.bare := (Logic.bare_put ..).trans (Logic.bare_put ..)
  have hhost : ((l.putb (F.FAULT_SRC_STAT_SEVERE i) false).gen R.pageFAULT).host = l.host := (Logic.put_host ..).trans (Logic.put_host ..)
  have hstays := (Logic.Collects.gen hi (l.putb (F.FAULT_SRC_STAT_SEVERE i) false))
  have hword := (Logic.FaultKept.put (l.putb (F.FAULT_SRC_STAT_SEVERE i) false) (y := ⟨R.GEN R.pageFAULT, 0, 32⟩)
    ((l.putb (F.FAULT_SRC_STAT_SEVERE i) false).g ⟨R.GEN R.pageFAULT, 0, 32⟩ + 1) (by decide)).word (R.FAULT_SRC_STAT i)
      ((fault_stat hi).2.1.symm ▸ (fault_stat hi).1)
  have hcleared : ((l.putb (F.FAULT_SRC_STAT_SEVERE i) false).gen R.pageFAULT).gb (F.FAULT_SRC_STAT_SEVERE i) = false :=
    (Logic.gb_of_g (x := F.FAULT_SRC_STAT_SEVERE i) (congrArg (wbits · 16 1) hword :)).trans hsevere
  unfold Logic.gradeCleared
  dsimp only
  generalize (l.putb (F.FAULT_SRC_STAT_SEVERE i) false).gen R.pageFAULT = m at *
  obtain ⟨hregs, hbare, hhost'⟩ := hrecord m 3 i (tget (fun _ => 0) m.faults.params i) 0 { code := 0, source := i, time := m.time }
  exact ⟨(Logic.gb_of_g (Logic.g_of_regs hregs _)).trans hcleared, hbare.trans hgen, hhost'.trans hhost⟩

theorem Logic.faultSafeCleared_kept (l : Logic) : l.faultSafeCleared.FaultKept l ∧ l.faultSafeCleared.boot = l.boot ∧
    l.faultSafeCleared.linkUp = l.linkUp ∧ l.faultSafeCleared.host = l.host :=
  ⟨⟨fun _ ha => l.word_put_other (x := safeCause 2) 0 fun e => absurd (e ▸ ha) (by decide), rfl⟩, rfl, rfl, rfl⟩

theorem faultClear_grades (s : State) (ctr : Word) (i : Fin 64) (htold : s.told = true) (ht : s.ld.takes ctr R.FAULT_CLEAR (word (256 + i)))
    (hnow : (s.ld.eventsOf i).all (fun x => x.1 != s.ld.time) = true) :
    Answers (exec (.faultClearGrade (some ctr) i) s) fun t => t.ld.host.ferr = false ∧ t.ld.gb (F.FAULT_SRC_STAT_SEVERE i) = false := by
  refine answers_logicWord htold ht freeRegister_faultClear fun x _ => ?_
  have hferr := (s.ld.framed_framed x ctr).ferr
  have hkept : (s.ld.framed x ctr).boot = s.ld.boot ∧ (s.ld.framed x ctr).linkUp = s.ld.linkUp ∧
    ((s.ld.framed x ctr).eventsOf i).all (fun y => y.1 != (s.ld.framed x ctr).time) = true := ⟨rfl, rfl, hnow⟩
  generalize s.ld.framed x ctr = l at *
  obtain ⟨hboot, hlink, hnow'⟩ := hkept
  obtain ⟨c, hclear⟩ := Logic.faultClear_grade hnow'
  have hgrade : (l.when (l.severe i) (Logic.gradeCleared i)).gb (F.FAULT_SRC_STAT_SEVERE i) = false ∧
      (l.when (l.severe i) (Logic.gradeCleared i)).bare = l.bare ∧ (l.when (l.severe i) (Logic.gradeCleared i)).host = l.host := by
    cases hsevere : l.severe i with
    | true => exact l.gradeCleared_shown i.isLt
    | false => exact ⟨hsevere, rfl, rfl⟩
  generalize l.when (l.severe i) (Logic.gradeCleared i) = m at *
  obtain ⟨hsevere, hbare, hhost⟩ := hgrade
  have hends : (m.when c Logic.faultSafeCleared).FaultKept m ∧ (m.when c Logic.faultSafeCleared).boot = m.boot ∧
      (m.when c Logic.faultSafeCleared).linkUp = m.linkUp ∧ (m.when c Logic.faultSafeCleared).host = m.host := by
    cases c
    · exact ⟨.refl m, rfl, rfl, rfl⟩
    · exact m.faultSafeCleared_kept
  obtain ⟨hkept, hboot', hlink', hhost'⟩ := hends
  refine ⟨l.faultClear (word (256 + i)), rfl, ?_, ?_, fun t hld => ?_⟩
  · rw [hclear, hboot', Logic.of_bare Logic.boot hbare, hboot]
  · rw [hclear, hlink', Logic.of_bare Logic.linkUp hbare, hlink]
  · rw [hld, hclear]
    refine ⟨(congrArg HostRun.ferr (hhost'.trans hhost)).trans hferr, ?_⟩
    exact (Logic.gb_of_g (x := F.FAULT_SRC_STAT_SEVERE i) (congrArg (wbits · 16 1)
      (hkept.word (R.FAULT_SRC_STAT i) ((fault_stat i.isLt).2.1.symm ▸ (fault_stat i.isLt).1)) :)).trans hsevere

theorem Logic.countCleared_shown (i : Nat) (l : Logic) : (l.countCleared i).g (F.FAULT_SRC_STAT_COUNT i) = 0 ∧ (l.countCleared i).eventsOf i = [] ∧
    (l.countCleared i).boot = l.boot ∧ (l.countCleared i).linkUp = l.linkUp ∧ (l.countCleared i).host = l.host := by
  have hempty (m : Logic) (h : m.faults.history = tput (fun _ => []) l.faults.history i []) : m.eventsOf i = [] := by
    rw [Logic.eventsOf, h, tget_tput_same]
  unfold Logic.countCleared
  exact ⟨Logic.g_put_same _ (F.FAULT_SRC_STAT_COUNT i) 0 rfl, hempty _ (congrArg FaultRun.history (Logic.put_faults ..)), Logic.put_boot ..,
    Logic.put_linkUp .., Logic.put_host ..⟩

theorem faultClear_counts (s : State) (ctr : Word) (i : Fin 64) (htold : s.told = true) (ht : s.ld.takes ctr R.FAULT_CLEAR (word (512 + i)))
    (hnow : (s.ld.eventsOf i).all (fun x => x.1 != s.ld.time) = true) :
    Answers (exec (.faultClearCount (some ctr) i) s) fun t => t.ld.host.ferr = false ∧ t.ld.g (F.FAULT_SRC_STAT_COUNT i) = 0 ∧
      t.ld.eventsOf i = [] := by
  refine answers_logicWord htold ht freeRegister_faultClear fun x _ => ?_
  have hferr := (s.ld.framed_framed x ctr).ferr
  have hkept : (s.ld.framed x ctr).boot = s.ld.boot ∧ (s.ld.framed x ctr).linkUp = s.ld.linkUp ∧
    ((s.ld.framed x ctr).eventsOf i).all (fun y => y.1 != (s.ld.framed x ctr).time) = true := ⟨rfl, rfl, hnow⟩
  generalize s.ld.framed x ctr = l at *
  obtain ⟨hboot, hlink, hnow'⟩ := hkept
  have hclear := Logic.faultClear_count hnow'
  obtain ⟨hcount, hevents, hboot', hlink', hhost⟩ := l.countCleared_shown i
  have hframe (m : Logic) : (m.frameError opWriteAuth []).eventsOf i = m.eventsOf i ∧ (m.frameError opWriteAuth []).regs = m.regs := ⟨rfl, rfl⟩
  refine ⟨l.faultClear (word (512 + i)), rfl, ?_, ?_, fun t hld => ?_⟩
  · rw [hclear, hboot', hboot]
  · rw [hclear, hlink', hlink]
  · rw [hld, hclear]
    exact ⟨(congrArg HostRun.ferr hhost).trans hferr, (Logic.g_of_regs (hframe _).2 _).trans hcount, (hframe _).1.trans hevents⟩

theorem errout_releases (s : State) (ctr : Word) (htold : s.told = true) (ht : s.ld.takes ctr R.FAULT_ERRCTL 1#32) (herr : s.ld.errout = true)
    (hnow : s.ld.faults.errAt ≠ some s.ld.time) :
    Answers (exec (.erroutRelease (some ctr)) s) fun t => t.ld.host.ferr = false ∧ t.ld.released = true ∧ t.ld.errout = s.ld.minw := by
  refine answers_logicWord htold ht freeRegister_errCtl fun x _ => ?_
  have hferr := (s.ld.framed_framed x ctr).ferr
  have hkept : (s.ld.framed x ctr).boot = s.ld.boot ∧ (s.ld.framed x ctr).linkUp = s.ld.linkUp ∧ (s.ld.framed x ctr).errout = s.ld.errout ∧
    (s.ld.framed x ctr).minw = s.ld.minw ∧ (s.ld.framed x ctr).faults = s.ld.faults ∧ (s.ld.framed x ctr).time = s.ld.time :=
    ⟨rfl, rfl, rfl, rfl, rfl, rfl⟩
  generalize s.ld.framed x ctr = l at *
  obtain ⟨hboot, hlink, herr', hminw, hfaults, htime⟩ := hkept
  have hrelease : l.errRelease 1#32 = { l with released := true, errout := l.minw } := by
    rw [Logic.errRelease, herr', herr, hfaults, htime, beq_false_of_ne hnow]
    rfl
  refine ⟨l.errRelease 1#32, rfl, ?_, ?_, fun t hld => ?_⟩
  · rw [hrelease]
    exact hboot
  · rw [hrelease]
    exact hlink
  · rw [hld, hrelease]
    exact ⟨hferr, rfl, hminw⟩

/-- A fault event that the field die has kept, as it is delivered late (R378). -/
def FMsg.lateFault : FMsg → Option FaultEv
  | .fault e => some { e with late := true }
  | _ => none

theorem State.deliver_raised (s : State) : (s.deliver true).ld.raised = s.ld.raised ++ s.fd.out.filterMap FMsg.lateFault := by
  unfold State.deliver
  dsimp only
  generalize s.ld = l
  induction s.fd.out generalizing l with
  | nil => exact (List.append_nil _).symm
  | cons m ms ih =>
    refine (ih _).trans ?_
    cases m with
    | fault e => exact List.append_assoc ..
    | _ => rfl

theorem keptEvents_delivered (s : State) (hup : s.up) : Answers (exec .keptEventsDelivered s) fun t => t.fd.out = [] ∧
    t.ld.raised = s.ld.raised ++ s.fd.out.filterMap (fun m => match m with | .fault e => some { e with late := true } | _ => none) := by
  obtain ⟨-, hlink, hwaits⟩ := hup
  have hnone : (s.deliver true).fd.out = [] := by
    refine List.filter_eq_nil_iff.mpr fun m hm => ?_
    rw [List.all_eq_true.mp hwaits m hm]
    exact Bool.false_ne_true
  have hdrain : drain (s.deliver true) = s.deliver true := by
    unfold drain
    rw [hnone]
    split
    · exact congrArg (fun o => { s.deliver true with fd := { (s.deliver true).fd with out := o } }) hnone.symm
    · exact congrArg (fun o => { s.deliver true with fd := { (s.deliver true).fd with out := o } }) hnone.symm
  have hkept : s.deliverKept = s.deliver true := if_pos hlink
  refine ⟨_, runBoth_next .., ?_⟩
  dsimp only
  rw [hkept, hdrain]
  refine ⟨hnone, s.deliver_raised.trans (congrArg (s.ld.raised ++ ·) (List.filterMap_congr fun m _ => ?_))⟩
  cases m <;> rfl

theorem resetsNothing_of {i : Nat} {l : Logic} (h2 : nbit (l.g (F.FAULT_SRC_REACT_MILD i)) 2 = false)
    (h3 : nbit (l.g (F.FAULT_SRC_REACT_MILD i)) 3 = false) (h2' : nbit (l.g (F.FAULT_SRC_REACT_SEVERE i)) 2 = false)
    (h3' : nbit (l.g (F.FAULT_SRC_REACT_SEVERE i)) 3 = false) : l.resetsNothing i
  | false => ⟨h2, h3⟩
  | true => ⟨h2', h3'⟩

/-- Settles O11: an event is counted and reacted to, and acknowledgement, clears, ERROUT and late delivery act as written. -/
theorem faultRows : Obligations.FaultRows := by
  unfold Obligations.FaultRows
  refine ⟨fun s e htold hraised hi h2 h3 h2' h3' => faultEvent_counts s e htold hraised hi (resetsNothing_of h2 h3 h2' h3'),
    fun s e htold hraised hi hsevere hwdog hrun halone h2 h3 h2' h3' hsafe =>
      faultEvent_safe s e htold hraised hi hsevere hwdog hrun halone (resetsNothing_of h2 h3 h2' h3') hsafe,
    faultAck_ends, faultClear_grades, faultClear_counts, errout_releases, fun s hminw => ?minw, keptEvents_delivered⟩
  case minw =>
    have hends : s.ld.minwEnds = { s.ld with minw := false, errout := s.ld.errout && !s.ld.released } := if_pos hminw
    refine ⟨_, runLogic_next .., ?_⟩
    dsimp only
    rw [hends]
    exact ⟨rfl, rfl, rfl⟩

end Sys2Proof.Machine
end

section
/-! Crates: staging, a CLOSE, its checks and validation, the slot and the application (R248, R309-R313, R333, R424). -/

namespace Sys2Proof.Machine

open Sys2Proof

/-! Staging and a CLOSE that begins. -/

/-- One word into the buffer. -/
theorem Logic.stageWords_one {a : Nat} (ha : a < 16384) (w : Word) (l : Logic) : tget (fun _ => 0#32) (Logic.stageWords a [w] l).crate.stage a = w ∧
    (Logic.stageWords a [w] l).crate.fill = max l.crate.fill (a + 1) ∧ (Logic.stageWords a [w] l).crateState = stStaging ∧
    (Logic.stageWords a [w] l).boot = l.boot ∧ (Logic.stageWords a [w] l).linkUp = l.linkUp ∧ (Logic.stageWords a [w] l).host = l.host ∧
    (Logic.stageWords a [w] l).mram = l.mram := by
  have hstage : Logic.stageWords a [w] l = ({ l with crate := { l.crate with
      stage := tput (fun _ => 0#32) l.crate.stage a w, fill := max l.crate.fill (a + 1) } }).put F.DEVICE_CRATE_STAT_STATE stStaging :=
    if_pos ha
  rw [hstage]
  exact ⟨tget_tput_same .., rfl, Logic.g_put_same _ F.DEVICE_CRATE_STAT_STATE stStaging rfl, rfl, rfl, rfl, rfl⟩

theorem State.pushWords_one {a : Nat} (ha : a < 16384) (w : Word) {s : State} (hfree : s.ld.crateFree = true) :
    s.pushWords a [w] = ([], s.onLd (Logic.stageWords a [w])) := by
  have hlen : ¬16384 < a + [w].length := Nat.not_lt.mpr ha
  rw [State.pushWords, hfree, if_neg hlen]
  rfl

theorem cratePush_stages (s : State) (a : Addr) (w : Word) (htold : s.told = true) (hserves : s.ld.serves = true) (hfree : s.ld.crateFree = true)
    (ha : a.val < 16384) :
    Answers (exec (.cratePush a [w]) s) fun t => tget (fun _ => 0#32) t.ld.crate.stage a = w ∧ t.ld.crate.fill = max s.ld.crate.fill (a + 1) ∧
      t.ld.crateState = stStaging ∧ t.ld.host.ferr = false ∧ t.ld.mram = s.ld.mram := by
  have hframed := s.ld.openFrame_framed
  have hfree' : (s.onLd Logic.openFrame).ld.crateFree = true := by
    rw [← hfree, Logic.crateFree, Logic.crateFree, Logic.crateState, Logic.crateState, Logic.g, Logic.g]
    exact congrArg (fun n => decide (n ≤ stStaging)) (hframed.get (x := F.DEVICE_CRATE_STAT_STATE) (by decide))
  obtain ⟨hstage, hfill, hstate, hboot, hlink, hhost, hmram⟩ := s.ld.openFrame.stageWords_one ha w
  refine answers_frame htold (Logic.serves_answers hserves) (Logic.stops_serves hserves fun h => absurd h (by decide))
    (State.pushWords_one ha w hfree') (hboot.trans hframed.boot) (hlink.trans hframed.linkUp) rfl fun t hld _ => ?_
  have hld' : t.ld = (Logic.stageWords a [w] s.ld.openFrame).frameError opCratePush [] := hld
  rw [hld']
  generalize Logic.stageWords a [w] s.ld.openFrame = l at *
  exact ⟨hstage, hfill, hstate, (congrArg HostRun.ferr hhost).trans hframed.ferr, hmram⟩

theorem freeRegister_crateCtl : FreeRegister R.DEVICE_CRATE_CTL := freeRegister (by decide) fun _ _ => rfl

/-- A frame of one word leaves whether the buffer is free. -/
theorem Logic.Framed.crateFree {a b : Logic} (h : a.Framed b) : a.crateFree = b.crateFree :=
  congrArg (fun n => decide (n ≤ stStaging)) (h.get (x := F.DEVICE_CRATE_STAT_STATE) (by decide))

theorem Logic.beginClose_shown (apply joint : Bool) (l : Logic) : (l.beginClose apply joint).crateState = stChecking ∧
    (l.beginClose apply joint).crate.apply = apply ∧ (l.beginClose apply joint).mram = l.mram ∧ (l.beginClose apply joint).boot = l.boot ∧
    (l.beginClose apply joint).linkUp = l.linkUp ∧ (l.beginClose apply joint).host = l.host := by
  have hwhen (c : Bool) (m : Logic) (h : PairRun → PairRun) : (m.when c (Logic.modPair h)).regs = m.regs ∧ (m.when c (Logic.modPair h)).crate = m.crate ∧
      (m.when c (Logic.modPair h)).mram = m.mram ∧ (m.when c (Logic.modPair h)).boot = m.boot ∧ (m.when c (Logic.modPair h)).linkUp = m.linkUp ∧
      (m.when c (Logic.modPair h)).host = m.host := by
    cases c <;> exact ⟨rfl, rfl, rfl, rfl, rfl, rfl⟩
  unfold Logic.beginClose
  dsimp only
  obtain ⟨hregs, hcrate, hmram, hboot, hlink, hhost⟩ := hwhen _ (Logic.put F.DEVICE_CRATE_STAT_STATE stChecking _) _
  refine ⟨?_, ?_, hmram, hboot, hlink, hhost⟩
  · rw [Logic.crateState, Logic.g_of_regs hregs]
    exact Logic.g_put_same _ F.DEVICE_CRATE_STAT_STATE stChecking rfl
  · rw [hcrate]
    rfl

/-- A CLOSE begins (R309). -/
theorem closeStore_begins {s : State} {ctr : Word} {c : Nat} (hc : c = 1 ∨ c = 2) (htold : s.told = true)
    (ht : s.ld.takes ctr R.DEVICE_CRATE_CTL (word c)) (hfree : s.ld.crateFree = true) (hrole : s.ld.g F.PAIR_STAT_ROLE ≠ 2)
    (hlost : s.ld.cores.lost = 0) :
    Answers (runBoth (State.wordFrame (some ctr) R.DEVICE_CRATE_CTL (word c)) s) fun t => t.ld.host.ferr = false ∧ t.ld.crateState = stChecking ∧
      t.ld.crate.apply = (c == 2) ∧ t.ld.mram.slots = s.ld.mram.slots := by
  refine answers_logicWord htold ht freeRegister_crateCtl fun x _ => ?_
  have hframed := s.ld.framed_framed x ctr
  have hrole' : (s.ld.framed x ctr).g F.PAIR_STAT_ROLE ≠ 2 := fun h => hrole ((hframed.get (by decide)).symm.trans h)
  have hkept : (s.ld.framed x ctr).cores.lost = 0 ∧ (s.ld.framed x ctr).mram = s.ld.mram := ⟨hlost, rfl⟩
  have hfree' := hframed.crateFree.trans hfree
  obtain ⟨hferr, hboot, hlink⟩ := And.intro hframed.ferr (And.intro hframed.boot hframed.linkUp)
  generalize s.ld.framed x ctr = l at *
  obtain ⟨hlost', hmram⟩ := hkept
  have hctl : ({ s with ld := l } : State).crateCtl (word c) = ({ s with ld := l.beginClose (c == 2) l.leadReady } : State).did := by
    have hnone : (decide (l.g F.PAIR_STAT_ROLE = 2) || (c == 2 && nbit l.cores.lost 0)) = false := by
      rw [hlost', decide_eq_false hrole']
      exact Bool.and_false _
    rcases hc with rfl | rfl <;>
    · unfold State.crateCtl
      dsimp only
      rw [hfree']
      exact if_neg (Bool.eq_false_iff.mp hnone)
  obtain ⟨hstate, happly, hslots, hboot', hlink', hhost⟩ := l.beginClose_shown (c == 2) l.leadReady
  refine ⟨l.beginClose (c == 2) l.leadReady, hctl, hboot'.trans hboot, hlink'.trans hlink, fun t hld => ?_⟩
  rw [hld]
  generalize l.beginClose (c == 2) l.leadReady = m at *
  exact ⟨(congrArg HostRun.ferr hhost).trans hferr, hstate, happly, congrArg Mram.slots (hslots.trans hmram)⟩

theorem discard_empties (s : State) (ctr : Word) (htold : s.told = true) (ht : s.ld.takes ctr R.DEVICE_CRATE_CTL 3#32)
    (hfree : s.ld.crateFree = true) :
    Answers (exec (.discardStaging (some ctr)) s) fun t => t.ld.host.ferr = false ∧ t.ld.crateState = stIdle ∧ t.ld.crate.stage = [] ∧
      t.ld.crate.fill = 0 := by
  refine answers_logicWord htold ht freeRegister_crateCtl fun x _ => ?_
  have hframed := s.ld.framed_framed x ctr
  have hfree' := hframed.crateFree.trans hfree
  obtain ⟨hferr, hboot, hlink⟩ := And.intro hframed.ferr (And.intro hframed.boot hframed.linkUp)
  generalize s.ld.framed x ctr = l at *
  have hctl : ({ s with ld := l } : State).crateCtl 3#32 = ({ s with ld := l.emptyStage.put F.DEVICE_CRATE_STAT_STATE stIdle } : State).did := by
    unfold State.crateCtl
    dsimp only
    rw [hfree']
    rfl
  refine ⟨l.emptyStage.put F.DEVICE_CRATE_STAT_STATE stIdle, hctl, hboot, hlink, fun t hld => ?_⟩
  rw [hld]
  exact ⟨hferr, Logic.g_put_same _ F.DEVICE_CRATE_STAT_STATE stIdle rfl, rfl, rfl⟩

/-! Checks, validation and the slot (R310, R311). -/

/-- What the end of a CLOSE shows (R309, R317). -/
theorem Logic.endClose_shown {k : Nat} (hk : k < 16) (page : Nat) (l : Logic) : (l.endClose k page).crateState = stIdle ∧
    (l.endClose k page).g F.DEVICE_CRATE_STAT_REASON = k ∧ (l.endClose k page).gb F.DEVICE_CRATE_STAT_LAST_OK = (k == 0) ∧
    (l.endClose k page).crate.stage = [] := by
  have hbit : (if k = 0 then 8 else 9) < 32 := by split <;> decide
  have hshown (m : Logic) (b : Bool) : ((((m.put F.DEVICE_CRATE_STAT_STATE stIdle).put F.DEVICE_CRATE_STAT_REASON k).put F.DEVICE_CRATE_STAT_PAGE
        page).putb F.DEVICE_CRATE_STAT_LAST_OK b).g F.DEVICE_CRATE_STAT_STATE = stIdle ∧
      ((((m.put F.DEVICE_CRATE_STAT_STATE stIdle).put F.DEVICE_CRATE_STAT_REASON k).put F.DEVICE_CRATE_STAT_PAGE
        page).putb F.DEVICE_CRATE_STAT_LAST_OK b).g F.DEVICE_CRATE_STAT_REASON = k ∧
      ((((m.put F.DEVICE_CRATE_STAT_STATE stIdle).put F.DEVICE_CRATE_STAT_REASON k).put F.DEVICE_CRATE_STAT_PAGE
        page).putb F.DEVICE_CRATE_STAT_LAST_OK b).gb F.DEVICE_CRATE_STAT_LAST_OK = b := by
    rw [Logic.putb_eq]
    refine ⟨?_, ?_, ?_⟩
    · rw [Logic.g_put_clear _ _ _ _ rfl rfl, Logic.g_put_clear _ _ _ _ rfl rfl, Logic.g_put_clear _ _ _ _ rfl rfl, Logic.g_put_same _ _ _ rfl]
      rfl
    · rw [Logic.g_put_clear _ _ _ _ rfl rfl, Logic.g_put_clear _ _ _ _ rfl rfl, Logic.g_put_same _ _ _ rfl]
      exact Nat.mod_eq_of_lt hk
    · rw [Logic.gb_eq, Logic.g_put_same _ _ _ rfl]
      cases b <;> rfl
  unfold Logic.endClose
  dsimp only
  generalize hm : Logic.modPair _ _ = m
  have hstage : m.crate.stage = [] := by rw [← hm]; rfl
  obtain ⟨hstate, hreason, hlast⟩ := hshown m (k == 0)
  rw [Logic.crateState, Logic.gb_eq, Logic.g_evt_device _ _ rfl hbit, Logic.g_evt_device _ _ rfl hbit, Logic.g_evt_device _ _ rfl hbit]
  exact ⟨hstate, hreason, hlast, hstage⟩

/-- The owner key that a crate's signature was verified under is noted (R311). -/
def Logic.signerNoted (l : Logic) : Logic := { l with crate := { l.crate with signer := l.mram.owner.getD 0 } }

/-- What follows checks that pass (R310). -/
def Logic.afterChecks (l : Logic) : Nat := if l.crate.apply || l.crate.joint then stValidating else stWriting

theorem crateChecks_pass (s : State) (sig : Bool) (keys : KeyCheck) (htold : s.told = true) (hstate : s.ld.crateState = stChecking)
    (hpass : s.ld.checkSteps s.ld.crate.words sig keys = 0) :
    Answers (exec (.crateChecksComplete sig keys) s) fun t =>
      t.ld.crateState = (if s.ld.crate.apply || s.ld.crate.joint then stValidating else stWriting) ∧ t.ld.mram = s.ld.mram := by
  have hdone : s.checksDone sig keys = { s with ld := s.ld.signerNoted.put F.DEVICE_CRATE_STAT_STATE s.ld.afterChecks } := by
    unfold State.checksDone
    dsimp only
    rw [if_neg (not_not_intro hstate), hpass, if_neg (not_not_intro rfl)]
    rfl
  refine answers_told (g := State.checksDone sig keys) htold (by rw [hdone]; rfl) (by rw [hdone]) fun t hld _ => ?_
  rw [hld, hdone]
  refine ⟨(Logic.g_put_same _ F.DEVICE_CRATE_STAT_STATE _ rfl).trans ?_, rfl⟩
  unfold Logic.afterChecks
  split <;> rfl

theorem crateChecks_fail (s : State) (sig : Bool) (keys : KeyCheck) (k : Nat) (htold : s.told = true) (hstate : s.ld.crateState = stChecking)
    (h0 : k ≠ 0) (h4 : k ≠ 4) (h8 : k = 8 → keys ≠ .badPoint) (hfails : s.ld.checkSteps s.ld.crate.words sig keys = k) :
    Answers (exec (.crateChecksComplete sig keys) s) fun t => t.ld.crateState = stIdle ∧ t.ld.g F.DEVICE_CRATE_STAT_REASON = k ∧
      t.ld.gb F.DEVICE_CRATE_STAT_LAST_OK = false ∧ t.ld.crate.stage = [] ∧ t.ld.mram = s.ld.mram := by
  have hk : k < 16 := by
    rw [← hfails]
    unfold Logic.checkSteps
    repeat' split
    all_goals decide
  have hnot : ¬((k = 4 ∧ (!sig) = true) ∨ (k = 8 ∧ crateKeysAllowed s.ld.crate.words = true ∧ keys = .badPoint)) := by
    rintro (⟨h, -⟩ | ⟨h, -, hbad⟩)
    · exact h4 h
    · exact h8 h hbad
  have hdone : s.checksDone sig keys = { s with ld := (s.ld.tellCheck false).endClose k 0 } := by
    unfold State.checksDone
    dsimp only
    rw [if_neg (not_not_intro hstate), hfails, if_pos h0, if_neg hnot]
  have htell : (s.ld.tellCheck false).linkUp = s.ld.linkUp := by simp [Logic.tellCheck]
  obtain ⟨hidle, hreason, hlast, hstage⟩ := (s.ld.tellCheck false).endClose_shown hk 0
  refine answers_told (g := State.checksDone sig keys) htold (by rw [hdone]; exact (Logic.endClose_linkUp ..).trans htell) (by rw [hdone])
    fun t hld _ => ?_
  rw [hld, hdone]
  exact ⟨hidle, hreason, hlast.trans (beq_false_of_ne h0), hstage, (Logic.endClose_mram ..).trans (Logic.tellCheck_mram ..)⟩

theorem Logic.showVerdict_same (v : Verdict) (l : Logic) : (l.showVerdict v).crate = l.crate ∧ (l.showVerdict v).mode = l.mode ∧
    (l.showVerdict v).linkUp = l.linkUp := by
  unfold Logic.showVerdict
  induction v.words generalizing l with
  | nil => exact ⟨rfl, rfl, rfl⟩
  | cons x xs ih =>
    have hone (m : Logic) : (m.when (x.2 != vfailIdle x.1) (Logic.evt (x.1 / 256) (validFailBit x.1))).crate = m.crate ∧
        (m.when (x.2 != vfailIdle x.1) (Logic.evt (x.1 / 256) (validFailBit x.1))).mode = m.mode ∧
        (m.when (x.2 != vfailIdle x.1) (Logic.evt (x.1 / 256) (validFailBit x.1))).linkUp = m.linkUp := by
      unfold Logic.when
      split <;> simp [Logic.evt_eq]
    obtain ⟨hcrate, hmode, hlink⟩ := hone (l.putWord x.1 (word x.2))
    obtain ⟨hcrate', hmode', hlink'⟩ := ih ((l.putWord x.1 (word x.2)).when (x.2 != vfailIdle x.1) (Logic.evt (x.1 / 256) (validFailBit x.1)))
    rw [List.foldl_cons]
    exact ⟨hcrate'.trans hcrate, hmode'.trans hmode, hlink'.trans hlink⟩

/-- The configuration of a crate, and what its validation is. -/
def Logic.staged (l : Logic) : RegFile := crateConfig l.regs l.crate.words
def Logic.stagedVerdict (l : Logic) : Verdict := validate (crateTarget l.crate.words == 1) none l.staged

/-- The logic die with a validation's verdict (R424). -/
def Logic.validated (l : Logic) : Logic := ({ l with crate := { l.crate with config := l.staged } }).showVerdict l.stagedVerdict

theorem Logic.validated_same (l : Logic) : l.validated.crate = { l.crate with config := l.staged } ∧ l.validated.mode = l.mode ∧
    l.validated.linkUp = l.linkUp ∧ l.validated.mram = l.mram := by
  obtain ⟨hcrate, hmode, hlink⟩ := ({ l with crate := { l.crate with config := l.staged } } : Logic).showVerdict_same l.stagedVerdict
  exact ⟨hcrate, hmode, hlink, Logic.showVerdict_mram ..⟩

/-- The validation in COMMISSION: a configuration that is consistent goes on, another ends the CLOSE (R27, R310). -/
theorem State.validationDone_commission {s : State} (hstate : s.ld.crateState = stValidating) (hmine : s.ld.crate.mine = false)
    (hmode : s.ld.mode = .commission) :
    (s.ld.stagedVerdict.ok = false → ∃ page, s.validationDone = { s with ld := (s.ld.validated.tellCheck false).endClose 9 page }) ∧
    (s.ld.stagedVerdict.ok = true → s.ld.crate.joint = false →
      s.validationDone = { s with ld := s.ld.validated.put F.DEVICE_CRATE_STAT_STATE stWriting }) := by
  have hrun : (s.ld.mode == .run || s.ld.mode == .safe) = false := by rw [hmode]; rfl
  obtain ⟨hcrate, hmode', -, -⟩ := s.ld.validated_same
  have happlies : s.ld.validated.modeApplies s.ld.crate.words = true := by rw [Logic.modeApplies, hmode'.trans hmode]
  have hdone : s.validationDone = match (if (!s.ld.stagedVerdict.ok) = true then some (9, s.ld.stagedVerdict.page)
      else if (s.ld.validated.crate.apply && !s.ld.validated.modeApplies s.ld.crate.words) = true then some (10, 0)
      else none) with
    | some (k, p) => { s with ld := (s.ld.validated.tellCheck false).endClose k p }
    | none =>
      if s.ld.validated.crate.joint = true then
        { s with ld := (({ s.ld.validated with crate := { s.ld.validated.crate with mine := true } } : Logic).tellCheck true).joinChecks }
      else { s with ld := s.ld.validated.put F.DEVICE_CRATE_STAT_STATE stWriting } := by
    unfold State.validationDone
    dsimp only
    rw [if_neg (by simp [hstate, hmine])]
    simp only [hrun, Bool.false_and, Bool.and_false, Bool.false_eq_true, if_false, Logic.when_false]
    rfl
  refine ⟨fun hok => ⟨s.ld.stagedVerdict.page, ?_⟩, fun hok hjoint => ?_⟩
  · rw [hdone, hok]
    rfl
  · have hjoint' : s.ld.validated.crate.joint = false := by rw [hcrate]; exact hjoint
    rw [hdone, hok, happlies, hjoint', Bool.not_true, Bool.and_false]
    rfl

theorem crateValidation_passes (s : State) (htold : s.told = true) (hstate : s.ld.crateState = stValidating) (hmine : s.ld.crate.mine = false)
    (hjoint : s.ld.crate.joint = false) (hmode : s.ld.mode = .commission) (hok : s.ld.stagedVerdict.ok = true) :
    Answers (exec .crateValidationComplete s) fun t => t.ld.crateState = stWriting ∧
      t.ld.crate.config = crateConfig s.ld.regs s.ld.crate.words := by
  have hdone := (State.validationDone_commission hstate hmine hmode).2 hok hjoint
  obtain ⟨hcrate, -, hlink, -⟩ := s.ld.validated_same
  refine answers_told (g := State.validationDone) htold (by rw [hdone]; exact hlink) (by rw [hdone]) fun t hld _ => ?_
  rw [hld, hdone]
  exact ⟨Logic.g_put_same _ F.DEVICE_CRATE_STAT_STATE stWriting rfl, congrArg CrateRun.config hcrate⟩

theorem crateValidation_ends (s : State) (htold : s.told = true) (hstate : s.ld.crateState = stValidating) (hmine : s.ld.crate.mine = false)
    (hmode : s.ld.mode = .commission) (hok : s.ld.stagedVerdict.ok = false) :
    Answers (exec .crateValidationComplete s) fun t => t.ld.crateState = stIdle ∧ t.ld.g F.DEVICE_CRATE_STAT_REASON = 9 ∧
      t.ld.mram = s.ld.mram := by
  obtain ⟨page, hdone⟩ := (State.validationDone_commission hstate hmine hmode).1 hok
  obtain ⟨-, -, hlink, hmram⟩ := s.ld.validated_same
  have htell : (s.ld.validated.tellCheck false).linkUp = s.ld.validated.linkUp := by simp [Logic.tellCheck]
  obtain ⟨hidle, hreason, -, -⟩ := (s.ld.validated.tellCheck false).endClose_shown (k := 9) (by decide) page
  refine answers_told (g := State.validationDone) htold ?_ (by rw [hdone]) fun t hld _ => ?_
  · rw [hdone]
    exact (Logic.endClose_linkUp ..).trans (htell.trans hlink)
  · rw [hld, hdone]
    exact ⟨hidle, hreason, (Logic.endClose_mram ..).trans ((Logic.tellCheck_mram ..).trans hmram)⟩

theorem Logic.writeSlot_slot (p : Nat) (ws : List Word) (l : Logic) : ((l.writeSlot p ws).mram.slot p).words = ws := by
  have hslot : (l.writeSlot p ws).mram.slot p = tget (fun _ => {}) (tput (fun _ => {}) l.mram.slots p _) p := rfl
  rw [hslot, tget_tput_same]

theorem slotWritten_stores (s : State) (hstate : s.ld.crateState = stWriting) (happly : s.ld.crate.apply = false) :
    Answers (exec .crateSlotWritten s) fun t => (t.ld.mram.slot s.ld.mram.spare).words = s.ld.crate.words ∧ t.ld.mram.pending = s.ld.mram.spare ∧
      t.ld.mram.spare = s.ld.mram.pending ∧ t.ld.mram.active = s.ld.mram.active ∧ t.ld.g F.DEVICE_CRATE_STAT_REASON = 0 := by
  have hwritten : s.ld.slotWritten = ((s.ld.writeSlot s.ld.mram.spare s.ld.crate.words).keep fun m =>
      { m with pending := m.spare, spare := m.pending }).endClose 0 0 := by
    have happly' : (s.ld.writeSlot s.ld.mram.spare s.ld.crate.words).crate.apply = false := happly
    unfold Logic.slotWritten
    dsimp only
    rw [if_neg (not_not_intro hstate), happly', if_neg Bool.false_ne_true]
  have hslot := s.ld.writeSlot_slot s.ld.mram.spare s.ld.crate.words
  refine ⟨_, runLogic_next .., ?_⟩
  dsimp only
  rw [hwritten, Logic.endClose_mram]
  refine ⟨hslot, rfl, rfl, rfl, ?_⟩
  exact (Logic.endClose_shown (by decide) 0 _).2.1

theorem Logic.lockNext_mram (l : Logic) : l.lockNext.mram = l.mram := by
  unfold Logic.lockNext
  split
  · split
    · rfl
    · exact Logic.put_mram ..
  · rfl

theorem Logic.beginApply_mram (ps : List Nat) (c : RegFile) (l : Logic) : (l.beginApply ps c).mram = l.mram := by
  unfold Logic.beginApply
  rw [Logic.lockNext_mram]
  rfl

theorem Logic.writeSlot_kept (p : Nat) (ws : List Word) (l : Logic) : (l.writeSlot p ws).mram.active = l.mram.active ∧
    (l.writeSlot p ws).crate = l.crate := ⟨rfl, rfl⟩

theorem Logic.slotWritten_apply {l : Logic} (hstate : l.crateState = stWriting) (happly : l.crate.apply = true) : l.slotWritten =
    ((l.writeSlot l.mram.spare l.crate.words).beginApply (cratePages l.crate.words)
      (crateConfig (l.writeSlot l.mram.spare l.crate.words).regs l.crate.words)).put F.DEVICE_CRATE_STAT_STATE stApplying := by
  have happly' : (l.writeSlot l.mram.spare l.crate.words).crate.apply = true := (congrArg CrateRun.apply (l.writeSlot_kept ..).2).trans happly
  unfold Logic.slotWritten
  rw [if_neg (not_not_intro hstate)]
  dsimp only
  rw [if_pos happly']

theorem slotWritten_applies (s : State) (hstate : s.ld.crateState = stWriting) (happly : s.ld.crate.apply = true) :
    Answers (exec .crateSlotWritten s) fun t => (t.ld.mram.slot s.ld.mram.spare).words = s.ld.crate.words ∧ t.ld.mram.active = s.ld.mram.active ∧
      t.ld.crateState = stApplying := by
  have hslot := s.ld.writeSlot_slot s.ld.mram.spare s.ld.crate.words
  have hactive := (s.ld.writeSlot_kept s.ld.mram.spare s.ld.crate.words).1
  refine ⟨_, runLogic_next .., ?_⟩
  dsimp only
  rw [Logic.slotWritten_apply hstate happly, Logic.put_mram, Logic.beginApply_mram]
  generalize s.ld.writeSlot s.ld.mram.spare s.ld.crate.words = l at *
  refine ⟨hslot, hactive, ?_⟩
  rw [Logic.crateState, Logic.g_put_same _ _ _ rfl]
  rfl

/-! What reports show (R390, R396, R398). -/

/-- EVT_RAW and GEN of any page, and the Larder's LAST: what a report may write. -/
def isReportWord (a : Nat) : Bool := a % 256 == 3 || a % 256 == 8 || a == R.LARDER_LAST

/-- Two logic dies that agree in every other register. -/
structure Logic.Reported (t l : Logic) : Prop where
  word : ∀ a, isReportWord (regHome a) = false → t.regs.word a = l.regs.word a

namespace Logic.Reported

variable {t l m : Logic}

theorem refl (l : Logic) : l.Reported l := ⟨fun _ _ => rfl⟩

theorem trans (h : t.Reported l) (k : l.Reported m) : t.Reported m := ⟨fun a ha => (h.word a ha).trans (k.word a ha)⟩

theorem of_regs (h : t.regs = l.regs) : t.Reported l := ⟨fun a _ => by rw [h]⟩

theorem put (l : Logic) (y : Fld) (v : Nat) (hy : isReportWord (regHome y.addr) = true) : (l.put y v).Reported l :=
  ⟨fun _ ha => l.word_put_other v fun e => Bool.false_ne_true (((e ▸ ha : isReportWord (regHome y.addr) = false).symm).trans hy)⟩

theorem setEvt (l : Logic) (p b q : Nat) (i u f : Bool) (t : Nat) (z : Option Nat) : (l.setEvt p b q i u f t z).Reported l := by
  refine trans (of_regs (Logic.setEvt_regs ..)) (put l ⟨R.EVT_RAW p, b, 1⟩ 1 ?_)
  have hmod : regHome (R.EVT_RAW p) % 256 = 3 := by rw [regHome_mod, R.EVT_RAW]; omega
  rw [isReportWord, hmod]
  rfl

theorem gen (p : Nat) (l : Logic) : (l.gen p).Reported l := by
  refine put l ⟨R.GEN p, 0, 32⟩ _ ?_
  have hmod : regHome (R.GEN p) % 256 = 8 := by rw [regHome_mod, R.GEN]; omega
  rw [isReportWord, hmod]
  rfl

theorem when {c : Bool} {h : Logic → Logic} (hh : ∀ l, (h l).Reported l) (l : Logic) : (l.when c h).Reported l := by
  cases c
  · exact refl l
  · exact hh l

theorem larderGen (l : Logic) : l.larderGen.Reported l := by
  unfold Logic.larderGen
  split
  · exact refl l
  · exact (gen _ _).trans (of_regs rfl)

theorem fewer (k i n : Nat) (j : Bool) (l : Logic) : (l.fewer k i n j).Reported l := by
  have hevt (m : Logic) : (m.larderEvt 4 k i 0 j).Reported m := setEvt m ..
  have hfault (src : Nat) (m : Logic) : (m.fault src false (some k) j).Reported m := of_regs rfl
  unfold Logic.fewer
  exact (when (hfault 61) _).trans ((when (hfault 62) _).trans (when hevt l))

theorem larderKeep (h : LarderStore → LarderStore) (l : Logic) : (l.larderKeep h).Reported l := of_regs rfl

theorem retire (k i c : Nat) (w j : Bool) (l : Logic) : (l.retire k i c w j).Reported l := by
  unfold Logic.retire
  split
  · exact refl l
  · exact (larderGen _).trans ((when (fewer _ _ _ _) _).trans ((setEvt _ ..).trans ((put _ _ _ (by decide)).trans ((put _ _ _ (by decide)).trans
      ((put _ _ _ (by decide)).trans ((put _ _ _ (by decide)).trans (larderKeep _ l)))))))

theorem spareIn (k i : Nat) (l : Logic) : (l.spareIn k i).Reported l :=
  (larderGen _).trans ((fewer _ _ _ _ _).trans ((setEvt _ ..).trans (larderKeep _ l)))

theorem defer (k i : Nat) (on : Bool) (l : Logic) : (l.defer k i on).Reported l := by
  unfold Logic.defer
  dsimp only
  split
  · split
    · exact refl l
    · exact (larderGen _).trans ((setEvt _ ..).trans (of_regs rfl))
  · split
    · exact (larderGen _).trans (of_regs rfl)
    · exact refl l

theorem takeMsg {msg : FMsg} (h : msg.reports = true) (t : Nat) (l : Logic) : (Machine.takeMsg t msg l).Reported l := by
  cases msg with
  | evt => exact setEvt l ..
  | gen p =>
    simp only [Machine.takeMsg]
    split
    · exact larderGen l
    · exact gen p l
  | retire => exact retire ..
  | spareIn => exact spareIn ..
  | defer => exact defer ..
  | slice => exact (larderGen _).trans (larderKeep _ l)
  | segments | refs => exact of_regs rfl
  | fault | record => exact refl l
  | _ => exact absurd h Bool.false_ne_true

end Logic.Reported

/-- Where the field die tells nothing but reports. -/
theorem drain_reported {s : State} (hr : s.ld.linkUp = true → s.fd.reports = true) : (drain s).ld.Reported s.ld := by
  have hfold (ms : List FMsg) (hms : ms.all FMsg.reports = true) (l : Logic) :
      (ms.foldl (fun l m => takeMsg s.fd.time m l) l).Reported l := by
    induction ms generalizing l with
    | nil => exact .refl l
    | cons m ms ih =>
      obtain ⟨hm, hms⟩ := Bool.and_eq_true_iff.mp hms
      exact (ih hms _).trans (Logic.Reported.takeMsg hm _ l)
  cases hl : s.ld.linkUp with
  | false => rw [drain_ld_down s hl]; exact .refl _
  | true => rw [drain_ld s hl]; exact hfold _ (hr hl) s.ld

/-! The consumer keys of a crate (R308, R313). -/

/-- The labels, FLOOR and BOOT_EPOCH of MRAM (R311, R315). -/
def Mram.ranks (m : Mram) : List Nat × Nat × Nat := (m.labels, m.floor, m.epoch)

@[simp] theorem Logic.moveSlot_ranks (i j : Nat) (l : Logic) : (l.moveSlot i j).mram.vault.ranks = l.mram.vault.ranks := by
  unfold Logic.moveSlot Logic.keep
  dsimp only
  repeat' split
  all_goals rfl

@[simp] theorem Logic.slotShort_vault (l : Logic) : l.slotShort.mram.vault = l.mram.vault := by
  simp -implicitDefEqProofs [Logic.slotShort]

@[simp] theorem Logic.rotateKey_ranks (i : Nat) (l : Logic) : (l.rotateKey i).2.mram.vault.ranks = l.mram.vault.ranks := by
  unfold Logic.rotateKey
  split
  · exact l.moveSlot_ranks ..
  · rw [Logic.slotShort_vault]

theorem Logic.each_ranks {h : Nat → Logic → Logic} (hh : ∀ n l, (h n l).mram.vault.ranks = l.mram.vault.ranks) (ns : List Nat) (l : Logic) :
    (Logic.each ns h l).mram.vault.ranks = l.mram.vault.ranks := by
  unfold Logic.each
  induction ns generalizing l with
  | nil => rfl
  | cons n ns ih => exact (ih _).trans (hh n l)

/-- The slot that a key of a crate goes to: by rotation (R308, R313). -/
def Logic.rotateFor (k : Nat) (new : Option Nat) (l : Logic) : Bool × Logic :=
  match new with
  | some _ =>
    if !l.gb cellarIdOk then (false, l)
    else
      let (ok, l) := l.rotateKey (4 + tget (fun k => k) l.mram.keySlots k)
      (ok, l.when (!ok) (Logic.countRefusal (R.CLASS R.pageCELLAR) rBlock))
  | none => (true, l)

/-- The key that slot k has taken or lost. -/
def Logic.keyTaken (k : Nat) (new old : Option Nat) (ok : Bool) (l : Logic) : Logic :=
  if !ok then l
  else
    let l := l.keep fun m => { m with keys := match new with
      | some v => tins m.keys k v
      | none => tdel m.keys k }
    { l with crate := { l.crate with oldKeys := l.crate.oldKeys ++ [(k, l.time, old)] } }

/-- The key of slot k. -/
def Logic.slotKey (k : Nat) (l : Logic) : Option Nat := (l.mram.keys.find? fun x => x.1 == k).map (·.2)

/-- Slot k takes its key from a crate. -/
def Logic.takeKey (ws : List Word) (k : Nat) (l : Logic) : Logic :=
  if crateKey k ws = l.slotKey k then l
  else (l.rotateFor k (crateKey k ws)).2.keyTaken k (crateKey k ws) (l.slotKey k) (l.rotateFor k (crateKey k ws)).1

theorem Logic.takeKeys_eq (ws : List Word) (l : Logic) : l.takeKeys ws = Logic.each (List.range 8) (Logic.takeKey ws) l := (rfl)

theorem Logic.rotateFor_ranks (k : Nat) (new : Option Nat) (l : Logic) : (l.rotateFor k new).2.mram.vault.ranks = l.mram.vault.ranks := by
  have hrefuse (c : Bool) (m : Logic) :
      (m.when c (Logic.countRefusal (R.CLASS R.pageCELLAR) rBlock)).mram.vault.ranks = m.mram.vault.ranks := by
    simp -implicitDefEqProofs
  unfold Logic.rotateFor
  split
  · split
    · rfl
    · exact (hrefuse _ _).trans (l.rotateKey_ranks _)
  · rfl

theorem Logic.keyTaken_ranks (k : Nat) (new old : Option Nat) (ok : Bool) (l : Logic) :
    (l.keyTaken k new old ok).mram.vault.ranks = l.mram.vault.ranks := by
  unfold Logic.keyTaken
  split <;> rfl

@[simp] theorem Logic.takeKeys_ranks (ws : List Word) (l : Logic) : (l.takeKeys ws).mram.vault.ranks = l.mram.vault.ranks := by
  rw [Logic.takeKeys_eq]
  refine Logic.each_ranks (fun k l => ?_) _ l
  unfold Logic.takeKey
  split
  · rfl
  · exact (Logic.keyTaken_ranks ..).trans (Logic.rotateFor_ranks ..)

theorem Logic.rotateFor_linkUp (k : Nat) (new : Option Nat) (l : Logic) : (l.rotateFor k new).2.linkUp = l.linkUp := by
  have hrefuse (c : Bool) (m : Logic) : (m.when c (Logic.countRefusal (R.CLASS R.pageCELLAR) rBlock)).linkUp = m.linkUp := by
    exact Logic.when_linkUp _ _ _ fun m => Logic.of_bare Logic.linkUp (m.bare_countRefusal ..)
  have hrotate (i : Nat) : (l.rotateKey i).2.linkUp = l.linkUp := by
    unfold Logic.rotateKey
    split
    · rfl
    · simp -implicitDefEqProofs [Logic.slotShort]
  unfold Logic.rotateFor
  split
  · split
    · rfl
    · exact (hrefuse _ _).trans (hrotate _)
  · rfl

theorem Logic.takeKeys_linkUp (ws : List Word) (l : Logic) : (l.takeKeys ws).linkUp = l.linkUp := by
  have hkey (k : Nat) (new old : Option Nat) (ok : Bool) (m : Logic) : (m.keyTaken k new old ok).linkUp = m.linkUp := by
    unfold Logic.keyTaken
    split <;> rfl
  have hone (k : Nat) (m : Logic) : (m.takeKey ws k).linkUp = m.linkUp := by
    unfold Logic.takeKey
    split
    · rfl
    · exact (hkey ..).trans (m.rotateFor_linkUp ..)
  rw [Logic.takeKeys_eq]
  unfold Logic.each
  generalize List.range 8 = ns
  induction ns generalizing l with
  | nil => rfl
  | cons n ns ih => exact (ih _).trans (hone n l)

theorem Mram.labels_of_ranks {m n : Mram} (h : m.vault.ranks = n.vault.ranks) : m.active = n.active ∧ m.pending = n.pending ∧
    m.fallback = n.fallback ∧ m.spare = n.spare := by
  have hlabels : [m.active, m.pending, m.fallback, m.spare] = [n.active, n.pending, n.fallback, n.spare] := congrArg Prod.fst h
  simpa using hlabels

/-! The end of an application (R42, R43, R313). -/

namespace Field

@[simp] theorem reports_initTh (f : Field) (c : Nat) (b : Bool) : (f.initTh c b).reports = f.reports := by
  unfold initTh showTh
  cases b <;> simp -implicitDefEqProofs

@[simp] theorem reports_enableCtx (f : Field) (c : Nat) : (f.enableCtx c).reports = f.reports := by simp -implicitDefEqProofs [enableCtx]

@[simp] theorem reports_beginRuns (f : Field) : f.beginRuns.reports = f.reports := by simp -implicitDefEqProofs [beginRuns]

@[simp] theorem reports_holdCrate (f : Field) (ws : List Word) : (f.holdCrate ws).reports = f.reports := by
  simp -implicitDefEqProofs [holdCrate]

@[simp] theorem reports_resumeSeqs (f : Field) (l : Logic) : (f.resumeSeqs l).reports = f.reports := by
  unfold resumeSeqs
  split
  · rfl
  · simp -implicitDefEqProofs

end Field

theorem Logic.ownNext_none {l : Logic} (h : l.bar.pages = []) : l.ownNext = false := by
  unfold Logic.ownNext
  rw [h]

theorem State.ownPages_none {s : State} (h : s.ld.bar.pages = []) : s.ownPages = s := by
  have hfold (ns : List Nat) : ns.foldl (fun s _ => if s.ld.ownNext then s.onePage else s) s = s := by
    induction ns with
    | nil => rfl
    | cons n ns ih =>
      rw [List.foldl_cons, Logic.ownNext_none h, if_neg Bool.false_ne_true]
      exact ih
  exact hfold _

/-- The logic die as an application ends (R311, R313). -/
def Logic.applied (l : Logic) : Logic :=
  let ws := l.crate.words
  ((((l.keep (Mram.promote false)).takeKeys ws).putb F.DEVICE_MODE_PAIRED (crateTarget ws == 1)).put F.DEVICE_MODE_FIELD_CFG 1).endClose 0 0

theorem State.applicationDone_applies {s : State} (hstate : s.ld.crateState = stApplying) (hpages : s.ld.bar.pages = []) : s.applicationDone =
    ({ s with ld := s.ld.applied.approve } : State).onFd fun f => (f.holdCrate s.ld.crate.words).resumeSeqs s.ld.applied := by
  have hown : (if s.ld.crateState = stApplying ∧ (s.ld.bar.pages.all fun p => !onField (p * 256)) = true then s.ownPages else s) = s := by
    rw [State.ownPages_none hpages]
    split <;> rfl
  unfold State.applicationDone
  rw [hown]
  dsimp only
  rw [if_neg (not_or.mpr ⟨not_not_intro hstate, not_not_intro hpages⟩)]
  rfl

theorem Logic.approve_word (l : Logic) {a : Nat} (ha : regHome a ∉ sessionWords) : l.approve.regs.word a = l.regs.word a := by
  unfold Logic.approve
  split
  · exact l.word_put_other 1 fun e => ha (by rw [e]; decide)
  · exact (Logic.CellarKept.disapprove l).word ha

theorem Logic.approve_linkUp (l : Logic) : l.approve.linkUp = l.linkUp := by
  unfold Logic.approve
  split
  · rfl
  · exact Logic.disapprove_linkUp l

theorem Logic.endClose_word (l : Logic) {k page a : Nat} (ha : regHome a ≠ R.DEVICE_CRATE_STAT ∧ regHome a ≠ R.EVT_RAW R.pageDEVICE) :
    (l.endClose k page).regs.word a = l.regs.word a := by
  have hput (m : Logic) {y : Fld} (hy : regHome y.addr = R.DEVICE_CRATE_STAT) (v : Nat) : (m.put y v).regs.word a = m.regs.word a :=
    m.word_put_other v (hy.symm ▸ ha.1)
  unfold Logic.endClose
  dsimp only
  rw [Logic.word_evt_other _ _ _ _ ha.2, Logic.putb_eq, hput _ rfl, hput _ rfl, hput _ rfl, hput _ rfl]
  rfl

/-- What it shows, and where it leaves the labels. -/
theorem Logic.applied_shown (l : Logic) : l.applied.approve.crateState = stIdle ∧ l.applied.approve.gb F.DEVICE_MODE_FIELD_CFG = true ∧
    l.applied.approve.linkUp = l.linkUp ∧ l.applied.approve.mram.vault.ranks = (Mram.promote false l.mram).vault.ranks := by
  have hranks := (l.keep (Mram.promote false)).takeKeys_ranks l.crate.words
  have hlink := (l.keep (Mram.promote false)).takeKeys_linkUp l.crate.words
  unfold Logic.applied
  dsimp only
  generalize (l.keep (Mram.promote false)).takeKeys l.crate.words = m at *
  have hcfg := Logic.gb_put_one (m.putb F.DEVICE_MODE_PAIRED (crateTarget l.crate.words == 1)) F.DEVICE_MODE_FIELD_CFG (by decide) rfl
  have hmram : ((m.putb F.DEVICE_MODE_PAIRED (crateTarget l.crate.words == 1)).put F.DEVICE_MODE_FIELD_CFG 1).mram = m.mram := rfl
  have hlink' : ((m.putb F.DEVICE_MODE_PAIRED (crateTarget l.crate.words == 1)).put F.DEVICE_MODE_FIELD_CFG 1).linkUp = m.linkUp := rfl
  generalize (m.putb F.DEVICE_MODE_PAIRED (crateTarget l.crate.words == 1)).put F.DEVICE_MODE_FIELD_CFG 1 = n at *
  obtain ⟨hidle, -, -, -⟩ := n.endClose_shown (k := 0) (by decide) 0
  have hmode := n.endClose_word (k := 0) (page := 0) (a := R.DEVICE_MODE) (by decide)
  have hmram' := n.endClose_mram 0 0
  have hlink'' : (n.endClose 0 0).linkUp = n.linkUp := Logic.endClose_linkUp ..
  generalize n.endClose 0 0 = u at *
  refine ⟨?_, ?_, ?_, ?_⟩
  · rw [← hidle]
    exact congrArg (wbits · 0 3) (u.approve_word (a := R.DEVICE_CRATE_STAT) (by decide))
  · rw [← hcfg]
    exact Logic.gb_of_g (congrArg (wbits · F.DEVICE_MODE_FIELD_CFG.lo 1) ((u.approve_word (a := R.DEVICE_MODE) (by decide)).trans hmode))
  · rw [u.approve_linkUp, hlink'', hlink', hlink]
    rfl
  · rw [u.approve_vault, hmram', hmram, hranks]
    rfl

theorem applicationDone_activates (s : State) (htold : s.told = true) (hstate : s.ld.crateState = stApplying) (hpages : s.ld.bar.pages = []) :
    Answers (exec .crateApplicationComplete s) fun t => t.ld.mram.active = s.ld.mram.spare ∧ t.ld.mram.fallback = s.ld.mram.active ∧
      t.ld.mram.spare = s.ld.mram.fallback ∧ t.ld.mram.pending = s.ld.mram.pending ∧ t.ld.gb F.DEVICE_MODE_FIELD_CFG = true ∧
      t.ld.crateState = stIdle := by
  obtain ⟨hidle, hcfg, hlink, hranks⟩ := s.ld.applied_shown
  refine ⟨_, runBoth_next .., ?_⟩
  dsimp only
  rw [State.applicationDone_applies hstate hpages]
  generalize s.ld.applied.approve = l at *
  have hld := ({ s with ld := l } : State).onFd_ld fun f => (f.holdCrate s.ld.crate.words).resumeSeqs s.ld.applied
  have hreports : l.linkUp = true →
      (({ s with ld := l } : State).onFd fun f => (f.holdCrate s.ld.crate.words).resumeSeqs s.ld.applied).fd.reports = true := by
    intro hl
    have hs : s.fd.reports = true := by
      rw [hlink] at hl
      rw [State.told, hl] at htold
      exact Field.reports_of_waits htold
    unfold State.onFd
    split
    · exact ((Field.reports_resumeSeqs ..).trans (Field.reports_holdCrate ..)).trans hs
    · exact hs
  generalize ({ s with ld := l } : State).onFd (fun f => (f.holdCrate s.ld.crate.words).resumeSeqs s.ld.applied) = u at *
  have hshown := drain_reported (s := u) (hld.symm ▸ hreports)
  have hkept := (congrArg Mram.ranks (drain_vault u)).trans ((congrArg (fun l : Logic => l.mram.vault.ranks) hld).trans hranks)
  rw [hld] at hshown
  generalize drain u = t at *
  obtain ⟨hactive, hpending, hfallback, hspare⟩ := Mram.labels_of_ranks hkept
  have hword {a : Nat} (ha : isReportWord (regHome a) = false) : t.ld.regs.word a = l.regs.word a := hshown.word a ha
  refine ⟨hactive, hfallback, hspare, hpending, ?_, ?_⟩
  · rw [← hcfg]
    exact Logic.gb_of_g (congrArg (wbits · F.DEVICE_MODE_FIELD_CFG.lo F.DEVICE_MODE_FIELD_CFG.len) (hword (by decide)))
  · rw [← hidle]
    exact congrArg (wbits · F.DEVICE_CRATE_STAT_STATE.lo F.DEVICE_CRATE_STAT_STATE.len) (hword (a := R.DEVICE_CRATE_STAT) (by decide))

/-- Settles O19: a crate is staged, checked, written and applied, and its labels move. -/
theorem crateRows : Obligations.CrateRows := by
  unfold Obligations.CrateRows
  refine ⟨cratePush_stages, fun s ctr htold ht hfree hrole hlost => closeStore_begins (c := 1) (.inl rfl) htold ht hfree hrole hlost,
    fun s ctr htold ht hfree hrole hlost => closeStore_begins (c := 2) (.inr rfl) htold ht hfree hrole hlost, discard_empties, crateChecks_pass,
    crateChecks_fail, crateValidation_passes, crateValidation_ends, fun s _ => slotWritten_stores s, fun s _ => slotWritten_applies s,
    applicationDone_activates⟩

end Sys2Proof.Machine
end

section
/-! The field die keeps the VETO that was written last, through a retirement and all that it moves (R112, R396). -/

namespace Sys2Proof.Machine

open Sys2Proof

namespace Field

@[simp] theorem veto_put (f : Field) (x : Fld) (v : Nat) : (f.put x v).veto = f.veto := (rfl)
@[simp] theorem veto_putb (f : Field) (x : Fld) (b : Bool) : (f.putb x b).veto = f.veto := (rfl)
@[simp] theorem veto_bump (f : Field) (x : Fld) : (f.bump x).veto = f.veto := (rfl)
@[simp] theorem veto_draw (f : Field) : f.draw.2.veto = f.veto := (rfl)
@[simp] theorem veto_modCtx (f : Field) (n : Nat) (h : CtxRun → CtxRun) : (f.modCtx n h).veto = f.veto := (rfl)
@[simp] theorem veto_modSlice (f : Field) (n : Nat) (h : SliceRun → SliceRun) : (f.modSlice n h).veto = f.veto := (rfl)
@[simp] theorem veto_modProg (f : Field) (n : Nat) (h : ProgRun → ProgRun) : (f.modProg n h).veto = f.veto := (rfl)
@[simp] theorem veto_modRot (f : Field) (h : Rotation → Rotation) : (f.modRot h).veto = f.veto := (rfl)

@[simp] theorem veto_evt (f : Field) (p b q : Nat) (i u : Bool) : (f.evt p b q i u).veto = f.veto := by simp [evt]

@[simp] theorem veto_gen (f : Field) (p : Nat) : (f.gen p).veto = f.veto := by simp [gen]

@[simp] theorem veto_fault (f : Field) (k : Nat) (b : Bool) (p : Option Nat) (i : Bool) : (f.fault k b p i).veto = f.veto := by
  simp [fault]

@[simp] theorem veto_when (c : Bool) (h : Field → Field) (f : Field) (hh : ∀ f, (h f).veto = f.veto) :
    (f.when c h).veto = f.veto := by
  cases c
  · rfl
  · exact hh f

@[simp] theorem veto_each (ns : List Nat) (h : Nat → Field → Field) (f : Field) (hh : ∀ n f, (h n f).veto = f.veto) :
    (f.each ns h).veto = f.veto := by
  induction ns generalizing f with
  | nil => rfl
  | cons n ns ih => exact (ih (h n f)).trans (hh n f)

@[simp] theorem veto_modTerm (f : Field) (n : Nat) (h : TermRun → TermRun) : (f.modTerm n h).veto = f.veto := (rfl)
@[simp] theorem veto_modDout (f : Field) (n : Nat) (h : DoRun → DoRun) : (f.modDout n h).veto = f.veto := (rfl)
@[simp] theorem veto_modSs (f : Field) (n : Nat) (h : SsRun → SsRun) : (f.modSs n h).veto = f.veto := (rfl)

@[simp] theorem veto_noteTriggers (f : Field) (n : Nat) : (f.noteTriggers n).veto = f.veto := by
  unfold noteTriggers
  dsimp only
  repeat' split
  all_goals simp -implicitDefEqProofs

@[simp] theorem veto_noteOne (f : Field) (n : Nat) : (f.noteOne n).veto = f.veto := veto_when _ _ f fun g => g.veto_noteTriggers n

@[simp] theorem veto_showRail (f : Field) (n : Nat) : (f.showRail n).veto = f.veto := by
  unfold showRail
  split <;> simp -implicitDefEqProofs

@[simp] theorem veto_driveDo (f : Field) (n : Nat) (a : Act) (shown : Option Act) : (f.driveDo n a shown).veto = f.veto := by
  simp -implicitDefEqProofs [driveDo, freshAttempts]

@[simp] theorem veto_driveAo (f : Field) (n : Nat) (a : Act) (shown : Option Act) : (f.driveAo n a shown).veto = f.veto := by
  unfold driveAo
  dsimp only
  repeat' split
  all_goals simp -implicitDefEqProofs

@[simp] theorem veto_driveNow (f : Field) (n : Nat) : (f.driveNow n).veto = f.veto := by
  unfold driveNow
  repeat' split
  all_goals simp -implicitDefEqProofs

@[simp] theorem veto_tellPartner (f : Field) (n : Nat) : (f.tellPartner n).veto = f.veto := by
  unfold tellPartner
  split <;> rfl

@[simp] theorem veto_drive (f : Field) (n : Nat) : (f.drive n).veto = f.veto := by
  unfold drive
  dsimp only
  repeat' split
  all_goals simp -implicitDefEqProofs

@[simp] theorem veto_settle (f : Field) (n : Nat) : (f.settle n).veto = f.veto := by
  unfold settle
  split <;> simp -implicitDefEqProofs

@[simp] theorem veto_showState (f : Field) (p : Nat) : (f.showState p).veto = f.veto := by
  simp -implicitDefEqProofs [showState, apply_ite Field.veto]
  split <;> simp -implicitDefEqProofs

@[simp] theorem veto_drawHeld (f : Field) (k : Nat) : (f.drawHeld k).2.veto = f.veto := by
  simp -implicitDefEqProofs [drawHeld]

@[simp] theorem veto_loadChain (f : Field) (c : Nat) : (f.loadChain c).veto = f.veto := by
  unfold loadChain
  dsimp only
  repeat' split
  all_goals simp -implicitDefEqProofs

@[simp] theorem veto_resettle (f : Field) (c : Nat) : (f.resettle c).veto = f.veto := by
  simp -implicitDefEqProofs [resettle]

@[simp] theorem veto_restartSlice (f : Field) (s c : Nat) (again : Bool) :
    (f.restartSlice s c again).veto = f.veto := by
  unfold restartSlice
  dsimp only
  split <;> simp -implicitDefEqProofs

@[simp] theorem veto_unfreeze (f : Field) (s : Nat) (ch : Chain) : (f.unfreeze s ch).veto = f.veto := by
  simp -implicitDefEqProofs [unfreeze]

@[simp] theorem veto_switchTo (f : Field) (p c : Nat) (force : Bool) : (f.switchTo p c force).veto = f.veto := by
  unfold switchTo
  dsimp only
  repeat' split
  all_goals simp -implicitDefEqProofs

@[simp] theorem veto_startEntry (f : Field) (p e : Nat) (force : Bool) : (f.startEntry p e force).veto = f.veto := by
  simp -implicitDefEqProofs [startEntry]

@[simp] theorem veto_reach (f : Field) (p e : Nat) : (f.reach p e).veto = f.veto := by
  unfold reach
  split <;> simp -implicitDefEqProofs

@[simp] theorem veto_loopDone (f : Field) (p : Nat) : (f.loopDone p).veto = f.veto := by
  simp -implicitDefEqProofs [loopDone]

@[simp] theorem veto_goOn (f : Field) (p e : Nat) : (f.goOn p e).veto = f.veto := by
  unfold goOn
  split <;> simp -implicitDefEqProofs

@[simp] theorem veto_restartChains (f : Field) (p : Nat) : (f.restartChains p).veto = f.veto := by
  unfold restartChains
  split <;> simp -implicitDefEqProofs

@[simp] theorem veto_startHere (f : Field) (p : Nat) (force : Bool) : (f.startHere p force).veto = f.veto := by
  unfold startHere
  dsimp only
  split <;> simp -implicitDefEqProofs

@[simp] theorem veto_startRun (f : Field) (p : Nat) : (f.startRun p).veto = f.veto := by
  unfold startRun
  split <;> simp -implicitDefEqProofs

@[simp] theorem veto_phase (f : Field) (k : Nat) : (f.phase k).veto = f.veto := by simp -implicitDefEqProofs [phase]

@[simp] theorem veto_setRole (f : Field) (s : Nat) (h : SliceRun → SliceRun) : (f.setRole s h).veto = f.veto := by
  simp -implicitDefEqProofs [setRole]

@[simp] theorem veto_beginCal (f : Field) (k : Nat) (paused : Bool) : (f.beginCal k paused).veto = f.veto := by
  simp -implicitDefEqProofs [beginCal]

@[simp] theorem veto_startCal (f : Field) (k phase : Nat) (stage : RotStage) :
    (f.startCal k phase stage).veto = f.veto := by simp -implicitDefEqProofs [startCal]

@[simp] theorem veto_unshadow (f : Field) : f.unshadow.veto = f.veto := by
  simp -implicitDefEqProofs [unshadow]
  split <;> simp -implicitDefEqProofs [apply_ite Field.veto]

@[simp] theorem veto_stopRotation (f : Field) : f.stopRotation.veto = f.veto := by
  simp -implicitDefEqProofs [stopRotation]

@[simp] theorem veto_startDwell (f : Field) (p : Nat) : (f.startDwell p).veto = f.veto := by
  simp -implicitDefEqProofs [startDwell]
  split <;> simp -implicitDefEqProofs [apply_ite Field.veto]

@[simp] theorem veto_rotate (f : Field) (p : Nat) : (f.rotate p).veto = f.veto := by
  simp -implicitDefEqProofs [rotate, apply_ite Field.veto]
  split <;> simp -implicitDefEqProofs

@[simp] theorem veto_resumeSlice (f : Field) (s : Nat) : (f.resumeSlice s).veto = f.veto := by
  simp -implicitDefEqProofs [resumeSlice]
  split <;> simp -implicitDefEqProofs [apply_ite Field.veto]

@[simp] theorem veto_calRestart (f : Field) (k : Nat) : (f.calRestart k).veto = f.veto := by
  simp -implicitDefEqProofs [calRestart]

@[simp] theorem veto_calReturn (f : Field) (k : Nat) : (f.calReturn k).veto = f.veto := by
  simp -implicitDefEqProofs [calReturn]

@[simp] theorem veto_calAbandon (f : Field) : f.calAbandon.veto = f.veto := by
  unfold calAbandon
  split <;> simp -implicitDefEqProofs

@[simp] theorem veto_dropCal (f : Field) : f.dropCal.veto = f.veto := by
  simp -implicitDefEqProofs [dropCal]
  split <;> simp -implicitDefEqProofs [apply_ite Field.veto]

@[simp] theorem veto_abandon (f : Field) : f.abandon.veto = f.veto := by
  unfold abandon
  dsimp only
  split <;> simp -implicitDefEqProofs

@[simp] theorem veto_stopProg (f : Field) (p : Nat) : (f.stopProg p).veto = f.veto := by
  simp -implicitDefEqProofs [stopProg]

@[simp] theorem veto_retireSlice (f : Field) (s cause src : Nat) (inj : Bool) :
    (f.retireSlice s cause src inj).veto = f.veto := by
  simp -implicitDefEqProofs [retireSlice]

@[simp] theorem veto_retireDue (f : Field) (s : Nat) (inj : Bool) : (f.retireDue s inj).veto = f.veto := by
  simp -implicitDefEqProofs [retireDue]

@[simp] theorem veto_moveRole (f : Field) (p s : Nat) (inj : Bool) : (f.moveRole p s inj).veto = f.veto := by
  simp -implicitDefEqProofs [moveRole]
  split <;> simp -implicitDefEqProofs [apply_ite Field.veto]

@[simp] theorem veto_powerSpare (f : Field) (next heir : Bool) : (f.powerSpare next heir).veto = f.veto := by
  unfold powerSpare
  split <;> simp -implicitDefEqProofs

@[simp] theorem veto_reassign (f : Field) (ps : List Nat) : (f.reassign ps).veto = f.veto := by
  refine veto_each _ _ _ fun p f => ?_
  split <;> simp -implicitDefEqProofs

@[simp] theorem veto_sliceFails (f : Field) (s : Nat) (inj : Bool) : (f.sliceFails s inj).veto = f.veto := by
  simp -implicitDefEqProofs [sliceFails]
  split <;> simp -implicitDefEqProofs [apply_ite Field.veto]

@[simp] theorem veto_retireSegment (f : Field) (n k cause : Nat) (inj : Bool) :
    (f.retireSegment n k cause inj).veto = f.veto := by
  unfold retireSegment
  dsimp only
  repeat' split
  all_goals simp -implicitDefEqProofs

@[simp] theorem veto_flag (f : Field) (c bit : Nat) : (f.flag c bit).veto = f.veto := by
  simp -implicitDefEqProofs [flag]

@[simp] theorem veto_unsettleRef (f : Field) (s : Nat) : (f.unsettleRef s).veto = f.veto := by
  simp -implicitDefEqProofs [unsettleRef]

@[simp] theorem veto_retireRef (f : Field) (b cause : Nat) (inj : Bool) : (f.retireRef b cause inj).veto = f.veto := by
  simp -implicitDefEqProofs [retireRef]
/-- VETO stands as it was written, whatever it lets go. -/
theorem veto_takeVeto (f : Field) (w : Word) : (f.takeVeto w).veto = wbits w 0 14 := by
  have hdefer (xs : List (Nat × Nat)) (g : Field) : (xs.foldl (fun f x => f.tell (.defer x.1 x.2 false)) g).veto = g.veto := by
    induction xs generalizing g with
    | nil => rfl
    | cons x xs ih => exact ih _
  simp -implicitDefEqProofs [takeVeto, apply_ite Field.veto, hdefer]

end Field

end Sys2Proof.Machine
end

section
/-! The Larder: requests, restore tests and the veto (R395, R396). -/

namespace Sys2Proof.Machine

open Sys2Proof

/-! What a request may not touch: the port's state, start-up, the link; and the field die tells no more than reports. -/

structure Logic.PortKept (t l : Logic) : Prop where
  host : t.host = l.host
  boot : t.boot = l.boot
  linkUp : t.linkUp = l.linkUp

namespace Logic.PortKept

variable {t l m : Logic}

theorem refl (l : Logic) : l.PortKept l := ⟨rfl, rfl, rfl⟩

theorem trans (h : t.PortKept l) (k : l.PortKept m) : t.PortKept m := ⟨h.host.trans k.host, h.boot.trans k.boot, h.linkUp.trans k.linkUp⟩

theorem of_same (h : t.SameBut l) : t.PortKept l := ⟨h.host, h.boot, h.linkUp⟩

theorem when {c : Bool} {h : Logic → Logic} (hh : ∀ l, (h l).PortKept l) (l : Logic) : (l.when c h).PortKept l := by
  cases c
  · exact refl l
  · exact hh l

end Logic.PortKept

structure State.Quiet (t s : State) : Prop where
  host : t.ld.host = s.ld.host
  boot : t.ld.boot = s.ld.boot
  linkUp : t.ld.linkUp = s.ld.linkUp
  reports : s.ld.linkUp = true → s.fd.reports = true → t.fd.reports = true

namespace State.Quiet

variable {t s u : State}

theorem refl (s : State) : s.Quiet s := ⟨rfl, rfl, rfl, fun _ h => h⟩

theorem trans (h : t.Quiet s) (k : s.Quiet u) : t.Quiet u :=
  ⟨h.host.trans k.host, h.boot.trans k.boot, h.linkUp.trans k.linkUp, fun hl hr => h.reports (k.linkUp.trans hl) (k.reports hl hr)⟩

theorem onLd {h : Logic → Logic} (s : State) (hh : (h s.ld).SameBut s.ld) : (s.onLd h).Quiet s := ⟨hh.host, hh.boot, hh.linkUp, fun _ hr => hr⟩

theorem keepLd {h : Logic → Logic} (s : State) (hh : (h s.ld).PortKept s.ld) : (s.onLd h).Quiet s :=
  ⟨hh.host, hh.boot, hh.linkUp, fun _ hr => hr⟩

theorem onFd {h : Field → Field} (s : State) (hh : (h s.fd).reports = s.fd.reports) : (s.onFd h).Quiet s := by
  unfold State.onFd
  split
  · exact ⟨rfl, rfl, rfl, fun _ hr => hh.trans hr⟩
  · exact refl s

/-- After what waits is told, no more than reports waits. -/
theorem hear (h : u.ld.PortKept s.ld) : u.hear.Quiet s := by
  obtain ⟨hhost, hboot, hlink⟩ := h
  have hsame := drain_ld_same u
  have hreports (hl : u.ld.linkUp = true) : (drain u).fd.reports = true := Field.reports_of_waits <| by
    rw [drain_out u hl]
    exact List.all_eq_true.mpr fun m hm => (List.mem_filter.mp hm).2
  have hdrain : (drain u).Quiet s :=
    ⟨hsame.host.trans hhost, hsame.boot.trans hboot, hsame.linkUp.trans hlink, fun hl _ => hreports (hlink.trans hl)⟩
  unfold State.hear
  dsimp only
  split
  · exact (onLd (h := fun l => l.evt R.pageDEVICE 3) _ (Logic.setEvt_same ..)).trans hdrain
  · exact hdrain

theorem hold (m : Mode) (s : State) : (s.hold m).Quiet s := by
  have hmode := s.ld.setMode_changed m
  refine hear ?_
  rw [State.onFd_ld]
  exact ⟨hmode.host, hmode.boot, hmode.linkUp⟩

theorem beginHandover (cause caught : Nat) (s : State) : (s.beginHandover cause caught).Quiet s := by
  unfold State.beginHandover
  dsimp only
  refine (onFd (h := fun f => { f with handover := true }) _ rfl).trans ?_
  exact ⟨(Logic.sendPartner_same _ _).host, (Logic.sendPartner_same _ _).boot, (Logic.sendPartner_same _ _).linkUp, fun _ hr => hr⟩

/-- SAFE by its bit alone, by a planned handover, or by the mode (R28, R338). -/
theorem safe (cause : Nat) (s : State) : (s.safe cause).Quiet s := by
  have hmark : (s.onLd fun l => (l.put (safeCause cause) 1).abortCause 5).Quiet s :=
    onLd (h := fun l => (l.put (safeCause cause) 1).abortCause 5) s ((Logic.abortCause_same _ _).trans (Logic.put_same ..))
  have hpair (u : State) (h : PairRun → PairRun) : (u.onLd fun l => { l with pair := h l.pair }).Quiet u := ⟨rfl, rfl, rfl, fun _ hr => hr⟩
  unfold State.safe
  dsimp only
  generalize s.onLd (fun l => (l.put (safeCause cause) 1).abortCause 5) = u at *
  split
  · exact hmark
  split
  · have hlock := hpair u fun p => { p with lockCatch := true }
    generalize u.onLd (fun l => { l with pair := { l.pair with lockCatch := true } }) = v at *
    split
    · exact ((hpair v fun p => { p with handAgain := true }).trans hlock).trans hmark
    · exact ((beginHandover 4 0 v).trans hlock).trans hmark
  split
  · exact hmark
  · exact (hold .safe u).trans hmark

theorem roleFault (r : Nat) (severe inj : Bool) (s : State) : (s.roleFault r severe inj).Quiet s := by
  unfold State.roleFault
  split
  · exact ⟨rfl, rfl, rfl, fun _ hr => (Field.reports_fault ..).trans hr⟩
  · exact onLd (h := fun l => l.fault (16 + r) severe none inj) s (Logic.fault_same ..)

theorem showRoles (s : State) : s.showRoles.Quiet s := ⟨rfl, rfl, rfl, fun _ hr => hr⟩

end State.Quiet

/-- The field die's marks of a stage that settles are reports. -/
theorem Field.reports_settleAll (f : Field) : f.settleAll.reports = f.reports := by
  obtain ⟨es, hes, hall⟩ := (Settled.settleAll f).out
  have hes' : es.all FMsg.reports = true := List.all_eq_true.mpr fun m hm => by
    have := List.all_eq_true.mp hall m hm
    cases m with
    | evt | fault | record => rfl
    | _ => exact absurd this Bool.false_ne_true
  simp [reports, hes, List.all_append, hes']

theorem Field.reports_disarmAll (f : Field) : f.disarmAll.reports = f.reports := by
  unfold Field.disarmAll
  exact (reports_settleAll _).trans (reports_each _ _ _ fun n g => rfl)

theorem Field.reports_diagLost (f : Field) : f.diagLost.reports = f.reports := by
  unfold Field.diagLost
  dsimp only
  rw [reports_stopRotation, reports_abandon]
  exact reports_when _ _ _ fun g => reports_setRole ..

theorem State.Quiet.roleLost (r : Nat) (s : State) : (s.roleLost r).Quiet s := by
  have hdetach : s.detach.Quiet s := by
    unfold State.detach
    exact (onFd _ (Field.reports_disarmAll _)).trans (keepLd _ ⟨rfl, rfl, rfl⟩)
  unfold State.roleLost
  split
  · split
    · exact hdetach
    · exact refl s
  · exact ⟨rfl, rfl, rfl, fun _ hr => (Field.reports_diagLost _).trans hr⟩
  · exact safe 4 s
  · exact refl s

/-- A core that a host retires: its role goes to the spare core, or is lost (R15). -/
theorem State.Quiet.coreFail {r : Nat} (hr : r ≠ 1) (inj : Bool) (cause : Nat) (s : State) : (s.coreFail r inj cause).Quiet s := by
  unfold State.coreFail
  rw [if_neg hr]
  split
  · exact refl s
  dsimp only
  split
  · next i _ =>
    refine (showRoles _).trans (trans (u := s) (s := if cause = 2 then s.roleFault r false inj else s) ?_ ?_)
    · have hsame := fun l : Logic => (((l.placeRole r i).retire (coreKind r) (s.ld.core r) cause false inj).spareIn_same (coreKind r) i).trans
        ((Logic.retire_same ..).trans (Logic.larderKeep_same ..))
      exact ⟨(hsame _).host, (hsame _).boot, (hsame _).linkUp, fun _ hr => hr⟩
    · split
      · exact roleFault ..
      · exact refl s
  · refine (roleLost _ _).trans ((showRoles _).trans (trans (s := s.roleFault r true inj) ?_ (roleFault ..)))
    have hsame := (s.roleFault r true inj).ld.retire_same (coreKind r) (s.ld.core r) cause false inj
    exact ⟨hsame.host, hsame.boot, hsame.linkUp, fun _ hr => hr⟩

/-! RETIRE (R395). -/

theorem Logic.laneRetires_port (k cause : Nat) (inj : Bool) (l : Logic) : (l.laneRetires k cause inj).PortKept l := by
  unfold Logic.laneRetires
  split
  · exact .refl l
  · dsimp only
    have hdue (m : Logic) : (m.modBar fun b => { b with switchDue := b.switchDue ++ [k] }).PortKept m := ⟨rfl, rfl, rfl⟩
    exact (Logic.PortKept.when hdue _).trans ((Logic.PortKept.when (fun m => .of_same (m.fault_same ..)) _).trans
      ((Logic.PortKept.of_same (Logic.setEvt_same ..)).trans (.of_same (l.retire_same ..))))

theorem Logic.hfrcRetires_port (k cause : Nat) (inj : Bool) (l : Logic) : (l.hfrcRetires k cause inj).PortKept l := by
  have hmoves (m : Logic) : (m.hfrcMoves (k == 0) (1 - k)).PortKept m := by
    unfold Logic.hfrcMoves
    exact (Logic.PortKept.of_same (Logic.spareIn_same ..)).trans ⟨rfl, rfl, rfl⟩
  have hgives (m : Logic) : (m.hfrcGivesWay k).PortKept m := by
    have hdisturbed (n : Logic) : n.gateDisturbed.PortKept n := .when (fun n => .of_same (n.put_same ..)) n
    exact (Logic.PortKept.when hdisturbed _).trans (hmoves m)
  have hshow (m : Logic) : m.showClocks.PortKept m := ⟨rfl, rfl, rfl⟩
  rw [Logic.hfrcRetires_eq]
  exact (hshow _).trans ((Logic.PortKept.of_same (Logic.retire_same ..)).trans (.when hgives l))

theorem Logic.slotShort_port (l : Logic) : l.slotShort.PortKept l := ⟨rfl, rfl, rfl⟩

/-- The part of RETIRE that rotates a key (R279). -/
theorem Logic.keyRetires_port (i : Nat) (l : Logic) : ((l.rotateKey i).2.retire 13 i 4 false false).PortKept l := by
  refine (Logic.PortKept.of_same (Logic.retire_same ..)).trans ?_
  unfold Logic.rotateKey
  split
  · exact ⟨rfl, rfl, rfl⟩
  · exact l.slotShort_port

theorem Logic.rowRetires_port (m : Memory) (row cause : Nat) (inj : Bool) (l : Logic) : (l.rowRetires m row cause inj).PortKept l := by
  unfold Logic.rowRetires
  split
  · exact .refl l
  split
  · exact .refl l
  split
  · exact .of_same (l.defer_same ..)
  split
  · exact (Logic.PortKept.when (fun n => .of_same (n.fault_same ..)) _).trans (.when (fun n => .of_same (n.defer_same ..)) l)
  · exact ⟨rfl, rfl, rfl⟩

/-- The word of LARDER.REQ reaches a field die that is linked (R8). -/
theorem Field.reports_takeLarder (w : Word) (f : Field) : (f.take R.LARDER_REQ w).reports = f.reports := by
  change (f.takeRequest w).reports = f.reports
  unfold Field.takeRequest
  dsimp only
  split
  · exact reports_sliceFails ..
  · exact reports_retireSegment ..
  · exact reports_retireRef ..
  · rfl

theorem State.Quiet.toLarder {s : State} (w : Word) (hr : s.fd.released = true) (hl : s.ld.linkUp = true) (hc : s.ld.bar.cmds = []) :
    (s.toField R.LARDER_REQ w).Quiet s := by
  obtain ⟨hfd, hsame⟩ := State.toField_up R.LARDER_REQ w hr hl hc
  exact ⟨hsame.host, hsame.boot, hsame.linkUp, fun _ h => (congrArg Field.reports hfd).trans ((Field.reports_takeLarder ..).trans h)⟩

/-- A retirement that is carried out. -/
theorem State.Quiet.retireNow {s : State} (k i : Nat) (w : Word) (hr : s.fd.released = true) (hl : s.ld.linkUp = true) (hc : s.ld.bar.cmds = []) :
    (s.retireNow k i w).Quiet s := by
  have hroles (k : Nat) : ∀ r ∈ coreRoles k, r ≠ 1 := by
    unfold coreRoles
    split <;> decide
  have hcore (k : Nat) : (match (coreRoles k).find? fun r => s.ld.core r == i && !nbit s.ld.cores.lost r with
      | some r => s.coreFail r false 4
      | none => s.onLd (Logic.retire k i 4 true false)).Quiet s := by
    split
    · next r hfind => exact coreFail (hroles k r (List.mem_of_find?_eq_some hfind)) ..
    · exact onLd s (Logic.retire_same ..)
  unfold State.retireNow
  rw [if_pos hr]
  split
  · exact hcore 1
  · exact hcore 2
  · exact keepLd s (Logic.laneRetires_port ..)
  · exact keepLd s (Logic.hfrcRetires_port ..)
  · refine keepLd s ((Logic.PortKept.when Logic.slotShort_port _).trans ?_)
    split
    · exact (Logic.PortKept.of_same (Logic.spareIn_same ..)).trans (Logic.keyRetires_port ..)
    · exact Logic.keyRetires_port ..
  · split
    · refine keepLd s ?_
      split
      · exact Logic.rowRetires_port ..
      · exact .of_same (Logic.retire_same ..)
    · exact toLarder w hr hl hc

/-! The host's requests. -/

theorem freeRegister_larderReq : FreeRegister R.LARDER_REQ := freeRegister (by decide) fun _ _ => rfl
theorem freeRegister_larderVeto : FreeRegister R.LARDER_VETO := freeRegister (by decide) fun _ _ => rfl

/-- The fields of a request's word. -/
theorem request_word {r : Nat} (hr : r < 16) (kind : Fin 16) (index : Fin 16777216) : wbits (word (16 * r + kind + 256 * index)) 0 4 = kind ∧
    wbits (word (16 * r + kind + 256 * index)) 8 24 = index ∧ wbits (word (16 * r + kind + 256 * index)) 4 4 = r := by
  have hk := kind.isLt
  have hi := index.isLt
  unfold wbits word
  rw [BitVec.toNat_ofNat]
  refine ⟨?_, ?_, ?_⟩ <;> omega

/-- A RETIRE that nothing refuses is carried out. -/
theorem State.larderReq_retires {s : State} {k i : Nat} {w : Word} (hw : wbits w 0 4 = k ∧ wbits w 8 24 = i ∧ wbits w 4 4 = 1) (hi : i < kindTotal k)
    (hspare : s.ld.spares k ≠ 0) (hin : s.ld.isRetired k i = false)
    (hkey : k = 13 → s.ld.slotsUsed.contains i = true ∧ (s.ld.freeSlot i).isSome = true) (hquiet : s.retiring k = false) :
    s.larderReq w = (.done, (s.retireNow k i w).onLd (Logic.reqResult 1)) := by
  obtain ⟨hk, hi', hop⟩ := hw
  have hkeys : (k == 13 && (!s.ld.slotsUsed.contains i || (s.ld.freeSlot i).isNone)) = false := by
    by_cases h13 : k = 13
    · obtain ⟨hused, hfree⟩ := hkey h13
      rw [hused, Option.isNone_eq_false_iff.mpr hfree, Bool.not_true, Bool.or_false, Bool.and_false]
    · rw [beq_eq_false_iff_ne.mpr h13, Bool.false_and]
  unfold State.larderReq State.larderRetire
  rw [hop, hk, hi']
  dsimp only
  rw [if_neg (by omega), if_neg (by rw [hin, hkeys, hquiet]; simp [hspare])]
  rfl

/-- The result of a request, and that no report changes it. -/
theorem Logic.Reported.result {t l : Logic} {n : Nat} (h : t.Reported (l.reqResult n)) (hn : n < 8) : t.g F.LARDER_REQSTAT_RESULT = n := by
  have hword := h.word F.LARDER_REQSTAT_RESULT.addr (by decide)
  refine (congrArg (wbits · F.LARDER_REQSTAT_RESULT.lo F.LARDER_REQSTAT_RESULT.len) hword).trans ?_
  exact (Logic.g_put_same l _ n rfl).trans (Nat.mod_eq_of_lt hn)

/-- What a request is judged by: a frame leaves it. -/
structure Logic.Judged (a b : Logic) : Prop where
  mram : a.mram = b.mram
  mem : a.mem = b.mem
  cores : a.cores = b.cores
  bar : a.bar = b.bar
  larder : a.larder = b.larder
  boot : a.boot = b.boot
  linkUp : a.linkUp = b.linkUp

theorem Logic.framed_judged (l : Logic) (x : Session) (ctr : Word) : (l.framed x ctr).Judged l := ⟨rfl, rfl, rfl, rfl, rfl, rfl, rfl⟩

namespace Logic.Judged

variable {a b : Logic}

theorem spares (h : a.Judged b) (k : Nat) : a.spares k = b.spares k := by rw [Logic.spares, h.mram, Logic.spares]

theorem isRetired (h : a.Judged b) (k i : Nat) : a.isRetired k i = b.isRetired k i := by rw [Logic.isRetired, h.mram, Logic.isRetired]

theorem restores (h : a.Judged b) (k i : Nat) : a.restores_ k i = b.restores_ k i := by rw [Logic.restores_, h.mram, Logic.restores_]

theorem slotsUsed (h : a.Judged b) : a.slotsUsed = b.slotsUsed := by
  unfold Logic.slotsUsed
  rw [h.mram, h.isRetired]

theorem freeSlot (h : a.Judged b) (i : Nat) : a.freeSlot i = b.freeSlot i := by
  unfold Logic.freeSlot
  rw [h.slotsUsed]
  exact congrArg (fun f => (slotGroup i).find? f) (funext fun j => by rw [h.isRetired])

theorem rowInUse (h : a.Judged b) (k i : Nat) : a.rowInUse k i = b.rowInUse k i := by
  unfold Logic.rowInUse
  rw [h.mram, h.isRetired]

theorem moving (h : a.Judged b) (k : Nat) : a.moving k = b.moving k := by rw [Logic.moving, h.mem, Logic.moving]

theorem retiring {l : Logic} {s : State} (h : l.Judged s.ld) (k : Nat) : ({ s with ld := l } : State).retiring k = s.retiring k := by
  unfold State.retiring
  split
  · rfl
  · rw [h.cores]
  · rw [h.cores]
  · rw [h.bar]
  · rw [h.moving]

end Logic.Judged

/-- A word that stays quiet: its frame ends without error. -/
theorem answers_quietWord {s : State} {ctr w : Word} {a : Nat} {p : State → Prop} (hup : s.up) (ht : s.ld.takes ctr a w) (ha : FreeRegister a)
    (hu : ∀ l role, l.Judged s.ld → ∃ u : State, ({ s with ld := l } : State).actWord role a w 0#32 = (.done, u) ∧ u.Quiet { s with ld := l } ∧
      ∀ t : State, t.ld.host.ferr = false → t.ld.Reported u.ld → t.ld.larder.testing = u.ld.larder.testing → t.fd.veto = u.fd.veto → p t) :
    Answers (runBoth (fun s => s.wordFrame (some ctr) a w) s) p := by
  obtain ⟨x, -, hacts⟩ := State.wordFrame_acts ht ha
  obtain ⟨u, hact, ⟨hhost, hboot, hlink, hreports⟩, hp⟩ := hu _ x.role (s.ld.framed_judged x ctr)
  have hframe := hacts _ hact
  have hferr := (s.ld.framed_framed x ctr).ferr
  obtain ⟨-, hup', hout⟩ := hup
  have hferr' : (u.ld.frameError opWriteAuth []).host.ferr = false := (congrArg HostRun.ferr hhost).trans hferr
  have hboot' : u.ld.boot.logic ≠ 0 := by
    rw [hboot]
    change s.ld.boot.logic ≠ 0
    exact Logic.answers_boot (Logic.serves_answers ht.1)
  rw [if_neg hboot'] at hframe
  have hsame := drain_ld_same (u.onLd (Logic.frameError opWriteAuth []))
  refine ⟨_, runBoth_next .., hp _ ?_ ?_ ?_ ?_⟩ <;> dsimp only <;> rw [hframe]
  · rw [hsame.host]
    exact hferr'
  · have hshown := drain_reported (s := u.onLd (Logic.frameError opWriteAuth [])) fun _ => hreports hup' (Field.reports_of_waits hout)
    exact hshown.trans (.of_regs rfl)
  · exact (congrArg LarderRun.testing hsame.queue :)
  · rw [drain_fd]
    rfl

theorem larderRetire_done (s : State) (ctr : Word) (kind : Fin 16) (index : Fin 16777216) (hup : s.up) (hcmds : s.ld.bar.cmds = [])
    (ht : s.ld.takes ctr R.LARDER_REQ (word (16 + kind + 256 * index))) (hi : index.val < kindTotal kind) (hspare : s.ld.spares kind ≠ 0)
    (hin : s.ld.isRetired kind index = false)
    (hkey : kind.val = 13 → s.ld.slotsUsed.contains index.val = true ∧ (s.ld.freeSlot index).isSome = true) (hquiet : s.retiring kind = false) :
    Answers (exec (.larderRetire (some ctr) kind index) s) fun t => t.ld.host.ferr = false ∧ t.ld.g F.LARDER_REQSTAT_RESULT = 1 := by
  have hw := request_word (r := 1) (by decide) kind index
  rw [Nat.mul_one] at hw
  refine answers_quietWord hup ht freeRegister_larderReq fun l role hj => ⟨_, State.larderReq_retires hw hi (hj.spares _ ▸ hspare)
    ((hj.isRetired ..).trans hin) ?_ ((hj.retiring _).trans hquiet), ?_, fun t hferr hshown _ _ => ⟨hferr, hshown.result (by decide)⟩⟩
  · rw [hj.slotsUsed, hj.freeSlot]
    exact hkey
  · refine (State.Quiet.onLd _ (Logic.put_same ..)).trans (State.Quiet.retireNow (s := { s with ld := l }) kind index _ hup.1 ?_ ?_)
    · exact hj.linkUp.trans hup.2.1
    · rw [hj.bar]
      exact hcmds

/-- A row is retired at once where it serves no address, and starts on its way to the spare row where it does (R391, R395). -/
theorem State.retireNow_row {k : Nat} (hk : 7 ≤ k ∧ k ≤ 12) (i : Nat) (w : Word) (s : State) : s.retireNow k i w =
    s.onLd fun l => if l.rowInUse k i then l.rowRetires (kindMem k) i 4 false else l.retire k i 4 true false := by
  unfold State.retireNow
  split
  · omega
  · omega
  · omega
  · omega
  · omega
  · exact if_pos hk.1

theorem memKind_kindMem {k : Nat} (hk : 7 ≤ k ∧ k ≤ 12) : memKind (kindMem k) = some k := by
  obtain ⟨hlo, hhi⟩ := hk
  interval_cases k <;> rfl

theorem Logic.rowRetires_moves {k i : Nat} (hk : 7 ≤ k ∧ k ≤ 12) {l : Logic} (hspare : l.spares k ≠ 0) (hin : l.isRetired k i = false)
    (hmoving : l.moving k = false) : l.rowRetires (kindMem k) i 4 false =
      { l with mem := { l.mem with moves := l.mem.moves ++ [{ mem := kindMem k, row := i, cause := 4, inj := false }] } } := by
  have hnone : ∀ x ∈ l.mem.moves, (memKind x.mem == some k) = false := by simpa [Logic.moving] using hmoving
  have hmove : l.mem.moves.any (fun x => x.mem == kindMem k && x.row == i) = false := by
    refine List.any_eq_false.mpr fun x hx h => ?_
    obtain ⟨hm, -⟩ := Bool.and_eq_true_iff.mp h
    have := hnone x hx
    rw [eq_of_beq hm, memKind_kindMem hk, beq_self_eq_true] at this
    exact Bool.noConfusion this
  have hfew : l.mem.moves.filter (fun x => memKind x.mem == some k) = [] := List.filter_eq_nil_iff.mpr fun x hx => by rw [hnone x hx]; decide
  unfold Logic.rowRetires
  rw [memKind_kindMem hk]
  dsimp only
  rw [hin, hmove, hfew, if_neg (by decide), if_neg (by simp), if_neg (by simpa using hspare)]

theorem rowsNotKeys {k : Nat} (hk : 7 ≤ k ∧ k ≤ 12) {p : Prop} : k = 13 → p := fun h => absurd hk.2 (by omega)

/-- A frame that ends with a result shown. -/
theorem Logic.reqResult_ended (m : Logic) (n : Nat) : ((m.reqResult n).frameError opWriteAuth []).host.ferr = m.host.ferr ∧
    ((m.reqResult n).frameError opWriteAuth []).mem = m.mem ∧ ((m.reqResult n).frameError opWriteAuth []).mram = m.mram ∧
    ((m.reqResult n).frameError opWriteAuth []).regs = (m.reqResult n).regs := ⟨rfl, rfl, rfl, rfl⟩

/-- RETIRE of a row acts on the logic die alone. -/
theorem answers_rowRequest {s : State} {ctr : Word} {kind : Fin 16} {index : Fin 16777216} {p : State → Prop} (hup : s.up)
    (ht : s.ld.takes ctr R.LARDER_REQ (word (16 + kind + 256 * index))) (hk : 7 ≤ kind.val ∧ kind.val ≤ 12) (hi : index.val < kindTotal kind)
    (hspare : s.ld.spares kind ≠ 0) (hin : s.ld.isRetired kind index = false) (hmoving : s.ld.moving kind = false)
    (h : ∀ l : Logic, l.Judged s.ld → l.host.ferr = false →
      ∃ m : Logic, (if l.rowInUse kind index then l.rowRetires (kindMem kind) index 4 false else l.retire kind index 4 true false) = m ∧
        m.PortKept l ∧ ∀ t : State, t.ld = (m.reqResult 1).frameError opWriteAuth [] → p t) :
    Answers (exec (.larderRetire (some ctr) kind index) s) p := by
  have hw := request_word (r := 1) (by decide) kind index
  rw [Nat.mul_one] at hw
  have hquiet : s.retiring kind = false := by
    unfold State.retiring
    split
    · omega
    · omega
    · omega
    · omega
    · rw [hmoving, Bool.and_false]
  have htold : s.told = true := by rw [State.told, hup.2.2, Bool.or_true]
  refine answers_logicWord htold ht freeRegister_larderReq fun x _ => ?_
  have hj := s.ld.framed_judged x ctr
  have hferr := (s.ld.framed_framed x ctr).ferr
  generalize s.ld.framed x ctr = l at *
  obtain ⟨m, hm, hkept, hp⟩ := h l hj hferr
  refine ⟨m.reqResult 1, ?_, hkept.boot.trans hj.boot, hkept.linkUp.trans hj.linkUp, hp⟩
  have hreq := State.larderReq_retires (s := { s with ld := l }) hw hi (hj.spares _ ▸ hspare) ((hj.isRetired ..).trans hin) (rowsNotKeys hk)
    ((hj.retiring _).trans hquiet)
  rw [State.retireNow_row hk] at hreq
  refine hreq.trans ?_
  simp only [State.onLd, hm]

theorem larderRetire_moves (s : State) (ctr : Word) (kind : Fin 16) (index : Fin 16777216) (hup : s.up)
    (ht : s.ld.takes ctr R.LARDER_REQ (word (16 + kind + 256 * index))) (hlo : 7 ≤ kind.val) (hhi : kind.val ≤ 12) (hi : index.val < kindTotal kind)
    (hspare : s.ld.spares kind ≠ 0) (hin : s.ld.isRetired kind index = false) (hmoving : s.ld.moving kind = false)
    (huse : s.ld.rowInUse kind index = true) :
    Answers (exec (.larderRetire (some ctr) kind index) s) fun t => t.ld.host.ferr = false ∧
      t.ld.mem.moves = s.ld.mem.moves ++ [{ mem := kindMem kind, row := index, cause := 4, inj := false }] ∧ t.ld.g F.LARDER_REQSTAT_RESULT = 1 := by
  refine answers_rowRequest hup ht ⟨hlo, hhi⟩ hi hspare hin hmoving fun l hj hferr => ?_
  refine ⟨_, (if_pos ((hj.rowInUse ..).trans huse)).trans (Logic.rowRetires_moves ⟨hlo, hhi⟩ (hj.spares _ ▸ hspare) ((hj.isRetired ..).trans hin)
    ((hj.moving _).trans hmoving)), ⟨rfl, rfl, rfl⟩, fun t ht => ?_⟩
  rw [ht, ← hj.mem]
  exact ⟨hferr, rfl, Logic.g_put_same _ _ _ rfl⟩

theorem larderRetire_spareRow (s : State) (ctr : Word) (kind : Fin 16) (index : Fin 16777216) (hup : s.up)
    (ht : s.ld.takes ctr R.LARDER_REQ (word (16 + kind + 256 * index))) (hlo : 7 ≤ kind.val) (hhi : kind.val ≤ 12) (hi : index.val < kindTotal kind)
    (hspare : s.ld.spares kind ≠ 0) (hin : s.ld.isRetired kind index = false) (hmoving : s.ld.moving kind = false)
    (huse : s.ld.rowInUse kind index = false) :
    Answers (exec (.larderRetire (some ctr) kind index) s) fun t => t.ld.host.ferr = false ∧ t.ld.mem.moves = s.ld.mem.moves ∧
      t.ld.isRetired kind index = true ∧ t.ld.g F.LARDER_REQSTAT_RESULT = 1 := by
  refine answers_rowRequest hup ht ⟨hlo, hhi⟩ hi hspare hin hmoving fun l hj hferr => ?_
  have hsame := l.retire_same kind index 4 true false
  have hlisted := l.retire_isRetired kind index 4 true false
  have hact : (if l.rowInUse kind index then l.rowRetires (kindMem kind) index 4 false else l.retire kind index 4 true false) =
      l.retire kind index 4 true false := if_neg (by rw [hj.rowInUse, huse]; decide)
  generalize l.retire kind index 4 true false = m at *
  refine ⟨m, hact, .of_same hsame, fun t ht => ?_⟩
  obtain ⟨hferr', hmem, hmram, hregs⟩ := m.reqResult_ended 1
  rw [← ht] at hferr' hmem hmram hregs
  refine ⟨hferr'.trans ((congrArg HostRun.ferr hsame.host).trans hferr), ?_, ?_, (Logic.Reported.of_regs hregs).result (by decide)⟩
  · rw [hmem, hsame.mem, hj.mem]
  · rw [Logic.isRetired, hmram]
    exact hlisted

theorem Logic.countRefusal_port (a r : Nat) (l : Logic) : (l.countRefusal a r).PortKept l :=
  ⟨l.countRefusal_host .., Logic.of_bare Logic.boot (l.bare_countRefusal ..), Logic.of_bare Logic.linkUp (l.bare_countRefusal ..)⟩

/-- A word that its page refuses ends its frame in error, and is counted (R54, R261). -/
theorem answers_refusedWord {s : State} {ctr w : Word} {a r : Nat} {p : State → Prop} (htold : s.told = true) (ht : s.ld.takes ctr a w)
    (ha : FreeRegister a)
    (h : ∀ x, ∃ l, ({ s with ld := s.ld.framed x ctr } : State).actWord x.role a w 0#32 = (.refused r, { s with ld := l }) ∧
      l.boot = s.ld.boot ∧ l.linkUp = s.ld.linkUp ∧ ∀ t : State, t.ld = (l.countRefusal a r).frameError opWriteAuth [(1, a)] → p t) :
    Answers (runBoth (fun s => s.wordFrame (some ctr) a w) s) p := by
  obtain ⟨x, hcur, hends⟩ := State.oneWord_ends ht fun ses s => s.commitWord ses a w
  obtain ⟨l, hact, hboot, hlink, hp⟩ := h x
  have hjudge : ({ s with ld := s.ld.framed x ctr } : State).judgeWord (some x) a w 0#32 false = (.refused r, { s with ld := l }) := by
    rw [State.judgeWord_framed ha (s.ld.framed_framed x ctr) hcur ht.2.2.2, hact]
  have hword := State.commitWord_refused (some x) a w 0#32 false _ _ r ha.page hjudge
  have hkept := l.countRefusal_port a r
  have hcounted := State.onLd_ld { s with ld := l } (Logic.countRefusal a r)
  have hfd := State.onLd_fd { s with ld := l } (Logic.countRefusal a r)
  generalize ({ s with ld := l } : State).onLd (Logic.countRefusal a r) = u at *
  rw [← hcounted] at hkept hp
  have hboot' : u.ld.boot.logic ≠ 0 := by
    rw [hkept.boot, hboot]
    exact Logic.answers_boot (Logic.serves_answers ht.1)
  have hframe := (hends _ _ hword).trans (if_neg hboot')
  refine answers_told (g := fun s => s.wordFrame (some ctr) a w) htold ?_ ?_ fun t ht _ => hp t (ht.trans (congrArg State.ld hframe))
  · refine (congrArg (fun u : State => u.ld.linkUp) hframe).trans ?_
    rw [State.onLd_ld]
    exact (Logic.of_bare Logic.linkUp (Logic.bare_frameError ..)).trans (hkept.linkUp.trans hlink)
  · refine (congrArg (fun u : State => u.fd.out) hframe).trans ?_
    rw [State.onLd_fd, hfd]

/-- The logic die once a request has been refused. -/
def Logic.reqDenied (k i : Nat) (l : Logic) : Logic := (l.reqResult 4).larderEvt 5 k i 0 false

theorem larderRetire_refused (s : State) (ctr : Word) (kind : Fin 16) (index : Fin 16777216) (hup : s.up)
    (ht : s.ld.takes ctr R.LARDER_REQ (word (16 + kind + 256 * index))) (hi : index.val < kindTotal kind)
    (hnone : s.ld.spares kind = 0 ∨ s.ld.isRetired kind index = true) :
    Answers (exec (.larderRetire (some ctr) kind index) s) fun t =>
      t.ld.host.ferr = true ∧ t.ld.g F.LARDER_REQSTAT_RESULT = 4 ∧ t.ld.mram = s.ld.mram := by
  obtain ⟨hk, hi', hop⟩ := request_word (r := 1) (by decide) kind index
  rw [Nat.mul_one] at hk hi' hop
  have htold : s.told = true := by rw [State.told, hup.2.2, Bool.or_true]
  refine answers_refusedWord (r := rBlock) htold ht freeRegister_larderReq fun x => ?_
  have hj := s.ld.framed_judged x ctr
  generalize s.ld.framed x ctr = l at *
  have hreq : ∃ b, ({ s with ld := l } : State).larderReq (word (16 + kind + 256 * index)) =
      (.refused rBlock, { s with ld := (l.when b Logic.slotShort).reqDenied kind index }) := by
    unfold State.larderReq State.larderRetire
    rw [hop, hk, hi']
    dsimp only
    rw [if_neg (by omega), if_pos]
    · exact ⟨_, rfl⟩
    · rw [hj.spares, hj.isRetired]
      exact hnone.elim .inl fun h => .inr (.inl h)
  obtain ⟨b, hreq⟩ := hreq
  have hshort := Logic.PortKept.when Logic.slotShort_port (c := b) l
  have hkeys (m : Logic) : m.slotShort.mram = m.mram := (Logic.fault_mram ..).trans (m.evt_mram ..)
  have hmram : (l.when b Logic.slotShort).mram = s.ld.mram := (Logic.when_mram _ _ _ hkeys).trans hj.mram
  generalize l.when b Logic.slotShort = m at *
  have hsame : (m.reqDenied kind index).SameBut (m.reqResult 4) := by
    unfold Logic.reqDenied Logic.larderEvt
    exact Logic.setEvt_same ..
  refine ⟨_, hreq, hsame.boot.trans (hshort.boot.trans hj.boot), hsame.linkUp.trans (hshort.linkUp.trans hj.linkUp), fun t ht => ?_⟩
  have hresult : (m.reqDenied kind index).g F.LARDER_REQSTAT_RESULT = 4 :=
    ((Logic.Reported.setEvt (m.reqResult 4) ..).trans (.refl _)).result (n := 4) (by decide)
  have hmram' : (m.reqDenied kind index).mram = s.ld.mram := (Logic.larderEvt_mram ..).trans hmram
  generalize m.reqDenied kind index = u at *
  rw [ht]
  refine ⟨Logic.frameError_ferr _ _ (List.cons_ne_nil _ _), ?_, ?_⟩
  · rw [Logic.g_frameError (by decide), ← hresult]
    exact congrArg (wbits · 0 3) (Logic.word_put_other _ _ (by decide) |>.trans (Logic.word_put_other _ _ (by decide) |>.trans (Logic.word_put_other _ _ (by decide))))
  · exact (Logic.of_bare Logic.mram (Logic.bare_frameError ..)).trans hmram'

/-- The logic die once a resource's test begins. -/
def Logic.testBegun (k i : Nat) (l : Logic) : Logic :=
  { l with larder := { l.larder with testing := l.larder.testing.filter (· != (k, i)) ++ [(k, i)] } }

/-- RESTORE of a retired resource begins its test (R395). -/
theorem State.larderReq_restores {s : State} {k i : Nat} {w : Word} (hw : wbits w 0 4 = k ∧ wbits w 8 24 = i ∧ wbits w 4 4 = 2)
    (hi : i < kindTotal k) (hin : s.ld.isRetired k i = true) (hfew : s.ld.restores_ k i < 2) (hquiet : s.retiring k = false) :
    ∃ u : State, s.larderReq w = (.done, u) ∧ u.ld = (s.ld.testBegun k i).reqResult 2 ∧ u.Quiet s := by
  obtain ⟨hk, hi', hop⟩ := hw
  have hbegun : (s.onLd fun l => (l.testBegun k i).reqResult 2).Quiet s := ⟨rfl, rfl, rfl, fun _ hr => hr⟩
  have hreq : s.larderReq w = s.larderRestore w := by
    unfold State.larderReq
    rw [hop]
    rfl
  rw [hreq]
  unfold State.larderRestore
  rw [hk, hi']
  dsimp only
  rw [if_neg (by omega), if_neg (by rw [hin, hquiet]; simp; omega)]
  by_cases hslice : k = 0
  · rw [if_pos hslice]
    exact ⟨_, rfl, State.onFd_ld .., (State.Quiet.onFd _ (Field.reports_setRole ..)).trans hbegun⟩
  · rw [if_neg hslice]
    exact ⟨_, rfl, rfl, hbegun⟩

theorem larderRestore_tests (s : State) (ctr : Word) (kind : Fin 16) (index : Fin 16777216) (hup : s.up)
    (ht : s.ld.takes ctr R.LARDER_REQ (word (32 + kind + 256 * index))) (hi : index.val < kindTotal kind)
    (hin : s.ld.isRetired kind index = true) (hfew : s.ld.restores_ kind index < 2) (hquiet : s.retiring kind = false) :
    Answers (exec (.larderRestore (some ctr) kind index) s) fun t => t.ld.host.ferr = false ∧ t.ld.g F.LARDER_REQSTAT_RESULT = 2 ∧
      t.ld.larder.testing = s.ld.larder.testing.filter (· != (kind.val, index.val)) ++ [(kind.val, index.val)] := by
  have hw := request_word (r := 2) (by decide) kind index
  refine answers_quietWord hup ht freeRegister_larderReq fun l role hj => ?_
  obtain ⟨u, hact, hld, hkept⟩ := State.larderReq_restores (s := { s with ld := l }) hw hi ((hj.isRetired ..).trans hin)
    ((hj.restores ..).trans_lt hfew) ((hj.retiring _).trans hquiet)
  refine ⟨u, hact, hkept, fun t hferr hshown htesting _ => ⟨hferr, ?_, ?_⟩⟩
  · rw [hld] at hshown
    exact hshown.result (by decide)
  · rw [htesting, hld, ← hj.larder]
    rfl

/-! Restore tests (R109, R395). -/

/-- What a restore test makes the field die tell: nothing of a retirement or of a request. -/
def FMsg.tests : FMsg → Bool
  | .fault _ | .record _ | .gen _ | .slice .. | .refs .. => true
  | .put x _ => x.addr == R.EXC_TDAC
  | _ => false

namespace Field

def tests (f : Field) : Bool := f.out.all FMsg.tests

theorem tests_tell {f : Field} {m : FMsg} (hf : f.tests = true) (hm : m.tests = true) : (f.tell m).tests = true := by
  simp only [tests, tell, List.all_append, Bool.and_eq_true]
  exact ⟨hf, by simpa using hm⟩

theorem tests_of_out {f g : Field} (hf : f.tests = true) (h : g.out = f.out) : g.tests = true := by
  unfold tests
  rw [h]
  exact hf

theorem tests_setRole {f : Field} (hf : f.tests = true) (n : Nat) (h : SliceRun → SliceRun) : (f.setRole n h).tests = true := by
  unfold setRole
  exact tests_tell (f := (f.modSlice n h).gen (R.pageSLICE n)) (tests_tell (f := f.modSlice n h) hf rfl) rfl

theorem tests_testVerdict {f : Field} (hf : f.tests = true) (n fail dev : Nat) : (f.testVerdict n fail dev).2.tests = true := by
  have hown (v : Nat) : (f.ownTell F.EXC_TDAC_CODE v).tests = true := by
    unfold ownTell
    exact tests_tell (tests_of_out hf rfl) (beq_self_eq_true _)
  have hcode (c : Bool) (v : Int) : (f.when c (dacCode v)).tests = true := by
    cases c
    · exact hf
    · change (f.dacCode v).tests = true
      unfold dacCode
      cases f.cb F.XPT_CFG_TDAC_USER
      · exact hown _
      · exact hf
  have hrot (g : Field) (h : Rotation → Rotation) : (g.modRot h).out = g.out := rfl
  unfold testVerdict
  dsimp only
  exact tests_setRole (tests_of_out (hcode ..) (hrot ..)) _ _

theorem released_testVerdict (f : Field) (n fail dev : Nat) : (f.testVerdict n fail dev).2.released = f.released := by
  have hcode (c : Bool) (v : Int) : (f.when c (dacCode v)).released = f.released := by
    unfold when dacCode when
    split
    · split <;> rfl
    · rfl
  have hrot (g : Field) (h : Rotation → Rotation) : (g.modRot h).released = g.released := rfl
  have hrole (g : Field) (h : SliceRun → SliceRun) : (g.setRole n h).released = g.released := rfl
  unfold testVerdict
  dsimp only
  exact (hrole ..).trans ((hrot ..).trans (hcode ..))

theorem slice_setRole_self (f : Field) (n : Nat) (h : SliceRun → SliceRun) : (f.setRole n h).slice n = h (f.slice n) := by
  have hslices : (f.setRole n h).slices = (f.modSlice n h).slices := rfl
  rw [Field.slice, hslices]
  exact slice_modSlice_same f n h

theorem tests_unretire {f : Field} (hf : f.tests = true) (k i : Nat) : (f.unretire k i).tests = true := by
  have hrefs (e : ExcRun) : (({ f with exc := e } : Field).put F.EXC_REF_SPARE_AVAIL 1).out = f.out := put_out ..
  unfold unretire
  dsimp only
  split
  · exact tests_setRole hf _ _
  · exact tests_of_out hf ((modDout_out ..).trans (put_out ..))
  · exact tests_tell (tests_of_out hf (hrefs _)) rfl
  · exact hf

theorem tests_of_waits {f : Field} (h : f.out.all waits = true) : f.tests = true := by
  refine List.all_eq_true.mpr fun m hm => ?_
  have hw := List.all_eq_true.mp h m hm
  cases m with
  | fault | record => rfl
  | _ => exact absurd hw Bool.false_ne_true

end Field

/-- A field die that has ended a test leaves the Larder's result and the retired resources. -/
theorem drain_tested {s : State} (h : s.ld.linkUp = true → s.fd.tests = true) :
    (drain s).ld.regs.word R.LARDER_REQSTAT = s.ld.regs.word R.LARDER_REQSTAT ∧ (drain s).ld.mram.larder.retired = s.ld.mram.larder.retired := by
  have hone (t : Nat) (m : FMsg) (hm : m.tests = true) (l : Logic) : (takeMsg t m l).regs.word R.LARDER_REQSTAT = l.regs.word R.LARDER_REQSTAT ∧
      (takeMsg t m l).mram.larder.retired = l.mram.larder.retired := by
    cases m with
    | gen p =>
      refine ⟨(Logic.Reported.takeMsg rfl t l).word _ (by decide), ?_⟩
      rw [takeMsg]
      split
      · rw [Logic.larderGen_mram]
      · rw [Logic.gen_mram]
    | slice =>
      refine ⟨(Logic.Reported.takeMsg rfl t l).word _ (by decide), ?_⟩
      rw [takeMsg, Logic.larderGen_mram]
      rfl
    | put x v =>
      have hx : x.addr = R.EXC_TDAC := eq_of_beq hm
      have hput : (l.put x v).regs.word R.LARDER_REQSTAT = l.regs.word R.LARDER_REQSTAT := l.word_put_other v (by rw [hx]; decide)
      refine ⟨(Logic.word_when (k := Logic.noteOwned x.addr) (fun m => rfl) _).trans hput, ?_⟩
      rw [takeMsg, Logic.when_mram _ _ _ (Logic.noteOwned_mram _), Logic.put_mram]
    | fault | record | refs => exact ⟨rfl, rfl⟩
    | _ => exact absurd hm Bool.false_ne_true
  cases hl : s.ld.linkUp with
  | false => rw [drain_ld_down s hl]; exact ⟨rfl, rfl⟩
  | true =>
    rw [drain_ld s hl]
    have hms := h hl
    unfold Field.tests at hms
    generalize s.fd.out = ms at hms
    generalize s.ld = l
    induction ms generalizing l with
    | nil => exact ⟨rfl, rfl⟩
    | cons m ms ih =>
      obtain ⟨hm, hms⟩ := Bool.and_eq_true_iff.mp hms
      exact ⟨(ih hms _).1.trans (hone _ m hm l).1, (ih hms _).2.trans (hone _ m hm l).2⟩

/-- The state once a restore test is out of hand, with its verdict shown where no other is (R395). -/
def State.testShown (rest : List (Nat × Nat)) (pass : Bool) (s : State) : State :=
  if rest = [] then s.onLd (Logic.reqResult (if pass then 1 else 3)) else s

def Logic.testTaken (rest : List (Nat × Nat)) (l : Logic) : Logic := { l with larder := { l.larder with testing := rest } }

/-- The restored resource, on both dies. -/
def State.restored (k i : Nat) (s : State) : State := ((s.onLd (Logic.unretire k i)).onFd (Field.unretire k i)).onLd Logic.showClocks

theorem State.restoreDone_pass {s v : State} {k i fail dev : Nat} {rest : List (Nat × Nat)} (h : s.ld.larder.testing = (k, i) :: rest)
    (hv : (s.onLd (Logic.testTaken rest)).restoreVerdict k i fail dev = (true, v)) : s.restoreDone fail dev = (v.restored k i).testShown rest true := by
  unfold State.restoreDone
  rw [h]
  dsimp only
  rw [show (s.onLd fun l => { l with larder := { l.larder with testing := rest } }) = s.onLd (Logic.testTaken rest) from rfl, hv]
  rfl

theorem State.restoreDone_fail {s v : State} {k i fail dev : Nat} {rest : List (Nat × Nat)} (h : s.ld.larder.testing = (k, i) :: rest)
    (hv : (s.onLd (Logic.testTaken rest)).restoreVerdict k i fail dev = (false, v)) : s.restoreDone fail dev =
      (if k = 0 then v.onFd (Field.setRole i fun r => { r with role := .retired }) else v).testShown rest false := by
  unfold State.restoreDone
  rw [h]
  dsimp only
  rw [show (s.onLd fun l => { l with larder := { l.larder with testing := rest } }) = s.onLd (Logic.testTaken rest) from rfl, hv]
  rfl

/-- What a test that is shown leaves on the logic die, once the field die has told what it has. -/
theorem testShown_shows {u : State} {rest : List (Nat × Nat)} (pass : Bool) (htests : u.ld.linkUp = true → u.fd.tests = true)
    (hrest : u.ld.larder.testing = rest) : (drain (u.testShown rest pass)).ld.mram.larder.retired = u.ld.mram.larder.retired ∧
      (drain (u.testShown rest pass)).ld.larder.testing = rest ∧
      (rest = [] → (drain (u.testShown rest pass)).ld.g F.LARDER_REQSTAT_RESULT = if pass then 1 else 3) ∧
      (drain (u.testShown rest pass)).fd.slices = u.fd.slices := by
  have hshown : (u.testShown rest pass).fd = u.fd ∧ (u.testShown rest pass).ld.linkUp = u.ld.linkUp ∧
      (u.testShown rest pass).ld.mram = u.ld.mram ∧ (u.testShown rest pass).ld.larder = u.ld.larder ∧
      (rest = [] → (u.testShown rest pass).ld.g F.LARDER_REQSTAT_RESULT = if pass then 1 else 3) := by
    unfold State.testShown
    split
    · refine ⟨rfl, rfl, rfl, rfl, fun _ => ?_⟩
      refine (Logic.g_put_same u.ld F.LARDER_REQSTAT_RESULT _ rfl).trans ?_
      cases pass <;> rfl
    · next hne => exact ⟨rfl, rfl, rfl, rfl, fun h => absurd h hne⟩
  generalize u.testShown rest pass = v at *
  obtain ⟨hfd, hlink, hmram, hlarder, hresult⟩ := hshown
  obtain ⟨hword, hretired⟩ := drain_tested (s := v) (by rw [hlink, hfd]; exact htests)
  refine ⟨hretired.trans (by rw [hmram]), ?_, fun h => ?_, ?_⟩
  · rw [(congrArg LarderRun.testing (drain_ld_same v).queue :), ← hrest, ← hlarder]
  · rw [← hresult h]
    exact congrArg (wbits · F.LARDER_REQSTAT_RESULT.lo F.LARDER_REQSTAT_RESULT.len) hword
  · rw [drain_fd, hfd]

theorem State.tests_of_told {s : State} (htold : s.told = true) (hl : s.ld.linkUp = true) : s.fd.tests = true := by
  simp only [State.told, hl, Bool.not_true, Bool.false_or] at htold
  exact Field.tests_of_waits htold

/-- A verdict leaves the logic die, and what the field die has to tell is of the test (R109). -/
theorem State.restoreVerdict_kept {s : State} (htests : s.ld.linkUp = true → s.fd.tests = true) (k i fail dev : Nat) :
    (s.restoreVerdict k i fail dev).2.ld = s.ld ∧ (s.ld.linkUp = true → (s.restoreVerdict k i fail dev).2.fd.tests = true) ∧
      (s.restoreVerdict k i fail dev).2.fd.released = s.fd.released := by
  unfold State.restoreVerdict
  split
  · exact ⟨rfl, htests, rfl⟩
  split
  · exact ⟨rfl, fun hl => Field.tests_testVerdict (htests hl) .., Field.released_testVerdict ..⟩
  · exact ⟨rfl, htests, rfl⟩

theorem Logic.unretire_shown (k i : Nat) (l : Logic) : ((l.unretire k i).showClocks).mram.larder.retired = l.mram.larder.retired.filter (· != (k, i)) ∧
    ((l.unretire k i).showClocks).larder.testing = l.larder.testing ∧ ((l.unretire k i).showClocks).linkUp = l.linkUp := by
  have hshow (m : Logic) : m.showClocks.mram = m.mram ∧ m.showClocks.larder = m.larder := ⟨Logic.of_bare Logic.mram (Logic.bare_showClocks m), rfl⟩
  rw [(hshow _).1, (hshow _).2, Logic.showClocks_linkUp]
  unfold Logic.unretire
  dsimp only
  have hgen (m : Logic) : (m.larderEvt 3 k i 0 false).larderGen.SameBut m := (Logic.larderGen_same _).trans (by
    unfold Logic.larderEvt
    exact Logic.setEvt_same ..)
  refine ⟨?_, (congrArg LarderRun.testing (hgen _).queue :), (hgen _).linkUp⟩
  rw [Logic.larderGen_mram, Logic.larderEvt_mram]
  rfl

theorem restoreTest_passes (s : State) (r : RestoreResult) (k i : Nat) (rest : List (Nat × Nat)) (htold : s.told = true)
    (htesting : s.ld.larder.testing = (k, i) :: rest) (hfail : r.fail.val = 0)
    (hpass : k ≠ 0 ∨ s.ld.linkUp = true ∧ s.fd.released = true ∧ (s.fd.testVerdict i 0 r.dev).1 = 0) :
    Answers (exec (.restoreTestDone r) s) fun t => t.ld.isRetired k i = false ∧ t.ld.larder.testing = rest ∧
      (rest = [] → t.ld.g F.LARDER_REQSTAT_RESULT = 1) := by
  refine ⟨_, runBoth_next .., ?_⟩
  dsimp only
  obtain ⟨hvld, hvtests, -⟩ := State.restoreVerdict_kept (s := s.onLd (Logic.testTaken rest)) (State.tests_of_told htold) k i r.fail r.dev
  have hverdict : ((s.onLd (Logic.testTaken rest)).restoreVerdict k i r.fail r.dev).1 = true := by
    unfold State.restoreVerdict
    rw [hfail]
    split
    · rfl
    · next hk =>
      obtain ⟨hl, hr, hv⟩ := hpass.resolve_left hk
      exact (congrArg Prod.fst (if_pos (Bool.and_eq_true_iff.mpr ⟨hl, hr⟩))).trans (beq_iff_eq.mpr hv)
  obtain ⟨v, hv⟩ : ∃ v, (s.onLd (Logic.testTaken rest)).restoreVerdict k i r.fail r.dev = (true, v) := ⟨_, Prod.ext hverdict rfl⟩
  rw [hv] at hvld hvtests
  dsimp only at hvld hvtests
  rw [State.restoreDone_pass htesting hv]
  obtain ⟨hretired, hleft, hlink⟩ := v.ld.unretire_shown k i
  have hld : (v.restored k i).ld = ((v.ld.unretire k i)).showClocks := by
    unfold State.restored State.onLd
    dsimp only
    rw [State.onFd_ld]
  rw [← hld] at hretired hleft hlink
  have htests : (v.restored k i).ld.linkUp = true → (v.restored k i).fd.tests = true := by
    intro hl
    rw [hlink, hvld] at hl
    have hv := hvtests hl
    have honFd (u : State) (hu : u.fd.tests = true) : (u.onFd (Field.unretire k i)).fd.tests = true := by
      unfold State.onFd
      split
      · exact Field.tests_unretire hu k i
      · exact hu
    exact honFd (v.onLd (Logic.unretire k i)) hv
  obtain ⟨hkept, hrest, hresult, -⟩ := testShown_shows (rest := rest) true htests (hleft.trans (congrArg (fun l : Logic => l.larder.testing) hvld))
  generalize drain ((v.restored k i).testShown rest true) = t at *
  refine ⟨?_, hrest, hresult⟩
  rw [Logic.isRetired, hkept, hretired, Bool.eq_false_iff]
  intro hmem
  have := (List.mem_filter.mp (List.contains_iff_mem.mp hmem)).2
  simp at this

theorem restoreTest_fails (s : State) (r : RestoreResult) (k i : Nat) (rest : List (Nat × Nat)) (htold : s.told = true)
    (htesting : s.ld.larder.testing = (k, i) :: rest) (hfail : ((s.onLd (Logic.testTaken rest)).restoreVerdict k i r.fail r.dev).1 = false) :
    Answers (exec (.restoreTestDone r) s) fun t => t.ld.mram.larder.retired = s.ld.mram.larder.retired ∧
      (k = 0 → s.ld.linkUp = true → s.fd.released = true → (t.fd.slice i).role = .retired) ∧ t.ld.larder.testing = rest ∧
      (rest = [] → t.ld.g F.LARDER_REQSTAT_RESULT = 3) := by
  refine ⟨_, runBoth_next .., ?_⟩
  dsimp only
  obtain ⟨hvld, hvtests, hvreleased⟩ := State.restoreVerdict_kept (s := s.onLd (Logic.testTaken rest)) (State.tests_of_told htold) k i r.fail r.dev
  obtain ⟨v, hv⟩ : ∃ v, (s.onLd (Logic.testTaken rest)).restoreVerdict k i r.fail r.dev = (false, v) := ⟨_, Prod.ext hfail rfl⟩
  rw [hv] at hvld hvtests hvreleased
  dsimp only at hvld hvtests hvreleased
  rw [State.restoreDone_fail htesting hv]
  have hu : ∀ u : State, u = (if k = 0 then v.onFd (Field.setRole i fun r => { r with role := .retired }) else v) → u.ld = v.ld ∧
      (u.ld.linkUp = true → u.fd.tests = true) ∧ (k = 0 → s.ld.linkUp = true → s.fd.released = true → (u.fd.slice i).role = .retired) := by
    intro u hu
    split at hu
    · subst hu
      refine ⟨State.onFd_ld .., fun hl => ?_, fun _ hl hr => ?_⟩
      · rw [State.onFd_ld, hvld] at hl
        unfold State.onFd
        split
        · exact Field.tests_setRole (hvtests hl) ..
        · exact hvtests hl
      · unfold State.onFd
        rw [if_pos (Bool.and_eq_true_iff.mpr ⟨(congrArg Logic.linkUp hvld).trans hl, hvreleased.trans hr⟩)]
        exact congrArg SliceRun.role (Field.slice_setRole_self v.fd i _)
    · next hk =>
      subst hu
      exact ⟨rfl, fun hl => hvtests (by rwa [hvld] at hl), fun h => absurd h hk⟩
  generalize (if k = 0 then v.onFd (Field.setRole i fun r => { r with role := .retired }) else v) = u at *
  obtain ⟨huld, htests, hrole⟩ := hu u rfl
  have hld : u.ld = s.ld.testTaken rest := huld.trans hvld
  obtain ⟨hkept, hrest, hresult, hslices⟩ := testShown_shows (rest := rest) false htests (congrArg (fun l : Logic => l.larder.testing) hld)
  generalize drain (u.testShown rest false) = t at *
  refine ⟨hkept.trans ((congrArg (fun l : Logic => l.mram.larder.retired) hld).trans (rfl)), fun hk hl hr => ?_, hrest, hresult⟩
  rw [Field.slice, hslices]
  exact hrole hk hl hr

/-! The veto (R396). -/

theorem Logic.Reported.rowRetires (m : Memory) (row cause : Nat) (inj : Bool) (l : Logic) : (l.rowRetires m row cause inj).Reported l := by
  unfold Logic.rowRetires
  split
  · exact refl l
  split
  · exact refl l
  split
  · exact defer _ _ _ l
  split
  · dsimp only
    have hfault (k : Nat) (n : Logic) : (n.fault 61 true k inj).Reported n := of_regs rfl
    exact (when (hfault _) _).trans (when (defer _ _ _) l)
  · exact of_regs rfl

/-- A deferred row is let go. -/
def Logic.rowLetGo (l : Logic) (x : Nat × Nat) : Logic := (l.defer x.1 x.2 false).rowRetires (kindMem x.1) x.2 1 false

theorem Logic.rowLetGo_kept (l : Logic) (x : Nat × Nat) : (l.rowLetGo x).PortKept l ∧ (l.rowLetGo x).Reported l :=
  ⟨(Logic.rowRetires_port ..).trans (.of_same (l.defer_same ..)), (Logic.Reported.rowRetires ..).trans (.defer _ _ _ l)⟩

theorem Logic.rowsLetGo_kept (xs : List (Nat × Nat)) (l : Logic) : (xs.foldl Logic.rowLetGo l).PortKept l ∧ (xs.foldl Logic.rowLetGo l).Reported l := by
  induction xs generalizing l with
  | nil => exact ⟨.refl l, .refl l⟩
  | cons x xs ih =>
    obtain ⟨hport, hshown⟩ := ih (l.rowLetGo x)
    exact ⟨hport.trans (l.rowLetGo_kept x).1, hshown.trans (l.rowLetGo_kept x).2⟩

/-- The low bits of a word that is written under its register's mask. -/
theorem wbits_masked (old w : Word) : wbits ((old &&& ~~~(0x3FFF#32)) ||| (w &&& 0x3FFF#32)) 0 14 = wbits w 0 14 := by
  have hlow (x : Word) : wbits x 0 14 = (x &&& 0x3FFF#32).toNat := by
    rw [BitVec.toNat_and]
    exact (congrArg (· % 2 ^ 14) (Nat.div_one _)).trans (Nat.and_two_pow_sub_one_eq_mod x.toNat 14).symm
  rw [hlow, hlow]
  refine congrArg BitVec.toNat (BitVec.eq_of_getElem_eq fun i hi => ?_)
  simp only [BitVec.getElem_and, BitVec.getElem_or, BitVec.getElem_not]
  cases (0x3FFF#32)[i] <;> simp

/-- A word for the Larder's veto is shown, and has reached the field die (R8, R396). -/
theorem State.toField_veto {s : State} (w : Word) (hr : s.fd.released = true) (hl : s.ld.linkUp = true) (hc : s.ld.bar.cmds = []) :
    (s.toField R.LARDER_VETO w).Quiet s ∧ (s.toField R.LARDER_VETO w).fd.veto = wbits w 0 14 ∧
      (s.toField R.LARDER_VETO w).ld.g F.LARDER_VETO_KIND = wbits w 0 14 := by
  obtain ⟨hfd, hsame⟩ := State.toField_up R.LARDER_VETO w hr hl hc
  have htake : (s.toField R.LARDER_VETO w).fd = s.fd.takeVeto w := hfd
  refine ⟨⟨hsame.host, hsame.boot, hsame.linkUp, fun _ h => ?_⟩, ?_, ?_⟩
  · rw [htake, Field.reports_takeVeto]
    exact h
  · rw [htake, Field.veto_takeVeto]
  · have hword : (s.toField R.LARDER_VETO w).ld.regs.word R.LARDER_VETO =
        (s.ld.regs.word R.LARDER_VETO &&& ~~~(0x3FFF#32)) ||| (w &&& 0x3FFF#32) := by
      unfold State.toField
      rw [show word (writeMask R.LARDER_VETO) = 0x3FFF#32 by decide]
      have hanew (l : Logic) : l.commandedAnew R.LARDER_VETO w = l := rfl
      simp only [State.onLd, hanew, if_neg (by decide : ¬ 0x3FFF#32 = 0#32), ite_self]
      split <;> exact word_write_same ..
    exact (congrArg (wbits · 0 14) hword).trans (wbits_masked ..)

theorem vetoWrite_sets (s : State) (ctr w : Word) (hup : s.up) (hcmds : s.ld.bar.cmds = []) (ht : s.ld.takes ctr R.LARDER_VETO w) :
    Answers (exec (.vetoWrite (some ctr) w) s) fun t => t.ld.host.ferr = false ∧ t.ld.g F.LARDER_VETO_KIND = wbits w 0 14 ∧
      t.fd.veto = wbits w 0 14 := by
  refine answers_quietWord hup ht freeRegister_larderVeto fun l role hj => ?_
  obtain ⟨hquiet, hveto, hkind⟩ := State.toField_veto (s := { s with ld := l }) w hup.1 (hj.linkUp.trans hup.2.1) (by rw [hj.bar]; exact hcmds)
  have hact : ∃ xs : List (Nat × Nat), ({ s with ld := l } : State).vetoWritten w =
      (({ s with ld := l } : State).toField R.LARDER_VETO w).onLd fun l => xs.foldl Logic.rowLetGo l := ⟨_, rfl⟩
  obtain ⟨xs, hact⟩ := hact
  obtain ⟨hport, hshown⟩ := Logic.rowsLetGo_kept xs (({ s with ld := l } : State).toField R.LARDER_VETO w).ld
  refine ⟨_, congrArg (Prod.mk _) hact, (State.Quiet.keepLd _ hport).trans hquiet, fun t hferr hreport _ htveto => ⟨hferr, ?_, htveto.trans hveto⟩⟩
  refine Eq.trans ?_ hkind
  exact congrArg (wbits · F.LARDER_VETO_KIND.lo F.LARDER_VETO_KIND.len) ((hreport.trans hshown).word R.LARDER_VETO (by decide))

/-- Settles O12: requests to the Larder are carried out or refused, restore tests end, and the veto is set on both dies. -/
theorem larderRows : Obligations.LarderRows := by
  unfold Obligations.LarderRows
  refine ⟨fun s ctr kind index hup hcmds _ => larderRetire_done s ctr kind index hup hcmds,
    fun s ctr kind index hup _ _ => larderRetire_moves s ctr kind index hup, fun s ctr kind index hup _ _ => larderRetire_spareRow s ctr kind index hup,
    fun s ctr kind index hup _ _ => larderRetire_refused s ctr kind index hup, fun s ctr kind index hup _ _ => larderRestore_tests s ctr kind index hup,
    restoreTest_passes, fun s r k i rest htold htesting hk hfail => ?_, fun s r i rest htold htesting hfail => ?_,
    fun s ctr w hup hcmds _ => vetoWrite_sets s ctr w hup hcmds⟩
  · obtain ⟨t, ht, hretired, -, hrest, hresult⟩ := restoreTest_fails s r k i rest htold htesting (by
      unfold State.restoreVerdict
      rw [if_pos hk]
      exact beq_eq_false_iff_ne.mpr hfail)
    exact ⟨t, ht, hretired, hrest, hresult⟩
  · obtain ⟨t, ht, hretired, hrole, hrest, hresult⟩ := restoreTest_fails s r 0 i rest htold htesting (by
      unfold State.restoreVerdict
      rw [if_neg (fun h => h rfl)]
      split
      · next h =>
        obtain ⟨hl, hr⟩ := Bool.and_eq_true_iff.mp h
        exact beq_eq_false_iff_ne.mpr (hfail hl hr)
      · rfl)
    exact ⟨t, ht, hretired, hrole rfl, hrest, hresult⟩

end Sys2Proof.Machine
end

section
/-! The partner port: what is sent, what a received frame leaves, and the frames of chapter 19 (R323-R336). -/

namespace Sys2Proof.Machine

open Sys2Proof

/-! A frame arrives (R325). -/

/-- An INJECT mark on the next tag is used up (R348). -/
def Logic.unmarked (bad : Bool) (l : Logic) : Logic := l.modPair fun p => { p with badTag := p.badTag && !bad }

/-- The logic die once it has seen a frame's guard code. -/
def Logic.guardSeen (bad : Bool) (fr : PairSeen) (l : Logic) : Logic :=
  if fr.guard then (l.unmarked bad).guardGood else (l.unmarked bad).modPair fun p => { p with good := none }

/-- A frame's number is used up, and its RESEND asks for kept frames again. -/
def Logic.numbered (fr : PairSeen) (resend : Option (Fin 256)) (l : Logic) : Logic :=
  l.modPair fun p => { p with port := { p.port with
    got := (fr.fseq.val + 1) % 256
    again := match resend with
      | some a => (p.port.kept.takeWhile fun x => x.fseq != a.val).reverse
      | none => p.port.again } }

/-- Is a frame other than HELLO dropped? -/
def Logic.drops (bad : Bool) (fr : PairSeen) (l : Logic) : Prop :=
  fr.guard = false ∨ fr.tag = false ∨ bad = true ∨ fr.fseq.val ≠ l.pair.port.got ∨ l.pairKeyOk = false

theorem State.partnerFrame_drops {s : State} {fr : PairSeen} (resend : Option (Fin 256)) (act : State → State) {bad : Bool} (hport : s.ld.pairPortOn = true)
    (hbad : (s.ld.pair.badTag && fr.guard && fr.tag) = bad) (h : (s.ld.guardSeen bad fr).drops bad fr) :
    s.partnerFrame false fr resend act = s.onLd fun l => (l.guardSeen bad fr).dropPartner := by
  subst hbad
  unfold State.partnerFrame
  rw [hport, if_neg (by decide)]
  simp only [Bool.not_false, Bool.and_true, Bool.false_and, Bool.or_false, Bool.true_and]
  unfold Logic.drops at h
  unfold Logic.guardSeen at h ⊢
  cases hguard : fr.guard with
  | false => exact if_pos (.inl rfl)
  | true =>
    rw [hguard] at h
    refine if_pos (Or.imp ?_ (Or.imp ?_ (Or.imp ?_ (Or.imp ?_ ?_))) h)
    · exact fun h => absurd h (by decide)
    · exact fun h => by rw [h]; rfl
    · exact id
    · exact fun h => by rw [Bool.not_eq_true', beq_eq_false_iff_ne]; exact h
    · exact fun h => by rw [Bool.not_eq_true']; exact h

theorem State.partnerFrame_acts {s : State} {fr : PairSeen} (resend : Option (Fin 256)) (act : State → State) (hhears : s.ld.hears = true)
    (hpasses : s.ld.passes fr) : s.partnerFrame false fr resend act = act (s.onLd (Logic.numbered fr resend)) := by
  simp only [Logic.hears, Bool.and_eq_true, Bool.not_eq_true'] at hhears
  obtain ⟨⟨⟨hport, hkey⟩, hlink⟩, hbad⟩ := hhears
  obtain ⟨hguard, htag, hseq⟩ := hpasses
  have hgood : s.onLd Logic.guardGood = s := congrArg (fun l => { s with ld := l }) (if_pos hlink : s.ld.guardGood = s.ld)
  have hgot : (s.onLd Logic.guardGood).ld.pair.port.got = s.ld.pair.port.got := by rw [hgood]
  have hkeys : (s.onLd Logic.guardGood).ld.pairKeyOk = s.ld.pairKeyOk := by rw [hgood]
  unfold State.partnerFrame
  rw [hport, if_neg (by decide), hbad, hguard, htag]
  simp only [Bool.not_false, Bool.and_true, Bool.false_and, Bool.or_false, Bool.true_and, if_true]
  refine (if_neg ?_).trans (congrArg act (congrArg (State.onLd (Logic.numbered fr resend)) hgood))
  rintro (h | h | h | h | h)
  · exact absurd h (by decide)
  · exact absurd h (by decide)
  · exact absurd h (by decide)
  · rw [Bool.not_eq_true', beq_eq_false_iff_ne] at h
    exact h (hseq.trans hgot.symm)
  · rw [Bool.not_eq_true'] at h
    exact Bool.noConfusion ((hkeys.symm.trans h).symm.trans hkey)

/-- A frame that acts on the logic die, and on what the field die tells nothing of. -/
theorem answers_heard {s : State} {fr : PairSeen} {resend : Option (Fin 256)} {act : State → State} {p : State → Prop} (htold : s.told = true)
    (hhears : s.ld.hears = true) (hpasses : s.ld.passes fr)
    (h : ∀ u, u = act (s.onLd (Logic.numbered fr resend)) → u.ld.linkUp = s.ld.linkUp ∧ u.fd.out = s.fd.out ∧
      ∀ t : State, t.ld = u.ld → { t.fd with out := s.fd.out } = { u.fd with out := s.fd.out } → p t) :
    Answers (runBoth (State.partnerFrame false fr resend act) s) p := by
  obtain ⟨hlink, hout, hp⟩ := h _ rfl
  have hframe := State.partnerFrame_acts resend act hhears hpasses
  rw [← hframe] at hlink hout hp
  exact answers_told htold hlink hout hp

/-- Two logic dies that agree on the link with the field die and, of the port, on its numbers; `a` is the one register that may differ. -/
structure Logic.PortSame (a : Nat) (t l : Logic) : Prop where
  word : ∀ y, regHome y ≠ a → t.regs.word y = l.regs.word y
  linkUp : t.linkUp = l.linkUp
  port : t.pair.port = l.pair.port

namespace Logic.PortSame

variable {a : Nat} {t l m : Logic}

theorem refl (l : Logic) : l.PortSame a l := ⟨fun _ _ => rfl, rfl, rfl⟩

theorem trans (h : t.PortSame a l) (k : l.PortSame a m) : t.PortSame a m :=
  ⟨fun y hy => (h.word y hy).trans (k.word y hy), h.linkUp.trans k.linkUp, h.port.trans k.port⟩

theorem put (l : Logic) (x : Fld) (v : Nat) (hx : regHome x.addr = a) : (l.put x v).PortSame a l :=
  ⟨fun _ hy => l.word_put_other v fun e => hy (e.trans hx), rfl, rfl⟩

theorem when {c : Bool} {h : Logic → Logic} (hh : ∀ l, (h l).PortSame a l) (l : Logic) : (l.when c h).PortSame a l := by
  cases c
  · exact refl l
  · exact hh l

theorem queueFrame (k : PFrame) (l : Logic) : (l.queueFrame k).PortSame a l := by
  unfold Logic.queueFrame
  split <;> exact ⟨fun _ _ => rfl, rfl, rfl⟩

theorem sayHello (l : Logic) : l.sayHello.PortSame a l := (queueFrame _ _).trans ⟨fun _ _ => rfl, rfl, rfl⟩

theorem guardGood (l : Logic) : l.guardGood.PortSame R.PAIR_STAT l := by
  unfold Logic.guardGood
  split
  · exact refl l
  split
  · exact ⟨fun _ _ => rfl, rfl, rfl⟩
  split
  · have hup (l : Logic) (t : Nat) : ((l.put F.PAIR_STAT_LINK 1).modPair fun p => { p with step := 1, heard := t }).PortSame R.PAIR_STAT l :=
      trans (l := l.put F.PAIR_STAT_LINK 1) ⟨fun _ _ => rfl, rfl, rfl⟩ (put (a := R.PAIR_STAT) l F.PAIR_STAT_LINK 1 (by decide))
    exact (sayHello _).trans ((when (fun m => put m F.PAIR_STAT_ROLE 2 (by decide)) _).trans (hup l _))
  · exact refl l

theorem guardSeen (bad : Bool) (fr : PairSeen) (l : Logic) : (l.guardSeen bad fr).PortSame R.PAIR_STAT l := by
  unfold Logic.guardSeen
  split
  · exact (guardGood _).trans ⟨fun _ _ => rfl, rfl, rfl⟩
  · exact ⟨fun _ _ => rfl, rfl, rfl⟩

end Logic.PortSame

/-- A frame that fails a check is counted and asked for again; it acts on nothing (R325). -/
theorem pairSummary_drops (s : State) (fr : PairSeen) (resend : Option (Fin 256)) (severe : Fin 256) (approved : Bool) (htold : s.told = true)
    (hport : s.ld.pairPortOn = true) (hfails : ¬ s.ld.passes fr) :
    Answers (exec (.pairSummary fr resend severe approved) s) fun t => t.ld.pair.port.ask = true ∧
      t.ld.g F.PAIR_PFRAMES_DISCARD = min (2 ^ F.PAIR_PFRAMES_DISCARD.len - 1) (s.ld.g F.PAIR_PFRAMES_DISCARD + 1) ∧
      t.ld.g F.PAIR_PARTNER_SEVERE = s.ld.g F.PAIR_PARTNER_SEVERE := by
  have hseen := Logic.PortSame.guardSeen (s.ld.pair.badTag && fr.guard && fr.tag) fr s.ld
  have hdrops : (s.ld.guardSeen (s.ld.pair.badTag && fr.guard && fr.tag) fr).drops (s.ld.pair.badTag && fr.guard && fr.tag) fr := by
    unfold Logic.drops
    rw [hseen.port]
    by_contra h
    simp only [not_or, Bool.not_eq_false, ne_eq, not_not] at h
    obtain ⟨hguard, htag, -, hseq, -⟩ := h
    exact hfails ⟨hguard, htag, hseq⟩
  have hframe := State.partnerFrame_drops resend (State.onLd (Logic.takeSummary severe approved)) hport rfl hdrops
  generalize (s.ld.pair.badTag && fr.guard && fr.tag) = bad at *
  refine answers_told htold ?_ ?_ fun t ht _ => ?_
  · exact (congrArg (fun u : State => u.ld.linkUp) hframe).trans hseen.linkUp
  · exact (congrArg (fun u : State => u.fd.out) hframe :)
  · have hld : t.ld = (s.ld.guardSeen bad fr).dropPartner := ht.trans (congrArg State.ld hframe)
    have hg {x : Fld} (hx : regHome x.addr ≠ R.PAIR_STAT) : (s.ld.guardSeen bad fr).g x = s.ld.g x :=
      congrArg (wbits · x.lo x.len) (hseen.word x.addr hx)
    rw [hld]
    refine ⟨rfl, ?_, ?_⟩
    · rw [← hg (by decide)]
      exact Logic.g_bump_same _ _ rfl
    · rw [← hg (by decide)]
      exact congrArg (wbits · 8 8) (Logic.word_put_other _ _ (by decide) (x := F.PAIR_PFRAMES_DISCARD) (a := R.PAIR_PARTNER))

theorem Logic.takeSummary_shown (severe : Fin 256) (approved : Bool) (l : Logic) : (l.takeSummary severe approved).linkUp = l.linkUp ∧
    (l.takeSummary severe approved).pair = l.pair ∧ (l.takeSummary severe approved).g F.PAIR_PARTNER_SEVERE = severe ∧
    (l.takeSummary severe approved).gb F.PAIR_PARTNER_APPROVED = approved := by
  have hlink := l.put_linkUp F.PAIR_PARTNER_SEVERE severe
  have hpair := l.put_pair F.PAIR_PARTNER_SEVERE severe
  have hsevere := (l.g_put_same F.PAIR_PARTNER_SEVERE severe rfl).trans (Nat.mod_eq_of_lt severe.isLt)
  unfold Logic.takeSummary
  generalize l.put F.PAIR_PARTNER_SEVERE severe = m at *
  exact ⟨(Logic.put_linkUp ..).trans hlink, (Logic.put_pair ..).trans hpair, (Logic.g_put_clear _ _ _ _ rfl rfl).trans hsevere,
    Logic.gb_putb_same _ _ rfl rfl⟩

theorem pairSummary_shows (s : State) (fr : PairSeen) (resend : Option (Fin 256)) (severe : Fin 256) (approved : Bool) (htold : s.told = true)
    (hhears : s.ld.hears = true) (hpasses : s.ld.passes fr) :
    Answers (exec (.pairSummary fr resend severe approved) s) fun t => t.ld.g F.PAIR_PARTNER_SEVERE = severe ∧
      t.ld.gb F.PAIR_PARTNER_APPROVED = approved ∧ t.ld.pair.port.got = (s.ld.pair.port.got + 1) % 256 ∧
      (∀ a, resend = some a → t.ld.pair.port.again = (s.ld.pair.port.kept.takeWhile fun x => x.fseq != a.val).reverse) := by
  refine answers_heard htold hhears hpasses fun u hu => ?_
  have hnumbered : (s.onLd (Logic.numbered fr resend)).ld.linkUp = s.ld.linkUp ∧ (s.onLd (Logic.numbered fr resend)).fd = s.fd ∧
      (s.onLd (Logic.numbered fr resend)).ld.pair.port.got = (fr.fseq.val + 1) % 256 ∧
      ∀ a, resend = some a → (s.onLd (Logic.numbered fr resend)).ld.pair.port.again =
        (s.ld.pair.port.kept.takeWhile fun x => x.fseq != a.val).reverse := ⟨rfl, rfl, rfl, fun a ha => by rw [ha]; rfl⟩
  generalize s.onLd (Logic.numbered fr resend) = v at *
  obtain ⟨hlink, hfd, hgot, hagain⟩ := hnumbered
  obtain ⟨hlink', hpair, hsevere, happroved⟩ := v.ld.takeSummary_shown severe approved
  have hld := (congrArg State.ld hu).trans (v.onLd_ld _)
  have hfd' := (congrArg State.fd hu).trans (v.onLd_fd _)
  generalize v.ld.takeSummary severe approved = m at *
  refine ⟨?_, congrArg Field.out (hfd'.trans hfd), fun t ht _ => ?_⟩
  · rw [hld, hlink', hlink]
  · rw [ht, hld, hpair]
    exact ⟨hsevere, happroved, hgot.trans (congrArg (fun n => (n + 1) % 256) hpasses.2.2), hagain⟩

theorem pairMirror_counts (s : State) (fr : PairSeen) (resend : Option (Fin 256)) (c : Word) (x : Session) (htold : s.told = true)
    (hhears : s.ld.hears = true) (hcur : s.ld.sess.cur = some x) (hpasses : s.ld.passes fr) :
    Answers (exec (.pairMirror fr resend (.ctr c)) s) fun t => t.ld.sess.cur = some { x with top := max x.top c.toNat } := by
  refine answers_heard htold hhears hpasses fun u hu => ?_
  subst hu
  refine ⟨rfl, rfl, fun t ht _ => ?_⟩
  rw [ht]
  exact congrArg (Option.map fun x : Session => { x with top := max x.top c.toNat }) hcur

theorem pairTrigger_acts (s : State) (fr : PairSeen) (resend : Option (Fin 256)) (groups : Fin 16) (stamp : Nat) (hup : s.up)
    (hhears : s.ld.hears = true) (hrole : s.ld.pairRole = 2) (hgroups : groups.val ≠ 0) (hpasses : s.ld.passes fr) :
    Answers (exec (.pairTrigger fr resend groups stamp) s) fun t => t.fd.trigs = s.fd.trigs ++ [{ stamp := stamp, groups := groups }] := by
  have htold : s.told = true := by rw [State.told, hup.2.2, Bool.or_true]
  refine answers_heard htold hhears hpasses fun u hu => ?_
  have hrole' : (s.onLd (Logic.numbered fr resend)).ld.pairRole = 2 := hrole
  have hup' : (s.onLd (Logic.numbered fr resend)).ld.linkUp = true ∧ (s.onLd (Logic.numbered fr resend)).fd.released = true := ⟨hup.2.1, hup.1⟩
  have hfd : (s.onLd (Logic.numbered fr resend)).fd = s.fd := rfl
  have hlink : (s.onLd (Logic.numbered fr resend)).ld.linkUp = s.ld.linkUp := rfl
  generalize s.onLd (Logic.numbered fr resend) = v at *
  have hon (h : Field → Field) (v : State) (hv : v.ld.linkUp = true ∧ v.fd.released = true) : v.onFd h = { v with fd := h v.fd } := by
    unfold State.onFd
    rw [hv.1, hv.2]
    rfl
  unfold State.takeTrigger at hu
  rw [if_neg (not_not_intro hrole'), if_neg hgroups, hon _ v hup'] at hu
  dsimp only at hu
  have hready (v : State) : v.becomeReady.ld.linkUp = v.ld.linkUp ∧ v.becomeReady.fd.out = v.fd.out ∧ v.becomeReady.fd.trigs = v.fd.trigs := by
    unfold State.becomeReady
    dsimp only
    refine ⟨?_, ?_, ?_⟩
    · rw [State.onFd_ld]
      rfl
    · unfold State.onFd
      split <;> rfl
    · unfold State.onFd
      split <;> rfl
  rw [← hfd]
  split at hu
  · subst hu
    obtain ⟨hlink', hout, htrigs⟩ := hready { v with fd := { v.fd with trigs := v.fd.trigs ++ [{ stamp := stamp, groups := groups }] } }
    refine ⟨hlink'.trans hlink, hout, fun t _ ht => ?_⟩
    have h := congrArg Field.trigs ht
    exact (show t.fd.trigs = _ from h).trans htrigs
  · subst hu
    exact ⟨hlink, rfl, fun t _ ht => (congrArg Field.trigs ht :)⟩

/-- The groups are aligned, from an instant at which they were not. -/
def Logic.alignShown (d : Option Nat) (l : Logic) : Logic := (l.modPair fun p => { p with alignBad := d }).put F.PAIR_STAT_TALIGN 1

/-- Where pairing waited for it, the lead's STATE goes out. -/
def Logic.stateDue (l : Logic) : Logic :=
  if l.pair.step = 4 then (l.modPair fun p => { p with step := 5 }).when ((l.modPair fun p => { p with step := 5 }).pairRole == 1) (Logic.queueFrame (.state none))
  else l

/-- The offset of a TIME exchange, and the follower's steering (R328). -/
def Logic.offsetShown (offset : Int) (l : Logic) : Logic :=
  (l.put F.PAIR_TOFFS_OFFSET (unsigned 32 offset)).when (l.pairRole == 2) (Logic.steered offset)

theorem Logic.timeExchange_near {offset : Int} (hnear : offset.natAbs ≤ 20) (l : Logic) :
    ∃ d, l.timeExchange offset = ((l.offsetShown offset).alignShown d).stateDue := ⟨_, if_pos hnear⟩

theorem Logic.PortSame.stateDue {a : Nat} (l : Logic) : l.stateDue.PortSame a l := by
  unfold Logic.stateDue
  split
  · exact (Logic.PortSame.when (.queueFrame _) _).trans ⟨fun _ _ => rfl, rfl, rfl⟩
  · exact .refl l

theorem Logic.PortSame.alignShown (d : Option Nat) (l : Logic) : (l.alignShown d).PortSame R.PAIR_STAT l :=
  (put (a := R.PAIR_STAT) (l.modPair fun p => { p with alignBad := d }) F.PAIR_STAT_TALIGN 1 (by decide)).trans ⟨fun _ _ => rfl, rfl, rfl⟩

theorem Logic.offsetShown_shows (offset : Int) (l : Logic) : (l.offsetShown offset).g F.PAIR_TOFFS_OFFSET = unsigned 32 offset ∧
    (l.offsetShown offset).linkUp = l.linkUp := by
  have hlt : unsigned 32 offset < 2 ^ F.PAIR_TOFFS_OFFSET.len := by
    unfold unsigned
    change _ < 4294967296
    omega
  have hput := (Logic.g_put_same l F.PAIR_TOFFS_OFFSET (unsigned 32 offset) rfl).trans (Nat.mod_eq_of_lt hlt)
  have hsteered (m : Logic) : (m.steered offset).g F.PAIR_TOFFS_OFFSET = m.g F.PAIR_TOFFS_OFFSET ∧ (m.steered offset).linkUp = m.linkUp := ⟨rfl, rfl⟩
  have hlink : (l.put F.PAIR_TOFFS_OFFSET (unsigned 32 offset)).linkUp = l.linkUp := Logic.put_linkUp ..
  unfold Logic.offsetShown
  generalize l.put F.PAIR_TOFFS_OFFSET (unsigned 32 offset) = m at *
  cases l.pairRole == 2
  · exact ⟨hput, hlink⟩
  · exact ⟨(hsteered m).1.trans hput, (hsteered m).2.trans hlink⟩

theorem pairTime_aligns (s : State) (fr : PairSeen) (resend : Option (Fin 256)) (offset : Int) (htold : s.told = true) (hhears : s.ld.hears = true)
    (hnear : offset.natAbs ≤ 20) (hpasses : s.ld.passes fr) :
    Answers (exec (.pairTime fr resend offset) s) fun t => t.ld.g F.PAIR_TOFFS_OFFSET = unsigned 32 offset ∧ t.ld.gb F.PAIR_STAT_TALIGN = true := by
  refine answers_heard htold hhears hpasses fun u hu => ?_
  subst hu
  obtain ⟨hoff, hlink⟩ := (s.ld.numbered fr resend).offsetShown_shows offset
  obtain ⟨d, hact⟩ := Logic.timeExchange_near hnear (s.ld.numbered fr resend)
  have hlink0 : (s.ld.numbered fr resend).linkUp = s.ld.linkUp := rfl
  have hu : (State.onLd (Logic.timeExchange offset) (s.onLd (Logic.numbered fr resend))).ld = (s.ld.numbered fr resend).timeExchange offset := rfl
  rw [hu, hact]
  generalize (s.ld.numbered fr resend).offsetShown offset = m at *
  have hkept := (Logic.PortSame.stateDue (a := R.PAIR_STAT) (m.alignShown d)).trans (.alignShown d m)
  have halign : (m.alignShown d).gb F.PAIR_STAT_TALIGN = true := Logic.gb_put_one _ _ rfl rfl
  have hdue := (Logic.PortSame.stateDue (a := R.PAIR_TOFFS) (m.alignShown d)).word R.PAIR_STAT (by decide)
  generalize (m.alignShown d).stateDue = n at *
  refine ⟨hkept.linkUp.trans (hlink.trans hlink0), rfl, fun t ht _ => ?_⟩
  rw [ht]
  exact ⟨(congrArg (wbits · 0 32) (hkept.word R.PAIR_TOFFS (by decide))).trans hoff,
    (Logic.gb_of_g (x := F.PAIR_STAT_TALIGN) (congrArg (wbits · 6 1) hdue :)).trans halign⟩

/-! HEARTBEAT (R334-R336). -/

/-- A heartbeat is noted with the partner's mode, and a partner in the lead role holds PLEAD. -/
def Logic.heartNoted (h : Heartbeat) (l : Logic) : Logic :=
  ((l.put F.PAIR_PARTNER_MODE h.mode).modPair fun p => { p with heard := l.time }).showPlead (h.role.val == 1)

theorem Logic.heartNoted_shown (h : Heartbeat) (l : Logic) : (l.heartNoted h).pair = { l.pair with heard := l.time } ∧
    (l.heartNoted h).linkUp = l.linkUp ∧ (l.heartNoted h).time = l.time ∧ (l.heartNoted h).g F.PAIR_PARTNER_MODE = h.mode ∧
    (l.heartNoted h).pairRole = l.pairRole ∧ (l.heartNoted h).gb F.PAIR_STAT_PLEAD_OUT = l.gb F.PAIR_STAT_PLEAD_OUT := by
  have hmode : (l.put F.PAIR_PARTNER_MODE h.mode).g F.PAIR_PARTNER_MODE = h.mode := (Logic.g_put_same _ _ _ rfl).trans (Nat.mod_eq_of_lt h.mode.isLt)
  have hstat (x : Fld) (hx : regHome x.addr ≠ R.PAIR_PARTNER) : (l.put F.PAIR_PARTNER_MODE h.mode).g x = l.g x :=
    congrArg (wbits · x.lo x.len) (l.word_put_other (x := F.PAIR_PARTNER_MODE) h.mode hx)
  have hplead (m : Logic) (b : Bool) : (m.putb F.PAIR_STAT_PLEAD_IN b).pair = m.pair ∧ (m.putb F.PAIR_STAT_PLEAD_IN b).linkUp = m.linkUp ∧
      (m.putb F.PAIR_STAT_PLEAD_IN b).time = m.time ∧ (m.putb F.PAIR_STAT_PLEAD_IN b).g F.PAIR_PARTNER_MODE = m.g F.PAIR_PARTNER_MODE ∧
      (m.putb F.PAIR_STAT_PLEAD_IN b).pairRole = m.pairRole ∧ (m.putb F.PAIR_STAT_PLEAD_IN b).gb F.PAIR_STAT_PLEAD_OUT = m.gb F.PAIR_STAT_PLEAD_OUT :=
    ⟨rfl, rfl, rfl, congrArg (wbits · 0 3) (m.word_put_other (x := F.PAIR_STAT_PLEAD_IN) _ (by decide)), Logic.g_put_clear _ _ _ _ rfl rfl,
      Logic.gb_of_g (Logic.g_put_clear _ _ _ _ rfl rfl)⟩
  have hpair : ((l.put F.PAIR_PARTNER_MODE h.mode).modPair fun p => { p with heard := l.time }).pair = { l.pair with heard := l.time } := rfl
  have hlink : ((l.put F.PAIR_PARTNER_MODE h.mode).modPair fun p => { p with heard := l.time }).linkUp = l.linkUp := rfl
  have htime : ((l.put F.PAIR_PARTNER_MODE h.mode).modPair fun p => { p with heard := l.time }).time = l.time := rfl
  have hregs : ((l.put F.PAIR_PARTNER_MODE h.mode).modPair fun p => { p with heard := l.time }).regs = (l.put F.PAIR_PARTNER_MODE h.mode).regs := rfl
  unfold Logic.heartNoted Logic.showPlead
  generalize (l.put F.PAIR_PARTNER_MODE h.mode).modPair (fun p => { p with heard := l.time }) = m at *
  obtain ⟨h1, h2, h3, h4, h5, h6⟩ := hplead m (h.role.val == 1 || m.gb F.PAIR_STAT_PLEAD_OUT)
  exact ⟨h1.trans hpair, h2.trans hlink, h3.trans htime, h4.trans ((Logic.g_of_regs hregs _).trans hmode),
    h5.trans ((Logic.g_of_regs hregs _).trans (hstat _ (by decide))),
    h6.trans (Logic.gb_of_g ((Logic.g_of_regs hregs F.PAIR_STAT_PLEAD_OUT).trans (hstat _ (by decide))))⟩

/-- The end of pairing on the logic die (R327). -/
def Logic.readied (l : Logic) : Logic := ((l.put F.PAIR_STAT_READY 1).evt R.pagePAIR 0).modPair fun p => { p with step := 8 }

theorem Logic.readied_shown (l : Logic) : l.readied.pair = { l.pair with step := 8 } ∧ l.readied.linkUp = l.linkUp ∧
    l.readied.g F.PAIR_PARTNER_MODE = l.g F.PAIR_PARTNER_MODE ∧ l.readied.pairRole = l.pairRole ∧ l.readied.gb F.PAIR_STAT_READY = true ∧
    l.readied.gb ⟨R.EVT_RAW R.pagePAIR, 0, 1⟩ = true := by
  have hready : (l.put F.PAIR_STAT_READY 1).gb F.PAIR_STAT_READY = true := Logic.gb_put_one _ _ rfl rfl
  have hrole : (l.put F.PAIR_STAT_READY 1).g F.PAIR_STAT_ROLE = l.g F.PAIR_STAT_ROLE := Logic.g_put_clear _ _ _ _ rfl rfl
  have hmode : (l.put F.PAIR_STAT_READY 1).g F.PAIR_PARTNER_MODE = l.g F.PAIR_PARTNER_MODE :=
    congrArg (wbits · 0 3) (l.word_put_other (x := F.PAIR_STAT_READY) _ (by decide))
  have hbare : (l.put F.PAIR_STAT_READY 1).bare = l.bare := rfl
  unfold Logic.readied
  generalize l.put F.PAIR_STAT_READY 1 = m at *
  have hword {a : Nat} (ha : regHome a ≠ regHome (R.EVT_RAW R.pagePAIR)) : (m.evt R.pagePAIR 0).regs.word a = m.regs.word a := m.word_evt_other 0 false false ha
  have hevt : (m.evt R.pagePAIR 0).gb ⟨R.EVT_RAW R.pagePAIR, 0, 1⟩ = true := m.gb_evt_same 0 false false (by decide)
  have hbare' : (m.evt R.pagePAIR 0).bare = l.bare := (m.bare_evt ..).trans hbare
  generalize m.evt R.pagePAIR 0 = n at *
  have hlink : n.linkUp = l.linkUp := Logic.of_bare Logic.linkUp hbare'
  exact ⟨congrArg (fun p : PairRun => { p with step := 8 }) (Logic.of_bare Logic.pair hbare'), hlink,
    (congrArg (wbits · 0 3) (hword (a := R.PAIR_PARTNER) (by decide))).trans hmode,
    (congrArg (wbits · 0 2) (hword (a := R.PAIR_STAT) (by decide))).trans hrole,
    (Logic.gb_of_g (x := F.PAIR_STAT_READY) (congrArg (wbits · 5 1) (hword (a := R.PAIR_STAT) (by decide)) :)).trans hready, hevt⟩

theorem State.becomeReady_shown (s : State) : s.becomeReady.ld = s.ld.readied ∧ s.becomeReady.fd.out = s.fd.out := by
  unfold State.becomeReady
  dsimp only
  refine ⟨State.onFd_ld .., ?_⟩
  unfold State.onFd
  split <;> rfl

/-- Once a heartbeat has been noted, the follower's READY conditions end the lead's pairing (R327). -/
def State.heartTaken (h : Heartbeat) (s : State) : State :=
  if s.ld.pairRole = 1 ∧ s.ld.pair.step = 7 ∧ h.ready then s.becomeReady else s

theorem State.heartbeat_eq (h : Heartbeat) (s : State) : s.heartbeat h =
    let v := (s.onLd (Logic.heartNoted h)).heartTaken h
    if v.ld.pairRole = 1 ∧ h.role.val = 1 then
      let mine := v.ld.pair.pleadAt
      let close := decide (mine ≤ h.pleadTime + ticks10us ∧ h.pleadTime ≤ mine + ticks10us)
      let ws := (v.ld.mram.slot v.ld.mram.active).words
      let named := Sys2Proof.Config.serial == (if v.ld.gb F.PAIR_CFG_PREFER then crateSerialB ws else crateSerialA ws)
      if (if close then !named else decide (h.pleadTime < mine)) then v.yieldLead else v
    else v := (rfl)

theorem State.heartTaken_shown (h : Heartbeat) (s : State) : (s.heartTaken h).ld.pair = { s.ld.pair with step := (s.heartTaken h).ld.pair.step } ∧
    (s.heartTaken h).ld.linkUp = s.ld.linkUp ∧ (s.heartTaken h).ld.g F.PAIR_PARTNER_MODE = s.ld.g F.PAIR_PARTNER_MODE ∧
    (s.heartTaken h).ld.pairRole = s.ld.pairRole ∧ (s.heartTaken h).fd.out = s.fd.out := by
  unfold State.heartTaken
  split
  · obtain ⟨hld, hout⟩ := s.becomeReady_shown
    obtain ⟨hpair, hlink, hmode, hrole, -, -⟩ := s.ld.readied_shown
    rw [hld, hpair]
    exact ⟨rfl, hlink, hmode, hrole, hout⟩
  · exact ⟨rfl, rfl, rfl, rfl, rfl⟩

/-- What a heartbeat does once it has been noted: of two leads the later one yields (R336). -/
theorem State.heartbeat_notes {s v : State} {h : Heartbeat} (hv : (s.onLd (Logic.heartNoted h)).heartTaken h = v)
    (hone : v.ld.pairRole ≠ 1 ∨ h.role.val ≠ 1) : s.heartbeat h = v := by
  rw [State.heartbeat_eq, hv]
  exact if_neg fun ⟨hrole, hother⟩ => hone.elim (· hrole) (· hother)

theorem pairHeartbeat_notes (s : State) (fr : PairSeen) (resend : Option (Fin 256)) (h : Heartbeat) (htold : s.told = true) (hhears : s.ld.hears = true)
    (hone : s.ld.pairRole ≠ 1 ∨ h.role.val ≠ 1) (hpasses : s.ld.passes fr) :
    Answers (exec (.pairHeartbeat fr resend h) s) fun t => t.ld.pair.heard = s.ld.time ∧ t.ld.g F.PAIR_PARTNER_MODE = h.mode ∧
      t.ld.pairRole = s.ld.pairRole := by
  refine answers_heard htold hhears hpasses fun u hu => ?_
  have hnumbered : (s.ld.numbered fr resend).linkUp = s.ld.linkUp ∧ (s.ld.numbered fr resend).time = s.ld.time ∧
      (s.ld.numbered fr resend).pairRole = s.ld.pairRole := ⟨rfl, rfl, rfl⟩
  obtain ⟨hpair, hlink, htime, hmode, hrole, -⟩ := Logic.heartNoted_shown h (s.ld.numbered fr resend)
  obtain ⟨hpair', hlink', hmode', hrole', hout⟩ := State.heartTaken_shown h ((s.onLd (Logic.numbered fr resend)).onLd (Logic.heartNoted h))
  have hld : ((s.onLd (Logic.numbered fr resend)).onLd (Logic.heartNoted h)).ld = (s.ld.numbered fr resend).heartNoted h := rfl
  have hfd : ((s.onLd (Logic.numbered fr resend)).onLd (Logic.heartNoted h)).fd = s.fd := rfl
  rw [hld] at hpair' hlink' hmode' hrole'
  rw [hfd] at hout
  obtain ⟨v, hv⟩ : ∃ v, ((s.onLd (Logic.numbered fr resend)).onLd (Logic.heartNoted h)).heartTaken h = v := ⟨_, rfl⟩
  rw [hv] at hpair' hlink' hmode' hrole' hout
  have hrole'' := hrole'.trans (hrole.trans hnumbered.2.2)
  rw [State.heartbeat_notes hv (by rw [hrole'']; exact hone)] at hu
  subst hu
  refine ⟨hlink'.trans (hlink.trans hnumbered.1), hout, fun t ht _ => ?_⟩
  rw [ht]
  refine ⟨?_, hmode'.trans hmode, hrole''⟩
  rw [hpair', hpair]
  exact hnumbered.2.1

theorem pairHeartbeat_readies (s : State) (fr : PairSeen) (resend : Option (Fin 256)) (h : Heartbeat) (htold : s.told = true)
    (hhears : s.ld.hears = true) (hrole : s.ld.pairRole = 1) (hstep : s.ld.pair.step = 7) (hother : h.role.val ≠ 1) (hready : h.ready = true)
    (hpasses : s.ld.passes fr) :
    Answers (exec (.pairHeartbeat fr resend h) s) fun t => t.ld.gb F.PAIR_STAT_READY = true ∧ t.ld.pair.step = 8 ∧
      t.ld.gb ⟨R.EVT_RAW R.pagePAIR, 0, 1⟩ = true := by
  refine answers_heard htold hhears hpasses fun u hu => ?_
  have hnumbered : (s.ld.numbered fr resend).linkUp = s.ld.linkUp ∧ (s.ld.numbered fr resend).pair.step = s.ld.pair.step ∧
      (s.ld.numbered fr resend).pairRole = s.ld.pairRole := ⟨rfl, rfl, rfl⟩
  obtain ⟨hpair, hlink, -, -, hrole', -⟩ := Logic.heartNoted_shown h (s.ld.numbered fr resend)
  have hld : ((s.onLd (Logic.numbered fr resend)).onLd (Logic.heartNoted h)).ld = (s.ld.numbered fr resend).heartNoted h := rfl
  have hfd : ((s.onLd (Logic.numbered fr resend)).onLd (Logic.heartNoted h)).fd = s.fd := rfl
  have hdone : ∀ v, v = (s.onLd (Logic.numbered fr resend)).onLd (Logic.heartNoted h) → State.heartTaken h v = v.becomeReady := by
    intro v hv
    have hstep' : v.ld.pair.step = 7 := by rw [hv, hld, hpair]; exact hnumbered.2.1.trans hstep
    exact if_pos ⟨by rw [hv, hld, hrole']; exact hnumbered.2.2.trans hrole, hstep', hready⟩
  rw [State.heartbeat_notes (hdone _ rfl) (.inr hother)] at hu
  obtain ⟨hready', hout⟩ := State.becomeReady_shown ((s.onLd (Logic.numbered fr resend)).onLd (Logic.heartNoted h))
  rw [hld] at hready'
  rw [hfd] at hout
  obtain ⟨hpair', hlink', -, -, hshown, hevt⟩ := ((s.ld.numbered fr resend).heartNoted h).readied_shown
  rw [hu]
  refine ⟨(congrArg Logic.linkUp hready').trans (hlink'.trans (hlink.trans hnumbered.1)), hout, fun t ht _ => ?_⟩
  rw [ht, hready', hpair']
  exact ⟨hshown, rfl, hevt⟩

/-! Of two leads the later one yields (R336). -/

/-- What the field die tells where it only reports. -/
theorem State.hear_reported {u : State} (hr : u.ld.linkUp = true → u.fd.reports = true) : u.hear.ld.Reported u.ld ∧ u.hear.ld.mode = u.ld.mode ∧
    u.hear.ld.linkUp = u.ld.linkUp ∧ (u.ld.linkUp = true → u.hear.fd.reports = true) := by
  have hshown := drain_reported hr
  have hsame := drain_ld_same u
  have hreports (hl : u.ld.linkUp = true) : (drain u).fd.reports = true := Field.reports_of_waits <| by
    rw [drain_out u hl]
    exact List.all_eq_true.mpr fun m hm => (List.mem_filter.mp hm).2
  unfold State.hear
  dsimp only
  split
  · have hevt := (drain u).ld.setEvt_same R.pageDEVICE 3 0 false false false (drain u).ld.time none
    have hshown' : ((drain u).ld.evt R.pageDEVICE 3).Reported u.ld := (Logic.Reported.setEvt ..).trans hshown
    exact ⟨hshown', hevt.mode.trans hsame.mode, hevt.linkUp.trans hsame.linkUp, hreports⟩
  · exact ⟨hshown, hsame.mode, hsame.linkUp, hreports⟩

theorem State.onFd_reports {s : State} {h : Field → Field} (hh : ∀ f, (h f).reports = f.reports) (hr : s.ld.linkUp = true → s.fd.reports = true) :
    s.ld.linkUp = true → (s.onFd h).fd.reports = true := by
  intro hl
  unfold State.onFd
  split
  · exact (hh _).trans (hr hl)
  · exact hr hl

/-- READY clears where it stood, and the field die reports no more than its outputs. -/
theorem State.unready_shown {s : State} (hr : s.ld.linkUp = true → s.fd.reports = true) : s.unready.ld.linkUp = s.ld.linkUp ∧
    (s.ld.linkUp = true → s.unready.fd.reports = true) := by
  unfold State.unready
  split
  · refine ⟨(congrArg Logic.linkUp (State.onFd_ld ..)).trans (rfl), ?_⟩
    exact State.onFd_reports (s := s.onLd fun l => (l.put F.PAIR_STAT_READY 0).modPair fun p =>
      { p with means := [], others := [], mine := none, theirs := none, aligning := [], handAgain := false }) (fun f => Field.reports_settleAll _) hr
  · exact ⟨rfl, hr⟩

theorem Field.reports_enterFollow (f : Field) : f.enterFollow.reports = f.reports := by
  unfold Field.enterFollow
  have hidle (g : Field) (ns : List Nat) : (g.each ns fun n f => f.modTerm n fun t => { t with catch_ := .idle }).reports = g.reports :=
    reports_each _ _ _ fun n g => rfl
  exact (reports_settleAll _).trans (hidle _ _)

/-- The logic die of a follower: its mode, and its role (R341). -/
def Logic.follows (l : Logic) : Logic := (l.setMode .follow).put F.PAIR_STAT_ROLE 2

theorem Logic.setMode_pairStat (m : Mode) (l : Logic) : (l.setMode m).regs.word R.PAIR_STAT = l.regs.word R.PAIR_STAT := by
  have hevt (l : Logic) {p : Nat} (hp : regHome R.PAIR_STAT ≠ regHome (R.EVT_RAW p)) (b : Nat) : (l.evt p b).regs.word R.PAIR_STAT = l.regs.word R.PAIR_STAT :=
    l.word_evt_other 0 false false hp
  have hdisapprove (l : Logic) : l.disapprove.regs.word R.PAIR_STAT = l.regs.word R.PAIR_STAT := by
    unfold Logic.disapprove
    split
    · exact (hevt _ (by decide) _).trans (l.word_put_other (x := approvedBit) 0 (by decide))
    · rfl
  unfold Logic.setMode
  split
  · rfl
  · exact (hdisapprove _).trans ((hevt _ (by decide) _).trans (Logic.word_put_other _ (x := F.DEVICE_MODE_MODE) _ (by decide)))

theorem Logic.follows_shown (l : Logic) : l.follows.mode = .follow ∧ l.follows.pairRole = 2 ∧ l.follows.linkUp = l.linkUp ∧
    l.follows.gb F.PAIR_STAT_PLEAD_OUT = l.gb F.PAIR_STAT_PLEAD_OUT := by
  have hset := l.setMode_changed .follow
  have hstat := Logic.setMode_pairStat .follow l
  unfold Logic.follows
  generalize l.setMode .follow = m at *
  refine ⟨hset.mode, Logic.g_put_same _ _ _ rfl, hset.linkUp, Logic.gb_of_g ?_⟩
  exact (Logic.g_put_clear _ _ _ _ rfl rfl).trans (congrArg (wbits · 4 1) hstat)

/-- A lead that yields has released PLEAD, and follows. -/
theorem State.yieldLead_shown {s : State} (hr : s.ld.linkUp = true → s.fd.reports = true) : s.yieldLead.ld.mode = .follow ∧
    s.yieldLead.ld.pairRole = 2 ∧ s.yieldLead.ld.gb F.PAIR_STAT_PLEAD_OUT = false ∧ (s.yieldLead.ld.linkUp = true → s.yieldLead.fd.reports = true) := by
  obtain ⟨-, hr'⟩ := State.unready_shown hr
  have hlink := (State.unready_shown hr).1
  unfold State.yieldLead
  dsimp only
  generalize s.unready = u at *
  have hreleased (l : Logic) : (((((l.releasePlead true).evt R.pagePAIR 3).modPair fun p => { p with step := 0, handover := none }).put
      F.PAIR_STAT_HANDOVER 0).gb F.PAIR_STAT_PLEAD_OUT = false) ∧ ((((l.releasePlead true).evt R.pagePAIR 3).modPair fun p =>
      { p with step := 0, handover := none }).put F.PAIR_STAT_HANDOVER 0).linkUp = l.linkUp := by
    have hplead : (l.releasePlead true).gb F.PAIR_STAT_PLEAD_OUT = false := by
      unfold Logic.releasePlead
      exact (Logic.gb_of_g (Logic.g_put_clear _ _ _ _ rfl rfl)).trans (Logic.gb_put_zero l _ rfl)
    have hlink : (l.releasePlead true).linkUp = l.linkUp := rfl
    generalize l.releasePlead true = m at *
    have hevt : (m.evt R.pagePAIR 3).regs.word R.PAIR_STAT = m.regs.word R.PAIR_STAT := m.word_evt_other 0 false false (by decide)
    have hbare := m.bare_evt R.pagePAIR 3 0 false false
    generalize m.evt R.pagePAIR 3 = n at *
    have hlink' : n.linkUp = m.linkUp := Logic.of_bare Logic.linkUp hbare
    refine ⟨(Logic.gb_of_g ((Logic.g_put_clear _ _ _ _ rfl rfl).trans ?_)).trans hplead, hlink'.trans hlink⟩
    exact congrArg (wbits · 4 1) hevt
  obtain ⟨hplead, hlink'⟩ := hreleased u.ld
  have hld : ((u.onLd fun l => ((l.releasePlead true).evt R.pagePAIR 3).modPair fun p => { p with step := 0, handover := none }).onLd
      (Logic.put F.PAIR_STAT_HANDOVER 0)).ld = (((u.ld.releasePlead true).evt R.pagePAIR 3).modPair fun p =>
      { p with step := 0, handover := none }).put F.PAIR_STAT_HANDOVER 0 := rfl
  have hfd : ((u.onLd fun l => ((l.releasePlead true).evt R.pagePAIR 3).modPair fun p => { p with step := 0, handover := none }).onLd
      (Logic.put F.PAIR_STAT_HANDOVER 0)).fd = u.fd := rfl
  rw [← hld] at hplead hlink'
  generalize (u.onLd fun l => ((l.releasePlead true).evt R.pagePAIR 3).modPair fun p => { p with step := 0, handover := none }).onLd
    (Logic.put F.PAIR_STAT_HANDOVER 0) = v at *
  obtain ⟨hmode, hrole, hlink'', hplead'⟩ := v.ld.follows_shown
  have hw : ((v.onLd Logic.follows).onFd Field.enterFollow).ld = v.ld.follows := State.onFd_ld ..
  have hreports : ((v.onLd Logic.follows).onFd Field.enterFollow).ld.linkUp = true →
      ((v.onLd Logic.follows).onFd Field.enterFollow).fd.reports = true := by
    intro hl
    rw [hw] at hl
    refine State.onFd_reports (s := v.onLd Logic.follows) Field.reports_enterFollow (fun _ => ?_) hl
    change v.fd.reports = true
    rw [hfd]
    exact hr' (hlink.symm.trans (hlink'.symm.trans (hlink''.symm.trans hl)))
  have hfollow : v.follow = ((v.onLd Logic.follows).onFd Field.enterFollow).hear := rfl
  rw [hfollow]
  generalize (v.onLd Logic.follows).onFd Field.enterFollow = w at *
  obtain ⟨hshown, hmode', hlink3, hrep⟩ := State.hear_reported hreports
  have hstat := hshown.word R.PAIR_STAT (by decide)
  rw [hw] at hstat hmode'
  refine ⟨hmode'.trans hmode, (congrArg (wbits · 0 2) hstat).trans hrole, ?_, fun hl => hrep (hlink3.symm.trans hl)⟩
  exact (Logic.gb_of_g (x := F.PAIR_STAT_PLEAD_OUT) (congrArg (wbits · 4 1) hstat :)).trans (hplead'.trans hplead)

theorem pairHeartbeat_yields (s : State) (fr : PairSeen) (resend : Option (Fin 256)) (h : Heartbeat) (htold : s.told = true)
    (hhears : s.ld.hears = true) (hrole : s.ld.pairRole = 1) (hother : h.role.val = 1) (hlater : h.pleadTime + ticks10us < s.ld.pair.pleadAt)
    (hpasses : s.ld.passes fr) :
    Answers (exec (.pairHeartbeat fr resend h) s) fun t => t.ld.mode = .follow ∧ t.ld.pairRole = 2 ∧ t.ld.gb F.PAIR_STAT_PLEAD_OUT = false := by
  refine ⟨_, runBoth_next .., ?_⟩
  dsimp only
  rw [State.partnerFrame_acts resend _ hhears hpasses]
  have hnumbered : (s.ld.numbered fr resend).linkUp = s.ld.linkUp ∧ (s.ld.numbered fr resend).pair.pleadAt = s.ld.pair.pleadAt ∧
      (s.ld.numbered fr resend).pairRole = s.ld.pairRole := ⟨rfl, rfl, rfl⟩
  obtain ⟨hpair, hlink, -, -, hrole', -⟩ := Logic.heartNoted_shown h (s.ld.numbered fr resend)
  obtain ⟨hpair', hlink', -, hrole'', hout⟩ := State.heartTaken_shown h ((s.onLd (Logic.numbered fr resend)).onLd (Logic.heartNoted h))
  have hld : ((s.onLd (Logic.numbered fr resend)).onLd (Logic.heartNoted h)).ld = (s.ld.numbered fr resend).heartNoted h := rfl
  have hfd : ((s.onLd (Logic.numbered fr resend)).onLd (Logic.heartNoted h)).fd = s.fd := rfl
  rw [hld] at hpair' hlink' hrole''
  rw [hfd] at hout
  rw [State.heartbeat_eq]
  generalize State.heartTaken h ((s.onLd (Logic.numbered fr resend)).onLd (Logic.heartNoted h)) = v at *
  have hvrole : v.ld.pairRole = 1 := hrole''.trans (hrole'.trans (hnumbered.2.2.trans hrole))
  have hmine : v.ld.pair.pleadAt = s.ld.pair.pleadAt := by
    rw [hpair', hpair]
    exact hnumbered.2.1
  have hvlink : v.ld.linkUp = s.ld.linkUp := hlink'.trans (hlink.trans hnumbered.1)
  dsimp only
  rw [if_pos ⟨hvrole, hother⟩, hmine, decide_eq_false (by omega), if_neg Bool.false_ne_true, decide_eq_true (by omega), if_pos rfl]
  have hreports : v.ld.linkUp = true → v.fd.reports = true := by
    intro hl
    rw [hvlink] at hl
    simp only [State.told, hl, Bool.not_true, Bool.false_or] at htold
    have hs := Field.reports_of_waits htold
    unfold Field.reports at hs ⊢
    rw [hout]
    exact hs
  obtain ⟨hmode, hfollows, hplead, hrep⟩ := State.yieldLead_shown hreports
  generalize v.yieldLead = w at *
  have hstat := (drain_reported hrep).word R.PAIR_STAT (by decide)
  exact ⟨(drain_ld_same w).mode.trans hmode, (congrArg (wbits · 0 2) hstat).trans hfollows,
    (Logic.gb_of_g (x := F.PAIR_STAT_PLEAD_OUT) (congrArg (wbits · 4 1) hstat :)).trans hplead⟩

/-! What is sent (R323-R325, R332). -/

/-- T_N in force, on the field die. -/
def Field.tnShown (tn tnMax : Nat) (f : Field) : Field := { f with tn := tn, tnMax := tnMax, tnMoves := false }

theorem State.showTn_eq (slow : Bool) (s : State) : ∃ m, s.showTn slow = { s with
    ld := s.ld.put F.PAIR_STAT_TN (announceTime (s.ld.regs.word R.PAIR_PORT) slow)
    fd := s.fd.tnShown (announceTime (s.ld.regs.word R.PAIR_PORT) slow) m } := by
  unfold State.showTn State.onLd Field.tnShown
  dsimp only
  generalize s.ld.put F.PAIR_STAT_TN (announceTime (s.ld.regs.word R.PAIR_PORT) slow) = l
  exact ⟨_, rfl⟩

section
variable (l : Logic) (v : Nat)

theorem Logic.g_tn {x : Fld} (hx : regHome x.addr ≠ R.PAIR_STAT) : (l.put F.PAIR_STAT_TN v).g x = l.g x :=
  congrArg (wbits · x.lo x.len) (l.word_put_other (x := F.PAIR_STAT_TN) v hx)

theorem Logic.pairRole_tn : (l.put F.PAIR_STAT_TN v).pairRole = l.pairRole := Logic.g_put_clear _ _ _ _ rfl rfl

theorem Logic.ready_tn : (l.put F.PAIR_STAT_TN v).gb F.PAIR_STAT_READY = l.gb F.PAIR_STAT_READY := Logic.gb_of_g (Logic.g_put_clear _ _ _ _ rfl rfl)

theorem Logic.keyOk_tn : (l.put F.PAIR_STAT_TN v).gb F.PAIR_STAT_KEY_OK = l.gb F.PAIR_STAT_KEY_OK := Logic.gb_of_g (Logic.g_put_clear _ _ _ _ rfl rfl)

theorem Logic.pairKeyOk_tn : (l.put F.PAIR_STAT_TN v).pairKeyOk = l.pairKeyOk := by
  unfold Logic.pairKeyOk Logic.pairServed
  rw [Logic.put_mram, Logic.put_cellar, Logic.gb_of_g (l.g_tn v (x := cellarIdOk) (by decide)), Logic.gb_of_g (l.g_tn v (x := cellarHalted) (by decide))]

theorem Logic.heartNow_tn : (l.put F.PAIR_STAT_TN v).heartNow = l.heartNow := by
  unfold Logic.heartNow
  rw [l.pairRole_tn, l.ready_tn, Logic.put_mode, Logic.put_pair]

theorem Logic.summaryNow_tn : (l.put F.PAIR_STAT_TN v).summaryNow = l.summaryNow := by
  have hfilter : (List.range 64).filter (fun i => (l.put F.PAIR_STAT_TN v).severe i) = (List.range 64).filter fun i => l.severe i := by
    refine List.filter_congr fun i hi => Logic.gb_of_g (l.g_tn v ?_)
    have hhome := (fault_stat (List.mem_range.mp hi)).2.1
    change regHome (R.FAULT_SRC_STAT i) ≠ R.PAIR_STAT
    rw [hhome]
    unfold R.FAULT_SRC_STAT R.PAIR_STAT
    omega
  unfold Logic.summaryNow
  rw [hfilter, Logic.gb_of_g (l.g_tn v (x := approvedBit) (by decide)), Logic.put_mram]

theorem Logic.crateDue_tn : (l.put F.PAIR_STAT_TN v).crateDue = l.crateDue := by
  unfold Logic.crateDue
  rw [Logic.put_pair, Logic.put_crate]

end

/-- T_N bears on no frame that is due. -/
theorem State.dueFrames_tn (s : State) (v a b : Nat) :
    ({ s with ld := s.ld.put F.PAIR_STAT_TN v, fd := s.fd.tnShown a b } : State).dueFrames = s.dueFrames := by
  have hnotices : (s.fd.tnShown a b).notices = s.fd.notices := rfl
  have hpair := s.ld.put_pair F.PAIR_STAT_TN v
  have htime := s.ld.put_time F.PAIR_STAT_TN v
  have hlink := s.ld.put_linkUp F.PAIR_STAT_TN v
  have hready := s.ld.ready_tn v
  have hkeyok := s.ld.keyOk_tn v
  have hkeys := s.ld.pairKeyOk_tn v
  have hheart := s.ld.heartNow_tn v
  have hsummary := s.ld.summaryNow_tn v
  have hcrate := s.ld.crateDue_tn v
  generalize s.ld.put F.PAIR_STAT_TN v = l at *
  generalize s.fd.tnShown a b = f at *
  unfold State.dueFrames
  dsimp only
  rw [hready, hkeyok, hkeys, hheart, hsummary, hcrate, hnotices, hpair, htime, hlink]

/-- T_N bears on no transfer. -/
theorem State.filled_tn (s : State) (v a b : Nat) (k : PFrame) :
    ({ s with ld := s.ld.put F.PAIR_STAT_TN v, fd := s.fd.tnShown a b } : State).filled k = s.filled k := by
  have hword {x : Nat} (hx : regHome x ≠ R.PAIR_STAT) : (s.ld.put F.PAIR_STAT_TN v).regs.word x = s.ld.regs.word x :=
    s.ld.word_put_other (x := F.PAIR_STAT_TN) v hx
  have hrole : (s.ld.put F.PAIR_STAT_TN v).pairRole = s.ld.pairRole := Logic.g_put_clear _ _ _ _ rfl rfl
  have htasks : (s.ld.put F.PAIR_STAT_TN v).g F.WDOG_TASKS_EN = s.ld.g F.WDOG_TASKS_EN := congrArg (wbits · 0 8) (hword (x := R.WDOG_TASKS) (by decide))
  have hfunc (n : Nat) : (s.fd.tnShown a b).func n = s.fd.func n := rfl
  have hshunt (n : Nat) : (s.fd.tnShown a b).fShunt n = s.fd.fShunt n := rfl
  have hlevel (n : Nat) : (s.fd.tnShown a b).expected n = s.fd.expected n := rfl
  have hstages : (s.fd.tnShown a b).stages = s.fd.stages := rfl
  have hcb (x : Fld) : (s.fd.tnShown a b).cb x = s.fd.cb x := rfl
  have hctx (n : Nat) : (s.fd.tnShown a b).ctx n = s.fd.ctx n := rfl
  have htransfer : ({ s with ld := s.ld.put F.PAIR_STAT_TN v, fd := s.fd.tnShown a b } : State).transferNow = s.transferNow := by
    unfold State.transferNow
    dsimp only
    rw [hrole, htasks, hword (x := R.DEVICE_OUTHOLD) (by decide), hword (x := R.DEVICE_RESTORE) (by decide), hword (x := R.DEVICE_SESS_BOUND) (by decide),
      hstages, Logic.put_sess]
    simp only [hfunc, hshunt, hlevel, hcb, hctx]
  unfold State.filled
  split
  · rw [htransfer]
  · rfl

/-- What an end sends, it sends last, and keeps where it takes a number. -/
theorem LinkEnd.send_shown {K : Type} (fresh : Bool) (tag : SentFrame K → Nat) (x : SentFrame K) (e : LinkEnd K) :
    ∃ y, (e.send fresh tag x).last = some y ∧ y.kind = x.kind ∧ y.fseq = x.fseq ∧ y.payload = x.payload ∧
      (fresh = true → y ∈ (e.send fresh tag x).kept) ∧ (fresh = false → (e.send fresh tag x).next = e.next) := by
  unfold LinkEnd.send
  cases fresh
  · exact ⟨_, rfl, rfl, rfl, rfl, fun h => Bool.noConfusion h, fun _ => rfl⟩
  · refine ⟨_, rfl, rfl, rfl, rfl, fun _ => ?_, fun h => Bool.noConfusion h⟩
    exact List.mem_cons_self ..

/-- A kept frame goes out again. -/
theorem Logic.sendPframe_old (l : Logic) (k : PFrame) (x : SentFrame PFrame) : ∃ y, (l.sendPframe k (some x)).pair.port.last = some y ∧
    y.kind = x.kind ∧ y.fseq = x.fseq ∧ y.payload = x.payload ∧ (l.sendPframe k (some x)).pair.port.next = l.pair.port.next := by
  obtain ⟨y, hlast, hkind, hseq, hpayload, -, hnext⟩ := LinkEnd.send_shown false l.partnerTag { x with role := l.pairRole } l.pair.port
  exact ⟨y, hlast, hkind, hseq, hpayload, hnext rfl⟩

theorem Logic.sendPframe_new (l : Logic) (k : PFrame) : ∃ y, (l.sendPframe k none).pair.port.last = some y ∧ y.kind = k ∧
    y.payload = Sys2Proof.Config.pairPayload (l.mram.pairKey.getD 0) k % 2 ^ 200 ∧ y.fseq = l.pair.port.next ∧
    (k ≠ .idle → y ∈ (l.sendPframe k none).pair.port.kept) := by
  obtain ⟨y, hlast, hkind, hseq, hpayload, hkept, -⟩ := LinkEnd.send_shown (k != PFrame.idle) l.partnerTag
    { kind := k, fseq := l.pair.port.next, role := l.pairRole, payload := Sys2Proof.Config.pairPayload (l.mram.pairKey.getD 0) k % 2 ^ 200 } l.pair.port
  refine ⟨y, hlast, hkind, hpayload, hseq, fun hk => ?_⟩
  exact hkept (bne_iff_ne.mpr hk)

theorem Logic.sendPframe_same (l : Logic) (k : PFrame) (old : Option (SentFrame PFrame)) : (l.sendPframe k old).regs = l.regs ∧
    (l.sendPframe k old).linkUp = l.linkUp := by
  unfold Logic.sendPframe
  split <;> exact ⟨rfl, rfl⟩

theorem State.showTn_same (slow : Bool) (s : State) : (s.showTn slow).ld.pair = s.ld.pair ∧ (s.showTn slow).ld.linkUp = s.ld.linkUp ∧
    (s.showTn slow).fd.out = s.fd.out := by
  obtain ⟨m, htn⟩ := s.showTn_eq slow
  rw [htn]
  exact ⟨Logic.put_pair .., Logic.put_linkUp .., rfl⟩

/-- What waits to be sent again. -/
def Logic.againLeft (rest : List (SentFrame PFrame)) (l : Logic) : Logic := l.modPair fun p => { p with port := { p.port with again := rest } }

theorem Logic.againLeft_shown (rest : List (SentFrame PFrame)) (l : Logic) : (l.againLeft rest).pair.port.last = l.pair.port.last ∧
    (l.againLeft rest).pair.port.again = rest ∧ (l.againLeft rest).pair.port.next = l.pair.port.next ∧ (l.againLeft rest).linkUp = l.linkUp :=
  ⟨rfl, rfl, rfl, rfl⟩

/-- The port sends a kept frame again, and `rest` of those that wait for it remain (R325). -/
def Logic.resent (x : SentFrame PFrame) (rest : List (SentFrame PFrame)) (l : Logic) : Logic :=
  ((l.bump F.PAIR_PFRAMES_RESEND).sendPframe x.kind (some x)).againLeft rest

theorem Logic.resent_shown (x : SentFrame PFrame) (rest : List (SentFrame PFrame)) (l : Logic) :
    (∃ y, (l.resent x rest).pair.port.last = some y ∧ y.kind = x.kind ∧ y.fseq = x.fseq ∧ y.payload = x.payload) ∧
    (l.resent x rest).pair.port.again = rest ∧ (l.resent x rest).pair.port.next = l.pair.port.next ∧ (l.resent x rest).linkUp = l.linkUp := by
  obtain ⟨y, hlast, hkind, hseq, hpayload, hnext⟩ := (l.bump F.PAIR_PFRAMES_RESEND).sendPframe_old x.kind x
  obtain ⟨hlast', hagain, hnext', hlink⟩ := ((l.bump F.PAIR_PFRAMES_RESEND).sendPframe x.kind (some x)).againLeft_shown rest
  rw [← Logic.resent] at hlast' hagain hnext' hlink
  refine ⟨⟨y, hlast'.trans hlast, hkind, hseq, hpayload⟩, hagain, ?_, ?_⟩
  · rw [hnext', hnext, Logic.bump_pair]
  · rw [hlink, (Logic.sendPframe_same _ x.kind (some x)).2, Logic.bump_linkUp]

/-- A frame of those to be sent again goes first. -/
theorem State.partnerSlot_again {s : State} {partner : Bool} {x : SentFrame PFrame} {rest : List (SentFrame PFrame)} (hport : s.ld.pairPortOn = true)
    (hagain : s.ld.pair.port.again = x :: rest) : s.partnerSlot partner = (s.showTn (s.ld.pclkSlow partner)).onLd (Logic.resent x rest) := by
  have hagain' : (s.showTn (s.ld.pclkSlow partner)).ld.pair.port.again = x :: rest := by
    rw [(s.showTn_same _).1]
    exact hagain
  unfold State.partnerSlot
  rw [hport, if_neg (by decide)]
  dsimp only
  rw [hagain']
  rfl

theorem frameSlot_resends (s : State) (partner : Bool) (x : SentFrame PFrame) (rest : List (SentFrame PFrame)) (htold : s.told = true)
    (hport : s.ld.pairPortOn = true) (hagain : s.ld.pair.port.again = x :: rest) :
    Answers (exec (.partnerFrameSlot partner) s) fun t => (∃ y, t.ld.pair.port.last = some y ∧ y.kind = x.kind ∧ y.fseq = x.fseq ∧
      y.payload = x.payload) ∧ t.ld.pair.port.again = rest ∧ t.ld.pair.port.next = s.ld.pair.port.next := by
  have hslot := State.partnerSlot_again (partner := partner) hport hagain
  obtain ⟨hpair, hlink, hout⟩ := s.showTn_same (s.ld.pclkSlow partner)
  generalize s.showTn (s.ld.pclkSlow partner) = v at *
  obtain ⟨hsent, hleft, hnext, hlink'⟩ := v.ld.resent_shown x rest
  have hld := (congrArg State.ld hslot).trans (v.onLd_ld (Logic.resent x rest))
  have hfd := (congrArg State.fd hslot).trans (v.onLd_fd (Logic.resent x rest))
  refine answers_told htold ?_ ?_ fun t ht _ => ?_
  · rw [hld, hlink', hlink]
  · rw [hfd, hout]
  · rw [ht, hld]
    exact ⟨hsent, hleft, hnext.trans (by rw [hpair])⟩

/-- Where a frame has gone from, and what its going completes (R327). -/
theorem PairRun.gone_port (k : PFrame) (queued : Bool) (now words : Nat) (p : PairRun) : (p.gone k queued now words).port = p.port := by
  unfold PairRun.gone
  repeat' split
  all_goals rfl

theorem State.sentFrame_same (k : PFrame) (s : State) : (s.sentFrame k).ld.pair.port = s.ld.pair.port ∧ (s.sentFrame k).ld.regs = s.ld.regs ∧
    (s.sentFrame k).ld.linkUp = s.ld.linkUp ∧ (s.sentFrame k).fd.out = s.fd.out := by
  have hqueue (k : PFrame) (l : Logic) : (l.queueFrame k).pair.port = l.pair.port ∧ (l.queueFrame k).regs = l.regs ∧ (l.queueFrame k).linkUp = l.linkUp := by
    unfold Logic.queueFrame
    split <;> exact ⟨rfl, rfl, rfl⟩
  have hfd (u : State) (h : Field → Field) (hh : (h u.fd).out = u.fd.out) : (u.onFd h).fd.out = u.fd.out := by
    unfold State.onFd
    split
    · exact hh
    · rfl
  have hsame : s.ld.pair.port = s.ld.pair.port ∧ s.ld.regs = s.ld.regs ∧ s.ld.linkUp = s.ld.linkUp ∧ s.fd.out = s.fd.out := ⟨rfl, rfl, rfl, rfl⟩
  unfold State.sentFrame
  dsimp only
  split
  · exact hsame
  split
  · split
    · refine ⟨?_, ?_, ?_, hfd _ _ rfl⟩
      · refine (hqueue _ _).1.trans ?_
        rw [State.onFd_ld]
        rfl
      · refine (hqueue _ _).2.1.trans ?_
        rw [State.onFd_ld]
        rfl
      · refine (hqueue _ _).2.2.trans ?_
        rw [State.onFd_ld]
        rfl
    · exact hsame
  · split
    · exact ⟨rfl, rfl, rfl, rfl⟩
    · exact hsame
  · exact hsame

/-- A new frame leaves the port, and T_N is shown (R323, R332). -/
theorem State.partnerSlot_new {s : State} {partner : Bool} (hport : s.ld.pairPortOn = true) (hagain : s.ld.pair.port.again = []) :
    (∃ x, (s.partnerSlot partner).ld.pair.port.last = some x ∧ x.kind = s.filled (nextFrame s.dueFrames) ∧
      x.payload = Sys2Proof.Config.pairPayload (s.ld.mram.pairKey.getD 0) x.kind % 2 ^ 200 ∧ x.fseq = s.ld.pair.port.next ∧
      (x.kind ≠ .idle → x ∈ (s.partnerSlot partner).ld.pair.port.kept)) ∧
    (s.partnerSlot partner).ld.g F.PAIR_STAT_TN = announceTime (s.ld.regs.word R.PAIR_PORT) (s.ld.pclkSlow partner) % 2 ^ F.PAIR_STAT_TN.len ∧
    (s.partnerSlot partner).ld.linkUp = s.ld.linkUp ∧ (s.partnerSlot partner).fd.out = s.fd.out := by
  obtain ⟨hpair, hlink, hout⟩ := s.showTn_same (s.ld.pclkSlow partner)
  have hdue : (s.showTn (s.ld.pclkSlow partner)).dueFrames = s.dueFrames := by
    obtain ⟨m, htn⟩ := s.showTn_eq (s.ld.pclkSlow partner)
    rw [htn]
    exact s.dueFrames_tn ..
  have hfill (k : PFrame) : (s.showTn (s.ld.pclkSlow partner)).filled k = s.filled k := by
    obtain ⟨m, htn⟩ := s.showTn_eq (s.ld.pclkSlow partner)
    rw [htn]
    exact s.filled_tn ..
  have htn : (s.showTn (s.ld.pclkSlow partner)).ld.g F.PAIR_STAT_TN =
      announceTime (s.ld.regs.word R.PAIR_PORT) (s.ld.pclkSlow partner) % 2 ^ F.PAIR_STAT_TN.len := by
    obtain ⟨m, htn⟩ := s.showTn_eq (s.ld.pclkSlow partner)
    rw [htn]
    exact Logic.g_put_same s.ld F.PAIR_STAT_TN _ rfl
  have hmram : (s.showTn (s.ld.pclkSlow partner)).ld.mram = s.ld.mram := by
    obtain ⟨m, htn⟩ := s.showTn_eq (s.ld.pclkSlow partner)
    rw [htn]
    exact Logic.put_mram ..
  unfold State.partnerSlot
  rw [hport, if_neg (by decide)]
  dsimp only
  generalize s.showTn (s.ld.pclkSlow partner) = v at *
  have hagain' : v.ld.pair.port.again = [] := by rw [hpair]; exact hagain
  rw [hagain', hdue]
  dsimp only
  generalize nextFrame s.dueFrames = k
  rw [hfill]
  obtain ⟨x, hlast, hkind, hpayload, hseq, hkept⟩ := v.ld.sendPframe_new (s.filled k)
  obtain ⟨hregs, hup⟩ := v.ld.sendPframe_same (s.filled k) none
  unfold State.onLd Logic.modPair
  dsimp only
  have hgone := PairRun.gone_port k (v.ld.pair.queue.contains k) v.ld.time v.ld.crate.words.length
    (v.ld.sendPframe (s.filled k) none).pair
  generalize v.ld.sendPframe (s.filled k) none = m at *
  generalize PairRun.gone k (v.ld.pair.queue.contains k) v.ld.time v.ld.crate.words.length m.pair = q at *
  have hdone (u : State) (hld : u.ld = { m with pair := q }) (hfd : u.fd.out = v.fd.out) :
      (∃ x, (u.sentFrame k).ld.pair.port.last = some x ∧ x.kind = s.filled k ∧
        x.payload = Sys2Proof.Config.pairPayload (s.ld.mram.pairKey.getD 0) x.kind % 2 ^ 200 ∧ x.fseq = s.ld.pair.port.next ∧
        (x.kind ≠ .idle → x ∈ (u.sentFrame k).ld.pair.port.kept)) ∧
      (u.sentFrame k).ld.g F.PAIR_STAT_TN = announceTime (s.ld.regs.word R.PAIR_PORT) (s.ld.pclkSlow partner) % 2 ^ F.PAIR_STAT_TN.len ∧
      (u.sentFrame k).ld.linkUp = s.ld.linkUp ∧ (u.sentFrame k).fd.out = s.fd.out := by
    obtain ⟨hport', hregs', hlink', hout'⟩ := u.sentFrame_same k
    rw [hld] at hport' hregs' hlink'
    have hp : (u.sentFrame k).ld.pair.port = m.pair.port := hport'.trans hgone
    refine ⟨⟨x, ?_, hkind, ?_, hseq.trans (by rw [hpair]), fun hk => ?_⟩, ?_, ?_, ?_⟩
    · rw [hp]
      exact hlast
    · rw [hpayload, hkind, hmram]
    · rw [hp]
      exact hkept (hkind ▸ hk)
    · rw [← htn, Logic.g, Logic.g, hregs']
      exact congrArg F.PAIR_STAT_TN.get hregs
    · exact hlink'.trans (hup.trans hlink)
    · exact hout'.trans (hfd.trans hout)
  split
  · exact hdone _ rfl rfl
  · exact hdone _ rfl rfl

theorem frameSlot_sends (s : State) (partner : Bool) (htold : s.told = true) (hport : s.ld.pairPortOn = true)
    (hagain : s.ld.pair.port.again = []) :
    Answers (exec (.partnerFrameSlot partner) s) fun t => (∃ x, t.ld.pair.port.last = some x ∧ x.kind = s.filled (nextFrame s.dueFrames) ∧
      x.payload = Sys2Proof.Config.pairPayload (s.ld.mram.pairKey.getD 0) x.kind % 2 ^ 200 ∧ x.fseq = s.ld.pair.port.next ∧
      (x.kind ≠ .idle → x ∈ t.ld.pair.port.kept)) ∧
      t.ld.g F.PAIR_STAT_TN = announceTime (s.ld.regs.word R.PAIR_PORT) (s.ld.pclkSlow partner) % 2 ^ F.PAIR_STAT_TN.len := by
  obtain ⟨hsent, htn, hlink, hout⟩ := State.partnerSlot_new (partner := partner) hport hagain
  refine answers_told htold hlink hout fun t ht _ => ?_
  rw [ht]
  exact ⟨hsent, htn⟩

end Sys2Proof.Machine
end

section
/-! The words of the lead's notices and mirrors (R331, R332): what a follower takes, and what the lead commits. -/

namespace Sys2Proof.Machine

open Sys2Proof

/-! A notice (R332). -/

/-- What a notice tells of a terminal. -/
def TermRun.noticed (t : TermRun) : Option Nat × Bool := (t.expect, t.blocked)

theorem Field.modTerm_noticed (k : Nat) {h : TermRun → TermRun} (hh : ∀ t : TermRun, (h t).noticed = t.noticed) (f : Field) (n : Nat) :
    ((f.modTerm k h).term n).noticed = (f.term n).noticed := by
  rcases eq_or_ne k n with rfl | hk
  · rw [Field.term_modTerm_same]
    exact hh _
  · rw [Field.term_modTerm_other _ _ hk.symm]

theorem Field.Kept.noticed {f g : Field} (a : g.Kept f) (n : Nat) : (g.term n).noticed = (f.term n).noticed :=
  show (g.term n).steady.noticed = (f.term n).steady.noticed by rw [a.term]

theorem Field.Noted.noticed {f g : Field} (a : g.Noted f) (n : Nat) : (g.term n).noticed = (f.term n).noticed :=
  show (g.term n).driving.noticed = (f.term n).driving.noticed by rw [a.term]

theorem Field.driveNow_noticed (k : Nat) (f : Field) (n : Nat) : ((f.driveNow k).term n).noticed = (f.term n).noticed := by
  have htakes (g : Field) : ((g.takesAct k (f.act k) none).term n).noticed = (g.term n).noticed := modTerm_noticed k (by exact fun _ => rfl) g n
  have hfresh (g : Field) : ((g.freshAttempts k).term n).noticed = (g.term n).noticed :=
    modTerm_noticed k (h := fun t => { t with dout := { t.dout with tries := 0, thermTries := 0, ovl := false, thm := t.dout.hot } })
      (fun _ => rfl) g n
  unfold Field.driveNow
  split
  · refine ((f.driveDo_kept k (f.act k) none).noticed n).trans ((htakes _).trans ?_)
    unfold Field.startsAfresh Field.when
    split
    · exact hfresh f
    · rfl
  · split
    · exact ((f.driveAo_kept k (f.act k) none).noticed n).trans (htakes f)
    · rfl

theorem Field.drive_noticed (k : Nat) (f : Field) (n : Nat) : ((f.drive k).term n).noticed = (f.term n).noticed := by
  rcases f.drive_kept k with h | ⟨u, hu, h⟩
  · exact h.noticed n
  · exact (h.noticed n).trans ((u.driveNow_noticed k n).trans (hu.noticed n))

theorem Field.settle_noticed (k : Nat) (f : Field) (n : Nat) : ((f.settle k).term n).noticed = (f.term n).noticed := by
  have hnote (m : Nat) (g : Field) : ((g.noteOne m).term n).noticed = (g.term n).noticed := (g.noteOne_noted m).noticed n
  unfold Field.settle
  split
  · rw [Field.drive_noticed, Field.drive_noticed, hnote, hnote]
  · rw [Field.drive_noticed, hnote]

theorem Field.disarm_noticed (k : Nat) (f : Field) (n : Nat) : ((f.disarm k).term n).noticed = (f.term n).noticed := by
  unfold Field.disarm
  split
  · exact (Field.settle_noticed ..).trans (modTerm_noticed k (by exact fun _ => rfl) f n)
  · rfl

theorem Field.expectLevel_noticed (n : Nat) (v : Option Nat) (f : Field) :
    ((f.expectLevel n v).term n).noticed = (v, (f.term n).blocked) := by
  have hset : ((f.modTerm n fun t => { t with expect := v }).term n).noticed = (v, (f.term n).blocked) := by
    rw [Field.term_modTerm_same]
    rfl
  unfold Field.expectLevel
  dsimp only
  split
  · split
    · exact (Field.disarm_noticed ..).trans hset
    · exact hset
  · split
    · exact (Field.disarm_noticed ..).trans hset
    · exact (Field.settle_noticed ..).trans hset
  · exact hset

/-- The field die takes a notice (R332, R340); `revoked`: the stage engaged at a level no longer expected. -/
def Field.takeNotice (x : Notice) (revoked : Bool) (f : Field) : Field :=
  let f := f.modTerm x.n fun t => { t with blocked := x.blocked }
  let f := match x.pulse with
    | some b => f.modDout x.n fun d => { d with masked := b }
    | none => f
  let f := f.expectLevel x.n x.level
  if revoked || x.blocked && (f.term x.n).catch_ == .armed then f.disarm x.n else f

theorem Field.takeNotice_noticed (x : Notice) (revoked : Bool) (f : Field) :
    ((f.takeNotice x revoked).term x.n).noticed = (x.level, x.blocked) := by
  have hblocked : ((f.modTerm x.n fun t => { t with blocked := x.blocked }).term x.n).blocked = x.blocked := by rw [Field.term_modTerm_same]
  have hpulse (g : Field) (b : Bool) : ((g.modDout x.n fun d => { d with masked := b }).term x.n).blocked = (g.term x.n).blocked :=
    congrArg Prod.snd (modTerm_noticed x.n (h := fun t => { t with dout := { t.dout with masked := b } }) (fun _ => rfl) g x.n)
  unfold Field.takeNotice
  generalize f.modTerm x.n (fun t => { t with blocked := x.blocked }) = g at hblocked ⊢
  have hlevel (u : Field) (hu : (u.term x.n).blocked = x.blocked) : ((u.expectLevel x.n x.level).term x.n).noticed = (x.level, x.blocked) := by
    rw [Field.expectLevel_noticed, hu]
  dsimp only
  split
  · next b _ =>
    have h := hlevel (g.modDout x.n fun d => { d with masked := b }) ((hpulse g b).trans hblocked)
    split
    · exact (Field.disarm_noticed ..).trans h
    · exact h
  · have h := hlevel g hblocked
    split
    · exact (Field.disarm_noticed ..).trans h
    · exact h

/-- An announced off-pulse is acknowledged (R197). -/
def Logic.noticeAcked (x : Notice) (l : Logic) : Logic := l.when (x.pulse == some true) (Logic.queueFrame (.ack (some x.n)))

/-- A stage that engaged at a level no longer expected is revoked (R340). -/
def Logic.noticeRevoked (n : Nat) (l : Logic) : Logic :=
  ((l.bump F.PAIR_CATCHCNT_REVOKED).evt R.pagePAIR 5).modPair fun p => { p with caughtAt := tdel p.caughtAt n }

theorem Logic.noticeAcked_linkUp (x : Notice) (l : Logic) : (l.noticeAcked x).linkUp = l.linkUp := by
  refine Logic.when_linkUp _ _ _ fun l => ?_
  unfold Logic.queueFrame
  split <;> rfl

theorem Logic.noticeRevoked_linkUp (n : Nat) (l : Logic) : (l.noticeRevoked n).linkUp = l.linkUp := by
  have hforget (m : Logic) : (m.modPair fun p => { p with caughtAt := tdel p.caughtAt n }).linkUp = m.linkUp := rfl
  rw [Logic.noticeRevoked, hforget]
  exact (Logic.of_bare Logic.linkUp (Logic.bare_evt ..)).trans (Logic.bump_linkUp ..)

/-- A follower's field die takes the notice. -/
theorem State.takeNotice_eq {s : State} (x : Notice) (hrole : s.ld.pairRole = 2) :
    ∃ revoked, s.takeNotice x =
      (if revoked = true then (s.onLd (Logic.noticeAcked x)).onLd (Logic.noticeRevoked x.n) else s.onLd (Logic.noticeAcked x)).onFd
        (Field.takeNotice x revoked) := ⟨_, if_neg (not_not_intro hrole)⟩

theorem State.takeNotice_fd {s : State} (x : Notice) (hlink : s.ld.linkUp = true) (hreleased : s.fd.released = true) (hrole : s.ld.pairRole = 2) :
    ∃ revoked, (s.takeNotice x).fd = s.fd.takeNotice x revoked := by
  have hon (v : State) (h : Field → Field) (hv : v.ld.linkUp = true) (hr : v.fd.released = true) : (v.onFd h).fd = h v.fd := by
    unfold State.onFd
    rw [hv, hr]
    rfl
  obtain ⟨revoked, htaken⟩ := State.takeNotice_eq x hrole
  have hacked : (s.onLd (Logic.noticeAcked x)).ld.linkUp = true := (s.ld.noticeAcked_linkUp x).trans hlink
  have hfd : (s.onLd (Logic.noticeAcked x)).fd = s.fd := State.onLd_fd ..
  generalize s.onLd (Logic.noticeAcked x) = v at *
  refine ⟨revoked, ?_⟩
  rw [htaken, ← hfd]
  rw [← hfd] at hreleased
  split
  · exact hon _ _ ((v.ld.noticeRevoked_linkUp x.n).trans hacked) hreleased
  · exact hon v _ hacked hreleased

theorem pairNotice_expects (s : State) (fr : PairSeen) (resend : Option (Fin 256)) (x : Notice) (hup : s.up) (hhears : s.ld.hears = true)
    (hrole : s.ld.pairRole = 2) (hpasses : s.ld.passes fr) :
    Answers (exec (.pairNotice fr resend x) s) fun t => (t.fd.term x.n).expect = x.level ∧ (t.fd.term x.n).blocked = x.blocked := by
  have hframe := State.partnerFrame_acts resend (State.takeNotice x) hhears hpasses
  obtain ⟨revoked, hfd⟩ := State.takeNotice_fd (s := s.onLd (Logic.numbered fr resend)) x hup.2.1 hup.1 hrole
  have hterm := Field.takeNotice_noticed x revoked s.fd
  refine ⟨_, rfl, ?_⟩
  dsimp only
  unfold Field.term
  rw [drain_fd_terms, hframe, hfd]
  exact ⟨congrArg Prod.fst hterm, congrArg Prod.snd hterm⟩

/-! A mirrored WRITE_AUTH commits (R331). -/

/-- The word of the pending WRITE_AUTH, for an EVT_EN, is stored. -/
def Logic.committed (p : Nat) (w : Word) (l : Logic) : Logic := (l.authGone.putWord (R.EVT_EN p) w).frameError opWriteAuth []

theorem Logic.committed_shown (p : Nat) (w : Word) (l : Logic) : (l.committed p w).host.auth = none ∧
    (l.committed p w).regs.word (R.EVT_EN p) = w ∧ (l.committed p w).linkUp = l.linkUp ∧ (l.committed p w).boot = l.boot :=
  ⟨rfl, word_write_same .., rfl, rfl⟩

/-- A mirrored WRITE_AUTH of one word, for the open EVT_EN of page `p`, under a session that stands. -/
structure Logic.Mirrored (l : Logic) (f : AuthFrame) (x : Session) (p : Nat) (w : Word) : Prop where
  boot : l.boot.logic ≠ 0
  auth : l.host.auth = some f
  mirrored : f.mirrored.isSome = true
  session : l.sessionOf f.keys = some x
  addr : f.addr = R.EVT_EN p
  words : f.words = [w]
  head : HeadOpen p 4
  free : l.locked p = false

namespace Logic.Mirrored

variable {s : State} {l t : Logic} {f : AuthFrame} {x : Session} {p : Nat} {w : Word}

theorem bound (h : l.Mirrored f x p w) : (l.host.auth.bind fun f => f.mirrored).isSome = true := by
  rw [h.auth]
  exact h.mirrored

theorem commits (h : s.ld.Mirrored f x p w) : s.mirrorCommits = { s with ld := s.ld.committed p w } := by
  have hpends : ¬ f.mirrored.isNone = true := by rw [← Option.not_isSome, h.mirrored]; decide
  unfold State.mirrorCommits
  rw [h.auth]
  dsimp only
  rw [if_neg hpends, h.session]
  exact State.commitAuth_stores h.boot h.head h.free h.addr h.words x

/-- It bears on the count of late acknowledgements as little as that on it. -/
theorem late (h : l.Mirrored f x p w) (hs : pageKind p ≠ .seqtab) (late : Bool) : (l.when late (Logic.bump F.PAIR_MIRCNT_LATE)).Mirrored f x p w := by
  cases late with
  | false => exact h
  | true =>
    have hclass : regHome (R.CLASS p) ≠ regHome F.PAIR_MIRCNT_LATE.addr := by
      intro e
      have hmod := congrArg (· % 256) e
      simp only [regHome_mod, R.CLASS, F.PAIR_MIRCNT_LATE, R.PAIR_MIRCNT] at hmod
      omega
    have hfree : (l.bump F.PAIR_MIRCNT_LATE).locked p = l.locked p := by
      rw [Logic.locked, Logic.locked, if_neg hs, if_neg hs]
      exact Logic.gb_of_g (congrArg (wbits · 24 1) (Logic.word_put_other l _ hclass))
    have hsession : (l.bump F.PAIR_MIRCNT_LATE).sessionOf f.keys = l.sessionOf f.keys := by rw [Logic.sessionOf, Logic.sessionOf, Logic.bump_sess]
    exact ⟨(congrArg BootRun.logic (Logic.bump_boot ..)).trans_ne h.boot, (congrArg HostRun.auth (Logic.bump_host ..)).trans h.auth, h.mirrored,
      hsession.trans h.session, h.addr, h.words, h.head, hfree.trans h.free⟩

end Logic.Mirrored

section

variable {s : State} {f : AuthFrame} {x : Session} {page : Page} {w : Word} {u : Nat}

theorem mirrored_of (hboot : 1 ≤ s.ld.boot.logic) (hauth : s.ld.host.auth = some f) (hmirrored : f.mirrored = some u)
    (hcur : s.ld.sess.cur = some x) (hkeys : x.id = f.keys) (haddr : f.addr = R.EVT_EN page) (hwords : f.words = [w])
    (hrow : (regRow (R.EVT_EN page)).isSome = true) (hs : pageKind page ≠ .seqtab) (hlock : s.ld.locked page = false) :
    s.ld.Mirrored f x page w := by
  refine ⟨Nat.one_le_iff_ne_zero.mp hboot, hauth, by rw [hmirrored]; rfl, ?_, haddr, hwords, headOpen (off := 4) (by decide) page.isLt hs hrow,
    hlock⟩
  unfold Logic.sessionOf
  rw [hcur]
  exact if_pos hkeys

end

theorem pairAck_commits (s : State) (fr : PairSeen) (resend : Option (Fin 256)) (late : Bool) (f : AuthFrame) (x : Session) (page : Page)
    (w : Word) (u : Nat) (htold : s.told = true) (hhears : s.ld.hears = true) (hboot : 1 ≤ s.ld.boot.logic) (hauth : s.ld.host.auth = some f)
    (hmirrored : f.mirrored = some u) (hcur : s.ld.sess.cur = some x) (hkeys : x.id = f.keys) (haddr : f.addr = R.EVT_EN page)
    (hwords : f.words = [w]) (hrow : (regRow (R.EVT_EN page)).isSome = true) (hs : pageKind page ≠ .seqtab) (hlock : s.ld.locked page = false)
    (hpasses : s.ld.passes fr) :
    Answers (exec (.pairAck fr resend late none) s) fun t => t.ld.host.auth = none ∧ t.ld.regs.word (R.EVT_EN page) = w := by
  refine answers_heard htold hhears hpasses fun u hu => ?_
  have h : (s.onLd (Logic.numbered fr resend)).ld.Mirrored f x page w :=
    mirrored_of (s := s.onLd (Logic.numbered fr resend)) hboot hauth hmirrored hcur hkeys haddr hwords hrow hs hlock
  have hlink : (s.onLd (Logic.numbered fr resend)).ld.linkUp = s.ld.linkUp := rfl
  have hfd : (s.onLd (Logic.numbered fr resend)).fd = s.fd := rfl
  generalize s.onLd (Logic.numbered fr resend) = v at *
  have hwhen : (v.ld.when late (Logic.bump F.PAIR_MIRCNT_LATE)).linkUp = v.ld.linkUp := Logic.when_linkUp _ _ _ fun l => l.bump_linkUp _
  have hdone : u = { v with ld := (v.ld.when late (Logic.bump F.PAIR_MIRCNT_LATE)).committed page w } := by
    rw [hu]
    unfold State.takeAck
    dsimp only
    rw [if_pos h.bound]
    exact (h.late hs late).commits (s := v.onLd fun l => l.when late (Logic.bump F.PAIR_MIRCNT_LATE))
  generalize v.ld.when late (Logic.bump F.PAIR_MIRCNT_LATE) = l at *
  obtain ⟨hauth', hword, hlink', -⟩ := l.committed_shown page w
  rw [hdone]
  refine ⟨hlink'.trans (hwhen.trans hlink), congrArg Field.out hfd, fun t ht _ => ?_⟩
  rw [ht]
  exact ⟨hauth', hword⟩

theorem Logic.fault_shown (k : Nat) (b : Bool) (l : Logic) : (l.fault k b).host = l.host ∧ (l.fault k b).linkUp = l.linkUp ∧
    (∃ e ∈ (l.fault k b).raised, e.src = k) ∧ (l.fault k b).regs = l.regs :=
  ⟨rfl, rfl, ⟨_, List.mem_append_right _ (List.mem_singleton_self _), rfl⟩, rfl⟩

/-- The lead has committed without the partner (R331). -/
def Logic.committedAlone (l : Logic) : Logic := (l.bump F.PAIR_MIRCNT_UNSYNC).fault 30 false

theorem Logic.committedAlone_shown (l : Logic) : l.committedAlone.host = l.host ∧ l.committedAlone.linkUp = l.linkUp ∧
    (∃ e ∈ l.committedAlone.raised, e.src = 30) ∧ ∀ a, regHome a ≠ R.PAIR_MIRCNT → l.committedAlone.regs.word a = l.regs.word a := by
  obtain ⟨hhost, hlink, hraised, hregs⟩ := (l.bump F.PAIR_MIRCNT_UNSYNC).fault_shown 30 false
  rw [← Logic.committedAlone] at hhost hlink hraised hregs
  refine ⟨hhost.trans (Logic.bump_host ..), hlink.trans (Logic.bump_linkUp ..), hraised, fun a ha => ?_⟩
  rw [hregs]
  exact Logic.word_put_other (x := F.PAIR_MIRCNT_UNSYNC) l _ ha

/-- The transfer of the lead's state is repeated (R327, R331). -/
def Logic.transfersAgain (l : Logic) : Logic := (l.modPair fun p => { p with step := 5 }).queueFrame (.state none)

theorem Logic.transfersAgain_shown (l : Logic) : l.transfersAgain.host = l.host ∧ l.transfersAgain.linkUp = l.linkUp ∧
    l.transfersAgain.raised = l.raised ∧ l.transfersAgain.regs = l.regs ∧ l.transfersAgain.pair.step = 5 := by
  unfold Logic.transfersAgain Logic.queueFrame
  split <;> exact ⟨rfl, rfl, rfl, rfl, rfl⟩

/-- What READY clears with (R331). -/
def Logic.unreadied (l : Logic) : Logic := (l.put F.PAIR_STAT_READY 0).modPair fun p =>
  { p with means := [], others := [], mine := none, theirs := none, aligning := [], handAgain := false }

theorem Logic.unreadied_shown (l : Logic) : l.unreadied.host = l.host ∧ l.unreadied.raised = l.raised ∧
    l.unreadied.gb F.PAIR_STAT_READY = false ∧ ∀ a, regHome a ≠ R.PAIR_STAT → l.unreadied.regs.word a = l.regs.word a := by
  have hhost := l.put_host F.PAIR_STAT_READY 0
  have hraised := l.put_raised F.PAIR_STAT_READY 0
  have hready : (l.put F.PAIR_STAT_READY 0).gb F.PAIR_STAT_READY = false := Logic.gb_put_same l 0 rfl
  have hword {a : Nat} (ha : regHome a ≠ R.PAIR_STAT) : (l.put F.PAIR_STAT_READY 0).regs.word a = l.regs.word a :=
    Logic.word_put_other (x := F.PAIR_STAT_READY) l 0 ha
  unfold Logic.unreadied
  generalize l.put F.PAIR_STAT_READY 0 = m at *
  exact ⟨hhost, hraised, hready, fun a ha => hword ha⟩

/-- The outputs follow where the pair is READY no more. -/
def Field.unpaired (f : Field) : Field := ({ f with paired := false, noticed := [], notices := [] } : Field).settleAll

theorem State.unready_of_ready {s : State} (h : s.ld.gb F.PAIR_STAT_READY = true) : s.unready = (s.onLd Logic.unreadied).onFd Field.unpaired :=
  if_pos h

theorem State.unready_kept (s : State) : s.unready.ld.host = s.ld.host ∧ s.unready.ld.raised = s.ld.raised ∧
    s.unready.ld.gb F.PAIR_STAT_READY = false ∧ ∀ a, regHome a ≠ R.PAIR_STAT → s.unready.ld.regs.word a = s.ld.regs.word a := by
  have hpaired (h : s.ld.gb F.PAIR_STAT_READY = true) : s.unready.ld = s.ld.unreadied := by
    rw [State.unready_of_ready h, State.onFd_ld, State.onLd_ld]
  have hunpaired (h : ¬ s.ld.gb F.PAIR_STAT_READY = true) : s.unready = s := if_neg h
  by_cases h : s.ld.gb F.PAIR_STAT_READY = true
  · rw [hpaired h]
    exact s.ld.unreadied_shown
  · rw [hunpaired h]
    exact ⟨rfl, rfl, Bool.eq_false_iff.mpr h, fun _ _ => rfl⟩

theorem drain_raised {u : State} (h : u.ld.linkUp = true → u.fd.stands = true) : (drain u).ld.raised = u.ld.raised := by
  have hfold (ms : List FMsg) (hms : ms.all FMsg.stands = true) (l : Logic) : (ms.foldl (fun l m => takeMsg u.fd.time m l) l).raised = l.raised := by
    induction ms generalizing l with
    | nil => rfl
    | cons m ms ih =>
      obtain ⟨hm, hms⟩ := Bool.and_eq_true_iff.mp hms
      exact (ih hms _).trans (Logic.FaultKept.takeMsg hm _ l).raised
  cases hl : u.ld.linkUp with
  | false => rw [drain_ld_down u hl]
  | true => rw [drain_ld u hl]; exact hfold _ (h hl) _

/-- The partner is unready: its outputs follow, which tells their triggers alone. -/
theorem State.unready_stands {s : State} (h : s.ld.linkUp = true → s.fd.stands = true) (hl : s.ld.linkUp = true) : s.unready.fd.stands = true := by
  have hfd (h : Field → Field) (v : State) (hh : (h v.fd).stands = v.fd.stands) : (v.onFd h).fd.stands = v.fd.stands := by
    unfold State.onFd
    split
    · exact hh
    · rfl
  by_cases hready : s.ld.gb F.PAIR_STAT_READY = true
  · rw [State.unready_of_ready hready, hfd Field.unpaired _ (Field.stands_settleAll _), State.onLd_fd]
    exact h hl
  · rw [show s.unready = _ from if_neg hready]
    exact h hl

theorem State.ackTimeout_commits {s : State} {l : Logic} (hpends : (s.ld.host.auth.bind fun f => f.mirrored).isSome = true)
    (hcommits : s.mirrorCommits = { s with ld := l }) (hboot : l.boot.logic ≠ 0) :
    s.ackTimeout = (State.unready { s with ld := l.committedAlone }).onLd Logic.transfersAgain := by
  unfold State.ackTimeout
  rw [if_pos hpends, hcommits]
  exact if_neg hboot

theorem Logic.SameBut.step {d r : Logic} (h : d.SameBut r) : d.pair.step = r.pair.step := (congrArg PairRun.step h.partner :)

theorem answers_drained {g : State → State} {s : State} {p : State → Prop} (h : ∀ t : State, t.ld = (drain (g s)).ld → p t) :
    Answers (runBoth g s) p := ⟨_, rfl, h _ rfl⟩

theorem mirrorAckTimeout_commits (s : State) (f : AuthFrame) (x : Session) (page : Page) (w : Word) (u : Nat) (htold : s.told = true)
    (hboot : 1 ≤ s.ld.boot.logic) (hauth : s.ld.host.auth = some f) (hmirrored : f.mirrored = some u) (hcur : s.ld.sess.cur = some x)
    (hkeys : x.id = f.keys) (haddr : f.addr = R.EVT_EN page) (hwords : f.words = [w]) (hrow : (regRow (R.EVT_EN page)).isSome = true)
    (hs : pageKind page ≠ .seqtab) (hlock : s.ld.locked page = false) :
    Answers (exec .mirrorAckTimeout s) fun t => t.ld.host.auth = none ∧ t.ld.regs.word (R.EVT_EN page) = w ∧
      t.ld.gb F.PAIR_STAT_READY = false ∧ t.ld.pair.step = 5 ∧ ∃ e ∈ t.ld.raised, e.src = 30 := by
  have h := mirrored_of hboot hauth hmirrored hcur hkeys haddr hwords hrow hs hlock
  have hmod : ∀ a ∈ [R.PAIR_MIRCNT, R.PAIR_STAT, R.LARDER_LAST], a % 256 ≠ 4 := by decide
  have hhome : regHome (R.EVT_EN page) % 256 = 4 := by rw [regHome_mod, R.EVT_EN]; omega
  have hother : ∀ a ∈ [R.PAIR_MIRCNT, R.PAIR_STAT, R.LARDER_LAST], regHome (R.EVT_EN page) ≠ a := fun a ha e => hmod a ha (e ▸ hhome)
  have hreport : isReportWord (regHome (R.EVT_EN page)) = false := by
    have hlast := beq_eq_false_iff_ne.mpr (hother R.LARDER_LAST (by decide))
    rw [isReportWord, hhome, hlast]
    rfl
  have hwaits (hl : s.ld.linkUp = true) : s.fd.out.all waits = true := by simpa [State.told, hl] using htold
  have hstands (hl : s.ld.linkUp = true) : s.fd.stands = true := by
    refine List.all_eq_true.mpr fun m hm => ?_
    have hw := List.all_eq_true.mp (hwaits hl) m hm
    cases m with
    | fault | record => rfl
    | _ => exact absurd hw Bool.false_ne_true
  obtain ⟨hauth', hword, hlink, hboot'⟩ := s.ld.committed_shown page w
  have hdone := State.ackTimeout_commits h.bound h.commits (by rw [hboot']; exact h.boot)
  generalize s.ld.committed page w = l at *
  obtain ⟨hhost, hlink', ⟨e, he, hsrc⟩, hwords'⟩ := l.committedAlone_shown
  have hl : l.committedAlone.linkUp = s.ld.linkUp := hlink'.trans hlink
  generalize l.committedAlone = m at *
  obtain ⟨hhost', hraised, hready, hkept⟩ := State.unready_kept { s with ld := m }
  obtain ⟨hlink'', hreports⟩ := State.unready_shown (s := { s with ld := m }) fun h => Field.reports_of_waits (hwaits (hl.symm.trans h))
  have hstands' := State.unready_stands (s := { s with ld := m }) fun h => hstands (hl.symm.trans h)
  generalize State.unready { s with ld := m } = v at *
  obtain ⟨hhost'', hup, hraised', hregs, hstep⟩ := v.ld.transfersAgain_shown
  have hld := v.onLd_ld Logic.transfersAgain
  have hfd := v.onLd_fd Logic.transfersAgain
  generalize v.onLd Logic.transfersAgain = z at *
  have hupz (hz : z.ld.linkUp = true) : m.linkUp = true := by
    rw [hld, hup] at hz
    exact hlink''.symm.trans hz
  have hshown := drain_reported (s := z) fun hz => hfd.symm ▸ hreports (hupz hz)
  have hraised'' := drain_raised (u := z) fun hz => hfd.symm ▸ hstands' (hupz hz)
  have hsame := drain_ld_same z
  refine answers_drained (g := State.ackTimeout) fun t ht => ?_
  rw [ht, hdone]
  generalize (drain z).ld = d at *
  rw [hld] at hshown hraised'' hsame
  generalize v.ld.transfersAgain = r at *
  have hget (a : Nat) (ha : isReportWord (regHome a) = false) : d.regs.word a = v.ld.regs.word a := (hshown.word a ha).trans (by rw [hregs])
  refine ⟨?_, ?_, ?_, ?_, ⟨e, ?_, hsrc⟩⟩
  · rw [hsame.host, hhost'', hhost', hhost]
    exact hauth'
  · rw [hget _ hreport, hkept _ (hother _ (by decide)), hwords' _ (hother _ (by decide))]
    exact hword
  · rw [← hready]
    exact Logic.gb_of_g (congrArg (wbits · F.PAIR_STAT_READY.lo F.PAIR_STAT_READY.len) (hget R.PAIR_STAT (by decide)))
  · exact hsame.step.trans hstep
  · rw [hraised'', hraised', hraised]
    exact he

/-! The follower applies a mirrored word and acknowledges it (R330, R331). -/

/-- A mirrored word is acknowledged. -/
def Logic.mirrorAcked (c : Nat) (l : Logic) : Logic := (l.mirrorCtr c).queueFrame (.ack none)

theorem Logic.mirrorAcked_shown (c : Nat) (l : Logic) : (l.mirrorAcked c).regs = l.regs ∧ (l.mirrorAcked c).linkUp = l.linkUp ∧
    (l.pair.queue.length < 64 → PFrame.ack none ∈ (l.mirrorAcked c).pair.queue) := by
  have hqueue : (l.mirrorCtr c).pair = l.pair := rfl
  unfold Logic.mirrorAcked Logic.queueFrame
  rw [hqueue]
  split
  · exact ⟨rfl, rfl, fun _ => List.mem_append_right _ (List.mem_singleton_self _)⟩
  next h => exact ⟨rfl, rfl, fun hlt => absurd hlt h⟩

theorem State.takeMirror_word {s : State} (a : Fin 65536) (w c : Word) (hrole : s.ld.pairRole = 2) :
    s.takeMirror (.words a [w] c) = (s.mirrorWord a w).onLd (Logic.mirrorAcked c.toNat) := by
  have haddr : (a.val + 0) % 65536 = a.val := by omega
  refine (if_pos hrole).trans ?_
  change (s.mirrorWord ((a.val + 0) % 65536) w).onLd (Logic.mirrorAcked c.toNat) = _
  rw [haddr]

/-- A mirrored word that changes the logic die alone, and leaves the frames that wait. -/
theorem answers_mirrored {s : State} {fr : PairSeen} {resend : Option (Fin 256)} {a : Fin 65536} {w c : Word} {h : Logic → Logic} {p : Logic → Prop}
    (htold : s.told = true) (hhears : s.ld.hears = true) (hrole : s.ld.pairRole = 2) (hqueue : s.ld.pair.queue.length < 64)
    (hpasses : s.ld.passes fr) (hword : ∀ v : State, v.mirrorWord a w = v.onLd h) (hlink : ∀ l, (h l).linkUp = l.linkUp)
    (hpair : ∀ l, (h l).pair = l.pair) (hregs : ∀ l t : Logic, t.regs = (h l).regs → p t) :
    Answers (exec (.pairMirror fr resend (.words a [w] c)) s) fun t => p t.ld ∧ PFrame.ack none ∈ t.ld.pair.queue := by
  refine answers_heard htold hhears hpasses fun u hu => ?_
  have hv : (s.onLd (Logic.numbered fr resend)).ld.pairRole = 2 ∧ (s.onLd (Logic.numbered fr resend)).ld.pair.queue = s.ld.pair.queue ∧
      (s.onLd (Logic.numbered fr resend)).ld.linkUp = s.ld.linkUp ∧ (s.onLd (Logic.numbered fr resend)).fd.out = s.fd.out :=
    ⟨hrole, rfl, rfl, rfl⟩
  generalize s.onLd (Logic.numbered fr resend) = v at *
  obtain ⟨hrole', hqueue', hlink', hout⟩ := hv
  rw [State.takeMirror_word a w c hrole', hword] at hu
  obtain ⟨hregs', hup, hacked⟩ := (h v.ld).mirrorAcked_shown c.toNat
  have hld : u.ld = (h v.ld).mirrorAcked c.toNat := congrArg State.ld hu
  refine ⟨?_, (congrArg (fun u : State => u.fd.out) hu).trans hout, fun t ht _ => ?_⟩
  · rw [hld, hup, hlink, hlink']
  · rw [ht, hld]
    refine ⟨hregs v.ld _ hregs', hacked ?_⟩
    rw [hpair, hqueue']
    exact hqueue

theorem Logic.wdogTasks_pair (w : Word) (l : Logic) : (l.wdogTasks w).pair = l.pair := by
  have hput : (l.put F.WDOG_TASKS_EN (wbits w 0 8)).pair = l.pair := Logic.put_pair ..
  unfold Logic.wdogTasks
  generalize l.put F.WDOG_TASKS_EN (wbits w 0 8) = m at hput ⊢
  have hrestart : m.wdogRestart.pair = m.pair := by
    unfold Logic.wdogRestart
    split
    · have hbare := ((m.put wdogHalted 0).evt R.pageWDOG 5).wdogGrades_kept.2.1
      rw [Logic.bare_evt, Logic.bare_put] at hbare
      exact (Logic.of_bare Logic.pair hbare :)
    · rfl
  dsimp only
  split
  · exact hrestart.trans hput
  · exact hrestart.trans hput

theorem pairMirror_registers (s : State) (fr : PairSeen) (resend : Option (Fin 256)) (w c : Word) (htold : s.told = true)
    (hhears : s.ld.hears = true) (hrole : s.ld.pairRole = 2) (hqueue : s.ld.pair.queue.length < 64) (hpasses : s.ld.passes fr) :
    Answers (exec (.pairMirror fr resend (.words (Fin.ofNat 65536 R.WDOG_TASKS) [w] c)) s) fun t =>
      t.ld.g F.WDOG_TASKS_EN = wbits w 0 8 ∧ PFrame.ack none ∈ t.ld.pair.queue := by
  refine answers_mirrored (h := Logic.wdogTasks w) (p := fun l => l.g F.WDOG_TASKS_EN = wbits w 0 8) htold hhears hrole hqueue hpasses
    (fun v => ?_) (fun l => (l.wdogTasks_registers w).2.2.2.1) (Logic.wdogTasks_pair w) fun l t ht => ?_
  · obtain ⟨r, hr, hcls, hacc⟩ : ∃ r, regRow R.WDOG_TASKS = some r ∧ r.cls = .session ∧ r.acc = .rw := ⟨_, rfl, rfl, rfl⟩
    have hpage : pageKind (R.WDOG_TASKS / 256) = .wdog := rfl
    change v.mirrorWord R.WDOG_TASKS w = _
    unfold State.mirrorWord
    dsimp only
    rw [hr]
    dsimp only
    rw [if_neg (not_not_intro hcls), if_neg (not_not_intro hacc), hpage]
  · rw [Logic.g, ht]
    exact (l.wdogTasks_registers w).1

/-- The registers of a context's lifetime group. -/
def lifeWords (c : Nat) : List Nat := (List.range 8).map (R.CTX_LIFE_MIN c + ·)

theorem Logic.emptyLife_shown (c : Nat) (l : Logic) : (∀ a ∈ lifeWords c, (l.emptyLife c).regs.word a = 0#32) ∧
    (l.emptyLife c).linkUp = l.linkUp ∧ (l.emptyLife c).pair = l.pair := by
  have hfold (xs : List Nat) (m : Logic) : (∀ a, a ∈ xs ∨ m.regs.word a = 0#32 → (m.each xs fun a l => l.putWord a 0#32).regs.word a = 0#32) ∧
      (m.each xs fun a l => l.putWord a 0#32).linkUp = m.linkUp ∧ (m.each xs fun a l => l.putWord a 0#32).pair = m.pair := by
    induction xs generalizing m with
    | nil => exact ⟨fun a ha => ha.resolve_left (List.not_mem_nil), rfl, rfl⟩
    | cons x xs ih =>
      obtain ⟨hzero, hlink, hpair⟩ := ih (m.putWord x 0#32)
      refine ⟨fun a ha => hzero a ?_, hlink, hpair⟩
      have hput : regHome a = regHome x ∨ m.regs.word a = 0#32 → (m.putWord x 0#32).regs.word a = 0#32 := by
        intro h
        by_cases hx : regHome a = regHome x
        · have hread := congrArg (tget resetWord (m.putWord x 0#32).regs) hx
          exact hread.trans (word_write_same m.regs x 0#32)
        · exact (word_write_other m.regs 0#32 hx).trans (h.resolve_left hx)
      rcases ha with ha | ha
      · rcases List.mem_cons.mp ha with rfl | ha
        · exact .inr (hput (.inl rfl))
        · exact .inl ha
      · exact .inr (hput (.inr ha))
  obtain ⟨hzero, hlink, hpair⟩ := hfold (lifeWords c) { l with lifes := tput (fun _ => {}) l.lifes c {} }
  exact ⟨fun a ha => hzero a (.inl ha), hlink, hpair⟩

theorem pairMirror_empties (s : State) (fr : PairSeen) (resend : Option (Fin 256)) (c : Ctx) (k : Word) (htold : s.told = true)
    (hhears : s.ld.hears = true) (hrole : s.ld.pairRole = 2) (hqueue : s.ld.pair.queue.length < 64) (hpasses : s.ld.passes fr) :
    Answers (exec (.pairMirror fr resend (.words (Fin.ofNat 65536 (R.CTX_LIFE_CLR c)) [1#32] k)) s) fun t =>
      t.ld.lifeCount c = 0 ∧ PFrame.ack none ∈ t.ld.pair.queue := by
  refine answers_mirrored (h := Logic.emptyLife c) (p := fun l => l.lifeCount c = 0) htold hhears hrole hqueue hpasses
    (fun v => ?_) (fun l => (l.emptyLife_shown c).2.1) (fun l => (l.emptyLife_shown c).2.2) fun l t ht => ?_
  · have hrows : ∀ c : Ctx, ((regRow (R.CTX_LIFE_CLR c)).map fun r => (r.cls == .session && r.acc != .rw)) = some true := by decide
    have hpages : ∀ c : Ctx, pageKind (R.CTX_LIFE_CLR c / 256) = .ctx c := by decide
    obtain ⟨r, hr, hrow⟩ : ∃ r, regRow (R.CTX_LIFE_CLR c) = some r ∧ (r.cls == .session && r.acc != .rw) = true := by
      exact Option.map_eq_some_iff.mp (hrows c)
    obtain ⟨hcls, hacc⟩ := Bool.and_eq_true_iff.mp hrow
    have haddr : (Fin.ofNat 65536 (R.CTX_LIFE_CLR c)).val = R.CTX_LIFE_CLR c := by
      have := c.isLt
      simp only [Fin.ofNat, R.CTX_LIFE_CLR]
      omega
    have hoff : R.CTX_LIFE_CLR c % 256 = 0x60 := by
      simp only [R.CTX_LIFE_CLR]
      omega
    rw [haddr]
    unfold State.mirrorWord
    dsimp only
    rw [hr]
    dsimp only
    rw [if_neg (not_not_intro (eq_of_beq hcls)), if_pos (bne_iff_ne.mp hacc), hpages, hoff]
    unfold State.actWord
    dsimp only
    rw [hpages, hoff]
    rfl
  · have hlo : t.regs.word (R.CTX_LIFE_CNT_LO c) = 0#32 := by
      rw [ht]
      refine (l.emptyLife_shown c).1 _ (List.mem_map.mpr ⟨6, by decide, ?_⟩)
      simp only [R.CTX_LIFE_CNT_LO, R.CTX_LIFE_MIN]
      omega
    have hhi : t.regs.word (R.CTX_LIFE_CNT_HI c) = 0#32 := by
      rw [ht]
      refine (l.emptyLife_shown c).1 _ (List.mem_map.mpr ⟨7, by decide, ?_⟩)
      simp only [R.CTX_LIFE_CNT_HI, R.CTX_LIFE_MIN]
      omega
    rw [Logic.lifeCount, hlo, hhi]
    rfl

/-- Settles O15: what the partner port sends, and what the frames of chapter 19 that it hears leave. -/
theorem partnerPortRows : Obligations.PartnerPortRows := by
  unfold Obligations.PartnerPortRows
  exact ⟨frameSlot_sends, frameSlot_resends, pairSummary_drops, pairSummary_shows, pairNotice_expects, pairAck_commits, mirrorAckTimeout_commits,
    pairMirror_counts, pairMirror_registers, pairMirror_empties, pairHeartbeat_readies, pairHeartbeat_notes, pairHeartbeat_yields,
    pairTrigger_acts, pairTime_aligns⟩

end Sys2Proof.Machine
end

section
/-! The labels of the crate slots, FLOOR and BOOT_EPOCH (R311, R315): what combines changes that keep them. -/

namespace Sys2Proof.Machine

open Sys2Proof

namespace Logic

@[simp] theorem when_ranks (c : Bool) (h : Logic → Logic) (l : Logic) (hh : ∀ l, (h l).mram.vault.ranks = l.mram.vault.ranks) :
    (l.when c h).mram.vault.ranks = l.mram.vault.ranks := by
  cases c
  · rfl
  · exact hh l

@[simp] theorem ranks_each (ns : List Nat) (h : Nat → Logic → Logic) (l : Logic) (hh :
    ∀ n l, (h n l).mram.vault.ranks = l.mram.vault.ranks) :
    (l.each ns h).mram.vault.ranks = l.mram.vault.ranks := each_ranks hh ns l

@[simp] theorem foldl_ranks {α : Type} (xs : List α) (h : Logic → α → Logic) (l : Logic)
    (hh : ∀ l x, (h l x).mram.vault.ranks = l.mram.vault.ranks) : (xs.foldl h l).mram.vault.ranks = l.mram.vault.ranks := by
  induction xs generalizing l with
  | nil => rfl
  | cons x xs ih => exact (ih (h l x)).trans (hh l x)

@[simp] theorem modEnd_mram (onField : Bool) (h : LinkEnd BFrame → LinkEnd BFrame) (l : Logic) : (l.modEnd onField h).mram = l.mram := rfl

/-- A change of MRAM that keeps them. -/
theorem keep_ranks (h : Mram → Mram) (l : Logic) (hh : ∀ m, (h m).ranks = m.ranks) :
    (l.keep h).mram.vault.ranks = l.mram.vault.ranks := hh l.mram

end Logic

namespace State

@[simp] theorem foldl_ranks {α : Type} (xs : List α) (h : State → α → State) (s : State)
    (hh : ∀ s x, (h s x).ld.mram.vault.ranks = s.ld.mram.vault.ranks) : (xs.foldl h s).ld.mram.vault.ranks = s.ld.mram.vault.ranks := by
  induction xs generalizing s with
  | nil => rfl
  | cons x xs ih => exact (ih (h s x)).trans (hh s x)

@[simp] theorem onLd_ranks (h : Logic → Logic) (s : State) (hh : ∀ l, (h l).mram.vault.ranks = l.mram.vault.ranks) :
    (s.onLd h).ld.mram.vault.ranks = s.ld.mram.vault.ranks := hh s.ld

end State


/-! Clocks, and what the Cellar does (chapters 17 and 20). `-implicitDefEqProofs` has simp record its steps, which the kernel would
otherwise evaluate. -/

@[simp] theorem Logic.showClocks_ranks (l : Logic) : l.showClocks.mram.vault.ranks = l.mram.vault.ranks := by
  simp -implicitDefEqProofs [Logic.showClocks]

@[simp] theorem Logic.gateDisturbed_ranks (l : Logic) : l.gateDisturbed.mram.vault.ranks = l.mram.vault.ranks := by
  simp -implicitDefEqProofs [Logic.gateDisturbed]

@[simp] theorem Logic.serveHfrc_ranks (l : Logic) : l.serveHfrc.mram.vault.ranks = l.mram.vault.ranks := by
  simp -implicitDefEqProofs [Logic.serveHfrc]

@[simp] theorem State.clockLost_ranks (s : State) : s.clockLost.ld.mram.vault.ranks = s.ld.mram.vault.ranks := by
  simp -implicitDefEqProofs [State.clockLost]

@[simp] theorem State.degrade_ranks (inj : Bool) (s : State) : (s.degrade inj).ld.mram.vault.ranks = s.ld.mram.vault.ranks := by
  unfold State.degrade
  dsimp only
  (repeat' split) <;> simp -implicitDefEqProofs

@[simp] theorem State.undegrade_ranks (s : State) : s.undegrade.ld.mram.vault.ranks = s.ld.mram.vault.ranks := by
  unfold State.undegrade
  dsimp only
  split <;> simp -implicitDefEqProofs

@[simp] theorem State.autoReturn_ranks (s : State) : s.autoReturn.ld.mram.vault.ranks = s.ld.mram.vault.ranks := by
  unfold State.autoReturn
  split <;> simp -implicitDefEqProofs

@[simp] theorem Logic.clockFailed_ranks (ok evt src : Nat) (cnt : Option Fld) (inj : Bool) (l : Logic) :
    (l.clockFailed ok evt src cnt inj).mram.vault.ranks = l.mram.vault.ranks := by
  unfold Logic.clockFailed
  split <;> simp -implicitDefEqProofs

@[simp] theorem Logic.hfrcRetires_ranks (k cause : Nat) (inj : Bool) (l : Logic) :
    (l.hfrcRetires k cause inj).mram.vault.ranks = l.mram.vault.ranks := by
  simp -implicitDefEqProofs [Logic.hfrcRetires]

@[simp] theorem State.hfrcFails_ranks (k : Nat) (inj : Bool) (s : State) :
    (s.hfrcFails k inj).ld.mram.vault.ranks = s.ld.mram.vault.ranks := by
  unfold State.hfrcFails
  dsimp only
  split <;> simp -implicitDefEqProofs

@[simp] theorem State.clockFails_ranks (src : Nat) (inj : Bool) (s : State) :
    (s.clockFails src inj).ld.mram.vault.ranks = s.ld.mram.vault.ranks := by
  unfold State.clockFails
  dsimp only
  (repeat' split) <;> simp -implicitDefEqProofs

@[simp] theorem State.relock_ranks (s : State) : s.relock.ld.mram.vault.ranks = s.ld.mram.vault.ranks := by
  unfold State.relock
  split <;> simp -implicitDefEqProofs

@[simp] theorem State.clockReturns_ranks (src : Nat) (s : State) : (s.clockReturns src).ld.mram.vault.ranks = s.ld.mram.vault.ranks := by
  unfold State.clockReturns
  dsimp only
  (repeat' split) <;> simp -implicitDefEqProofs

@[simp] theorem State.clockRestore_ranks (w : Word) (s : State) : (s.clockRestore w).2.ld.mram.vault.ranks = s.ld.mram.vault.ranks := by
  unfold State.clockRestore
  (repeat' split) <;> simp -implicitDefEqProofs

@[simp] theorem State.fcoreStop_ranks (s : State) : s.fcoreStop.ld.mram.vault.ranks = s.ld.mram.vault.ranks := by
  simp -implicitDefEqProofs [State.fcoreStop]

@[simp] theorem Logic.fmeasGo_ranks (w : Word) (l : Logic) : (l.fmeasGo w).mram.vault.ranks = l.mram.vault.ranks := by
  unfold Logic.fmeasGo
  split <;> simp -implicitDefEqProofs

@[simp] theorem Logic.fmeasDone_ranks (edges : Nat) (l : Logic) : (l.fmeasDone edges).mram.vault.ranks = l.mram.vault.ranks := by
  unfold Logic.fmeasDone
  split <;> simp -implicitDefEqProofs

@[simp] theorem State.clockInject_ranks (w : Word) (s : State) : (s.clockInject w).ld.mram.vault.ranks = s.ld.mram.vault.ranks := by
  simp -implicitDefEqProofs [State.clockInject, apply_ite Logic.mram, apply_ite State.ld, apply_ite Mram.vault, apply_ite Mram.ranks]

@[simp] theorem Logic.tick_ranks (l : Logic) : l.tick.mram.vault.ranks = l.mram.vault.ranks := by
  unfold Logic.tick
  split <;> simp -implicitDefEqProofs

@[simp] theorem Logic.endSessions_ranks (l : Logic) : l.endSessions.mram.vault.ranks = l.mram.vault.ranks := by
  simp -implicitDefEqProofs [Logic.endSessions]

@[simp] theorem Logic.showAlarm_ranks (det grade : Nat) (inj : Bool) (l : Logic) :
    (l.showAlarm det grade inj).mram.vault.ranks = l.mram.vault.ranks := by
  simp -implicitDefEqProofs [Logic.showAlarm]

@[simp] theorem Logic.holdOff_ranks (l : Logic) : l.holdOff.mram.vault.ranks = l.mram.vault.ranks := by
  simp -implicitDefEqProofs [Logic.holdOff]

@[simp] theorem Logic.guard_ranks (det : Nat) (inj : Bool) (l : Logic) (sec : Bool) :
    (l.guard det inj sec).mram.vault.ranks = l.mram.vault.ranks := by
  unfold Logic.guard
  split <;> simp -implicitDefEqProofs

@[simp] theorem Logic.lockout_ranks (grade : Nat) (l : Logic) : (l.lockout grade).mram.vault.ranks = l.mram.vault.ranks := by
  unfold Logic.lockout
  refine (congrArg Mram.ranks (Logic.disapprove_vault _)).trans ((Logic.endSessions_ranks _).trans ?_)
  refine (congrArg (fun m : Mram => m.vault.ranks) (Logic.put_mram ..)).trans ((Logic.when_ranks _ _ _ fun l => ?_).trans ?_)
  · rw [Logic.put_mram]
  · exact Logic.keep_ranks _ l fun _ => rfl

@[simp] theorem State.purge_ranks (det grade : Nat) (inj : Bool) (s : State) :
    (s.purge det grade inj).ld.mram.vault.ranks = s.ld.mram.vault.ranks := by
  unfold State.purge
  dsimp only
  split <;> simp -implicitDefEqProofs

@[simp] theorem State.alarm_ranks (det grade : Nat) (inj : Bool) (s : State) :
    (s.alarm det grade inj).ld.mram.vault.ranks = s.ld.mram.vault.ranks := by
  unfold State.alarm
  split <;> simp -implicitDefEqProofs

@[simp] theorem Logic.noteFailure_ranks (det : Nat) (inj : Bool) (l : Logic) :
    (l.noteFailure det inj).mram.vault.ranks = l.mram.vault.ranks := by
  simp -implicitDefEqProofs [Logic.noteFailure]

@[simp] theorem State.authFailure_ranks (s : State) (inj : Bool) : (s.authFailure inj).ld.mram.vault.ranks = s.ld.mram.vault.ranks := by
  unfold State.authFailure
  dsimp only
  split <;> simp -implicitDefEqProofs

@[simp] theorem State.tagFailure_ranks (inj : Bool) (s : State) : (s.tagFailure inj).ld.mram.vault.ranks = s.ld.mram.vault.ranks := by
  unfold State.tagFailure
  dsimp only
  split <;> simp -implicitDefEqProofs

@[simp] theorem Logic.firing_ranks (d : Nat) (holds : Bool) (l : Logic) : (l.firing d holds).mram.vault.ranks = l.mram.vault.ranks := by
  simp -implicitDefEqProofs [Logic.firing]

@[simp] theorem State.secMismatch_ranks (inj : Bool) (s : State) : (s.secMismatch inj).ld.mram.vault.ranks = s.ld.mram.vault.ranks := by
  simp -implicitDefEqProofs [State.secMismatch]

@[simp] theorem Logic.secRestarted_ranks (pass : Bool) (l : Logic) : (l.secRestarted pass).mram.vault.ranks = l.mram.vault.ranks := by
  unfold Logic.secRestarted
  split <;> simp -implicitDefEqProofs

@[simp] theorem State.detectorAt_ranks (d grade : Nat) (inj : Bool) (s : State) :
    (s.detectorAt d grade inj).ld.mram.vault.ranks = s.ld.mram.vault.ranks := by
  unfold State.detectorAt
  dsimp only
  (repeat' split) <;> simp -implicitDefEqProofs

@[simp] theorem State.detector_ranks (d : Nat) (inj : Bool) (s : State) :
    (s.detector d inj).ld.mram.vault.ranks = s.ld.mram.vault.ranks := by
  unfold State.detector
  split <;> simp -implicitDefEqProofs

@[simp] theorem State.tamper_ranks (d : Nat) (holds : Bool) (s : State) :
    (s.tamper d holds).ld.mram.vault.ranks = s.ld.mram.vault.ranks := by
  unfold State.tamper
  split <;> simp -implicitDefEqProofs

@[simp] theorem State.cellarInject_ranks (w : Word) (s : State) : (s.cellarInject w).ld.mram.vault.ranks = s.ld.mram.vault.ranks := by
  simp -implicitDefEqProofs [State.cellarInject]

@[simp] theorem State.zeroise_ranks (w : Word) (s : State) : (s.zeroise w).2.ld.mram.vault.ranks = s.ld.mram.vault.ranks := by
  unfold State.zeroise
  (repeat' split) <;> simp -implicitDefEqProofs

@[simp] theorem Logic.selftestGo_ranks (w : Word) (l : Logic) : (l.selftestGo w).mram.vault.ranks = l.mram.vault.ranks := by
  unfold Logic.selftestGo
  split <;> simp -implicitDefEqProofs

@[simp] theorem Logic.katFails_ranks (l : Logic) : l.katFails.mram.vault.ranks = l.mram.vault.ranks := by
  simp -implicitDefEqProofs [Logic.katFails]

@[simp] theorem Logic.selftestDone_ranks (pass : Bool) (l : Logic) : (l.selftestDone pass).mram.vault.ranks = l.mram.vault.ranks := by
  unfold Logic.selftestDone
  split <;> simp -implicitDefEqProofs

@[simp] theorem Logic.rngFails_ranks (l : Logic) : l.rngFails.mram.vault.ranks = l.mram.vault.ranks := by
  simp -implicitDefEqProofs [Logic.rngFails]

@[simp] theorem Logic.entropyFails_ranks (test : EntropyTest) (l : Logic) :
    (l.entropyFails test).mram.vault.ranks = l.mram.vault.ranks := by
  unfold Logic.entropyFails
  split <;> simp -implicitDefEqProofs

@[simp] theorem Logic.holdEnds_ranks (l : Logic) : l.holdEnds.mram.vault.ranks = l.mram.vault.ranks := by
  simp -implicitDefEqProofs [Logic.holdEnds]

@[simp] theorem Logic.enrolCloses_ranks (l : Logic) : l.enrolCloses.mram.vault.ranks = l.mram.vault.ranks := by
  simp -implicitDefEqProofs [Logic.enrolCloses]

end Sys2Proof.Machine
end

section
/-! Engines, writes of the field die, validation, the barrier and the Larder keep labels, FLOOR and BOOT_EPOCH. -/

namespace Sys2Proof.Machine

open Sys2Proof

@[simp] theorem Logic.placeRole_ranks (r i : Nat) (l : Logic) : (l.placeRole r i).mram.vault.ranks = l.mram.vault.ranks := by
  simp -implicitDefEqProofs [Logic.placeRole]

@[simp] theorem State.showRoles_ranks (s : State) : s.showRoles.ld.mram.vault.ranks = s.ld.mram.vault.ranks := by
  simp -implicitDefEqProofs [State.showRoles]

@[simp] theorem State.roleFault_ranks (r : Nat) (severe inj : Bool) (s : State) :
    (s.roleFault r severe inj).ld.mram.vault.ranks = s.ld.mram.vault.ranks := by
  unfold State.roleFault
  split <;> simp -implicitDefEqProofs

@[simp] theorem State.detach_ranks (s : State) : s.detach.ld.mram.vault.ranks = s.ld.mram.vault.ranks := by
  simp -implicitDefEqProofs [State.detach]

@[simp] theorem State.roleLost_ranks (r : Nat) (s : State) : (s.roleLost r).ld.mram.vault.ranks = s.ld.mram.vault.ranks := by
  unfold State.roleLost
  (repeat' split) <;> simp -implicitDefEqProofs

@[simp] theorem State.coreFail_ranks (r : Nat) (inj : Bool) (s : State) (cause : Nat) :
    (s.coreFail r inj cause).ld.mram.vault.ranks = s.ld.mram.vault.ranks := by
  unfold State.coreFail
  dsimp only
  (repeat' split) <;> simp -implicitDefEqProofs

@[simp] theorem State.coreTested_ranks (r : Nat) (pass : Bool) (s : State) :
    (s.coreTested r pass).ld.mram.vault.ranks = s.ld.mram.vault.ranks := by
  unfold State.coreTested
  split <;> simp -implicitDefEqProofs

@[simp] theorem State.roleResumes_ranks (r : Nat) (s : State) : (s.roleResumes r).ld.mram.vault.ranks = s.ld.mram.vault.ranks := by
  unfold State.roleResumes
  dsimp only
  (repeat' split) <;> simp -implicitDefEqProofs

@[simp] theorem Logic.writeCheckpoint_ranks (r copy : Nat) (l : Logic) :
    (l.writeCheckpoint r copy).mram.vault.ranks = l.mram.vault.ranks := by
  simp -implicitDefEqProofs [Logic.writeCheckpoint]

@[simp] theorem Logic.checkpoint_ranks (r : Nat) (l : Logic) : (l.checkpoint r).mram.vault.ranks = l.mram.vault.ranks := by
  unfold Logic.checkpoint
  split <;> simp -implicitDefEqProofs

@[simp] theorem Logic.checkpointBad_ranks (r copy : Nat) (l : Logic) :
    (l.checkpointBad r copy).mram.vault.ranks = l.mram.vault.ranks := by
  unfold Logic.checkpointBad
  dsimp only
  split <;> simp -implicitDefEqProofs

@[simp] theorem Logic.rowRetires_ranks (m : Memory) (row cause : Nat) (inj : Bool) (l : Logic) :
    (l.rowRetires m row cause inj).mram.vault.ranks = l.mram.vault.ranks := by
  unfold Logic.rowRetires
  dsimp only
  (repeat' split) <;> simp -implicitDefEqProofs

@[simp] theorem Logic.rowMoved_ranks (m : Memory) (row : Nat) (l : Logic) : (l.rowMoved m row).mram.vault.ranks = l.mram.vault.ranks := by
  unfold Logic.rowMoved
  dsimp only
  (repeat' split) <;> simp -implicitDefEqProofs

@[simp] theorem Logic.rowCounts_ranks (m : Memory) (row : Nat) (l : Logic) :
    (l.rowCounts m row).1.mram.vault.ranks = l.mram.vault.ranks := by
  simp -implicitDefEqProofs [Logic.rowCounts]

@[simp] theorem State.reloadRegister_ranks (onF : Bool) (a : Nat) (s : State) :
    (s.reloadRegister onF a).ld.mram.vault.ranks = s.ld.mram.vault.ranks := by
  unfold State.reloadRegister
  split <;> simp -implicitDefEqProofs

@[simp] theorem State.rowAction_ranks (m : Memory) (use : RowUse) (inj : Bool) (s : State) :
    (s.rowAction m use inj).ld.mram.vault.ranks = s.ld.mram.vault.ranks := by
  unfold State.rowAction
  cases m with
  | cellar => exact (Logic.guard_ranks ..).trans (rfl)
  | mram =>
    cases use with
    | slot p => exact Logic.keep_ranks _ s.ld fun _ => rfl
    | _ => simp -implicitDefEqProofs
  | _ => cases use <;> simp -implicitDefEqProofs

@[simp] theorem State.memFault_ranks (m : Memory) (inj : Bool) (s : State) :
    (s.memFault m inj).ld.mram.vault.ranks = s.ld.mram.vault.ranks := by
  unfold State.memFault
  split <;> simp -implicitDefEqProofs

@[simp] theorem State.rowRead_ranks (m : Memory) (row errors : Nat) (use : RowUse) (s : State) :
    (s.rowRead m row errors use).ld.mram.vault.ranks = s.ld.mram.vault.ranks := by
  unfold State.rowRead
  dsimp only
  (repeat' split) <;> simp -implicitDefEqProofs

@[simp] theorem Logic.rowExpires_ranks (m : Memory) (row : Nat) (l : Logic) :
    (l.rowExpires m row).mram.vault.ranks = l.mram.vault.ranks := by
  simp -implicitDefEqProofs [Logic.rowExpires]

@[simp] theorem Logic.commandedAnew_ranks (a : Nat) (w : Word) (l : Logic) :
    (l.commandedAnew a w).mram.vault.ranks = l.mram.vault.ranks := by
  unfold Logic.commandedAnew
  dsimp only
  split <;> simp -implicitDefEqProofs

@[simp] theorem State.toField_ranks (a : Nat) (w : Word) (s : State) : (s.toField a w).ld.mram.vault.ranks = s.ld.mram.vault.ranks := by
  unfold State.toField
  dsimp only
  (repeat' split) <;> simp -implicitDefEqProofs

@[simp] theorem Logic.showVerdict_ranks (v : Verdict) (l : Logic) : (l.showVerdict v).mram.vault.ranks = l.mram.vault.ranks := by
  simp -implicitDefEqProofs [Logic.showVerdict]

@[simp] theorem Logic.applyPage_ranks (p : Nat) (target : RegFile) (l : Logic) :
    (l.applyPage p target).mram.vault.ranks = l.mram.vault.ranks := by
  simp -implicitDefEqProofs [Logic.applyPage]

@[simp] theorem Logic.emptyLife_ranks (c : Nat) (l : Logic) : (l.emptyLife c).mram.vault.ranks = l.mram.vault.ranks := by
  simp -implicitDefEqProofs [Logic.emptyLife]

@[simp] theorem Logic.lockNext_ranks (l : Logic) : l.lockNext.mram.vault.ranks = l.mram.vault.ranks := by
  unfold Logic.lockNext
  (repeat' split) <;> simp -implicitDefEqProofs

@[simp] theorem Logic.takeFieldPage_ranks (p : Nat) (t : RegFile) (l : Logic) :
    (l.takeFieldPage p t).mram.vault.ranks = l.mram.vault.ranks := by
  unfold Logic.takeFieldPage
  split <;> simp -implicitDefEqProofs

/-- The lock of a page is lifted, but of a sequencer's table (R59). -/
def Logic.unlockPage (p : Nat) (l : Logic) : Logic := if pageKind p = .seqtab then l else l.put (lockedBit p) 0

/-- A page of configuration takes effect: the logic die's own or one of the field die (R8). -/
def Logic.pageIn (p : Nat) (t : RegFile) (l : Logic) : Logic :=
  if !onField (p * 256) then (l.applyPage p t).disapprove else l.takeFieldPage p t

/-- A page of the crate in hand takes effect on the logic die (R8, R59). -/
def Logic.pageTaken (p : Nat) (ps : List Nat) (l : Logic) : Logic :=
  Logic.lockNext { (l.unlockPage p).pageIn p (crateConfig l.regs l.crate.words) with
    bar := { ((l.unlockPage p).pageIn p (crateConfig l.regs l.crate.words)).bar with pages := ps } }

@[simp] theorem Logic.unlockPage_mram (p : Nat) (l : Logic) : (l.unlockPage p).mram = l.mram := by
  unfold Logic.unlockPage
  split <;> simp -implicitDefEqProofs

@[simp] theorem Logic.pageIn_ranks (p : Nat) (t : RegFile) (l : Logic) : (l.pageIn p t).mram.vault.ranks = l.mram.vault.ranks := by
  unfold Logic.pageIn
  split <;> simp -implicitDefEqProofs

theorem Logic.pageTaken_ranks (p : Nat) (ps : List Nat) (l : Logic) : (l.pageTaken p ps).mram.vault.ranks = l.mram.vault.ranks := by
  unfold Logic.pageTaken
  generalize crateConfig l.regs l.crate.words = t
  rw [Logic.lockNext_mram]
  exact (Logic.pageIn_ranks p t _).trans (by rw [Logic.unlockPage_mram])

theorem State.onePage_pages {s : State} {p : Nat} {ps : List Nat} (h : s.ld.bar.pages = p :: ps) :
    ∃ f, s.onePage = if pageKind p = .clock then State.autoReturn { s with ld := s.ld.pageTaken p ps, fd := f }
      else { s with ld := s.ld.pageTaken p ps, fd := f } := by
  unfold State.onePage
  rw [h]
  exact ⟨_, rfl⟩

@[simp] theorem State.onePage_ranks (s : State) : s.onePage.ld.mram.vault.ranks = s.ld.mram.vault.ranks := by
  cases h : s.ld.bar.pages with
  | nil => rw [show s.onePage = s by rw [State.onePage, h]]
  | cons p ps =>
    obtain ⟨f, hpage⟩ := State.onePage_pages h
    rw [hpage]
    split
    · exact (State.autoReturn_ranks _).trans (s.ld.pageTaken_ranks p ps)
    · exact s.ld.pageTaken_ranks p ps

@[simp] theorem State.ownPages_ranks (s : State) : s.ownPages.ld.mram.vault.ranks = s.ld.mram.vault.ranks := by
  simp -implicitDefEqProofs [State.ownPages, apply_ite Logic.mram, apply_ite State.ld, apply_ite Mram.vault, apply_ite Mram.ranks]

@[simp] theorem State.nextPage_ranks (s : State) : s.nextPage.ld.mram.vault.ranks = s.ld.mram.vault.ranks := by
  simp -implicitDefEqProofs [State.nextPage]

@[simp] theorem Logic.pleadTick_ranks (l : Logic) : l.pleadTick.mram.vault.ranks = l.mram.vault.ranks := by
  unfold Logic.pleadTick
  dsimp only
  (repeat' split) <;> simp -implicitDefEqProofs

@[simp] theorem State.tick_ranks (s : State) : s.tick.ld.mram.vault.ranks = s.ld.mram.vault.ranks := by
  unfold State.tick
  dsimp only
  (repeat' split) <;> simp -implicitDefEqProofs

@[simp] theorem Logic.add_ranks (x : Fld) (n : Nat) (l : Logic) : (l.add x n).mram.vault.ranks = l.mram.vault.ranks := by
  simp -implicitDefEqProofs [Logic.add]

@[simp] theorem State.discard_ranks (onField : Bool) (c : FrameCheck) (inj : Bool) (s : State) :
    (s.discard onField c inj).ld.mram.vault.ranks = s.ld.mram.vault.ranks := by
  unfold State.discard
  split <;> simp -implicitDefEqProofs

@[simp] theorem Logic.linkRises_ranks (l : Logic) : l.linkRises.mram.vault.ranks = l.mram.vault.ranks := by
  unfold Logic.linkRises
  split <;> simp -implicitDefEqProofs

@[simp] theorem State.syncMode_ranks (s : State) : s.syncMode.ld.mram.vault.ranks = s.ld.mram.vault.ranks := by
  unfold State.syncMode
  split <;> simp -implicitDefEqProofs

@[simp] theorem Logic.sendFrame_ranks (onField : Bool) (k : BFrame) (old : Option (SentFrame BFrame)) (l : Logic) :
    (l.sendFrame onField k old).mram.vault.ranks = l.mram.vault.ranks := by
  unfold Logic.sendFrame
  split <;> simp -implicitDefEqProofs

@[simp] theorem Logic.changeRate_ranks (l : Logic) : l.changeRate.mram.vault.ranks = l.mram.vault.ranks := by
  unfold Logic.changeRate
  dsimp only
  (repeat' split) <;> simp -implicitDefEqProofs

@[simp] theorem State.frameSlot_ranks (fromLogic : Bool) (s : State) :
    (s.frameSlot fromLogic).ld.mram.vault.ranks = s.ld.mram.vault.ranks := by
  unfold State.frameSlot
  dsimp only
  (repeat' split) <;> simp -implicitDefEqProofs

@[simp] theorem Logic.foldLife_ranks (sn : Snap) (l : Logic) : (l.foldLife sn).mram.vault.ranks = l.mram.vault.ranks := by
  simp -implicitDefEqProofs [Logic.foldLife]

@[simp] theorem Logic.compareMean_ranks (sn : Snap) (l : Logic) : (l.compareMean sn).mram.vault.ranks = l.mram.vault.ranks := by
  unfold Logic.compareMean
  split <;> simp -implicitDefEqProofs

@[simp] theorem State.comparePair_ranks (c seq : Nat) (a b : Int) (s : State) :
    (s.comparePair c seq a b).ld.mram.vault.ranks = s.ld.mram.vault.ranks := by
  unfold State.comparePair
  dsimp only
  split <;> simp -implicitDefEqProofs

@[simp] theorem State.compareAll_ranks (s : State) : s.compareAll.ld.mram.vault.ranks = s.ld.mram.vault.ranks := by
  unfold State.compareAll
  refine State.foldl_ranks _ _ s fun s x => ?_
  split
  · exact (State.comparePair_ranks ..).trans (rfl)
  · rfl

@[simp] theorem Logic.alignClose_ranks (sn : Snap) (l : Logic) : (l.alignClose sn).mram.vault.ranks = l.mram.vault.ranks := by
  unfold Logic.alignClose
  split <;> simp -implicitDefEqProofs

@[simp] theorem Logic.snapshotIn_ranks (sn : Snap) (l : Logic) : (l.snapshotIn sn).mram.vault.ranks = l.mram.vault.ranks := by
  simp -implicitDefEqProofs [Logic.snapshotIn]

@[simp] theorem State.takeSnap_ranks (s : State) : s.takeSnap.ld.mram.vault.ranks = s.ld.mram.vault.ranks := by
  unfold State.takeSnap
  dsimp only
  (repeat' split) <;> simp -implicitDefEqProofs

@[simp] theorem State.takeState_ranks (m : Readings) (s : State) : (s.takeState m).ld.mram.vault.ranks = s.ld.mram.vault.ranks := by
  unfold State.takeState
  dsimp only
  (repeat' split) <;> simp -implicitDefEqProofs

@[simp] theorem State.takeCmd_ranks (s : State) : s.takeCmd.ld.mram.vault.ranks = s.ld.mram.vault.ranks := by
  unfold State.takeCmd
  dsimp only
  (repeat' split) <;> simp -implicitDefEqProofs

@[simp] theorem State.freeze_ranks (s : State) : s.freeze.ld.mram.vault.ranks = s.ld.mram.vault.ranks := by
  simp -implicitDefEqProofs [State.freeze]

@[simp] theorem State.linkFalls_ranks (s : State) : s.linkFalls.ld.mram.vault.ranks = s.ld.mram.vault.ranks := by
  unfold State.linkFalls
  split <;> simp -implicitDefEqProofs

@[simp] theorem Logic.laneRetires_ranks (k cause : Nat) (inj : Bool) (l : Logic) :
    (l.laneRetires k cause inj).mram.vault.ranks = l.mram.vault.ranks := by
  unfold Logic.laneRetires
  split <;> simp -implicitDefEqProofs

@[simp] theorem Logic.laneFails_ranks (k errors : Nat) (inj : Bool) (l : Logic) :
    (l.laneFails k errors inj).mram.vault.ranks = l.mram.vault.ranks := by
  unfold Logic.laneFails
  split <;> simp -implicitDefEqProofs

@[simp] theorem Logic.laneLeaves_ranks (k : Nat) (l : Logic) : (l.laneLeaves k).mram.vault.ranks = l.mram.vault.ranks := by
  unfold Logic.laneLeaves
  dsimp only
  split <;> simp -implicitDefEqProofs

@[simp] theorem Logic.laneSwitch_ranks (l : Logic) : l.laneSwitch.mram.vault.ranks = l.mram.vault.ranks := by
  unfold Logic.laneSwitch
  split <;> simp -implicitDefEqProofs

@[simp] theorem State.barrierInject_ranks (w : Word) (s : State) : (s.barrierInject w).ld.mram.vault.ranks = s.ld.mram.vault.ranks := by
  unfold State.barrierInject
  dsimp only
  (repeat' split) <;> simp -implicitDefEqProofs

@[simp] theorem Logic.reqResult_ranks (n : Nat) (l : Logic) : (l.reqResult n).mram.vault.ranks = l.mram.vault.ranks := by
  simp -implicitDefEqProofs [Logic.reqResult]

@[simp] theorem State.reqRefused_ranks (k i : Nat) (s : State) : (s.reqRefused k i).2.ld.mram.vault.ranks = s.ld.mram.vault.ranks := by
  simp -implicitDefEqProofs [State.reqRefused]

@[simp] theorem State.retireNow_ranks (k i : Nat) (w : Word) (s : State) :
    (s.retireNow k i w).ld.mram.vault.ranks = s.ld.mram.vault.ranks := by
  unfold State.retireNow
  split
  · split <;> simp -implicitDefEqProofs
  · split <;> simp -implicitDefEqProofs
  · simp -implicitDefEqProofs
  · simp -implicitDefEqProofs
  · refine State.onLd_ranks _ s fun l => ?_
    dsimp only
    split <;> simp -implicitDefEqProofs
  · split
    · refine State.onLd_ranks _ s fun l => ?_
      split <;> simp -implicitDefEqProofs
    · split <;> simp -implicitDefEqProofs

@[simp] theorem State.larderRetire_ranks (w : Word) (s : State) : (s.larderRetire w).2.ld.mram.vault.ranks = s.ld.mram.vault.ranks := by
  unfold State.larderRetire
  dsimp only
  (repeat' split) <;> simp -implicitDefEqProofs

@[simp] theorem State.larderRestore_ranks (w : Word) (s : State) : (s.larderRestore w).2.ld.mram.vault.ranks = s.ld.mram.vault.ranks := by
  unfold State.larderRestore
  dsimp only
  (repeat' split) <;> simp -implicitDefEqProofs

@[simp] theorem Logic.unretire_ranks (k i : Nat) (l : Logic) : (l.unretire k i).mram.vault.ranks = l.mram.vault.ranks := by
  simp -implicitDefEqProofs [Logic.unretire]

@[simp] theorem State.restoreVerdict_ranks (k i fail dev : Nat) (s : State) :
    (s.restoreVerdict k i fail dev).2.ld.mram.vault.ranks = s.ld.mram.vault.ranks := by
  unfold State.restoreVerdict
  dsimp only
  (repeat' split) <;> simp -implicitDefEqProofs

@[simp] theorem State.restoreDone_ranks (fail dev : Nat) (s : State) :
    (s.restoreDone fail dev).ld.mram.vault.ranks = s.ld.mram.vault.ranks := by
  unfold State.restoreDone
  dsimp only
  (repeat' split) <;> simp -implicitDefEqProofs

@[simp] theorem State.larderReq_ranks (w : Word) (s : State) : (s.larderReq w).2.ld.mram.vault.ranks = s.ld.mram.vault.ranks := by
  unfold State.larderReq
  split <;> simp -implicitDefEqProofs

@[simp] theorem State.vetoWritten_ranks (w : Word) (s : State) : (s.vetoWritten w).ld.mram.vault.ranks = s.ld.mram.vault.ranks := by
  simp -implicitDefEqProofs [State.vetoWritten]

@[simp] theorem Logic.larderInject_ranks (w : Word) (l : Logic) : (l.larderInject w).mram.vault.ranks = l.mram.vault.ranks := by
  simp -implicitDefEqProofs [Logic.larderInject]

end Sys2Proof.Machine

end

section
/-! Frames of the host port and sessions keep them. -/

namespace Sys2Proof.Machine

open Sys2Proof

@[simp] theorem Logic.selected_ranks (l : Logic) : l.selected.mram.vault.ranks = l.mram.vault.ranks := by
  simp -implicitDefEqProofs [Logic.selected]

@[simp] theorem Logic.statusPhase_ranks (l : Logic) : l.statusPhase.mram.vault.ranks = l.mram.vault.ranks := by
  simp -implicitDefEqProofs [Logic.statusPhase]

@[simp] theorem Logic.extraEdges_ranks (l : Logic) : l.extraEdges.mram.vault.ranks = l.mram.vault.ranks := by
  simp -implicitDefEqProofs [Logic.extraEdges]

@[simp] theorem Logic.openFrame_ranks (l : Logic) : l.openFrame.mram.vault.ranks = l.mram.vault.ranks := by
  simp -implicitDefEqProofs [Logic.openFrame]

/-- A frame keeps them where what it asks for does. -/
@[simp] theorem State.frame_ranks (op addr : Nat) (extra : Bool) (act : State → List (Nat × Nat) × State) (s : State)
    (device cut : Bool)
    (hact : ∀ s, (act s).2.ld.mram.vault.ranks = s.ld.mram.vault.ranks) :
    (s.frame op addr extra act device cut).ld.mram.vault.ranks = s.ld.mram.vault.ranks := by
  have hopen := (State.onLd_ranks Logic.openFrame s Logic.openFrame_ranks)
  unfold State.frame
  split
  · rfl
  · dsimp only
    split
    · simp -implicitDefEqProofs
    · have hend : ∀ x : List (Nat × Nat) × State, x.2.ld.mram.vault.ranks = s.ld.mram.vault.ranks →
          (if x.2.ld.boot.logic = 0 then x.2 else x.2.onLd fun l => (l.frameError op x.1).when extra Logic.extraEdges).ld.mram.vault.ranks =
            s.ld.mram.vault.ranks := by
        intro x hx
        split
        · exact hx
        · refine (State.onLd_ranks _ _ fun l => ?_).trans hx
          simp -implicitDefEqProofs
      refine hend _ ?_
      split
      · exact (hact _).trans hopen
      · exact hopen

@[simp] theorem State.replyWith_ranks (ws : List Word) (s : State) : (s.replyWith ws).ld.mram.vault.ranks = s.ld.mram.vault.ranks := by
  simp -implicitDefEqProofs [State.replyWith]

@[simp] theorem State.fetch_ranks (a : Nat) (s : State) : (s.fetch a).2.ld.mram.vault.ranks = s.ld.mram.vault.ranks := by
  unfold State.fetch
  dsimp only
  (repeat' split) <;> simp -implicitDefEqProofs

@[simp] theorem State.fetchMany_ranks (a n : Nat) (s : State) : (s.fetchMany a n).2.ld.mram.vault.ranks = s.ld.mram.vault.ranks := by
  induction n generalizing a s with
  | zero => rfl
  | succ n ih => exact (ih ..).trans (State.fetch_ranks ..)

@[simp] theorem State.fetchAllowed_ranks (denied : Nat → Bool) (ps : List Nat) (s : State) :
    (s.fetchAllowed denied ps).2.ld.mram.vault.ranks = s.ld.mram.vault.ranks := by
  induction ps generalizing s with
  | nil => rfl
  | cons p ps ih =>
    unfold State.fetchAllowed
    dsimp only
    rw [ih]
    split
    · rfl
    · exact State.fetch_ranks ..

@[simp] theorem State.isLate_ranks (late : Bool) (s : State) : (s.isLate late).2.ld.mram.vault.ranks = s.ld.mram.vault.ranks := by
  simp -implicitDefEqProofs [State.isLate]

@[simp] theorem State.readFrame_ranks (a n : Nat) (late : Bool) (s : State) :
    (s.readFrame a n late).2.ld.mram.vault.ranks = s.ld.mram.vault.ranks := by
  unfold State.readFrame
  split <;> simp -implicitDefEqProofs

@[simp] theorem State.snapFrame_ranks (a : Nat) (late : Bool) (s : State) :
    (s.snapFrame a late).2.ld.mram.vault.ranks = s.ld.mram.vault.ranks := by
  unfold State.snapFrame
  split <;> simp -implicitDefEqProofs

@[simp] theorem State.presentTrigger_ranks (groups stamp : Nat) (s : State) :
    (s.presentTrigger groups stamp).ld.mram.vault.ranks = s.ld.mram.vault.ranks := by
  unfold State.presentTrigger
  dsimp only
  (repeat' split) <;> simp -implicitDefEqProofs

@[simp] theorem State.syncGroups_ranks (a : Nat) (s : State) : (s.syncGroups a).2.ld.mram.vault.ranks = s.ld.mram.vault.ranks := by
  unfold State.syncGroups
  split <;> simp -implicitDefEqProofs

@[simp] theorem State.serviceTask_ranks (a : Nat) (s : State) : (s.serviceTask a).2.ld.mram.vault.ranks = s.ld.mram.vault.ranks := by
  unfold State.serviceTask
  dsimp only
  (repeat' split) <;> simp -implicitDefEqProofs

@[simp] theorem State.syncinEdge_ranks (rise : Bool) (s : State) : (s.syncinEdge rise).ld.mram.vault.ranks = s.ld.mram.vault.ranks := by
  simp -implicitDefEqProofs [State.syncinEdge]

@[simp] theorem Logic.drawWords_ranks (n : Nat) (l : Logic) : (l.drawWords n).2.mram.vault.ranks = l.mram.vault.ranks := by
  simp -implicitDefEqProofs [Logic.drawWords]

@[simp] theorem State.message_ranks (kind : Nat) (act : State → State) (s : State)
    (hact : ∀ s, (act s).ld.mram.vault.ranks = s.ld.mram.vault.ranks) :
    (s.message kind act).ld.mram.vault.ranks = s.ld.mram.vault.ranks := by
  refine State.frame_ranks _ _ _ _ s _ _ fun s => ?_
  split
  · rfl
  · exact hact s

@[simp] theorem Logic.making_ranks (kind r : Nat) (ws : List Word) (l : Logic) :
    (l.making kind r ws).mram.vault.ranks = l.mram.vault.ranks := by
  simp -implicitDefEqProofs [Logic.making]

@[simp] theorem Logic.answer_ranks (kind : Nat) (ws : List Word) (l : Logic) :
    (l.answer kind ws).mram.vault.ranks = l.mram.vault.ranks := by
  simp -implicitDefEqProofs [Logic.answer]

@[simp] theorem State.countResult_ranks (r : Nat) (s : State) : (s.countResult r).ld.mram.vault.ranks = s.ld.mram.vault.ranks := by
  unfold State.countResult
  split <;> simp -implicitDefEqProofs

@[simp] theorem Logic.messageBlocked_ranks (kind : Nat) (l : Logic) : (l.messageBlocked kind).mram.vault.ranks = l.mram.vault.ranks := by
  simp -implicitDefEqProofs [Logic.messageBlocked]

@[simp] theorem Logic.opened_ranks (ws : List Word) (pointOk : Bool) (l : Logic) :
    (l.opened ws pointOk).mram.vault.ranks = l.mram.vault.ranks := by
  simp -implicitDefEqProofs [Logic.opened]

@[simp] theorem State.challenge_ranks (s : State) : s.challenge.ld.mram.vault.ranks = s.ld.mram.vault.ranks := by
  unfold State.challenge
  split <;> simp -implicitDefEqProofs

@[simp] theorem Logic.prove_ranks (ws : List Word) (credOk sigOk : Bool) (l : Logic) :
    (l.prove ws credOk sigOk).mram.vault.ranks = l.mram.vault.ranks := by
  unfold Logic.prove
  dsimp only
  (repeat' split) <;> simp -implicitDefEqProofs

@[simp] theorem Logic.endOverlap_ranks (l : Logic) : l.endOverlap.mram.vault.ranks = l.mram.vault.ranks := by
  unfold Logic.endOverlap
  split <;> simp -implicitDefEqProofs

@[simp] theorem Logic.activate_ranks (x : Session) (rekey : Bool) (l : Logic) :
    (l.activate x rekey).mram.vault.ranks = l.mram.vault.ranks := by
  simp -implicitDefEqProofs [Logic.activate]

@[simp] theorem State.accept_ranks (s : State) : s.accept.ld.mram.vault.ranks = s.ld.mram.vault.ranks := by
  unfold State.accept
  dsimp only
  (repeat' split) <;> simp -implicitDefEqProofs

@[simp] theorem Logic.showSession_ranks (l : Logic) : l.showSession.mram.vault.ranks = l.mram.vault.ranks := by
  unfold Logic.showSession
  split <;> simp -implicitDefEqProofs

@[simp] theorem Logic.closed_ranks (l : Logic) : l.closed.mram.vault.ranks = l.mram.vault.ranks := by
  unfold Logic.closed
  dsimp only
  (repeat' split) <;> simp -implicitDefEqProofs

@[simp] theorem Logic.nonceReady_ranks (l : Logic) : l.nonceReady.mram.vault.ranks = l.mram.vault.ranks := by
  unfold Logic.nonceReady
  split <;> simp -implicitDefEqProofs

@[simp] theorem Logic.useNonce_ranks (kind r : Nat) (ws : List Word) (l : Logic) :
    (l.useNonce kind r ws).mram.vault.ranks = l.mram.vault.ranks := by
  simp -implicitDefEqProofs [Logic.useNonce]

@[simp] theorem Logic.enrol_ranks (ws : List Word) (pointOk sigOk : Bool) (l : Logic) :
    (l.enrol ws pointOk sigOk).mram.vault.ranks = l.mram.vault.ranks := by
  simp -implicitDefEqProofs [Logic.enrol]

@[simp] theorem Logic.done_ranks (kind r : Nat) (content : List Word) (l : Logic) :
    (l.done kind r content).mram.vault.ranks = l.mram.vault.ranks := by
  simp -implicitDefEqProofs [Logic.done]

/-- Whichever way a choice goes. -/
theorem State.ite_ranks {c : Prop} [Decidable c] {a b : State} {x : List Nat × Nat × Nat} (ha : a.ld.mram.vault.ranks = x)
    (hb : b.ld.mram.vault.ranks = x) : (if c then a else b).ld.mram.vault.ranks = x := by
  split
  · exact ha
  · exact hb

@[simp] theorem State.enrolDone_ranks (s : State) : s.enrolDone.ld.mram.vault.ranks = s.ld.mram.vault.ranks := by
  unfold State.enrolDone
  split
  · rfl
  · refine State.ite_ranks ?_ ((State.countResult_ranks ..).trans (Logic.done_ranks ..))
    rw [Logic.evt_mram, Logic.put_mram, Logic.put_mram]
    exact (Logic.keep_ranks _ (Logic.done _ _ _ s.ld) fun _ => rfl).trans (Logic.done_ranks ..)

@[simp] theorem Logic.transfer_ranks (ws : List Word) (pointOk sigOk : Bool) (l : Logic) :
    (l.transfer ws pointOk sigOk).mram.vault.ranks = l.mram.vault.ranks := by
  simp -implicitDefEqProofs [Logic.transfer]

/-- The rotation of the owner key's slot where a transfer is to be done (R279). -/
theorem Logic.rotateIf_ranks {c : Prop} [Decidable c] (i : Nat) (l : Logic) :
    (if c then l.rotateKey i else (true, l)).2.mram.vault.ranks = l.mram.vault.ranks := by
  split
  · exact Logic.rotateKey_ranks ..
  · rfl

@[simp] theorem State.transferDone_ranks (s : State) : s.transferDone.ld.mram.vault.ranks = s.ld.mram.vault.ranks := by
  unfold State.transferDone
  split
  · rfl
  · refine State.ite_ranks ((Logic.messageBlocked_ranks ..).trans (Logic.rotateIf_ranks ..)) (State.ite_ranks ?_ ?_)
    · refine (Logic.done_ranks ..).trans ?_
      rw [Logic.evt_mram, Logic.endSessions_ranks, Logic.put_mram]
      exact (Logic.keep_ranks _ _ fun _ => rfl).trans (Logic.rotateIf_ranks ..)
    · exact (State.countResult_ranks ..).trans ((Logic.done_ranks ..).trans (Logic.rotateIf_ranks ..))

@[simp] theorem Logic.judgedBy_ranks (ctr : Nat) (by_ : Session → Bool) (l : Logic) :
    (l.judgedBy ctr by_).2.mram.vault.ranks = l.mram.vault.ranks := by
  unfold Logic.judgedBy
  split
  · dsimp only
    (repeat' split) <;> simp -implicitDefEqProofs
  · rfl

@[simp] theorem Logic.acceptCtr_ranks (x : Session) (ctr : Nat) (l : Logic) :
    (l.acceptCtr x ctr).mram.vault.ranks = l.mram.vault.ranks := by
  unfold Logic.acceptCtr
  dsimp only
  (repeat' split) <;> simp -implicitDefEqProofs

@[simp] theorem State.readReply_ranks (kind : Nat) (x : ReplyRead) (s : State) :
    (s.readReply kind x).2.ld.mram.vault.ranks = s.ld.mram.vault.ranks := by
  unfold State.readReply
  dsimp only
  (repeat' split) <;> simp -implicitDefEqProofs

@[simp] theorem State.fetchAs_ranks (x : Session) (a n : Nat) (s : State) :
    (s.fetchAs x a n).2.ld.mram.vault.ranks = s.ld.mram.vault.ranks := by
  simp -implicitDefEqProofs [State.fetchAs]

@[simp] theorem State.readAuth_ranks (ctr a n : Nat) (late : Bool) (s : State) :
    (s.readAuth ctr a n late).2.ld.mram.vault.ranks = s.ld.mram.vault.ranks := by
  unfold State.readAuth
  dsimp only
  (repeat' split) <;> simp -implicitDefEqProofs

end Sys2Proof.Machine

end

section
/-! Crates keep the labels one to a slot and let FLOOR only rise (R311); a pair keeps both. -/

namespace Sys2Proof.Machine

open Sys2Proof

@[simp] theorem Logic.stageWords_mram (a : Nat) (ws : List Word) (l : Logic) : (Logic.stageWords a ws l).mram = l.mram := by
  induction ws generalizing a l with
  | nil => rfl
  | cons w ws ih =>
    rw [Logic.stageWords]
    split
    · rw [ih, Logic.put_mram]
    · rfl

@[simp] theorem State.pushWords_ranks (a : Nat) (ws : List Word) (s : State) :
    (s.pushWords a ws).2.ld.mram.vault.ranks = s.ld.mram.vault.ranks := by
  unfold State.pushWords
  split
  · rfl
  · refine State.onLd_ranks _ s fun l => ?_
    rw [Logic.stageWords_mram]

@[simp] theorem Logic.emptyStage_ranks (l : Logic) : l.emptyStage.mram.vault.ranks = l.mram.vault.ranks := by
  simp -implicitDefEqProofs [Logic.emptyStage]

@[simp] theorem Logic.beginClose_ranks (apply joint : Bool) (l : Logic) :
    (l.beginClose apply joint).mram.vault.ranks = l.mram.vault.ranks := by
  simp -implicitDefEqProofs [Logic.beginClose]

@[simp] theorem State.crateCtl_ranks (w : Word) (s : State) : (s.crateCtl w).2.ld.mram.vault.ranks = s.ld.mram.vault.ranks := by
  unfold State.crateCtl
  dsimp only
  (repeat' split) <;> simp -implicitDefEqProofs



@[simp] theorem Logic.endClose_ranks (reason page : Nat) (l : Logic) :
    (l.endClose reason page).mram.vault.ranks = l.mram.vault.ranks := by
  simp -implicitDefEqProofs [Logic.endClose]

@[simp] theorem Logic.tellCheck_ranks (ok : Bool) (l : Logic) : (l.tellCheck ok).mram.vault.ranks = l.mram.vault.ranks := by
  simp -implicitDefEqProofs [Logic.tellCheck]

@[simp] theorem State.checksDone_ranks (sig : Bool) (keys : KeyCheck) (s : State) :
    (s.checksDone sig keys).ld.mram.vault.ranks = s.ld.mram.vault.ranks := by
  unfold State.checksDone
  dsimp only
  (repeat' split) <;> simp -implicitDefEqProofs

@[simp] theorem Logic.judgeSlot_ranks (p : Nat) (l : Logic) : (l.judgeSlot p).mram.vault.ranks = l.mram.vault.ranks := by
  simp -implicitDefEqProofs [Logic.judgeSlot]

@[simp] theorem Logic.joinChecks_ranks (l : Logic) : l.joinChecks.mram.vault.ranks = l.mram.vault.ranks := by
  unfold Logic.joinChecks
  (repeat' split) <;> simp -implicitDefEqProofs

@[simp] theorem State.validationDone_ranks (s : State) : s.validationDone.ld.mram.vault.ranks = s.ld.mram.vault.ranks := by
  unfold State.validationDone
  dsimp only
  (repeat' split) <;> simp -implicitDefEqProofs

@[simp] theorem Logic.writeSlot_ranks (p : Nat) (ws : List Word) (l : Logic) :
    (l.writeSlot p ws).mram.vault.ranks = l.mram.vault.ranks := (rfl)

@[simp] theorem Logic.beginApply_ranks (touched : List Nat) (config : RegFile) (l : Logic) :
    (l.beginApply touched config).mram.vault.ranks = l.mram.vault.ranks := by
  simp -implicitDefEqProofs [Logic.beginApply]

theorem Mram.keeps_of_ranks {m n : Mram} (h : n.vault.ranks = m.vault.ranks) : m.keeps n := by
  have hranks : (n.labels, n.floor, n.epoch) = (m.labels, m.floor, m.epoch) := h
  obtain ⟨hlabels, hfloor, hepoch⟩ : n.labels = m.labels ∧ n.floor = m.floor ∧ n.epoch = m.epoch := by simpa using hranks
  exact ⟨fun hm => by rwa [Mram.labelled, hlabels], hfloor.ge, hepoch.ge⟩

theorem Mram.keeps_trans {m n k : Mram} (hmn : m.keeps n) (hnk : n.keeps k) : m.keeps k := by
  obtain ⟨hlabels, hfloor, hepoch⟩ := hmn
  obtain ⟨hlabels', hfloor', hepoch'⟩ := hnk
  exact ⟨fun h => hlabels' (hlabels h), hfloor.trans hfloor', hepoch.trans hepoch'⟩

/-- Labels that change places stay one to a slot (R311). -/
theorem Mram.labelled_of_count {m n : Mram} (h : ∀ x, n.labels.count x = m.labels.count x) (hm : m.labelled) : n.labelled :=
  (List.perm_iff_count.2 h).trans hm

theorem Mram.promote_keeps (fromPending : Bool) (m : Mram) : m.keeps (m.promote fromPending) := by
  cases fromPending
  · refine ⟨Mram.labelled_of_count fun x => ?_, le_max_left .., le_rfl⟩
    change [m.spare, m.pending, m.active, m.fallback].count x = [m.active, m.pending, m.fallback, m.spare].count x
    simp only [List.count_cons, List.count_nil]
    omega
  · refine ⟨Mram.labelled_of_count fun x => ?_, le_max_left .., le_rfl⟩
    change [m.pending, m.spare, m.active, m.fallback].count x = [m.active, m.pending, m.fallback, m.spare].count x
    simp only [List.count_cons, List.count_nil]
    omega

theorem Mram.store_keeps (m : Mram) : m.keeps { m with pending := m.spare, spare := m.pending } := by
  refine ⟨Mram.labelled_of_count fun x => ?_, le_rfl, le_rfl⟩
  change [m.active, m.spare, m.fallback, m.pending].count x = [m.active, m.pending, m.fallback, m.spare].count x
  simp only [List.count_cons, List.count_nil]
  omega

theorem Logic.slotWritten_keeps (l : Logic) : l.mram.keeps l.slotWritten.mram := by
  unfold Logic.slotWritten
  split
  · exact Mram.keeps_of_ranks (rfl)
  · have hslot : l.mram.keeps (l.writeSlot l.mram.spare l.crate.words).mram := Mram.keeps_of_ranks (Logic.writeSlot_ranks ..)
    dsimp only
    split
    · rw [Logic.put_mram, Logic.beginApply_mram]
      exact hslot
    · rw [Logic.endClose_mram]
      exact Mram.keeps_trans hslot (Mram.store_keeps _)

theorem State.applicationDone_keeps (s : State) : s.ld.mram.keeps s.applicationDone.ld.mram := by
  unfold State.applicationDone
  dsimp only
  generalize hown : (if s.ld.crateState = stApplying ∧ (s.ld.bar.pages.all fun p => !onField (p * 256)) then s.ownPages else s) = t
  have hs : s.ld.mram.keeps t.ld.mram := by
    refine Mram.keeps_of_ranks ?_
    rw [← hown]
    split
    · exact State.ownPages_ranks s
    · rfl
  refine Mram.keeps_trans hs ?_
  split
  · exact Mram.keeps_of_ranks (rfl)
  · refine Mram.keeps_trans (Mram.promote_keeps false t.ld.mram) (Mram.keeps_of_ranks ?_)
    rw [State.onFd_ld]
    dsimp only
    rw [Logic.approve_vault, Logic.endClose_mram, Logic.put_mram, Logic.putb_mram]
    exact Logic.takeKeys_ranks ..

@[simp] theorem Logic.queueFrame_ranks (k : PFrame) (l : Logic) : (l.queueFrame k).mram.vault.ranks = l.mram.vault.ranks := by
  unfold Logic.queueFrame
  split <;> simp -implicitDefEqProofs

@[simp] theorem Logic.sayHello_ranks (l : Logic) : l.sayHello.mram.vault.ranks = l.mram.vault.ranks := by
  simp -implicitDefEqProofs [Logic.sayHello]

@[simp] theorem Logic.pairFails_ranks (bit : Nat) (l : Logic) : (l.pairFails bit).mram.vault.ranks = l.mram.vault.ranks := by
  simp -implicitDefEqProofs [Logic.pairFails]

@[simp] theorem State.unready_ranks (s : State) : s.unready.ld.mram.vault.ranks = s.ld.mram.vault.ranks := by
  unfold State.unready
  split <;> simp -implicitDefEqProofs

@[simp] theorem State.becomeReady_ranks (s : State) : s.becomeReady.ld.mram.vault.ranks = s.ld.mram.vault.ranks := by
  simp -implicitDefEqProofs [State.becomeReady]

@[simp] theorem State.follow_ranks (s : State) : s.follow.ld.mram.vault.ranks = s.ld.mram.vault.ranks := by
  simp -implicitDefEqProofs [State.follow]

@[simp] theorem Logic.showOutcome_ranks (cause result abort : Nat) (l : Logic) :
    (l.showOutcome cause result abort).mram.vault.ranks = l.mram.vault.ranks := by
  simp -implicitDefEqProofs [Logic.showOutcome]

@[simp] theorem State.takeOver_ranks (s : State) : s.takeOver.ld.mram.vault.ranks = s.ld.mram.vault.ranks := by
  simp -implicitDefEqProofs [State.takeOver]

@[simp] theorem Logic.showPlead_ranks (other : Bool) (l : Logic) : (l.showPlead other).mram.vault.ranks = l.mram.vault.ranks := by
  simp -implicitDefEqProofs [Logic.showPlead]

@[simp] theorem State.partnerLost_ranks (held : Bool) (s : State) : (s.partnerLost held).ld.mram.vault.ranks = s.ld.mram.vault.ranks := by
  unfold State.partnerLost
  dsimp only
  (repeat' split) <;> simp -implicitDefEqProofs

@[simp] theorem Logic.pleadTimeout_ranks (l : Logic) : l.pleadTimeout.mram.vault.ranks = l.mram.vault.ranks := by
  simp -implicitDefEqProofs [Logic.pleadTimeout]

@[simp] theorem State.pleadWaitEnds_ranks (s : State) : s.pleadWaitEnds.ld.mram.vault.ranks = s.ld.mram.vault.ranks := by
  unfold State.pleadWaitEnds
  split <;> simp -implicitDefEqProofs

@[simp] theorem State.coldTakeover_ranks (s : State) : s.coldTakeover.ld.mram.vault.ranks = s.ld.mram.vault.ranks := by
  unfold State.coldTakeover
  dsimp only
  split <;> simp -implicitDefEqProofs

@[simp] theorem State.leadRoleLost_ranks (s : State) : s.leadRoleLost.ld.mram.vault.ranks = s.ld.mram.vault.ranks := by
  unfold State.leadRoleLost
  dsimp only
  (repeat' split) <;> simp -implicitDefEqProofs

@[simp] theorem State.yieldLead_ranks (s : State) : s.yieldLead.ld.mram.vault.ranks = s.ld.mram.vault.ranks := by
  simp -implicitDefEqProofs [State.yieldLead]

@[simp] theorem State.catchArm_ranks (n : Nat) (s : State) : (s.catchArm n).ld.mram.vault.ranks = s.ld.mram.vault.ranks := by
  unfold State.catchArm
  split <;> simp -implicitDefEqProofs

@[simp] theorem State.catchEngage_ranks (n : Nat) (inj : Bool) (s : State) :
    (s.catchEngage n inj).ld.mram.vault.ranks = s.ld.mram.vault.ranks := by
  unfold State.catchEngage
  dsimp only
  split <;> simp -implicitDefEqProofs

@[simp] theorem State.revokeEnds_ranks (n : Nat) (s : State) : (s.revokeEnds n).ld.mram.vault.ranks = s.ld.mram.vault.ranks := by
  unfold State.revokeEnds
  dsimp only
  (repeat' split) <;> simp -implicitDefEqProofs

@[simp] theorem Logic.stepExpires_ranks (l : Logic) : l.stepExpires.mram.vault.ranks = l.mram.vault.ranks := by
  unfold Logic.stepExpires
  (repeat' split) <;> simp -implicitDefEqProofs

@[simp] theorem Logic.retryPairing_ranks (l : Logic) : l.retryPairing.mram.vault.ranks = l.mram.vault.ranks := by
  unfold Logic.retryPairing
  dsimp only
  (repeat' split) <;> simp -implicitDefEqProofs

@[simp] theorem State.resync_ranks (s : State) : s.resync.ld.mram.vault.ranks = s.ld.mram.vault.ranks := by
  unfold State.resync
  split <;> simp -implicitDefEqProofs

@[simp] theorem State.pairCmd_ranks (w : Word) (s : State) : (s.pairCmd w).2.ld.mram.vault.ranks = s.ld.mram.vault.ranks := by
  unfold State.pairCmd
  (repeat' split) <;> simp -implicitDefEqProofs

@[simp] theorem State.handoverTs_ranks (s : State) : s.handoverTs.ld.mram.vault.ranks = s.ld.mram.vault.ranks := by
  unfold State.handoverTs
  dsimp only
  (repeat' split) <;> simp -implicitDefEqProofs

@[simp] theorem State.rampStep_ranks (s : State) : s.rampStep.ld.mram.vault.ranks = s.ld.mram.vault.ranks := by
  unfold State.rampStep
  (repeat' split) <;> simp -implicitDefEqProofs

@[simp] theorem State.handoverOver_ranks (cause result abort : Nat) (s : State) :
    (s.handoverOver cause result abort).ld.mram.vault.ranks = s.ld.mram.vault.ranks := by
  simp -implicitDefEqProofs [State.handoverOver]

@[simp] theorem State.handoverTr_ranks (s : State) : s.handoverTr.ld.mram.vault.ranks = s.ld.mram.vault.ranks := by
  unfold State.handoverTr
  dsimp only
  (repeat' split) <;> simp -implicitDefEqProofs

@[simp] theorem Logic.confirmSilence_ranks (l : Logic) : l.confirmSilence.mram.vault.ranks = l.mram.vault.ranks := by
  simp -implicitDefEqProofs [Logic.confirmSilence]

@[simp] theorem State.handoverAbort_ranks (s : State) : s.handoverAbort.ld.mram.vault.ranks = s.ld.mram.vault.ranks := by
  unfold State.handoverAbort
  dsimp only
  (repeat' split) <;> simp -implicitDefEqProofs

@[simp] theorem State.handAgain_ranks (s : State) : s.handAgain.ld.mram.vault.ranks = s.ld.mram.vault.ranks := by
  unfold State.handAgain
  dsimp only
  (repeat' split) <;> simp -implicitDefEqProofs

@[simp] theorem State.handoverAsked_ranks (caught : Nat) (s : State) :
    (s.handoverAsked caught).ld.mram.vault.ranks = s.ld.mram.vault.ranks := by
  unfold State.handoverAsked
  (repeat' split) <;> simp -implicitDefEqProofs

@[simp] theorem State.pairInject_ranks (w : Word) (s : State) : (s.pairInject w).ld.mram.vault.ranks = s.ld.mram.vault.ranks := by
  unfold State.pairInject
  dsimp only
  (repeat' split) <;> simp -implicitDefEqProofs

end Sys2Proof.Machine

end

section
/-! Words written over the host port keep them. -/

namespace Sys2Proof.Machine

open Sys2Proof

@[simp] theorem State.blocked_ranks (a : Nat) (w : Word) (s : State) : (s.blocked a w).2.ld.mram.vault.ranks = s.ld.mram.vault.ranks := by
  unfold State.blocked
  dsimp only
  (repeat' split) <;> simp -implicitDefEqProofs

@[simp] theorem State.runAsked_ranks (exit : Nat) (s : State) : (s.runAsked exit).ld.mram.vault.ranks = s.ld.mram.vault.ranks := by
  unfold State.runAsked
  dsimp only
  split <;> simp -implicitDefEqProofs

@[simp] theorem State.modeReq_ranks (role : Nat) (w : Word) (s : State) :
    (s.modeReq role w).ld.mram.vault.ranks = s.ld.mram.vault.ranks := by
  unfold State.modeReq
  dsimp only
  (repeat' split) <;> simp -implicitDefEqProofs

@[simp] theorem State.resetReq_ranks (w : Word) (s : State) : (s.resetReq w).2.ld.mram.vault.ranks = s.ld.mram.vault.ranks := by
  unfold State.resetReq
  (repeat' split) <;> simp -implicitDefEqProofs

@[simp] theorem State.injectPage_ranks (page : Nat) (w : Word) (s : State) :
    (s.injectPage page w).ld.mram.vault.ranks = s.ld.mram.vault.ranks := by
  unfold State.injectPage
  split <;> simp -implicitDefEqProofs

@[simp] theorem State.ctrlWritten_ranks (page : Nat) (w : Word) (s : State) :
    (s.ctrlWritten page w).ld.mram.vault.ranks = s.ld.mram.vault.ranks := by
  unfold State.ctrlWritten
  dsimp only
  (repeat' split) <;> simp -implicitDefEqProofs

@[simp] theorem Logic.evtCleared_ranks (page : Nat) (w again : Word) (l : Logic) :
    (l.evtCleared page w again).mram.vault.ranks = l.mram.vault.ranks := by
  simp -implicitDefEqProofs [Logic.evtCleared]

@[simp] theorem Logic.classCleared_ranks (page : Nat) (w : Word) (l : Logic) :
    (l.classCleared page w).mram.vault.ranks = l.mram.vault.ranks := by
  unfold Logic.classCleared
  split <;> simp -implicitDefEqProofs

@[simp] theorem Logic.wipe_ranks (a : Nat) (w : Word) (l : Logic) : (l.wipe a w).mram.vault.ranks = l.mram.vault.ranks := by
  simp -implicitDefEqProofs [Logic.wipe]

@[simp] theorem Logic.hostCleared_ranks (w : Word) (l : Logic) : (l.hostCleared w).mram.vault.ranks = l.mram.vault.ranks := by
  unfold Logic.hostCleared
  split <;> simp -implicitDefEqProofs

@[simp] theorem State.storeWord_ranks (a : Nat) (w : Word) (s : State) :
    (s.storeWord a w).ld.mram.vault.ranks = s.ld.mram.vault.ranks := by
  unfold State.storeWord
  split <;> simp -implicitDefEqProofs

@[simp] theorem Logic.dropReply_ranks (l : Logic) : l.dropReply.mram.vault.ranks = l.mram.vault.ranks := by
  simp -implicitDefEqProofs [Logic.dropReply]

@[simp] theorem State.actHead_ranks (page off : Nat) (w again : Word) (s : State) :
    (s.actHead page off w again).ld.mram.vault.ranks = s.ld.mram.vault.ranks := by
  unfold State.actHead
  split <;> simp -implicitDefEqProofs

@[simp] theorem State.actWord_ranks (role a : Nat) (w again : Word) (s : State) :
    (s.actWord role a w again).2.ld.mram.vault.ranks = s.ld.mram.vault.ranks := by
  unfold State.actWord
  dsimp only
  (repeat' split) <;> simp -implicitDefEqProofs

/-- What the hardware or a state of the device keeps from being written, is left as it is (R54). -/
theorem State.blockedOr_ranks {c : Prop} [Decidable c] (a : Nat) (w : Word) (s : State) :
    (if c then (some rBlock, s) else s.blocked a w).2.ld.mram.vault.ranks = s.ld.mram.vault.ranks := by
  split
  · rfl
  · exact State.blocked_ranks ..

@[simp] theorem State.judgeWord_ranks (ses : Option Session) (a : Nat) (w again : Word) (hit : Bool) (s : State) :
    (s.judgeWord ses a w again hit).2.ld.mram.vault.ranks = s.ld.mram.vault.ranks := by
  unfold State.judgeWord
  split
  · rfl
  · split
    · rfl
    · split
      · rfl
      · have hblocked := State.blockedOr_ranks (c := (hwOwned a && (hit || s.ld.owned.contains (a, s.ld.time))) = true) a w s
        split <;> rename_i h <;> rw [h] at hblocked
        · exact hblocked
        · exact (State.actWord_ranks ..).trans hblocked

@[simp] theorem State.commitWord_ranks (ses : Option Session) (a : Nat) (w again : Word) (hit : Bool) (s : State) :
    (s.commitWord ses a w again hit).2.ld.mram.vault.ranks = s.ld.mram.vault.ranks := by
  have hjudged := State.judgeWord_ranks ses a w again hit s
  unfold State.commitWord
  split
  · rfl
  · split <;> rename_i h <;> rw [h] at hjudged
    · exact hjudged
    · exact hjudged
    · exact (State.onLd_ranks _ _ fun l => by rw [Logic.countRefusal_vault]).trans hjudged

@[simp] theorem State.commitWords_ranks (ses : Option Session) (a : Nat) (ws : List Word) (s : State) :
    (s.commitWords ses a ws).2.ld.mram.vault.ranks = s.ld.mram.vault.ranks := by
  induction ws generalizing a s with
  | nil => rfl
  | cons w ws ih =>
    unfold State.commitWords
    split
    · rfl
    · exact (ih ..).trans (State.commitWord_ranks ..)

@[simp] theorem State.oneWord_ranks (ctr : Option Word) (a : Nat) (w : Word) (act :
    Option Session → State → List (Nat × Nat) × State) (s : State)
    (hact : ∀ x s, (act x s).2.ld.mram.vault.ranks = s.ld.mram.vault.ranks) :
    (s.oneWord ctr a w act).ld.mram.vault.ranks = s.ld.mram.vault.ranks := by
  unfold State.oneWord
  split
  · exact State.frame_ranks _ _ _ _ s _ _ (hact none)
  · refine State.frame_ranks _ _ _ _ s _ _ fun s => ?_
    dsimp only
    split
    · simp -implicitDefEqProofs
    · (repeat' split) <;> simp -implicitDefEqProofs [hact]

@[simp] theorem State.wordFrame_ranks (ctr : Option Word) (a : Nat) (w : Word) (s : State) (again : Word) (hit : Bool) :
    (s.wordFrame ctr a w again hit).ld.mram.vault.ranks = s.ld.mram.vault.ranks :=
  State.oneWord_ranks _ _ _ _ s fun _ _ => State.commitWord_ranks ..

@[simp] theorem State.writeFrame_ranks (a : Nat) (ws : List Word) (s : State) :
    (s.writeFrame a ws).ld.mram.vault.ranks = s.ld.mram.vault.ranks := by
  simp -implicitDefEqProofs [State.writeFrame]

@[simp] theorem State.authFrame_ranks (ctr a : Nat) (ws : List Word) (tag : Nat) (s : State) :
    (s.authFrame ctr a ws tag).2.ld.mram.vault.ranks = s.ld.mram.vault.ranks := by
  unfold State.authFrame
  dsimp only
  (repeat' split) <;> simp -implicitDefEqProofs

@[simp] theorem State.authEnds_ranks (f : AuthFrame) (reason : Nat) (s : State) :
    (s.authEnds f reason).ld.mram.vault.ranks = s.ld.mram.vault.ranks := by
  simp -implicitDefEqProofs [State.authEnds]

@[simp] theorem State.commitAuth_ranks (f : AuthFrame) (x : Session) (s : State) :
    (s.commitAuth f x).ld.mram.vault.ranks = s.ld.mram.vault.ranks := by
  unfold State.commitAuth
  dsimp only
  split <;> simp -implicitDefEqProofs

@[simp] theorem State.authDone_ranks (s : State) : s.authDone.ld.mram.vault.ranks = s.ld.mram.vault.ranks := by
  unfold State.authDone
  dsimp only
  (repeat' split) <;> simp -implicitDefEqProofs

@[simp] theorem State.fetchShort_ranks (c a n : Nat) (s : State) :
    (s.fetchShort c a n).2.ld.mram.vault.ranks = s.ld.mram.vault.ranks := by
  unfold State.fetchShort
  (repeat' split) <;> simp -implicitDefEqProofs

@[simp] theorem State.shortFrame_ranks (code : Option Nat) (a : Nat) (ws : List Word) (s : State) :
    (s.shortFrame code a ws).ld.mram.vault.ranks = s.ld.mram.vault.ranks := by
  unfold State.shortFrame
  dsimp only
  (repeat' split) <;> simp -implicitDefEqProofs

end Sys2Proof.Machine

end

section
/-! The partner port keeps them. -/

namespace Sys2Proof.Machine

open Sys2Proof

@[simp] theorem Logic.sendPframe_ranks (k : PFrame) (old : Option (SentFrame PFrame)) (l : Logic) :
    (l.sendPframe k old).mram.vault.ranks = l.mram.vault.ranks := by
  unfold Logic.sendPframe
  split <;> simp -implicitDefEqProofs

@[simp] theorem State.sentFrame_ranks (k : PFrame) (s : State) : (s.sentFrame k).ld.mram.vault.ranks = s.ld.mram.vault.ranks := by
  unfold State.sentFrame
  dsimp only
  (repeat' split) <;> simp -implicitDefEqProofs

@[simp] theorem State.showTn_ranks (slow : Bool) (s : State) : (s.showTn slow).ld.mram.vault.ranks = s.ld.mram.vault.ranks := by
  simp -implicitDefEqProofs [State.showTn]

@[simp] theorem State.partnerSlot_ranks (partner : Bool) (s : State) :
    (s.partnerSlot partner).ld.mram.vault.ranks = s.ld.mram.vault.ranks := by
  unfold State.partnerSlot
  dsimp only
  (repeat' split) <;> simp -implicitDefEqProofs

@[simp] theorem Logic.dropPartner_ranks (l : Logic) : l.dropPartner.mram.vault.ranks = l.mram.vault.ranks := by
  simp -implicitDefEqProofs [Logic.dropPartner]

@[simp] theorem Logic.guardGood_ranks (l : Logic) : l.guardGood.mram.vault.ranks = l.mram.vault.ranks := by
  unfold Logic.guardGood
  dsimp only
  (repeat' split) <;> simp -implicitDefEqProofs

@[simp] theorem State.partnerFrame_ranks (hello : Bool) (c : PairSeen) (resend : Option (Fin 256)) (act : State → State) (s : State)
    (hact : ∀ s, (act s).ld.mram.vault.ranks = s.ld.mram.vault.ranks) :
    (s.partnerFrame hello c resend act).ld.mram.vault.ranks = s.ld.mram.vault.ranks := by
  unfold State.partnerFrame
  dsimp only
  split
  · rfl
  · refine State.ite_ranks ?_ ?_
    · refine (State.onLd_ranks _ _ Logic.dropPartner_ranks).trans ?_
      split <;> simp -implicitDefEqProofs
    · rw [hact]
      refine (State.onLd_ranks _ _ fun l => by rw [Logic.modPair_mram]).trans ?_
      split <;> simp -implicitDefEqProofs

@[simp] theorem Logic.hello_ranks (who : HelloFrom) (hash : Nat) (ok : Bool) (l : Logic) :
    (l.hello who hash ok).mram.vault.ranks = l.mram.vault.ranks := by
  unfold Logic.hello
  dsimp only
  split
  · rfl
  · split
    · simp -implicitDefEqProofs
    · split
      · simp -implicitDefEqProofs
      · split
        · simp -implicitDefEqProofs
        · rw [Logic.modPair_mram, Logic.put_mram]
          refine (Logic.keep_ranks _ (Logic.rotateKey ..).2 fun _ => rfl).trans ?_
          simp -implicitDefEqProofs

@[simp] theorem State.hello_ranks (who : HelloFrom) (hash : Nat) (ok : Bool) (s : State) :
    (s.hello who hash ok).ld.mram.vault.ranks = s.ld.mram.vault.ranks := by
  unfold State.hello
  dsimp only
  split <;> simp -implicitDefEqProofs

@[simp] theorem Logic.steered_ranks (offset : Int) (l : Logic) : (l.steered offset).mram.vault.ranks = l.mram.vault.ranks := by
  simp -implicitDefEqProofs [Logic.steered]

@[simp] theorem Logic.timeExchange_ranks (offset : Int) (l : Logic) : (l.timeExchange offset).mram.vault.ranks = l.mram.vault.ranks := by
  unfold Logic.timeExchange
  dsimp only
  (repeat' split) <;> simp -implicitDefEqProofs

@[simp] theorem State.repeatsTransfer_ranks (s : State) : s.repeatsTransfer.ld.mram.vault.ranks = s.ld.mram.vault.ranks := by
  simp -implicitDefEqProofs [State.repeatsTransfer]

@[simp] theorem State.takeTransfer_ranks (t : Transfer) (s : State) : (s.takeTransfer t).ld.mram.vault.ranks = s.ld.mram.vault.ranks := by
  unfold State.takeTransfer
  dsimp only
  (repeat' split) <;> simp -implicitDefEqProofs

@[simp] theorem State.takeTrigger_ranks (groups stamp : Nat) (s : State) :
    (s.takeTrigger groups stamp).ld.mram.vault.ranks = s.ld.mram.vault.ranks := by
  unfold State.takeTrigger
  dsimp only
  (repeat' split) <;> simp -implicitDefEqProofs

@[simp] theorem State.heartbeat_ranks (h : Heartbeat) (s : State) : (s.heartbeat h).ld.mram.vault.ranks = s.ld.mram.vault.ranks := by
  unfold State.heartbeat
  dsimp only
  (repeat' split) <;> simp -implicitDefEqProofs

@[simp] theorem Logic.takeSummary_ranks (severe : Nat) (approved : Bool) (l : Logic) :
    (l.takeSummary severe approved).mram.vault.ranks = l.mram.vault.ranks := by
  simp -implicitDefEqProofs [Logic.takeSummary]

@[simp] theorem State.takeCompare_ranks (xs : List (Ctx × Fin 256 × Int)) (dwell : Option Bool) (s : State) :
    (s.takeCompare xs dwell).ld.mram.vault.ranks = s.ld.mram.vault.ranks := by
  unfold State.takeCompare
  split <;> simp -implicitDefEqProofs

@[simp] theorem Logic.stageBytes_mram (i : Nat) (bs : List (Fin 256)) (l : Logic) : (l.stageBytes i bs).mram = l.mram := by
  induction bs generalizing i l with
  | nil => rfl
  | cons b bs ih => exact (ih ..).trans (Logic.stageWords_mram ..)

@[simp] theorem Logic.takeCrate_ranks (m : CrateMsg) (l : Logic) : (l.takeCrate m).mram.vault.ranks = l.mram.vault.ranks := by
  unfold Logic.takeCrate
  split
  · split <;> simp -implicitDefEqProofs
  · split <;> simp -implicitDefEqProofs
  · split <;> simp -implicitDefEqProofs

@[simp] theorem State.takeNotice_ranks (x : Notice) (s : State) : (s.takeNotice x).ld.mram.vault.ranks = s.ld.mram.vault.ranks := by
  unfold State.takeNotice
  dsimp only
  (repeat' split) <;> simp -implicitDefEqProofs

@[simp] theorem State.mirrorWord_ranks (a : Nat) (w : Word) (s : State) :
    (s.mirrorWord a w).ld.mram.vault.ranks = s.ld.mram.vault.ranks := by
  unfold State.mirrorWord
  dsimp only
  (repeat' split) <;> simp -implicitDefEqProofs

@[simp] theorem Logic.mirrorCtr_ranks (ctr : Nat) (l : Logic) : (l.mirrorCtr ctr).mram.vault.ranks = l.mram.vault.ranks := by
  simp -implicitDefEqProofs [Logic.mirrorCtr]

@[simp] theorem State.takeMirror_ranks (m : Mirror) (s : State) : (s.takeMirror m).ld.mram.vault.ranks = s.ld.mram.vault.ranks := by
  unfold State.takeMirror
  dsimp only
  (repeat' split) <;> simp -implicitDefEqProofs

@[simp] theorem State.mirrorCommits_ranks (s : State) : s.mirrorCommits.ld.mram.vault.ranks = s.ld.mram.vault.ranks := by
  unfold State.mirrorCommits
  (repeat' split) <;> simp -implicitDefEqProofs

@[simp] theorem State.takeAck_ranks (late : Bool) (pulse : Option Terminal) (s : State) :
    (s.takeAck late pulse).ld.mram.vault.ranks = s.ld.mram.vault.ranks := by
  unfold State.takeAck
  dsimp only
  (repeat' split) <;> simp -implicitDefEqProofs

@[simp] theorem State.ackTimeout_ranks (s : State) : s.ackTimeout.ld.mram.vault.ranks = s.ld.mram.vault.ranks := by
  unfold State.ackTimeout
  dsimp only
  (repeat' split) <;> simp -implicitDefEqProofs

@[simp] theorem State.announced_ranks (ts cause : Nat) (s : State) :
    (s.announced ts cause).ld.mram.vault.ranks = s.ld.mram.vault.ranks := by
  unfold State.announced
  split <;> simp -implicitDefEqProofs

@[simp] theorem Logic.confirmed_ranks (cause : Nat) (l : Logic) : (l.confirmed cause).mram.vault.ranks = l.mram.vault.ranks := by
  unfold Logic.confirmed
  split <;> simp -implicitDefEqProofs

@[simp] theorem State.resetAsked_ranks (s : State) : s.resetAsked.ld.mram.vault.ranks = s.ld.mram.vault.ranks := by
  simp -implicitDefEqProofs [State.resetAsked]

end Sys2Proof.Machine

end

section
/-! Start-up counts BOOT_EPOCH up and moves labels (R311, R315); the forerunner protocol keeps them. -/

namespace Sys2Proof.Machine

open Sys2Proof

@[simp] theorem Logic.bootStep_ranks (n : Nat) (h : Logic → Logic) (l : Logic) (hh : (h l).mram.vault.ranks = l.mram.vault.ranks) :
    (l.bootStep n h).mram.vault.ranks = l.mram.vault.ranks := by
  unfold Logic.bootStep
  split
  · exact hh
  · rfl

@[simp] theorem Logic.resetReleased_ranks (l : Logic) : l.resetReleased.mram.vault.ranks = l.mram.vault.ranks := by
  refine Logic.bootStep_ranks _ _ l ?_
  dsimp only
  split <;> simp -implicitDefEqProofs

@[simp] theorem Logic.strapsLatched_ranks (boot : Nat) (pads : Pads) (l : Logic) :
    (l.strapsLatched boot pads).mram.vault.ranks = l.mram.vault.ranks := by
  refine Logic.bootStep_ranks _ _ l ?_
  rw [Logic.modBoot_mram, Logic.putb_mram, Logic.putWord_mram]

@[simp] theorem Logic.waitOver_ranks (l : Logic) : l.waitOver.mram.vault.ranks = l.mram.vault.ranks := Logic.bootStep_ranks _ _ l (rfl)

@[simp] theorem Logic.pllLocked_ranks (l : Logic) : l.pllLocked.mram.vault.ranks = l.mram.vault.ranks := by
  refine Logic.bootStep_ranks _ _ l ?_
  simp -implicitDefEqProofs

@[simp] theorem Logic.visoUp_ranks (l : Logic) : l.visoUp.mram.vault.ranks = l.mram.vault.ranks := by
  unfold Logic.visoUp
  split <;> simp -implicitDefEqProofs

@[simp] theorem State.takeTime_ranks (s : State) : s.takeTime.ld.mram.vault.ranks = s.ld.mram.vault.ranks := by
  unfold State.takeTime
  dsimp only
  (repeat' split) <;> simp -implicitDefEqProofs

@[simp] theorem State.linkTrained_ranks (s : State) : s.linkTrained.ld.mram.vault.ranks = s.ld.mram.vault.ranks := by
  simp -implicitDefEqProofs [State.linkTrained]

@[simp] theorem State.barrierTrained_ranks (ok : Bool) (s : State) :
    (s.barrierTrained ok).ld.mram.vault.ranks = s.ld.mram.vault.ranks := by
  unfold State.barrierTrained
  dsimp only
  (repeat' split) <;> simp -implicitDefEqProofs

@[simp] theorem Logic.retrain_ranks (l : Logic) : l.retrain.mram.vault.ranks = l.mram.vault.ranks := by
  unfold Logic.retrain
  split <;> simp -implicitDefEqProofs

@[simp] theorem State.startRoles_ranks (rs : List Nat) (s : State) : (s.startRoles rs).ld.mram.vault.ranks = s.ld.mram.vault.ranks := by
  refine State.foldl_ranks _ _ s fun s r => ?_
  dsimp only
  split
  · rfl
  · split <;> simp -implicitDefEqProofs

@[simp] theorem State.fieldReleased_ranks (s : State) : s.fieldReleased.ld.mram.vault.ranks = s.ld.mram.vault.ranks := by
  unfold State.fieldReleased
  dsimp only
  (repeat' split) <;> simp -implicitDefEqProofs

@[simp] theorem Logic.bootRow_ranks (m : Memory) (row : Nat) (l : Logic) : (l.bootRow m row).2.mram.vault.ranks = l.mram.vault.ranks := by
  unfold Logic.bootRow
  dsimp only
  (repeat' split) <;> simp -implicitDefEqProofs

@[simp] theorem Logic.finishErasure_ranks (l : Logic) : l.finishErasure.mram.vault.ranks = l.mram.vault.ranks := by
  unfold Logic.finishErasure
  split
  · split
    · rfl
    · exact Logic.keep_ranks _ l fun _ => rfl
  · rfl

@[simp] theorem Logic.looseRecord_ranks (p0 : Nat) (l : Logic) : (l.looseRecord p0).mram.vault.ranks = l.mram.vault.ranks := by
  simp -implicitDefEqProofs [Logic.looseRecord]

/-- The rows that do not read after reset retire (R20). -/
@[simp] theorem Logic.bootRows_ranks (xs : List (Memory × Nat)) (b : Bool) (l : Logic) :
    (xs.foldl (fun (a : Bool × Logic) y => (a.1 && (a.2.bootRow y.1 y.2).1, (a.2.bootRow y.1 y.2).2)) (b, l)).2.mram.vault.ranks =
      l.mram.vault.ranks := by
  induction xs generalizing b l with
  | nil => rfl
  | cons x xs ih => exact (ih ..).trans (Logic.bootRow_ranks ..)

@[simp] theorem State.memoryChecked_ranks (x : MemoryFindings) (s : State) :
    (s.memoryChecked x).ld.mram.vault.ranks = s.ld.mram.vault.ranks := by
  unfold State.memoryChecked
  split
  · rfl
  · dsimp only
    (repeat' split) <;> simp -implicitDefEqProofs

@[simp] theorem Logic.katsDone_ranks (tests entropy id : Bool) (l : Logic) :
    (l.katsDone tests entropy id).mram.vault.ranks = l.mram.vault.ranks := by
  unfold Logic.katsDone
  split <;> simp -implicitDefEqProofs

@[simp] theorem Logic.noteCrate_ranks (l : Logic) : l.noteCrate.mram.vault.ranks = l.mram.vault.ranks := by
  unfold Logic.noteCrate
  dsimp only
  split <;> simp -implicitDefEqProofs

theorem Logic.epochWritten_keeps (l : Logic) : l.mram.keeps l.epochWritten.mram := by
  refine ⟨id, le_rfl, ?_⟩
  change l.mram.epoch ≤ if l.mram.epoch < 0xFFFFFFFF then l.mram.epoch + 1 else l.mram.epoch
  split <;> omega

theorem Logic.crateVerified_keeps (epoch : Bool) (l : Logic) : l.mram.keeps (l.crateVerified epoch).mram := by
  unfold Logic.crateVerified
  split
  · exact Mram.keeps_of_ranks (rfl)
  · refine Mram.keeps_trans (n := (if l.boot.epochAt.isSome then l else if epoch then l.epochWritten else l.fault 12 false).mram) ?_
      (Mram.keeps_of_ranks ?_)
    · split
      · exact Mram.keeps_of_ranks (rfl)
      · split
        · exact l.epochWritten_keeps
        · exact Mram.keeps_of_ranks (rfl)
    · rw [Logic.modBoot_mram]
      exact Logic.noteCrate_ranks _

theorem Logic.epochRetry_keeps (ok : Bool) (l : Logic) : l.mram.keeps (l.epochRetry ok).mram := by
  unfold Logic.epochRetry
  split
  · exact l.epochWritten_keeps
  · exact Mram.keeps_of_ranks (rfl)

@[simp] theorem Logic.rebuildLarder_ranks (l : Logic) : l.rebuildLarder.mram.vault.ranks = l.mram.vault.ranks := by
  simp -implicitDefEqProofs [Logic.rebuildLarder]

@[simp] theorem Logic.takeFieldWords_ranks (t : RegFile) (l : Logic) : (l.takeFieldWords t).mram.vault.ranks = l.mram.vault.ranks := by
  simp -implicitDefEqProofs [Logic.takeFieldWords]

@[simp] theorem Logic.applyOwn_ranks (ws : List Word) (l : Logic) : (l.applyOwn ws).mram.vault.ranks = l.mram.vault.ranks := by
  simp -implicitDefEqProofs [Logic.applyOwn]

@[simp] theorem State.applyBoot_ranks (ws : List Word) (s : State) : (s.applyBoot ws).ld.mram.vault.ranks = s.ld.mram.vault.ranks := by
  unfold State.applyBoot
  dsimp only
  (repeat' split) <;> simp -implicitDefEqProofs

@[simp] theorem State.unconfigure_ranks (s : State) : s.unconfigure.ld.mram.vault.ranks = s.ld.mram.vault.ranks := by
  unfold State.unconfigure
  split <;> simp -implicitDefEqProofs

@[simp] theorem Logic.selectAgain_ranks (l : Logic) : l.selectAgain.mram.vault.ranks = l.mram.vault.ranks := by
  simp -implicitDefEqProofs [Logic.selectAgain]

@[simp] theorem State.calibrationLoaded_ranks (sig : Bool) (rows : List (List Nat)) (record : Bool) (s : State) :
    (s.calibrationLoaded sig rows record).ld.mram.vault.ranks = s.ld.mram.vault.ranks := by
  unfold State.calibrationLoaded
  dsimp only
  (repeat' split) <;> simp -implicitDefEqProofs

@[simp] theorem State.hashReport_ranks (s : State) : s.hashReport.ld.mram.vault.ranks = s.ld.mram.vault.ranks := by
  unfold State.hashReport
  dsimp only
  (repeat' split) <;> simp -implicitDefEqProofs

theorem State.promoteOr_keeps (fails : Bool) (s : State) : s.ld.mram.keeps (s.promoteOr fails).ld.mram := by
  have hagain : s.ld.mram.keeps (s.onLd Logic.selectAgain).ld.mram := Mram.keeps_of_ranks (State.onLd_ranks _ s Logic.selectAgain_ranks)
  unfold State.promoteOr
  split
  · exact hagain
  · split
    · exact Mram.keeps_of_ranks (rfl)
    · split
      · exact hagain
      · exact Mram.promote_keeps true s.ld.mram

theorem State.crossChecksDone_keeps (x : CrossChecks) (s : State) : s.ld.mram.keeps (s.crossChecksDone x).ld.mram := by
  unfold State.crossChecksDone
  split
  · exact Mram.keeps_of_ranks (rfl)
  · refine Mram.keeps_trans (Mram.keeps_of_ranks ?_) (State.promoteOr_keeps ..)
    rw [State.onLd_ld, Logic.modBoot_mram]
    simp -implicitDefEqProofs

@[simp] theorem State.enterMode_ranks (m : Mode) (plead : Bool) (s : State) :
    (s.enterMode m plead).ld.mram.vault.ranks = s.ld.mram.vault.ranks := by
  unfold State.enterMode
  dsimp only
  (repeat' split) <;> simp -implicitDefEqProofs

@[simp] theorem Logic.noteClaim_ranks (now : Bool) (l : Logic) : (l.noteClaim now).mram.vault.ranks = l.mram.vault.ranks := by
  simp -implicitDefEqProofs [Logic.noteClaim]

@[simp] theorem State.modeEntry_ranks (claim : Bool) (us : Nat) (intact plead : Bool) (s : State) :
    (s.modeEntry claim us intact plead).ld.mram.vault.ranks = s.ld.mram.vault.ranks := by
  unfold State.modeEntry
  dsimp only
  (repeat' split) <;> simp -implicitDefEqProofs

@[simp] theorem Logic.judgeActive_ranks (l : Logic) : l.judgeActive.mram.vault.ranks = l.mram.vault.ranks := by
  simp -implicitDefEqProofs [Logic.judgeActive]

@[simp] theorem State.reapplied_ranks (s : State) : s.reapplied.ld.mram.vault.ranks = s.ld.mram.vault.ranks := by
  unfold State.reapplied
  dsimp only
  (repeat' split) <;> simp -implicitDefEqProofs

@[simp] theorem Logic.legacyRefused_ranks (opcode : Nat) (reasons : List Nat) (addr : Nat) (l : Logic) :
    (l.legacyRefused opcode reasons addr).mram.vault.ranks = l.mram.vault.ranks := by
  simp -implicitDefEqProofs [Logic.legacyRefused]

@[simp] theorem State.legacyShort_ranks (w : Nat) (s : State) : (s.legacyShort w).ld.mram.vault.ranks = s.ld.mram.vault.ranks := by
  unfold State.legacyShort
  split <;> simp -implicitDefEqProofs

@[simp] theorem State.legacyFrame_ranks (w opcode addr : Nat) (act : State → (List Nat × Nat) × State) (s : State)
    (hact : ∀ s, (act s).2.ld.mram.vault.ranks = s.ld.mram.vault.ranks) :
    (s.legacyFrame w opcode addr act).ld.mram.vault.ranks = s.ld.mram.vault.ranks := by
  have hsent : ∀ (s : State) (l : Logic), l.mram = s.ld.mram →
      (if 32 < w then ({ s with ld := l } : State).onLd Logic.extraEdges else { s with ld := l }).ld.mram.vault.ranks =
        s.ld.mram.vault.ranks := by
    intro s l hl
    rw [← hl]
    split
    · exact State.onLd_ranks _ _ Logic.extraEdges_ranks
    · rfl
  have hjudged : ∀ (r : List Nat) (s : State),
      (if r.isEmpty then s else s.onLd (Logic.legacyRefused opcode r addr)).ld.mram.vault.ranks = s.ld.mram.vault.ranks := by
    intro r s
    split
    · rfl
    · exact State.onLd_ranks _ _ (Logic.legacyRefused_ranks opcode r addr)
  unfold State.legacyFrame
  split
  · rfl
  · split
    · simp -implicitDefEqProofs
    · dsimp only
      refine State.ite_ranks ?_ ?_
      · refine (State.onLd_ranks _ _ fun _ => rfl).trans ((hjudged ..).trans ((hact _).trans ?_))
        exact hsent s _ (rfl)
      · refine (State.onLd_ranks _ _ Logic.dropReply_ranks).trans ((hjudged ..).trans ((hact _).trans ?_))
        exact hsent s _ (rfl)

@[simp] theorem State.latchChannel_ranks (c : Nat) (s : State) : (s.latchChannel c).2.ld.mram.vault.ranks = s.ld.mram.vault.ranks := by
  simp -implicitDefEqProofs [State.latchChannel]

@[simp] theorem State.legacyFetch_ranks (a : Nat) (s : State) : (s.legacyFetch a).2.ld.mram.vault.ranks = s.ld.mram.vault.ranks := by
  unfold State.legacyFetch
  dsimp only
  (repeat' split) <;> simp -implicitDefEqProofs

@[simp] theorem State.legacyReadCmd_ranks (a : Nat) (s : State) : (s.legacyReadCmd a).2.ld.mram.vault.ranks = s.ld.mram.vault.ranks := by
  unfold State.legacyReadCmd
  split <;> simp -implicitDefEqProofs

@[simp] theorem State.compareCfg_ranks (c data : Nat) (s : State) :
    (s.compareCfg c data).2.ld.mram.vault.ranks = s.ld.mram.vault.ranks := by
  unfold State.compareCfg
  dsimp only
  split <;> simp -implicitDefEqProofs

@[simp] theorem actsAs_ranks (data : Nat) (x : List (Nat × Nat) × State) :
    (actsAs data x).2.ld.mram.vault.ranks = x.2.ld.mram.vault.ranks := by
  unfold actsAs
  split <;> rfl

@[simp] theorem State.kick_ranks (s : State) : s.kick.2.ld.mram.vault.ranks = s.ld.mram.vault.ranks := by
  unfold State.kick
  split <;> simp -implicitDefEqProofs

@[simp] theorem State.legacyStore_ranks (a data : Nat) (s : State) :
    (s.legacyStore a data).2.ld.mram.vault.ranks = s.ld.mram.vault.ranks := by
  unfold State.legacyStore
  dsimp only
  split
  · rfl
  · split
    · simp -implicitDefEqProofs
    · (repeat' split) <;> simp -implicitDefEqProofs

@[simp] theorem State.legacyWriteCmd_ranks (w a data : Nat) (s : State) :
    (s.legacyWriteCmd w a data).2.ld.mram.vault.ranks = s.ld.mram.vault.ranks := by
  unfold State.legacyWriteCmd
  dsimp only
  (repeat' split) <;> simp -implicitDefEqProofs

@[simp] theorem State.legacyRead_ranks (more a : Nat) (s : State) : (s.legacyRead more a).ld.mram.vault.ranks = s.ld.mram.vault.ranks :=
  State.legacyFrame_ranks _ _ _ _ s (State.legacyReadCmd_ranks a)

@[simp] theorem State.legacyWrite_ranks (more a data : Nat) (s : State) :
    (s.legacyWrite more a data).ld.mram.vault.ranks = s.ld.mram.vault.ranks :=
  State.legacyFrame_ranks _ _ _ _ s (State.legacyWriteCmd_ranks _ a data)

end Sys2Proof.Machine

end

section
/-! No step lets FLOOR or BOOT_EPOCH fall, or two crate slots carry one label (R311, R315): over the commands. -/

namespace Sys2Proof.Machine

open Sys2Proof

/-! What a frame of the link and a change of a page do, where what they carry keeps labels, FLOOR and BOOT_EPOCH. -/

@[simp] theorem State.received_ranks (toField : Bool) (c : FrameCheck) (resend : Bool) (act : State → State) (s : State) (numbered : Bool)
    (hact : ∀ s, (act s).ld.mram.vault.ranks = s.ld.mram.vault.ranks) :
    (s.received toField c resend act numbered).ld.mram.vault.ranks = s.ld.mram.vault.ranks := by
  unfold State.received
  split
  · rfl
  · split
    · exact State.discard_ranks ..
    · refine (hact _).trans ?_
      (repeat' split) <;> simp -implicitDefEqProofs

@[simp] theorem State.onPage_ranks (page : Nat) (h : Field → Field) (k : Logic → Logic) (s : State)
    (hk : ∀ l, (k l).mram.vault.ranks = l.mram.vault.ranks) : (s.onPage page h k).ld.mram.vault.ranks = s.ld.mram.vault.ranks := by
  unfold State.onPage
  (repeat' split) <;> simp -implicitDefEqProofs [hk]

/-! The three ways a command acts. -/

theorem keeps_of_runLogic {o : Host.Outcome State Fault Refusal} {h : Logic → Logic} {s : State} (ho : o = runLogic h s)
    (hh : s.ld.mram.keeps (h s.ld).mram) : Answers o fun t => s.ld.mram.keeps t.ld.mram := ⟨_, ho.trans (runLogic_next ..), hh⟩

theorem keeps_of_runLogic_ranks {o : Host.Outcome State Fault Refusal} {h : Logic → Logic} {s : State} (ho : o = runLogic h s)
    (hh : (h s.ld).mram.vault.ranks = s.ld.mram.vault.ranks) : Answers o fun t => s.ld.mram.keeps t.ld.mram :=
  keeps_of_runLogic ho (Mram.keeps_of_ranks hh)

theorem keeps_of_runBoth {o : Host.Outcome State Fault Refusal} {h : State → State} {s : State} (ho : o = runBoth h s)
    (hh : s.ld.mram.keeps (h s).ld.mram) : Answers o fun t => s.ld.mram.keeps t.ld.mram :=
  ⟨_, ho.trans (runBoth_next ..), Mram.keeps_trans hh (Mram.keeps_of_ranks (congrArg Mram.ranks (drain_vault _)))⟩

theorem keeps_of_runBoth_ranks {o : Host.Outcome State Fault Refusal} {h : State → State} {s : State} (ho : o = runBoth h s)
    (hh : (h s).ld.mram.vault.ranks = s.ld.mram.vault.ranks) : Answers o fun t => s.ld.mram.keeps t.ld.mram :=
  keeps_of_runBoth ho (Mram.keeps_of_ranks hh)

theorem runField_keeps (h : Field → Field) (s : State) : Answers (runField h s) fun t => s.ld.mram.keeps t.ld.mram := by
  refine ⟨_, rfl, Mram.keeps_of_ranks ?_⟩
  split
  · rw [localReset_vault, drain_vault]
  · rfl

/-- A command of the logic die alone. -/
theorem exec_logicDie_keeps {i : Instr} (h : i.onLogicDie = true) (s : State) : Answers (exec i s) fun t => s.ld.mram.keeps t.ld.mram := by
  cases i with
  | crateVerified => exact keeps_of_runLogic rfl (Logic.crateVerified_keeps ..)
  | crateSlotWritten => exact keeps_of_runLogic rfl (Logic.slotWritten_keeps _)
  | epochWriteRetry => exact keeps_of_runLogic rfl (Logic.epochRetry_keeps ..)
  | laneErrorLimit | laneSwitch | checkpoint | secRestartDone | rowMoveDone | rowCountExpiry | internalResetRelease
  | strapsLatched | oscWaitEnd | pllLocked | visoInRegulation | barrierRetrain | knownAnswerTestsDone
  | holdoffExpiry | cellarSelftestDone | entropyHealthTest | enrolWindowExpiry | closed | nonce | ephemeralPairReady
  | pairingRetry | pleadRefreshTimeout | confirmationSilence | fmeasDone | wdogFirstWindow
  | wdogWindowClose | wdogClockStop | erroutMinwExpiry | loftRecord | loftRecordWritten | loftVerifyDone | loftClearDone =>
    exact keeps_of_runLogic_ranks rfl (by simp -implicitDefEqProofs)
  | _ => exact absurd h Bool.false_ne_true

/-- A command whose effect crosses the link. -/
theorem exec_both_keeps {i : Instr} (h : (i.onFieldDie || i.onLogicDie) = false) (s : State) :
    Answers (exec i s) fun t => s.ld.mram.keeps t.ld.mram := by
  unfold exec
  cases i with
  | crateApplicationComplete => exact keeps_of_runBoth rfl (State.applicationDone_keeps s)
  | sliceCrossChecksDone => exact keeps_of_runBoth rfl (State.crossChecksDone_keeps ..)
  | modeReqCommission | modeReqRun | modeReqSafe | deviceResetLogic | deviceResetField | deviceResetBoth | breset | blockEnable
  | blockDisable | registerWrite | evtRawClear | injectFinding | classClr | sineParamWrite | sineEnable | sineDisable | idcWrite
  | tdacWrite | urgentRequest | firCommit | lifeClr | diClrCnt | diClrChat | doCommand | doUnlatch | doClearCounts | aoCommand
  | aoClearCounts | ssForceWrite | reflexLatchClear | calRun | hostClr | cellarSelftest | zeroisePurge | zeroiseGrave
  | closeStore | closeApply | discardStaging | handover | resetPartner | resync | clockRestore | fmeasGo | wdogTasksWrite
  | faultAck | faultClearGrade | faultClearCount | erroutRelease | loftVerify | loftClear | loftClearForce | larderRetire
  | larderRestore | vetoWrite | modeReqOtherTarget =>
    exact keeps_of_runBoth_ranks rfl (State.wordFrame_ranks ..)
  | pairAck | pairNotice | handoverAnnouncement | handoverRequest | handoverConfirmation | pairMirror | pairHeartbeat
  | pairTrigger | pairTime | pairCompare | pairState | pairSummary | pairCrate | hello | resetReq
  | barrierIdle | barrierCmd | barrierSnap | barrierState | barrierEvent | barrierAckonly
  | write | writeAuth | read | readAuth | statusFrame | snapRead | checkIn | cratePush | sessionRead | syncFrame | nopFrame
  | frameShort | openSession | prove | closeSession | challengeReq | enrol | transfer
  | legacyPoll | legacyRead | legacyWrite | legacyShortFrame | legacyChDataRead | legacyChCfgWrite | legacyTimeRead | legacySync
  | legacyKick | legacyModesel =>
    refine keeps_of_runBoth_ranks rfl ?_
    simp -implicitDefEqProofs
  | barrierCfg => exact keeps_of_runBoth_ranks rfl (State.received_ranks _ _ _ _ s _ fun s => State.ite_ranks s.nextPage_ranks (rfl))
  | barrierTime => exact keeps_of_runBoth_ranks rfl (State.received_ranks _ _ _ _ s _ fun s => State.ite_ranks (rfl) (rfl))
  | reservedOp | sessionKindRefused =>
    refine keeps_of_runBoth_ranks rfl ?_
    split <;> simp -implicitDefEqProofs
  | barrierFrameSlot | linkDown | coreSelftest | coreHeartbeatMissing | roleResume | secMismatch | scrubRead | powerOnReset
  | brownOutReset | nresetAssert | fieldRailBrownOut | barrierTrained | fieldDieReleased | memoryChecksDone | calibrationLoaded
  | modeEntry | fieldConfigHashReport | fieldConfigReapplied | blockResetComplete | shutdownComplete
  | syncinEdge | authVerifyDone | tamperDetectorFires | challenge | accept | enrolDone | transferDone | crateChecksComplete
  | crateValidationComplete | partnerFrameSlot | partnerLost | pleadWaitExpiry | pleadReleased
  | mirrorAckTimeout | catchArm | catchEngage | catchRevokeWindowEnd | handoverTs | handoverRampStep | handoverTr | handoverAbort
  | clockSourceFail | fieldClockRelock | clockSourceReturn | fcoreStop | faultEvent | keptEventsDelivered | restoreTestDone
  | leadRoleLostRelease =>
    refine keeps_of_runBoth_ranks rfl ?_
    simp -implicitDefEqProofs
  | _ => exact absurd h.symm Bool.false_ne_true

/-- Whatever command runs. -/
theorem exec_keeps (i : Instr) (s : State) : Answers (exec i s) fun t => s.ld.mram.keeps t.ld.mram := by
  cases hfield : i.onFieldDie with
  | true =>
    obtain ⟨g, hg⟩ := exec_onFieldDie hfield s
    rw [hg]
    exact runField_keeps g s
  | false =>
    cases hlogic : i.onLogicDie with
    | true => exact exec_logicDie_keeps hlogic s
    | false => exact exec_both_keeps (by rw [hfield, hlogic]; rfl) s

/-- Settles O45: a tick and every command keep the labels one to a slot, and let FLOOR and BOOT_EPOCH only rise. -/
theorem mramInvariant : Obligations.MramInvariant := by
  unfold Obligations.MramInvariant
  intro s t hstep
  cases hq : s.pending with
  | nil =>
    obtain rfl : s.tick = t := Host.Outcome.next.inj (by rwa [step, hq] at hstep)
    exact Mram.keeps_of_ranks s.tick_ranks
  | cons c q =>
    rw [stepRunsFront s c q hq] at hstep
    obtain ⟨u, hu, hkeeps⟩ := exec_keeps c { s with pending := q }
    obtain rfl : u = t := Host.Outcome.next.inj (hu.symm.trans hstep)
    exact hkeeps

end Sys2Proof.Machine

end
